-- ==== Sys2Proof/Word.lean ====
section
/-!
DEFINITION. The word types of the model. Register contents are `Word` (64 bits, a 32-bit register holding zero above
bit 31); bytes of DRAM, SRAM, messages and images are `Byte`; SPDM, ONFI and NVMe fields of 32 bits are `DWord`.
-/

namespace Sys2Proof

/-- A register's contents. -/
abbrev Word := BitVec 64

/-- A 32-bit field or half register. -/
abbrev DWord := BitVec 32

/-- One byte. -/
abbrev Byte := BitVec 8

end Sys2Proof
end

