-- ==== Sys2Proof/Syntax.lean ====
section
/-!
DEFINITION. The commands of the block: one constructor per row of the opcode table (R619 and the chapters it indexes),
and the types of their operands. An operand is what the outside world supplies with the command: a submission-queue
entry, a register address and its data, a die's status byte, the sensed bytes of a page, the fields of a message.
-/

namespace Sys2Proof

/-- A 64-byte submission-queue entry, as the fields this device reads (R89, R107, R110). `admin` says which queue
kind it came from; Dwords 10 to 15 are kept whole. -/
structure Sqe where
  admin : Bool
  opc : Byte
  cid : Nat
  nsid : Nat
  cdw10 : DWord
  cdw11 : DWord
  cdw12 : DWord
  cdw13 : DWord
  cdw14 : DWord
  cdw15 : DWord
deriving DecidableEq, Repr

/-- The host data structure of Namespace Management create (R126). -/
structure NsCreate where
  nsze : Nat
  flbas : Nat
  defTier : Byte
  marCap : Nat
  morCap : Nat
  reservedZero : Bool
deriving DecidableEq, Repr

/-- The asynchronous events the device raises (R100, R119, R50). -/
inductive AsyncEvent where
  | invalidDoorbellRegister
  | invalidDoorbellValue
  | hostInterfaceEvents
  | retentionStatus
  | zoneDescriptorChanged (nsid : Nat)
  | temperatureThreshold
deriving DecidableEq, Repr

/-- What a management core asks of the ZRS command port (R34): the media states of R294 and R295, the repair of an entry from the journal (R79),
an erased physical zone for a ready list (R42), a withdrawal (R296), and the
erase of a physical zone with the class and deadline of its entries (R43, R156). -/
inductive ZrsRequest where
  | readOnly (ezn : Nat)
  | offline (ezn : Nat)
  | rewrite (ezn : Nat)
  | addReady (pzn : Nat)
  | withdraw (pzn : Nat)
  | erase (pzn cls deadline : Nat)
deriving DecidableEq, Repr

/-- Where a parity error lies that CPH meets in its SRAM (R402, R417): nowhere, or in the context, in its directory entry, in the cached key. -/
inductive CphSram where
  | none
  | context
  | directory
  | keyCache
deriving DecidableEq, Repr

/-- An access that reaches a DRAM channel's queues (R351, R355, R356): its master, data address, a write's 64 bytes, and whether it comes on the
LRS path of R19. -/
structure DramAccess where
  master : Nat
  addr : Nat
  data : Option (List Byte)
  lrs : Bool
deriving DecidableEq, Repr

/-- What a die's refresh-rate field reports (R359): its code, the rate in quarters of 1x, and whether the die exceeds its operating
temperature. -/
structure DieRate where
  code : Nat
  quarters : Nat
  beyond : Bool
deriving DecidableEq, Repr

/-- A word line that can serve as a sentinel (R301): the die, the sentinel's place among the four, the bit-page, and PROG_OPH of its header. -/
structure SentinelMark where
  die : Nat
  index : Nat
  plane : Nat
  block : Nat
  wl : Nat
  bp : Nat
  progOph : Nat
deriving DecidableEq, Repr

/-- What the debug port asks (R441): a CSR read or write, a read of a staging record, a halt, a step or a resume of a core named by its master ID, and 8
bytes of on-chip SRAM or DRAM. -/
inductive DebugOp where
  | csrRead (addr size : Nat)
  | csrWrite (addr size : Nat) (data : Word)
  | stagingRead (index : Nat)
  | halt (core : Nat)
  | step (core : Nat)
  | resume (core : Nat)
  | memRead (dram : Bool) (addr : Nat)
  | memWrite (dram : Bool) (addr : Nat) (data : Word)
deriving DecidableEq, Repr

/-- The optional parts of PCI Express that R85 names. -/
inductive PciPart where
  | flitMode | l0p | aspmL0s | aspmL1 | ltr | tags10 | tags14 | relaxedOrdering | noSnoop | aer | completionTimeoutDisable | ecrc | flr | ari | sriov
  | msix | msi | intx | doe | ats | pri | pasid | tph | ptm | ide | tdisp | atomicOps | resizableBar
deriving DecidableEq, Repr

/-- What a read of a function's configuration space names (R3, R85 to R87); payload, read request and time-outs in bytes and µs. -/
inductive ConfigItem where
  | deviceId | classCode | revisionId
  | maxPayloadSupported | maxReadRequestSupported | maxPayload | maxReadRequest | outstanding | timeoutUs
  | totalVfs | initialVfs | firstVfOffset | vfStride | vfEnable | numVfs
  | supports (part : PciPart)
deriving DecidableEq, Repr

/-- An access to configuration space: a write of VF Enable or NumVFs, with whether the upstream port has ARI enabled (R87); a write of a function's Device
Control with the payload and the read request in bytes and the completion timeout in µs that the range programmed gives, none for the default range (R85);
a read. -/
inductive ConfigAccess where
  | vf (enable : Bool) (numVfs : Nat) (ari : Bool)
  | control (func payload readRequest : Nat) (timeoutUs : Option Nat)
  | read (func : Nat) (item : ConfigItem)
deriving DecidableEq, Repr

/-- The completion statuses the spec names: those NVMe and ZNS define, then the vendor statuses of R112. -/
inductive Status where
  | success
  | invalidOpcode | invalidField | invalidNamespace | lbaOutOfRange | invalidQueueId | invalidQueueSize | invalidQueueDeletion
  | invalidInterruptVector | completionQueueInvalid | invalidLogPage | abortLimitExceeded | aerLimitExceeded
  | featureNotSaveable | commandSequenceError | namespaceAlreadyAttached | namespaceNotAttached
  | namespaceInsufficientCapacity | namespaceIdUnavailable | controllerListInvalid | sanitizeInProgress | sanitizeFailed
  | internalError | dataTransferError | abortedSqDeletion | abortRequested | selfTestInProgress
  | invalidFirmwareSlot | invalidFirmwareImage | firmwareNeedsReset | overlappingRange | firmwareProhibited
  | invalidControllerId | invalidSecondaryState | invalidResourceId
  | writeFault | zoneBoundaryError | zoneIsFull | zoneIsReadOnly | zoneIsOffline | zoneInvalidWrite | tooManyActiveZones
  | tooManyOpenZones | invalidZoneStateTransition | unrecoveredReadError
  | keyRevoked | deadlineMissed | tierUnsupported | zoneEpochExhausted | functionStopped | retentionUnknown
  | poweredOffAccess | cascadeMemberLost | zeroLength | accessDenied | zoneHeld
deriving DecidableEq, Repr

/-- What an ADMIN message carries (R560, R561, R562): a host command with the namespace and range it concerns and, for Set Features Timestamp, the
milliseconds; a PMU request by its code; a security command with the kind of function it came from, the namespace an import names and the payload; the
epoch floor of a namespace that a remote restore raises (R147); or the erasure of a namespace's key, which a SAVE with KEY_EXPORT asks for (R144). -/
inductive AdminMsg where
  | command (q : Sqe) (nsid base count tier marCap morCap stampMs : Nat)
  | power (code : Nat)
  | security (pf : Bool) (nsid : Nat) (q : Sqe) (data : List Byte)
  | floor (nsid base count floor : Nat)
  | eraseKey (nsid : Nat)
deriving DecidableEq, Repr

/-- What a MIRROR carries (R560): a namespace, whose `attached` is 0 where it is attached to no function, else the function's number plus one; a namespace
that is gone; or a deadline of the class table. -/
inductive MirrorRec where
  | namespaceIs (nsid base count tier marCap morCap attached : Nat)
  | namespaceGone (nsid : Nat)
  | deadline (cls value : Nat)
deriving DecidableEq, Repr

/-- The commands of the block, in the order of the opcode table. -/
inductive Instr where
  /-- R16: The count of ALF cycles reaches 1/256 hour, so OPHOURS advances and SUB restarts at zero. -/
  | ophoursStep
  /-- R27: Every 6,400,000 FIRC cycles SYS_EPOCH.COUNT increments and the management cores are interrupted while PD_MGMT is on. -/
  | epochTick (sensors : List Int) (marks : List SentinelMark) (histBad : Option Nat)
  /-- R15: An access that carries a reserved master ID is refused with an error response and recorded. -/
  | reservedMasterAccess (master addr : Nat) (write : Bool)
  /-- R497: An internal access to an off, reset or isolated domain completes with PWR_OFF data 0x0BAD_0FF0 and is recorded. -/
  | pwrOffAccess (master addr : Nat) (write : Bool)
  /-- R8: A write to a register that has no row of its own updates its fields according to their access codes. -/
  | csrWrite (master addr size : Nat) (data : Word)
  /-- R100: A host SQ tail doorbell write is ignored, latched, shadowed or taken, and a new tail starts fetch. -/
  | sqTailDoorbell (func qid : Nat) (value : Nat)
  /-- R100: A host CQ head doorbell write is checked and taken, or ignored and reported. -/
  | cqHeadDoorbell (func qid : Nat) (value : Nat)
  /-- R102: While PD_DATA is off, a BAR access is served from the mirror, or held in it, or refused and counted. -/
  | offBarAccess (func offset size : Nat) (write : Bool) (data : Word)
  /-- R99: The queue engine fetches submission entries round-robin across functions and queues into command slots. -/
  | commandFetch (sqes : List Sqe)
  /-- R80: ZRS resolves a command to its zone, runs the tenant, state and room checks, reserves slots, stitches them and admits the entry to a die queue. -/
  | zoneResolve (slot : Nat) (camParity loadBad : Bool)
  /-- R42: A binding that waited on empty ready lists proceeds once a ready list holds an eligible entry. -/
  | bindingRetry (slot : Nat)
  /-- R58: A reservation that waited for a journalled horizon proceeds once the journal holds a new horizon. -/
  | horizonWaitResume (slot : Nat)
  /-- R154: A command that waited for a free die-queue entry is enqueued when one frees. -/
  | dieQueueWaitResume (slot : Nat)
  /-- R374: A Read or Verify reserves its RD_BLOCK buffers before ZRS, or waits for them in deadline order. -/
  | readReservation (slot : Nat)
  /-- R24: The Read command reads zone data through resolve, sense, decode and open, or returns zeros. -/
  | read (slot : Nat)
  /-- R49: The Write command writes at the write pointer of a zone. -/
  | write (slot : Nat)
  /-- R57: The Flush command completes at once. -/
  | flush (slot : Nat)
  /-- R106: The Verify command reads and checks blocks under its function's default class without transferring data. -/
  | verify (slot : Nat)
  /-- R22: The Zone Append command is staged, sealed, programmed and completed once durable and journalled. -/
  | zoneAppend (slot : Nat)
  /-- R107: The Placed Zone Append command appends with ALIGN, PAD_AFTER and binding hints. -/
  | placedZoneAppend (slot : Nat)
  /-- R75: The Zone Open Tiered command binds an Empty zone at a given tier and stitch group, or acts as Open. -/
  | zoneOpenTiered (slot : Nat)
  /-- R51: The Zone Management Send Open action explicitly opens a zone, or with Select All every Closed zone or none. -/
  | zoneOpen (slot : Nat)
  /-- R53: The Close action closes an open zone and releases its CAM entry, with the cipher context released once its writes are sealed. -/
  | zoneClose (slot : Nat)
  /-- R67: The Finish action pads and closes a zone and makes it Full. -/
  | zoneFinish (slot : Nat)
  /-- R69: The Reset action resets a zone, or with Select All every Full and active zone of the namespace. -/
  | zoneReset (slot : Nat)
  /-- R71: The Offline action takes a Read Only zone Offline and keeps its binding and epoch. -/
  | zoneOffline (slot : Nat)
  /-- R98: The Zone Management Receive Report Zones action returns zone descriptors. -/
  | reportZones (slot : Nat)
  /-- R54: A Reset or Finish that waited on admitted writes takes effect, and ZRS resolves the held commands against the new state. -/
  | zoneOpTakesEffect (ezn : Nat)
  /-- R53: A closed or Full zone's cipher context returns to the share once its admitted writes are sealed. -/
  | contextRelease (ezn : Nat)
  /-- R59: The padding deadline of the oldest incomplete write passes, and ZRS pads the zone. -/
  | padDeadlineExpiry (ezn : Nat)
  /-- R59: Once a PAD_AFTER append has been staged, the zone is padded. -/
  | padAfterPadding (ezn : Nat)
  /-- R132: The Create I/O Submission Queue command creates a queue within the function's share. -/
  | createIoSq (slot base : Nat)
  /-- R132: The Create I/O Completion Queue command creates a queue within the function's share. -/
  | createIoCq (slot base : Nat)
  /-- R629: The Delete I/O SQ command stops fetch, aborts unadmitted commands and completes after the last admitted completion. -/
  | deleteIoSq (slot : Nat)
  /-- R629: The Delete I/O CQ command deletes the queue, or fails while an SQ still uses it. -/
  | deleteIoCq (slot : Nat)
  /-- R114: The Get Log Page command returns a standard or vendor log page and may empty the events page. -/
  | getLogPage (slot : Nat)
  /-- R89: The Identify command returns controller, namespace or secondary-controller data. -/
  | identify (slot : Nat)
  /-- R630: The Abort command aborts a fetched command that has not yet been admitted. -/
  | abort (slot : Nat)
  /-- R94: The Set Features command sets a standard feature, such as Arbitration, Temperature Threshold or Interrupt Coalescing. -/
  | setFeatures (slot : Nat) (buffer : List Word)
  /-- R94: The Get Features command returns the current value of a feature. -/
  | getFeatures (slot : Nat)
  /-- R95: The Set Features Power Management command selects PS0 to PS4 and completes when the PMU accepts the request. -/
  | setPowerManagement (slot : Nat)
  /-- R132: The Set Features Number of Queues command grants queues up to the function's share. -/
  | setNumberOfQueues (slot : Nat)
  /-- R96: The Set Features Timestamp command sets the millisecond count, which can lead to a new off-time decision. -/
  | setTimestamp (slot : Nat) (ms : Nat)
  /-- R105: The Set Features FID 0xC0 command changes a class deadline, or is staged during a stop. -/
  | setDeadlineClassTable (slot : Nat)
  /-- R106: The Set Features FID 0xC1 command sets the function's class for Write and Verify. -/
  | setDefaultDeadlineClass (slot : Nat)
  /-- R484: An Autonomous Power State Transition issues a state request. -/
  | autonomousPsTransition
  /-- R119: The Asynchronous Event Request command is held until an event is reported. -/
  | asyncEventRequest (slot : Nat)
  /-- R119: A vendor notice or Zone Descriptor Changed completes an outstanding Asynchronous Event Request. -/
  | asyncEventRaise (func : Nat) (event : AsyncEvent)
  /-- R127: Namespace Management create takes the lowest free NSID and an EZN range. -/
  | namespaceCreate (slot : Nat) (data : NsCreate)
  /-- R128: Namespace Management delete resets or releases its zones, erases the key slot and frees the range. -/
  | namespaceDelete (slot : Nat)
  /-- R129: Namespace Attachment attaches or detaches at once, is staged, or fails. -/
  | namespaceAttachment (slot : Nat) (controllers : List Nat)
  /-- R134: The Virtualization Management Secondary Offline action stops one VF and its admin queue. -/
  | secondaryOffline (slot : Nat)
  /-- R136: The Virtualization Management Secondary Online action starts a stopped VF. -/
  | secondaryOnline (slot : Nat)
  /-- R430: The Firmware Image Download command transfers part of a firmware package. -/
  | firmwareImageDownload (slot : Nat) (data : List Byte)
  /-- R430: The Firmware Commit command verifies and writes a slot, sets the boot pointer, or fails. -/
  | firmwareCommit (slot : Nat)
  /-- R92: The Sanitize command with Crypto Erase or Block Erase completes at acceptance and runs the sanitize operation. -/
  | sanitize (slot : Nat)
  /-- R92: The Sanitize Exit Failure Mode action leaves the sanitize failure mode. -/
  | sanitizeExitFailureMode (slot : Nat)
  /-- R92: The sanitize operation ends once the journal holds the new zone states and, for Block Erase, the last erase has completed. -/
  | sanitizeComplete (readBackFails : Bool)
  /-- R90: The short Device Self-test command runs on the PF. -/
  | deviceSelfTest (slot : Nat)
  /-- R120: The NVMe-MI Send admin command carries an NVMe-MI request. -/
  | nvmeMiSend (slot : Nat)
  /-- R120: The NVMe-MI Receive admin command returns NVMe-MI data. -/
  | nvmeMiReceive (slot : Nat)
  /-- R435: Security Send protocol 0xEA, SP Specific 0x0001, unwraps a tenant key into its slot through ECDH and the IMPORT slot. -/
  | securitySendKeyImport (slot : Nat) (data : List Byte)
  /-- R436: Security Send SP Specific 0x0002 sets and stores the migration key. -/
  | securitySendMigrationKey (slot : Nat) (data : List Byte)
  /-- R439: Security Send SP Specific 0x0003 verifies a signed transition and blows a lifecycle fuse. -/
  | lifecycleCommand (slot : Nat) (data : List Byte) (readBackFails : Bool)
  /-- R587: Security Send SP Specific 0x0005 validates and writes a profile image to its region. -/
  | securitySendProfileWrite (slot : Nat) (data : List Byte)
  /-- R433: Security Receive SP Specific 0x0001 returns the IMPORT_KP public key and its certificate. -/
  | securityReceiveImportKey (slot : Nat)
  /-- R439: Security Receive SP Specific 0x0003 returns a fresh 32-byte lifecycle nonce. -/
  | securityReceiveNonce (slot : Nat)
  /-- R561: Security Receive SP Specific 0x0004 returns the addressed device's slot 0 certificate chain. -/
  | securityReceiveCertChain (slot : Nat)
  /-- R439: The lifecycle nonce expires 60 s after it was issued. -/
  | lifecycleNonceExpiry
  /-- R500: CC.EN written from 0 to 1 enables the controller and sets CSTS.RDY. -/
  | ccEnable (func : Nat) (cc aqa : DWord) (asq acq : Nat)
  /-- R139: CC.EN written from 1 to 0 clears the function's controller state and handles its admitted commands. -/
  | controllerReset (func : Nat)
  /-- R628: CC.SHN written stops fetch, pads the function's zones at once and sets SHST once its commands complete. -/
  | shutdownNotification (func shn : Nat)
  /-- R139: A Function Level Reset of a VF or of the PF clears that function's state, and an FLR of the PF clears VF Enable. -/
  | flr (func : Nat)
  /-- R87: A write to VF Enable or NumVFs is staged until START. -/
  | sriovConfigWrite (access : ConfigAccess)
  /-- R134: Setting VFM_RECONF.STOP_ALL stops every VF and the PF I/O queues. -/
  | stopAll (start : Bool)
  /-- R136: Setting VFM_RECONF.START applies every staged change in one cycle, or refuses them all with ERR. -/
  | start
  /-- R135: The last admitted command of the stopped queues completes, and QUIET reads 1. -/
  | quietReached
  /-- R142: The migration operation FREEZE stops a VF and completes when it is quiet. -/
  | freeze (vf bufPages : Nat) (keyExport : Bool)
  /-- R144: The migration operation SAVE writes the VF image, optionally with the wrapped key, and erases the slot. -/
  | save (vf bufPages : Nat) (keyExport : Bool)
  /-- R145: The migration operation RESTORE checks an image and commits it locally or remotely to the target VF. -/
  | restore (vf bufPages : Nat) (keyExport : Bool) (image : List Byte)
  /-- R142: The migration operation UNFREEZE ends a VF's freeze. -/
  | unfreeze (vf bufPages : Nat) (keyExport : Bool)
  /-- R157: When a die is free and tokens suffice, SCH issues the chosen ready entry: a sense, program or erase. -/
  | dieEntryIssue (die : Nat) (trimParity : Bool) (dramBad : List Nat)
  /-- R184: At each 8 KiB boundary the channel goes to suspend and resume commands, polls, or the earliest deadline. -/
  | channelBurstBoundary (channel : Nat)
  /-- R183: A READ STATUS ENHANCED poll, due at 95 % of the typical time and then every 2 µs, finds a die busy, ready, failed or suspended. -/
  | statusPoll (die : Nat) (status : Byte) (failPlane : Nat)
  /-- R206: An operation passes 110 % of its maximum, so RESET LUN is sent and a TIMEOUT failure is reported. -/
  | operationTimeout (die failPlane : Nat)
  /-- R164: A ready read on a die that is programming or erasing causes SCH to suspend the operation, after MINRUN where needed. -/
  | suspendDecision (die : Nat)
  /-- R165: A suspension reaches WINDOW, and the operation resumes. -/
  | suspendWindowExpiry (die : Nat)
  /-- R208: With no suspending read left, the channel sequencer sends RESUME_PROG or RESUME_ERASE and restarts MINRUN. -/
  | resume (die : Nat)
  /-- R172: At a read's deadline SCH cancels its entries and it completes with DEADLINE_MISSED. -/
  | readDeadlineExpiry (slot : Nat)
  /-- R223: As a wedge's bytes arrive, RCH searches for the sync mark and classifies the wedge as FOUND, SHIFTED, EARLY or MISSED. -/
  | wedgeSyncSearch (die : Nat) (bytes : List Byte)
  /-- R257: A codeword whose input is complete enters a free hard or soft engine in deadline order. -/
  | engineAllocation (soft : Bool)
  /-- R255: A hard bit-flipping decode passes or fails, and the ladder moves on. -/
  | hardDecodeDone (engine : Nat) (parityError : Bool)
  /-- R256: A min-sum soft decode passes or fails at its step. -/
  | softDecodeDone (engine : Nat) (parityError : Bool)
  /-- R232: Once both probe senses are in, the trim is dodged, burned or kept. -/
  | trackingProbeEval (die : Nat)
  /-- R321: CPH checks SEAL, SEQ and TAG of a decoded or staged block and opens it into the read pool. -/
  | blockOpen (slot block parityFails : Nat) (pipeFault : Option Nat) (keyBad : Bool)
  /-- R326: The queue engine writes a released block to host memory, checking OCRC and re-sending on failure. -/
  | hostDataEgress (slot block fails : Nat)
  /-- R325: A PCIe completion of host write data lands in the ingest buffer, or is poisoned, refused or timed out. -/
  | hostDataFetchCompletion (slot block : Nat) (bytes : List Byte) (bad : Bool)
  /-- R398: CPH seals the arriving chunks of a block under its context and writes the ciphertext and staging metadata. -/
  | blockSeal (slot block upto : Nat) (pipeFault : Option Nat) (parity : CphSram)
  /-- R399: A parked write context is unwrapped from DRAM and checked, parking an LRU context if needed. -/
  | contextRestore (ctx : Nat) (dramBad : List Nat) (dirParity : Bool)
  /-- R405: A key-cache miss is served by TKR over the key bus in deadline order, or answered EMPTY. -/
  | keyRequest (slotParity : Bool)
  /-- R407: A management descriptor with OP SEAL seals a DRAM buffer under a system slot. -/
  | mgmtSeal (deadline : Nat)
  /-- R407: A management descriptor with OP OPEN opens and verifies a DRAM buffer. -/
  | mgmtOpen (deadline : Nat)
  /-- R407: A management descriptor with OP GMAC computes a tag over additional data only. -/
  | mgmtGmac (deadline : Nat)
  /-- R409: The TKR WRITE command writes TKR_DATA into a system slot. -/
  | tkrWrite (master slot : Nat) (parity : Bool)
  /-- R409: The TKR UNWRAP command key-unwraps TKR_DATA under IMPORT or MIGRATION into a slot. -/
  | tkrUnwrap (master slot wrapSlot : Nat) (parity : Bool)
  /-- R409: The TKR WRAP command wraps a tenant slot under MIGRATION into TKR_OUT. -/
  | tkrWrap (master slot wrapSlot : Nat) (parity : Bool)
  /-- R412: The TKR ERASE command zeroises COUNT slots and revokes operations on them. -/
  | tkrErase (master slot count : Nat) (readBackFails : Bool)
  /-- R409: The TKR GENERATE command fills a system slot from the random bit generator. -/
  | tkrGenerate (master slot : Nat) (parity : Bool)
  /-- R411: 64 µs after a rewrite the retired copy is zeroised, and blocks still on it restart. -/
  | retiredCopyExpiry (readBackFails : Bool)
  /-- R446: An alarm source fires and its action is applied: record, notify, or erase in TENANT or ALL scope. -/
  | alarmDetect (source : Nat) (present : Bool)
  /-- R448: The security core writes ALARM_LOCK, which clears unless an erase source is active or ALL_SEEN is set. -/
  | alarmLockClear (master : Nat)
  /-- R447: The security core writes alarm actions, raised to their floors, or sets LOCK. -/
  | secAlarmActWrite (master : Nat) (value : DWord)
  /-- R425: The security core boots ROM, verifies images from the active slot or the fallback slot, and releases MC0–MC7. -/
  | securityBoot
  /-- R429: Management firmware reports boot complete, BOOT_OK sets, and ARB and REVOKE fuses are blown. -/
  | bootCompleteReport (journalBad readBackOk : Bool)
  /-- R122: The SPDM GET_VERSION request is answered. -/
  | getVersion (transport : Nat)
  /-- R122: The SPDM GET_CAPABILITIES request is answered. -/
  | getCapabilities (transport transfer : Nat)
  /-- R122: The SPDM NEGOTIATE_ALGORITHMS request selects the curves and hashes. -/
  | negotiateAlgorithms (transport curves hashes groups : Nat) (aead : Bool)
  /-- R122: The SPDM GET_DIGESTS request returns certificate chain digests. -/
  | getDigests (transport : Nat)
  /-- R431: The SPDM GET_CERTIFICATE request returns a slot's certificate chain. -/
  | getCertificate (transport slot offset length : Nat)
  /-- R431: The SPDM CHALLENGE request is answered, signed with the alias key. -/
  | challenge (transport slot : Nat) (nonce : List Byte)
  /-- R432: The SPDM GET_MEASUREMENTS request returns measurement indices 1 to 7. -/
  | getMeasurements (transport index : Nat) (sign : Bool) (nonce : List Byte)
  /-- R122: The SPDM KEY_EXCHANGE request starts a secured session. -/
  | keyExchange (transport slot : Nat) (pub : List Byte)
  /-- R122: The SPDM FINISH request completes session establishment. -/
  | finish (transport session : Nat) (record : List Byte)
  /-- R122: The SPDM END_SESSION request ends a secured session. -/
  | endSession (transport session : Nat) (record : List Byte)
  /-- R121: An MCTP packet arrives at the front end, is held with a wake while PD_MGMT is off, or is refused. -/
  | mctpPacket (bytes : List Byte) (admin : Option Sqe)
  /-- R120: The NVMe-MI Read NVMe-MI Data Structure command returns a data structure. -/
  | readNvmeMiDataStructure (dtype port ctrl : Nat)
  /-- R120: The NVMe-MI NVM Subsystem Health Status Poll command returns subsystem health. -/
  | nvmSubsystemHealthStatusPoll
  /-- R120: The NVMe-MI Controller Health Status Poll command returns controller health. -/
  | controllerHealthStatusPoll (first count : Nat)
  /-- R120: The NVMe-MI Configuration Get command returns a configuration. -/
  | configurationGet (id port : Nat)
  /-- R120: The NVMe-MI Configuration Set command sets a configuration. -/
  | configurationSet (id port value : Nat)
  /-- R120: The NVMe-MI VPD Read command returns vital product data. -/
  | vpdRead (offset length : Nat)
  /-- R442: A debug REQ grants a lower level at once or issues a challenge in DBG_CHAL. -/
  | dbgUnlockReq (level : Nat)
  /-- R442: A write of DBG_RESP[31] starts verification, which ends GRANTED or DENIED. -/
  | dbgRespVerify (last : DWord) (alarm : Option Nat)
  /-- R442: A challenge expires 60 s after CHAL_READY. -/
  | dbgChallengeExpiry
  /-- R442: RELOCK sets LEVEL to CLOSED and resumes halted cores. -/
  | relock
  /-- R441: A debug port read, write, halt, step or resume is served as the level permits. -/
  | debugPortAccess (op : DebugOp)
  /-- R460: SECCORE binds a mailbox channel, or the write is refused. -/
  | mbxBindWrite (master n : Nat) (value : DWord)
  /-- R474: Setting BIND_LOCK makes the binding table read-only until SHELF. -/
  | bindLock (master : Nat)
  /-- R463: A party's read of MBX_CLAIM is GRANTED, BUSY, FULL or DENIED, with same-cycle claims going to the lower ID. -/
  | mbxClaim (n : Nat) (masters : List Nat)
  /-- R466: The holder writes a message word while the channel is CLAIMED. -/
  | mbxWordWrite (master n word : Nat) (value : DWord)
  /-- R466: GO with LEN posts the message, marks the channel FULL and notifies or wakes the receiver. -/
  | go (master n len : Nat)
  /-- R462: The holder drops its claim, and the channel returns to IDLE. -/
  | release (master n : Nat)
  /-- R462: The sender withdraws a FULL message without a DONE bit. -/
  | recall (master n : Nat)
  /-- R467: The receiver empties a FULL message unread, and the sender's DONE bit is set. -/
  | discard (master n : Nat)
  /-- R467: The receiver's read of word LEN − 1 clears FULL and sets the sender's DONE bit. -/
  | mbxLastWordRead (master n word : Nat)
  /-- R471: A party's reset drops a claim or marks the message ORPHAN or RX_RESET. -/
  | mbxPartyReset (masters : List Nat)
  /-- R486: PMU_REQ ACTIVE requests the ACTIVE state. -/
  | pmuReqActive (master : Nat)
  /-- R486: PMU_REQ IDLE requests the IDLE state. -/
  | pmuReqIdle (master : Nat)
  /-- R486: PMU_REQ STANDBY requests the STANDBY state. -/
  | pmuReqStandby (master : Nat)
  /-- R486: PMU_REQ SAFELIGHT requests the SAFELIGHT state. -/
  | pmuReqSafelight (master : Nat)
  /-- R485: PMU_REQ WAKE requests a return to the last operational state. -/
  | pmuReqWake (master : Nat)
  /-- R488: Management firmware reports that an F step is done, and the entry continues. -/
  | stepDone (master : Nat)
  /-- R485: A doorbell, CC, MCTP, mailbox or peer wake sets PMU_WAKE and requests an exit. -/
  | wakeEvent (source : Nat)
  /-- R482: The device changes between ACTIVE and IDLE within 1 ms. -/
  | activeIdleChange
  /-- R482: In IDLE, a bay whose queues stayed empty for BAY_IDLE ms is powered down. -/
  | bayIdleExpiry (bay : Nat)
  /-- R488: Fetch stops, and reads drain, bays drain, state is saved and DRAM self-refreshes, before domains go off. -/
  | standbyEntry
  /-- R488: The admitted reads complete and appends are staged, so the entry passes step 2. -/
  | admittedWorkDrained
  /-- R490: The STANDBY steps run with zone padding and closing, slot zeroisation, segment masks and PD_SEC off. -/
  | safelightEntry
  /-- R492: Domains power on, DRAM leaves self-refresh, state is written back, PLLs switch and fetch resumes. -/
  | standbyExit (storeParity : Bool) (shadowBad : List Nat)
  /-- R494: The STANDBY exit runs with PD_SEC on, image re-verification and system slot fill. -/
  | safelightExit (storeParity : Bool) (shadowBad : List Nat)
  /-- R493: Firmware sets a PLL's EN bit, which starts it. -/
  | pllEnable (master pll : Nat)
  /-- R493: Firmware sets SEL, which switches a locked clock glitch-free to its PLL. -/
  | clockSelect (master pll : Nat) (sel : Bool)
  /-- R493: A PLL loses lock, so its clock falls back to FIRC and the CLOCK alarm is raised. -/
  | pllLockLoss (pll : Nat)
  /-- R499: The rise of VDD_AON resets PD_AON, increments PWRCYC, appends a history entry, latches straps and boots. -/
  | coldReset (profileSel role devId : Nat)
  /-- R499: SHELF_RST_N held low drops the link, drains bays, self-refreshes DRAM and resets every domain but PD_AON. -/
  | shelfRstAssert (fails : List (Nat × Nat × Bool))
  /-- R499: SHELF_RST_N rising latches the straps and continues as COLD from domain power-up. -/
  | shelfRstRelease (profileSel role devId : Nat)
  /-- R499: PERST# asserted runs a WARM reset: drains bays, self-refreshes DRAM, resets domains and erases slots. -/
  | perstAssert (fails : List (Nat × Nat × Bool))
  /-- R500: PERST# rising boots the security core, the DMC exits self-refresh and configuration space returns. -/
  | perstRelease (storeParity : Bool)
  /-- R483: VDD_AON is removed, the device goes OFF and incomplete writes are lost. -/
  | powerLoss
  /-- R517: RST_CTRL.CLUSTER requests a CLUSTER reset through LRS steps 1 to 3 and 5. -/
  | cluster (master : Nat)
  /-- R501: A management core writes its heartbeat register. -/
  | rstHbWrite (master c : Nat)
  /-- R501: A core misses its heartbeat within HB_TIMEOUT, which is a cluster failure. -/
  | heartbeatTimeout (c : Nat)
  /-- R501: A core's trap handler traps, which is a cluster failure. -/
  | doubleFault (c : Nat)
  /-- R501: Released cores fail to write RST_HB within BOOT_TIMEOUT, which is a cluster failure. -/
  | bootTimeout
  /-- R503: After 3,600 s without a cluster failure, RESTARTS returns to 0. -/
  | restartsClear
  /-- R505: Once per second the LRS self-checks and drives SHELF_HB with a 500 ms or 125 ms high time. -/
  | shelfHbToggle (checksPass : Bool)
  /-- R192: SCH or firmware requests a bay, and the PMU asserts BAY_PWR_EN with 5 ms spacing. -/
  | bayPowerUpRequest (bay : Nat) (firmware : Bool)
  /-- R192: BAY_PG rises, and PD_FLASH comes on and out of reset with its restored configuration and descriptors. -/
  | bayPgAssert (bay : Nat)
  /-- R192: TPOR elapses, the clamps are released, targets are reset, then identified and trained. -/
  | bayTporExpiry (bay : Nat) (ids : List (List Byte)) (resets badPages trainFails : List Nat)
  /-- R194: BAY_PG is not asserted within 50 ms, so the bay fails and its waiting commands complete POWERED_OFF_ACCESS. -/
  | bayPgTimeout (bay : Nat)
  /-- R196: A bay loses power good while on, so the bay is clamped and re-powered and its operations are failed as BAY_LOSS. -/
  | bayPgFall (bay : Nat)
  /-- R195: An unused bay drains, is clamped, goes off and has BAY_PWR_EN deasserted. -/
  | bayPowerDown (bay : Nat)
  /-- R215: A write of FCH_DESC word 63 validates a descriptor by R188, or the write is refused as busy. -/
  | descValidate (master channel k : Nat) (crc : DWord)
  /-- R210: FCH_CTRL.TRAIN retrains the channel once no die has an operation in progress. -/
  | train (master channel : Nat) (fails : Bool)
  /-- R210: Clearing FCH_CTRL.ENABLE drains the channel and takes it out of service. -/
  | channelDisable (master channel : Nat)
  /-- R243: A write to RCH_TRIM_DATA replaces all six trims of the selected set. -/
  | trimDataWrite (master : Nat) (data : Word)
  /-- R278: A core's request to the MHM update queue is applied in order, or refused when the queue is full. -/
  | brtUpdateRequest (master index : Nat) (record : List Byte)
  /-- R279: Setting MHM_WALK.RUN starts a paced walk of the table for one predicate from CURSOR. -/
  | walkStart
  /-- R279: A paced walk reads the next records and posts matches to the candidate FIFO, pausing when it is full. -/
  | walkRecord (bad : Nat)
  /-- R309: Setting MHM_WALK.STOP ends the walk at the next record. -/
  | walkStop
  /-- R310: A read of MHM_WALK_OUT removes the oldest candidate and resumes a paused walk. -/
  | walkOutRead (master : Nat)
  /-- R283: A queued zone's sample bit-pages are read through the ladder, and the Scan Table bin is written. -/
  | retentionScan (deadline : Nat)
  /-- R285: A refresh candidate is relocated to a target, copying its durable slots. -/
  | relocationStart (target deadline : Nat)
  /-- R285: The target is durable, so the Zone Map switches to it and the source goes DIRTY. -/
  | relocationSwitch (pzn : Nat)
  /-- R290: The spare reaches the failed word line, and the zone's programs resume. -/
  | spareCopyComplete (pzn member plane : Nat)
  /-- R302: After COLD, sentinels are swept to estimate the unpowered interval. -/
  | sentinelSurvey
  /-- R305: Strip and host estimates decide OFF, OFFSUM and SOURCE, and fill the Retention Status page. -/
  | offtimeDecision
  /-- R304: TS_WAIT seconds pass after the survey with no Timestamp, so the host estimate is absent. -/
  | tsWaitExpiry
  /-- R331: A write narrower than a line is merged into a merge-buffer entry after a fill read. -/
  | narrowDramWrite (master addr : Nat) (data : List Byte)
  /-- R331: A merge entry is written back as a whole line after MERGE_HOLD, an eviction or a flush. -/
  | mergeEntryWriteback
  /-- R334: Setting MEP_FLIP.ARM arms fault injection at the first qualifying event of FUNC. -/
  | flipArm (master func target mask : Nat)
  /-- R334: Setting MEP_FLIP.DISARM disarms the injection without firing. -/
  | flipDisarm (master : Nat)
  /-- R336: Setting MEP_SCRUB_CTRL.START starts a Burnisher scrub, or ends it ZERO_LENGTH or RANGE. -/
  | scrubStart (master : Nat)
  /-- R335: At its paced rate, the scrub reads a line and checks its parity. -/
  | scrubLineCheck (found : List Nat)
  /-- R337: Setting STOP aborts the scrub after the line in progress. -/
  | scrubStop (master : Nat)
  /-- R356: The channel picks a read or write per the bypass, open-row and age rules and issues it. -/
  | dramCommandIssue (channel : Nat) (accesses : List DramAccess)
  /-- R359: A per-bank refresh falls due and is issued, or is postponed up to 8 times. -/
  | refreshDue (channel bank : Nat) (postpone : Bool)
  /-- R359: Every POLL ms the refresh-rate fields are read and MULT is set, raising TEMP_HIGH at excess. -/
  | dramTempPoll (dies : List DieRate)
  /-- R365: The DQ oscillator is read and the channel is retrained on excessive drift. -/
  | dqTrackingInterval (channel drift : Nat) (retrainFails : Bool)
  /-- R362: The DMC restores training, exits self-refresh and reports READY. -/
  | selfRefreshExit (storeParity : Bool)
  /-- R363: The full training runs after COLD or SHELF and is retried twice on failure. -/
  | dramTraining (mismatched failed : List Nat)
  /-- R354: Every physical line is written with zeros and valid parity before READY. -/
  | dramFill
  /-- R377: A buffer is popped from a class's free list after the link checks, or the request waits or spills. -/
  | bufferAlloc (requester group size deadline upset : Nat) (linkParity bitmapParity : Bool)
  /-- R378: A buffer is pushed on its free list, or refused as BAD_INDEX or DOUBLE_FREE. -/
  | bufferFree (requester cls index : Nat)
  /-- R379: The rebuild ends, and queued frees and waiting allocations proceed. -/
  | freeListRebuildDone (cls : Nat)
  /-- R387: A core's write of SIZE starts a DRAM-group allocation. -/
  | sbgAllocSizeWrite (master size : Nat)
  /-- R388: A core frees a DRAM-group buffer by address. -/
  | sbgFreeWrite (master addr : Nat)
  /-- R387: A read of SBG_ALLOC_RESULT returns the allocation outcome and clears a final status. -/
  | sbgAllocResultRead (master : Nat)
  /-- R382: An accumulator idle for SBG_ACC.IDLE is written to its parity blocks and freed. -/
  | accumulatorIdleExpiry (pzn hr v : Nat)
  /-- R520: Each FIRC cycle CSH moves one port's event into the capture FIFO with its time stamp. -/
  | eventCapture
  /-- R522: Every 16 FIRC cycles the builder assigns SEQ and CRC and stages the record, or drops it to LOST. -/
  | recordBuild
  /-- R527: Firmware confirms a drained SEQ, and the oldest staging record moves into the ring. -/
  | cshDrainWrite (master seq : Nat)
  /-- R530: A matching clear releases COUNT records, may zero LOST and raises the clear interrupt. -/
  | cshClearWrite (master count : Nat) (resetLost : Bool) (oldest : Nat)
  /-- R528: Firmware initialises the ring description, which sets INIT and locks the register. -/
  | cshRingWrite (master base oldSlot count : Nat) (seqs : List Nat)
  /-- R529: A reader's cursor write fetches a log position into its window. -/
  | cshCursorWrite (master pos : Nat) (upset : List (Nat × Byte))
  /-- R529: A ring record read from SPI NOR lands in the window, and WSTAT becomes READY. -/
  | ringFetchComplete (master : Nat) (bytes : List Byte)
  /-- R548: A Saosh port detects signal, equalises, deskews and exchanges IDENT to come up. -/
  | portTraining (port : Nat)
  /-- R547: A received IDENT flit is checked against the wiring rule. -/
  | ident (port dev role rport uid : Nat)
  /-- R551: A MSG flit is accepted in sequence, or discarded with one NAK. -/
  | msgFlitReceive (port : Nat) (bytes : List Byte)
  /-- R551: A received NAK replays every unacknowledged flit after ACK, and 8 NAKs take the port down. -/
  | nak (port : Nat) (bytes : List Byte)
  /-- R552: No flit passes CRC for LOSS_TIMEOUT, so the port goes DOWN and retrains. -/
  | portLossTimeout (port : Nat)
  /-- R552: A DOWN port not up within 50 ms goes FAILED. -/
  | portRetrainTimeout (port : Nat)
  /-- R556: A member's JOIN is checked by the leader, which answers JOIN_ACK or refuses. -/
  | join (src uid role bays lc term : Nat) (pub chain : List Byte) (chainOk sigOk : Bool)
  /-- R556: A JOIN_ACK completes the join and loads the pair key into a system slot. -/
  | joinAck (src uid term : Nat) (pub : List Byte) (chainOk sigOk : Bool)
  /-- R556: A refused or pending member retries its join every second. -/
  | joinRetry
  /-- R569: A valid CLAIM makes the device adopt the term and join the claimant. -/
  | claim (src term : Nat) (valid : Bool)
  /-- R562: A received DEPART marks the peer DEPARTED. -/
  | depart (src : Nat)
  /-- R564: A received PEER_HB keeps the peer LIVE. -/
  | peerHb (src : Nat)
  /-- R564: Every 1 ms a PEER_HB is sent to each joined peer. -/
  | peerHbSend
  /-- R559: A member admits a forwarded command with the carried deadline, or refuses it with CASCADE_MEMBER_LOST. -/
  | cmdFwd (src tag term : Nat) (q : Sqe) (func tenant ezn offset cls remain : Nat)
  /-- R559: A member receives one block of write data and checks its ICRC at CPH. -/
  | wrData (src tag : Nat) (bytes : List Byte) (icrc : DWord)
  /-- R559: The leader receives one read block from a member for egress. -/
  | rdData (src tag : Nat) (bytes : List Byte) (ocrc : DWord)
  /-- R559: The leader receives a member's completion and posts it to the host. -/
  | cpl (src tag : Nat) (status : Status) (dw0 dw1 : DWord)
  /-- R560: A member applies forwarded administration: namespaces, Select All, Sanitize, features and PMU requests. -/
  | admin (src tag : Nat) (msg : AdminMsg)
  /-- R560: The leader receives an ADMIN completion, which lets the command complete. -/
  | adminCpl (src tag : Nat) (status : Status) (data : List Byte)
  /-- R560: A succession candidate stores the leader's namespace and deadline state. -/
  | mirror (src : Nat) (rec : MirrorRec)
  /-- R563: A peer's forwarded MBX access is performed, or refused for other targets. -/
  | csrReq (src tag : Nat) (write : Bool) (offset size : Nat) (data : Word)
  /-- R563: The response of a peer MBX access returns to the requesting core. -/
  | csrRsp (src tag : Nat) (write refused : Bool) (data : Word)
  /-- R563: A mailbox notice from a peer sets SLK_NOTE and interrupts MC0. -/
  | mbxNotice (src channel kind : Nat)
  /-- R564: No PEER_HB arrives for PEER_TIMEOUT, so the peer is LOST and its commands fail. -/
  | peerTimeoutExpiry (peer : Nat)
  /-- R564: A departed member not rejoined within 60 s of the wake becomes LOST. -/
  | departedRejoinExpiry (peer : Nat)
  /-- R569: A candidate whose leader stays lost for SUCC_WAIT claims leadership with a new term. -/
  | succWaitExpiry
  /-- R570: The new leader loads mirrored state, trains PCIe and presents functions. -/
  | newLeaderTakeover
  /-- R562: A departed device's lane-0 detector sees a peer leave electrical idle and raises the PEER wake. -/
  | peerSignalDetect
  /-- R577: The PF marks a LOST peer REMOVED, and its zones are seen as Offline. -/
  | slkRemoveWrite (master : Nat) (value : DWord)
  /-- R586: A write of PRF_SEL sets or clears the profile override pending commit. -/
  | prfSelWrite (master : Nat) (valid : Bool) (next : Nat)
  /-- R586: Firmware writes the boot record with the override and sets COMMITTED. -/
  | bootRecordCommit
  /-- R58: Device firmware programs a journal page within 1 ms of its first waiting record. -/
  | journalPageProgram
  /-- R34: A management core's request to ZRS changes a zone's state or rewrites its entry. -/
  | zrsCommandPortRequest (request : ZrsRequest)
  /-- R8: A read of a register with an RC field returns the value and then returns the field to its reset value. -/
  | rcFieldRead (master addr size : Nat)
  /-- R551: A received IDLE flit delivers its ACK, which frees replay-buffer entries, and its returned REQ and RSP credits. -/
  | idleFlitReceive (port : Nat) (bytes : List Byte)
  /-- R550: A received ALIGN flit in every 1,024th flit slot is used for deskew and flit framing. -/
  | alignFlitReceive (port : Nat) (bytes : List Byte)
  /-- R488: The PCIe link enters L1.2 when the host permits it, PCLK stops and CLKREQ# is released. -/
  | l12Entry
  /-- R32: The PCIe link leaves L1.2 and PCLK restarts for the HIF link part. -/
  | l12Exit
  /-- R493: A started PLL achieves lock and sets LOCK, after which a SEL write can switch its clock. -/
  | pllLockAcquired (pll : Nat)
  /-- R355: A bank row is closed by precharge when DMC_PAGE.IDLE MCLK cycles pass with no access to that bank. -/
  | pageIdlePrecharge (channel bank : Nat)
  /-- R88: A DOE Discovery request in the PF's DOE mailbox is answered. -/
  | doeDiscovery (index : Nat)
  /-- R122: An SPDM chunked transfer request carries a large message in chunks. -/
  | chunkedTransfer (transport : Nat) (fetch : Bool) (seq : Nat) (last : Bool) (data : List Byte)
  /-- R529: A program or erase of the SPI NOR ends, and a ring fetch that waited for it starts its read. -/
  | spiNorOperationEnd
deriving DecidableEq, Repr

end Sys2Proof
end

