-- ==== Sys2Proof/WellFormed.lean ====
section
/-!
DEFINITION. Which commands are well-formed: operands within the numbers the spec gives the things they name: master IDs (R14), CSR addresses and
access sizes (R7, R624), ports and flits of the Saosh link (R548, R549), dies, channels and bays (R4), functions (R123), zones (R41), mailboxes (R459), DEV_IDs
and straps (R541). The meanings are total on every command, well-formed or not.
-/

namespace Sys2Proof

/-- A number below a bound. -/
def below (bound n : Nat) : Bool := decide (n < bound)

/-- Every number of a list below a bound. -/
def allBelow (bound : Nat) (ns : List Nat) : Bool := ns.all (below bound)

/-- A CSR access is of 4 or 8 bytes. -/
def wfSize (n : Nat) : Bool := n == 4 || n == 8

/-- Bytes of a fixed length. -/
def wfLength (n : Nat) (bytes : List Byte) : Bool := bytes.length == n

/-- A submission-queue entry's CID and NSID are within their fields. -/
def wfSqe (q : Sqe) : Bool := below 65536 q.cid && below (2 ^ 32) q.nsid

/-- A command is well-formed. -/
def Instr.wf (i : Instr) : Bool :=
  match i with
  | .ophoursStep => true
  | .epochTick _ _ _ => true
  | .reservedMasterAccess master addr _ => below 128 master && below (2 ^ 40) addr
  | .pwrOffAccess master addr _ => below 128 master && below (2 ^ 40) addr
  | .csrWrite master addr size _ => below 128 master && below (2 ^ 40) addr && wfSize size
  | .sqTailDoorbell func _ _ => below 4097 func
  | .cqHeadDoorbell func _ _ => below 4097 func
  | .offBarAccess func _ _ _ _ => below 4097 func
  | .commandFetch sqes => sqes.all wfSqe
  | .zoneResolve _ _ _ => true
  | .bindingRetry _ => true
  | .horizonWaitResume _ => true
  | .dieQueueWaitResume _ => true
  | .readReservation _ => true
  | .read _ => true
  | .write _ => true
  | .flush _ => true
  | .verify _ => true
  | .zoneAppend _ => true
  | .placedZoneAppend _ => true
  | .zoneOpenTiered _ => true
  | .zoneOpen _ => true
  | .zoneClose _ => true
  | .zoneFinish _ => true
  | .zoneReset _ => true
  | .zoneOffline _ => true
  | .reportZones _ => true
  | .zoneOpTakesEffect ezn => below 245760 ezn
  | .contextRelease ezn => below 245760 ezn
  | .padDeadlineExpiry ezn => below 245760 ezn
  | .padAfterPadding ezn => below 245760 ezn
  | .createIoSq _ _ => true
  | .createIoCq _ _ => true
  | .deleteIoSq _ => true
  | .deleteIoCq _ => true
  | .getLogPage _ => true
  | .identify _ => true
  | .abort _ => true
  | .setFeatures _ _ => true
  | .getFeatures _ => true
  | .setPowerManagement _ => true
  | .setNumberOfQueues _ => true
  | .setTimestamp _ _ => true
  | .setDeadlineClassTable _ => true
  | .setDefaultDeadlineClass _ => true
  | .autonomousPsTransition => true
  | .asyncEventRequest _ => true
  | .asyncEventRaise func _ => below 4097 func
  | .namespaceCreate _ _ => true
  | .namespaceDelete _ => true
  | .namespaceAttachment _ _ => true
  | .secondaryOffline _ => true
  | .secondaryOnline _ => true
  | .firmwareImageDownload _ _ => true
  | .firmwareCommit _ => true
  | .sanitize _ => true
  | .sanitizeExitFailureMode _ => true
  | .sanitizeComplete _ => true
  | .deviceSelfTest _ => true
  | .nvmeMiSend _ => true
  | .nvmeMiReceive _ => true
  | .securitySendKeyImport _ _ => true
  | .securitySendMigrationKey _ _ => true
  | .lifecycleCommand _ _ _ => true
  | .securitySendProfileWrite _ _ => true
  | .securityReceiveImportKey _ => true
  | .securityReceiveNonce _ => true
  | .securityReceiveCertChain _ => true
  | .lifecycleNonceExpiry => true
  | .ccEnable func _ _ _ _ => below 4097 func
  | .controllerReset func => below 4097 func
  | .shutdownNotification func _ => below 4097 func
  | .flr func => below 4097 func
  | .sriovConfigWrite _ => true
  | .stopAll _ => true
  | .start => true
  | .quietReached => true
  | .freeze vf bufPages _ => below 4097 vf && below 16 bufPages
  | .save vf bufPages _ => below 4097 vf && below 16 bufPages
  | .restore vf bufPages _ _ => below 4097 vf && below 16 bufPages
  | .unfreeze vf bufPages _ => below 4097 vf && below 16 bufPages
  | .dieEntryIssue die _ _ => below 1024 die
  | .channelBurstBoundary channel => below 64 channel
  | .statusPoll die _ _ => below 1024 die
  | .operationTimeout die _ => below 1024 die
  | .suspendDecision die => below 1024 die
  | .suspendWindowExpiry die => below 1024 die
  | .resume die => below 1024 die
  | .readDeadlineExpiry _ => true
  | .wedgeSyncSearch die _ => below 1024 die
  | .engineAllocation _ => true
  | .hardDecodeDone _ _ => true
  | .softDecodeDone _ _ => true
  | .trackingProbeEval die => below 1024 die
  | .blockOpen _ _ _ _ _ => true
  | .hostDataEgress _ _ _ => true
  | .hostDataFetchCompletion _ _ bytes _ => wfLength 4096 bytes
  | .blockSeal _ _ _ _ _ => true
  | .contextRestore _ _ _ => true
  | .keyRequest _ => true
  | .mgmtSeal _ => true
  | .mgmtOpen _ => true
  | .mgmtGmac _ => true
  | .tkrWrite master _ _ => below 128 master
  | .tkrUnwrap master _ _ _ => below 128 master
  | .tkrWrap master _ _ _ => below 128 master
  | .tkrErase master _ _ _ => below 128 master
  | .tkrGenerate master _ _ => below 128 master
  | .retiredCopyExpiry _ => true
  | .alarmDetect _ _ => true
  | .alarmLockClear master => below 128 master
  | .secAlarmActWrite master _ => below 128 master
  | .securityBoot => true
  | .bootCompleteReport _ _ => true
  | .getVersion transport => below 2 transport
  | .getCapabilities transport _ => below 2 transport
  | .negotiateAlgorithms transport _ _ _ _ => below 2 transport
  | .getDigests transport => below 2 transport
  | .getCertificate transport _ _ _ => below 2 transport
  | .challenge transport _ _ => below 2 transport
  | .getMeasurements transport _ _ _ => below 2 transport
  | .keyExchange transport _ _ => below 2 transport
  | .finish transport _ _ => below 2 transport
  | .endSession transport _ _ => below 2 transport
  | .mctpPacket _ _ => true
  | .readNvmeMiDataStructure _ _ _ => true
  | .nvmSubsystemHealthStatusPoll => true
  | .controllerHealthStatusPoll _ _ => true
  | .configurationGet _ _ => true
  | .configurationSet _ _ _ => true
  | .vpdRead _ _ => true
  | .dbgUnlockReq _ => true
  | .dbgRespVerify _ _ => true
  | .dbgChallengeExpiry => true
  | .relock => true
  | .debugPortAccess _ => true
  | .mbxBindWrite master n _ => below 128 master && below 64 n
  | .bindLock master => below 128 master
  | .mbxClaim n masters => below 64 n && allBelow 128 masters
  | .mbxWordWrite master n _ _ => below 128 master && below 64 n
  | .go master n _ => below 128 master && below 64 n
  | .release master n => below 128 master && below 64 n
  | .recall master n => below 128 master && below 64 n
  | .discard master n => below 128 master && below 64 n
  | .mbxLastWordRead master n _ => below 128 master && below 64 n
  | .mbxPartyReset masters => allBelow 128 masters
  | .pmuReqActive master => below 128 master
  | .pmuReqIdle master => below 128 master
  | .pmuReqStandby master => below 128 master
  | .pmuReqSafelight master => below 128 master
  | .pmuReqWake master => below 128 master
  | .stepDone master => below 128 master
  | .wakeEvent _ => true
  | .activeIdleChange => true
  | .bayIdleExpiry bay => below 4 bay
  | .standbyEntry => true
  | .admittedWorkDrained => true
  | .safelightEntry => true
  | .standbyExit _ _ => true
  | .safelightExit _ _ => true
  | .pllEnable master _ => below 128 master
  | .clockSelect master _ _ => below 128 master
  | .pllLockLoss _ => true
  | .coldReset profileSel role devId => below 4 profileSel && below 4 role && below 16 devId
  | .shelfRstAssert _ => true
  | .shelfRstRelease profileSel role devId => below 4 profileSel && below 4 role && below 16 devId
  | .perstAssert _ => true
  | .perstRelease _ => true
  | .powerLoss => true
  | .cluster master => below 128 master
  | .rstHbWrite master c => below 128 master && below 8 c
  | .heartbeatTimeout c => below 8 c
  | .doubleFault c => below 8 c
  | .bootTimeout => true
  | .restartsClear => true
  | .shelfHbToggle _ => true
  | .bayPowerUpRequest bay _ => below 4 bay
  | .bayPgAssert bay => below 4 bay
  | .bayTporExpiry bay _ _ _ _ => below 4 bay
  | .bayPgTimeout bay => below 4 bay
  | .bayPgFall bay => below 4 bay
  | .bayPowerDown bay => below 4 bay
  | .descValidate master channel _ _ => below 128 master && below 64 channel
  | .train master channel _ => below 128 master && below 64 channel
  | .channelDisable master channel => below 128 master && below 64 channel
  | .trimDataWrite master _ => below 128 master
  | .brtUpdateRequest master _ _ => below 128 master
  | .walkStart => true
  | .walkRecord _ => true
  | .walkStop => true
  | .walkOutRead master => below 128 master
  | .retentionScan _ => true
  | .relocationStart _ _ => true
  | .relocationSwitch pzn => below 262144 pzn
  | .spareCopyComplete pzn _ _ => below 262144 pzn
  | .sentinelSurvey => true
  | .offtimeDecision => true
  | .tsWaitExpiry => true
  | .narrowDramWrite master _ _ => below 128 master
  | .mergeEntryWriteback => true
  | .flipArm master _ _ _ => below 128 master
  | .flipDisarm master => below 128 master
  | .scrubStart master => below 128 master
  | .scrubLineCheck _ => true
  | .scrubStop master => below 128 master
  | .dramCommandIssue channel _ => below 8 channel
  | .refreshDue channel bank _ => below 8 channel && below 32 bank
  | .dramTempPoll _ => true
  | .dqTrackingInterval channel _ _ => below 8 channel
  | .selfRefreshExit _ => true
  | .dramTraining _ _ => true
  | .dramFill => true
  | .bufferAlloc _ _ _ _ _ _ _ => true
  | .bufferFree _ _ _ => true
  | .freeListRebuildDone _ => true
  | .sbgAllocSizeWrite master _ => below 128 master
  | .sbgFreeWrite master _ => below 128 master
  | .sbgAllocResultRead master => below 128 master
  | .accumulatorIdleExpiry pzn _ _ => below 262144 pzn
  | .eventCapture => true
  | .recordBuild => true
  | .cshDrainWrite master _ => below 128 master
  | .cshClearWrite master _ _ _ => below 128 master
  | .cshRingWrite master _ _ _ _ => below 128 master
  | .cshCursorWrite master _ _ => below 128 master
  | .ringFetchComplete master _ => below 128 master
  | .portTraining port => below 4 port
  | .ident port dev role rport uid => below 4 port && below 16 dev && below 4 role && below 4 rport && below (2 ^ 64) uid
  | .msgFlitReceive port bytes => below 4 port && wfLength 256 bytes
  | .nak port bytes => below 4 port && wfLength 256 bytes
  | .portLossTimeout port => below 4 port
  | .portRetrainTimeout port => below 4 port
  | .join src uid role _ _ term pub _ _ _ => below 16 src && below (2 ^ 64) uid && below 4 role && below 65536 term && wfLength 96 pub
  | .joinAck src uid term pub _ _ => below 16 src && below (2 ^ 64) uid && below 65536 term && wfLength 96 pub
  | .joinRetry => true
  | .claim src term _ => below 16 src && below 65536 term
  | .depart src => below 16 src
  | .peerHb src => below 16 src
  | .peerHbSend => true
  | .cmdFwd src tag term q func _ ezn _ cls _ => below 16 src && below (2 ^ 32) tag && below 65536 term && wfSqe q && below 4097 func && below 245760 ezn && below 4 cls
  | .wrData src tag bytes _ => below 16 src && below (2 ^ 32) tag && wfLength 4096 bytes
  | .rdData src tag bytes _ => below 16 src && below (2 ^ 32) tag && wfLength 4096 bytes
  | .cpl src tag _ _ _ => below 16 src && below (2 ^ 32) tag
  | .admin src tag _ => below 16 src && below (2 ^ 32) tag
  | .adminCpl src tag _ _ => below 16 src && below (2 ^ 32) tag
  | .mirror src _ => below 16 src
  | .csrReq src tag _ _ _ _ => below 16 src && below (2 ^ 32) tag
  | .csrRsp src tag _ _ _ => below 16 src && below (2 ^ 32) tag
  | .mbxNotice src channel _ => below 16 src && below 64 channel
  | .peerTimeoutExpiry peer => below 16 peer
  | .departedRejoinExpiry peer => below 16 peer
  | .succWaitExpiry => true
  | .newLeaderTakeover => true
  | .peerSignalDetect => true
  | .slkRemoveWrite master _ => below 128 master
  | .prfSelWrite master _ _ => below 128 master
  | .bootRecordCommit => true
  | .journalPageProgram => true
  | .zrsCommandPortRequest _ => true
  | .rcFieldRead master addr size => below 128 master && below (2 ^ 40) addr && wfSize size
  | .idleFlitReceive port bytes => below 4 port && wfLength 256 bytes
  | .alignFlitReceive port bytes => below 4 port && wfLength 256 bytes
  | .l12Entry => true
  | .l12Exit => true
  | .pllLockAcquired _ => true
  | .pageIdlePrecharge channel bank => below 8 channel && below 32 bank
  | .doeDiscovery _ => true
  | .chunkedTransfer transport _ _ _ _ => below 2 transport
  | .spiNorOperationEnd => true

end Sys2Proof
end

