-- ==== Sys2Proof/Decode.lean ====
section
/-!
DEFINITION. The opcode table of this block gives no row any bits: its commands reach it as register accesses, bus messages, pins and events, each
under its own name. No word spells a command, so the decoder answers none on every word.
-/

namespace Sys2Proof

/-- The command that a word spells by the bits of the opcode table: none, since no row has bits. -/
def decodeTableWord (_nbits _w : Nat) : Option Instr := none

end Sys2Proof
end

