-- ==== Sys2Proof/Machine/Bits.lean ====
section
/-!
DEFINITION. Bit fields, little-endian bytes and the check codes of R318 (CRC-32C) and R276 (CRC-8).
-/

namespace Sys2Proof.Machine

open Sys2Proof

/-- Bits [hi:lo] of a number. -/
def field (x hi lo : Nat) : Nat := x / 2 ^ lo % 2 ^ (hi + 1 - lo)

/-- Bit i of a number. -/
def bitAt (x i : Nat) : Bool := x / 2 ^ i % 2 == 1

/-- A Boolean as 0 or 1. -/
def b2n (b : Bool) : Nat := if b then 1 else 0

/-- The `n` low bytes of a number, least significant first (R318). -/
def leBytes : (n x : Nat) → List Byte
  | 0, _ => []
  | n + 1, x => BitVec.ofNat 8 x :: leBytes n (x / 256)

/-- The number that bytes spell, least significant first. -/
def ofLe : List Byte → Nat
  | [] => 0
  | b :: bs => b.toNat + 256 * ofLe bs

/-- The number that bytes spell, most significant first. -/
def ofBe (bs : List Byte) : Nat := bs.foldl (fun a b => 256 * a + b.toNat) 0

/-- The `n` low bytes of a number, most significant first. -/
def beBytes (n x : Nat) : List Byte := (leBytes n x).reverse

/-- Bytes [at, at + n) of a list; bytes beyond its end read as zero. -/
def bytesAt (bs : List Byte) (at_ n : Nat) : List Byte :=
  let part := (bs.drop at_).take n
  part ++ List.replicate (n - part.length) 0

/-- The little-endian number at a place of a byte list. -/
def leAt (bs : List Byte) (at_ n : Nat) : Nat := ofLe (bytesAt bs at_ n)

/-- Bytes are all zero. -/
def allZero (bs : List Byte) : Bool := bs.all (· == 0)

/-- One bit of the reflected CRC-32C register. -/
def crcStep (c : BitVec 32) : BitVec 32 := if c.getLsbD 0 then (c >>> 1) ^^^ 0x82F63B78#32 else c >>> 1

/-- One byte into the CRC-32C register. -/
def crcByte (c : BitVec 32) (b : Byte) : BitVec 32 :=
  crcStep (crcStep (crcStep (crcStep (crcStep (crcStep (crcStep (crcStep (c ^^^ b.zeroExtend 32))))))))

/-- A running CRC-32C continued over more bytes, before the final exclusive OR. -/
def crcRun (c : BitVec 32) (bs : List Byte) : BitVec 32 := bs.foldl crcByte c

/-- CRC-32C (R318): 0x1EDC_6F41 reflected, initial value and final exclusive OR 0xFFFF_FFFF. -/
def crc32c (bs : List Byte) : BitVec 32 := crcRun 0xFFFFFFFF#32 bs ^^^ 0xFFFFFFFF#32

/-- One bit of the CRC-8 register. -/
def crc8Step (c : Byte) : Byte := if c.getLsbD 7 then (c <<< 1) ^^^ 0x07#8 else c <<< 1

/-- One byte into the CRC-8 register. -/
def crc8Byte (c b : Byte) : Byte :=
  crc8Step (crc8Step (crc8Step (crc8Step (crc8Step (crc8Step (crc8Step (crc8Step (c ^^^ b))))))))

/-- CRC-8 with polynomial x^8 + x^2 + x + 1 and initial value 0 (R276). -/
def crc8 (bs : List Byte) : Byte := bs.foldl crc8Byte 0

/-- Exclusive OR of two byte lists of one length. -/
def xorBytes (a b : List Byte) : List Byte := List.zipWith (· ^^^ ·) a b

/-- Replace the element at a place of a list. -/
def listSet {α : Type} : List α → Nat → α → List α
  | [], _, _ => []
  | _ :: xs, 0, y => y :: xs
  | x :: xs, i + 1, y => x :: listSet xs i y

/-- The element at a place of a list, or a default. -/
def listAt {α : Type} (d : α) (xs : List α) (i : Nat) : α := (xs[i]?).getD d

/-- Drop every occurrence of an element. -/
def dropAll {α : Type} [DecidableEq α] (xs : List α) (x : α) : List α := xs.filter (fun y => !decide (y = x))

/-- Add an element at the end unless it is there. -/
def addOnce {α : Type} [DecidableEq α] (xs : List α) (x : α) : List α := if xs.contains x then xs else xs ++ [x]

/-- The smallest number of a list, or a default where it is empty. -/
def minOr (d : Nat) : List Nat → Nat
  | [] => d
  | x :: xs => xs.foldl min x

/-- Ceiling of a quotient. -/
def ceilDiv (a b : Nat) : Nat := (a + b - 1) / b

end Sys2Proof.Machine
end

