-- ==== Sys2Proof/Machine/Sparse.lean ====
section
/-!
DEFINITION. Sparse tables: a list of (key, entry) pairs with strictly rising keys. A table with a default holds no
entry equal to the default of its key, so that equal tables are equal data. Every table, register file and memory of
the model is one of these; `spWf` is the canonical form, and `Laws/Sparse.lean` proves that every operation keeps it.
-/

namespace Sys2Proof.Machine

/-- A table keyed by natural numbers. -/
abbrev Sparse (α : Type) : Type := List (Nat × α)

/-- The entry listed under a key. -/
def spFind {α : Type} : Sparse α → Nat → Option α
  | [], _ => none
  | (k, v) :: m, i => if i = k then some v else spFind m i

/-- List an entry under a key, keeping the keys rising. -/
def spPut {α : Type} : Sparse α → Nat → α → Sparse α
  | [], i, x => [(i, x)]
  | (k, v) :: m, i, x =>
    if i = k then (k, x) :: m
    else if i < k then (i, x) :: (k, v) :: m
    else (k, v) :: spPut m i x

/-- Drop the entry of a key. -/
def spErase {α : Type} : Sparse α → Nat → Sparse α
  | [], _ => []
  | (k, v) :: m, i => if i = k then spErase m i else (k, v) :: spErase m i

/-- What a table with default `d` holds under a key. -/
def spGet {α : Type} (d : α) (m : Sparse α) (i : Nat) : α := (spFind m i).getD d

/-- Store under a key in a table with default `d`: storing the default removes the entry. -/
def spSet {α : Type} [DecidableEq α] (d : α) (m : Sparse α) (i : Nat) (x : α) : Sparse α :=
  if x = d then spErase m i else spPut m i x

/-- Replace the entry of a key by its image; a key with no entry stays without one. -/
def spMod {α : Type} (m : Sparse α) (i : Nat) (f : α → α) : Sparse α :=
  match spFind m i with
  | some v => spPut m i (f v)
  | none => m

/-- Apply a function to every entry. -/
def spMap {α : Type} (m : Sparse α) (f : Nat → α → α) : Sparse α := m.map fun kv => (kv.1, f kv.1 kv.2)

/-- Apply a function to every entry of a table with default `d`, dropping the images that are the default. -/
def spMapD {α : Type} [DecidableEq α] (d : α) (m : Sparse α) (f : Nat → α → α) : Sparse α :=
  (m.map fun kv => (kv.1, f kv.1 kv.2)).filter fun kv => decide (kv.2 ≠ d)

/-- Keep the entries that satisfy a test. -/
def spFilter {α : Type} (m : Sparse α) (f : Nat → α → Bool) : Sparse α := m.filter fun kv => f kv.1 kv.2

/-- The lowest key at or above `k` that the table does not list, looking at most at `fuel` keys. -/
def spFree {α : Type} (m : Sparse α) : (fuel k : Nat) → Nat
  | 0, k => k
  | fuel + 1, k => if (spFind m k).isSome then spFree m fuel (k + 1) else k

/-- The keys rise strictly. -/
def spSorted {α : Type} : Sparse α → Bool
  | [] => true
  | [_] => true
  | (k, _) :: (l, v) :: m => decide (k < l) && spSorted ((l, v) :: m)

/-- The canonical form of a table whose key `k` has default `d k`. -/
def spWf {α : Type} [DecidableEq α] (d : Nat → α) (m : Sparse α) : Bool :=
  spSorted m && m.all fun kv => decide (kv.2 ≠ d kv.1)

/-- Keep the first entry of a list that satisfies a test, with its place. -/
def findIdxIn {α : Type} (f : α → Bool) : List α → Nat → Option (Nat × α)
  | [], _ => none
  | x :: xs, n => if f x then some (n, x) else findIdxIn f xs (n + 1)

end Sys2Proof.Machine
end

