-- ==== Sys2Proof/Machine/TypesZone.lean ====
section
/-!
DEFINITION. The data of the zone resolver: tiers, zone states, the Zone Map and Zone State Table entries (R44, R78),
the open-zone CAM (R79), reservation blocks (R73), the programs of a physical zone (R199 to R201) and the journal's
records (R58).
-/

namespace Sys2Proof.Machine

/-- A density tier (R2); the manual numbers them 0 D4, 1 D5, 2 D6. -/
inductive Tier where
  | d4 | d5 | d6
deriving DecidableEq, Repr

/-- The zone states of R48 (codes 0 to 6 of R78). -/
inductive ZoneState where
  | empty | implicitlyOpened | explicitlyOpened | closed | full | readOnly | offline
deriving DecidableEq, Repr

/-- A padding extent: the first filler slot and the half-row it ends (R62). -/
structure PadExtent where
  start : Nat
  endHr : Nat
deriving DecidableEq, Repr

/-- A block substitution of a zone: the member and plane, and the spare block's index (R47, R78). -/
structure Subst where
  member : Nat
  plane : Nat
  spare : Nat
deriving DecidableEq, Repr

/-- A Zone Map entry, one per EZN (R44). -/
structure ZoneMapEntry where
  pzn : Nat
  bound : Bool
  retired : Bool
  epoch : Nat
deriving DecidableEq, Repr

/-- A Zone State Table entry, one per PZN (R78); `finished` is the attribute the Zone Descriptor reports (R50, R98), `crc` the stored check
word. Log 33 (DEDUCED). -/
structure ZstEntry where
  ezn : Nat
  bound : Bool
  state : ZoneState
  padded : Bool
  tier : Tier
  erc : Nat
  tenant : Nat
  nsx : Nat
  wpHost : Nat
  wpPhys : Nat
  durableHr : Nat
  coKey : Nat
  openOph : Nat
  lastOph : Nat
  subst : List Subst
  pads : List PadExtent
  filler : Nat
  finished : Bool
  crc : BitVec 32
deriving DecidableEq, Repr

/-- What a resolve found of a zone (R80, R260): the physical zone, its Zone State Table entry and its epoch. Log 169 (DEDUCED). -/
structure Resolved where
  pzn : Nat
  zone : ZstEntry
  epoch : Nat
deriving DecidableEq, Repr

/-- An open-zone CAM entry, tagged by EZN (R79): the cipher context, the function whose share holds it, and the order of the last
write for R51. The padding deadline the entry adds is that of the zone's incomplete writes in the command slots. -/
structure CamEntry where
  ctx : Nat
  owner : Nat
  lastWrite : Nat
deriving DecidableEq, Repr

/-- A cipher context that a closed or full zone still holds until its admitted writes are sealed (R53). -/
structure LingerCtx where
  ezn : Nat
  ctx : Nat
  owner : Nat
  nsid : Nat
deriving DecidableEq, Repr

/-- A reservation block of the staging pool and the active zones (by EZN) that hold its places, by place (R73, R381). -/
structure ResvBlock where
  tier : Tier
  zones : Sparse Nat
deriving DecidableEq, Repr

/-- The programs one member die has completed in a physical zone: half-rows whose first pass is done and half-rows that are
final, both in ascending order (R200, R201); for D4 the two are equal. -/
structure MemberProg where
  coarse : Nat
  fine : Nat
deriving DecidableEq, Repr

/-- The program state of a physical zone: its 16 members, the half-rows at which a close was requested (R201), the members whose programs
wait for a spare copy (R290), the paddings that filled it, as first half-row and moment (R156), and OPHOURS and PWRCYC of each first pass built (R220),
by half-row × 16 + member. -/
structure ZoneProg where
  members : List MemberProg
  closes : List Nat
  halted : List Nat
  padded : List (Nat × Nat)
  stamps : Sparse (Nat × Nat)
deriving DecidableEq, Repr

/-- A Reset or Finish that waits for the zone's admitted writes (R54); `slot` is the command that asked for it, none
where the device did. -/
structure ZoneOp where
  isReset : Bool
  slot : Option Nat
deriving DecidableEq, Repr

/-- A padding request that waits until every reserved slot is staged (R60). `close` asks for the close of R201,
`toFull` moves the zone to Full as Finish does (R67). -/
structure PadReq where
  close : Bool
  toFull : Bool
deriving DecidableEq, Repr

/-- The write record the journal holds for an active zone (R58). -/
structure WriteRecord where
  durableHr : Nat
  horizon : Nat
  pads : List PadExtent
  wpHost : Nat
  filler : Nat
deriving DecidableEq, Repr

/-- What the metadata journal holds of one EZN: its Zone Map entry, its Zone State Table entry where it is bound, and its
write record where it is active (R58). -/
structure ZoneJournal where
  map : ZoneMapEntry
  zst : Option ZstEntry
  write : Option WriteRecord
deriving DecidableEq, Repr

end Sys2Proof.Machine
end

