-- ==== Sys2Proof/Machine/TypesHost.lean ====
section
/-!
DEFINITION. The data of the host interface and the Function Manager: completion statuses (R112, R627), queues, functions,
command slots, namespaces, the event log page (R116), reconfiguration and migration state (R134 to R148), sanitize
(R92).
-/

namespace Sys2Proof.Machine

open Sys2Proof

/-- The deadline classes of R105. -/
inductive Cls where
  | proof | print | negative | vault
deriving DecidableEq, Repr

/-- A created submission queue: base, entries (zero-based size plus one), head (next entry to fetch), tail (the doorbell,
latched while the function is stopped) and completion queue. -/
structure SubQ where
  base : Nat
  size : Nat
  head : Nat
  tail : Nat
  cqid : Nat
  deleting : Option Nat
deriving DecidableEq, Repr

/-- A created completion queue. -/
structure CplQ where
  base : Nat
  size : Nat
  head : Nat
  tail : Nat
  phase : Bool
  iv : Nat
  ien : Bool
deriving DecidableEq, Repr

/-- An MSI-X table entry with its pending bit and the FID 0x09 coalescing-disable bit (R139, R144). -/
structure MsixEntry where
  addr : Nat
  data : DWord
  mask : Bool
  pending : Bool
  coalesceOff : Bool
deriving DecidableEq, Repr

/-- The counters of one class in the Deadline Statistics page (R118). -/
structure ClsStats where
  completed : Nat
  missed : Nat
  appendLate : Nat
  raced : Nat
deriving DecidableEq, Repr

/-- The feature values of one function (R94), each as Dword 11 of Set Features carries it. -/
structure Features where
  arbitration : DWord
  tempThreshold : DWord
  underThreshold : DWord
  numQueues : DWord
  intCoalescing : DWord
  asyncEventConfig : DWord
  apstEnable : Bool
  apst : List Word
  defClass : Cls
deriving DecidableEq, Repr

/-- The controller registers of one function (R89, R102): CC and the admin queue registers, and the CSTS bits. -/
structure CtrlRegs where
  cc : DWord
  aqa : DWord
  asq : Nat
  acq : Nat
  rdy : Bool
  cfs : Bool
  shst : Nat
deriving DecidableEq, Repr

/-- The stop and freeze flags of one function (R134, R142, R628). -/
structure StopFlags where
  byStopAll : Bool
  byOffline : Bool
  frozen : Bool
  shutdown : Bool
  inFlr : Bool
deriving DecidableEq, Repr

/-- What the host programs in a function's Device Control registers (R85): payload and read request in bytes, and the completion timeout in µs of the range
programmed, none for the default range. Log 177 (PRESUMED). -/
structure PciControl where
  payload : Nat
  readRequest : Nat
  timeoutUs : Option Nat
deriving DecidableEq, Repr

/-- One function: 0 is the PF, n is VF n (R123). -/
structure Func where
  regs : CtrlRegs
  sqs : Sparse SubQ
  cqs : Sparse CplQ
  msix : Sparse MsixEntry
  msixEnable : Bool
  features : Features
  stats : List ClsStats
  aers : List Nat
  pendingEvents : List AsyncEvent
  masked : List AsyncEvent
  stop : StopFlags
  nextQueue : Nat
  pci : PciControl
deriving DecidableEq, Repr

/-- Where a command stands: in its slot before ZRS, at one of the waits of ZRS, admitted, or waiting: for the journal, for zones, for members of the cascade,
for START. -/
inductive Phase where
  | fetched | checked | waitReadPool | ready | waitContext | waitReady | waitHorizon | waitDieQueue | held
  | admitted | waitJournal | waitZoneOp | waitMembers | waitStart
deriving DecidableEq, Repr

/-- What a zone command in a slot does once ZRS takes it. -/
inductive CmdKind where
  | read | verify | write | append | placedAppend | openTiered | open | close | finish | reset | offline | report
  | flush | admin | none
deriving DecidableEq, Repr

/-- A command slot of the HIF queue engine (R22, R99, R155): the entry, its class, arrival and deadline in µs of the SCH time
base, where it stands, and what ZRS and the data path have recorded for it: its zone, host offset and first slot, the blocks fetched, sealed,
staged, opened and sent to the host, the read buffers it still holds reserved (R374), and the zones whose Reset or Finish it waits for. `silent` posts no completion (R140); `remote` names
the cascade member its zone lies on; `home` is a read's zone as its resolve found it. -/
structure CmdSlot where
  func : Nat
  sqid : Nat
  sqe : Sqe
  kind : CmdKind
  cls : Cls
  arrival : Nat
  deadline : Nat
  phase : Phase
  ezn : Nat
  nsid : Nat
  offset : Nat
  blocks : Nat
  firstSlot : Nat
  fetched : List Nat
  sealed : List Nat
  staged : List Nat
  opened : List Nat
  egress : List Nat
  reserved : Nat
  zones : List Nat
  raced : Bool
  forbidden : Bool
  failed : Option Status
  silent : Bool
  remote : Option Nat
  dw0 : DWord
  dw1 : DWord
  home : Option Resolved
deriving DecidableEq, Repr

/-- A namespace (R124 to R128); `floor` is its epoch floor (R147), `lastBay` the bay of its last binding (R76). -/
structure Namespace where
  base : Nat
  count : Nat
  defTier : Tier
  marCap : Nat
  morCap : Nat
  attached : Option Nat
  floor : Nat
  lastBay : Option Nat
deriving DecidableEq, Repr

/-- An entry of the Host Interface Events page (R116). -/
structure HieEntry where
  ophours : Nat
  pwrcyc : Nat
  kind : Nat
  func : Nat
  offset : Nat
  pstate : Nat
deriving DecidableEq, Repr

/-- A change staged while a stop is in effect (R136): an attachment or detachment of a namespace. -/
structure StagedAttach where
  nsid : Nat
  vf : Nat
  attach : Bool
deriving DecidableEq, Repr

/-- The migration operations of R142. -/
inductive MigOp where
  | freeze | save | restore | unfreeze
deriving DecidableEq, Repr

/-- The sanitize actions the device runs (R92). -/
inductive SanAction where
  | cryptoErase | blockErase
deriving DecidableEq, Repr

/-- The sanitize state (R92): the operation running, whether it failed or is in failure mode, whether keys are erased and zones reset,
and, for a Block Erase, the next block to erase of each die still to be erased, the previous journal zones, which are erased last, and whether their
turn has come. -/
structure Sanitize where
  running : Option SanAction
  failureMode : Bool
  lastFailed : Bool
  everDone : Bool
  zonesReset : Bool
  eraseLeft : Sparse Nat
  kept : List Nat
  last : Bool
deriving DecidableEq, Repr

/-- A completion that waits for room in its completion queue. -/
structure Cqe where
  func : Nat
  cqid : Nat
  sqid : Nat
  cid : Nat
  status : Status
  dnr : Bool
  dw0 : DWord
  dw1 : DWord
deriving DecidableEq, Repr

/-- The host interface state in PD_DATA and PD_HOST: functions, command slots, completions that wait for room, the round-robin pointer of
R99, sanitize, self-test, a package download, and the stops of fetch and admission by the PMU and the LRS. -/
structure HifState where
  funcs : Sparse Func
  slots : Sparse CmdSlot
  waiting : List Cqe
  nextFunc : Nat
  sanitize : Sanitize
  selfTest : Nat
  fwBuffer : List Byte
  fetchStopped : Bool
  admissionStopped : Bool
  linkUp : Bool
  l12 : Bool
deriving DecidableEq, Repr

/-- The Function Manager state (R87, R130 to R148): what the SR-IOV capability reads, what is in effect, and what START will
apply. `classDeadlines` is the table of R105 in units of 100 µs; `flrWaits` an FLR of the PF that waits for START (R141); `migSource` the source VF of a local
RESTORE under way (R146, R148). -/
structure VfmState where
  vfEnableWritten : Bool
  numVfsWritten : Nat
  ariCapable : Bool
  vfEnable : Bool
  numVfs : Nat
  stopAll : Bool
  startWaits : Bool
  stagedAttach : List StagedAttach
  stagedClasses : List (Nat × Nat)
  classDeadlines : List Nat
  classShadow : List (Nat × Nat)
  migOp : Option (MigOp × Nat)
  flrWaits : Bool
  migSource : Option Nat
deriving DecidableEq, Repr

end Sys2Proof.Machine
end

