-- ==== Sys2Proof/Machine/TypesMedia.lean ====
section
/-!
DEFINITION. The data of the scheduler, the flash channels, the bays and the read channel: die-queue entries and the
operation on a die (R154 to R167), bay power state (R192 to R196), reads in flight with their codewords on the recovery
ladder (R216 to R269), decoder engines, trims and probes.
-/

namespace Sys2Proof.Machine

/-- The pass of a program (R199): PROG_D4, COARSE or FINE. -/
inductive Pass where
  | single | coarse | fine
deriving DecidableEq, Repr

/-- The ladder steps of R168. -/
inductive Step where
  | hard | bracket | cancel | erasure | rebuild
deriving DecidableEq, Repr

/-- The account an entry's TIME is charged to (R158): a function, or the device account. -/
inductive Acct where
  | func (n : Nat)
  | device
deriving DecidableEq, Repr

/-- What a die-queue entry does (R154): the hard sense of a read, the senses of one ladder step of a read, one offset sense of a
tracking probe, one sense of a sentinel of the die, the program of one half-row, or the erase of one block, given by its block number on each plane. -/
inductive EntryOp where
  | sense (rd : Nat)
  | stepSense (rd : Nat) (step : Step)
  | probe (up : Bool)
  | survey (index : Nat) (code : Int)
  | program (pzn hr member : Nat) (pass : Pass)
  | erase (blocks : List (Nat × Nat))
deriving DecidableEq, Repr

/-- One entry of a die queue (R154 to R156). `order` is its arrival number in the queue; `charged` says that its TIME has been charged at an
earlier issue (R159). -/
structure DieEntry where
  op : EntryOp
  tier : Tier
  acct : Acct
  cls : Cls
  deadline : Nat
  order : Nat
  charged : Bool
deriving DecidableEq, Repr

/-- One sense of an entry (R187, R229, R231, R234, R237): the bit-page, the offset code, whether it is an offset sense even at code 0, and whether its
transfer follows. -/
structure SenseStep where
  plane : Nat
  block : Nat
  wl : Nat
  bp : Nat
  code : Int
  soft : Bool
  out : Bool
deriving DecidableEq, Repr

/-- Where an issued entry stands on its die: its command waits for the channel, its data is going in, the array is busy, or the data of a sense is
coming out. -/
inductive OpStage where
  | command | dataIn | busy | dataOut
deriving DecidableEq, Repr

/-- An issued entry (R157, R160, R206 to R208): the tokens it holds, how many of them from the read reserve, its stage, its senses with the number of the one
in hand, the transfers they have brought and the bytes of the one that runs, the time run before its last resume and the moment of its issue or that resume,
when it is polled next and whether that poll confirms a resume, its Print and Negative suspends, the moment of suspension where it is suspended, and the
bursts still to come of the transfer in hand. -/
structure Running where
  entry : DieEntry
  power : Nat
  fromReserve : Nat
  stage : OpStage
  senses : List SenseStep
  index : Nat
  got : List (List Byte)
  part : List Byte
  ranBefore : Nat
  busySince : Nat
  pollAt : Nat
  confirming : Bool
  suspends : Nat
  suspendedAt : Option Nat
  burstsLeft : Nat
deriving DecidableEq, Repr

/-- What the channel has granted a die and not yet had from it: the answer of a status poll, or one burst of data out (R184). -/
inductive Grant where
  | poll | burst
deriving DecidableEq, Repr

/-- A die-time balance in µs (R158). -/
structure Balance where
  acct : Acct
  value : Int
deriving DecidableEq, Repr

/-- What SCH and the channel sequencer keep for one die: its queue, the entry that occupies it, a program or erase it holds
suspended, a suspend decided and not yet confirmed with its start (`suspSent` once its command is out, `suspLate` once it has been found late), a resume decided
and not yet sent, the balances, whether a ready entry waits for tokens, what the channel owes it, and the read offset its LUN is set to (R187). An entry
stays in `queue` until it is issued; those beyond the places of R154 wait for one in their order. -/
structure Die where
  queue : List DieEntry
  current : Option Running
  suspended : Option Running
  suspending : Option Nat
  balances : List Balance
  suspSent : Bool
  suspLate : Bool
  resuming : Bool
  tokenWait : Bool
  granted : Option Grant
  offset : Int
deriving DecidableEq, Repr

/-- The power condition of a bay (R192 to R196). -/
inductive BayPhase where
  | off | requested | waitPg | waitTpor | initialising | ready | poweringDown | failed
deriving DecidableEq, Repr

/-- One bay: its phase, when BAY_PWR_EN rose, BAY_PG as synchronised, whether it has been identified since COLD or SHELF,
whether a request waits for the end of a power-down, and since when its die queues are empty (R482). -/
structure Bay where
  phase : BayPhase
  since : Nat
  pg : Bool
  identified : Bool
  again : Bool
  emptySince : Nat
deriving DecidableEq, Repr

/-- The wedge outcomes of R224. -/
inductive WedgeOutcome where
  | found | shifted | early | missed
deriving DecidableEq, Repr

/-- The framing flags of R228, in their order. -/
inductive FrameFlag where
  | ok | shifted | hypothesis | coasted
deriving DecidableEq, Repr

/-- What RCH keeps of one wedge of a sense: its outcome, the shift its segment takes, the kept positions of an EARLY wedge with
their Hamming distances, and the 8,192 bytes of wedge and segment as sensed. -/
structure WedgeState where
  outcome : WedgeOutcome
  shift : Int
  kept : List (Int × Nat)
  bytes : List Byte
deriving DecidableEq, Repr

/-- Where one codeword of a read stands on the ladder. -/
inductive CwPhase where
  | waitInput | ready | inEngine | headerOk | opened | failed | waitRebuild | abandoned
deriving DecidableEq, Repr

/-- A REBUILD of one codeword (R265): members still to deliver, the exclusive OR so far, whether it was raced and the path in sequence has failed and awaits
it, and whether it has failed or is done. -/
structure Rebuild where
  left : List Nat
  sum : List Byte
  raced : Bool
  awaited : Bool
  failed : Bool
  done : Bool
deriving DecidableEq, Repr

/-- One codeword of a read in flight: its index in the bit-page, the block of the command it serves, its ladder step, phase,
the engine it runs on with the input and the framing flag (R228) it entered it with, a REBUILD where one was started, the word last decoded, the corrected
bits of its hard decode, the highest step it reached, and its place in the order in which codewords became ready (R257). -/
structure Cw where
  idx : Nat
  block : Nat
  hostOff : Nat
  step : Step
  phase : CwPhase
  engine : Option Nat
  rebuild : Option Rebuild
  word : List Byte
  corrected : Option Nat
  input : List Int
  flag : FrameFlag
  topStep : Step
  turn : Nat
deriving DecidableEq, Repr

/-- Whose read it is: a command's, a REBUILD member's (read, codeword, member), a probe's, a retention scan's, a relocation's,
or another management read. -/
inductive ReadOwner where
  | command (slot : Nat)
  | member (rd cw member : Nat)
  | scan (ezn : Nat)
  | reloc (pzn : Nat)
  | management
deriving DecidableEq, Repr

/-- A read of one bit-page in flight (R216 to R229, R262): its place, owner, class, deadline, center code and age bin fixed
at issue, wedges, whether every wedge is in (`sensed`), whether a page header was taken (`headerSeen`) and named another place, whether a tracking probe waits for
the rest of the page, whether its read report has gone out (R268), the soft planes and neighbour pages held, its codewords, and its zone as the resolve found it. -/
structure ReadOp where
  owner : ReadOwner
  die : Nat
  member : Nat
  plane : Nat
  block : Nat
  wl : Nat
  bp : Nat
  tier : Tier
  pzn : Nat
  ezn : Nat
  cls : Cls
  deadline : Nat
  acct : Acct
  bin : Nat
  center : Int
  issued : Bool
  sensed : Bool
  headerSeen : Bool
  headerBad : Bool
  probeDue : Bool
  reported : Bool
  progOph : Nat
  wedges : Sparse WedgeState
  planes : List (List Byte)
  neighbours : List (List Byte)
  stepsIssued : List Step
  stepsReady : List Step
  limitedRetry : Bool
  cws : List Cw
  home : Resolved
deriving DecidableEq, Repr

/-- A tracking probe queued or running on a die (R231, R232): the bit-page, what triggered it and the trim and table entry it was judged
against, the strip mismatches of the triggering sense and of both probe senses by wedge, and the wedges framed without coasting in
all of them; and the wedges of the probe sense that is coming in. -/
structure Probe where
  tier : Tier
  bin : Nat
  plane : Nat
  block : Nat
  wl : Nat
  bp : Nat
  center : Int
  trim : Int
  ttab : Int
  e0 : List Nat
  low : List Nat
  high : List Nat
  framed : List Nat
  wedges : Sparse WedgeState
deriving DecidableEq, Repr

/-- The per-die counts of one epoch (R228, R238, R246, R269). -/
structure DieCounts where
  found : Nat
  shifted : Nat
  early : Nat
  missed : Nat
  fogPartial : Nat
  probes : Nat
  burns : Nat
  dodges : Nat
  hardOk : Nat
  hardFail : Nat
  softOk : Nat
  softFail : Nat
  rebuildOk : Nat
  rebuildFail : Nat
  miscorrect : Nat
  unrecovered : Nat
  corrBits : Nat
  maxCorr : Nat
deriving DecidableEq, Repr

/-- An RD_PAGE buffer in use (R372, R375): the die whose transfer fills it, and the reads that use what it holds. -/
structure PageHold where
  buf : Nat
  die : Option Nat
  reads : List Nat
deriving DecidableEq, Repr

/-- The read channel in PD_DATA: reads in flight, trims by (die, tier, bin), sets with a parity error, probes by die, the
corrected-bit history of R231 by die and tier, live and latched counts by die, the engines: busy and out of use, the count of codewords that became ready, and
the RD_PAGE buffers in use. -/
structure RchState where
  reads : Sparse ReadOp
  trims : Sparse Word
  trimBad : List Nat
  probes : Sparse Probe
  history : Sparse (List Nat)
  live : Sparse DieCounts
  latched : Sparse DieCounts
  hardBusy : List Nat
  softBusy : List Nat
  hardOff : List Nat
  softOff : List Nat
  turn : Nat
  pages : List PageHold
deriving DecidableEq, Repr

/-- The scheduler in PD_DATA: dies, the arrival counter of entries, and the effective cap's power state is read from
PMU_STATE. `reserveOff` marks the SAFELIGHT padding of R490. `parked` are the entries an entry to STANDBY or SAFELIGHT has taken from the die queues, with their
dies, until the queues are back (R195, R488). -/
structure SchState where
  dies : Sparse Die
  nextOrder : Nat
  reserveOff : Bool
  parked : List (Nat × DieEntry)
deriving DecidableEq, Repr

/-- The bays and what the channel sequencers hold: bays by number, the last BAY_PWR_EN rise, and the channels whose retraining, still to come, fails (R210). -/
structure BayState where
  bays : Sparse Bay
  lastRise : Option Nat
  trainFails : List Nat
deriving DecidableEq, Repr

end Sys2Proof.Machine
end

