-- ==== Sys2Proof/Machine/TypesAon.lean ====
section
/-!
DEFINITION. The data of the always-on domain and of the Contact Sheet: counters and stamps (R16), straps, the doorbell shadow
(R101), the mirror (R102), the MCTP front end (R121), power sequencing (R484 to R494), the Last-Resort Sequencer
(R501 to R506) and the event recorder (R520 to R531).
-/

namespace Sys2Proof.Machine

/-- The power domains of R32; bay n's domain follows the bay. -/
inductive Domain where
  | sec | host | data | mgmt | dmc | slk
deriving DecidableEq, Repr

/-- The straps as latched at COLD or SHELF (R36): PROFILE_SEL, ROLE (0 STANDALONE, 1 CHAIN_MASTER, 2 CHAIN_MEMBER, 3 HIERARCHY; R541) and DEV_ID. -/
structure Straps where
  profileSel : Nat
  role : Nat
  devId : Nat
deriving DecidableEq, Repr

/-- An event as its port holds it: trigger, instance, master ID and snapshot words (R520, R523). -/
structure Event where
  trigger : Nat
  inst : Nat
  master : Nat
  words : List (BitVec 32)
deriving DecidableEq, Repr

/-- An entry of the capture FIFO: the event with its time stamp and its MISSED value (R520, R525). -/
structure Captured where
  event : Event
  ophours : Nat
  pwrcyc : Nat
  sub : Nat
  missed : Nat
deriving DecidableEq, Repr

/-- A reader's cursor and window (R529): position, WSTAT code, the 64 bytes of the window, and whether the record that is being fetched has been released (R531). -/
structure CshReader where
  pos : Nat
  wstat : Nat
  win : List Byte
  released : Bool
deriving DecidableEq, Repr

/-- The Contact Sheet: event ports that hold an event, the 32-entry capture FIFO, staging (64-byte records, oldest first), the
last SEQ assigned, the readers by master ID, and the SEQ values of the ring records oldest first (R527, R530). -/
structure CshState where
  ports : List Event
  fifo : List Captured
  staging : List (List Byte)
  seq : Nat
  readers : Sparse CshReader
  ringSeqs : List Nat
deriving DecidableEq, Repr

/-- The counters of PD_AON: µs since COLD, the SCH time base, the last epoch tick on the first, OPHOURS in 1/256 hour, PWRCYC,
SUB, the Timestamp's ms count and origin, and whether the board has powered the device before (R16, R27, R64, R96, R155). Log 152 (DESIGN CHOICE). -/
structure Clocks where
  us : Nat
  sch : Nat
  lastTick : Nat
  ophours : Nat
  pwrcyc : Nat
  subBase : Nat
  stampMs : Nat
  stampAt : Nat
  stampSet : Bool
  powered : Bool
deriving DecidableEq, Repr

/-- A request to the PMU (PENDING encoding of R510). -/
inductive PmuReq where
  | active | idle | standby | safelight | wake
deriving DecidableEq, Repr

/-- Where the change in flight stands: none; an ACTIVE to IDLE change; an entry at step 2, at the padding of R490, at the firmware's step 3, at
step 4, 5, 6 or 7 of R488; an exit. Step 1 is done when the request is accepted. -/
inductive PmuStep where
  | none | activeIdle | drain | pad | firmware | bays | save | selfRefresh | off | exiting
deriving DecidableEq, Repr

/-- The PMU beside its registers: which domains are on, the step of the change in flight, its target and the pending request (R486);
the SCH time base and epoch count saved at step 5 (R64); the exit of R491 that runs into a SAFELIGHT entry; the zones the padding of R490 has
closed; the NVMe power state before a non-operational one; and OFF, the absence of VDD_AON (R483). -/
structure PmuState where
  on : List Domain
  flight : PmuStep
  target : PmuReq
  pending : Option PmuReq
  savedSch : Nat
  savedEpoch : Nat
  viaExit : Bool
  padded : List Nat
  opPs : Nat
  off : Bool
deriving DecidableEq, Repr

/-- The LRS phases of R502, R506. -/
inductive LrsPhase where
  | watching | takeover | restart | hold
deriving DecidableEq, Repr

/-- The LRS beside RST_LRS: its phase, the last heartbeat of each core on the µs count, which cores have written RST_HB since
their release, a boot that stopped, and the reset pins asserted. -/
structure LrsState where
  phase : LrsPhase
  beats : List Nat
  written : List Nat
  sinceFailure : Nat
  bootStopped : Bool
  shelfReset : Bool
  perst : Bool
deriving DecidableEq, Repr

/-- Entries into the throttle levels HALF and STOPPED and the µs spent in each (R617). -/
structure Thermal where
  half : Nat
  stopped : Nat
  halfUs : Nat
  stoppedUs : Nat
deriving DecidableEq, Repr

/-- A packet at the MCTP front end (R120, R121): its bytes, and the PF admin command it completes where it tunnels one. -/
structure MctpPacket where
  bytes : List Byte
  admin : Option Sqe
deriving DecidableEq, Repr

/-- The doorbell shadow and the mirror: valid shadow entries (key: function × 2^17 + queue × 2 + 1 for a CQ head), CC writes
held in the mirror by function, the Host Interface Events page with its LOST count, and the packets held at the MCTP front
end (R101, R102, R116, R121). -/
structure AonHost where
  shadow : Sparse Nat
  heldCc : Sparse DWord
  events : List HieEntry
  lost : Nat
  mctp : List MctpPacket
  thermal : Thermal
deriving DecidableEq, Repr

end Sys2Proof.Machine
end

