-- ==== Sys2Proof/Machine/TypesMhm.lean ====
section
/-!
DEFINITION. The data of media health: the Block Record Table (R275, R276), the read accumulator (R281), walks (R279), scans and
refresh candidates (R283, R284), relocations (R285), spare copies (R290), fog maps (R297), the Off-time History (R299),
sentinels and their survey (R301 to R305).
-/

namespace Sys2Proof.Machine

/-- KIND of a block-plane (R276). -/
inductive BlockKind where
  | user | spareFree | spareAssigned | bad
deriving DecidableEq, Repr

/-- COND of a block-plane (R276). -/
inductive BlockCond where
  | erased | opened | written | dirty
deriving DecidableEq, Repr

/-- A record of the Block Record Table (R276); `tier` 3 is never programmed, `chk` the stored check byte. Log 200 (DESIGN CHOICE). -/
structure BrtRecord where
  kind : BlockKind
  cond : BlockCond
  partialFlag : Bool
  fogExt : Bool
  tier : Nat
  wlDone : Nat
  ptemp : Nat
  owner : Nat
  pe : Nat
  mapSeq : Nat
  progOph : Nat
  reads : Nat
  chk : Byte
deriving DecidableEq, Repr

/-- A request to the update queue (R278): the record index, and the whole record a core writes or the sense counts the
accumulator adds. -/
inductive BrtUpdate where
  | write (index : Nat) (record : BrtRecord)
  | addReads (index count : Nat)
deriving DecidableEq, Repr

/-- The causes of a refresh, in the priority order of R284. -/
inductive RefreshCause where
  | evacuate | substFull | bayLoss | rebuilt | step | corr | disturb | unknownAge | age | coldProg | wear
deriving DecidableEq, Repr

/-- A queued refresh candidate (R284). -/
structure Candidate where
  ezn : Nat
  cause : RefreshCause
  order : Nat
deriving DecidableEq, Repr

/-- A relocation in progress (R285): the zone, the target, the cause, the slots lost so far, the half-rows of the source it copies, and the
class and deadline its device-account entries carry (R156). -/
structure Reloc where
  ezn : Nat
  target : Nat
  cause : RefreshCause
  lost : List Nat
  rows : Nat
  cls : Cls
  deadline : Nat
deriving DecidableEq, Repr

/-- A spare copy in progress (R290): the zone's member and plane, the failed block and the spare, and the failed word line. -/
structure SpareCopy where
  pzn : Nat
  member : Nat
  plane : Nat
  failed : Nat
  spare : Nat
  wl : Nat
deriving DecidableEq, Repr

/-- A fog entry (R222): first cell, run, and whether it is ERASE (else WEAK). -/
structure FogEntry where
  cell : Nat
  run : Nat
  isErase : Bool
deriving DecidableEq, Repr

/-- An entry of the Off-time History (R299). Log 133 (DEDUCED). -/
structure HistEntry where
  ophUp : Nat
  offsum : Nat
  pwrcyc : Nat
  source : Nat
  unknown : Bool
  off : Nat
deriving DecidableEq, Repr

/-- A sentinel (R301). -/
structure Sentinel where
  plane : Nat
  block : Nat
  wl : Nat
  bp : Nat
  tier : Tier
  progOph : Nat
deriving DecidableEq, Repr

/-- The media health state. `doomed` lists the physical zones to be withdrawn once their zone has left them (R290). Log 8 (DESIGN CHOICE). -/
structure MhmState where
  brt : Sparse BrtRecord
  brtHeld : List Nat
  acc : List (Nat × Nat)
  updateQ : List BrtUpdate
  walkFifo : List Nat
  scanTable : Sparse Nat
  scanQueue : List Nat
  scanNext : Nat
  scanCount : Nat
  candidates : List Candidate
  nextOrder : Nat
  relocs : Sparse Reloc
  copies : List SpareCopy
  withdrawn : List Nat
  doomed : List Nat
  timeouts : Sparse Nat
  lowestPe : Sparse Nat
deriving DecidableEq, Repr

/-- The survey's work on one sentinel (R302): per sense the code, the strip mismatches over the wedges framed without coasting and how many those were; and the
wedges of the sense that is coming in. -/
structure SurveyWork where
  senses : List (Int × Nat × Nat)
  wedges : Sparse WedgeState
deriving DecidableEq, Repr

/-- Fog, history and survey state of media health. `survey` holds the sentinels under survey by die × 4 + place. Survey estimates are in 24.8 fixed-point hours. `stampLast` is the journal's
last Timestamp record: ms and OPHOURS (R304); `decidedAt` OPHOURS at the decision of R305, `decidedTwice`
its second and last one; `fwStart` the µs count when management firmware started (R307). Log 131 (DESIGN CHOICE). -/
structure MhmAge where
  fogMap : Sparse (List FogEntry)
  fogExt : Sparse (List FogEntry)
  history : List HistEntry
  sentinels : Sparse (List Sentinel)
  survey : Sparse SurveyWork
  estimates : List Int
  surveyed : Nat
  stampLast : Option (Nat × Nat)
  stampNew : Option (Nat × Nat)
  holdHi : Bool
  holdD4 : Bool
  composite : Int
  decidedAt : Nat
  decidedTwice : Bool
  fwStart : Nat
deriving DecidableEq, Repr

end Sys2Proof.Machine
end

