-- ==== Sys2Proof/Machine/TypesMep.lean ====
section
/-!
DEFINITION. The data of the integrity path: blocks in the ingest buffer, staged blocks, blocks in the read pool (R319), the merge
buffer (R330, R331), and the byte memories of DRAM and SRAM with the bytes whose parity is bad (R328, R329).
-/

namespace Sys2Proof.Machine

open Sys2Proof

/-- A block in the SRAM ingest buffer (R319, R322): its ING buffer, the plaintext as it stands there, its ICRC, the bytes whose parity is bad,
and the re-reads and fetches spent on it. -/
structure IngestBlock where
  buf : Nat
  data : List Byte
  icrc : BitVec 32
  parityBad : List Nat
  reread : Bool
  fetches : Nat
deriving DecidableEq, Repr

/-- A staged block with its 32 metadata bytes (R251, R381): header, SEQ, SEAL and TAG; the bytes whose parity is bad; the re-sends spent
on it; and whether a pass of its half-row has begun on some member (R323). -/
structure StagedBlock where
  data : List Byte
  header : Word
  seq : BitVec 32
  sealCrc : BitVec 32
  tag : BitVec 128
  parityBad : List Nat
  metaBad : Bool
  resends : Nat
  resending : Bool
deriving DecidableEq, Repr

/-- An opened block in the Saddlebag read pool (R172, R319): its RD_BLOCK buffer, plaintext, OCRC, bytes whose parity is bad, egress re-sends. -/
structure PoolBlock where
  buf : Nat
  data : List Byte
  ocrc : BitVec 32
  parityBad : List Nat
  resends : Nat
deriving DecidableEq, Repr

/-- A merge-buffer entry: the line as merged so far, the bytes written into it, whether the fill read has come, the bytes the fill read
found bad, when it was allocated and when last used (R331, R332). -/
structure MergeEntry where
  bytes : List Byte
  bad : List Nat
  since : Nat
  used : Nat
deriving DecidableEq, Repr

/-- A Burnisher scrub (R335, R338): the next line, lines and bytes in error so far, and the first and last line in error. -/
structure Scrub where
  next : Nat
  errLines : Nat
  errBytes : Nat
  first : Nat
  last : Nat
deriving DecidableEq, Repr

/-- The integrity state. Ingest, pool: key slot × 256 + block. Staged: key PZN × 2^20 + slot. A DRAM address is a data address (R347). -/
structure MepState where
  ingest : Sparse IngestBlock
  staged : Sparse StagedBlock
  pool : Sparse PoolBlock
  merge : Sparse MergeEntry
  mergeClock : Nat
  dram : Sparse Byte
  dramBad : List Nat
  sramBad : List Nat
  scrub : Scrub
deriving DecidableEq, Repr

end Sys2Proof.Machine
end

