-- ==== Sys2Proof/Machine/TypesDmc.lean ====
section
/-!
DEFINITION. The data of the DRAM controller (chapter 11) and of the Saddlebag pools (chapter 12).
-/

namespace Sys2Proof.Machine

open Sys2Proof

/-- A request in a channel's queue (R355 to R357): the master, the data address of its line, a write's 64 bytes, whether it came on the LRS
path, its bypass count and its order of acceptance. -/
structure DramReq where
  master : Nat
  addr : Nat
  data : Option (List Byte)
  lrs : Bool
  bypass : Nat
  order : Nat
deriving DecidableEq, Repr

/-- A read's data in a reorder buffer (R357): its order of acceptance, channel, master, address, bytes and the failing ones. -/
structure DramResp where
  order : Nat
  channel : Nat
  master : Nat
  addr : Nat
  bytes : List Byte
  bad : List Nat
deriving DecidableEq, Repr

/-- An entry of a channel's parity cache: the group, the slots whose parity bytes it holds dirty, and its last use (R351). -/
structure ParityEntry where
  group : Nat
  dirty : List Nat
  used : Nat
deriving DecidableEq, Repr

/-- One DRAM channel: queues, a write drain under way, open rows by bank (key rank x 16 + bank group x 4 + bank), the parity cache,
refreshes postponed by bank, failed trainings, and the accesses the fabric holds while a queue is full. -/
structure DramChan where
  readQ : List DramReq
  writeQ : List DramReq
  draining : Bool
  rows : Sparse Nat
  parity : List ParityEntry
  postponed : Sparse Nat
  trainFails : Nat
  waiting : List DramAccess
deriving DecidableEq, Repr

/-- The DRAM controller beside its registers: channels, reorder buffers, the request counter, polls in a row that reported a lower rate with the
highest they reported, channels due a tracking read after a change of MULT, whether the array is in self-refresh and with
the masks of R360, whether the regions lost in SAFELIGHT hold undefined bytes (with the draw that stands for them), the training store
of PD_AON (whether it holds values, a parity error in it), and whether the device was filled since COLD or SHELF. -/
structure DmcState where
  chans : Sparse DramChan
  resps : List DramResp
  nextOrder : Nat
  lowPolls : Nat
  lowMult : Nat
  trackDue : List Nat
  selfRefresh : Bool
  masked : Bool
  lost : Option Nat
  storeValid : Bool
  storeBad : Bool
  filled : Bool
deriving DecidableEq, Repr

/-- One Saddlebag class (R376, R379): head index, state bits (listed when allocated), link words that differ from the ascending list,
whether a rebuild runs or the class is stopped, the frees that wait for it, and, of a DRAM class, the draw that stands for the bytes of each buffer allocated
since the fill (R377). -/
structure Pool where
  head : Nat
  bits : Sparse Bool
  links : Sparse Word
  rebuilding : Bool
  stopped : Bool
  queuedFrees : List Nat
  drawn : Sparse Nat
deriving DecidableEq, Repr

/-- A waiting request for a buffer (R375): requester, group, size, deadline. -/
structure PoolWait where
  requester : Nat
  group : Nat
  size : Nat
  deadline : Nat
deriving DecidableEq, Repr

/-- A die-parity accumulator (R382): its WR_PAR buffer, zone, half-row, bit-page pair index v, the data slots entered, its 8 parts, when a slot last
entered. -/
structure Accum where
  buf : Nat
  pzn : Nat
  hr : Nat
  v : Nat
  slots : List Nat
  parts : List (List Byte)
  since : Nat
  written : Bool
deriving DecidableEq, Repr

/-- The Saddlebag state: pools by class, waiting requests in order of arrival, accumulators, parity groups written per half-row, granule lists of the
reservation blocks by block number, and SBG_ALLOC_RESULT by master (R387). Log 8 (DESIGN CHOICE). -/
structure SbgState where
  pools : Sparse Pool
  waits : List PoolWait
  accums : List Accum
  parityBlocks : Sparse (List Byte)
  granules : Sparse (List Nat)
  results : Sparse Word
deriving DecidableEq, Repr

end Sys2Proof.Machine
end

