-- ==== Sys2Proof/Machine/TypesSec.lean ====
section
/-!
DEFINITION. The data of the cipher engine and the Tack Room (chapter 13).
-/

namespace Sys2Proof.Machine

open Sys2Proof

/-- A context's state in the directory (R399). -/
inductive CtxCond where
  | free | idle | block | revoked
deriving DecidableEq, Repr

/-- The block in progress of a context (R397): command slot and block it seals, nonce, bytes processed, partial GHASH, pending plaintext,
ciphertext so far, running SEAL and ICRC, and the key version it began under. -/
structure CtxBlock where
  cmd : Nat
  blk : Nat
  nonce : BitVec 96
  done : Nat
  ghash : BitVec 128
  part : List Byte
  cipher : List Byte
  sealRun : BitVec 32
  icrcRun : BitVec 32
  version : Nat
deriving DecidableEq, Repr

/-- A cipher context (R397, R399, R401): directory state, residence, EZN and key slot, last use, the block in progress, and TKR's copy of the PARK_COUNT
of its last park. The parked slot itself lies in DRAM (R400). -/
structure Ctx where
  cond : CtxCond
  resident : Bool
  ezn : Nat
  keySlot : Nat
  used : Nat
  blk : Option CtxBlock
  tkrCount : Nat
deriving DecidableEq, Repr

/-- A request on the key request queue (R405): slot, deadline, and the arrival order. -/
structure KeyReq where
  keySlot : Nat
  deadline : Nat
  order : Nat
deriving DecidableEq, Repr

/-- An expanded key in CPH's cache: slot, slot version, last use (R404). -/
structure CachedKey where
  keySlot : Nat
  version : Nat
  used : Nat
deriving DecidableEq, Repr

/-- A retired copy of a key (R411). -/
structure RetiredKey where
  keySlot : Nat
  version : Nat
  value : BitVec 256
  since : Nat
deriving DecidableEq, Repr

/-- The results of a TKR command (R420). -/
inductive TkrResult where
  | ok | zeroLength | range | notAllowed | locked | unwrapFail | empty | unchanged
deriving DecidableEq, Repr

/-- The cipher engine: contexts by index, the use counter, key cache, key requests, management descriptors, pipes out of use. -/
structure CphState where
  ctxs : Sparse Ctx
  useClock : Nat
  keyCache : List CachedKey
  keyReqs : List KeyReq
  mreqs : List (Nat × Nat)
  pipesOff : List Nat
  parkClock : Nat
deriving DecidableEq, Repr

/-- The Tack Room: LOADED slots with their values, slot versions, retired copies, a command that waits for a retired register. -/
structure TkrState where
  slots : Sparse (BitVec 256)
  versions : Sparse Nat
  retired : List RetiredKey
  waiting : Bool
deriving DecidableEq, Repr

end Sys2Proof.Machine
end

