-- ==== Sys2Proof/Machine/TypesSys.lean ====
section
/-!
DEFINITION. The data of the mailboxes (chapter 15), of the Saosh link (chapter 18) and of the boot SPI NOR and the profiles
(chapter 19).
-/

namespace Sys2Proof.Machine

open Sys2Proof

/-- The states of a mailbox channel (R462). -/
inductive ChanState where
  | unbound | idle | claimed | full
deriving DecidableEq, Repr

/-- One mailbox channel (R459, R462, R471): its state, the holder or sender, LEN and the sixteen words of a message, and the marks
ORPHAN, RX_RESET and ZERO_LEN. Its binding is MBX_BIND. -/
structure Chan where
  st : ChanState
  holder : Nat
  len : Nat
  words : List DWord
  orphan : Bool
  rxReset : Bool
  zeroLen : Bool
deriving DecidableEq, Repr

/-- The mailbox block: channels, and the banked MBX_DONE and MBX_MASK by master ID (R476). -/
structure MbxState where
  chans : Sparse Chan
  done : Sparse Word
  mask : Sparse Word
deriving DecidableEq, Repr

/-- The states of a Saosh port (R574). -/
inductive PortState where
  | off | train | up | down | failed
deriving DecidableEq, Repr

/-- A MSG flit: SEQ, class and message bytes (R549, R551), and where its message comes from: 0 this device, p + 1 a message that port p passes on and
whose credit goes back once the flit leaves (R553), p + 5 one that port p passed on before it went down. -/
structure Flit where
  seq : Nat
  rsp : Bool
  first : Bool
  last : Bool
  payload : List Byte
  origin : Nat
deriving DecidableEq, Repr

/-- Where the message goes that a port receives in a class: none is under way, it is for this device, it is discarded, or it leaves by a port (R547, R555, R572). -/
inductive Inflow where
  | none | take | drop | pass (p : Nat)
deriving DecidableEq, Repr

/-- One port beside SLK_PORT_STAT (R547 to R553): since when it trains, whether IDENT was accepted, whether it has retrained once,
the next SEQ to send and the next expected, whether a NAK was sent since the last accepted flit, the unacknowledged flits
oldest first, NAKs in a row with the ACK they named, the last flit that passed CRC, credits held, flits waiting for a
credit or for the replay buffer, credits owed to the peer, the message bytes received of an unfinished message by class, the origin of the message of each
class whose flits have begun to leave and not ended (R553), and where the message of each class goes that has begun to arrive. `txSeq` and `rxSeq` count flits; SEQ is the count modulo 4,096. -/
structure Port where
  st : PortState
  since : Nat
  retrained : Bool
  txSeq : Nat
  rxSeq : Nat
  nakSent : Bool
  replay : List Flit
  nakRun : Nat
  nakAck : Nat
  lastGood : Nat
  credReq : Nat
  credRsp : Nat
  queue : List Flit
  owedReq : Nat
  owedRsp : Nat
  asmReq : List Byte
  asmRsp : List Byte
  openReq : Option Nat
  openRsp : Option Nat
  wayReq : Inflow
  wayRsp : Inflow
deriving DecidableEq, Repr

/-- The states of a peer (R564); `none` before it joins. -/
inductive PeerCond where
  | none | live | departed | lost | removed
deriving DecidableEq, Repr

/-- What a device keeps of a peer (R556, R557, R562, R564): its state, DEV_UID, the pair key's message counts, the last PEER_HB from it,
the moment of the leader's wake while it is departed, and since when it is lost. -/
structure Peer where
  cond : PeerCond
  uid : BitVec 64
  txCount : Nat
  rxCount : Nat
  lastHb : Nat
  wakeAt : Option Nat
  lostAt : Nat
deriving DecidableEq, Repr

/-- A command this member admitted for the leader: the slot that serves it, the leader, the request TAG (R559), and whether it came as
ADMIN, which ADMIN_CPL answers (R560). -/
structure FwdIn where
  slot : Nat
  src : Nat
  tag : Nat
  admin : Bool
deriving DecidableEq, Repr

/-- The Saosh state: ports, peers, the highest term seen (R568), tags of the requests this leader sent (tag to slot), commands it
serves for its leader, slots that wait for ADMIN_CPL with the devices that owe one, the last PEER_HB sent, the leader state mirrored here (R560: namespaces,
deadlines by class), a claim whose takeover is still to come (R569, R570), the CSR_REQ accesses outstanding (tag to master), the
private key of the JOIN sent last, and when it was sent (R556), and whether it steps down and still completes the commands it has admitted (R571). -/
structure SlkState where
  ports : Sparse Port
  peers : Sparse Peer
  term : Nat
  nextTag : Nat
  sentTags : Sparse Nat
  served : List FwdIn
  adminWaits : Sparse (List Nat)
  hbSentAt : Nat
  mirrorNs : Sparse Namespace
  mirrorDeadlines : Sparse Nat
  claimed : Bool
  csrTags : Sparse Nat
  eph : Option Nat
  triedAt : Option Nat
  stepping : Bool
deriving DecidableEq, Repr

/-- A boot record of the SPI NOR (R581). -/
structure BootRecord where
  magic : BitVec 32
  seq : Nat
  activeSlot : Nat
  nextProfile : Nat
  nextValid : Bool
  lastProfile : Nat
  crc : BitVec 32
deriving DecidableEq, Repr

/-- A firmware slot: the security and the management image as stored, empty where erased (R428, R580). -/
structure FwSlot where
  security : List Byte
  management : List Byte
deriving DecidableEq, Repr

/-- The boot SPI NOR: both boot records, the migration key payload, four profile regions, the Contact Sheet ring by record place, both
firmware slots; and a program or erase in progress with the writer that waits behind it (R529, R580, R587). -/
structure NorState where
  recA : BootRecord
  recB : BootRecord
  migKey : List Byte
  profiles : Sparse (List Byte)
  slots : Sparse FwSlot
  busy : Bool
  writers : List Nat
deriving DecidableEq, Repr

/-- What PRF holds of the active profile (R588): the descriptors, the tiers it enables and the FCH_CTRL writes. -/
structure PrfState where
  descs : List (List Byte)
  tiers : Nat
  fchWrites : Sparse Word
deriving DecidableEq, Repr

/-- The OTP fields (R423): a root key hash is absent while its fuses are not programmed. Log 213 (DESIGN CHOICE). -/
structure Otp where
  uds : BitVec 256
  devUid : BitVec 64
  rootHash : List (Option (BitVec 256))
  revoke : Nat
  arb : Nat
  lc : Nat
  debugHash : BitVec 256
  baysEn : Nat
  corrected : Nat
deriving DecidableEq, Repr

/-- What the security core keeps (R425, R427 to R432, R439): the SHA-384 of the running security firmware image, its FLAGS and SVN, what
GET_MEASUREMENTS measures by index, the lifecycle nonce with the moment it was issued, the hash of the management image loaded into
DRAM, alias certificates issued, whether MC0 to MC7 are released, and whether the boot under
way follows a WARM reset. -/
structure SecState where
  secDigest : List Byte
  secFlags : Nat
  secSvn : Nat
  measured : Sparse (List Byte)
  nonce : Option (List Byte × Nat)
  mgmtHash : List Byte
  aliasSerial : Nat
  released : Bool
  warmBoot : Bool
deriving DecidableEq, Repr

/-- The debug port beside DBG_UNLOCK (R441 to R445): DBG_RESP as written, the moment of CHAL_READY, and the cores it
holds halted. -/
structure DbgState where
  resp : Sparse DWord
  chalAt : Nat
  halted : List Nat
deriving DecidableEq, Repr

/-- An SPDM session (R122): its ID, whether FINISH has completed the handshake, the secret of its phase and the hash of the transcript that goes into its
keys, and the records received and sent in this phase. -/
structure SpdmSession where
  id : Nat
  finished : Bool
  secret : List Byte
  script : List Byte
  rx : Nat
  tx : Nat
deriving DecidableEq, Repr

/-- The SPDM responder of one transport, 0 the DOE mailbox and 1 MCTP (R122): how far the connection has come, the requester's transfer size,
the signing curve, the hash and the key exchange curve negotiated (true: P-384 and SHA-384; no key exchange without a curve and AES-256-GCM), the transcript, its sessions, and a large message in chunks with
its next chunk number. -/
structure Spdm where
  version : Bool
  capabilities : Bool
  negotiated : Bool
  transfer : Nat
  curve384 : Bool
  hash384 : Bool
  dhe384 : Option Bool
  script : List Byte
  sessions : List SpdmSession
  chunks : List Byte
  chunkSeq : Nat
deriving DecidableEq, Repr

/-- The NVMe-MI responder (R120): the configuration values by identifier and port. Log 144 (DESIGN CHOICE). -/
structure MiState where
  config : Sparse Nat
deriving DecidableEq, Repr

end Sys2Proof.Machine
end

