-- ==== Sys2Proof/Machine/TypesOut.lean ====
section
/-!
DEFINITION. What ZRS and the metadata journal hold (chapter 2), and the outputs of a command: what the outside of the block
observes while the command runs.
-/

namespace Sys2Proof.Machine

open Sys2Proof

/-- The zone resolver (R34, R42, R44, R51 to R54, R73, R76, R78, R79): Zone Map and Zone State Table, CAM, the EZNs in the cache oldest first,
zones held after a fault, contexts still sealing, reservation blocks by number, ready lists by stitch group, the last-used
group of each bay, programs by PZN, Resets and Finishes and paddings that wait, the slots held for a zone in the order held (R54), and
the count of writes for R51. Log 8 (DESIGN CHOICE). -/
structure ZrsState where
  map : Sparse ZoneMapEntry
  zst : Sparse ZstEntry
  cam : Sparse CamEntry
  cache : List Nat
  heldZones : List Nat
  linger : List LingerCtx
  resv : Sparse ResvBlock
  ready : Sparse (List Nat)
  lastGroup : Sparse Nat
  progs : Sparse ZoneProg
  ops : Sparse ZoneOp
  padReqs : Sparse PadReq
  held : List Nat
  writeClock : Nat
deriving DecidableEq, Repr

/-- One record of the metadata journal (R58, R128, R304, R568, R577). -/
inductive JRec where
  | zone (ezn : Nat) (z : ZoneJournal)
  | ns (nsid : Nat) (n : Option Namespace)
  | term (t : Nat)
  | removed (bits : Nat)
  | stamp (ms ophours : Nat)
  | release (pzn : Nat)
deriving DecidableEq, Repr

/-- The metadata journal (R58): the physical zones that hold it, the block index of its next page there and their sequence epoch (R252, R394), what its programmed
pages hold, the records that wait for the next page, and since when. -/
structure Journal where
  home : List Nat
  page : Nat
  epoch : Nat
  zones : Sparse ZoneJournal
  nss : Sparse Namespace
  term : Nat
  removed : Nat
  stamp : Option (Nat × Nat)
  waiting : List JRec
  waitSince : Option Nat
deriving DecidableEq, Repr

/-- How the pins of a channel are driven (R197): the rail is absent, the isolation clamps hold them, or the channel logic drives them. -/
inductive PadDrive where
  | unpowered | clamped | driven
deriving DecidableEq, Repr

/-- The pins of a channel (R197): how they are driven, CE_N[3:0] and WP_N as the channel logic drives them, and whether NV-LP4 is selected (R192). Log 167 (DESIGN CHOICE), 195 (PRESUMED). -/
structure ChanPads where
  drive : PadDrive
  ceN : Nat
  wpN : Bool
  fast : Bool
deriving DecidableEq, Repr

/-- A pin of a channel (R197). -/
inductive ChanPin where
  | ceN (e : Nat) | wpN | cle | ale | weN | reT | reC | dqsT | dqsC | dq (i : Nat)
deriving DecidableEq, Repr

/-- How the pins of the DRAM channels are driven (R361): clamped with RESET_N low, clamped with RESET_N high, or by the DMC. -/
inductive DdrDrive where
  | reset | clamped | driven
deriving DecidableEq, Repr

/-- A pin of a DRAM channel (R361). -/
inductive DdrPin where
  | resetN | cs (rank : Nat) | ca (i : Nat) | ckT | ckC | wckT (k : Nat) | wckC (k : Nat) | dq (i : Nat) | dmi (k : Nat) | rdqs (k : Nat)
deriving DecidableEq, Repr

/-- Output pins whose level the spec gives (R501, R505, R506, R601); of the serial lanes' transmitters, whether they are driven or in electrical idle (R495,
R543, R601). -/
inductive Pin where
  | shelfHb | shelfAlertN | bayPwrEn (bay : Nat) | clkreqN | miAlertN | spiResetN | debugSignal | pcieTx | slkTx (port : Nat)
deriving DecidableEq, Repr

/-- The levels of the output pins that follow from the state: SHELF_ALERT_N driven low (R506), BAY_PWR_EN by bay (R192), the pins of each channel (R197),
those of the DRAM channels (R361), PCIE_CLKREQ_N and MI_ALERT_N driven low (R601), whether the PCIe transmitters are driven and those of which Saosh ports are, all others being in electrical idle, and the high time in ms of the SHELF_HB pulse of this second, 0 where the pin has no edge (R505). Log 167 (DESIGN CHOICE). -/
structure Pins where
  shelfAlertLow : Bool
  bayPwrEn : Nat
  chans : Sparse ChanPads
  ddr : DdrDrive
  clkreqLow : Bool
  miAlertLow : Bool
  shelfHbMs : Nat
  pcieTx : Bool
  slkTx : Nat
deriving DecidableEq, Repr

/-- The features of a die that the interface selection sets (R182). -/
inductive Feature where
  | interface | driveStrength | termination
deriving DecidableEq, Repr

/-- What the channel sequencers send to a die (R181 to R191, R199 to R210): command, address, parameter and data-in cycles of the operations the descriptor
gives, and the operations that ONFI itself defines. Log 195 (PRESUMED). -/
inductive DieCmd where
  | command (code : Nat)
  | address (bytes : List Byte)
  | parameter (bytes : List Byte)
  | dataIn (bytes : List Byte)
  | resetTarget
  | resetLun (row : List Byte)
  | readId
  | readParameterPage
  | setFeatures (f : Feature) (value : Nat)
  | getFeatures (f : Feature)
  | zqCalibration
  | dccTraining
  | readTraining
  | writeTraining
deriving DecidableEq, Repr

/-- The read report of R268: place, tier, age bin, PROG_OPH, the strip mismatches by wedge (R221), the highest corrected-bit count and the highest step. -/
structure ReadReport where
  die : Nat
  block : Nat
  plane : Nat
  wl : Nat
  bp : Nat
  tier : Tier
  bin : Nat
  progOph : Nat
  strips : List (Nat × Nat)
  corrected : Nat
  step : Nat
deriving DecidableEq, Repr

/-- Commands on a DRAM channel (R351, R355, R359). -/
inductive DramOp where
  | activate | precharge | read | write | parityRead | parityWrite (slots : List Nat) (bytes : List Byte) | refresh
deriving DecidableEq, Repr

/-- What the outside of the block observes of one command. `interrupt` and the response outputs name the master by ID (R14). Log 5 (DESIGN CHOICE). -/
inductive Output where
  | completion (func sqid cid : Nat) (status : Status) (dnr : Bool) (dw0 dw1 : DWord)
  | msix (func vector : Nat)
  | hostData (func cid : Nat) (bytes : List Byte)
  | hostBlock (func cid block : Nat) (bytes : List Byte)
  | hostWrite (addr : Nat) (bytes : List Byte)
  | hostRead (addr bytes : Nat)
  | hostFetch (slot block : Nat)
  | shadowRead (func sqid entry count : Nat)
  | barRead (func : Nat) (value : Word)
  | configRead (func : Nat) (item : ConfigItem) (value : Nat)
  | completerAbort (func offset : Nat)
  | errorResponse (master addr : Nat)
  | readResponse (master : Nat) (value : Word)
  | interrupt (master : Nat)
  | pin (p : Pin) (level : Bool)
  | die (die : Nat) (cmd : DieCmd)
  | pads (channel : Nat) (p : ChanPads)
  | ddrPads (d : DdrDrive)
  | readReport (r : ReadReport)
  | dropped (die : Nat) (e : DieEntry)
  | mctp (bytes : List Byte)
  | spdm (code : Nat) (fields : List (Nat × List Byte))
  | doe (bytes : List Byte)
  | slkFlit (port : Nat) (bytes : List Byte)
  | debugRead (addr : Nat) (value : Word)
  | dramResponse (master addr : Nat) (bytes : List Byte) (bad : List Nat)
  | dram (channel bank row column : Nat) (op : DramOp)
  | buffer (requester cls index : Nat)
  | systemPage (header : Word)
  | note (what : String) (arg : Nat)
deriving DecidableEq, Repr

end Sys2Proof.Machine
end

