-- ==== Sys2Proof/Machine/State.lean ====
section
/-!
DEFINITION. The state of the device: every register, table, queue, memory, pin and counter the spec gives it, and the queue of the
commands that wait. `State.reset` is the device right after the rise of VDD_AON with every domain but the bays and
PD_SLK on, nothing booted, nothing stored.
-/

namespace Sys2Proof.Machine

open Sys2Proof

/-- The device. `regs` holds the registers (R7, R626) by CSR address, a register at its reset value unlisted; `shadow` the pending
writes of epoch-shadowed registers (R28); `out` what the last command showed the outside; `free` counts the free values
drawn (the model's own field, no state of the spec); `pending` the commands that wait, first in first out. Log 6 (DESIGN CHOICE). -/
structure State where
  regs : Sparse Word
  shadow : Sparse Word
  clk : Clocks
  straps : Straps
  pmu : PmuState
  lrs : LrsState
  aon : AonHost
  csh : CshState
  hif : HifState
  vfm : VfmState
  nss : Sparse Namespace
  zrs : ZrsState
  jrn : Journal
  sch : SchState
  bay : BayState
  rch : RchState
  mhm : MhmState
  age : MhmAge
  mep : MepState
  dmc : DmcState
  sbg : SbgState
  cph : CphState
  tkr : TkrState
  otp : Otp
  sec : SecState
  dbg : DbgState
  spdm : Sparse Spdm
  mi : MiState
  mbx : MbxState
  slk : SlkState
  nor : NorState
  prf : PrfState
  pins : Pins
  free : Nat
  out : List Output
  pending : List Instr
deriving DecidableEq, Repr

/-- The faults of the block. None: an access the spec refuses is answered with the error response it names, and the device goes on,
so no command ends in a fault. -/
inductive Fault where
deriving DecidableEq, Repr

/-- The refusals of the block. `notModelled` is raised by an arm of `exec` whose command has no meaning yet; it is safe: no statement
about that command can be proved. -/
inductive Refusal where
  | notModelled (mnemonic : String)
deriving DecidableEq, Repr

/-- The device right after the rise of VDD_AON (R499): PD_AON, PD_SEC, PD_HOST, PD_DATA and PD_DMC on, the cores in reset, no image, profile or
namespace stored, nothing booted. Straps and fuses, which the spec leaves to the board and the factory, are those the log names: STANDALONE, DEV_ID 0,
profile 0, four bays, PROVISIONED. `regs` lists SYS_ID, RST_LRS (STATE 1), SEC_LC (PROVISIONED) and PRF_BOOT (STAGE 2); every other register holds the
reset value of its table. Log 9, 10, 11 (DESIGN CHOICE). -/
def State.reset : State :=
  { regs := [(0x1000000000, 0xFB0), (0x1000200010, 0x8140A), (0x1000700000, 0x1), (0x1001700010, 0x2)], shadow := [],
    clk := ⟨0, 0, 0, 0, 1, 0, 0, 0, false, true⟩, straps := ⟨0, 0, 0⟩,
    pmu := ⟨[.sec, .host, .data, .dmc], .none, .active, none, 0, 0, false, [], 0, false⟩,
    lrs := ⟨.watching, List.replicate 8 0, [], 0, false, false, false⟩,
    aon := ⟨[], [], [], 0, [], ⟨0, 0, 0, 0⟩⟩, csh := ⟨[], [], [], 0, [], []⟩,
    hif := ⟨[], [], [], 0, ⟨none, false, false, false, false, [], [], false⟩, 0, [], true, true, true, false⟩,
    vfm := ⟨false, 0, false, false, 0, false, false, [], [], [50, 500, 5000, 100000], [], none, false, none⟩,
    nss := [], zrs := ⟨[], [], [], [], [], [], [], [], [], [], [], [], [], 0⟩,
    jrn := ⟨[4094, 4095], 0, 0, [], [], 0, 0, none, [], none⟩, sch := ⟨[], 0, false, []⟩, bay := ⟨[], none, []⟩,
    rch := ⟨[], [], [], [], [], [], [], [], [], [], [], 0, []⟩, mhm := ⟨[], [], [], [], [], [], [], 0, 0, [], 0, [], [], [], [], [], []⟩,
    age := ⟨[], [], [⟨0, 0, 1, 0, false, 0⟩], [], [], [], 0, none, none, false, false, 0, 0, false, 0⟩,
    mep := ⟨[], [], [], [], 0, [], [], [], ⟨0, 0, 0, 0, 0⟩⟩,
    dmc := ⟨[], [], 0, 0, 0, [], false, false, none, false, false, false⟩, sbg := ⟨[], [], [], [], [], []⟩,
    cph := ⟨[], 0, [], [], [], [], 0⟩, tkr := ⟨[], [], [], false⟩,
    otp := ⟨0, 0, [], 0, 0, 1, 0, 0xF, 0⟩, sec := ⟨[], 0, 0, [], none, [], 0, false, false⟩, dbg := ⟨[], 0, []⟩, spdm := [], mi := ⟨[]⟩,
    mbx := ⟨[], [], []⟩, slk := ⟨[], [], 0, 0, [], [], [], 0, [], [], false, [], none, none, false⟩,
    nor := ⟨⟨0, 0, 0, 0, false, 0, 0⟩, ⟨0, 0, 0, 0, false, 0, 0⟩, [], [], [], false, []⟩, prf := ⟨[], 0, []⟩,
    pins := ⟨false, 0, [], .reset, false, false, 0, true, 0⟩, free := 0, out := [], pending := [] }

end Sys2Proof.Machine
end

