-- ==== Sys2Proof/Machine/Operands.lean ====
section
/-!
DEFINITION. The operands of a command: what each command reads from the Dwords of its submission-queue entry (R90, R105 to R110, and
the NVMe and Zoned Namespace fields they name).
-/

namespace Sys2Proof.Machine

open Sys2Proof

/-- Dword 10 to 15 of an entry as numbers. -/
def dw10 (q : Sqe) : Nat := q.cdw10.toNat
def dw11 (q : Sqe) : Nat := q.cdw11.toNat
def dw12 (q : Sqe) : Nat := q.cdw12.toNat
def dw13 (q : Sqe) : Nat := q.cdw13.toNat
def dw14 (q : Sqe) : Nat := q.cdw14.toNat
def dw15 (q : Sqe) : Nat := q.cdw15.toNat

/-- SLBA or ZSLBA, Dwords 10 and 11. -/
def slba (q : Sqe) : Nat := dw10 q + dw11 q * 2 ^ 32

/-- Blocks of an I/O command: the zero-based NLB of Dword 12 plus one. -/
def nlb (q : Sqe) : Nat := dw12 q % 65536 + 1

/-- The deadline class of Dword 13 bits [31:30] (R105). -/
def clsOf (n : Nat) : Cls :=
  if n = 0 then .proof else if n = 1 then .print else if n = 2 then .negative else .vault

/-- The class number (R105). -/
def clsNum : Cls → Nat
  | .proof => 0
  | .print => 1
  | .negative => 2
  | .vault => 3

/-- DCLASS of Dword 13. -/
def dclass (q : Sqe) : Cls := clsOf (field (dw13 q) 31 30)

/-- Limited Retry, Dword 12 bit 31. -/
def limitedRetry (q : Sqe) : Bool := bitAt (dw12 q) 31

/-- The tier of a number, where it names one (R2, R110, R126). -/
def tierOf (n : Nat) : Option Tier :=
  if n = 0 then some .d4 else if n = 1 then some .d5 else if n = 2 then some .d6 else none

/-- The tier's number. -/
def tierNum : Tier → Nat
  | .d4 => 0
  | .d5 => 1
  | .d6 => 2

/-- Placed Zone Append: every reserved bit is zero (R107). -/
def pzaReservedZero (q : Sqe) : Bool :=
  field (dw12 q) 29 16 == 0 && field (dw13 q) 29 16 == 0 && field (dw13 q) 7 3 == 0 && dw15 q == 0

/-- Placed Zone Append fields (R107). -/
def pzaErc (q : Sqe) : Nat := field (dw13 q) 15 14
def pzaGroup (q : Sqe) : Nat := field (dw13 q) 13 8
def pzaGrpValid (q : Sqe) : Bool := bitAt (dw13 q) 2
def pzaAlign (q : Sqe) : Bool := bitAt (dw13 q) 1
def pzaPadAfter (q : Sqe) : Bool := bitAt (dw13 q) 0
def pzaCoKey (q : Sqe) : Nat := dw14 q

/-- Zone Open Tiered: every reserved bit is zero (R110). -/
def zotReservedZero (q : Sqe) : Bool :=
  field (dw12 q) 31 18 == 0 && field (dw12 q) 15 14 == 0 && field (dw12 q) 7 5 == 0 && field (dw12 q) 3 2 == 0 &&
    dw14 q == 0 && dw15 q == 0

/-- Zone Open Tiered fields (R110). -/
def zotErc (q : Sqe) : Nat := field (dw12 q) 17 16
def zotGroup (q : Sqe) : Nat := field (dw12 q) 13 8
def zotGrpValid (q : Sqe) : Bool := bitAt (dw12 q) 4
def zotTier (q : Sqe) : Option Tier := tierOf (field (dw12 q) 1 0)
def zotCoKey (q : Sqe) : Nat := dw13 q

/-- Zone Management Send: the action of Dword 13 bits [7:0] (1 Close, 2 Finish, 3 Open, 4 Reset, 5 Offline) and Select All, bit 8. -/
def zsa (q : Sqe) : Nat := dw13 q % 256
def selectAll (q : Sqe) : Bool := bitAt (dw13 q) 8

/-- Zone Management Receive: the action, the reporting option and Partial Report of Dword 13; Dwords of data from Dword 12, zero-based. -/
def zra (q : Sqe) : Nat := dw13 q % 256
def zrasf (q : Sqe) : Nat := field (dw13 q) 15 8
def partialReport (q : Sqe) : Bool := bitAt (dw13 q) 16
def zmrDwords (q : Sqe) : Nat := dw12 q + 1

/-- Queue creation and deletion: queue identifier, size less one, completion queue, vector and interrupt enable. -/
def qidOf (q : Sqe) : Nat := dw10 q % 65536
def qsize (q : Sqe) : Nat := dw10 q / 65536
def sqCqid (q : Sqe) : Nat := dw11 q / 65536
def qContiguous (q : Sqe) : Bool := bitAt (dw11 q) 0
def cqVector (q : Sqe) : Nat := dw11 q / 65536
def cqIen (q : Sqe) : Bool := bitAt (dw11 q) 1

/-- Get Log Page: LID, Retain Asynchronous Event, Dwords (zero-based), Log Specific Identifier and offset in bytes. -/
def logId (q : Sqe) : Nat := dw10 q % 256
def rae (q : Sqe) : Bool := bitAt (dw10 q) 15
def logDwords (q : Sqe) : Nat := dw10 q / 65536 + dw11 q % 65536 * 65536 + 1
def logLsi (q : Sqe) : Nat := dw11 q / 65536
def logOffset (q : Sqe) : Nat := dw12 q + dw13 q * 2 ^ 32

/-- Set and Get Features: the identifier and Save. -/
def fid (q : Sqe) : Nat := dw10 q % 256
def featSave (q : Sqe) : Bool := bitAt (dw10 q) 31

/-- Temperature Threshold (R94): the sensor, 0 the composite temperature, and the threshold, 0 over and 1 under. -/
def tmpSel (q : Sqe) : Nat := field (dw11 q) 19 16
def thSel (q : Sqe) : Nat := field (dw11 q) 21 20

/-- Security Send and Receive: protocol, SP Specific, NSSF and transfer or allocation length. -/
def secp (q : Sqe) : Nat := field (dw10 q) 31 24
def spsp (q : Sqe) : Nat := field (dw10 q) 23 8
def nssf (q : Sqe) : Nat := dw10 q % 256
def secLen (q : Sqe) : Nat := dw11 q

/-- Firmware Commit: slot and action. Firmware Image Download: Dwords (zero-based) and offset in Dwords. -/
def fwSlot (q : Sqe) : Nat := field (dw10 q) 2 0
def fwAction (q : Sqe) : Nat := field (dw10 q) 5 3
def fwDwords (q : Sqe) : Nat := dw10 q + 1
def fwOffset (q : Sqe) : Nat := dw11 q

/-- Sanitize action: 1 Exit Failure Mode, 2 Block Erase, 3 Overwrite, 4 Crypto Erase. -/
def sanAct (q : Sqe) : Nat := field (dw10 q) 2 0

/-- Virtualization Management: action and controller. -/
def virtAct (q : Sqe) : Nat := field (dw10 q) 3 0
def virtCntl (q : Sqe) : Nat := dw10 q / 65536

/-- Namespace Management and Attachment: the selection of Dword 10 bits [3:0]. -/
def nsSel (q : Sqe) : Nat := field (dw10 q) 3 0

/-- Abort: the submission queue and command named. -/
def abortSq (q : Sqe) : Nat := dw10 q % 65536
def abortCid (q : Sqe) : Nat := dw10 q / 65536

/-- The opcode as a number. -/
def opc (q : Sqe) : Nat := q.opc.toNat

/-- A supported admin opcode, and whether only the PF may issue it (R90). -/
def adminOpcode (o : Nat) : Option Bool :=
  if [0x00, 0x01, 0x02, 0x04, 0x05, 0x06, 0x08, 0x09, 0x0A, 0x0C, 0x81, 0x82].contains o then some false
  else if [0x0D, 0x10, 0x11, 0x14, 0x15, 0x1C, 0x1D, 0x1E, 0x84].contains o then some true
  else none

/-- A supported I/O opcode (R90). -/
def ioOpcode (o : Nat) : Bool := [0x00, 0x01, 0x02, 0x0C, 0x79, 0x7A, 0x7D, 0x81, 0x85].contains o

/-- What an I/O command does once ZRS takes it. -/
def ioKind (q : Sqe) : CmdKind :=
  match opc q with
  | 0x00 => .flush
  | 0x01 => .write
  | 0x02 => .read
  | 0x0C => .verify
  | 0x7A => .report
  | 0x7D => .append
  | 0x81 => .placedAppend
  | 0x85 => .openTiered
  | 0x79 => match zsa q with
    | 1 => .close
    | 2 => .finish
    | 3 => .open
    | 4 => .reset
    | 5 => .offline
    | _ => .none
  | _ => .none

/-- A write in the sense of R49: Write, Zone Append or Placed Zone Append. -/
def isWriteKind : CmdKind → Bool
  | .write | .append | .placedAppend => true
  | _ => false

/-- A Read or Verify. -/
def isReadKind : CmdKind → Bool
  | .read | .verify => true
  | _ => false

end Sys2Proof.Machine
end

