-- ==== Sys2Proof/Machine/Flags.lean ====
section
/-!
DEFINITION. The status a completion carries: status code type and code, and the Do Not Retry bit (R112, R627).
-/

namespace Sys2Proof.Machine

/-- Status code type and status code; `zoneHeld` is the Internal Error of a zone held for repair. The vendor codes are those of R112; the others those of NVMe 2.0 and the ZNS command set 1.1. Log 21 (PRESUMED). -/
def statusCode : Status → Nat × Nat
  | .success => (0, 0x00)
  | .invalidOpcode => (0, 0x01)
  | .invalidField => (0, 0x02)
  | .dataTransferError => (0, 0x04)
  | .internalError | .zoneHeld => (0, 0x06)
  | .abortRequested => (0, 0x07)
  | .abortedSqDeletion => (0, 0x08)
  | .invalidNamespace => (0, 0x0B)
  | .commandSequenceError => (0, 0x0C)
  | .sanitizeFailed => (0, 0x1C)
  | .sanitizeInProgress => (0, 0x1D)
  | .lbaOutOfRange => (0, 0x80)
  | .completionQueueInvalid => (1, 0x00)
  | .invalidQueueId => (1, 0x01)
  | .invalidQueueSize => (1, 0x02)
  | .abortLimitExceeded => (1, 0x03)
  | .aerLimitExceeded => (1, 0x05)
  | .invalidFirmwareSlot => (1, 0x06)
  | .invalidFirmwareImage => (1, 0x07)
  | .invalidInterruptVector => (1, 0x08)
  | .invalidLogPage => (1, 0x09)
  | .invalidQueueDeletion => (1, 0x0C)
  | .featureNotSaveable => (1, 0x0D)
  | .firmwareNeedsReset => (1, 0x0B)
  | .overlappingRange => (1, 0x14)
  | .namespaceInsufficientCapacity => (1, 0x15)
  | .namespaceIdUnavailable => (1, 0x16)
  | .namespaceAlreadyAttached => (1, 0x18)
  | .namespaceNotAttached => (1, 0x1A)
  | .controllerListInvalid => (1, 0x1C)
  | .selfTestInProgress => (1, 0x1D)
  | .firmwareProhibited => (1, 0x13)
  | .invalidControllerId => (1, 0x1F)
  | .invalidSecondaryState => (1, 0x20)
  | .invalidResourceId => (1, 0x22)
  | .zoneBoundaryError => (1, 0xB8)
  | .zoneIsFull => (1, 0xB9)
  | .zoneIsReadOnly => (1, 0xBA)
  | .zoneIsOffline => (1, 0xBB)
  | .zoneInvalidWrite => (1, 0xBC)
  | .tooManyActiveZones => (1, 0xBD)
  | .tooManyOpenZones => (1, 0xBE)
  | .invalidZoneStateTransition => (1, 0xBF)
  | .writeFault => (2, 0x80)
  | .unrecoveredReadError => (2, 0x81)
  | .accessDenied => (2, 0x86)
  | .keyRevoked => (7, 0xC0)
  | .deadlineMissed => (7, 0xC1)
  | .tierUnsupported => (7, 0xC2)
  | .zoneEpochExhausted => (7, 0xC3)
  | .functionStopped => (7, 0xC4)
  | .retentionUnknown => (7, 0xC5)
  | .poweredOffAccess => (7, 0xC6)
  | .cascadeMemberLost => (7, 0xC7)
  | .zeroLength => (7, 0xC8)

/-- Do Not Retry of a completion (R112, R627). Data Transfer Error depends on the direction; Success carries none. -/
def statusDnr (ofWrite : Bool) : Status → Bool
  | .success => false
  | .keyRevoked | .tierUnsupported | .zoneEpochExhausted => true
  | .deadlineMissed | .functionStopped | .retentionUnknown | .poweredOffAccess | .cascadeMemberLost | .zeroLength => false
  | .tooManyActiveZones | .tooManyOpenZones | .sanitizeInProgress | .zoneHeld | .abortedSqDeletion | .abortRequested => false
  | .dataTransferError => ofWrite
  | _ => true

end Sys2Proof.Machine
end

