-- ==== Sys2Proof/Config.lean ====
section
/-!
DEFINITION. What an implementation fixes and the spec leaves open. The values are free: they have no body, so no statement can rest
on a choice of them.
-/

namespace Sys2Proof

/-- The k-th free value: a random draw of the random bit generator, a value the spec leaves undefined or does not state. The model
draws them in order, counted by the state's `free`. Log 12 (DESIGN CHOICE). -/
opaque Config.freeNat : Nat → Nat

/-- What DRAM holds at an address whose content the `n`-th SAFELIGHT left undefined (R354). Log 7 (DESIGN CHOICE). -/
opaque Config.freeByte : (n addr : Nat) → BitVec 8

/-- Data whose form the spec leaves to a published standard and does not give (certificates, SPDM capability fields, VPD): the
bytes of item `item` in version `n`. Log 21 (PRESUMED), 23 (DESIGN CHOICE). -/
opaque Config.standardBytes : (item n : Nat) → List Byte

/-- The size of the board's boot SPI NOR in MiB, as its JESD216 table gives it (R580). Log 102 (DESIGN CHOICE). -/
opaque Config.norMib : Nat

end Sys2Proof
end

