-- ==== Sys2Proof/Machine/RegTypes.lean ====
section
/-!
DEFINITION. The types of the register tables: access codes (R8), the weakest reset that clears a field (R10), the
low-power column (R12), a field, a register or register array, and a named field of one register.
-/

namespace Sys2Proof.Machine

/-- The access codes of R8. -/
inductive Access where
  | rw | ro | wo | w1c | w1s | rc | rwl | key
deriving DecidableEq, Repr

/-- The weakest reset that returns a field to its reset value (R10); `never` marks OTP and persistent flash. -/
inductive ClearedBy where
  | never | cold | shelf | warm | cluster
deriving DecidableEq, Repr

/-- The forms of the Low-power column (R12). `restored` is "restored after STANDBY and SAFELIGHT";
`restoredThenLost` is "restored after STANDBY, lost in SAFELIGHT" (R390). -/
inductive LowPower where
  | kept | lostStandby | lostSafelight | restored | restoredSafelight | restoredThenLost
deriving DecidableEq, Repr

/-- One field of a register: bits [hi:lo], access, reset value, clearing reset, low-power form. -/
structure FieldDef where
  hi : Nat
  lo : Nat
  access : Access
  reset : Nat
  cleared : ClearedBy
  lowPower : LowPower
deriving DecidableEq, Repr

/-- One register, or an array of registers: `dims` lists (stride, count) for each index, outermost first. -/
structure RegDef where
  name : String
  base : Nat
  dims : List (Nat × Nat)
  wide : Bool
  shadowed : Bool
  perIndex : List Nat
  fields : List FieldDef
deriving DecidableEq, Repr

/-- A named field: the CSR address of its register and its bits [hi:lo]. -/
structure Fld where
  addr : Nat
  hi : Nat
  lo : Nat
deriving DecidableEq, Repr

end Sys2Proof.Machine
end

