-- ==== Sys2Proof/Machine/Fields.lean ====
section
/-!
DEFINITION. A name for every field of every register: the register's CSR address (R619, R626), and the field's bits
as the register table of the cited rule gives them. The meanings read and write registers through these names only.
-/

namespace Sys2Proof.Machine

/-- SYS_ID.PROFILE_SEL (R36). -/
def F.sysId_profileSel : Fld := ⟨0x1000000000, 19, 18⟩
/-- SYS_ID.ROLE (R36). -/
def F.sysId_role : Fld := ⟨0x1000000000, 17, 16⟩
/-- SYS_ID.DEV_ID (R36). -/
def F.sysId_devId : Fld := ⟨0x1000000000, 15, 12⟩
/-- SYS_ID.BAYS_EN (R36). -/
def F.sysId_baysEn : Fld := ⟨0x1000000000, 11, 8⟩
/-- SYS_ID.STEPPING (R36). -/
def F.sysId_stepping : Fld := ⟨0x1000000000, 7, 0⟩
/-- SYS_EPOCH.COUNT (R37). -/
def F.sysEpoch_count : Fld := ⟨0x1000000008, 31, 0⟩
/-- SYS_TEMP.PEAK (R618). -/
def F.sysTemp_peak : Fld := ⟨0x1000000010, 31, 24⟩
/-- SYS_TEMP.THROTTLE (R618). -/
def F.sysTemp_throttle : Fld := ⟨0x1000000010, 17, 16⟩
/-- SYS_TEMP.SENSOR (R618). -/
def F.sysTemp_sensor : Fld := ⟨0x1000000010, 10, 8⟩
/-- SYS_TEMP.COMPOSITE (R618). -/
def F.sysTemp_composite : Fld := ⟨0x1000000010, 7, 0⟩
/-- PMU_STATE.PENDING (R510). -/
def F.pmuState_pending : Fld := ⟨0x1000100000, 26, 24⟩
/-- PMU_STATE.STEP (R510). -/
def F.pmuState_step : Fld := ⟨0x1000100000, 23, 20⟩
/-- PMU_STATE.ABORTING (R510). -/
def F.pmuState_aborting : Fld := ⟨0x1000100000, 19, 19⟩
/-- PMU_STATE.TARGET (R510). -/
def F.pmuState_target : Fld := ⟨0x1000100000, 18, 16⟩
/-- PMU_STATE.PS (R510). -/
def F.pmuState_ps : Fld := ⟨0x1000100000, 14, 12⟩
/-- PMU_STATE.LAST_OP (R510). -/
def F.pmuState_lastOp : Fld := ⟨0x1000100000, 9, 8⟩
/-- PMU_STATE.STATE (R510). -/
def F.pmuState_state : Fld := ⟨0x1000100000, 1, 0⟩
/-- PMU_REQ.REQ (R511). -/
def F.pmuReq_req : Fld := ⟨0x1000100008, 2, 0⟩
/-- PMU_WAKE.PEER (R512). -/
def F.pmuWake_peer : Fld := ⟨0x1000100010, 5, 5⟩
/-- PMU_WAKE.REQUEST (R512). -/
def F.pmuWake_request : Fld := ⟨0x1000100010, 4, 4⟩
/-- PMU_WAKE.MAILBOX (R512). -/
def F.pmuWake_mailbox : Fld := ⟨0x1000100010, 3, 3⟩
/-- PMU_WAKE.MCTP (R512). -/
def F.pmuWake_mctp : Fld := ⟨0x1000100010, 2, 2⟩
/-- PMU_WAKE.CC (R512). -/
def F.pmuWake_cc : Fld := ⟨0x1000100010, 1, 1⟩
/-- PMU_WAKE.DOORBELL (R512). -/
def F.pmuWake_doorbell : Fld := ⟨0x1000100010, 0, 0⟩
/-- PMU_CLK.SEL (R513). -/
def F.pmuClk_sel : Fld := ⟨0x1000100020, 19, 16⟩
/-- PMU_CLK.LOCK (R513). -/
def F.pmuClk_lock : Fld := ⟨0x1000100020, 11, 8⟩
/-- PMU_CLK.EN (R513). -/
def F.pmuClk_en : Fld := ⟨0x1000100020, 3, 0⟩
/-- PMU_PWROFF.COUNT (R514). -/
def F.pmuPwroff_count : Fld := ⟨0x1000100030, 63, 52⟩
/-- PMU_PWROFF.VALID (R514). -/
def F.pmuPwroff_valid : Fld := ⟨0x1000100030, 51, 51⟩
/-- PMU_PWROFF.WRITE (R514). -/
def F.pmuPwroff_write : Fld := ⟨0x1000100030, 50, 50⟩
/-- PMU_PWROFF.MASTER (R514). -/
def F.pmuPwroff_master : Fld := ⟨0x1000100030, 46, 40⟩
/-- PMU_PWROFF.ADDR (R514). -/
def F.pmuPwroff_addr : Fld := ⟨0x1000100030, 39, 0⟩
/-- PMU_CFG.BAY_IDLE (R515). -/
def F.pmuCfg_bayIdle : Fld := ⟨0x1000100040, 15, 0⟩
/-- RST_CAUSE.HOLD (R516). -/
def F.rstCause_hold : Fld := ⟨0x1000200000, 5, 5⟩
/-- RST_CAUSE.CLUSTER_REQ (R516). -/
def F.rstCause_clusterReq : Fld := ⟨0x1000200000, 4, 4⟩
/-- RST_CAUSE.CLUSTER_LRS (R516). -/
def F.rstCause_clusterLrs : Fld := ⟨0x1000200000, 3, 3⟩
/-- RST_CAUSE.WARM (R516). -/
def F.rstCause_warm : Fld := ⟨0x1000200000, 2, 2⟩
/-- RST_CAUSE.SHELF (R516). -/
def F.rstCause_shelf : Fld := ⟨0x1000200000, 1, 1⟩
/-- RST_CAUSE.COLD (R516). -/
def F.rstCause_cold : Fld := ⟨0x1000200000, 0, 0⟩
/-- RST_CTRL.CLUSTER (R517). -/
def F.rstCtrl_cluster : Fld := ⟨0x1000200008, 0, 0⟩
/-- RST_LRS.LOCK (R518). -/
def F.rstLrs_lock : Fld := ⟨0x1000200010, 31, 31⟩
/-- RST_LRS.FATAL (R518). -/
def F.rstLrs_fatal : Fld := ⟨0x1000200010, 22, 22⟩
/-- RST_LRS.STATE (R518). -/
def F.rstLrs_state : Fld := ⟨0x1000200010, 21, 19⟩
/-- RST_LRS.RESTARTS (R518). -/
def F.rstLrs_restarts : Fld := ⟨0x1000200010, 17, 16⟩
/-- RST_LRS.BOOT_TIMEOUT (R518). -/
def F.rstLrs_bootTimeout : Fld := ⟨0x1000200010, 15, 8⟩
/-- RST_LRS.HB_TIMEOUT (R518). -/
def F.rstLrs_hbTimeout : Fld := ⟨0x1000200010, 7, 0⟩
/-- RST_HB.BEAT (R519). -/
def F.rstHb_beat (i : Nat) : Fld := ⟨0x1000200020 + 4 * i, 31, 0⟩
/-- MBX_BIND.VALID (R473). -/
def F.mbxBind_valid (i : Nat) : Fld := ⟨0x1000300000 + 4 * i, 31, 31⟩
/-- MBX_BIND.WAKE_B (R473). -/
def F.mbxBind_wakeB (i : Nat) : Fld := ⟨0x1000300000 + 4 * i, 30, 30⟩
/-- MBX_BIND.WAKE_A (R473). -/
def F.mbxBind_wakeA (i : Nat) : Fld := ⟨0x1000300000 + 4 * i, 29, 29⟩
/-- MBX_BIND.PARTY_B (R473). -/
def F.mbxBind_partyB (i : Nat) : Fld := ⟨0x1000300000 + 4 * i, 14, 8⟩
/-- MBX_BIND.PARTY_A (R473). -/
def F.mbxBind_partyA (i : Nat) : Fld := ⟨0x1000300000 + 4 * i, 6, 0⟩
/-- MBX_LOCK.BIND_LOCK (R474). -/
def F.mbxLock_bindLock : Fld := ⟨0x1000300100, 0, 0⟩
/-- MBX_ERR.ERR_COUNT (R475). -/
def F.mbxErr_errCount : Fld := ⟨0x1000300108, 31, 16⟩
/-- MBX_ERR.RX_RESET (R475). -/
def F.mbxErr_rxReset : Fld := ⟨0x1000300108, 4, 4⟩
/-- MBX_ERR.BIND_REFUSED (R475). -/
def F.mbxErr_bindRefused : Fld := ⟨0x1000300108, 3, 3⟩
/-- MBX_ERR.PROTOCOL (R475). -/
def F.mbxErr_protocol : Fld := ⟨0x1000300108, 2, 2⟩
/-- MBX_ERR.NOT_BOUND (R475). -/
def F.mbxErr_notBound : Fld := ⟨0x1000300108, 1, 1⟩
/-- MBX_ERR.ORPHANED (R475). -/
def F.mbxErr_orphaned : Fld := ⟨0x1000300108, 0, 0⟩
/-- MBX_PEND.PEND (R476). -/
def F.mbxPend_pend : Fld := ⟨0x1000300200, 63, 0⟩
/-- MBX_DONE.DONE (R476). -/
def F.mbxDone_done : Fld := ⟨0x1000300208, 63, 0⟩
/-- MBX_MASK.MASK (R476). -/
def F.mbxMask_mask : Fld := ⟨0x1000300210, 63, 0⟩
/-- MBX_CLAIM.RESULT (R477). -/
def F.mbxClaim_result (i : Nat) : Fld := ⟨0x1000301000 + 0x80 * i, 31, 30⟩
/-- MBX_CLAIM.HOLDER (R477). -/
def F.mbxClaim_holder (i : Nat) : Fld := ⟨0x1000301000 + 0x80 * i, 6, 0⟩
/-- MBX_STAT.STATE (R478). -/
def F.mbxStat_state (i : Nat) : Fld := ⟨0x1000301004 + 0x80 * i, 31, 30⟩
/-- MBX_STAT.ORPHAN (R478). -/
def F.mbxStat_orphan (i : Nat) : Fld := ⟨0x1000301004 + 0x80 * i, 29, 29⟩
/-- MBX_STAT.RX_RESET (R478). -/
def F.mbxStat_rxReset (i : Nat) : Fld := ⟨0x1000301004 + 0x80 * i, 28, 28⟩
/-- MBX_STAT.ZERO_LEN (R478). -/
def F.mbxStat_zeroLen (i : Nat) : Fld := ⟨0x1000301004 + 0x80 * i, 27, 27⟩
/-- MBX_STAT.LEN (R478). -/
def F.mbxStat_len (i : Nat) : Fld := ⟨0x1000301004 + 0x80 * i, 20, 16⟩
/-- MBX_STAT.SENDER (R478). -/
def F.mbxStat_sender (i : Nat) : Fld := ⟨0x1000301004 + 0x80 * i, 6, 0⟩
/-- MBX_CTRL.GO (R479). -/
def F.mbxCtrl_go (i : Nat) : Fld := ⟨0x1000301008 + 0x80 * i, 31, 31⟩
/-- MBX_CTRL.RELEASE (R479). -/
def F.mbxCtrl_release (i : Nat) : Fld := ⟨0x1000301008 + 0x80 * i, 30, 30⟩
/-- MBX_CTRL.RECALL (R479). -/
def F.mbxCtrl_recall (i : Nat) : Fld := ⟨0x1000301008 + 0x80 * i, 29, 29⟩
/-- MBX_CTRL.DISCARD (R479). -/
def F.mbxCtrl_discard (i : Nat) : Fld := ⟨0x1000301008 + 0x80 * i, 28, 28⟩
/-- MBX_CTRL.LEN (R479). -/
def F.mbxCtrl_len (i : Nat) : Fld := ⟨0x1000301008 + 0x80 * i, 4, 0⟩
/-- MBX_WORD.WORD (R480). -/
def F.mbxWord_word (i : Nat) (j : Nat) : Fld := ⟨0x1000301040 + 0x80 * i + 4 * j, 31, 0⟩
/-- CSH_STAT.OLDEST_SEQ (R533). -/
def F.cshStat_oldestSeq : Fld := ⟨0x1000400000, 63, 32⟩
/-- CSH_STAT.INIT (R533). -/
def F.cshStat_init : Fld := ⟨0x1000400000, 31, 31⟩
/-- CSH_STAT.STG_PARITY (R533). -/
def F.cshStat_stgParity : Fld := ⟨0x1000400000, 30, 30⟩
/-- CSH_STAT.CLEAR_STALE (R533). -/
def F.cshStat_clearStale : Fld := ⟨0x1000400000, 29, 29⟩
/-- CSH_STAT.DRAIN_STALE (R533). -/
def F.cshStat_drainStale : Fld := ⟨0x1000400000, 28, 28⟩
/-- CSH_STAT.STG_COUNT (R533). -/
def F.cshStat_stgCount : Fld := ⟨0x1000400000, 25, 15⟩
/-- CSH_STAT.RING_COUNT (R533). -/
def F.cshStat_ringCount : Fld := ⟨0x1000400000, 14, 0⟩
/-- CSH_LOST.LOST (R534). -/
def F.cshLost_lost : Fld := ⟨0x1000400008, 31, 0⟩
/-- CSH_CLEAR.OLDEST_SEQ (R535). -/
def F.cshClear_oldestSeq : Fld := ⟨0x1000400010, 63, 32⟩
/-- CSH_CLEAR.RESET_LOST (R535). -/
def F.cshClear_resetLost : Fld := ⟨0x1000400010, 31, 31⟩
/-- CSH_CLEAR.COUNT (R535). -/
def F.cshClear_count : Fld := ⟨0x1000400010, 14, 0⟩
/-- CSH_RING.BASE (R536). -/
def F.cshRing_base : Fld := ⟨0x1000400018, 39, 32⟩
/-- CSH_RING.OLD_SLOT (R536). -/
def F.cshRing_oldSlot : Fld := ⟨0x1000400018, 29, 16⟩
/-- CSH_RING.COUNT (R536). -/
def F.cshRing_count : Fld := ⟨0x1000400018, 14, 0⟩
/-- CSH_DRAIN.SEQ (R537). -/
def F.cshDrain_seq : Fld := ⟨0x1000400020, 31, 0⟩
/-- CSH_CURSOR.WSTAT (R538). -/
def F.cshCursor_wstat : Fld := ⟨0x1000400030, 31, 30⟩
/-- CSH_CURSOR.POS (R538). -/
def F.cshCursor_pos : Fld := ⟨0x1000400030, 14, 0⟩
/-- CSH_WIN.WORD (R539). -/
def F.cshWin_word (i : Nat) : Fld := ⟨0x1000400040 + 4 * i, 31, 0⟩
/-- CSH_MISSED.TOTAL (R540). -/
def F.cshMissed_total (i : Nat) : Fld := ⟨0x1000400104 + 4 * i, 31, 16⟩
/-- CSH_MISSED.PENDING (R540). -/
def F.cshMissed_pending (i : Nat) : Fld := ⟨0x1000400104 + 4 * i, 15, 0⟩
/-- TKR_CMD.GO (R419). -/
def F.tkrCmd_go : Fld := ⟨0x1000500000, 63, 63⟩
/-- TKR_CMD.OP (R419). -/
def F.tkrCmd_op : Fld := ⟨0x1000500000, 51, 48⟩
/-- TKR_CMD.COUNT (R419). -/
def F.tkrCmd_count : Fld := ⟨0x1000500000, 44, 32⟩
/-- TKR_CMD.WRAP_SLOT (R419). -/
def F.tkrCmd_wrapSlot : Fld := ⟨0x1000500000, 28, 16⟩
/-- TKR_CMD.SLOT (R419). -/
def F.tkrCmd_slot : Fld := ⟨0x1000500000, 12, 0⟩
/-- TKR_STAT.LOADED_COUNT (R420). -/
def F.tkrStat_loadedCount : Fld := ⟨0x1000500008, 28, 16⟩
/-- TKR_STAT.RETIRED_USED (R420). -/
def F.tkrStat_retiredUsed : Fld := ⟨0x1000500008, 14, 8⟩
/-- TKR_STAT.ALARM_LOCK (R420). -/
def F.tkrStat_alarmLock : Fld := ⟨0x1000500008, 5, 5⟩
/-- TKR_STAT.RESULT (R420). -/
def F.tkrStat_result : Fld := ⟨0x1000500008, 3, 0⟩
/-- TKR_ERR.REFUSED (R421). -/
def F.tkrErr_refused : Fld := ⟨0x1000500010, 2, 2⟩
/-- TKR_ERR.ZEROISE_FAIL (R421). -/
def F.tkrErr_zeroiseFail : Fld := ⟨0x1000500010, 1, 1⟩
/-- TKR_ERR.SLOT_PARITY (R421). -/
def F.tkrErr_slotParity : Fld := ⟨0x1000500010, 0, 0⟩
/-- TKR_DATA.WORD (R422). -/
def F.tkrData_word (i : Nat) : Fld := ⟨0x1000500040 + 4 * i, 31, 0⟩
/-- TKR_OUT.WORD (R422). -/
def F.tkrOut_word (i : Nat) : Fld := ⟨0x1000500080 + 4 * i, 31, 0⟩
/-- CPH_STAT.RESTORES (R416). -/
def F.cphStat_restores : Fld := ⟨0x1000600000, 63, 32⟩
/-- CPH_STAT.IN_PROGRESS (R416). -/
def F.cphStat_inProgress : Fld := ⟨0x1000600000, 20, 10⟩
/-- CPH_STAT.RESIDENT (R416). -/
def F.cphStat_resident : Fld := ⟨0x1000600000, 9, 0⟩
/-- CPH_ERR.REVOKED_OPS (R417). -/
def F.cphErr_revokedOps : Fld := ⟨0x1000600010, 31, 16⟩
/-- CPH_ERR.PIPES_OFF (R417). -/
def F.cphErr_pipesOff : Fld := ⟨0x1000600010, 15, 12⟩
/-- CPH_ERR.CTX_AUTH (R417). -/
def F.cphErr_ctxAuth : Fld := ⟨0x1000600010, 2, 2⟩
/-- CPH_ERR.PARITY (R417). -/
def F.cphErr_parity : Fld := ⟨0x1000600010, 1, 1⟩
/-- CPH_ERR.LOCKSTEP (R417). -/
def F.cphErr_lockstep : Fld := ⟨0x1000600010, 0, 0⟩
/-- CPH_MREQ.ADDR (R418). -/
def F.cphMreq_addr : Fld := ⟨0x1000600020, 35, 6⟩
/-- SEC_LC.LEVEL (R452). -/
def F.secLc_level : Fld := ⟨0x1000700000, 25, 24⟩
/-- SEC_LC.ARB (R452). -/
def F.secLc_arb : Fld := ⟨0x1000700000, 22, 16⟩
/-- SEC_LC.REVOKED (R452). -/
def F.secLc_revoked : Fld := ⟨0x1000700000, 15, 12⟩
/-- SEC_LC.ROOT_IDX (R452). -/
def F.secLc_rootIdx : Fld := ⟨0x1000700000, 11, 10⟩
/-- SEC_LC.FALLBACK (R452). -/
def F.secLc_fallback : Fld := ⟨0x1000700000, 9, 9⟩
/-- SEC_LC.BOOT_SLOT (R452). -/
def F.secLc_bootSlot : Fld := ⟨0x1000700000, 8, 8⟩
/-- SEC_LC.BOOT_OK (R452). -/
def F.secLc_bootOk : Fld := ⟨0x1000700000, 3, 3⟩
/-- SEC_LC.LIFECYCLE (R452). -/
def F.secLc_lifecycle : Fld := ⟨0x1000700000, 1, 0⟩
/-- SEC_UID.DEV_UID (R453). -/
def F.secUid_devUid : Fld := ⟨0x1000700008, 63, 0⟩
/-- SEC_ALARM_ACT.LOCK (R454). -/
def F.secAlarmAct_lock : Fld := ⟨0x1000700010, 31, 31⟩
/-- SEC_ALARM_ACT.SEC_WDT (R454). -/
def F.secAlarmAct_secWdt : Fld := ⟨0x1000700010, 15, 14⟩
/-- SEC_ALARM_ACT.OTP_FAULT (R454). -/
def F.secAlarmAct_otpFault : Fld := ⟨0x1000700010, 13, 12⟩
/-- SEC_ALARM_ACT.DEBUG_FAIL (R454). -/
def F.secAlarmAct_debugFail : Fld := ⟨0x1000700010, 11, 10⟩
/-- SEC_ALARM_ACT.ZEROISE (R454). -/
def F.secAlarmAct_zeroise : Fld := ⟨0x1000700010, 9, 8⟩
/-- SEC_ALARM_ACT.DRAM_TEMP (R454). -/
def F.secAlarmAct_dramTemp : Fld := ⟨0x1000700010, 7, 6⟩
/-- SEC_ALARM_ACT.DIE_TEMP (R454). -/
def F.secAlarmAct_dieTemp : Fld := ⟨0x1000700010, 5, 4⟩
/-- SEC_ALARM_ACT.CLOCK (R454). -/
def F.secAlarmAct_clock : Fld := ⟨0x1000700010, 3, 2⟩
/-- SEC_ALARM_ACT.VGLITCH (R454). -/
def F.secAlarmAct_vglitch : Fld := ⟨0x1000700010, 1, 0⟩
/-- SEC_ALARM_STAT.ALL_SEEN (R455). -/
def F.secAlarmStat_allSeen : Fld := ⟨0x1000700018, 31, 31⟩
/-- SEC_ALARM_STAT.ACTIVE (R455). -/
def F.secAlarmStat_active : Fld := ⟨0x1000700018, 23, 16⟩
/-- SEC_ALARM_STAT.LATCHED (R455). -/
def F.secAlarmStat_latched : Fld := ⟨0x1000700018, 7, 0⟩
/-- DBG_UNLOCK.LEVEL (R456). -/
def F.dbgUnlock_level : Fld := ⟨0x1000800000, 17, 16⟩
/-- DBG_UNLOCK.FAILS (R456). -/
def F.dbgUnlock_fails : Fld := ⟨0x1000800000, 13, 12⟩
/-- DBG_UNLOCK.STATUS (R456). -/
def F.dbgUnlock_status : Fld := ⟨0x1000800000, 10, 8⟩
/-- DBG_UNLOCK.RELOCK (R456). -/
def F.dbgUnlock_relock : Fld := ⟨0x1000800000, 5, 5⟩
/-- DBG_UNLOCK.REQ (R456). -/
def F.dbgUnlock_req : Fld := ⟨0x1000800000, 4, 4⟩
/-- DBG_UNLOCK.REQ_LEVEL (R456). -/
def F.dbgUnlock_reqLevel : Fld := ⟨0x1000800000, 1, 0⟩
/-- DBG_CHAL.WORD (R457). -/
def F.dbgChal_word (i : Nat) : Fld := ⟨0x1000800040 + 4 * i, 31, 0⟩
/-- DBG_RESP.WORD (R458). -/
def F.dbgResp_word (i : Nat) : Fld := ⟨0x1000800080 + 4 * i, 31, 0⟩
/-- SBG_ERR.ERR_COUNT (R384). -/
def F.sbgErr_errCount : Fld := ⟨0x1000900010, 31, 16⟩
/-- SBG_ERR.LOW (R384). -/
def F.sbgErr_low : Fld := ⟨0x1000900010, 4, 4⟩
/-- SBG_ERR.REBUILD (R384). -/
def F.sbgErr_rebuild : Fld := ⟨0x1000900010, 3, 3⟩
/-- SBG_ERR.BAD_INDEX (R384). -/
def F.sbgErr_badIndex : Fld := ⟨0x1000900010, 2, 2⟩
/-- SBG_ERR.LINK_CORRUPT (R384). -/
def F.sbgErr_linkCorrupt : Fld := ⟨0x1000900010, 1, 1⟩
/-- SBG_ERR.DOUBLE_FREE (R384). -/
def F.sbgErr_doubleFree : Fld := ⟨0x1000900010, 0, 0⟩
/-- SBG_ERR_INFO.SOURCE (R385). -/
def F.sbgErrInfo_source : Fld := ⟨0x1000900018, 63, 56⟩
/-- SBG_ERR_INFO.CLASS (R385). -/
def F.sbgErrInfo_class : Fld := ⟨0x1000900018, 55, 52⟩
/-- SBG_ERR_INFO.KIND (R385). -/
def F.sbgErrInfo_kind : Fld := ⟨0x1000900018, 51, 48⟩
/-- SBG_ERR_INFO.ADDR (R385). -/
def F.sbgErrInfo_addr : Fld := ⟨0x1000900018, 35, 0⟩
/-- SBG_ACC.IDLE (R386). -/
def F.sbgAcc_idle : Fld := ⟨0x1000900020, 15, 0⟩
/-- SBG_ALLOC_SIZE.SIZE (R387). -/
def F.sbgAllocSize_size : Fld := ⟨0x1000900040, 31, 0⟩
/-- SBG_ALLOC_RESULT.STATUS (R387). -/
def F.sbgAllocResult_status : Fld := ⟨0x1000900048, 63, 61⟩
/-- SBG_ALLOC_RESULT.CLASS (R387). -/
def F.sbgAllocResult_class : Fld := ⟨0x1000900048, 60, 57⟩
/-- SBG_ALLOC_RESULT.ADDR (R387). -/
def F.sbgAllocResult_addr : Fld := ⟨0x1000900048, 35, 0⟩
/-- SBG_FREE.ADDR (R388). -/
def F.sbgFree_addr : Fld := ⟨0x1000900050, 35, 0⟩
/-- SBG_POOL_CFG.SPILL_IN (R389). -/
def F.sbgPoolCfg_spillIn (i : Nat) : Fld := ⟨0x1000900100 + 8 * i, 31, 31⟩
/-- SBG_POOL_CFG.LOW (R389). -/
def F.sbgPoolCfg_low (i : Nat) : Fld := ⟨0x1000900100 + 8 * i, 23, 0⟩
/-- SBG_POOL_STAT.MIN_FREE (R390). -/
def F.sbgPoolStat_minFree (i : Nat) : Fld := ⟨0x1000900200 + 8 * i, 63, 40⟩
/-- SBG_POOL_STAT.RESERVED (R390). -/
def F.sbgPoolStat_reserved (i : Nat) : Fld := ⟨0x1000900200 + 8 * i, 39, 27⟩
/-- SBG_POOL_STAT.FREE (R390). -/
def F.sbgPoolStat_free (i : Nat) : Fld := ⟨0x1000900200 + 8 * i, 23, 0⟩
/-- DMC_STAT.TRAINED (R366). -/
def F.dmcStat_trained : Fld := ⟨0x1000a00000, 23, 16⟩
/-- DMC_STAT.STATE (R366). -/
def F.dmcStat_state : Fld := ⟨0x1000a00000, 2, 0⟩
/-- DMC_PAGE.IDLE (R367). -/
def F.dmcPage_idle : Fld := ⟨0x1000a00008, 9, 0⟩
/-- DMC_SCHED.WQ_LOW (R368). -/
def F.dmcSched_wqLow : Fld := ⟨0x1000a00010, 21, 16⟩
/-- DMC_SCHED.WQ_HIGH (R368). -/
def F.dmcSched_wqHigh : Fld := ⟨0x1000a00010, 13, 8⟩
/-- DMC_SCHED.STARVE_CAP (R368). -/
def F.dmcSched_starveCap : Fld := ⟨0x1000a00010, 5, 0⟩
/-- DMC_REFRESH.POLL (R369). -/
def F.dmcRefresh_poll : Fld := ⟨0x1000a00018, 15, 8⟩
/-- DMC_REFRESH.MULT (R369). -/
def F.dmcRefresh_mult : Fld := ⟨0x1000a00018, 5, 4⟩
/-- DMC_REFRESH.RATE_CODE (R369). -/
def F.dmcRefresh_rateCode : Fld := ⟨0x1000a00018, 2, 0⟩
/-- DMC_TRACK.RETRAINS (R370). -/
def F.dmcTrack_retrains : Fld := ⟨0x1000a00020, 31, 16⟩
/-- DMC_TRACK.DRIFT_LIMIT (R370). -/
def F.dmcTrack_driftLimit : Fld := ⟨0x1000a00020, 15, 8⟩
/-- DMC_TRACK.INTERVAL (R370). -/
def F.dmcTrack_interval : Fld := ⟨0x1000a00020, 7, 0⟩
/-- DMC_ERR.CH (R371). -/
def F.dmcErr_ch : Fld := ⟨0x1000a00030, 15, 8⟩
/-- DMC_ERR.TRACK_FAIL (R371). -/
def F.dmcErr_trackFail : Fld := ⟨0x1000a00030, 3, 3⟩
/-- DMC_ERR.TEMP_HIGH (R371). -/
def F.dmcErr_tempHigh : Fld := ⟨0x1000a00030, 2, 2⟩
/-- DMC_ERR.CONFIG (R371). -/
def F.dmcErr_config : Fld := ⟨0x1000a00030, 1, 1⟩
/-- DMC_ERR.TRAIN_FAIL (R371). -/
def F.dmcErr_trainFail : Fld := ⟨0x1000a00030, 0, 0⟩
/-- MEP_INTEG_CTRL.MERGE_HOLD (R340). -/
def F.mepIntegCtrl_mergeHold : Fld := ⟨0x1000b00000, 15, 8⟩
/-- MEP_INTEG_CTRL.RESEND_MAX (R340). -/
def F.mepIntegCtrl_resendMax : Fld := ⟨0x1000b00000, 3, 0⟩
/-- MEP_INTEG_CNT.EGRESS_RESEND (R341). -/
def F.mepIntegCnt_egressResend : Fld := ⟨0x1000b00008, 63, 48⟩
/-- MEP_INTEG_CNT.DEC_RESEND (R341). -/
def F.mepIntegCnt_decResend : Fld := ⟨0x1000b00008, 47, 32⟩
/-- MEP_INTEG_CNT.STAGE_RESEND (R341). -/
def F.mepIntegCnt_stageResend : Fld := ⟨0x1000b00008, 31, 16⟩
/-- MEP_INTEG_CNT.ICRC_RESEND (R341). -/
def F.mepIntegCnt_icrcResend : Fld := ⟨0x1000b00008, 15, 0⟩
/-- MEP_ERR.PARITY_COUNT (R342). -/
def F.mepErr_parityCount : Fld := ⟨0x1000b00010, 31, 16⟩
/-- MEP_ERR.SCRUB_ERR (R342). -/
def F.mepErr_scrubErr : Fld := ⟨0x1000b00010, 6, 6⟩
/-- MEP_ERR.MERGE_PARITY (R342). -/
def F.mepErr_mergeParity : Fld := ⟨0x1000b00010, 5, 5⟩
/-- MEP_ERR.DRAM_PARITY (R342). -/
def F.mepErr_dramParity : Fld := ⟨0x1000b00010, 4, 4⟩
/-- MEP_ERR.SRAM_PARITY (R342). -/
def F.mepErr_sramParity : Fld := ⟨0x1000b00010, 3, 3⟩
/-- MEP_ERR.SEQ_MISMATCH (R342). -/
def F.mepErr_seqMismatch : Fld := ⟨0x1000b00010, 2, 2⟩
/-- MEP_ERR.EGRESS_FAIL (R342). -/
def F.mepErr_egressFail : Fld := ⟨0x1000b00010, 1, 1⟩
/-- MEP_ERR.WRITE_FAIL (R342). -/
def F.mepErr_writeFail : Fld := ⟨0x1000b00010, 0, 0⟩
/-- MEP_FLIP.MASK (R343). -/
def F.mepFlip_mask : Fld := ⟨0x1000b00040, 63, 32⟩
/-- MEP_FLIP.ARM (R343). -/
def F.mepFlip_arm : Fld := ⟨0x1000b00040, 31, 31⟩
/-- MEP_FLIP.FIRED (R343). -/
def F.mepFlip_fired : Fld := ⟨0x1000b00040, 30, 30⟩
/-- MEP_FLIP.DISARM (R343). -/
def F.mepFlip_disarm : Fld := ⟨0x1000b00040, 29, 29⟩
/-- MEP_FLIP.FUNC (R343). -/
def F.mepFlip_func : Fld := ⟨0x1000b00040, 28, 16⟩
/-- MEP_FLIP.TARGET (R343). -/
def F.mepFlip_target : Fld := ⟨0x1000b00040, 2, 0⟩
/-- MEP_SCRUB_CTRL.STATUS (R344). -/
def F.mepScrubCtrl_status : Fld := ⟨0x1000b00080, 31, 28⟩
/-- MEP_SCRUB_CTRL.RATE (R344). -/
def F.mepScrubCtrl_rate : Fld := ⟨0x1000b00080, 15, 8⟩
/-- MEP_SCRUB_CTRL.SPACE (R344). -/
def F.mepScrubCtrl_space : Fld := ⟨0x1000b00080, 2, 2⟩
/-- MEP_SCRUB_CTRL.STOP (R344). -/
def F.mepScrubCtrl_stop : Fld := ⟨0x1000b00080, 1, 1⟩
/-- MEP_SCRUB_CTRL.START (R344). -/
def F.mepScrubCtrl_start : Fld := ⟨0x1000b00080, 0, 0⟩
/-- MEP_SCRUB_ADDR.ADDR (R345). -/
def F.mepScrubAddr_addr : Fld := ⟨0x1000b00088, 35, 6⟩
/-- MEP_SCRUB_LEN.LINES (R345). -/
def F.mepScrubLen_lines : Fld := ⟨0x1000b00090, 29, 0⟩
/-- MEP_SCRUB_SUM.CHECKED (R346). -/
def F.mepScrubSum_checked : Fld := ⟨0x1000b00098, 61, 32⟩
/-- MEP_SCRUB_SUM.ERR_LINES (R346). -/
def F.mepScrubSum_errLines : Fld := ⟨0x1000b00098, 31, 16⟩
/-- MEP_SCRUB_SUM.ERR_BYTES (R346). -/
def F.mepScrubSum_errBytes : Fld := ⟨0x1000b00098, 15, 0⟩
/-- MEP_SCRUB_ERR.LAST_LINE (R346). -/
def F.mepScrubErr_lastLine : Fld := ⟨0x1000b000a0, 61, 32⟩
/-- MEP_SCRUB_ERR.FIRST_LINE (R346). -/
def F.mepScrubErr_firstLine : Fld := ⟨0x1000b000a0, 29, 0⟩
/-- HIF_DBS_STAT.WAKE (R103). -/
def F.hifDbsStat_wake : Fld := ⟨0x1000c00100, 17, 17⟩
/-- HIF_DBS_STAT.PENDING (R103). -/
def F.hifDbsStat_pending : Fld := ⟨0x1000c00100, 16, 16⟩
/-- HIF_DBS_STAT.VALID_COUNT (R103). -/
def F.hifDbsStat_validCount : Fld := ⟨0x1000c00100, 15, 0⟩
/-- HIF_ERR.SHADOW_PARITY (R104). -/
def F.hifErr_shadowParity : Fld := ⟨0x1000c00108, 18, 18⟩
/-- HIF_ERR.DB_NO_QUEUE (R104). -/
def F.hifErr_dbNoQueue : Fld := ⟨0x1000c00108, 17, 17⟩
/-- HIF_ERR.INVALID_DB (R104). -/
def F.hifErr_invalidDb : Fld := ⟨0x1000c00108, 16, 16⟩
/-- HIF_ERR.PWROFF_ACCESSES (R104). -/
def F.hifErr_pwroffAccesses : Fld := ⟨0x1000c00108, 15, 0⟩
/-- VFM_RECONF.ERR (R149). -/
def F.vfmReconf_err : Fld := ⟨0x1000d00000, 19, 17⟩
/-- VFM_RECONF.QUIET (R149). -/
def F.vfmReconf_quiet : Fld := ⟨0x1000d00000, 16, 16⟩
/-- VFM_RECONF.STOPPED (R149). -/
def F.vfmReconf_stopped : Fld := ⟨0x1000d00000, 2, 2⟩
/-- VFM_RECONF.START (R149). -/
def F.vfmReconf_start : Fld := ⟨0x1000d00000, 1, 1⟩
/-- VFM_RECONF.STOP_ALL (R149). -/
def F.vfmReconf_stopAll : Fld := ⟨0x1000d00000, 0, 0⟩
/-- VFM_MIG_CTRL.GO (R150). -/
def F.vfmMigCtrl_go : Fld := ⟨0x1000d00010, 31, 31⟩
/-- VFM_MIG_CTRL.OP (R150). -/
def F.vfmMigCtrl_op : Fld := ⟨0x1000d00010, 27, 24⟩
/-- VFM_MIG_CTRL.KEY_EXPORT (R150). -/
def F.vfmMigCtrl_keyExport : Fld := ⟨0x1000d00010, 20, 20⟩
/-- VFM_MIG_CTRL.BUF_PAGES (R150). -/
def F.vfmMigCtrl_bufPages : Fld := ⟨0x1000d00010, 19, 16⟩
/-- VFM_MIG_CTRL.VF (R150). -/
def F.vfmMigCtrl_vf : Fld := ⟨0x1000d00010, 12, 0⟩
/-- VFM_MIG_ADDR.ADDR (R151). -/
def F.vfmMigAddr_addr : Fld := ⟨0x1000d00018, 63, 12⟩
/-- VFM_MIG_STAT.ERR (R152). -/
def F.vfmMigStat_err : Fld := ⟨0x1000d00020, 20, 17⟩
/-- VFM_MIG_STAT.DONE (R152). -/
def F.vfmMigStat_done : Fld := ⟨0x1000d00020, 16, 16⟩
/-- VFM_MIG_STAT.LENGTH (R152). -/
def F.vfmMigStat_length : Fld := ⟨0x1000d00020, 15, 0⟩
/-- VFM_SHARE.CTX (R153). -/
def F.vfmShare_ctx : Fld := ⟨0x1000d00030, 31, 20⟩
/-- VFM_SHARE.VEC (R153). -/
def F.vfmShare_vec : Fld := ⟨0x1000d00030, 19, 12⟩
/-- VFM_SHARE.QP (R153). -/
def F.vfmShare_qp : Fld := ⟨0x1000d00030, 11, 5⟩
/-- VFM_SHARE_PF.CTX_PF (R153). -/
def F.vfmSharePf_ctxPf : Fld := ⟨0x1000d00034, 31, 18⟩
/-- VFM_SHARE_PF.VEC_PF (R153). -/
def F.vfmSharePf_vecPf : Fld := ⟨0x1000d00034, 17, 10⟩
/-- VFM_SHARE_PF.QP_PF (R153). -/
def F.vfmSharePf_qpPf : Fld := ⟨0x1000d00034, 9, 3⟩
/-- ZRS_PAD_MARGIN.MARGIN_D6 (R82). -/
def F.zrsPadMargin_marginD6 : Fld := ⟨0x1000e00010, 29, 20⟩
/-- ZRS_PAD_MARGIN.MARGIN_D5 (R82). -/
def F.zrsPadMargin_marginD5 : Fld := ⟨0x1000e00010, 19, 10⟩
/-- ZRS_PAD_MARGIN.MARGIN_D4 (R82). -/
def F.zrsPadMargin_marginD4 : Fld := ⟨0x1000e00010, 9, 0⟩
/-- ZRS_STAGING.BLK_D6 (R83). -/
def F.zrsStaging_blkD6 : Fld := ⟨0x1000e00020, 19, 16⟩
/-- ZRS_STAGING.BLK_D5 (R83). -/
def F.zrsStaging_blkD5 : Fld := ⟨0x1000e00020, 15, 12⟩
/-- ZRS_STAGING.BLK_D4 (R83). -/
def F.zrsStaging_blkD4 : Fld := ⟨0x1000e00020, 11, 8⟩
/-- ZRS_STAGING.GRANULES_USED (R83). -/
def F.zrsStaging_granulesUsed : Fld := ⟨0x1000e00020, 4, 0⟩
/-- ZRS_ERR.READY_EMPTY (R84). -/
def F.zrsErr_readyEmpty : Fld := ⟨0x1000e00030, 3, 3⟩
/-- ZRS_ERR.MAP_INVALID (R84). -/
def F.zrsErr_mapInvalid : Fld := ⟨0x1000e00030, 2, 2⟩
/-- ZRS_ERR.CAM_PARITY (R84). -/
def F.zrsErr_camParity : Fld := ⟨0x1000e00030, 1, 1⟩
/-- ZRS_ERR.ZST_CRC (R84). -/
def F.zrsErr_zstCrc : Fld := ⟨0x1000e00030, 0, 0⟩
/-- SCH_CINCH.CAP_PS1 (R174). -/
def F.schCinch_capPs1 : Fld := ⟨0x1000f00000, 31, 16⟩
/-- SCH_CINCH.CAP (R174). -/
def F.schCinch_cap : Fld := ⟨0x1000f00000, 15, 0⟩
/-- SCH_RESERVE.READ_RESERVE (R175). -/
def F.schReserve_readReserve : Fld := ⟨0x1000f00004, 15, 0⟩
/-- SCH_SUSPEND.MAX_ERASE (R176). -/
def F.schSuspend_maxErase : Fld := ⟨0x1000f00010, 27, 24⟩
/-- SCH_SUSPEND.MAX_PROG (R176). -/
def F.schSuspend_maxProg : Fld := ⟨0x1000f00010, 23, 20⟩
/-- SCH_SUSPEND.WINDOW (R176). -/
def F.schSuspend_window : Fld := ⟨0x1000f00010, 19, 10⟩
/-- SCH_SUSPEND.MINRUN (R176). -/
def F.schSuspend_minrun : Fld := ⟨0x1000f00010, 9, 0⟩
/-- SCH_FAIR.QUANTUM (R177). -/
def F.schFair_quantum : Fld := ⟨0x1000f00014, 11, 0⟩
/-- SCH_POWER_STAT.PEAK (R178). -/
def F.schPowerStat_peak : Fld := ⟨0x1000f00030, 31, 16⟩
/-- SCH_POWER_STAT.IN_USE (R178). -/
def F.schPowerStat_inUse : Fld := ⟨0x1000f00030, 15, 0⟩
/-- SCH_OPCOST.TIME (R179). -/
def F.schOpcost_time (i : Nat) : Fld := ⟨0x1000f00100 + 4 * i, 31, 12⟩
/-- SCH_OPCOST.POWER (R179). -/
def F.schOpcost_power (i : Nat) : Fld := ⟨0x1000f00100 + 4 * i, 11, 0⟩
/-- SCH_LADDER_EST.S5 (R180). -/
def F.schLadderEst_s5 (i : Nat) : Fld := ⟨0x1000f00200 + 8 * i, 39, 32⟩
/-- SCH_LADDER_EST.S4 (R180). -/
def F.schLadderEst_s4 (i : Nat) : Fld := ⟨0x1000f00200 + 8 * i, 31, 24⟩
/-- SCH_LADDER_EST.S3 (R180). -/
def F.schLadderEst_s3 (i : Nat) : Fld := ⟨0x1000f00200 + 8 * i, 23, 16⟩
/-- SCH_LADDER_EST.S2 (R180). -/
def F.schLadderEst_s2 (i : Nat) : Fld := ⟨0x1000f00200 + 8 * i, 15, 8⟩
/-- SCH_LADDER_EST.S1 (R180). -/
def F.schLadderEst_s1 (i : Nat) : Fld := ⟨0x1000f00200 + 8 * i, 7, 0⟩
/-- FCH_CTRL.ENABLE (R210). -/
def F.fchCtrl_enable (i : Nat) : Fld := ⟨0x1001000000 + 0x10000 * i, 13, 13⟩
/-- FCH_CTRL.TRAIN (R210). -/
def F.fchCtrl_train (i : Nat) : Fld := ⟨0x1001000000 + 0x10000 * i, 12, 12⟩
/-- FCH_CTRL.MAX_RATE (R210). -/
def F.fchCtrl_maxRate (i : Nat) : Fld := ⟨0x1001000000 + 0x10000 * i, 11, 0⟩
/-- FCH_STAT.RATE_NOW (R211). -/
def F.fchStat_rateNow (i : Nat) : Fld := ⟨0x1001000004 + 0x10000 * i, 19, 8⟩
/-- FCH_STAT.STATE (R211). -/
def F.fchStat_state (i : Nat) : Fld := ⟨0x1001000004 + 0x10000 * i, 2, 0⟩
/-- FCH_ERR.SUSPEND_LATE (R212). -/
def F.fchErr_suspendLate (i : Nat) : Fld := ⟨0x1001000008 + 0x10000 * i, 8, 8⟩
/-- FCH_ERR.ERASE_FAIL (R212). -/
def F.fchErr_eraseFail (i : Nat) : Fld := ⟨0x1001000008 + 0x10000 * i, 7, 7⟩
/-- FCH_ERR.PROG_FAIL (R212). -/
def F.fchErr_progFail (i : Nat) : Fld := ⟨0x1001000008 + 0x10000 * i, 6, 6⟩
/-- FCH_ERR.TIMEOUT (R212). -/
def F.fchErr_timeout (i : Nat) : Fld := ⟨0x1001000008 + 0x10000 * i, 5, 5⟩
/-- FCH_ERR.ID_NOMATCH (R212). -/
def F.fchErr_idNomatch (i : Nat) : Fld := ⟨0x1001000008 + 0x10000 * i, 4, 4⟩
/-- FCH_ERR.DESC_BUSY (R212). -/
def F.fchErr_descBusy (i : Nat) : Fld := ⟨0x1001000008 + 0x10000 * i, 3, 3⟩
/-- FCH_ERR.DESC_INVALID (R212). -/
def F.fchErr_descInvalid (i : Nat) : Fld := ⟨0x1001000008 + 0x10000 * i, 2, 2⟩
/-- FCH_ERR.DESC_CRC (R212). -/
def F.fchErr_descCrc (i : Nat) : Fld := ⟨0x1001000008 + 0x10000 * i, 1, 1⟩
/-- FCH_ERR.TRAIN_FAIL (R212). -/
def F.fchErr_trainFail (i : Nat) : Fld := ⟨0x1001000008 + 0x10000 * i, 0, 0⟩
/-- FCH_DIE_CFG.TIERS (R213). -/
def F.fchDieCfg_tiers (i : Nat) (j : Nat) : Fld := ⟨0x1001000100 + 0x10000 * i + 4 * j, 7, 5⟩
/-- FCH_DIE_CFG.INSERVICE (R213). -/
def F.fchDieCfg_inservice (i : Nat) (j : Nat) : Fld := ⟨0x1001000100 + 0x10000 * i + 4 * j, 4, 4⟩
/-- FCH_DIE_CFG.DESC (R213). -/
def F.fchDieCfg_desc (i : Nat) (j : Nat) : Fld := ⟨0x1001000100 + 0x10000 * i + 4 * j, 3, 1⟩
/-- FCH_DIE_CFG.PRESENT (R213). -/
def F.fchDieCfg_present (i : Nat) (j : Nat) : Fld := ⟨0x1001000100 + 0x10000 * i + 4 * j, 0, 0⟩
/-- FCH_DIE_STAT.TIMEOUTS (R214). -/
def F.fchDieStat_timeouts (i : Nat) (j : Nat) : Fld := ⟨0x1001000200 + 0x10000 * i + 4 * j, 23, 16⟩
/-- FCH_DIE_STAT.SUSPENDS (R214). -/
def F.fchDieStat_suspends (i : Nat) (j : Nat) : Fld := ⟨0x1001000200 + 0x10000 * i + 4 * j, 15, 8⟩
/-- FCH_DIE_STAT.STATE (R214). -/
def F.fchDieStat_state (i : Nat) (j : Nat) : Fld := ⟨0x1001000200 + 0x10000 * i + 4 * j, 2, 0⟩
/-- FCH_DESC.WORD (R215). -/
def F.fchDesc_word (i : Nat) (j : Nat) : Fld := ⟨0x1001001000 + 0x100000 * i + 4 * j, 31, 0⟩
/-- RCH_SYNC.MAX_HYP (R240). -/
def F.rchSync_maxHyp : Fld := ⟨0x1001400000, 17, 16⟩
/-- RCH_SYNC.COAST_BITS (R240). -/
def F.rchSync_coastBits : Fld := ⟨0x1001400000, 15, 8⟩
/-- RCH_SYNC.SYNC_TOL (R240). -/
def F.rchSync_syncTol : Fld := ⟨0x1001400000, 5, 0⟩
/-- RCH_TRACK.NBR_BP_D6 (R241). -/
def F.rchTrack_nbrBpD6 : Fld := ⟨0x1001400010, 42, 40⟩
/-- RCH_TRACK.NBR_BP_D5 (R241). -/
def F.rchTrack_nbrBpD5 : Fld := ⟨0x1001400010, 39, 37⟩
/-- RCH_TRACK.NBR_BP_D4 (R241). -/
def F.rchTrack_nbrBpD4 : Fld := ⟨0x1001400010, 36, 34⟩
/-- RCH_TRACK.TRIGGER (R241). -/
def F.rchTrack_trigger : Fld := ⟨0x1001400010, 27, 20⟩
/-- RCH_TRACK.PROBE_DELTA (R241). -/
def F.rchTrack_probeDelta : Fld := ⟨0x1001400010, 19, 16⟩
/-- RCH_TRACK.TRIM_LIMIT (R241). -/
def F.rchTrack_trimLimit : Fld := ⟨0x1001400010, 13, 8⟩
/-- RCH_TRACK.HYST (R241). -/
def F.rchTrack_hyst : Fld := ⟨0x1001400010, 7, 0⟩
/-- RCH_TRIM_IDX.BIN (R242). -/
def F.rchTrimIdx_bin : Fld := ⟨0x1001400020, 19, 16⟩
/-- RCH_TRIM_IDX.TIER (R242). -/
def F.rchTrimIdx_tier : Fld := ⟨0x1001400020, 13, 12⟩
/-- RCH_TRIM_IDX.DIE (R242). -/
def F.rchTrimIdx_die : Fld := ⟨0x1001400020, 9, 0⟩
/-- RCH_TRIM_DATA.BP5 (R243). -/
def F.rchTrimData_bp5 : Fld := ⟨0x1001400028, 47, 40⟩
/-- RCH_TRIM_DATA.BP4 (R243). -/
def F.rchTrimData_bp4 : Fld := ⟨0x1001400028, 39, 32⟩
/-- RCH_TRIM_DATA.BP3 (R243). -/
def F.rchTrimData_bp3 : Fld := ⟨0x1001400028, 31, 24⟩
/-- RCH_TRIM_DATA.BP2 (R243). -/
def F.rchTrimData_bp2 : Fld := ⟨0x1001400028, 23, 16⟩
/-- RCH_TRIM_DATA.BP1 (R243). -/
def F.rchTrimData_bp1 : Fld := ⟨0x1001400028, 15, 8⟩
/-- RCH_TRIM_DATA.BP0 (R243). -/
def F.rchTrimData_bp0 : Fld := ⟨0x1001400028, 7, 0⟩
/-- RCH_STAT_IDX.DIE (R244). -/
def F.rchStatIdx_die : Fld := ⟨0x1001400030, 9, 0⟩
/-- RCH_FRAME_CNT.MISSED (R245). -/
def F.rchFrameCnt_missed : Fld := ⟨0x1001400038, 63, 48⟩
/-- RCH_FRAME_CNT.EARLY (R245). -/
def F.rchFrameCnt_early : Fld := ⟨0x1001400038, 47, 32⟩
/-- RCH_FRAME_CNT.SHIFTED (R245). -/
def F.rchFrameCnt_shifted : Fld := ⟨0x1001400038, 31, 16⟩
/-- RCH_FRAME_CNT.FOUND (R245). -/
def F.rchFrameCnt_found : Fld := ⟨0x1001400038, 15, 0⟩
/-- RCH_TRACK_CNT.FOG_PARTIAL (R246). -/
def F.rchTrackCnt_fogPartial : Fld := ⟨0x1001400040, 63, 48⟩
/-- RCH_TRACK_CNT.PROBES (R246). -/
def F.rchTrackCnt_probes : Fld := ⟨0x1001400040, 47, 32⟩
/-- RCH_TRACK_CNT.BURNS (R246). -/
def F.rchTrackCnt_burns : Fld := ⟨0x1001400040, 31, 16⟩
/-- RCH_TRACK_CNT.DODGES (R246). -/
def F.rchTrackCnt_dodges : Fld := ⟨0x1001400040, 15, 0⟩
/-- RCH_ERR.TRIM_PARITY (R247). -/
def F.rchErr_trimParity : Fld := ⟨0x1001400050, 1, 1⟩
/-- RCH_ERR.HDR_MISMATCH (R247). -/
def F.rchErr_hdrMismatch : Fld := ⟨0x1001400050, 0, 0⟩
/-- RCH_BRACKET.C (R248). -/
def F.rchBracket_c (i : Nat) : Fld := ⟨0x1001400100 + 4 * i, 21, 16⟩
/-- RCH_BRACKET.B (R248). -/
def F.rchBracket_b (i : Nat) : Fld := ⟨0x1001400100 + 4 * i, 13, 8⟩
/-- RCH_BRACKET.A (R248). -/
def F.rchBracket_a (i : Nat) : Fld := ⟨0x1001400100 + 4 * i, 5, 0⟩
/-- RCH_LLR.MAG3 (R249). -/
def F.rchLlr_mag3 (i : Nat) (j : Nat) : Fld := ⟨0x1001400200 + 0x10 * i + 4 * j, 28, 24⟩
/-- RCH_LLR.MAG2 (R249). -/
def F.rchLlr_mag2 (i : Nat) (j : Nat) : Fld := ⟨0x1001400200 + 0x10 * i + 4 * j, 20, 16⟩
/-- RCH_LLR.MAG1 (R249). -/
def F.rchLlr_mag1 (i : Nat) (j : Nat) : Fld := ⟨0x1001400200 + 0x10 * i + 4 * j, 12, 8⟩
/-- RCH_LLR.MAG0 (R249). -/
def F.rchLlr_mag0 (i : Nat) (j : Nat) : Fld := ⟨0x1001400200 + 0x10 * i + 4 * j, 4, 0⟩
/-- RCH_TTAB.BP5 (R250). -/
def F.rchTtab_bp5 (i : Nat) (j : Nat) : Fld := ⟨0x1001401000 + 0x100 * i + 8 * j, 47, 40⟩
/-- RCH_TTAB.BP4 (R250). -/
def F.rchTtab_bp4 (i : Nat) (j : Nat) : Fld := ⟨0x1001401000 + 0x100 * i + 8 * j, 39, 32⟩
/-- RCH_TTAB.BP3 (R250). -/
def F.rchTtab_bp3 (i : Nat) (j : Nat) : Fld := ⟨0x1001401000 + 0x100 * i + 8 * j, 31, 24⟩
/-- RCH_TTAB.BP2 (R250). -/
def F.rchTtab_bp2 (i : Nat) (j : Nat) : Fld := ⟨0x1001401000 + 0x100 * i + 8 * j, 23, 16⟩
/-- RCH_TTAB.BP1 (R250). -/
def F.rchTtab_bp1 (i : Nat) (j : Nat) : Fld := ⟨0x1001401000 + 0x100 * i + 8 * j, 15, 8⟩
/-- RCH_TTAB.BP0 (R250). -/
def F.rchTtab_bp0 (i : Nat) (j : Nat) : Fld := ⟨0x1001401000 + 0x100 * i + 8 * j, 7, 0⟩
/-- RCH_LDPC.SOFT_RESERVE (R270). -/
def F.rchLdpc_softReserve : Fld := ⟨0x1001400060, 27, 24⟩
/-- RCH_LDPC.MS_OFFSET (R270). -/
def F.rchLdpc_msOffset : Fld := ⟨0x1001400060, 17, 16⟩
/-- RCH_LDPC.SOFT_ITER (R270). -/
def F.rchLdpc_softIter : Fld := ⟨0x1001400060, 13, 8⟩
/-- RCH_LDPC.HARD_ITER (R270). -/
def F.rchLdpc_hardIter : Fld := ⟨0x1001400060, 4, 0⟩
/-- RCH_DEC_ERR.SOFT_OFF (R271). -/
def F.rchDecErr_softOff : Fld := ⟨0x1001400058, 20, 16⟩
/-- RCH_DEC_ERR.HARD_OFF (R271). -/
def F.rchDecErr_hardOff : Fld := ⟨0x1001400058, 13, 8⟩
/-- RCH_DEC_ERR.REBUILD_SOURCE (R271). -/
def F.rchDecErr_rebuildSource : Fld := ⟨0x1001400058, 2, 2⟩
/-- RCH_DEC_ERR.MISCORRECT (R271). -/
def F.rchDecErr_miscorrect : Fld := ⟨0x1001400058, 1, 1⟩
/-- RCH_DEC_ERR.ENGINE_FAULT (R271). -/
def F.rchDecErr_engineFault : Fld := ⟨0x1001400058, 0, 0⟩
/-- RCH_DEC_CNT0.SOFT_FAIL (R272). -/
def F.rchDecCnt0_softFail : Fld := ⟨0x1001400068, 63, 48⟩
/-- RCH_DEC_CNT0.SOFT_OK (R272). -/
def F.rchDecCnt0_softOk : Fld := ⟨0x1001400068, 47, 32⟩
/-- RCH_DEC_CNT0.HARD_FAIL (R272). -/
def F.rchDecCnt0_hardFail : Fld := ⟨0x1001400068, 31, 16⟩
/-- RCH_DEC_CNT0.HARD_OK (R272). -/
def F.rchDecCnt0_hardOk : Fld := ⟨0x1001400068, 15, 0⟩
/-- RCH_DEC_CNT1.UNRECOVERED (R273). -/
def F.rchDecCnt1_unrecovered : Fld := ⟨0x1001400070, 63, 48⟩
/-- RCH_DEC_CNT1.MISCORRECT (R273). -/
def F.rchDecCnt1_miscorrect : Fld := ⟨0x1001400070, 47, 32⟩
/-- RCH_DEC_CNT1.REBUILD_FAIL (R273). -/
def F.rchDecCnt1_rebuildFail : Fld := ⟨0x1001400070, 31, 16⟩
/-- RCH_DEC_CNT1.REBUILD_OK (R273). -/
def F.rchDecCnt1_rebuildOk : Fld := ⟨0x1001400070, 15, 0⟩
/-- RCH_DEC_CNT2.MAX_CORR (R274). -/
def F.rchDecCnt2_maxCorr : Fld := ⟨0x1001400078, 47, 32⟩
/-- RCH_DEC_CNT2.CORR_BITS (R274). -/
def F.rchDecCnt2_corrBits : Fld := ⟨0x1001400078, 31, 0⟩
/-- MHM_WALK.CURSOR (R309). -/
def F.mhmWalk_cursor : Fld := ⟨0x1001500000, 56, 32⟩
/-- MHM_WALK.PARAM (R309). -/
def F.mhmWalk_param : Fld := ⟨0x1001500000, 31, 16⟩
/-- MHM_WALK.RATE (R309). -/
def F.mhmWalk_rate : Fld := ⟨0x1001500000, 15, 8⟩
/-- MHM_WALK.KIND (R309). -/
def F.mhmWalk_kind : Fld := ⟨0x1001500000, 5, 4⟩
/-- MHM_WALK.PAUSED (R309). -/
def F.mhmWalk_paused : Fld := ⟨0x1001500000, 3, 3⟩
/-- MHM_WALK.DONE (R309). -/
def F.mhmWalk_done : Fld := ⟨0x1001500000, 2, 2⟩
/-- MHM_WALK.STOP (R309). -/
def F.mhmWalk_stop : Fld := ⟨0x1001500000, 1, 1⟩
/-- MHM_WALK.RUN (R309). -/
def F.mhmWalk_run : Fld := ⟨0x1001500000, 0, 0⟩
/-- MHM_WALK_OUT.EMPTY (R310). -/
def F.mhmWalkOut_empty : Fld := ⟨0x1001500008, 31, 31⟩
/-- MHM_WALK_OUT.INDEX (R310). -/
def F.mhmWalkOut_index : Fld := ⟨0x1001500008, 24, 0⟩
/-- MHM_SCAN.WL_SPREAD (R311). -/
def F.mhmScan_wlSpread : Fld := ⟨0x1001500010, 23, 16⟩
/-- MHM_SCAN.FROM_BIN_RARELY (R311). -/
def F.mhmScan_fromBinRarely : Fld := ⟨0x1001500010, 15, 12⟩
/-- MHM_SCAN.FROM_BIN_LATER (R311). -/
def F.mhmScan_fromBinLater : Fld := ⟨0x1001500010, 11, 8⟩
/-- MHM_SCAN.FROM_BIN_SOON (R311). -/
def F.mhmScan_fromBinSoon : Fld := ⟨0x1001500010, 7, 4⟩
/-- MHM_SCAN.FROM_BIN_UNSPEC (R311). -/
def F.mhmScan_fromBinUnspec : Fld := ⟨0x1001500010, 3, 0⟩
/-- MHM_OFFEST.SOURCE (R312). -/
def F.mhmOffest_source : Fld := ⟨0x1001500018, 30, 28⟩
/-- MHM_OFFEST.STATE (R312). -/
def F.mhmOffest_state : Fld := ⟨0x1001500018, 25, 24⟩
/-- MHM_OFFEST.MIN_SENT (R312). -/
def F.mhmOffest_minSent : Fld := ⟨0x1001500018, 23, 16⟩
/-- MHM_OFFEST.AGREE (R312). -/
def F.mhmOffest_agree : Fld := ⟨0x1001500018, 11, 8⟩
/-- MHM_OFFEST.TS_WAIT (R312). -/
def F.mhmOffest_tsWait : Fld := ⟨0x1001500018, 7, 0⟩
/-- MHM_COLD.HOLD (R313). -/
def F.mhmCold_hold : Fld := ⟨0x1001500020, 28, 28⟩
/-- MHM_COLD.HYST (R313). -/
def F.mhmCold_hyst : Fld := ⟨0x1001500020, 27, 24⟩
/-- MHM_COLD.SURVEY_MIN (R313). -/
def F.mhmCold_surveyMin : Fld := ⟨0x1001500020, 23, 16⟩
/-- MHM_COLD.PROG_MIN_D4 (R313). -/
def F.mhmCold_progMinD4 : Fld := ⟨0x1001500020, 15, 8⟩
/-- MHM_COLD.PROG_MIN_HI (R313). -/
def F.mhmCold_progMinHi : Fld := ⟨0x1001500020, 7, 0⟩
/-- MHM_THRESH.FORCE_BIN (R314). -/
def F.mhmThresh_forceBin (i : Nat) : Fld := ⟨0x1001500040 + 4 * i, 31, 27⟩
/-- MHM_THRESH.STEP_REFRESH (R314). -/
def F.mhmThresh_stepRefresh (i : Nat) : Fld := ⟨0x1001500040 + 4 * i, 26, 24⟩
/-- MHM_THRESH.DISTURB (R314). -/
def F.mhmThresh_disturb (i : Nat) : Fld := ⟨0x1001500040 + 4 * i, 23, 10⟩
/-- MHM_THRESH.CORR_REFRESH (R314). -/
def F.mhmThresh_corrRefresh (i : Nat) : Fld := ⟨0x1001500040 + 4 * i, 9, 0⟩
/-- MHM_ERR.FOG_DROPS (R315). -/
def F.mhmErr_fogDrops : Fld := ⟨0x1001500030, 31, 16⟩
/-- MHM_ERR.WITHDRAWN (R315). -/
def F.mhmErr_withdrawn : Fld := ⟨0x1001500030, 3, 3⟩
/-- MHM_ERR.SPARE_OUT (R315). -/
def F.mhmErr_spareOut : Fld := ⟨0x1001500030, 2, 2⟩
/-- MHM_ERR.HIST_PARITY (R315). -/
def F.mhmErr_histParity : Fld := ⟨0x1001500030, 1, 1⟩
/-- MHM_ERR.BRT_CHK (R315). -/
def F.mhmErr_brtChk : Fld := ⟨0x1001500030, 0, 0⟩
/-- MHM_HEALTH.DIES_OUT (R317). -/
def F.mhmHealth_diesOut : Fld := ⟨0x1001500038, 41, 32⟩
/-- MHM_HEALTH.WITHDRAWN_ZONES (R317). -/
def F.mhmHealth_withdrawnZones : Fld := ⟨0x1001500038, 23, 7⟩
/-- MHM_HEALTH.AVAIL_SPARE (R317). -/
def F.mhmHealth_availSpare : Fld := ⟨0x1001500038, 6, 0⟩
/-- SLK_CTRL.SUCC_EN (R573). -/
def F.slkCtrl_succEn : Fld := ⟨0x1001600000, 31, 31⟩
/-- SLK_CTRL.SUCC_WAIT (R573). -/
def F.slkCtrl_succWait : Fld := ⟨0x1001600000, 27, 20⟩
/-- SLK_CTRL.PEER_TIMEOUT (R573). -/
def F.slkCtrl_peerTimeout : Fld := ⟨0x1001600000, 19, 12⟩
/-- SLK_CTRL.LOSS_TIMEOUT (R573). -/
def F.slkCtrl_lossTimeout : Fld := ⟨0x1001600000, 11, 4⟩
/-- SLK_CTRL.PORT_EN (R573). -/
def F.slkCtrl_portEn : Fld := ⟨0x1001600000, 3, 0⟩
/-- SLK_PORT_STAT.REPLAYS (R574). -/
def F.slkPortStat_replays (i : Nat) : Fld := ⟨0x1001600010 + 8 * i, 63, 48⟩
/-- SLK_PORT_STAT.CRC_ERRS (R574). -/
def F.slkPortStat_crcErrs (i : Nat) : Fld := ⟨0x1001600010 + 8 * i, 47, 32⟩
/-- SLK_PORT_STAT.PEER_DEV (R574). -/
def F.slkPortStat_peerDev (i : Nat) : Fld := ⟨0x1001600010 + 8 * i, 15, 12⟩
/-- SLK_PORT_STAT.PEER_PORT (R574). -/
def F.slkPortStat_peerPort (i : Nat) : Fld := ⟨0x1001600010 + 8 * i, 11, 10⟩
/-- SLK_PORT_STAT.STATE (R574). -/
def F.slkPortStat_state (i : Nat) : Fld := ⟨0x1001600010 + 8 * i, 2, 0⟩
/-- SLK_PEERS.DEPARTED (R575). -/
def F.slkPeers_departed : Fld := ⟨0x1001600040, 47, 32⟩
/-- SLK_PEERS.LOST (R575). -/
def F.slkPeers_lost : Fld := ⟨0x1001600040, 31, 16⟩
/-- SLK_PEERS.LIVE (R575). -/
def F.slkPeers_live : Fld := ⟨0x1001600040, 15, 0⟩
/-- SLK_LEADER.TERM (R576). -/
def F.slkLeader_term : Fld := ⟨0x1001600048, 31, 16⟩
/-- SLK_LEADER.LEADER (R576). -/
def F.slkLeader_leader : Fld := ⟨0x1001600048, 11, 8⟩
/-- SLK_LEADER.IS_LEADER (R576). -/
def F.slkLeader_isLeader : Fld := ⟨0x1001600048, 0, 0⟩
/-- SLK_REMOVE.REMOVED (R577). -/
def F.slkRemove_removed : Fld := ⟨0x1001600050, 15, 0⟩
/-- SLK_ERR.ROUTE (R578). -/
def F.slkErr_route : Fld := ⟨0x1001600058, 6, 6⟩
/-- SLK_ERR.MSG_AUTH (R578). -/
def F.slkErr_msgAuth : Fld := ⟨0x1001600058, 5, 5⟩
/-- SLK_ERR.JOIN (R578). -/
def F.slkErr_join : Fld := ⟨0x1001600058, 4, 4⟩
/-- SLK_ERR.WIRING (R578). -/
def F.slkErr_wiring : Fld := ⟨0x1001600058, 3, 3⟩
/-- SLK_ERR.LOSS (R578). -/
def F.slkErr_loss : Fld := ⟨0x1001600058, 2, 2⟩
/-- SLK_ERR.REPLAY_LIMIT (R578). -/
def F.slkErr_replayLimit : Fld := ⟨0x1001600058, 1, 1⟩
/-- SLK_ERR.STRAP (R578). -/
def F.slkErr_strap : Fld := ⟨0x1001600058, 0, 0⟩
/-- SLK_NOTE.SRC (R578). -/
def F.slkNote_src : Fld := ⟨0x1001600068, 15, 0⟩
/-- SLK_ROUTE.VALID (R579). -/
def F.slkRoute_valid (i : Nat) : Fld := ⟨0x1001600100 + 4 * i, 2, 2⟩
/-- SLK_ROUTE.PORT (R579). -/
def F.slkRoute_port (i : Nat) : Fld := ⟨0x1001600100 + 4 * i, 1, 0⟩
/-- PRF_SEL.COMMITTED (R593). -/
def F.prfSel_committed : Fld := ⟨0x1001700000, 16, 16⟩
/-- PRF_SEL.VALID (R593). -/
def F.prfSel_valid : Fld := ⟨0x1001700000, 8, 8⟩
/-- PRF_SEL.NEXT (R593). -/
def F.prfSel_next : Fld := ⟨0x1001700000, 1, 0⟩
/-- PRF_STAT.TIERS (R594). -/
def F.prfStat_tiers : Fld := ⟨0x1001700008, 10, 8⟩
/-- PRF_STAT.VALID_MAP (R594). -/
def F.prfStat_validMap : Fld := ⟨0x1001700008, 7, 4⟩
/-- PRF_STAT.SOURCE (R594). -/
def F.prfStat_source : Fld := ⟨0x1001700008, 3, 2⟩
/-- PRF_STAT.ACTIVE (R594). -/
def F.prfStat_active : Fld := ⟨0x1001700008, 1, 0⟩
/-- PRF_BOOT.STOP (R595). -/
def F.prfBoot_stop : Fld := ⟨0x1001700010, 11, 8⟩
/-- PRF_BOOT.STAGE (R595). -/
def F.prfBoot_stage : Fld := ⟨0x1001700010, 3, 0⟩

end Sys2Proof.Machine
end

