-- ==== Sys2Proof/Machine/RegTable.lean ====
section
/-!
DEFINITION. The register tables of the spec, register by register in the order of the CSR map (R619, R626):
each field's bits, access code, reset value, weakest clearing reset and low-power column (R7, R8, R10, R12).
Reserved bits are the bits no field names (R9). `perIndex` holds the reset value of each element of an array whose
elements reset differently (flat index, last index fastest); it is empty where the fields' own values hold.
A field whose reset value the spec gives as strap, fuse, journal, boot record or wiring rule holds 0 here:
`Machine/RegAccess.lean` says where its value comes from.
-/

namespace Sys2Proof.Machine

/-- SYS_ID (R36). -/
def regSysId : RegDef :=
  { name := "SYS_ID", base := 0x1000000000, dims := [], wide := false, shadowed := false,
    perIndex := [],
    fields := [⟨19, 18, .ro, 0, .shelf, .kept⟩,
      ⟨17, 16, .ro, 0, .shelf, .kept⟩,
      ⟨15, 12, .ro, 0, .shelf, .kept⟩,
      ⟨11, 8, .ro, 0, .never, .kept⟩,
      ⟨7, 0, .ro, 0xb0, .never, .kept⟩] }

/-- SYS_EPOCH (R37). -/
def regSysEpoch : RegDef :=
  { name := "SYS_EPOCH", base := 0x1000000008, dims := [], wide := false, shadowed := false,
    perIndex := [],
    fields := [⟨31, 0, .ro, 0, .cold, .kept⟩] }

/-- SYS_TEMP (R618). -/
def regSysTemp : RegDef :=
  { name := "SYS_TEMP", base := 0x1000000010, dims := [], wide := false, shadowed := false,
    perIndex := [],
    fields := [⟨31, 24, .rc, 0x80, .cold, .kept⟩,
      ⟨17, 16, .ro, 0, .cold, .kept⟩,
      ⟨10, 8, .ro, 0, .cold, .kept⟩,
      ⟨7, 0, .ro, 0, .cold, .kept⟩] }

/-- PMU_STATE (R510). -/
def regPmuState : RegDef :=
  { name := "PMU_STATE", base := 0x1000100000, dims := [], wide := false, shadowed := false,
    perIndex := [],
    fields := [⟨26, 24, .ro, 0, .warm, .kept⟩,
      ⟨23, 20, .ro, 0, .warm, .kept⟩,
      ⟨19, 19, .ro, 0, .warm, .kept⟩,
      ⟨18, 16, .ro, 0, .warm, .kept⟩,
      ⟨14, 12, .ro, 0, .warm, .kept⟩,
      ⟨9, 8, .ro, 1, .warm, .kept⟩,
      ⟨1, 0, .ro, 0, .warm, .kept⟩] }

/-- PMU_REQ (R511). -/
def regPmuReq : RegDef :=
  { name := "PMU_REQ", base := 0x1000100008, dims := [], wide := false, shadowed := false,
    perIndex := [],
    fields := [⟨2, 0, .wo, 0, .warm, .kept⟩] }

/-- PMU_WAKE (R512). -/
def regPmuWake : RegDef :=
  { name := "PMU_WAKE", base := 0x1000100010, dims := [], wide := false, shadowed := false,
    perIndex := [],
    fields := [⟨5, 5, .w1c, 0, .warm, .kept⟩,
      ⟨4, 4, .w1c, 0, .warm, .kept⟩,
      ⟨3, 3, .w1c, 0, .warm, .kept⟩,
      ⟨2, 2, .w1c, 0, .warm, .kept⟩,
      ⟨1, 1, .w1c, 0, .warm, .kept⟩,
      ⟨0, 0, .w1c, 0, .warm, .kept⟩] }

/-- PMU_CLK (R513). -/
def regPmuClk : RegDef :=
  { name := "PMU_CLK", base := 0x1000100020, dims := [], wide := false, shadowed := false,
    perIndex := [],
    fields := [⟨19, 16, .rw, 0, .warm, .lostStandby⟩,
      ⟨11, 8, .ro, 0, .warm, .lostStandby⟩,
      ⟨3, 0, .rw, 0, .warm, .lostStandby⟩] }

/-- PMU_PWROFF (R514). -/
def regPmuPwroff : RegDef :=
  { name := "PMU_PWROFF", base := 0x1000100030, dims := [], wide := true, shadowed := false,
    perIndex := [],
    fields := [⟨63, 52, .rc, 0, .warm, .kept⟩,
      ⟨51, 51, .w1c, 0, .warm, .kept⟩,
      ⟨50, 50, .ro, 0, .warm, .kept⟩,
      ⟨46, 40, .ro, 0, .warm, .kept⟩,
      ⟨39, 0, .ro, 0, .warm, .kept⟩] }

/-- PMU_CFG (R515). -/
def regPmuCfg : RegDef :=
  { name := "PMU_CFG", base := 0x1000100040, dims := [], wide := false, shadowed := true,
    perIndex := [],
    fields := [⟨15, 0, .rw, 0x3e8, .warm, .kept⟩] }

/-- RST_CAUSE (R516). -/
def regRstCause : RegDef :=
  { name := "RST_CAUSE", base := 0x1000200000, dims := [], wide := false, shadowed := false,
    perIndex := [],
    fields := [⟨5, 5, .w1c, 0, .cold, .kept⟩,
      ⟨4, 4, .w1c, 0, .cold, .kept⟩,
      ⟨3, 3, .w1c, 0, .cold, .kept⟩,
      ⟨2, 2, .w1c, 0, .cold, .kept⟩,
      ⟨1, 1, .w1c, 0, .cold, .kept⟩,
      ⟨0, 0, .w1c, 1, .cold, .kept⟩] }

/-- RST_CTRL (R517). -/
def regRstCtrl : RegDef :=
  { name := "RST_CTRL", base := 0x1000200008, dims := [], wide := false, shadowed := false,
    perIndex := [],
    fields := [⟨0, 0, .w1s, 0, .warm, .kept⟩] }

/-- RST_LRS (R518). -/
def regRstLrs : RegDef :=
  { name := "RST_LRS", base := 0x1000200010, dims := [], wide := false, shadowed := false,
    perIndex := [],
    fields := [⟨31, 31, .w1s, 0, .warm, .kept⟩,
      ⟨22, 22, .ro, 0, .warm, .kept⟩,
      ⟨21, 19, .ro, 0, .warm, .kept⟩,
      ⟨17, 16, .ro, 0, .warm, .kept⟩,
      ⟨15, 8, .rwl, 0x14, .warm, .kept⟩,
      ⟨7, 0, .rwl, 0xa, .warm, .kept⟩] }

/-- RST_HB (R519). -/
def regRstHb : RegDef :=
  { name := "RST_HB", base := 0x1000200020, dims := [(4, 8)], wide := false, shadowed := false,
    perIndex := [],
    fields := [⟨31, 0, .wo, 0, .cluster, .lostStandby⟩] }

/-- MBX_BIND (R473). -/
def regMbxBind : RegDef :=
  { name := "MBX_BIND", base := 0x1000300000, dims := [(4, 64)], wide := false, shadowed := false,
    perIndex := [],
    fields := [⟨31, 31, .rwl, 0, .shelf, .kept⟩,
      ⟨30, 30, .rwl, 0, .shelf, .kept⟩,
      ⟨29, 29, .rwl, 0, .shelf, .kept⟩,
      ⟨14, 8, .rwl, 0, .shelf, .kept⟩,
      ⟨6, 0, .rwl, 0, .shelf, .kept⟩] }

/-- MBX_LOCK (R474). -/
def regMbxLock : RegDef :=
  { name := "MBX_LOCK", base := 0x1000300100, dims := [], wide := false, shadowed := false,
    perIndex := [],
    fields := [⟨0, 0, .w1s, 0, .shelf, .kept⟩] }

/-- MBX_ERR (R475). -/
def regMbxErr : RegDef :=
  { name := "MBX_ERR", base := 0x1000300108, dims := [], wide := false, shadowed := false,
    perIndex := [],
    fields := [⟨31, 16, .rc, 0, .shelf, .kept⟩,
      ⟨4, 4, .w1c, 0, .shelf, .kept⟩,
      ⟨3, 3, .w1c, 0, .shelf, .kept⟩,
      ⟨2, 2, .w1c, 0, .shelf, .kept⟩,
      ⟨1, 1, .w1c, 0, .shelf, .kept⟩,
      ⟨0, 0, .w1c, 0, .shelf, .kept⟩] }

/-- MBX_PEND (R476). -/
def regMbxPend : RegDef :=
  { name := "MBX_PEND", base := 0x1000300200, dims := [], wide := true, shadowed := false,
    perIndex := [],
    fields := [⟨63, 0, .ro, 0, .shelf, .kept⟩] }

/-- MBX_DONE (R476). -/
def regMbxDone : RegDef :=
  { name := "MBX_DONE", base := 0x1000300208, dims := [], wide := true, shadowed := false,
    perIndex := [],
    fields := [⟨63, 0, .w1c, 0, .shelf, .kept⟩] }

/-- MBX_MASK (R476). -/
def regMbxMask : RegDef :=
  { name := "MBX_MASK", base := 0x1000300210, dims := [], wide := true, shadowed := false,
    perIndex := [],
    fields := [⟨63, 0, .rw, 0, .shelf, .kept⟩] }

/-- MBX_CLAIM (R477). -/
def regMbxClaim : RegDef :=
  { name := "MBX_CLAIM", base := 0x1000301000, dims := [(0x80, 64)], wide := false, shadowed := false,
    perIndex := [],
    fields := [⟨31, 30, .ro, 3, .shelf, .kept⟩,
      ⟨6, 0, .ro, 0, .shelf, .kept⟩] }

/-- MBX_STAT (R478). -/
def regMbxStat : RegDef :=
  { name := "MBX_STAT", base := 0x1000301004, dims := [(0x80, 64)], wide := false, shadowed := false,
    perIndex := [],
    fields := [⟨31, 30, .ro, 0, .shelf, .kept⟩,
      ⟨29, 29, .ro, 0, .shelf, .kept⟩,
      ⟨28, 28, .w1c, 0, .shelf, .kept⟩,
      ⟨27, 27, .ro, 0, .shelf, .kept⟩,
      ⟨20, 16, .ro, 0, .shelf, .kept⟩,
      ⟨6, 0, .ro, 0, .shelf, .kept⟩] }

/-- MBX_CTRL (R479). -/
def regMbxCtrl : RegDef :=
  { name := "MBX_CTRL", base := 0x1000301008, dims := [(0x80, 64)], wide := false, shadowed := false,
    perIndex := [],
    fields := [⟨31, 31, .w1s, 0, .shelf, .kept⟩,
      ⟨30, 30, .w1s, 0, .shelf, .kept⟩,
      ⟨29, 29, .w1s, 0, .shelf, .kept⟩,
      ⟨28, 28, .w1s, 0, .shelf, .kept⟩,
      ⟨4, 0, .wo, 0, .shelf, .kept⟩] }

/-- MBX_WORD (R480). -/
def regMbxWord : RegDef :=
  { name := "MBX_WORD", base := 0x1000301040, dims := [(0x80, 64), (4, 16)], wide := false, shadowed := false,
    perIndex := [],
    fields := [⟨31, 0, .rw, 0, .shelf, .kept⟩] }

/-- CSH_STAT (R533). -/
def regCshStat : RegDef :=
  { name := "CSH_STAT", base := 0x1000400000, dims := [], wide := true, shadowed := false,
    perIndex := [],
    fields := [⟨63, 32, .ro, 0, .cold, .kept⟩,
      ⟨31, 31, .ro, 0, .cold, .kept⟩,
      ⟨30, 30, .w1c, 0, .cold, .kept⟩,
      ⟨29, 29, .w1c, 0, .cold, .kept⟩,
      ⟨28, 28, .w1c, 0, .cold, .kept⟩,
      ⟨25, 15, .ro, 0, .cold, .kept⟩,
      ⟨14, 0, .ro, 0, .cold, .kept⟩] }

/-- CSH_LOST (R534). -/
def regCshLost : RegDef :=
  { name := "CSH_LOST", base := 0x1000400008, dims := [], wide := false, shadowed := false,
    perIndex := [],
    fields := [⟨31, 0, .ro, 0, .cold, .kept⟩] }

/-- CSH_CLEAR (R535). -/
def regCshClear : RegDef :=
  { name := "CSH_CLEAR", base := 0x1000400010, dims := [], wide := true, shadowed := false,
    perIndex := [],
    fields := [⟨63, 32, .wo, 0, .cold, .kept⟩,
      ⟨31, 31, .wo, 0, .cold, .kept⟩,
      ⟨14, 0, .wo, 0, .cold, .kept⟩] }

/-- CSH_RING (R536). -/
def regCshRing : RegDef :=
  { name := "CSH_RING", base := 0x1000400018, dims := [], wide := true, shadowed := false,
    perIndex := [],
    fields := [⟨39, 32, .rwl, 0, .cold, .kept⟩,
      ⟨29, 16, .rwl, 0, .cold, .kept⟩,
      ⟨14, 0, .rwl, 0, .cold, .kept⟩] }

/-- CSH_DRAIN (R537). -/
def regCshDrain : RegDef :=
  { name := "CSH_DRAIN", base := 0x1000400020, dims := [], wide := false, shadowed := false,
    perIndex := [],
    fields := [⟨31, 0, .wo, 0, .cold, .kept⟩] }

/-- CSH_CURSOR (R538). -/
def regCshCursor : RegDef :=
  { name := "CSH_CURSOR", base := 0x1000400030, dims := [], wide := false, shadowed := false,
    perIndex := [],
    fields := [⟨31, 30, .ro, 2, .cold, .kept⟩,
      ⟨14, 0, .rw, 0, .cold, .kept⟩] }

/-- CSH_WIN (R539). -/
def regCshWin : RegDef :=
  { name := "CSH_WIN", base := 0x1000400040, dims := [(4, 16)], wide := false, shadowed := false,
    perIndex := [],
    fields := [⟨31, 0, .ro, 0, .cold, .kept⟩] }

/-- CSH_MISSED (R540). -/
def regCshMissed : RegDef :=
  { name := "CSH_MISSED", base := 0x1000400104, dims := [(4, 20)], wide := false, shadowed := false,
    perIndex := [],
    fields := [⟨31, 16, .ro, 0, .cold, .kept⟩,
      ⟨15, 0, .ro, 0, .cold, .kept⟩] }

/-- TKR_CMD (R419). -/
def regTkrCmd : RegDef :=
  { name := "TKR_CMD", base := 0x1000500000, dims := [], wide := true, shadowed := false,
    perIndex := [],
    fields := [⟨63, 63, .w1s, 0, .warm, .lostSafelight⟩,
      ⟨51, 48, .rw, 0, .warm, .lostSafelight⟩,
      ⟨44, 32, .rw, 0, .warm, .lostSafelight⟩,
      ⟨28, 16, .rw, 0, .warm, .lostSafelight⟩,
      ⟨12, 0, .rw, 0, .warm, .lostSafelight⟩] }

/-- TKR_STAT (R420). -/
def regTkrStat : RegDef :=
  { name := "TKR_STAT", base := 0x1000500008, dims := [], wide := false, shadowed := false,
    perIndex := [],
    fields := [⟨28, 16, .ro, 0, .warm, .lostSafelight⟩,
      ⟨14, 8, .ro, 0, .warm, .lostSafelight⟩,
      ⟨5, 5, .w1c, 0, .shelf, .kept⟩,
      ⟨3, 0, .ro, 0, .warm, .lostSafelight⟩] }

/-- TKR_ERR (R421). -/
def regTkrErr : RegDef :=
  { name := "TKR_ERR", base := 0x1000500010, dims := [], wide := false, shadowed := false,
    perIndex := [],
    fields := [⟨2, 2, .w1c, 0, .warm, .lostSafelight⟩,
      ⟨1, 1, .w1c, 0, .warm, .lostSafelight⟩,
      ⟨0, 0, .w1c, 0, .warm, .lostSafelight⟩] }

/-- TKR_DATA (R422). -/
def regTkrData : RegDef :=
  { name := "TKR_DATA", base := 0x1000500040, dims := [(4, 10)], wide := false, shadowed := false,
    perIndex := [],
    fields := [⟨31, 0, .key, 0, .warm, .lostSafelight⟩] }

/-- TKR_OUT (R422). -/
def regTkrOut : RegDef :=
  { name := "TKR_OUT", base := 0x1000500080, dims := [(4, 10)], wide := false, shadowed := false,
    perIndex := [],
    fields := [⟨31, 0, .ro, 0, .warm, .lostSafelight⟩] }

/-- CPH_STAT (R416). -/
def regCphStat : RegDef :=
  { name := "CPH_STAT", base := 0x1000600000, dims := [], wide := true, shadowed := false,
    perIndex := [],
    fields := [⟨63, 32, .rc, 0, .warm, .lostStandby⟩,
      ⟨20, 10, .ro, 0, .warm, .lostStandby⟩,
      ⟨9, 0, .ro, 0, .warm, .lostStandby⟩] }

/-- CPH_ERR (R417). -/
def regCphErr : RegDef :=
  { name := "CPH_ERR", base := 0x1000600010, dims := [], wide := false, shadowed := false,
    perIndex := [],
    fields := [⟨31, 16, .rc, 0, .warm, .restored⟩,
      ⟨15, 12, .ro, 0, .warm, .restored⟩,
      ⟨2, 2, .w1c, 0, .warm, .restored⟩,
      ⟨1, 1, .w1c, 0, .warm, .restored⟩,
      ⟨0, 0, .w1c, 0, .warm, .restored⟩] }

/-- CPH_MREQ (R418). -/
def regCphMreq : RegDef :=
  { name := "CPH_MREQ", base := 0x1000600020, dims := [], wide := true, shadowed := false,
    perIndex := [],
    fields := [⟨35, 6, .wo, 0, .cluster, .lostStandby⟩] }

/-- SEC_LC (R452). -/
def regSecLc : RegDef :=
  { name := "SEC_LC", base := 0x1000700000, dims := [], wide := false, shadowed := false,
    perIndex := [],
    fields := [⟨25, 24, .ro, 0, .shelf, .kept⟩,
      ⟨22, 16, .ro, 0, .never, .kept⟩,
      ⟨15, 12, .ro, 0, .never, .kept⟩,
      ⟨11, 10, .ro, 0, .warm, .restoredSafelight⟩,
      ⟨9, 9, .ro, 0, .warm, .restoredSafelight⟩,
      ⟨8, 8, .ro, 0, .warm, .restoredSafelight⟩,
      ⟨3, 3, .ro, 0, .warm, .restoredSafelight⟩,
      ⟨1, 0, .ro, 0, .never, .kept⟩] }

/-- SEC_UID (R453). -/
def regSecUid : RegDef :=
  { name := "SEC_UID", base := 0x1000700008, dims := [], wide := true, shadowed := false,
    perIndex := [],
    fields := [⟨63, 0, .ro, 0, .never, .kept⟩] }

/-- SEC_ALARM_ACT (R454). -/
def regSecAlarmAct : RegDef :=
  { name := "SEC_ALARM_ACT", base := 0x1000700010, dims := [], wide := false, shadowed := false,
    perIndex := [],
    fields := [⟨31, 31, .w1s, 0, .shelf, .kept⟩,
      ⟨15, 14, .rwl, 2, .shelf, .kept⟩,
      ⟨13, 12, .rwl, 3, .shelf, .kept⟩,
      ⟨11, 10, .rwl, 1, .shelf, .kept⟩,
      ⟨9, 8, .ro, 3, .never, .kept⟩,
      ⟨7, 6, .rwl, 1, .shelf, .kept⟩,
      ⟨5, 4, .rwl, 1, .shelf, .kept⟩,
      ⟨3, 2, .rwl, 2, .shelf, .kept⟩,
      ⟨1, 0, .rwl, 3, .shelf, .kept⟩] }

/-- SEC_ALARM_STAT (R455). -/
def regSecAlarmStat : RegDef :=
  { name := "SEC_ALARM_STAT", base := 0x1000700018, dims := [], wide := false, shadowed := false,
    perIndex := [],
    fields := [⟨31, 31, .ro, 0, .shelf, .kept⟩,
      ⟨23, 16, .ro, 0, .shelf, .kept⟩,
      ⟨7, 0, .w1c, 0, .shelf, .kept⟩] }

/-- DBG_UNLOCK (R456). -/
def regDbgUnlock : RegDef :=
  { name := "DBG_UNLOCK", base := 0x1000800000, dims := [], wide := false, shadowed := false,
    perIndex := [],
    fields := [⟨17, 16, .ro, 0, .shelf, .kept⟩,
      ⟨13, 12, .ro, 0, .shelf, .kept⟩,
      ⟨10, 8, .ro, 0, .shelf, .kept⟩,
      ⟨5, 5, .w1s, 0, .shelf, .kept⟩,
      ⟨4, 4, .w1s, 0, .shelf, .kept⟩,
      ⟨1, 0, .rw, 0, .shelf, .kept⟩] }

/-- DBG_CHAL (R457). -/
def regDbgChal : RegDef :=
  { name := "DBG_CHAL", base := 0x1000800040, dims := [(4, 12)], wide := false, shadowed := false,
    perIndex := [],
    fields := [⟨31, 0, .ro, 0, .shelf, .lostStandby⟩] }

/-- DBG_RESP (R458). -/
def regDbgResp : RegDef :=
  { name := "DBG_RESP", base := 0x1000800080, dims := [(4, 32)], wide := false, shadowed := false,
    perIndex := [],
    fields := [⟨31, 0, .wo, 0, .shelf, .lostStandby⟩] }

/-- SBG_ERR (R384). -/
def regSbgErr : RegDef :=
  { name := "SBG_ERR", base := 0x1000900010, dims := [], wide := false, shadowed := false,
    perIndex := [],
    fields := [⟨31, 16, .rc, 0, .warm, .restored⟩,
      ⟨4, 4, .w1c, 0, .warm, .restored⟩,
      ⟨3, 3, .ro, 0, .warm, .lostStandby⟩,
      ⟨2, 2, .w1c, 0, .warm, .restored⟩,
      ⟨1, 1, .w1c, 0, .warm, .restored⟩,
      ⟨0, 0, .w1c, 0, .warm, .restored⟩] }

/-- SBG_ERR_INFO (R385). -/
def regSbgErrInfo : RegDef :=
  { name := "SBG_ERR_INFO", base := 0x1000900018, dims := [], wide := true, shadowed := false,
    perIndex := [],
    fields := [⟨63, 56, .ro, 0, .warm, .restored⟩,
      ⟨55, 52, .ro, 0, .warm, .restored⟩,
      ⟨51, 48, .ro, 0, .warm, .restored⟩,
      ⟨35, 0, .ro, 0, .warm, .restored⟩] }

/-- SBG_ACC (R386). -/
def regSbgAcc : RegDef :=
  { name := "SBG_ACC", base := 0x1000900020, dims := [], wide := false, shadowed := true,
    perIndex := [],
    fields := [⟨15, 0, .rw, 0x64, .warm, .restored⟩] }

/-- SBG_ALLOC_SIZE (R387). -/
def regSbgAllocSize : RegDef :=
  { name := "SBG_ALLOC_SIZE", base := 0x1000900040, dims := [], wide := false, shadowed := false,
    perIndex := [],
    fields := [⟨31, 0, .wo, 0, .cluster, .lostStandby⟩] }

/-- SBG_ALLOC_RESULT (R387). -/
def regSbgAllocResult : RegDef :=
  { name := "SBG_ALLOC_RESULT", base := 0x1000900048, dims := [], wide := true, shadowed := false,
    perIndex := [],
    fields := [⟨63, 61, .rc, 0, .cluster, .lostStandby⟩,
      ⟨60, 57, .rc, 0, .cluster, .lostStandby⟩,
      ⟨35, 0, .rc, 0, .cluster, .lostStandby⟩] }

/-- SBG_FREE (R388). -/
def regSbgFree : RegDef :=
  { name := "SBG_FREE", base := 0x1000900050, dims := [], wide := true, shadowed := false,
    perIndex := [],
    fields := [⟨35, 0, .wo, 0, .cluster, .lostStandby⟩] }

/-- SBG_POOL_CFG (R389). -/
def regSbgPoolCfg : RegDef :=
  { name := "SBG_POOL_CFG", base := 0x1000900100, dims := [(8, 9)], wide := false, shadowed := true,
    perIndex := [0, 0, 0x80000000, 0, 0, 0, 0, 0x80000000, 0x80000000],
    fields := [⟨31, 31, .rw, 0, .warm, .restored⟩,
      ⟨23, 0, .rw, 0, .warm, .restored⟩] }

/-- SBG_POOL_STAT_SRAM (R390). -/
def regSbgPoolStatSram : RegDef :=
  { name := "SBG_POOL_STAT_SRAM", base := 0x1000900200, dims := [(8, 6)], wide := true, shadowed := false,
    perIndex := [0x4000000000400, 0x10000000001000, 0x4000000000400, 0x1000000000100, 0x4000000000400, 0x800000000080],
    fields := [⟨63, 40, .rc, 0, .warm, .lostStandby⟩,
      ⟨39, 27, .ro, 0, .warm, .lostStandby⟩,
      ⟨23, 0, .ro, 0, .warm, .lostStandby⟩] }

/-- SBG_POOL_STAT_DRAM (R390). -/
def regSbgPoolStatDram : RegDef :=
  { name := "SBG_POOL_STAT_DRAM", base := 0x1000900230, dims := [(8, 3)], wide := true, shadowed := false,
    perIndex := [0xb8e3800000b8e38, 0x80000000008000, 0x10000000001000],
    fields := [⟨63, 40, .rc, 0, .cluster, .restoredThenLost⟩,
      ⟨39, 27, .ro, 0, .cluster, .restoredThenLost⟩,
      ⟨23, 0, .ro, 0, .cluster, .restoredThenLost⟩] }

/-- DMC_STAT (R366). -/
def regDmcStat : RegDef :=
  { name := "DMC_STAT", base := 0x1000a00000, dims := [], wide := false, shadowed := false,
    perIndex := [],
    fields := [⟨23, 16, .ro, 0, .warm, .lostStandby⟩,
      ⟨2, 0, .ro, 0, .warm, .lostStandby⟩] }

/-- DMC_PAGE (R367). -/
def regDmcPage : RegDef :=
  { name := "DMC_PAGE", base := 0x1000a00008, dims := [], wide := false, shadowed := true,
    perIndex := [],
    fields := [⟨9, 0, .rw, 0x40, .warm, .restored⟩] }

/-- DMC_SCHED (R368). -/
def regDmcSched : RegDef :=
  { name := "DMC_SCHED", base := 0x1000a00010, dims := [], wide := false, shadowed := true,
    perIndex := [],
    fields := [⟨21, 16, .rw, 8, .warm, .restored⟩,
      ⟨13, 8, .rw, 0x18, .warm, .restored⟩,
      ⟨5, 0, .rw, 0x20, .warm, .restored⟩] }

/-- DMC_REFRESH (R369). -/
def regDmcRefresh : RegDef :=
  { name := "DMC_REFRESH", base := 0x1000a00018, dims := [], wide := false, shadowed := false,
    perIndex := [],
    fields := [⟨15, 8, .rw, 0x10, .warm, .restored⟩,
      ⟨5, 4, .ro, 0, .warm, .lostStandby⟩,
      ⟨2, 0, .ro, 0, .warm, .lostStandby⟩] }

/-- DMC_TRACK (R370). -/
def regDmcTrack : RegDef :=
  { name := "DMC_TRACK", base := 0x1000a00020, dims := [], wide := false, shadowed := false,
    perIndex := [],
    fields := [⟨31, 16, .rc, 0, .warm, .restored⟩,
      ⟨15, 8, .rw, 0x10, .warm, .restored⟩,
      ⟨7, 0, .rw, 0x20, .warm, .restored⟩] }

/-- DMC_ERR (R371). -/
def regDmcErr : RegDef :=
  { name := "DMC_ERR", base := 0x1000a00030, dims := [], wide := false, shadowed := false,
    perIndex := [],
    fields := [⟨15, 8, .w1c, 0, .warm, .restored⟩,
      ⟨3, 3, .w1c, 0, .warm, .restored⟩,
      ⟨2, 2, .w1c, 0, .warm, .restored⟩,
      ⟨1, 1, .w1c, 0, .warm, .restored⟩,
      ⟨0, 0, .w1c, 0, .warm, .restored⟩] }

/-- MEP_INTEG_CTRL (R340). -/
def regMepIntegCtrl : RegDef :=
  { name := "MEP_INTEG_CTRL", base := 0x1000b00000, dims := [], wide := false, shadowed := true,
    perIndex := [],
    fields := [⟨15, 8, .rw, 0x40, .warm, .restored⟩,
      ⟨3, 0, .rw, 2, .warm, .restored⟩] }

/-- MEP_INTEG_CNT (R341). -/
def regMepIntegCnt : RegDef :=
  { name := "MEP_INTEG_CNT", base := 0x1000b00008, dims := [], wide := true, shadowed := false,
    perIndex := [],
    fields := [⟨63, 48, .rc, 0, .warm, .restored⟩,
      ⟨47, 32, .rc, 0, .warm, .restored⟩,
      ⟨31, 16, .rc, 0, .warm, .restored⟩,
      ⟨15, 0, .rc, 0, .warm, .restored⟩] }

/-- MEP_ERR (R342). -/
def regMepErr : RegDef :=
  { name := "MEP_ERR", base := 0x1000b00010, dims := [], wide := false, shadowed := false,
    perIndex := [],
    fields := [⟨31, 16, .rc, 0, .warm, .restored⟩,
      ⟨6, 6, .w1c, 0, .warm, .restored⟩,
      ⟨5, 5, .w1c, 0, .warm, .restored⟩,
      ⟨4, 4, .w1c, 0, .warm, .restored⟩,
      ⟨3, 3, .w1c, 0, .warm, .restored⟩,
      ⟨2, 2, .w1c, 0, .warm, .restored⟩,
      ⟨1, 1, .w1c, 0, .warm, .restored⟩,
      ⟨0, 0, .w1c, 0, .warm, .restored⟩] }

/-- MEP_FLIP (R343). -/
def regMepFlip : RegDef :=
  { name := "MEP_FLIP", base := 0x1000b00040, dims := [], wide := true, shadowed := false,
    perIndex := [],
    fields := [⟨63, 32, .rw, 0, .warm, .restored⟩,
      ⟨31, 31, .w1s, 0, .warm, .lostStandby⟩,
      ⟨30, 30, .w1c, 0, .warm, .restored⟩,
      ⟨29, 29, .w1s, 0, .warm, .lostStandby⟩,
      ⟨28, 16, .rw, 0, .warm, .restored⟩,
      ⟨2, 0, .rw, 0, .warm, .restored⟩] }

/-- MEP_SCRUB_CTRL (R344). -/
def regMepScrubCtrl : RegDef :=
  { name := "MEP_SCRUB_CTRL", base := 0x1000b00080, dims := [], wide := false, shadowed := false,
    perIndex := [],
    fields := [⟨31, 28, .ro, 0, .warm, .restored⟩,
      ⟨15, 8, .rw, 4, .warm, .restored⟩,
      ⟨2, 2, .rw, 0, .warm, .restored⟩,
      ⟨1, 1, .w1s, 0, .warm, .lostStandby⟩,
      ⟨0, 0, .w1s, 0, .warm, .restored⟩] }

/-- MEP_SCRUB_ADDR (R345). -/
def regMepScrubAddr : RegDef :=
  { name := "MEP_SCRUB_ADDR", base := 0x1000b00088, dims := [], wide := true, shadowed := false,
    perIndex := [],
    fields := [⟨35, 6, .rw, 0, .warm, .restored⟩] }

/-- MEP_SCRUB_LEN (R345). -/
def regMepScrubLen : RegDef :=
  { name := "MEP_SCRUB_LEN", base := 0x1000b00090, dims := [], wide := false, shadowed := false,
    perIndex := [],
    fields := [⟨29, 0, .rw, 0, .warm, .restored⟩] }

/-- MEP_SCRUB_SUM (R346). -/
def regMepScrubSum : RegDef :=
  { name := "MEP_SCRUB_SUM", base := 0x1000b00098, dims := [], wide := true, shadowed := false,
    perIndex := [],
    fields := [⟨61, 32, .ro, 0, .warm, .restored⟩,
      ⟨31, 16, .ro, 0, .warm, .restored⟩,
      ⟨15, 0, .ro, 0, .warm, .restored⟩] }

/-- MEP_SCRUB_ERR (R346). -/
def regMepScrubErr : RegDef :=
  { name := "MEP_SCRUB_ERR", base := 0x1000b000a0, dims := [], wide := true, shadowed := false,
    perIndex := [],
    fields := [⟨61, 32, .ro, 0, .warm, .restored⟩,
      ⟨29, 0, .ro, 0, .warm, .restored⟩] }

/-- HIF_DBS_STAT (R103). -/
def regHifDbsStat : RegDef :=
  { name := "HIF_DBS_STAT", base := 0x1000c00100, dims := [], wide := false, shadowed := false,
    perIndex := [],
    fields := [⟨17, 17, .w1c, 0, .warm, .kept⟩,
      ⟨16, 16, .ro, 0, .warm, .kept⟩,
      ⟨15, 0, .ro, 0, .warm, .kept⟩] }

/-- HIF_ERR (R104). -/
def regHifErr : RegDef :=
  { name := "HIF_ERR", base := 0x1000c00108, dims := [], wide := false, shadowed := false,
    perIndex := [],
    fields := [⟨18, 18, .w1c, 0, .warm, .kept⟩,
      ⟨17, 17, .w1c, 0, .warm, .restored⟩,
      ⟨16, 16, .w1c, 0, .warm, .restored⟩,
      ⟨15, 0, .rc, 0, .warm, .kept⟩] }

/-- VFM_RECONF (R149). -/
def regVfmReconf : RegDef :=
  { name := "VFM_RECONF", base := 0x1000d00000, dims := [], wide := false, shadowed := false,
    perIndex := [],
    fields := [⟨19, 17, .ro, 0, .warm, .restored⟩,
      ⟨16, 16, .ro, 0, .warm, .restored⟩,
      ⟨2, 2, .ro, 0, .warm, .restored⟩,
      ⟨1, 1, .w1s, 0, .warm, .restored⟩,
      ⟨0, 0, .w1s, 0, .warm, .restored⟩] }

/-- VFM_MIG_CTRL (R150). -/
def regVfmMigCtrl : RegDef :=
  { name := "VFM_MIG_CTRL", base := 0x1000d00010, dims := [], wide := false, shadowed := false,
    perIndex := [],
    fields := [⟨31, 31, .w1s, 0, .warm, .restored⟩,
      ⟨27, 24, .rw, 0, .warm, .restored⟩,
      ⟨20, 20, .rw, 0, .warm, .restored⟩,
      ⟨19, 16, .rw, 0, .warm, .restored⟩,
      ⟨12, 0, .rw, 0, .warm, .restored⟩] }

/-- VFM_MIG_ADDR (R151). -/
def regVfmMigAddr : RegDef :=
  { name := "VFM_MIG_ADDR", base := 0x1000d00018, dims := [], wide := true, shadowed := false,
    perIndex := [],
    fields := [⟨63, 12, .rw, 0, .warm, .restored⟩] }

/-- VFM_MIG_STAT (R152). -/
def regVfmMigStat : RegDef :=
  { name := "VFM_MIG_STAT", base := 0x1000d00020, dims := [], wide := false, shadowed := false,
    perIndex := [],
    fields := [⟨20, 17, .ro, 0, .warm, .restored⟩,
      ⟨16, 16, .w1c, 0, .warm, .restored⟩,
      ⟨15, 0, .ro, 0, .warm, .restored⟩] }

/-- VFM_SHARE (R153). -/
def regVfmShare : RegDef :=
  { name := "VFM_SHARE", base := 0x1000d00030, dims := [], wide := false, shadowed := false,
    perIndex := [],
    fields := [⟨31, 20, .ro, 0, .warm, .restored⟩,
      ⟨19, 12, .ro, 0, .warm, .restored⟩,
      ⟨11, 5, .ro, 0, .warm, .restored⟩] }

/-- VFM_SHARE_PF (R153). -/
def regVfmSharePf : RegDef :=
  { name := "VFM_SHARE_PF", base := 0x1000d00034, dims := [], wide := false, shadowed := false,
    perIndex := [],
    fields := [⟨31, 18, .ro, 0x2000, .warm, .restored⟩,
      ⟨17, 10, .ro, 0x81, .warm, .restored⟩,
      ⟨9, 3, .ro, 0x40, .warm, .restored⟩] }

/-- ZRS_PAD_MARGIN (R82). -/
def regZrsPadMargin : RegDef :=
  { name := "ZRS_PAD_MARGIN", base := 0x1000e00010, dims := [], wide := false, shadowed := true,
    perIndex := [],
    fields := [⟨29, 20, .rw, 0x140, .warm, .restored⟩,
      ⟨19, 10, .rw, 0xf0, .warm, .restored⟩,
      ⟨9, 0, .rw, 0x3c, .warm, .restored⟩] }

/-- ZRS_STAGING (R83). -/
def regZrsStaging : RegDef :=
  { name := "ZRS_STAGING", base := 0x1000e00020, dims := [], wide := false, shadowed := false,
    perIndex := [],
    fields := [⟨19, 16, .ro, 0, .warm, .restored⟩,
      ⟨15, 12, .ro, 0, .warm, .restored⟩,
      ⟨11, 8, .ro, 0, .warm, .restored⟩,
      ⟨4, 0, .ro, 0, .warm, .restored⟩] }

/-- ZRS_ERR (R84). -/
def regZrsErr : RegDef :=
  { name := "ZRS_ERR", base := 0x1000e00030, dims := [], wide := false, shadowed := false,
    perIndex := [],
    fields := [⟨3, 3, .w1c, 0, .warm, .restored⟩,
      ⟨2, 2, .w1c, 0, .warm, .restored⟩,
      ⟨1, 1, .w1c, 0, .warm, .restored⟩,
      ⟨0, 0, .w1c, 0, .warm, .restored⟩] }

/-- SCH_CINCH (R174). -/
def regSchCinch : RegDef :=
  { name := "SCH_CINCH", base := 0x1000f00000, dims := [], wide := false, shadowed := true,
    perIndex := [],
    fields := [⟨31, 16, .rw, 0x4e20, .warm, .restored⟩,
      ⟨15, 0, .rw, 0x9c40, .warm, .restored⟩] }

/-- SCH_RESERVE (R175). -/
def regSchReserve : RegDef :=
  { name := "SCH_RESERVE", base := 0x1000f00004, dims := [], wide := false, shadowed := true,
    perIndex := [],
    fields := [⟨15, 0, .rw, 0x1900, .warm, .restored⟩] }

/-- SCH_SUSPEND (R176). -/
def regSchSuspend : RegDef :=
  { name := "SCH_SUSPEND", base := 0x1000f00010, dims := [], wide := false, shadowed := true,
    perIndex := [],
    fields := [⟨27, 24, .rw, 0xc, .warm, .restored⟩,
      ⟨23, 20, .rw, 4, .warm, .restored⟩,
      ⟨19, 10, .rw, 0xc8, .warm, .restored⟩,
      ⟨9, 0, .rw, 0x1e, .warm, .restored⟩] }

/-- SCH_FAIR (R177). -/
def regSchFair : RegDef :=
  { name := "SCH_FAIR", base := 0x1000f00014, dims := [], wide := false, shadowed := true,
    perIndex := [],
    fields := [⟨11, 0, .rw, 0x28, .warm, .restored⟩] }

/-- SCH_POWER_STAT (R178). -/
def regSchPowerStat : RegDef :=
  { name := "SCH_POWER_STAT", base := 0x1000f00030, dims := [], wide := false, shadowed := false,
    perIndex := [],
    fields := [⟨31, 16, .rc, 0, .warm, .lostStandby⟩,
      ⟨15, 0, .ro, 0, .warm, .lostStandby⟩] }

/-- SCH_OPCOST (R179). -/
def regSchOpcost : RegDef :=
  { name := "SCH_OPCOST", base := 0x1000f00100, dims := [(4, 10)], wide := false, shadowed := true,
    perIndex := [0x3701c, 0x4601c, 0x5501c, 0x2801c, 0x7d0064, 0x640078, 0xc80078, 0x7d0078, 0xfa0078, 0x2710096],
    fields := [⟨31, 12, .rw, 0, .warm, .restored⟩,
      ⟨11, 0, .rw, 0, .warm, .restored⟩] }

/-- SCH_LADDER_EST (R180). -/
def regSchLadderEst : RegDef :=
  { name := "SCH_LADDER_EST", base := 0x1000f00200, dims := [(8, 3)], wide := true, shadowed := true,
    perIndex := [0x2403101e07, 0x2603131e09, 0x2803161e0a],
    fields := [⟨39, 32, .rw, 0, .warm, .restored⟩,
      ⟨31, 24, .rw, 0, .warm, .restored⟩,
      ⟨23, 16, .rw, 0, .warm, .restored⟩,
      ⟨15, 8, .rw, 0, .warm, .restored⟩,
      ⟨7, 0, .rw, 0, .warm, .restored⟩] }

/-- FCH_CTRL (R210). -/
def regFchCtrl : RegDef :=
  { name := "FCH_CTRL", base := 0x1001000000, dims := [(0x10000, 64)], wide := false, shadowed := false,
    perIndex := [],
    fields := [⟨13, 13, .rw, 1, .warm, .restored⟩,
      ⟨12, 12, .w1s, 0, .warm, .lostStandby⟩,
      ⟨11, 0, .rw, 0xe10, .warm, .restored⟩] }

/-- FCH_STAT (R211). -/
def regFchStat : RegDef :=
  { name := "FCH_STAT", base := 0x1001000004, dims := [(0x10000, 64)], wide := false, shadowed := false,
    perIndex := [],
    fields := [⟨19, 8, .ro, 0, .warm, .lostStandby⟩,
      ⟨2, 0, .ro, 0, .warm, .lostStandby⟩] }

/-- FCH_ERR (R212). -/
def regFchErr : RegDef :=
  { name := "FCH_ERR", base := 0x1001000008, dims := [(0x10000, 64)], wide := false, shadowed := false,
    perIndex := [],
    fields := [⟨8, 8, .w1c, 0, .warm, .restored⟩,
      ⟨7, 7, .w1c, 0, .warm, .restored⟩,
      ⟨6, 6, .w1c, 0, .warm, .restored⟩,
      ⟨5, 5, .w1c, 0, .warm, .restored⟩,
      ⟨4, 4, .w1c, 0, .warm, .restored⟩,
      ⟨3, 3, .w1c, 0, .warm, .restored⟩,
      ⟨2, 2, .w1c, 0, .warm, .restored⟩,
      ⟨1, 1, .w1c, 0, .warm, .restored⟩,
      ⟨0, 0, .w1c, 0, .warm, .restored⟩] }

/-- FCH_DIE_CFG (R213). -/
def regFchDieCfg : RegDef :=
  { name := "FCH_DIE_CFG", base := 0x1001000100, dims := [(0x10000, 64), (4, 16)], wide := false, shadowed := false,
    perIndex := [],
    fields := [⟨7, 5, .ro, 0, .shelf, .restored⟩,
      ⟨4, 4, .rw, 0, .shelf, .restored⟩,
      ⟨3, 1, .ro, 0, .shelf, .restored⟩,
      ⟨0, 0, .ro, 0, .shelf, .restored⟩] }

/-- FCH_DIE_STAT (R214). -/
def regFchDieStat : RegDef :=
  { name := "FCH_DIE_STAT", base := 0x1001000200, dims := [(0x10000, 64), (4, 16)], wide := false, shadowed := false,
    perIndex := [],
    fields := [⟨23, 16, .rc, 0, .warm, .restored⟩,
      ⟨15, 8, .ro, 0, .warm, .lostStandby⟩,
      ⟨2, 0, .ro, 7, .warm, .lostStandby⟩] }

/-- FCH_DESC (R215). -/
def regFchDesc : RegDef :=
  { name := "FCH_DESC", base := 0x1001001000, dims := [(0x100000, 4), (4, 512)], wide := false, shadowed := false,
    perIndex := [],
    fields := [⟨31, 0, .rw, 0, .warm, .restored⟩] }

/-- RCH_SYNC (R240). -/
def regRchSync : RegDef :=
  { name := "RCH_SYNC", base := 0x1001400000, dims := [], wide := false, shadowed := true,
    perIndex := [],
    fields := [⟨17, 16, .rw, 3, .warm, .restored⟩,
      ⟨15, 8, .rw, 0x40, .warm, .restored⟩,
      ⟨5, 0, .rw, 6, .warm, .restored⟩] }

/-- RCH_TRACK (R241). -/
def regRchTrack : RegDef :=
  { name := "RCH_TRACK", base := 0x1001400010, dims := [], wide := true, shadowed := true,
    perIndex := [],
    fields := [⟨42, 40, .rw, 5, .warm, .restored⟩,
      ⟨39, 37, .rw, 4, .warm, .restored⟩,
      ⟨36, 34, .rw, 3, .warm, .restored⟩,
      ⟨27, 20, .rw, 0x28, .warm, .restored⟩,
      ⟨19, 16, .rw, 2, .warm, .restored⟩,
      ⟨13, 8, .rw, 0x10, .warm, .restored⟩,
      ⟨7, 0, .rw, 8, .warm, .restored⟩] }

/-- RCH_TRIM_IDX (R242). -/
def regRchTrimIdx : RegDef :=
  { name := "RCH_TRIM_IDX", base := 0x1001400020, dims := [], wide := false, shadowed := false,
    perIndex := [],
    fields := [⟨19, 16, .rw, 0, .warm, .restored⟩,
      ⟨13, 12, .rw, 0, .warm, .restored⟩,
      ⟨9, 0, .rw, 0, .warm, .restored⟩] }

/-- RCH_TRIM_DATA (R243). -/
def regRchTrimData : RegDef :=
  { name := "RCH_TRIM_DATA", base := 0x1001400028, dims := [], wide := true, shadowed := false,
    perIndex := [],
    fields := [⟨47, 40, .rw, 0, .warm, .restored⟩,
      ⟨39, 32, .rw, 0, .warm, .restored⟩,
      ⟨31, 24, .rw, 0, .warm, .restored⟩,
      ⟨23, 16, .rw, 0, .warm, .restored⟩,
      ⟨15, 8, .rw, 0, .warm, .restored⟩,
      ⟨7, 0, .rw, 0, .warm, .restored⟩] }

/-- RCH_STAT_IDX (R244). -/
def regRchStatIdx : RegDef :=
  { name := "RCH_STAT_IDX", base := 0x1001400030, dims := [], wide := false, shadowed := false,
    perIndex := [],
    fields := [⟨9, 0, .rw, 0, .warm, .restored⟩] }

/-- RCH_FRAME_CNT (R245). -/
def regRchFrameCnt : RegDef :=
  { name := "RCH_FRAME_CNT", base := 0x1001400038, dims := [], wide := true, shadowed := false,
    perIndex := [],
    fields := [⟨63, 48, .ro, 0, .warm, .lostStandby⟩,
      ⟨47, 32, .ro, 0, .warm, .lostStandby⟩,
      ⟨31, 16, .ro, 0, .warm, .lostStandby⟩,
      ⟨15, 0, .ro, 0, .warm, .lostStandby⟩] }

/-- RCH_TRACK_CNT (R246). -/
def regRchTrackCnt : RegDef :=
  { name := "RCH_TRACK_CNT", base := 0x1001400040, dims := [], wide := true, shadowed := false,
    perIndex := [],
    fields := [⟨63, 48, .ro, 0, .warm, .lostStandby⟩,
      ⟨47, 32, .ro, 0, .warm, .lostStandby⟩,
      ⟨31, 16, .ro, 0, .warm, .lostStandby⟩,
      ⟨15, 0, .ro, 0, .warm, .lostStandby⟩] }

/-- RCH_ERR (R247). -/
def regRchErr : RegDef :=
  { name := "RCH_ERR", base := 0x1001400050, dims := [], wide := false, shadowed := false,
    perIndex := [],
    fields := [⟨1, 1, .w1c, 0, .warm, .restored⟩,
      ⟨0, 0, .w1c, 0, .warm, .restored⟩] }

/-- RCH_BRACKET (R248). -/
def regRchBracket : RegDef :=
  { name := "RCH_BRACKET", base := 0x1001400100, dims := [(4, 3)], wide := false, shadowed := true,
    perIndex := [0xb0603, 0x90502, 0x70402],
    fields := [⟨21, 16, .rw, 0, .warm, .restored⟩,
      ⟨13, 8, .rw, 0, .warm, .restored⟩,
      ⟨5, 0, .rw, 0, .warm, .restored⟩] }

/-- RCH_LLR (R249). -/
def regRchLlr : RegDef :=
  { name := "RCH_LLR", base := 0x1001400200, dims := [(0x10, 3), (4, 4)], wide := false, shadowed := true,
    perIndex := [0xf0a0501, 0xf0c0702, 0xe090401, 0xc070300, 0xf0a0501, 0xf0c0702, 0xe090401, 0xc070300, 0xf0a0501, 0xf0c0702, 0xe090401, 0xc070300],
    fields := [⟨28, 24, .rw, 0, .warm, .restored⟩,
      ⟨20, 16, .rw, 0, .warm, .restored⟩,
      ⟨12, 8, .rw, 0, .warm, .restored⟩,
      ⟨4, 0, .rw, 0, .warm, .restored⟩] }

/-- RCH_TTAB (R250). -/
def regRchTtab : RegDef :=
  { name := "RCH_TTAB", base := 0x1001401000, dims := [(0x100, 3), (8, 16)], wide := true, shadowed := true,
    perIndex := [0, 0, 0, 0xffffffffffff, 0xffffffffffff, 0xfefefefefefe, 0xfefefefefefe, 0xfdfdfdfdfdfd, 0xfcfcfcfcfcfc, 0xfbfbfbfbfbfb, 0xfafafafafafa, 0xf9f9f9f9f9f9, 0xf7f7f7f7f7f7, 0xf6f6f6f6f6f6, 0xf4f4f4f4f4f4, 0xf1f1f1f1f1f1, 0, 0, 0xffffffffffff, 0xffffffffffff, 0xfefefefefefe, 0xfefefefefefe, 0xfdfdfdfdfdfd, 0xfcfcfcfcfcfc, 0xfbfbfbfbfbfb, 0xfafafafafafa, 0xf8f8f8f8f8f8, 0xf7f7f7f7f7f7, 0xf5f5f5f5f5f5, 0xf3f3f3f3f3f3, 0xf0f0f0f0f0f0, 0xedededededed, 0, 0, 0xffffffffffff, 0xffffffffffff, 0xfefefefefefe, 0xfdfdfdfdfdfd, 0xfcfcfcfcfcfc, 0xfbfbfbfbfbfb, 0xfafafafafafa, 0xf8f8f8f8f8f8, 0xf6f6f6f6f6f6, 0xf4f4f4f4f4f4, 0xf2f2f2f2f2f2, 0xefefefefefef, 0xecececececec, 0xe8e8e8e8e8e8],
    fields := [⟨47, 40, .rw, 0, .warm, .restored⟩,
      ⟨39, 32, .rw, 0, .warm, .restored⟩,
      ⟨31, 24, .rw, 0, .warm, .restored⟩,
      ⟨23, 16, .rw, 0, .warm, .restored⟩,
      ⟨15, 8, .rw, 0, .warm, .restored⟩,
      ⟨7, 0, .rw, 0, .warm, .restored⟩] }

/-- RCH_LDPC (R270). -/
def regRchLdpc : RegDef :=
  { name := "RCH_LDPC", base := 0x1001400060, dims := [], wide := false, shadowed := true,
    perIndex := [],
    fields := [⟨27, 24, .rw, 4, .warm, .restored⟩,
      ⟨17, 16, .rw, 1, .warm, .restored⟩,
      ⟨13, 8, .rw, 0x28, .warm, .restored⟩,
      ⟨4, 0, .rw, 0x13, .warm, .restored⟩] }

/-- RCH_DEC_ERR (R271). -/
def regRchDecErr : RegDef :=
  { name := "RCH_DEC_ERR", base := 0x1001400058, dims := [], wide := false, shadowed := false,
    perIndex := [],
    fields := [⟨20, 16, .ro, 0, .warm, .restored⟩,
      ⟨13, 8, .ro, 0, .warm, .restored⟩,
      ⟨2, 2, .w1c, 0, .warm, .restored⟩,
      ⟨1, 1, .w1c, 0, .warm, .restored⟩,
      ⟨0, 0, .w1c, 0, .warm, .restored⟩] }

/-- RCH_DEC_CNT0 (R272). -/
def regRchDecCnt0 : RegDef :=
  { name := "RCH_DEC_CNT0", base := 0x1001400068, dims := [], wide := true, shadowed := false,
    perIndex := [],
    fields := [⟨63, 48, .ro, 0, .warm, .lostStandby⟩,
      ⟨47, 32, .ro, 0, .warm, .lostStandby⟩,
      ⟨31, 16, .ro, 0, .warm, .lostStandby⟩,
      ⟨15, 0, .ro, 0, .warm, .lostStandby⟩] }

/-- RCH_DEC_CNT1 (R273). -/
def regRchDecCnt1 : RegDef :=
  { name := "RCH_DEC_CNT1", base := 0x1001400070, dims := [], wide := true, shadowed := false,
    perIndex := [],
    fields := [⟨63, 48, .ro, 0, .warm, .lostStandby⟩,
      ⟨47, 32, .ro, 0, .warm, .lostStandby⟩,
      ⟨31, 16, .ro, 0, .warm, .lostStandby⟩,
      ⟨15, 0, .ro, 0, .warm, .lostStandby⟩] }

/-- RCH_DEC_CNT2 (R274). -/
def regRchDecCnt2 : RegDef :=
  { name := "RCH_DEC_CNT2", base := 0x1001400078, dims := [], wide := true, shadowed := false,
    perIndex := [],
    fields := [⟨47, 32, .ro, 0, .warm, .lostStandby⟩,
      ⟨31, 0, .ro, 0, .warm, .lostStandby⟩] }

/-- MHM_WALK (R309). -/
def regMhmWalk : RegDef :=
  { name := "MHM_WALK", base := 0x1001500000, dims := [], wide := true, shadowed := false,
    perIndex := [],
    fields := [⟨56, 32, .rw, 0, .warm, .restored⟩,
      ⟨31, 16, .rw, 0, .warm, .restored⟩,
      ⟨15, 8, .rw, 0x20, .warm, .restored⟩,
      ⟨5, 4, .rw, 0, .warm, .restored⟩,
      ⟨3, 3, .ro, 0, .warm, .lostStandby⟩,
      ⟨2, 2, .w1c, 0, .warm, .restored⟩,
      ⟨1, 1, .w1s, 0, .warm, .lostStandby⟩,
      ⟨0, 0, .w1s, 0, .warm, .restored⟩] }

/-- MHM_WALK_OUT (R310). -/
def regMhmWalkOut : RegDef :=
  { name := "MHM_WALK_OUT", base := 0x1001500008, dims := [], wide := false, shadowed := false,
    perIndex := [],
    fields := [⟨31, 31, .ro, 1, .warm, .lostStandby⟩,
      ⟨24, 0, .rc, 0, .warm, .lostStandby⟩] }

/-- MHM_SCAN (R311). -/
def regMhmScan : RegDef :=
  { name := "MHM_SCAN", base := 0x1001500010, dims := [], wide := false, shadowed := true,
    perIndex := [],
    fields := [⟨23, 16, .rw, 0x1e, .warm, .restored⟩,
      ⟨15, 12, .rw, 8, .warm, .restored⟩,
      ⟨11, 8, .rw, 9, .warm, .restored⟩,
      ⟨7, 4, .rw, 0xb, .warm, .restored⟩,
      ⟨3, 0, .rw, 9, .warm, .restored⟩] }

/-- MHM_OFFEST (R312). -/
def regMhmOffest : RegDef :=
  { name := "MHM_OFFEST", base := 0x1001500018, dims := [], wide := false, shadowed := false,
    perIndex := [],
    fields := [⟨30, 28, .ro, 0, .cold, .restored⟩,
      ⟨25, 24, .ro, 0, .cold, .restored⟩,
      ⟨23, 16, .rw, 0x10, .warm, .restored⟩,
      ⟨11, 8, .rw, 1, .warm, .restored⟩,
      ⟨7, 0, .rw, 0x78, .warm, .restored⟩] }

/-- MHM_COLD (R313). -/
def regMhmCold : RegDef :=
  { name := "MHM_COLD", base := 0x1001500020, dims := [], wide := false, shadowed := true,
    perIndex := [],
    fields := [⟨28, 28, .ro, 0, .warm, .restored⟩,
      ⟨27, 24, .rw, 3, .warm, .restored⟩,
      ⟨23, 16, .rw, 0xf6, .warm, .restored⟩,
      ⟨15, 8, .rw, 0xec, .warm, .restored⟩,
      ⟨7, 0, .rw, 0, .warm, .restored⟩] }

/-- MHM_THRESH (R314). -/
def regMhmThresh : RegDef :=
  { name := "MHM_THRESH", base := 0x1001500040, dims := [(4, 3)], wide := false, shadowed := true,
    perIndex := [0x830180a0, 0x7b00c08c, 0x73006078],
    fields := [⟨31, 27, .rw, 0, .warm, .restored⟩,
      ⟨26, 24, .rw, 0, .warm, .restored⟩,
      ⟨23, 10, .rw, 0, .warm, .restored⟩,
      ⟨9, 0, .rw, 0, .warm, .restored⟩] }

/-- MHM_ERR (R315). -/
def regMhmErr : RegDef :=
  { name := "MHM_ERR", base := 0x1001500030, dims := [], wide := false, shadowed := false,
    perIndex := [],
    fields := [⟨31, 16, .rc, 0, .warm, .restored⟩,
      ⟨3, 3, .w1c, 0, .warm, .restored⟩,
      ⟨2, 2, .w1c, 0, .warm, .restored⟩,
      ⟨1, 1, .w1c, 0, .warm, .restored⟩,
      ⟨0, 0, .w1c, 0, .warm, .restored⟩] }

/-- MHM_HEALTH (R317). -/
def regMhmHealth : RegDef :=
  { name := "MHM_HEALTH", base := 0x1001500038, dims := [], wide := true, shadowed := false,
    perIndex := [],
    fields := [⟨41, 32, .ro, 0, .warm, .restored⟩,
      ⟨23, 7, .ro, 0, .warm, .restored⟩,
      ⟨6, 0, .ro, 0, .warm, .restored⟩] }

/-- SLK_CTRL (R573). -/
def regSlkCtrl : RegDef :=
  { name := "SLK_CTRL", base := 0x1001600000, dims := [], wide := false, shadowed := false,
    perIndex := [],
    fields := [⟨31, 31, .rw, 0, .warm, .restored⟩,
      ⟨27, 20, .rw, 0x32, .warm, .restored⟩,
      ⟨19, 12, .rw, 0xa, .warm, .restored⟩,
      ⟨11, 4, .rw, 0xa, .warm, .restored⟩,
      ⟨3, 0, .rw, 0xf, .warm, .restored⟩] }

/-- SLK_PORT_STAT (R574). -/
def regSlkPortStat : RegDef :=
  { name := "SLK_PORT_STAT", base := 0x1001600010, dims := [(8, 4)], wide := true, shadowed := false,
    perIndex := [],
    fields := [⟨63, 48, .rc, 0, .warm, .lostStandby⟩,
      ⟨47, 32, .rc, 0, .warm, .lostStandby⟩,
      ⟨15, 12, .ro, 0, .warm, .lostStandby⟩,
      ⟨11, 10, .ro, 0, .warm, .lostStandby⟩,
      ⟨2, 0, .ro, 0, .warm, .lostStandby⟩] }

/-- SLK_PEERS (R575). -/
def regSlkPeers : RegDef :=
  { name := "SLK_PEERS", base := 0x1001600040, dims := [], wide := true, shadowed := false,
    perIndex := [],
    fields := [⟨47, 32, .ro, 0, .warm, .lostStandby⟩,
      ⟨31, 16, .ro, 0, .warm, .lostStandby⟩,
      ⟨15, 0, .ro, 0, .warm, .lostStandby⟩] }

/-- SLK_LEADER (R576). -/
def regSlkLeader : RegDef :=
  { name := "SLK_LEADER", base := 0x1001600048, dims := [], wide := false, shadowed := false,
    perIndex := [],
    fields := [⟨31, 16, .ro, 0, .never, .kept⟩,
      ⟨11, 8, .ro, 0, .warm, .restored⟩,
      ⟨0, 0, .ro, 0, .warm, .restored⟩] }

/-- SLK_REMOVE (R577). -/
def regSlkRemove : RegDef :=
  { name := "SLK_REMOVE", base := 0x1001600050, dims := [], wide := false, shadowed := false,
    perIndex := [],
    fields := [⟨15, 0, .rw, 0, .never, .restored⟩] }

/-- SLK_ERR (R578). -/
def regSlkErr : RegDef :=
  { name := "SLK_ERR", base := 0x1001600058, dims := [], wide := false, shadowed := false,
    perIndex := [],
    fields := [⟨6, 6, .w1c, 0, .warm, .restored⟩,
      ⟨5, 5, .w1c, 0, .warm, .restored⟩,
      ⟨4, 4, .w1c, 0, .warm, .restored⟩,
      ⟨3, 3, .w1c, 0, .warm, .restored⟩,
      ⟨2, 2, .w1c, 0, .warm, .restored⟩,
      ⟨1, 1, .w1c, 0, .warm, .restored⟩,
      ⟨0, 0, .ro, 0, .shelf, .kept⟩] }

/-- SLK_JOIN_INFO (R578): its two fields, which the spec gives no access code; read-only, cleared with SLK_ERR.JOIN's reset. -/
def regSlkJoinInfo : RegDef :=
  { name := "SLK_JOIN_INFO", base := 0x1001600060, dims := [], wide := false, shadowed := false,
    perIndex := [],
    fields := [⟨6, 4, .ro, 0, .warm, .restored⟩,
      ⟨3, 0, .ro, 0, .warm, .restored⟩] }

/-- SLK_NOTE (R578). -/
def regSlkNote : RegDef :=
  { name := "SLK_NOTE", base := 0x1001600068, dims := [], wide := false, shadowed := false,
    perIndex := [],
    fields := [⟨15, 0, .w1c, 0, .warm, .lostStandby⟩] }

/-- SLK_ROUTE (R579). -/
def regSlkRoute : RegDef :=
  { name := "SLK_ROUTE", base := 0x1001600100, dims := [(4, 16)], wide := false, shadowed := false,
    perIndex := [],
    fields := [⟨2, 2, .rw, 0, .warm, .restored⟩,
      ⟨1, 0, .rw, 0, .warm, .restored⟩] }

/-- PRF_SEL (R593). -/
def regPrfSel : RegDef :=
  { name := "PRF_SEL", base := 0x1001700000, dims := [], wide := false, shadowed := false,
    perIndex := [],
    fields := [⟨16, 16, .ro, 1, .warm, .restored⟩,
      ⟨8, 8, .rw, 0, .warm, .restored⟩,
      ⟨1, 0, .rw, 0, .warm, .restored⟩] }

/-- PRF_STAT (R594). -/
def regPrfStat : RegDef :=
  { name := "PRF_STAT", base := 0x1001700008, dims := [], wide := false, shadowed := false,
    perIndex := [],
    fields := [⟨10, 8, .ro, 0, .warm, .restored⟩,
      ⟨7, 4, .ro, 0, .warm, .restored⟩,
      ⟨3, 2, .ro, 0, .warm, .restored⟩,
      ⟨1, 0, .ro, 0, .warm, .restored⟩] }

/-- PRF_BOOT (R595). -/
def regPrfBoot : RegDef :=
  { name := "PRF_BOOT", base := 0x1001700010, dims := [], wide := false, shadowed := false,
    perIndex := [],
    fields := [⟨11, 8, .rw, 0, .warm, .restored⟩,
      ⟨3, 0, .rw, 0, .warm, .restored⟩] }

/-- The registers of the SYS window. -/
def regsSys : List RegDef :=
  [regSysId, regSysEpoch, regSysTemp]

/-- The registers of the PMU window. -/
def regsPmu : List RegDef :=
  [regPmuState, regPmuReq, regPmuWake, regPmuClk,
   regPmuPwroff, regPmuCfg]

/-- The registers of the RST window. -/
def regsRst : List RegDef :=
  [regRstCause, regRstCtrl, regRstLrs, regRstHb]

/-- The registers of the MBX window. -/
def regsMbx : List RegDef :=
  [regMbxBind, regMbxLock, regMbxErr, regMbxPend,
   regMbxDone, regMbxMask, regMbxClaim, regMbxStat,
   regMbxCtrl, regMbxWord]

/-- The registers of the CSH window. -/
def regsCsh : List RegDef :=
  [regCshStat, regCshLost, regCshClear, regCshRing,
   regCshDrain, regCshCursor, regCshWin, regCshMissed]

/-- The registers of the TKR window. -/
def regsTkr : List RegDef :=
  [regTkrCmd, regTkrStat, regTkrErr, regTkrData,
   regTkrOut]

/-- The registers of the CPH window. -/
def regsCph : List RegDef :=
  [regCphStat, regCphErr, regCphMreq]

/-- The registers of the SEC window. -/
def regsSec : List RegDef :=
  [regSecLc, regSecUid, regSecAlarmAct, regSecAlarmStat]

/-- The registers of the DBG window. -/
def regsDbg : List RegDef :=
  [regDbgUnlock, regDbgChal, regDbgResp]

/-- The registers of the SBG window. -/
def regsSbg : List RegDef :=
  [regSbgErr, regSbgErrInfo, regSbgAcc, regSbgAllocSize,
   regSbgAllocResult, regSbgFree, regSbgPoolCfg, regSbgPoolStatSram,
   regSbgPoolStatDram]

/-- The registers of the DMC window. -/
def regsDmc : List RegDef :=
  [regDmcStat, regDmcPage, regDmcSched, regDmcRefresh,
   regDmcTrack, regDmcErr]

/-- The registers of the MEP window. -/
def regsMep : List RegDef :=
  [regMepIntegCtrl, regMepIntegCnt, regMepErr, regMepFlip,
   regMepScrubCtrl, regMepScrubAddr, regMepScrubLen, regMepScrubSum,
   regMepScrubErr]

/-- The registers of the HIF window. -/
def regsHif : List RegDef :=
  [regHifDbsStat, regHifErr]

/-- The registers of the VFM window. -/
def regsVfm : List RegDef :=
  [regVfmReconf, regVfmMigCtrl, regVfmMigAddr, regVfmMigStat,
   regVfmShare, regVfmSharePf]

/-- The registers of the ZRS window. -/
def regsZrs : List RegDef :=
  [regZrsPadMargin, regZrsStaging, regZrsErr]

/-- The registers of the SCH window. -/
def regsSch : List RegDef :=
  [regSchCinch, regSchReserve, regSchSuspend, regSchFair,
   regSchPowerStat, regSchOpcost, regSchLadderEst]

/-- The registers of the FCH window. -/
def regsFch : List RegDef :=
  [regFchCtrl, regFchStat, regFchErr, regFchDieCfg,
   regFchDieStat, regFchDesc]

/-- The registers of the RCH window. -/
def regsRch : List RegDef :=
  [regRchSync, regRchTrack, regRchTrimIdx, regRchTrimData,
   regRchStatIdx, regRchFrameCnt, regRchTrackCnt, regRchErr,
   regRchBracket, regRchLlr, regRchTtab, regRchLdpc,
   regRchDecErr, regRchDecCnt0, regRchDecCnt1, regRchDecCnt2]

/-- The registers of the MHM window. -/
def regsMhm : List RegDef :=
  [regMhmWalk, regMhmWalkOut, regMhmScan, regMhmOffest,
   regMhmCold, regMhmThresh, regMhmErr, regMhmHealth]

/-- The registers of the SLK window. -/
def regsSlk : List RegDef :=
  [regSlkCtrl, regSlkPortStat, regSlkPeers, regSlkLeader,
   regSlkRemove, regSlkErr, regSlkJoinInfo, regSlkNote, regSlkRoute]

/-- The registers of the PRF window. -/
def regsPrf : List RegDef :=
  [regPrfSel, regPrfStat, regPrfBoot]

/-- Every register of the device (R626). -/
def regTable : List RegDef :=
  regsSys ++ regsPmu ++ regsRst ++ regsMbx ++ regsCsh ++ regsTkr ++ regsCph ++ regsSec ++ regsDbg ++ regsSbg ++ regsDmc ++ regsMep ++ regsHif ++ regsVfm ++ regsZrs ++ regsSch ++ regsFch ++ regsRch ++ regsMhm ++ regsSlk ++ regsPrf

end Sys2Proof.Machine
end

