-- ==== Sys2Proof/Machine/RegAccess.lean ====
section
/-!
DEFINITION. The register file: where a CSR address lies (R619, R620), what a register resets to, the access codes on a write and a
read (R8, R9), the epoch shadow (R28), what each reset and each low-power state does to every field (R10, R12), and
the named fields the meanings use.
-/

namespace Sys2Proof.Machine

open Sys2Proof

/-- The registers of the 1 MiB window that holds a CSR address (R619). -/
def regsOfWindow (w : Nat) : List RegDef :=
  if w = 0 then regsSys else if w = 1 then regsPmu else if w = 2 then regsRst else if w = 3 then regsMbx
  else if w = 4 then regsCsh else if w = 5 then regsTkr else if w = 6 then regsCph else if w = 7 then regsSec
  else if w = 8 then regsDbg else if w = 9 then regsSbg else if w = 10 then regsDmc else if w = 11 then regsMep
  else if w = 12 then regsHif else if w = 13 then regsVfm else if w = 14 then regsZrs else if w = 15 then regsSch
  else if w < 20 then regsFch else if w = 20 then regsRch else if w = 21 then regsMhm else if w = 22 then regsSlk
  else if w = 23 then regsPrf else []

/-- The window number of a CSR address. -/
def windowOf (addr : Nat) : Nat := (addr - 0x1000000000) / 0x100000

/-- The flat index of an element of a register array at an offset from its base. -/
def cellIdx : List (Nat × Nat) → (off acc : Nat) → Option Nat
  | [], off, acc => if off = 0 then some acc else none
  | (stride, n) :: ds, off, acc => if off / stride < n then cellIdx ds (off % stride) (acc * n + off / stride) else none

/-- The register of a list that starts at an address, with its flat index. -/
def findReg : List RegDef → Nat → Option (RegDef × Nat)
  | [], _ => none
  | d :: ds, addr =>
    if d.base ≤ addr then
      match cellIdx d.dims (addr - d.base) 0 with
      | some i => some (d, i)
      | none => findReg ds addr
    else findReg ds addr

/-- The register that starts at a CSR address. -/
def regAt (addr : Nat) : Option (RegDef × Nat) :=
  if addr < 0x1000000000 then none else findReg (regsOfWindow (windowOf addr)) addr

/-- The bits of a field. -/
def fieldMask (hi lo : Nat) : Word := BitVec.ofNat 64 ((2 ^ (hi + 1 - lo) - 1) * 2 ^ lo)

/-- The reset value of an element of a register. -/
def resetWord (d : RegDef) (i : Nat) : Word :=
  match d.perIndex[i]? with
  | some v => BitVec.ofNat 64 v
  | none => d.fields.foldl (fun w f => w ||| BitVec.ofNat 64 (f.reset * 2 ^ f.lo)) 0

/-- The reset value of the register at a CSR address. -/
def regReset (addr : Nat) : Word :=
  match regAt addr with
  | some (d, i) => resetWord d i
  | none => 0

/-- The contents of a register. -/
def regVal (s : State) (addr : Nat) : Word := spGet (regReset addr) s.regs addr

/-- Set the contents of a register. -/
def setReg (s : State) (addr : Nat) (v : Word) : State := { s with regs := spSet (regReset addr) s.regs addr v }

/-- The value of a named field. -/
def getF (s : State) (f : Fld) : Nat := field (regVal s f.addr).toNat f.hi f.lo

/-- A word with bits [hi:lo] replaced. -/
def putField (w : Word) (hi lo n : Nat) : Word :=
  (w &&& ~~~ fieldMask hi lo) ||| (BitVec.ofNat 64 (n * 2 ^ lo) &&& fieldMask hi lo)

/-- Set a named field. -/
def setF (s : State) (f : Fld) (n : Nat) : State := setReg s f.addr (putField (regVal s f.addr) f.hi f.lo n)

/-- Whether a named field is not zero. -/
def flag (s : State) (f : Fld) : Bool := getF s f != 0

/-- Set a one-bit field. -/
def setBit (s : State) (f : Fld) : State := setF s f 1

/-- Clear a field. -/
def clrF (s : State) (f : Fld) : State := setF s f 0

/-- Advance a counter field, saturating at its largest value. -/
def incSat (s : State) (f : Fld) (k : Nat) : State := setF s f (min (getF s f + k) (2 ^ (f.hi + 1 - f.lo) - 1))

/-- Set a bit of a field that has one bit per item. -/
def setFBit (s : State) (f : Fld) (i : Nat) : State :=
  if bitAt (getF s f) i then s else setF s f (getF s f + 2 ^ i)

/-- Clear a bit of such a field. -/
def clrFBit (s : State) (f : Fld) (i : Nat) : State :=
  if bitAt (getF s f) i then setF s f (getF s f - 2 ^ i) else s

/-- One field of a register word after a write of `data` through `mask` (R8). -/
def writeField (locked : Bool) (mask data w : Word) (f : FieldDef) : Word :=
  let m := fieldMask f.hi f.lo &&& mask
  let set := (w &&& ~~~ m) ||| (data &&& m)
  match f.access with
  | .rw | .wo | .key => set
  | .ro | .rc => w
  | .w1c => w &&& ~~~ (data &&& m)
  | .w1s => w ||| (data &&& m)
  | .rwl => if locked then w else set

/-- A register word after a write (R8, R9). -/
def writeWord (d : RegDef) (locked : Bool) (mask data w : Word) : Word := d.fields.foldl (writeField locked mask data) w

/-- A register word once the pending shadow copy `v` of its writable fields becomes effective (R28). -/
def shadowWord (d : RegDef) (v w : Word) : Word :=
  d.fields.foldl (fun r f =>
    match f.access with
    | .rw | .rwl | .wo => (r &&& ~~~ fieldMask f.hi f.lo) ||| (v &&& fieldMask f.hi f.lo)
    | _ => r) w

/-- What a read of a register word returns: WO and KEY fields read zero (R8), reserved bits read zero (R9). -/
def readWord (d : RegDef) (w : Word) : Word :=
  d.fields.foldl (fun r f =>
    match f.access with
    | .wo | .key => r
    | _ => r ||| (w &&& fieldMask f.hi f.lo)) 0

/-- A register word after a read through `mask`: RC fields return to their reset value (R8, R624). -/
def clearRc (d : RegDef) (i : Nat) (mask w : Word) : Word :=
  d.fields.foldl (fun r f =>
    match f.access with
    | .rc => let m := fieldMask f.hi f.lo &&& mask
             (r &&& ~~~ m) ||| (resetWord d i &&& m)
    | _ => r) w

/-- Whether a field is cleared by a reset of the strength of `k` (R10): COLD clears all but `never`, and so on. -/
def clearedAt (k : ClearedBy) (c : ClearedBy) : Bool :=
  match k, c with
  | _, .never => false
  | .cold, _ => true
  | .shelf, .cold => false
  | .shelf, _ => true
  | .warm, .warm => true
  | .warm, .cluster => true
  | .cluster, .cluster => true
  | _, _ => false

/-- A register word with the chosen fields back at their reset values. -/
def resetFields (d : RegDef) (i : Nat) (pick : FieldDef → Bool) (w : Word) : Word :=
  d.fields.foldl (fun r f =>
    if pick f then (r &&& ~~~ fieldMask f.hi f.lo) ||| (resetWord d i &&& fieldMask f.hi f.lo) else r) w

/-- The register file with the chosen fields of every register at their reset values, in canonical form. -/
def resetPick (regs : Sparse Word) (sel : Nat → Bool) (pick : FieldDef → Bool) : Sparse Word :=
  regs.filterMap fun kv =>
    if sel kv.1 then
      match regAt kv.1 with
      | some (d, i) => let w := resetFields d i pick kv.2
                       if w = resetWord d i then none else some (kv.1, w)
      | none => some kv
    else some kv

/-- The register file after a reset of strength `k` (R10). -/
def resetRegs (k : ClearedBy) (regs : Sparse Word) : Sparse Word := resetPick regs (fun _ => true) (fun f => clearedAt k f.cleared)

/-- Whether a field is lost over a stay in STANDBY (deep = false) or SAFELIGHT (deep = true) (R12). -/
def lostOver (deep : Bool) (p : LowPower) : Bool :=
  match p with
  | .kept => false
  | .lostStandby => true
  | .lostSafelight => deep
  | .restored => false
  | .restoredSafelight => false
  | .restoredThenLost => deep

/-- A free value (Config.freeNat), and the state with the draw counted. Log 6, 12 (DESIGN CHOICE). -/
def draw (s : State) : Nat × State := (Config.freeNat s.free, { s with free := s.free + 1 })

/-- `n` free bytes. Log 12 (DESIGN CHOICE). -/
def drawBytes (s : State) (n : Nat) : List Byte × State := (leBytes n (Config.freeNat s.free), { s with free := s.free + 1 })

end Sys2Proof.Machine
end

