-- ==== Sys2Proof/Machine/Ops.lean ====
section
/-!
DEFINITION. The operations every family uses: outputs and responses (R497, R620, R625), the counters of time (R16, R27, R64), power
domains (R32), events into the Contact Sheet's ports (R520, R521), and the access to an off domain (R497).
-/

namespace Sys2Proof.Machine

open Sys2Proof

/-- Append an output of the command. Log 6 (DESIGN CHOICE). -/
def emit (s : State) (o : Output) : State := { s with out := s.out ++ [o] }

/-- Append an output where a condition holds. -/
def emitIf (c : Bool) (s : State) (o : Output) : State := if c then emit s o else s

/-- Refuse an access with an error response (R15, R620). -/
def errorResponse (s : State) (master addr : Nat) : State := emit s (.errorResponse master addr)

/-- The master IDs of R14 that the meanings name. -/
def idHostPf : Nat := 0x00
def idHostVf : Nat := 0x01
def idMc (c : Nat) : Nat := 0x10 + c
def idSec : Nat := 0x20
def idCs (k : Nat) : Nat := 0x30 + k
def idPeer (d : Nat) : Nat := 0x40 + d
def idHif : Nat := 0x50
def idCph : Nat := 0x51
def idRch : Nat := 0x52
def idSbg : Nat := 0x53
def idZrs : Nat := 0x54
def idMhm : Nat := 0x55
def idMep : Nat := 0x56
def idDmc : Nat := 0x57
def idPmu : Nat := 0x58
def idTkr : Nat := 0x59
def idMbx : Nat := 0x5A
def idVfm : Nat := 0x5B
def idSch : Nat := 0x5C
def idSlk : Nat := 0x5D
def idLrs : Nat := 0x70
def idDebug : Nat := 0x7F

/-- A master is one of MC0 to MC7. -/
def isMc (m : Nat) : Bool := decide (0x10 ≤ m ∧ m ≤ 0x17)

/-- A master ID that R14 does not list. Log 174 (DEDUCED). -/
def reservedMaster (m : Nat) : Bool :=
  !(decide (m ≤ 0x01) || isMc m || m == 0x20 || decide (0x30 ≤ m ∧ m ≤ 0x5D) || m == 0x70 || m == 0x7F)

/-- The debug level is FULL (R441). -/
def debugFull (s : State) : Bool := getF s F.dbgUnlock_level == 2

/-- A domain is on. -/
def domainOn (s : State) (d : Domain) : Bool := s.pmu.on.contains d

/-- Bay b is enabled by its fuse (R4, R36). -/
def bayEnabled (s : State) (b : Nat) : Bool := bitAt s.otp.baysEn b

/-- The enabled bays in ascending order. -/
def enabledBays (s : State) : List Nat := (List.range 4).filter (bayEnabled s)

/-- A bay's record; a bay never powered is off. -/
def bayOf (s : State) (b : Nat) : Bay := spGet ⟨.off, 0, false, false, false, 0⟩ s.bay.bays b

/-- Replace a bay's record. -/
def putBay (s : State) (b : Nat) (x : Bay) : State :=
  { s with bay := { s.bay with bays := spSet ⟨.off, 0, false, false, false, 0⟩ s.bay.bays b x } }

/-- The lifecycle value of the LC fuses (R437). -/
def lifecycle (s : State) : Nat := if bitAt s.otp.lc 2 then 3 else if bitAt s.otp.lc 1 then 2 else if bitAt s.otp.lc 0 then 1 else 0

/-- PD_FLASH(b) is on and its registers answer: from step 3 of R192 until the bay's power-down. -/
def bayOn (s : State) (b : Nat) : Bool :=
  match (bayOf s b).phase with
  | .initialising | .ready => true
  | _ => false

/-- Ask for a bay to be powered (R163, R192): off, it waits for its power-up; powering down, it is powered again after. -/
def requestBay (s : State) (b : Nat) : State :=
  let x := bayOf s b
  if !bayEnabled s b then s else
    match x.phase with
    | .off | .failed => putBay s b { x with phase := .requested }
    | .poweringDown => putBay s b { x with again := true }
    | _ => s

/-- Let time pass: the µs count always runs, the SCH time base while PD_DATA is on (R64). Log 2 (DESIGN CHOICE). -/
def advance (s : State) (us : Nat) : State :=
  { s with clk := { s.clk with us := s.clk.us + us, sch := if domainOn s .data then s.clk.sch + us else s.clk.sch } }

/-- Let time pass until the µs count has reached `t`. Log 2 (DESIGN CHOICE). -/
def advanceTo (s : State) (t : Nat) : State := advance s (t - s.clk.us)

/-- Let time pass until the SCH time base has reached `t`. Log 2 (DESIGN CHOICE). -/
def advanceSch (s : State) (t : Nat) : State := advance s (t - s.clk.sch)

/-- SUB: ALF cycles since OPHOURS last advanced, 0 to 460,799 (R520). -/
def subCount (s : State) : Nat := min 460799 ((s.clk.us - s.clk.subBase) * 32768 / 1000000)

/-- The port a block instance raises a trigger through is occupied (R520). -/
def portHeld (s : State) (trig inst : Nat) : Bool := s.csh.ports.any fun e => e.trigger == trig && e.inst == inst

/-- Count a missed event of a trigger: pending and total, both saturating (R525). -/
def missEvent (s : State) (trig : Nat) : State :=
  incSat (incSat s (F.cshMissed_total (trig - 1)) 1) (F.cshMissed_pending (trig - 1)) 1

/-- A block raises an event: into its port, or missed where the port still holds one (R520, R521). -/
def raise (s : State) (trig inst master : Nat) (words : List Nat) : State :=
  if portHeld s trig inst then missEvent s trig
  else { s with csh := { s.csh with ports := s.csh.ports ++ [⟨trig, inst, master, words.map (BitVec.ofNat 32)⟩] } }

/-- A fault bit sets, and where it was clear its event is raised with the snapshot taken after it set (R523). -/
def raiseErr (s : State) (f : Fld) (trig inst master : Nat) (words : State → List Nat) : State :=
  if flag s f then s else
    let s1 := setBit s f
    raise s1 trig inst master (words s1)

/-- The contents of a register as a number. -/
def regNat (s : State) (addr : Nat) : Nat := (regVal s addr).toNat

/-- An access with a reserved master ID (R15): refused and recorded. Log 174 (DEDUCED). -/
def badMaster (s : State) (master addr : Nat) : State :=
  errorResponse (raise s 0x0E 0 master [master, addr % 2 ^ 32, addr / 2 ^ 32 % 256]) master addr

/-- An internal access has a way to its target: over the fabric, which lies in PD_DATA (R18); beside it only the LRS's paths (R19, R461), the security
core's own windows and the debug port's. Log 175 (DEDUCED). -/
def routed (s : State) (m addr : Nat) : Bool :=
  domainOn s .data || m == idLrs || (m == idSec && (windowOf addr == 5 || windowOf addr == 7)) || (m == idDebug && windowOf addr == 8)

/-- A target refuses an access: an error response, which the host does not see (R625). -/
def refuse (s : State) (m addr : Nat) : State := if m == idHostPf then s else errorResponse s m addr

/-- The PWR_OFF response (R497): read data 0x0BAD_0FF0, PMU_PWROFF latched and counted, a Contact Sheet record, and an access fault
at a management core or the security core. -/
def pwrOffResponse (s : State) (master addr : Nat) (write : Bool) : State :=
  let s := if flag s F.pmuPwroff_valid then s else
    setBit (setF (setF (setF s F.pmuPwroff_addr addr) F.pmuPwroff_master master) F.pmuPwroff_write (b2n write)) F.pmuPwroff_valid
  let s := incSat s F.pmuPwroff_count 1
  let s := raise s 0x0D 0 master [addr % 2 ^ 32, addr / 2 ^ 32 % 256, master, b2n write, regNat s F.pmuState_state.addr]
  let s := emitIf (isMc master || master == idSec) s (.note "access fault" master)
  emitIf (!write) s (.readResponse master 0x0BAD0FF00BAD0FF0#64)

/-- Apply a step to each element of a list in turn. -/
def forEach {α : Type} (xs : List α) (s : State) (f : State → α → State) : State := xs.foldl f s

/-- Drive a pin. -/
def drive (s : State) (p : Pin) (level : Bool) : State := emit s (.pin p level)

/-- Interrupt MC0 to MC7 while PD_MGMT is on. -/
def interruptMcs (s : State) : State :=
  if domainOn s .mgmt then forEach (List.range 8) s (fun s c => emit s (.interrupt (idMc c))) else s

end Sys2Proof.Machine
end

