-- ==== Sys2Proof/Machine/Settle.lean ====
section
/-!
DEFINITION. What follows from the state at once: the read-only status registers that count or mirror what the tables hold, and the
pins the spec derives from conditions. `settle` brings them up to date; every command ends with it.
-/

namespace Sys2Proof.Machine

open Sys2Proof

/-- SEQ of a 64-byte Contact Sheet record (R524). -/
def recordSeq (r : List Byte) : Nat := leAt r 0 4

/-- SEQ of log position 0; 0 when the log is empty (R529, R533). Log 27 (DEDUCED). -/
def oldestSeq (s : State) : Nat :=
  match s.csh.ringSeqs, s.csh.staging with
  | q :: _, _ => q
  | [], r :: _ => recordSeq r
  | [], [] => 0

/-- CSH_STAT's counts and OLDEST_SEQ (R533). Log 27 (DEDUCED). -/
def settleCsh (s : State) : State :=
  setF (setF (setF (setF s F.cshStat_ringCount s.csh.ringSeqs.length) F.cshRing_count s.csh.ringSeqs.length) F.cshStat_stgCount s.csh.staging.length)
    F.cshStat_oldestSeq (oldestSeq s)

/-- Reservation blocks of a tier (R73). -/
def resvBlocks (s : State) (t : Tier) : Nat := (s.zrs.resv.filter fun kv => kv.2.tier == t).length

/-- Granules a reservation block of a tier takes (R72). -/
def granulesOf : Tier → Nat
  | .d4 => 3
  | .d5 => 5
  | .d6 => 6

/-- Granules held by reservation blocks (R73). -/
def granulesUsed (s : State) : Nat := 3 * resvBlocks s .d4 + 5 * resvBlocks s .d5 + 6 * resvBlocks s .d6

/-- ZRS_STAGING (R83). -/
def settleStaging (s : State) : State :=
  setF (setF (setF (setF s F.zrsStaging_blkD6 (resvBlocks s .d6)) F.zrsStaging_blkD5 (resvBlocks s .d5))
    F.zrsStaging_blkD4 (resvBlocks s .d4)) F.zrsStaging_granulesUsed (granulesUsed s)

/-- TKR_STAT's counts (R420). -/
def settleTkr (s : State) : State :=
  setF (setF s F.tkrStat_loadedCount s.tkr.slots.length) F.tkrStat_retiredUsed s.tkr.retired.length

/-- HIF_DBS_STAT.PENDING and VALID_COUNT (R103). -/
def settleDbs (s : State) : State :=
  setF (setF s F.hifDbsStat_validCount s.aon.shadow.length) F.hifDbsStat_pending (b2n (!s.aon.shadow.isEmpty))

/-- PENDING and TARGET codes (R510). -/
def reqCode : PmuReq → Nat
  | .active => 1
  | .idle => 2
  | .standby => 3
  | .safelight => 4
  | .wake => 5

/-- STEP code (R510): the step's number in its table; the padding of R490 follows step 2 and is shown as it, and an exit (`on` says that its domains are on) waits
for the wake at step 1 or for the DRAM at step 5. Log 25 (DEDUCED). -/
def stepCode (on : Bool) : PmuStep → Nat
  | .none | .activeIdle => 0
  | .exiting => if on then 5 else 1
  | .drain | .pad => 2
  | .firmware => 3
  | .bays => 4
  | .save => 5
  | .selfRefresh => 6
  | .off => 7

/-- PMU_STATE's PENDING, STEP and TARGET (R510). Log 25 (DEDUCED). -/
def settlePmu (s : State) : State :=
  let pend := match s.pmu.pending with | none => 0 | some r => reqCode r
  let targ := match s.pmu.flight with | .none => 0 | _ => reqCode s.pmu.target
  setF (setF (setF s F.pmuState_pending pend) F.pmuState_step (stepCode (domainOn s .data) s.pmu.flight)) F.pmuState_target targ

/-- The peers in a state, one bit per DEV_ID. -/
def peerBits (s : State) (c : PeerCond) : Nat := s.slk.peers.foldl (fun a kv => if kv.2.cond == c then a + 2 ^ kv.1 else a) 0

/-- SLK_PEERS (R575). -/
def settlePeers (s : State) : State :=
  setF (setF (setF s F.slkPeers_live (peerBits s .live)) F.slkPeers_lost (peerBits s .lost)) F.slkPeers_departed (peerBits s .departed)

/-- A condition of R506 holds: the LRS is in TAKEOVER, RESTART or HOLD, a boot has stopped, or a bay has failed. -/
def alertCondition (s : State) : Bool :=
  decide (2 ≤ getF s F.rstLrs_state) || s.lrs.bootStopped || s.bay.bays.any (fun kv => kv.2.phase == .failed)

/-- The entries issued and not complete (R160). -/
def issuedOf (s : State) : List Running := s.sch.dies.flatMap fun kv => kv.2.current.toList ++ kv.2.suspended.toList

/-- The sum of POWER in use (R160). -/
def inUse (s : State) : Nat := (issuedOf s).foldl (fun a r => a + r.power) 0

/-- SCH_POWER_STAT.IN_USE. -/
def settlePower (s : State) : State := setF s F.schPowerStat_inUse (inUse s)

/-- CPH_STAT's counts and CPH_ERR.PIPES_OFF (R416, R417). -/
def settleCph (s : State) : State :=
  setF (setF (setF s F.cphStat_inProgress (s.cph.ctxs.filter fun kv => kv.2.blk.isSome).length)
    F.cphStat_resident (s.cph.ctxs.filter fun kv => kv.2.resident).length) F.cphErr_pipesOff s.cph.pipesOff.length

/-- RCH_DEC_ERR's counts of engines out of use. -/
def settleEngines (s : State) : State := setF (setF s F.rchDecErr_hardOff s.rch.hardOff.length) F.rchDecErr_softOff s.rch.softOff.length

/-- SEC_LC: what it mirrors of the fuses and of DBG_UNLOCK.LEVEL (R452). -/
def settleLc (s : State) : State :=
  setF (setF (setF (setF s F.secLc_lifecycle (lifecycle s)) F.secLc_arb s.otp.arb) F.secLc_revoked s.otp.revoke)
    F.secLc_level (getF s F.dbgUnlock_level)

/-- STATE of RST_LRS (R518). -/
def lrsCode (s : State) : Nat :=
  match s.lrs.phase with
  | .watching => if domainOn s .mgmt && getF s F.rstLrs_hbTimeout != 0 then 0 else 1
  | .takeover => 2
  | .restart => 3
  | .hold => 4

/-- RST_LRS.STATE. -/
def settleLrs (s : State) : State := setF s F.rstLrs_state (lrsCode s)

/-- The FCH_DIE_CFG registers that do not read zero: the die and the contents (R213). -/
def dieCfgs (s : State) : List (Nat × Nat) :=
  (s.regs.filter fun kv => decide (0x1001000000 ≤ kv.1 ∧ kv.1 < 0x1001400000 ∧ 0x100 ≤ kv.1 % 0x10000 ∧ kv.1 % 0x10000 < 0x140)).map
    fun kv => (16 * ((kv.1 - 0x1001000000) / 0x10000) + (kv.1 % 0x10000 - 0x100) / 4, kv.2.toNat)

/-- The dies in service. -/
def diesIn (s : State) : List Nat := ((dieCfgs s).filter fun x => bitAt x.2 0 && bitAt x.2 4).map (·.1)

/-- SPARE_FREE block-planes of the dies in service: every spare block-plane but those whose record says otherwise (R276). -/
def sparesFree (s : State) : Nat :=
  256 * (diesIn s).length - (s.mhm.brt.filter fun kv =>
    decide (4096 ≤ kv.1 % 4160) && kv.2.kind != .spareFree && (diesIn s).contains (kv.1 / 16640)).length

/-- SMART Available Spare (R296). -/
def availSpare (s : State) : Nat := if (diesIn s).isEmpty then 0 else 100 * sparesFree s / (256 * (diesIn s).length)

/-- MHM_HEALTH (R296, R317). -/
def settleHealth (s : State) : State :=
  setF (setF (setF s F.mhmHealth_diesOut ((dieCfgs s).filter fun x => bitAt x.2 0 && !bitAt x.2 4).length)
    F.mhmHealth_withdrawnZones s.mhm.withdrawn.length) F.mhmHealth_availSpare (availSpare s)

/-- A die queue of a bay holds an entry, waiting or issued. -/
def bayBusy (s : State) (b : Nat) : Bool :=
  s.sch.dies.any fun kv => kv.1 / 256 == b && (!kv.2.queue.isEmpty || kv.2.current.isSome || kv.2.suspended.isSome)

/-- A bay's queues are empty since the last command after which one of them was not (R482). -/
def settleBays (s : State) : State :=
  { s with bay := { s.bay with bays := spMap s.bay.bays fun b x => if bayBusy s b then { x with emptySince := s.clk.us } else x } }

/-- SHELF_ALERT_N (R506). -/
def settleAlert (s : State) : State :=
  if s.pins.shelfAlertLow = alertCondition s then s
  else drive { s with pins := { s.pins with shelfAlertLow := alertCondition s } } .shelfAlertN (!alertCondition s)

/-- PCIE_TXP and PCIE_TXN are driven: the link to the host is up and not in L1.2; a member holds it down (R85, R543). Log 167 (DESIGN CHOICE). -/
def pcieDriven (s : State) : Bool := s.hif.linkUp && !s.hif.l12

/-- The Saosh ports whose transmitters are driven, by bit: those that train or are up while PD_SLK is on (R495, R547, R601). Log 167 (DESIGN CHOICE). -/
def slkDriven (s : State) : Nat :=
  if domainOn s .slk then s.slk.ports.foldl (fun a kv => if kv.2.st == .train || kv.2.st == .up then a + 2 ^ kv.1 else a) 0 else 0

/-- The transmitters of the serial lanes that leave or enter electrical idle (R495, R543, R601). -/
def laneChanges (s : State) : List Output :=
  (((List.range 4).filter fun p => bitAt (slkDriven s) p != bitAt s.pins.slkTx p).map fun p => Output.pin (.slkTx p) (bitAt (slkDriven s) p)) ++
    if s.pins.pcieTx = pcieDriven s then [] else [.pin .pcieTx (pcieDriven s)]

/-- The transmitters of the serial lanes follow the link and the ports. -/
def settleLanes (s : State) : State :=
  { s with out := s.out ++ laneChanges s, pins := { s.pins with slkTx := slkDriven s, pcieTx := pcieDriven s } }

/-- Bring everything that follows from the state up to date. Log 11 (DESIGN CHOICE). -/
def settle (s : State) : State :=
  let s := settleTkr (settleStaging (settleCsh s))
  let s := settleEngines (settleCph (settlePower (settlePeers (settlePmu (settleDbs s)))))
  settleLanes (settleAlert (settleBays (settleHealth (settleLc (settleLrs s)))))

/-- The outcome of a command. -/
abbrev Res : Type := Host.Outcome State Fault Refusal

/-- A command whose effect is `f`: the outputs of the command before it are gone, and the derived state is settled at its end. In OFF nothing
is driven and nothing runs (R483, R495). Log 3 (DESIGN CHOICE), 4 (DEDUCED). -/
def effect (f : State → State) (s : State) : Res := .next (if s.pmu.off then { s with out := [] } else settle (f { s with out := [] }))

/-- A command of a domain: it takes place only while the domain is on. Log 3 (DESIGN CHOICE), 4 (DEDUCED). -/
def effectIn (d : Domain) (f : State → State) (s : State) : Res := effect (fun s => if domainOn s d then f s else s) s

/-- The rise of VDD_AON, which OFF waits for. Log 4 (DEDUCED). -/
def effectOff (f : State → State) (s : State) : Res := .next (settle (f { s with out := [] }))

end Sys2Proof.Machine
end

