-- ==== Sys2Proof/Machine/PmuReq.lean ====
section
/-!
DEFINITION. Requests to the PMU and wakes (R484 to R487, R445): which start a change, which wait, which have no effect. The steps of a
change are in `Machine/Pmu.lean`.
-/

namespace Sys2Proof.Machine

open Sys2Proof

/-- PMU_STATE.STATE codes (R510). -/
def stActive : Nat := 0
def stIdle : Nat := 1
def stStandby : Nat := 2
def stSafelight : Nat := 3

/-- The state the device is in. -/
def pmuState (s : State) : Nat := getF s F.pmuState_state

/-- The device is in ACTIVE or IDLE with no entry under way. -/
def operational (s : State) : Bool := decide (pmuState s ≤ 1)

/-- The state a request names. -/
def reqState : PmuReq → Nat
  | .active => 0
  | .idle => 1
  | .standby => 2
  | .safelight => 3
  | .wake => 4

/-- A request for STANDBY or SAFELIGHT. -/
def isEntry : PmuReq → Bool
  | .standby | .safelight => true
  | _ => false

/-- The LRS has taken over, restarts the cluster or holds (R487). -/
def lrsActive (s : State) : Bool := decide (2 ≤ getF s F.rstLrs_state)

/-- The request that names LAST_OP (R485). -/
def lastOp (s : State) : PmuReq := if getF s F.pmuState_lastOp = 2 then .idle else .active

/-- Steps 4 to 7 of an entry: the bays are drained and nothing more is issued to a die (R488, R209). -/
def pmuDrains (s : State) : Bool :=
  match s.pmu.flight with
  | .bays | .save | .selfRefresh | .off => true
  | _ => false

/-- Begin a change: an entry at its step 2, fetch having stopped on every function (R488), an ACTIVE to IDLE change, or an exit. -/
def startChange (s : State) (r : PmuReq) : State :=
  let begin_ := fun (st : PmuStep) (r : PmuReq) => { s with pmu := { s.pmu with flight := st, target := r, viaExit := false, padded := [] } }
  if operational s then
    match r with
    | .standby | .safelight =>
      let s := begin_ .drain r
      { s with hif := { s.hif with fetchStopped := true } }
    | .active | .idle => begin_ .activeIdle r
    | .wake => s
  else
    match r with
    | .wake => begin_ .exiting (lastOp s)
    | .active | .idle => begin_ .exiting r
    | .safelight => { s with pmu := { s.pmu with flight := .exiting, target := .safelight, viaExit := true, padded := [] } }
    | .standby => { s with pmu := { s.pmu with flight := .exiting, target := lastOp s, pending := some .standby, viaExit := false } }

/-- A request to the PMU meets what is in flight (R486); while a core is halted by the debug port it is held (R445), and while the LRS is
in TAKEOVER, RESTART or HOLD an entry request is discarded (R487). While a WARM or SHELF reset is asserted nothing is requested. Log 117 (DEDUCED). -/
def pmuRequest (s : State) (r : PmuReq) : State :=
  let hold := { s with pmu := { s.pmu with pending := some r } }
  if s.lrs.perst || s.lrs.shelfReset || (lrsActive s && isEntry r) then s
  else
    match s.pmu.flight with
    | .none =>
      if (r == .wake && operational s) || reqState r == pmuState s then s
      else if s.dbg.halted ≠ [] then hold
      else startChange s r
    | .exiting => if r == s.pmu.target || (r == .wake && !s.pmu.viaExit) then s else hold
    | _ => hold

/-- Start the pending request once nothing is in flight (R486). Log 117 (DEDUCED). -/
def startPending (s : State) : State :=
  match s.pmu.flight, s.pmu.pending with
  | .none, some r => if s.dbg.halted ≠ [] then s else pmuRequest { s with pmu := { s.pmu with pending := none } } r
  | _, _ => s

/-- A wake: its source's bit in PMU_WAKE, and a request to return to the last operational state (R485). -/
def wakeRequest (s : State) (source : Fld) : State := pmuRequest (setBit s source) .wake

end Sys2Proof.Machine
end

