-- ==== Sys2Proof/Machine/Pools.lean ====
section
/-!
DEFINITION. The Saddlebag buffer pools (chapter 12): classes, link words and state bits, allocation with its link checks, frees and their
refusals, the list rebuild, read reservations (R372 to R380).
-/

namespace Sys2Proof.Machine

open Sys2Proof

/-- Buffer bytes, count and base of each class (R372). The SRAM classes stand one after another from SRAM address 0 in class order. -/
def classBytes : Nat → Nat
  | 0 => 1024
  | 1 => 4096
  | 2 => 5120
  | 3 => 40960
  | 4 => 4096
  | 5 => 33024
  | 6 => 4096
  | 7 => 65536
  | _ => 1048576

def classCount : Nat → Nat
  | 0 => 1024
  | 1 => 4096
  | 2 => 1024
  | 3 => 256
  | 4 => 1024
  | 5 => 128
  | 6 => 757304
  | 7 => 32768
  | _ => 4096

/-- The lowest address of a buffer class. Log 36 (DESIGN CHOICE). -/
def classBase : Nat → Nat
  | 0 => 0
  | 1 => 1048576
  | 2 => 17825792
  | 3 => 23068672
  | 4 => 33554432
  | 5 => 37748736
  | 6 => 0xC00000000
  | 7 => 0xC00000000 + 3101917184
  | _ => 0xC00000000 + 3101917184 + 2147483648

/-- The classes of a group by any of its classes: read 0 to 3, write 4 and 5, DRAM 6 to 8 (R372). -/
def groupClasses (group : Nat) : List Nat := if group = 0 then [0, 1, 2, 3] else if group = 1 then [4, 5] else [6, 7, 8]

/-- The end mark of a list. -/
def linkEnd : Nat := 0xFFFFFF

/-- The link word of a free buffer (R376). -/
def mkLink (k idx next : Nat) : Word :=
  let low : BitVec 32 := BitVec.ofNat 32 (next + k * 2 ^ 24 + 0xA * 2 ^ 28)
  let chk : BitVec 32 := ~~~low ^^^ BitVec.ofNat 32 idx
  BitVec.ofNat 64 (low.toNat + chk.toNat * 2 ^ 32)

/-- The link word of a buffer in a list that runs in ascending order over every buffer of the class. Log 14 (DEDUCED). -/
def freshLink (k idx : Nat) : Word := mkLink k idx (if idx + 1 < classCount k then idx + 1 else linkEnd)

/-- A class with every buffer free. Log 14 (DEDUCED). -/
def freshPool : Pool := ⟨0, [], [], false, false, [], []⟩

/-- A class. -/
def poolOf (s : State) (k : Nat) : Pool := spGet freshPool s.sbg.pools k

/-- Replace a class. -/
def putPool (s : State) (k : Nat) (p : Pool) : State :=
  { s with sbg := { s.sbg with pools := spSet freshPool s.sbg.pools k p } }

/-- The state bit of a buffer. -/
def bufTaken (p : Pool) (i : Nat) : Bool := (spFind p.bits i).getD false

/-- The link word a free buffer holds. -/
def linkOf (k : Nat) (p : Pool) (i : Nat) : Word := spGet (freshLink k i) p.links i

/-- The address of a buffer. Log 36 (DESIGN CHOICE). -/
def bufAddr (k i : Nat) : Nat := classBase k + i * classBytes k

/-- A mask of failing bytes, as the record holds it. -/
def byteMask (ks : List Nat) : Nat := ks.foldl (fun a k => if bitAt a (k % 32) then a else a + 2 ^ (k % 32)) 0

/-- A parity detection (R329): counted, its bit set, and a record each time. Log 119 (DEDUCED). -/
def parityFound (s : State) (dram : Bool) (addr master : Nat) (bad : List Nat) : State :=
  let bit := if dram then F.mepErr_dramParity else F.mepErr_sramParity
  let s := incSat (setBit s bit) F.mepErr_parityCount 1
  raise s 0x07 0 idMep [regNat s bit.addr, addr % 2 ^ 32, addr / 2 ^ 32, master, byteMask bad]

/-- The bytes of `n` from an address on whose DRAM parity fails (R328), as offsets. -/
def badIn (s : State) (a n : Nat) : List Nat := (s.mep.dramBad.filter fun x => decide (a ≤ x ∧ x < a + n)).map (· - a)

/-- Whole lines written with fresh parity (R329). -/
def freshParity (s : State) (a n : Nat) : State :=
  { s with mep := { s.mep with dramBad := s.mep.dramBad.filter fun x => !decide (a ≤ x ∧ x < a + n) } }

/-- First address of the regions lost in SAFELIGHT (R353). -/
def lostBase : Nat := 0x1C0000000

/-- The DRAM buffer a data address lies in: class, index, offset. -/
def dramBuffer (a : Nat) : Option (Nat × Nat × Nat) :=
  if a < classBase 6 then none
  else
    let k := if a < classBase 7 then 6 else if a < classBase 8 then 7 else 8
    if (a - classBase k) / classBytes k < classCount k then some (k, (a - classBase k) / classBytes k, (a - classBase k) % classBytes k) else none

/-- The draw that stands for a byte nothing has written: since its buffer was allocated (R377), or since a SAFELIGHT took its region (R354). The first line of
a buffer is written when its list is built (R379). -/
def undefDraw (s : State) (a : Nat) : Option Nat :=
  let gone := match s.dmc.lost with | some n => if lostBase ≤ a then some n else none | none => none
  match dramBuffer a with
  | none => gone
  | some (k, i, o) => match spFind (poolOf s k).drawn i with
    | some n => some n
    | none => if o < 64 then none else gone

/-- What a byte that nothing has written since the fill, or since it became undefined, reads as (R354, R377): zero, or a free value. Log 7 (DESIGN CHOICE). -/
def dramDefault (s : State) (a : Nat) : Byte :=
  match undefDraw s a with
  | some n => Config.freeByte n a
  | none => 0

/-- The byte table after one byte is stored. A byte that would read as undefined is listed whatever its value. -/
def storeByte (und : Nat → Bool) (m : Sparse Byte) (a : Nat) (b : Byte) : Sparse Byte := if und a then spPut m a b else spSet 0 m a b

/-- The byte table after bytes are stored from an address on. -/
def storeBytes (und : Nat → Bool) : (m : Sparse Byte) → (a : Nat) → List Byte → Sparse Byte
  | m, _, [] => m
  | m, a, b :: bs => storeBytes und (storeByte und m a b) (a + 1) bs

/-- Store bytes in the byte table of DRAM. -/
def putDramBytes (s : State) (a : Nat) (bs : List Byte) : State :=
  { s with mep := { s.mep with dram := storeBytes (fun x => (undefDraw s x).isSome) s.mep.dram a bs } }

/-- A DRAM buffer is allocated: its bytes are undefined, apart from its link word (R377). Log 7 (DESIGN CHOICE). -/
def drawBuffer (s : State) (k i : Nat) (link : Word) : State :=
  if k < 6 then s
  else
    let a := bufAddr k i
    let p := poolOf s k
    let s := putPool { s with free := s.free + 1 } k { p with drawn := spPut p.drawn i s.free }
    putDramBytes { s with mep := { s.mep with dram := spFilter s.mep.dram fun x _ => !decide (a ≤ x ∧ x < a + classBytes k) } } a (leBytes 8 link.toNat)

/-- A list of a DRAM class is built: the first line of each free buffer is written, zero beyond its link word, with fresh parity (R379). -/
def buildLines (s : State) (k : Nat) : State :=
  if k < 6 then s
  else
    let p := poolOf s k
    let head := fun (a : Nat) => dramBuffer a |>.any fun x => x.1 == k && decide (x.2.2 < 64) && !bufTaken p x.2.1
    let s := { s with mep := { s.mep with
      dram := s.mep.dram.filter (fun kv => !head kv.1), dramBad := s.mep.dramBad.filter fun a => !head a } }
    forEach (p.drawn.filter fun kv => !bufTaken p kv.1) s fun s kv => putDramBytes s (bufAddr k kv.1) (List.replicate 64 0)

/-- FREE of a class (R390). -/
def freeCount (s : State) (k : Nat) : Nat := getF s (F.sbgPoolStat_free k)

/-- Free buffers that no reservation holds (R373, R374). -/
def openCount (s : State) (k : Nat) : Nat := freeCount s k - getF s (F.sbgPoolStat_reserved k)

/-- FREE takes a value; MIN_FREE follows it down, and a fall below LOW is reported (R375, R390). -/
def setFree (s : State) (k n : Nat) : State :=
  let low := getF s (F.sbgPoolCfg_low k)
  let was := freeCount s k
  let s := setF s (F.sbgPoolStat_free k) n
  let s := if n < getF s (F.sbgPoolStat_minFree k) then setF s (F.sbgPoolStat_minFree k) n else s
  if n < low ∧ low ≤ was then
    raiseErr s F.sbgErr_low 0x09 0 idSbg fun s =>
      [regNat s F.sbgErr_low.addr, regNat s F.sbgErrInfo_addr.addr % 2 ^ 32, regNat s F.sbgErrInfo_addr.addr / 2 ^ 32]
  else s

/-- A refusal or corruption: SBG_ERR_INFO latches the first, the count advances, the bit sets, and each makes a record (R378, R384, R385). Log 204 (DEDUCED). -/
def poolFault (s : State) (bit : Fld) (kind master k addr : Nat) : State :=
  let clear := !flag s F.sbgErr_doubleFree && !flag s F.sbgErr_linkCorrupt && !flag s F.sbgErr_badIndex
  let s := if clear then
      setF (setF (setF (setF s F.sbgErrInfo_source master) F.sbgErrInfo_class k) F.sbgErrInfo_kind kind) F.sbgErrInfo_addr addr
    else s
  let s := setBit (incSat s F.sbgErr_errCount 1) bit
  raise s 0x09 0 master [regNat s bit.addr, regNat s F.sbgErrInfo_addr.addr % 2 ^ 32, regNat s F.sbgErrInfo_addr.addr / 2 ^ 32]

/-- The link checks of R377 on the head buffer. -/
def linkGood (k : Nat) (p : Pool) : Bool :=
  let w := (linkOf k p p.head).toNat
  let next := w % 2 ^ 24
  decide (p.head < classCount k) && linkOf k p p.head == mkLink k p.head next && !bufTaken p p.head &&
    (next == linkEnd || (decide (next < classCount k) && !bufTaken p next))

/-- SBG_ERR.REBUILD reads 1 while a rebuild runs (R384). -/
def settleRebuild (s : State) : State := setF s F.sbgErr_rebuild (b2n (s.sbg.pools.any fun kv => kv.2.rebuilding))

/-- The bytes of the head's link word whose parity fails in DRAM (R329, R377). -/
def headBad (s : State) (k : Nat) : List Nat := if k < 6 then [] else badIn s (bufAddr k (poolOf s k).head) 8

/-- The list of a class is found corrupt: it is out of use and rebuilt (R379). -/
def linkCorrupt (s : State) (k master : Nat) : State :=
  let p := poolOf s k
  let s := poolFault s F.sbgErr_linkCorrupt 2 master k (bufAddr k p.head)
  settleRebuild (putPool s k { p with rebuilding := true })

/-- Pop the head of a class: the buffer, or none where the list is out of use, empty or found corrupt, which starts a rebuild
(R377, R379). -/
def popBuf (s : State) (k master : Nat) : Option Nat × State :=
  let p := poolOf s k
  let bad := headBad s k
  if p.rebuilding || p.stopped || freeCount s k == 0 then (none, s)
  else if bad.isEmpty && linkGood k p then
    let i := p.head
    let link := linkOf k p i
    let s := putPool s k { p with head := link.toNat % 2 ^ 24, bits := spSet false p.bits i true }
    (some i, setFree (drawBuffer s k i link) k (freeCount s k - 1))
  else (none, linkCorrupt (if bad.isEmpty then s else parityFound s true (bufAddr k p.head) master bad) k master)

/-- The class and index that an address names within a list of classes, where it is a buffer's first byte. -/
def bufAt (ks : List Nat) (addr : Nat) : Option (Nat × Nat) :=
  match ks with
  | [] => none
  | k :: ks =>
    if classBase k ≤ addr ∧ (addr - classBase k) % classBytes k = 0 ∧ (addr - classBase k) / classBytes k < classCount k then
      some (k, (addr - classBase k) / classBytes k)
    else bufAt ks addr

/-- The classes a request may take from, in the order tried: the smallest that holds the size, then larger ones that take spills
(R373). -/
def eligible (s : State) (group size : Nat) : List Nat :=
  match (groupClasses group).filter (fun k => decide (size ≤ classBytes k)) with
  | [] => []
  | k :: ks => k :: ks.filter (fun k => flag s (F.sbgPoolCfg_spillIn k))

/-- Take a buffer from the first of some classes that has one no reservation holds. Log 37 (DESIGN CHOICE). -/
def takeFrom (s : State) (master : Nat) : List Nat → Option (Nat × Nat) × State
  | [] => (none, s)
  | k :: ks =>
    if openCount s k = 0 then takeFrom s master ks
    else
      match popBuf s k master with
      | (some i, s) => (some (k, i), s)
      | (none, s) => takeFrom s master ks

/-- Push a buffer on its list, last in first out (R378). -/
def pushBuf (s : State) (k i : Nat) : State :=
  let p := poolOf s k
  let s := putPool s k { p with
    head := i, bits := spSet false p.bits i false,
    links := spSet (freshLink k i) p.links i (mkLink k i (if freeCount s k = 0 then linkEnd else p.head)) }
  setFree (if k < 6 then s else freshParity s (bufAddr k i) 8) k (freeCount s k + 1)

/-- Remove the first entry of a list that satisfies a test. -/
def removeFirst {α : Type} (p : α → Bool) : List α → List α
  | [] => []
  | x :: xs => if p x then xs else x :: removeFirst p xs

/-- A granted buffer reaches its requester; a management core finds it in SBG_ALLOC_RESULT (R387). -/
def grantBuf (s : State) (w : PoolWait) (k i : Nat) : State :=
  if w.group = 2 then
    { s with sbg := { s.sbg with results := spSet 0 s.sbg.results w.requester (BitVec.ofNat 64 (k * 2 ^ 57 + bufAddr k i)) } }
  else emit s (.buffer w.requester k i)

/-- The waiting request that a free buffer of a class goes to: the earliest deadline, ties in arrival order (R375). -/
def waitFor (s : State) (k : Nat) : Option PoolWait :=
  (s.sbg.waits.filter fun w => (eligible s w.group w.size).contains k).foldl (fun a w =>
    match a with
    | some b => if w.deadline < b.deadline then some w else a
    | none => some w) none

/-- Serve waiting requests from a class while it has buffers that no reservation holds (R375). -/
def serveWaits (k : Nat) : (fuel : Nat) → State → State
  | 0, s => s
  | n + 1, s =>
    match waitFor s k with
    | none => s
    | some w =>
      if openCount s k = 0 then s
      else match popBuf s k w.requester with
        | (none, s) => s
        | (some i, s) =>
          serveWaits k n (grantBuf { s with sbg := { s.sbg with waits := removeFirst (· == w) s.sbg.waits } } w k i)

/-- Free a buffer of a class by index (R378); during a rebuild the free is queued, and beyond 16 waits, in either case until the rebuild is done (R379). Log 37 (DESIGN CHOICE), 204 (DEDUCED). -/
def freeBuf (s : State) (k i master : Nat) : State :=
  let p := poolOf s k
  if classCount k ≤ i then poolFault s F.sbgErr_badIndex 3 master k (bufAddr k i)
  else if bufTaken p i = false ∨ i ∈ p.queuedFrees then poolFault s F.sbgErr_doubleFree 1 master k (bufAddr k i)
  else if p.rebuilding then putPool s k { p with queuedFrees := p.queuedFrees ++ [i] }
  else serveWaits k 1 (pushBuf s k i)

/-- The free list after a rebuild: every free buffer relinked in ascending index order, which is the fresh list with the taken buffers
skipped (R379). `i` counts down from the class count, `next` is the free buffer found last. -/
def relink (k : Nat) (bits : Sparse Bool) : (taken : List Nat) → (links : Sparse Word) → Sparse Word
  | [], m => m
  | t :: ts, m =>
    let before := ((List.range (min t (bits.length + 1))).map (fun d => t - 1 - d)).find? fun i => (spFind bits i).isNone
    let after := (List.range (bits.length + 1)).map (fun d => t + 1 + d) |>.find? fun i => (spFind bits i).isNone
    let next := match after with
      | some i => if i < classCount k then i else linkEnd
      | none => linkEnd
    match before with
    | some b => relink k bits ts (spSet (freshLink k b) m b (mkLink k b next))
    | none => relink k bits ts m

/-- The lowest free index of a class at or above an index. -/
def lowestFree (bits : Sparse Bool) : (fuel i : Nat) → Nat
  | 0, i => i
  | n + 1, i => if (spFind bits i).isSome then lowestFree bits n (i + 1) else i

/-- The class after its rebuild, before its queued frees (R379). -/
def rebuiltPool (k : Nat) (p : Pool) : Pool :=
  let first := lowestFree p.bits p.bits.length 0
  { p with
    head := if first < classCount k then first else linkEnd,
    links := relink k p.bits (p.bits.map (·.1)) [], rebuilding := false, queuedFrees := [] }

/-- Every buffer of a class free again, its lists fresh (R383). Log 14 (DEDUCED). -/
def resetPool (s : State) (k : Nat) : State :=
  let s := buildLines (putPool s k { freshPool with drawn := (poolOf s k).drawn }) k
  setF (setF (setF s (F.sbgPoolStat_free k) (classCount k)) (F.sbgPoolStat_minFree k) (classCount k)) (F.sbgPoolStat_reserved k) 0

/-- Reserve RD_BLOCK buffers for a read (R374): whether they are there, and the state with them held. -/
def reserveRead (s : State) (n : Nat) : Option State :=
  if n ≤ openCount s 1 then some (setF s (F.sbgPoolStat_reserved 1) (getF s (F.sbgPoolStat_reserved 1) + n)) else none

/-- End part of a reservation. -/
def unreserve (s : State) (n : Nat) : State :=
  setF s (F.sbgPoolStat_reserved 1) (getF s (F.sbgPoolStat_reserved 1) - n)

end Sys2Proof.Machine
end

