-- ==== Sys2Proof/Machine/Crypto.lean ====
section
/-!
DEFINITION. The published algorithms the spec names: AES-256 (FIPS 197), GCM (SP 800-38D), AES key wrap (SP 800-38F), SHA-256 and
SHA-384 (FIPS 180-4), HMAC and HKDF (RFC 2104, RFC 5869), ECDSA verification and ECDH on P-256 and P-384 (FIPS 186-5).
Bytes are big-endian where the standard reads a byte string as a number. `eager` says in which order numbers are evaluated and changes
no result (`eager_eq`).
-/

namespace Sys2Proof.Machine

open Sys2Proof

/-- `k n`, the number evaluated first. -/
def eager {α : Type} (n : Nat) (k : Nat → α) : α :=
  match n with
  | 0 => k 0
  | m + 1 => k (m + 1)

/-- Evaluation order changes no result. -/
@[simp] theorem eager_eq {α : Type} (n : Nat) (k : Nat → α) : eager n k = k n := by cases n <;> rfl

/-- The S-box of FIPS 197: the byte of x stands at bits [8x + 7:8x]. -/
def sboxTable : Nat :=
  0x16bb54b00f2d99416842e6bf0d89a18cdf2855cee9871e9b948ed9691198f8e19e1dc186b95735610ef6034866b53e708a8bbd4b1f74dde8c6b4a61c2e2578ba08ae7a65eaf4566ca94ed58d6d37c8e779e4959162acd3c25c2406490a3a32e0db0b5ede14b8ee4688902a22dc4f816073195d643d7ea7c41744975fec130ccdd2f3ff1021dab6bcf5389d928f40a351a89f3c507f02f94585334d43fbaaefd0cf584c4a39becb6a5bb1fc20ed00d153842fe329b3d63b52a05a6e1b1a2c830975b227ebe28012079a059618c323c7041531d871f1e5a534ccf73f362693fdb7c072a49cafa2d4adf04759fa7dc982ca76abd7fe2b670130c56f6bf27b777c63

/-- The inverse S-box of FIPS 197, laid out like the S-box. -/
def sboxInvTable : Nat :=
  0x7d0c2155631469e126d677ba7e042b17619953833cbbebc8b0f52aae4d3be0a0ef9cc9939f7ae52d0d4ab519a97f51605fec8027591012b131c7078833a8dd1ff45acd78fec0db9a2079d2c64b3e56fc1bbe18aa0e62b76f89c5291d711af1476edf751ce837f9e28535ade72274ac9673e6b4f0cecff297eadc674f4111913a6b8a130103bdafc1020f3fca8f1e2cd00645b3b80558e4f70ad3bc8c00abd890849d8da75746155edab9edfd5048706c92b6655dcc5ca4d41698688664f6f87225d18b6d49a25b76b224d92866a12e084ec3fa420b954cee3d23c2a632947b54cbe9dec444438e3487ff2f9b8239e37cfbd7f3819ea340bf38a53630d56a0952

/-- The table's bytes of the bytes of `b` that stand at the bit positions of a list, in that list's order, after `acc`. -/
def byteTable (table b : Nat) : List Nat → (acc : Nat) → Nat
  | [], acc => acc
  | at_ :: r, acc => eager (acc * 256 + table / 2 ^ (8 * (b / 2 ^ at_ % 256)) % 256) (byteTable table b r)

/-- ShiftRows: the bit position each byte of the result comes from, first byte first. -/
def shiftFrom : List Nat := [120, 80, 40, 0, 88, 48, 8, 96, 56, 16, 104, 64, 24, 112, 72, 32]

/-- The inverse of ShiftRows. -/
def unshiftFrom : List Nat := [120, 16, 40, 64, 88, 112, 8, 32, 56, 80, 104, 0, 24, 48, 72, 96]

/-- Multiplication by x in the field of AES on each of 16 bytes. -/
def xtimes (v : Nat) : Nat :=
  ((v &&& 0x7f7f7f7f7f7f7f7f7f7f7f7f7f7f7f7f) * 2) ^^^ ((v / 128 &&& 0x01010101010101010101010101010101) * 0x1B)

/-- Each column's bytes moved up by one place, the first to the last. -/
def columnTurn (v : Nat) : Nat :=
  (v &&& 0x00ffffff00ffffff00ffffff00ffffff) * 256 + (v / 2 ^ 24 &&& 0x000000ff000000ff000000ff000000ff)

/-- MixColumns: 2, 3, 1, 1. -/
def mixColumns (v : Nat) : Nat :=
  eager (columnTurn v) fun a => eager (columnTurn a) fun b => xtimes (v ^^^ a) ^^^ a ^^^ b ^^^ columnTurn b

/-- The inverse of MixColumns: 14, 11, 13, 9, which is MixColumns after 5, 0, 4, 0. -/
def unmixColumns (v : Nat) : Nat :=
  eager (xtimes (v ^^^ columnTurn (columnTurn v))) fun a => eager (v ^^^ xtimes a) mixColumns

/-- The AES-256 key schedule: `n` further words after those held, newest first. -/
def keyWords : (n i rcon : Nat) → List Nat → List Nat
  | 0, _, _, ws => ws
  | n + 1, i, rcon, ws =>
    let prev := listAt 0 ws 0
    let t := if i % 8 = 0 then byteTable sboxTable prev [16, 8, 0, 24] 0 ^^^ (rcon * 2 ^ 24)
      else if i % 8 = 4 then byteTable sboxTable prev [24, 16, 8, 0] 0 else prev
    eager (listAt 0 ws 7 ^^^ t) fun w => keyWords n (i + 1) (if i % 8 = 0 then xtimes rcon else rcon) (w :: ws)

/-- Cut a byte list into pieces of `k` bytes, at most `n` of them. -/
def chunksOf (k : Nat) : (n : Nat) → List Byte → List (List Byte)
  | 0, _ => []
  | n + 1, bs => if bs.isEmpty then [] else bs.take k :: chunksOf k n (bs.drop k)

/-- Words newest first as blocks of four, onto those held: the oldest block comes first. -/
def keyBlocks : List Nat → List Nat → List Nat
  | d :: c :: b :: a :: r, ks => eager (a * 2 ^ 96 + b * 2 ^ 64 + c * 2 ^ 32 + d) fun k => keyBlocks r (k :: ks)
  | _, ks => ks

/-- The fifteen round keys of AES-256, the first round's first. -/
def roundKeys (key : List Byte) : List Nat := keyBlocks (keyWords 52 8 1 ((chunksOf 4 8 key).map ofBe).reverse) []

/-- The rounds of AES after the first round key. -/
def aesRounds : (rk : List Nat) → (b : Nat) → Nat
  | [], b => b
  | [k], b => byteTable sboxTable b shiftFrom 0 ^^^ k
  | k :: ks, b => eager (mixColumns (byteTable sboxTable b shiftFrom 0) ^^^ k) (aesRounds ks)

/-- The inverse rounds of AES after the last round key, last first. -/
def aesUnrounds : (rk : List Nat) → (b : Nat) → Nat
  | [], b => b
  | [k], b => byteTable sboxInvTable b unshiftFrom 0 ^^^ k
  | k :: ks, b => eager (unmixColumns (byteTable sboxInvTable b unshiftFrom 0 ^^^ k)) (aesUnrounds ks)

/-- AES-256 of one block under its round keys. -/
def aesBlock (rk : List Nat) (b : Nat) : Nat :=
  match rk with
  | [] => b
  | k :: ks => eager (b ^^^ k) (aesRounds ks)

/-- The inverse of AES-256 on one block; the round keys stand last first. -/
def aesUnblock (kr : List Nat) (b : Nat) : Nat :=
  match kr with
  | [] => b
  | k :: ks => eager (b ^^^ k) (aesUnrounds ks)

/-- AES-256 of one block. -/
def aesEncrypt (key block : List Byte) : List Byte := beBytes 16 (aesBlock (roundKeys key) (ofBe block))

/-- The inverse of AES-256 on one block. -/
def aesDecrypt (key block : List Byte) : List Byte := beBytes 16 (aesUnblock (roundKeys key).reverse (ofBe block))

/-- Multiplication in the field of GCM, over the `n` bits still to read of `x`, the leading bit first. -/
def ghashBits (x : Nat) : (n v z : Nat) → Nat
  | 0, _, z => z
  | n + 1, v, z =>
    eager (if x / 2 ^ n % 2 = 1 then z ^^^ v else z) fun z =>
      eager (if v % 2 = 1 then v / 2 ^^^ 0xE1000000000000000000000000000000 else v / 2) fun v => ghashBits x n v z

/-- Multiplication in the field of GCM. -/
def ghashMul (x h : Nat) : Nat := eager x fun x => ghashBits x 128 h 0

/-- GHASH over pieces of up to 16 bytes, each padded with zeros. -/
def ghashChunks (h : Nat) : List (List Byte) → (y : Nat) → Nat
  | [], y => y
  | c :: r, y => eager (ghashMul (y ^^^ ofBe (bytesAt c 0 16)) h) (ghashChunks h r)

/-- GHASH over whole 16-byte pieces of bytes padded with zeros. -/
def ghashRun (h y : BitVec 128) (bs : List Byte) : BitVec 128 :=
  BitVec.ofNat 128 (ghashChunks h.toNat (chunksOf 16 (ceilDiv bs.length 16) bs) y.toNat)

/-- The counter block of GCM for a 96-bit nonce. -/
def gcmCounter (nonce : List Byte) (n : Nat) : Nat := ofBe nonce * 2 ^ 32 + n

/-- The key stream of GCM over pieces of data, from counter `n`. -/
def gcmChunks (rk : List Nat) (nonce : List Byte) : List (List Byte) → (n : Nat) → List Byte
  | [], _ => []
  | c :: r, n => eager (aesBlock rk (gcmCounter nonce n)) fun k => xorBytes c (beBytes 16 k) ++ gcmChunks rk nonce r (n + 1)

/-- The key stream of GCM over data, from counter 2. -/
def gcmStream (key nonce data : List Byte) : List Byte :=
  gcmChunks (roundKeys key) nonce (chunksOf 16 (ceilDiv data.length 16) data) 2

/-- The tag of GCM. -/
def gcmTag (key nonce aad cipher : List Byte) : List Byte :=
  let rk := roundKeys key
  eager (aesBlock rk 0) fun h =>
    eager (ghashRun (BitVec.ofNat 128 h) (ghashRun (BitVec.ofNat 128 h) 0 aad) cipher).toNat fun y =>
      eager (ghashMul (y ^^^ (8 * aad.length * 2 ^ 64 + 8 * cipher.length)) h ^^^ aesBlock rk (gcmCounter nonce 1)) (beBytes 16)

/-- AES-256-GCM: ciphertext and tag. Log 22 (PRESUMED). -/
def gcmSeal (key nonce aad plain : List Byte) : List Byte × List Byte :=
  let c := gcmStream key nonce plain
  (c, gcmTag key nonce aad c)

/-- AES-256-GCM: the plaintext where the tag verifies. Log 22 (PRESUMED). -/
def gcmOpen (key nonce aad cipher tag : List Byte) : Option (List Byte) :=
  if gcmTag key nonce aad cipher = tag then some (gcmStream key nonce cipher) else none

/-- The integrity check register of AES key wrap. -/
def kwInitial : Nat := 0xA6A6A6A6A6A6A6A6

/-- AES key wrap from step t on, `n` steps over the queue of registers `rs` (the next one first) with register `a`. -/
def kwSteps (rk : List Nat) : (n t a : Nat) → List Nat → Nat × List Nat
  | n + 1, t, a, r :: rs =>
    eager (aesBlock rk (a * 2 ^ 64 + r)) fun b =>
      eager (b / 2 ^ 64 ^^^ t) fun a => eager (b % 2 ^ 64) fun r => kwSteps rk n (t + 1) a (rs ++ [r])
  | _, _, a, rs => (a, rs)

/-- Its inverse from step `n` down, over the queue of registers with the last one first. -/
def kwUnsteps (kr : List Nat) : (n a : Nat) → List Nat → Nat × List Nat
  | n + 1, a, r :: rs =>
    eager (aesUnblock kr ((a ^^^ (n + 1)) * 2 ^ 64 + r)) fun b =>
      eager (b / 2 ^ 64) fun a => eager (b % 2 ^ 64) fun r => kwUnsteps kr n a (rs ++ [r])
  | _, a, rs => (a, rs)

/-- AES key wrap of a whole number of 8-byte pieces. Log 22 (PRESUMED). -/
def keyWrap (key plain : List Byte) : List Byte :=
  let n := plain.length / 8
  let st := kwSteps (roundKeys key) (6 * n) 1 kwInitial ((chunksOf 8 n plain).map ofBe)
  beBytes 8 st.1 ++ st.2.flatMap (beBytes 8)

/-- AES key unwrap: the key where the integrity check holds. Log 22 (PRESUMED). -/
def keyUnwrap (key wrapped : List Byte) : Option (List Byte) :=
  let n := wrapped.length / 8 - 1
  let st := kwUnsteps (roundKeys key).reverse (6 * n) (ofBe (wrapped.take 8)) ((chunksOf 8 n (wrapped.drop 8)).map ofBe).reverse
  if st.1 = kwInitial then some (st.2.reverse.flatMap (beBytes 8)) else none

/-- The round constants of SHA-384, eight to a number, the first in its uppermost 64 bits (FIPS 180-4). -/
def shaTable : List Nat := [
  0x428a2f98d728ae227137449123ef65cdb5c0fbcfec4d3b2fe9b5dba58189dbbc3956c25bf348b53859f111f1b605d019923f82a4af194f9bab1c5ed5da6d8118,
  0xd807aa98a303024212835b0145706fbe243185be4ee4b28c550c7dc3d5ffb4e272be5d74f27b896f80deb1fe3b1696b19bdc06a725c71235c19bf174cf692694,
  0xe49b69c19ef14ad2efbe4786384f25e30fc19dc68b8cd5b5240ca1cc77ac9c652de92c6f592b02754a7484aa6ea6e4835cb0a9dcbd41fbd476f988da831153b5,
  0x983e5152ee66dfaba831c66d2db43210b00327c898fb213fbf597fc7beef0ee4c6e00bf33da88fc2d5a79147930aa72506ca6351e003826f142929670a0e6e70,
  0x27b70a8546d22ffc2e1b21385c26c9264d2c6dfc5ac42aed53380d139d95b3df650a73548baf63de766a0abb3c77b2a881c2c92e47edaee692722c851482353b,
  0xa2bfe8a14cf10364a81a664bbc423001c24b8b70d0f89791c76c51a30654be30d192e819d6ef5218d69906245565a910f40e35855771202a106aa07032bbd1b8,
  0x19a4c116b8d2d0c81e376c085141ab532748774cdf8eeb9934b0bcb5e19b48a8391c0cb3c5c95a634ed8aa4ae3418acb5b9cca4f7763e373682e6ff3d6b2b8a3,
  0x748f82ee5defb2fc78a5636f43172f6084c87814a1f0ab728cc702081a6439ec90befffa23631e28a4506cebde82bde9bef9a3f7b2c67915c67178f2e372532b,
  0xca273eceea26619cd186b8c721c0c207eada7dd6cde0eb1ef57d4f7fee6ed17806f067aa72176fba0a637dc5a2c898a6113f9804bef90dae1b710b35131c471b,
  0x28db77f523047d8432caab7b40c724933c9ebe0a15c9bebc431d67c49c100d4c4cc5d4becb3e42b6597f299cfc657e2a5fcb6fab3ad6faec6c44198c4a475817]

/-- The 80 round constants of SHA-384; the left halves of the first 64 are those of SHA-256. -/
def shaConstants : List Nat := shaTable.flatMap fun row => [448, 384, 320, 256, 192, 128, 64, 0].map fun k => row / 2 ^ k % 2 ^ 64

/-- The rotation and shift counts of a hash of the SHA-2 family: Σ0, Σ1, σ0, σ1 (each last of σ a shift). -/
structure ShaShape where
  w : Nat
  s0 : List Nat
  s1 : List Nat
  m0 : List Nat
  m1 : List Nat
deriving DecidableEq, Repr

/-- Exclusive OR of three rotations right of a w-bit word; the last is a shift where `sh` holds. -/
def shaMix (w : Nat) (sh : Bool) (k : List Nat) (x : Nat) : Nat :=
  match k with
  | [a, b, c] =>
    let xx := x * 2 ^ w + x
    (xx / 2 ^ a ^^^ xx / 2 ^ b ^^^ (if sh then x / 2 ^ c else xx / 2 ^ c)) % 2 ^ w
  | _ => 0

/-- The message schedule, newest word first, `n` words to come. -/
def shaSchedule (p : ShaShape) : (n : Nat) → List Nat → List Nat
  | 0, ws => ws
  | n + 1, ws =>
    eager ((shaMix p.w true p.m1 (listAt 0 ws 1) + listAt 0 ws 6 + shaMix p.w true p.m0 (listAt 0 ws 14) + listAt 0 ws 15) % 2 ^ p.w)
      fun x => shaSchedule p n (x :: ws)

/-- The rounds over the constants and the words of a block, on the eight working variables. -/
def shaRounds (p : ShaShape) : List (Nat × Nat) → (a b c d e f g h : Nat) → List Nat
  | [], a, b, c, d, e, f, g, h => [a, b, c, d, e, f, g, h]
  | kw :: r, a, b, c, d, e, f, g, h =>
    eager (h + shaMix p.w false p.s1 e + ((e &&& f) ^^^ ((2 ^ p.w - 1 - e) &&& g)) + kw.1 + kw.2) fun t =>
      eager ((t + shaMix p.w false p.s0 a + ((a &&& b) ^^^ (a &&& c) ^^^ (b &&& c))) % 2 ^ p.w) fun x =>
        eager ((d + t) % 2 ^ p.w) fun y => shaRounds p r x a b c y e f g

/-- Sums of two lists of words, each evaluated. -/
def shaSum (w : Nat) : List Nat → List Nat → List Nat
  | a :: r, b :: q => eager ((a + b) % 2 ^ w) fun x => x :: shaSum w r q
  | _, _ => []

/-- One block into the hash value. -/
def shaBlock (p : ShaShape) (ks : List Nat) (h : List Nat) (block : List Byte) : List Nat :=
  let ws := (shaSchedule p (ks.length - 16) ((chunksOf (p.w / 8) 16 block).map ofBe).reverse).reverse
  match h with
  | [a, b, c, d, e, f, g, i] => shaSum p.w h (shaRounds p (List.zip ks ws) a b c d e f g i)
  | other => other

/-- A hash of the SHA-2 family with round constants `ks` and initial value `h0`, cut to `out` bytes. -/
def sha2 (p : ShaShape) (ks : List Nat) (out : Nat) (h0 : List Nat) (msg : List Byte) : List Byte :=
  let bl := 2 * p.w
  let len := p.w / 4
  let zeros := (bl - (msg.length + 1 + len) % bl) % bl
  let padded := msg ++ [0x80#8] ++ List.replicate zeros 0 ++ beBytes len (8 * msg.length)
  let h := (chunksOf bl (padded.length / bl) padded).foldl (shaBlock p ks) h0
  (h.flatMap (fun x => beBytes (p.w / 8) x)).take out

/-- SHA-256. -/
def sha256 (msg : List Byte) : List Byte :=
  sha2 ⟨32, [2, 13, 22], [6, 11, 25], [7, 18, 3], [17, 19, 10]⟩ ((shaConstants.take 64).map (· / 2 ^ 32)) 32
    [0x6a09e667, 0xbb67ae85, 0x3c6ef372, 0xa54ff53a, 0x510e527f, 0x9b05688c, 0x1f83d9ab, 0x5be0cd19] msg

/-- SHA-384. -/
def sha384 (msg : List Byte) : List Byte :=
  sha2 ⟨64, [28, 34, 39], [14, 18, 41], [1, 8, 7], [19, 61, 6]⟩ shaConstants 48
    [0xcbbb9d5dc1059ed8, 0x629a292a367cd507, 0x9159015a3070dd17, 0x152fecd8f70e5939,
   0x67332667ffc00b31, 0x8eb44a8768581511, 0xdb0c2e0d64f98fa7, 0x47b5481dbefa4fa4] msg

/-- HMAC over a hash with blocks of `block` bytes. -/
def hmacWith (hash : List Byte → List Byte) (block : Nat) (key msg : List Byte) : List Byte :=
  let k := bytesAt (if block < key.length then hash key else key) 0 block
  hash (k.map (· ^^^ 0x5C#8) ++ hash (k.map (· ^^^ 0x36#8) ++ msg))

/-- HMAC over SHA-384. -/
def hmac384 (key msg : List Byte) : List Byte := hmacWith sha384 128 key msg

/-- HMAC over SHA-256. -/
def hmac256 (key msg : List Byte) : List Byte := hmacWith sha256 64 key msg

/-- The output blocks of HKDF-Expand. -/
def hkdfBlocks (mac : List Byte → List Byte → List Byte) (prk info : List Byte) : (n i : Nat) → List Byte → List Byte
  | 0, _, _ => []
  | n + 1, i, prev =>
    let t := mac prk (prev ++ info ++ leBytes 1 i)
    t ++ hkdfBlocks mac prk info n (i + 1) t

/-- HKDF-Expand over a MAC of `size` bytes (RFC 5869). -/
def hkdfExpand (mac : List Byte → List Byte → List Byte) (size : Nat) (prk info : List Byte) (len : Nat) : List Byte :=
  (hkdfBlocks mac prk info (ceilDiv len size) 1 []).take len

/-- HKDF over SHA-384 (RFC 5869). Log 22 (PRESUMED). -/
def hkdf384 (salt ikm info : List Byte) (len : Nat) : List Byte := hkdfExpand hmac384 48 (hmac384 salt ikm) info len

/-- b^e mod m over `n` bits of e. -/
def modPow (m : Nat) : (n b e acc : Nat) → Nat
  | 0, _, _, acc => acc
  | n + 1, b, e, acc =>
    eager (if e % 2 = 1 then acc * b % m else acc) fun acc => eager (b * b % m) fun b => eager (e / 2) fun e => modPow m n b e acc

/-- The inverse modulo a prime. -/
def modInv (m x : Nat) : Nat := modPow m 400 (x % m) (m - 2) 1

/-- A prime curve y² = x³ − 3x + b with its base point and order; `size` is the bytes of a coordinate. -/
structure Curve where
  size : Nat
  p : Nat
  b : Nat
  n : Nat
  gx : Nat
  gy : Nat
deriving DecidableEq, Repr

/-- P-256. -/
def p256 : Curve :=
  { size := 32, p := 2 ^ 256 - 2 ^ 224 + 2 ^ 192 + 2 ^ 96 - 1,
    b := 0x5ac635d8aa3a93e7b3ebbd55769886bc651d06b0cc53b0f63bce3c3e27d2604b,
    n := 0xffffffff00000000ffffffffffffffffbce6faada7179e84f3b9cac2fc632551,
    gx := 0x6b17d1f2e12c4247f8bce6e563a440f277037d812deb33a0f4a13945d898c296,
    gy := 0x4fe342e2fe1a7f9b8ee7eb4a7c0f9e162bce33576b315ececbb6406837bf51f5 }

/-- P-384. -/
def p384 : Curve :=
  { size := 48, p := 2 ^ 384 - 2 ^ 128 - 2 ^ 96 + 2 ^ 32 - 1,
    b := 0xb3312fa7e23ee7e4988e056be3f82d19181d9c6efe8141120314088f5013875ac656398d8a2ed19d2a85c8edd3ec2aef,
    n := 0xffffffffffffffffffffffffffffffffffffffffffffffffc7634d81f4372ddf581a0db248b0a77aecec196accc52973,
    gx := 0xaa87ca22be8b05378eb1c71ef320ad746e1d3b628ba79b9859f741e082542a385502f25dbf55296c3a545e3872760ab7,
    gy := 0x3617de4a96262c6f5d9e98bf9292dc29f8f41dbd289a147ce9da3113b5f0b8c00a60b1ce1d7e819d7a431d7c90ea0e5f }

/-- A point of a curve: none is the point at infinity. -/
abbrev Point : Type := Option (Nat × Nat)

/-- A point lies on the curve. -/
def onCurve (c : Curve) (x y : Nat) : Bool :=
  decide (x < c.p ∧ y < c.p) && (y * y) % c.p == (x * x * x + (c.p - 3) * x + c.b) % c.p

/-- Addition of points. -/
def ecAdd (c : Curve) : Point → Point → Point
  | none, q => q
  | q, none => q
  | some (x1, y1), some (x2, y2) =>
    if x1 = x2 ∧ (y1 + y2) % c.p = 0 then none
    else
      let l := if x1 = x2 then (3 * x1 * x1 + c.p - 3) * modInv c.p (2 * y1) % c.p
        else (y2 + c.p - y1) * modInv c.p (x2 + c.p - x1) % c.p
      let x := (l * l + 2 * c.p - x1 - x2) % c.p
      some (x, (l * (x1 + c.p - x) + c.p - y1) % c.p)

/-- A point in Jacobian coordinates (X, Y, Z): the affine (X / Z², Y / Z³), at infinity where Z is 0. -/
structure JPoint where
  x : Nat
  y : Nat
  z : Nat

/-- `k q`, the coordinates evaluated first. -/
def JPoint.eager {α : Type} (q : JPoint) (k : JPoint → α) : α :=
  Machine.eager q.x fun x => Machine.eager q.y fun y => Machine.eager q.z fun z => k ⟨x, y, z⟩

/-- The double of a point of a curve with a = −3. -/
def jDouble (c : Curve) (q : JPoint) : JPoint :=
  let zz := q.z * q.z % c.p
  let yy := q.y * q.y % c.p
  let m := 3 * (q.x + c.p - zz) * (q.x + zz) % c.p
  let t := 4 * q.x * yy % c.p
  let x := (m * m + 2 * c.p - 2 * t) % c.p
  ⟨x, (m * (t + c.p - x) + 8 * c.p - 8 * (yy * yy % c.p)) % c.p, 2 * q.y * q.z % c.p⟩

/-- The sum of two points. -/
def jAdd (c : Curve) (a b : JPoint) : JPoint :=
  if a.z = 0 then b
  else if b.z = 0 then a
  else
    let za := a.z * a.z % c.p
    let zb := b.z * b.z % c.p
    let ua := a.x * zb % c.p
    let ub := b.x * za % c.p
    let sa := a.y * b.z % c.p * zb % c.p
    let sb := b.y * a.z % c.p * za % c.p
    if ua = ub then (if sa = sb then jDouble c a else ⟨1, 1, 0⟩)
    else
      let h := (ub + c.p - ua) % c.p
      let r := (sb + c.p - sa) % c.p
      let hh := h * h % c.p
      let hhh := h * hh % c.p
      let v := ua * hh % c.p
      let x := (r * r + 3 * c.p - hhh - 2 * v) % c.p
      ⟨x, (r * (v + c.p - x) + c.p - sa * hhh % c.p) % c.p, h * a.z % c.p * b.z % c.p⟩

/-- Multiplication of a point over `n` bits of k. -/
def ecMul (c : Curve) : (n k : Nat) → (q acc : JPoint) → JPoint
  | 0, _, _, acc => acc
  | n + 1, k, q, acc =>
    (if k % 2 = 1 then jAdd c acc q else acc).eager fun acc => (jDouble c q).eager fun q => eager (k / 2) fun k => ecMul c n k q acc

/-- A multiple of a point. -/
def ecTimes (c : Curve) (k : Nat) (q : Nat × Nat) : Point :=
  let r := ecMul c 384 k ⟨q.1, q.2, 1⟩ ⟨1, 1, 0⟩
  if r.z = 0 then none
  else
    let i := modInv c.p r.z
    some (r.x * i % c.p * i % c.p, r.y * i % c.p * i % c.p * i % c.p)

/-- The public key of a private key, X ‖ Y. -/
def ecPublic (c : Curve) (d : Nat) : List Byte :=
  match ecTimes c d (c.gx, c.gy) with
  | some (x, y) => beBytes c.size x ++ beBytes c.size y
  | none => List.replicate (2 * c.size) 0

/-- The ECDH shared secret: the x-coordinate, where the peer's key X ‖ Y is on the curve. Log 22 (PRESUMED). -/
def ecdh (c : Curve) (d : Nat) (pub : List Byte) : Option (List Byte) :=
  let x := ofBe (bytesAt pub 0 c.size)
  let y := ofBe (bytesAt pub c.size c.size)
  if onCurve c x y then (ecTimes c d (x, y)).map (fun q => beBytes c.size q.1) else none

/-- ECDSA verification of r ‖ s over a hash under X ‖ Y. Log 22 (PRESUMED). -/
def ecdsaVerify (c : Curve) (pub hash sig : List Byte) : Bool :=
  let x := ofBe (bytesAt pub 0 c.size)
  let y := ofBe (bytesAt pub c.size c.size)
  let r := ofBe (bytesAt sig 0 c.size)
  let t := ofBe (bytesAt sig c.size c.size)
  if onCurve c x y && decide (0 < r ∧ r < c.n ∧ 0 < t ∧ t < c.n) then
    let z := ofBe (hash.take c.size)
    let w := modInv c.n t
    match ecAdd c (ecTimes c (z * w % c.n) (c.gx, c.gy)) (ecTimes c (r * w % c.n) (x, y)) with
    | some (px, _) => px % c.n == r
    | none => false
  else false

/-- An ECDSA signature r ‖ s over a hash under a private key, with the per-signature number `k`. -/
def ecdsaSign (c : Curve) (d k : Nat) (hash : List Byte) : List Byte :=
  let r := match ecTimes c k (c.gx, c.gy) with
    | some (x, _) => x % c.n
    | none => 0
  let t := modInv c.n k * ((ofBe (hash.take c.size) + r * d) % c.n) % c.n
  beBytes c.size r ++ beBytes c.size t

/-- A private key from the extra random bits of FIPS 186-5: 1 plus the bits modulo the order less 1. Log 24 (DEDUCED). -/
def ecPrivate (c : Curve) (bits : List Byte) : Nat := ofBe bits % (c.n - 1) + 1

/-- The bytes of an ASCII label. -/
def ascii (t : String) : List Byte := t.toList.map fun ch => BitVec.ofNat 8 ch.toNat

end Sys2Proof.Machine
end

