-- ==== Sys2Proof/Machine/SlkSend.lean ====
section
/-!
DEFINITION. Sending on the Saosh link: ports and peers, the message header (R555), sealing (R557), flits against credits and the
replay buffer (R549, R551, R553).
-/

namespace Sys2Proof.Machine

open Sys2Proof

/-- This device's DEV_ID. -/
def devId (s : State) : Nat := s.straps.devId

/-- A port before its training. -/
def noPort : Port := ⟨.off, 0, false, 0, 0, false, [], 0, 0, 0, 0, 0, [], 0, 0, [], [], none, none, .none, .none⟩

/-- A port. -/
def portOf (s : State) (p : Nat) : Port := spGet noPort s.slk.ports p

/-- Replace a port. -/
def putPort (s : State) (p : Nat) (x : Port) : State := { s with slk := { s.slk with ports := spSet noPort s.slk.ports p x } }

/-- A peer before it joins. -/
def noPeer : Peer := ⟨.none, 0, 0, 0, 0, none, 0⟩

/-- A peer by DEV_ID. -/
def peerOf (s : State) (d : Nat) : Peer := spGet noPeer s.slk.peers d

/-- Replace a peer. -/
def putPeer (s : State) (d : Nat) (x : Peer) : State := { s with slk := { s.slk with peers := spSet noPeer s.slk.peers d x } }

/-- The flit types of R550. -/
def flitIdle : Nat := 0
def flitMsg : Nat := 1
def flitNak : Nat := 2
def flitAlign : Nat := 3
def flitIdent : Nat := 4

/-- A flit with no message bytes. -/
def bareFlit : Flit := ⟨0, false, false, false, [], 0⟩

/-- The 256 bytes of a flit (R549): type, class and marks, credits returned, SEQ, ACK, 240 payload bytes, and the CRC-32C of all before it. Log 17 (DEDUCED). -/
def flitBytes (ftype : Nat) (f : Flit) (credReq credRsp ack : Nat) (ackValid : Bool) : List Byte :=
  let head := leBytes 1 (ftype % 16 + b2n f.rsp * 16 + b2n f.first * 32 + b2n f.last * 64) ++ leBytes 1 credReq ++ leBytes 1 credRsp ++ [0] ++
    leBytes 2 (f.seq % 4096) ++ leBytes 2 (ack % 4096 + b2n ackValid * 2 ^ 15) ++ bytesAt f.payload 0 240 ++ [0, 0, 0, 0]
  head ++ leBytes 4 (crc32c head).toNat

/-- Put a flit on the lanes of a port: it carries the latest ACK and the credits owed (R549, R551). Log 155 (DEDUCED). -/
def sendFlit (s : State) (p ftype : Nat) (f : Flit) : State :=
  let x := portOf s p
  let a := min 255 x.owedReq
  let b := min 255 x.owedRsp
  emit (putPort s p { x with owedReq := x.owedReq - a, owedRsp := x.owedRsp - b })
    (.slkFlit p (flitBytes ftype f a b ((x.rxSeq + 4095) % 4096) (decide (0 < x.rxSeq))))

/-- The origin of the message of a class whose flits have begun to leave by a port. -/
def openOf (x : Port) (rsp : Bool) : Option Nat := if rsp then x.openRsp else x.openReq

/-- A flit that waits may leave: the port is up, a credit of its class and a place in the 512-flit replay buffer are free, and its class is not in the midst of
another message (R551, R553). -/
def mayLeave (x : Port) (f : Flit) : Bool :=
  x.st == .up && decide (0 < if f.rsp then x.credRsp else x.credReq) && decide (x.replay.length < 512) &&
    (match openOf x f.rsp with | none => f.first | some o => f.origin == o)

/-- The flit of a message that is passed on has left: its credit goes back to the port it came by (R553). Log 155 (DEDUCED). -/
def creditBack (s : State) (f : Flit) : State :=
  if f.origin = 0 ∨ 4 < f.origin then s
  else
    let p := f.origin - 1
    let x := portOf s p
    let s := putPort s p (if f.rsp then { x with owedRsp := x.owedRsp + 1 } else { x with owedReq := x.owedReq + 1 })
    if x.st == .up then sendFlit s p flitIdle bareFlit else s

/-- A flit leaves by a port under the next SEQ, against a credit, and stays in the replay buffer (R551, R553). Log 18 (DEDUCED). -/
def leave (s : State) (p : Nat) (f : Flit) : State :=
  let x := portOf s p
  let f := { f with seq := x.txSeq }
  let after := if f.last then none else some f.origin
  let x := { x with
    queue := x.queue.erase { f with seq := 0 }, txSeq := x.txSeq + 1, replay := x.replay ++ [f],
    credReq := if f.rsp then x.credReq else x.credReq - 1, credRsp := if f.rsp then x.credRsp - 1 else x.credRsp,
    openReq := if f.rsp then x.openReq else after, openRsp := if f.rsp then after else x.openRsp }
  creditBack (sendFlit (putPort s p x) p flitMsg f) f

/-- Send the flits that wait at a port and may leave, each class in its order; `n` bounds the flits sent. -/
def pumpFlits : (n : Nat) → State → (p : Nat) → State
  | 0, s, _ => s
  | n + 1, s, p =>
    match (portOf s p).queue.find? (mayLeave (portOf s p)) with
    | none => s
    | some f => pumpFlits n (leave s p f) p

/-- Send what a port can send now. -/
def pump (s : State) (p : Nat) : State := pumpFlits (portOf s p).queue.length s p

/-- The flits of a message: 240 bytes each, the last one padded with zeros (R549, R553). -/
def flitsOf (rsp : Bool) (bytes : List Byte) : List Flit :=
  let parts := chunksOf 240 (ceilDiv bytes.length 240) bytes
  parts.zipIdx.map fun pi => ⟨0, rsp, pi.2 == 0, pi.2 + 1 == parts.length, bytesAt pi.1 0 240, 0⟩

/-- The message types of R555 in the response class. -/
def isRsp (mtype : Nat) : Bool := [0x02, 0x12, 0x13, 0x21, 0x31].contains mtype

/-- The message types of R555 that are sealed. -/
def isSealed (mtype : Nat) : Bool := !([0x01, 0x02, 0x03].contains mtype)

/-- The message types of R555. -/
def knownMtype (m : Nat) : Bool :=
  [0x01, 0x02, 0x03, 0x04, 0x05, 0x10, 0x11, 0x12, 0x13, 0x20, 0x21, 0x22, 0x30, 0x31, 0x32].contains m

/-- The 16-byte message header (R555). Log 17 (DEDUCED). -/
def msgHeader (mtype dst src len tag term : Nat) : List Byte :=
  leBytes 1 mtype ++ leBytes 1 (dst % 16 + src % 16 * 16) ++ [0, 0] ++ leBytes 4 (len % 2 ^ 24) ++ leBytes 4 tag ++
    leBytes 2 term ++ [0, 0]

/-- The nonce of a sealed message: SRC ‖ DST ‖ TERM ‖ COUNT ‖ 24 zero bits (R557). -/
def msgNonce (src dst term count : Nat) : List Byte := beBytes 1 (src * 16 + dst) ++ beBytes 2 term ++ beBytes 6 count ++ [0, 0, 0]

/-- The pair key shared with a device: system slot 4,100 + its DEV_ID (R556). -/
def pairKey (s : State) (d : Nat) : Option (List Byte) := (spFind s.tkr.slots (4100 + d)).map fun k => beBytes 32 k.toNat

/-- A bit of SLK_ERR sets; each that becomes set interrupts MC0 (chapter 18, SLK registers). -/
def slkErr (s : State) (bit : Fld) : State :=
  if flag s bit then s else emitIf (domainOn s .mgmt) (setBit s bit) (.interrupt (idMc 0))

/-- A message's bytes leave by a port. -/
def pushMessage (s : State) (p mtype : Nat) (bytes : List Byte) : State :=
  let x := portOf s p
  pump (putPort s p { x with queue := x.queue ++ flitsOf (isRsp mtype) bytes }) p

/-- A COUNT that reaches 2^48 − 1 forces a new join (R557). Log 157 (DEDUCED). -/
def usedUp (q : Peer) : Peer := if 2 ^ 48 - 1 ≤ max q.txCount q.rxCount then { q with cond := .none } else q

/-- A message of this device to another, sealed where its type is (R555, R557): the port toward it sends its flits. Where no route serves the device
SLK_ERR.ROUTE sets; a sealed message needs a pair key, and one whose COUNT is used up forces a new join. Log 157 (DEDUCED). -/
def slkSend (s : State) (dst mtype tag : Nat) (body : List Byte) : State :=
  let term := s.slk.term
  let h := msgHeader mtype dst (devId s) body.length tag term
  let p := getF s (F.slkRoute_port dst)
  if !domainOn s .slk then s
  else if !flag s (F.slkRoute_valid dst) then slkErr s F.slkErr_route
  else if isSealed mtype then
    match pairKey s dst with
    | none => s
    | some k =>
      let q := peerOf s dst
      if 2 ^ 48 - 1 ≤ q.txCount then s
      else
        let c := gcmSeal k (msgNonce (devId s) dst term q.txCount) h body
        pushMessage (putPeer s dst (usedUp { q with txCount := q.txCount + 1 })) p mtype (h ++ c.1 ++ c.2)
  else pushMessage s p mtype (h ++ body)

/-- A peer is LIVE (R564). -/
def peerLive (s : State) (d : Nat) : Bool := (peerOf s d).cond == .live

end Sys2Proof.Machine
end

