-- ==== Sys2Proof/Machine/HostBase.lean ====
section
/-!
DEFINITION. What the commands of the host share: functions and their stops (R123, R134), namespaces (R125), command slots and their
completions (R118, R132, R628, R629), asynchronous events (R119) and the Host Interface Events page (R116).
-/

namespace Sys2Proof.Machine

open Sys2Proof

/-- The features of a function after a FUNCTION or CONTROLLER reset: the over temperature threshold at WCTEMP, 381 K (R616), FID 0xC1 Print (R106), every
other value zero (R139). Log 183 (PRESUMED). -/
def freshFeatures : Features := ⟨0, 381#32, 0, 0, 0, 0, false, [], .print⟩

/-- The counters of the Deadline Statistics page at zero. -/
def freshStats : List ClsStats := List.replicate 4 ⟨0, 0, 0, 0⟩

/-- A function with nothing set up; Device Control holds the payload and read request that PCI Express resets it to. -/
def noFunc : Func :=
  ⟨⟨0, 0, 0, 0, false, false, 0⟩, [], [], [], false, freshFeatures, freshStats, [], [], [], ⟨false, false, false, false, false⟩, 0, ⟨128, 512, none⟩⟩

/-- A function: 0 the PF, n VF n (R123). -/
def funcOf (s : State) (f : Nat) : Func := spGet noFunc s.hif.funcs f

/-- Replace a function. -/
def putFunc (s : State) (f : Nat) (x : Func) : State := { s with hif := { s.hif with funcs := spSet noFunc s.hif.funcs f x } }

/-- A function exists: the PF, or an enabled VF (R87). -/
def funcExists (s : State) (f : Nat) : Bool := f == 0 || (s.vfm.vfEnable && decide (1 ≤ f ∧ f ≤ s.vfm.numVfs))

/-- The functions that exist. -/
def funcsOf (s : State) : List Nat := 0 :: (if s.vfm.vfEnable then (List.range s.vfm.numVfs).map (· + 1) else [])

/-- CC.EN of a function. -/
def ccEn (x : Func) : Bool := x.regs.cc.getLsbD 0

/-- A queue of a function is stopped: a VF wholly, the PF its I/O queues (R134), or frozen (R142). -/
def queueStopped (s : State) (f qid : Nat) : Bool :=
  let x := (funcOf s f).stop
  if f = 0 then x.byStopAll && qid != 0 else x.byStopAll || x.byOffline || x.frozen

/-- The function is stopped as a whole (a VF) or in its I/O (the PF). -/
def funcStopped (s : State) (f : Nat) : Bool := queueStopped s f 1

/-- The namespace a function addresses by an NSID (R125): a VF its own as 1, the PF those attached to it by their NSID. -/
def nsOf (s : State) (f nsid : Nat) : Option (Nat × Namespace) :=
  if f = 0 then
    match spFind s.nss nsid with
    | some n => if n.attached = some 0 then some (nsid, n) else none
    | none => none
  else if nsid = 1 then s.nss.find? fun kv => kv.2.attached == some f
  else none

/-- Exposed zones of the device: 245,760, or half of them where two bays are enabled (R41, R558). -/
def exposedZones (s : State) : Nat := if s.otp.baysEn = 0x3 then 122880 else 245760

/-- ROLE selects STANDALONE. -/
def standalone (s : State) : Bool := s.straps.role == 0

/-- The number by which the host knows a zone of this device: its EZN, or in a cascade its CEZN (R558). -/
def hostZone (s : State) (ezn : Nat) : Nat :=
  if standalone s then ezn else s.straps.devId * exposedZones s + ezn

/-- The device a host zone number lies on, none for this one, and the local EZN there (R41, R558). -/
def zoneHome (s : State) (z : Nat) : Option Nat × Nat :=
  if standalone s then (none, z)
  else
    let d := z / exposedZones s
    (if d = s.straps.devId then none else some d, z % exposedZones s)

/-- The namespace that holds an EZN of this device. -/
def nsOfEzn (s : State) (ezn : Nat) : Option (Nat × Namespace) :=
  s.nss.find? fun kv => decide (kv.2.base ≤ hostZone s ezn ∧ hostZone s ezn < kv.2.base + kv.2.count)

/-- A command slot. -/
def slotOf (s : State) (n : Nat) : Option CmdSlot := spFind s.hif.slots n

/-- Replace a command slot. -/
def putSlot (s : State) (n : Nat) (c : CmdSlot) : State := { s with hif := { s.hif with slots := spPut s.hif.slots n c } }

/-- Free a command slot, and with it what it awaited from other devices and its place among the commands held for a zone. -/
def delSlot (s : State) (n : Nat) : State :=
  { s with
    hif := { s.hif with slots := spErase s.hif.slots n },
    zrs := { s.zrs with held := dropAll s.zrs.held n },
    slk := { s.slk with sentTags := s.slk.sentTags.filter (fun x => x.2 != n), adminWaits := spErase s.slk.adminWaits n } }

/-- A command is admitted by ZRS (R22, R80). Log 115 (DEDUCED). -/
def isAdmitted (c : CmdSlot) : Bool :=
  match c.phase with
  | .admitted | .waitJournal | .waitZoneOp | .waitMembers | .waitStart => true
  | _ => false

/-- Now, in µs of the SCH time base. -/
def now (s : State) : Nat := s.clk.sch

/-- Send an MSI-X message: pending where the entry is masked or MSI-X is not enabled; entries beyond the share deliver none (R132, R139). Log 20 (PRESUMED). -/
def sendMsix (s : State) (f v : Nat) : State :=
  let x := funcOf s f
  let share := if f = 0 then getF s F.vfmSharePf_vecPf else getF s F.vfmShare_vec
  let e : MsixEntry := spGet ⟨0, 0, true, false, false⟩ x.msix v
  if share ≤ v then s
  else if e.mask || !x.msixEnable then
    putFunc s f { x with msix := spSet ⟨0, 0, true, false, false⟩ x.msix v { e with pending := true } }
  else emit s (.msix f v)

/-- A completion queue holds no free entry. Log 19 (PRESUMED). -/
def cqFull (q : CplQ) : Bool := (q.tail + 1) % (q.size + 1) == q.head

/-- The queue number of PF admin commands that NVMe-MI tunnels over MCTP (R120); no submission queue has it. Log 107 (PRESUMED). -/
def miQueue : Nat := 65536

/-- The NVMe-MI response of a tunnelled admin command: message status 0, then the completion's Dwords 0, 1 and 3. -/
def miAnswer (e : Cqe) : List Byte :=
  let c := statusCode e.status
  leBytes 4 0 ++ leBytes 4 e.dw0.toNat ++ leBytes 4 e.dw1.toNat ++ leBytes 4 (e.cid % 65536 + (c.2 * 2 + c.1 * 2 ^ 9 + b2n e.dnr * 2 ^ 15) * 65536)

/-- Post a completion: into its completion queue with the phase tag, and its interrupt; it waits where the queue is full. A completion
whose queue is gone is dropped. Log 19, 20 (PRESUMED). -/
def postCqe (s : State) (e : Cqe) : State :=
  let x := funcOf s e.func
  if e.sqid = miQueue then emit s (.mctp (miAnswer e))
  else match spFind x.cqs e.cqid with
  | none => s
  | some q =>
    if cqFull q then { s with hif := { s.hif with waiting := s.hif.waiting ++ [e] } }
    else
      let wrap := q.tail + 1 == q.size + 1
      let q' := { q with tail := if wrap then 0 else q.tail + 1, phase := if wrap then !q.phase else q.phase }
      let s := putFunc s e.func { x with cqs := spPut x.cqs e.cqid q' }
      let s := emit s (.completion e.func e.sqid e.cid e.status e.dnr e.dw0 e.dw1)
      if q.ien then sendMsix s e.func q.iv else s


/-- The class counters of a function (R118). -/
def statsOf (x : Func) (c : Cls) : ClsStats := listAt ⟨0, 0, 0, 0⟩ x.stats (clsNum c)

/-- A 64-bit saturating increment. -/
def inc64 (n : Nat) : Nat := min (n + 1) (2 ^ 64 - 1)

/-- Count a completed command (R118, R172): MISSED by DEADLINE_MISSED, COMPLETED for a Read or Verify released, APPEND_LATE for an append
completed after its deadline, RACED for a read raced against rebuild. Log 114 (DEDUCED). -/
def countCompletion (s : State) (c : CmdSlot) (st : Status) : State :=
  if !(isReadKind c.kind || isWriteKind c.kind) then s
  else
    let x := funcOf s c.func
    let k := statsOf x c.cls
    let k := if st = .deadlineMissed then { k with missed := inc64 k.missed }
      else if isReadKind c.kind && st == .success then { k with completed := inc64 k.completed } else k
    let k := if (c.kind == .append || c.kind == .placedAppend) && st == .success && decide (c.deadline < now s) then { k with appendLate := inc64 k.appendLate } else k
    let k := if c.raced then { k with raced := inc64 k.raced } else k
    putFunc s c.func { x with stats := listSet x.stats (clsNum c.cls) k }

/-- Admitted commands of a submission queue that still run. -/
def admittedOn (s : State) (f qid : Nat) : Bool :=
  s.hif.slots.any fun kv => kv.2.func == f && kv.2.sqid == qid && isAdmitted kv.2

/-- Admitted commands of a function that still run. -/
def admittedFunc (s : State) (f : Nat) : Bool := s.hif.slots.any fun kv => kv.2.func == f && isAdmitted kv.2

/-- The completion of a slot's command. -/
def cqeOf (s : State) (c : CmdSlot) (st : Status) : Cqe :=
  let cqid := match spFind (funcOf s c.func).sqs c.sqid with
    | some q => q.cqid
    | none => 0
  ⟨c.func, cqid, c.sqid, c.sqe.cid, st, statusDnr (isWriteKind c.kind) st, c.dw0, c.dw1⟩

/-- Completions of a submission queue that wait for room in its completion queue. -/
def waitingOn (s : State) (f qid : Nat) : Bool := s.hif.waiting.any fun e => e.func == f && e.sqid == qid

/-- Where a queue's deletion waits and the completion of its last command is posted, the deletion completes (R629). -/
def settleDeletion (s : State) (f qid : Nat) : State :=
  match spFind (funcOf s f).sqs qid with
  | some q =>
    match q.deleting with
    | some d =>
      if admittedOn s f qid || waitingOn s f qid then s
      else
        let x := funcOf s f
        let s := putFunc s f { x with sqs := spErase x.sqs qid }
        match slotOf s d with
        | some c => postCqe (delSlot s d) (cqeOf s c .success)
        | none => s
    | none => s
  | none => s

/-- Post the completions that waited for room in a queue, oldest first, but those of stopped queues (R135); a deletion that waited for one of them completes
(R629). Log 19 (PRESUMED). -/
def postWaiting (s : State) : State :=
  let ws := s.hif.waiting.filter fun e => !queueStopped s e.func e.sqid
  let s := forEach ws { s with hif := { s.hif with waiting := s.hif.waiting.filter fun e => queueStopped s e.func e.sqid } } postCqe
  forEach ws s fun s e => settleDeletion s e.func e.sqid

/-- After a shutdown notification CSTS.SHST reads 10b once every admitted command of the function has completed (R628). -/
def settleShutdown (s : State) (f : Nat) : State :=
  let x := funcOf s f
  if x.stop.shutdown && !admittedFunc s f then putFunc s f { x with regs := { x.regs with shst := 2 } } else s

/-- R571: once no command it has admitted is left, a device that steps down holds its PCIe link down; it joins the new leader as a member from then on. -/
def settleStepDown (s : State) : State :=
  if !s.slk.stepping || s.hif.slots.any (fun kv => isAdmitted kv.2) then s
  else emit { s with hif := { s.hif with linkUp := false }, slk := { s.slk with stepping := false } } (.note "pcie link down" 0)

/-- The namespace fields of an ADMIN request that names none. -/
def noNamespace : Namespace := ⟨0, 0, .d4, 0, 0, none, 0, none⟩

/-- The request of the leader that a slot serves on a member (R559). -/
def servedBy (s : State) (n : Nat) : Option FwdIn := s.slk.served.find? fun w => w.slot == n

/-- One block of read data to the leader: 4,096 bytes and their OCRC (R555, R559). Log 159 (DEDUCED). -/
def sendRdData (s : State) (w : FwdIn) (bytes : List Byte) (ocrc : BitVec 32) : State := slkSend s w.src 0x12 w.tag (bytes ++ leBytes 4 ocrc.toNat)

/-- A status in a message: code type, code, and Do Not Retry. -/
def statusBytes (ofWrite : Bool) (st : Status) : List Byte :=
  let code := statusCode st
  leBytes 1 code.1 ++ leBytes 1 code.2 ++ leBytes 1 (b2n (statusDnr ofWrite st))

/-- A command served for a leader ends: CPL carries its status and completion Dwords to the leader, ADMIN_CPL the status (R559, R560).
The blocks of a read that read as zeros, which follow the others, go before CPL. A result that no leader hears is discarded (R566). -/
def answerLeader (s : State) (w : FwdIn) (c : CmdSlot) (st : Status) : State :=
  let s := { s with slk := { s.slk with served := s.slk.served.filter fun x => x.slot != w.slot } }
  let zeros : List Byte := List.replicate 4096 0
  let rest := if c.kind = .read ∧ st = .success then (List.range c.blocks).filter fun i => !c.opened.contains i else []
  if !peerLive s w.src then s
  else if w.admin then slkSend s w.src 0x21 w.tag (statusBytes false st)
  else
    let s := forEach rest s fun s _ => sendRdData s w zeros (crc32c zeros)
    slkSend s w.src 0x13 w.tag (statusBytes (isWriteKind c.kind) st ++ leBytes 4 c.dw0.toNat ++ leBytes 4 c.dw1.toNat)

/-- The buffers of a command's blocks and its read reservation are returned (R374). -/
def releaseBuffers (s : State) (n : Nat) (c : CmdSlot) : State :=
  let mine := s.mep.pool.filter fun kv => kv.1 / 256 == n
  let ings := s.mep.ingest.filter fun kv => kv.1 / 256 == n
  let s := { s with mep := { s.mep with
    pool := s.mep.pool.filter fun kv => kv.1 / 256 != n, ingest := s.mep.ingest.filter fun kv => kv.1 / 256 != n } }
  let s := forEach mine s fun s kv => freeBuf s 1 kv.2.buf idHif
  let s := forEach ings s fun s kv => freeBuf s 4 kv.2.buf idHif
  if c.reserved = 0 then s else unreserve s c.reserved

/-- End a command: its slot is free, its completion posted unless it is silent (R140), the counters of its class advance, and what waits
for its end goes on. A command served for a leader answers the leader instead (R559). -/
def finish (s : State) (n : Nat) (st : Status) : State :=
  match slotOf s n with
  | none => s
  | some c =>
    let s := releaseBuffers (delSlot s n) n c
    match servedBy s n with
    | some w => answerLeader s w c st
    | none =>
      let s := if c.silent then s else countCompletion s c st
      let s := if c.silent then s else postCqe s (cqeOf s c st)
      settleStepDown (settleShutdown (settleDeletion s c.func c.sqid) c.func)

/-- End a command with completion Dwords 0 and 1. -/
def finishWith (s : State) (n : Nat) (st : Status) (d0 d1 : Nat) : State :=
  match slotOf s n with
  | none => s
  | some c => finish (putSlot s n { c with dw0 := BitVec.ofNat 32 d0, dw1 := BitVec.ofNat 32 d1 }) n st

/-- Run `f` on the command of a slot that has been fetched and that `p` accepts; a slot that holds another command, or one already under
way, is left alone. -/
def withFetched (s : State) (n : Nat) (p : CmdSlot → Bool) (f : CmdSlot → State) : State :=
  match slotOf s n with
  | some c => if c.phase == .fetched && p c then f c else s
  | none => s

/-- An admin command of an opcode. -/
def isAdmin (o : Nat) (c : CmdSlot) : Bool := c.sqe.admin && opc c.sqe == o

/-- Return data to the host for a command. -/
def hostData (s : State) (c : CmdSlot) (bytes : List Byte) : State := emit s (.hostData c.func c.sqe.cid bytes)

/-- An event is enabled for a function: Zone Descriptor Changed by bit 27 of Asynchronous Event Configuration, a temperature threshold by bit 1, its SMART
warning's; the others have no enable bit (R94, R119). -/
def eventEnabled (x : Func) (e : AsyncEvent) : Bool :=
  match e with
  | .zoneDescriptorChanged _ => x.features.asyncEventConfig.getLsbD 27
  | .temperatureThreshold => x.features.asyncEventConfig.getLsbD 1
  | _ => true

/-- Two events of one kind. -/
def sameKind (a b : AsyncEvent) : Bool :=
  match a, b with
  | .zoneDescriptorChanged _, .zoneDescriptorChanged _ => true
  | a, b => a == b

/-- The composite temperature in kelvin (R616). -/
def compositeKelvin (s : State) : Nat := (s.age.composite + 273).toNat

/-- The composite temperature is at or above a function's over temperature threshold, or at or below its under temperature threshold (R94). Log 183 (PRESUMED). -/
def overThreshold (s : State) (f : Nat) : Bool :=
  let x := (funcOf s f).features
  decide (x.tempThreshold.toNat ≤ compositeKelvin s) || decide (compositeKelvin s ≤ x.underThreshold.toNat)

/-- Raise an asynchronous event to a function: it waits for a request unless it is disabled or masked (R119). -/
def raiseAsync (s : State) (f : Nat) (e : AsyncEvent) : State :=
  let x := funcOf s f
  if !funcExists s f || !eventEnabled x e || x.masked.any (sameKind e) || x.pendingEvents.contains e then s
  else putFunc s f { x with pendingEvents := x.pendingEvents ++ [e] }

/-- Zone Descriptor Changed for the namespace that holds a zone, to the function it is attached to (R50, R119). -/
def zoneChanged (s : State) (ezn : Nat) : State :=
  match nsOfEzn s ezn with
  | some (nsid, n) =>
    match n.attached with
    | some f => raiseAsync s f (.zoneDescriptorChanged nsid)
    | none => s
  | none => s

/-- The PSTATE of an event: the NVMe power state (R116, R510). -/
def hieRecord (s : State) (kind f offset : Nat) : State :=
  if 255 ≤ s.aon.events.length then { s with aon := { s.aon with lost := min (s.aon.lost + 1) (2 ^ 32 - 1) } }
  else
    let e : HieEntry := ⟨s.clk.ophours, s.clk.pwrcyc, kind, f, offset, getF s F.pmuState_ps⟩
    let first := s.aon.events.isEmpty
    let s := { s with aon := { s.aon with events := s.aon.events ++ [e] } }
    if first then raiseAsync s 0 .hostInterfaceEvents else s

/-- A fault of the host interface: its HIF_ERR bit with the record that names function and BAR offset (R104, R523). -/
def hifFaultAt (s : State) (bit : Fld) (master f offset : Nat) : State :=
  raiseErr s bit 0x02 0 master fun s => [regNat s bit.addr, f, offset % 2 ^ 32, offset / 2 ^ 32]

/-- A fault found at an access of a function, which carries the host's ID; one the queue engine finds by itself carries HW_HIF's (R14, R524). Log 121 (DEDUCED). -/
def hifFault (s : State) (bit : Fld) (f offset : Nat) : State := hifFaultAt s bit (if f = 0 then idHostPf else idHostVf) f offset

end Sys2Proof.Machine
end

