-- ==== Sys2Proof/Machine/Geometry.lean ====
section
/-!
DEFINITION. The geometry of the flash: dies, stitch groups, physical zones, the stitch of R45 and its inverse over a half-row, padding
extents, die descriptors (R185), row addresses (R191), and the Block Record Table (R275, R276).
-/

namespace Sys2Proof.Machine

open Sys2Proof

/-- Bits per cell of a tier (R2). -/
def bitsOf : Tier → Nat
  | .d4 => 4
  | .d5 => 5
  | .d6 => 6

/-- Slots of a half-row: 240n (R39). -/
def hrSlots (t : Tier) : Nat := 240 * bitsOf t

/-- Slots of a zone: 122,880n (R40). -/
def zoneSlots (t : Tier) : Nat := 122880 * bitsOf t

/-- Stitch group and block index of a physical zone (R39). -/
def groupOf (pzn : Nat) : Nat := pzn / 4096
def blockOf (pzn : Nat) : Nat := pzn % 4096

/-- Channel and die number of member `m` of a stitch group (R38, R181). -/
def memberChannel (g m : Nat) : Nat := 16 * (g / 16) + m
def memberDie (g m : Nat) : Nat := 16 * memberChannel g m + g % 16

/-- Channel, position, bay and stitch group of a die, and its member index there. -/
def dieChannel (d : Nat) : Nat := d / 16
def diePos (d : Nat) : Nat := d % 16
def dieBay (d : Nat) : Nat := d / 256
def dieGroup (d : Nat) : Nat := 16 * (d / 256) + d % 16
def dieMember (d : Nat) : Nat := d / 16 % 16

/-- A stitch group exists on the part: its bay is enabled (R38). -/
def groupExists (s : State) (g : Nat) : Bool := decide (g < 64) && bayEnabled s (g / 16)

/-- Length of a padding extent (R62). -/
def padLen (t : Tier) (x : PadExtent) : Nat := (x.endHr + 1) * hrSlots t - x.start

/-- The slot of a host offset: padding extents at or below it are stepped over (R45). -/
def slotOfOffset (t : Tier) (pads : List PadExtent) (o : Nat) : Nat :=
  pads.foldl (fun s x => if x.start ≤ s then s + padLen t x else s) o

/-- A slot lies in a padding extent: it is filler. -/
def isFiller (t : Tier) (pads : List PadExtent) (slot : Nat) : Bool :=
  pads.any fun x => decide (x.start ≤ slot ∧ slot < x.start + padLen t x)

/-- The host offset of a slot that holds data: the fillers below it do not count. -/
def offsetOfSlot (t : Tier) (pads : List PadExtent) (slot : Nat) : Nat :=
  slot - pads.foldl (fun a x => if x.start ≤ slot then a + padLen t x else a) 0

/-- A physical place of a slot (R45): half-row, word line, plane, bit-page, codeword, and member. -/
structure Place where
  hr : Nat
  wl : Nat
  plane : Nat
  bp : Nat
  cw : Nat
  member : Nat
deriving DecidableEq, Repr

/-- The stitch (R45): the place of a slot in physical zone `pzn`. -/
def stitch (t : Tier) (pzn slot : Nat) : Place :=
  let h := slot / hrSlots t
  let rem := slot % hrSlots t
  let u := rem / 8
  let k := u % 15
  let v := u / 15
  let q := blockOf pzn % 16
  ⟨h, h / 2, 2 * (h % 2) + v % 2, v / 2, rem % 8, (q + 1 + k) % 16⟩

/-- The parity member of a physical zone (R46). -/
def parityMember (pzn : Nat) : Nat := blockOf pzn % 16

/-- The slot at a place of a data member: the inverse of the stitch. -/
def slotAt (t : Tier) (pzn hr plane bp cw member : Nat) : Nat :=
  let v := 2 * bp + plane % 2
  let k := (member + 15 - parityMember pzn) % 16
  hr * hrSlots t + (v * 15 + k) * 8 + cw

/-- The block used on a member and plane: the block index, or the spare that substitutes it (R47). -/
def blockFor (z : ZstEntry) (pzn member plane : Nat) : Nat :=
  match z.subst.find? (fun x => x.member == member && x.plane == plane) with
  | some x => 4096 + x.spare
  | none => blockOf pzn

/-- The bytes of descriptor `k` of a bay as its FCH_DESC words hold them (R215). -/
def descBytes (s : State) (bay k : Nat) : List Byte :=
  (List.range 64).flatMap fun i => leBytes 4 (getF s (F.fchDesc_word bay (64 * k + i)))

/-- A little-endian field of `n` bytes of a descriptor, read from its words. -/
def descF (s : State) (bay k off n : Nat) : Nat :=
  (List.range n).foldr (fun i a =>
    field (getF s (F.fchDesc_word bay (64 * k + (off + i) / 4))) (8 * ((off + i) % 4) + 7) (8 * ((off + i) % 4)) + 256 * a) 0

/-- A field of the descriptor bound to a die. -/
def dieF (s : State) (d off n : Nat) : Nat :=
  descF s (dieBay d) (getF s (F.fchDieCfg_desc (dieChannel d) (diePos d))) off n

/-- A signed byte. -/
def sbyte (n : Nat) : Int := if 128 ≤ n % 256 then (n % 256 : Nat) - 256 else (n % 256 : Nat)

/-- A die is present and in service (R189, R190). -/
def diePresent (s : State) (d : Nat) : Bool := flag s (F.fchDieCfg_present (dieChannel d) (diePos d))
def dieInService (s : State) (d : Nat) : Bool := diePresent s d && flag s (F.fchDieCfg_inservice (dieChannel d) (diePos d))

/-- Members of a stitch group in service. -/
def membersInService (s : State) (g : Nat) : Nat := ((List.range 16).filter fun m => dieInService s (memberDie g m)).length

/-- A stitch group is in service (R190). -/
def groupInService (s : State) (g : Nat) : Bool := membersInService s g == 16

/-- A stitch group supports a tier: every member's descriptor has it (R190). -/
def groupTier (s : State) (g : Nat) (t : Tier) : Bool :=
  (List.range 16).all fun m => bitAt (getF s (F.fchDieCfg_tiers (memberChannel g m) (g % 16))) (tierNum t)

/-- The row address of a bit-page (R191). -/
def rowAddr (s : State) (d plane block wl bp : Nat) : Nat :=
  bp * 2 ^ dieF s d 0x21 1 + wl * 2 ^ dieF s d 0x22 1 + plane * 2 ^ dieF s d 0x23 1 + block * 2 ^ dieF s d 0x24 1 +
    diePos d % 4 * 2 ^ dieF s d 0x25 1

/-- Typical and maximum time of a program pass in µs (R185). -/
def passTimes (s : State) (d : Nat) (t : Tier) (p : Pass) : Nat × Nat :=
  let off := match t, p with
    | .d4, _ => 0x30
    | .d5, .fine => 0x38
    | .d5, _ => 0x34
    | .d6, .fine => 0x40
    | .d6, _ => 0x3C
  (dieF s d off 2, dieF s d (off + 2) 2)

/-- Record index of a block-plane (R275). -/
def brtIndex (d plane block : Nat) : Nat := (4 * d + plane) * 4160 + block

/-- The die of a record. -/
def brtDie (i : Nat) : Nat := i / 16640

/-- KIND and COND codes (R276). -/
def kindCode : BlockKind → Nat
  | .user => 0
  | .spareFree => 1
  | .spareAssigned => 2
  | .bad => 3

def condCode : BlockCond → Nat
  | .erased => 0
  | .opened => 1
  | .written => 2
  | .dirty => 3

/-- Bytes 0x00 to 0x0E of a record (R276). Log 8 (DESIGN CHOICE). -/
def brtBytes (r : BrtRecord) : List Byte :=
  leBytes 4 (kindCode r.kind + condCode r.cond * 4 + b2n r.partialFlag * 16 + b2n r.fogExt * 32 + r.tier % 4 * 64 +
    r.wlDone % 512 * 256 + r.ptemp % 8 * 2 ^ 17 + r.owner % 4096 * 2 ^ 20) ++
  leBytes 4 (r.pe % 65536 + r.mapSeq % 65536 * 65536) ++ leBytes 4 r.progOph ++ leBytes 3 r.reads

/-- A record with its CHK (R276). -/
def sealBrt (r : BrtRecord) : BrtRecord := { r with chk := crc8 (brtBytes r) }

/-- KIND and COND of their codes (R276). -/
def kindOf (n : Nat) : BlockKind := match n with | 0 => .user | 1 => .spareFree | 2 => .spareAssigned | _ => .bad
def condOf (n : Nat) : BlockCond := match n with | 0 => .erased | 1 => .opened | 2 => .written | _ => .dirty

/-- The record that 15 or 16 bytes spell; MHM computes CHK itself (R276). -/
def recordOfBytes (bs : List Byte) : BrtRecord :=
  let w := leAt bs 0 4
  let v := leAt bs 4 4
  sealBrt ⟨kindOf (w % 4), condOf (w / 4 % 4), bitAt w 4, bitAt w 5, field w 7 6, field w 16 8, field w 19 17, field w 31 20, v % 65536, v / 65536,
    leAt bs 8 4, leAt bs 12 3, 0⟩

/-- A record before anything was written on its block: a user block or a free spare, erased, never programmed. Log 15 (DESIGN CHOICE). -/
def freshBrt (i : Nat) : BrtRecord :=
  sealBrt ⟨if i % 4160 < 4096 then .user else .spareFree, .erased, false, false, 3, 0, 0, 0, 0, 0, 0, 0, 0⟩

/-- The record of a block-plane; the records of absent dies hold KIND BAD (R275). Log 15 (DESIGN CHOICE). -/
def brtOf (s : State) (i : Nat) : BrtRecord :=
  let r := spGet (freshBrt i) s.mhm.brt i
  if diePresent s (brtDie i) then r else { r with kind := .bad }

/-- MHM writes a record whole (R35). -/
def setBrt (s : State) (i : Nat) (r : BrtRecord) : State :=
  { s with mhm := { s.mhm with brt := spSet (freshBrt i) s.mhm.brt i (sealBrt r) } }

/-- A record's CHK matches (R277). -/
def brtGood (s : State) (i : Nat) : Bool :=
  let r := spGet (freshBrt i) s.mhm.brt i
  r.chk == crc8 (brtBytes r)

/-- The 64 block-planes of a physical zone as record indices, substitutes in their places (R39, R47). -/
def zoneRecords (z : ZstEntry) (pzn : Nat) : List Nat :=
  (List.range 16).flatMap fun m => (List.range 4).map fun p =>
    brtIndex (memberDie (groupOf pzn) m) p (blockFor z pzn m p)

end Sys2Proof.Machine
end

