-- ==== Sys2Proof/Machine/Zones.lean ====
section
/-!
DEFINITION. What the zone resolver's commands share (chapter 2): Zone Map and Zone State Table entries, journal records, staging
reservations, open-zone limits, contexts and the CAM, binding, padding, Reset and Finish.
-/

namespace Sys2Proof.Machine

open Sys2Proof

/-- A Zone Map entry; an EZN never bound is unbound at epoch 0 (R44). -/
def zmapOf (s : State) (ezn : Nat) : ZoneMapEntry := spGet ⟨0, false, false, 0⟩ s.zrs.map ezn

def putZmap (s : State) (ezn : Nat) (x : ZoneMapEntry) : State :=
  { s with zrs := { s.zrs with map := spSet ⟨0, false, false, 0⟩ s.zrs.map ezn x } }

/-- The 8 bytes of a Zone Map entry, and the entry that 8 bytes spell (R44). -/
def zmapBytes (x : ZoneMapEntry) : List Byte :=
  leBytes 4 (x.pzn % 2 ^ 22 + b2n x.bound * 2 ^ 22 + b2n x.retired * 2 ^ 23) ++ leBytes 4 (x.epoch % 2 ^ 24)

def zmapOfBytes (bs : List Byte) : ZoneMapEntry :=
  let w := leAt bs 0 4
  ⟨w % 2 ^ 22, bitAt w 22, bitAt w 23, leAt bs 4 3⟩

/-- The code of a zone state (R78). -/
def zoneCode : ZoneState → Nat
  | .empty => 0
  | .implicitlyOpened => 1
  | .explicitlyOpened => 2
  | .closed => 3
  | .full => 4
  | .readOnly => 5
  | .offline => 6

/-- The zone state of a code; 7 to 15 are reserved (R78). -/
def zoneOfCode : Nat → Option ZoneState
  | 0 => some .empty
  | 1 => some .implicitlyOpened
  | 2 => some .explicitlyOpened
  | 3 => some .closed
  | 4 => some .full
  | 5 => some .readOnly
  | 6 => some .offline
  | _ => none

/-- A padding extent as stored (R78). -/
def padWord (x : PadExtent) : Nat := x.start % 2 ^ 20 + x.endHr % 512 * 2 ^ 20

/-- A substitution as stored (R78). -/
def substWord (x : Subst) : Nat := 0x8000 + x.member % 16 * 2 ^ 11 + x.plane % 4 * 2 ^ 9 + x.spare % 64 * 8

/-- Bytes 0x00 to 0x3B of a Zone State Table entry (R78). Log 8 (DESIGN CHOICE). -/
def zstBytes (z : ZstEntry) : List Byte :=
  leBytes 4 (z.ezn % 2 ^ 22 + b2n z.bound * 2 ^ 22 + zoneCode z.state * 2 ^ 23 + b2n z.padded * 2 ^ 27 + tierNum z.tier * 2 ^ 28 +
    z.erc % 4 * 2 ^ 30) ++
  leBytes 4 (z.tenant % 4096 + z.nsx % 65536 * 4096 + z.pads.length * 2 ^ 28) ++
  leBytes 4 z.wpHost ++ leBytes 4 z.wpPhys ++ leBytes 4 z.durableHr ++ leBytes 4 z.coKey ++ leBytes 4 z.openOph ++ leBytes 4 z.lastOph ++
  (List.range 4).flatMap (fun i => leBytes 2 (match z.subst[i]? with | some x => substWord x | none => 0)) ++
  (List.range 4).flatMap (fun i => leBytes 4 (match z.pads[i]? with | some x => padWord x | none => 0)) ++ leBytes 4 z.filler

/-- The 64 bytes of an entry as DRAM holds them (R78). -/
def zstEntryBytes (z : ZstEntry) : List Byte := zstBytes z ++ leBytes 4 z.crc.toNat

/-- The entry that 64 bytes spell, put over an old one (R78): a reserved STATE or TIER leaves the old one's. -/
def zstOfBytes (old : ZstEntry) (bs : List Byte) : ZstEntry :=
  let w := leAt bs 0 4
  let v := leAt bs 4 4
  let subst := (List.range 4).filterMap fun i =>
    let x := leAt bs (0x20 + 2 * i) 2
    if bitAt x 15 then some (⟨field x 14 11, field x 10 9, field x 8 3⟩ : Subst) else none
  let pads := (List.range (min 4 (field v 30 28))).map fun i =>
    let x := leAt bs (0x28 + 4 * i) 4
    (⟨field x 19 0, field x 28 20⟩ : PadExtent)
  { old with
    ezn := w % 2 ^ 22, bound := bitAt w 22, state := (zoneOfCode (field w 26 23)).getD old.state, padded := bitAt w 27,
    tier := (tierOf (field w 29 28)).getD old.tier, erc := field w 31 30, tenant := v % 4096, nsx := field v 27 12,
    wpHost := leAt bs 8 4 % 2 ^ 20, wpPhys := leAt bs 0xC 4 % 2 ^ 20, durableHr := leAt bs 0x10 4 % 1024, coKey := leAt bs 0x14 4,
    openOph := leAt bs 0x18 4, lastOph := leAt bs 0x1C 4, subst := subst, pads := pads, filler := leAt bs 0x38 4 % 2 ^ 20,
    crc := BitVec.ofNat 32 (leAt bs 0x3C 4) }

/-- The entry of a physical zone never bound; its CRC is that of 60 zero bytes. -/
def freshZst : ZstEntry :=
  ⟨0, false, .empty, false, .d4, 0, 0, 0, 0, 0, 0, 0, 0, 0, [], [], 0, false, 0x5A0B0531#32⟩

/-- A Zone State Table entry. -/
def zstOf (s : State) (pzn : Nat) : ZstEntry := spGet freshZst s.zrs.zst pzn

/-- What a resolve finds of a zone on a physical zone. Log 169 (DEDUCED). -/
def homeOf (s : State) (pzn ezn : Nat) : Resolved := ⟨pzn, zstOf s pzn, (zmapOf s ezn).epoch⟩

/-- ZRS writes an entry with its CRC (R34, R78). -/
def putZst (s : State) (pzn : Nat) (z : ZstEntry) : State :=
  { s with zrs := { s.zrs with zst := spSet freshZst s.zrs.zst pzn { z with crc := crc32c (zstBytes z) } } }

/-- The physical zone and entry of a bound EZN. -/
def boundZone (s : State) (ezn : Nat) : Option (Nat × ZstEntry) :=
  let m := zmapOf s ezn
  if m.bound then some (m.pzn, zstOf s m.pzn) else none

/-- The state of an exposed zone (R48): retired zones are Offline, unbound ones Empty. -/
def zoneState (s : State) (ezn : Nat) : ZoneState :=
  if (zmapOf s ezn).retired then .offline
  else match boundZone s ezn with
    | some (_, z) => z.state
    | none => .empty

/-- An EZN's entry is in the CAM or in the cache (R79). -/
def onChip (s : State) (ezn : Nat) : Bool := (spFind s.zrs.cam ezn).isSome || s.zrs.cache.contains ezn

/-- The stored CRC of a zone's entry in DRAM does not match (R78, R79). -/
def storedBad (s : State) (ezn : Nat) : Bool :=
  let z := zstOf s (zmapOf s ezn).pzn
  z.crc != crc32c (zstBytes z)

/-- What a load from DRAM of a bound zone's entries would find wrong; an entry on chip is not loaded (R79, R84). -/
def loadFault (s : State) (ezn : Nat) : Option Fld :=
  let m := zmapOf s ezn
  if !m.bound || onChip s ezn then none
  else if 262144 ≤ m.pzn ∨ (zstOf s m.pzn).bound = false ∨ (zstOf s m.pzn).ezn ≠ ezn then some F.zrsErr_mapInvalid
  else if storedBad s ezn then some F.zrsErr_zstCrc
  else none

/-- A ZRS fault with its record (R84, R523). -/
def zrsFault (s : State) (bit : Fld) (ezn func : Nat) : State :=
  raiseErr s bit 0x01 0 idZrs fun s => [regNat s bit.addr, ezn, (zmapOf s ezn).pzn, func]

/-- Put an EZN into the Zone State Table cache, which holds 32,768; the entry that leaves a full cache is a free choice. Log 35 (DESIGN CHOICE). -/
def cacheZone (s : State) (ezn : Nat) : State :=
  if onChip s ezn then s
  else if s.zrs.cache.length < 32768 then { s with zrs := { s.zrs with cache := s.zrs.cache ++ [ezn] } }
  else
    let (n, s) := draw s
    { s with zrs := { s.zrs with cache := s.zrs.cache.eraseIdx (n % 32768) ++ [ezn] } }

/-- The relocation of a zone, by its source PZN. -/
def relocOf (s : State) (pzn : Nat) : Option Reloc := spFind s.mhm.relocs pzn

/-- Change the entry of a bound EZN; the target of its relocation follows its state, write pointers and padding (R285, R286). -/
def modZone (s : State) (ezn : Nat) (f : ZstEntry → ZstEntry) : State :=
  match boundZone s ezn with
  | some (pzn, z) =>
    let y := f z
    let s := putZst s pzn y
    (match relocOf s pzn with
    | some r => putZst s r.target { zstOf s r.target with
        state := y.state, padded := y.padded, wpHost := y.wpHost, wpPhys := y.wpPhys, pads := y.pads, filler := y.filler, finished := y.finished }
    | none => s)
  | none => s

/-- Open states and active states (R48). -/
def isOpenState : ZoneState → Bool
  | .implicitlyOpened | .explicitlyOpened => true
  | _ => false

def isActiveState : ZoneState → Bool
  | .implicitlyOpened | .explicitlyOpened | .closed => true
  | _ => false

/-- An admitted write of a zone that has not completed. -/
def isIncomplete (ezn : Nat) (c : CmdSlot) : Bool := isWriteKind c.kind && isAdmitted c && c.ezn == ezn && c.remote.isNone

/-- The incomplete writes of a zone (R54), with their slots. -/
def incomplete (s : State) (ezn : Nat) : Sparse CmdSlot := s.hif.slots.filter fun kv => isIncomplete ezn kv.2

/-- A write admitted to the zone has data that is not sealed yet and still will be. -/
def unsealed (s : State) (ezn : Nat) : Bool :=
  (incomplete s ezn).any fun kv => kv.2.failed.isNone && decide (kv.2.sealed.length < kv.2.blocks)

/-- Every reserved slot that still will be is staged (R60). -/
def allStaged (s : State) (ezn : Nat) : Bool :=
  (incomplete s ezn).all fun kv => kv.2.failed.isSome || decide (kv.2.blocks ≤ kv.2.staged.length)

/-- The last half-row a padding must fill so that a slot below `wp` becomes durable (R60). Log 110 (DEDUCED). -/
def padEnd (t : Tier) (wp : Nat) : Nat :=
  let hl := (wp - 1) / hrSlots t
  match t with
  | .d4 => hl
  | _ => min (hl + 2) 511

/-- The half-rows reserved so far are enough for the last slot of a write to become durable. Log 29 (DEDUCED). -/
def secured (t : Tier) (wpPhys : Nat) (c : CmdSlot) : Bool :=
  decide ((padEnd t (c.firstSlot + c.blocks) + 1) * hrSlots t ≤ wpPhys)

/-- ZRS_PAD_MARGIN of a tier, in µs (R82). -/
def padMargin (s : State) : Tier → Nat
  | .d4 => 50 * getF s F.zrsPadMargin_marginD4
  | .d5 => 50 * getF s F.zrsPadMargin_marginD5
  | .d6 => 50 * getF s F.zrsPadMargin_marginD6

/-- The first reserved of some writes. -/
def firstReserved (kv : Nat × CmdSlot) (kvs : Sparse CmdSlot) : Nat × CmdSlot :=
  kvs.foldl (fun a x => if x.2.firstSlot < a.2.firstSlot then x else a) kv

/-- The padding deadline of a zone: that of the oldest of its incomplete writes that more slots must make durable, by the margin in force now
(R59, R82). Log 29 (DEDUCED), 178 (DESIGN CHOICE). -/
def padDeadline (s : State) (ezn : Nat) : Option Nat :=
  match boundZone s ezn with
  | none => none
  | some (_, z) =>
    match (incomplete s ezn).filter (fun kv => !secured z.tier z.wpPhys kv.2) with
    | [] => none
    | kv :: kvs =>
      let c := (firstReserved kv kvs).2
      some (max c.arrival (c.deadline - padMargin s z.tier))

/-- The records of the journal that wait for a zone. -/
def waitingOf (s : State) (ezn : Nat) : List ZoneJournal :=
  s.jrn.waiting.filterMap fun r => match r with | .zone e z => if e = ezn then some z else none | _ => none

/-- The horizon of a record (R58). -/
def recHorizon (z : ZoneJournal) : Nat := match z.write with | some w => w.horizon | none => 0

/-- The horizon a reservation may use: the journalled one, and none above a record that waits (R58). Log 30 (DEDUCED). -/
def horizonOf (s : State) (ezn : Nat) : Nat :=
  let j := match spFind s.jrn.zones ezn with | some z => recHorizon z | none => 0
  (waitingOf s ezn).foldl (fun a z => min a (recHorizon z)) j

/-- The horizon asked for last. Log 30 (DEDUCED). -/
def askedHorizon (s : State) (ezn : Nat) : Nat :=
  match (waitingOf s ezn).getLast? with
  | some z => recHorizon z
  | none => match spFind s.jrn.zones ezn with | some z => recHorizon z | none => 0

/-- Let a record wait in the journal's next page (R58). -/
def journal (s : State) (r : JRec) : State :=
  { s with jrn := { s.jrn with
    waiting := s.jrn.waiting ++ [r], waitSince := match s.jrn.waitSince with | none => some s.clk.us | some t => some t } }

/-- Journal a zone as it stands, with a horizon where it is bound. -/
def journalZoneAt (s : State) (ezn horizon : Nat) : State :=
  match boundZone s ezn with
  | none => journal s (.zone ezn ⟨zmapOf s ezn, none, none⟩)
  | some (_, z) => journal s (.zone ezn ⟨zmapOf s ezn, some z, some ⟨z.durableHr, horizon, z.pads, z.wpHost, z.filler⟩⟩)

/-- Journal a zone: with no incomplete write its record carries WP_PHYS as the horizon (R58). Log 30 (DEDUCED). -/
def journalZone (s : State) (ezn : Nat) : State :=
  match boundZone s ezn with
  | none => journalZoneAt s ezn 0
  | some (_, z) =>
    journalZoneAt s ezn (if (incomplete s ezn).isEmpty then z.wpPhys else max z.wpPhys (askedHorizon s ezn))

/-- Open zones counted against a function's share: CAM entries and contexts still sealing (R51, R53). -/
def openOfFunc (s : State) (f : Nat) : Nat :=
  (s.zrs.cam.filter fun kv => kv.2.owner == f).length + (s.zrs.linger.filter fun l => l.owner == f).length

/-- Open zones counted against a namespace's MOR_CAP. -/
def openOfNs (s : State) (nsid : Nat) : Nat :=
  (s.zrs.cam.filter fun kv => match nsOfEzn s kv.1 with | some (n, _) => n == nsid | none => false).length +
    (s.zrs.linger.filter fun l => l.nsid == nsid).length

/-- This device is the member of a cascade: it presents no functions of its own (R543). -/
def isMember (s : State) : Bool := !standalone s && !flag s F.slkLeader_isLeader

/-- The context share of a function (R130); a member skips VFM, whose shares are the leader's (R559). Log 161 (DEDUCED). -/
def ctxShare (s : State) (f : Nat) : Nat :=
  if isMember s then 8192 else if f = 0 then getF s F.vfmSharePf_ctxPf else getF s F.vfmShare_ctx

/-- Active zones of a namespace (R48). Log 161 (DEDUCED). -/
def activeOfNs (s : State) (nsid : Nat) : Nat :=
  (s.zrs.zst.filter fun kv => kv.2.bound && kv.2.tenant + 1 == nsid && isActiveState kv.2.state && (zmapOf s kv.2.ezn).pzn == kv.1 && (zmapOf s kv.2.ezn).bound).length

/-- The reservation block that serves a zone (R73). -/
def resvOf (s : State) (ezn : Nat) : Option (Nat × ResvBlock) := s.zrs.resv.find? fun kv => kv.2.zones.any fun x => x.2 == ezn

/-- A staging reservation of a tier can be granted: a block has a free place, or enough granules are free (R73). -/
def resvFree (s : State) (t : Tier) : Bool :=
  s.zrs.resv.any (fun kv => kv.2.tier == t && decide (kv.2.zones.length < 512)) ||
    decide (granulesUsed s + granulesOf t ≤ 20)

/-- Granules no reservation block holds, in ascending order. -/
def freeGranules (s : State) : List Nat :=
  (List.range 20).filter fun g => !(s.sbg.granules.any fun kv => kv.2.contains g)

/-- Grant a staging reservation, creating a block where none of the tier has a place (R73, R381). -/
def takeResv (s : State) (t : Tier) (ezn : Nat) : State :=
  if (resvOf s ezn).isSome then s
  else
    match s.zrs.resv.find? (fun kv => kv.2.tier == t && decide (kv.2.zones.length < 512)) with
    | some (k, b) => { s with zrs := { s.zrs with resv := spPut s.zrs.resv k { b with zones := spPut b.zones (spFree b.zones 512 0) ezn } } }
    | none =>
      let k := spFree s.zrs.resv 20 0
      { s with
        zrs := { s.zrs with resv := spPut s.zrs.resv k ⟨t, [(0, ezn)]⟩ },
        sbg := { s.sbg with granules := spPut s.sbg.granules k ((freeGranules s).take (granulesOf t)) } }

/-- A zone gives its reservation back; the block goes with its last zone (R73). -/
def freeResv (s : State) (ezn : Nat) : State :=
  match resvOf s ezn with
  | none => s
  | some (k, b) =>
    let zs := b.zones.filter fun x => x.2 != ezn
    if zs.isEmpty then
      { s with zrs := { s.zrs with resv := spErase s.zrs.resv k }, sbg := { s.sbg with granules := spErase s.sbg.granules k } }
    else { s with zrs := { s.zrs with resv := spPut s.zrs.resv k { b with zones := zs } } }

/-- The lowest free context index (R397). -/
def lowestCtx (s : State) : Nat := spFree s.cph.ctxs 8192 0

/-- A context before its use: free. -/
def noCtx : Ctx := ⟨.free, false, 0, 0, 0, none, 0⟩

/-- Replace a context. -/
def putCtx (s : State) (i : Nat) (c : Ctx) : State := { s with cph := { s.cph with ctxs := spPut s.cph.ctxs i c } }

/-- The system slot whose key wraps parked contexts (R408). -/
def slotCtxWrap : Nat := 4096

/-- A slot's value as bytes, where it is LOADED. -/
def keyBytes (s : State) (k : Nat) : Option (List Byte) := (spFind s.tkr.slots k).map fun v => beBytes 32 v.toNat

/-- The address of a parked slot (R400). -/
def parkAddr (i : Nat) : Nat := 0x1D4000000 + 128 * i

/-- Bytes 0x00 to 0x1F of a parked slot, in the clear (R400). Log 79 (DEDUCED). -/
def parkHead (i n : Nat) (c : Ctx) : List Byte :=
  leBytes 4 (i % 8192 + 2 ^ 16 * b2n c.blk.isSome) ++ leBytes 4 (c.ezn % 2 ^ 22) ++ leBytes 8 n ++ leBytes 12 ((c.blk.map fun b => b.nonce.toNat).getD 0) ++
    leBytes 4 ((c.blk.map CtxBlock.done).getD 0 % 4096 + 2 ^ 16 * (c.keySlot % 8192))

/-- Bytes 0x20 to 0x5F of a parked slot before they are wrapped (R400): zero for an idle context. Log 79 (DEDUCED). -/
def parkBody (c : Ctx) : List Byte :=
  match c.blk with
  | none => List.replicate 64 0
  | some b => leBytes 16 b.ghash.toNat ++ bytesAt b.part 0 16 ++ leBytes 4 b.sealRun.toNat ++ leBytes 4 b.icrcRun.toNat ++ List.replicate 24 0

/-- The wrap nonce of R401. Log 79 (DEDUCED). -/
def parkNonce (i n : Nat) : List Byte := beBytes 2 i ++ beBytes 8 n ++ [0, 0]

/-- The 128 bytes of a parked slot (R400, R401); zero where CTX_WRAP is EMPTY. Log 79 (DEDUCED). -/
def parkSlot (s : State) (i n : Nat) (c : Ctx) : List Byte :=
  match keyBytes s slotCtxWrap with
  | none => List.replicate 128 0
  | some key =>
    let (w, t) := gcmSeal key (parkNonce i n) (parkHead i n c) (parkBody c)
    parkHead i n c ++ w ++ t ++ List.replicate 16 0

/-- Two whole lines that CPH writes to DRAM with fresh parity (R329, R330): held entries of the lines are discarded. -/
def storePark (s : State) (a : Nat) (bs : List Byte) : State :=
  freshParity (putDramBytes { s with mep := { s.mep with merge := spErase (spErase s.mep.merge (a / 64)) (a / 64 + 1) } } a bs) a 128

/-- Park a context (R399 to R401): its PARK_COUNT is the device counter's next value, which TKR keeps. Log 79 (DEDUCED). -/
def parkCtx (s : State) (i : Nat) : State :=
  match spFind s.cph.ctxs i with
  | none => s
  | some c =>
    if !c.resident then s
    else
      let n := s.cph.parkClock + 1
      storePark (putCtx { s with cph := { s.cph with parkClock := n } } i { c with resident := false, tkrCount := n }) (parkAddr i) (parkSlot s i n c)

/-- The oldest use among resident contexts. -/
def lruCtx (s : State) : Option (Nat × Ctx) :=
  match s.cph.ctxs.filter fun kv => kv.2.resident with
  | [] => none
  | c :: cs => some (cs.foldl (fun a kv => if kv.2.used < a.2.used then kv else a) c)

/-- A resident place: where 512 contexts are resident, the least recently used one is parked (R399). -/
def residentPlace (s : State) : State :=
  if (s.cph.ctxs.filter fun kv => kv.2.resident).length < 512 then s else match lruCtx s with | some kv => parkCtx s kv.1 | none => s

/-- Bind a context to a zone and its tenant slot (R397); it begins resident (R399). Log 79 (DEDUCED). -/
def openCtx (s : State) (i ezn slot : Nat) : State :=
  let s := residentPlace s
  { s with cph := { s.cph with
    ctxs := spPut s.cph.ctxs i ⟨.idle, true, ezn, slot, s.cph.useClock, none, 0⟩,
    useClock := s.cph.useClock + 1 } }

/-- A context holds a reference on a version of a slot (R410). -/
def holdsKey (c : Ctx) (k v : Nat) : Bool :=
  c.keySlot == k && (match c.blk with | some b => b.version == v | none => false)

/-- Retired copies without a reference are zeroised (R411). Log 173 (DESIGN CHOICE). -/
def sweepRetired (s : State) : State :=
  { s with tkr := { s.tkr with retired := s.tkr.retired.filter fun r => s.cph.ctxs.any fun kv => holdsKey kv.2 r.keySlot r.version } }

/-- Return a context: its index is free (R53). Log 173 (DESIGN CHOICE). -/
def closeCtx (s : State) (i : Nat) : State :=
  let busy := match spFind s.cph.ctxs i with | some c => c.blk.isSome | none => false
  let s := { s with cph := { s.cph with ctxs := spErase s.cph.ctxs i } }
  if busy then sweepRetired s else s

/-- A zone leaves the open states: its CAM entry goes, and its context at once or once its admitted writes are sealed (R53). Its entry
returns to the cache. -/
def leaveCam (s : State) (ezn : Nat) : State :=
  match spFind s.zrs.cam ezn with
  | none => s
  | some e =>
    let nsid := match nsOfEzn s ezn with | some (n, _) => n | none => 0
    let s := { s with zrs := { s.zrs with cam := spErase s.zrs.cam ezn } }
    let s := cacheZone s ezn
    if unsealed s ezn then { s with zrs := { s.zrs with linger := s.zrs.linger ++ [⟨ezn, e.ctx, e.owner, nsid⟩] } }
    else closeCtx s e.ctx

/-- The contexts of a zone that still seal are returned (R53). Log 109 (DEDUCED). -/
def releaseLinger (s : State) (ezn : Nat) : State :=
  let ls := s.zrs.linger.filter fun l => l.ezn == ezn
  forEach ls { s with zrs := { s.zrs with linger := s.zrs.linger.filter fun l => l.ezn != ezn } } fun s l => closeCtx s l.ctx

/-- A zone enters the CAM with a context of a function's share (R51, R79). A context of the zone that still seals is taken back. Log 109 (DEDUCED). -/
def enterCam (s : State) (ezn f tenant : Nat) : State :=
  let s := { s with zrs := { s.zrs with cache := dropAll s.zrs.cache ezn } }
  match s.zrs.linger.find? (fun l => l.ezn == ezn) with
  | some l =>
    { s with zrs := { s.zrs with
      linger := s.zrs.linger.filter (fun x => x.ezn != ezn),
      cam := spPut s.zrs.cam ezn ⟨l.ctx, f, s.zrs.writeClock⟩, writeClock := s.zrs.writeClock + 1 } }
  | none =>
    let i := lowestCtx s
    let s := openCtx s i ezn tenant
    { s with zrs := { s.zrs with cam := spPut s.zrs.cam ezn ⟨i, f, s.zrs.writeClock⟩, writeClock := s.zrs.writeClock + 1 } }

/-- The parity of a physical zone's staged half-rows is dropped; its accumulators' buffers are free (R382). -/
def dropParity (s : State) (pzn : Nat) : State :=
  let mine := s.sbg.accums.filter fun a => a.pzn == pzn
  let s := { s with sbg := { s.sbg with
    accums := s.sbg.accums.filter (fun a => a.pzn != pzn), parityBlocks := s.sbg.parityBlocks.filter (fun kv => kv.1 / 2 ^ 20 != pzn) } }
  forEach mine s fun s a => freeBuf s 5 a.buf idSbg

/-- A die with nothing queued. -/
def noDie : Die := ⟨[], none, none, none, [], false, false, false, false, none, 0⟩

/-- A balance is discarded with the account's last entry (R158). Log 56 (DEDUCED). -/
def closeBalances (x : Die) : Die :=
  { x with balances := x.balances.filter fun b => x.queue.any fun e => e.acct == b.acct }

/-- The queued programs of a physical zone are dropped. -/
def dropPrograms (s : State) (pzn : Nat) : State :=
  { s with sch := { s.sch with dies := spMapD noDie s.sch.dies fun _ d => closeBalances { d with
    queue := d.queue.filter fun e => match e.op with | .program p _ _ _ => p != pzn | _ => true } } }

/-- What waits for the staged half-rows of a physical zone is dropped: blocks staged for it, and its programs and closes. -/
def dropZoneWork (s : State) (pzn : Nat) : State :=
  let s := dropPrograms (dropParity s pzn) pzn
  { s with
    zrs := { s.zrs with progs := spErase s.zrs.progs pzn },
    mep := { s.mep with staged := s.mep.staged.filter fun kv => kv.1 / 2 ^ 20 != pzn } }

/-- The block-planes of a physical zone go to DIRTY (R69). -/
def dirtyZone (s : State) (pzn : Nat) (z : ZstEntry) : State :=
  forEach (zoneRecords z pzn) s fun s i =>
    let r := brtOf s i
    if r.kind = .bad then s else setBrt s i { r with cond := .dirty }

/-- An MHM fault with its record (R315, R523). -/
def mhmFault (s : State) (bit : Fld) (i : Nat) : State :=
  let bytes := brtBytes (spGet (freshBrt i) s.mhm.brt i) ++ [(spGet (freshBrt i) s.mhm.brt i).chk]
  raiseErr s bit 0x06 0 idMhm fun s =>
    [regNat s bit.addr, i, leAt bytes 0 4, leAt bytes 4 4, leAt bytes 8 4, leAt bytes 12 4]

/-- A physical zone is withdrawn: unbound, STATE Offline, in no ready list (R296). -/
def withdrawZone (s : State) (pzn : Nat) : State :=
  let s := putZst s pzn { zstOf s pzn with bound := false, state := .offline }
  let s := { s with
    zrs := { s.zrs with ready := spMod s.zrs.ready (groupOf pzn) fun l => dropAll l pzn },
    mhm := { s.mhm with withdrawn := addOnce s.mhm.withdrawn pzn } }
  mhmFault s F.mhmErr_withdrawn (listAt 0 (zoneRecords (zstOf s pzn) pzn) 0)

/-- A physical zone that its zone has left is withdrawn where a substitution in it could not be made (R290, R296). -/
def withdrawDoomed (s : State) (pzn : Nat) : State :=
  if s.mhm.doomed.contains pzn then withdrawZone { s with mhm := { s.mhm with doomed := dropAll s.mhm.doomed pzn } } pzn else s

/-- Release the binding of an EZN (R69, R71): its physical zone keeps its substitutions and goes to erase-ahead. -/
def releaseBinding (s : State) (ezn : Nat) : State :=
  match boundZone s ezn with
  | none => s
  | some (pzn, z) =>
    let s := releaseLinger (leaveCam s ezn) ezn
    let s := freeResv s ezn
    let s := dirtyZone s pzn z
    let s := dropZoneWork s pzn
    let s := putZst s pzn { freshZst with subst := z.subst }
    let s := { s with zrs := { s.zrs with cache := dropAll s.zrs.cache ezn, padReqs := spErase s.zrs.padReqs ezn } }
    withdrawDoomed (putZmap s ezn { zmapOf s ezn with pzn := 0, bound := false }) pzn

/-- The epoch floor of the namespace that holds a zone (R147). -/
def floorOf (s : State) (ezn : Nat) : Nat := match nsOfEzn s ezn with | some (_, n) => n.floor | none => 0

/-- Retire an EZN (R70). -/
def retireZone (s : State) (ezn : Nat) : State :=
  let s := releaseBinding s ezn
  zoneChanged (putZmap s ezn { zmapOf s ezn with retired := true }) ezn

/-- The epoch a Reset gives a zone (R69). -/
def nextEpoch (s : State) (ezn : Nat) : Nat := max ((zmapOf s ezn).epoch + 1) (floorOf s ezn)

/-- A Reset exhausts the zone's epoch (R70). -/
def exhausts (s : State) (ezn : Nat) : Bool :=
  (zmapOf s ezn).epoch == 0xFFFFFF || decide (0xFFFFFF < nextEpoch s ezn)

/-- A Reset cancels the relocation of its zone, whose target goes to DIRTY (R54, R286). Log 182 (DEDUCED). -/
def cancelReloc (s : State) (pzn : Nat) : State :=
  match relocOf s pzn with
  | none => s
  | some r =>
    let s := dirtyZone s r.target (zstOf s r.target)
    let s := dropZoneWork s r.target
    let s := putZst s r.target { freshZst with subst := (zstOf s r.target).subst }
    { s with mhm := { s.mhm with relocs := spErase s.mhm.relocs pzn } }

/-- Steps 2 to 6 of a Reset (R69), or the retirement of R70; the journal then takes the new state. Log 182 (DEDUCED). -/
def applyReset (s : State) (ezn : Nat) : State :=
  let s := match boundZone s ezn with | some (pzn, _) => cancelReloc s pzn | none => s
  let s := { s with mhm := { s.mhm with candidates := s.mhm.candidates.filter fun c => c.ezn != ezn } }
  if exhausts s ezn then journalZone (retireZone s ezn) ezn
  else
    let e := nextEpoch s ezn
    let s := releaseBinding s ezn
    journalZone (putZmap s ezn { zmapOf s ezn with epoch := e }) ezn

/-- The block-planes of a member whose zone ended below word line 255 take no further program before their erase (R67, R276). Log 69 (DEDUCED). -/
def partialMember (s : State) (pzn : Nat) (z : ZstEntry) (m : Nat) : State :=
  forEach (List.range 4) s fun s p =>
    let i := brtIndex (memberDie (groupOf pzn) m) p (blockFor z pzn m p)
    let r := brtOf s i
    if r.kind = .bad ∨ 256 ≤ r.wlDone then s else setBrt s i { r with cond := .written, partialFlag := true }

/-- A zone goes to Full; `byDevice` sets Zone Finished by Controller and raises Zone Descriptor Changed (R50). Its CAM entry leaves, and its
reservation once its writes are durable (R53, R73). Log 69 (DEDUCED). -/
def makeFull (s : State) (ezn : Nat) (finished byDevice : Bool) : State :=
  let s := modZone s ezn fun z => { z with state := .full, finished := z.finished || finished }
  let s := leaveCam s ezn
  let s := if (incomplete s ezn).isEmpty then freeResv s ezn else s
  let s := if byDevice then zoneChanged s ezn else s
  let s := match boundZone s ezn with
    | some (pzn, z) =>
      if 0 < z.durableHr ∧ z.wpPhys ≤ z.durableHr * hrSlots z.tier ∧ relocOf s pzn = none then
        forEach (List.range 16) s fun s m => partialMember s pzn z m
      else s
    | none => s
  journalZone s ezn

/-- Insert a padding extent in ascending START order. Log 112 (DEDUCED). -/
def insertPad (x : PadExtent) : List PadExtent → List PadExtent
  | [] => [x]
  | y :: ys => if x.start ≤ y.start then x :: y :: ys else y :: insertPad x ys

/-- The programs of a physical zone: none done. -/
def freshProg : ZoneProg := ⟨List.replicate 16 ⟨0, 0⟩, [], [], [], []⟩

def progOf (s : State) (pzn : Nat) : ZoneProg := spGet freshProg s.zrs.progs pzn

def putProg (s : State) (pzn : Nat) (p : ZoneProg) : State := { s with zrs := { s.zrs with progs := spSet freshProg s.zrs.progs pzn p } }

/-- The physical zone that takes the programs of a zone: the target of its relocation, or its own (R286). -/
def progZone (s : State) (pzn : Nat) : Nat := match relocOf s pzn with | some r => r.target | none => pzn

/-- Ask for the close of R201 at a half-row. -/
def requestClose (s : State) (pzn t : Nat) : State :=
  let pz := progZone s pzn
  let p := progOf s pz
  putProg s pz { p with closes := addOnce p.closes t }

/-- The key of a parity group's written blocks. -/
def parityKey (pzn hr v : Nat) : Nat := pzn * 2 ^ 20 + hr * 16 + v

/-- The accumulator of a group. -/
def accumOf (s : State) (pzn hr v : Nat) : Option Accum := s.sbg.accums.find? fun a => a.pzn == pzn && a.hr == hr && a.v == v

/-- The half-rows a zone's staging holds (R72). -/
def ringSlots : Tier → Nat
  | .d4 => 3
  | _ => 4

/-- The staging address of a 4 KiB place of a half-row buffer (R381): the data slots in slot order, then parity blocks 8v + c. None where the zone holds no
reservation. -/
def stageAddr (s : State) (pzn hr idx : Nat) : Option Nat :=
  let z := zstOf s pzn
  (resvOf s z.ezn).map fun kb =>
    let place := ((kb.2.zones.find? fun x => x.2 == z.ezn).map (·.1)).getD 0
    let hrBytes := 2 ^ 20 * bitsOf z.tier
    let o := (place * ringSlots z.tier + hr % ringSlots z.tier) * hrBytes + idx * 4096
    0x200000000 + listAt 0 ((spFind s.sbg.granules kb.1).getD []) (o / 2 ^ 31) * 2 ^ 31 + o % 2 ^ 31

/-- The staging address of a slot (R381). -/
def slotAddr (s : State) (pzn slot : Nat) : Option Nat :=
  let n := hrSlots (zstOf s pzn).tier
  stageAddr s pzn (slot / n) (slot % n)

/-- The address of the 32 metadata bytes of a staged block (R381). -/
def metaAddr (a : Nat) : Nat := 0x1C0000000 + (a - 0x200000000) / 4096 * 32

/-- A staged block and its metadata are written: their parity is fresh. -/
def freshStaged (s : State) : Option Nat → State
  | none => s
  | some a => freshParity (freshParity s a 4096) (metaAddr a) 32

/-- The parity blocks of a group and their metadata are written: their parity is fresh. -/
def freshGroup (s : State) (pzn hr v : Nat) : State :=
  match stageAddr s pzn hr (hrSlots (zstOf s pzn).tier + 8 * v) with
  | none => s
  | some a => freshParity (freshParity s a 32768) (metaAddr a) 256

/-- Write an accumulator to its parity blocks and free its buffer (R382). -/
def writeAccum (s : State) (a : Accum) : State :=
  let s := { s with sbg := { s.sbg with
    accums := s.sbg.accums.filter (fun x => !(x.pzn == a.pzn && x.hr == a.hr && x.v == a.v)),
    parityBlocks := spPut s.sbg.parityBlocks (parityKey a.pzn a.hr a.v) a.parts.flatten } }
  freeBuf (freshGroup s a.pzn a.hr a.v) 5 a.buf idSbg

/-- Padding begins at a slot of a group: its accumulator is written (R60, R382). -/
def writeAccumAt (s : State) (pzn : Nat) (t : Tier) (slot : Nat) : State :=
  match accumOf s pzn (slot / hrSlots t) (slot % hrSlots t / 120) with
  | some a => writeAccum s a
  | none => s

/-- Fill a zone from WP_PHYS to the end of half-row `t` (R60 to R62, R66): the extent is recorded unless four are, the last slot or a fifth
extent makes the zone Full. Log 112 (DEDUCED). -/
def fillTo (s : State) (ezn t : Nat) : State :=
  match boundZone s ezn with
  | none => s
  | some (pzn, z) =>
    let top := (t + 1) * hrSlots z.tier
    if top ≤ z.wpPhys then s
    else
      let fifth := decide (4 ≤ z.pads.length)
      let pads := if fifth then z.pads else insertPad ⟨z.wpPhys, t⟩ z.pads
      let s := writeAccumAt s (progZone s pzn) z.tier z.wpPhys
      let s := modZone s ezn fun z => { z with pads := pads, wpPhys := top, filler := z.filler + (top - z.wpPhys), padded := z.padded || !fifth }
      if (fifth || decide (zoneSlots z.tier ≤ top)) && isActiveState z.state then makeFull s ezn true true else journalZone s ezn

/-- Run a padding of R60 now; `close` asks for the close of R201 at its last half-row, `toFull` moves the zone to Full (R67). -/
def runPadding (s : State) (ezn : Nat) (close toFull : Bool) : State :=
  match boundZone s ezn with
  | none => s
  | some (pzn, z) =>
    let t := padEnd z.tier z.wpPhys
    let s := if z.wpPhys = 0 then s else fillTo s ezn t
    let p := progOf s (progZone s pzn)
    let s := if z.wpPhys = 0 ∨ (t + 1) * hrSlots z.tier ≤ z.wpPhys then s
      else putProg s (progZone s pzn) { p with padded := p.padded ++ [(z.wpPhys / hrSlots z.tier, now s)] }
    let s := if close && z.wpPhys != 0 then requestClose s pzn t else s
    if toFull && isActiveState (zoneState s ezn) then makeFull s ezn (decide (z.wpPhys < zoneSlots z.tier)) true else s

/-- Pad a zone: at once where every reserved slot is staged, else once it is (R60). Log 110 (DEDUCED). -/
def padZone (s : State) (ezn : Nat) (close toFull : Bool) : State :=
  if allStaged s ezn then runPadding { s with zrs := { s.zrs with padReqs := spErase s.zrs.padReqs ezn } } ezn close toFull
  else
    let old := spFind s.zrs.padReqs ezn
    let r : PadReq := match old with
      | some r => { r with close := r.close || close, toFull := r.toFull || toFull }
      | none => ⟨close, toFull⟩
    { s with zrs := { s.zrs with padReqs := spPut s.zrs.padReqs ezn r } }

/-- A padding that waited runs once every reserved slot is staged (R60). -/
def padIfStaged (s : State) (ezn : Nat) : State :=
  match spFind s.zrs.padReqs ezn with
  | some r => if allStaged s ezn then padZone s ezn r.close r.toFull else s
  | none => s

/-- The device closes an Implicitly Opened zone whose context another zone needs: to Closed, written or not (R50, R51). -/
def closeForRoom (s : State) (ezn : Nat) : State :=
  journalZone (leaveCam (modZone s ezn fun z => { z with state := .closed }) ezn) ezn

/-- A zone closes (R53): to Closed, or to Empty where no slot was written (R50). -/
def closeZone (s : State) (ezn : Nat) : State :=
  match boundZone s ezn with
  | none => s
  | some (_, z) =>
    if z.wpPhys = 0 then journalZone (releaseBinding s ezn) ezn else closeForRoom s ezn

/-- The Implicitly Opened zone least recently written among those a test keeps (R51). -/
def lruOpen (s : State) (p : Nat → CamEntry → Bool) : Option Nat :=
  let cs := s.zrs.cam.filter fun kv => p kv.1 kv.2 && zoneState s kv.1 == .implicitlyOpened
  match cs with
  | [] => none
  | c :: cs => some (cs.foldl (fun (a : Nat × CamEntry) kv => if kv.2.lastWrite < a.2.lastWrite then kv else a) c).1

end Sys2Proof.Machine
end

