-- ==== Sys2Proof/Machine/Queue.lean ====
section
/-!
DEFINITION. Die queues (R154 to R159) and the order of programs (R199 to R202): which entries a queue holds, when an entry is ready, the
deadline and class it carries, and the balances.
-/

namespace Sys2Proof.Machine

open Sys2Proof

def dieOf (s : State) (d : Nat) : Die := spGet noDie s.sch.dies d

def putDie (s : State) (d : Nat) (x : Die) : State := { s with sch := { s.sch with dies := spSet noDie s.sch.dies d x } }

/-- The account of a zone's programs: the function its namespace is attached to, else the device (R159). -/
def acctOfEzn (s : State) (ezn : Nat) : Acct :=
  match nsOfEzn s ezn with
  | some (_, n) => match n.attached with | some f => .func f | none => .device
  | none => .device

/-- A read entry; a program entry; an erase entry. -/
def isReadEntry (e : DieEntry) : Bool :=
  match e.op with
  | .sense _ | .stepSense _ _ | .probe _ | .survey _ _ => true
  | _ => false

def isProgramEntry (e : DieEntry) : Bool :=
  match e.op with
  | .program _ _ _ _ => true
  | _ => false

/-- An entry that may use entries 56 to 63 of a queue: of a Read or Verify of class Proof or Print (R154). Log 28 (DEDUCED). -/
def privileged (e : DieEntry) : Bool :=
  isReadEntry e && e.acct != .device && (e.cls == .proof || e.cls == .print)

/-- The entries that hold a place, in their order: 64 places, of which others than Proof and Print reads take at most 56; `p` and `o` count the places
taken. -/
def placesFrom : (p o : Nat) → List DieEntry → List DieEntry
  | _, _, [] => []
  | p, o, e :: es =>
    if privileged e then (if p + o < 64 then e :: placesFrom (p + 1) o es else placesFrom p o es)
    else if o + (p - 8) < 56 then e :: placesFrom p (o + 1) es else placesFrom p o es

/-- The entries of a die queue (R154). What the ladder, a REBUILD, a probe or a scan queues waits for a place where the queue is full. Log 28 (DEDUCED). -/
def placed (x : Die) : List DieEntry := placesFrom 0 0 x.queue

/-- A queue has a free entry of the right kind: Proof and Print reads take the last eight places first, and an entry leaves its place at its issue (R154). Log 28 (DEDUCED). -/
def queueRoom (x : Die) (priv : Bool) : Bool :=
  let p := (x.queue.filter privileged).length
  let o := x.queue.length - p
  if priv then decide (x.queue.length < 64) else decide (o + (p - 8) < 56)

/-- The free places of a queue for entries that are not privileged. Log 28 (DEDUCED). -/
def queueSpare (x : Die) : Nat :=
  let p := (x.queue.filter privileged).length
  56 - ((x.queue.length - p) + (p - 8))

/-- A balance starts at 0 with the account's first entry (R158). Log 56 (DEDUCED). -/
def openBalance (bs : List Balance) (a : Acct) : List Balance :=
  if bs.any (fun b => b.acct == a) then bs else bs ++ [⟨a, 0⟩]

/-- Put an entry into a die's queue; SCH asks for the bay of its die, unless that bay has failed (R163, R194). -/
def enqueue (s : State) (d : Nat) (e : DieEntry) : State :=
  let x := dieOf s d
  let e := { e with order := s.sch.nextOrder }
  let s := { s with sch := { s.sch with nextOrder := s.sch.nextOrder + 1 } }
  let s := putDie s d { x with queue := x.queue ++ [e], balances := openBalance x.balances e.acct }
  if bayOn s (dieBay d) || (bayOf s (dieBay d)).phase == .failed then s else requestBay s (dieBay d)

/-- Drop from every queue the entries a test names. -/
def dropEntries (s : State) (p : DieEntry → Bool) : State :=
  { s with sch := { s.sch with dies := spMapD noDie s.sch.dies fun _ x => closeBalances { x with queue := x.queue.filter fun e => !p e } } }

/-- The next program of a member in the order of R200 and R201: its half-row and pass. -/
def nextProgram (t : Tier) (p : ZoneProg) (m : Nat) : Option (Nat × Pass) :=
  let x := listAt ⟨0, 0⟩ p.members m
  match t with
  | .d4 => if x.coarse < 512 then some (x.coarse, .single) else none
  | _ =>
    let h := x.coarse - 1
    if x.coarse = 0 then some (0, .coarse)
    else if 2 ≤ h ∧ x.fine ≤ h - 2 then some (x.fine, .fine)
    else if (h = 511 ∨ h ∈ p.closes) ∧ x.fine ≤ h then some (x.fine, .fine)
    else if x.coarse < 512 then some (x.coarse, .coarse)
    else none

/-- Half-rows final on a member (R55). -/
def finalOn (t : Tier) (p : ZoneProg) (m : Nat) : Nat :=
  let x := listAt ⟨0, 0⟩ p.members m
  match t with
  | .d4 => x.coarse
  | _ => x.fine

/-- A slot of a physical zone holds filler: it lies in an extent, or above the host offsets that count (R62, R324). -/
def slotFiller (z : ZstEntry) (slot : Nat) : Bool :=
  isFiller z.tier z.pads slot || decide (z.wpHost ≤ offsetOfSlot z.tier z.pads slot)

/-- The staging key of a slot. -/
def stageKey (pzn slot : Nat) : Nat := pzn * 2 ^ 20 + slot

/-- A slot's data is staged, or it needs none. -/
def slotStaged (s : State) (pzn : Nat) (z : ZstEntry) (slot : Nat) : Bool :=
  slotFiller z slot || (spFind s.mep.staged (stageKey pzn slot)).isSome

/-- The data slots of one parity group (half-row, v) in ascending order (R382). -/
def groupSlots (t : Tier) (hr v : Nat) : List Nat := (List.range 120).map fun i => hr * hrSlots t + v * 120 + i

/-- The data slots of a half-row on a data member. -/
def memberSlots (t : Tier) (pzn hr m : Nat) : List Nat :=
  (List.range (2 * bitsOf t)).flatMap fun v => (List.range 8).map fun c => slotAt t pzn hr (v % 2) (v / 2) c m

/-- A parity group has been written, or holds only filler (R382). -/
def groupWritten (s : State) (pzn : Nat) (z : ZstEntry) (hr v : Nat) : Bool :=
  let slots := groupSlots z.tier hr v
  slots.all (slotFiller z) ||
    (slots.all (slotStaged s pzn z) && (spFind s.sbg.parityBlocks (parityKey pzn hr v)).isSome &&
      !(s.sbg.accums.any fun a => a.pzn == pzn && a.hr == hr && a.v == v))

/-- The data a member programs at a half-row is staged: every slot is reserved and staged or filler; the parity member's share is
written (R200, R382). -/
def halfRowStaged (s : State) (pzn : Nat) (z : ZstEntry) (hr m : Nat) : Bool :=
  decide ((hr + 1) * hrSlots z.tier ≤ z.wpPhys) &&
    (if m = parityMember pzn then (List.range (2 * bitsOf z.tier)).all (groupWritten s pzn z hr)
     else (memberSlots z.tier pzn hr m).all (slotStaged s pzn z))

/-- Writes of a zone with a slot in half-rows up to `hr`; `only` keeps those with a slot in `hr` itself. -/
def writesUpTo (s : State) (ezn : Nat) (t : Tier) (hr : Nat) (only : Bool) : List CmdSlot :=
  ((incomplete s ezn).map (·.2)).filter fun c =>
    decide (c.firstSlot < (hr + 1) * hrSlots t) && (!only || decide (hr * hrSlots t < c.firstSlot + c.blocks))

/-- The earliest deadline of some commands with its class. -/
def earliest : List CmdSlot → Option (Nat × Cls)
  | [] => none
  | c :: cs => match earliest cs with
    | none => some (c.deadline, c.cls)
    | some (d, k) => if c.deadline ≤ d then some (c.deadline, c.cls) else some (d, k)

/-- The moment the padding started that filled a half-row. -/
def padMoment (p : ZoneProg) (hr : Nat) : Nat := ((p.padded.filter fun x => decide (x.1 ≤ hr)).getLast?.map (·.2)).getD 0

/-- The deadline and class of the appends with slots in a half-row: the earliest, where there are some (R156). -/
def appendDeadline (s : State) (pzn hr : Nat) : Option (Nat × Cls) :=
  earliest (writesUpTo s (zstOf s pzn).ezn (zstOf s pzn).tier hr true)

/-- The deadline and class of a half-row with filler only (R156). -/
def fillerDeadline (s : State) (pzn hr : Nat) : Nat × Cls :=
  match earliest (writesUpTo s (zstOf s pzn).ezn (zstOf s pzn).tier hr false) with
  | some x => x
  | none => (padMoment (progOf s pzn) hr, .vault)

/-- A physical zone is the target of a relocation. -/
def isTarget (s : State) (pzn : Nat) : Bool := s.mhm.relocs.any fun kv => kv.2.target == pzn

/-- The deadline and class an entry carries (R155, R156); a program of a relocation that holds no host append carries those the firmware gave. -/
def entryDeadline (s : State) (e : DieEntry) : Nat × Cls :=
  match e.op with
  | .program pzn hr _ _ => (match appendDeadline s pzn hr with
    | some x => x
    | none => if isTarget s pzn then (e.deadline, e.cls) else fillerDeadline s pzn hr)
  | _ => (e.deadline, e.cls)

/-- A program entry for a member at a half-row is queued, running or suspended. -/
def programHeld (s : State) (d pzn hr : Nat) (pass : Pass) : Bool :=
  let x := dieOf s d
  let is := fun (e : DieEntry) => match e.op with
    | .program p h _ q => p == pzn && h == hr && q == pass
    | _ => false
  x.queue.any is || (match x.current with | some r => is r.entry | none => false) ||
    (match x.suspended with | some r => is r.entry | none => false)

/-- The first pass of a tier. -/
def firstPass : Tier → Pass
  | .d4 => .single
  | _ => .coarse

/-- Queue a program entry, charged to the zone's account, or, where it copies for a relocation only, to the device (R158, R159). -/
def queueProgram (s : State) (pzn hr m : Nat) (pass : Pass) : State :=
  let z := zstOf s pzn
  let d := memberDie (groupOf pzn) m
  let reloc := s.mhm.relocs.find? fun kv => kv.2.target == pzn
  let copies := (appendDeadline s pzn hr).isNone
  let e : DieEntry := match if copies then reloc else none with
    | some (_, r) => ⟨.program pzn hr m pass, z.tier, .device, r.cls, r.deadline, 0, false⟩
    | none => ⟨.program pzn hr m pass, z.tier, acctOfEzn s z.ezn, .vault, 0, 0, false⟩
  enqueue s d e

/-- Queue the next program of a member where its half-row is wholly reserved and the queue has room. -/
def topUp (s : State) (pzn m : Nat) : State :=
  let z := zstOf s pzn
  let p := progOf s pzn
  let d := memberDie (groupOf pzn) m
  match nextProgram z.tier p m with
  | none => s
  | some (hr, pass) =>
    if z.bound && (relocOf s pzn).isNone && decide ((hr + 1) * hrSlots z.tier ≤ z.wpPhys) && !programHeld s d pzn hr pass && queueRoom (dieOf s d) false then
      queueProgram s pzn hr m pass
    else s

/-- Queue what the members of a physical zone program next. -/
def topUpZone (s : State) (pzn : Nat) : State := forEach (List.range 16) s fun s m => topUp s pzn m

/-- Queue what the zones of a die program next, where its queue has room again. -/
def topUpDie (s : State) (d : Nat) : State :=
  forEach (s.zrs.zst.filter fun kv => kv.2.bound && groupOf kv.1 == dieGroup d) s fun s kv => topUp s kv.1 (dieMember d)

/-- The (half-row, member) pairs an append of `n` slots from `first` reaches. -/
def reach (t : Tier) (pzn first n : Nat) : List (Nat × Nat) :=
  (List.range n).foldl (fun a i => let x := stitch t pzn (first + i); addOnce a (x.hr, x.member)) []

/-- The program entries an append needs that are not yet queued, as (half-row, member). -/
def missingPrograms (s : State) (t : Tier) (pzn first n : Nat) : List (Nat × Nat) :=
  let p := progOf s pzn
  (reach t pzn first n).filter fun hm =>
    decide ((listAt ⟨0, 0⟩ p.members hm.2).coarse ≤ hm.1) && !programHeld s (memberDie (groupOf pzn) hm.2) pzn hm.1 (firstPass t)

/-- Every die an append needs entries on has room for them (R154). -/
def programRoom (s : State) (pzn : Nat) (need : List (Nat × Nat)) : Bool :=
  need.all fun hm =>
    decide ((need.filter fun x => x.2 == hm.2).length ≤ queueSpare (dieOf s (memberDie (groupOf pzn) hm.2)))

end Sys2Proof.Machine
end

