-- ==== Sys2Proof/Machine/Forward.lean ====
section
/-!
DEFINITION. The leader's side of work across a cascade (R559, R560, R562): a command for a zone on another device leaves as CMD_FWD, and
administration leaves as ADMIN to the members concerned.
-/

namespace Sys2Proof.Machine

open Sys2Proof

/-- A submission entry as its 64 bytes; fields the device does not read are zero. -/
def sqeBytes (q : Sqe) : List Byte :=
  [q.opc, 0] ++ leBytes 2 q.cid ++ leBytes 4 q.nsid ++ List.replicate 32 0 ++
    leBytes 4 q.cdw10.toNat ++ leBytes 4 q.cdw11.toNat ++ leBytes 4 q.cdw12.toNat ++ leBytes 4 q.cdw13.toNat ++
    leBytes 4 q.cdw14.toNat ++ leBytes 4 q.cdw15.toNat

/-- A tag for a request of this device. -/
def takeTag (s : State) : Nat × State := (s.slk.nextTag, { s with slk := { s.slk with nextTag := (s.slk.nextTag + 1) % 2 ^ 32 } })

/-- The leader wakes a departed member (R562, R564): its transmitter leaves electrical idle, and the 60 s of the rejoin begin. -/
def wakePeer (s : State) (d : Nat) : State :=
  let p := peerOf s d
  if p.cond == .departed && p.wakeAt.isNone then
    emit (putPeer s d { p with wakeAt := some s.clk.us }) (.note "peer wake" d)
  else s

/-- The body of CMD_FWD (R559): the entry, function, tenant, local EZN, offset, class and REMAIN. Log 17 (DEDUCED). -/
def fwdBody (s : State) (c : CmdSlot) : List Byte :=
  sqeBytes c.sqe ++ leBytes 2 c.func ++ leBytes 2 (c.nsid - 1) ++ leBytes 4 c.ezn ++ leBytes 4 c.offset ++ leBytes 1 (clsNum c.cls) ++
    leBytes 4 (c.deadline - now s)

/-- Forward a command to the member its zone lies on (R559, R565): a lost or unjoined member ends it, a removed member's zones are seen as
Offline by `removed`, a departed one is woken and the command waits in its slot. -/
def forwardCmd (s : State) (n d : Nat) (c : CmdSlot) (removed : Status) : State :=
  match (peerOf s d).cond with
  | .live =>
    let (tag, s) := takeTag s
    let s := putSlot s n { c with phase := .waitMembers }
    let s := { s with slk := { s.slk with sentTags := spPut s.slk.sentTags tag n } }
    slkSend s d 0x10 tag (fwdBody s c)
  | .departed => wakePeer s d
  | .removed => finish s n removed
  | _ => finish s n .cascadeMemberLost

/-- The tag of the request sent for a slot. -/
def tagOf (s : State) (n : Nat) : Option Nat := (s.slk.sentTags.find? fun kv => kv.2 == n).map (·.1)

/-- One block of write data to a member: 4,096 bytes and their ICRC (R555, R559); a block that could not be fetched goes with an ICRC it does not
match, so that the member fails it. Log 159 (DEDUCED). -/
def sendWrData (s : State) (n d : Nat) (bytes : List Byte) (bad : Bool) : State :=
  match tagOf s n with
  | none => s
  | some tag =>
    let crc := crc32c bytes
    slkSend s d 0x11 tag (bytes ++ leBytes 4 (if bad then ~~~ crc else crc).toNat)

/-- The devices of a cascade that hold zones of a range of cascade zone numbers, this one left out. -/
def membersOf (s : State) (base count : Nat) : List Nat :=
  if isMember s || standalone s then []
  else (List.range 16).filter fun d =>
    d != devId s && decide (base < (d + 1) * exposedZones s ∧ d * exposedZones s < base + count)

/-- Joined members: LIVE or DEPARTED (R564). Log 38 (DEDUCED). -/
def joined (s : State) : List Nat :=
  (s.slk.peers.filter fun kv => kv.2.cond == .live || kv.2.cond == .departed).map (·.1)

/-- Members to which administration is to go that have departed: each is woken, and the command waits for them (R562). -/
def wakeFirst (s : State) (ds : List Nat) (go : State → State) : State :=
  let away := ds.filter fun d => (peerOf s d).cond == .departed
  if away.isEmpty then go s else forEach away s wakePeer

/-- Send ADMIN to members for a command, which then waits for every ADMIN_CPL (R560). Log 162 (DEDUCED). -/
def sendAdmin (s : State) (n : Nat) (ds : List Nat) (body : List Byte) : State :=
  let live := ds.filter (peerLive s)
  let s := forEach live s fun s d =>
    let (tag, s) := takeTag s
    slkSend { s with slk := { s.slk with sentTags := spPut s.slk.sentTags tag n } } d 0x20 tag body
  if live.isEmpty then s
  else { s with slk := { s.slk with adminWaits := spPut s.slk.adminWaits n ((spFind s.slk.adminWaits n).getD [] ++ live) } }

/-- ADMIN that no command waits for, to the members that hold zones of a namespace (R560). Log 190 (DESIGN CHOICE). -/
def tellMembers (s : State) (n : Namespace) (body : List Byte) : State :=
  forEach ((membersOf s n.base n.count).filter (peerLive s)) s fun s d =>
    let (tag, s) := takeTag s
    slkSend s d 0x20 tag body

/-- The leader forwards an accepted PMU request to every joined member that has not departed as ADMIN, kind 1 and the request's code (R562). -/
def forwardPmu (s : State) (r : PmuReq) : State :=
  if standalone s || !flag s F.slkLeader_isLeader || r == .wake then s
  else forEach ((joined s).filter (peerLive s)) s fun s d => slkSend s d 0x20 0 (leBytes 1 1 ++ leBytes 1 (reqCode r))

/-- A command waits for no ADMIN_CPL. -/
def adminDone (s : State) (n : Nat) : Bool := (spFind s.slk.adminWaits n).isNone

/-- A state record of the leader to every member that may succeed it (R560). Log 38 (DEDUCED). -/
def mirror (s : State) (body : List Byte) : State :=
  if standalone s || isMember s then s else forEach ((joined s).filter (peerLive s)) s fun s d => slkSend s d 0x22 0 body

end Sys2Proof.Machine
end

