-- ==== Sys2Proof/Machine/MhmBase.lean ====
section
/-!
DEFINITION. What the read channel and the channel sequencers tell media health: refresh candidates (R284), faults (R315), record updates
(R277, R278), sense counts (R281), and the counts per die of R228 and R269.
-/

namespace Sys2Proof.Machine

open Sys2Proof

/-- Priority of a refresh cause (R284). -/
def causeRank : RefreshCause → Nat
  | .evacuate => 1
  | .substFull => 2
  | .bayLoss => 3
  | .rebuilt => 4
  | .step | .corr => 5
  | .disturb => 6
  | .unknownAge => 7
  | .age => 8
  | .coldProg => 9
  | .wear => 10

/-- Causes 1 to 3 apply to every non-Empty zone that is not Offline, the others to Full and Closed zones (R284). -/
def causeApplies (c : RefreshCause) (st : ZoneState) : Bool :=
  if causeRank c ≤ 3 then st != .empty && st != .offline else st == .full || st == .closed

/-- Queue a refresh candidate: once per zone, under its highest-priority cause (R284). -/
def queueCandidate (s : State) (ezn : Nat) (c : RefreshCause) : State :=
  let put := { s with mhm := { s.mhm with
    candidates := (s.mhm.candidates.filter fun x => x.ezn != ezn) ++ [⟨ezn, c, s.mhm.nextOrder⟩], nextOrder := s.mhm.nextOrder + 1 } }
  if !causeApplies c (zoneState s ezn) then s
  else
    match s.mhm.candidates.find? (fun x => x.ezn == ezn) with
    | some old => if causeRank c < causeRank old.cause then put else s
    | none => put

/-- A record whose CHK does not match on a load is held until firmware rewrites it (R277). -/
def holdRecord (s : State) (i : Nat) : State :=
  mhmFault { s with mhm := { s.mhm with brtHeld := addOnce s.mhm.brtHeld i } } F.mhmErr_brtChk i

/-- A record is loaded, and `bad` says that its CHK is found not to match (R277). -/
def checkBrt (s : State) (i : Nat) (bad : Bool) : State := if bad || !brtGood s i then holdRecord s i else s

/-- Counts that cannot be written stay in the accumulator (R277). -/
def keepCounts (s : State) (i n : Nat) : State :=
  let old := ((s.mhm.acc.find? fun x => x.1 == i).map (·.2)).getD 0
  { s with mhm := { s.mhm with acc := (s.mhm.acc.filter fun x => x.1 != i) ++ [(i, min 1023 (old + n))] } }

/-- Apply a request of the update queue (R276 to R278). Counts of a held record stay in the accumulator. -/
def applyUpdate (s : State) (u : BrtUpdate) : State :=
  match u with
  | .write i r => { setBrt s i r with mhm := { (setBrt s i r).mhm with brtHeld := dropAll s.mhm.brtHeld i } }
  | .addReads i n =>
    let s := checkBrt s i false
    if s.mhm.brtHeld.contains i then keepCounts s i n
    else
      let r := spGet (freshBrt i) s.mhm.brt i
      setBrt s i { r with reads := min (r.reads + n) 0xFFFFFF }

/-- Apply every request that waits, in arrival order. -/
def applyUpdates (s : State) : State :=
  forEach s.mhm.updateQ { s with mhm := { s.mhm with updateQ := [] } } applyUpdate

/-- A request of MHM's own enters the update queue; a full queue is served first. Log 65 (DEDUCED). -/
def pushUpdate (s : State) (u : BrtUpdate) : State :=
  let s := if 256 ≤ s.mhm.updateQ.length then applyUpdates s else s
  { s with mhm := { s.mhm with updateQ := s.mhm.updateQ ++ [u] } }

/-- Count a sense of a block-plane in the accumulator, which holds 4,096 entries of 10 bits, least recently used first (R281). -/
def countSense (s : State) (i : Nat) : State :=
  let n := match s.mhm.acc.find? (fun x => x.1 == i) with
    | some x => x.2 + 1
    | none => 1
  let rest := s.mhm.acc.filter fun x => x.1 != i
  if 1023 ≤ n then pushUpdate { s with mhm := { s.mhm with acc := rest } } (.addReads i n)
  else
    match rest with
    | x :: xs =>
      if 4096 ≤ rest.length then pushUpdate { s with mhm := { s.mhm with acc := xs ++ [(i, n)] } } (.addReads x.1 x.2)
      else { s with mhm := { s.mhm with acc := rest ++ [(i, n)] } }
    | [] => { s with mhm := { s.mhm with acc := [(i, n)] } }

/-- Write every entry of the accumulator to its record through the update queue (R281). -/
def flushAcc (s : State) : State :=
  let es := s.mhm.acc
  forEach es { s with mhm := { s.mhm with acc := [] } } fun s x => pushUpdate s (.addReads x.1 x.2)

/-- No counts. -/
def noCounts : DieCounts := ⟨0, 0, 0, 0, 0, 0, 0, 0, 0, 0, 0, 0, 0, 0, 0, 0, 0, 0⟩

/-- Advance the counts of a die in this epoch (R228, R269). -/
def countDie (s : State) (d : Nat) (f : DieCounts → DieCounts) : State :=
  { s with rch := { s.rch with live := spSet noCounts s.rch.live d (f (spGet noCounts s.rch.live d)) } }

/-- A channel fault with its record (R212, R523). -/
def fchFault (s : State) (bit : Nat → Fld) (d row : Nat) : State :=
  let c := dieChannel d
  raiseErr s (bit c) 0x03 c (idCs (c / 4)) fun s =>
    [regNat s (bit c).addr, c, diePos d, regNat s (F.fchDieStat_state c (diePos d)).addr, row]

/-- The STATE of a die (R214). -/
def setDieStat (s : State) (d st : Nat) : State := setF s (F.fchDieStat_state (dieChannel d) (diePos d)) st

end Sys2Proof.Machine
end

