-- ==== Sys2Proof/Machine/Bus.lean ====
section
/-!
DEFINITION. When a die descriptor is valid (R188), and what a channel sequencer puts on its channel (R182, R186, R187, R191, R197, R199, R205): the pins,
and the cycles of the operations as the descriptor spells them.
-/

namespace Sys2Proof.Machine

open Sys2Proof

/-- Bits and width of the row fields of a descriptor (R188): bit-page, word line, plane, block, LUN. -/
def rowFields (bs : List Byte) : List (Nat × Nat) :=
  [(leAt bs 0x21 1, 3), (leAt bs 0x22 1, 8), (leAt bs 0x23 1, 2), (leAt bs 0x24 1, 13), (leAt bs 0x25 1, 2)]

/-- Two row fields share no bit. -/
def apart (a b : Nat × Nat) : Bool := decide (a.1 + a.2 ≤ b.1 ∨ b.1 + b.2 ≤ a.1)

/-- The fields of a list share no bit pairwise. -/
def allApart : List (Nat × Nat) → Bool
  | [] => true
  | x :: xs => xs.all (apart x) && allApart xs

/-- The rates of R182. -/
def ioRates : List Nat := [3600, 3200, 2400, 1600, 1200, 800]

/-- An opcode entry of a descriptor is present (R186). -/
def opPresent (bs : List Byte) (i : Nat) : Bool := leAt bs (0x70 + 4 * i) 4 != 0

/-- A descriptor's CRC matches (R185). -/
def bytesCrcGood (bs : List Byte) : Bool := leAt bs 0xFC 4 == (crc32c (bs.take 252)).toNat

/-- The conditions of R188 on 256 bytes but for the CRC. -/
def bytesFit (bs : List Byte) : Bool :=
  let d := leAt bs
  let within := fun (off n lo hi : Nat) => decide (lo ≤ d off n ∧ d off n ≤ hi)
  let tiers := d 0x1C 1
  d 0 4 == 0x64084444 && d 4 2 == 1 && d 6 2 == 256 && d 0x10 1 == 4 && d 0x14 2 == 256 && d 0x16 2 == 4096 &&
  within 0x11 1 1 4 && within 0x12 1 1 4 && within 0x13 1 0 64 && within 0x18 4 40960 49152 && within 0x20 1 3 5 && ioRates.contains (d 0x1E 2) &&
  (rowFields bs).all (fun f => decide (f.1 + f.2 ≤ 8 * d 0x20 1)) && allApart (rowFields bs) &&
  within 0x48 2 0 145 && within 0x4A 2 0 145 && within 0x50 2 0 5000 &&
  [0x30, 0x34, 0x38, 0x3C, 0x40, 0x44].all (fun o => decide (d o 2 ≤ d (o + 2) 2)) &&
  [0, 6, 7, 8, 9, 10, 11, 12].all (opPresent bs) && opPresent bs (if bitAt (d 0xB4 1) 7 then 1 else 2) &&
  (!bitAt tiers 0 || opPresent bs 3) && (!(bitAt tiers 1 || bitAt tiers 2) || (opPresent bs 4 && opPresent bs 5))

/-- The CRC of the descriptor a bay holds matches. -/
def descCrcGood (s : State) (bay k : Nat) : Bool := bytesCrcGood (descBytes s bay k)

/-- The descriptor a bay holds meets the other conditions of R188. -/
def descFits (s : State) (bay k : Nat) : Bool := bytesFit (descBytes s bay k)

/-- A descriptor is valid (R188). -/
def descValid (s : State) (bay k : Nat) : Bool := descCrcGood s bay k && descFits s bay k

/-- The valid descriptors of a bay. -/
def validDescs (s : State) (bay : Nat) : List Nat := (List.range 8).filter (descValid s bay)

/-- The pins of a channel whose bay was never powered. -/
def noPads : ChanPads := ⟨.unpowered, 0, false, false⟩

def padsOf (s : State) (c : Nat) : ChanPads := spGet noPads s.pins.chans c

/-- The level a clamp holds a pin at (R197). -/
def clampLevel : ChanPin → Bool
  | .ceN _ | .weN | .reT | .dqsC => true
  | .wpN | .cle | .ale | .reC | .dqsT | .dq _ => false

/-- The level of a pin of a channel: none where nothing drives it, or where it follows the traffic. -/
def pinLevel (p : ChanPads) (x : ChanPin) : Option Bool :=
  match p.drive, x with
  | .unpowered, _ => none
  | .clamped, x => some (clampLevel x)
  | .driven, .ceN e => some (bitAt p.ceN e)
  | .driven, .wpN => some p.wpN
  | .driven, _ => none

/-- The pins of a channel change. Log 195 (PRESUMED). -/
def setPads (s : State) (c : Nat) (p : ChanPads) : State :=
  if padsOf s c = p then s
  else emit { s with pins := { s.pins with chans := spSet noPads s.pins.chans c p } } (.pads c p)

/-- The clamps hold the pins of a channel (R197). -/
def clampPads (s : State) (c : Nat) : State := setPads s c ⟨.clamped, 15, false, false⟩

/-- The channel logic drives the pins: every CE_N high, WP_N low, SDR mode (R192 step 4). -/
def releasePads (s : State) (c : Nat) : State := setPads s c ⟨.driven, 15, false, false⟩

/-- WP_N low and every CE_N high (R195, R209). -/
def protectPads (s : State) (c : Nat) : State := setPads s c { padsOf s c with ceN := 15, wpN := false }

/-- The channel is trained: NV-LP4 selected, WP_N high (R192 step 7). -/
def readyPads (s : State) (c : Nat) : State := setPads s c ⟨.driven, 15, true, true⟩

/-- The rail of a channel's pins is absent (R197). -/
def unpowerPads (s : State) (c : Nat) : State := setPads s c noPads

/-- The channels of a bay. -/
def bayChannels (b : Nat) : List Nat := (List.range 16).map (16 * b + ·)

/-- The target of a die is selected: its CE_N is low, those of the channel's other targets are high (R199). -/
def selectDie (s : State) (d : Nat) : State :=
  setPads s (dieChannel d) { padsOf s (dieChannel d) with ceN := 15 - 2 ^ (diePos d / 4) }

/-- A byte of an opcode entry: PFX, CMD1, CMD2, flags (R186). -/
def opByte (s : State) (d i k : Nat) : Nat := dieF s d (0x70 + 4 * i + k) 1

/-- An opcode entry of a die is present. -/
def opHere (s : State) (d i : Nat) : Bool := dieF s d (0x70 + 4 * i) 4 != 0

/-- A cycle on a die's channel. -/
def cycle (s : State) (d : Nat) (x : DieCmd) : State := emit s (.die d x)

/-- PFX of an entry where it is valid; CMD1; CMD2 where it is valid (R186). -/
def sendPfx (s : State) (d i : Nat) : State := if bitAt (opByte s d i 3) 7 then cycle s d (.command (opByte s d i 0)) else s
def sendCmd1 (s : State) (d i : Nat) : State := cycle s d (.command (opByte s d i 1))
def sendCmd2 (s : State) (d i : Nat) : State := if bitAt (opByte s d i 3) 6 then cycle s d (.command (opByte s d i 2)) else s

/-- The parameter bytes an entry takes, of which the spec gives the first (R186, R187). -/
def sendParam (s : State) (d i : Nat) (code : Int) : State :=
  cycle s d (.parameter (bytesAt [BitVec.ofInt 8 code] 0 (opByte s d i 3 % 16)))

/-- A row address in ROW_BYTES cycles (R191). -/
def rowBytes (s : State) (d row : Nat) : List Byte := leBytes (dieF s d 0x20 1) row

/-- The column address 0 and a row address. -/
def fullAddr (s : State) (d row : Nat) : List Byte := [0, 0] ++ rowBytes s d row

/-- The tier prefix of an operation; an absent one sends nothing (R186). -/
def sendTier (s : State) (d : Nat) (t : Tier) : State := if opHere s d (13 + tierNum t) then sendCmd1 s d (13 + tierNum t) else s

/-- SOFT_METHOD of a die (R187). -/
def softMethod (s : State) (d : Nat) : Bool := bitAt (dieF s d 0xB4 1) 7

/-- OFFSET_SET of a LUN: CMD1, the feature address in CMD2, and the parameters (R186, R187). -/
def sendOffset (s : State) (d : Nat) (code : Int) : State :=
  let s := cycle (sendCmd1 (sendPfx s d 2) d 2) d (.address [BitVec.ofNat 8 (opByte s d 2 2)])
  putDie (sendParam s d 2 code) d { dieOf s d with offset := code }

/-- Without SOFT_SENSE, a LUN whose offset is set takes OFFSET_SET with 0 before another sense, and an offset sense sets its own (R187). -/
def sendOffsets (s : State) (d : Nat) (soft : Bool) (code : Int) : State :=
  let s := if (dieOf s d).offset = 0 then s else sendOffset s d 0
  if soft then sendOffset s d code else s

/-- A sense command, counted on its block-plane (R186, R187, R191, R229, R234, R281). Log 195 (PRESUMED). -/
def sendSense (s : State) (d : Nat) (t : Tier) (x : SenseStep) : State :=
  let soft := x.soft || x.code != 0
  let bySense := softMethod s d
  let s := selectDie (countSense s (brtIndex d x.plane x.block)) d
  let s := if bySense then s else sendOffsets s d soft x.code
  let i := b2n (bySense && soft)
  let s := sendCmd1 (sendPfx (sendTier s d t) d i) d i
  let s := cycle s d (.address (fullAddr s d (rowAddr s d x.plane x.block x.wl x.bp)))
  sendCmd2 (if bySense && soft then sendParam s d i x.code else s) d i

/-- The opcode entry of a pass (R186). -/
def passEntry : Pass → Nat
  | .single => 3
  | .coarse => 4
  | .fine => 5

/-- The planes of an erase: ERASE CMD1 and the row address of each, which CHAIN CMD2, or on the last ERASE CMD2, ends (R205). -/
def sendPlanes (d : Nat) : List (Nat × Nat) → State → State
  | [], s => s
  | pb :: rest, s =>
    let s := cycle (sendCmd1 s d 7) d (.address (rowBytes s d (rowAddr s d pb.1 pb.2 0 0)))
    sendPlanes d rest (sendCmd2 s d (if rest.isEmpty then 7 else 6))

/-- An erase of blocks, one a plane, in a tier (R205): the tier's prefix, then the planes in order. Log 195 (PRESUMED). -/
def sendErase (s : State) (d : Nat) (t : Tier) (bs : List (Nat × Nat)) : State :=
  sendPlanes d bs (sendPfx (sendTier (selectDie s d) d t) d 7)

/-- A command of one entry on the LUN of a die, by a row address of it: a status poll, a suspend or a resume (R181, R183, R207, R208). -/
def sendLun (s : State) (d i row : Nat) : State :=
  cycle (sendCmd1 (sendPfx (selectDie s d) d i) d i) d (.address (rowBytes s d row))

/-- RESET LUN after a timeout (R206). -/
def sendResetLun (s : State) (d row : Nat) : State := cycle (selectDie s d) d (.resetLun (rowBytes s d row))

/-- The interface of a die is selected, with its drive strength and termination, and read back (R182, R192). Log 195 (PRESUMED). -/
def selectInterface (s : State) (d rate : Nat) : State :=
  let io := dieF s d 0x1D 1
  let s := cycle (cycle (selectDie s d) d (.setFeatures .driveStrength (io % 8))) d (.setFeatures .termination (io / 8 % 8))
  cycle (cycle s d (.setFeatures .interface rate)) d (.getFeatures .interface)

end Sys2Proof.Machine
end

