-- ==== Sys2Proof/Machine/Ldpc.lean ====
section
/-!
DEFINITION. The LDPC code (R253, R254), the hard and the soft decoder (R255, R256), the block header (R252), filler data (R203). Bits are
held in arrays by codeword bit (R251).
-/

namespace Sys2Proof.Machine

open Sys2Proof

/-- Bits of bytes, the most significant bit of each byte first (R218, R251). -/
def bitsOfBytes (bs : List Byte) : Array Bool := (bs.flatMap fun b => (List.range 8).map fun i => b.getLsbD (7 - i)).toArray

/-- Bytes of bits, `n` of them. -/
def bytesOfBits (n : Nat) (x : Array Bool) : List Byte :=
  (List.range n).map fun k => BitVec.ofNat 8 ((List.range 8).foldl (fun a i => 2 * a + b2n (x.getD (8 * k + i) false)) 0)

/-- The information entries of a block row: block column and shift (R253). -/
def infoEntries (i : Nat) : List (Nat × Nat) :=
  (List.range 129).flatMap fun j => (List.range 4).filterMap fun k =>
    if (j + 7 * k) % 26 = i then some (j, (29 * (k + 1) * j + 41 * k * k) % 256) else none

/-- Every entry of a block row (R253). -/
def rowEntries (i : Nat) : List (Nat × Nat) :=
  infoEntries i ++ (if i = 0 then [] else [(128 + i, 0)]) ++ [(129 + i, 0)]

/-- The bits a check covers: check t of block row i (R253). -/
def checkBits (i t : Nat) : List Nat := (rowEntries i).map fun e => 256 * e.1 + (t + e.2) % 256

/-- The syndrome: one bit per check. -/
def syndrome (x : Array Bool) : Array Bool :=
  ((List.range 26).flatMap fun i => (List.range 256).map fun t => (checkBits i t).foldl (fun a b => a != x.getD b false) false).toArray

/-- Unsatisfied checks. -/
def synWeight (syn : Array Bool) : Nat := syn.foldl (fun n b => if b then n + 1 else n) 0

/-- The checks of a codeword bit: block row and shift of its column. -/
def columnEntries (j : Nat) : List (Nat × Nat) :=
  if j < 129 then (List.range 4).map fun k => ((j + 7 * k) % 26, (29 * (k + 1) * j + 41 * k * k) % 256)
  else if j < 154 then [(j - 129, 0), (j - 128, 0)] else [(25, 0)]

/-- The numbers of the checks that cover a bit. -/
def bitChecks (b : Nat) : List Nat := (columnEntries (b / 256)).map fun e => 256 * e.1 + (b % 256 + 256 - e.2) % 256

/-- One iteration of bit flipping (R255). -/
def flipBits (marks : Array Bool) (x syn : Array Bool) : Array Bool :=
  ((List.range x.size).map fun b =>
    let cs := bitChecks b
    let u := (cs.filter fun c => syn.getD c false).length
    let v := x.getD b false
    if cs.length < 2 * u || (marks.getD b false && decide (cs.length ≤ 2 * u)) then !v else v).toArray

/-- Bit flipping for at most `n` iterations: the word where every check is satisfied (R255). -/
def hardRun (marks : Array Bool) : (n : Nat) → Array Bool → Option (Array Bool)
  | 0, x => if synWeight (syndrome x) = 0 then some x else none
  | n + 1, x =>
    let syn := syndrome x
    if synWeight syn = 0 then some x else hardRun marks n (flipBits marks x syn)

/-- The hard decode of a 4,960-byte word: the decided bytes and the corrected bits (R255). -/
def hardDecode (iters : Nat) (bytes : List Byte) (marks : Array Bool) : Option (List Byte × Nat) :=
  let x := bitsOfBytes bytes
  match hardRun marks iters x with
  | some y => some (bytesOfBits 4960 y, ((List.range 39680).filter fun b => x.getD b false != y.getD b false).length)
  | none => none

/-- Clamp to ±m. -/
def clampI (m v : Int) : Int := if m < v then m else if v < -m then -m else v

/-- The state of a soft decode: posteriors by bit and check-to-bit messages by check, in the order of the check's bits. -/
structure SoftState where
  q : Array Int
  r : Array (List Int)
deriving DecidableEq, Repr

/-- The messages of a check from its inputs (R256). -/
def checkMsgs (offset : Int) (ts : List Int) : List Int :=
  ts.zipIdx.map fun ti =>
    let others := (ts.zipIdx.filter fun x => x.2 != ti.2).map (·.1)
    let m := others.foldl (fun (a : Int) t => min a (Int.ofNat t.natAbs)) 127
    let neg := others.foldl (fun a t => a != decide (t < 0)) false
    let v := clampI 31 (max (m - offset) 0)
    if neg then -v else v

/-- One check updated: its t values, its new messages, its posteriors (R256). -/
def softCheck (offset : Int) (st : SoftState) (c : Nat) : SoftState :=
  let bs := checkBits (c / 256) (c % 256)
  let old := st.r.getD c []
  let ts := bs.zipIdx.map fun bi => st.q.getD bi.1 0 - (old[bi.2]?).getD 0
  let ms := checkMsgs offset ts
  let q := (List.zip bs (List.zip ts ms)).foldl (fun (q : Array Int) x => q.setIfInBounds x.1 (clampI 127 (x.2.1 + x.2.2))) st.q
  ⟨q, st.r.setIfInBounds c ms⟩

/-- One iteration: block rows 0 to 25 in order. The 256 checks of a row share no bit. -/
def softIter (offset : Int) (st : SoftState) : SoftState := (List.range 6656).foldl (softCheck offset) st

/-- The decided word. -/
def softWord (st : SoftState) : Array Bool := st.q.map fun v => decide (v < 0)

/-- At most `n` iterations: the decided word that satisfies every check (R256). -/
def softRun (offset : Int) : (n : Nat) → SoftState → Option (Array Bool)
  | 0, _ => none
  | n + 1, st =>
    let st := softIter offset st
    if synWeight (syndrome (softWord st)) = 0 then some (softWord st) else softRun offset n st

/-- The soft decode of channel LLRs (R256). -/
def softDecode (iters offset : Nat) (llr : Array Int) : Option (List Byte) :=
  (softRun offset iters ⟨llr.map (clampI 31), Array.replicate 6656 []⟩).map (bytesOfBits 4960)

/-- The parity of an information part (R254): q_i of each block row, then p_i. -/
def ldpcParity (info : List Byte) : List Byte :=
  let x := bitsOfBytes info
  let q := fun (i t : Nat) => (infoEntries i).foldl (fun a e => a != x.getD (256 * e.1 + (t + e.2) % 256) false) false
  let ps := (List.range 26).foldl (fun (acc : List Bool × List (List Bool)) i =>
    let p := List.zipWith (· != ·) ((List.range 256).map (q i)) acc.1
    (p, acc.2 ++ [p])) (List.replicate 256 false, [])
  bytesOfBits 832 ps.2.flatten.toArray

/-- A codeword from its 4,128 information bytes (R251). -/
def ldpcEncode (info : List Byte) : List Byte := info ++ ldpcParity info

/-- A block header (R252). -/
def blockHeader (kind tenant off ezn epoch : Nat) : Word :=
  BitVec.ofNat 64 (kind % 4 + tenant % 4096 * 2 ^ 2 + off % 2 ^ 20 * 2 ^ 14 + ezn % 2 ^ 22 * 2 ^ 34 + epoch % 256 * 2 ^ 56)

/-- The next bit of the PRBS of R203 and the register after it. Log 55 (DESIGN CHOICE). -/
def prbsBit (r : Nat) : Bool × Nat :=
  let b := bitAt r 30 != bitAt r 27
  (b, (2 * r + b2n b) % 2 ^ 31)

/-- `n` bits of the PRBS as one byte value. Log 55 (DESIGN CHOICE). -/
def prbsByte : (n : Nat) → (r acc : Nat) → Nat × Nat
  | 0, r, acc => (acc, r)
  | n + 1, r, acc => let x := prbsBit r; prbsByte n x.2 (2 * acc + b2n x.1)

/-- `n` bytes of the PRBS. -/
def prbsBytes : (n : Nat) → (r : Nat) → List Byte
  | 0, _ => []
  | n + 1, r => let x := prbsByte 8 r 0; BitVec.ofNat 8 x.1 :: prbsBytes n x.2

/-- The user bytes of a filler slot (R203). -/
def fillerData (pzn slot : Nat) : List Byte :=
  let seed := (crc32c (leBytes 4 pzn ++ leBytes 4 slot)).toNat % 2 ^ 31
  prbsBytes 4096 (if seed = 0 then 0x7FFFFFFF else seed)

end Sys2Proof.Machine
end

