-- ==== Sys2Proof/Machine/Framing.lean ====
section
/-!
DEFINITION. Framing and soft detection (chapter 7): the sync search, wedges, the page header and fog fragments, the bits and LLRs of a
codeword.
-/

namespace Sys2Proof.Machine

open Sys2Proof

/-- Physical bit P of a bit-page; a bit beyond its end is not there (R218, R227). -/
def pageBit (page : Array Bool) (p : Int) : Option Bool := if p < 0 then none else page[p.toNat]?

/-- The 48 bits of SYNC_MARK, first bit first (R219). -/
def syncMark : List Bool := (List.range 48).map fun i => bitAt 0xF3A61D8E592B (47 - i)

/-- `n` bits of a page from a physical bit. -/
def bitRun (page : Array Bool) (p : Int) (n : Nat) : List Bool := (List.range n).map fun (i : Nat) => (pageBit page (p + (i : Int))).getD false

/-- `n` bytes of a page from a physical bit. -/
def byteRun (page : Array Bool) (p : Int) (n : Nat) : List Byte := bytesOfBits n (bitRun page p (8 * n)).toArray

/-- Positions where two bit lists differ. -/
def hamming (a b : List Bool) : Nat := ((List.zip a b).filter fun x => x.1 != x.2).length

/-- The expected first bit of wedge r's sync mark (R223). -/
def markAt (r : Nat) : Int := 8 * (8192 * (r : Int) + 8)

/-- The qualifying positions of a wedge as (d, Hamming distance), confirmed ones only where there are any (R223). The page holds the bits
of the wedge's own bytes at their physical places. -/
def syncHits (tol r : Nat) (page : Array Bool) : List (Int × Nat) :=
  let hits := (List.range 65).filterMap fun (i : Nat) =>
    let d : Int := (i : Int) - 32
    let h := hamming (bitRun page (markAt r + d) 48) syncMark
    if h ≤ tol then some (d, h) else none
  let conf := hits.filter fun x => byteRun page (markAt r + x.1 + 48) 2 == [BitVec.ofNat 8 r, ~~~ BitVec.ofNat 8 r]
  if conf.isEmpty then hits else conf

/-- Insert a position by preference: the lower distance, then the later position (R225). -/
def insertHit (x : Int × Nat) : List (Int × Nat) → List (Int × Nat)
  | [] => [x]
  | y :: ys => if x.2 < y.2 ∨ (x.2 = y.2 ∧ y.1 ≤ x.1) then x :: y :: ys else y :: insertHit x ys

/-- The outcome of a wedge (R224, R225): outcome, shift, and the positions kept of an EARLY one. `maxHyp` bounds them; with 0 the most
preferred is taken. -/
def wedgeOutcome (tol maxHyp r : Nat) (page : Array Bool) : WedgeOutcome × Int × List (Int × Nat) :=
  match syncHits tol r page with
  | [] => (.missed, 0, [])
  | [x] => if x.1 = 0 then (.found, 0, []) else (.shifted, x.1, [])
  | xs =>
    let ys := xs.foldr insertHit []
    (.early, (ys.head?.map (·.1)).getD 0, ys.take maxHyp)

/-- The bytes of a read as one page: wedge and segment after wedge and segment. -/
def rawPage (r : ReadOp) : Array Bool := bitsOfBytes (r.wedges.flatMap fun kv => kv.2.bytes)

/-- A wedge of a read. -/
def wedgeOf (r : ReadOp) (i : Nat) : WedgeState := (spFind r.wedges i).getD ⟨.missed, 0, [], []⟩

/-- Physical bit of stream bit S of a read, by the shift of its segment (R216, R227). -/
def streamBit (r : ReadOp) (sb : Nat) : Int :=
  let g := sb / 63488
  8 * (8192 * (g : Int) + 256) + (wedgeOf r g).shift + (sb % 63488 : Nat)

/-- Stream bits of a codeword lie in a missed segment's marked part: its first COAST_BITS bits, or the 32 bits before a missed wedge
(R226); a bit beyond the page is marked too (R227). -/
def isMarked (r : ReadOp) (coast sb : Nat) : Bool :=
  let g := sb / 63488
  ((wedgeOf r g).outcome == .missed && decide (sb % 63488 < coast)) ||
    (decide (g < 4) && (wedgeOf r (g + 1)).outcome == .missed && decide (63456 ≤ sb % 63488)) ||
    decide (327679 < streamBit r sb)

/-- The hard bits and marks of codeword `c` of a read. -/
def cwBits (r : ReadOp) (coast c : Nat) (page : Array Bool) : Array Bool × Array Bool :=
  (((List.range 39680).map fun b => (pageBit page (streamBit r (39680 * c + b))).getD false).toArray,
   ((List.range 39680).map fun b => isMarked r coast (39680 * c + b)).toArray)

/-- The codeword that judges an EARLY wedge (R225). -/
def hypCw (g : Nat) : Nat := listAt 0 [0, 1, 3, 4, 6] g

/-- The shift of an EARLY wedge: the kept position with the lowest syndrome weight, kept ones in order of preference (R225). -/
def settleEarly (r : ReadOp) (coast g : Nat) (page : Array Bool) : Int :=
  let w := wedgeOf r g
  let weight := fun (d : Int) =>
    synWeight (syndrome (cwBits { r with wedges := spPut r.wedges g { w with shift := d } } coast (hypCw g) page).1)
  match w.kept with
  | [] => w.shift
  | x :: xs => (xs.foldl (fun (a : Int × Nat) y => let n := weight y.1; if n < a.2 then (y.1, n) else a) (x.1, weight x.1)).1

/-- Settle the shift of a wedge that has arrived (R225, R226): its segment holds the whole of the codeword that judges an EARLY one. -/
def settleShift (r : ReadOp) (coast : Nat) (engines : Bool) (g : Nat) : ReadOp :=
  let w := wedgeOf r g
  let d : Int := match w.outcome with
    | .missed => if g = 0 then 0 else (wedgeOf r (g - 1)).shift
    | .early => if engines then settleEarly r coast g (rawPage r) else w.shift
    | _ => w.shift
  { r with wedges := spPut r.wedges g { w with shift := d } }

/-- The burst of a page that brings the last byte of a codeword, and the one that brings its first (R216, R217). -/
def lastBurst (c : Nat) : Nat := listAt 4 [0, 1, 1, 2, 3, 3, 4, 4] c
def firstBurst (c : Nat) : Nat := listAt 4 [0, 0, 1, 1, 2, 3, 3, 4] c

/-- Bytes of a wedge of a read from a wedge offset, at the wedge's shift (R227). -/
def wedgeBytes (r : ReadOp) (page : Array Bool) (g off n : Nat) : List Byte :=
  byteRun page (8 * (8192 * (g : Int) + off) + (wedgeOf r g).shift) n

/-- The page header of a read: the lowest-numbered replica not coasted whose CRC matches (R220). -/
def pageHeader (r : ReadOp) (page : Array Bool) : Option (List Byte) :=
  ((List.range 5).filterMap fun g =>
    if (wedgeOf r g).outcome == .missed then none
    else
      let h := wedgeBytes r page g 0x10 48
      if leAt h 0x2C 4 = (crc32c (h.take 44)).toNat then some h else none).head?

/-- A page header matches the sense that was issued (R220). Log 197 (DEDUCED). -/
def headerMatches (r : ReadOp) (h : List Byte) : Bool :=
  let b1 := leAt h 1 1
  b1 % 4 == tierNum r.tier && b1 / 4 % 8 == r.bp && b1 / 32 % 4 == r.plane && leAt h 2 1 == r.wl &&
    leAt h 0x10 2 % 1024 == r.die && leAt h 0x12 2 % 8192 == r.block

/-- Bit j of the pattern of strip cell i in wedge r (R221). -/
def stripBit (t : Tier) (j i r : Nat) : Bool := bitAt ((37 * i + 11 * r) % 2 ^ bitsOf t) j

/-- Strip mismatches of a wedge (R221). -/
def stripErrors (r : ReadOp) (page : Array Bool) (g : Nat) : Nat :=
  let base : Int := 8 * (8192 * (g : Int) + 0xC0) + (wedgeOf r g).shift
  ((List.range 512).filter fun (i : Nat) => (pageBit page (base + (i : Int))).getD false != stripBit r.tier r.bp i g).length

/-- Wedges framed without coasting. -/
def framedWedges (r : ReadOp) : List Nat := (List.range 5).filter fun g => (wedgeOf r g).outcome != .missed

/-- A fog fragment whose wedge was found and whose CRC matches: MAP_SEQ and entries (R222). -/
def fogFragment (r : ReadOp) (page : Array Bool) (g : Nat) : Option (Nat × List FogEntry) :=
  if (wedgeOf r g).outcome == .missed then none
  else
    let f := wedgeBytes r page g 0x40 128
    if leAt f 0x7C 4 ≠ (crc32c (f.take 124)).toNat then none
    else
      some (leAt f 2 2, (List.range (min 30 (leAt f 1 1))).map fun i =>
        let w := leAt f (4 + 4 * i) 4
        ⟨w % 2 ^ 19, w / 2 ^ 19 % 32, w / 2 ^ 24 % 4 != 1⟩)

/-- The fog entries of an ERASURE step and whether a fragment was left out (R238): fragments of this bit-page, else of another of the same
word line held in the read pool; then the extension. -/
def fogEntries (s : State) (r : ReadOp) : List FogEntry × Bool :=
  let others := (s.rch.reads.filter fun kv =>
    kv.2.sensed && kv.2.die == r.die && kv.2.plane == r.plane && kv.2.block == r.block && kv.2.wl == r.wl && kv.2.bp != r.bp).map (·.2)
  let frags := (List.range 5).map fun g =>
    match fogFragment r (rawPage r) g with
    | some x => some x
    | none => others.findSome? fun o => fogFragment o (rawPage o) g
  let seq := (frags.findSome? id).map (·.1)
  let used := frags.map fun f => match f with | some x => if some x.1 = seq then some x.2 else none | none => none
  ((used.flatMap fun u => u.getD []) ++ spGet [] s.age.fogExt (brtIndex r.die r.plane r.block), used.any Option.isNone)

/-- A cell is named by an entry. -/
def fogHas (e : FogEntry) (p : Nat) : Bool := decide (e.cell ≤ p ∧ p < e.cell + e.run)

/-- The two's-complement code of a signed byte field. -/
def codeF (s : State) (f : Fld) : Int := sbyte (getF s f)

/-- A threshold table entry of a bit-page (R250). -/
def ttabOf (s : State) (t : Tier) (a j : Nat) : Int :=
  let i := tierNum t
  match j with
  | 0 => codeF s (F.rchTtab_bp0 i a)
  | 1 => codeF s (F.rchTtab_bp1 i a)
  | 2 => codeF s (F.rchTtab_bp2 i a)
  | 3 => codeF s (F.rchTtab_bp3 i a)
  | 4 => codeF s (F.rchTtab_bp4 i a)
  | _ => codeF s (F.rchTtab_bp5 i a)

/-- The key of a trim set. -/
def trimKey (d : Nat) (t : Tier) (a : Nat) : Nat := (d * 4 + tierNum t) * 16 + a

/-- A set of trims: zeros where it has a parity error, and where TRIM_LIMIT is 0 (R231, R233, R241). -/
def trimSet (s : State) (key : Nat) : Word :=
  if s.rch.trimBad.contains key || getF s F.rchTrack_trimLimit == 0 then 0#64 else spGet 0#64 s.rch.trims key

/-- A trim (R231). -/
def trimOf (s : State) (d : Nat) (t : Tier) (a j : Nat) : Int := sbyte (field (trimSet s (trimKey d t a)).toNat (8 * j + 7) (8 * j))

/-- The offset limits of a die (R185). -/
def offsetMin (s : State) (d : Nat) : Int := sbyte (dieF s d 0xB2 1)
def offsetMax (s : State) (d : Nat) : Int := sbyte (dieF s d 0xB3 1)

/-- Clamp a code to a die's limits. -/
def clampCode (s : State) (d : Nat) (c : Int) : Int := max (offsetMin s d) (min (offsetMax s d) c)

/-- The center code of a hard sense (R229). -/
def centerCode (s : State) (r : ReadOp) : Int := clampCode s r.die (ttabOf s r.tier r.bin r.bp + trimOf s r.die r.tier r.bin r.bp)

/-- Insert a width before the first that is narrower. -/
def insertWidth (w : Nat) : List Nat → List Nat
  | [] => [w]
  | x :: xs => if x < w then w :: x :: xs else x :: insertWidth w xs

/-- The bracket widths of a tier, widest first, zero widths left out (R234). -/
def bracketWidths (s : State) (t : Tier) : List Nat :=
  let i := tierNum t
  (([getF s (F.rchBracket_c i), getF s (F.rchBracket_b i), getF s (F.rchBracket_a i)].filter (· != 0)).reverse).foldr insertWidth []


/-- The magnitude for M and a neighbour class (R236, R249). -/
def llrMag (s : State) (t : Tier) (cls m : Nat) : Nat :=
  let i := tierNum t
  match m with
  | 0 => getF s (F.rchLlr_mag0 i cls)
  | 1 => getF s (F.rchLlr_mag1 i cls)
  | 2 => getF s (F.rchLlr_mag2 i cls)
  | _ => getF s (F.rchLlr_mag3 i cls)

/-- M of a cell from its planes X1, X2, X3; an absent plane reads zero (R235). -/
def softM (x1 x2 x3 : Bool) : Nat := if !x3 then 3 else if !x2 then 2 else if !x1 then 1 else 0

/-- The LLRs of codeword `c` of a read at a soft step (R234 to R239). Planes are held X1, X2, X3 with absent ones empty, neighbours w − 1,
w + 1 with those not sensed empty. -/
def cwLlrs (s : State) (r : ReadOp) (c : Nat) (step : Step) : Array Int :=
  let page := rawPage r
  let coast := getF s F.rchSync_coastBits
  let px := r.planes.map bitsOfBytes
  let pn := r.neighbours.map bitsOfBytes
  let useN := step != .bracket && r.stepsReady.contains .cancel
  let fog := if step == .erasure then (fogEntries s r).1 else []
  ((List.range 39680).map fun b =>
    let sb := 39680 * c + b
    let p := streamBit r sb
    let bit := fun (xs : List (Array Bool)) (i : Nat) => (pageBit (listAt #[] xs i) p).getD false
    let cls := if useN then 1 + b2n (bit pn 0) + b2n (bit pn 1) else 0
    let mag := llrMag s r.tier cls (softM (bit px 0) (bit px 1) (bit px 2))
    let hits := fog.filter fun e => fogHas e p.toNat
    let mag := if hits.any FogEntry.isErase then 0 else if hits.isEmpty then mag else mag / 2
    if isMarked r coast sb then (0 : Int)
    else if (pageBit page p).getD false then -(mag : Int) else (mag : Int)).toArray

/-- The framing flag of a codeword: the last of its wedges' outcomes in the order of R228. -/
def cwFlag (r : ReadOp) (c : Nat) : FrameFlag :=
  let gs := (List.range 5).filter fun g => decide (39680 * c < 63488 * (g + 1) ∧ 63488 * g < 39680 * (c + 1))
  let has := fun (o : WedgeOutcome) => gs.any fun g => (wedgeOf r g).outcome == o
  if has .missed then .coasted else if has .early then .hypothesis else if has .shifted then .shifted else .ok

end Sys2Proof.Machine
end

