-- ==== Sys2Proof/Machine/Parity.lean ====
section
/-!
DEFINITION. Die-parity accumulation (R289, R382).
-/

namespace Sys2Proof.Machine

open Sys2Proof

/-- The 4,128 information bytes of a staged block (R251). -/
def infoBytes (b : StagedBlock) : List Byte :=
  bytesAt b.data 0 4096 ++ leBytes 8 b.header.toNat ++ leBytes 4 b.seq.toNat ++ leBytes 4 b.sealCrc.toNat ++ beBytes 16 b.tag.toNat

/-- The staged block that 4,128 information bytes spell. -/
def blockOfInfo (w : List Byte) : StagedBlock :=
  ⟨bytesAt w 0 4096, BitVec.ofNat 64 (leAt w 4096 8), BitVec.ofNat 32 (leAt w 4104 4), BitVec.ofNat 32 (leAt w 4108 4),
    BitVec.ofNat 128 (ofBe (bytesAt w 4112 16)), [], false, 0, false⟩

/-- Replace the accumulator of a group. -/
def putAccum (s : State) (a : Accum) : State :=
  { s with sbg := { s.sbg with accums := (s.sbg.accums.filter fun x => !(x.pzn == a.pzn && x.hr == a.hr && x.v == a.v)) ++ [a] } }

/-- A slot's group has an accumulator, or a WR_PAR buffer is free for one. -/
def accumRoom (s : State) (pzn : Nat) (t : Tier) (slot : Nat) : Bool :=
  (accumOf s pzn (slot / hrSlots t) (slot % hrSlots t / 120)).isSome || decide (0 < openCount s 5)

/-- The accumulator a slot enters: the group's own, or a new one that starts from the parity already written. -/
def takeAccum (s : State) (pzn hr v : Nat) : Option Accum × State :=
  match accumOf s pzn hr v with
  | some a => (some a, s)
  | none =>
    match popBuf s 5 idSbg with
    | (none, s) => (none, s)
    | (some i, s) =>
      let old := (spFind s.sbg.parityBlocks (parityKey pzn hr v)).getD (List.replicate 33024 0)
      (some ⟨i, pzn, hr, v, [], chunksOf 4128 8 old, s.clk.us, false⟩, s)

/-- Exclusive OR information bytes into the group of a slot (R382); a group whose slots are all in is written. -/
def accumulate (s : State) (pzn : Nat) (t : Tier) (slot : Nat) (bytes : List Byte) : State :=
  let hr := slot / hrSlots t
  let v := slot % hrSlots t / 120
  match takeAccum s pzn hr v with
  | (none, s) => s
  | (some a, s) =>
    let c := slot % 8
    let a := { a with parts := listSet a.parts c (xorBytes (listAt [] a.parts c) bytes), slots := addOnce a.slots slot, since := s.clk.us }
    let z := zstOf s pzn
    let full := (groupSlots t hr v).all fun k => a.slots.contains k || slotFiller z k || (spFind s.mep.staged (stageKey pzn k)).isSome
    if full then writeAccum s a else putAccum s a

/-- Stage a block: into its place, and into its parity group; a copy it replaces leaves the group (R323, R382). -/
def stageBlock (s : State) (pzn : Nat) (t : Tier) (slot : Nat) (b : StagedBlock) : State :=
  let key := stageKey pzn slot
  let old := (spFind s.mep.staged key).map infoBytes
  let addr := slotAddr s pzn slot
  let (bad, b) := match addr with
    | some a => (b.parityBad.map (a + ·), { b with parityBad := [] })
    | none => ([], b)
  let s := freshStaged { s with mep := { s.mep with staged := spPut s.mep.staged key b } } addr
  let s := { s with mep := { s.mep with dramBad := s.mep.dramBad ++ bad } }
  match old with
  | none => accumulate s pzn t slot (infoBytes b)
  | some o => if o = infoBytes b then s else accumulate s pzn t slot (xorBytes o (infoBytes b))

/-- The information part of a filler slot (R203). -/
def fillerInfo (s : State) (z : ZstEntry) (pzn slot : Nat) : List Byte :=
  let d := fillerData pzn slot
  d ++ leBytes 8 (blockHeader 1 z.tenant slot z.ezn (zmapOf s z.ezn).epoch).toNat ++ leBytes 4 0 ++
    leBytes 4 (crc32c (d ++ leBytes 4 0)).toNat ++ leBytes 16 0

end Sys2Proof.Machine
end

