-- ==== Sys2Proof/Machine/Ladder.lean ====
section
/-!
DEFINITION. The recovery ladder (R168 to R172, R258 to R268): reads in flight, their steps, races and rebuilds, and how a read ends.
-/

namespace Sys2Proof.Machine

open Sys2Proof

/-- OFFSUM of the newest history entry at or before an OPHOURS (R298). -/
def offsumAt (s : State) (t : Nat) : Nat :=
  ((s.age.history.filter fun e => decide (e.ophUp ≤ t)).getLast?.map HistEntry.offsum).getD 0

/-- OFFSUM of the newest history entry. -/
def offsumNow (s : State) : Nat := (s.age.history.getLast?.map HistEntry.offsum).getD 0

/-- The retention age of a zone in 1/256 hour, none where it is unknown (R298). -/
def zoneAge (s : State) (z : ZstEntry) : Option Nat :=
  if z.lastOph = 0 then some 0
  else
    let ref := (z.openOph + z.lastOph) / 2
    if s.age.history.any (fun e => decide (ref < e.ophUp) && e.unknown) then none
    else some ((s.clk.ophours - ref) + (offsumNow s - offsumAt s ref))

/-- The bound zones whose retention age is unknown, by physical zone (R306). -/
def unknownZones (s : State) : List Nat :=
  (s.zrs.zst.filter fun kv => kv.2.bound && (zoneAge s kv.2).isNone).map (·.1)

/-- ZONES_UNKNOWN: the zones with RET_UNKNOWN set (R117). -/
def unknownCount (s : State) : Nat := (unknownZones s).length

/-- The age bin of R229: floor(log2 hours) − 1 up to 15, 0 below 4 hours, 15 where the age is unknown. -/
def ageBin : Option Nat → Nat
  | none => 15
  | some a => if a / 256 < 4 then 0 else min 15 (Nat.log2 (a / 256) - 1)

/-- The read an entry senses for. -/
def entryRead : EntryOp → Option Nat
  | .sense rd => some rd
  | .stepSense rd _ => some rd
  | _ => none

/-- Release the decoder engines a read's codewords hold. -/
def freeEngines (s : State) (r : ReadOp) : State :=
  forEach r.cws s fun s cw =>
    match cw.engine with
    | none => s
    | some e =>
      if cw.step = .hard then { s with rch := { s.rch with hardBusy := dropAll s.rch.hardBusy e } }
      else { s with rch := { s.rch with softBusy := dropAll s.rch.softBusy e } }

/-- The member reads of some reads' rebuilds. -/
def memberReads (s : State) (ks : List Nat) : List Nat :=
  (s.rch.reads.filter fun kv => match kv.2.owner with | .member rd _ _ => ks.contains rd | _ => false).map (·.1)

/-- Replace a read; a read by its number; change one of its codewords. -/
def putRead (s : State) (k : Nat) (r : ReadOp) : State := { s with rch := { s.rch with reads := spPut s.rch.reads k r } }

def readAt (s : State) (k : Nat) : Option ReadOp := spFind s.rch.reads k

/-- An RD_PAGE buffer is in use: its transfer runs, or a read that uses it is there. -/
def pageUsed (s : State) (h : PageHold) : Bool :=
  (h.die.any fun d => (dieOf s d).current.any fun r => r.stage == .dataOut) || h.reads.any fun k => (readAt s k).isSome

/-- The RD_PAGE buffers that nothing uses any more are freed (R375, R378). Log 202 (DEDUCED). -/
def freePages (s : State) : State :=
  let (keep, free) := s.rch.pages.partition (pageUsed s)
  forEach free { s with rch := { s.rch with pages := keep } } fun s h => freeBuf s 3 h.buf idRch

/-- A read is over. -/
def eraseRead (s : State) (k : Nat) : State := freePages { s with rch := { s.rch with reads := spErase s.rch.reads k } }

/-- A transfer may start on a die: it has its RD_PAGE buffer, or one is free (R375). Log 202 (DEDUCED). -/
def pageRoom (s : State) (r : Running) : Bool := r.stage != .dataOut || decide (r.burstsLeft < 5) || decide (0 < openCount s 3)

/-- A transfer starts: it takes an RD_PAGE buffer for the reads it serves, or waits where none is free (R375). Log 202 (DEDUCED). -/
def takePage (s : State) (d : Nat) (reads : List Nat) : Bool × State :=
  match popBuf s 3 idRch with
  | (some b, s) => (true, { s with rch := { s.rch with pages := s.rch.pages ++ [⟨b, some d, reads⟩] } })
  | (none, s) => (false, s)

/-- The transfer of a die is cut short: its page is of no use. -/
def dropPage (s : State) (d : Nat) : State :=
  freePages { s with rch := { s.rch with pages := s.rch.pages.map fun h => if h.die = some d then ⟨h.buf, none, []⟩ else h } }

/-- The transfer of a die is over: its page stands for the reads that use it. -/
def leavePage (s : State) (d : Nat) : State :=
  freePages { s with rch := { s.rch with pages := s.rch.pages.map fun h => if h.die = some d then { h with die := none } else h } }

def modCw (s : State) (k i : Nat) (f : Cw → Cw) : State :=
  match readAt s k with
  | some r => (match r.cws[i]? with
    | some c => putRead s k { r with cws := listSet r.cws i (f c) }
    | none => s)
  | none => s

/-- A codeword has every byte of its input: it is ready, in its turn (R257). -/
def readyCw (s : State) (k i : Nat) : State :=
  let n := s.rch.turn
  modCw { s with rch := { s.rch with turn := n + 1 } } k i fun c => { c with phase := .ready, turn := n }

/-- Step numbers (R168). -/
def stepNum : Step → Nat
  | .hard => 1
  | .bracket => 2
  | .cancel => 3
  | .erasure => 4
  | .rebuild => 5

/-- A codeword has ended its ladder. -/
def cwEnded (c : Cw) : Bool :=
  match c.phase with
  | .opened | .failed | .abandoned => true
  | _ => false

/-- The word of a codeword came from its REBUILD. -/
def byRebuild (c : Cw) : Bool := c.rebuild.any fun b => b.done && b.left.isEmpty && !b.failed

/-- A threshold of R282: zero never triggers (R13). -/
def reaches (v limit : Nat) : Bool := decide (limit ≠ 0 ∧ limit ≤ v)

/-- A hard sense of a read has been decoded: a codeword of it passed HARD, or went on from it. -/
def hardDecoded (r : ReadOp) : Bool :=
  !r.wedges.isEmpty && r.cws.any fun c => c.corrected.isSome || c.step != .hard || c.phase == .failed

/-- The strip mismatches of a hard sense, one count for each wedge that was found (R221, R226). -/
def stripCounts (r : ReadOp) : List (Nat × Nat) := (framedWedges r).map fun g => (g, stripErrors r (rawPage r) g)

/-- The read report of a hard sense (R268). -/
def reportOf (r : ReadOp) : ReadReport :=
  ⟨r.die, r.block, r.plane, r.wl, r.bp, r.tier, r.bin, r.progOph, stripCounts r, r.cws.foldl (fun a c => max a (c.corrected.getD 0)) 0,
    r.cws.foldl (fun a c => max a (stepNum c.topStep)) 0⟩

/-- The reads of commands, scans, relocations and management send a report; a member's sense is a ladder sense (R268). -/
def reports (r : ReadOp) : Bool :=
  match r.owner with
  | .member _ _ _ => false
  | _ => true

/-- The read report goes out once every wedge is in and the last codeword has ended its ladder, and what MHM makes of it (R268, R282). A read of a
management owner stays until its owner takes it. Log 170 (DEDUCED). -/
def reportRead (s : State) (k : Nat) : State :=
  match readAt s k with
  | none => s
  | some r =>
    if !r.sensed || r.reported || !reports r || !hardDecoded r || !(r.cws.all cwEnded) then s
    else
      let t := tierNum r.tier
      let x := reportOf r
      let s := emit (putRead s k { r with reported := true }) (.readReport x)
      let passed := r.cws.all fun c => c.phase == .opened
      let rebuilt := r.cws.any fun c => c.phase == .failed || byRebuild c
      let s := if reaches x.corrected (getF s (F.mhmThresh_corrRefresh t)) then queueCandidate s r.ezn .corr else s
      let s := if passed && reaches x.step (getF s (F.mhmThresh_stepRefresh t)) then queueCandidate s r.ezn .step else s
      if rebuilt then queueCandidate s r.ezn .rebuilt else s

/-- A read is abandoned: its codewords end where they stand. One whose page is still coming in stays, for its report, as nobody's. -/
def leaveRead (s : State) (k : Nat) : State :=
  match readAt s k with
  | none => s
  | some r =>
    let s := freeEngines s r
    let o := if reports r then ReadOwner.management else r.owner
    let cws := r.cws.map fun c => if cwEnded c then c else { c with phase := .abandoned, engine := none, input := [] }
    let r := { r with owner := o, cws := cws }
    let s := reportRead (putRead s k r) k
    if r.issued && !r.sensed && reports r && hardDecoded r then s
    else eraseRead s k

/-- Abandon reads and the member reads of their rebuilds: queued entries are dropped, engines freed; an operation on a die runs on and
its data goes nowhere (R172), but for the report of a hard sense that was decoded (R268). -/
def abandonReads (s : State) (ks : List Nat) : State :=
  let ks := ks ++ memberReads s ks
  let s := forEach ks s leaveRead
  if ks.isEmpty then s
  else dropEntries s fun e => match entryRead e.op with | some k => ks.contains k | none => false

/-- The reads a command's slot owns. -/
def readsOfSlot (s : State) (n : Nat) : List Nat :=
  (s.rch.reads.filter fun kv => kv.2.owner == .command n).map (·.1)

/-- End a Read or Verify: what is left of its work is abandoned. -/
def endRead (s : State) (n : Nat) (st : Status) : State := finish (abandonReads s (readsOfSlot s n)) n st

/-- A codeword waiting for its sense. -/
def newCw (idx block off : Nat) : Cw := ⟨idx, block, off, .hard, .waitInput, none, none, [], none, [], .ok, .hard, 0⟩

/-- A read of a bit-page that waits for its sense. -/
def newRead (o : ReadOwner) (die member plane block wl bp : Nat) (t : Tier) (h : Resolved) (ezn : Nat) (cls : Cls) (deadline : Nat) (a : Acct)
    (bin : Nat) (limited : Bool) (cws : List Cw) : ReadOp :=
  ⟨o, die, member, plane, block, wl, bp, t, h.pzn, ezn, cls, deadline, a, bin, 0, false, false, false, false, false, false, 0, [], [], [], [], [], limited,
    cws, h⟩

/-- Start a bit-page read: its sense enters the die queue. A read is known by the arrival number of that entry. -/
def startRead (s : State) (r : ReadOp) : State :=
  let k := s.sch.nextOrder
  let s := { s with rch := { s.rch with reads := spPut s.rch.reads k r } }
  enqueue s r.die ⟨.sense k, r.tier, r.acct, r.cls, r.deadline, 0, false⟩

/-- The estimate of a step in µs (R180). -/
def stepEst (s : State) (t : Tier) (k : Step) : Nat :=
  let i := tierNum t
  10 * (match k with
    | .hard => getF s (F.schLadderEst_s1 i)
    | .bracket => getF s (F.schLadderEst_s2 i)
    | .cancel => getF s (F.schLadderEst_s3 i)
    | .erasure => getF s (F.schLadderEst_s4 i)
    | .rebuild => getF s (F.schLadderEst_s5 i))

/-- Steps a class and Limited Retry permit (R169). Log 60 (DEDUCED). -/
def permitted (r : ReadOp) (k : Step) : Bool :=
  !(r.cls == .proof && (k == .cancel || k == .erasure)) && !(r.limitedRetry && k == .rebuild)

/-- The cut-off of R170; a zero estimate passes it (R180). Log 61 (DEDUCED). -/
def inTime (s : State) (r : ReadOp) (k : Step) : Bool := stepEst s r.tier k == 0 || decide (now s + stepEst s r.tier k ≤ r.deadline)

/-- A soft engine, a hard engine, remains in use (R258). -/
def softLeft (s : State) : Bool := decide (s.rch.softOff.length < 16)
def hardLeft (s : State) : Bool := decide (s.rch.hardOff.length < 32)


/-- A permitted step was cut off, which the command's end will ask (R172). Log 61 (DEDUCED). -/
def noteCutoff (s : State) (r : ReadOp) : State :=
  match r.owner with
  | .command n => (match slotOf s n with
    | some c => putSlot s n { c with forbidden := true }
    | none => s)
  | _ => s

/-- The status of a Read or Verify with a codeword that failed every step open to it (R172, R266, R113). Log 60 (DEDUCED). -/
def failStatus (s : State) (r : ReadOp) (c : CmdSlot) : Status :=
  if c.forbidden || r.cls == .proof then .deadlineMissed
  else match zoneAge s r.home.zone with
    | none => .retentionUnknown
    | some _ => .unrecoveredReadError


/-- The last read of a retention scan has ended (R283): the Scan Table takes the zone's bin, and a bin that reaches FORCE_BIN makes the zone
a candidate. -/
def scanEnd (s : State) (ezn : Nat) : State :=
  match boundZone s ezn with
  | none => s
  | some (pzn, z) =>
    let bin := ageBin (zoneAge s z)
    let s := { s with mhm := { s.mhm with scanTable := spSet 0 s.mhm.scanTable pzn bin } }
    if getF s (F.mhmThresh_forceBin (tierNum z.tier)) ≤ bin then queueCandidate s ezn .age else s

/-- A read of the device's own is over once every codeword has ended its ladder. -/
def retireRead (s : State) (k : Nat) : State :=
  match readAt s k with
  | none => s
  | some r =>
    match r.owner with
    | .command _ | .member _ _ _ => s
    | o =>
      if !r.cws.all cwEnded || (r.issued && !r.sensed) then s
      else
        let s := eraseRead s k
        match o with
        | .scan ezn => if s.rch.reads.any (fun kv => kv.2.owner == .scan ezn) then s else scanEnd s ezn
        | _ => s

/-- The slot of a codeword of a read. -/
def cwSlot (r : ReadOp) (c : Cw) : Nat := slotAt r.tier r.pzn (2 * r.wl + r.plane / 2) r.plane r.bp c.idx r.member

/-- A slot that a relocation cannot read is programmed as filler on the target and recorded (R285). -/
def loseReloc (s : State) (src : Nat) (r : ReadOp) (c : Cw) : State :=
  match relocOf s src with
  | none => s
  | some x =>
    let slot := cwSlot r c
    let z := zstOf s src
    if slotFiller z slot || r.member == parityMember src then s
    else
      let s := { s with mhm := { s.mhm with relocs := spPut s.mhm.relocs src { x with lost := addOnce x.lost slot } } }
      let s := raise s 0x14 0 idMhm [r.ezn, offsetOfSlot r.tier z.pads slot, src, x.target]
      topUpZone (stageBlock s x.target r.tier slot (blockOfInfo (fillerInfo s { z with ezn := r.ezn } x.target slot))) x.target

/-- A codeword ends its ladder without a pass: counted, reported, its zone a refresh candidate, and its command ends (R266, R282). -/
def cwDead (s : State) (k i : Nat) : State :=
  match readAt s k with
  | none => s
  | some r =>
    let s := modCw s k i fun c => { c with phase := .failed }
    let s := countDie s r.die fun c => { c with unrecovered := c.unrecovered + 1 }
    let s := queueCandidate (reportRead s k) r.ezn .rebuilt
    match r.owner with
    | .command n => (match slotOf s n with
      | some c => endRead s n (failStatus s r c)
      | none => s)
    | .reloc src => (match r.cws[i]? with
      | some c => retireRead (loseReloc s src r c) k
      | none => s)
    | _ => retireRead s k

/-- Abandon the member reads of one codeword's rebuild. -/
def dropMembers (s : State) (k i : Nat) : State :=
  abandonReads s ((s.rch.reads.filter fun kv => match kv.2.owner with | .member a b _ => a == k && b == i | _ => false).map (·.1))

/-- A rebuild has failed: with nothing else running the codeword is given up, else its step in sequence goes on (R263, R265, R267). -/
def rebuildFails (s : State) (k i : Nat) : State :=
  match readAt s k with
  | none => s
  | some r =>
    match r.cws[i]? with
    | none => s
    | some c =>
      let s := dropMembers s k i
      let s := countDie s r.die fun c => { c with rebuildFail := c.rebuildFail + 1 }
      let s := modCw s k i fun c => { c with rebuild := c.rebuild.map fun b => { b with failed := true } }
      if c.phase = .waitRebuild then cwDead s k i else s

/-- The read of one codeword's place on another member (R265). -/
def memberRead (s : State) (k i : Nat) (r : ReadOp) (idx m : Nat) : ReadOp :=
  { r with
    owner := .member k i m, die := memberDie (groupOf r.pzn) m, member := m, block := blockFor (zstOf s r.pzn) r.pzn m r.plane,
    issued := false, sensed := false, headerSeen := false, headerBad := false, probeDue := false, reported := false, center := 0, wedges := [],
    planes := [], neighbours := [], stepsIssued := [], stepsReady := [], cws := [newCw idx 0 0] }

/-- A REBUILD finds a member absent or out of service (R265, R271). -/
def rebuildSource (s : State) (r : ReadOp) (idx : Nat) : State :=
  raiseErr s F.rchDecErr_rebuildSource 0x05 0 idRch fun s =>
    [regNat s F.rchDecErr_rebuildSource.addr, r.die, rowAddr s r.die r.plane r.block r.wl r.bp, idx, 0]

/-- Start REBUILD of a codeword (R265): the other 15 members are sensed; with a member absent or out of service, or no time for a member's
hard step, it fails at once. Whether it runs. -/
def startRebuild (s : State) (k i : Nat) (raced : Bool) : State × Bool :=
  match readAt s k with
  | none => (s, false)
  | some r =>
    match r.cws[i]? with
    | none => (s, false)
    | some c =>
      let ms := (List.range 16).filter (· != r.member)
      let gone := ms.any fun m => !dieInService s (memberDie (groupOf r.pzn) m)
      let s := match r.owner with
        | .command n => if raced then (match slotOf s n with | some x => putSlot s n { x with raced := true } | none => s) else s
        | _ => s
      if gone || !inTime s r .hard then
        let s := if gone then rebuildSource s r c.idx else s
        let s := countDie s r.die fun c => { c with rebuildFail := c.rebuildFail + 1 }
        (modCw s k i fun c => { c with rebuild := some ⟨[], [], raced, false, true, false⟩, topStep := .rebuild }, false)
      else
        let s := modCw s k i fun c => { c with rebuild := some ⟨ms, List.replicate 4960 0, raced, false, false, false⟩, topStep := .rebuild }
        (forEach ms s fun s m => startRead s (memberRead s k i r c.idx m), true)

/-- A rebuild of the codeword runs. -/
def rebuilding (c : Cw) : Bool := match c.rebuild with | some b => !b.failed && !b.done | none => false

/-- A race of REBUILD is due at the start of a step (R170); a member's codeword takes HARD and BRACKET alone (R265). Log 63, 82 (DEDUCED). -/
def raceDue (s : State) (r : ReadOp) (k : Step) : Bool :=
  let fits := inTime s r .rebuild && permitted r .rebuild && reports r
  match r.cls with
  | .proof => k == .bracket && fits
  | .print => fits && decide (r.deadline < now s + stepEst s r.tier k + stepEst s r.tier .rebuild)
  | _ => false

/-- The CANCEL senses of a read: word lines w − 1 and w + 1 that exist, are not erased and are final on the die (R237). -/
def neighbourLines (s : State) (r : ReadOp) : List Nat :=
  let final := fun (wl : Nat) => decide (2 * wl + r.plane / 2 < finalOn r.tier (progOf s r.pzn) r.member)
  ((if 0 < r.wl then [r.wl - 1] else []) ++ (if r.wl < 255 then [r.wl + 1] else [])).filter final

/-- The neighbour bit-page of a tier (R241). -/
def neighbourBp (s : State) : Tier → Nat
  | .d4 => getF s F.rchTrack_nbrBpD4
  | .d5 => getF s F.rchTrack_nbrBpD5
  | .d6 => getF s F.rchTrack_nbrBpD6

/-- The senses of a ladder step in their order (R229, R234, R237): the pairs of a bracket, of which SOFT_METHOD 1 transfers one plane and 0 both senses, or the
neighbour word lines. -/
def stepSenses (s : State) (r : ReadOp) : Step → List SenseStep
  | .hard => [⟨r.plane, r.block, r.wl, r.bp, r.center, false, true⟩]
  | .bracket => (bracketWidths s r.tier).flatMap fun (w : Nat) =>
    [⟨r.plane, r.block, r.wl, r.bp, clampCode s r.die (r.center - (w : Int)), true, !softMethod s r.die⟩,
     ⟨r.plane, r.block, r.wl, r.bp, clampCode s r.die (r.center + (w : Int)), true, true⟩]
  | .cancel => (neighbourLines s r).map fun w => ⟨r.plane, r.block, w, neighbourBp s r.tier, 0, false, true⟩
  | _ => []

/-- The same senses run on the die already: both reads use them (R264). -/
def stepRuns (s : State) (r : ReadOp) (step : Step) : Bool :=
  (dieOf s r.die).current.any fun x => x.senses == stepSenses s r step &&
    (match x.entry.op with | .stepSense _ y => y == step | _ => false)

/-- Put the senses of a step into the die queue, once per bit-page (R262), unless the same senses run already (R264); a step with none has its input. -/
def queueStep (s : State) (k : Nat) (step : Step) : State :=
  match readAt s k with
  | none => s
  | some r =>
    if r.stepsIssued.contains step then s
    else
      let none_ := (stepSenses s r step).isEmpty
      let runs := stepRuns s r step
      let s := putRead s k { r with stepsIssued := r.stepsIssued ++ [step], stepsReady := if none_ then addOnce r.stepsReady step else r.stepsReady }
      if none_ || runs then s else enqueue s r.die ⟨.stepSense k step, r.tier, r.acct, r.cls, r.deadline, 0, false⟩

/-- The inputs of a soft step can be had: BRACKET needs the hard sense, CANCEL and ERASURE the bracket planes, all of them the die in
service (R262, R294). -/
def inputsOf (s : State) (r : ReadOp) (k : Step) : Bool :=
  !r.wedges.isEmpty && dieInService s r.die && (k == .bracket || r.stepsIssued.contains .bracket)

/-- The input of a soft step is in the read pool (R257, R262). -/
def inputIn (r : ReadOp) (k : Step) : Bool := r.stepsReady.contains .bracket && (k != .cancel || r.stepsReady.contains .cancel)

/-- A codeword enters a step: its race where due, its senses where it has some; it is ready where its input is in. -/
def enterStep (s : State) (k i : Nat) (step : Step) : State :=
  match readAt s k with
  | none => s
  | some r =>
    let started := (r.cws[i]?).any fun c => c.rebuild.isSome
    let s := if raceDue s r step && !started then (startRebuild s k i true).1 else s
    let fog := step == .erasure && (fogEntries s r).2
    let s := if fog then countDie s r.die fun c => { c with fogPartial := c.fogPartial + 1 } else s
    let s := if step == .erasure then s else queueStep s k step
    let s := modCw s k i fun c => { c with
      step := step, phase := .waitInput, engine := none, topStep := if stepNum c.topStep < stepNum step then step else c.topStep }
    if (readAt s k).any fun r => inputIn r step then readyCw s k i else s

/-- The last resort of the ladder: REBUILD in sequence, or the codeword is given up (R263). A member codeword that fails every step ends
its rebuild. -/
def lastStep (s : State) (k i : Nat) (r : ReadOp) (c : Cw) : State :=
  match r.owner with
  | .member a b _ => rebuildFails (if dieInService s r.die then s else rebuildSource s r c.idx) a b
  | _ =>
    if c.rebuild.isNone && permitted r .rebuild then
      (if inTime s r .rebuild then
        match startRebuild s k i false with
        | (s, true) => modCw s k i fun c => { c with phase := .waitRebuild }
        | (s, false) => cwDead s k i
      else cwDead (noteCutoff s r) k i)
    else cwDead s k i

/-- Try the steps of a list in order (R263); with no soft engine in use a soft step is forbidden as if by the cut-off (R258). Log 61 (DEDUCED). -/
def trySteps (k i : Nat) : List Step → State → State
  | [], s =>
    (match readAt s k with
    | some r => (match r.cws[i]? with
      | some c => lastStep s k i r c
      | none => s)
    | none => s)
  | x :: xs, s =>
    match readAt s k with
    | none => s
    | some r =>
      if !permitted r x then trySteps k i xs s
      else if !softLeft s then trySteps k i xs (noteCutoff s r)
      else if !inputsOf s r x then trySteps k i xs s
      else if !inTime s r x then trySteps k i xs (noteCutoff s r)
      else enterStep s k i x

/-- The steps after one, for a command's codeword or for a member's (R263, R265). -/
def stepsAfter (r : ReadOp) (k : Step) : List Step :=
  let all := match r.owner with
    | .member _ _ _ => [Step.bracket]
    | _ => [.bracket, .cancel, .erasure]
  all.filter fun x => decide (stepNum k < stepNum x)

/-- A codeword has failed its step: it waits for a rebuild that runs, or climbs on (R263). -/
def climb (s : State) (k i : Nat) : State :=
  match readAt s k with
  | none => s
  | some r =>
    match r.cws[i]? with
    | none => s
    | some c =>
      if rebuilding c then modCw s k i fun c => { c with
        phase := .waitRebuild, engine := none, rebuild := c.rebuild.map fun b => { b with awaited := true } }
      else trySteps k i (stepsAfter r c.step) (modCw s k i fun c => { c with engine := none })

/-- The codewords of a read that a test keeps fail their step. -/
def climbAll (s : State) (k : Nat) (p : Cw → Bool) : State :=
  match readAt s k with
  | none => s
  | some r => forEach (List.range r.cws.length) s fun s i =>
    match (readAt s k).bind fun q => q.cws[i]? with
    | some c => if p c then climb s k i else s
    | none => s

/-- A codeword stands at its hard step, not yet decoded. -/
def atHard (c : Cw) : Bool := c.step == .hard && (c.phase == .waitInput || c.phase == .ready)

/-- Every codeword of a read fails its hard step. -/
def failHard (s : State) (k : Nat) : State := climbAll s k atHard

/-- Start a bit-page read, or, where its hard step is cut off or its die out of service, let its codewords climb on (R263, R294). -/
def startOrClimb (s : State) (r : ReadOp) : State :=
  if dieInService s r.die && inTime s r .hard then startRead s r
  else
    let k := s.sch.nextOrder
    let s := { s with rch := { s.rch with reads := spPut s.rch.reads k r }, sch := { s.sch with nextOrder := k + 1 } }
    failHard (if inTime s r .hard then s else noteCutoff s r) k

/-- The block header a codeword must carry, with the tenant and epoch of the resolve (R252, R260). Log 169 (DEDUCED). -/
def expectedHeader (r : ReadOp) (c : Cw) : Word :=
  let z := r.home.zone
  let ep := r.home.epoch
  let slot := cwSlot r c
  match r.owner with
  | .command _ => blockHeader 0 z.tenant c.hostOff r.ezn ep
  | _ =>
    if slotFiller z slot then blockHeader 1 z.tenant slot r.ezn ep
    else blockHeader 0 z.tenant (offsetOfSlot r.tier z.pads slot) r.ezn ep

/-- A relocated block is staged on the target at the same slot (R285). -/
def stageReloc (s : State) (r : ReadOp) (c : Cw) (word : List Byte) : State :=
  match r.owner with
  | .reloc src =>
    (match relocOf s src with
    | some x =>
      let slot := cwSlot r c
      if slotFiller (zstOf s src) slot then s else topUpZone (stageBlock s x.target r.tier slot (blockOfInfo word)) x.target
    | none => s)
  | _ => s

/-- The queued senses of a step that no codeword of a read waits for any more are cancelled (R171). -/
def dropStep (s : State) (k i : Nat) (step : Step) : State :=
  match readAt s k with
  | none => s
  | some r =>
    let queued := (dieOf s r.die).queue.any fun e => e.op == .stepSense k step
    let needed := r.cws.zipIdx.any fun x => x.2 != i && x.1.phase == .waitInput && x.1.step == step
    if !queued || needed then s
    else dropEntries (putRead s k { r with stepsIssued := dropAll r.stepsIssued step }) fun e => e.op == .stepSense k step

/-- The other path of a race is dropped once one has delivered (R171). Log 63 (DEDUCED). -/
def dropRace (s : State) (k i : Nat) (c : Cw) : State :=
  let s := if rebuilding c then dropMembers s k i else s
  let s := if c.phase = .waitInput then dropStep s k i c.step else s
  match c.engine with
  | some e =>
    if c.step = .hard then { s with rch := { s.rch with hardBusy := dropAll s.rch.hardBusy e } }
    else { s with rch := { s.rch with softBusy := dropAll s.rch.softBusy e } }
  | none => s

/-- A codeword is a command's, to be opened after its header check (R261). -/
def needsOpen (r : ReadOp) : Bool := match r.owner with | .command _ => true | _ => false

/-- A decoded word passes its header check, or it is a miscorrection and the step that made it has failed (R260). The rebuilt word of a race ends the step it
overtook; a word in sequence ends the race, a command's once it has been opened (R171, R263). Log 63, 71 (DEDUCED). -/
def checkWord (s : State) (k i : Nat) (r : ReadOp) (c : Cw) (word : List Byte) (rebuilt : Bool) : State × Bool :=
  if r.member != parityMember r.pzn && leAt word 4096 8 ≠ (expectedHeader r c).toNat then
    let s := raiseErr s F.rchDecErr_miscorrect 0x05 0 idRch fun s =>
      [regNat s F.rchDecErr_miscorrect.addr, r.die, rowAddr s r.die r.plane r.block r.wl r.bp, c.idx, c.engine.getD 0]
    (countDie s r.die fun c => { c with miscorrect := c.miscorrect + 1 }, false)
  else
    let s := if rebuilt || !needsOpen r then dropRace s k i c else s
    let s := modCw s k i fun c => { c with
      word := word, phase := if needsOpen r then .headerOk else .opened, engine := none,
      rebuild := if rebuilt then c.rebuild.map fun b => { b with done := true } else if needsOpen r then c.rebuild else none }
    (retireRead (reportRead (stageReloc s r c word) k) k, true)

/-- A run of adjacent erroneous cells of at least 3, cut to 31 (R297). Log 201 (DEDUCED). -/
def errorRuns : List Nat → (start len : Nat) → List (Nat × Nat)
  | [], st, n => if 3 ≤ n then [(st, n)] else []
  | p :: ps, st, n =>
    if 0 < n ∧ p = st + n ∧ n < 31 then errorRuns ps st (n + 1)
    else (if 3 ≤ n then [(st, n)] else []) ++ errorRuns ps p 1

/-- A run enters the Fog Extension Table of a block-plane: WEAK, or ERASE where the same run is there or in the programmed map already; full tables drop it
(R297). Log 201 (DEDUCED). -/
def addFog (s : State) (i : Nat) (run : Nat × Nat) : State :=
  let es := spGet [] s.age.fogExt i
  let put := fun (s : State) (l : List FogEntry) =>
    let s := { s with age := { s.age with fogExt := spSet [] s.age.fogExt i l } }
    let r := spGet (freshBrt i) s.mhm.brt i
    setBrt s i { r with fogExt := true }
  let same := fun (e : FogEntry) => e.cell == run.1 && e.run == run.2
  let known := (spGet [] s.age.fogMap i).filter same
  if es.any same then put s (es.map fun e => if same e then { e with isErase := true } else e)
  else if known.any FogEntry.isErase then s
  else if 32 ≤ es.length || (es.isEmpty && decide (65536 ≤ s.age.fogExt.length)) then incSat s F.mhmErr_fogDrops 1
  else put s (es ++ [⟨run.1, run.2, !known.isEmpty⟩])

/-- What a passing REBUILD teaches of the target's bit-page (R297). Log 201 (DEDUCED). -/
def learnFog (s : State) (r : ReadOp) (c : Cw) (word : List Byte) : State :=
  if !r.sensed then s
  else
    let hard := (cwBits r 0 c.idx (rawPage r)).1
    let true_ := bitsOfBytes word
    let bad := (List.range 39680).filterMap fun b =>
      if hard.getD b false != true_.getD b false then some (streamBit r (39680 * c.idx + b)).toNat else none
    forEach (errorRuns bad 0 0) s fun s run => addFog s (brtIndex r.die r.plane r.block) run

/-- A REBUILD has passed its checks: counted on the target die, and its fog learnt (R261, R269, R297). -/
def rebuildPassed (s : State) (r : ReadOp) (c : Cw) (word : List Byte) : State :=
  learnFog (countDie s r.die fun c => { c with rebuildOk := c.rebuildOk + 1 }) r c word

/-- A REBUILD delivers its codeword, which is checked like any other (R265); a command's has yet to be opened (R261). -/
def rebuildDelivers (s : State) (k i : Nat) : State :=
  match readAt s k with
  | none => s
  | some r =>
    match r.cws[i]? with
    | none => s
    | some c =>
      let word := (c.rebuild.map Rebuild.sum).getD []
      match checkWord s k i r c word true with
      | (s, true) => if needsOpen r then s else rebuildPassed s r c word
      | (s, false) => rebuildFails s k i

/-- A member codeword joins the sum; with the last one the REBUILD delivers, or waits for the open of a word in sequence (R171, R265). -/
def combineMember (s : State) (k i m : Nat) (word : List Byte) : State :=
  match readAt s k with
  | none => s
  | some r =>
    match r.cws[i]? with
    | none => s
    | some c =>
      match c.rebuild with
      | none => s
      | some b =>
        let b := { b with left := dropAll b.left m, sum := xorBytes b.sum word }
        let s := modCw s k i fun c => { c with rebuild := some b }
        if !b.left.isEmpty || c.phase == .headerOk then s else rebuildDelivers s k i

/-- A decode of a codeword has passed (R260, R265). A member codeword joins its rebuild; its sense is a ladder sense, which sends no report (R268). Log 170 (DEDUCED). -/
def cwPasses (s : State) (k i : Nat) (word : List Byte) : State :=
  match readAt s k with
  | none => s
  | some r =>
    match r.cws[i]? with
    | none => s
    | some c =>
      match r.owner with
      | .member a b m =>
        let s := eraseRead s k
        combineMember s a b m word
      | _ => match checkWord s k i r c word false with
        | (s, true) => s
        | (s, false) => climb s k i

end Sys2Proof.Machine
end

