-- ==== Sys2Proof/Machine/Zrs.lean ====
section
/-!
DEFINITION. The zone resolver (R41, R42, R49 to R61, R75 to R81): binding, opening, the resolve of reads and writes, and the waits a
command may meet there.
-/

namespace Sys2Proof.Machine

open Sys2Proof

/-- What a step of the resolve says to its command: go on, fail with a status, or wait in a phase. -/
inductive Verdict where
  | ok
  | fail (st : Status)
  | wait (ph : Phase)
deriving DecidableEq, Repr

/-- The tenant's key slot is LOADED (R406). Log 32 (DEDUCED). -/
def keyLoaded (s : State) (nsid : Nat) : Bool := (spFind s.tkr.slots (nsid - 1)).isSome

/-- The entry of a ready list can serve a tier (R287): its group supports a tier t' ≥ t at which every block-plane is below its rating. -/
def eligibleAt (s : State) (pzn : Nat) (t : Tier) : Bool :=
  let z := zstOf s pzn
  let below := fun (u : Tier) => (zoneRecords z pzn).all fun i =>
    decide ((brtOf s i).pe < dieF s (brtDie i) (0xC0 + 2 * tierNum u) 2) && brtGood s i
  groupTier s (groupOf pzn) t &&
    [Tier.d4, .d5, .d6].any fun u => decide (tierNum t ≤ tierNum u) && groupTier s (groupOf pzn) u && below u

/-- The first entry of a group's ready list that serves a tier; a group out of service has none (R190, R287). -/
def readyEntry (s : State) (g : Nat) (t : Tier) : Option Nat :=
  if groupInService s g then ((spFind s.zrs.ready g).getD []).find? fun p => eligibleAt s p t else none

/-- The groups tried from group `g` on: the bay in ascending order, wrapping, then the other enabled bays ascending (R42). Log 34 (DESIGN CHOICE). -/
def groupOrder (s : State) (g : Nat) : List Nat :=
  let b := g / 16
  (List.range 16).map (fun i => b * 16 + (g % 16 + i) % 16) ++
    ((enabledBays s).filter (· != b)).flatMap fun b' => (List.range 16).map fun i => b' * 16 + i

/-- The stitch group the device chooses (R76). Log 34 (DESIGN CHOICE). -/
def chooseGroup (s : State) (n : Namespace) (coKey : Nat) : Nat :=
  let bays := enabledBays s
  let bay :=
    if coKey ≠ 0 then listAt 0 bays (coKey % bays.length)
    else match n.lastBay with
      | none => listAt 0 bays 0
      | some b => match bays.find? (fun x => decide (b < x)) with
        | some x => x
        | none => listAt 0 bays 0
  match spFind s.zrs.lastGroup bay with
  | some g => bay * 16 + (g + 1) % 16
  | none => bay * 16

/-- The physical zone a binding takes (R42): none where every ready list is empty for it. -/
def findReady (s : State) (n : Namespace) (t : Tier) (group : Option Nat) (coKey : Nat) : Option Nat :=
  let g := match group with | some g => g | none => chooseGroup s n coKey
  (groupOrder s g).findSome? fun g => readyEntry s g t

/-- The active profile enables a tier; with no profile active yet the device has none to forbid it. Log 40 (DESIGN CHOICE). -/
def profileTier (s : State) (t : Tier) : Bool := s.prf.tiers == 0 || bitAt s.prf.tiers (tierNum t)

/-- The tier of a binding at a namespace's default tier (R589): where the profile does not enable it, the highest enabled tier below it, or the
highest enabled one. -/
def bindingTier (s : State) (t : Tier) : Tier :=
  if profileTier s t then t
  else
    let on := [Tier.d6, .d5, .d4].filter (profileTier s)
    match on.filter (fun u => decide (tierNum u < tierNum t)), on with
    | u :: _, _ => u
    | [], u :: _ => u
    | [], [] => t

/-- Make room for one more open zone in the limits of R51 and R53; `implicit` may close the least-recently-written zone. -/
def openRoom : (fuel : Nat) → State → (f nsid : Nat) → Namespace → (implicit : Bool) → State × Verdict
  | 0, s, _, _, _, _ => (s, .fail .tooManyOpenZones)
  | k + 1, s, f, nsid, n, implicit =>
    let inNs := fun e => match nsOfEzn s e with | some (m, _) => m == nsid | none => false
    let go := fun (lingers : Bool) (p : Nat → CamEntry → Bool) =>
      if lingers then (s, Verdict.wait .waitContext)
      else if implicit then
        match lruOpen s p with
        | some e => openRoom k (closeForRoom s e) f nsid n implicit
        | none => (s, .fail .tooManyOpenZones)
      else (s, .fail .tooManyOpenZones)
    if ctxShare s f ≤ openOfFunc s f then go (s.zrs.linger.any fun l => l.owner == f) (fun _ e => e.owner == f)
    else if n.morCap ≤ openOfNs s nsid then go (s.zrs.linger.any fun l => l.nsid == nsid) (fun e _ => inNs e)
    else (s, .ok)

/-- The limits of R52 on active zones. -/
def activeRoom (s : State) (nsid : Nat) (n : Namespace) (t : Tier) : Bool :=
  resvFree s t && decide (activeOfNs s nsid < n.marCap)

/-- Bind an EZN to a physical zone (R42, R75): its ready-list entry is taken, its Zone State Table entry written, its reservation granted. Log 33 (DEDUCED). -/
def bindTo (s : State) (ezn nsid pzn : Nat) (n : Namespace) (t : Tier) (st : ZoneState) (coKey erc : Nat) : State :=
  let g := groupOf pzn
  let old := zstOf s pzn
  let s := { s with
    zrs := { s.zrs with
      ready := spMod s.zrs.ready g (fun l => dropAll l pzn),
      lastGroup := spPut s.zrs.lastGroup (g / 16) (g % 16), progs := spErase s.zrs.progs pzn },
    nss := spPut s.nss nsid { n with lastBay := some (g / 16) } }
  let s := putZst s pzn { freshZst with
    ezn := ezn, bound := true, state := st, tier := t, erc := erc, tenant := nsid - 1, nsx := nsid - 1, coKey := coKey, subst := old.subst }
  let s := putZmap s ezn { zmapOf s ezn with pzn := pzn, bound := true }
  if isActiveState st then takeResv s t ezn else s

/-- READY_EMPTY where a binding must wait (R42). -/
def readyWait (s : State) (ezn f : Nat) : State × Verdict := (zrsFault s F.zrsErr_readyEmpty ezn f, .wait .waitReady)

/-- Bind an Empty zone and open it (R49, R51, R52). -/
def bindOpen (s : State) (ezn f nsid : Nat) (n : Namespace) (t : Tier) (group : Option Nat) (coKey erc : Nat) (implicit : Bool) :
    State × Verdict :=
  if !activeRoom s nsid n t then (s, .fail .tooManyActiveZones)
  else
    match findReady s n t group coKey with
    | none => readyWait s ezn f
    | some _ =>
      match openRoom 3 s f nsid n implicit with
      | (s, .ok) =>
        match findReady s n t group coKey with
        | none => readyWait s ezn f
        | some pzn =>
          let n := match spFind s.nss nsid with | some n => n | none => n
          let s := bindTo s ezn nsid pzn n t (if implicit then .implicitlyOpened else .explicitlyOpened) coKey erc
          (journalZone (enterCam s ezn f (nsid - 1)) ezn, .ok)
      | r => r

/-- Open a Closed zone again (R49, R51). -/
def reopen (s : State) (ezn f nsid : Nat) (n : Namespace) (implicit : Bool) : State × Verdict :=
  match openRoom 3 s f nsid n implicit with
  | (s, .ok) =>
    let s := modZone s ezn fun z => { z with state := if implicit then .implicitlyOpened else .explicitlyOpened }
    (journalZone (enterCam s ezn f (nsid - 1)) ezn, .ok)
  | r => r

/-- An incomplete write of the zone that a reset left to run on in silence (R140). -/
def silentWrites (s : State) (ezn : Nat) : Bool := (incomplete s ezn).any fun kv => kv.2.silent

/-- A zone takes no command now: a Reset or Finish has yet to take effect (R54), a fault is being repaired (R79), or a write from
before a reset runs on (R140). Log 179 (DEDUCED). -/
def zoneBusy (s : State) (ezn : Nat) : Bool :=
  (spFind s.zrs.ops ezn).isSome || s.zrs.heldZones.contains ezn || silentWrites s ezn

/-- A command waits inside ZRS: for its horizon, for die queues, for a ready list, for a context. -/
def waitsInZrs (c : CmdSlot) : Bool :=
  match c.phase with
  | .waitHorizon | .waitDieQueue | .waitReady | .waitContext => true
  | _ => false

/-- Commands to a zone stand before the command of slot `n`: held before it, or resolved earlier and still waiting in ZRS (R54). A read passes a read
that waits, since neither changes the zone. Log 179 (DEDUCED). -/
def standsBehind (s : State) (n : Nat) (c : CmdSlot) (ezn : Nat) : Bool :=
  (s.zrs.held.takeWhile (· != n)).any (fun k => match slotOf s k with | some d => d.ezn == ezn | none => false) ||
    s.hif.slots.any fun kv => kv.1 != n && waitsInZrs kv.2 && kv.2.ezn == ezn && kv.2.remote.isNone && !(isReadKind kv.2.kind && isReadKind c.kind)

/-- The zone of a command belongs to another tenant: its entry names one, or, unbound, it lies in another namespace (R22, R80). Log 180 (DESIGN CHOICE). -/
def otherTenant (s : State) (c : CmdSlot) : Bool :=
  match boundZone s c.ezn with
  | some (_, z) => z.tenant + 1 != c.nsid
  | none => match nsOfEzn s c.ezn with | some (n, _) => n != c.nsid | none => true

/-- Hold a command in its slot (R54). -/
def holdSlot (s : State) (n : Nat) (c : CmdSlot) : State :=
  putSlot { s with zrs := { s.zrs with held := addOnce s.zrs.held n } } n { c with phase := .held }

/-- A fault of a load: the bit, the zone held, and Internal Error (R79, R84). -/
def faultZone (s : State) (bit : Fld) (n : Nat) (c : CmdSlot) : State :=
  let s := zrsFault s bit c.ezn c.func
  finish { s with zrs := { s.zrs with heldZones := addOnce s.zrs.heldZones c.ezn } } n .zoneHeld

/-- Close the gap to a verdict: the command fails or waits in its slot. -/
def obey (s : State) (n : Nat) (v : Verdict) (ok : State → State) : State :=
  match v with
  | .ok => ok s
  | .fail st => finish s n st
  | .wait ph => match slotOf s n with | some c => putSlot s n { c with phase := ph } | none => s

/-- The zone is ready to take a command of a slot: no command before it, not busy, its entries sound, its tenant the command's; else the command is held or
fails (R22, R54, R79, R80). -/
def withZone (s : State) (n : Nat) (c : CmdSlot) (act : State → State) : State :=
  if zoneBusy s c.ezn || standsBehind s n c c.ezn then holdSlot s n c
  else match loadFault s c.ezn with
    | some bit => faultZone s bit n c
    | none =>
      if otherTenant s c then finish s n .invalidNamespace
      else act (if (zmapOf s c.ezn).bound then cacheZone s c.ezn else s)

/-- The status a write meets in a zone state that takes none (R49). -/
def writeRefusal : ZoneState → Option Status
  | .full => some .zoneIsFull
  | .readOnly => some .zoneIsReadOnly
  | .offline => some .zoneIsOffline
  | _ => none

/-- The namespace a slot's command addresses. -/
def slotNs (s : State) (c : CmdSlot) : Option Namespace := spFind s.nss c.nsid

/-- WP_PHYS after the ALIGN of a Placed Zone Append (R61). Log 48 (PRESUMED). -/
def alignedWp (z : ZstEntry) (c : CmdSlot) : Nat :=
  if c.kind = .placedAppend ∧ pzaAlign c.sqe = true ∧ z.pads.length < 4 then
    (z.wpPhys + hrSlots z.tier - 1) / hrSlots z.tier * hrSlots z.tier
  else z.wpPhys

/-- The lowest LBA of a zone as its namespace counts it. Log 48 (PRESUMED). -/
def zoneLba (s : State) (n : Namespace) (ezn : Nat) : Nat := (hostZone s ezn - n.base) * 2 ^ 20

/-- Host offsets that lie in slots below `d` (R65). -/
def hostBelow (z : ZstEntry) (d : Nat) : Nat :=
  min z.wpHost (d - z.pads.foldl (fun a x => a + (min d ((x.endHr + 1) * hrSlots z.tier) - min d x.start)) 0)

/-- The durable host offset count of a zone (R65, R194, R295). -/
def durableOffsets (z : ZstEntry) : Nat := hostBelow z (z.durableHr * hrSlots z.tier)

/-- A bay that has failed and was not requested again (R194). -/
def bayFailed (s : State) (b : Nat) : Bool := (bayOf s b).phase == .failed

/-- A zone with incomplete writes loses its bay (R194): it is Full with what is durable, and its writes complete with POWERED_OFF_ACCESS. Log 172 (DEDUCED). -/
def bayFailsZone (s : State) (ezn : Nat) : State :=
  match boundZone s ezn with
  | none => s
  | some (pzn, _) =>
    let s := forEach (incomplete s ezn) s fun s kv => finish s kv.1 .poweredOffAccess
    let s := cancelReloc s pzn
    let s := modZone s ezn fun z => { z with wpHost := durableOffsets z, finished := true, state := .full }
    let s := freeResv (releaseLinger (leaveCam s ezn) ezn) ezn
    let s := dropZoneWork { s with zrs := { s.zrs with padReqs := spErase s.zrs.padReqs ezn } } pzn
    journalZone (zoneChanged s ezn) ezn

/-- Reserve slots for a write in an open zone (R49, R58, R61, R80): ALIGN, the horizon, the die queues, the reservation, the stitch. Log 111, 172 (DEDUCED). -/
def reserve (s : State) (n : Nat) (c : CmdSlot) (ns : Namespace) : State :=
  match boundZone s c.ezn with
  | none => s
  | some (pzn, z) =>
    let wp := alignedWp z c
    let top := wp + c.blocks
    let pz := progZone s pzn
    if horizonOf s c.ezn < top then
      let s := if askedHorizon s c.ezn < top then journalZoneAt s c.ezn (min (zoneSlots z.tier) (top + 4 * hrSlots z.tier)) else s
      putSlot s n { c with phase := .waitHorizon }
    else
      let need := missingPrograms s z.tier pz wp c.blocks
      if !programRoom s pz need then putSlot s n { c with phase := .waitDieQueue }
      else
        let s := if z.wpPhys < wp then fillTo s c.ezn (z.wpPhys / hrSlots z.tier) else s
        let lba := zoneLba s ns c.ezn + z.wpHost
        let s := modZone s c.ezn fun z => { z with wpHost := z.wpHost + c.blocks, wpPhys := top }
        let s := putSlot s n { c with
          phase := .admitted, offset := z.wpHost, firstSlot := wp,
          dw0 := if c.kind = .write then c.dw0 else BitVec.ofNat 32 lba, dw1 := if c.kind = .write then c.dw1 else BitVec.ofNat 32 (lba / 2 ^ 32) }
        let s := { s with zrs := { s.zrs with
          cam := spMod s.zrs.cam c.ezn (fun e => { e with lastWrite := s.zrs.writeClock }), writeClock := s.zrs.writeClock + 1 } }
        let s := forEach need s fun s hm => queueProgram s pz hm.1 hm.2 (firstPass z.tier)
        let s := topUpZone s pz
        if bayFailed s (groupOf pz / 16) then bayFailsZone s c.ezn
        else match boundZone s c.ezn with
        | some (_, z) =>
          if zoneSlots z.tier ≤ z.wpPhys ∧ isActiveState z.state = true then makeFull s c.ezn (decide (0 < z.filler)) true else s
        | none => s

/-- The resolve of a Write, Zone Append or Placed Zone Append (R49, R80). Log 111 (DEDUCED). -/
def resolveWrite (s : State) (n : Nat) (c : CmdSlot) (ns : Namespace) : State :=
  withZone s n c fun s =>
    let st := zoneState s c.ezn
    match writeRefusal st with
    | some e => finish s n e
    | none =>
      let z : ZstEntry := match boundZone s c.ezn with | some (_, z) => z | none => { freshZst with tier := bindingTier s ns.defTier }
      if c.kind = .write ∧ slba c.sqe % 2 ^ 20 ≠ z.wpHost then finish s n .zoneInvalidWrite
      else if zoneSlots z.tier < alignedWp z c + c.blocks then finish s n .zoneBoundaryError
      else if !keyLoaded s c.nsid then finish s n .keyRevoked
      else
        let group := if c.kind = .placedAppend ∧ pzaGrpValid c.sqe = true then some (pzaGroup c.sqe) else none
        let r : State × Verdict := match st with
          | .empty =>
            if c.kind = CmdKind.placedAppend then bindOpen s c.ezn c.func c.nsid ns (bindingTier s ns.defTier) group (pzaCoKey c.sqe) (pzaErc c.sqe) true
            else bindOpen s c.ezn c.func c.nsid ns (bindingTier s ns.defTier) none 0 0 true
          | .closed => reopen s c.ezn c.func c.nsid ns true
          | _ => (s, Verdict.ok)
        obey r.1 n r.2 fun s => reserve s n c ns

/-- Where a host offset of a zone is served from: none zeros, a staged slot, or a place on a member whose final program is done. -/
def finalSlot (s : State) (pzn : Nat) (z : ZstEntry) (slot : Nat) : Bool :=
  let x := stitch z.tier pzn slot
  decide (x.hr < z.durableHr) || decide (x.hr < finalOn z.tier (progOf s pzn) x.member)

/-- Two reads sense the same bit-page. -/
def samePage (a : ReadOp) (d plane block wl bp : Nat) : Bool :=
  a.die == d && a.plane == plane && a.block == block && a.wl == wl && a.bp == bp

/-- The read of one slot joins the bit-page reads of its command (R154). -/
def addBlock (n : Nat) (c : CmdSlot) (h : Resolved) (bin : Nat) (rs : List ReadOp) (off blk : Nat) : List ReadOp :=
  let pzn := h.pzn
  let z := h.zone
  let slot := slotOfOffset z.tier z.pads off
  let x := stitch z.tier pzn slot
  let d := memberDie (groupOf pzn) x.member
  let block := blockFor z pzn x.member x.plane
  if rs.any (fun r => samePage r d x.plane block x.wl x.bp) then
    rs.map fun r => if samePage r d x.plane block x.wl x.bp then { r with cws := r.cws ++ [newCw x.cw blk off] } else r
  else
    rs ++ [newRead (.command n) d x.member x.plane block x.wl x.bp z.tier h c.ezn c.cls c.deadline (.func c.func) bin (limitedRetry c.sqe)
      [newCw x.cw blk off]]

/-- The bit-page reads a command makes in a zone, for its offsets below the write pointer whose final program is done. -/
def readsOf (s : State) (n : Nat) (c : CmdSlot) (pzn : Nat) (z : ZstEntry) : List ReadOp :=
  let bin := ageBin (zoneAge s z)
  (List.range c.blocks).foldl (fun (rs : List ReadOp) i =>
    let off := c.offset + i
    if z.wpHost ≤ off ∨ finalSlot s pzn z (slotOfOffset z.tier z.pads off) = false then rs
    else addBlock n c (homeOf s pzn c.ezn) bin rs off i) []

/-- Every die the reads need has room (R154). -/
def readRoom (s : State) (rs : List ReadOp) : Bool :=
  rs.all fun r =>
    let priv := r.cls == .proof || r.cls == .print
    let k := (rs.filter fun x => x.die == r.die).length
    if priv then decide ((dieOf s r.die).queue.length + k ≤ 64) else decide (k ≤ queueSpare (dieOf s r.die))

/-- Blocks of a read at or above the write pointer read as zeros (R49). -/
def zeroBlocks (c : CmdSlot) (wpHost : Nat) : List Nat := (List.range c.blocks).filter fun i => decide (wpHost ≤ c.offset + i)

/-- Deliver blocks of zeros: to the host for a Read, nowhere for a Verify; they need no buffer. -/
def deliverZeros (s : State) (n : Nat) (c : CmdSlot) (bs : List Nat) : State :=
  let s := if c.kind = .read ∧ (servedBy s n).isNone = true then forEach bs s (fun s b => emit s (.hostBlock c.func c.sqe.cid b (List.replicate 4096 0))) else s
  let s := if c.reserved = 0 then s else unreserve s bs.length
  putSlot s n { c with egress := c.egress ++ bs, reserved := c.reserved - bs.length, phase := .admitted }

/-- The resolve of a Read or Verify (R24, R49, R81, R202, R406). Log 32, 113 (DEDUCED). -/
def resolveRead (s : State) (n : Nat) (c : CmdSlot) : State :=
  withZone s n c fun s =>
    if zoneState s c.ezn = .offline then finish s n .zoneIsOffline
    else if !keyLoaded s c.nsid then finish s n .keyRevoked
    else
      match boundZone s c.ezn with
      | none => finish (deliverZeros s n c (List.range c.blocks)) n .success
      | some (pzn, z) =>
        let rs := readsOf s n c pzn z
        if rs.any (fun r => bayFailed s (dieBay r.die)) then finish s n .poweredOffAccess
        else if !readRoom s rs then putSlot s n { c with phase := .waitDieQueue }
        else
          let c := { c with home := some (homeOf s pzn c.ezn) }
          let s := deliverZeros s n c (zeroBlocks c z.wpHost)
          let s := forEach rs s startOrClimb
          if (zeroBlocks c z.wpHost).length = c.blocks then finish s n .success else s

/-- A command that has done its work waits for the journal to hold it (R58); where no record waits the journal holds it already, and only
members that have yet to answer keep it (R560). -/
def awaitJournal (s : State) (n : Nat) : State :=
  match slotOf s n with
  | some c =>
    if s.jrn.waiting.isEmpty && adminDone s n then finish s n (c.failed.getD .success)
    else putSlot s n { c with phase := .waitJournal }
  | none => s

/-- An action that leaves its zone as it is completes at once, unless the journal has yet to take what made the zone so (R49, R58). -/
def noChange (s : State) (n ezn : Nat) : State := if (waitingOf s ezn).isEmpty then finish s n .success else awaitJournal s n

/-- A zone that is neither read nor programmed any more leaves the scan queue (R71). -/
def unscan (s : State) (ezn : Nat) : State := { s with mhm := { s.mhm with scanQueue := dropAll s.mhm.scanQueue ezn } }

/-- A host's Offline of a Read Only zone (R71): a relocation of it ends, its refresh candidate and its scan are dropped. -/
def hostOffline (s : State) (ezn : Nat) : State :=
  let s := unscan { s with mhm := { s.mhm with candidates := s.mhm.candidates.filter fun k => k.ezn != ezn } } ezn
  let s := match boundZone s ezn with | some (pzn, _) => cancelReloc s pzn | none => s
  journalZone (modZone s ezn fun z => { z with state := .offline }) ezn

/-- The Open of one zone (R49, R51); Zone Open Tiered gives the tier and the placement of an Empty one. -/
def openZone (s : State) (c : CmdSlot) (ns : Namespace) (t : Tier) (group : Option Nat) (coKey erc : Nat) : State × Verdict :=
  match zoneState s c.ezn with
  | .empty => bindOpen s c.ezn c.func c.nsid ns t group coKey erc false
  | .implicitlyOpened => (journalZone (modZone s c.ezn fun z => { z with state := .explicitlyOpened }) c.ezn, .ok)
  | .explicitlyOpened => (s, .ok)
  | .closed => reopen s c.ezn c.func c.nsid ns false
  | _ => (s, .fail .invalidZoneStateTransition)

/-- A Reset or Finish of a zone on behalf of a slot (or of the device): it waits for the admitted writes, with padding at once, or takes
effect at once (R54, R67, R69); a Finish waits for the switch of a relocation (R286). -/
def startZoneOp (s : State) (ezn : Nat) (isReset : Bool) (slot : Option Nat) : State × Bool :=
  let relocating := match boundZone s ezn with | some (pzn, _) => (relocOf s pzn).isSome | none => false
  if (incomplete s ezn).isEmpty && (isReset || !relocating) then
    (if isReset then applyReset s ezn else makeFull s ezn false false, true)
  else
    let s := if (incomplete s ezn).isEmpty then s else padZone s ezn (!isReset) false
    ({ s with zrs := { s.zrs with ops := spPut s.zrs.ops ezn ⟨isReset, slot⟩ } }, false)

/-- The Finish of an Empty zone binds it and makes it Full (R49); it needs a ready entry and no open resources. -/
def finishEmpty (s : State) (c : CmdSlot) (ns : Namespace) : State × Verdict :=
  match findReady s ns (bindingTier s ns.defTier) none 0 with
  | none => readyWait s c.ezn c.func
  | some pzn => (journalZone (bindTo s c.ezn c.nsid pzn ns (bindingTier s ns.defTier) .full 0 0) c.ezn, .ok)

/-- A zone operation of a slot that has yet to take effect. -/
def awaitOp (s : State) (n ezn : Nat) : State :=
  match slotOf s n with
  | some c => putSlot s n { c with phase := .waitZoneOp, zones := c.zones ++ [ezn] }
  | none => s

/-- The resolve of a Finish of one zone. -/
def resolveFinish (s : State) (n : Nat) (c : CmdSlot) (ns : Namespace) : State :=
  match zoneState s c.ezn with
  | .empty => let r := finishEmpty s c ns; obey r.1 n r.2 fun s => awaitJournal s n
  | .full => noChange s n c.ezn
  | .readOnly | .offline => finish s n .invalidZoneStateTransition
  | _ => match startZoneOp s c.ezn false (some n) with
    | (s, true) => awaitJournal s n
    | (s, false) => awaitOp s n c.ezn

/-- Keep the status a command will complete with. -/
def noteStatus (s : State) (n : Nat) (st : Status) : State :=
  match slotOf s n with
  | some c => putSlot s n { c with failed := match c.failed with | none => some st | some x => some x }
  | none => s

/-- Reset one zone for a slot; an exhausted epoch is noted (R70). -/
def resetFor (s : State) (n ezn : Nat) : State :=
  let ex := exhausts s ezn
  match startZoneOp s ezn true (some n) with
  | (s, true) => if ex then noteStatus s n .zoneEpochExhausted else s
  | (s, false) => awaitOp s n ezn

/-- The resolve of a Reset of one zone (R49, R69). -/
def resolveReset (s : State) (n : Nat) (c : CmdSlot) : State :=
  match zoneState s c.ezn with
  | .empty => noChange s n c.ezn
  | .readOnly | .offline => finish s n .invalidZoneStateTransition
  | _ =>
    let s := resetFor s n c.ezn
    match slotOf s n with
    | some c => if c.zones.isEmpty then awaitJournal s n else s
    | none => s

/-- The resolve of a Close, Open, Offline (R49, R71). -/
def resolveClose (s : State) (n : Nat) (c : CmdSlot) : State :=
  match zoneState s c.ezn with
  | .implicitlyOpened | .explicitlyOpened => awaitJournal (closeZone s c.ezn) n
  | .closed => noChange s n c.ezn
  | _ => finish s n .invalidZoneStateTransition

def resolveOffline (s : State) (n : Nat) (c : CmdSlot) : State :=
  match zoneState s c.ezn with
  | .readOnly => awaitJournal (hostOffline s c.ezn) n
  | .offline => noChange s n c.ezn
  | _ => finish s n .invalidZoneStateTransition

/-- The resolve of an Open. -/
def resolveOpen (s : State) (n : Nat) (c : CmdSlot) (ns : Namespace) : State :=
  if zoneState s c.ezn = .explicitlyOpened then noChange s n c.ezn
  else
    let r := openZone s c ns (bindingTier s ns.defTier) none 0 0
    obey r.1 n r.2 fun s => awaitJournal s n

/-- The resolve of a Zone Open Tiered (R75, R111). -/
def resolveTiered (s : State) (n : Nat) (c : CmdSlot) (ns : Namespace) : State :=
  match zotTier c.sqe with
  | none => finish s n .invalidField
  | some t =>
    let group := if zotGrpValid c.sqe then some (zotGroup c.sqe) else none
    let empty := zoneState s c.ezn == .empty
    let was := zoneState s c.ezn == .explicitlyOpened
    let mismatch := match boundZone s c.ezn with | some (_, z) => z.tier != t | none => false
    let g := match group with | some g => g | none => chooseGroup s ns (zotCoKey c.sqe)
    if mismatch then finish s n .invalidField
    else if empty && !(profileTier s t && groupTier s g t) then finish s n .tierUnsupported
    else
      let r := openZone s c ns t group (zotCoKey c.sqe) (zotErc c.sqe)
      obey r.1 n r.2 fun s =>
        match boundZone s c.ezn, slotOf s n with
        | some (pzn, z), some c =>
          let d := groupOf pzn + tierNum z.tier * 256 + (if empty then 65536 else 0)
          let s := putSlot s n { c with dw0 := BitVec.ofNat 32 d }
          if z.state = .explicitlyOpened ∧ was = true then noChange s n c.ezn else awaitJournal s n
        | _, _ => awaitJournal s n

/-- ZRS takes the command of a slot: to the member its zone lies on, or through the checks and the action of its kind. -/
def resolveSlot (s : State) (n : Nat) : State :=
  match slotOf s n with
  | none => s
  | some c =>
    match slotNs s c with
    | none => finish s n .invalidNamespace
    | some ns =>
      match c.remote with
      | some d =>
        forwardCmd s n d c (match c.kind with
          | .open | .close | .finish | .reset | .openTiered => .invalidZoneStateTransition
          | .offline => .success
          | _ => .zoneIsOffline)
      | none =>
        match c.kind with
        | .read | .verify => resolveRead s n c
        | .write | .append | .placedAppend => resolveWrite s n c ns
        | .open => withZone s n c fun s => resolveOpen s n c ns
        | .close => withZone s n c fun s => resolveClose s n c
        | .finish => withZone s n c fun s => resolveFinish s n c ns
        | .reset => withZone s n c fun s => resolveReset s n c
        | .offline => withZone s n c fun s => resolveOffline s n c
        | .openTiered => withZone s n c fun s => resolveTiered s n c ns
        | _ => s

end Sys2Proof.Machine
end

