-- ==== Sys2Proof/Machine/Keys.lean ====
section
/-!
DEFINITION. What ends work in flight: abandoning reads (R172, R261), zones finished at a lost write (R67, R140, R324, R412); and the Tack
Room's slots: erase, rewrite, retired copies (R410 to R414) and alarms (R446, R447).
-/

namespace Sys2Proof.Machine

open Sys2Proof

/-- A pass of a half-row has begun on some member (R323). -/
def passBegun (s : State) (pzn hr : Nat) : Bool :=
  let on := fun (r : Option Running) => match r with
    | some r => (match r.entry.op with | .program p h _ _ => p == pzn && h == hr | _ => false)
    | none => false
  (List.range 16).any fun m =>
    decide (hr < (listAt ⟨0, 0⟩ (progOf s pzn).members m).coarse) ||
      on (dieOf s (memberDie (groupOf pzn) m)).current || on (dieOf s (memberDie (groupOf pzn) m)).suspended

/-- Drop the staged copies of a physical zone whose slot a test names. -/
def dropStaged (s : State) (pzn : Nat) (p : Nat → Bool) : State :=
  { s with mep := { s.mep with staged := s.mep.staged.filter fun kv => !(kv.1 / 2 ^ 20 == pzn && p (kv.1 % 2 ^ 20)) } }

/-- A zone that lost a write goes to Full with WP_HOST at most `off`, and is padded and closed as Finish does (R67). -/
def failZone (s : State) (ezn off : Nat) : State :=
  match boundZone s ezn with
  | none => s
  | some (_, z) =>
    let s := modZone s ezn fun z => { z with wpHost := min z.wpHost off, finished := true }
    let s := if isActiveState z.state then makeFull s ezn true true else journalZone s ezn
    padZone s ezn true false

/-- The slots of a write. -/
def writeHas (c : CmdSlot) (slot : Nat) : Bool := decide (c.firstSlot ≤ slot ∧ slot < c.firstSlot + c.blocks)

/-- A write failure at block `b` of a slot's command (R324): its slots from there on become filler, it fails with a status once its earlier
slots are durable, later writes fail with Write Fault, and the zone is finished below the block. -/
def writeFailure (s : State) (n b : Nat) (st : Status) : State :=
  match slotOf s n with
  | none => s
  | some c =>
    let off := c.offset + b
    let pz := match boundZone s c.ezn with | some (pzn, _) => progZone s pzn | none => 0
    let later := (incomplete s c.ezn).filter fun kv => kv.1 != n && decide (c.firstSlot < kv.2.firstSlot)
    let s := putSlot s n { c with failed := some st, blocks := b }
    let s := dropStaged s pz fun k => decide (c.firstSlot + b ≤ k ∧ k < c.firstSlot + c.blocks) || later.any fun kv => writeHas kv.2 k
    let s := forEach later s fun s kv => finish s kv.1 .writeFault
    let s := if b = 0 then finish s n st else s
    failZone s c.ezn off

/-- A write failure with MEP_ERR.WRITE_FAIL (R324). Log 119 (DEDUCED). -/
def dataWriteFailure (s : State) (slot block : Nat) (st : Status) : State :=
  writeFailure (raiseErr s F.mepErr_writeFail 0x07 0 idMep fun s => [regNat s F.mepErr_writeFail.addr, 0, 0, idHif, 0]) slot block st

/-- Writes of a zone that end unwritten: from the lowest of them on the zone holds nothing, and it is finished (R140, R412). -/
def loseWrites (s : State) (ezn : Nat) (lost : Sparse CmdSlot) (st : Status) : State :=
  match lost with
  | [] => s
  | kv :: kvs =>
    let off := kvs.foldl (fun a x => min a x.2.offset) kv.2.offset
    let pz := match boundZone s ezn with | some (pzn, z) => (progZone s pzn, z.tier) | none => (0, .d4)
    let s := dropStaged s pz.1 fun k =>
      (lost.any fun kv => writeHas kv.2 k) && !passBegun s pz.1 (k / hrSlots pz.2)
    let s := forEach lost s fun s kv => finish s kv.1 st
    failZone s ezn off

/-- Version of a slot's current value (R411). -/
def keyVersion (s : State) (k : Nat) : Nat := spGet 0 s.tkr.versions k

/-- Every block of a read has been opened, or reads as zeros. -/
def allOpened (c : CmdSlot) : Bool := (List.range c.blocks).all fun i => c.opened.contains i || c.egress.contains i

/-- A read with an open still outstanding on its tenant's slot. -/
def readOpen (c : CmdSlot) : Bool := isReadKind c.kind && isAdmitted c && c.remote.isNone && !allOpened c

/-- A write that an erase of its key ends: admitted here, not staged whole, or with a staged copy that is to be sealed again (R325, R412). -/
def writeOpen (s : State) (c : CmdSlot) : Bool :=
  let pz := match boundZone s c.ezn with | some (pzn, _) => progZone s pzn | none => 0
  isWriteKind c.kind && isAdmitted c && c.remote.isNone && c.failed.isNone &&
    (decide (c.staged.length < c.blocks) || (List.range c.blocks).any fun b =>
      (spFind s.mep.staged (stageKey pz (c.firstSlot + b))).any StagedBlock.resending)

/-- What an erase does to a context on an erased slot (R412): resident, it drops its block; parked, it is REVOKED. -/
def revokeCtx (c : Ctx) : Ctx :=
  if c.resident then { c with blk := none, cond := if c.cond == .block then .idle else c.cond }
  else { c with blk := none, cond := .revoked }

/-- Commands with an operation open on erased tenant slots end KEY_REVOKED (R412). -/
def revokeCommands (s : State) (p : Nat → Bool) : State :=
  let hit := fun (c : CmdSlot) => p (c.nsid - 1) && c.nsid != 0
  let reads := s.hif.slots.filter fun kv => hit kv.2 && readOpen kv.2
  let writes := s.hif.slots.filter fun kv => hit kv.2 && writeOpen s kv.2
  let zones := writes.foldl (fun (a : List Nat) kv => addOnce a kv.2.ezn) []
  let s := forEach reads s fun s kv => endRead s kv.1 .keyRevoked
  let s := forEach zones s fun s e => loseWrites s e (writes.filter fun kv => kv.2.ezn == e) .keyRevoked
  incSat s F.cphErr_revokedOps (reads.length + writes.length)

/-- Erase the slots a test names (R412): values and retired copies zeroised, cached keys invalidated, contexts and commands ended. -/
def eraseKeys (s : State) (p : Nat → Bool) : State :=
  let s := { s with
    tkr := { s.tkr with
      slots := s.tkr.slots.filter (fun kv => !p kv.1), retired := s.tkr.retired.filter fun r => !p r.keySlot },
    cph := { s.cph with
      keyCache := s.cph.keyCache.filter (fun k => !p k.keySlot),
      ctxs := spMap s.cph.ctxs fun _ c => if p c.keySlot then revokeCtx c else c } }
  revokeCommands s p

/-- A TKR fault with its record (R421, R523). -/
def tkrFault (s : State) (bit : Fld) (slot master : Nat) : State :=
  raiseErr s bit 0x0B 0 master fun s => [regNat s bit.addr, slot, master]

/-- RESULT codes (R420). Log 92 (DEDUCED). -/
def tkrCode : TkrResult → Nat
  | .ok => 0
  | .zeroLength => 1
  | .range => 2
  | .notAllowed => 3
  | .locked => 4
  | .unwrapFail => 5
  | .empty => 6
  | .unchanged => 7

/-- A command of the security core ends (R409): GO clears, RESULT is there, TKR_DATA is zeroised. -/
def tkrEnd (s : State) (r : TkrResult) : State :=
  let s := clrF (setF s F.tkrStat_result (tkrCode r)) F.tkrCmd_go
  let s := { s with tkr := { s.tkr with waiting := false } }
  forEach (List.range 10) s fun s i => setF s (F.tkrData_word i) 0

/-- The action of an alarm source (R446, R454). -/
def alarmAction (s : State) (src : Nat) : Nat := field (regNat s F.secAlarmAct_vglitch.addr) (2 * src + 1) (2 * src)

/-- Every slot and retired copy is erased in ALL scope (R414, R440): also the key cache, every resident context and the PARK_COUNT table. -/
def eraseAll (s : State) : State :=
  let s := eraseKeys s fun _ => true
  { s with
    tkr := { s.tkr with retired := [] },
    cph := { s.cph with
      keyCache := [],
      ctxs := spMap s.cph.ctxs fun _ c => { c with tkrCount := 0, blk := if c.resident then none else c.blk, cond := if c.resident ∧ c.cond = .block then .idle else c.cond } } }

/-- An alarm erase (R414): scope TENANT or ALL, and ALARM_LOCK; with PD_SEC off the slots are zero already (R447). -/
def alarmErase (s : State) (all : Bool) : State :=
  let s := setBit s F.tkrStat_alarmLock
  let s := if s.tkr.waiting then tkrEnd s .locked else s
  if !domainOn s .sec then s else if all then eraseAll s else eraseKeys s fun k => decide (k < 4096)

/-- An alarm is applied (R446, R447): latched, recorded, notified, and its erase; an unlock being verified ends DENIED (R451). Log 52 (DEDUCED). -/
def applyAlarm (s : State) (src : Nat) : State :=
  let act := alarmAction s src
  let s := setFBit s F.secAlarmStat_latched src
  let s := if act = 3 then setBit s F.secAlarmStat_allSeen else s
  let s := raise s 0x0F 0 idSec [src, act, regNat s F.secAlarmStat_latched.addr, regNat s F.secLc_lifecycle.addr]
  let s := if 1 ≤ act then emitIf (domainOn s .mgmt) (emitIf (domainOn s .sec) s (.interrupt idSec)) (.interrupt (idMc 0)) else s
  let s := if getF s F.dbgUnlock_status = 2 then clrF (setF s F.dbgUnlock_status 4) F.dbgUnlock_req else s
  if act = 3 then alarmErase s true else if act = 2 then alarmErase s false else s

/-- A zeroisation read-back is not zero (R411). -/
def zeroiseFail (s : State) (slot : Nat) : State := applyAlarm (tkrFault s F.tkrErr_zeroiseFail slot idSec) 4

/-- Store a value into a slot (R410, R411): the result, or none where the rewrite waits for a retired register. -/
def storeKey (s : State) (k : Nat) (v : BitVec 256) : Option TkrResult × State :=
  match spFind s.tkr.slots k with
  | none => (some .ok, { s with tkr := { s.tkr with slots := spPut s.tkr.slots k v } })
  | some old =>
    if old = v then (some .unchanged, s)
    else if 64 ≤ s.tkr.retired.length then (none, s)
    else
      let ver := keyVersion s k
      let s := { s with
        tkr := { s.tkr with
          slots := spPut s.tkr.slots k v, versions := spPut s.tkr.versions k (ver + 1),
          retired := s.tkr.retired ++ [⟨k, ver, old, s.clk.us⟩] },
        cph := { s.cph with keyCache := s.cph.keyCache.filter fun c => c.keySlot != k } }
      (some .ok, sweepRetired s)

/-- Bytes of TKR_DATA (R422). -/
def tkrDataBytes (s : State) (n : Nat) : List Byte := ((List.range n).map fun i => leBytes 4 (getF s (F.tkrData_word i))).flatten

/-- The value 32 bytes spell. -/
def keyOf (bs : List Byte) : BitVec 256 := BitVec.ofNat 256 (ofBe bs)

/-- Slots of R408. -/
def slotMigration : Nat := 4097
def slotJournal : Nat := 4098
def slotImport : Nat := 4099

/-- A slot of device firmware or of the security core that commands may fill. Log 92 (DEDUCED). -/
def isSystemSlot (k : Nat) : Bool := decide (4097 ≤ k ∧ k < 4160)

/-- A store ends the command, or the command waits with GO reading 1. -/
def tkrStore (s : State) (k : Nat) (v : BitVec 256) : State :=
  match storeKey s k v with
  | (some r, s) => tkrEnd s r
  | (none, s) => { s with tkr := { s.tkr with waiting := true } }

/-- The unwrap of UNWRAP: 40 bytes under a wrapping slot. -/
def tkrUnwrapRun (s : State) (k w : Nat) (wrapped : List Byte) : State :=
  match keyBytes s w with
  | none => tkrEnd s .empty
  | some kek =>
    match keyUnwrap kek wrapped with
    | none => tkrEnd s .unwrapFail
    | some v => tkrStore s k (keyOf v)

/-- UNWRAP into a tenant slot ends LOCKED: LEVEL is FULL in DEPLOYED (R444), or the device is RETIRED (R440). -/
def tenantLocked (s : State) : Bool := (lifecycle s == 2 && debugFull s) || lifecycle s == 3

/-- Run the command that TKR_CMD holds (R409). -/
def tkrRun (s : State) : State :=
  let op := getF s F.tkrCmd_op
  let k := getF s F.tkrCmd_slot
  let w := getF s F.tkrCmd_wrapSlot
  let n := getF s F.tkrCmd_count
  let locked := flag s F.tkrStat_alarmLock
  if op = 1 then
    (if !isSystemSlot k then tkrEnd s .notAllowed
    else if locked then tkrEnd s .locked
    else tkrStore s k (keyOf (tkrDataBytes s 8)))
  else if op = 2 then
    (if k = slotCtxWrap ∨ 4160 ≤ k ∨ (w ≠ slotImport ∧ w ≠ slotMigration) then tkrEnd s .notAllowed
    else if locked || (decide (k < 4096) && tenantLocked s) then tkrEnd s .locked
    else tkrUnwrapRun s k w (tkrDataBytes s 10))
  else if op = 3 then
    (if 4096 ≤ k ∨ w ≠ slotMigration then tkrEnd s .notAllowed
    else if locked then tkrEnd s .locked
    else
      match keyBytes s k, keyBytes s w with
      | some v, some kek =>
        let out := keyWrap kek v
        tkrEnd (forEach (List.range 10) s fun s i => setF s (F.tkrOut_word i) (leAt out (4 * i) 4)) .ok
      | _, _ => tkrEnd s .empty)
  else if op = 4 then
    (if n = 0 then tkrEnd s .zeroLength
    else if 4160 < k + n then tkrEnd s .range
    else if k = slotCtxWrap then tkrEnd s .notAllowed
    else tkrEnd (eraseKeys s fun i => decide (k ≤ i ∧ i < k + n)) .ok)
  else if op = 5 then
    (if !isSystemSlot k then tkrEnd s .notAllowed
    else if locked then tkrEnd s .locked
    else
      let (r, s) := draw s
      tkrStore s k (BitVec.ofNat 256 r))
  else tkrEnd s .notAllowed

/-- A slot read that meets a parity error (R413, R421): the slot is erased. -/
def slotParityError (s : State) (k : Nat) : State := eraseKeys (tkrFault s F.tkrErr_slotParity k idTkr) fun x => x == k

/-- A write to TKR_CMD that sets GO (R409, R419, R422): refused from other masters, without effect while GO reads 1. `parity`: the first slot the command
reads has a parity error. -/
def tkrCommand (s : State) (master op slot wrapSlot count : Nat) (parity : Bool) : State :=
  let addr := F.tkrCmd_go.addr
  if reservedMaster master then badMaster s master addr
  else if !routed s master addr || !domainOn s .sec then pwrOffResponse s master addr true
  else if master ≠ idSec then refuse (tkrFault s F.tkrErr_refused slot master) master addr
  else if flag s F.tkrCmd_go then s
  else
    let s := setF (setF (setF (setF (setBit s F.tkrCmd_go) F.tkrCmd_op op) F.tkrCmd_slot slot) F.tkrCmd_wrapSlot wrapSlot) F.tkrCmd_count count
    let s := forEach (List.range 10) s fun s i => setF s (F.tkrOut_word i) 0
    let k := if op = 2 then wrapSlot else slot
    tkrRun (if parity && (spFind s.tkr.slots k).isSome then slotParityError s k else s)

/-- R409, R413: the security core's commands to the Tack Room. -/
def onTkrWrite (master slot : Nat) (parity : Bool) (s : State) : State := tkrCommand s master 1 slot 0 0 parity

def onTkrUnwrap (master slot wrapSlot : Nat) (parity : Bool) (s : State) : State := tkrCommand s master 2 slot wrapSlot 0 parity

def onTkrWrap (master slot wrapSlot : Nat) (parity : Bool) (s : State) : State := tkrCommand s master 3 slot wrapSlot 0 parity

def onTkrGenerate (master slot : Nat) (parity : Bool) (s : State) : State := tkrCommand s master 5 slot 0 0 parity

/-- R409, R411, R412: ERASE; `readBackFails` says that the zeroisation's read-back was not zero. -/
def onTkrErase (master slot count : Nat) (readBackFails : Bool) (s : State) : State :=
  let ok := domainOn s .sec && master == idSec && !flag s F.tkrCmd_go
  let s := tkrCommand s master 4 slot 0 count false
  if ok && readBackFails && getF s F.tkrStat_result == 0 then zeroiseFail s slot else s

/-- A block in progress starts again from its first byte, under a version of its key (R402, R411). -/
def blockFromStart (v : Nat) (b : CtxBlock) : CtxBlock :=
  { b with done := 0, ghash := 0, part := [], cipher := [], sealRun := 0xFFFFFFFF#32, icrcRun := 0xFFFFFFFF#32, version := v }

/-- The block state of a context is discarded, and its block starts again under the same key and nonce (R402). -/
def discardBlock (c : Ctx) : Ctx := { c with blk := c.blk.map fun b => blockFromStart b.version b }

/-- A block in progress under a retired copy starts again from its first byte under the current value (R402, R411). -/
def restartBlock (s : State) (i : Nat) : State :=
  match spFind s.cph.ctxs i with
  | some c => putCtx s i { c with blk := c.blk.map (blockFromStart (keyVersion s c.keySlot)) }
  | none => s

/-- A rewrite that waits for a retired register goes on where one is free (R411, R413). Log 173 (DESIGN CHOICE). -/
def resumeTkr (s : State) : State :=
  if s.tkr.waiting && decide (s.tkr.retired.length < 64) then (if flag s F.tkrStat_alarmLock then tkrEnd s .locked else tkrRun s) else s

/-- R411: 64 µs after its rewrite the oldest retired copy is zeroised; blocks still under it start again under the current value, and a
rewrite that waited for a register goes on. -/
def onRetiredCopyExpiry (readBackFails : Bool) (s : State) : State :=
  match s.tkr.retired with
  | [] => resumeTkr s
  | r :: rest =>
    let s := advanceTo s (r.since + 64)
    let held := s.cph.ctxs.filter fun kv => holdsKey kv.2 r.keySlot r.version
    let s := { s with tkr := { s.tkr with retired := rest } }
    let s := forEach held s fun s kv => restartBlock s kv.1
    resumeTkr (if readBackFails then zeroiseFail s r.keySlot else s)

end Sys2Proof.Machine
end

