-- ==== Sys2Proof/Machine/IoCmds.lean ====
section
/-!
DEFINITION. The I/O commands up to ZRS (R22, R24, R49, R57, R80, R97 to R113, R374): the generic checks of each, the read reservation,
the resolve and the waits it can meet.
-/

namespace Sys2Proof.Machine

open Sys2Proof

/-- A field of an I/O command is wrong whatever namespace it names: a reserved bit, a zone address off its start, a group, an action, an option (R107,
R108, R110, R113). -/
def badField (s : State) (q : Sqe) : Bool :=
  let badZone := slba q % 2 ^ 20 != 0
  match ioKind q with
  | .read | .verify | .write | .flush => false
  | .append => badZone
  | .placedAppend => !pzaReservedZero q || badZone || (pzaGrpValid q && !groupExists s (pzaGroup q))
  | .openTiered => !zotReservedZero q || badZone || (zotTier q).isNone || (zotGrpValid q && !groupExists s (zotGroup q))
  | .open | .close | .finish | .reset | .offline => !selectAll q && badZone
  | .report => zra q != 0 || decide (7 < zrasf q)
  | _ => true

/-- The blocks an I/O command transfers: those of its LBA range, one for a command that names a zone, none for Flush and Select All. -/
def rangeBlocks (q : Sqe) : Nat :=
  match ioKind q with
  | .read | .verify | .write => nlb q
  | .open | .close | .finish | .reset | .offline => if selectAll q then 0 else 1
  | .flush => 0
  | _ => 1

/-- The transfer of a command is larger than 1 MiB (R89, R97). -/
def tooLarge (q : Sqe) : Bool :=
  match ioKind q with
  | .read | .verify | .write | .append | .placedAppend => decide (256 < nlb q)
  | .report => decide (262144 < zmrDwords q)
  | _ => false

/-- The first generic check an I/O command fails, in the order of R113: fields, namespace, LBA range, transfer size. Log 113 (DEDUCED). -/
def ioCheck (s : State) (c : CmdSlot) (ns : Option Namespace) : Option Status :=
  if badField s c.sqe then some .invalidField
  else match ns with
    | none => some .invalidNamespace
    | some n =>
      if 0 < rangeBlocks c.sqe ∧ n.count * 2 ^ 20 < slba c.sqe + rangeBlocks c.sqe then some .lbaOutOfRange
      else if tooLarge c.sqe then some .invalidField
      else none

/-- The generic checks of an I/O command that has been fetched and no more (R113); Flush names any namespace by 0xFFFF_FFFF. In the sanitize failure mode
every command that passes them fails (R92). Log 189 (DESIGN CHOICE). -/
def genericCheck (s : State) (c : CmdSlot) : Option Status :=
  let all := ioKind c.sqe == .flush && c.sqe.nsid == 0xFFFFFFFF
  let failed := if s.hif.sanitize.failureMode then some Status.sanitizeFailed else none
  match ioCheck s c ((nsOf s c.func c.sqe.nsid).map (·.2)) with
  | some st => if all && st == .invalidNamespace then failed else some st
  | none => failed

/-- A command with a peer that is lost, or has not joined, before its zone is looked at (R113). -/
def memberLost (s : State) (home : Option Nat) : Bool :=
  match home with
  | some d => (match (peerOf s d).cond with | .lost | .none => true | _ => false)
  | none => false

/-- A fetched I/O command of an opcode passes its generic checks and goes on to `ok` with its zone, or fails (R113). -/
def startIo (s : State) (n : Nat) (k : CmdKind) (ok : State → CmdSlot → State) : State :=
  withFetched s n (fun c => !c.sqe.admin && ioKind c.sqe == k) fun c =>
    match genericCheck s c, nsOf s c.func c.sqe.nsid with
    | some st, _ => finish s n st
    | none, none => finish s n .invalidNamespace
    | none, some (nsid, ns) =>
      let home := zoneHome s (ns.base + slba c.sqe / 2 ^ 20)
      if queueStopped s c.func c.sqid then finish s n .functionStopped
      else if memberLost s home.1 && !(selectAll c.sqe && k != .read) then finish s n .cascadeMemberLost
      else
        let c := { c with
          kind := k, nsid := nsid, ezn := home.2, remote := home.1, offset := slba c.sqe % 2 ^ 20,
          blocks := if isReadKind k || isWriteKind k then nlb c.sqe else 0, phase := .checked }
        ok (putSlot s n c) c

/-- A Read or Verify that crosses a zone boundary fails (R49). -/
def startReadKind (s : State) (n : Nat) (k : CmdKind) : State :=
  startIo s n k fun s c => if 2 ^ 20 < c.offset + c.blocks then finish s n .zoneBoundaryError else s

/-- R24, R49, R90: Read: its checks; its data follows through reservation, resolve, sense, decode, open and egress. -/
def onRead (slot : Nat) (s : State) : State := startReadKind s slot .read

/-- R106: Verify. -/
def onVerify (slot : Nat) (s : State) : State := startReadKind s slot .verify

/-- R49: Write, at the write pointer only; R22, R107: Zone Append and Placed Zone Append. -/
def onWrite (slot : Nat) (s : State) : State := startIo s slot .write fun s _ => s

def onZoneAppend (slot : Nat) (s : State) : State := startIo s slot .append fun s _ => s

def onPlacedZoneAppend (slot : Nat) (s : State) : State := startIo s slot .placedAppend fun s _ => s

/-- R57: Flush completes at once. -/
def onFlush (slot : Nat) (s : State) : State :=
  withFetched s slot (fun c => !c.sqe.admin && ioKind c.sqe == .flush) fun c =>
    match genericCheck s c with
    | some st => finish s slot st
    | none => if queueStopped s c.func c.sqid then finish s slot .functionStopped else finish s slot .success

/-- R51, R53, R67, R69, R71, R75, R98: the zone commands pass their checks and wait for ZRS. -/
def onZoneOpenTiered (slot : Nat) (s : State) : State := startIo s slot .openTiered fun s _ => s

def onZoneOpen (slot : Nat) (s : State) : State := startIo s slot .open fun s _ => s

def onZoneClose (slot : Nat) (s : State) : State := startIo s slot .close fun s _ => s

def onZoneFinish (slot : Nat) (s : State) : State := startIo s slot .finish fun s _ => s

def onZoneReset (slot : Nat) (s : State) : State := startIo s slot .reset fun s _ => s

def onZoneOffline (slot : Nat) (s : State) : State := startIo s slot .offline fun s _ => s

/-- The zone state code of a Zone Descriptor (ZNS). -/
def znsState : ZoneState → Nat
  | .empty => 1
  | .implicitlyOpened => 2
  | .explicitlyOpened => 3
  | .closed => 4
  | .readOnly => 13
  | .full => 14
  | .offline => 15

/-- The reporting options of Report Zones: which states each lists (ZNS). -/
def reported (opt : Nat) (st : ZoneState) : Bool :=
  match opt, st with
  | 0, _ => true
  | 1, .empty => true
  | 2, .implicitlyOpened => true
  | 3, .explicitlyOpened => true
  | 4, .closed => true
  | 5, .full => true
  | 6, .readOnly => true
  | 7, .offline => true
  | _, _ => false

/-- The 64-byte Zone Descriptor of a zone of this device (R50, R97, R98). Log 21 (PRESUMED). -/
def zoneDescriptor (s : State) (n : Namespace) (ezn : Nat) : List Byte :=
  let st := zoneState s ezn
  let z : ZstEntry := match boundZone s ezn with | some (_, z) => z | none => { freshZst with tier := n.defTier }
  let lba := zoneLba s n ezn
  let wp := match st with
    | .full | .readOnly | .offline => 2 ^ 64 - 1
    | _ => lba + z.wpHost
  [2] ++ leBytes 1 (znsState st * 16) ++ leBytes 1 (b2n z.finished + 2 * b2n (decide (4 ≤ z.pads.length))) ++ leBytes 5 0 ++
    leBytes 8 (zoneSlots z.tier) ++ leBytes 8 lba ++ leBytes 8 wp ++ List.replicate 32 0

/-- The state of a zone of another device as a free value gives it; a removed peer's zones are seen as Offline (R565). Log 39 (DESIGN CHOICE). -/
def peerState (s : State) (d w : Nat) : ZoneState :=
  if (peerOf s d).cond = .removed then .offline else (zoneOfCode (w / 2 ^ 22 % 2 ^ 4 % 7)).getD .empty

/-- The Zone Descriptor of a zone of another device (R98): its first LBA is the namespace's; its state, attributes, capacity and the blocks below its Write
Pointer are free. Log 39 (DESIGN CHOICE). -/
def peerDescriptor (s : State) (n : Namespace) (d z w : Nat) : List Byte :=
  let st := peerState s d w
  let lba := (z - n.base) * 2 ^ 20
  let t := (tierOf (w / 2 ^ 28 % 3)).getD .d4
  let wp := match st with
    | .full | .readOnly | .offline => 2 ^ 64 - 1
    | .empty => lba
    | _ => lba + w / 2 ^ 32 % (zoneSlots t)
  [2] ++ leBytes 1 (znsState st * 16) ++ leBytes 1 (w % 4) ++ leBytes 5 0 ++ leBytes 8 (zoneSlots t) ++ leBytes 8 lba ++ leBytes 8 wp ++ List.replicate 32 0

/-- Zone Descriptors of the zones of a run that the reporting option lists: those of this device as they stand, those of a peer by free values. Log 39 (DESIGN CHOICE). -/
def reportList (n : Namespace) (opt : Nat) : (zs : List Nat) → State → List (List Byte) × State
  | [], s => ([], s)
  | z :: zs, s =>
    match zoneHome s z with
    | (none, e) =>
      if reported opt (zoneState s e) then
        let d := zoneDescriptor s n e
        let (ds, s) := reportList n opt zs s
        (d :: ds, s)
      else reportList n opt zs s
    | (some d, _) =>
      let (w, s) := draw s
      let x := peerDescriptor s n d z w
      let keep := reported opt (peerState s d w)
      let (ds, s) := reportList n opt zs s
      (if keep then x :: ds else ds, s)

/-- R98: Report Zones: the header with the number of zones, then the descriptors that fit; with Partial Report the number is that of the
descriptors returned. -/
def onReportZones (slot : Nat) (s : State) : State :=
  startIo s slot .report fun s c =>
    match spFind s.nss c.nsid with
    | none => finish s slot .invalidNamespace
    | some n =>
      let first := slba c.sqe / 2 ^ 20
      let room := (zmrDwords c.sqe * 4 - 64) / 64
      let (ds, s) := reportList n (zrasf c.sqe) ((List.range (n.count - first)).map fun i => n.base + first + i) s
      let shown := ds.take room
      let count := if partialReport c.sqe then shown.length else ds.length
      let bytes := (leBytes 8 count ++ List.replicate 56 0 ++ shown.flatten).take (zmrDwords c.sqe * 4)
      finish (hostData s c bytes) slot .success

/-- A Read or Verify that waits for buffers before this one: the earliest deadline, then the lowest slot (R374). -/
def firstWaiting (s : State) : Option Nat :=
  match s.hif.slots.filter fun kv => kv.2.phase == .waitReadPool with
  | [] => none
  | kv :: kvs => some (kvs.foldl (fun (a : Nat × CmdSlot) x => if x.2.deadline < a.2.deadline then x else a) kv).1

/-- R374: a checked Read or Verify reserves its RD_BLOCK buffers, or waits; the waiting command with the earliest deadline is served first
and none reserves past it. -/
def onReadReservation (slot : Nat) (s : State) : State :=
  match slotOf s slot with
  | none => s
  | some c =>
    let take := fun (wait : State) =>
      match reserveRead s c.blocks with
      | some t => putSlot t slot { c with phase := .ready, reserved := c.blocks }
      | none => wait
    match c.phase with
    | .checked =>
      if !isReadKind c.kind then s
      else
        let w := putSlot s slot { c with phase := .waitReadPool }
        if (firstWaiting s).isSome then w else take w
    | .waitReadPool => if firstWaiting s = some slot then take s else s
    | _ => s

/-- A command that ZRS may take: a read that holds its buffers, any other once checked, one held. -/
def resolvable (c : CmdSlot) : Bool :=
  match c.phase with
  | .ready | .held => true
  | .checked => !isReadKind c.kind
  | _ => false

/-- The bound zones of a namespace on this device. -/
def nsZones (s : State) (n : Namespace) : List Nat :=
  (s.zrs.map.filter fun kv => kv.2.bound && decide (n.base ≤ hostZone s kv.1 ∧ hostZone s kv.1 < n.base + n.count)).map (·.1)

/-- The zones a Select All acts on (R98 and the ZNS specification). -/
def selected (k : CmdKind) (st : ZoneState) : Bool :=
  match k with
  | .close => isOpenState st
  | .finish => isActiveState st
  | .open => st == .closed
  | .reset => isActiveState st || st == .full
  | .offline => st == .readOnly
  | _ => false

/-- The body of the ADMIN message that carries a host command: kind 0, the entry, and the namespace's NSID, range, tier and caps (R560). -/
def adminCommand (c : CmdSlot) (n : Namespace) : List Byte :=
  [0] ++ sqeBytes c.sqe ++ leBytes 4 c.nsid ++ leBytes 4 n.base ++ leBytes 4 n.count ++ leBytes 1 (tierNum n.defTier) ++ leBytes 2 n.marCap ++ leBytes 2 n.morCap

/-- The act of a Select All on the zones of this device; each Reset or Finish that must wait is noted in the slot. Log 51 (DEDUCED). -/
def selectAct (s : State) (n : Nat) (c : CmdSlot) (ns : Namespace) (zs : List Nat) : State :=
  match c.kind with
  | .close => forEach zs s closeZone
  | .open => forEach zs s fun s e => (reopen s e c.func c.nsid ns false).1
  | .finish => forEach zs s fun s e => match startZoneOp s e false (some n) with | (s, true) => s | (s, false) => awaitOp s n e
  | .reset => forEach zs s fun s e => resetFor s n e
  | .offline => forEach zs s hostOffline
  | _ => s

/-- Once no zone of a Select All waits, the command waits for the journal. -/
def awaitIfDone (s : State) (n : Nat) : State :=
  match slotOf s n with
  | some c => if c.zones.isEmpty then awaitJournal s n else s
  | none => s

/-- R98, R560: a Select All: held while a zone of the namespace is busy; an Open takes all or none; members with zones of the namespace
get it as ADMIN. Log 51 (DEDUCED). -/
def resolveAll (s : State) (n : Nat) (c : CmdSlot) (ns : Namespace) : State :=
  let zs := nsZones s ns
  match zs.find? (fun e => zoneBusy s e || standsBehind s n c e) with
  | some e => holdSlot s n { c with ezn := e }
  | none =>
    match zs.findSome? fun e => (loadFault s e).map fun b => (e, b) with
    | some (e, b) => faultZone s b n { c with ezn := e }
    | none =>
      let sel := zs.filter fun e => selected c.kind (zoneState s e)
      let k := sel.length
      let tooMany := decide (ctxShare s c.func < openOfFunc s c.func + k ∨ ns.morCap < openOfNs s c.nsid + k)
      let lingering := s.zrs.linger.any fun l => l.owner == c.func || l.nsid == c.nsid
      if c.kind = .open ∧ 0 < k ∧ tooMany = true then
        (if lingering then putSlot s n { c with phase := .waitContext } else finish s n .tooManyOpenZones)
      else
        let others := membersOf s ns.base ns.count
        wakeFirst s others fun s =>
          let s := selectAct s n c ns sel
          let s := if others.all (peerLive s) then s else noteStatus s n .cascadeMemberLost
          awaitIfDone (sendAdmin s n others (adminCommand c ns)) n

/-- ZRS takes the command of a slot, Select All or not. -/
def zrsTake (s : State) (n : Nat) : State :=
  match slotOf s n with
  | none => s
  | some c =>
    match c.kind, slotNs s c with
    | .open, some ns | .close, some ns | .finish, some ns | .reset, some ns | .offline, some ns =>
      if selectAll c.sqe then resolveAll s n c ns else resolveSlot s n
    | _, _ => resolveSlot s n

/-- ZRS takes the command of a slot at its turn: it leaves the held commands unless it must be held again (R54). -/
def takeTurn (s : State) (n : Nat) : State :=
  let s := zrsTake s n
  match slotOf s n with
  | some c => if c.phase == .held then s else { s with zrs := { s.zrs with held := dropAll s.zrs.held n } }
  | none => s

/-- ZRS resolves the commands held for a zone, in the order they were held (R54). Log 51 (DEDUCED). -/
def wakeHeld (s : State) (ezn : Nat) : State :=
  if zoneBusy s ezn then s
  else forEach (s.zrs.held.filter fun n => match slotOf s n with | some c => c.ezn == ezn | none => false) s takeTurn

/-- R80: ZRS resolves the command of a slot, or one held whose turn has come (R54). `camParity` is a parity error in its zone's CAM entry, which is reloaded
from DRAM (R84); `loadBad` a load of its entry from DRAM that fails its CRC check, which completes it with Internal Error and holds the zone (R79).
Admission that is stopped takes none. -/
def onZoneResolve (slot : Nat) (camParity loadBad : Bool) (s : State) : State :=
  match slotOf s slot with
  | none => s
  | some c =>
    if s.hif.admissionStopped || !domainOn s .data || !resolvable c then s
    else
      let reload := camParity && (spFind s.zrs.cam c.ezn).isSome
      let s := if reload then zrsFault s F.zrsErr_camParity c.ezn c.func else s
      let loads := (zmapOf s c.ezn).bound && c.remote.isNone && !zoneBusy s c.ezn && !standsBehind s slot c c.ezn && (reload || !onChip s c.ezn)
      if loads && (loadBad || (reload && storedBad s c.ezn)) then faultZone s F.zrsErr_zstCrc slot c
      else wakeHeld (takeTurn s slot) c.ezn

/-- Resolve a waiting command again. -/
def resumeFrom (s : State) (slot : Nat) (ph : Phase) : State :=
  match slotOf s slot with
  | some c => if c.phase == ph && !s.hif.admissionStopped then wakeHeld (takeTurn s slot) c.ezn else s
  | none => s

/-- R42: a binding that waited on empty ready lists is tried again. -/
def onBindingRetry (slot : Nat) (s : State) : State := resumeFrom s slot .waitReady

/-- R58: a reservation that waited for its horizon goes on once the journal holds it. -/
def onHorizonWaitResume (slot : Nat) (s : State) : State :=
  match slotOf s slot with
  | some c => if (waitingOf s c.ezn).isEmpty then resumeFrom s slot .waitHorizon else s
  | none => s

/-- R154: a command that waited for die-queue entries is tried again. -/
def onDieQueueWaitResume (slot : Nat) (s : State) : State := resumeFrom s slot .waitDieQueue

/-- R53: a context still held for sealing returns to its share once the zone's admitted writes are sealed; opens that waited go on. -/
def onContextRelease (ezn : Nat) (s : State) : State :=
  if s.zrs.linger.any (fun l => l.ezn == ezn) && !unsealed s ezn then
    let s := releaseLinger s ezn
    forEach ((s.hif.slots.filter fun kv => kv.2.phase == .waitContext).map (·.1)) s fun s n => resumeFrom s n .waitContext
  else s

/-- R59: the padding deadline of a zone passes, and the zone is padded. -/
def onPadDeadlineExpiry (ezn : Nat) (s : State) : State :=
  match padDeadline s ezn with
  | some d => if domainOn s .data then padZone (advanceSch s d) ezn false false else s
  | none => s

/-- R59: a Placed Zone Append with PAD_AFTER has been staged, and its zone is padded. -/
def onPadAfterPadding (ezn : Nat) (s : State) : State :=
  match boundZone s ezn with
  | none => s
  | some (_, z) =>
    if (incomplete s ezn).any fun kv =>
        kv.2.kind == .placedAppend && pzaPadAfter kv.2.sqe && decide (kv.2.blocks ≤ kv.2.staged.length) && !secured z.tier z.wpPhys kv.2 then
      padZone s ezn false false
    else s

end Sys2Proof.Machine
end

