-- ==== Sys2Proof/Machine/Functions.lean ====
section
/-!
DEFINITION. Functions and their control (R123, R130 to R141, R628): stops, quiet, shares, the FUNCTION and CONTROLLER resets,
stop-change-start, attachments and the Function Manager's rows.
-/

namespace Sys2Proof.Machine

open Sys2Proof

/-- Change the stop flags of a function. -/
def setStop (s : State) (f : Nat) (g : StopFlags → StopFlags) : State :=
  let x := funcOf s f
  putFunc s f { x with stop := g x.stop }

/-- Every admitted command of every stopped queue has completed, as where no function is stopped (R135). Log 46, 115 (DEDUCED). -/
def quietNow (s : State) : Bool := !(s.hif.slots.any fun kv => isAdmitted kv.2 && queueStopped s kv.2.func kv.2.sqid)

/-- Event type and information of an event, and the page it points at (R100, R119, ZNS). -/
def eventCode : AsyncEvent → Nat × Nat × Nat
  | .invalidDoorbellRegister => (0, 0, 0x01)
  | .invalidDoorbellValue => (0, 1, 0x01)
  | .hostInterfaceEvents => (7, 0xC1, 0xC1)
  | .retentionStatus => (7, 0xC2, 0xC2)
  | .zoneDescriptorChanged _ => (2, 0xEF, 0xBF)
  | .temperatureThreshold => (1, 1, 0x02)

/-- Report the oldest pending event through the oldest outstanding request; the event stays masked until its page is read (R119). A stopped function
that is quiet gets no completion (R135). -/
def reportEvent (s : State) (f : Nat) : State :=
  let x := funcOf s f
  if queueStopped s f 0 && quietNow s then s
  else match x.aers, x.pendingEvents with
  | cid :: rest, e :: es =>
    let k := eventCode e
    let d := BitVec.ofNat 32 (k.1 + k.2.1 * 2 ^ 8 + k.2.2 * 2 ^ 16)
    let d1 : DWord := match e with | .zoneDescriptorChanged n => BitVec.ofNat 32 (if f = 0 then n else 1) | _ => 0
    let s := putFunc s f { x with aers := rest, pendingEvents := es, masked := x.masked ++ [e] }
    postCqe s ⟨f, 0, 0, cid, .success, false, d, d1⟩
  | _, _ => s

/-- How an unadmitted command of a stopped queue ends: an I/O command that has had no check yet fails at its generic checks first (R113). -/
def stoppedStatus (s : State) (c : CmdSlot) : Status :=
  if c.phase == .fetched && !c.sqe.admin then (genericCheck s c).getD .functionStopped else .functionStopped

/-- The unadmitted commands of a stopped function's queues complete with FUNCTION_STOPPED (R100, R134). -/
def flushStopped (s : State) (f : Nat) : State :=
  let mine := s.hif.slots.filter fun kv => kv.2.func == f && !isAdmitted kv.2 && queueStopped s f kv.2.sqid
  forEach mine s fun s kv => finish s kv.1 (stoppedStatus s kv.2)

/-- VFM_RECONF.QUIET as the stopped queues now stand (R135). -/
def markQuiet (s : State) : State := setF s F.vfmReconf_quiet (b2n (quietNow s))

/-- Stop a function by STOP_ALL or by Secondary Offline (R134). -/
def stopFunc (s : State) (f : Nat) (g : StopFlags → StopFlags) : State := markQuiet (flushStopped (setStop s f g) f)

/-- Functions run again: the completions and events that waited for them are posted (R135, R136). -/
def runAgain (s : State) : State :=
  let s := postWaiting (markQuiet s)
  forEach (funcsOf s) s reportEvent

/-- A VF is quiet: none of its commands is admitted (R142). -/
def vfQuiet (s : State) (f : Nat) : Bool := !admittedFunc s f

/-- Shares of R130 for N VFs: (queue pairs, vectors, contexts) of a VF, and of the PF with its admin vector. -/
def vfShares (n : Nat) : Nat × Nat × Nat :=
  if n = 0 then (0, 0, 0) else (min (16384 / n) 64, min (32768 / n) 128, min (8192 / n) 2048)

def pfShares (n : Nat) : Nat × Nat × Nat :=
  let v := vfShares n
  (min (16384 - n * v.1) 64, 1 + min (32768 - n * v.2.1) 128, 8192 - n * v.2.2)

/-- The shares of N VFs take effect (R131, R153). -/
def setShares (s : State) (n : Nat) : State :=
  let v := vfShares n
  let p := pfShares n
  setF (setF (setF (setF (setF (setF s F.vfmShare_qp v.1) F.vfmShare_vec v.2.1) F.vfmShare_ctx v.2.2)
    F.vfmSharePf_qpPf p.1) F.vfmSharePf_vecPf p.2.1) F.vfmSharePf_ctxPf p.2.2

/-- The I/O queue share of a function. -/
def qpShare (s : State) (f : Nat) : Nat := if f = 0 then getF s F.vfmSharePf_qpPf else getF s F.vfmShare_qp

/-- The vector share of a function. -/
def vecShare (s : State) (f : Nat) : Nat := if f = 0 then getF s F.vfmSharePf_vecPf else getF s F.vfmShare_vec

/-- Namespaces attached to a function. -/
def nsOfFunc (s : State) (f : Nat) : List Nat := (s.nss.filter fun kv => kv.2.attached == some f).map (·.1)

/-- The first block of a write that waits for a re-send from host memory: its staged copy, or its ingest copy, is to be fetched again (R322). -/
def resendBlock (s : State) (n : Nat) (c : CmdSlot) : Option Nat :=
  let pz := match boundZone s c.ezn with | some (pzn, _) => progZone s pzn | none => 0
  (List.range c.blocks).find? fun b =>
    (spFind s.mep.staged (stageKey pz (c.firstSlot + b))).any StagedBlock.resending ||
      (!c.fetched.contains b && (spFind s.mep.ingest (n * 256 + b)).any fun g => decide (0 < g.fetches))

/-- A reset of its function ends the re-sends of a write from host memory: the block fails, and no completion is posted (R325). A write of which some block
has never been fetched is cancelled instead (R140). -/
def cutResend (s : State) (n : Nat) : State :=
  match (slotOf s n).bind fun c => (resendBlock s n c).map fun b => (c, b) with
  | none => s
  | some (c, b) =>
    let missing := (List.range c.blocks).any fun b => !c.fetched.contains b && !(spFind s.mep.ingest (n * 256 + b)).any fun g => decide (0 < g.fetches)
    if missing || c.failed.isSome then s
    else dataWriteFailure (putSlot s n { c with silent := true, fetched := List.range c.blocks }) n b .dataTransferError

/-- The admitted writes of a function at its reset (R140): those with all host data go on in silence, the others are cancelled and their
zones finished below the first of them. -/
def cutWrites (s : State) (f : Nat) : State :=
  let own := fun (s : State) => s.hif.slots.filter fun kv => kv.2.func == f && isWriteKind kv.2.kind && isAdmitted kv.2 && kv.2.remote.isNone
  let s := forEach ((own s).map (·.1)) s cutResend
  let mine := own s
  let s := forEach mine s fun s kv => putSlot s kv.1 { kv.2 with silent := true }
  let cut := mine.filter fun kv => decide (kv.2.fetched.length < kv.2.blocks) && kv.2.failed.isNone
  let zones := cut.foldl (fun (a : List Nat) kv => addOnce a kv.2.ezn) []
  forEach zones s fun s e =>
    let first := (cut.filter fun kv => kv.2.ezn == e).foldl (fun a kv => min a kv.2.firstSlot) (2 ^ 20)
    loseWrites s e ((incomplete s e).filter fun kv => decide (first ≤ kv.2.firstSlot)) .abortRequested

/-- The blocks of a forwarded write that no host will supply go to the member as blocks that fail (R140, R559). -/
def cutRelay (s : State) (n : Nat) (c : CmdSlot) : State :=
  match c.remote with
  | some d =>
    if isWriteKind c.kind && c.phase == .waitMembers then
      forEach ((List.range c.blocks).drop c.fetched.length) (putSlot s n { c with silent := true, fetched := List.range c.blocks }) fun s _ =>
        sendWrData s n d (List.replicate 4096 0) true
    else s
  | none => s

/-- Every other command of a function ends in silence at its reset: reads stop, unadmitted commands are gone, administration under way
runs on without a completion (R140). -/
def cutOthers (s : State) (f : Nat) : State :=
  let mine := s.hif.slots.filter fun kv => kv.2.func == f && !(isWriteKind kv.2.kind && isAdmitted kv.2 && kv.2.remote.isNone)
  forEach mine s fun s kv =>
    let s := putSlot s kv.1 { kv.2 with silent := true }
    let s := cutRelay s kv.1 kv.2
    match kv.2.phase with
    | .waitJournal | .waitZoneOp | .waitMembers => if isReadKind kv.2.kind then endRead s kv.1 .abortRequested else s
    | _ => endRead s kv.1 .abortRequested

/-- Close the open zones of a function's namespaces (R53, R139). -/
def closeZonesOf (s : State) (f : Nat) : State :=
  let ns := nsOfFunc s f
  let zs := (s.zrs.cam.filter fun kv => match nsOfEzn s kv.1 with | some (n, _) => ns.contains n | none => kv.2.owner == f).map (·.1)
  forEach zs s closeZone

/-- The doorbell shadow entries of a function are gone (R139). -/
def dropShadow (s : State) (f : Nat) : State :=
  { s with aon := { s.aon with shadow := s.aon.shadow.filter fun kv => kv.1 / 2 ^ 17 != f } }

/-- ERR and DONE of VFM_MIG_STAT, and the end of the operation (R142, R152). -/
def migEnd (s : State) (err length : Nat) : State :=
  let s := setBit (setF (setF s F.vfmMigStat_err err) F.vfmMigStat_length length) F.vfmMigStat_done
  clrF { s with vfm := { s.vfm with migOp := none, migSource := none } } F.vfmMigCtrl_go

/-- The parts a FUNCTION and a CONTROLLER reset share: commands, queues, features, shadow, zones (R139, R140); a lifecycle nonce ends with any reset (R439). -/
def resetCommon (s : State) (f : Nat) (keep : Func → Func) : State :=
  let s := cutOthers (cutWrites s f) f
  let s := dropShadow s f
  let s := { s with hif := { s.hif with waiting := s.hif.waiting.filter fun e => e.func != f } }
  let s := { s with aon := { s.aon with heldCc := spErase s.aon.heldCc f }, sec := { s.sec with nonce := none } }
  closeZonesOf (putFunc s f (keep (funcOf s f))) f

/-- A FUNCTION reset (R139): MSI-X, statistics and freeze go too, and a migration operation of which the function is source or target (R148); the stopped flag
stays. An injection armed for the function is disarmed (R334). -/
def functionReset (s : State) (f : Nat) : State :=
  let s := match s.vfm.migOp with
    | some (_, v) => if v = f || s.vfm.migSource == some f then migEnd s 7 0 else s
    | none => s
  let s := if getF s F.mepFlip_func = f then clrF s F.mepFlip_arm else s
  resetCommon s f fun x => { noFunc with pci := x.pci, stop := { x.stop with frozen := false, shutdown := false, inFlr := false } }

/-- A CONTROLLER reset (R139): the MSI-X table and the statistics are kept. -/
def controllerResetOf (s : State) (f : Nat) : State :=
  resetCommon s f fun x => { noFunc with
    pci := x.pci, msix := x.msix, msixEnable := x.msixEnable, stats := x.stats, stop := { x.stop with shutdown := false } }

/-- Attach a namespace to a function, or detach it. -/
def setAttached (s : State) (nsid : Nat) (f : Option Nat) : State :=
  match spFind s.nss nsid with
  | some n =>
    let n := { n with attached := f }
    journal { s with nss := spPut s.nss nsid n } (.ns nsid (some n))
  | none => s

/-- The attachment a staged change leaves a namespace with (R136). Log 47 (DEDUCED). -/
def stagedOwner (s : State) (nsid : Nat) : Option Nat :=
  let now := match spFind s.nss nsid with | some n => n.attached | none => none
  s.vfm.stagedAttach.foldl (fun a x => if x.nsid = nsid then (if x.attach then some x.vf else none) else a) now

/-- Why START refuses the staged changes (R137): the first case that holds, 0 for none. Log 46 (DEDUCED). -/
def startError (s : State) : Nat :=
  let n := if s.vfm.vfEnableWritten then s.vfm.numVfsWritten else 0
  let top := (funcOf s 0).sqs.foldl (fun (a : Nat) (kv : Nat × SubQ) => max a kv.1) 0
  let topC := (funcOf s 0).cqs.foldl (fun (a : Nat) (kv : Nat × CplQ) => max a kv.1) top
  if !s.vfm.stopAll then 1
  else if (pfShares n).1 < topC then 2
  else if 255 < s.vfm.numVfsWritten && !s.vfm.ariCapable then 3
  else if 4096 < s.vfm.numVfsWritten then 4
  else 0

/-- A change of the VF set at START (R136): every VF is reset and disabled, the shares are computed anew, and the new set comes up; a VF
with a new number, or one stopped by Secondary Offline, comes up stopped. -/
def changeVfs (s : State) (enable : Bool) (n : Nat) : State :=
  let old := (funcsOf s).filter (· != 0)
  let offline := old.filter fun f => (funcOf s f).stop.byOffline
  let s := forEach old s functionReset
  let s := { s with vfm := { s.vfm with vfEnable := enable, numVfs := n } }
  let s := { s with hif := { s.hif with funcs := s.hif.funcs.filter fun kv => kv.1 == 0 } }
  let count := if enable then n else 0
  forEach ((List.range count).map (· + 1)) (setShares s count) fun s f =>
    if old.contains f && !offline.contains f then s else setStop s f fun x => { x with byOffline := true }

/-- Apply every staged change and clear the stop of STOP_ALL (R136). Log 181 (DEDUCED). -/
def applyStart (s : State) : State :=
  let s := forEach s.vfm.stagedAttach s fun s x => setAttached s x.nsid (if x.attach then some x.vf else none)
  let s := { s with vfm := { s.vfm with classShadow := s.vfm.classShadow ++ s.vfm.stagedClasses, stagedAttach := [], stagedClasses := [] } }
  let s := if s.vfm.vfEnableWritten != s.vfm.vfEnable || s.vfm.numVfsWritten != s.vfm.numVfs then
      changeVfs s s.vfm.vfEnableWritten s.vfm.numVfsWritten
    else s
  let s := forEach (funcsOf s) s fun s f => setStop s f fun x => { x with byStopAll := false }
  let s := { s with vfm := { s.vfm with stopAll := false, startWaits := false } }
  let s := forEach (s.hif.slots.filter fun kv => kv.2.phase == .waitStart) s fun s kv => awaitJournal s kv.1
  runAgain (clrF (clrF (clrF s F.vfmReconf_stopped) F.vfmReconf_start) F.vfmReconf_err)

/-- START runs: refused as a whole, or applied (R136, R137). -/
def runStart (s : State) : State :=
  let e := startError s
  if e = 0 then applyStart s
  else clrF (setF { s with vfm := { s.vfm with startWaits := false } } F.vfmReconf_err e) F.vfmReconf_start

/-- An entry of the PMU is under way, or PD_DATA is off (R138). -/
def entering (s : State) : Bool :=
  match s.pmu.flight with
  | .none | .activeIdle => !domainOn s .data
  | _ => true

/-- R136: START applies every staged change, or refuses them all; during a power-state entry it waits until PD_DATA is on again (R138). -/
def onStart (s : State) : State :=
  if flag s F.vfmReconf_start then s
  else if entering s then setBit { s with vfm := { s.vfm with startWaits := true } } F.vfmReconf_start
  else runStart (setBit s F.vfmReconf_start)

/-- R134: STOP_ALL stops every VF and the PF's I/O queues; with START in the same write the START follows. -/
def onStopAll (start : Bool) (s : State) : State :=
  let s := if s.vfm.stopAll then s
    else
      let s := setBit { s with vfm := { s.vfm with stopAll := true } } F.vfmReconf_stopped
      forEach (funcsOf s) s fun s f => stopFunc s f fun x => { x with byStopAll := true }
  if start then onStart s else s

/-- A FREEZE that waits for its VF to be quiet completes (R142). -/
def freezeDone (s : State) : State :=
  match s.vfm.migOp with
  | some (.freeze, f) => if vfQuiet s f then migEnd (setStop s f fun x => { x with frozen := true }) 0 0 else s
  | _ => s

/-- R135: the last admitted command of the stopped queues has completed: QUIET reads 1, and a FREEZE that waited for it completes. -/
def onQuietReached (s : State) : State := freezeDone (markQuiet s)

/-- The optional parts of PCI Express the device supports (R85). -/
def pciSupports : PciPart → Bool
  | .flitMode | .l0p | .aspmL1 | .ltr | .tags10 | .tags14 | .relaxedOrdering | .noSnoop | .aer | .flr | .ari | .sriov | .msix | .doe => true
  | .aspmL0s | .completionTimeoutDisable | .ecrc | .msi | .intx | .ats | .pri | .pasid | .tph | .ptm | .ide | .tdisp | .atomicOps | .resizableBar => false

/-- What a read of a function's configuration space returns (R3, R85 to R87); the SR-IOV capability is the PF's, and reads the values written. Log 177 (PRESUMED). -/
def configValue (s : State) (f : Nat) (item : ConfigItem) : Option Nat :=
  let x := (funcOf s f).pci
  let pf := fun (n : Nat) => if f = 0 then some n else none
  match item with
  | .deviceId => some (if f = 0 then 0x6408 else 0x6409)
  | .classCode => some 0x010802
  | .revisionId => some 0xB0
  | .maxPayloadSupported => some 512
  | .maxReadRequestSupported => some 4096
  | .maxPayload => some x.payload
  | .maxReadRequest => some x.readRequest
  | .outstanding => some 1024
  | .timeoutUs => some (x.timeoutUs.getD 10000)
  | .totalVfs | .initialVfs => pf 4096
  | .firstVfOffset | .vfStride => pf 1
  | .vfEnable => pf (b2n s.vfm.vfEnableWritten)
  | .numVfs => pf s.vfm.numVfsWritten
  | .supports .doe => some (b2n (f == 0))
  | .supports p => some (b2n (pciSupports p))

/-- A write of Device Control: a payload, read request or timeout that R85 does not support leaves its field as it was. Log 177 (PRESUMED). -/
def putControl (s : State) (f payload readRequest : Nat) (timeoutUs : Option Nat) : State :=
  let x := funcOf s f
  let t := match timeoutUs with
    | none => none
    | some n => if 50 ≤ n ∧ n ≤ 64000000 then some n else x.pci.timeoutUs
  putFunc s f { x with pci := ⟨if payload ∈ [128, 256, 512] then payload else x.pci.payload,
    if readRequest ∈ [128, 256, 512, 1024, 2048, 4096] then readRequest else x.pci.readRequest, t⟩ }

/-- R85 to R87, R500: an access to configuration space. A write to VF Enable or NumVFs is kept until START; an access to a VF that is not enabled is an Unsupported
Request. Log 177 (PRESUMED). -/
def onSriovConfigWrite (access : ConfigAccess) (s : State) : State :=
  if !domainOn s .host then emit s (.note "configuration request retry status" 0)
  else match access with
  | .vf enable numVfs ari => { s with vfm := { s.vfm with vfEnableWritten := enable, numVfsWritten := numVfs, ariCapable := ari } }
  | .control f payload readRequest timeoutUs =>
    if funcExists s f then putControl s f payload readRequest timeoutUs else emit s (.note "unsupported request" f)
  | .read f item =>
    if !funcExists s f then emit s (.note "unsupported request" f)
    else match configValue s f item with
      | some n => emit s (.configRead f item n)
      | none => s

/-- An FLR of the PF: VF Enable is cleared, every VF takes a FUNCTION reset, and what was staged is discarded (R141). -/
def flrPf (s : State) : State :=
  let vfs := (funcsOf s).filter (· != 0)
  let s := forEach vfs s functionReset
  let s := functionReset s 0
  let s := { s with
    hif := { s.hif with funcs := s.hif.funcs.filter fun kv => kv.1 == 0 },
    vfm := { s.vfm with
      vfEnable := false, numVfs := 0, vfEnableWritten := false, numVfsWritten := 0, stagedAttach := [], stagedClasses := [], startWaits := false,
      flrWaits := false } }
  setShares s 0

/-- R139, R141: an FLR of a VF, or of the PF; one of the PF that finds START reading 1 waits until that START has completed. -/
def onFlr (func : Nat) (s : State) : State :=
  if !funcExists s func then s
  else if func ≠ 0 then functionReset s func
  else if s.vfm.startWaits then setStop { s with vfm := { s.vfm with flrWaits := true } } 0 fun x => { x with inFlr := true }
  else flrPf s

/-- A START that waited for PD_DATA runs, and then an FLR of the PF that waited for it (R138, R141). -/
def runWaiting (s : State) : State :=
  let s := if s.vfm.startWaits then runStart { s with vfm := { s.vfm with startWaits := false } } else s
  if s.vfm.flrWaits then flrPf s else s

/-- The register CC of a function takes a value. -/
def putCc (s : State) (f : Nat) (cc : DWord) : State :=
  let x := funcOf s f
  putFunc s f { x with regs := { x.regs with cc := cc } }

/-- R102: a write to CC while PD_DATA is off is held in the mirror and raises a wake. -/
def holdCc (s : State) (f : Nat) (cc : DWord) : State :=
  wakeRequest { s with aon := { s.aon with heldCc := spPut s.aon.heldCc f cc } } F.pmuWake_cc

/-- A write to a frozen VF is dropped and recorded (R143). -/
def droppedWrite (s : State) (f offset : Nat) : State := hieRecord s 4 f offset

/-- R102, R139, R143: CC.EN written from 1 to 0. -/
def onControllerReset (func : Nat) (s : State) : State :=
  let x := funcOf s func
  if !funcExists s func || !ccEn x then s
  else if x.stop.frozen then droppedWrite s func 0x14
  else if !domainOn s .data then holdCc s func (x.regs.cc &&& ~~~ 1#32)
  else controllerResetOf s func

/-- Enable a controller (R500): its admin queues stand at ASQ and ACQ with the sizes of AQA, and CSTS.RDY sets once
the boot is complete; while a boot has stopped CSTS.CFS is set (R591). Log 138 (DEDUCED). -/
def enableFunc (s : State) (f : Nat) (cc aqa : DWord) (asq acq : Nat) : State :=
  let x := funcOf s f
  let n := aqa.toNat
  putFunc s f { x with
    regs := { cc := cc, aqa := aqa, asq := asq, acq := acq, rdy := getF s F.prfBoot_stage == 10, cfs := s.lrs.bootStopped, shst := 0 },
    sqs := spPut x.sqs 0 ⟨asq, n % 4096, 0, 0, 0, none⟩,
    cqs := spPut x.cqs 0 ⟨acq, n / 65536 % 4096, 0, 0, true, 0, true⟩,
    stop := { x.stop with shutdown := false } }

/-- R500, R102, R143: CC.EN written from 0 to 1 with the admin queue registers as the host has set them. Log 41 (DESIGN CHOICE). -/
def onCcEnable (func : Nat) (cc aqa : DWord) (asq acq : Nat) (s : State) : State :=
  let x := funcOf s func
  if !funcExists s func then s
  else if x.stop.frozen then droppedWrite s func 0x14
  else if !domainOn s .data then
    holdCc (putFunc s func { x with regs := { x.regs with aqa := aqa, asq := asq, acq := acq } }) func cc
  else if ccEn x || !cc.getLsbD 0 then s
  else enableFunc s func cc aqa asq acq

/-- Pad at once every zone of a function's namespaces that has incomplete writes (R59, R628). -/
def padZonesOf (s : State) (f : Nat) : State :=
  let zs := (s.hif.slots.filter fun kv => isWriteKind kv.2.kind && isAdmitted kv.2 && kv.2.remote.isNone).foldl
    (fun (a : List Nat) kv => addOnce a kv.2.ezn) []
  forEach (zs.filter fun e => match nsOfEzn s e with | some (_, n) => n.attached == some f | none => false) s fun s e => padZone s e false false

/-- R628: CC.SHN written 01b or 10b stops fetch on the function and pads its zones; SHST reads 10b once its admitted commands complete. -/
def onShutdownNotification (func shn : Nat) (s : State) : State :=
  let x := funcOf s func
  if !funcExists s func || !(shn == 1 || shn == 2) then s
  else if x.stop.frozen then droppedWrite s func 0x14
  else
    let cc : DWord := (x.regs.cc &&& ~~~(0xC000#32)) ||| BitVec.ofNat 32 (shn * 2 ^ 14)
    if !domainOn s .data then holdCc s func cc
    else
      let s := putFunc s func { x with regs := { x.regs with cc := cc, shst := 1 }, stop := { x.stop with shutdown := true } }
      settleShutdown (padZonesOf s func) func

/-- A write to CC takes effect: an enable, a CONTROLLER reset, a shutdown notification, or the value alone. -/
def applyCc (s : State) (f : Nat) (cc : DWord) : State :=
  let x := funcOf s f
  let en := cc.getLsbD 0
  let shn := cc.toNat / 2 ^ 14 % 4
  if x.stop.frozen then droppedWrite s f 0x14
  else if en && !ccEn x then onCcEnable f cc x.regs.aqa x.regs.asq x.regs.acq s
  else if !en && ccEn x then onControllerReset f s
  else if shn = 1 ∨ shn = 2 then onShutdownNotification f shn s
  else putCc s f cc

/-- A write to CC held in the mirror takes effect once PD_DATA is back (R102). -/
def takeHeldCc (s : State) : State :=
  let held := s.aon.heldCc
  forEach held { s with aon := { s.aon with heldCc := [] } } fun s kv => applyCc s kv.1 kv.2

/-- R134: Virtualization Management, action Secondary Offline (7); other actions than this and Secondary Online fail (R131). -/
def onSecondaryOffline (slot : Nat) (s : State) : State :=
  withFetched s slot (isAdmin 0x1C) fun c =>
    let f := virtCntl c.sqe
    if virtAct c.sqe = 9 then s
    else if virtAct c.sqe ≠ 7 then finish s slot .invalidField
    else if f = 0 ∨ funcExists s f = false then finish s slot .invalidControllerId
    else finish (stopFunc s f fun x => { x with byOffline := true }) slot .success

/-- R136, R143: Virtualization Management, action Secondary Online (9). -/
def onSecondaryOnline (slot : Nat) (s : State) : State :=
  withFetched s slot (fun c => isAdmin 0x1C c && virtAct c.sqe == 9) fun c =>
    let f := virtCntl c.sqe
    if f = 0 ∨ funcExists s f = false then finish s slot .invalidControllerId
    else if (funcOf s f).stop.frozen then finish s slot .commandSequenceError
    else finish (runAgain (setStop s f fun x => { x with byOffline := false })) slot .success

end Sys2Proof.Machine
end

