-- ==== Sys2Proof/Machine/ZoneRows.lean ====
section
/-!
DEFINITION. What the journal and the media do to zones: Resets and Finishes that waited (R54), journal pages (R57, R58), namespace creation,
deletion and attachment (R126 to R129), and the ZRS command port (R34, R42, R79, R294 to R296).
-/

namespace Sys2Proof.Machine

open Sys2Proof

/-- The blocks of a physical zone on a member, one per plane. -/
def memberBlocks (z : ZstEntry) (pzn m : Nat) : List (Nat × Nat) := (List.range 4).map fun p => (p, blockFor z pzn m p)

/-- An erase of blocks is queued or under way on a die. -/
def eraseHeld (s : State) (d : Nat) (bs : List (Nat × Nat)) : Bool :=
  let x := dieOf s d
  (x.queue ++ (x.current.toList ++ x.suspended.toList).map Running.entry).any fun e => match e.op with | .erase b => b.any bs.contains | _ => false

/-- Erase-ahead (R43): device firmware queues the erase of a DIRTY physical zone outside host binding, with a class and a deadline, on the members that
hold a DIRTY block-plane of it and have no erase of it under way. -/
def eraseZone (s : State) (pzn : Nat) (cls : Cls) (deadline : Nat) : State :=
  let z := zstOf s pzn
  let die := fun m => memberDie (groupOf pzn) m
  let dirty := fun m => (memberBlocks z pzn m).any fun x => (brtOf s (brtIndex (die m) x.1 x.2)).cond == .dirty
  let ms := (List.range 16).filter fun m => dirty m && !eraseHeld s (die m) (memberBlocks z pzn m)
  if z.bound || s.jrn.home.contains pzn || s.mhm.withdrawn.contains pzn || !groupInService s (groupOf pzn) || !(ms.all fun m => decide (0 < queueSpare (dieOf s (die m)))) then s
  else
    let s := { s with zrs := { s.zrs with ready := spMod s.zrs.ready (groupOf pzn) fun l => dropAll l pzn } }
    forEach ms s fun s m =>
      enqueue s (die m) ⟨.erase (memberBlocks z pzn m), z.tier, .device, cls, deadline, 0, false⟩

/-- A zone goes to Read Only or Offline by its media (R294, R295). -/
def mediaState (s : State) (ezn : Nat) (st : ZoneState) : State :=
  match boundZone s ezn with
  | none => s
  | some (pzn, z) =>
    let s := forEach (incomplete s ezn) s fun s kv => finish s kv.1 .writeFault
    let s := match spFind s.zrs.ops ezn with
      | some o =>
        let s := { s with zrs := { s.zrs with ops := spErase s.zrs.ops ezn } }
        (match o.slot with | some n => finish s n .invalidZoneStateTransition | none => s)
      | none => s
    let s := if st = .offline then cancelReloc (unscan s ezn) pzn else s
    let s := releaseLinger (leaveCam s ezn) ezn
    let s := modZone (freeResv s ezn) ezn fun z => { z with wpHost := durableOffsets z, state := st }
    let s := dropZoneWork { s with zrs := { s.zrs with padReqs := spErase s.zrs.padReqs ezn } } pzn
    journalZone (if z.state = st then s else zoneChanged s ezn) ezn

/-- Zones of a namespace that its deletion resets, and those it releases (R128). -/
def deleteZones (s : State) (n : Namespace) : List Nat × List Nat :=
  let zs := nsZones s n
  (zs.filter (fun e => zoneState s e != .offline), zs.filter fun e => zoneState s e == .offline)

/-- A bound Offline zone is released at the deletion of its namespace (R71): to erase-ahead, or withdrawn with its stitch group out of
service. -/
def releaseOffline (s : State) (ezn : Nat) : State :=
  match boundZone s ezn with
  | none => s
  | some (pzn, _) =>
    let s := applyReset s ezn
    if groupInService s (groupOf pzn) then s else withdrawZone s pzn

/-- The namespaces a delete names. -/
def deleteTargets (s : State) (nsid : Nat) : List Nat := if nsid = 0xFFFFFFFF then s.nss.map (·.1) else [nsid]

/-- The body of a MIRROR: kind 0 a namespace, kind 1 a deadline (R560). -/
def mirrorNs (nsid : Nat) (n : Namespace) : List Byte :=
  leBytes 1 0 ++ leBytes 2 nsid ++ leBytes 4 n.base ++ leBytes 4 n.count ++ leBytes 1 (tierNum n.defTier) ++ leBytes 2 n.marCap ++ leBytes 2 n.morCap ++
    leBytes 2 (match n.attached with | some f => f + 1 | none => 0)

/-- The last steps of a delete: key slots erased, ranges free, the journal asked (R128). -/
def deleteFinal (s : State) (n nsid : Nat) : State :=
  let ids := deleteTargets s nsid
  let s := eraseKeys s fun k => ids.contains (k + 1)
  let s := forEach ids s fun s i => mirror (journal { s with nss := spErase s.nss i } (.ns i none)) (leBytes 1 0 ++ leBytes 2 i)
  awaitJournal s n

/-- A slot's zones have all taken effect: a delete goes on to its last steps, any other command to the journal. -/
def opsDone (s : State) (n : Nat) : State :=
  match slotOf s n with
  | none => s
  | some c =>
    if !c.zones.isEmpty then s
    else if isAdmin 0x0D c then deleteFinal s n c.sqe.nsid
    else awaitJournal s n

/-- R54: a Reset or Finish that waited takes effect once the zone's admitted writes have completed (a Finish also waits for the switch of
its relocation, R286); ZRS then resolves the held commands in order. -/
def onZoneOpTakesEffect (ezn : Nat) (s : State) : State :=
  match spFind s.zrs.ops ezn with
  | none => s
  | some o =>
    let relocating := match boundZone s ezn with | some (pzn, _) => (relocOf s pzn).isSome | none => false
    if !(incomplete s ezn).isEmpty || (!o.isReset && relocating) then s
    else
      let ex := o.isReset && exhausts s ezn
      let s := { s with zrs := { s.zrs with ops := spErase s.zrs.ops ezn } }
      let s := if o.isReset then applyReset s ezn else if isActiveState (zoneState s ezn) then makeFull s ezn false false else s
      let s := match o.slot with
        | some n =>
          match slotOf s n with
          | some c =>
            let s := putSlot s n { c with zones := dropAll c.zones ezn }
            opsDone (if ex && !c.sqe.admin then noteStatus s n .zoneEpochExhausted else s) n
          | none => s
        | none => s
      wakeHeld s ezn

/-- One record of the journal is programmed. -/
def journalTake (j : Journal) (r : JRec) : Journal :=
  match r with
  | .zone e z => { j with zones := spPut j.zones e z }
  | .ns i (some n) => { j with nss := spPut j.nss i n }
  | .ns i none => { j with nss := spErase j.nss i }
  | .term t => { j with term := t }
  | .removed b => { j with removed := b }
  | .stamp ms o => { j with stamp := some (ms, o) }
  | .release _ => j

/-- A write's slots are durable and the journal holds a durable point that covers them (R57). -/
def writeDone (s : State) (ezn : Nat) (c : CmdSlot) : Bool :=
  match spFind s.jrn.zones ezn with
  | some z => (match z.zst, z.write with
    | some e, some w => decide (c.firstSlot + c.blocks ≤ w.durableHr * hrSlots e.tier)
    | _, _ => false)
  | none => false

/-- Insert a write by its first slot. -/
def insertWrite (kv : Nat × CmdSlot) : Sparse CmdSlot → Sparse CmdSlot
  | [] => [kv]
  | x :: xs => if kv.2.firstSlot ≤ x.2.firstSlot then kv :: x :: xs else x :: insertWrite kv xs

/-- The incomplete writes of a zone in the order of their reservation. -/
def writesInOrder (s : State) (ezn : Nat) : Sparse CmdSlot := (incomplete s ezn).foldr insertWrite []

/-- Complete the writes of a zone in order, up to the first that is not done (R57). -/
def completeRun (ezn : Nat) : Sparse CmdSlot → State → State
  | [], s => s
  | kv :: kvs, s =>
    if writeDone s ezn kv.2 then completeRun ezn kvs (finish s kv.1 (kv.2.failed.getD .success)) else s

/-- Complete what can complete in a zone; the last write of a Full zone gives the staging reservation back (R73), and commands held for a
silent write go on (R140). -/
def completeWrites (s : State) (ezn : Nat) : State :=
  let had := (incomplete s ezn).isEmpty
  let s := completeRun ezn (writesInOrder s ezn) s
  let s := if (incomplete s ezn).isEmpty && !isActiveState (zoneState s ezn) then freeResv s ezn else s
  if had then s else wakeHeld s ezn

/-- The zones with incomplete writes. -/
def writingZones (s : State) : List Nat :=
  (s.hif.slots.filter fun kv => isWriteKind kv.2.kind && isAdmitted kv.2 && kv.2.remote.isNone).foldl
    (fun (a : List Nat) kv => addOnce a kv.2.ezn) []

/-- The header of the journal's next page: KIND 2, tenant 0, EZN 0x3F_FFFF, its block index in the journal zones (R252). Log 188 (DESIGN CHOICE). -/
def systemHeader (j : Journal) : Word := blockHeader 2 0 j.page 0x3FFFFF j.epoch

/-- The journal once a page with every waiting record is programmed (R58). -/
def pageTaken (j : Journal) : Journal := { j.waiting.foldl journalTake j with waiting := [], waitSince := none, page := j.page + 1 }

/-- A page with every waiting record is programmed on the journal zones (R58, R252). Log 77 (DEDUCED), 188 (DESIGN CHOICE). -/
def programPage (s : State) : State :=
  if s.jrn.waiting.isEmpty then s else emit { s with jrn := pageTaken s.jrn } (.systemPage (systemHeader s.jrn))

/-- R57, R58: device firmware programs the page that holds every waiting record; what waited for the journal completes. -/
def onJournalPageProgram (s : State) : State :=
  if s.jrn.waiting.isEmpty then s
  else
    let s := programPage s
    let done := s.hif.slots.filter fun kv => kv.2.phase == .waitJournal && adminDone s kv.1
    let s := forEach done s fun s kv => finish s kv.1 (kv.2.failed.getD .success)
    let s := match s.vfm.migOp with
      | some (.restore, _) => migEnd s 0 (getF s F.vfmMigStat_length)
      | _ => s
    forEach (writingZones s) s completeWrites

/-- The devices whose zones a namespace may hold: this one, and in a cascade every device that has joined. -/
def zoneDevices (s : State) : List Nat :=
  if standalone s then [0]
  else (List.range 16).filter fun d => d == devId s || (match (peerOf s d).cond with | .live | .departed | .lost => true | _ => false)

/-- A range of host zone numbers is free and lies on devices of the cascade. -/
def rangeFree (s : State) (base count : Nat) : Bool :=
  let w := exposedZones s
  let ds := zoneDevices s
  let first := base / w
  let last := (base + count - 1) / w
  ((List.range (last + 1 - first)).all fun i => ds.contains (first + i)) &&
    s.nss.all fun kv => decide (base + count ≤ kv.2.base ∨ kv.2.base + kv.2.count ≤ base)

/-- The lowest base of a free range of `count` zones (R127). -/
def lowestRange (s : State) (count : Nat) : Option Nat :=
  let w := exposedZones s
  let starts := (zoneDevices s).map (· * w) ++ s.nss.map fun kv => kv.2.base + kv.2.count
  match starts.filter fun b => rangeFree s b count with
  | [] => none
  | b :: bs => some (minOr b (b :: bs))

/-- A member that holds zones of a range is lost (R560). -/
def memberMissing (s : State) (base count : Nat) : Bool :=
  (membersOf s base count).any fun d => match (peerOf s d).cond with | .live | .departed => false | _ => true

/-- R13, R126, R127: Namespace Management, create; vendor fields whose reserved bits are not zero fail with Invalid Field. Log 49 (PRESUMED), 193 (DESIGN CHOICE). -/
def onNamespaceCreate (slot : Nat) (data : NsCreate) (s : State) : State :=
  withFetched s slot (fun c => isAdmin 0x0D c && nsSel c.sqe == 0) fun c =>
    match tierOf (data.defTier.toNat % 4) with
    | none => finish s slot .invalidField
    | some t =>
      if data.nsze = 0 ∨ data.nsze % 2 ^ 20 ≠ 0 ∨ data.flbas ≠ 0 ∨ 4 ≤ data.defTier.toNat ∨ data.reservedZero = false then
        finish s slot .invalidField
      else if data.marCap = 0 ∨ data.morCap = 0 then finish s slot .zeroLength
      else
        let nsid := spFree s.nss 4096 1
        let count := data.nsze / 2 ^ 20
        match lowestRange s count with
        | none => finish s slot .namespaceInsufficientCapacity
        | some base =>
          if 4096 < nsid then finish s slot .namespaceIdUnavailable
          else if memberMissing s base count then finish s slot .cascadeMemberLost
          else wakeFirst s (membersOf s base count) fun s =>
            let n : Namespace := ⟨base, count, t, data.marCap, data.morCap, none, 0, none⟩
            let s := journal { s with nss := spPut s.nss nsid n } (.ns nsid (some n))
            let s := putSlot s slot { c with kind := .admin, phase := .waitJournal, dw0 := BitVec.ofNat 32 nsid }
            mirror (sendAdmin s slot (membersOf s base count) (adminCommand { c with nsid := nsid } n)) (mirrorNs nsid n)

/-- Why a namespace cannot be deleted (R128, R560). -/
def deleteError (s : State) (nsid : Nat) : Option Status :=
  match spFind s.nss nsid with
  | none => some .invalidNamespace
  | some n =>
    let busy := match n.attached with | some f => f != 0 && !funcStopped s f | none => false
    if busy then some .commandSequenceError
    else if memberMissing s n.base n.count then some .cascadeMemberLost
    else none

/-- R128: Namespace Management, delete: every zone is reset or released, then the key slot goes and the range is free. -/
def onNamespaceDelete (slot : Nat) (s : State) : State :=
  withFetched s slot (fun c => isAdmin 0x0D c && nsSel c.sqe == 1) fun c =>
    let ids := deleteTargets s c.sqe.nsid
    match ids.findSome? (deleteError s) with
    | some st => finish s slot st
    | none => wakeFirst s (ids.flatMap fun i => match spFind s.nss i with | some n => membersOf s n.base n.count | none => []) fun s =>
      let s := putSlot s slot { c with kind := .admin, phase := .waitZoneOp }
      let s := forEach ids s fun s i =>
        match spFind s.nss i with
        | none => s
        | some n =>
          let zs := deleteZones s n
          let s := forEach zs.1 s fun s e =>
            match startZoneOp s e true (some slot) with
            | (s, true) => s
            | (s, false) => awaitOp s slot e
          let s := forEach zs.2 s releaseOffline
          sendAdmin s slot (membersOf s n.base n.count) (adminCommand { c with nsid := i } n)
      opsDone s slot

/-- R91, R129: Namespace Attachment: attach (0) or detach (1) one controller, at once, staged, or refused. A staged one completes once START has applied it
and the journal holds it (R58). Log 47, 181 (DEDUCED). -/
def onNamespaceAttachment (slot : Nat) (controllers : List Nat) (s : State) : State :=
  withFetched s slot (isAdmin 0x15) fun c =>
    let nsid := c.sqe.nsid
    let sel := nsSel c.sqe
    if 1 < sel then finish s slot .invalidField
    else if (spFind s.nss nsid).isNone then finish s slot .invalidNamespace
    else
      match controllers with
      | [f] =>
        if 4096 < f then finish s slot .controllerListInvalid
        else
          let owner := stagedOwner s nsid
          let other := s.nss.any fun kv => kv.1 != nsid && stagedOwner s kv.1 == some f
          if sel = 0 ∧ owner.isSome then finish s slot .namespaceAlreadyAttached
          else if sel = 1 ∧ owner ≠ some f then finish s slot .namespaceNotAttached
          else if sel = 0 ∧ f ≠ 0 ∧ other = true then finish s slot .controllerListInvalid
          else if f ≠ 0 ∧ (funcExists s f = false ∨ funcStopped s f = false) then finish s slot .commandSequenceError
          else if f ≠ 0 ∧ s.vfm.stopAll = true then
            putSlot { s with vfm := { s.vfm with stagedAttach := s.vfm.stagedAttach ++ [⟨nsid, f, decide (sel = 0)⟩] } } slot
              { c with kind := .admin, phase := .waitStart }
          else
            let s := setAttached s nsid (if sel = 0 then some f else none)
            let s := match spFind s.nss nsid with | some n => mirror s (mirrorNs nsid n) | none => s
            putSlot s slot { c with kind := .admin, phase := .waitJournal }
      | _ => finish s slot .controllerListInvalid

/-- Physical zones neither withdrawn nor bound (R296), on the enabled bays. -/
def spareZones (s : State) : Nat :=
  65536 * (enabledBays s).length - (s.zrs.zst.filter fun kv => kv.2.bound).length - s.mhm.withdrawn.length

/-- The reserve of R43. -/
def zoneReserve (s : State) : Nat := if s.otp.baysEn = 0x3 then 8192 else 16384

/-- A physical zone may enter a ready list: erased, unbound, in service, none of the journal's, the reserve kept (R42, R43, R296). -/
def mayBeReady (s : State) (pzn : Nat) : Bool :=
  let z := zstOf s pzn
  decide (pzn < 262144) && !z.bound && !s.mhm.withdrawn.contains pzn && groupInService s (groupOf pzn) &&
    !isTarget s pzn && !s.jrn.home.contains pzn && !((spFind s.zrs.ready (groupOf pzn)).getD []).contains pzn &&
    decide (zoneReserve s < spareZones s) &&
    (zoneRecords z pzn).all fun i => (brtOf s i).cond == .erased && (brtOf s i).kind != .bad && brtGood s i

/-- The highest PE of a physical zone's block-planes.. Log 132 (DEDUCED). -/
def maxPe (s : State) (pzn : Nat) : Nat := (zoneRecords (zstOf s pzn) pzn).foldl (fun a i => max a (brtOf s i).pe) 0

/-- A ready list runs by ascending highest PE; of equal ones the earlier stands first (R287). -/
def readyInsert (s : State) (pzn : Nat) : List Nat → List Nat
  | [] => [pzn]
  | x :: xs => if maxPe s x ≤ maxPe s pzn then x :: readyInsert s pzn xs else pzn :: x :: xs

/-- A request for a zone loads its entries as a resolve does: a load that finds a fault holds the zone (R79, R84). -/
def portLoad (s : State) (ezn : Nat) (act : State → State) : State :=
  match loadFault s ezn with
  | some bit => let s := zrsFault s bit ezn 0; { s with zrs := { s.zrs with heldZones := addOnce s.zrs.heldZones ezn } }
  | none => act (cacheZone s ezn)

/-- R34: a request of a management core to the ZRS command port. Log 108 (DESIGN CHOICE). -/
def onZrsCommandPortRequest (request : ZrsRequest) (s : State) : State :=
  match request with
  | .readOnly e => if (zmapOf s e).bound && zoneState s e != .offline then portLoad s e fun s => mediaState s e .readOnly else s
  | .offline e => if (zmapOf s e).bound then portLoad s e fun s => mediaState s e .offline else s
  | .addReady p =>
    if mayBeReady s p then
      { s with zrs := { s.zrs with ready := spPut s.zrs.ready (groupOf p) (readyInsert s p ((spFind s.zrs.ready (groupOf p)).getD [])) } }
    else s
  | .erase p cls deadline => eraseZone s p (clsOf cls) deadline
  | .withdraw p => if (zstOf s p).bound then s else withdrawZone s p
  | .rewrite e =>
    let rec_ := match (waitingOf s e).getLast? with | some z => some z | none => spFind s.jrn.zones e
    match rec_ with
    | none => s
    | some j =>
      let s := putZmap s e j.map
      let s := match j.zst with | some z => putZst s j.map.pzn z | none => s
      wakeHeld { s with zrs := { s.zrs with heldZones := dropAll s.zrs.heldZones e } } e

end Sys2Proof.Machine
end

