-- ==== Sys2Proof/Machine/Migrate.lean ====
section
/-!
DEFINITION. Live migration (R142 to R148): FREEZE, SAVE, RESTORE, UNFREEZE and the image.
-/

namespace Sys2Proof.Machine

open Sys2Proof

/-- The Deadline Statistics page (R118). -/
def statsPage (x : Func) : List Byte :=
  (List.range 4).flatMap fun i =>
    let k := listAt ⟨0, 0, 0, 0⟩ x.stats i
    leBytes 8 k.completed ++ leBytes 8 k.missed ++ leBytes 8 k.appendLate ++ leBytes 8 k.raced

/-- The bit of an event kind in PENDING_AE (R144). -/
def eventBit : AsyncEvent → Nat
  | .invalidDoorbellRegister => 0
  | .invalidDoorbellValue => 1
  | .hostInterfaceEvents => 2
  | .retentionStatus => 3
  | .zoneDescriptorChanged _ => 4
  | .temperatureThreshold => 5

/-- PENDING_AE. Log 44 (DESIGN CHOICE). -/
def pendingBits (x : Func) : Nat := x.pendingEvents.foldl (fun a e => if bitAt a (eventBit e) then a else a + 2 ^ eventBit e) 0

/-- The admin queues of a function, empty where they are not set up. -/
def sqOf (x : Func) (i : Nat) : SubQ := (spFind x.sqs i).getD ⟨0, 0, 0, 0, 0, none⟩
def cqOf (x : Func) (i : Nat) : CplQ := (spFind x.cqs i).getD ⟨0, 0, 0, 0, false, 0, false⟩

/-- The controller section (R144). -/
def imageController (x : Func) : List Byte :=
  let f := x.features
  leBytes 4 x.regs.cc.toNat ++ leBytes 4 x.regs.aqa.toNat ++ leBytes 8 x.regs.asq ++ leBytes 8 x.regs.acq ++
    leBytes 2 (sqOf x 0).head ++ leBytes 2 (sqOf x 0).tail ++ leBytes 2 (cqOf x 0).head ++ leBytes 2 (cqOf x 0).tail ++
    leBytes 4 (b2n (cqOf x 0).phase) ++
    leBytes 4 f.arbitration.toNat ++ leBytes 4 f.tempThreshold.toNat ++ leBytes 4 f.numQueues.toNat ++ leBytes 4 f.intCoalescing.toNat ++
    leBytes 4 f.asyncEventConfig.toNat ++ leBytes 4 (clsNum f.defClass) ++ leBytes 4 x.aers.length ++ leBytes 4 (pendingBits x) ++ leBytes 60 0

/-- One queue entry (R144). -/
def imageQueue (x : Func) (i : Nat) : List Byte :=
  let q := sqOf x i
  let c := cqOf x i
  leBytes 8 q.base ++ leBytes 8 c.base ++ leBytes 2 q.size ++ leBytes 2 c.size ++ leBytes 2 q.head ++ leBytes 2 q.tail ++
    leBytes 2 c.head ++ leBytes 2 c.tail ++
    leBytes 4 (q.cqid % 128 + c.iv % 128 * 2 ^ 8 + b2n c.phase * 2 ^ 16 + b2n c.ien * 2 ^ 17 + b2n (spFind x.sqs i).isSome * 2 ^ 18 +
      b2n (spFind x.cqs i).isSome * 2 ^ 19)

/-- An MSI-X entry before it is written: masked. -/
def noMsix : MsixEntry := ⟨0, 0, true, false, false⟩

/-- One vector entry (R144). -/
def imageVector (x : Func) (i : Nat) : List Byte :=
  let e := spGet noMsix x.msix i
  leBytes 8 e.addr ++ leBytes 4 e.data.toNat ++ leBytes 4 (b2n e.mask + 2 * b2n e.pending + 4 * b2n e.coalesceOff)

/-- The namespace section (R144). -/
def imageNs : Option (Nat × Namespace) → List Byte
  | none => leBytes 32 0
  | some (i, n) => leBytes 4 i ++ leBytes 4 n.base ++ leBytes 4 n.count ++ leBytes 4 (tierNum n.defTier) ++ leBytes 2 n.marCap ++ leBytes 2 n.morCap ++
    leBytes 12 0

/-- EPOCH_FLOOR: one more than the largest epoch of the namespace's zones (R144); the largest on other devices is a free value. Log 190 (DESIGN CHOICE). -/
def imageFloor (s : State) : Option (Nat × Namespace) → Nat × State
  | none => (0, s)
  | some (_, n) =>
    let here := (s.zrs.map.filter fun kv => decide (n.base ≤ hostZone s kv.1 ∧ hostZone s kv.1 < n.base + n.count)).foldl (fun a kv => max a kv.2.epoch) 0
    if (membersOf s n.base n.count).isEmpty then (1 + here, s)
    else
      let (e, s) := draw s
      (1 + max here (e % 2 ^ 24), s)

/-- Image length (R144). -/
def imageLength (nqp nvec : Nat) (key : Bool) : Nat := 368 + 32 * nqp + 16 * nvec + 48 * b2n key

/-- The image's header (R144). -/
def imageHeader (s : State) (vf nqp nvec floor : Nat) (key : Bool) (nonce : List Byte) : List Byte :=
  leBytes 4 0x64084D49 ++ leBytes 4 (1 + b2n key * 2 ^ 16) ++ leBytes 4 (imageLength nqp nvec key) ++
    leBytes 4 (vf % 8192 + s.vfm.numVfs % 8192 * 2 ^ 16) ++ leBytes 8 s.otp.devUid.toNat ++ leBytes 4 s.clk.ophours ++
    leBytes 4 (s.clk.pwrcyc % 2 ^ 24) ++ leBytes 4 (nqp % 128 + nvec % 256 * 2 ^ 8) ++ leBytes 4 floor ++ bytesAt nonce 0 12 ++ leBytes 12 0

/-- A write to VFM_MIG_CTRL that sets GO (R142): BUSY while GO reads 1, else the operation runs. -/
def migStart (s : State) (vf op bufPages : Nat) (keyExport : Bool) (run : State → State) : State :=
  if flag s F.vfmMigCtrl_go then setF s F.vfmMigStat_err 1
  else
    run (setBit (setF (setF (setF (setF s F.vfmMigCtrl_vf vf) F.vfmMigCtrl_op op) F.vfmMigCtrl_bufPages bufPages)
      F.vfmMigCtrl_keyExport (b2n keyExport)) F.vfmMigCtrl_go)

/-- A VF number names an enabled VF. -/
def isVf (s : State) (vf : Nat) : Bool := vf != 0 && funcExists s vf

/-- R142: FREEZE stops a VF and completes when it is quiet. -/
def onFreeze (vf bufPages : Nat) (keyExport : Bool) (s : State) : State :=
  migStart s vf 1 bufPages keyExport fun s =>
    if !isVf s vf || (funcOf s vf).stop.frozen then migEnd s 2 0
    else
      let s := stopFunc s vf fun x => { x with byOffline := true }
      freezeDone { s with vfm := { s.vfm with migOp := some (.freeze, vf) } }

/-- R142: UNFREEZE ends a freeze; the VF stays stopped. -/
def onUnfreeze (vf bufPages : Nat) (keyExport : Bool) (s : State) : State :=
  migStart s vf 4 bufPages keyExport fun s =>
    if !isVf s vf || !(funcOf s vf).stop.frozen then migEnd s 2 0
    else migEnd (setStop s vf fun x => { x with frozen := false, byOffline := true }) 0 0

/-- The image buffer of VFM_MIG_ADDR (R151). -/
def migAddr (s : State) : Nat := getF s F.vfmMigAddr_addr * 4096

/-- R144: SAVE writes the image of a frozen VF to VFM_MIG_ADDR; with KEY_EXPORT the tenant's key goes with it, wrapped, and its slot is erased, here and by ADMIN, kind 4, on every other device that holds zones of the namespace (R560). -/
def onSave (vf bufPages : Nat) (keyExport : Bool) (s : State) : State :=
  migStart s vf 2 bufPages keyExport fun s =>
    if !isVf s vf || !(funcOf s vf).stop.frozen then migEnd s 2 0
    else if bufPages = 0 then migEnd s 9 0
    else
      let x := funcOf s vf
      let nqp := qpShare s vf
      let nvec := vecShare s vf
      let ns := s.nss.find? fun kv => kv.2.attached == some vf
      let key := match ns with | some (i, _) => keyBytes s (i - 1) | none => none
      if bufPages * 4096 < imageLength nqp nvec keyExport then migEnd s 8 0
      else if keyExport && key.isNone then migEnd s 6 0
      else
        match keyBytes s slotMigration with
        | none => migEnd s 5 0
        | some mk =>
          let (nonce, s) := drawBytes s 12
          let (floor, s) := imageFloor s ns
          let body := imageHeader s vf nqp nvec floor keyExport nonce ++ imageController x ++
            (List.range nqp).flatMap (fun i => imageQueue x (i + 1)) ++ (List.range nvec).flatMap (imageVector x) ++ imageNs ns ++ statsPage x ++
            (match keyExport, key with | true, some k => keyWrap mk k ++ leBytes 8 0 | _, _ => [])
          let image := body ++ gcmTag mk nonce body []
          let s := emit s (.hostWrite (migAddr s) image)
          let s := match keyExport, ns with
            | true, some (i, n) => tellMembers (eraseKeys s (fun k => k == i - 1)) n (leBytes 1 4 ++ leBytes 2 i)
            | _, _ => s
          migEnd s 0 image.length

/-- The first check of R145 that an image fails: an ERR value, 0 where it passes. An image longer than the buffer ends with FORMAT: the spec names BUF_SMALL for SAVE
alone. Log 45 (DEDUCED), 191 (DESIGN CHOICE). -/
def imageError (s : State) (vf bufPages : Nat) (image : List Byte) : Nat :=
  let nqp := leAt image 0x20 1 % 128
  let nvec := leAt image 0x21 1
  let key := bitAt (leAt image 4 4) 16
  let len := imageLength nqp nvec key
  if leAt image 0 4 ≠ 0x64084D49 ∨ leAt image 4 2 ≠ 1 ∨ leAt image 8 2 ≠ len ∨ bufPages * 4096 < len ∨ image.length < len then 10
  else
    match keyBytes s slotMigration with
    | none => 5
    | some mk =>
      if gcmTag mk (bytesAt image 0x28 12) (image.take (len - 16)) [] ≠ bytesAt image (len - 16) 16 then 5
      else if qpShare s vf < nqp ∨ vecShare s vf < nvec then 3
      else 0

/-- The queues of an image that a bit of their entry marks as created. -/
def imageSqs (image : List Byte) : (n i : Nat) → Sparse SubQ
  | 0, _ => []
  | n + 1, i =>
    let o := 192 + 32 * (i - 1)
    let w := leAt image (o + 0x1C) 4
    let rest := imageSqs image n (i + 1)
    if bitAt w 18 then
      (i, ⟨leAt image o 8, leAt image (o + 0x10) 2, leAt image (o + 0x14) 2, leAt image (o + 0x16) 2, w % 128, none⟩) :: rest
    else rest

def imageCqs (image : List Byte) : (n i : Nat) → Sparse CplQ
  | 0, _ => []
  | n + 1, i =>
    let o := 192 + 32 * (i - 1)
    let w := leAt image (o + 0x1C) 4
    let rest := imageCqs image n (i + 1)
    if bitAt w 19 then
      (i, ⟨leAt image (o + 8) 8, leAt image (o + 0x12) 2, leAt image (o + 0x18) 2, leAt image (o + 0x1A) 2, bitAt w 16, w / 256 % 128, bitAt w 17⟩) :: rest
    else rest

/-- The MSI-X entries of an image. -/
def imageMsix (image : List Byte) (nqp nvec : Nat) : Sparse MsixEntry :=
  (List.range nvec).foldl (fun m i =>
    let o := 192 + 32 * nqp + 16 * i
    let w := leAt image (o + 12) 4
    spSet noMsix m i ⟨leAt image o 8, BitVec.ofNat 32 (leAt image (o + 8) 4), bitAt w 0, bitAt w 1, bitAt w 2⟩) []

/-- The events a PENDING_AE names; Zone Descriptor Changed names the VF's namespace. -/
def imageEvents (bits nsid : Nat) : List AsyncEvent :=
  [AsyncEvent.invalidDoorbellRegister, .invalidDoorbellValue, .hostInterfaceEvents, .retentionStatus, .zoneDescriptorChanged nsid, .temperatureThreshold].filter
    fun e => bitAt bits (eventBit e)

/-- The identifiers of `n` outstanding Asynchronous Event Requests; the image does not carry them, so each is a free value. Log 44 (DESIGN CHOICE). -/
def drawAers : (n : Nat) → State → List Nat × State
  | 0, s => ([], s)
  | n + 1, s =>
    let (r, s) := draw s
    let (rs, s) := drawAers n s
    (r % 65536 :: rs, s)

/-- Write the target VF's state from an image (R145). -/
def applyImage (s : State) (vf nsid : Nat) (image : List Byte) : State :=
  let nqp := leAt image 0x20 1 % 128
  let nvec := leAt image 0x21 1
  let c := 64
  let d := fun (o : Nat) => BitVec.ofNat 32 (leAt image (c + o) 4)
  let (aers, s) := drawAers (min 4 (leAt image (c + 0x3C) 1)) s
  let so := 192 + 32 * nqp + 16 * nvec + 32
  let grp := fun (i : Nat) =>
    (⟨leAt image (so + 32 * i) 8, leAt image (so + 32 * i + 8) 8, leAt image (so + 32 * i + 16) 8, leAt image (so + 32 * i + 24) 8⟩ : ClsStats)
  let old := funcOf s vf
  let aqa := d 4
  let asq := leAt image (c + 8) 8
  let acq := leAt image (c + 0x10) 8
  let en := (d 0).getLsbD 0
  putFunc s vf { noFunc with
    regs := ⟨d 0, aqa, asq, acq, en, false, 0⟩,
    sqs := (if en then [(0, ⟨asq, aqa.toNat % 4096, leAt image (c + 0x18) 2, leAt image (c + 0x1A) 2, 0, none⟩)] else []) ++ imageSqs image nqp 1,
    cqs := (if en then [(0, ⟨acq, aqa.toNat / 65536 % 4096, leAt image (c + 0x1C) 2, leAt image (c + 0x1E) 2, bitAt (leAt image (c + 0x20) 1) 0, 0, true⟩)] else []) ++
      imageCqs image nqp 1,
    msix := imageMsix image nqp nvec, msixEnable := old.msixEnable,
    features := { freshFeatures with
      arbitration := d 0x24, tempThreshold := d 0x28, numQueues := d 0x2C, intCoalescing := d 0x30, asyncEventConfig := d 0x34,
      defClass := clsOf (leAt image (c + 0x38) 1 % 4) },
    stats := (List.range 4).map grp, aers := aers, pendingEvents := imageEvents (leAt image (c + 0x40) 4) nsid,
    stop := { old.stop with frozen := true, byOffline := true } }

/-- The epochs of a remote restore on this device (R147): Empty zones take at least the floor, or retire; other zones below it are finished. -/
def raiseHere (s : State) (n : Namespace) (floor : Nat) : State :=
  forEach (List.range n.count) s fun s i =>
    match zoneHome s (n.base + i) with
    | (some _, _) => s
    | (none, e) =>
      let m := zmapOf s e
      if m.retired then s
      else if zoneState s e = .empty then
        (if 0xFFFFFF < max m.epoch floor then journalZone (retireZone s e) e
        else if m.epoch < floor then journalZone (putZmap s e { m with epoch := floor }) e
        else s)
      else if m.epoch < floor ∧ isActiveState (zoneState s e) = true then (startZoneOp s e false none).1
      else s

/-- The epochs of a remote restore (R147): those of this device's zones, and by ADMIN, kind 3, those of every other device that holds zones of the
namespace. Log 190 (DESIGN CHOICE). -/
def raiseEpochs (s : State) (nsid : Nat) (n : Namespace) (floor : Nat) : State :=
  tellMembers (raiseHere s n floor) n (leBytes 1 3 ++ leBytes 2 nsid ++ leBytes 4 n.base ++ leBytes 4 n.count ++ leBytes 4 floor)

/-- Store a key as a rewrite; where every retired register is in use the oldest copy's 64 µs pass first (R411). -/
def rewriteKey (s : State) (k : Nat) (v : BitVec 256) : State :=
  match storeKey s k v with
  | (some _, s) => s
  | (none, s) => (storeKey (onRetiredCopyExpiry false s) k v).2

/-- A restore waits for the journal, or ends at once where it asked nothing of it (R147); `src` is the source VF of a local one (R148). -/
def migCommit (s : State) (vf len : Nat) (src : Option Nat) : State :=
  if s.jrn.waiting.isEmpty then migEnd s 0 len
  else setF { s with vfm := { s.vfm with migOp := some (.restore, vf), migSource := src } } F.vfmMigStat_length len

/-- R145 to R147: RESTORE checks an image and commits it to a stopped VF, locally with the attachment and the open contexts moved, or
remotely with the epoch floor and the key; `image` is what its read of VFM_MIG_ADDR returns. A key that does not unwrap, or that ALARM_LOCK keeps out, ends it with AUTH
before it changes anything; with no namespace attached the key is dropped. Log 45 (DEDUCED), 192 (DESIGN CHOICE). -/
def onRestore (vf bufPages : Nat) (keyExport : Bool) (image : List Byte) (s : State) : State :=
  migStart s vf 3 bufPages keyExport fun s =>
    let x := (funcOf s vf).stop
    if !isVf s vf || !(x.byOffline || x.byStopAll) || x.frozen then migEnd s 2 0
    else if bufPages = 0 then migEnd s 9 0
    else
      let s := emit s (.hostRead (migAddr s) (bufPages * 4096))
      let e := imageError s vf bufPages image
      if e ≠ 0 then migEnd s e 0
      else
        let nqp := leAt image 0x20 1 % 128
        let nvec := leAt image 0x21 1
        let key := bitAt (leAt image 4 4) 16
        let len := imageLength nqp nvec key
        let srcVf := leAt image 0x0C 2 % 8192
        let no := 192 + 32 * nqp + 16 * nvec
        let srcNs := leAt image no 4
        let here := leAt image 0x10 8 == s.otp.devUid.toNat && (funcOf s srcVf).stop.frozen &&
          (match spFind s.nss srcNs with | some n => n.attached == some srcVf | none => false)
        let mine := s.nss.find? fun kv => kv.2.attached == some vf
        if here then
          (if mine.isSome then migEnd s 2 0
          else
            let s := setAttached s srcNs (some vf)
            let s := { s with zrs := { s.zrs with cam := spMap s.zrs.cam fun _ e => if e.owner == srcVf then { e with owner := vf } else e } }
            let s := setStop s srcVf fun x => { x with frozen := false, byOffline := true }
            migCommit (applyImage s vf srcNs image) vf len (some srcVf))
        else
          let count := match mine with | some (_, n) => n.count | none => 0
          if count ≠ leAt image (no + 8) 4 % 2 ^ 18 then migEnd s 4 0
          else
            let wrapped := bytesAt image (no + 160) 40
            let newKey := match key, keyBytes s slotMigration with | true, some mk => keyUnwrap mk wrapped | _, _ => none
            if key && (newKey.isNone || flag s F.tkrStat_alarmLock) then migEnd s 5 0
            else
              let nsid := match mine with | some (i, _) => i | none => 0
              let floor := leAt image 0x24 4 % 2 ^ 25
              let s := match mine with
                | some (i, n) =>
                  let n := { n with floor := max n.floor floor }
                  raiseEpochs (journal { s with nss := spPut s.nss i n } (.ns i (some n))) i n floor
                | none => s
              let s := match newKey, mine with | some k, some (i, _) => rewriteKey s (i - 1) (keyOf k) | _, _ => s
              migCommit (applyImage s vf nsid image) vf len none

end Sys2Proof.Machine
end

