-- ==== Sys2Proof/Machine/HostRows.lean ====
section
/-!
DEFINITION. Doorbells, the mirror and the doorbell shadow (R100 to R104), fetch (R99, R105), queues (R132, R629), Abort (R630) and
asynchronous events (R119).
-/

namespace Sys2Proof.Machine

open Sys2Proof

/-- The BAR offset of a doorbell (R621). -/
def dbOffset (qid : Nat) (cq : Bool) : Nat := 0x1000 + 8 * qid + (if cq then 4 else 0)

/-- How far a completion queue's head may move: entries between its head and its tail. -/
def headOk (q : CplQ) (v : Nat) : Bool :=
  let n := q.size + 1
  decide ((v + n - q.head) % n ≤ (q.tail + n - q.head) % n)

/-- A doorbell to a queue that was not created (R100). -/
def dbNoQueue (s : State) (f off : Nat) : State := raiseAsync (hifFault s F.hifErr_dbNoQueue f off) f .invalidDoorbellRegister

/-- A doorbell value out of range (R100). -/
def dbInvalid (s : State) (f off : Nat) : State :=
  raiseAsync (hieRecord (hifFault s F.hifErr_invalidDb f off) 3 f off) f .invalidDoorbellValue

/-- Set the tail of a submission queue; the head of a completion queue. -/
def setTail (s : State) (f qid v : Nat) (q : SubQ) : State :=
  let x := funcOf s f
  putFunc s f { x with sqs := spPut x.sqs qid { q with tail := v } }

def setHead (s : State) (f qid v : Nat) (q : CplQ) : State :=
  let x := funcOf s f
  putFunc s f { x with cqs := spPut x.cqs qid { q with head := v } }

/-- A queue's doorbells are latched: its function is stopped there, or frozen (R100). -/
def latched (s : State) (f qid : Nat) : Bool := queueStopped s f qid || (funcOf s f).stop.frozen

/-- The queue engine takes a doorbell (R100, the rows below PD_DATA). -/
def takeDoorbell (s : State) (f qid : Nat) (cq : Bool) (v : Nat) : State :=
  let off := dbOffset qid cq
  if cq then
    match spFind (funcOf s f).cqs qid with
    | none => dbNoQueue s f off
    | some q =>
      if q.size < v || !headOk q v then dbInvalid s f off
      else if latched s f qid then hieRecord (setHead s f qid v q) 4 f off
      else postWaiting (setHead s f qid v q)
  else
    match spFind (funcOf s f).sqs qid with
    | none => dbNoQueue s f off
    | some q =>
      if q.size < v then dbInvalid s f off
      else if latched s f qid then hieRecord (setTail s f qid v q) 4 f off
      else setTail s f qid v q

/-- The key of a doorbell shadow entry. -/
def shadowKey (f qid : Nat) (cq : Bool) : Nat := f * 2 ^ 17 + 2 * qid + b2n cq

/-- Store a doorbell in its shadow entry (R101): the first one raises a wake. The spec gives the entries of the queues a function can have, and no rule for
a queue identifier beyond its share: the model keeps an entry for it as well. Log 185 (DESIGN CHOICE). -/
def storeShadow (s : State) (f qid : Nat) (cq : Bool) (v : Nat) : State :=
  let first := s.aon.shadow.isEmpty
  let s := { s with aon := { s.aon with shadow := spPut s.aon.shadow (shadowKey f qid cq) (v % 65536) } }
  if first then wakeRequest (setBit s F.hifDbsStat_wake) F.pmuWake_doorbell else s

/-- A doorbell write (R100). -/
def doorbell (s : State) (f qid : Nat) (cq : Bool) (v : Nat) : State :=
  if !funcExists s f then emit s (.note "unsupported request" f)
  else if (funcOf s f).stop.inFlr || !ccEn (funcOf s f) then s
  else if entering s then storeShadow s f qid cq v
  else takeDoorbell s f qid cq v

/-- R100, R101: a write to a submission queue's tail doorbell. -/
def onSqTailDoorbell (func qid : Nat) (value : Nat) (s : State) : State := doorbell s func qid false value

/-- R100, R101: a write to a completion queue's head doorbell. -/
def onCqHeadDoorbell (func qid : Nat) (value : Nat) (s : State) : State := doorbell s func qid true value

/-- The queue engine takes every shadow entry in order, as doorbell writes that arrive now; an entry with a parity error is taken as not
written (R101, R104). Log 185 (DESIGN CHOICE). -/
def takeShadow (s : State) (bad : List Nat) : State :=
  let es := s.aon.shadow
  forEach es { s with aon := { s.aon with shadow := [] } } fun s kv =>
    let f := kv.1 / 2 ^ 17
    let qid := kv.1 % 2 ^ 17 / 2
    let cq := kv.1 % 2 == 1
    if bad.contains kv.1 then hifFaultAt s F.hifErr_shadowParity idHif f (dbOffset qid cq) else takeDoorbell s f qid cq kv.2

/-- CAP (R89): MQES 0x0FFF, CQR, the NVM and I/O command sets, and TO 20 (R500). -/
def capWord : Word := BitVec.ofNat 64 (0x0FFF + 2 ^ 16 + 20 * 2 ^ 24 + 0x41 * 2 ^ 37)

/-- CSTS of a function. -/
def csts (x : Func) : Nat := b2n x.regs.rdy + b2n x.regs.cfs * 2 + x.regs.shst % 4 * 4

/-- A 4-byte word of the controller properties (R89). -/
def propWord (x : Func) (off : Nat) : DWord :=
  if off = 0x00 then capWord.truncate 32
  else if off = 0x04 then (capWord >>> 32).truncate 32
  else if off = 0x08 then 0x00020000#32
  else if off = 0x14 then x.regs.cc
  else if off = 0x1C then BitVec.ofNat 32 (csts x)
  else if off = 0x24 then x.regs.aqa
  else if off = 0x28 then BitVec.ofNat 32 x.regs.asq
  else if off = 0x2C then BitVec.ofNat 32 (x.regs.asq / 2 ^ 32)
  else if off = 0x30 then BitVec.ofNat 32 x.regs.acq
  else if off = 0x34 then BitVec.ofNat 32 (x.regs.acq / 2 ^ 32)
  else 0

/-- Offsets that the mirror serves: CAP, VS, CC and CSTS (R102). -/
def mirrored (off : Nat) : Bool := off == 0x00 || off == 0x04 || off == 0x08 || off == 0x14 || off == 0x1C

/-- MSI-X table entries of a function (R132). -/
def tableSize (s : State) (f : Nat) : Nat := if f = 0 then 129 else vecShare s f

/-- A word of an MSI-X table entry: address, upper address, data and Vector Control. -/
def msixWord (e : MsixEntry) (k : Nat) : DWord :=
  if k = 0 then BitVec.ofNat 32 e.addr
  else if k = 4 then BitVec.ofNat 32 (e.addr / 2 ^ 32)
  else if k = 8 then e.data
  else BitVec.ofNat 32 (b2n e.mask)

/-- A 4-byte word of BAR index 0 below the CSR window (R89, R621): the properties, zero in the doorbells, the MSI-X table and its pending bits,
zero in the reserved space. -/
def barWord (s : State) (f off : Nat) : DWord :=
  let x := funcOf s f
  if off < 0x1000 then propWord x off
  else if 0x2000 ≤ off ∧ off < 0x2000 + 16 * tableSize s f then msixWord (spGet noMsix x.msix ((off - 0x2000) / 16)) (off % 16)
  else if 0x3000 ≤ off ∧ off < 0x4000 then
    BitVec.ofNat 32 ((List.range 32).foldl (fun a b => a + b2n (spGet noMsix x.msix ((off - 0x3000) * 8 + b)).pending * 2 ^ b) 0)
  else 0

/-- A BAR 0 access that PD_DATA off refuses is counted and recorded (R102, R116). -/
def recordOff (s : State) (f off : Nat) (write : Bool) : State :=
  hieRecord (incSat s F.hifErr_pwroffAccesses 1) (if write then 2 else 1) f off

/-- A BAR 0 access while PD_DATA is off that the mirror does not serve: a read returns ones, a write is dropped. Log 121 (DEDUCED). -/
def refusedOff (s : State) (f off : Nat) (write : Bool) : State :=
  let s := recordOff s f off write
  if write then s else emit s (.barRead f 0xFFFFFFFF#64)

/-- A write of one word of an MSI-X table entry (R132, R621): address, data or mask; unmasking sends what was pending. -/
def writeMsix (s : State) (f off : Nat) (data : DWord) : State :=
  let i := (off - 0x2000) / 16
  let x := funcOf s f
  let e := spGet noMsix x.msix i
  let k := off % 16
  let e : MsixEntry :=
    if k = 0 then { e with addr := e.addr / 2 ^ 32 * 2 ^ 32 + data.toNat }
    else if k = 4 then { e with addr := e.addr % 2 ^ 32 + data.toNat * 2 ^ 32 }
    else if k = 8 then { e with data := data }
    else { e with mask := data.getLsbD 0 }
  let due := e.pending && !e.mask && x.msixEnable
  let s := putFunc s f { x with msix := spSet noMsix x.msix i { e with pending := e.pending && !due } }
  if due then sendMsix s f i else s

/-- Change the controller registers of a function. -/
def putRegs (s : State) (f : Nat) (g : CtrlRegs → CtrlRegs) : State :=
  let x := funcOf s f
  putFunc s f { x with regs := g x.regs }

/-- One half of a 64-bit queue address, whose low 12 bits are reserved. -/
def addrHalf (old : Nat) (upper : Bool) (v : DWord) : Nat :=
  if upper then old % 2 ^ 32 + v.toNat * 2 ^ 32 else old / 2 ^ 32 * 2 ^ 32 + v.toNat / 4096 * 4096

/-- A doorbell's offset in BAR index 0 (R621). -/
def doorbellAt (off : Nat) : Bool := decide (0x1000 ≤ off ∧ off < 0x2000)

/-- A write to a doorbell by its offset. -/
def doorbellWrite (s : State) (f off : Nat) (v : DWord) : State := doorbell s f ((off - 0x1000) / 8) (off % 8 == 4) v.toNat

/-- A write of one 4-byte word of BAR index 0 below the CSR window with PD_DATA on. -/
def barPut (s : State) (f off : Nat) (v : DWord) : State :=
  if doorbellAt off then doorbellWrite s f off v
  else if (funcOf s f).stop.frozen then s
  else if off = 0x14 then applyCc s f v
  else if off = 0x24 then putRegs s f fun r => { r with aqa := v &&& 0x0FFF0FFF#32 }
  else if off = 0x28 ∨ off = 0x2C then putRegs s f fun r => { r with asq := addrHalf r.asq (off == 0x2C) v }
  else if off = 0x30 ∨ off = 0x34 then putRegs s f fun r => { r with acq := addrHalf r.acq (off == 0x34) v }
  else if 0x2000 ≤ off ∧ off < 0x2000 + 16 * tableSize s f then writeMsix s f off v
  else s

/-- The words of an access, the lower address first (R624). -/
def barWords (off size : Nat) : List Nat := if size = 8 then [off, off + 4] else [off]

/-- The word of the data that goes to an offset. -/
def dataWord (data : Word) (off o : Nat) : DWord := if o = off then data.truncate 32 else (data >>> 32).truncate 32

/-- The words of a read, joined. -/
def joinWords (ws : List DWord) : Word := BitVec.ofNat 64 (ws.foldr (fun w a => w.toNat + a * 2 ^ 32) 0)

/-- A BAR 0 access below the CSR window with PD_DATA on; every write but a doorbell is dropped at a frozen VF and recorded once (R143). Log 42 (DEDUCED). -/
def barAccess (s : State) (f off size : Nat) (write : Bool) (data : Word) : State :=
  let ws := barWords off size
  if write then
    let s := if (funcOf s f).stop.frozen && !(ws.all doorbellAt) then droppedWrite s f off else s
    forEach ws s fun s o => barPut s f o (dataWord data off o)
  else emit s (.barRead f (joinWords (ws.map (barWord s f))))

/-- The word the mirror serves while PD_DATA is off, CC as the host wrote it last; ones for any other (R102). -/
def mirrorWord (s : State) (f off : Nat) : DWord :=
  let x := funcOf s f
  let x := match spFind s.aon.heldCc f with | some cc => { x with regs := { x.regs with cc := cc } } | none => x
  if mirrored off then propWord x off else 0xFFFFFFFF#32

/-- A BAR 0 access while PD_DATA is off (R101, R102): the mirror serves CAP, VS, CC and CSTS and holds a write to CC, a doorbell goes to the
shadow, and every other access is refused, counted and recorded; at a frozen VF every write but a doorbell is dropped (R143). Log 42 (DEDUCED). -/
def offAccess (s : State) (f off size : Nat) (write : Bool) (data : Word) : State :=
  let ws := barWords off size
  if write && (funcOf s f).stop.frozen && !ws.all doorbellAt then droppedWrite s f off
  else if write then
    let s := if ws.all fun o => o == 0x14 || doorbellAt o then s else recordOff s f off true
    forEach ws s fun s o =>
      if o = 0x14 then holdCc s f (dataWord data off o) else if doorbellAt o then doorbellWrite s f o (dataWord data off o) else s
  else
    let s := if ws.all mirrored then s else recordOff s f off false
    emit s (.barRead f (joinWords (ws.map (mirrorWord s f))))

/-- The admin commands that go on while a sanitize runs (R92). -/
def sanitizeAllows (q : Sqe) : Bool :=
  [0x00, 0x01, 0x02, 0x04, 0x05, 0x06, 0x08, 0x09, 0x0A, 0x0C, 0x1D, 0x1E, 0x82].contains (opc q) || (opc q == 0x84 && sanAct q == 1)

/-- A queue the engine may fetch from (R99, R92, R134, R488, R628, R629). -/
def fetchable (s : State) (f qid : Nat) (q : SubQ) : Bool :=
  let x := funcOf s f
  q.head != q.tail && q.deleting.isNone && ccEn x && !x.stop.shutdown && !queueStopped s f qid &&
    !(s.hif.sanitize.running.isSome && qid != 0)

/-- The class deadline in µs (R105). Log 116 (DESIGN CHOICE). -/
def classUs (s : State) (c : Cls) : Nat := 100 * listAt 0 s.vfm.classDeadlines (clsNum c)

/-- The class a command takes at its fetch (R105, R106). -/
def fetchClass (x : Func) (q : Sqe) : Cls :=
  if q.admin then .print
  else match opc q with
    | 0x02 | 0x7D | 0x81 => dclass q
    | _ => x.features.defClass

/-- An entry in a slot before any check. Log 116 (DESIGN CHOICE). -/
def freshSlot (s : State) (f qid : Nat) (q : Sqe) : CmdSlot :=
  let c := fetchClass (funcOf s f) q
  ⟨f, qid, q, .none, c, now s, now s + classUs s c, .fetched, 0, 0, 0, 0, 0, [], [], [], [], [], 0, [], false, false, none, false, none, 0, 0, none⟩

/-- An admin entry selects something the device has: Namespace Management create or delete; protocol 0xEA and an SP Specific of R433, R434, R439,
R561 or R587 in Security Send and Security Receive. Log 97 (DEDUCED). -/
def adminForm (q : Sqe) : Bool :=
  match opc q with
  | 0x0D => decide (nsSel q ≤ 1)
  | 0x81 => secp q == 0xEA && [1, 2, 3, 5].contains (spsp q)
  | 0x82 => secp q == 0xEA && [1, 3, 4].contains (spsp q)
  | _ => true

/-- A function has more than four Abort commands outstanding, the one just fetched among them (R89). -/
def abortsFull (s : State) (f : Nat) : Bool := decide (4 < (s.hif.slots.filter fun kv => kv.2.func == f && isAdmin 0x08 kv.2).length)

/-- The checks of a fetched entry that come before its own (R89, R90, R92). Log 97, 186 (DEDUCED). -/
def fetchCheck (s : State) (f : Nat) (q : Sqe) : Option Status :=
  if q.admin then
    match adminOpcode (opc q) with
    | none => some .invalidOpcode
    | some pf =>
      if pf && f != 0 then some .invalidOpcode
      else if opc q == 0x08 && abortsFull s f then some .abortLimitExceeded
      else if s.hif.sanitize.running.isSome && !sanitizeAllows q then some .sanitizeInProgress
      else if !adminForm q then some .invalidField
      else none
  else if !ioOpcode (opc q) then some .invalidOpcode
  else if ioKind q == .none then some .invalidField
  else none

/-- Fetch entries of one queue into command slots. Log 43 (DESIGN CHOICE). -/
def fetchEntries (f qid : Nat) : (sqes : List Sqe) → State → State
  | [], s => s
  | q :: qs, s =>
    match spFind (funcOf s f).sqs qid with
    | none => s
    | some sq =>
      if sq.head = sq.tail then s
      else
        let x := funcOf s f
        let s := putFunc s f { x with sqs := spPut x.sqs qid { sq with head := if sq.head = sq.size then 0 else sq.head + 1 } }
        let q := { q with admin := qid == 0 }
        let n := spFree s.hif.slots (s.hif.slots.length + 1) 0
        let s := putSlot s n (freshSlot s f qid q)
        let s := match fetchCheck s f q with | some st => finish s n st | none => s
        fetchEntries f qid qs s

/-- Rotate a list so that the first element at or above `k` leads. -/
def rotateFrom (k : Nat) (xs : List Nat) : List Nat := xs.filter (fun x => decide (k ≤ x)) ++ xs.filter fun x => decide (x < k)

/-- The next queue of a function's rotation that the engine may fetch from. -/
def nextQueueOf (s : State) (f : Nat) : Option Nat :=
  let x := funcOf s f
  (rotateFrom x.nextQueue (x.sqs.map (·.1))).find? fun i => match spFind x.sqs i with | some q => fetchable s f i q | none => false

/-- R99: one turn of the queue engine: the next function in rotation, its next queue, up to Arbitration Burst entries. Throttle level STOPPED
stops it (R617). Log 43 (DESIGN CHOICE). -/
def onCommandFetch (sqes : List Sqe) (s : State) : State :=
  if s.hif.fetchStopped || getF s F.sysTemp_throttle == 2 || !domainOn s .data || !domainOn s .host || !s.hif.linkUp || isMember s then s
  else
    match (rotateFrom s.hif.nextFunc (funcsOf s)).findSome? fun f => (nextQueueOf s f).map fun i => (f, i) with
    | none => s
    | some (f, i) =>
      let x := funcOf s f
      let burst := 2 ^ min 3 (x.features.arbitration.toNat % 8)
      let s := putFunc s f { x with nextQueue := i + 1 }
      let s := { s with hif := { s.hif with nextFunc := f + 1 } }
      fetchEntries f i (sqes.take burst) s

/-- The limits of R132 on a queue: identifier, size, contiguous memory, alignment. -/
def queueError (s : State) (c : CmdSlot) (base : Nat) (taken : Bool) : Option Status :=
  let q := c.sqe
  if qidOf q = 0 ∨ qpShare s c.func < qidOf q ∨ taken = true then some .invalidQueueId
  else if qsize q = 0 ∨ 0x0FFF < qsize q then some .invalidQueueSize
  else if qContiguous q = false ∨ base % 4096 ≠ 0 then some .invalidField
  else none

/-- R132: Create I/O Submission Queue; `base` is the queue's address. Log 41 (DESIGN CHOICE). -/
def onCreateIoSq (slot base : Nat) (s : State) : State :=
  withFetched s slot (isAdmin 0x01) fun c =>
    let x := funcOf s c.func
    match queueError s c base (spFind x.sqs (qidOf c.sqe)).isSome with
    | some st => finish s slot st
    | none =>
      let cq := sqCqid c.sqe
      if cq = 0 ∨ qpShare s c.func < cq then finish s slot .invalidQueueId
      else if (spFind x.cqs cq).isNone then finish s slot .completionQueueInvalid
      else finish (putFunc s c.func { x with sqs := spPut x.sqs (qidOf c.sqe) ⟨base, qsize c.sqe, 0, 0, cq, none⟩ }) slot .success

/-- R132: Create I/O Completion Queue. Log 41 (DESIGN CHOICE). -/
def onCreateIoCq (slot base : Nat) (s : State) : State :=
  withFetched s slot (isAdmin 0x05) fun c =>
    let x := funcOf s c.func
    match queueError s c base (spFind x.cqs (qidOf c.sqe)).isSome with
    | some st => finish s slot st
    | none =>
      if cqIen c.sqe && decide (vecShare s c.func ≤ cqVector c.sqe) then finish s slot .invalidInterruptVector
      else finish (putFunc s c.func { x with
        cqs := spPut x.cqs (qidOf c.sqe) ⟨base, qsize c.sqe, 0, 0, true, cqVector c.sqe, cqIen c.sqe⟩ }) slot .success

/-- R629: Delete I/O Submission Queue: fetch stops, unadmitted commands are aborted, and it completes after the last admitted one. -/
def onDeleteIoSq (slot : Nat) (s : State) : State :=
  withFetched s slot (isAdmin 0x00) fun c =>
    let x := funcOf s c.func
    let i := qidOf c.sqe
    match spFind x.sqs i with
    | none => finish s slot .invalidQueueId
    | some q =>
      if i = 0 ∨ q.deleting.isSome = true then finish s slot .invalidQueueId
      else
        let s := putFunc s c.func { x with sqs := spPut x.sqs i { q with deleting := some slot } }
        let s := putSlot s slot { c with kind := .admin, phase := .admitted }
        let mine := s.hif.slots.filter fun kv => kv.2.func == c.func && kv.2.sqid == i && !isAdmitted kv.2
        settleDeletion (forEach mine s fun s kv => finish s kv.1 .abortedSqDeletion) c.func i

/-- R629: Delete I/O Completion Queue. -/
def onDeleteIoCq (slot : Nat) (s : State) : State :=
  withFetched s slot (isAdmin 0x04) fun c =>
    let x := funcOf s c.func
    let i := qidOf c.sqe
    if i = 0 ∨ (spFind x.cqs i).isNone = true then finish s slot .invalidQueueId
    else if x.sqs.any fun kv => kv.2.cqid == i then finish s slot .invalidQueueDeletion
    else finish (putFunc s c.func { x with cqs := spErase x.cqs i }) slot .success

/-- Abort an outstanding Asynchronous Event Request of a function: it has been fetched and ZRS never admits it (R630). -/
def abortAer (s : State) (f cid : Nat) : State :=
  let x := funcOf s f
  postCqe (putFunc s f { x with aers := dropAll x.aers cid }) ⟨f, 0, 0, cid, .abortRequested, statusDnr false .abortRequested, 0, 0⟩

/-- R630: Abort of a command fetched and not yet admitted, an outstanding Asynchronous Event Request among them; bit 0 of Dword 0 says whether
it was not. -/
def onAbort (slot : Nat) (s : State) : State :=
  withFetched s slot (isAdmin 0x08) fun c =>
    let hit := s.hif.slots.find? fun kv =>
      kv.1 != slot && kv.2.func == c.func && kv.2.sqid == abortSq c.sqe && kv.2.sqe.cid == abortCid c.sqe && !isAdmitted kv.2
    match hit with
    | some (n, _) => finishWith (finish s n .abortRequested) slot .success 0 0
    | none =>
      if abortSq c.sqe = 0 ∧ abortCid c.sqe ∈ (funcOf s c.func).aers then finishWith (abortAer s c.func (abortCid c.sqe)) slot .success 0 0
      else finishWith s slot .success 1 0

/-- R89, R119: Asynchronous Event Request: held until an event is reported; the fifth fails. -/
def onAsyncEventRequest (slot : Nat) (s : State) : State :=
  withFetched s slot (isAdmin 0x0C) fun c =>
    let x := funcOf s c.func
    if 4 ≤ x.aers.length then finish s slot .aerLimitExceeded
    else reportEvent (putFunc (delSlot s slot) c.func { x with aers := x.aers ++ [c.sqe.cid] }) c.func

/-- R50, R100, R119: an event is raised to a function and completes an outstanding request. -/
def onAsyncEventRaise (func : Nat) (event : AsyncEvent) (s : State) : State := reportEvent (raiseAsync s func event) func

end Sys2Proof.Machine
end

