-- ==== Sys2Proof/Machine/Gate.lean ====
section
/-!
DEFINITION. What an access to the CSR space meets before its register (R15, R18, R19, R32, R102, R497, R619 to R625): the master, the way over the
fabric, the PF's window, and the target's domain.
-/

namespace Sys2Proof.Machine

open Sys2Proof

/-- The slot of the PF's CSR window that shows a block window (R619); none where the block is not reachable from the host. -/
def windowSlot (w : Nat) : Option Nat :=
  if w ∈ [3, 5, 8] then none
  else if w < 16 then some w
  else if w < 20 then some (0x40 + 16 * (w - 16))
  else if w < 24 then some w
  else none

/-- The offset in the PF's BAR index 0 of a CSR address (R622). -/
def barOffset (addr : Nat) : Nat :=
  let w := windowOf addr
  match windowSlot w with
  | some k => 0x1000000 + k * 0x10000 + (addr - 0x1000000000) % 0x100000
  | none => addr % 0x1000000

/-- The PF's window shows a CSR address (R619, R622, R623). Log 148 (DEDUCED). -/
def hostVisible (addr : Nat) : Bool :=
  let w := windowOf addr
  let off := (addr - 0x1000000000) % 0x100000
  (windowSlot w).isSome && (decide (16 ≤ w ∧ w < 20) || decide (off < 0x10000)) && (w != 7 || decide (off < 0x10 ∨ (0x18 ≤ off ∧ off < 0x20)))

/-- A channel is fused off, or its PD_FLASH is off (R4, R210). Log 94 (DEDUCED). -/
def channelOff (s : State) (c : Nat) : Bool := decide (64 ≤ c) || !bayEnabled s (c / 16) || !((bayOn s (c / 16)) || (bayOf s (c / 16)).phase == .waitTpor)

/-- The domain of a block window is on, out of reset and not isolated (R32, R497); a channel's window follows its bay (R4, R210). Log 146 (DEDUCED). -/
def windowOn (s : State) (addr : Nat) : Bool :=
  let w := windowOf addr
  if w ∈ [0, 1, 2, 3, 4, 8] then true
  else if w = 5 ∨ w = 7 then domainOn s .sec
  else if w = 10 then domainOn s .dmc
  else if w = 22 then domainOn s .slk
  else if w = 23 then domainOn s .mgmt
  else if 16 ≤ w ∧ w < 20 then !channelOff s ((addr - 0x1001000000) / 0x10000)
  else domainOn s .data

/-- The debug port reaches an address at its level (R441): read at OBSERVE and FULL, write at FULL, never TKR; DBG at every level. -/
def debugReach (s : State) (addr : Nat) (write : Bool) : Bool :=
  windowOf addr == 8 || (windowOf addr != 5 && decide ((if write then 2 else 1) ≤ getF s F.dbgUnlock_level))

/-- What a register access by a row of its own meets first: a reserved master (R15); a host that R102 refuses, or whose window does not show the register
(R622); the debug port below the level it needs (R441); a fabric or a target that is off (R18, R497). Log 175 (DEDUCED). -/
def rowGate (s : State) (m addr : Nat) (write : Bool) (f : State → State) : State :=
  if reservedMaster m then badMaster s m addr
  else if m = idDebug ∧ debugReach s addr write = false then emit s (.note "debug refused" addr)
  else if m = idHostVf then (if write then s else emit s (.readResponse m 0))
  else if m = idHostPf ∧ domainOn s .data = false then refusedOff s 0 (barOffset addr) write
  else if m = idHostPf ∧ hostVisible addr = false then (if write then s else emit s (.readResponse m 0))
  else if !routed s m addr || !windowOn s addr then pwrOffResponse s m addr write
  else f s

end Sys2Proof.Machine
end

