-- ==== Sys2Proof/Machine/AdminRows.lean ====
section
/-!
DEFINITION. Get Log Page (R114 to R119), Identify (R86, R89, R97, R131, R608), Set and Get Features (R94 to R96, R105, R106, R132) and power
requests of the host (R95, R484).
-/

namespace Sys2Proof.Machine

open Sys2Proof

/-- Bytes of a page whose form a published standard gives: free, with the fields the spec names patched in. Log 21 (PRESUMED). -/
def standardPage (item size : Nat) : List Byte := bytesAt (Config.standardBytes item 0) 0 size

/-- Replace bytes of a page from an offset. -/
def patch (page : List Byte) (off : Nat) (new : List Byte) : List Byte :=
  page.take off ++ new ++ page.drop (off + new.length)

/-- Apply several patches. -/
def patches (page : List Byte) (ps : List (Nat × List Byte)) : List Byte := ps.foldl (fun p x => patch p x.1 x.2) page

/-- The retention age of a zone is unknown (R306). -/
def ageUnknown (s : State) (z : ZstEntry) : Bool := (zoneAge s z).isNone

/-- The Zone Attributes entry of a zone of this device (R115), by the number the host knows it by (R558). -/
def zoneAttributes (s : State) (ezn : Nat) : List Byte :=
  let m := zmapOf s ezn
  match boundZone s ezn with
  | none =>
    leBytes 4 (hostZone s ezn % 2 ^ 22 + zoneCode (zoneState s ezn) * 2 ^ 22 + b2n m.retired * 2 ^ 27) ++ leBytes 4 (m.epoch % 2 ^ 24) ++ leBytes 56 0
  | some (pzn, z) =>
    leBytes 4 (hostZone s ezn % 2 ^ 22 + zoneCode z.state * 2 ^ 22 + b2n z.padded * 2 ^ 26 + b2n m.retired * 2 ^ 27 + tierNum z.tier * 2 ^ 28 + z.erc % 4 * 2 ^ 30) ++
    leBytes 4 (m.epoch % 2 ^ 24 + groupOf pzn * 2 ^ 24 + 2 ^ 30 + b2n (ageUnknown s z) * 2 ^ 31) ++
    leBytes 4 z.wpHost ++ leBytes 4 z.wpPhys ++ leBytes 4 (z.durableHr % 1024 + z.pads.length * 2 ^ 10) ++ leBytes 4 z.coKey ++ leBytes 4 z.openOph ++
    leBytes 4 z.lastOph ++ (List.range 4).flatMap (fun i => leBytes 4 (match z.pads[i]? with | some x => padWord x | none => 0)) ++
    leBytes 4 z.filler ++ leBytes 4 z.subst.length ++ leBytes 8 0

/-- The first word of a Zone Attributes entry of a peer's zone: its CEZN and its state, the other bits free (R115, R558). -/
def peerWord (s : State) (d z w : Nat) : Nat :=
  z % 2 ^ 22 + zoneCode (peerState s d w) * 2 ^ 22 + w / 2 ^ 26 % 2 ^ 6 * 2 ^ 26

/-- The Zone Attributes page of a run of host zones; of a peer's zone the CEZN is known, and the rest is free values (a removed peer's zones are Offline). Log 39 (DESIGN CHOICE). -/
def attributesOf : (zs : List Nat) → State → List Byte × State
  | [], s => ([], s)
  | z :: zs, s =>
    match zoneHome s z with
    | (none, e) =>
      let (bs, s') := attributesOf zs s
      (zoneAttributes s e ++ bs, s')
    | (some d, _) =>
      let (w, s) := draw s
      let (rest, s) := drawBytes s 60
      let (bs, s) := attributesOf zs s
      (leBytes 4 (peerWord s d z w) ++ rest ++ bs, s)

/-- The Host Interface Events page (R116). -/
def eventsPage (s : State) : List Byte :=
  leBytes 4 s.aon.events.length ++ leBytes 4 s.aon.lost ++ leBytes 24 0 ++
    s.aon.events.flatMap (fun e =>
      leBytes 4 e.ophours ++ leBytes 4 (e.pwrcyc % 2 ^ 24 + e.kind * 2 ^ 24) ++ leBytes 4 e.func ++ leBytes 8 e.offset ++ leBytes 4 e.pstate ++ leBytes 8 0) ++
    leBytes (32 * (255 - s.aon.events.length)) 0

/-- The Retention Status page (R117). -/
def retentionPage (s : State) : List Byte :=
  match s.age.history.getLast? with
  | none => leBytes 64 0
  | some h =>
    leBytes 4 h.source ++ leBytes 4 h.off ++ leBytes 4 s.age.decidedAt ++ leBytes 4 (s.clk.pwrcyc % 2 ^ 24) ++ leBytes 4 (unknownCount s) ++ leBytes 44 0

/-- The Sanitize Status page (R92): progress and status by NVMe, the estimated times of R92. Log 54 (DESIGN CHOICE). -/
def sanitizePage (s : State) (progress : Nat) : List Byte :=
  let z := s.hif.sanitize
  let st := match z.running with
    | some _ => 2
    | none => if z.failureMode || z.lastFailed then 3 else if z.everDone then 1 else 0
  patches (standardPage 0x81 512)
    [(0, leBytes 2 (if z.running.isSome then progress else 0xFFFF)), (2, leBytes 2 st), (8, leBytes 4 0xFFFFFFFF), (12, leBytes 4 160200), (16, leBytes 4 60),
     (20, leBytes 4 0xFFFFFFFF), (24, leBytes 4 160200), (28, leBytes 4 60)]

/-- The SMART page as a function reads it: what R94, R296 and R617 say of it; its other fields are the standard's. -/
def smartPage (s : State) (f : Nat) : List Byte :=
  let spare := getF s F.mhmHealth_availSpare
  let kelvin := compositeKelvin s
  patches (standardPage 0x02 512)
    [(0, leBytes 1 (b2n (decide (spare < 10)) + 2 * b2n (overThreshold s f))), (1, leBytes 2 kelvin), (3, leBytes 1 spare), (4, leBytes 1 10), (216, leBytes 4 s.aon.thermal.half),
     (220, leBytes 4 s.aon.thermal.stopped), (224, leBytes 4 (s.aon.thermal.halfUs / 1000000)), (228, leBytes 4 (s.aon.thermal.stoppedUs / 1000000))]

/-- A log page's entry size and bytes, or the status its request fails with (R114). -/
def logPage (s : State) (c : CmdSlot) : State × Except Status (Nat × List Byte) :=
  let f := c.func
  match logId c.sqe with
  | 0xC0 =>
    let ns := if f = 0 then (spFind s.nss c.sqe.nsid).map fun n => (c.sqe.nsid, n) else nsOf s f c.sqe.nsid
    if c.sqe.nsid = 0xFFFFFFFF then (s, .error .invalidField)
    else match ns with
      | none => (s, .error .invalidNamespace)
      | some (_, n) =>
        let r := attributesOf ((List.range n.count).map (n.base + ·)) s
        (r.2, .ok (64, r.1))
  | 0xC1 => if f = 0 then (s, .ok (32, eventsPage s)) else (s, .error .invalidLogPage)
  | 0xC2 => (s, .ok (64, retentionPage s))
  | 0xC3 =>
    let v := logLsi c.sqe
    if f = 0 then (if v = 0 ∨ funcExists s v = true then (s, .ok (32, statsPage (funcOf s v))) else (s, .error .invalidField))
    else if v = 0 then (s, .ok (32, statsPage (funcOf s f))) else (s, .error .invalidField)
  | 0x02 => (s, .ok (4, smartPage s f))
  | 0x81 =>
    let r := draw s
    (r.2, .ok (4, sanitizePage s r.1))
  | 0x01 => (s, .ok (4, standardPage 0x01 64))
  | 0x03 => (s, .ok (4, standardPage 0x03 512))
  | 0x05 => (s, .ok (4, standardPage 0x05 4096))
  | 0x06 => (s, .ok (4, standardPage 0x06 564))
  | 0xBF => (s, .ok (4, standardPage 0xBF 4096))
  | _ => (s, .error .invalidLogPage)

/-- Reading a page with Retain Asynchronous Event cleared unmasks its events and, for the PF, empties the events page (R116, R119). -/
def clearEvents (s : State) (f lid : Nat) : State :=
  let x := funcOf s f
  let s := putFunc s f { x with masked := x.masked.filter fun e => (eventCode e).2.2 != lid }
  if lid = 0xC1 then { s with aon := { s.aon with events := [], lost := 0 } } else s

/-- R114 to R119: Get Log Page. -/
def onGetLogPage (slot : Nat) (s : State) : State :=
  withFetched s slot (isAdmin 0x02) fun c =>
    match logPage s c with
    | (s, .error st) => finish s slot st
    | (s, .ok (entry, page)) =>
      let off := logOffset c.sqe
      if off % entry ≠ 0 ∨ page.length ≤ off ∨ 262144 < logDwords c.sqe then finish s slot .invalidField
      else
        let s := hostData s c ((page.drop off).take (4 * logDwords c.sqe))
        finish (if rae c.sqe then s else clearEvents s c.func (logId c.sqe)) slot .success

/-- The power state descriptors of R608: MP, MXPS, NOPS, ENLAT, EXLAT, IDLP in 0.01 W. -/
def powerDescriptors : List (Nat × Nat × Nat × Nat × Nat × Nat) :=
  [(8600, 0, 0, 0, 0, 1200), (6600, 0, 0, 32000, 32000, 1200), (8600, 0, 0, 1000, 1000, 900), (339, 0, 1, 37520, 1165, 0),
   (1400, 1, 1, 2500000, 219000, 0)]

/-- The Identify Controller structure: the fields of R89, R608 and R616, with OACS, ONCS and SANICAP as the commands of R90 to R92 and the features of R94 give
them. Log 187 (DEDUCED). -/
def identifyController (f : Nat) : List Byte :=
  patches (standardPage 0x100 4096) ([
    (77, leBytes 1 8), (78, leBytes 2 f), (80, leBytes 4 0x00020000), (88, leBytes 4 2500000), (258, leBytes 1 3), (259, leBytes 1 3),
    (256, leBytes 2 (if f = 0 then 0xDD else 0x01)), (263, leBytes 1 4), (266, leBytes 2 381), (268, leBytes 2 388), (328, leBytes 1 3),
    (520, leBytes 2 0xC0), (512, leBytes 1 0x66), (513, leBytes 1 0x44), (516, leBytes 4 (if f = 0 then 4096 else 1)), (525, leBytes 1 0),
    (536, leBytes 4 1)] ++
    powerDescriptors.zipIdx.map fun x =>
      let d := x.1
      (2048 + 32 * x.2, leBytes 2 d.1 ++ leBytes 1 0 ++ leBytes 1 (d.2.1 + 2 * d.2.2.1) ++ leBytes 4 d.2.2.2.1 ++ leBytes 4 d.2.2.2.2.1 ++ leBytes 4 0 ++
        leBytes 2 d.2.2.2.2.2 ++ leBytes 1 (if d.2.2.2.2.2 = 0 then 0 else 0x80)))

/-- The Identify Namespace structure: size, one LBA format of 4,096 bytes, no metadata and no protection information, never shared (R89, R93, R126). -/
def identifyNs (n : Namespace) : List Byte :=
  patches (standardPage 0x101 4096)
    [(0, leBytes 8 (n.count * 2 ^ 20)), (8, leBytes 8 (n.count * 2 ^ 20)), (25, leBytes 1 0), (26, leBytes 1 0), (27, leBytes 1 0), (28, leBytes 1 0), (29, leBytes 1 0), (30, leBytes 1 0), (128, leBytes 4 (12 * 2 ^ 16))]

/-- The active-zone limit of R74 at a tier. -/
def activeLimit : Tier → Nat
  | .d4 => 3072
  | .d5 => 2048
  | .d6 => 1536

/-- The zoned Identify Namespace structure (R97). -/
def identifyZoned (s : State) (f : Nat) (n : Namespace) : List Byte :=
  patches (standardPage 0x102 4096)
    [(0, leBytes 2 1), (2, leBytes 2 0), (4, leBytes 4 (min n.marCap (activeLimit n.defTier) + 2 ^ 32 - 1)), (8, leBytes 4 (min n.morCap (ctxShare s f) + 2 ^ 32 - 1)),
     (12, leBytes 32 0), (2816, leBytes 8 (2 ^ 20)), (2824, leBytes 1 0)]

/-- A list of 4-byte identifiers above a start, in a page of 1,024. -/
def idList (from_ : Nat) (ids : List Nat) : List Byte :=
  bytesAt (((ids.filter fun i => decide (from_ < i)).take 1024).flatMap (leBytes 4)) 0 4096

/-- The Secondary Controller List (R131): each VF with its shares, online unless stopped. -/
def secondaryList (s : State) (from_ : Nat) : List Byte :=
  let vs := ((funcsOf s).filter fun f => f != 0 && decide (from_ ≤ f)).take 127
  bytesAt (leBytes 32 vs.length ++ vs.flatMap fun f =>
    leBytes 2 f ++ leBytes 2 0 ++ leBytes 1 (b2n (!funcStopped s f)) ++ leBytes 3 0 ++ leBytes 2 f ++ leBytes 2 (getF s F.vfmShare_qp) ++
      leBytes 2 (getF s F.vfmShare_vec) ++ leBytes 18 0) 0 4096

/-- The structure an Identify returns, by CNS; a code not served fails. Log 21 (PRESUMED). -/
def identifyData (s : State) (c : CmdSlot) : Except Status (List Byte) :=
  let f := c.func
  let cns := dw10 c.sqe % 256
  let csi := dw11 c.sqe / 2 ^ 24
  let ns := fun (k : Namespace → List Byte) => match nsOf s f c.sqe.nsid with | some (_, n) => Except.ok (k n) | none => .error .invalidNamespace
  let any := fun (k : Namespace → List Byte) => match spFind s.nss c.sqe.nsid with | some n => Except.ok (k n) | none => .error .invalidNamespace
  let mine := if f = 0 then nsOfFunc s 0 else if (nsOfFunc s f).isEmpty then [] else [1]
  match cns with
  | 0x00 => ns identifyNs
  | 0x01 => .ok (identifyController f)
  | 0x02 | 0x07 => .ok (idList c.sqe.nsid mine)
  | 0x03 => ns fun _ => standardPage 0x103 4096
  | 0x05 => if csi = 2 then ns (identifyZoned s f) else ns fun _ => standardPage 0x105 4096
  | 0x06 => .ok (if csi = 2 then patch (standardPage 0x106 4096) 0 (leBytes 1 8) else standardPage 0x107 4096)
  | 0x10 | 0x1A => if f = 0 then .ok (idList c.sqe.nsid (s.nss.map (·.1))) else .error .invalidField
  | 0x11 => if f = 0 then any identifyNs else .error .invalidField
  | 0x12 =>
    if f = 0 then any fun n => bytesAt (match n.attached with
      | some g => leBytes 2 1 ++ leBytes 2 g
      | none => leBytes 2 0) 0 4096
    else .error .invalidField
  | 0x13 =>
    if f = 0 then
      let ids := ((funcsOf s).filter fun g => decide (dw10 c.sqe / 65536 ≤ g)).take 2047
      .ok (bytesAt (leBytes 2 ids.length ++ ids.flatMap (leBytes 2)) 0 4096)
    else .error .invalidField
  | 0x14 => if f = 0 then .ok (standardPage 0x114 4096) else .error .invalidField
  | 0x15 => if f = 0 then .ok (secondaryList s (dw10 c.sqe / 65536)) else .error .invalidField
  | 0x1C => .ok (standardPage 0x11C 4096)
  | _ => .error .invalidField

/-- R89, R97, R131: Identify. -/
def onIdentify (slot : Nat) (s : State) : State :=
  withFetched s slot (isAdmin 0x06) fun c =>
    match identifyData s c with
    | .ok bs => finish (hostData s c bs) slot .success
    | .error st => finish s slot st

/-- Features only the PF may name (R94). -/
def pfFeature (k : Nat) : Bool := [0x02, 0x0C, 0x0E, 0xC0].contains k

/-- A Set Features of an identifier passes the checks of R94. -/
def setFeature (s : State) (n : Nat) (p : Nat → Bool) (ok : CmdSlot → State) : State :=
  withFetched s n (fun c => isAdmin 0x09 c && p (fid c.sqe)) fun c =>
    if pfFeature (fid c.sqe) && c.func != 0 then finish s n .invalidField
    else if featSave c.sqe then finish s n .featureNotSaveable
    else ok c

/-- Change the features of a function. -/
def putFeatures (s : State) (f : Nat) (g : Features → Features) : State :=
  let x := funcOf s f
  putFunc s f { x with features := g x.features }

/-- The identifiers whose Set Features has a row of its own. -/
def ownFeature (k : Nat) : Bool := [0x02, 0x07, 0x0E, 0xC0, 0xC1].contains k

/-- R94: Set Features of Arbitration, Temperature Threshold, Interrupt Coalescing, Interrupt Vector and Asynchronous Event Configuration, and
Autonomous Power State Transition (`buffer` is its 32-entry table); any other identifier fails. -/
def onSetFeatures (slot : Nat) (buffer : List Word) (s : State) : State :=
  setFeature s slot (fun k => !ownFeature k) fun c =>
    let d := c.sqe.cdw11
    let f := c.func
    match fid c.sqe with
    | 0x01 => if 3 < d.toNat % 8 then finish s slot .invalidField else finish (putFeatures s f fun x => { x with arbitration := d }) slot .success
    | 0x04 =>
      if tmpSel c.sqe ≠ 0 ∨ 1 < thSel c.sqe then finish s slot .invalidField
      else finish (putFeatures s f fun x =>
        if thSel c.sqe = 0 then { x with tempThreshold := d &&& 0xFFFF#32 } else { x with underThreshold := d &&& 0xFFFF#32 }) slot .success
    | 0x08 => finish (putFeatures s f fun x => { x with intCoalescing := d }) slot .success
    | 0x09 =>
      let v := d.toNat % 65536
      if vecShare s f ≤ v then finish s slot .invalidField
      else
        let x := funcOf s f
        finish (putFunc s f { x with msix := spSet noMsix x.msix v { spGet noMsix x.msix v with coalesceOff := d.getLsbD 16 } }) slot .success
    | 0x0B => finish (putFeatures s f fun x => { x with asyncEventConfig := d }) slot .success
    | 0x0C => finish (putFeatures s f fun x => { x with apstEnable := d.getLsbD 0, apst := buffer.take 32 }) slot .success
    | _ => finish s slot .invalidField

/-- The Timestamp now, in ms (R96). -/
def stampNow (s : State) : Nat := s.clk.stampMs + (s.clk.us - s.clk.stampAt) / 1000

/-- R94, R96, R105, R106: Get Features. Log 50 (DEDUCED). -/
def onGetFeatures (slot : Nat) (s : State) : State :=
  withFetched s slot (isAdmin 0x0A) fun c =>
    let x := funcOf s c.func
    let k := fid c.sqe
    let done := fun (d : Nat) => finishWith s slot .success d 0
    if pfFeature k && c.func != 0 then finish s slot .invalidField
    else
      match k with
      | 0x01 => done x.features.arbitration.toNat
      | 0x02 => done (getF s F.pmuState_ps)
      | 0x04 =>
        if tmpSel c.sqe ≠ 0 ∨ 1 < thSel c.sqe then finish s slot .invalidField
        else done (if thSel c.sqe = 0 then x.features.tempThreshold.toNat else x.features.underThreshold.toNat)
      | 0x07 => if qpShare s c.func = 0 then finish s slot .invalidField else done x.features.numQueues.toNat
      | 0x08 => done x.features.intCoalescing.toNat
      | 0x09 =>
        let v := dw11 c.sqe % 65536
        if vecShare s c.func ≤ v then finish s slot .invalidField
        else done (v + b2n (spGet noMsix x.msix v).coalesceOff * 2 ^ 16)
      | 0x0B => done x.features.asyncEventConfig.toNat
      | 0x0C => finishWith (hostData s c (bytesAt (x.features.apst.flatMap fun w => leBytes 8 w.toNat) 0 256)) slot .success (b2n x.features.apstEnable) 0
      | 0x0E => finish (hostData s c (leBytes 6 (stampNow s) ++ leBytes 1 (if s.clk.stampSet then 2 else 0) ++ leBytes 1 0)) slot .success
      | 0xC0 => done (listAt 0 s.vfm.classDeadlines (dw11 c.sqe / 2 ^ 30))
      | 0xC1 => done (clsNum x.features.defClass)
      | _ => finish s slot .invalidField

/-- The PMU request of an NVMe power state (R95). -/
def psRequest (ps : Nat) : PmuReq := if ps ≤ 1 then .active else if ps = 2 then .idle else if ps = 3 then .standby else .safelight

/-- R95, R484, R562: Set Features Power Management: completes when the PMU has accepted the request. Log 118 (DEDUCED). -/
def onSetPowerManagement (slot : Nat) (s : State) : State :=
  setFeature s slot (· == 0x02) fun c =>
    let ps := dw11 c.sqe % 32
    if 4 < ps then finish s slot .invalidField
    else
      let s := if ps ≤ 2 then setF s F.pmuState_ps ps else s
      finish (forwardPmu (pmuRequest s (psRequest ps)) (psRequest ps)) slot .success

/-- R484: an Autonomous Power State Transition: after the idle time of the current state's entry the PMU gets the request of the state it
names. -/
def onAutonomousPsTransition (s : State) : State :=
  let x := (funcOf s 0).features
  let ps := getF s F.pmuState_ps
  let e := (listAt 0 x.apst ps).toNat
  let target := e / 8 % 32
  if !x.apstEnable || e / 256 % 2 ^ 24 == 0 || target ≤ ps || 4 < target || !operational s then s
  else
    let s := if target ≤ 2 then setF s F.pmuState_ps target else s
    forwardPmu (pmuRequest s (psRequest target)) (psRequest target)

/-- R132: Set Features Number of Queues: at most the share is granted; a function with no share fails. -/
def onSetNumberOfQueues (slot : Nat) (s : State) : State :=
  setFeature s slot (· == 0x07) fun c =>
    let q := qpShare s c.func
    let sq := dw11 c.sqe % 65536
    let cq := dw11 c.sqe / 65536
    if q = 0 ∨ sq = 0xFFFF ∨ cq = 0xFFFF then finish s slot .invalidField
    else
      let d := min sq (q - 1) + min cq (q - 1) * 65536
      finishWith (putFeatures s c.func fun x => { x with numQueues := BitVec.ofNat 32 d }) slot .success d 0

/-- A command whose members have still to answer waits for them; else it completes (R560). -/
def finishAdmin (s : State) (n : Nat) : State :=
  if adminDone s n then finish s n .success
  else match slotOf s n with | some c => putSlot s n { c with kind := .admin, phase := .waitMembers } | none => s

/-- Keep a class deadline until the next epoch (R28, R105). -/
def shadowClass (s : State) (k v : Nat) : State := { s with vfm := { s.vfm with classShadow := s.vfm.classShadow ++ [(k, v)] } }

/-- R105, R136, R560: Set Features FID 0xC0: staged during a STOP_ALL, else in effect from the next epoch; every member gets it. -/
def onSetDeadlineClassTable (slot : Nat) (s : State) : State :=
  setFeature s slot (· == 0xC0) fun c =>
    let k := dw11 c.sqe / 2 ^ 30
    let v := dw11 c.sqe % 2 ^ 24
    if v = 0 then finish s slot .invalidField
    else if s.vfm.stopAll then finish { s with vfm := { s.vfm with stagedClasses := s.vfm.stagedClasses ++ [(k, v)] } } slot .success
    else
      wakeFirst s (joined s) fun s =>
        let s := sendAdmin (shadowClass s k v) slot (joined s) (adminCommand c noNamespace)
        finishAdmin (mirror s (leBytes 1 1 ++ leBytes 1 k ++ leBytes 4 v)) slot

/-- R106: Set Features FID 0xC1: the function's class for Write and Verify. -/
def onSetDefaultDeadlineClass (slot : Nat) (s : State) : State :=
  setFeature s slot (· == 0xC1) fun c =>
    finish (putFeatures s c.func fun x => { x with defClass := clsOf (dw11 c.sqe % 4) }) slot .success

end Sys2Proof.Machine
end

