-- ==== Sys2Proof/Machine/Csh.lean ====
section
/-!
DEFINITION. The Contact Sheet (chapter 17): capture, record building, draining, clearing, the ring description and the readers'
windows.
-/

namespace Sys2Proof.Machine

open Sys2Proof

/-- RING_COUNT (R533). -/
def ringCount (s : State) : Nat := s.csh.ringSeqs.length

/-- The port CSH serves next: the lowest trigger, then the lowest instance (R520). -/
def nextPort : List Event → Option Event
  | [] => none
  | e :: es =>
    match nextPort es with
    | none => some e
    | some m => if m.trigger < e.trigger || (m.trigger == e.trigger && m.inst < e.inst) then some m else some e

/-- Free the port of an event. -/
def freePort (ps : List Event) (e : Event) : List Event :=
  ps.filter fun x => !(x.trigger == e.trigger && x.inst == e.inst)

/-- R520, R521, R525: one port's event enters the capture FIFO with its stamps and MISSED, or is missed while the FIFO holds 32. -/
def onEventCapture (s : State) : State :=
  match nextPort s.csh.ports with
  | none => s
  | some e =>
    let s := { s with csh := { s.csh with ports := freePort s.csh.ports e } }
    if 32 ≤ s.csh.fifo.length then (missEvent s e.trigger)
    else
      let c : Captured := ⟨e, s.clk.ophours, s.clk.pwrcyc, subCount s, getF s (F.cshMissed_pending (e.trigger - 1))⟩
      (clrF { s with csh := { s.csh with fifo := s.csh.fifo ++ [c] } } (F.cshMissed_pending (e.trigger - 1)))

/-- The record of a captured event (R524). -/
def buildRecord (seq : Nat) (c : Captured) : List Byte :=
  let ws := (c.event.words ++ List.replicate 10 0#32).take 10
  let body := leBytes 4 seq ++ leBytes 4 c.ophours ++ leBytes 3 c.pwrcyc ++ [0x01#8] ++
    leBytes 4 (c.sub % 2 ^ 19 + c.event.master % 128 * 2 ^ 19 + c.event.inst % 64 * 2 ^ 26) ++
    leBytes 4 (c.event.trigger % 256 + c.missed % 65536 * 65536) ++ ws.flatMap (fun w => leBytes 4 w.toNat)
  body ++ leBytes 4 (crc32c body).toNat

/-- The SEQ after `n`: 0 is never assigned (R522). -/
def nextSeq (n : Nat) : Nat := if n + 1 = 2 ^ 32 then 1 else n + 1

/-- R522: the builder takes the head of the FIFO: a record into staging, or LOST and the MISSED value returned where staging is full. -/
def onRecordBuild (s : State) : State :=
  match s.csh.fifo with
  | [] => s
  | c :: rest =>
    let s := { s with csh := { s.csh with fifo := rest } }
    if 1024 ≤ s.csh.staging.length then
      (incSat (incSat s F.cshLost_lost 1) (F.cshMissed_pending (c.event.trigger - 1)) c.missed)
    else
      let n := nextSeq s.csh.seq
      ({ s with csh := { s.csh with seq := n, staging := s.csh.staging ++ [buildRecord n c] } })

/-- R527: the drain of the oldest staging record. It moves where INIT is set and the written SEQ is that record's; otherwise
DRAIN_STALE sets. Writers other than MC0 to MC7 are refused. Log 27, 210 (DEDUCED). -/
def onCshDrainWrite (master seq : Nat) (s : State) : State :=
  rowGate s master F.cshDrain_seq.addr true fun s =>
  if !isMc master then refuse s master F.cshDrain_seq.addr
  else if !flag s F.cshStat_init then refuse s master F.cshDrain_seq.addr
  else if 16384 ≤ ringCount s then s
  else
    match s.csh.staging with
    | [] => (setBit s F.cshStat_drainStale)
    | r :: rest =>
      if recordSeq r = seq then
        { s with csh := { s.csh with staging := rest, ringSeqs := s.csh.ringSeqs ++ [seq] } }
      else (setBit s F.cshStat_drainStale)

/-- A window before its reader's first write: position 0 and WSTAT EMPTY (R538). -/
def noReader : CshReader := ⟨0, 2, List.replicate 64 0, false⟩

/-- A reader's window and cursor. -/
def readerOf (s : State) (m : Nat) : CshReader := spGet noReader s.csh.readers m

/-- Replace a reader's window. -/
def putReader (s : State) (m : Nat) (r : CshReader) : State :=
  { s with csh := { s.csh with readers := spSet noReader s.csh.readers m r } }

/-- A cursor after a clear of `n` records: it keeps naming the same record, and a window whose record was released reads EMPTY, once a fetch in progress has
completed (R530, R531). -/
def moveCursor (n : Nat) (r : CshReader) : CshReader :=
  if r.pos < n then { r with pos := 0, wstat := if r.wstat = 0 then 2 else r.wstat, released := r.wstat == 1 } else { r with pos := r.pos - n }

/-- R530, R531: a clear that names the current oldest record releases COUNT records, ring records first, and may zero LOST. -/
def onCshClearWrite (master count : Nat) (resetLost : Bool) (oldestSeq : Nat) (s : State) : State :=
  rowGate s master F.cshClear_count.addr true fun s =>
  if !(isMc master || master == idHostPf) then refuse s master F.cshClear_count.addr
  else if oldestSeq ≠ Sys2Proof.Machine.oldestSeq s then (setBit s F.cshStat_clearStale)
  else
    let ring := ringCount s
    let n := min count (ring + s.csh.staging.length)
    let fromRing := min n ring
    let old := getF s F.cshRing_oldSlot
    let s := { s with csh := { s.csh with
      ringSeqs := s.csh.ringSeqs.drop fromRing, staging := s.csh.staging.drop (n - fromRing),
      readers := spMapD noReader s.csh.readers (fun _ r => moveCursor n r) } }
    let s := setF s F.cshRing_oldSlot ((old + fromRing) % 16384)
    let s := if fromRing = 0 then s else interruptMcs s
    if resetLost then clrF s F.cshLost_lost else s

/-- R528, R536: the first write of CSH_RING after COLD describes the ring (its records' SEQ values oldest first come with the scan) and
sets INIT, which makes the register read-only. -/
def onCshRingWrite (master base oldSlot count : Nat) (seqs : List Nat) (s : State) : State :=
  rowGate s master F.cshRing_count.addr true fun s =>
  if !isMc master then refuse s master F.cshRing_count.addr
  else if flag s F.cshStat_init then s
  else
    let n := min count 16384
    let s := setF (setF (setF s F.cshRing_base base) F.cshRing_oldSlot oldSlot) F.cshRing_count n
    let s := setBit s F.cshStat_init
    ({ s with csh := { s.csh with ringSeqs := (seqs ++ List.replicate n 0).take n } })

/-- The readers of R529. -/
def isReader (m : Nat) : Bool := isMc m || m == idHostPf || m == idDebug

/-- Bits of a staging record have flipped: its parity fails at the read, which returns it as it stands (R529). -/
def upsetStaging (s : State) (i : Nat) (upset : List (Nat × Byte)) : State :=
  if upset.isEmpty then s
  else
    let r := upset.foldl (fun (r : List Byte) x => listSet r x.1 (listAt 0 r x.1 ^^^ x.2)) (listAt [] s.csh.staging i)
    setBit { s with csh := { s.csh with staging := listSet s.csh.staging i r } } F.cshStat_stgParity

/-- R529: a write of POS fetches that log position into the writer's window. A ring position waits for the SPI NOR. `upset` are bits that have flipped in a
staging record, by byte. Log 210 (DEDUCED). -/
def onCshCursorWrite (master pos : Nat) (upset : List (Nat × Byte)) (s : State) : State :=
  rowGate s master F.cshCursor_pos.addr true fun s =>
  if !isReader master then s
  else
    let ring := ringCount s
    let zero := List.replicate 64 (0 : Byte)
    if ring + s.csh.staging.length ≤ pos then putReader s master ⟨pos, 2, zero, false⟩
    else if pos < ring then
      putReader s master (if domainOn s .mgmt && flag s F.cshStat_init then ⟨pos, 1, (readerOf s master).win, false⟩ else ⟨pos, 3, zero, false⟩)
    else
      let s := upsetStaging s (pos - ring) upset
      putReader s master ⟨pos, 0, listAt zero s.csh.staging (pos - ring), false⟩

/-- R529, R531, R532: the ring record a reader waits for arrives; the window is READY unless the record was released meanwhile. A fetch waits
while the flash programs or erases, and for PD_MGMT. Log 5 (DESIGN CHOICE). -/
def onRingFetchComplete (master : Nat) (bytes : List Byte) (s : State) : State :=
  let r := readerOf s master
  if r.wstat = 1 ∧ s.nor.busy = false ∧ domainOn s .mgmt = true then
    putReader s master { r with wstat := if r.released then 2 else 0, win := bytesAt bytes 0 64, released := false }
  else s

/-- R529: a program or erase of the SPI NOR ends. The controller serves a waiting fetch before it starts the next operation. -/
def onSpiNorOperationEnd (s : State) : State :=
  let fetchWaits := s.csh.readers.any fun kv => kv.2.wstat == 1
  match s.nor.writers, fetchWaits with
  | _ :: rest, false => { s with nor := { s.nor with writers := rest, busy := true } }
  | _, _ => { s with nor := { s.nor with busy := false } }

end Sys2Proof.Machine
end

