-- ==== Sys2Proof/Machine/Mbx.lean ====
section
/-!
DEFINITION. The mailboxes (chapter 15): binding, claims, posting, reading, the resets of the parties, the interrupt and the wake.
-/

namespace Sys2Proof.Machine

open Sys2Proof

/-- A channel before it is bound. -/
def noChan : Chan := ⟨.unbound, 0, 0, List.replicate 16 0, false, false, false⟩

/-- A channel. -/
def chanOf (s : State) (n : Nat) : Chan := spGet noChan s.mbx.chans n

/-- Replace a channel. -/
def putChan (s : State) (n : Nat) (c : Chan) : State := { s with mbx := { s.mbx with chans := spSet noChan s.mbx.chans n c } }

/-- PARTY_A and PARTY_B of a channel (R473). -/
def partyA (s : State) (n : Nat) : Nat := getF s (F.mbxBind_partyA n)
def partyB (s : State) (n : Nat) : Nat := getF s (F.mbxBind_partyB n)

/-- A master is a party of a bound channel. -/
def isParty (s : State) (n m : Nat) : Bool := (chanOf s n).st != .unbound && (m == partyA s n || m == partyB s n)

/-- The other party of a channel. -/
def otherParty (s : State) (n m : Nat) : Nat := if m = partyA s n then partyB s n else partyA s n

/-- A mailbox fault: its MBX_ERR bit with the record that names channel and master (R475). -/
def mbxFault (s : State) (bit : Fld) (n m : Nat) : State :=
  raiseErr s bit 0x0C 0 m fun s => [regNat s bit.addr, n, m]

/-- A refused access: the fault, the count, and an error response (R461, R462, R475). Log 26 (DEDUCED). -/
def mbxRefuse (s : State) (bit : Fld) (n m addr : Nat) : State :=
  errorResponse (incSat (mbxFault s bit n m) F.mbxErr_errCount 1) m addr

/-- MBX answers a master: the fabric reaches it while PD_DATA is on, the LRS always (R461). Log 26 (DEDUCED). -/
def mbxReached (s : State) (m : Nat) : Bool := domainOn s .data || m == idLrs

/-- A master can be a party: MC0 to MC7, SECCORE, a channel sequencer of an enabled bay, PEER0 to PEER15 or LRS (R460). -/
def canBeParty (s : State) (m : Nat) : Bool :=
  isMc m || m == idSec || (decide (0x30 ≤ m ∧ m ≤ 0x3F) && bayEnabled s ((m - 0x30) / 4)) || decide (0x40 ≤ m ∧ m ≤ 0x4F) || m == idLrs

/-- MBX_PEND of a master: the channels FULL with it as receiver (R476). -/
def mbxPend (s : State) (m : Nat) : Word :=
  BitVec.ofNat 64 (s.mbx.chans.foldl (fun a kv =>
    if kv.2.st == .full && isParty s kv.1 m && kv.2.holder != m then a + 2 ^ kv.1 else a) 0)

/-- MBX_DONE and MBX_MASK of a master. -/
def mbxDone (s : State) (m : Nat) : Word := spGet 0 s.mbx.done m
def mbxMask (s : State) (m : Nat) : Word := spGet 0 s.mbx.mask m

/-- The power domain in which a party runs is on: a message interrupts it once its domain has left reset (R469). -/
def partyOn (s : State) (m : Nat) : Bool :=
  if isMc m then domainOn s .mgmt
  else if m = idSec then domainOn s .sec
  else if 0x30 ≤ m ∧ m ≤ 0x3F then bayOn s ((m - 0x30) / 4) || (bayOf s ((m - 0x30) / 4)).phase == .waitTpor
  else true

/-- Tell a party of channel `n` that its PEND (kind 0) or DONE (kind 1) is set: an MBX_NOTICE to a LIVE peer (R563), else its interrupt
unless masked (R468). -/
def mbxNotify (s : State) (m n kind : Nat) : State :=
  if 0x40 ≤ m ∧ m ≤ 0x4F then
    (if peerLive s (m - 0x40) then slkSend s (m - 0x40) 0x32 0 (leBytes 1 n ++ leBytes 1 kind) else s)
  else emitIf (partyOn s m && !(mbxMask s m).getLsbD n) s (.interrupt m)

/-- The mailbox interrupt of a master (R468): an unmasked PEND or DONE bit. -/
def mbxIrq (s : State) (m : Nat) : Bool := (mbxPend s m ||| mbxDone s m) &&& ~~~ mbxMask s m != 0

/-- Masters that have just left reset see the interrupts that stand (R468, R469). -/
def mbxInterrupts (s : State) (ms : List Nat) : State := forEach ms s fun s m => emitIf (partyOn s m && mbxIrq s m) s (.interrupt m)

/-- A write of MBX_MASK; an interrupt that it lets through is asserted (R468, R476). -/
def writeMask (s : State) (m : Nat) (v : Word) : State :=
  let t := { s with mbx := { s.mbx with mask := spSet 0 s.mbx.mask m v } }
  if mbxIrq s m then t else mbxInterrupts t [m]

/-- Set a party's DONE bit and tell it (R467, R468). -/
def setDone (s : State) (m n : Nat) : State :=
  mbxNotify { s with mbx := { s.mbx with done := spSet 0 s.mbx.done m (mbxDone s m ||| BitVec.ofNat 64 (2 ^ n)) } } m n 1

/-- The channel back to IDLE: words zeroed, marks cleared; ZERO_LEN stays until the next GO or RELEASE (R462, R478). -/
def toIdle (c : Chan) : Chan := { c with st := .idle, holder := 0, len := 0, words := List.replicate 16 0, orphan := false, rxReset := false }

/-- R460, R473: the security core binds a channel to two distinct masters that can be parties, before BIND_LOCK. A channel bound leaves
UNBOUND for IDLE; one written with VALID 0 is unbound. Log 208 (DEDUCED). -/
def onMbxBindWrite (master n : Nat) (value : DWord) (s : State) : State :=
  let a := value.toNat % 128
  let b := value.toNat / 256 % 128
  let addr := (F.mbxBind_valid n).addr
  if reservedMaster master then badMaster s master addr
  else if !mbxReached s master then pwrOffResponse s master addr true
  else if master ≠ idSec ∨ flag s F.mbxLock_bindLock = true ∨ a = b ∨ canBeParty s a = false ∨ canBeParty s b = false ∨ 64 ≤ n then
    mbxRefuse s F.mbxErr_bindRefused n master addr
  else
    let s := setF (setF (setF (setF (setF s (F.mbxBind_partyA n) a) (F.mbxBind_partyB n) b)
      (F.mbxBind_wakeA n) (field value.toNat 29 29)) (F.mbxBind_wakeB n) (field value.toNat 30 30))
      (F.mbxBind_valid n) (field value.toNat 31 31)
    let c := chanOf s n
    if bitAt value.toNat 31 then (if c.st == .unbound then putChan s n { noChan with st := .idle } else s)
    else putChan s n noChan

/-- R474: the security core locks the binding table; another master's write is refused. -/
def onBindLock (master : Nat) (s : State) : State :=
  if reservedMaster master then badMaster s master F.mbxLock_bindLock.addr
  else if !mbxReached s master then pwrOffResponse s master F.mbxLock_bindLock.addr true
  else if master = idSec then setBit s F.mbxLock_bindLock
  else errorResponse s master F.mbxLock_bindLock.addr

/-- A read by the debug port: at CLOSED the port reads no MBX register (R441, R461). -/
def debugReads (s : State) (reply : State) : State :=
  if getF s F.dbgUnlock_level = 0 then emit s (.note "debug refused" idDebug) else reply

/-- One claim read (R463): RESULT and HOLDER, and the grant. -/
def claimOne (n : Nat) (s : State) (m : Nat) : State :=
  let c := chanOf s n
  let reply := fun (s : State) (result holder : Nat) =>
    emit s (.readResponse m (BitVec.ofNat 64 (result * 2 ^ 30 + holder)))
  if m = idDebug then debugReads s <| reply s (match c.st with | .claimed => 1 | .full => 2 | _ => 3) (match c.st with | .claimed | .full => c.holder | _ => 0)
  else if reservedMaster m then badMaster s m (F.mbxClaim_result n).addr
  else if !mbxReached s m then pwrOffResponse s m (F.mbxClaim_result n).addr false
  else if !isParty s n m then reply (incSat (mbxFault s F.mbxErr_notBound n m) F.mbxErr_errCount 1) 3 0
  else
    match c.st with
    | .full => reply s 2 c.holder
    | .claimed => if c.holder = m then reply s 0 m else reply s 1 c.holder
    | _ => reply (putChan s n { c with st := .claimed, holder := m }) 0 m

/-- Insert a number into an ascending list. -/
def insertAsc (x : Nat) : List Nat → List Nat
  | [] => [x]
  | y :: ys => if x ≤ y then x :: y :: ys else y :: insertAsc x ys

/-- Sort ascending. -/
def sortAsc (xs : List Nat) : List Nat := xs.foldr insertAsc []

/-- R463 to R465: the claim reads of channel `n` that reach MBX in one FIRC cycle are taken in order of master ID, the lower first. -/
def onMbxClaim (n : Nat) (masters : List Nat) (s : State) : State := forEach (sortAsc masters) s (claimOne n)

/-- R466, R480: the holder writes a word of a CLAIMED channel; any other word write is refused. -/
def onMbxWordWrite (master n i : Nat) (value : DWord) (s : State) : State :=
  let addr := (F.mbxWord_word n i).addr
  let c := chanOf s n
  if reservedMaster master then badMaster s master addr
  else if !mbxReached s master then pwrOffResponse s master addr true
  else if !isParty s n master then mbxRefuse s F.mbxErr_notBound n master addr
  else if c.st == .claimed && c.holder == master && decide (i < 16) then putChan s n { c with words := listSet c.words i value }
  else mbxRefuse s F.mbxErr_protocol n master addr

/-- A write to MBX_CTRL passes MBX's checks up to the channel's state: reached, and by a party (R461). Log 26, 174 (DEDUCED). -/
def ctrlCheck (s : State) (master n : Nat) (act : Chan → State) : State :=
  let addr := (F.mbxCtrl_go n).addr
  if reservedMaster master then badMaster s master addr
  else if !mbxReached s master then pwrOffResponse s master addr true
  else if !isParty s n master then mbxRefuse s F.mbxErr_notBound n master addr
  else act (chanOf s n)

/-- R469: the GO wakes an off receiver whose WAKE bit is set: its bay, or PD_MGMT or PD_SEC by a wake request. Peers and the LRS are never
woken. -/
def mailboxWake (s : State) (n m : Nat) : State :=
  let wake := if m = partyA s n then flag s (F.mbxBind_wakeA n) else flag s (F.mbxBind_wakeB n)
  if !wake || partyOn s m then s
  else if 0x30 ≤ m ∧ m ≤ 0x3F then requestBay s ((m - 0x30) / 4)
  else if isMc m || m == idSec then wakeRequest s F.pmuWake_mailbox
  else s

/-- R462, R466, R468, R469: the holder's GO posts LEN words (above 16 taken as 16), zeroes the rest, and tells or wakes the receiver; LEN 0
posts nothing and sets ZERO_LEN. -/
def onGo (master n len : Nat) (s : State) : State :=
  ctrlCheck s master n fun c =>
    if c.st == .claimed && c.holder == master then
      (if len = 0 then putChan s n { c with zeroLen := true }
      else
        let l := min len 16
        let m := otherParty s n master
        let s := putChan s n { c with st := .full, len := l, words := c.words.take l ++ List.replicate (16 - l) 0, zeroLen := false }
        mailboxWake (mbxNotify s m n 0) n m)
    else mbxRefuse s F.mbxErr_protocol n master (F.mbxCtrl_go n).addr

/-- R462: the holder drops its claim. -/
def onRelease (master n : Nat) (s : State) : State :=
  ctrlCheck s master n fun c =>
    if c.st == .claimed && c.holder == master then putChan s n { toIdle c with zeroLen := false }
    else mbxRefuse s F.mbxErr_protocol n master (F.mbxCtrl_go n).addr

/-- R462, R465: the sender withdraws its FULL message; where the last word was read in the same cycle the channel is IDLE already and the
write is ignored. -/
def onRecall (master n : Nat) (s : State) : State :=
  ctrlCheck s master n fun c =>
    if c.st == .full && c.holder == master then putChan s n (toIdle c)
    else if c.st == .idle && (mbxDone s master).getLsbD n then s
    else mbxRefuse s F.mbxErr_protocol n master (F.mbxCtrl_go n).addr

/-- FULL clears by the receiver: the sender's DONE bit, unless the message was orphaned (R467). -/
def emptied (s : State) (n : Nat) (c : Chan) : State :=
  let s' := putChan s n (toIdle c)
  if c.orphan then s' else setDone s' c.holder n

/-- R462, R467: the receiver empties a FULL channel unread. -/
def onDiscard (master n : Nat) (s : State) : State :=
  ctrlCheck s master n fun c =>
    if c.st == .full && c.holder != master then emptied s n c
    else mbxRefuse s F.mbxErr_protocol n master (F.mbxCtrl_go n).addr

/-- R466, R467, R480: a read of word `i` by a party returns it while FULL, else zero; the receiver's read of word LEN − 1 empties the
channel. The debug port's read changes nothing. -/
def onMbxLastWordRead (master n i : Nat) (s : State) : State :=
  let addr := (F.mbxWord_word n i).addr
  let c := chanOf s n
  let word := emit s (.readResponse master ((listAt 0 c.words i).zeroExtend 64))
  if master = idDebug then debugReads s word
  else if reservedMaster master then badMaster s master addr
  else if !mbxReached s master then pwrOffResponse s master addr false
  else if !isParty s n master then mbxRefuse s F.mbxErr_notBound n master addr
  else if c.st == .full then
    (if c.holder != master && i + 1 == c.len then emptied word n c else word)
  else emit s (.readResponse master 0)

/-- The resets of masters in one cycle meet one channel (R471). -/
def resetChan (masters : List Nat) (s : State) (n : Nat) : State :=
  let c := chanOf s n
  let hit := fun m => masters.contains m
  match c.st with
  | .claimed => if hit c.holder then putChan s n (toIdle c) else s
  | .full =>
    let rx := otherParty s n c.holder
    let s := if hit c.holder then mbxFault (putChan s n { c with orphan := true }) F.mbxErr_orphaned n c.holder else s
    if hit rx then
      let s := mbxFault (putChan s n { chanOf s n with rxReset := true }) F.mbxErr_rxReset n rx
      if hit c.holder then s else setDone s c.holder n
    else s
  | _ => s

/-- R470, R471: the masters that count as reset in this cycle meet every channel, in channel order. -/
def resetParties (s : State) (masters : List Nat) : State :=
  if masters.isEmpty then s else forEach (s.mbx.chans.map (·.1)) s (resetChan masters)

/-- R470, R471: a party counts as reset, and runs again. -/
def onMbxPartyReset (masters : List Nat) (s : State) : State := mbxInterrupts (resetParties s masters) masters

/-- The notices SLK sends when a peer has joined or PD_SLK is back: one per channel whose PEND or DONE toward the peer is set, in channel
order (R563). -/
def mbxNotices (s : State) (d : Nat) : State :=
  let m := idPeer d
  forEach (List.range 64) s fun s n =>
    let s := if (mbxPend s m).getLsbD n then mbxNotify s m n 0 else s
    if (mbxDone s m).getLsbD n then mbxNotify s m n 1 else s

/-- MBX_STAT of a channel (R478). -/
def mbxStat (s : State) (n : Nat) : Word :=
  let c := chanOf s n
  let code := match c.st with | .unbound => 0 | .idle => 1 | .claimed => 2 | .full => 3
  BitVec.ofNat 64 (code * 2 ^ 30 + b2n c.orphan * 2 ^ 29 + b2n c.rxReset * 2 ^ 28 + b2n c.zeroLen * 2 ^ 27 +
    (if c.st == .full then c.len else 0) * 2 ^ 16 + (if c.st == .claimed || c.st == .full then c.holder else 0))

/-- R472, R478: the sender clears RX_RESET by writing 1. -/
def mbxStatWrite (s : State) (master n : Nat) (data : Word) : State :=
  let c := chanOf s n
  if data.getLsbD 28 && c.st == .full && c.holder == master then putChan s n { c with rxReset := false } else s

end Sys2Proof.Machine
end

