-- ==== Sys2Proof/Machine/PageBuild.lean ====
section
/-!
DEFINITION. The bytes a channel sequencer programs (R199, R203, R216 to R222, R251 to R254, R289): wedges, codewords of staged slots, of filler and
of die parity.
-/

namespace Sys2Proof.Machine

open Sys2Proof

/-- An armed injection meets an event of its target and function (R333, R334). Log 83 (DEDUCED). -/
def flipHits (s : State) (target func : Nat) : Bool := flag s F.mepFlip_arm && getF s F.mepFlip_target == target && getF s F.mepFlip_func == func

/-- The injection has fired: ARM clears, FIRED sets (R334). -/
def fireFlip (s : State) : State := setBit (clrF s F.mepFlip_arm) F.mepFlip_fired

/-- MASK on bytes 0 to 3 of a block. -/
def flipBytes (s : State) (bs : List Byte) : List Byte := xorBytes (bs.take 4) (leBytes 4 (getF s F.mepFlip_mask)) ++ bs.drop 4

/-- The bytes k whose MASK bit is set (PAR_SRAM, PAR_DRAM). -/
def flipParity (s : State) : List Nat := (List.range 32).filter fun k => bitAt (getF s F.mepFlip_mask) k

/-- The information part of a data slot: its staged copy, also where the write has ended with KEY_REVOKED since a pass began (R412), else filler. -/
def slotInfo (s : State) (z : ZstEntry) (pzn slot : Nat) : List Byte :=
  match spFind s.mep.staged (stageKey pzn slot) with
  | some b => infoBytes b
  | none => fillerInfo s z pzn slot

/-- The information part of codeword `c` of a bit-page on a member: a data slot's, or on the parity member the exclusive OR over the
15 data members (R289). Log 66 (DEDUCED). -/
def cwInfo (s : State) (z : ZstEntry) (pzn hr plane bp c m : Nat) : List Byte :=
  let v := 2 * bp + plane % 2
  let slot := fun k => hr * hrSlots z.tier + (v * 15 + k) * 8 + c
  if m = parityMember pzn then
    (List.range 15).foldl (fun a k => xorBytes a (slotInfo s z pzn (slot k))) (List.replicate 4128 0)
  else slotInfo s z pzn (slotAt z.tier pzn hr plane bp c m)

/-- The page header (R220). -/
def headerBytes (s : State) (z : ZstEntry) (pzn hr plane bp m oph pwr : Nat) : List Byte :=
  let d := memberDie (groupOf pzn) m
  let h := leBytes 1 1 ++ leBytes 1 (tierNum z.tier + bp * 4 + plane * 32) ++ leBytes 1 (hr / 2) ++ [0] ++ leBytes 4 pzn ++
    leBytes 4 (if z.bound then z.ezn else 0x3FFFFF) ++ leBytes 4 (zmapOf s z.ezn).epoch ++ leBytes 2 d ++ leBytes 2 (blockFor z pzn m plane) ++
    leBytes 4 oph ++ leBytes 4 (pwr % 2 ^ 24) ++ leBytes 1 (devId s) ++ leBytes 15 0
  h ++ leBytes 4 (crc32c h).toNat

/-- A fog entry as stored (R222). -/
def fogWord (e : FogEntry) : Nat := e.cell % 2 ^ 19 + e.run % 32 * 2 ^ 19 + b2n (!e.isErase) * 2 ^ 24

/-- Fog-map fragment r of a block-plane (R222). -/
def fogBytes (s : State) (i r : Nat) : List Byte :=
  let es := ((spGet [] s.age.fogMap i).drop (30 * r)).take 30
  let f := leBytes 1 r ++ leBytes 1 es.length ++ leBytes 2 (brtOf s i).mapSeq ++ bytesAt (es.flatMap fun e => leBytes 4 (fogWord e)) 0 120
  f ++ leBytes 4 (crc32c f).toNat

/-- The strip cells of wedge r in bit-page j (R221). -/
def stripBytes (t : Tier) (j r : Nat) : List Byte := bytesOfBits 64 ((List.range 512).map fun i => stripBit t j i r).toArray

/-- Wedge r (R219). -/
def buildWedge (header fog : List Byte) (t : Tier) (j r : Nat) : List Byte :=
  List.replicate 8 0x33#8 ++ beBytes 6 0xF3A61D8E592B ++ [BitVec.ofNat 8 r, ~~~ BitVec.ofNat 8 r] ++ header ++ fog ++ stripBytes t j r

/-- The codeword of a bit-page that an armed CODEWORD injection hits (R333): the first that holds host data of FUNC, in the pass that leaves the
cells at their final level. Log 83 (DEDUCED). -/
def flipCw (s : State) (pzn hr plane bp m : Nat) (pass : Pass) (a : Acct) : Option Nat :=
  let z := zstOf s pzn
  let f := match a with | .func n => n | .device => 0x1FFF
  if pass == .coarse || m == parityMember pzn || !flipHits s 7 f then none
  else (List.range 8).find? fun c => !slotFiller z (slotAt z.tier pzn hr plane bp c m)

/-- A bit-page as programmed (R216), with MASK on the first 32 bits of codeword `flip` (R333). Log 66 (DEDUCED). -/
def buildPage (s : State) (pzn hr plane bp m : Nat) (stamp : Nat × Nat) (flip : Option Nat) : List Byte :=
  let z := zstOf s pzn
  let h := headerBytes s z pzn hr plane bp m stamp.1 stamp.2
  let i := brtIndex (memberDie (groupOf pzn) m) plane (blockFor z pzn m plane)
  let stream := (List.range 8).flatMap fun c =>
    let w := ldpcEncode (cwInfo s z pzn hr plane bp c m)
    if flip = some c then flipBytes s w else w
  (List.range 5).flatMap fun r => buildWedge h (fogBytes s i r) z.tier bp r ++ bytesAt stream (7936 * r) 7936

end Sys2Proof.Machine
end

