-- ==== Sys2Proof/Machine/Media.lean ====
section
/-!
DEFINITION. Failures of programs and erases and what replaces a block-plane (R290 to R294, R297).
-/

namespace Sys2Proof.Machine

open Sys2Proof

/-- Read and write the stored record of a block-plane. -/
def recOf (s : State) (i : Nat) : BrtRecord := spGet (freshBrt i) s.mhm.brt i

def modBrt (s : State) (i : Nat) (f : BrtRecord → BrtRecord) : State := setBrt s i (f (recOf s i))

/-- The lowest free erased spare of a die and plane (R290). -/
def freeSpare (s : State) (d plane : Nat) : Option Nat :=
  (List.range (min 64 (dieF s d 0x13 1))).find? fun x =>
    let r := brtOf s (brtIndex d plane (4096 + x))
    r.kind == .spareFree && r.cond == .erased

/-- Record a substitution in a physical zone's entry, in place of one for the same member and plane (R47). -/
def putSubst (xs : List Subst) (x : Subst) : List Subst :=
  if xs.any (fun y => y.member == x.member && y.plane == x.plane) then
    xs.map fun y => if y.member = x.member ∧ y.plane = x.plane then x else y
  else xs ++ [x]

/-- A block-plane goes BAD and a spare takes its place (R290, R291): the spare, or none where four substitutions are held or no spare is free. -/
def substitute (s : State) (pzn m plane : Nat) : State × Option Nat :=
  let z := zstOf s pzn
  let d := memberDie (groupOf pzn) m
  let old := brtIndex d plane (blockFor z pzn m plane)
  let s := modBrt s old fun r => { r with kind := .bad }
  let again := z.subst.any fun x => x.member == m && x.plane == plane
  match freeSpare s d plane with
  | none => (mhmFault s F.mhmErr_spareOut old, none)
  | some x =>
    if 4 ≤ z.subst.length ∧ again = false then (s, none)
    else
      let s := modBrt s (brtIndex d plane (4096 + x)) fun r => { r with kind := .spareAssigned, owner := blockOf pzn }
      let s := putZst s pzn { zstOf s pzn with subst := putSubst z.subst ⟨m, plane, x⟩ }
      (if z.bound then journalZone s z.ezn else s, some x)

/-- The source of the relocation whose target a physical zone is. -/
def sourceOf (s : State) (pzn : Nat) : Option (Nat × Reloc) := s.mhm.relocs.find? fun kv => kv.2.target == pzn

/-- A relocation restarts: its target goes to DIRTY and its zone is a candidate again (R286). -/
def restartReloc (s : State) (src : Nat) (r : Reloc) : State := queueCandidate (cancelReloc s src) r.ezn r.cause

/-- A substitution of a physical zone cannot be made (R290): its zone is to move and the physical zone to be withdrawn once it has; a relocation's target is
withdrawn at once, and the relocation starts again (R286). -/
def noSpare (s : State) (pzn : Nat) : State :=
  match sourceOf s pzn with
  | some (src, r) => withdrawZone (restartReloc s src r) pzn
  | none => queueCandidate { s with mhm := { s.mhm with doomed := addOnce s.mhm.doomed pzn } } (zstOf s pzn).ezn .substFull

/-- A program failed with cause PROGRAM_FAIL or TIMEOUT at a plane (R290): the block-plane is replaced and its finished word lines are copied,
or the zone is to move. On the target of a relocation nothing is copied: the relocation starts again with another target (R286). Log 67 (DEDUCED). -/
def programFails (s : State) (pzn hr m plane : Nat) : State :=
  let z := zstOf s pzn
  match substitute s pzn m plane with
  | (s, some x) => (match sourceOf s pzn with
    | some (src, r) => restartReloc s src r
    | none =>
      let p := progOf s pzn
      let s := putProg s pzn { p with halted := addOnce p.halted m }
      { s with mhm := { s.mhm with copies := s.mhm.copies ++ [⟨pzn, m, plane, blockFor z pzn m plane, x, hr / 2⟩] } })
  | (s, none) => noSpare s pzn

/-- An erase failed at a plane (R291): the block-plane is replaced in the unbound zone's entry; where it cannot be, the zone is
withdrawn. Log 68 (DEDUCED). -/
def eraseFails (s : State) (d block plane : Nat) : State :=
  let m := dieMember d
  let pzn := if block < 4096 then dieGroup d * 4096 + block else dieGroup d * 4096 + (recOf s (brtIndex d plane block)).owner
  let mine := block < 4096 ∨ blockFor (zstOf s pzn) pzn m plane = block
  if mine = false then modBrt s (brtIndex d plane block) fun r => { r with kind := .bad }
  else
    match substitute s pzn m plane with
    | (s, some _) => s
    | (s, none) =>
      let s := putZst s pzn { zstOf s pzn with bound := false, state := .offline }
      let s := { s with
        zrs := { s.zrs with ready := spMod s.zrs.ready (groupOf pzn) fun l => dropAll l pzn },
        mhm := { s.mhm with withdrawn := addOnce s.mhm.withdrawn pzn } }
      mhmFault s F.mhmErr_withdrawn (brtIndex d plane block)

/-- The map a block-plane is given at its first program: ERASE entries first, then WEAK entries newest first, 150 at most (R297). -/
def mergedFog (s : State) (i : Nat) : List FogEntry :=
  let all := (spGet [] s.age.fogExt i).reverse ++ spGet [] s.age.fogMap i
  ((all.filter FogEntry.isErase) ++ all.filter fun e => !e.isErase).take 150

/-- The fog map is merged, MAP_SEQ advances and the extension is clear (R297). -/
def mergeFog (s : State) (i : Nat) : State :=
  let s := { s with age := { s.age with fogMap := spSet [] s.age.fogMap i (mergedFog s i), fogExt := spErase s.age.fogExt i } }
  modBrt s i fun r => { r with mapSeq := (r.mapSeq + 1) % 65536, fogExt := false }

/-- A block-plane has more than 150 ERASE entries (R297). -/
def fogWorn (s : State) (i : Nat) : Bool :=
  decide (150 < ((spGet [] s.age.fogExt i ++ spGet [] s.age.fogMap i).filter FogEntry.isErase).length)

/-- PTEMP of the composite temperature (R276). -/
def ptemp (c : Int) : Nat := if c < 0 then 0 else if c < 25 then 1 else if c < 50 then 2 else if c < 75 then 3 else 4

/-- The first program of a block-plane opens it (R276, R297). -/
def openPlane (s : State) (i : Nat) (t : Tier) : State :=
  let s := mergeFog s i
  modBrt s i fun r => { r with cond := .opened, tier := tierNum t, ptemp := ptemp s.age.composite, progOph := s.clk.ophours }

/-- The bound zones of a stitch group that are neither Empty nor Offline (R294). -/
def zonesOfGroup (s : State) (g : Nat) : List Nat :=
  (s.zrs.zst.filter fun kv => kv.2.bound && groupOf kv.1 == g && kv.2.state != .empty && kv.2.state != .offline).map fun kv => kv.2.ezn

/-- A die leaves service (R190, R292). -/
def dieLeaves (s : State) (d : Nat) : State := clrF s (F.fchDieCfg_inservice (dieChannel d) (diePos d))

end Sys2Proof.Machine
end

