-- ==== Sys2Proof/Machine/Survey.lean ====
section
/-!
DEFINITION. The sentinel survey (R302, R303): the senses of each sentinel, its estimate, and the end of the survey.
-/

namespace Sys2Proof.Machine

open Sys2Proof

/-- The greatest x, built from bit `n` down, with x^q at most a limit. -/
def rootFrom : (n q limit x : Nat) → Nat
  | 0, _, _, x => x
  | n + 1, q, limit, x => if (x + 2 ^ n) ^ q ≤ limit then rootFrom n q limit (x + 2 ^ n) else rootFrom n q limit x

/-- 2^(p/q) hours in 24.8 fixed point, rounded down. Log 126 (DEDUCED). -/
def pow2Hours (p q : Nat) : Nat := rootFrom 40 q (2 ^ (p + 8 * q)) 0

/-- Twice the center of a bin on the logarithmic age axis (R303). -/
def center2 (a : Nat) : Nat := if a = 0 then 2 else 2 * a + 3

/-- The effective age of the code num ÷ den in 24.8 fixed-point hours (R303), for the table entries `v` of the sentinel. -/
def effectiveAge (v : Nat → Int) (num : Int) (den : Nat) : Nat :=
  let n := fun (a : Nat) => v a * den
  if n 0 < num then 512
  else
    match (List.range 15).find? fun a => decide (num ≤ n a ∧ n (a + 1) < num) with
    | some a =>
      let q := 2 * (n a - n (a + 1)).toNat
      let p := center2 a * (n a - n (a + 1)).toNat + (center2 (a + 1) - center2 a) * (n a - num).toNat
      pow2Hours p q
    | none => pow2Hours 33 2

/-- The senses of a sentinel at a code: mismatches and wedges framed. -/
def senseAt (w : SurveyWork) (c : Int) : Option (Nat × Nat) := (w.senses.find? fun x => x.1 == c).map (·.2)

/-- The even codes from 0 down to OFFSET_MIN of a die (R302). -/
def evenCodes (s : State) (d : Nat) : List Int := (List.range ((-(offsetMin s d)).toNat / 2 + 1)).map fun (i : Nat) => -(2 * (i : Int))

/-- The code of the fewest mismatches among some, highest first; of equal ones the higher (R302). -/
def bestCode (w : SurveyWork) (cs : List Int) : Int × Nat :=
  let es := cs.filterMap fun c => (senseAt w c).map fun x => (c, x.1)
  match es with
  | [] => (0, 0)
  | e :: rest => rest.foldl (fun b x => if x.2 < b.2 then x else b) e

/-- The code a sentinel is sensed at next: the even codes, then the two beside the best of them; none once all are in (R302). Log 126 (DEDUCED). -/
def nextCode (s : State) (d : Nat) (w : SurveyWork) : Option Int :=
  let missing := fun (cs : List Int) => cs.find? fun c => (senseAt w c).isNone
  match missing (evenCodes s d) with
  | some c => some c
  | none => let b := (bestCode w (evenCodes s d)).1; missing [b - 1, b + 1]

/-- The estimate of one sentinel in 24.8 fixed-point hours, none where it is not valid (R302). Log 126 (DEDUCED). -/
def sentinelEstimate (s : State) (d : Nat) (x : Sentinel) (w : SurveyWork) : Option Int :=
  let v := fun (a : Nat) => ttabOf s x.tier a x.bp
  let (c, e0) := bestCode w (evenCodes s d)
  match senseAt w (c - 1), senseAt w (c + 1) with
  | some (el, _), some (eh, _) =>
    let k : Int := (el : Int) - 2 * e0 + eh
    let num : Int := if k ≤ 0 then c else c * (2 * k) + ((el : Int) - eh)
    let den : Nat := if k ≤ 0 then 1 else (2 * k).toNat
    let before := (s.age.history.dropLast.getLast?.map HistEntry.offsum).getD 0
    let known : Int := ((s.clk.ophours : Int) - x.progOph) + ((before : Int) - offsumAt s x.progOph)
    let est : Int := (effectiveAge v num den : Int) - known
    if w.senses.any (fun y => decide (y.2.2 < 3)) ∨ num < v 15 * den ∨ est < -2048 then none else some (max 0 est)
  | _, _ => none

/-- A sentinel under survey, by its key: die × 4 + place. -/
def sentinelAt (s : State) (key : Nat) : Option Sentinel := (spGet [] s.age.sentinels (key / 4))[key % 4]?

/-- The work of the survey on one sentinel. -/
def surveyAt (s : State) (key : Nat) : Option SurveyWork := spFind s.age.survey key

def putSurvey (s : State) (key : Nat) (w : SurveyWork) : State := { s with age := { s.age with survey := spPut s.age.survey key w } }

/-- The survey starts (R302): every sentinel of a die in service. -/
def startSurvey (s : State) : State :=
  let keys := s.age.sentinels.flatMap fun kv => if dieInService s kv.1 then (List.range (min 4 kv.2.length)).map (4 * kv.1 + ·) else []
  let s := { s with age := { s.age with estimates := [], survey := [] } }
  setF (forEach keys s fun s k => putSurvey s k ⟨[], []⟩) F.mhmOffest_state 1

/-- The survey has ended once no sentinel is left: MHM waits for the Timestamp (R304, R312). -/
def surveyEnds (s : State) : State :=
  if getF s F.mhmOffest_state = 1 ∧ s.age.survey.isEmpty = true then { setF s F.mhmOffest_state 2 with age := { s.age with surveyed := s.clk.us } } else s

/-- A sentinel leaves the survey, with an estimate or without one. -/
def leaveSurvey (s : State) (key : Nat) (est : Option Int) : State :=
  surveyEnds { s with age := { s.age with survey := spErase s.age.survey key, estimates := s.age.estimates ++ est.toList } }

/-- The next sense of a sentinel: a device-account entry of class Negative, with that class's deadline (R105, R302). Log 126 (DEDUCED). -/
def senseSentinel (s : State) (key : Nat) : State :=
  match sentinelAt s key, surveyAt s key with
  | some x, some w =>
    (match nextCode s (key / 4) w with
    | some c =>
      enqueue (putSurvey s key { w with wedges := [] }) (key / 4)
        ⟨.survey (key % 4) c, x.tier, .device, .negative, now s + 100 * listAt 0 s.vfm.classDeadlines 2, 0, false⟩
    | none => leaveSurvey s key (sentinelEstimate s (key / 4) x w))
  | _, _ => leaveSurvey s key none

/-- A sense of a sentinel is queued or under way on its die. -/
def surveyHeld (s : State) (key : Nat) : Bool :=
  let x := dieOf s (key / 4)
  let mine := fun (e : DieEntry) => match e.op with | .survey i _ => i == key % 4 | _ => false
  x.queue.any mine || x.current.any (fun r => mine r.entry)

/-- The survey goes on: the sentinels with no sense under way take their next one. -/
def surveyOn (s : State) : State :=
  surveyEnds (forEach ((s.age.survey.map (·.1)).filter fun k => !surveyHeld s k) s senseSentinel)

/-- The read a sentinel's wedges are framed as. -/
def surveyRead (d : Nat) (x : Sentinel) (wedges : Sparse WedgeState) : ReadOp :=
  { newRead .management d 0 x.plane x.block x.wl x.bp x.tier ⟨0, freshZst, 0⟩ 0 .negative 0 .device 0 false [] with
    issued := true, sensed := true, wedges := wedges }

/-- A burst of a sentinel's sense has arrived: its wedge is settled; the fifth gives the mismatches over the wedges framed without coasting, and the next sense
(R302). -/
def surveyWedge (s : State) (key : Nat) (code : Int) (g : Nat) (w : WedgeState) : State :=
  match sentinelAt s key, surveyAt s key with
  | some x, some k =>
    let r := settleShift (surveyRead (key / 4) x (spPut k.wedges g w)) (getF s F.rchSync_coastBits) (hardLeft s) g
    if g < 4 then putSurvey s key { k with wedges := r.wedges }
    else
      let page := rawPage r
      let e := (framedWedges r).foldl (fun a i => a + stripErrors r page i) 0
      senseSentinel (putSurvey s key { k with wedges := [], senses := k.senses ++ [(code, e, (framedWedges r).length)] }) key
  | _, _ => s

end Sys2Proof.Machine
end

