-- ==== Sys2Proof/Machine/Sched.lean ====
section
/-!
DEFINITION. The scheduler (R154 to R165): costs, the Cinch, which entry a die takes next, its issue to the channel sequencer, and which reads cause a
suspend.
-/

namespace Sys2Proof.Machine

open Sys2Proof

/-- The senses an entry makes (R187, R229, R231, R234, R237); c0 is fixed here, at the issue (R229). -/
def entrySenses (s : State) (d : Nat) (e : DieEntry) : List SenseStep :=
  match e.op with
  | .sense rd => (match readAt s rd with | some r => stepSenses s { r with center := centerCode s r } .hard | none => [])
  | .stepSense rd k => (match readAt s rd with | some r => stepSenses s r k | none => [])
  | .probe up => (match spFind s.rch.probes d with
    | some p =>
      let k : Int := getF s F.rchTrack_probeDelta
      [⟨p.plane, p.block, p.wl, p.bp, clampCode s d (if up then p.center + k else p.center - k), true, true⟩]
    | none => [])
  | .survey i c => (match sentinelAt s (4 * d + i) with
    | some x => [⟨x.plane, x.block, x.wl, x.bp, clampCode s d c, true, true⟩]
    | none => [])
  | _ => []

/-- The senses an entry is charged for (R161, R262). Log 57 (DEDUCED). -/
def senseCount (s : State) (d : Nat) (e : DieEntry) : Nat :=
  match e.op with
  | .stepSense _ _ => (entrySenses s d e).length
  | _ => 1

/-- The row of the cost table (R161). -/
def costRow (e : DieEntry) : Nat :=
  match e.op, e.tier with
  | .stepSense _ .bracket, _ | .probe _, _ | .survey _ _, _ => 3
  | .sense _, t | .stepSense _ _, t => tierNum t
  | .program _ _ _ .single, _ => 4
  | .program _ _ _ .coarse, .d6 => 7
  | .program _ _ _ .coarse, _ => 5
  | .program _ _ _ .fine, .d6 => 8
  | .program _ _ _ .fine, _ => 6
  | .erase _, _ => 9

/-- TIME and POWER of an entry (R161). Log 57 (DEDUCED). -/
def entryTime (s : State) (d : Nat) (e : DieEntry) : Nat := getF s (F.schOpcost_time (costRow e)) * senseCount s d e
def entryPower (s : State) (e : DieEntry) : Nat := getF s (F.schOpcost_power (costRow e))

/-- The operational NVMe power state whose cap applies: in PS3 and PS4 the last one, during an exit that of the state returned to (R160). -/
def capPs (s : State) : Nat :=
  if getF s F.pmuState_ps ≤ 2 then getF s F.pmuState_ps
  else if s.pmu.flight = .exiting ∧ s.pmu.target = .idle then 2
  else s.pmu.opPs

/-- The effective cap (R160, R162). Log 58 (DEDUCED). -/
def effectiveCap (s : State) : Nat := max 1000 (if capPs s = 1 then getF s F.schCinch_capPs1 else getF s F.schCinch_cap)

/-- The read reserve (R160); it serves nothing during the SAFELIGHT padding of R490. -/
def readReserve (s : State) : Nat := if s.sch.reserveOff then 0 else min (getF s F.schReserve_readReserve) (effectiveCap s - 300)

/-- The part of the read reserve in use. Log 58 (DEDUCED). -/
def reserveUsed (s : State) : Nat := (issuedOf s).foldl (fun a r => a + r.fromReserve) 0

/-- Tokens for an entry: none where they do not suffice, else how many come from the read reserve (R160, R162). Log 58 (DEDUCED). -/
def tokensFor (s : State) (e : DieEntry) : Option Nat :=
  let p := entryPower s e
  let cap := effectiveCap s
  let res := readReserve s
  if cap < inUse s + p then none
  else if isReadEntry e && decide (reserveUsed s + p ≤ res) then some p
  else if inUse s - reserveUsed s + p ≤ cap - res then some 0
  else none

/-- A program of a block is queued, in progress or suspended on a die (R202). -/
def programsBlock (s : State) (d : Nat) (blocks : List (Nat × Nat)) : Bool :=
  let x := dieOf s d
  let hits := fun (e : DieEntry) => match e.op with
    | .program pzn _ m _ => (List.range 4).any fun p => blocks.contains (p, blockFor (zstOf s pzn) pzn m p)
    | _ => false
  x.queue.any hits || (match x.current with | some r => hits r.entry | none => false) || (match x.suspended with | some r => hits r.entry | none => false)

/-- An erase of a physical zone's block is queued, in progress or suspended on a die. -/
def erasesBlock (s : State) (d pzn m : Nat) : Bool :=
  let x := dieOf s d
  let hits := fun (e : DieEntry) => match e.op with
    | .erase bs => (List.range 4).any fun p => bs.contains (p, blockFor (zstOf s pzn) pzn m p)
    | _ => false
  x.queue.any hits || (match x.current with | some r => hits r.entry | none => false)

/-- A cold hold of R308 keeps a program back; the padding of SAFELIGHT entry is never held. -/
def coldHeld (s : State) (pass : Pass) : Bool :=
  !s.sch.reserveOff && (if pass = .single then s.age.holdD4 else s.age.holdHi)

/-- The bytes of a staged block whose parity fails (R328), as offsets. -/
def stagedParity (s : State) (pzn slot : Nat) (b : StagedBlock) : List Nat :=
  b.parityBad ++ (match slotAddr s pzn slot with | some a => badIn s a 4096 | none => [])

/-- The staging metadata entry of a block has a parity error (R323). -/
def metaFails (s : State) (pzn slot : Nat) (b : StagedBlock) : Bool :=
  b.metaBad || (slotAddr s pzn slot).any fun a => !(badIn s (metaAddr a) 32).isEmpty

/-- A staged block fails its parity or SEAL check (R322). -/
def stagedBad (s : State) (pzn slot : Nat) (b : StagedBlock) : Bool :=
  !(stagedParity s pzn slot b).isEmpty || metaFails s pzn slot b || b.sealCrc != crc32c (bytesAt b.data 0 4096 ++ leBytes 4 b.seq.toNat)

/-- A read of a staged block records the parity error it finds (R329). -/
def noteStaged (s : State) (pzn slot master : Nat) (b : StagedBlock) : State :=
  let bad := stagedParity s pzn slot b
  if bad.isEmpty && !metaFails s pzn slot b then s else parityFound s true ((slotAddr s pzn slot).getD 0) master bad

/-- The staged slots a member's half-row program reads: its own, or on the parity member every data slot. -/
def programSlots (t : Tier) (pzn hr m : Nat) : List Nat :=
  if m = parityMember pzn then (List.range (hrSlots t)).map (hr * hrSlots t + ·) else memberSlots t pzn hr m

/-- A re-send of some slot of the program is under way (R322, R323). -/
def resendWaits (s : State) (pzn hr m : Nat) : Bool :=
  (programSlots (zstOf s pzn).tier pzn hr m).any fun k => match spFind s.mep.staged (stageKey pzn k) with
    | some b => b.resending
    | none => false

/-- No sense goes to a half-row of a bound zone whose final program has not completed on that die (R202). Log 171 (DEDUCED). -/
def senseAllowed (s : State) (r : ReadOp) : Bool :=
  let z := zstOf s r.pzn
  let hr := 2 * r.wl + r.plane / 2
  !z.bound || z.ezn != r.ezn || decide (hr < z.durableHr) || decide (hr < finalOn r.tier (progOf s r.pzn) r.member)

/-- An entry is ready: what must precede it has been issued (R157, R200 to R202), nothing holds it (R277, R290, R308), and a program's stitch group is whole
(R294). Log 171 (DEDUCED). -/
def entryReady (s : State) (d : Nat) (e : DieEntry) : Bool :=
  match e.op with
  | .program pzn hr m pass =>
    let z := zstOf s pzn
    nextProgram z.tier (progOf s pzn) m == some (hr, pass) && halfRowStaged s pzn z hr m && !(progOf s pzn).halted.contains m &&
      groupInService s (groupOf pzn) &&
      !coldHeld s pass && !erasesBlock s d pzn m && !resendWaits s pzn hr m &&
      (List.range 2).all (fun i => !s.mhm.brtHeld.contains (brtIndex d (2 * (hr % 2) + i) (blockFor z pzn m (2 * (hr % 2) + i))))
  | .erase bs => !programsBlock s d bs && bs.all fun pb => !s.mhm.brtHeld.contains (brtIndex d pb.1 pb.2)
  | .sense rd => (match readAt s rd with | some r => senseAllowed s r | none => true)
  | _ => true

/-- The ready entries of a die, of those with a place in its queue: while an operation is suspended only reads are (R154, R157, R167). -/
def readyEntries (s : State) (d : Nat) : List DieEntry :=
  let x := dieOf s d
  (placed x).filter fun e => entryReady s d e && (x.suspended.isNone || isReadEntry e)

/-- QUANTUM in µs (R177). -/
def quantum (s : State) : Nat := 100 * getF s F.schFair_quantum

/-- The balance of an account on a die. -/
def balanceOf (x : Die) (a : Acct) : Int := ((x.balances.find? fun b => b.acct == a).map Balance.value).getD 0

/-- An account is eligible on a die (R158). -/
def eligibleAcct (s : State) (x : Die) (a : Acct) : Bool := quantum s == 0 || decide (0 ≤ balanceOf x a)

/-- Refills needed until one of the accounts with ready entries is eligible. -/
def refills (q : Nat) (x : Die) (es : List DieEntry) : Nat :=
  minOr 0 (es.map fun e => ceilDiv (-(balanceOf x e.acct)).toNat q)

/-- Refill the balances of a die where no ready entry is eligible (R158). -/
def refill (s : State) (d : Nat) : State :=
  let x := dieOf s d
  let es := readyEntries s d
  if es.isEmpty || es.any (fun e => eligibleAcct s x e.acct) then s
  else
    let q := quantum s
    let n := refills q x es
    putDie s d { x with balances := x.balances.map fun b => { b with value := min (q : Int) (b.value + n * q) } }

/-- The rank of an account in rule 4 of R157. -/
def acctRank : Acct → Nat
  | .func n => n
  | .device => 8192

/-- The rank of an entry's kind in rule 3. -/
def kindRank (e : DieEntry) : Nat := if isReadEntry e then 0 else if isProgramEntry e then 1 else 2

/-- What rules 1 to 5 of R157 compare, in their order. -/
def entryRank (s : State) (d : Nat) (e : DieEntry) : List Nat :=
  [b2n (!eligibleAcct s (dieOf s d) e.acct), (entryDeadline s e).1, kindRank e, acctRank e.acct, e.order]

/-- Lexicographic order. Log 73 (DEDUCED). -/
def rankLt : List Nat → List Nat → Bool
  | a :: as, b :: bs => decide (a < b) || (a == b && rankLt as bs)
  | _, _ => false

/-- The first entry by rank, with its rank. Log 73 (DEDUCED). -/
def firstEntry (s : State) (d : Nat) : List DieEntry → Option DieEntry
  | [] => none
  | e :: es => match firstEntry s d es with
    | none => some e
    | some f => if rankLt (entryRank s d f) (entryRank s d e) then some f else some e

/-- The die can take an entry: nothing occupies it and no suspend or resume is under way. -/
def dieFree (x : Die) : Bool := x.current.isNone && x.suspending.isNone && !x.resuming

/-- The tier prefix and program bursts: 5 per bit-page on two planes (R184, R199). -/
def programBursts (t : Tier) : Nat := 10 * bitsOf t


/-- The tier an erase's prefix names: the highest recorded below 3, else the lowest the descriptor has (R205). -/
def eraseTier (s : State) (d : Nat) (bs : List (Nat × Nat)) : Tier :=
  let ts := (bs.map fun pb => (recOf s (brtIndex d pb.1 pb.2)).tier).filter (· < 3)
  match ts with
  | [] =>
    let tiers := getF s (F.fchDieCfg_tiers (dieChannel d) (diePos d))
    if bitAt tiers 0 then .d4 else if bitAt tiers 1 then .d5 else .d6
  | x :: xs => (tierOf (xs.foldl max x)).getD .d4

/-- A staged block that fails its check and that no command waits for: the copy is dropped. A relocation reads it again from its source, a slot above WP_HOST
becomes filler, and else the zone ends below it (R324). -/
def dropBadCopy (s : State) (pzn slot : Nat) : State :=
  let z := zstOf s pzn
  let s := dropStaged s pzn (· == slot)
  if isTarget s pzn || slotFiller z slot then s else failZone s z.ezn (offsetOfSlot z.tier z.pads slot)

/-- A staged block that fails its check is asked for again from the host, or its write fails (R322, R324): the slots that fail. -/
def resendStaged (s : State) (pzn slot : Nat) (b : StagedBlock) : State :=
  let ezn := (zstOf s pzn).ezn
  let owner := (incomplete s ezn).find? fun kv => writeHas kv.2 slot
  match owner with
  | none => dropBadCopy s pzn slot
  | some (n, c) =>
    if getF s F.mepIntegCtrl_resendMax ≤ b.resends ∨ c.silent = true ∨ (servedBy s n).isSome = true then
      writeFailure (raiseErr s F.mepErr_writeFail 0x07 0 idMep fun s => [regNat s F.mepErr_writeFail.addr, slot, 0, idMep, 0]) n (slot - c.firstSlot) .dataTransferError
    else
      let s := incSat s F.mepIntegCnt_stageResend 1
      let s := { s with mep := { s.mep with staged := spPut s.mep.staged (stageKey pzn slot) { b with resends := b.resends + 1, resending := true } } }
      emit s (.hostFetch n (slot - c.firstSlot))

/-- The staged slots of a program that fail their check. -/
def badSlots (s : State) (pzn hr m : Nat) : List (Nat × StagedBlock) :=
  (programSlots (zstOf s pzn).tier pzn hr m).filterMap fun k => match spFind s.mep.staged (stageKey pzn k) with
    | some b => if stagedBad s pzn k b then some (k, b) else none
    | none => none

/-- The parity groups of a half-row whose written blocks or metadata have a DRAM parity error (R322). -/
def badGroups (s : State) (pzn hr : Nat) : List Nat :=
  let t := (zstOf s pzn).tier
  (List.range (2 * bitsOf t)).filter fun v => (spFind s.sbg.parityBlocks (parityKey pzn hr v)).isSome &&
    (stageAddr s pzn hr (hrSlots t + 8 * v)).any fun a => !(badIn s a 32768 ++ badIn s (metaAddr a) 256).isEmpty

/-- SBG recomputes the parity blocks of a group from the staged data slots (R289, R322). -/
def remakeGroup (s : State) (pzn hr v master : Nat) : State :=
  let z := zstOf s pzn
  let a := (stageAddr s pzn hr (hrSlots z.tier + 8 * v)).getD 0
  let s := parityFound s true a master (badIn s a 32768)
  let s := freshGroup (incSat s F.mepIntegCnt_stageResend 1) pzn hr v
  let part := fun (c : Nat) => (List.range 15).foldl (fun x k => xorBytes x (slotInfo s z pzn (hr * hrSlots z.tier + (v * 15 + k) * 8 + c))) (List.replicate 4128 0)
  { s with sbg := { s.sbg with parityBlocks := spPut s.sbg.parityBlocks (parityKey pzn hr v) ((List.range 8).flatMap part) } }

/-- Two reads need one bit-page. -/
def onePage (a b : ReadOp) : Bool :=
  a.die == b.die && a.plane == b.plane && a.block == b.block && a.wl == b.wl && a.bp == b.bp && a.tier == b.tier

/-- A hard sense serves every read of its bit-page that waits for one when it is issued (R264). -/
def shareSense (s : State) (rd : Nat) (r : ReadOp) : State :=
  let ks := (s.rch.reads.filter fun kv => kv.1 != rd && onePage kv.2 r &&
    (dieOf s r.die).queue.any fun e => e.op == .sense kv.1).map (·.1)
  let s := dropEntries s fun e => match e.op with | .sense k => ks.contains k | _ => false
  forEach ks s fun s k => match readAt s k with
    | some q => putRead s k { q with issued := true, center := r.center, bin := r.bin }
    | none => s

/-- The senses of a step serve every read of its bit-page, at one center code, that waits for them (R264). -/
def shareStep (s : State) (rd : Nat) (r : ReadOp) (step : Step) : State :=
  let ks := (s.rch.reads.filter fun kv => kv.1 != rd && onePage kv.2 r && kv.2.center == r.center).map (·.1)
  dropEntries s fun e => match e.op with | .stepSense k x => ks.contains k && x == step | _ => false

/-- A program is the first of its two block-planes (R276, R297). -/
def opensPlanes (s : State) (pzn hr m : Nat) (pass : Pass) (e : DieEntry) : Bool :=
  pass != .fine && decide (hr < 2) && (listAt ⟨0, 0⟩ (progOf s pzn).members m).coarse == hr && !e.charged

/-- The planes a program is the first of and whose block has more than 150 ERASE entries (R297). -/
def wornPlanes (s : State) (d : Nat) (e : DieEntry) : List Nat :=
  match e.op with
  | .program pzn hr m pass =>
    if opensPlanes s pzn hr m pass e then [2 * (hr % 2), 2 * (hr % 2) + 1].filter fun pl => fogWorn s (brtIndex d pl (blockFor (zstOf s pzn) pzn m pl)) else []
  | _ => []

/-- Such a block-plane goes BAD and is replaced (R291, R297); where it cannot be, the zone is to move, or the relocation starts again. -/
def replaceWorn (s : State) (e : DieEntry) (pl : Nat) : State :=
  match e.op with
  | .program pzn _ m _ => (match substitute s pzn m pl with
    | (s, some _) => s
    | (s, none) => noSpare (putProg s pzn { progOf s pzn with halted := addOnce (progOf s pzn).halted m }) pzn)
  | _ => s

/-- What the issue of an entry leaves in a read or a zone (R199, R229, R264): its command goes out when the channel is free for it. -/
def noteIssue (s : State) (d : Nat) (e : DieEntry) : State :=
  match e.op with
  | .sense rd =>
    (match readAt s rd with
    | some r =>
      let r := { r with issued := true, center := centerCode s r }
      shareSense (putRead s rd r) rd r
    | none => s)
  | .stepSense rd x => (match readAt s rd with | some r => shareStep s rd r x | none => s)
  | .program pzn hr m pass =>
    let z := zstOf s pzn
    let p0 := 2 * (hr % 2)
    let opens := opensPlanes s pzn hr m pass e
    let p := progOf s pzn
    let none_ := p.stamps.isEmpty && p.members.all fun x => x.coarse == 0
    let s := if pass = .fine then s else putProg s pzn { p with stamps := spPut p.stamps (hr * 16 + m) (s.clk.ophours, s.clk.pwrcyc) }
    let s := if opens then forEach [p0, p0 + 1] s fun s pl => openPlane s (brtIndex d pl (blockFor z pzn m pl)) z.tier else s
    if none_ then putZst s pzn { zstOf s pzn with openOph := s.clk.ophours } else s
  | _ => s

/-- The STATE of a die that runs an entry (R214). -/
def runState (e : DieEntry) : Nat := if isReadEntry e then 1 else if isProgramEntry e then 2 else 3

/-- Charge an entry's TIME to its account, at its first issue (R158, R159). -/
def charge (s : State) (d : Nat) (x : Die) (e : DieEntry) : Die :=
  if quantum s = 0 ∨ e.charged = true then x
  else { x with balances := x.balances.map fun b => if b.acct = e.acct then { b with value := b.value - entryTime s d e } else b }

/-- PEAK follows IN_USE up (R178). -/
def notePeak (s : State) : State := if getF s F.schPowerStat_peak < inUse s then setF s F.schPowerStat_peak (inUse s) else s

/-- The stage an entry starts at: a program with its data, anything else with its command (R199). -/
def firstStage (e : DieEntry) : OpStage := if isProgramEntry e then .dataIn else .command

/-- An operation that has begun on the array (R207). -/
def begun (r : Running) : Bool := r.stage == .busy

/-- Issue an entry with its tokens (R157 to R161). -/
def issueEntry (s : State) (d : Nat) (e : DieEntry) (fromReserve : Nat) : State :=
  let x := dieOf s d
  let e' := { e with charged := true }
  let run : Running := ⟨e', entryPower s e, fromReserve, firstStage e, entrySenses s d e, 0, [], [], 0, now s, 0, false, 0, none,
    if isProgramEntry e then programBursts e.tier else 0⟩
  let x := closeBalances { charge s d x e with queue := x.queue.filter fun y => y.order != e.order }
  let s := putDie s d { x with current := some run, tokenWait := false }
  let s := if x.suspended.any begun then s else setDieStat s d (runState e)
  let s := if isReadEntry e then s else setF s (F.fchDieStat_suspends (dieChannel d) (diePos d)) 0
  notePeak (topUpDie (noteIssue s d e) d)

/-- The read a member read rebuilds for, or the read itself. -/
def rootRead (s : State) (rd : Nat) : Nat :=
  match (readAt s rd).map ReadOp.owner with
  | some (.member k _ _) => k
  | _ => rd

/-- The sentinels of a die whose sense is in its queue leave the survey without an estimate. Log 126 (DEDUCED). -/
def pruneSurvey (s : State) (d : Nat) : State :=
  let keys := (dieOf s d).queue.filterMap fun e => match e.op with | .survey i _ => some (4 * d + i) | _ => none
  forEach keys (dropEntries s fun e => match e.op with | .survey _ _ => decide ((dieOf s d).queue.contains e) | _ => false) fun s k => leaveSurvey s k none

/-- Entries that can go no further are taken out: probes past their deadline (R231), reads on a die out of service, whose ladder goes on without
it (R294), device entries for a failed bay with the reads they serve (R194). -/
def pruneDie (s : State) (d : Nat) : State :=
  let x := dieOf s d
  let gone := !dieInService s d
  let lost := (bayOf s (dieBay d)).phase == .failed
  let late := x.queue.any fun e => match e.op with
    | .probe _ => decide (e.deadline < now s)
    | _ => false
  let s := if late then
      { (dropEntries s fun e => match e.op with | .probe _ => decide (x.queue.contains e) | _ => false) with
        rch := { s.rch with probes := spErase s.rch.probes d } }
    else s
  let s := if lost then forEach (x.queue.filter fun e => e.acct == .device) s fun s e => emit s (.dropped d e) else s
  let s := if lost || gone then pruneSurvey s d else s
  let mine := if lost then (x.queue.filter fun e => e.acct == .device).filterMap fun e => (entryRead e.op).map (rootRead s) else []
  let s := abandonReads s (mine.foldl addOnce [])
  let s := if lost then dropEntries s fun e => e.acct == .device && x.queue.contains e else s
  if !gone then s
  else
    let reads := x.queue.filterMap fun e => entryRead e.op
    let s := dropEntries s fun e => isReadEntry e && x.queue.contains e
    forEach reads s failHard

/-- A die can be given an entry now: its bay and channel are ready, its descriptor is valid (R188), it is in service and free; nothing is issued while the
LRS has taken over (R502) or an entry drains the bays (R488). Log 198 (DEDUCED). -/
def mayIssue (s : State) (d : Nat) : Bool :=
  !pmuDrains s && (bayOf s (dieBay d)).phase == .ready && !lrsActive s && dieFree (dieOf s d) && dieInService s d &&
    getF s (F.fchStat_state (dieChannel d)) == 3 && descValid s (dieBay d) (getF s (F.fchDieCfg_desc (dieChannel d) (diePos d)))

/-- Issue an entry, unless it is a program whose staged data fails its check (R322), or the first of a block-plane that is worn (R297). -/
def issueChecked (s : State) (d : Nat) (e : DieEntry) (fromReserve : Nat) : State :=
  let bad := match e.op with
    | .program pzn hr m _ => (badSlots s pzn hr m).map fun kb => (pzn, kb)
    | _ => []
  let worn := wornPlanes s d e
  if !worn.isEmpty then forEach worn s fun s pl => replaceWorn s e pl
  else if bad.isEmpty then
    let s := match e.op with
      | .program pzn hr m _ => if m = parityMember pzn then forEach (badGroups s pzn hr) s fun s v => remakeGroup s pzn hr v (idCs (dieChannel d / 4)) else s
      | _ => s
    issueEntry s d e fromReserve
  else forEach bad s fun s x => resendStaged (noteStaged s x.1 x.2.1 (idCs (dieChannel d / 4)) x.2.2) x.1 x.2.1 x.2.2

/-- Issue what a free die takes next (R157, R160, R163): the first ready entry, in order, whose tokens can be granted. -/
def issueOn (s : State) (d : Nat) : State :=
  let s := refill (pruneDie s d) d
  let x := dieOf s d
  let b := dieBay d
  if x.queue.isEmpty || pmuDrains s then s
  else if (bayOf s b).phase != .ready then (if (bayOf s b).phase == .failed then s else requestBay s b)
  else if !mayIssue s d then s
  else
    let es := readyEntries s d
    match firstEntry s d (es.filter fun e => (tokensFor s e).isSome) with
    | none => if es.isEmpty then s else putDie s d { x with tokenWait := true }
    | some e => issueChecked s d e ((tokensFor s e).getD 0)

/-- An RCH framing fault with its record (R248, R523). -/
def frameFault (s : State) (bit : Fld) (die row : Nat) (header : List Byte) : State :=
  raiseErr s bit 0x04 0 idRch fun s =>
    [regNat s bit.addr, die, row, leAt header 0 4, leAt header 4 4, leAt header 8 4, leAt header 12 4]

/-- A parity error in the trim set the next sense of a die takes: the set reads as zeros until it is written (R233). -/
def trimParityError (s : State) (d : Nat) : State :=
  match (firstEntry s d (readyEntries s d)).map (·.op) with
  | some (EntryOp.sense rd) =>
    (match readAt s rd with
    | some r =>
      frameFault { s with rch := { s.rch with trimBad := addOnce s.rch.trimBad (trimKey d r.tier r.bin) } } F.rchErr_trimParity d
        (rowAddr s d r.plane r.block r.wl r.bp) []
    | none => s)
  | _ => s

/-- R157: SCH issues the next entry of a die. A parity error may be found in the trims it takes, and in DRAM: `dramBad` are the data addresses whose stored
byte has failed since it was last read (R322, R328). -/
def onDieEntryIssue (die : Nat) (trimParity : Bool) (dramBad : List Nat) (s : State) : State :=
  let s := { s with mep := { s.mep with dramBad := dramBad.foldl addOnce s.mep.dramBad } }
  issueOn (if trimParity then trimParityError s die else s) die

/-- The ready entries that wait for tokens, with their dies, by rules 1 to 5 of R157 across dies and then by die number (R160). -/
def waitingEntries (s : State) : List (Nat × DieEntry) :=
  let all := (s.sch.dies.filter fun kv => kv.2.tokenWait).flatMap fun kv => (readyEntries s kv.1).map fun e => (kv.1, e)
  let key := fun (x : Nat × DieEntry) => entryRank s x.1 x.2 ++ [x.1]
  all.foldr (fun x acc => (acc.filter fun y => rankLt (key y) (key x)) ++ x :: acc.filter fun y => !rankLt (key y) (key x)) []

/-- Grant freed tokens (R160): each entry in its order whose POWER they cover and whose die can take it; the others are passed over. -/
def grantTokens (s : State) : State :=
  forEach (waitingEntries s) s fun s x =>
    if mayIssue s x.1 && (readyEntries s x.1).contains x.2 then
      match tokensFor s x.2 with
      | some n => issueChecked s x.1 x.2 n
      | none => s
    else s

/-- MINRUN, WINDOW in µs (R176). -/
def minRun (s : State) : Nat := 10 * getF s F.schSuspend_minrun
def window (s : State) : Nat := 10 * getF s F.schSuspend_window

/-- The time an operation has run, to now or to its suspension (R164). Log 212 (DEDUCED). -/
def ranTime (s : State) (r : Running) : Nat := if r.suspendedAt.isSome then r.ranBefore else r.ranBefore + (now s - r.busySince)

/-- Print and Negative suspends an operation may take (R165). -/
def suspendLimit (s : State) (e : DieEntry) : Nat := if isProgramEntry e then getF s F.schSuspend_maxProg else getF s F.schSuspend_maxErase

/-- A read entry causes the suspend of an operation that has taken `used` of its suspends (R164). Log 59 (DEDUCED). -/
def causesSuspend (s : State) (d : Nat) (r : Running) (used : Nat) (e : DieEntry) : Bool :=
  let left := decide (used < suspendLimit s r.entry)
  isReadEntry e && eligibleAcct s (dieOf s d) e.acct && window s != 0 &&
    (match e.cls with
    | .proof => true
    | .print => left
    | .negative => left && decide (e.deadline - now s < (entryTime s d r.entry - ranTime s r) + 1000)
    | .vault => false)

end Sys2Proof.Machine
end

