-- ==== Sys2Proof/Machine/Chan.lean ====
section
/-!
DEFINITION. The channel sequencers (R164 to R167, R183, R184, R199, R206 to R208): suspends and resumes, who takes a channel at a burst boundary, what is
then sent, and when a die is polled.
-/

namespace Sys2Proof.Machine

open Sys2Proof

/-- The sense an entry has in hand. -/
def currentSense (r : Running) : Option SenseStep := r.senses[r.index]?

/-- The typical and the maximum time of what an issued entry has in hand: of a sense four times the typical one (R185, R206). -/
def opTimes (s : State) (d : Nat) (r : Running) : Nat × Nat :=
  let tier := dieF s d (match r.entry.tier with | .d4 => 0x28 | .d5 => 0x2A | .d6 => 0x2C) 2
  let sense := fun (t : Nat) => (t, 4 * t)
  match r.entry.op with
  | .program _ _ _ pass => passTimes s d r.entry.tier pass
  | .erase _ => (dieF s d 0x44 2, dieF s d 0x46 2)
  | .stepSense _ .bracket | .probe _ | .survey _ _ => sense (dieF s d 0x2E 2)
  | _ => sense tier

/-- The moment its busy time reaches a figure, not before now (R208). Log 212 (DEDUCED). -/
def busyAt (s : State) (r : Running) (t : Nat) : Nat := max (now s) (r.busySince + (t - r.ranBefore))

/-- The first poll, at 95 % of the typical time (R183). Log 212 (DEDUCED). -/
def firstPoll (s : State) (d : Nat) (r : Running) : Nat := busyAt s r (ceilDiv (95 * (opTimes s d r).1) 100)

/-- The moment an operation times out, at 110 % of the maximum (R206). Log 212 (DEDUCED). -/
def timeoutAt (s : State) (d : Nat) (r : Running) : Nat := busyAt s r (ceilDiv (110 * (opTimes s d r).2) 100)

/-- The row address of an entry's operation in hand. -/
def entryRow (s : State) (d : Nat) (r : Running) : Nat :=
  match r.entry.op with
  | .program pzn hr m _ => rowAddr s d (2 * (hr % 2)) (blockFor (zstOf s pzn) pzn m (2 * (hr % 2))) (hr / 2) 0
  | .erase bs => (match bs with | x :: _ => rowAddr s d 0 x.2 0 0 | [] => 0)
  | _ => (match currentSense r with | some x => rowAddr s d x.plane x.block x.wl x.bp | none => 0)

/-- R164, R165, R166: a ready read on a die that programs or erases: the operation is to be suspended once it has run MINRUN. -/
def onSuspendDecision (die : Nat) (s : State) : State :=
  let x := dieOf s die
  match x.current with
  | none => s
  | some r =>
    let causes := (readyEntries s die).filter (causesSuspend s die r r.suspends)
    if isReadEntry r.entry || x.suspending.isSome || causes.isEmpty || decide (now s - r.busySince < minRun s) then s
    else
      let counted := causes.all fun e => e.cls != .proof
      putDie s die { x with
        suspending := some s.clk.us, suspSent := false, suspLate := false,
        current := some { r with suspends := if counted then r.suspends + 1 else r.suspends } }

/-- The die's operation is held suspended; its busy time stops (R207, R208). One not yet begun on the array is abandoned and will be sent again in full. -/
def holdSuspended (s : State) (d : Nat) (r : Running) : State :=
  let x := dieOf s d
  let t := now s
  let held := if begun r then { r with ranBefore := ranTime s r, suspendedAt := some t }
    else { r with stage := firstStage r.entry, ranBefore := 0, suspendedAt := some t,
                  burstsLeft := if isProgramEntry r.entry then programBursts r.entry.tier else 0 }
  let s := putDie s d { x with current := none, suspended := some held, suspending := none, suspSent := false, suspLate := false }
  if begun r then
    incSat (setDieStat s d (if isProgramEntry r.entry then 4 else 5)) (F.fchDieStat_suspends (dieChannel d) (diePos d)) 1
  else setDieStat s d 0

/-- A resume is decided (R165); a read in progress completes first (R167): no further one is issued. Log 59 (DEDUCED). -/
def decideResume (s : State) (d : Nat) : State :=
  let x := dieOf s d
  if x.suspended.isSome then putDie s d { x with resuming := true } else s

/-- R165, R167: SCH resumes a suspended operation once no ready read on the die would cause a suspend. The suspend in effect serves the reads of its own
count. -/
def onResume (die : Nat) (s : State) : State :=
  let x := dieOf s die
  match x.suspended with
  | none => s
  | some r =>
    if (readyEntries s die).any (causesSuspend s die r (r.suspends - 1)) then s else decideResume s die

/-- R165: WINDOW has passed since the suspension: the operation resumes, and reads still waiting stay queued. -/
def onSuspendWindowExpiry (die : Nat) (s : State) : State :=
  match (dieOf s die).suspended with
  | none => s
  | some r =>
    let s := match r.suspendedAt with | some t => advanceSch s (t + window s) | none => s
    decideResume s die

/-- The dies of a channel in ascending order that a test keeps. -/
def channelDies (s : State) (c : Nat) (p : Die → Bool) : List Nat := ((List.range 16).map (16 * c + ·)).filter fun d => p (dieOf s d)

/-- A die waits for a suspend or a resume command. -/
def wantsControl (x : Die) : Bool := (x.suspending.isSome && !x.suspSent) || (x.resuming && x.current.isNone)

/-- A die's poll is due. -/
def pollDue (s : State) (x : Die) : Bool := x.current.any fun r => r.stage == .busy && decide (r.pollAt ≤ now s)

/-- A die waits for the channel with a command, or with a transfer whose page has room (R184, R375). -/
def wantsChannel (s : State) (x : Die) : Bool := x.current.any fun r => r.stage != .busy && pageRoom s r

/-- What takes a channel next (R184). -/
inductive ChanUse where
  | control (die : Nat)
  | poll (die : Nat)
  | work (die : Nat)
deriving DecidableEq, Repr

/-- The rank of a die's command or transfer: the deadline of its entry, reads before programs, the lower die first (R184). -/
def workRank (s : State) (d : Nat) : List Nat :=
  match (dieOf s d).current with
  | some r => [(entryDeadline s r.entry).1, kindRank r.entry, d]
  | none => []

/-- The first of some dies by rank. -/
def firstWork (s : State) : List Nat → Option Nat
  | [] => none
  | d :: ds => match firstWork s ds with
    | none => some d
    | some e => if rankLt (workRank s e) (workRank s d) then some e else some d

/-- Suspend and resume commands, then status polls, then the command or transfer with the earliest deadline (R184). Log 211 (DEDUCED). -/
def chanUse (s : State) (c : Nat) : Option ChanUse :=
  match channelDies s c wantsControl, channelDies s c (pollDue s) with
  | d :: _, _ => some (.control d)
  | [], d :: _ => some (.poll d)
  | [], [] => (firstWork s (channelDies s c (wantsChannel s))).map .work

/-- The channel is a die's until it answers a poll or its burst is over. -/
def channelHeld (s : State) (c : Nat) : Bool := !(channelDies s c fun x => x.granted.isSome).isEmpty

/-- The channel serves a die at this moment: it is granted already, or it is free and what `use` says takes it. -/
def channelServes (s : State) (d : Nat) (g : Grant) (use : Option ChanUse → Bool) : Bool :=
  (dieOf s d).granted == some g || (!channelHeld s (dieChannel d) && use (chanUse s (dieChannel d)))

/-- A status poll may be made of a die: a poll waits only for suspend and resume commands (R184). Log 211 (DEDUCED). -/
def pollServed (s : State) (d : Nat) : Bool :=
  channelServes s d .poll fun u => match u with | some (.control _) => false | _ => true

/-- The next burst out of a die may come. Log 211 (DEDUCED). -/
def burstServed (s : State) (d : Nat) : Bool := channelServes s d .burst fun u => u == some (.work d)

/-- A channel grant to a die. -/
def grant (s : State) (d : Nat) (g : Option Grant) : State := putDie s d { dieOf s d with granted := g }

/-- The operation a die runs is replaced. -/
def putRun (s : State) (d : Nat) (r : Running) : State := putDie s d { dieOf s d with current := some r }

/-- The poll of a die goes out, unless it has (R183). -/
def sendPoll (s : State) (d : Nat) (r : Running) : State :=
  if (dieOf s d).granted = some .poll then s else sendLun s d 12 (entryRow s d r)

/-- The array of a die is busy from here on; it is polled at 95 % of the typical time (R183). -/
def goBusy (s : State) (d : Nat) (r : Running) : State :=
  let r := { r with stage := .busy, confirming := false }
  putRun s d { r with pollAt := firstPoll s d r }

/-- The command of a sense or an erase goes out (R187, R205). The busy time of an entry's first sense counts from its issue, that of a later one from its
command. -/
def sendCommand (s : State) (d : Nat) (r : Running) : State :=
  match r.entry.op with
  | .erase bs => goBusy (sendErase s d (eraseTier s d bs) bs) d r
  | _ =>
    match currentSense r with
    | some x => goBusy (sendSense s d r.entry.tier x) d (if r.index = 0 then r else { r with busySince := now s })
    | none => s

/-- The plane and bit-page of a burst of a program, counted from 0 (R199). -/
def burstPage (t : Tier) (hr n : Nat) : Nat × Nat := (2 * (hr % 2) + n / 5 / bitsOf t, n / 5 % bitsOf t)

/-- What goes out before a burst of a program: the prefixes at its start, CMD1 and the address at each bit-page (R199). -/
def openBurst (s : State) (d pzn hr m : Nat) (pass : Pass) (n : Nat) : State :=
  let z := zstOf s pzn
  let (pl, bp) := burstPage z.tier hr n
  let s := if n = 0 then sendPfx (sendTier (selectDie s d) d z.tier) d (passEntry pass) else selectDie s d
  if n % 5 = 0 then
    cycle (sendCmd1 s d (passEntry pass)) d (.address (fullAddr s d (rowAddr s d pl (blockFor z pzn m pl) (hr / 2) bp)))
  else s

/-- What follows a burst: CHAIN CMD1 after each bit-page but the last, the operation's CMD2 after that (R199). -/
def closeBurst (s : State) (d : Nat) (pass : Pass) (n total : Nat) : State :=
  if n % 5 ≠ 4 then s else if n + 1 < total then sendCmd1 s d 6 else sendCmd2 s d (passEntry pass)

/-- One burst of a program's data-in, 8,192 bytes of its bit-page; the last confirms the program (R184, R199). -/
def dataBurst (s : State) (d : Nat) (r : Running) : State :=
  match r.entry.op with
  | .program pzn hr m pass =>
    let total := programBursts r.entry.tier
    let n := total - r.burstsLeft
    let (pl, bp) := burstPage r.entry.tier hr n
    let stamp := (spFind (progOf s pzn).stamps (hr * 16 + m)).getD (0, 0)
    let flip := flipCw s pzn hr pl bp m pass r.entry.acct
    let page := buildPage s pzn hr pl bp m stamp flip
    let s := cycle (openBurst s d pzn hr m pass n) d (.dataIn (bytesAt page (8192 * (n % 5)) 8192))
    let s := if flip.any (fun c => firstBurst c == n % 5) then fireFlip s else s
    let s := closeBurst s d pass n total
    let r := { r with burstsLeft := r.burstsLeft - 1 }
    if n + 1 < total then putRun s d r else goBusy s d r
  | _ => s

/-- A suspend or resume command takes the channel (R207, R208). -/
def sendControl (s : State) (d : Nat) : State :=
  let x := dieOf s d
  if x.resuming && x.current.isNone then
    match x.suspended with
    | none => putDie s d { x with resuming := false }
    | some r =>
      let t := now s
      let r := { r with busySince := t, suspendedAt := none }
      let r := if begun r then { r with pollAt := t + dieF s d 0x4C 2, confirming := true } else r
      let s := putDie s d { x with current := some r, suspended := none, resuming := false }
      let s := setDieStat s d (runState r.entry)
      if begun r then sendLun s d (if isProgramEntry r.entry then 10 else 11) (entryRow s d r) else s
  else
    match x.current with
    | none => putDie s d { x with suspending := none }
    | some r =>
      if begun r then
        sendLun (putDie s d { x with suspSent := true, current := some { r with pollAt := now s, confirming := false } }) d
          (if isProgramEntry r.entry then 8 else 9) (entryRow s d r)
      else holdSuspended s d r

/-- R184, R166, R207, R208: at a burst boundary the channel goes to a waiting suspend or resume command, lowest die first, then to a status poll, then to the
command or transfer with the earliest deadline. Log 211 (DEDUCED). -/
def onChannelBurstBoundary (channel : Nat) (s : State) : State :=
  if channelHeld s channel then s
  else
    match chanUse s channel with
    | none => s
    | some (.control d) => sendControl s d
    | some (.poll d) => (match (dieOf s d).current with
      | some r => grant (sendPoll s d r) d (some .poll)
      | none => s)
    | some (.work d) => (match (dieOf s d).current with
      | some r => (match r.stage with
        | .command => sendCommand s d r
        | .dataIn => dataBurst s d r
        | .dataOut => grant s d (some .burst)
        | .busy => s)
      | none => s)

/-- A channel has an operation in progress or suspended. -/
def channelBusy (s : State) (c : Nat) : Bool :=
  !(channelDies s c fun x => x.current.isSome || x.suspended.isSome).isEmpty

end Sys2Proof.Machine
end

