-- ==== Sys2Proof/Machine/Sanitize.lean ====
section
/-!
DEFINITION. Sanitize (R92) and Device Self-test (R90).
-/

namespace Sys2Proof.Machine

open Sys2Proof

def putSanitize (s : State) (z : Sanitize) : State := { s with hif := { s.hif with sanitize := z } }

/-- The blocks of a die: 4,096 user blocks and its spares. -/
def dieBlocks (s : State) (d : Nat) : Nat := 4096 + min 64 (dieF s d 0x13 1)

/-- The block-planes of a block that are not BAD. -/
def goodPlanes (s : State) (d b : Nat) : List Nat := (List.range 4).filter fun p => (brtOf s (brtIndex d p b)).kind != .bad

/-- An erase is queued or runs on a die. -/
def eraseOn (s : State) (d : Nat) : Bool :=
  let is := fun (e : DieEntry) => match e.op with | .erase _ => true | _ => false
  let x := dieOf s d
  x.queue.any is || x.current.any (fun r => is r.entry) || x.suspended.any (fun r => is r.entry)

/-- A block of a die belongs to a previous journal zone, which a Block Erase leaves to last (R92). -/
def keptBlock (s : State) (d b : Nat) : Bool :=
  s.hif.sanitize.kept.any fun p => (List.range 16).any fun m =>
    memberDie (groupOf p) m == d && (memberBlocks (zstOf s p) p m).any fun x => x.2 == b

/-- Queue the next erase of a Block Erase on a die, block after block, the previous journal zones in their turn; a PMU entry stops them at its step 2 (R92). -/
def sanErase (s : State) (d : Nat) : State :=
  match spFind s.hif.sanitize.eraseLeft d with
  | none => s
  | some b =>
    if !dieInService s d || eraseOn s d || !(s.pmu.flight == .none || s.pmu.flight == .activeIdle) then s
    else
      match ((List.range (dieBlocks s d - b)).map (b + ·)).find? (fun b => !(goodPlanes s d b).isEmpty && keptBlock s d b == s.hif.sanitize.last) with
      | none => putSanitize s { s.hif.sanitize with eraseLeft := spErase s.hif.sanitize.eraseLeft d }
      | some b =>
        let s := putSanitize s { s.hif.sanitize with eraseLeft := spPut s.hif.sanitize.eraseLeft d b }
        enqueue s d ⟨.erase ((goodPlanes s d b).map fun p => (p, b)), .d4, .device, .vault, now s, 0, false⟩

/-- A physical zone that may become the journal's: erased, unbound, in service, none of its zones now. Log 188 (DESIGN CHOICE). -/
def mayHoldJournal (s : State) (p : Nat) : Bool :=
  !(zstOf s p).bound && !s.jrn.home.contains p && groupInService s (groupOf p) && !s.mhm.withdrawn.contains p &&
    (zoneRecords (zstOf s p) p).all fun i => (brtOf s i).cond == .erased && (brtOf s i).kind != .bad

/-- Management firmware writes the metadata into journal zones that the sanitize has erased (R92): the first two that may hold it, with a new sequence
epoch (R394). Log 188 (DESIGN CHOICE). -/
def moveJournal (s : State) : State :=
  let new := (List.range 262144).find? (mayHoldJournal s)
  let next := new.bind fun p => (List.range 262144).find? fun q => q != p && mayHoldJournal s q
  match new, next with
  | some p, some q =>
    let s := { s with zrs := { s.zrs with ready := s.zrs.ready.map fun (kv : Nat × List Nat) => (kv.1, dropAll (dropAll kv.2 p) q) } }
    let j := { s.jrn with home := [p, q], page := 0, epoch := s.jrn.epoch + 1 }
    emit { s with jrn := { j with page := 1 } } (.systemPage (systemHeader j))
  | _, _ => s

/-- Once every other block is erased, a Block Erase moves the journal and erases the previous journal zones (R92). -/
def sanLast (s : State) : State :=
  let z := s.hif.sanitize
  if z.running != some .blockErase || !z.zonesReset || z.last || !z.eraseLeft.isEmpty then s
  else
    let dies := ((z.kept.flatMap fun p => (List.range 16).map (memberDie (groupOf p))).eraseDups).filter (dieInService s)
    let s := moveJournal s
    forEach dies (putSanitize s { s.hif.sanitize with last := true, eraseLeft := (dies.foldl (fun (m : Sparse Nat) d => spPut m d 0) []) }) sanErase

/-- An erase of a die has ended: a Block Erase goes on to its next block. -/
def sanErased (s : State) (d : Nat) (bs : List (Nat × Nat)) : State :=
  match spFind s.hif.sanitize.eraseLeft d with
  | none => s
  | some b =>
    sanLast (if bs.any (fun x => x.2 == b) then
      sanErase (putSanitize s { s.hif.sanitize with eraseLeft := spPut s.hif.sanitize.eraseLeft d (b + 1) }) d
    else sanErase s d)

/-- Steps 2 to 4 of a sanitize begin once the I/O commands admitted before it have run to completion (R92). Log 54 (DESIGN CHOICE). -/
def sanitizeAdvance (s : State) : State :=
  let z := s.hif.sanitize
  match z.running with
  | none => s
  | some act =>
    if z.zonesReset then sanLast (forEach (z.eraseLeft.map (·.1)) s sanErase)
    else if s.hif.slots.any (fun kv => !kv.2.sqe.admin) then s
    else
      let s := eraseKeys s fun k => decide (k < 4096)
      let zs := s.nss.flatMap fun kv => nsZones s kv.2
      let s := forEach zs s fun s e =>
        match zoneState s e with
        | .empty => s
        | .offline => releaseOffline s e
        | _ => applyReset s e
      let dies := if act = .blockErase then (List.range 1024).filter (dieInService s) else []
      let s := putSanitize s { s.hif.sanitize with zonesReset := true, eraseLeft := dies.map fun d => (d, 0), kept := s.jrn.home }
      sanLast (forEach dies s sanErase)

/-- A sanitize begins (R92): it is recorded, and the commands that are fetched and not admitted, but for those that go on, fail. -/
def startSanitize (s : State) (a : SanAction) : State :=
  let z := s.hif.sanitize
  let s := putSanitize s ⟨some a, z.failureMode, false, z.everDone, false, [], [], false⟩
  let mine := s.hif.slots.filter fun kv => !isAdmitted kv.2 && !(kv.2.sqe.admin && sanitizeAllows kv.2.sqe)
  forEach mine s fun s kv => finish s kv.1 .sanitizeInProgress

/-- R92: Sanitize completes at acceptance; the operation runs on here and on every joined member. Log 162 (DEDUCED). -/
def onSanitize (slot : Nat) (s : State) : State :=
  withFetched s slot (fun c => isAdmin 0x84 c && sanAct c.sqe != 1) fun c =>
    let act : Option SanAction := if sanAct c.sqe = 2 then some .blockErase else if sanAct c.sqe = 4 then some .cryptoErase else none
    match act with
    | none => finish s slot .invalidField
    | some a =>
      let s := startSanitize (finish s slot .success) a
      let s := if standalone s || !flag s F.slkLeader_isLeader then s
        else forEach (joined s) s fun s d => slkSend s d 0x20 0 (adminCommand c noNamespace)
      sanitizeAdvance s

/-- R92: Exit Failure Mode ends the sanitize failure mode. -/
def onSanitizeExitFailureMode (slot : Nat) (s : State) : State :=
  withFetched s slot (fun c => isAdmin 0x84 c && sanAct c.sqe == 1) fun _ =>
    finish (putSanitize s { s.hif.sanitize with failureMode := false }) slot .success

/-- R92: the sanitize ends: it fails on a read-back that is not zero, and where a die left service with blocks not erased; else it has succeeded
when the journal holds the zone states and every erase has completed. -/
def onSanitizeComplete (readBackFails : Bool) (s : State) : State :=
  let z := s.hif.sanitize
  let lost := z.eraseLeft.any fun kv => !dieInService s kv.1
  if z.running.isNone || !z.zonesReset then s
  else if readBackFails || lost then
    let s := if readBackFails then zeroiseFail s 0 else s
    putSanitize s ⟨none, true, true, z.everDone, false, [], [], false⟩
  else if !s.jrn.waiting.isEmpty || !z.eraseLeft.isEmpty || (z.running == some .blockErase && !z.last) then sanitizeAdvance s
  else putSanitize s ⟨none, false, false, true, false, [], [], false⟩

/-- R90: the short Device Self-test ends at once; Fh aborts one, of which none runs. Log 53 (DESIGN CHOICE). -/
def onDeviceSelfTest (slot : Nat) (s : State) : State :=
  withFetched s slot (fun c => isAdmin 0x14 c) fun c =>
    match dw10 c.sqe % 16 with
    | 1 => finish { s with hif := { s.hif with selfTest := s.hif.selfTest + 1 } } slot .success
    | 15 => finish s slot .success
    | _ => finish s slot .invalidField

end Sys2Proof.Machine
end

