-- ==== Sys2Proof/Machine/Reloc.lean ====
section
/-!
DEFINITION. Relocation (R285, R286) and the copies of R290: what is read from the source, the start and the switch.
-/

namespace Sys2Proof.Machine

open Sys2Proof

/-- The codewords of a source bit-page that a relocation still has to read: data slots that the target has not staged (R285). -/
def relocCws (s : State) (src : Nat) (x : Reloc) (hr m plane bp : Nat) : List Cw :=
  let z := zstOf s src
  (List.range 8).filterMap fun c =>
    let slot := slotAt z.tier src hr plane bp c m
    if slotFiller z slot || (spFind s.mep.staged (stageKey x.target slot)).isSome then none
    else some (newCw c 0 (offsetOfSlot z.tier z.pads slot))

/-- Read one source bit-page for a relocation, unless nothing of it is needed, it is being read, or the die has no room. -/
def relocPage (s : State) (src hr m plane bp : Nat) : State :=
  match relocOf s src with
  | none => s
  | some x =>
    let z := zstOf s src
    let d := memberDie (groupOf src) m
    let b := blockFor z src m plane
    let cws := relocCws s src x hr m plane bp
    let held := s.rch.reads.any fun kv => kv.2.owner == .reloc src && samePage kv.2 d plane b (hr / 2) bp
    if cws.isEmpty || held || !queueRoom (dieOf s d) false then s
    else
      startOrClimb s (newRead (.reloc src) d m plane b (hr / 2) bp z.tier (homeOf s src x.ezn) x.ezn x.cls x.deadline .device
        (ageBin (zoneAge s z)) false cws)

/-- The bit-pages of a half-row on the data members of a physical zone: member, plane, bit-page. -/
def dataPages (t : Tier) (pzn hr : Nat) : List (Nat × Nat × Nat) :=
  ((List.range 16).filter (· != parityMember pzn)).flatMap fun m =>
    (List.range 2).flatMap fun i => (List.range (bitsOf t)).map fun bp => (m, 2 * (hr % 2) + i, bp)

/-- Go on with a relocation: the bit-pages of the next four half-rows that are not durable on the target are read (R285). -/
def relocPump (s : State) (src : Nat) : State :=
  match relocOf s src with
  | none => s
  | some x =>
    let done := (zstOf s x.target).durableHr
    let rows := ((List.range 4).map (done + ·)).filter fun hr => decide (hr < x.rows)
    let t := (zstOf s src).tier
    forEach rows s fun s hr => forEach (dataPages t src hr) s fun s (p : Nat × Nat × Nat) => relocPage s src hr p.1 p.2.1 p.2.2

/-- Go on with every relocation. -/
def pumpRelocs (s : State) : State := forEach (s.mhm.relocs.map (·.1)) s relocPump

/-- A physical zone outside host binding is erased and in service at a tier's eligibility, and no relocation's target (R43, R285). -/
def canTarget (s : State) (pzn : Nat) (t : Tier) : Bool :=
  let z := zstOf s pzn
  decide (pzn < 262144) && groupExists s (groupOf pzn) && groupInService s (groupOf pzn) && !z.bound && !s.mhm.withdrawn.contains pzn &&
    !isTarget s pzn && eligibleAt s pzn t && (zoneRecords z pzn).all fun i => (brtOf s i).cond == .erased

/-- The target of a relocation suits its source: another stitch group for EVACUATE and BAY_LOSS, and the source's bay where one of its ready
zones would serve (R285). -/
def targetFits (s : State) (src pzn : Nat) (t : Tier) (c : RefreshCause) : Bool :=
  let apart := fun (p : Nat) => (c != .evacuate && c != .bayLoss) || groupOf p != groupOf src
  let home := fun (p : Nat) => groupOf p / 16 == groupOf src / 16
  canTarget s pzn t && apart pzn &&
    (home pzn || !(s.zrs.ready.any fun kv => kv.2.any fun p => home p && apart p && canTarget s p t))

/-- The class of a relocation's reads (R284). -/
def relocClass (c : RefreshCause) : Cls := if causeRank c ≤ 4 then .negative else .vault

/-- The candidate relocated next: the highest priority, then the first queued (R284). -/
def nextCandidate : List Candidate → Option Candidate
  | [] => none
  | c :: cs => match nextCandidate cs with
    | none => some c
    | some d =>
      if causeRank c.cause < causeRank d.cause || (causeRank c.cause == causeRank d.cause && decide (c.order < d.order)) then some c else some d

/-- The candidates that can be relocated now: bound zones the cause still applies to, with no relocation under way. -/
def openCandidates (s : State) : List Candidate :=
  s.mhm.candidates.filter fun c => causeApplies c.cause (zoneState s c.ezn) && match boundZone s c.ezn with
    | some (pzn, _) => (relocOf s pzn).isNone
    | none => false

/-- Staged blocks that lie above the durable point of a source move to the target: they are programmed there from staging (R285). -/
def moveStaged (s : State) (src target top : Nat) : State :=
  let mine := s.mep.staged.filter fun kv => kv.1 / 2 ^ 20 == src && decide (top ≤ kv.1 % 2 ^ 20)
  let s := { s with mep := { s.mep with staged := s.mep.staged.filter fun kv => kv.1 / 2 ^ 20 != src } }
  forEach mine s fun s kv => stageBlock s target (zstOf s src).tier (kv.1 % 2 ^ 20) kv.2

/-- Steps 1 to 3 of R285 for a candidate and a target that suits it. Log 122 (DEDUCED). -/
def startReloc (s : State) (c : Candidate) (src target deadline : Nat) : State :=
  let z := zstOf s src
  let s := { s with
    zrs := { s.zrs with ready := spMod s.zrs.ready (groupOf target) fun l => dropAll l target },
    mhm := { s.mhm with
      candidates := s.mhm.candidates.filter (fun x => x.ezn != c.ezn),
      relocs := spPut s.mhm.relocs src ⟨c.ezn, target, c.cause, [], z.durableHr, relocClass c.cause, deadline⟩ } }
  let s := putZst s target { z with durableHr := 0, openOph := 0, lastOph := 0, subst := (zstOf s target).subst }
  let s := dropPrograms (dropParity s src) src
  let s := moveStaged s src target (z.durableHr * hrSlots z.tier)
  relocPump (topUpZone s target) src

/-- R285: management firmware starts the relocation of the next candidate to a target it has taken, with the deadline its entries carry. -/
def onRelocationStart (target deadline : Nat) (s : State) : State :=
  match nextCandidate (openCandidates s) with
  | none => s
  | some c =>
    match boundZone s c.ezn with
    | none => s
    | some (src, z) => if targetFits s src target z.tier c.cause then startReloc s c src target deadline else s

/-- R285: the target holds every half-row the source had written, so the Zone Map takes the target, whose program times are the zone's, and the
source goes to DIRTY. A relocation that a waiting Reset cancels (R54) never switches. Log 122, 182 (DEDUCED). -/
def onRelocationSwitch (pzn : Nat) (s : State) : State :=
  match relocOf s pzn with
  | none => s
  | some x =>
    let t := zstOf s x.target
    let cancelled := match spFind s.zrs.ops x.ezn with | some o => o.isReset | none => false
    if t.durableHr < x.rows || cancelled then s
    else
      let z := zstOf s pzn
      let s := putZmap s x.ezn { zmapOf s x.ezn with pzn := x.target }
      let s := { s with mhm := { s.mhm with
        relocs := spErase s.mhm.relocs pzn, candidates := s.mhm.candidates.filter fun c => c.ezn != x.ezn } }
      let s := dropZoneWork (dirtyZone s pzn z) pzn
      let s := putZst s pzn { freshZst with subst := z.subst }
      withdrawDoomed (journalZone s x.ezn) pzn

/-- R290: the copies of a failed block-plane have reached its failed word line on the spare, which stands as the failed one stood; the member's
programs resume once no copy of it is left. Log 67 (DEDUCED). -/
def onSpareCopyComplete (pzn member plane : Nat) (s : State) : State :=
  match s.mhm.copies.find? (fun c => c.pzn == pzn && c.member == member && c.plane == plane) with
  | none => s
  | some c =>
    let s := { s with mhm := { s.mhm with copies := s.mhm.copies.erase c } }
    let d := memberDie (groupOf pzn) member
    let old := recOf s (brtIndex d plane c.failed)
    let i := brtIndex d plane c.spare
    let z := zstOf s pzn
    let s := if c.wl = 0 then s
      else modBrt (openPlane s i z.tier) i fun r => { r with wlDone := old.wlDone }
    let p := progOf s pzn
    if s.mhm.copies.any (fun y => y.pzn == pzn && y.member == member) then s
    else topUp (putProg s pzn { p with halted := dropAll p.halted member }) pzn member

end Sys2Proof.Machine
end

