-- ==== Sys2Proof/Machine/Lines.lean ====
section
/-!
DEFINITION. Dies and channels as a whole (R190, R192, R194, R209, R210, R292, R294): how a die leaves service, how a channel is trained, and what follows
once no die of it has an operation in progress or suspended.
-/

namespace Sys2Proof.Machine

open Sys2Proof

/-- A channel fault with its record (R212, R523). -/
def chanFault (s : State) (bit : Nat → Fld) (c pos : Nat) : State :=
  raiseErr s (bit c) 0x03 c (idCs (c / 4)) fun s =>
    [regNat s (bit c).addr, c, pos, regNat s (F.fchDieStat_state c pos).addr, 0]

/-- The zones of a stitch group after a member has left service, by the members that remain (R294). -/
def groupLoses (s : State) (g : Nat) : State :=
  let n := membersInService s g
  forEach (zonesOfGroup s g) s fun s e =>
    if n = 15 then queueCandidate s e .evacuate
    else if n = 16 then s
    else mediaState s e (if n ≤ 7 then .offline else .readOnly)

/-- A die is taken out of service (R292, R294): its STATE is FAILED, once what it has in hand has ended (R214). Log 94 (DEDUCED). -/
def dieOut (s : State) (d : Nat) : State :=
  if !dieInService s d then s
  else
    let s := dieLeaves s d
    let s := if (dieOf s d).current.isSome || (dieOf s d).suspended.isSome then s else setDieStat s d 6
    groupLoses (pruneDie s d) (dieGroup d)

/-- The dies of a channel. -/
def diesOfChannel (c : Nat) : List Nat := (List.range 16).map (16 * c + ·)

/-- The rate a channel trains at (R210): the highest of R182 at or below MAX_RATE and the MAX_RATE of its dies' descriptors; none where
MAX_RATE is 0. -/
def trainRate (s : State) (c : Nat) : Option Nat :=
  let m := getF s (F.fchCtrl_maxRate c)
  let ds := (diesOfChannel c).filter (diePresent s)
  let cap := (ds.map fun d => dieF s d 0x1E 2).foldl min (max m 800)
  if m = 0 then none else ioRates.find? fun r => decide (r ≤ cap)

/-- The channel's dies leave service. -/
def channelOut (s : State) (c : Nat) : State := forEach (diesOfChannel c) s dieOut

/-- A channel is held out of service: STATE 5 and its dies leave service (R210). -/
def holdChannelOut (s : State) (c : Nat) : State := channelOut (setF (protectPads s c) (F.fchStat_state c) 5) c

/-- What training puts on the channel (R182, R192 step 7): NV-LP4 is selected on every target, then the calibration and the trainings. -/
def sendTraining (s : State) (c r : Nat) : State :=
  forEach ((List.range 4).map fun e => 16 * c + 4 * e) s fun s d =>
    if !diePresent s d then s
    else
      let s := cycle (cycle (selectInterface s d r) d .zqCalibration) d .dccTraining
      cycle (cycle s d .readTraining) d .writeTraining

/-- Train a channel (R192 step 7, R194, R210): it passes through STATE 2 and ends READY at its rate, or FAILED with its dies out of service; ENABLE 0 and
MAX_RATE 0 hold it out of service. Log 196 (DEDUCED). -/
def trainChannel (s : State) (c : Nat) (fails : Bool) : State :=
  match if flag s (F.fchCtrl_enable c) then trainRate s c else none with
  | none => holdChannelOut s c
  | some r =>
    let s := sendTraining (setF s (F.fchStat_state c) 2) c r
    if fails then channelOut (chanFault (setF (protectPads s c) (F.fchStat_state c) 4) F.fchErr_trainFail c 0) c
    else setF (setF (readyPads s c) (F.fchStat_state c) 3) (F.fchStat_rateNow c) r

/-- What a channel takes up once no die of it has an operation in progress or suspended (R209, R210): the end of its drain, and a retraining that waits. Log 196 (DEDUCED). -/
def channelRest (s : State) (c : Nat) : State :=
  if channelBusy s c then s
  else
    let s := if getF s (F.fchStat_state c) = 6 ∧ flag s (F.fchCtrl_enable c) = false then holdChannelOut s c else s
    if flag s (F.fchCtrl_train c) && (bayOf s (c / 16)).phase == .ready then
      let fails := s.bay.trainFails.contains c
      let s := { s with bay := { s.bay with trainFails := dropAll s.bay.trainFails c } }
      clrF (trainChannel s c fails) (F.fchCtrl_train c)
    else s

end Sys2Proof.Machine
end

