-- ==== Sys2Proof/Machine/FlashRows.lean ====
section
/-!
DEFINITION. How an operation on a die ends (R55, R183, R206 to R208, R276, R290 to R294) and how a read ends at its deadline (R172).
-/

namespace Sys2Proof.Machine

open Sys2Proof

/-- Status bits: bit 6 ready, bit 0 failed; the suspend bit is the one the descriptor names (R183). -/
def statusReady (st : Byte) : Bool := st.getLsbD 6
def statusFail (st : Byte) : Bool := st.getLsbD 0
def statusSuspended (s : State) (d : Nat) (st : Byte) : Bool := bitAt st.toNat (dieF s d 0xB4 1 % 8)

/-- The STATE of a die with nothing in hand but what it holds suspended (R214). -/
def restState (s : State) (d : Nat) : Nat :=
  match (dieOf s d).suspended with
  | some r => if begun r then (if isProgramEntry r.entry then 4 else 5) else 0
  | none => if dieInService s d then 0 else 6

/-- The entry that occupies a die ends: its tokens are free, the die stands idle or suspended, its channel takes up what waited for that, and work goes on. -/
def releaseDie (s : State) (d : Nat) : State :=
  let s := freePages (putDie s d { dieOf s d with current := none, suspending := none, suspSent := false, suspLate := false, granted := none })
  grantTokens (topUpDie (channelRest (setDieStat s d (restState s d)) (dieChannel d)) d)

/-- A zone's durable half-rows follow the slowest of its members (R55): staged data is released, the journal learns of it (R57). -/
def durableAdvance (s : State) (pzn : Nat) : State :=
  let z := zstOf s pzn
  let d := minOr 0 ((List.range 16).map fun m => finalOn z.tier (progOf s pzn) m)
  if d ≤ z.durableHr then s
  else
    let s := putZst s pzn { z with durableHr := d }
    let s := dropStaged s pzn fun k => decide (k / hrSlots z.tier < d)
    let s := { s with sbg := { s.sbg with parityBlocks := s.sbg.parityBlocks.filter fun kv => !(kv.1 / 2 ^ 20 == pzn && decide (kv.1 % 2 ^ 20 / 16 < d)) } }
    if (zmapOf s z.ezn).pzn = pzn then journalZone s z.ezn else s

/-- A final program has completed on a member: its records, the zone's LAST_OPH and its durable half-rows (R55, R78, R276). -/
def finalDone (s : State) (pzn hr m : Nat) : State :=
  let s := putZst s pzn { zstOf s pzn with lastOph := s.clk.ophours }
  let z := zstOf s pzn
  let d := memberDie (groupOf pzn) m
  let p0 := 2 * (hr % 2)
  let s := forEach [p0, p0 + 1] s fun s pl => modBrt s (brtIndex d pl (blockFor z pzn m pl)) fun r =>
    { r with wlDone := hr / 2 + 1, cond := if 510 ≤ hr then .written else r.cond }
  let s := if !isActiveState z.state && decide (z.wpPhys ≤ (hr + 1) * hrSlots z.tier) then partialMember s pzn z m else s
  durableAdvance s pzn

/-- A program has completed on a member (R200, R201); the relocation it serves goes on. -/
def programDone (s : State) (pzn hr m : Nat) (pass : Pass) : State :=
  let p := progOf s pzn
  let x := listAt ⟨0, 0⟩ p.members m
  let x : MemberProg := match pass with
    | .single => ⟨hr + 1, hr + 1⟩
    | .coarse => { x with coarse := hr + 1 }
    | .fine => { x with fine := hr + 1 }
  let s := putProg s pzn { p with
    members := listSet p.members m x, stamps := if pass = .coarse then p.stamps else spErase p.stamps (hr * 16 + m) }
  let s := if pass = .coarse then s else finalDone s pzn hr m
  let s := topUp s pzn m
  match sourceOf s pzn with
  | some (src, _) => relocPump s src
  | none => s

/-- An erase has completed on a block-plane (R276, R283); one that reaches its D4 rating is replaced (R287). Log 68, 70 (DEDUCED). -/
def planeErased (s : State) (d pl b : Nat) : State :=
  let i := brtIndex d pl b
  let s := modBrt { s with mhm := { s.mhm with acc := s.mhm.acc.filter fun x => x.1 != i } } i fun r =>
    { r with cond := .erased, pe := min (r.pe + 1) 0xFFFF, progOph := 0, reads := 0, wlDone := 0, partialFlag := false }
  let zone := dieGroup d * 4096 + (if b < 4096 then b else (recOf s i).owner)
  let s := { s with mhm := { s.mhm with scanTable := spErase s.mhm.scanTable zone } }
  if (recOf s i).kind != .bad && decide (dieF s d 0xC0 2 ≤ (recOf s i).pe) then eraseFails s d b pl else s

/-- A program or erase completed (R206: status bit 0 clear). -/
def opDone (s : State) (d : Nat) (e : DieEntry) : State :=
  match e.op with
  | .program pzn hr m pass => programDone s pzn hr m pass
  | .erase bs => sanErased (forEach bs s fun s x => planeErased s d x.1 x.2) d bs
  | _ => s

/-- A program or erase failed on one plane (R206, R290, R291); the other planes of an erase are erased. -/
def opFails (s : State) (d plane : Nat) (e : DieEntry) : State :=
  match e.op with
  | .program pzn hr m _ => programFails s pzn hr m (2 * (hr % 2) + plane % 2)
  | .erase bs =>
    let s := forEach bs s fun s x => if x.1 = plane then eraseFails s d x.2 plane else planeErased s d x.1 x.2
    sanErased s d bs
  | _ => s

/-- The planes X1, X2, X3 of a bracket from its transfers, widest pair first: one per pair, or two that are combined (R234). -/
def bracketPlanes (senses : List SenseStep) (pages : List (List Byte)) : List (List Byte) :=
  let n := senses.length / 2
  let xs := if senses.all SenseStep.out then (List.range n).map fun i => xorBytes (listAt [] pages (2 * i)) (listAt [] pages (2 * i + 1))
    else (List.range n).map fun i => listAt [] pages i
  xs.reverse ++ List.replicate (3 - n) []

/-- The neighbour pages of a CANCEL step from its transfers, empty where not sensed (R237). -/
def neighbourPages (r : ReadOp) (senses : List SenseStep) (pages : List (List Byte)) : List (List Byte) :=
  let find := fun (w : Nat) => match findIdxIn (fun (x : SenseStep) => x.wl == w) senses 0 with
    | some (i, _) => listAt [] pages i
    | none => []
  [if 0 < r.wl then find (r.wl - 1) else [], find (r.wl + 1)]

/-- The reads that a hard sense which runs on a die serves (R264). -/
def senseReads (s : State) (d : Nat) : List Nat := (s.rch.reads.filter fun kv => kv.2.die == d && kv.2.issued && !kv.2.sensed).map (·.1)

/-- The reads that the senses of a step which run on a die serve (R264). -/
def stepReads (s : State) (d : Nat) (step : Step) : List Nat :=
  (s.rch.reads.filter fun kv => kv.2.die == d && kv.2.stepsIssued.contains step && !kv.2.stepsReady.contains step &&
    !((dieOf s d).queue.any fun e => e.op == .stepSense kv.1 step)).map (·.1)

/-- A codeword waits for what a burst of a step brings: its last byte is in, and the step is its own, or the bracket that its ERASURE needs (R257, R262). -/
def takesBurst (r : ReadOp) (step : Step) (burst : Nat) (c : Cw) : Bool :=
  c.phase == .waitInput && decide (lastBurst c.idx ≤ burst) &&
    (if step = .bracket then c.step == .bracket || c.step == .erasure || (c.step == .cancel && r.stepsReady.contains .cancel)
     else c.step == step && r.stepsReady.contains .bracket)

/-- The codewords of a read that a test keeps have their input. -/
def readyAll (s : State) (k : Nat) (p : Cw → Bool) : State :=
  match readAt s k with
  | none => s
  | some r => forEach ((List.range r.cws.length).filter fun i => (r.cws[i]?).any p) s fun s i => readyCw s k i

/-- A burst of the last transfer of a step has arrived for a read (R217, R234, R237, R262): the planes or pages so far, and the codewords whose input is now
whole. -/
def stepArrives (step : Step) (senses : List SenseStep) (pages : List (List Byte)) (burst : Nat) (s : State) (k : Nat) : State :=
  match readAt s k with
  | none => s
  | some r =>
    let r := if step = .bracket then { r with planes := bracketPlanes senses pages } else { r with neighbours := neighbourPages r senses pages }
    let r := if burst = 4 then { r with stepsReady := addOnce r.stepsReady step } else r
    readyAll (putRead s k r) k (takesBurst r step burst)

/-- A die has taken longer than TSUSP + 5 µs to suspend: recorded once for the suspend (R207). -/
def noteSuspLate (s : State) (d : Nat) (r : Running) : State :=
  let x := dieOf s d
  let limit := dieF s d (if isProgramEntry r.entry then 0x48 else 0x4A) 2 + 5
  match x.suspending with
  | some t =>
    if x.suspSent && !x.suspLate && decide (t + limit < s.clk.us) then
      fchFault (putDie s d { x with suspLate := true }) F.fchErr_suspendLate d (entryRow s d r)
    else s
  | none => s

/-- A sense of an entry has completed on the die: its transfer follows, or the next sense of its pair (R234). -/
def senseDone (s : State) (d : Nat) (r : Running) : State :=
  if (currentSense r).any SenseStep.out then putRun s d { r with stage := .dataOut, burstsLeft := 5 }
  else putRun s d { r with stage := .command, index := r.index + 1 }

/-- A die that is polled is busy still: it is polled again after 2 µs, or, where the poll confirmed a resume, at 95 % of the typical time (R183, R208). -/
def pollAgain (s : State) (d : Nat) (r : Running) : State :=
  putRun s d { r with confirming := false, pollAt := if r.confirming then firstPoll s d r else now s + 2 }

/-- A program or erase has reported itself failed (R206). -/
def opReportsFail (s : State) (d failPlane : Nat) (r : Running) : State :=
  opFails (fchFault s (if isProgramEntry r.entry then F.fchErr_progFail else F.fchErr_eraseFail) d (entryRow s d r)) d failPlane r.entry

/-- R183, R206 to R208: a poll of a die, at its time and once the channel serves it. Ready, a sense goes on to its transfer, and a program or erase has
completed, failed on a plane, or is suspended. Log 3, 5 (DESIGN CHOICE). -/
def onStatusPoll (die : Nat) (status : Byte) (failPlane : Nat) (s : State) : State :=
  match (dieOf s die).current with
  | none => s
  | some r =>
    if r.stage ≠ .busy || !pollServed s die then s
    else
      let s := grant (sendPoll (advanceSch s r.pollAt) die r) die none
      let s := noteSuspLate s die r
      let e := r.entry
      if !statusReady status then pollAgain s die r
      else if isReadEntry e then senseDone s die r
      else if (dieOf s die).suspSent && statusSuspended s die status then holdSuspended s die r
      else if statusFail status then releaseDie (opReportsFail s die failPlane r) die
      else releaseDie (opDone s die e) die

/-- The senses of a step have timed out: the codewords of a read that wait for them have failed their step (R262, R292). Log 64, 74 (DEDUCED). -/
def stepTimesOut (step : Step) (s : State) (rd : Nat) : State :=
  match readAt s rd with
  | none => s
  | some q =>
    climbAll (putRead s rd { q with stepsIssued := dropAll q.stepsIssued step }) rd fun c =>
      c.phase == .waitInput && (c.step == step || (step == .bracket && c.step != .hard))

/-- A read whose hard sense has timed out: its codewords fail HARD (R292). -/
def senseTimesOut (s : State) (rd : Nat) : State :=
  match readAt s rd with
  | some q => retireRead (failHard (putRead s rd { q with issued := false }) rd) rd
  | none => s

/-- What a timeout leaves of an entry (R206, R292): it has failed with cause TIMEOUT. -/
def timesOut (s : State) (d failPlane : Nat) (e : DieEntry) : State :=
  match e.op with
  | .sense _ => forEach (senseReads s d) s senseTimesOut
  | .stepSense _ step => forEach (stepReads s d step) s (stepTimesOut step)
  | .probe _ =>
    let q := (dieOf s d).queue
    dropEntries { s with rch := { s.rch with probes := spErase s.rch.probes d } } fun y => match y.op with | .probe _ => decide (q.contains y) | _ => false
  | .survey i _ => leaveSurvey s (4 * d + i) none
  | _ => opFails s d failPlane e

/-- The timeouts of a die since its bay's power-up; the eighth takes it out of service (R292). -/
def countTimeout (s : State) (d : Nat) : State :=
  let n := spGet 0 s.mhm.timeouts d + 1
  let s := { s with mhm := { s.mhm with timeouts := spPut s.mhm.timeouts d n } }
  if n = 8 then dieOut s d else s

/-- The LUN is reset, the timeout recorded, and the operation has failed with cause TIMEOUT (R206). -/
def opTimesOut (s : State) (d failPlane : Nat) (r : Running) : State :=
  let s := incSat (sendResetLun s d (entryRow s d r)) (F.fchDieStat_timeouts (dieChannel d) (diePos d)) 1
  timesOut (fchFault s F.fchErr_timeout d (entryRow s d r)) d failPlane r.entry

/-- R206, R292: 110 % of an operation's maximum has passed and the die has not reported ready: the LUN is reset, the timeout counted, and the operation has failed
with cause TIMEOUT. -/
def onOperationTimeout (die failPlane : Nat) (s : State) : State :=
  match (dieOf s die).current with
  | none => s
  | some r =>
    if r.stage ≠ .busy then s
    else
      let s := noteSuspLate (advanceSch s (timeoutAt s die r)) die r
      countTimeout (releaseDie (opTimesOut s die failPlane r) die) die

/-- The codeword of a command that serves a block and has passed its header check. -/
def headerCw (s : State) (n i : Nat) : Option (Nat × Nat × Cw) :=
  (readsOfSlot s n).findSome? fun k => match readAt s k with
    | some r => ((r.cws.zipIdx.find? fun x => x.1.block == i && x.1.phase == .headerOk).map fun x => (k, x.2, x.1))
    | none => none

/-- Every block of a read has been opened, or its codeword has decoded and passed its header check (R172, R267). -/
def allDecoded (s : State) (n : Nat) (c : CmdSlot) : Bool :=
  (List.range c.blocks).all fun i => c.opened.contains i || c.egress.contains i || (headerCw s n i).isSome

/-- R172: the deadline of a Read or Verify: its entries are cancelled, its steps abandoned, and it completes with DEADLINE_MISSED, unless its last
codeword has decoded. -/
def onReadDeadlineExpiry (slot : Nat) (s : State) : State :=
  match slotOf s slot with
  | none => s
  | some c =>
    if !isReadKind c.kind then s
    else
      let s := advanceSch s c.deadline
      if allDecoded s slot c || c.remote.isSome then s
      else endRead s slot .deadlineMissed

end Sys2Proof.Machine
end

