-- ==== Sys2Proof/Machine/ReadRows.lean ====
section
/-!
DEFINITION. The read channel at work (R216 to R233, R255 to R269): wedges as they arrive, engines, decodes, and tracking.
-/

namespace Sys2Proof.Machine

open Sys2Proof

/-- SYNC_TOL as used: values above 12 are taken as 12 (R240). -/
def syncTol (s : State) : Nat := min 12 (getF s F.rchSync_syncTol)

/-- What the search makes of the wedge that arrives as number `i` (R223 to R226). Log 62 (DEDUCED). -/
def searchWedge (s : State) (i : Nat) (bytes : List Byte) : WedgeState :=
  let b := bytesAt bytes 0 8192
  let x := wedgeOutcome (syncTol s) (getF s F.rchSync_maxHyp) i (bitsOfBytes (List.replicate (8192 * i) 0 ++ b))
  ⟨x.1, x.2.1, x.2.2, b⟩

/-- The outcome of a wedge is counted (R228). -/
def countWedge (s : State) (d : Nat) (o : WedgeOutcome) : State :=
  countDie s d fun c => match o with
    | .found => { c with found := c.found + 1 }
    | .shifted => { c with shifted := c.shifted + 1 }
    | .early => { c with early := c.early + 1 }
    | .missed => { c with missed := c.missed + 1 }

/-- The tiers' Vault deadline (R105, R231). -/
def vaultDeadline (s : State) : Nat := now s + 100 * listAt 0 s.vfm.classDeadlines 3

/-- A tracking probe of the bit-page just read is triggered (R231), once the whole page is in: one per die, none with PROBE_DELTA 0. Log 71 (DEDUCED). -/
def triggerProbe (s : State) (k : Nat) : State :=
  match readAt s k with
  | none => s
  | some r =>
    if getF s F.rchTrack_probeDelta = 0 || (spFind s.rch.probes r.die).isSome then s
    else if !r.sensed then putRead s k { r with probeDue := true }
    else
      let page := rawPage r
      let p : Probe := ⟨r.tier, r.bin, r.plane, r.block, r.wl, r.bp, r.center, trimOf s r.die r.tier r.bin r.bp, ttabOf s r.tier r.bin r.bp,
        (List.range 5).map (stripErrors r page), [], [], framedWedges r, []⟩
      let s := { s with rch := { s.rch with probes := spPut s.rch.probes r.die p } }
      let e := fun (up : Bool) => (⟨.probe up, r.tier, .device, .vault, vaultDeadline s, 0, false⟩ : DieEntry)
      enqueue (enqueue s r.die (e false)) r.die (e true)

/-- A hard decode of a codeword failed: counted, the probe triggered, and the codeword climbs (R231, R263, R269). Log 71 (DEDUCED). -/
def hardFailed (s : State) (k i : Nat) : State :=
  match readAt s k with
  | none => s
  | some r => climb (triggerProbe (countDie s r.die fun c => { c with hardFail := c.hardFail + 1 }) k) k i

/-- A codeword of a page whose header named another place fails HARD, on its engine or before one takes it (R220). Log 197 (DEDUCED). -/
def headerFails (s : State) (k i : Nat) : State :=
  match (readAt s k).bind fun r => r.cws[i]? with
  | none => s
  | some c =>
    if c.step != .hard || !(c.phase == .waitInput || c.phase == .ready || c.phase == .inEngine) then s
    else
      let s := match c.engine with
        | some e => { s with rch := { s.rch with hardBusy := dropAll s.rch.hardBusy e } }
        | none => s
      hardFailed (modCw s k i fun c => { c with engine := none, input := [] }) k i

/-- A codeword whose last byte has come in is ready for a hard engine, with its framing flag, or fails HARD where none is in use (R24, R217, R228, R258). -/
def cwArrives (s : State) (k i : Nat) : State :=
  match readAt s k with
  | none => s
  | some r =>
    if !hardLeft s then climb s k i else modCw (readyCw s k i) k i fun c => { c with flag := cwFlag r c.idx }

/-- What the end of a hard sense's transfer brings a read: a probe that waits for the page, the report, and the end of a read whose codewords have ended. -/
def pageIn (s : State) (k : Nat) : State :=
  match readAt s k with
  | none => s
  | some r => retireRead (reportRead (if r.probeDue then triggerProbe s k else s) k) k

/-- A wedge and its segment arrive for a read (R216 to R228): its shift is settled, the page header is taken from the first wedge that has one, and the
codewords that are whole become ready; under a header of another place every codeword fails HARD. Log 62, 197 (DEDUCED). -/
def wedgeArrives (g : Nat) (w : WedgeState) (s : State) (k : Nat) : State :=
  match readAt s k with
  | none => s
  | some r =>
    let r := settleShift { r with wedges := spPut r.wedges g w, sensed := g == 4 } (getF s F.rchSync_coastBits) (hardLeft s) g
    let h := if r.headerSeen then none else pageHeader r (rawPage r)
    let bad := h.any fun h => !headerMatches r h
    let r := match h with
      | some h => { r with headerSeen := true, headerBad := bad, progOph := leAt h 0x14 4 }
      | none => r
    let s := putRead s k r
    let s := if bad then frameFault s F.rchErr_hdrMismatch r.die (rowAddr s r.die r.plane r.block r.wl r.bp) (h.getD []) else s
    let s := if r.headerBad then forEach (List.range r.cws.length) s fun s i => headerFails s k i
      else forEach ((List.range r.cws.length).filter fun i => (r.cws[i]?).any fun c => c.step == .hard && c.phase == .waitInput && lastBurst c.idx == g) s
        fun s i => cwArrives s k i
    if g = 4 then pageIn s k else s

/-- A burst of a hard sense arrives for every read the sense serves (R217, R264). -/
def senseBurst (s : State) (d g : Nat) (bytes : List Byte) : State :=
  let w := searchWedge s g bytes
  forEach (senseReads s d) (countWedge s d w.outcome) (wedgeArrives g w)

/-- The read a probe's wedges are framed as. Log 75 (DEDUCED). -/
def probeRead (d : Nat) (p : Probe) : ReadOp :=
  { newRead .management d 0 p.plane p.block p.wl p.bp p.tier ⟨0, freshZst, 0⟩ 0 .vault 0 .device p.bin false [] with
    center := p.center, issued := true, sensed := true, wedges := p.wedges }

/-- A burst of a probe sense arrives; the fifth gives its strip mismatches and framed wedges (R231, R232). Log 75 (DEDUCED). -/
def probeBurst (s : State) (d g : Nat) (up : Bool) (bytes : List Byte) : State :=
  let w := searchWedge s g bytes
  let s := countWedge s d w.outcome
  match spFind s.rch.probes d with
  | none => s
  | some p =>
    let r := settleShift (probeRead d { p with wedges := spPut p.wedges g w }) (getF s F.rchSync_coastBits) (hardLeft s) g
    let p := { p with wedges := r.wedges }
    let es := (List.range 5).map (stripErrors r (rawPage r))
    let p := if g < 4 then p else { p with
      wedges := [], framed := p.framed.filter fun g => (framedWedges r).contains g, low := if up then p.low else es, high := if up then es else p.high }
    { s with rch := { s.rch with probes := spPut s.rch.probes d p } }

/-- A burst of a ladder step's transfer arrives; only the last transfer makes a codeword's input whole (R234, R237). -/
def stepBurst (s : State) (d g : Nat) (run : Running) (step : Step) (bytes : List Byte) : State :=
  let part := run.part ++ bytes
  let s := putRun s d { run with part := if g = 4 then [] else part, got := if g = 4 then run.got ++ [part] else run.got }
  if run.index + 1 = run.senses.length then forEach (stepReads s d step) s (stepArrives step run.senses (run.got ++ [part]) g) else s

/-- The last burst of a transfer is in: the entry goes on to its next sense, or it has ended and the die is free. -/
def transferEnds (s : State) (d : Nat) : State :=
  match (dieOf s d).current with
  | none => s
  | some run =>
    if 0 < run.burstsLeft then s
    else
    let s := leavePage s d
    if run.index + 1 < run.senses.length then putRun s d { run with stage := .command, index := run.index + 1 }
    else releaseDie s d

/-- R223: the next wedge and segment, 8,192 bytes, of the sense whose transfer runs on a die, once its channel serves it. Log 62 (DEDUCED). -/
def onWedgeSyncSearch (die : Nat) (bytes : List Byte) (s : State) : State :=
  match (dieOf s die).current with
  | none => s
  | some run =>
    if run.stage ≠ .dataOut || !burstServed s die then s
    else
      let g := 5 - run.burstsLeft
      let users := match run.entry.op with | .sense _ => senseReads s die | .stepSense _ step => stepReads s die step | _ => []
      match (if g = 0 then takePage s die users else (true, s)) with
      | (false, s) => grant s die none
      | (true, s) =>
      let bytes := bytesAt bytes 0 8192
      let run := { run with burstsLeft := run.burstsLeft - 1 }
      let s := grant (putRun s die run) die none
      let s := match run.entry.op with
        | .sense _ => senseBurst s die g bytes
        | .probe up => probeBurst s die g up bytes
        | .survey i c => surveyWedge s (4 * die + i) c g (searchWedge s g bytes)
        | .stepSense _ step => stepBurst s die g run step bytes
        | _ => s
      transferEnds s die

/-- The codewords that are ready for a hard engine, for a soft engine: by read, index, deadline and class. -/
def readyCws (s : State) (soft : Bool) : List (Nat × Nat × ReadOp × Cw) :=
  s.rch.reads.flatMap fun kv => (kv.2.cws.zipIdx.filter fun x => x.1.phase == .ready && (x.1.step != .hard) == soft).map fun x => (kv.1, x.2, kv.2, x.1)

/-- The order of R257: the earliest deadline, then the order in which codewords became ready. -/
def cwBefore (a b : Nat × Nat × ReadOp × Cw) : Bool :=
  rankLt [a.2.2.1.deadline, a.2.2.2.turn] [b.2.2.1.deadline, b.2.2.2.turn]

def firstCw : List (Nat × Nat × ReadOp × Cw) → Option (Nat × Nat × ReadOp × Cw)
  | [] => none
  | x :: xs => match firstCw xs with
    | none => some x
    | some y => if cwBefore y x then some y else some x

/-- Hard engines free; soft engines a codeword may take: the SOFT_RESERVE highest serve only Proof and Print (R257). -/
def freeHard (s : State) : List Nat := (List.range 32).filter fun e => !s.rch.hardBusy.contains e && !s.rch.hardOff.contains e

/-- The free elements of a software class (R257). Log 72 (DESIGN CHOICE). -/
def freeSoft (s : State) (c : Cls) : List Nat :=
  let top := if c = .proof ∨ c = .print then 16 else 16 - getF s F.rchLdpc_softReserve
  (List.range top).filter fun e => !s.rch.softBusy.contains e && !s.rch.softOff.contains e

/-- The input a codeword enters its engine with: bit plus twice the mark for a hard decode, LLRs for a soft one. -/
def cwInput (s : State) (r : ReadOp) (c : Cw) : List Int :=
  if c.step = .hard then
    let x := cwBits r (getF s F.rchSync_coastBits) c.idx (rawPage r)
    (List.zip x.1.toList x.2.toList).map fun bm => (if bm.1 then 1 else 0) + (if bm.2 then 2 else 0)
  else (cwLlrs s r c.idx c.step).toList

/-- R257: an engine takes the first codeword it may serve. -/
def onEngineAllocation (soft : Bool) (s : State) : State :=
  let free := fun (c : Cls) => if soft then freeSoft s c else freeHard s
  match firstCw ((readyCws s soft).filter fun x => !(free x.2.2.1.cls).isEmpty) with
  | none => s
  | some (k, i, r, c) =>
    let e := listAt 0 (free r.cls) 0
    let s := modCw s k i fun c => { c with phase := .inEngine, engine := some e, input := cwInput s r c }
    if c.step = .hard then { s with rch := { s.rch with hardBusy := addOnce s.rch.hardBusy e } }
    else { s with rch := { s.rch with softBusy := addOnce s.rch.softBusy e } }

/-- The codeword on an engine: read, index and codeword. -/
def cwOn (s : State) (soft : Bool) (e : Nat) : Option (Nat × Nat × Cw) :=
  (s.rch.reads.flatMap fun kv => (kv.2.cws.zipIdx.filter fun x =>
    x.1.phase == .inEngine && x.1.engine == some e && (x.1.step != .hard) == soft).map fun x => (kv.1, x.2, x.1)).head?

/-- The engine is free again. -/
def freeEngine (s : State) (soft : Bool) (e : Nat) : State :=
  if soft then { s with rch := { s.rch with softBusy := dropAll s.rch.softBusy e } }
  else { s with rch := { s.rch with hardBusy := dropAll s.rch.hardBusy e } }

/-- With no soft engine in use, the codewords of a read that stand at a soft step are forbidden it, as if by the cut-off (R258). -/
def forbidSoft (s : State) (k : Nat) : State :=
  let soft := fun (c : Cw) => c.step != .hard && (c.phase == .waitInput || c.phase == .ready)
  match readAt s k with
  | none => s
  | some r => if r.cws.any soft then climbAll (noteCutoff s r) k soft else s

/-- A parity error in an engine (R258): out of use until WARM, and its codeword starts again on another; with none left it fails or, at a
soft step, is forbidden it. Log 209 (DESIGN CHOICE). -/
def engineFault (s : State) (soft : Bool) (e k i : Nat) : State :=
  match readAt s k with
  | none => s
  | some r =>
    let idx := ((r.cws[i]?).map Cw.idx).getD 0
    let s := freeEngine s soft e
    let s := if soft then { s with rch := { s.rch with softOff := addOnce s.rch.softOff e } }
      else { s with rch := { s.rch with hardOff := addOnce s.rch.hardOff e } }
    let s := raiseErr s F.rchDecErr_engineFault 0x05 (e % 64) idRch fun s =>
      [regNat s F.rchDecErr_engineFault.addr, r.die, rowAddr s r.die r.plane r.block r.wl r.bp, idx, e]
    let s := modCw s k i fun c => { c with phase := .ready, engine := none, input := [] }
    let ks := s.rch.reads.map (·.1)
    if soft && !softLeft s then forEach ks s forbidSoft
    else if !soft && !hardLeft s then forEach ks s failHard
    else s

/-- The corrected-bit history of a die and tier, 64 deep, and its mean (R231). -/
def pushHistory (s : State) (d : Nat) (t : Tier) (n : Nat) : State :=
  let key := d * 4 + tierNum t
  let h := (n :: spGet [] s.rch.history key).take 64
  { s with rch := { s.rch with history := spSet [] s.rch.history key h } }

def meanTriggers (s : State) (d : Nat) (t : Tier) : Bool :=
  let h := spGet [] s.rch.history (d * 4 + tierNum t)
  let g := getF s F.rchTrack_trigger
  decide (g ≠ 0 ∧ g * h.length < h.foldl (· + ·) 0)

/-- The command that a read, or the read it rebuilds for, serves, where its deadline has passed: SCH has cancelled its reads (R172). -/
def lateSlot (s : State) (k : Nat) : Option Nat :=
  match (readAt s (rootRead s k)).map ReadOp.owner with
  | some (.command n) => if (slotOf s n).any (fun c => decide (c.deadline < now s)) then some n else none
  | _ => none

/-- R255: a hard decode ends. -/
def onHardDecodeDone (engine : Nat) (parityError : Bool) (s : State) : State :=
  match cwOn s false engine with
  | none => s
  | some (k, i, c) =>
    match lateSlot s k with
    | some n => endRead s n .deadlineMissed
    | none =>
    if parityError then engineFault s false engine k i
    else
      match readAt s k with
      | none => s
      | some r =>
        let s := freeEngine s false engine
        let bits := (c.input.map fun v => decide (v % 2 = 1)).toArray
        let marks := (c.input.map fun v => decide (2 ≤ v)).toArray
        let s := modCw s k i fun c => { c with input := [] }
        match hardDecode (getF s F.rchLdpc_hardIter) (bytesOfBits 4960 bits) marks with
        | none => hardFailed s k i
        | some (word, n) =>
          let s := countDie s r.die fun c => { c with hardOk := c.hardOk + 1, corrBits := c.corrBits + n, maxCorr := max c.maxCorr n }
          let s := modCw (pushHistory s r.die r.tier n) k i fun c => { c with corrected := some n }
          let s := if meanTriggers s r.die r.tier then triggerProbe s k else s
          cwPasses s k i word

/-- R256: a soft decode ends. -/
def onSoftDecodeDone (engine : Nat) (parityError : Bool) (s : State) : State :=
  match cwOn s true engine with
  | none => s
  | some (k, i, c) =>
    match lateSlot s k with
    | some n => endRead s n .deadlineMissed
    | none =>
    if parityError then engineFault s true engine k i
    else
      match readAt s k with
      | none => s
      | some r =>
        let s := modCw (freeEngine s true engine) k i fun c => { c with input := [] }
        match softDecode (getF s F.rchLdpc_softIter) (getF s F.rchLdpc_msOffset) c.input.toArray with
        | none => climb (countDie s r.die fun c => { c with softFail := c.softFail + 1 }) k i
        | some word => cwPasses (countDie s r.die fun c => { c with softOk := c.softOk + 1 }) k i word

/-- The mismatches of a probe over some wedges. -/
def sumAt (es gs : List Nat) : Nat := gs.foldl (fun a g => a + listAt 0 es g) 0

/-- A set of trims is written: a parity error of it is gone; with TRIM_LIMIT 0 every trim is held at 0 (R233, R241). -/
def putTrims (s : State) (key : Nat) (w : Word) : State :=
  let w := if getF s F.rchTrack_trimLimit = 0 then 0#64 else w
  { s with rch := { s.rch with trims := spSet 0#64 s.rch.trims key w, trimBad := dropAll s.rch.trimBad key } }

/-- Set one trim of a set. -/
def setTrim (s : State) (key j : Nat) (v : Int) : State := putTrims s key (putField (trimSet s key) (8 * j + 7) (8 * j) (v % 256).toNat)

/-- R232: a tracking probe is evaluated: the trim moves by at most one code, toward the offset that reads the strip better. -/
def onTrackingProbeEval (die : Nat) (s : State) : State :=
  match spFind s.rch.probes die with
  | none => s
  | some p =>
    if p.low.isEmpty || p.high.isEmpty then s
    else
      let s := { s with rch := { s.rch with probes := spErase s.rch.probes die } }
      let trim := trimOf s die p.tier p.bin p.bp
      if trim ≠ p.trim ∨ ttabOf s p.tier p.bin p.bp ≠ p.ttab then s
      else
        let e0 := sumAt p.e0 p.framed
        let lo := sumAt p.low p.framed
        let hi := sumAt p.high p.framed
        let hyst := getF s F.rchTrack_hyst
        let lim : Int := getF s F.rchTrack_trimLimit
        let key := trimKey die p.tier p.bin
        let s := countDie s die fun c => { c with probes := c.probes + 1 }
        if lo + hyst ≤ min e0 hi then countDie (setTrim s key p.bp (max (trim - 1) (-lim))) die fun c => { c with dodges := c.dodges + 1 }
        else if hi + hyst ≤ min e0 lo then countDie (setTrim s key p.bp (min (trim + 1) lim)) die fun c => { c with burns := c.burns + 1 }
        else s

/-- R233, R243: a write of RCH_TRIM_DATA replaces the six trims of the selected set; with TIER 3 it is ignored. -/
def onTrimDataWrite (master : Nat) (data : Word) (s : State) : State :=
  let t := getF s F.rchTrimIdx_tier
  rowGate s master 0x1001400028 true fun s =>
  match tierOf t with
    | none => s
    | some t =>
      putTrims s (trimKey (getF s F.rchTrimIdx_die) t (getF s F.rchTrimIdx_bin)) (data &&& fieldMask 47 0)

end Sys2Proof.Machine
end

