-- ==== Sys2Proof/Machine/Lrs.lean ====
section
/-!
DEFINITION. The Last-Resort Sequencer (R501 to R506): heartbeats, takeover, the CLUSTER reset, HOLD and the shelf heartbeat.
-/

namespace Sys2Proof.Machine

open Sys2Proof

/-- The LRS record (R523): cause 1 heartbeat, 2 double fault, 3 boot timeout, 4 fatal error; the cores that missed. CSH has taken the event of an earlier step. Log 120 (DEDUCED). -/
def lrsEvent (s : State) (cause cores : Nat) : State :=
  let s := if portHeld s 0x11 0 then forEach s.csh.ports s fun s _ => onEventCapture s else s
  raise s 0x11 0 idLrs [regNat s F.rstLrs_state.addr, regNat s F.rstCause_cold.addr, cause, cores]

/-- Step 1 of R502: fetch and ZRS admission stop. -/
def stopAdmission (s : State) : State := { s with hif := { s.hif with fetchStopped := true, admissionStopped := true } }

/-- Admission resumes after a restart (R502). -/
def resumeAdmission (s : State) : State :=
  { s with hif := { s.hif with admissionStopped := false, fetchStopped := s.pmu.flight != .none && s.pmu.flight != .activeIdle } }

/-- Enter a phase of the LRS, with the STATE code it shows (R518). Log 76 (DEDUCED). -/
def lrsEnter (s : State) (p : LrsPhase) (code : Nat) : State := setF { s with lrs := { s.lrs with phase := p } } F.rstLrs_state code

/-- A takeover meets the PMU (R487): a pending entry request is discarded, an entry in flight is to be abandoned. -/
def takeoverPmu (s : State) : State :=
  let drop := s.pmu.pending.any isEntry
  let s := if drop then { s with pmu := { s.pmu with pending := none } } else s
  match s.pmu.flight with
  | .none | .activeIdle | .exiting => s
  | _ => { s with pmu := { s.pmu with pending := some .active } }

/-- Steps 1 to 3 of R502: admission stops, suspended operations are resumed and nothing further is issued, the ready journal pages are
programmed. Log 76, 77 (DEDUCED). -/
def takeoverSteps (s : State) : State :=
  let s := takeoverPmu (stopAdmission s)
  let s := forEach (s.sch.dies.map (·.1)) s decideResume
  onJournalPageProgram s

/-- Step 4 of R502: CSTS.CFS on every function; SHELF_ALERT_N follows the phase. -/
def setCfs (s : State) : State :=
  forEach (funcsOf s) s fun s f => let x := funcOf s f; putFunc s f { x with regs := { x.regs with cfs := true } }

/-- HOLD (R470, R502): PD_MGMT stays in reset. Log 120 (DEDUCED). -/
def enterHold (s : State) : State :=
  let s := resetParties (setBit (lrsEnter s .hold 4) F.rstCause_hold) ((List.range 8).map idMc)
  { s with pmu := { s.pmu with on := dropAll s.pmu.on .mgmt } }

/-- The CLUSTER reset (R10, R383, R470, R499): PD_MGMT is reset, the DRAM pools are freed, and the cores restart. -/
def clusterReset (s : State) : State :=
  let s := { s with regs := resetRegs .cluster s.regs }
  let s := forEach [6, 7, 8] s resetPool
  let s := { s with sbg := { s.sbg with waits := s.sbg.waits.filter (fun w => w.group != 2), results := [] } }
  let s := mbxInterrupts (resetParties s ((List.range 8).map idMc)) ((List.range 8).map idMc)
  { s with
    lrs := { s.lrs with beats := List.replicate 8 s.clk.us, written := [], sinceFailure := s.clk.us },
    sec := { s.sec with nonce := none },
    dbg := { s.dbg with halted := s.dbg.halted.filter fun m => !isMc m } }

/-- A cluster failure (R501, R502): takeover, then a restart, or HOLD after three. Log 76 (DEDUCED). -/
def clusterFailure (s : State) (cause cores : Nat) : State :=
  let s := setCfs (takeoverSteps (lrsEnter s .takeover 2))
  let s := lrsEvent s cause cores
  if getF s F.rstLrs_restarts < 3 then
    let s := setF s F.rstLrs_restarts (getF s F.rstLrs_restarts + 1)
    let s := setBit (lrsEnter s .restart 3) F.rstCause_clusterLrs
    lrsEvent (clusterReset s) cause cores
  else lrsEvent (enterHold s) cause cores

/-- A controller fatal error (R365, R379, R396, R504): takeover and HOLD. -/
def controllerFatal (s : State) : State :=
  if s.lrs.phase = .hold then setBit s F.rstLrs_fatal
  else
    let s := setCfs (takeoverSteps (lrsEnter (setBit s F.rstLrs_fatal) .takeover 2))
    lrsEvent (enterHold (lrsEvent s 4 0)) 4 0

/-- The LRS watches the cores: PD_MGMT is on, HB_TIMEOUT is not zero, and nothing has failed. -/
def lrsWatches (s : State) : Bool := domainOn s .mgmt && getF s F.rstLrs_hbTimeout != 0 && s.lrs.phase == .watching

/-- R501, R519: a write of RST_HB[c] by MCc is its heartbeat; any other master is refused. Once every core has written after a CLUSTER reset
admission resumes. -/
def onRstHbWrite (master c : Nat) (s : State) : State :=
  if 8 ≤ c then s
  else rowGate s master (0x1000200020 + 4 * c) true fun s =>
    if master ≠ idMc c then refuse s master (0x1000200020 + 4 * c)
    else
    let s := { s with lrs := { s.lrs with beats := listSet s.lrs.beats c s.clk.us, written := addOnce s.lrs.written c } }
    if s.lrs.phase = .restart ∧ (List.range 8).all (fun c => s.lrs.written.contains c) = true then
      clrF (lrsEnter (resumeAdmission s) .watching 0) F.rstCtrl_cluster
    else s

/-- R445, R501: a core has not written RST_HB within HB_TIMEOUT; while the debug port holds a core halted that is no failure. -/
def onHeartbeatTimeout (c : Nat) (s : State) : State :=
  if !lrsWatches s || s.dbg.halted.any isMc || decide (8 ≤ c) then s
  else
    let s := advanceTo s (listAt 0 s.lrs.beats c + 10000 * getF s F.rstLrs_hbTimeout + 1)
    clusterFailure s 1 (2 ^ c)

/-- R501: the trap handler of a core traps, also of one that a CLUSTER reset has just released. -/
def onDoubleFault (c : Nat) (s : State) : State :=
  if !(lrsWatches { s with lrs := { s.lrs with phase := if s.lrs.phase = .restart then .watching else s.lrs.phase } }) || decide (8 ≤ c) then s
  else clusterFailure s 2 (2 ^ c)

/-- R501: not every core has written RST_HB within BOOT_TIMEOUT of its release. -/
def onBootTimeout (s : State) : State :=
  if s.lrs.phase ≠ .restart ∨ getF s F.rstLrs_hbTimeout = 0 then s
  else
    let missed := (List.range 8).filter fun c => !s.lrs.written.contains c
    if missed.isEmpty then s
    else clusterFailure (advanceTo s (s.lrs.sinceFailure + 100000 * getF s F.rstLrs_bootTimeout + 1)) 3 (missed.foldl (fun a c => a + 2 ^ c) 0)

/-- R503: 3,600 s without a failure. -/
def onRestartsClear (s : State) : State :=
  if s.lrs.phase ≠ .watching then s
  else setF (advanceTo s (s.lrs.sinceFailure + 3600000000)) F.rstLrs_restarts 0

/-- R502, R517: RST_CTRL.CLUSTER, by MC0 or the debug port at FULL: steps 1 to 3 and 5, without CFS, alert or count. -/
def onCluster (master : Nat) (s : State) : State :=
  rowGate s master 0x1000200008 true fun s =>
  if !(master == idMc 0 || (master == idDebug && debugFull s)) then refuse s master 0x1000200008
  else if lrsActive s || !domainOn s .mgmt then s
  else
    let s := takeoverSteps (setBit s F.rstCtrl_cluster)
    clusterReset (setBit (lrsEnter s .restart 3) F.rstCause_clusterReq)

/-- R505: once per second the LRS checks itself and FIRC against ALF, and drives SHELF_HB high for 500 ms, or for 125 ms as the safe
indication; a failed check leaves the pin without an edge. Log 78 (DEDUCED). -/
def onShelfHbToggle (checksPass : Bool) (s : State) : State :=
  if s.lrs.shelfReset || !checksPass then { s with pins := { s.pins with shelfHbMs := 0 } }
  else
    let safe := pmuState s == stSafelight || s.lrs.phase == .hold
    let ms := if safe then 125 else 500
    drive (drive { s with pins := { s.pins with shelfHbMs := ms } } .shelfHb true) .shelfHb false

end Sys2Proof.Machine
end

