-- ==== Sys2Proof/Machine/DataRows.lean ====
section
/-!
DEFINITION. The data path (R319 to R326, R333, R391 to R405): host data into the ingest buffer, seals under write contexts, opens into the read
pool, egress to the host, and the key request queue.
-/

namespace Sys2Proof.Machine

open Sys2Proof

/-- A write the data path serves. -/
def liveWrite (c : CmdSlot) (block : Nat) : Bool :=
  isWriteKind c.kind && isAdmitted c && c.remote.isNone && decide (block < c.blocks)

/-- The ingest key of a block. -/
def blockKey (slot block : Nat) : Nat := slot * 256 + block

/-- A staged copy waits for its re-send. -/
def reseals (s : State) (pz k : Nat) : Bool := ((spFind s.mep.staged (stageKey pz k)).map StagedBlock.resending).getD false


/-- A block of a write lands in an ingest buffer with its ICRC, or, poisoned, refused or timed out, it fails (R22, R73, R322, R325). No block is taken for a
half-row the zone's staging has no room for, nor without an ingest buffer. -/
def takeBlock (s : State) (slot block : Nat) (c : CmdSlot) (bytes : List Byte) (icrc : BitVec 32) (bad : Bool) : State :=
  match boundZone s c.ezn with
  | none => s
  | some (pzn, _) =>
    let pz := progZone s pzn
    let z := zstOf s pz
    let k := c.firstSlot + block
    let again := reseals s pz k
    if !liveWrite c block || (c.fetched.contains block && !again) then s
    else if bad then dataWriteFailure s slot block .dataTransferError
    else if z.durableHr + ringSlots z.tier ≤ k / hrSlots z.tier ∨ accumRoom s pz z.tier k = false then s
    else
      let key := blockKey slot block
      let got : Option (Nat × Nat × Bool) × State := match spFind s.mep.ingest key with
        | some g => (some (g.buf, g.fetches, g.reread), s)
        | none => match popBuf s 4 idHif with
          | (some b, s) => (some (b, 0, false), s)
          | (none, s) => (none, s)
      match got with
      | (none, s) => s
      | (some (buf, fetches, reread), s) =>
        let g : IngestBlock := ⟨buf, bytesAt bytes 0 4096, icrc, [], reread, fetches⟩
        let hit := flipHits s 1 c.func
        let hitP := flipHits s 5 c.func
        let g := if hit then { g with data := flipBytes s g.data } else g
        let g := if hitP then { g with parityBad := flipParity s } else g
        let s := if hit || hitP then fireFlip s else s
        let s := { s with mep := { s.mep with ingest := spPut s.mep.ingest key g } }
        putSlot s slot { c with fetched := addOnce c.fetched block }

/-- R559: the leader sends the blocks of a forwarded write in offset order. Log 159 (DEDUCED). -/
def relayBlock (s : State) (slot block : Nat) (c : CmdSlot) (d : Nat) (bytes : List Byte) (bad : Bool) : State :=
  if !isWriteKind c.kind || c.phase != .waitMembers || decide (c.blocks ≤ block) || block != c.fetched.length then s
  else
    let s := if bad then noteStatus s slot .dataTransferError else s
    match slotOf s slot with
    | none => s
    | some c => sendWrData (putSlot s slot { c with fetched := c.fetched ++ [block] }) slot d (bytesAt bytes 0 4096) bad

/-- R22, R73, R322, R325, R559: a host data fetch ends. Log 5 (DESIGN CHOICE). -/
def onHostDataFetchCompletion (slot block : Nat) (bytes : List Byte) (bad : Bool) (s : State) : State :=
  match slotOf s slot with
  | none => s
  | some c =>
    match c.remote with
    | some d => relayBlock s slot block c d bytes bad
    | none => if (servedBy s slot).isSome then s else takeBlock s slot block c bytes (crc32c (bytesAt bytes 0 4096)) bad

/-- The context of a zone: its CAM entry's, or one that still seals. -/
def ctxOf (s : State) (ezn : Nat) : Option Nat :=
  match spFind s.zrs.cam ezn with
  | some e => some e.ctx
  | none => (s.zrs.linger.find? fun l => l.ezn == ezn).map LingerCtx.ctx

/-- The nonce of R392, as 12 bytes. -/
def nonceBytes (dev zone epoch off tenant : Nat) : List Byte :=
  beBytes 12 (dev % 16 * 2 ^ 92 + zone % 2 ^ 22 * 2 ^ 70 + epoch % 2 ^ 24 * 2 ^ 46 + off % 2 ^ 20 * 2 ^ 26 + tenant % 4096 * 2 ^ 14)

/-- SEQ (R320). -/
def seqWord (epoch dev : Nat) : Nat := epoch % 2 ^ 24 + dev % 16 * 2 ^ 24

/-- SEAL (R319). -/
def sealOf (cipher : List Byte) (seq : Nat) : BitVec 32 := crc32c (cipher ++ leBytes 4 seq)

/-- The value of a slot at a version: the current one, or a retired copy (R410, R411). -/
def keyAt (s : State) (k v : Nat) : Option (List Byte) :=
  if keyVersion s k = v then keyBytes s k
  else (s.tkr.retired.find? fun r => r.keySlot == k && r.version == v).map fun r => beBytes 32 r.value.toNat

/-- An expanded key is in CPH's cache. -/
def keyCached (s : State) (k v : Nat) : Bool := s.cph.keyCache.any fun e => e.keySlot == k && e.version == v

/-- A pipe that starts a block uses a cached key. Log 205 (DEDUCED). -/
def touchKey (s : State) (k v : Nat) : State :=
  { s with cph := { s.cph with
    useClock := s.cph.useClock + 1,
    keyCache := s.cph.keyCache.map fun e => if e.keySlot = k ∧ e.version = v then { e with used := s.cph.useClock } else e } }

/-- A miss places a request, once per slot; the queue holds 32 (R404, R405). -/
def requestKey (s : State) (k deadline : Nat) : State :=
  if 32 ≤ s.cph.keyReqs.length || s.cph.keyReqs.any (fun r => r.keySlot == k && r.deadline == deadline) then s
  else { s with cph := { s.cph with keyReqs := s.cph.keyReqs ++ [⟨k, deadline, s.cph.useClock⟩], useClock := s.cph.useClock + 1 } }

/-- A CPH fault with its record (R417, R523). -/
def cphFault (s : State) (bit : Fld) (ctx pipe : Nat) : State := raiseErr s bit 0x0A 0 idCph fun s => [regNat s bit.addr, ctx, pipe]

/-- A parity error in CPH's SRAM (R329, R402, R417). -/
def cphParity (s : State) (ctx : Nat) : State := cphFault (parityFound s false 0 idCph []) F.cphErr_parity ctx 0

/-- A parity error in a cached key (R417): the entry is not used, and the key is loaded again. Log 205 (DEDUCED). -/
def keyParity (s : State) (k v : Nat) : State :=
  if !keyCached s k v then s
  else
    let s := cphParity s 0
    { s with cph := { s.cph with keyCache := s.cph.keyCache.filter fun e => !(e.keySlot == k && e.version == v) } }

/-- A pipe's halves disagree (R396): it leaves use; with no pipe left the condition is a controller fatal error. -/
def lockstep (s : State) (ctx pipe : Nat) : State :=
  if s.cph.pipesOff.contains (pipe % 8) then s else
  let s := cphFault s F.cphErr_lockstep ctx pipe
  let s := { s with cph := { s.cph with pipesOff := addOnce s.cph.pipesOff (pipe % 8) } }
  if 8 ≤ s.cph.pipesOff.length then controllerFatal s else s

/-- The block that CPH seals next in a zone (R398): the earliest in host-offset order that is not sealed. Log 80 (DEDUCED). -/
def nextSeal (s : State) (ezn : Nat) : Option (Nat × Nat) :=
  (writesInOrder s ezn).findSome? fun kv =>
    ((List.range kv.2.blocks).find? fun b => !kv.2.sealed.contains b).map fun b => (kv.1, b)

/-- Processed bytes of a block: ciphertext, GHASH of the whole 16-byte blocks, pending bytes, and the running codes (R397). Log 80 (DEDUCED). -/
def sealChunk (key nonce aad data : List Byte) (upto : Nat) (b : CtxBlock) : CtxBlock :=
  let plain := data.take upto
  let cipher := gcmStream key nonce plain
  let full := upto / 16 * 16
  let h := BitVec.ofNat 128 (ofBe (aesEncrypt key (List.replicate 16 0)))
  { b with
    done := upto, cipher := cipher, ghash := ghashRun h 0 (bytesAt aad 0 16 ++ cipher.take full), part := plain.drop full,
    sealRun := crcRun 0xFFFFFFFF#32 cipher, icrcRun := crcRun 0xFFFFFFFF#32 plain }

/-- The CPH input check failed (R322): for an ICRC mismatch alone the ingest buffer is read again once; else the block is fetched again,
or fails, and a block that came as WR_DATA has no host memory to be fetched from. -/
def ingestFails (s : State) (slot block i : Nat) (c : CmdSlot) (x : Ctx) (g : IngestBlock) : State :=
  let s := resumeTkr (sweepRetired (putCtx s i { x with blk := none, cond := .idle }))
  let key := blockKey slot block
  let put := fun (s : State) (g : IngestBlock) => { s with mep := { s.mep with ingest := spPut s.mep.ingest key g } }
  if g.parityBad.isEmpty && !g.reread then put (incSat s F.mepIntegCnt_icrcResend 1) { g with reread := true }
  else if decide (g.fetches < getF s F.mepIntegCtrl_resendMax) && (servedBy s slot).isNone then
    let s := put (incSat s F.mepIntegCnt_icrcResend 1) { g with reread := true, fetches := g.fetches + 1 }
    emit (putSlot s slot { c with fetched := dropAll c.fetched block }) (.hostFetch slot block)
  else
    let s := { s with mep := { s.mep with ingest := spErase s.mep.ingest key } }
    dataWriteFailure (freeBuf s 4 g.buf idHif) slot block .dataTransferError

/-- A sealed block goes to staging (R323, R398): new, or in place of the copy it replaces, where no pass has begun or the SEAL is equal; else its
re-send has failed. -/
def stageSealed (s : State) (slot block pz k : Nat) (t : Tier) (b : StagedBlock) : State :=
  match spFind s.mep.staged (stageKey pz k) with
  | none => stageBlock s pz t k b
  | some old =>
    if !passBegun s pz (k / hrSlots t) || (b.sealCrc == old.sealCrc && !metaFails s pz k old) then stageBlock s pz t k { b with resends := old.resends }
    else dataWriteFailure s slot block .dataTransferError

/-- The last byte of a block is in (R319, R398): checks, tag and SEAL, and the staging write; its ingest buffer and key reference go. -/
def sealDone (s : State) (slot block i pz : Nat) (c : CmdSlot) (x : Ctx) (g : IngestBlock) (y : CtxBlock) (key aad : List Byte) (seq : Nat) : State :=
  let s := if g.parityBad.isEmpty then s else parityFound s false (bufAddr 4 g.buf) idCph g.parityBad
  if !g.parityBad.isEmpty || y.icrcRun ^^^ 0xFFFFFFFF#32 != g.icrc then ingestFails s slot block i c x g
  else
    let z := zstOf s pz
    let k := c.firstSlot + block
    let nonce := beBytes 12 y.nonce.toNat
    let tag := gcmTag key nonce aad y.cipher
    let header := BitVec.ofNat 64 (leAt aad 0 8)
    let b : StagedBlock := ⟨y.cipher, header, BitVec.ofNat 32 seq, sealOf y.cipher seq, BitVec.ofNat 128 (ofBe tag), [], false, 0, false⟩
    let hit := flipHits s 2 c.func
    let hitP := flipHits s 6 c.func
    let b := if hit then { b with data := flipBytes s b.data } else b
    let b := if hitP then { b with parityBad := flipParity s } else b
    let s := if hit || hitP then fireFlip s else s
    let s := resumeTkr (sweepRetired (putCtx s i { x with blk := none, cond := .idle }))
    let s := { s with mep := { s.mep with ingest := spErase s.mep.ingest (blockKey slot block) } }
    let s := freeBuf s 4 g.buf idHif
    let s := putSlot s slot { c with sealed := addOnce c.sealed block, staged := addOnce c.staged block }
    let s := stageSealed s slot block pz k z.tier b
    padIfStaged (topUpZone s pz) c.ezn

/-- A context with its directory state: BLOCK while it has a block in progress. -/
def ctxCond (c : Ctx) : Ctx := { c with cond := if c.blk.isSome then .block else .idle }

/-- A parity error in a resident context or its directory entry (R402): the block in progress starts again from its first byte. -/
def ctxParity (s : State) (i : Nat) (x : Ctx) : State := putCtx (cphParity s i) i (ctxCond (discardBlock x))

/-- R398: CPH seals a block up to byte `upto` under its zone's context; a lockstep fault of a pipe, or a parity error in CPH's SRAM, starts it again. Blocks of
a zone are sealed one at a time in host-offset order, except a copy that is sealed again. -/
def onBlockSeal (slot block upto : Nat) (pipeFault : Option Nat) (parity : CphSram) (s : State) : State :=
  match slotOf s slot with
  | none => s
  | some c =>
    match boundZone s c.ezn, ctxOf s c.ezn, spFind s.mep.ingest (blockKey slot block) with
    | some (pzn, _), some i, some g =>
      let pz := progZone s pzn
      let k := c.firstSlot + block
      let due := nextSeal s c.ezn == some (slot, block) || (c.sealed.contains block && reseals s pz k)
      let x := spGet noCtx s.cph.ctxs i
      let mine := match x.blk with | some y => y.cmd == slot && y.blk == block | none => true
      if !liveWrite c block || !c.fetched.contains block || !due || !x.resident || !mine then s
      else if parity = .context ∨ parity = .directory then ctxParity s i x
      else
        let v := match x.blk with | some y => y.version | none => keyVersion s x.keySlot
        match keyAt s x.keySlot v with
        | none => s
        | some key =>
          let s := if parity = .keyCache then keyParity s x.keySlot v else s
          if !keyCached s x.keySlot v then requestKey s x.keySlot c.deadline
          else
            let s := touchKey s x.keySlot v
            let ep := (zmapOf s c.ezn).epoch
            let off := c.offset + block
            let nonce := nonceBytes (devId s) c.ezn ep off (c.nsid - 1)
            let seq := seqWord ep (devId s)
            let aad := leBytes 8 (blockHeader 0 (c.nsid - 1) off c.ezn ep).toNat ++ leBytes 4 seq
            let fresh : CtxBlock := ⟨slot, block, BitVec.ofNat 96 (ofBe nonce), 0, 0, [], [], 0xFFFFFFFF#32, 0xFFFFFFFF#32, v⟩
            match pipeFault with
            | some p => lockstep (putCtx s i { x with blk := some fresh, cond := .block }) i p
            | none =>
              let y := x.blk.getD fresh
              let n := min upto 4096
              if n ≤ y.done then s
              else
                let y := sealChunk key nonce aad g.data n y
                let x := { x with blk := some y, cond := .block, used := s.cph.useClock }
                let s := putCtx s i x
                if n < 4096 then s else sealDone s slot block i pz c x g y key aad seq
    | _, _, _ => s

/-- The bytes of a parked slot as CPH reads them: a line in the merge buffer is served from its entry (R331). -/
def parkedBytes (s : State) (i : Nat) : List Byte :=
  (List.range 128).map fun k =>
    let a := parkAddr i + k
    match spFind s.mep.merge (a / 64) with
    | some e => listAt 0 e.bytes (a % 64)
    | none => (spFind s.mep.dram a).getD (dramDefault s a)

/-- The bytes of a parked slot whose parity fails, as offsets. -/
def parkedBad (s : State) (i : Nat) : List Nat :=
  (List.range 128).filter fun k =>
    let a := parkAddr i + k
    match spFind s.mep.merge (a / 64) with
    | some e => e.bad.contains (a % 64)
    | none => s.mep.dramBad.contains a

/-- The checks of R401 on a parked slot's bytes, for the directory's EZN and slot and TKR's PARK_COUNT. -/
def restorePasses (s : State) (i : Nat) (c : Ctx) (b : List Byte) : Bool :=
  match keyBytes s slotCtxWrap with
  | none => false
  | some key =>
    leAt b 0 2 % 8192 == i && leAt b 8 8 == c.tkrCount && leAt b 4 4 % 2 ^ 22 == c.ezn && leAt b 0x1C 4 / 2 ^ 16 % 8192 == c.keySlot &&
      (gcmOpen key (parkNonce i c.tkrCount) (bytesAt b 0 32) (bytesAt b 0x20 64) (bytesAt b 0x60 16)).isSome

/-- R399 to R402, R412: a parked context is restored, in place of the least recently used resident one where 512 are. A restore that does not verify discards
the block state, and its block starts again; a REVOKED one restores as IDLE. `dramBad` are bytes of the slot whose parity has failed; `dirParity` says that the
directory entry's has, and the entry is rebuilt. Log 79 (DEDUCED). -/
def onContextRestore (ctx : Nat) (dramBad : List Nat) (dirParity : Bool) (s : State) : State :=
  match spFind s.cph.ctxs ctx with
  | none => s
  | some c =>
    if c.resident then s
    else
      let s := residentPlace s
      let s := { s with mep := { s.mep with dramBad := dramBad.foldl (fun l k => if k < 128 then addOnce l (parkAddr ctx + k) else l) s.mep.dramBad } }
      let s := if dirParity then cphParity s ctx else s
      let lost := parkedBad s ctx
      let s := if lost.isEmpty then s else parityFound s true (parkAddr ctx) idCph lost
      let fails := !lost.isEmpty || !restorePasses s ctx c (parkedBytes s ctx)
      let s := if fails then cphFault s F.cphErr_ctxAuth ctx 0 else s
      let c := if c.cond == .revoked && !dirParity then { c with blk := none } else if fails || dirParity then discardBlock c else c
      let s := putCtx s ctx (ctxCond { c with resident := true, used := s.cph.useClock })
      incSat { s with cph := { s.cph with useClock := s.cph.useClock + 1 } } F.cphStat_restores 1

/-- Load an expanded key; the cache holds 64, and the least recently used leaves (R404). Log 205 (DEDUCED). -/
def loadKey (s : State) (k v : Nat) : State :=
  let es := s.cph.keyCache.filter fun e => !(e.keySlot == k && e.version == v)
  let oldest := minOr 0 (es.map CachedKey.used)
  let es := if 64 ≤ es.length then es.filter fun e => e.used != oldest else es
  { s with cph := { s.cph with keyCache := es ++ [⟨k, v, s.cph.useClock⟩], useClock := s.cph.useClock + 1 } }

/-- The request served next: the earliest deadline, then arrival (R405). -/
def firstKeyReq : List KeyReq → Option KeyReq
  | [] => none
  | x :: xs => match firstKeyReq xs with
    | none => some x
    | some y => if rankLt [y.deadline, y.order] [x.deadline, x.order] then some y else some x

/-- A read ends well: a Verify at its last open, a Read once its blocks are with the host, and a forwarded one after CPL too (R559). -/
def readReleased (s : State) (n : Nat) : State :=
  match slotOf s n with
  | none => s
  | some c =>
    if !allOpened c || (c.remote.isSome && c.phase == .waitMembers) then s
    else
      let s := abandonReads s (readsOfSlot s n)
      if c.kind = .verify ∨ (List.range c.blocks).all (fun i => c.egress.contains i) = true then finish s n (c.failed.getD .success) else s

/-- A block enters the read pool on its command's reservation, with its OCRC (R319, R374, R559). -/
def poolWith (s : State) (n i : Nat) (plain : List Byte) (ocrc : BitVec 32) : State :=
  match slotOf s n with
  | none => s
  | some c =>
    match popBuf s 1 idCph with
    | (none, s) => s
    | (some b, s) =>
      let s := if c.reserved = 0 then s else unreserve s 1
      let s := { s with mep := { s.mep with pool := spPut s.mep.pool (blockKey n i) ⟨b, plain, ocrc, [], 0⟩ } }
      readReleased (putSlot s n { c with opened := addOnce c.opened i, reserved := c.reserved - 1 }) n

/-- An opened block enters the read pool. -/
def poolBlock (s : State) (n i : Nat) (plain : List Byte) : State := poolWith s n i plain (crc32c plain)

/-- What an open of a block answers: the plaintext, or what failed. -/
inductive OpenResult where
  | plain (bytes : List Byte)
  | sealBad
  | seqBad
  | tagBad
deriving DecidableEq, Repr

/-- The checks of R321 on a block's information part, for the epoch, zone, offset and tenant of the resolve. -/
def openBlock (s : State) (c : CmdSlot) (off : Nat) (key : List Byte) (b : StagedBlock) : OpenResult :=
  let ep := match c.home with | some h => h.epoch | none => (zmapOf s c.ezn).epoch
  if sealOf b.data b.seq.toNat ≠ b.sealCrc then .sealBad
  else if b.seq.toNat ≠ seqWord ep (devId s) then .seqBad
  else
    let aad := leBytes 8 (blockHeader 0 (c.nsid - 1) off c.ezn ep).toNat ++ leBytes 4 b.seq.toNat
    match gcmOpen key (nonceBytes (devId s) c.ezn ep off (c.nsid - 1)) aad b.data (beBytes 16 b.tag.toNat) with
    | some p => .plain p
    | none => .tagBad

/-- The open of a rebuilt codeword has failed (R261, R263, R269): the REBUILD has failed; with a step in sequence overtaken by a race, that step is tried
again, else the codeword is given up. Log 82 (DEDUCED). -/
def rebuildOpenFails (s : State) (k i : Nat) (q : ReadOp) (c : Cw) : State :=
  let s := countDie s q.die fun c => { c with rebuildFail := c.rebuildFail + 1 }
  let s := modCw s k i fun c => { c with rebuild := c.rebuild.map fun b => { b with failed := true } }
  if c.rebuild.any fun b => b.raced && !b.awaited then trySteps k i ((stepsAfter q .hard).filter fun x => decide (stepNum c.step ≤ stepNum x)) s
  else cwDead s k i

/-- A failed open of a decoded codeword (R261, R263, R321): a stale block is recorded; the codeword takes what its REBUILD has delivered, waits for the one
that runs, or climbs on. Log 81, 82 (DEDUCED). -/
def openFails (s : State) (k i : Nat) (r : OpenResult) : State :=
  let s := match r with
    | .seqBad => raiseErr s F.mepErr_seqMismatch 0x07 0 idMep fun s => [regNat s F.mepErr_seqMismatch.addr, 0, 0, idCph, 0]
    | _ => s
  match (readAt s k).bind fun q => (q.cws[i]?).map fun c => (q, c) with
  | none => s
  | some (q, c) =>
    if byRebuild c then rebuildOpenFails s k i q c
    else
      let s := climb s k i
      if c.rebuild.any fun b => b.left.isEmpty && !b.failed then rebuildDelivers s k i else s

/-- A decoded codeword of a command has been opened: the race is over, and a REBUILD that delivered it is counted (R171, R261, R269, R297). -/
def codewordOpened (s : State) (k j : Nat) (w : Cw) : State :=
  match readAt s k with
  | none => s
  | some r =>
    let s := if byRebuild w then rebuildPassed s r w w.word else dropRace s k j w
    let s := modCw s k j fun x => { x with phase := .opened, rebuild := if byRebuild x then x.rebuild else none }
    reportRead s k

/-- The re-sends an open takes (R321, R322): one after decode for a parity error, a flip or a SEAL mismatch, one at open for a TAG mismatch; a stale block
has none. -/
def openResends (first : Bool) (r : OpenResult) : Nat :=
  match r with
  | .sealBad => 1
  | .tagBad => b2n first + 1
  | _ => b2n first

/-- Open a decoded codeword (R321, R322, R333): `parityFails` checks in a row find a read-pool parity error; one re-send is made. -/
def openDecoded (s : State) (n i parityFails : Nat) (c : CmdSlot) (k j : Nat) (w : Cw) (key : List Byte) : State :=
  let hit := flipHits s 3 c.func
  let s := if hit then fireFlip s else s
  let s := forEach (List.range (min parityFails 2)) s fun s _ => parityFound s false 0 idCph [0]
  let r := if 2 ≤ parityFails then .sealBad else openBlock s c w.hostOff key (blockOfInfo w.word)
  let s := incSat s F.mepIntegCnt_decResend (openResends (hit || decide (0 < parityFails)) r)
  match r with
  | .plain p => poolBlock (codewordOpened s k j w) n i p
  | _ => openFails s k j r

/-- Open a staged copy (R202, R322): where it fails, the host data is fetched again and the read waits. -/
def openStaged (s : State) (n i pz slot : Nat) (c : CmdSlot) (b : StagedBlock) (key : List Byte) : State :=
  let fails := !(stagedParity s pz slot b).isEmpty || metaFails s pz slot b
  if b.resending then s
  else if fails then resendStaged (noteStaged s pz slot idCph b) pz slot b
  else match openBlock s c (c.offset + i) key b with
    | .plain p => poolBlock s n i p
    | _ => resendStaged s pz slot b

/-- A codeword of the command serves the block, whatever its phase. -/
def hasCw (s : State) (n i : Nat) : Bool := (readsOfSlot s n).any fun k => match readAt s k with
  | some r => r.cws.any fun x => x.block == i
  | none => false

/-- Blocks of a command are read from flash where its resolve found them. -/
def readHome (s : State) (slot block : Nat) (c : CmdSlot) (h : Resolved) : State :=
  forEach (addBlock slot c h (ageBin (zoneAge s h.zone)) [] (c.offset + block) block) s startOrClimb

/-- Open a block with no codeword: its staged copy, or, where its slot has meanwhile left staging, from flash, or zeros where its write failed
(R202, R324). A Reset that took effect since the resolve left every slot durable (R54), and the read is served as resolved. Log 169 (DEDUCED). -/
def openElse (s : State) (slot block : Nat) (c : CmdSlot) (key : List Byte) : State :=
  match c.home with
  | none => s
  | some h =>
    match boundZone s c.ezn with
    | none => readHome s slot block c h
    | some (pzn, z) =>
      let off := c.offset + block
      let sl := slotOfOffset z.tier z.pads off
      if (zmapOf s c.ezn).epoch ≠ h.epoch then readHome s slot block c h
      else if z.wpHost ≤ off then readReleased (deliverZeros s slot c [block]) slot
      else if finalSlot s pzn z sl then readHome s slot block c ⟨pzn, z, h.epoch⟩
      else match spFind s.mep.staged (stageKey (progZone s pzn) sl) with
        | some b => openStaged s slot block (progZone s pzn) sl c b key
        | none => s

/-- R321: CPH opens a block of a Read or Verify: a decoded codeword, or a staged copy. -/
def onBlockOpen (slot block parityFails : Nat) (pipeFault : Option Nat) (keyBad : Bool) (s : State) : State :=
  match slotOf s slot with
  | none => s
  | some c =>
    if !readOpen c || c.opened.contains block || c.egress.contains block || decide (c.blocks ≤ block) then s
    else if c.deadline < now s && !allDecoded s slot c then endRead s slot .deadlineMissed
    else
      match keyBytes s (c.nsid - 1) with
      | some key =>
        let v := keyVersion s (c.nsid - 1)
        let s := if keyBad then keyParity s (c.nsid - 1) v else s
        if !keyCached s (c.nsid - 1) v then requestKey s (c.nsid - 1) c.deadline
        else
          let s := touchKey s (c.nsid - 1) v
          match pipeFault with
          | some p => lockstep s 0 p
          | none =>
            match headerCw s slot block with
            | some (k, j, w) => openDecoded s slot block parityFails c k j w key
            | none => if hasCw s slot block then s else openElse s slot block c key
      | none => s

/-- R326, R559: the queue engine writes a released block to the host, or a member sends it to its leader in offset order. `fails` checks in a row do not match its OCRC; after RESEND_MAX re-sends the
command ends with Data Transfer Error once its other blocks are sent. Log 81 (DEDUCED). -/
def onHostDataEgress (slot block fails : Nat) (s : State) : State :=
  match slotOf s slot with
  | none => s
  | some c =>
    match spFind s.mep.pool (blockKey slot block) with
    | none => s
    | some p =>
      let sent := fun (s : State) (c : CmdSlot) =>
        let s := { s with mep := { s.mep with pool := spErase s.mep.pool (blockKey slot block) } }
        readReleased (putSlot (freeBuf s 1 p.buf idHif) slot { c with egress := addOnce c.egress block }) slot
      if c.kind ≠ .read ∨ allOpened c = false ∨ c.egress.contains block = true then s
      else match servedBy s slot with
      | some w => if (List.range block).all c.egress.contains then sent (sendRdData s w p.data p.ocrc) c else s
      | none =>
        let hit := flipHits s 4 c.func
        let s := if hit then fireFlip s else s
        let limit := getF s F.mepIntegCtrl_resendMax
        let fails := if crc32c p.data = p.ocrc then fails + b2n hit else limit + 1
        let s := incSat s F.mepIntegCnt_egressResend (min fails limit)
        let spent := decide (limit < fails)
        let s := if spent then raiseErr s F.mepErr_egressFail 0x07 0 idMep fun s =>
            [regNat s F.mepErr_egressFail.addr, bufAddr 1 p.buf, 0, idHif, 0]
          else emit s (.hostBlock c.func c.sqe.cid block p.data)
        sent s { c with failed := if spent then some .dataTransferError else c.failed }

end Sys2Proof.Machine
end

