-- ==== Sys2Proof/Machine/Dram.lean ====
section
/-!
DEFINITION. DRAM as masters see it (R328 to R332, R347 to R354): data bytes, the merge buffer, and the channels' queues, rows and parity caches
(R355 to R357).
-/

namespace Sys2Proof.Machine

open Sys2Proof

/-- Usable bytes of DRAM (R352). -/
def usableDram : Nat := 0xE38E38000

/-- The DRAM accepts accesses (R354, R366). -/
def dramReady (s : State) : Bool := domainOn s .dmc && getF s F.dmcStat_state == 4

/-- What the state holds entry by entry of the DRAM: the tables of the metadata segment (R44, R78, R275, R283, R353), the staged blocks and parity blocks with
their metadata (R251, R381), the ciphertext of blocks that CPH is sealing (R398), and the link words of free buffers (R376). Log 8 (DESIGN CHOICE). -/
inductive TableAt where
  | record (i : Nat)
  | zst (pzn : Nat)
  | zmap (ezn : Nat)
  | scan (pzn : Nat)
  | staged (key : Nat)
  | stagedMeta (key : Nat)
  | parity (key c : Nat)
  | parityMeta (key c : Nat)
  | sealing (ctx : Nat)
  | link (cls buf : Nat)
deriving DecidableEq, Repr

/-- The physical zone, half-row and 4 KiB place of a staging address (R72, R381): each ring slot holds one of the half-rows that are not yet durable. -/
def stagePlace (s : State) (a : Nat) : Option (Nat × Nat × Nat) :=
  let x := a - 0x200000000
  s.zrs.resv.findSome? fun kb =>
    match findIdxIn (fun (g : Nat) => g == x / 2 ^ 31) ((spFind s.sbg.granules kb.1).getD []) 0 with
    | none => none
    | some (i, _) =>
      let r := ringSlots kb.2.tier
      let hrBytes := 2 ^ 20 * bitsOf kb.2.tier
      let o := i * 2 ^ 31 + x % 2 ^ 31
      match (spFind kb.2.zones (o / (r * hrBytes))).bind (boundZone s) with
      | none => none
      | some (pzn, _) =>
        let d := (zstOf s (progZone s pzn)).durableHr
        some (progZone s pzn, d + (o / hrBytes % r + r - d % r) % r, o % hrBytes / 4096)

/-- The context whose block in progress goes to a slot of a physical zone, and has given the ciphertext of a byte of it (R398). -/
def sealingAt (s : State) (pzn slot off : Nat) : Option TableAt :=
  (s.cph.ctxs.find? fun kv => match kv.2.blk with
    | none => false
    | some y => match slotOf s y.cmd with
      | none => false
      | some c => c.firstSlot + y.blk == slot && decide (off < y.cipher.length) && (boundZone s c.ezn).any fun z => progZone s z.1 == pzn).map
    fun kv => .sealing kv.1

/-- The staged block, the block being sealed or the parity block at a staging address. -/
def stageEntry (s : State) (a : Nat) (info : Bool) : Option TableAt :=
  match stagePlace s a with
  | none => none
  | some (pzn, hr, i) =>
    let n := hrSlots (zstOf s pzn).tier
    if i < n then
      let k := stageKey pzn (hr * n + i)
      let now := if info then none else sealingAt s pzn (hr * n + i) (a % 4096)
      if now.isSome then now else if (spFind s.mep.staged k).isSome then some (if info then .stagedMeta k else .staged k) else none
    else
      let k := parityKey pzn hr ((i - n) / 8)
      if (spFind s.sbg.parityBlocks k).isSome then some (if info then .parityMeta k ((i - n) % 8) else .parity k ((i - n) % 8)) else none

/-- The link word of a free buffer at an address of the DRAM classes (R376). -/
def linkAt (s : State) (a : Nat) : Option (TableAt × Nat) :=
  (dramBuffer a).bind fun (x : Nat × Nat × Nat) => if 8 ≤ x.2.2 ∨ bufTaken (poolOf s x.1) x.2.1 = true then none else some (TableAt.link x.1 x.2.1, x.2.2)

/-- The entry a data address lies in, with the offset in it. Log 8 (DESIGN CHOICE). -/
def tableAt (s : State) (a : Nat) : Option (TableAt × Nat) :=
  if a < 0x10400000 then some (.record (a / 16), a % 16)
  else if a < 0x11400000 then some (.zst ((a - 0x10400000) / 64), (a - 0x10400000) % 64)
  else if 0x11400000 ≤ a ∧ a < 0x115E0000 then some (.zmap ((a - 0x11400000) / 8), (a - 0x11400000) % 8)
  else if 0x11600000 ≤ a ∧ a < 0x11640000 then some (.scan (a - 0x11600000), 0)
  else if a < 0x1C0000000 then none
  else if a < 0x1D4000000 then (stageEntry s (0x200000000 + (a - 0x1C0000000) / 32 * 4096) true).map fun t => (t, a % 32)
  else if a < 0x200000000 then none
  else if a < 0xC00000000 then (stageEntry s a false).map fun t => (t, a % 4096)
  else linkAt s a

/-- The bytes of an entry; the record of an absent die holds KIND BAD (R275). Log 8 (DESIGN CHOICE). -/
def entryBytes (s : State) : TableAt → List Byte
  | .record i =>
    let r := spGet (freshBrt i) s.mhm.brt i
    let r := if diePresent s (brtDie i) then r else sealBrt { r with kind := .bad }
    brtBytes r ++ [r.chk]
  | .zst p => zstEntryBytes (zstOf s p)
  | .zmap e => zmapBytes (zmapOf s e)
  | .scan p => leBytes 1 (spGet 0 s.mhm.scanTable p % 16)
  | .staged k => ((spFind s.mep.staged k).map fun b => bytesAt b.data 0 4096).getD []
  | .stagedMeta k => ((spFind s.mep.staged k).map fun b => (infoBytes b).drop 4096).getD []
  | .parity k c => bytesAt ((spFind s.sbg.parityBlocks k).getD []) (4128 * c) 4096
  | .parityMeta k c => bytesAt ((spFind s.sbg.parityBlocks k).getD []) (4128 * c + 4096) 32
  | .sealing i => (((spFind s.cph.ctxs i).bind Ctx.blk).map CtxBlock.cipher).getD []
  | .link k i => leBytes 8 (linkOf k (poolOf s k) i).toNat

/-- A staged block with other bytes. -/
def putStaged (s : State) (k : Nat) (f : StagedBlock → List Byte) : State :=
  match spFind s.mep.staged k with
  | none => s
  | some b =>
    let x := blockOfInfo (f b)
    { s with mep := { s.mep with staged := spPut s.mep.staged k { b with data := x.data, header := x.header, seq := x.seq, sealCrc := x.sealCrc, tag := x.tag } } }

/-- The parity blocks of a group with other bytes from an offset on. -/
def putParity (s : State) (k off : Nat) (bs : List Byte) : State :=
  match spFind s.sbg.parityBlocks k with
  | none => s
  | some old => { s with sbg := { s.sbg with parityBlocks := spPut s.sbg.parityBlocks k (old.take off ++ bs ++ old.drop (off + bs.length)) } }

/-- The ciphertext so far of a block being sealed, with other bytes. -/
def putSealing (s : State) (i : Nat) (bs : List Byte) : State :=
  match spFind s.cph.ctxs i with
  | none => s
  | some c => putCtx s i { c with blk := c.blk.map fun y => { y with cipher := bs } }

/-- An entry takes the bytes another master writes over it. ZRS goes on with an entry it holds on chip, and writes it back (R34, R79). Log 8 (DESIGN CHOICE). -/
def putEntry (s : State) (t : TableAt) (bs : List Byte) : State :=
  match t with
  | .record i => { s with mhm := { s.mhm with brt := spSet (freshBrt i) s.mhm.brt i { recordOfBytes bs with chk := listAt 0 bs 15 } } }
  | .zst p =>
    let z := zstOf s p
    if z.bound && onChip s z.ezn then s else { s with zrs := { s.zrs with zst := spSet freshZst s.zrs.zst p (zstOfBytes z bs) } }
  | .zmap e => if onChip s e then s else putZmap s e (zmapOfBytes bs)
  | .scan p => { s with mhm := { s.mhm with scanTable := spSet 0 s.mhm.scanTable p (leAt bs 0 1 % 16) } }
  | .staged k => putStaged s k fun b => bs ++ (infoBytes b).drop 4096
  | .stagedMeta k => putStaged s k fun b => bytesAt b.data 0 4096 ++ bs
  | .parity k c => putParity s k (4128 * c) bs
  | .parityMeta k c => putParity s k (4128 * c + 4096) bs
  | .sealing i => putSealing s i bs
  | .link k i => let p := poolOf s k; putPool s k { p with links := spSet (freshLink k i) p.links i (BitVec.ofNat 64 (ofLe bs)) }

/-- The byte of a table at a data address; none outside the tables. -/
def tableByte (s : State) (a : Nat) : Option Byte := (tableAt s a).map fun x => listAt 0 (entryBytes s x.1) x.2

/-- Bytes written over the tables, entry by entry. Log 8 (DESIGN CHOICE). -/
def tableStore (s : State) (a : Nat) (bs : List Byte) : State :=
  let hits := (List.range bs.length).filterMap fun i => (tableAt s (a + i)).map fun x => (x.1, x.2, listAt 0 bs i)
  forEach (hits.map (·.1)).eraseDups s fun s t =>
    putEntry s t (hits.foldl (fun e x => if x.1 = t then listSet e x.2.1 x.2.2 else e) (entryBytes s t))

/-- A byte as DRAM holds it. Log 7 (DESIGN CHOICE). -/
def dramByte (s : State) (a : Nat) : Byte := (tableByte s a).getD ((spFind s.mep.dram a).getD (dramDefault s a))

/-- `n` bytes as DRAM holds them. -/
def dramBytes (s : State) (a n : Nat) : List Byte := (List.range n).map fun i => dramByte s (a + i)

/-- Write bytes of a line, or of a region without tables, to DRAM with fresh parity, but for those that stay bad (R332). The bytes of a line that tables fill
are in the tables. -/
def dramStore (s : State) (a : Nat) (bs : List Byte) (bad : List Nat) : State :=
  { s with mep := { s.mep with
    dram := if (tableAt s a).isSome && (tableAt s (a + bs.length - 1)).isSome then s.mep.dram else storeBytes (fun x => (undefDraw s x).isSome) s.mep.dram a bs,
    dramBad := s.mep.dramBad.filter (fun x => !decide (a ≤ x ∧ x < a + bs.length)) ++ bad.map (a + ·) } }

/-- The parity of a byte of a lost region that nothing has written is undefined (R354): a free value. Log 7, 203 (DESIGN CHOICE). -/
def lostParity (s : State) (a : Nat) : Bool :=
  match s.dmc.lost with
  | some n => undefDraw s a == some n && (spFind s.mep.dram a).isNone && (tableByte s a).isNone && (Config.freeByte n (a + 2 ^ 40)).getLsbD 0
  | none => false

/-- The failing bytes of a line in DRAM, as offsets. -/
def lineBad (s : State) (a : Nat) : List Nat := (List.range 64).filter fun i => s.mep.dramBad.contains (a + i) || lostParity s (a + i)

/-- The channel of a data address (R349). -/
def dramChannel (a : Nat) : Nat := a / 64 % 8

/-- Physical line of a data address (R349): its data line, and its parity line. -/
def physLine (a : Nat) : Nat := let l := a / 64 / 8; 9 * (l / 8) + l % 8
def parityLine (a : Nat) : Nat := 9 * (a / 64 / 8 / 8) + 8

/-- Bank key, row and column of a physical line (R349): the bank key is rank x 16 + bank group x 4 + bank. -/
def bankKey (p : Nat) : Nat := p / 512 / 131072 * 16 + p % 4 * 4 + p / 4 % 4
def dramRow (p : Nat) : Nat := p / 512 % 131072
def dramCol (p : Nat) : Nat := p / 16 % 32

/-- An access at or above the usable size (R352): refused and recorded. Log 86 (DEDUCED). -/
def dramRange (s : State) (master a : Nat) : State :=
  errorResponse (raise s 0x08 0 idDmc [regNat s F.dmcErr_ch.addr, regNat s F.dmcStat_state.addr, regNat s F.dmcRefresh_mult.addr, dramChannel a])
    master a

/-- A merge entry is written back as a whole line (R331, R332). -/
def mergeWriteback (s : State) (line : Nat) : State :=
  match spFind s.mep.merge line with
  | none => s
  | some e => dramStore { s with mep := { s.mep with merge := spErase s.mep.merge line } } (64 * line) e.bytes e.bad

/-- The held line with the smallest of a measure. -/
def mergeOldest (f : MergeEntry → Nat) : Sparse MergeEntry → Option (Nat × MergeEntry)
  | [] => none
  | kv :: m =>
    match mergeOldest f m with
    | none => some kv
    | some x => if f x.2 < f kv.2 then some x else some kv

/-- A flush writes every entry back (R331). -/
def mergeFlush (s : State) : State := forEach (s.mep.merge.map (·.1)) s mergeWriteback

/-- The fill read of a line (R331, R332): its bytes, and the failing ones, which are reported. Log 84 (DEDUCED). -/
def fillRead (s : State) (line : Nat) : List Byte × List Nat × State :=
  let bad := lineBad s (64 * line)
  let s := if bad.isEmpty then s
    else raiseErr (parityFound s true (64 * line) idMep bad) F.mepErr_mergeParity 0x07 0 idMep fun s =>
      [regNat s F.mepErr_mergeParity.addr, 64 * line % 2 ^ 32, 64 * line / 2 ^ 32, idMep, byteMask bad]
  (dramBytes s (64 * line) 64, bad, s)

/-- Bytes put over part of a list. -/
def overlay (old : List Byte) (off : Nat) (bs : List Byte) : List Byte := old.take off ++ bs ++ old.drop (off + bs.length)

/-- A write within one line merges into the line's entry, which is allocated after a fill read where there is none, evicting the least recently
used of 64 (R331). With MERGE_HOLD zero the entry is written back at once (R340). Log 84 (DEDUCED). -/
def mergeLine (s : State) (line off : Nat) (bs : List Byte) : State :=
  let alloc : MergeEntry × State := match spFind s.mep.merge line with
    | some e => (e, s)
    | none =>
      let s := if s.mep.merge.length < 64 then s
        else match mergeOldest MergeEntry.used s.mep.merge with
          | some (l, _) => mergeWriteback s l
          | none => s
      let (old, bad, s) := fillRead s line
      (⟨old, bad, s.mep.mergeClock, s.mep.mergeClock⟩, s)
  let (e, s) := alloc
  let e := { e with
    bytes := overlay e.bytes off bs, bad := e.bad.filter (fun k => !decide (off ≤ k ∧ k < off + bs.length)), used := s.mep.mergeClock }
  let s := { s with mep := { s.mep with merge := spPut s.mep.merge line e, mergeClock := s.mep.mergeClock + 1 } }
  if getF s F.mepIntegCtrl_mergeHold = 0 then mergeWriteback s line else s

/-- A byte as its next reader finds it: a held line is served from its entry (R331). -/
def memByte (s : State) (a : Nat) : Byte :=
  match tableByte s a with
  | some b => b
  | none => match spFind s.mep.merge (a / 64) with
    | some e => listAt 0 e.bytes (a % 64)
    | none => dramByte s a

/-- `n` bytes as a reader finds them. -/
def memBytes (s : State) (a n : Nat) : List Byte := (List.range n).map fun i => memByte s (a + i)

/-- A write of a whole aligned line goes to DRAM and discards the line's entry (R330). -/
def wholeLine (s : State) (line : Nat) (bs : List Byte) : State :=
  dramStore { s with mep := { s.mep with merge := spErase s.mep.merge line } } (64 * line) bs []

/-- A write of any length, line by line (R330): whole lines directly, parts through the merge buffer. `n` bounds the lines. -/
def memWriteLines : (n : Nat) → State → (a : Nat) → List Byte → State
  | 0, s, _, _ => s
  | n + 1, s, a, bs =>
    if bs.isEmpty then s
    else
      let k := 64 - a % 64
      let part := bs.take k
      let s := tableStore s a part
      let s := if part.length = 64 then wholeLine s (a / 64) part else mergeLine s (a / 64) (a % 64) part
      memWriteLines n s (a + k) (bs.drop k)


/-- A write by a block of the device. -/
def memWrite (s : State) (a : Nat) (bs : List Byte) : State := memWriteLines (bs.length + 1) s a bs

/-- R330 to R332, R352: a write narrower than a line, or not aligned to one, passes through the merge buffer. The LRS writes whole
lines only. -/
def onNarrowDramWrite (master addr : Nat) (data : List Byte) (s : State) : State :=
  if reservedMaster master then badMaster s master addr
  else if !domainOn s .data || !domainOn s .dmc then pwrOffResponse s master addr true
  else if usableDram < addr + data.length then dramRange s master addr
  else if !dramReady s || master == idLrs || data.isEmpty || (decide (addr % 64 = 0) && decide (data.length % 64 = 0)) then s
  else memWrite s addr data

/-- R331: the entry held longest is written back when MERGE_HOLD has elapsed. -/
def onMergeEntryWriteback (s : State) : State :=
  match mergeOldest MergeEntry.since s.mep.merge with
  | some (l, _) => mergeWriteback s l
  | none => s

/-- The level a clamp holds a pin of a DRAM channel at (R361); the data pins are not driven. -/
def ddrClamp : DdrPin → Option Bool
  | .resetN | .ckC | .wckC _ => some true
  | .cs _ | .ca _ | .ckT | .wckT _ => some false
  | .dq _ | .dmi _ | .rdqs _ => none

/-- The level of a pin of a DRAM channel: none where nothing drives it, or where it follows the traffic. -/
def ddrLevel (d : DdrDrive) (x : DdrPin) : Option Bool :=
  match d, x with
  | .reset, .resetN => some false
  | .driven, .resetN => some true
  | .driven, _ => none
  | _, x => ddrClamp x

/-- The drive of the DRAM pins changes. Log 203 (DESIGN CHOICE). -/
def driveDdr (s : State) (d : DdrDrive) : State :=
  if s.pins.ddr = d then s else emit { s with pins := { s.pins with ddr := d } } (.ddrPads d)

/-- The clamps take the DRAM pins (R360, R361): RESET_N stays low until the DMC has driven it. Log 203 (DESIGN CHOICE). -/
def clampDdr (s : State) : State := if s.pins.ddr = .reset then s else driveDdr s .clamped

/-- A channel before its first access. -/
def freshChan : DramChan := ⟨[], [], false, [], [], [], 0, []⟩

def chanState (s : State) (c : Nat) : DramChan := spGet freshChan s.dmc.chans c

def putDram (s : State) (c : Nat) (x : DramChan) : State := { s with dmc := { s.dmc with chans := spSet freshChan s.dmc.chans c x } }

/-- WQ_HIGH and WQ_LOW as taken (R356). -/
def wqHigh (s : State) : Nat := min 32 (getF s F.dmcSched_wqHigh)
def wqLow (s : State) : Nat := if wqHigh s = 0 then 0 else min (getF s F.dmcSched_wqLow) (wqHigh s - 1)

/-- A response leaves in the order of its master's requests (R21, R357): once no earlier read of the master is queued. -/
def respDue (s : State) (r : DramResp) : Bool :=
  !(s.dmc.chans.any fun kv => kv.2.readQ.any fun q => q.master == r.master && decide (q.order < r.order))

/-- The responses that are due leave in order of acceptance; a management core takes a load access fault on a failing byte (R329). -/
def releaseResps (s : State) : State :=
  let due := s.dmc.resps.filter (respDue s)
  let s := { s with dmc := { s.dmc with resps := s.dmc.resps.filter fun r => !respDue s r } }
  forEach due s fun s r =>
    emitIf (!r.bad.isEmpty && (isMc r.master || r.master == idSec)) (emit s (.dramResponse r.master r.addr r.bytes r.bad))
      (.note "load access fault" r.master)

/-- Insert a response in order of acceptance. -/
def insertResp (r : DramResp) : List DramResp → List DramResp
  | [] => [r]
  | x :: xs => if r.order < x.order then r :: x :: xs else x :: insertResp r xs

/-- A read's data goes to the reorder buffer; its parity is checked (R329). -/
def respond (s : State) (q : DramReq) (c : Nat) (bytes : List Byte) (bad : List Nat) : State :=
  let s := if bad.isEmpty then s else parityFound s true q.addr q.master bad
  { s with dmc := { s.dmc with resps := insertResp ⟨q.order, c, q.master, q.addr, bytes, bad⟩ s.dmc.resps } }

/-- The fabric holds an access (R21, R355): its queue is full, or an earlier access of its master to the channel is held. -/
def accessHeld (s : State) (ch : DramChan) (x : DramAccess) : Bool :=
  ch.waiting.any (fun y => y.master == x.master) ||
    (if x.data.isSome then decide (32 ≤ ch.writeQ.length) else decide (48 ≤ ch.readQ.length) && (spFind s.mep.merge (x.addr / 64)).isNone)

/-- One access is accepted (R330, R331, R352, R355): a read of a held line is served from the merge buffer, a write discards the entry. -/
def acceptAccess (c : Nat) (s : State) (x : DramAccess) : State :=
  let x := { x with addr := x.addr / 64 * 64 }
  let ch := chanState s c
  if usableDram < x.addr + 64 then dramRange s x.master x.addr
  else if dramChannel x.addr ≠ c then s
  else if accessHeld s ch x then putDram s c { ch with waiting := ch.waiting ++ [x] }
  else
    let q : DramReq := ⟨x.master, x.addr, x.data.map fun d => bytesAt d 0 64, x.lrs, 0, s.dmc.nextOrder⟩
    let counted := { s with dmc := { s.dmc with nextOrder := s.dmc.nextOrder + 1 } }
    match x.data with
    | some _ =>
      let s := { counted with mep := { counted.mep with merge := spErase counted.mep.merge (x.addr / 64) } }
      putDram s c { ch with writeQ := ch.writeQ ++ [q], draining := ch.draining || wqHigh s == 0 }
    | none =>
      match spFind s.mep.merge (x.addr / 64) with
      | some e => respond counted q c (memBytes s x.addr 64) e.bad
      | none =>
        let high := wqHigh s
        putDram counted c { ch with
          readQ := ch.readQ ++ [q], draining := ch.draining && (high == 0 || decide (high ≤ ch.writeQ.length)) }

/-- The accesses the fabric holds for a channel are offered again, in their order. -/
def offerHeld (s : State) (c : Nat) : State :=
  let ch := chanState s c
  forEach ch.waiting (putDram s c { ch with waiting := [] }) (acceptAccess c)

/-- No request to the same line stands before this one (R357); a read may pass a queued write it takes its data from. -/
def inLineOrder (ch : DramChan) (q : DramReq) : Bool :=
  !((ch.readQ ++ ch.writeQ).any fun r => r.addr == q.addr && decide (r.order < q.order) && (q.data.isSome || r.data.isNone))

/-- A request names the row its bank has open. -/
def rowOpen (ch : DramChan) (q : DramReq) : Bool := spFind ch.rows (bankKey (physLine q.addr)) == some (dramRow (physLine q.addr))

/-- The choice of R356 in a queue: the LRS path, then a request at its bypass limit, then an open row, then the oldest. -/
def chooseReq (s : State) (ch : DramChan) (qs : List DramReq) : Option DramReq :=
  let qs := qs.filter (inLineOrder ch)
  let cap := getF s F.dmcSched_starveCap
  match qs.find? DramReq.lrs with
  | some q => some q
  | none =>
    if cap = 0 then qs.head?
    else match qs.find? fun q => decide (cap ≤ q.bypass) with
      | some q => some q
      | none => match qs.find? (rowOpen ch) with
        | some q => some q
        | none => qs.head?

/-- The requests older than one that is issued are bypassed by it, but for one on the LRS path (R356). -/
def bypassed (q : DramReq) (qs : List DramReq) : List DramReq :=
  (qs.filter fun r => r.order != q.order).map fun r => if !q.lrs && decide (r.order < q.order) then { r with bypass := r.bypass + 1 } else r

/-- The row commands of an access, and the row its bank is left with (R355): with IDLE zero it closes. -/
def openRow (s : State) (c p : Nat) : State :=
  let ch := chanState s c
  let k := bankKey p
  let was := spFind ch.rows k
  let cmd := fun s (op : DramOp) => emit s (.dram c k (dramRow p) (dramCol p) op)
  let s := if was == some (dramRow p) then s else cmd (if was.isSome then cmd s .precharge else s) .activate
  putDram s c { ch with rows := if getF s F.dmcPage_idle = 0 then spErase ch.rows k else spPut ch.rows k (dramRow p) }

/-- The parity bit of a data byte as DRAM holds it (R328, R350): odd parity, inverted where it fails. -/
def parityBit (s : State) (a : Nat) : Bool :=
  let b := dramByte s a
  let odd := (List.range 8).foldl (fun x i => x ^^ b.getLsbD i) false
  !(odd ^^ (s.mep.dramBad.contains a || lostParity s a))

/-- The parity line of a group of a channel (R350): bit k of byte 8s + m is that of byte 8m + k of slot s's data line. -/
def parityLineBytes (s : State) (c g : Nat) : List Byte :=
  (List.range 64).map fun j => BitVec.ofNat 8 ((List.range 8).foldl (fun x k =>
    x + b2n (parityBit s (64 * (8 * (8 * g + j / 8) + c) + 8 * (j % 8) + k)) * 2 ^ k) 0)

/-- A parity-cache entry is written back (R351). -/
def parityBack (s : State) (c : Nat) (e : ParityEntry) : State :=
  let p := 9 * e.group + 8
  emit s (.dram c (bankKey p) (dramRow p) (dramCol p) (.parityWrite e.dirty (parityLineBytes s c e.group)))

/-- A write's parity bytes enter the cache entry of its group (R351); a new entry may push out the least recently used. Log 90 (DEDUCED). -/
def parityStore (s : State) (c a : Nat) : State :=
  let ch := chanState s c
  let g := a / 64 / 8 / 8
  let sl := a / 64 / 8 % 8
  let clock := s.dmc.nextOrder
  match ch.parity.find? fun e => e.group == g with
  | some _ =>
    putDram s c { ch with parity := ch.parity.map fun e => if e.group = g then { e with dirty := addOnce e.dirty sl, used := clock } else e }
  | none =>
    if ch.parity.length < 64 then putDram s c { ch with parity := ch.parity ++ [⟨g, [sl], clock⟩] }
    else
      let old := minOr 0 (ch.parity.map ParityEntry.used)
      let out := ch.parity.find? fun e => e.used == old
      let s := match out with
        | some e => parityBack s c e
        | none => s
      putDram s c { ch with parity := (ch.parity.filter fun e => some e != out) ++ [⟨g, [sl], clock⟩] }

/-- A chosen request is performed (R351, R356, R357). -/
def issueReq (s : State) (c : Nat) (q : DramReq) : State :=
  let ch := chanState s c
  let p := physLine q.addr
  match q.data with
  | some d =>
    let s := putDram s c { ch with writeQ := bypassed q ch.writeQ }
    let s := emit (openRow s c p) (.dram c (bankKey p) (dramRow p) (dramCol p) .write)
    dramStore (parityStore (tableStore s q.addr d) c q.addr) q.addr d []
  | none =>
    let fwd := (ch.writeQ.filter fun w => w.addr == q.addr && decide (w.order < q.order)).getLast?
    let s := putDram s c { ch with readQ := bypassed q ch.readQ }
    match fwd with
    | some w => respond s q c (w.data.getD []) []
    | none =>
      let s := emit (openRow s c p) (.dram c (bankKey p) (dramRow p) (dramCol p) .read)
      let held := ch.parity.any fun e => e.group == q.addr / 4096 && e.dirty.contains (q.addr / 512 % 8)
      let pl := parityLine q.addr
      let s := if held then s else emit s (.dram c (bankKey pl) (dramRow pl) (dramCol pl) .parityRead)
      respond s q c (dramBytes s q.addr 64) (lineBad s q.addr)

/-- The drain of a channel goes on or begins (R356). -/
def drainNow (s : State) (ch : DramChan) : Bool :=
  !ch.writeQ.isEmpty && (ch.draining || decide (wqHigh s ≤ ch.writeQ.length) || ch.readQ.isEmpty)

/-- A channel issues one request, where there is one and its reorder buffer has room for a read's data (R356, R357). -/
def issueOne (s : State) (c : Nat) : State :=
  let ch := chanState s c
  let drain := drainNow s ch
  let pick := match chooseReq s ch ((ch.readQ ++ ch.writeQ).filter DramReq.lrs) with
    | some q => some q
    | none => chooseReq s ch (if drain then ch.writeQ else ch.readQ)
  let room := decide ((s.dmc.resps.filter fun r => r.channel == c).length < 128)
  match pick with
  | none => s
  | some q =>
    if q.data.isNone && !room then s
    else
      let s := issueReq s c q
      let ch := chanState s c
      putDram s c { ch with draining := drain && decide (wqLow s < ch.writeQ.length) }

/-- R351 to R357: accesses reach a channel, writes before reads, and the channel issues one request. A reserved master is refused (R15); with PD_DATA off
only the LRS reaches the controller (R19). -/
def onDramCommandIssue (channel : Nat) (accesses : List DramAccess) (s : State) : State :=
  let blocked := fun (x : DramAccess) => !domainOn s .dmc || !(domainOn s .data || x.master == idLrs)
  let go := accesses.filter fun x => !reservedMaster x.master && !blocked x
  let s := forEach accesses s fun s x =>
    if reservedMaster x.master then badMaster s x.master x.addr else if blocked x then pwrOffResponse s x.master x.addr x.data.isSome else s
  if !domainOn s .dmc || !dramReady s || decide (8 ≤ channel) then s
  else
    let s := forEach (go.filter fun x => x.data.isSome) (offerHeld s channel) (acceptAccess channel)
    let s := forEach (go.filter fun x => x.data.isNone) s (acceptAccess channel)
    releaseResps (issueOne s channel)

/-- A channel's queues run empty (R360). Log 90 (DEDUCED). -/
def drainChan : (n : Nat) → State → (c : Nat) → State
  | 0, s, _ => s
  | n + 1, s, c =>
    let s := offerHeld s c
    let ch := chanState s c
    if ch.readQ.isEmpty && ch.writeQ.isEmpty then s else drainChan n (releaseResps (issueOne s c)) c

/-- A channel's parity cache is written back and its banks are precharged (R351, R360). -/
def flushChan (s : State) (c : Nat) : State :=
  let ch := chanState s c
  let s := forEach ch.parity s fun s e => parityBack s c e
  let s := forEach ch.rows s fun s kv => emit s (.dram c kv.1 kv.2 0 .precharge)
  putDram s c { ch with parity := [], rows := [], postponed := [] }

/-- Requests to a bank are queued. -/
def bankBusy (ch : DramChan) (k : Nat) : Bool := (ch.readQ ++ ch.writeQ).any fun q => bankKey (physLine q.addr) == k

/-- R359: a refresh of a bank falls due: it may be postponed up to 8 times while requests to the bank are queued; else the bank is precharged
and refreshed, with those postponed before it where nothing is queued. Log 89 (DESIGN CHOICE). -/
def onRefreshDue (channel bank : Nat) (postpone : Bool) (s : State) : State :=
  if !dramReady s || decide (8 ≤ channel) || decide (32 ≤ bank) then s
  else
    let ch := chanState s channel
    let n := spGet 0 ch.postponed bank
    if postpone && bankBusy ch bank && decide (n < 8) then putDram s channel { ch with postponed := spSet 0 ch.postponed bank (n + 1) }
    else
      let row := spFind ch.rows bank
      let s := match row with
        | some r => emit s (.dram channel bank r 0 .precharge)
        | none => s
      let left := if bankBusy ch bank then n else 0
      let s := forEach (List.range (n + 1 - left)) s fun s _ => emit s (.dram channel bank 0 0 .refresh)
      putDram s channel { ch with rows := spErase ch.rows bank, postponed := spSet 0 ch.postponed bank left }

/-- R355: a bank without an access for DMC_PAGE.IDLE cycles closes its row. -/
def onPageIdlePrecharge (channel bank : Nat) (s : State) : State :=
  let ch := chanState s channel
  match spFind ch.rows bank with
  | none => s
  | some r => emit (putDram s channel { ch with rows := spErase ch.rows bank }) (.dram channel bank r 0 .precharge)

end Sys2Proof.Machine
end

