-- ==== Sys2Proof/Machine/DramCtl.lean ====
section
/-!
DEFINITION. Fault injection and the Burnisher (R333 to R338); refresh rate, tracking, self-refresh, training and fill of the DRAM (R348, R354,
R359 to R365); the stopped boot (R591).
-/

namespace Sys2Proof.Machine

open Sys2Proof

/-- The matrix of R449 allows injection. -/
def injectAllowed (s : State) : Bool :=
  match lifecycle s with
  | 0 | 1 => true
  | 2 => getF s F.dbgUnlock_level != 0
  | _ => false

/-- R334, R343: a write of MEP_FLIP that sets ARM. ARM with MASK zero disarms at once; where the matrix does not allow injection the write is
ignored. -/
def onFlipArm (master func target mask : Nat) (s : State) : State :=
  rowGate s master F.mepFlip_arm.addr true fun s =>
  if !injectAllowed s then s
  else
    let s := setF (setF (setF s F.mepFlip_mask mask) F.mepFlip_func func) F.mepFlip_target target
    setF s F.mepFlip_arm (b2n (getF s F.mepFlip_mask != 0))

/-- R334, R343: a write of MEP_FLIP.DISARM. -/
def onFlipDisarm (master : Nat) (s : State) : State :=
  rowGate s master F.mepFlip_arm.addr true fun s =>
  if !injectAllowed s then s
  else clrF s F.mepFlip_arm

/-- The first byte address of a scrub. -/
def scrubBase (s : State) : Nat := 64 * getF s F.mepScrubAddr_addr

/-- STATUS codes (R344). -/
def scrubRunning : Nat := 1
def scrubSuspended : Nat := 6

/-- R336: a write of START: no effect while a scrub runs or is suspended. -/
def onScrubStart (master : Nat) (s : State) : State :=
  rowGate s master F.mepScrubCtrl_start.addr true fun s =>
    let st := getF s F.mepScrubCtrl_status
    let lines := getF s F.mepScrubLen_lines
    let space := if flag s F.mepScrubCtrl_space then 67108864 else usableDram
    let zero := fun s => setReg s F.mepScrubSum_checked.addr 0
    if st = scrubRunning ∨ st = scrubSuspended then s
    else if lines = 0 ∨ getF s F.mepScrubCtrl_rate = 0 then zero (setF s F.mepScrubCtrl_status 3)
    else if space < scrubBase s + 64 * lines then setF s F.mepScrubCtrl_status 4
    else
      let s := setReg (zero s) F.mepScrubErr_firstLine.addr 0
      let s := setBit (setF s F.mepScrubCtrl_status scrubRunning) F.mepScrubCtrl_start
      { s with mep := { s.mep with scrub := ⟨0, 0, 0, 0, 0⟩ } }

/-- A scrub ends DONE (2) or ABORTED (5): its summary (R338, R346). -/
def scrubEnd (s : State) (status : Nat) : State :=
  let x := s.mep.scrub
  let s := clrF (setF s F.mepScrubCtrl_status status) F.mepScrubCtrl_start
  let s := setF (setF (setF s F.mepScrubSum_checked x.next) F.mepScrubSum_errLines (min x.errLines 0xFFFF)) F.mepScrubSum_errBytes (min x.errBytes 0xFFFF)
  let s := setF (setF s F.mepScrubErr_firstLine x.first) F.mepScrubErr_lastLine x.last
  let sum := regNat s F.mepScrubSum_checked.addr
  let err := regNat s F.mepScrubErr_firstLine.addr
  raise s 0x13 0 idMep [regNat s F.mepScrubCtrl_status.addr, sum % 2 ^ 32, sum / 2 ^ 32, err % 2 ^ 32, err / 2 ^ 32]

/-- A line of a scrub is in error (R329, R338). Log 85 (DEDUCED). -/
def scrubBadLine (s : State) (dram : Bool) (n addr : Nat) (bad : List Nat) : State :=
  let x := s.mep.scrub
  let x := { x with
    errLines := x.errLines + 1, errBytes := x.errBytes + bad.length, first := if x.errLines = 0 then n else x.first, last := n }
  let s := { s with mep := { s.mep with scrub := x } }
  let s := parityFound (setBit s F.mepErr_scrubErr) dram addr idMep bad
  raise s 0x12 0 idMep [addr % 2 ^ 32, addr / 2 ^ 32, byteMask bad]

/-- The SRAM bytes whose parity is known to be bad: also those of ingest buffers (R328, R372). -/
def sramKnown (s : State) : List Nat :=
  s.mep.sramBad ++ s.mep.ingest.flatMap fun kv => kv.2.parityBad.map (bufAddr 4 kv.2.buf + ·)

/-- R335, R337, R338: the scrub checks its next line. `found` are bytes of the line whose parity fails beside those known bad; they stay bad. A
line held in the merge buffer counts as checked. Log 85 (DEDUCED). -/
def onScrubLineCheck (found : List Nat) (s : State) : State :=
  if getF s F.mepScrubCtrl_status ≠ scrubRunning then s
  else
    let n := s.mep.scrub.next
    let dram := !flag s F.mepScrubCtrl_space
    let addr := scrubBase s + 64 * n
    let held := dram && (spFind s.mep.merge (addr / 64)).isSome
    let known := if dram then s.mep.dramBad else sramKnown s
    let bad := if held then [] else (List.range 64).filter fun i => known.contains (addr + i) || found.contains i
    let all := (if dram then s.mep.dramBad else s.mep.sramBad) ++ (bad.map (addr + ·)).filter fun a => !known.contains a
    let s := if dram then { s with mep := { s.mep with dramBad := all } } else { s with mep := { s.mep with sramBad := all } }
    let s := if bad.isEmpty then s else scrubBadLine s dram n addr bad
    let s := { s with mep := { s.mep with scrub := { s.mep.scrub with next := n + 1 } } }
    if getF s F.mepScrubLen_lines ≤ n + 1 then scrubEnd s 2 else s

/-- R337: a write of STOP: the scrub ends after the line in progress. -/
def onScrubStop (master : Nat) (s : State) : State :=
  rowGate s master F.mepScrubCtrl_stop.addr true fun s =>
  if getF s F.mepScrubCtrl_status = scrubRunning ∨ getF s F.mepScrubCtrl_status = scrubSuspended then scrubEnd s 5
  else s

/-- A scrub meets an entry into STANDBY (`deep` false) or SAFELIGHT (R337). -/
def scrubEntry (s : State) (deep : Bool) : State :=
  if getF s F.mepScrubCtrl_status = scrubSuspended ∧ deep = true then scrubEnd s 5
  else if getF s F.mepScrubCtrl_status ≠ scrubRunning then s
  else if deep || flag s F.mepScrubCtrl_space then scrubEnd s 5
  else setF s F.mepScrubCtrl_status scrubSuspended

/-- A DRAM fault of a channel with its record (R371, R523). -/
def dmcFault (s : State) (bit : Fld) (c : Nat) : State :=
  raiseErr (setFBit s F.dmcErr_ch c) bit 0x08 0 idDmc fun s =>
    [regNat s F.dmcErr_ch.addr, regNat s F.dmcStat_state.addr, regNat s F.dmcRefresh_mult.addr, c]

/-- A boot stops (R591): STOP, the alert, and CSTS.CFS on every function. -/
def bootStop (s : State) (cause : Nat) : State :=
  setCfs { setF s F.prfBoot_stop cause with lrs := { s.lrs with bootStopped := true } }

/-- The MULT code a die's report asks for (R359). Log 87 (DESIGN CHOICE). -/
def rateMult (d : DieRate) : Nat := if d.beyond ∨ 8 < d.quarters then 2 else if 4 < d.quarters then 1 else 0

/-- MULT changes: every channel is due a tracking read (R365). -/
def setMult (s : State) (m : Nat) : State :=
  if getF s F.dmcRefresh_mult = m then s
  else let s := setF s F.dmcRefresh_mult m; { s with dmc := { s.dmc with trackDue := List.range 8 } }

/-- DMC_REFRESH with POLL zero holds MULT at 2x (R359). -/
def holdMult (s : State) : State := if getF s F.dmcRefresh_poll = 0 ∧ dramReady s = true then setMult s 1 else s

/-- R359: the refresh-rate fields of every die are read: MULT rises at once and falls after two polls in a row with a lower rate; a report above 2x
sets TEMP_HIGH and raises the alarm. Log 87 (DESIGN CHOICE). -/
def onDramTempPoll (dies : List DieRate) (s : State) : State :=
  if !dramReady s then s
  else if getF s F.dmcRefresh_poll = 0 then setMult s 1
  else
    let m := (dies.map rateMult).foldl max 0
    let was := getF s F.dmcRefresh_mult
    let s := setF s F.dmcRefresh_rateCode ((dies.map DieRate.code).foldl max 0)
    let s := if m < was then
        let low := max m s.dmc.lowMult
        if 1 ≤ s.dmc.lowPolls then setMult { s with dmc := { s.dmc with lowPolls := 0, lowMult := 0 } } low
        else { s with dmc := { s.dmc with lowPolls := 1, lowMult := m } }
      else setMult { s with dmc := { s.dmc with lowPolls := 0, lowMult := 0 } } m
    if m < 2 then clrFBit s F.secAlarmStat_active 3
    else
      let cs := (dies.zipIdx.filter fun x => rateMult x.1 == 2).map (·.2 / 2)
      let s := forEach (cs.filter fun c => decide (c < 8)) s fun s c => setFBit s F.dmcErr_ch c
      let s := raiseErr s F.dmcErr_tempHigh 0x08 0 idDmc fun s =>
        [regNat s F.dmcErr_ch.addr, regNat s F.dmcStat_state.addr, regNat s F.dmcRefresh_mult.addr, cs.head?.getD 0]
      if bitAt (getF s F.secAlarmStat_active) 3 then s else applyAlarm (setFBit s F.secAlarmStat_active 3) 3

/-- The trained values of a channel enter the training store (R364). -/
def storeTraining (s : State) : State := { s with dmc := { s.dmc with storeValid := true, storeBad := false } }

/-- R365: the oscillator of a channel's dies is read, each INTERVAL and after a change of MULT; a drift beyond DRIFT_LIMIT retrains the channel. -/
def onDqTrackingInterval (channel drift : Nat) (retrainFails : Bool) (s : State) : State :=
  if !dramReady s || decide (8 ≤ channel) || (getF s F.dmcTrack_interval == 0 && !s.dmc.trackDue.contains channel) then s
  else
    let s := { s with dmc := { s.dmc with trackDue := dropAll s.dmc.trackDue channel } }
    let limit := getF s F.dmcTrack_driftLimit
    if limit ≠ 0 ∧ drift ≤ limit then s
    else
      let s := incSat s F.dmcTrack_retrains 1
      if retrainFails then controllerFatal (dmcFault s F.dmcErr_trackFail channel) else storeTraining s

/-- Bytes of the lost regions leave the byte tables; a free value stands for what they hold (R354, R360). Log 7 (DESIGN CHOICE). -/
def loseRegions (s : State) : State :=
  { s with
    free := s.free + 1,
    dmc := { s.dmc with lost := some s.free },
    sbg := { s.sbg with pools := spMap s.sbg.pools fun _ p => { p with drawn := [] } },
    mep := { s.mep with dram := spFilter s.mep.dram fun a _ => decide (a < lostBase), dramBad := s.mep.dramBad.filter fun a => decide (a < lostBase) } }

/-- Self-refresh entry (R360): flushes, drains, precharge, segment masks for SAFELIGHT. -/
def selfRefreshEnter (s : State) (masked : Bool) : State :=
  if !dramReady s then s
  else
    let s := mergeFlush s
    let s := forEach (List.range 8) s fun s c => flushChan (drainChan (81 + (chanState s c).waiting.length) s c) c
    let s := setF (setF s F.dmcStat_state 0) F.dmcStat_trained 0
    let s := { s with dmc := { s.dmc with selfRefresh := true, masked := masked, trackDue := [], lowPolls := 0, lowMult := 0 } }
    clampDdr (if masked then loseRegions s else s)

/-- R362, R364: the DMC leaves self-refresh with the stored training, or trains in full where the store has a parity error. -/
def selfRefreshExit (s : State) (storeParity : Bool) : State :=
  if !s.dmc.selfRefresh || !domainOn s .dmc then s
  else
    let bad := storeParity || s.dmc.storeBad || !s.dmc.storeValid
    let s := driveDdr { s with dmc := { s.dmc with selfRefresh := false, masked := false, storeBad := bad } } .driven
    if bad then setF (setF s F.dmcStat_state 2) F.dmcStat_trained 0
    else
      let s := setF (setF s F.dmcStat_state 4) F.dmcStat_trained 0xFF
      if getF s F.dmcRefresh_poll = 0 then setMult s 1 else s

def onSelfRefreshExit (storeParity : Bool) (s : State) : State := selfRefreshExit s storeParity

/-- R348, R363: the dies' organisation is read and every channel not yet trained is trained once. A third failure of a channel stops the
boot. After COLD or SHELF the fill follows. Log 165 (DESIGN CHOICE). -/
def onDramTraining (mismatched failed : List Nat) (s : State) : State :=
  let st := getF s F.dmcStat_state
  if !domainOn s .dmc || s.dmc.selfRefresh || decide (3 ≤ st) || s.lrs.bootStopped then s
  else
    let s := driveDdr s .driven
    match (mismatched.filter fun c => decide (c < 8)) with
    | c :: cs =>
      let s := forEach (c :: cs) s fun s c => dmcFault s F.dmcErr_config c
      bootStop (setF s F.dmcStat_state 5) 3
    | [] =>
      let left := (List.range 8).filter fun c => !bitAt (getF s F.dmcStat_trained) c
      let s := setF s F.dmcStat_state 2
      let s := forEach left s fun s c =>
        if failed.contains c then putDram s c { chanState s c with trainFails := (chanState s c).trainFails + 1 }
        else setFBit s F.dmcStat_trained c
      let lost := left.filter fun c => failed.contains c && decide (3 ≤ (chanState s c).trainFails)
      if !lost.isEmpty then
        bootStop (setF (forEach lost s fun s c => dmcFault s F.dmcErr_trainFail c) F.dmcStat_state 5) 4
      else if getF s F.dmcStat_trained = 0xFF then
        let s := storeTraining (forEach (List.range 8) s fun s c => putDram s c { chanState s c with trainFails := 0 })
        setF s F.dmcStat_state (if s.dmc.filled then 4 else 3)
      else s

/-- R354: every line is written with zeros and valid parity, and the DRAM is READY. Log 139 (DEDUCED). -/
def onDramFill (s : State) : State :=
  if !domainOn s .dmc || getF s F.dmcStat_state != 3 then s
  else
    let s := { s with
      dmc := { s.dmc with lost := none, filled := true },
      sbg := { s.sbg with pools := spMap s.sbg.pools fun _ p => { p with drawn := [] } },
      mep := { s.mep with dram := [], dramBad := [] } }
    let s := setF s F.dmcStat_state 4
    if getF s F.dmcRefresh_poll = 0 then setMult s 1 else s

end Sys2Proof.Machine
end

