-- ==== Sys2Proof/Machine/SbgRows.lean ====
section
/-!
DEFINITION. The Saddlebag commands (R373 to R388) and the management port of the cipher engine (R407, R418).
-/

namespace Sys2Proof.Machine

open Sys2Proof

/-- The largest buffer of a group. -/
def groupMax (group : Nat) : Nat := ((groupClasses group).map classBytes).foldl max 0

/-- The class a request would take from has a list that is being rebuilt while it holds free buffers (R379). -/
def rebuildHolds (s : State) (group size : Nat) : Bool :=
  (eligible s group size).any fun k => (poolOf s k).rebuilding && decide (0 < openCount s k)

/-- The head buffer's link word as memory now holds it: some of its bits have flipped. -/
def upsetHead (s : State) (group size upset : Nat) : State :=
  match (eligible s group size).find? fun k => decide (0 < openCount s k) with
  | none => s
  | some k =>
    let p := poolOf s k
    putPool s k { p with links := spSet (freshLink k p.head) p.links p.head (linkOf k p p.head ^^^ BitVec.ofNat 64 upset) }

/-- The link read of the class a request takes from has a parity error (R329, R377). -/
def parityHead (s : State) (group size requester : Nat) : State :=
  match (eligible s group size).find? fun k => decide (0 < openCount s k) with
  | none => s
  | some k =>
    let p := poolOf s k
    linkCorrupt (parityFound s (decide (6 ≤ k)) (bufAddr k p.head) requester [0]) k requester

/-- A parity error in the state bitmap stops the class: a record, and a controller fatal error (R379). -/
def bitmapFault (s : State) (group size : Nat) : State :=
  match (eligible s group size).head? with
  | none => s
  | some k =>
    let s := putPool s k { poolOf s k with stopped := true }
    let s := parityFound s false (bufAddr k (poolOf s k).head) idSbg []
    controllerFatal s

/-- R373, R375, R377, R379: a hardware request for a buffer. `upset` are flipped bits of the head's link word. -/
def onBufferAlloc (requester group size deadline upset : Nat) (linkParity bitmapParity : Bool) (s : State) : State :=
  if reservedMaster requester then badMaster s requester 0x1000900000
  else if !domainOn s .data || decide (2 ≤ group) then s
  else if size = 0 then emit s (.note "ZERO_LENGTH" requester)
  else if groupMax group < size then emit s (.note "TOO_BIG" requester)
  else if bitmapParity then bitmapFault s group size
  else
    let s := if upset = 0 then s else upsetHead s group size upset
    let s := if linkParity then parityHead s group size requester else s
    match takeFrom s requester (eligible s group size) with
    | (some (k, i), s) => emit s (.buffer requester k i)
    | (none, s) => { s with sbg := { s.sbg with waits := s.sbg.waits ++ [⟨requester, group, size, deadline⟩] } }

/-- R378: a hardware block frees a buffer of a class. -/
def onBufferFree (requester cls index : Nat) (s : State) : State :=
  if reservedMaster requester then badMaster s requester (bufAddr cls index)
  else if !domainOn s .data || decide (6 ≤ cls) then s
  else freeBuf s cls index requester

/-- A management request that waited for a rebuild ends NONE where it still finds no buffer (R375, R387). Log 91 (DEDUCED). -/
def endPending (s : State) : State :=
  let done := s.sbg.waits.filter fun w => w.group == 2 && !rebuildHolds s 2 w.size
  let s := { s with sbg := { s.sbg with waits := s.sbg.waits.filter fun w => !done.contains w } }
  forEach done s fun s w => { s with sbg := { s.sbg with results := spSet 0 s.sbg.results w.requester (BitVec.ofNat 64 (2 ^ 61)) } }

/-- R379: a rebuild ends: the list runs over every free buffer in ascending order, then the queued frees and the waiting requests proceed. -/
def onFreeListRebuildDone (cls : Nat) (s : State) : State :=
  let p := poolOf s cls
  if !p.rebuilding then s
  else
    let s := settleRebuild (buildLines (putPool s cls (rebuiltPool cls p)) cls)
    let s := forEach p.queuedFrees s fun s i => pushBuf s cls i
    endPending (serveWaits cls (s.sbg.waits.length) s)

/-- SBG_ALLOC_RESULT of a master. Log 91 (DEDUCED). -/
def allocResult (s : State) (m : Nat) : Word := spGet 0 s.sbg.results m

/-- Store SBG_ALLOC_RESULT: STATUS, CLASS and ADDR (R387). -/
def setResult (s : State) (m status k addr : Nat) : State :=
  { s with sbg := { s.sbg with results := spSet 0 s.sbg.results m (BitVec.ofNat 64 (addr + k * 2 ^ 57 + status * 2 ^ 61)) } }

/-- R373, R375, R387: a management core asks for a DRAM buffer. It never waits for a free buffer; PENDING shows while a rebuild holds the list. Log 91 (DEDUCED). -/
def onSbgAllocSizeWrite (master size : Nat) (s : State) : State :=
  let a := F.sbgAllocSize_size.addr
  rowGate s master a true fun s =>
  if !isMc master || (allocResult s master).toNat / 2 ^ 61 == 4 then s
  else if size = 0 then setResult s master 2 0 0
  else if groupMax 2 < size then setResult s master 3 0 0
  else
    match takeFrom s master (eligible s 2 size) with
    | (some (k, i), s) => setResult s master 0 k (bufAddr k i)
    | (none, s) =>
      if rebuildHolds s 2 size then
        setResult { s with sbg := { s.sbg with waits := s.sbg.waits ++ [⟨master, 2, size, 0⟩] } } master 4 0 0
      else setResult s master 1 0 0

/-- The class of the DRAM pools a data address lies in. -/
def dramClassOf (addr : Nat) : Nat := if addr < classBase 7 then 6 else if addr < classBase 8 then 7 else 8

/-- R378, R388: a management core frees a DRAM buffer by its first byte's address. -/
def onSbgFreeWrite (master addr : Nat) (s : State) : State :=
  rowGate s master F.sbgFree_addr.addr true fun s =>
    match bufAt [6, 7, 8] addr with
    | none => poolFault s F.sbgErr_badIndex 3 master (dramClassOf addr) addr
    | some (k, i) => freeBuf s k i master

/-- R387: a read of SBG_ALLOC_RESULT; a final status clears the register. -/
def onSbgAllocResultRead (master : Nat) (s : State) : State :=
  let a := F.sbgAllocResult_status.addr
  rowGate s master a false fun s =>
    let v := allocResult s master
    let s := emit s (.readResponse master v)
    if v.toNat / 2 ^ 61 = 4 then s else { s with sbg := { s.sbg with results := spErase s.sbg.results master } }

/-- R382: an accumulator that no slot has entered for SBG_ACC.IDLE is written to its parity blocks and freed. -/
def onAccumulatorIdleExpiry (pzn hr v : Nat) (s : State) : State :=
  match accumOf s pzn hr v with
  | none => s
  | some a => if getF s F.sbgAcc_idle = 0 then s else writeAccum (advanceTo s (a.since + getF s F.sbgAcc_idle)) a

/-- STATUS of a management descriptor (R407). -/
inductive MgmtStatus where
  | ok | tagFail | zeroLength | notAllowed | empty | range
deriving DecidableEq, Repr

/-- Its code. -/
def mgmtCode : MgmtStatus → Nat
  | .ok => 1
  | .tagFail => 2
  | .zeroLength => 3
  | .notAllowed => 4
  | .empty => 5
  | .range => 6

/-- A byte range lies in usable DRAM. -/
def inDram (a n : Nat) : Bool := decide (a + n ≤ usableDram)

/-- The slot a descriptor names. -/
def mgmtSlot (d : List Byte) : Nat := leAt d 4 2 % 8192

/-- Run a descriptor (R407): its status, and the state with its outputs written. Log 206 (DEDUCED). -/
def runDescriptor (s : State) (d : List Byte) : MgmtStatus × State :=
  let op := leAt d 0 1 % 16
  let slot := mgmtSlot d
  let nonce := bytesAt d 8 12
  let aadLen := leAt d 0x14 4 % 2 ^ 21
  let dataLen := leAt d 0x18 4 % 2 ^ 21
  let aadAt := leAt d 0x20 8
  let inAt := leAt d 0x28 8
  let outAt := leAt d 0x30 8
  let tagAt := leAt d 0x38 8
  let gmac := op == 3
  let ranges := (aadLen == 0 || inDram aadAt aadLen) && (gmac || dataLen == 0 || (inDram inAt dataLen && inDram outAt dataLen)) && inDram tagAt 16
  if op = 0 ∨ 3 < op then (.range, s)
  else if aadLen = 0 ∧ dataLen = 0 then (.zeroLength, s)
  else if 2 ^ 20 < aadLen ∨ 2 ^ 20 < dataLen ∨ ranges = false then (.range, s)
  else if !isSystemSlot slot then (.notAllowed, s)
  else
    match keyBytes s slot with
    | none => (.empty, s)
    | some key =>
      let aad := memBytes s aadAt aadLen
      if op = 1 then
        let (c, t) := gcmSeal key nonce aad (memBytes s inAt dataLen)
        (.ok, memWrite (memWrite s outAt c) tagAt t)
      else if op = 2 then
        match gcmOpen key nonce aad (memBytes s inAt dataLen) (memBytes s tagAt 16) with
        | some p => (.ok, memWrite s outAt p)
        | none => (.tagFail, s)
      else (.ok, memWrite s tagAt (gcmTag key nonce aad []))

/-- The descriptor at the head of the port's queue ends: its STATUS, then the interrupt to the requesting core (R407). -/
def endDescriptor (s : State) (m a : Nat) (st : MgmtStatus) : State :=
  emit (memWrite { s with cph := { s.cph with mreqs := s.cph.mreqs.tail } } (a + 1) [BitVec.ofNat 8 (mgmtCode st)]) (.interrupt m)

/-- A descriptor ends without its key, or its key is in the cache (R405, R407). -/
def keyReady (s : State) (d : List Byte) : Bool :=
  let k := mgmtSlot d
  match (runDescriptor s d).1 with
  | .range | .zeroLength | .notAllowed => true
  | _ => keyCached s k (keyVersion s k)

/-- The port serves the descriptor at the head of its queue, where it has one of the named operations; a key that is not in the cache is requested first, with
the deadline that device firmware supplies (R405, R407). Log 206 (DEDUCED). -/
def serveDescriptor (s : State) (deadline : Nat) (ops : Nat → Bool) : State :=
  match s.cph.mreqs with
  | [] => s
  | (m, a) :: rest =>
    let d := memBytes s a 64
    if !domainOn s .data || !dramReady s || !ops (leAt d 0 1 % 16) then s
    else if !inDram a 64 then emit { s with cph := { s.cph with mreqs := rest } } (.interrupt m)
    else if !keyReady s d then requestKey s (mgmtSlot d) deadline
    else
      let (st, s) := runDescriptor (touchKey s (mgmtSlot d) (keyVersion s (mgmtSlot d))) d
      endDescriptor s m a st

/-- A request of the management port is answered EMPTY, and its descriptor ends (R405, R407). -/
def endMgmtEmpty (s : State) (k : Nat) : State :=
  match s.cph.mreqs with
  | [] => s
  | (m, a) :: _ =>
    let d := memBytes s a 64
    if !domainOn s .data || !dramReady s || !inDram a 64 || keyReady s d || mgmtSlot d != k then s else endDescriptor s m a .empty

/-- R405, R413: TKR serves the earliest request: the slot's value and its retired copies in reference are loaded, or the answer is EMPTY and
the operations end as an erase would end them. A parity error in the slot erases it. -/
def onKeyRequest (slotParity : Bool) (s : State) : State :=
  match firstKeyReq s.cph.keyReqs with
  | none => s
  | some r =>
    let s := { s with cph := { s.cph with keyReqs := s.cph.keyReqs.filter fun x => x.order != r.order } }
    let s := if slotParity && (spFind s.tkr.slots r.keySlot).isSome then resumeTkr (slotParityError s r.keySlot) else s
    match spFind s.tkr.slots r.keySlot with
    | none => endMgmtEmpty (revokeCommands s fun k => k == r.keySlot) r.keySlot
    | some _ =>
      let s := loadKey s r.keySlot (keyVersion s r.keySlot)
      forEach (s.tkr.retired.filter fun x => x.keySlot == r.keySlot) s fun s x => loadKey s x.keySlot x.version

/-- R407: a descriptor with OP SEAL. -/
def onMgmtSeal (deadline : Nat) (s : State) : State := serveDescriptor s deadline fun op => op == 1

/-- R407: a descriptor with OP OPEN. -/
def onMgmtOpen (deadline : Nat) (s : State) : State := serveDescriptor s deadline fun op => op == 2

/-- R407: a descriptor with OP GMAC; one whose OP is none of the three ends RANGE. -/
def onMgmtGmac (deadline : Nat) (s : State) : State := serveDescriptor s deadline fun op => op != 1 && op != 2

/-- A write of CPH_MREQ queues a descriptor (R418): what stands behind the first 64 are writes that wait for room. Log 206 (DEDUCED). -/
def queueDescriptor (s : State) (master addr : Nat) : State :=
  { s with cph := { s.cph with mreqs := s.cph.mreqs ++ [(master, addr / 64 * 64)] } }

end Sys2Proof.Machine
end

