-- ==== Sys2Proof/Machine/BayRows.lean ====
section
/-!
DEFINITION. Bays (R189 to R198, R209, R210, R213, R215): power, identification, training, loss, and the channels' descriptors.
-/

namespace Sys2Proof.Machine

open Sys2Proof

/-- The CSR windows of a bay's channels. -/
def inBayWindow (b addr : Nat) : Bool := decide (0x1001000000 + 0x100000 * b ≤ addr ∧ addr < 0x1001000000 + 0x100000 * (b + 1))

/-- The bay's dies. -/
def bayDies (b : Nat) : List Nat := (List.range 256).map (256 * b + ·)

/-- A bay's registers treat its power-down as STANDBY (chapter 6, before R210); its dies lose their features, its channels a retraining that waits. -/
def bayRegsLost (s : State) (b : Nat) : State :=
  let dies := spMapD noDie s.sch.dies fun d x => if dieBay d = b then { x with offset := 0, granted := none } else x
  { s with
    regs := resetPick s.regs (inBayWindow b) fun f => lostOver false f.lowPower,
    sch := { s.sch with dies := dies },
    bay := { s.bay with trainFails := s.bay.trainFails.filter fun c => c / 16 != b } }

/-- BAY_PWR_EN of a bay (R192, R195). -/
def driveBay (s : State) (b : Nat) (on : Bool) : State :=
  let bits := s.pins.bayPwrEn
  let bits := if bitAt bits b == on then bits else if on then bits + 2 ^ b else bits - 2 ^ b
  drive { s with pins := { s.pins with bayPwrEn := bits } } (.bayPwrEn b) on

/-- The clamps take the pins of a bay's channels, and BAY_PWR_EN falls: the rail is absent (R195 to R197). -/
def cutBay (s : State) (b : Nat) : State :=
  let s := forEach (bayChannels b) s clampPads
  forEach (bayChannels b) (driveBay s b false) unpowerPads

/-- The channel sequencers of a bay (R14). -/
def bayCores (b : Nat) : List Nat := (List.range 4).map fun k => idCs (4 * b + k)

/-- R192, R193: device firmware asks for a bay, or SCH has; the PMU asserts BAY_PWR_EN of the lowest bay that waits, 5 ms after the last, and the clamps hold
the pins of its channels (R197). -/
def onBayPowerUpRequest (bay : Nat) (firmware : Bool) (s : State) : State :=
  if !domainOn s .data || decide (2 ≤ pmuState s) then s
  else
    let s := if firmware && decide (bay < 4) then requestBay s bay else s
    match (List.range 4).find? fun b => (bayOf s b).phase == .requested with
    | none => s
    | some b =>
      let s := match s.bay.lastRise with | some t => advanceTo s (t + 5000) | none => s
      let s := putBay s b { bayOf s b with phase := .waitPg, since := s.clk.us, pg := false, again := false }
      forEach (bayChannels b) (driveBay { s with bay := { s.bay with lastRise := some s.clk.us } } b true) clampPads

/-- A register takes a profile's write (R588). -/
def profileWrite (s : State) (addr : Nat) (data : Word) : State :=
  match regAt addr with
  | some (d, _) => setReg s addr (writeWord d false (BitVec.allOnes 64) data (regVal s addr))
  | none => s

/-- A descriptor is validated after the write of its last word (R188, R215). -/
def validateDesc (s : State) (bay k : Nat) : State :=
  if !descCrcGood s bay k then chanFault s F.fchErr_descCrc (16 * bay) 0
  else if !descFits s bay k then chanFault s F.fchErr_descInvalid (16 * bay) 0
  else s

/-- Write a whole descriptor (R215). -/
def writeDesc (s : State) (bay k : Nat) (bs : List Byte) : State :=
  validateDesc (forEach (List.range 64) s fun s i => setF s (F.fchDesc_word bay (64 * k + i)) (leAt bs (4 * i) 4)) bay k

/-- A bay coming on takes the active profile's descriptors and its FCH_CTRL writes (R588). -/
def applyBayProfile (s : State) (b : Nat) : State :=
  let s := forEach (s.prf.descs.zipIdx.filter fun x => decide (x.2 < 8)) s fun s x => writeDesc s b x.2 x.1
  forEach (s.prf.fchWrites.filter fun kv => inBayWindow b kv.1) s fun s kv => profileWrite s kv.1 kv.2

/-- R192 steps 2 and 3: the board asserts BAY_PG within 50 ms; PD_FLASH comes on with its restored configuration and the profile's. -/
def onBayPgAssert (bay : Nat) (s : State) : State :=
  let x := bayOf s bay
  if x.phase ≠ .waitPg then s
  else
    let s := putBay s bay { x with phase := .waitTpor, pg := true, since := s.clk.us }
    let s := applyBayProfile (bayRegsLost s bay) bay
    let s := mbxInterrupts s (bayCores bay)
    forEach (List.range 16) s fun s c => setF s (F.fchStat_state (16 * bay + c)) 1

/-- A two-byte time of the descriptors a bay's power-up goes by: before its first identification its valid ones, then those bound. Log 95, 198 (DEDUCED). -/
def bayTimes (s : State) (b off : Nat) : List Nat :=
  if (bayOf s b).identified then ((bayDies b).filter (diePresent s)).map fun d => dieF s d off 2 else (validDescs s b).map fun k => descF s b k off 2

/-- TPOR of a bay in µs (R192): the largest of its descriptors. Log 95 (DEDUCED). -/
def bayTpor (s : State) (b : Nat) : Nat :=
  let ts := bayTimes s b 0x50
  if ts.isEmpty then 5000 else ts.foldl max 0

/-- The time a bay waits for the RESETs of its targets (R193), where `resets` says how long each takes, by channel and chip enable: its channels work at the same
time, each on one target after another, and none is waited for longer than TRST. -/
def resetTime (s : State) (b : Nat) (resets : List Nat) : Nat :=
  let ts := bayTimes s b 0x4E
  let wait := fun (t : Nat) => if ts.isEmpty then t else min t (ts.foldl max 0)
  ((List.range 16).map fun c => ((List.range 4).map fun e => wait (listAt 0 resets (4 * c + e))).foldl (· + ·) 0).foldl max 0

/-- RESET of every target of a bay, chip enable 0 of each channel first (R193). -/
def resetTargets (s : State) (b : Nat) (resets : List Nat) : State :=
  let s := forEach (List.range 4) s fun s e => forEach (bayChannels b) s fun s c => cycle (selectDie s (16 * c + 4 * e)) (16 * c + 4 * e) .resetTarget
  advance s (resetTime s b resets)

/-- A READ ID answer matches a descriptor (R189): a valid one (R188), ID_LEN bytes of 1 to 7, for a target the descriptor has. Log 198 (DEDUCED). -/
def idMatches (s : State) (bay k ce : Nat) (bytes : List Byte) : Bool :=
  let n := descF s bay k 0x0F 1
  descValid s bay k && decide (1 ≤ n ∧ n ≤ 7 ∧ ce < descF s bay k 0x11 1) && !bytes.isEmpty &&
    bytesAt bytes 0 n == leBytes n (descF s bay k 0x08 7)

/-- The LUNs of a target below LUN_COUNT, as dies. Log 93 (DEDUCED). -/
def targetDies (s : State) (bay c ce k : Nat) : List Nat :=
  (List.range (min 4 (descF s bay k 0x12 1))).map fun l => 256 * bay + 16 * c + 4 * ce + l

/-- A die is bound to a descriptor (R189, R213). -/
def bindDie (s : State) (bay k d : Nat) : State :=
  let c := dieChannel d
  let p := diePos d
  let s := setF (setF s (F.fchDieCfg_tiers c p) (descF s bay k 0x1C 1 % 8)) (F.fchDieCfg_desc c p) k
  setDieStat (setBit (setBit s (F.fchDieCfg_present c p)) (F.fchDieCfg_inservice c p)) d 0

/-- Identify a target at the first power-up after COLD or SHELF (R189). Log 93 (DEDUCED). -/
def identifyTarget (s : State) (bay c ce : Nat) (bytes : List Byte) (badPages : List Nat) : State :=
  let s := cycle (selectDie s (256 * bay + 16 * c + 4 * ce)) (256 * bay + 16 * c + 4 * ce) .readId
  match (validDescs s bay).find? fun k => idMatches s bay k ce bytes with
  | none => s
  | some k =>
    let ds := targetDies s bay c ce k
    let s := forEach ds s fun s d => cycle s d .readParameterPage
    if ds.any (fun d => badPages.contains (d - 256 * bay)) then chanFault s F.fchErr_idNomatch (16 * bay + c) (4 * ce)
    else forEach ds s fun s d => bindDie s bay k d

/-- Check a target at a later power-up (R189): one that answers otherwise leaves service. -/
def checkTarget (s : State) (bay c ce : Nat) (bytes : List Byte) : State :=
  let ds := ((List.range 4).map fun l => 256 * bay + 16 * c + 4 * ce + l).filter (diePresent s)
  let s := cycle (selectDie s (256 * bay + 16 * c + 4 * ce)) (256 * bay + 16 * c + 4 * ce) .readId
  match ds with
  | [] => s
  | d :: _ =>
    if idMatches s bay (getF s (F.fchDieCfg_desc (16 * bay + c) (diePos d))) ce bytes then
      forEach ds s fun s d => setDieStat s d (if dieInService s d then 0 else 6)
    else forEach ds (chanFault s F.fchErr_idNomatch (16 * bay + c) (4 * ce)) dieOut

/-- A channel is trained; a retraining asked for is done with it (R210). -/
def trainNow (s : State) (c : Nat) (fails : Bool) : State :=
  clrF (trainChannel { s with bay := { s.bay with trainFails := dropAll s.bay.trainFails c } } c fails) (F.fchCtrl_train c)

/-- R189, R192 steps 4 to 7, R193: TPOR has elapsed: the clamps are released, every target is reset, identified or checked, and every channel is
trained. `ids` are the READ ID answers by channel of the bay and chip enable (none where empty), `resets` the times in µs the targets take to reset,
`badPages` the dies of the bay whose parameter page fails, `trainFails` the channels that fail. -/
def onBayTporExpiry (bay : Nat) (ids : List (List Byte)) (resets badPages trainFails : List Nat) (s : State) : State :=
  let x := bayOf s bay
  if x.phase ≠ .waitTpor then s
  else
    let s := advanceTo s (x.since + bayTpor s bay)
    let s := putBay s bay { x with phase := .initialising }
    let ts := (List.range 64).map fun i => (i / 4, i % 4, listAt [] ids i)
    let s := resetTargets (forEach (bayChannels bay) s releasePads) bay resets
    let s := { s with mhm := { s.mhm with timeouts := s.mhm.timeouts.filter fun kv => dieBay kv.1 != bay } }
    let s := forEach ts s fun s (t : Nat × Nat × List Byte) =>
      if x.identified then checkTarget s bay t.1 t.2.1 t.2.2 else identifyTarget s bay t.1 t.2.1 t.2.2 badPages
    let s := forEach (List.range 16) s fun s c => trainNow s (16 * bay + c) (trainFails.contains c)
    putBay s bay { bayOf s bay with phase := .ready, identified := true, emptySince := s.clk.us }

/-- The levels of the BAY_PG pins. -/
def pgLevels (s : State) : Nat := s.bay.bays.foldl (fun a kv => if kv.2.pg then a + 2 ^ kv.1 else a) 0

/-- The Reads and Verifies that wait for a place in the die queues of a bay, or for read buffers, and would read there. -/
def baySlotsWaiting (s : State) (b : Nat) : List Nat :=
  (s.hif.slots.filter fun kv =>
    let c := kv.2
    isReadKind c.kind && c.remote.isNone && (c.phase == .waitDieQueue || c.phase == .waitReadPool) &&
      match boundZone s c.ezn with
      | some (pzn, z) => (readsOf s kv.1 c pzn z).any fun r => dieBay r.die == b
      | none => false).map (·.1)

/-- The commands that wait for a bay: those with a read in flight there, and those that have yet to start theirs (R194). Log 96 (DEDUCED). -/
def bayReadSlots (s : State) (b : Nat) : List Nat :=
  (s.rch.reads.filterMap fun kv =>
    match kv.2.owner with
    | .command n => if dieBay kv.2.die = b then some n else none
    | _ => none).foldl addOnce (baySlotsWaiting s b)

/-- The zones of a bay with incomplete writes. -/
def bayWriteZones (s : State) (b : Nat) : List Nat :=
  (writingZones s).filter fun e => match boundZone s e with | some (pzn, _) => groupOf (progZone s pzn) / 16 == b | none => false

/-- R194: BAY_PG has not risen within 50 ms: the bay has failed until device firmware asks for it again. -/
def onBayPgTimeout (bay : Nat) (s : State) : State :=
  let x := bayOf s bay
  if x.phase ≠ .waitPg then s
  else
    let s := advanceTo s (x.since + 50000)
    let s := cutBay (putBay s bay { x with phase := .failed, again := false }) bay
    let s := raise s 0x10 bay idPmu [bay, pgLevels s, regNat s F.pmuState_state.addr]
    let s := forEach (bayReadSlots s bay) s fun s n => endRead s n .poweredOffAccess
    let s := forEach (bayDies bay) s pruneDie
    forEach (bayWriteZones s bay) s bayFailsZone

/-- A program or erase of a lost bay has failed with cause BAY_LOSS (R293): the zone is to move, its staged data stays; an erase is issued again. Log 96 (DEDUCED). -/
def bayLossOp (s : State) (d : Nat) (r : Running) : State :=
  match r.entry.op with
  | .program pzn _ m _ =>
    let p := progOf s pzn
    let s := putProg s pzn { p with halted := addOnce p.halted m }
    (match sourceOf s pzn with
    | some (src, x) => restartReloc s src x
    | none => queueCandidate s (zstOf s pzn).ezn .bayLoss)
  | .erase _ => enqueue s d r.entry
  | .sense _ => forEach (senseReads s d) s fun s k => match readAt s k with
    | some q => enqueue (putRead s k { q with issued := false }) d { r.entry with op := .sense k, cls := q.cls, deadline := q.deadline, acct := q.acct }
    | none => s
  | .stepSense _ step => forEach (stepReads s d step) s fun s k => match readAt s k with
    | some q => enqueue s d { r.entry with op := .stepSense k step, cls := q.cls, deadline := q.deadline, acct := q.acct }
    | none => s
  | .probe _ => match spFind s.rch.probes d with
    | some p => enqueue { s with rch := { s.rch with probes := spPut s.rch.probes d { p with wedges := [] } } } d r.entry
    | none => s
  | .survey i _ => senseSentinel s (4 * d + i)

/-- What a die was doing when its bay was lost (R196). Log 96 (DEDUCED). -/
def dieLost (s : State) (d : Nat) : State :=
  let x := dieOf s d
  let s := putDie s d { x with
    current := none, suspended := none, suspending := none, suspSent := false, suspLate := false, resuming := false, tokenWait := false, granted := none,
    offset := 0 }
  let s := dropPage s d
  forEach (x.current.toList ++ x.suspended.toList) s fun s r => bayLossOp s d r

/-- R196, R293: power good is lost while the bay is on: it is clamped, recorded and powered again. Log 96 (DEDUCED). -/
def onBayPgFall (bay : Nat) (s : State) : State :=
  let x := bayOf s bay
  match x.phase with
  | .waitTpor | .initialising | .ready =>
    let c := 16 * bay
    let s := resetParties s (bayCores bay)
    let s := cutBay (putBay s bay { x with phase := .requested, pg := false, again := false }) bay
    let s := raise s 0x03 c idPmu [regNat s (F.fchErr_trainFail c).addr, c, 0, regNat s (F.fchDieStat_state c 0).addr, 0]
    grantTokens (forEach (bayDies bay) (bayRegsLost s bay) dieLost)
  | .poweringDown => putBay s bay { x with pg := false }
  | _ => putBay s bay { x with pg := false }

/-- No entry targets the bay and no program or erase of it is in progress or suspended (R195). -/
def bayUnused (s : State) (b : Nat) : Bool :=
  (s.sch.dies.filter fun kv => dieBay kv.1 == b).all fun kv => kv.2.queue.isEmpty && kv.2.current.isNone && kv.2.suspended.isNone

/-- A bay that is on powers down (R195): drained, clamped, off; a request that came meanwhile powers it up again. -/
def powerDownBay (s : State) (b : Nat) : State :=
  let x := bayOf s b
  if !(bayOn s b || x.phase == .waitTpor || x.phase == .waitPg) then s
  else
    let s := if x.phase = .ready then forEach (bayChannels b) s protectPads else s
    let s := if x.phase = .waitPg then s else resetParties s (bayCores b)
    cutBay (bayRegsLost (putBay s b { x with phase := if x.again then .requested else .off, pg := false, again := false }) b) b

/-- R195: device firmware powers an unused bay down. -/
def onBayPowerDown (bay : Nat) (s : State) : State := if bayUnused s bay then powerDownBay s bay else s

/-- R482: in IDLE a bay whose queues have held no entry for BAY_IDLE ms powers down. -/
def onBayIdleExpiry (bay : Nat) (s : State) : State :=
  let x := bayOf s bay
  if pmuState s ≠ stIdle ∨ getF s F.pmuCfg_bayIdle = 0 ∨ x.phase ≠ .ready ∨ bayUnused s bay = false then s
  else powerDownBay (advanceTo s (x.emptySince + 1000 * getF s F.pmuCfg_bayIdle)) bay

/-- A die bound to a descriptor has an operation in progress or suspended (R215). -/
def descInUse (s : State) (bay k : Nat) : Bool :=
  (bayDies bay).any fun d => diePresent s d && getF s (F.fchDieCfg_desc (dieChannel d) (diePos d)) == k &&
    ((dieOf s d).current.isSome || (dieOf s d).suspended.isSome)

/-- R215: a write of a descriptor's word 63 validates the descriptor, or is refused while a die bound to it works. -/
def onDescValidate (master channel k : Nat) (crc : DWord) (s : State) : State :=
  let a := (F.fchDesc_word (channel / 16) (64 * k + 63)).addr + 0x10000 * (channel % 16)
  rowGate s master a true fun s =>
  if channel % 16 ≠ 0 ∨ 8 ≤ k then s
  else if descInUse s (channel / 16) k then chanFault s F.fchErr_descBusy channel 0
  else validateDesc (setF s (F.fchDesc_word (channel / 16) (64 * k + 63)) crc.toNat) (channel / 16) k

/-- R210: a write of TRAIN retrains the channel once no die of it has an operation in progress or suspended; it reads 1 until then, and `fails` is how that
retraining ends. Log 165 (DESIGN CHOICE). -/
def onTrain (master channel : Nat) (fails : Bool) (s : State) : State :=
  let a := (F.fchCtrl_train channel).addr
  rowGate s master a true fun s =>
    let ts := dropAll s.bay.trainFails channel
    channelRest (setBit { s with bay := { s.bay with trainFails := if fails then channel :: ts else ts } } (F.fchCtrl_train channel)) channel

/-- Data-in of a program that has not been confirmed (R207). -/
def unconfirmed (r : Running) : Bool := isProgramEntry r.entry && r.stage == .dataIn

/-- The drain of R209 on a die: data-in not confirmed is abandoned and goes back into the queue, a suspended operation resumes. Log 64 (DEDUCED). -/
def drainDie (s : State) (d : Nat) : State :=
  let x := dieOf s d
  let back := (x.current.toList ++ x.suspended.toList).filter unconfirmed
  let drop := fun (r : Option Running) => if r.any unconfirmed then none else r
  let s := if back.isEmpty then s
    else
      let s := putDie s d { x with current := drop x.current, suspended := drop x.suspended, suspending := none, suspSent := false, suspLate := false }
      forEach back (setDieStat s d (restState s d)) fun s r => enqueue s d r.entry
  if (dieOf s d).current.isSome then s else decideResume s d

/-- R209, R210: a write that clears FCH_CTRL.ENABLE drains the channel and takes it out of service. -/
def onChannelDisable (master channel : Nat) (s : State) : State :=
  let a := (F.fchCtrl_enable channel).addr
  rowGate s master a true fun s =>
    let s := setF (clrF s (F.fchCtrl_enable channel)) (F.fchStat_state channel) 6
    channelRest (forEach (diesOfChannel channel) s drainDie) channel

end Sys2Proof.Machine
end

