-- ==== Sys2Proof/Machine/SecBase.lean ====
section
/-!
DEFINITION. What the security core computes: derived keys (R424), image checks (R426, R427), the boot record (R581), profile checks (R582 to
R584), key import (R433 to R435) and the system slots (R436).
-/

namespace Sys2Proof.Machine

open Sys2Proof

/-- The hashes held in ROM: of the manufacturing key (item 0x600) and of the manufacturing debug key (item 0x601) (R427, R442). -/
def romHash (item : Nat) : List Byte := bytesAt (Config.standardBytes item 0) 0 32

/-- A key of the key derivation unit (R424): HKDF over SHA-384 with salt DEV_UID, input UDS and the label. Log 24 (DEDUCED). -/
def deriveKey (s : State) (label : List Byte) (n : Nat) : List Byte := hkdf384 (beBytes 8 s.otp.devUid.toNat) (beBytes 32 s.otp.uds.toNat) label n

/-- IMPORT_KP's private key (R424). Log 24 (DEDUCED). -/
def importPrivate (s : State) : Nat := ecPrivate p384 (deriveKey s (ascii "IMPORT") 56)

/-- The alias private key of a curve (R424, R431). Log 24 (DEDUCED). -/
def aliasPrivate (s : State) (curve384 : Bool) : Nat :=
  if curve384 then ecPrivate p384 (deriveKey s (ascii "ALIAS384" ++ s.sec.secDigest) 56)
  else ecPrivate p256 (deriveKey s (ascii "ALIAS256" ++ s.sec.secDigest) 40)

/-- LENGTH of an image header (R426). -/
def imageLen (img : List Byte) : Nat := leAt img 0x08 4

/-- An image's body. -/
def imageBody (img : List Byte) : List Byte := bytesAt img 0x100 (imageLen img)

/-- SVN, FLAGS and KEY_IDX of an image header. -/
def imageSvn (img : List Byte) : Nat := leAt img 0x07 1
def imageFlags (img : List Byte) : Nat := leAt img 0x06 1
def imageKeyIdx (img : List Byte) : Nat := leAt img 0x05 1

/-- The greatest body of an image type (R426, R587). Log 103 (DEDUCED). -/
def imageLimit (ty : Nat) : Nat := if ty = 1 then 8 * 2 ^ 20 else if ty = 2 then 256 * 2 ^ 20 else 65536 - 256

/-- Check 1 of R427: the header's form. -/
def imageForm (ty : Nat) (img : List Byte) : Bool :=
  leAt img 0 4 == 0x64085349 && leAt img 4 1 == ty && decide (imageKeyIdx img ≤ 3 ∧ imageSvn img ≤ 64) && field (imageFlags img) 3 1 == 0 &&
  decide (imageLen img ≠ 0 ∧ imageLen img ≤ imageLimit ty ∧ 0x100 + imageLen img ≤ img.length) && allZero (bytesAt img 0x0C 4) && allZero (bytesAt img 0xB0 80)

/-- Check 2 of R427: the key is the manufacturing key in BLANK, else a root key that is programmed and not revoked. -/
def keyTrusted (s : State) (idx : Nat) (pub : List Byte) : Bool :=
  if lifecycle s = 0 then sha256 pub == romHash 0x600
  else match s.otp.rootHash[idx]? with
    | some (some h) => !bitAt s.otp.revoke idx && sha256 pub == beBytes 32 h.toNat
    | _ => false

/-- The checks of R427, in their order, on an image of a type. -/
def imageGood (s : State) (ty : Nat) (img : List Byte) : Bool :=
  let pub := bytesAt img 0x30 64
  imageForm ty img && keyTrusted s (imageKeyIdx img) pub && !bitAt (field (imageFlags img) 7 4) (imageKeyIdx img) &&
    ecdsaVerify p256 pub (sha256 (bytesAt img 0 0x70)) (bytesAt img 0x70 64) && decide (s.otp.arb ≤ imageSvn img) &&
    sha256 (imageBody img) == bytesAt img 0x10 32

/-- Bytes 0x00 to 0x0B of a boot record (R581). Log 100 (DEDUCED). -/
def recordBytes (r : BootRecord) : List Byte :=
  leBytes 4 r.magic.toNat ++ leBytes 4 r.seq ++ leBytes 1 (r.activeSlot % 4) ++ leBytes 1 (r.nextProfile % 4 + 128 * b2n r.nextValid) ++
    leBytes 1 (r.lastProfile % 4) ++ leBytes 1 0xFF

/-- A boot record's CRC matches. Log 100 (DEDUCED). -/
def recordGood (r : BootRecord) : Bool := r.crc == crc32c (recordBytes r)

/-- The copy in use: true where it is copy A (R581). -/
def recordInA (s : State) : Bool :=
  recordGood s.nor.recA && (!recordGood s.nor.recB || decide (s.nor.recB.seq ≤ s.nor.recA.seq))

/-- The record ROM takes: the copy in use, or slot 1, no override and the strap's profile where neither qualifies (R581). -/
def bootRecord (s : State) : BootRecord :=
  if recordInA s then s.nor.recA
  else if recordGood s.nor.recB then s.nor.recB
  else ⟨0x64084252, 0, 1, 0, false, s.straps.profileSel, 0⟩

/-- Update the boot record: the other copy is written with SEQ + 1 (R581). -/
def updateRecord (s : State) (g : BootRecord → BootRecord) : State :=
  let r := g (bootRecord s)
  let r := { r with magic := 0x64084252, seq := (r.seq + 1) % 2 ^ 32 }
  let r := { r with crc := crc32c (recordBytes r) }
  if recordInA s then { s with nor := { s.nor with recB := r } } else { s with nor := { s.nor with recA := r } }

/-- A firmware slot of the SPI NOR; empty where erased. -/
def fwSlotOf (s : State) (k : Nat) : FwSlot := spGet ⟨[], []⟩ s.nor.slots k

/-- The greatest management image a slot holds, L − 9 MiB (R580): 6 MiB in a flash of 32 MiB, and half of what the flash has beyond. Log 102 (DESIGN CHOICE). -/
def mgmtRoom : Nat := (6 + (Config.norMib - 32) / 2) * 2 ^ 20

/-- A management image fits its slot. What fits the smallest flash fits every flash. Log 102 (DESIGN CHOICE). -/
def mgmtFits (n : Nat) : Bool := decide (n ≤ 6 * 2 ^ 20) || decide (n ≤ mgmtRoom)

/-- Both images of a slot pass R427 (R428). -/
def fwSlotGood (s : State) (x : FwSlot) : Bool :=
  imageGood s 1 x.security && imageGood s 2 x.management && mgmtFits (0x100 + imageLen x.management)

/-- The registers a profile may write (R583). -/
def profileRegs : List String :=
  ["SCH_CINCH", "SCH_RESERVE", "SCH_SUSPEND", "SCH_FAIR", "SCH_LADDER_EST", "RCH_SYNC", "RCH_TRACK", "RCH_BRACKET", "RCH_LLR", "RCH_TTAB", "RCH_LDPC",
   "MHM_THRESH", "MHM_SCAN", "MHM_COLD", "MHM_OFFEST", "ZRS_PAD_MARGIN", "MEP_INTEG_CTRL", "SBG_POOL_CFG", "SBG_ACC", "DMC_PAGE", "DMC_SCHED", "DMC_REFRESH",
   "DMC_TRACK", "FCH_CTRL", "PMU_CFG", "RST_LRS", "SLK_CTRL"]

/-- A profile write names a register of R583, with bit 63 matching its width. -/
def profileAddrOk (w : List Byte) : Bool :=
  let a := leAt w 0 8
  match regAt (a % 2 ^ 40) with
  | some (d, _) => profileRegs.contains d.name && field a 62 40 == 0 && d.wide == bitAt a 63
  | none => false

/-- The register writes of a profile body (R582). -/
def profileWrites (body : List Byte) : List (List Byte) := (List.range (leAt body 8 2)).map fun i => bytesAt body (0x900 + 16 * i) 16

/-- The descriptors of a profile body (R582). -/
def profileDescs (body : List Byte) : List (List Byte) := (List.range (leAt body 6 1)).map fun i => bytesAt body (0x100 + 256 * i) 256

/-- A profile image is valid for profile k (R584). -/
def profileGood (s : State) (k : Nat) (img : List Byte) : Bool :=
  let b := imageBody img
  let tiers := leAt b 5 1
  let descs := leAt b 6 1
  imageGood s 3 img && leAt b 0 4 == 0x64085052 && leAt b 4 1 == k && decide (tiers ≠ 0 ∧ tiers < 8 ∧ descs ≤ 8 ∧ leAt b 8 2 ≤ 256) &&
    imageLen img == 0x900 + 16 * leAt b 8 2 && (profileDescs b).all (fun d => bytesCrcGood d && bytesFit d) &&
    allZero (bytesAt b (0x100 + 256 * descs) (256 * (8 - descs))) && (profileWrites b).all profileAddrOk &&
    allZero (bytesAt b 7 1) && allZero (bytesAt b 0x0A 2) && allZero (bytesAt b 0x1C 4) && allZero (bytesAt b 0x60 160)

/-- The stored image of profile k; empty where its region is erased. -/
def profileImage (s : State) (k : Nat) : List Byte := spGet [] s.nor.profiles k

/-- Fill TKR_DATA (R422). -/
def loadTkr (s : State) (bs : List Byte) : State := forEach (List.range 10) s fun s i => setF s (F.tkrData_word i) (leAt bs (4 * i) 4)

/-- A command of the security core to the Tack Room and its RESULT; none where TKR is busy, or the command waits for a retired register. -/
def tkrDo (s : State) (op k w : Nat) (data : List Byte) : Option (Nat × State) :=
  if flag s F.tkrCmd_go then none
  else
    let s := tkrCommand (loadTkr s data) idSec op k w 0 false
    if flag s F.tkrCmd_go then none else some (getF s F.tkrStat_result, s)

/-- The KEK of an import (R435 steps 1 and 2): none where EPH is not on the curve. -/
def importKek (s : State) (purpose target : Nat) (eph : List Byte) : Option (List Byte) :=
  (ecdh p384 (importPrivate s) eph).map fun z =>
    hkdf384 (beBytes 8 s.otp.devUid.toNat) z (ascii "EY6408-IMPORT" ++ leBytes 1 purpose ++ leBytes 2 target) 32

/-- Steps 3 to 5 of R435: the RESULT of the UNWRAP, or of the WRITE where that fails; none where TKR makes the import wait. -/
def runImport (s : State) (kek : List Byte) (slot : Nat) (wrapped : List Byte) : Option (Nat × State) :=
  match tkrDo s 1 slotImport 0 kek with
  | none => none
  | some (r, s) =>
    if r ≠ 0 ∧ r ≠ 7 then some (r, s)
    else match tkrDo s 2 slot slotImport wrapped with
      | none => none
      | some (r, s) => (tkrDo s 5 slotImport 0 []).map fun x => (r, x.2)

/-- The form of an import payload (R434): FORMAT, reserved bytes. -/
def importForm (p : List Byte) : Bool := leAt p 0 1 == 1 && allZero (bytesAt p 1 3) && allZero (bytesAt p 8 8)

/-- EPH and WRAPPED of an import payload. -/
def importEph (p : List Byte) : List Byte := bytesAt p 0x10 96
def importWrapped (p : List Byte) : List Byte := bytesAt p 0x70 40

/-- EPH lies on P-384. -/
def ephOnCurve (p : List Byte) : Bool := onCurve p384 (ofBe (bytesAt p 0x10 48)) (ofBe (bytesAt p 0x40 48))

/-- A TKR command run for its effect alone. Log 92 (DEDUCED). -/
def tkrJust (s : State) (op k w : Nat) (data : List Byte) : State := match tkrDo s op k w data with | some x => x.2 | none => s

/-- A stored migration key payload verifies (R436). -/
def migKeyGood (s : State) : Bool :=
  decide (s.nor.migKey.length = 156) && leAt s.nor.migKey 152 4 == (crc32c (s.nor.migKey.take 152)).toNat

/-- The migration key at a fill (R436): from the stored payload, else GENERATE. In BLANK no key is derived (R424). -/
def fillMigration (s : State) : State :=
  let p := s.nor.migKey.take 152
  match (if migKeyGood s && lifecycle s != 0 then importKek s 2 0xFFFF (importEph p) else none) with
  | none => tkrJust s 5 slotMigration 0 []
  | some kek =>
    match runImport s kek slotMigration (importWrapped p) with
    | some (0, s) | some (7, s) => s
    | some (_, s) => tkrJust s 5 slotMigration 0 []
    | none => s

/-- JOURNAL at a fill (R424, R436): a fresh value in BLANK, "JOURNAL1" in RETIRED, else "JOURNAL0". -/
def fillJournal (s : State) : State :=
  let put := fun (s : State) (v : BitVec 256) => { s with tkr := { s.tkr with slots := spPut s.tkr.slots slotJournal v } }
  if lifecycle s = 0 then
    let (r, s) := draw s
    put s (BitVec.ofNat 256 r)
  else put s (keyOf (deriveKey s (ascii (if lifecycle s = 3 then "JOURNAL1" else "JOURNAL0")) 32))

/-- CTX_WRAP takes a new value, and every PARK_COUNT is 0 (R401, R403, R408). -/
def renewCtxWrap (s : State) : State :=
  let (r, s) := draw s
  { s with
    tkr := { s.tkr with slots := spPut s.tkr.slots slotCtxWrap (BitVec.ofNat 256 r) },
    cph := { s.cph with parkClock := 0, ctxs := spMap s.cph.ctxs fun _ c => { c with tkrCount := 0 } } }

/-- The security core fills the system slots (R436). -/
def fillSystemSlots (s : State) : State :=
  fillMigration (tkrJust (fillJournal (renewCtxWrap s)) 5 slotImport 0 [])

/-- The matrix of R449 forbids a tenant import. -/
def importForbidden (s : State) : Bool := lifecycle s == 0 || tenantLocked s

/-- Cores that the port held run again (R445): the LRS awaits their heartbeats from now on. -/
def resumeCores (s : State) (p : Nat → Bool) : State :=
  let back := s.dbg.halted.filter p
  { s with
    dbg := { s.dbg with halted := s.dbg.halted.filter fun m => !p m },
    lrs := { s.lrs with beats := (List.range 8).map fun c => if back.contains (idMc c) then s.clk.us else listAt 0 s.lrs.beats c } }

/-- LEVEL becomes CLOSED (R442, R444), and the cores the port held resume (R445). -/
def closeLevel (s : State) : State := clrF (resumeCores s fun _ => true) F.dbgUnlock_level

/-- Blow fuses; a failed read-back raises OTP_FAULT (R429, R439). -/
def blow (s : State) (ok : Bool) (g : Otp → Otp) : State := if ok then { s with otp := g s.otp } else applyAlarm s 6

/-- A move into DEPLOYED raises every alarm action to its floor (R447). -/
def alarmFloor (src : Nat) : Nat := listAt 0 [2, 2, 1, 0, 3, 1, 3, 2] src

/-- The action a field of SEC_ALARM_ACT takes when written: never below the floor of the lifecycle state (R447). -/
def raisedAction (lc src v : Nat) : Nat := if lc = 2 then max v (alarmFloor src) else v

/-- The eight 2-bit actions raised to their floors. Log 52, 88 (DEDUCED). -/
def raiseActions (lc w : Nat) : Nat :=
  (List.range 8).foldl (fun a i => a + (if i = 4 then 3 else raisedAction lc i (field w (2 * i + 1) (2 * i))) * 4 ^ i) 0

/-- The low 16 bits of SEC_ALARM_ACT take new actions. -/
def putActions (s : State) (w : Nat) : State :=
  setReg s F.secAlarmAct_lock.addr (putField (regVal s F.secAlarmAct_lock.addr) 15 0 (raiseActions (lifecycle s) w))

/-- The records of the journal's programmed pages cannot be read any more (R440). -/
def dropRecords (s : State) : State := { s with jrn := { s.jrn with zones := [], nss := [], term := 0, removed := 0, stamp := none } }

/-- A lifecycle transition of R438 by its command (R439, R440, R444, R447): the fuse is blown and read back. -/
def enterLifecycle (s : State) (target : Nat) : State :=
  if target = 2 then
    let s := closeLevel { s with otp := { s.otp with lc := s.otp.lc ||| 2 } }
    putActions s (regNat s F.secAlarmAct_lock.addr)
  else
    let s := closeLevel { s with otp := { s.otp with lc := s.otp.lc ||| 4 } }
    fillJournal (dropRecords (eraseAll s))

end Sys2Proof.Machine
end

