-- ==== Sys2Proof/Machine/SecRows.lean ====
section
/-!
DEFINITION. Security Send and Security Receive (R433 to R435, R439, R561, R587), Firmware Image Download and Firmware Commit (R430), and the alarms
(R446 to R448, R454).
-/

namespace Sys2Proof.Machine

open Sys2Proof

/-- What a security command answers: none while it must wait, else its status and the bytes it returns. -/
abbrev SecAnswer : Type := Option (State × Status × List Byte)

/-- An answer without data. -/
def secEnds (s : State) (st : Status) : SecAnswer := some (s, st, [])

/-- The status of an import whose UNWRAP ended with a RESULT (R435). Log 99 (DEDUCED). -/
def importStatus (r : Nat) : Status := if r = 0 ∨ r = 7 then .success else .accessDenied

/-- Tenant key import (R434, R435): `len` the transfer length, `tenant` the namespace the payload's NSID resolves to. -/
def importAct (s : State) (len : Nat) (p : List Byte) (tenant : Option Nat) : SecAnswer :=
  if len ≠ 152 ∨ importForm p = false ∨ ephOnCurve p = false then secEnds s .invalidField
  else match tenant with
    | none => secEnds s .invalidNamespace
    | some nsid =>
      if importForbidden s then secEnds s .accessDenied
      else match importKek s 1 (nsid - 1) (importEph p) with
        | none => secEnds s .invalidField
        | some kek => (runImport s kek (nsid - 1) (importWrapped p)).map fun x => (x.2, importStatus x.1, [])

/-- The migration key (R434 to R436): the payload is stored with its CRC-32C once it is in place. Log 99 (DEDUCED). -/
def migrationAct (s : State) (len : Nat) (p : List Byte) (pf : Bool) : SecAnswer :=
  if len ≠ 152 ∨ importForm p = false ∨ ephOnCurve p = false ∨ pf = false ∨ leAt p 4 4 ≠ 0 then secEnds s .invalidField
  else if lifecycle s = 0 then secEnds s .accessDenied
  else match importKek s 2 0xFFFF (importEph p) with
    | none => secEnds s .invalidField
    | some kek =>
      (runImport s kek slotMigration (importWrapped p)).map fun x =>
        let s := x.2
        if importStatus x.1 = .success then
          ({ s with nor := { s.nor with migKey := p ++ leBytes 4 (crc32c p).toNat } }, .success, [])
        else (s, .accessDenied, [])

/-- A transition that the lifecycle command may make (R438). Log 98 (DEDUCED). -/
def lifecycleStep (now target : Nat) : Bool := (now == 1 && (target == 2 || target == 3)) || (now == 2 && target == 3)

/-- The nonce in force: issued less than 60 s ago (R439). Log 98 (DEDUCED). -/
def nonceNow (s : State) : Option (List Byte) :=
  match s.sec.nonce with
  | some (n, at_) => if s.clk.us < at_ + 60000000 then some n else none
  | none => none

/-- The lifecycle command (R439, R440): the nonce is consumed either way. Log 98 (DEDUCED). -/
def lifecycleAct (s : State) (len : Nat) (p : List Byte) (pf readBackFails : Bool) : SecAnswer :=
  let nonce := nonceNow s
  let target := leAt p 0 1
  let idx := leAt p 1 1
  let pub := bytesAt p 0x30 64
  if pf = false then secEnds s .invalidField
  else
    let s := { s with sec := { s.sec with nonce := none } }
    if getF s F.dbgUnlock_level ≠ 0 then secEnds s .commandSequenceError
    else if len ≠ 176 ∨ 4 ≤ target ∨ allZero (bytesAt p 2 6) = false ∨ lifecycleStep (lifecycle s) target = false ∨
      bytesAt p 8 8 ≠ beBytes 8 s.otp.devUid.toNat ∨ nonce ≠ some (bytesAt p 0x10 32) then secEnds s .invalidField
    else if keyTrusted s idx pub = false ∨ ecdsaVerify p256 pub (sha256 (bytesAt p 0 0x30)) (bytesAt p 0x70 64) = false then secEnds s .accessDenied
    else if readBackFails then secEnds (applyAlarm s 6) .internalError
    else secEnds (enterLifecycle s target) .success

/-- A profile write (R587). -/
def profileAct (s : State) (img : List Byte) (pf : Bool) : SecAnswer :=
  let k := leAt (imageBody img) 4 1
  if pf = false then secEnds s .invalidField
  else if 65536 < img.length ∨ 3 < k ∨ profileGood s k img = false then secEnds s .invalidFirmwareImage
  else if k = (bootRecord s).lastProfile then secEnds s .commandSequenceError
  else if lifecycle s = 3 then secEnds s .accessDenied
  else
    let s := { s with nor := { s.nor with profiles := spSet [] s.nor.profiles k img } }
    secEnds (setFBit s F.prfStat_validMap k) .success

/-- The import key with its certificate (R433); in BLANK no key exists, and the bytes are free. Log 207 (DESIGN CHOICE). -/
def importKeyAct (s : State) : SecAnswer :=
  let cert := (Config.standardBytes 0x610 s.sec.aliasSerial).take 1024
  if lifecycle s = 0 then
    let (bs, s) := drawBytes s 100
    some (s, .success, bs)
  else some (s, .success, ecPublic p384 (importPrivate s) ++ leBytes 4 cert.length ++ cert)

/-- A fresh lifecycle nonce (R439). -/
def nonceAct (s : State) : SecAnswer :=
  let (n, s) := drawBytes s 32
  some ({ s with sec := { s.sec with nonce := some (n, s.clk.us) } }, .success, n)

/-- The certificate chain of a slot (R431): the root CA, ID and alias certificates. Log 23 (DESIGN CHOICE). -/
def certChain (s : State) (slot : Nat) : List Byte := Config.standardBytes (0x620 + slot) s.sec.aliasSerial

/-- The slot 0 chain (R561). -/
def chainAct (s : State) : SecAnswer := some (s, .success, certChain s 0)

/-- The device a security command addresses by NSSF (R561): none for a value that is not served, else none for this one, or the peer. -/
def secTarget (s : State) (q : Sqe) : Option (Option Nat) :=
  if nssf q = 0 then some none
  else if standalone s = true ∨ nssf q < 0x10 ∨ 0x1F < nssf q then none
  else if nssf q - 0x10 = devId s then some none
  else some (some (nssf q - 0x10))

/-- The body of an ADMIN that carries a security command (R561): kind 2, the function's kind, the namespace it resolves to, the entry, the data. -/
def adminSecurity (c : CmdSlot) (nsid : Nat) (data : List Byte) : List Byte :=
  leBytes 1 2 ++ leBytes 1 (b2n (c.func == 0)) ++ leBytes 4 nsid ++ sqeBytes c.sqe ++ data

/-- Serve a security command of an opcode and SP Specific, here or at the device it addresses. Log 97 (DEDUCED). -/
def securityRow (s : State) (n o sp : Nat) (nsid : Nat) (data : List Byte) (act : State → CmdSlot → SecAnswer) : State :=
  withFetched s n (fun c => isAdmin o c && secp c.sqe == 0xEA && spsp c.sqe == sp) fun c =>
    match secTarget s c.sqe with
    | none => finish s n .invalidField
    | some none =>
      (match act s c with
      | none => s
      | some (s, st, bs) => finish (if o = 0x82 ∧ st = .success then hostData s c (bs.take (secLen c.sqe)) else s) n st)
    | some (some d) =>
      match (peerOf s d).cond with
      | .live => sendAdmin (putSlot s n { c with kind := .admin, phase := .waitMembers }) n [d] (adminSecurity c nsid data)
      | .departed => wakePeer s d
      | _ => finish s n .cascadeMemberLost

/-- The namespace an import payload names for a function (R434): by NSID on the PF, its own as 1 on a VF. -/
def importNs (s : State) (f : Nat) (p : List Byte) : Option Nat := (nsOf s f (leAt p 4 4)).map (·.1)

/-- R434, R435: tenant key import; `data` is the host's payload. -/
def onSecuritySendKeyImport (slot : Nat) (data : List Byte) (s : State) : State :=
  let ns := match slotOf s slot with | some c => importNs s c.func data | none => none
  securityRow s slot 0x81 1 (ns.getD 0) data fun s c => importAct s (secLen c.sqe) (bytesAt data 0 152) ns

/-- R434, R436: the migration key. -/
def onSecuritySendMigrationKey (slot : Nat) (data : List Byte) (s : State) : State :=
  securityRow s slot 0x81 2 0 data fun s c => migrationAct s (secLen c.sqe) (bytesAt data 0 152) (c.func == 0)

/-- R439, R440: the lifecycle command; `readBackFails` says that the blown fuse does not read back. -/
def onLifecycleCommand (slot : Nat) (data : List Byte) (readBackFails : Bool) (s : State) : State :=
  securityRow s slot 0x81 3 0 data fun s c => lifecycleAct s (secLen c.sqe) (bytesAt data 0 176) (c.func == 0) readBackFails

/-- R587: a profile image. -/
def onSecuritySendProfileWrite (slot : Nat) (data : List Byte) (s : State) : State :=
  securityRow s slot 0x81 5 0 data fun s c => profileAct s (data.take (secLen c.sqe)) (c.func == 0)

/-- R433: the import key. -/
def onSecurityReceiveImportKey (slot : Nat) (s : State) : State := securityRow s slot 0x82 1 0 [] fun s _ => importKeyAct s

/-- R439: the lifecycle nonce. -/
def onSecurityReceiveNonce (slot : Nat) (s : State) : State := securityRow s slot 0x82 3 0 [] fun s _ => nonceAct s

/-- R561: the slot 0 certificate chain. -/
def onSecurityReceiveCertChain (slot : Nat) (s : State) : State := securityRow s slot 0x82 4 0 [] fun s _ => chainAct s

/-- A member serves a security command its leader forwards (R561). -/
def securityHere (s : State) (q : Sqe) (pf : Bool) (nsid : Nat) (data : List Byte) : SecAnswer :=
  match opc q, spsp q with
  | 0x81, 1 => importAct s (secLen q) (bytesAt data 0 152) (if nsid = 0 then none else some nsid)
  | 0x81, 2 => migrationAct s (secLen q) (bytesAt data 0 152) pf
  | 0x81, 3 => lifecycleAct s (secLen q) (bytesAt data 0 176) pf false
  | 0x81, 5 => profileAct s (data.take (secLen q)) pf
  | 0x82, 1 => importKeyAct s
  | 0x82, 3 => nonceAct s
  | 0x82, 4 => chainAct s
  | _, _ => secEnds s .invalidField

/-- R439: the nonce is 60 s old. -/
def onLifecycleNonceExpiry (s : State) : State :=
  match s.sec.nonce with
  | some (_, at_) =>
    let s := advanceTo s (at_ + 60000000)
    { s with sec := { s.sec with nonce := none } }
  | none => s

/-- R430: a part of a package arrives; `data` is what the host transfers. -/
def onFirmwareImageDownload (slot : Nat) (data : List Byte) (s : State) : State :=
  withFetched s slot (isAdmin 0x11) fun c =>
    let off := 4 * dw11 c.sqe
    let bs := bytesAt data 0 (4 * fwDwords c.sqe)
    let buf := s.hif.fwBuffer
    finish { s with hif := { s.hif with fwBuffer := bytesAt buf 0 off ++ bs ++ buf.drop (off + bs.length) } } slot .success

/-- The firmware slot the device booted from: 1 or 2 (R452). -/
def bootedSlot (s : State) : Nat := getF s F.secLc_bootSlot + 1

/-- A package as a slot holds it (R430): the security image, then the management image. -/
def packageSlot (pkg : List Byte) : FwSlot := ⟨pkg.take (0x100 + imageLen pkg), pkg.drop (0x100 + imageLen pkg)⟩

/-- R430: Firmware Commit. -/
def onFirmwareCommit (slot : Nat) (s : State) : State :=
  withFetched s slot (isAdmin 0x10) fun c =>
    let k := fwSlot c.sqe
    let a := fwAction c.sqe
    let x := if a = 2 then fwSlotOf s k else packageSlot s.hif.fwBuffer
    if k = 0 ∨ 2 < k ∨ k = bootedSlot s then finish s slot .invalidFirmwareSlot
    else if 3 ≤ a then finish s slot .invalidField
    else if fwSlotGood s x = false then finish s slot .invalidFirmwareImage
    else
      let s := if a = 2 then s
        else { s with nor := { s.nor with slots := spSet ⟨[], []⟩ s.nor.slots k x }, hif := { s.hif with fwBuffer := [] } }
      let s := if a = 0 then s else updateRecord s fun r => { r with activeSlot := k }
      finish s slot .success

/-- R446, R447, R448: an alarm source fires, its condition present, or its condition ends; at its watchdog's expiry the security core restarts (R470). Log 52 (DEDUCED). -/
def onAlarmDetect (source : Nat) (present : Bool) (s : State) : State :=
  if 8 ≤ source then s
  else if present then
    let s := applyAlarm (setFBit s F.secAlarmStat_active source) source
    if source = 7 then mbxInterrupts (resetParties s [idSec]) [idSec] else s
  else clrFBit s F.secAlarmStat_active source

/-- An erase source is active, or an ERASE_ALL was seen: ALARM_LOCK stays (R448). -/
def lockHeld (s : State) : Bool :=
  flag s F.secAlarmStat_allSeen || (List.range 8).any fun i => bitAt (getF s F.secAlarmStat_active) i && decide (2 ≤ alarmAction s i)

/-- R409, R448: a write of 1 to TKR_STAT.ALARM_LOCK. -/
def onAlarmLockClear (master : Nat) (s : State) : State :=
  let addr := F.tkrStat_alarmLock.addr
  rowGate s master addr true fun s =>
  if master ≠ idSec then refuse (tkrFault s F.tkrErr_refused 0 master) master addr
  else if lockHeld s then s
  else clrF s F.tkrStat_alarmLock

/-- R447, R454: a write of SEC_ALARM_ACT: the actions, raised to their floors, and LOCK. -/
def onSecAlarmActWrite (master : Nat) (value : DWord) (s : State) : State :=
  let addr := F.secAlarmAct_lock.addr
  rowGate s master addr true fun s =>
  if master ≠ idSec then refuse s master addr
  else
    let s := if flag s F.secAlarmAct_lock then s else putActions s value.toNat
    if value.getLsbD 31 then setBit s F.secAlarmAct_lock else s

end Sys2Proof.Machine
end

