-- ==== Sys2Proof/Machine/Respond.lean ====
section
/-!
DEFINITION. The responders: SPDM (R88, R122, R431, R432), NVMe-MI (R120) and the MCTP front end (R121). What the published standards give
(message codes, error codes, capability fields, transcripts) is named by number here, and bytes the spec does not state are free.
-/

namespace Sys2Proof.Machine

open Sys2Proof

/-- A responder that has seen nothing. -/
def noSpdm : Spdm := ⟨false, false, false, 0, false, false, none, [], [], [], 0⟩

/-- The responder of a transport. -/
def spdmOf (s : State) (t : Nat) : Spdm := spGet noSpdm s.spdm t

/-- Replace it. -/
def putSpdm (s : State) (t : Nat) (x : Spdm) : State := { s with spdm := spSet noSpdm s.spdm t x }

/-- The transports: 0 the PF's DOE mailbox, 1 MCTP. -/
def overMctp (t : Nat) : Bool := t == 1

/-- The responder runs: PD_MGMT and PD_SEC are on (R121, R450). -/
def responderRuns (s : State) : Bool := domainOn s .mgmt && domainOn s .sec

/-- An SPDM ERROR with its code. -/
def spdmError (s : State) (code : Nat) : State := emit s (.spdm 0x7F [(0, leBytes 1 code)])

/-- Error codes of SPDM. -/
def errInvalid : Nat := 0x01
def errSession : Nat := 0x02
def errUnexpected : Nat := 0x04
def errDecrypt : Nat := 0x06
def errUnsupported : Nat := 0x07
def errLarge : Nat := 0x0F

/-- Send a response; one longer than the requester's transfer size is kept for chunked transfer (R122). Log 106 (PRESUMED). -/
def respondSpdm (s : State) (t code : Nat) (fields : List (Nat × List Byte)) : State :=
  let x := spdmOf s t
  let all := fields.flatMap fun (f : Nat × List Byte) => f.2
  if x.transfer ≠ 0 ∧ x.transfer < all.length then spdmError (putSpdm s t { x with chunks := all, chunkSeq := 0 }) errLarge
  else emit s (.spdm code fields)

/-- Serve a request that needs the connection to have come so far. -/
def withSpdm (s : State) (t : Nat) (need : Spdm → Bool) (f : Spdm → State) : State :=
  if !responderRuns s || decide (1 < t) then s
  else if need (spdmOf s t) then f (spdmOf s t)
  else spdmError s errUnexpected

/-- The hash negotiated. -/
def spdmHash (x : Spdm) (bs : List Byte) : List Byte := if x.hash384 then sha384 bs else sha256 bs

/-- The MAC over the hash negotiated, and its size in bytes. -/
def spdmMac (x : Spdm) (key msg : List Byte) : List Byte := if x.hash384 then hmac384 key msg else hmac256 key msg
def spdmSize (x : Spdm) : Nat := if x.hash384 then 48 else 32

/-- A curve: P-384 or P-256. -/
def curveOf (wide : Bool) : Curve := if wide then p384 else p256

/-- The curve negotiated. -/
def spdmCurve (x : Spdm) : Curve := curveOf x.curve384

/-- A message of version 1.2: its code, and its content as the model has it. -/
def spdmMsg (code : Nat) (fields : List (Nat × List Byte)) : List Byte :=
  [0x12#8, BitVec.ofNat 8 code] ++ fields.flatMap fun (f : Nat × List Byte) => f.2

/-- The transcript goes on with messages. -/
def Spdm.note (x : Spdm) (bs : List Byte) : Spdm := { x with script := x.script ++ bs }

/-- Respond to a request, both kept in the transcript of the connection. -/
def answerSpdm (s : State) (t : Nat) (x : Spdm) (req : List Byte) (code : Nat) (fields : List (Nat × List Byte)) : State :=
  respondSpdm (putSpdm s t (x.note (req ++ spdmMsg code fields))) t code fields

/-- Sign with the alias key of the negotiated curve (R431): the hash of the transcript with `more`, under the context of the message. The per-signature number is
free. In BLANK there is no key, and the signature is free (R424). Log 106 (PRESUMED). -/
def spdmSign (s : State) (x : Spdm) (context : String) (more : List Byte) : List Byte × State :=
  let label := ascii context
  let v := ascii "dmtf-spdm-v1.2.*"
  let h := spdmHash x (v ++ v ++ v ++ v ++ List.replicate (36 - label.length) 0 ++ label ++ spdmHash x (x.script ++ more))
  if lifecycle s = 0 then drawBytes s (if x.curve384 then 96 else 64)
  else
    let (k, s) := draw s
    let c := spdmCurve x
    (ecdsaSign c (aliasPrivate s x.curve384) (k % (c.n - 1) + 1) h, s)

/-- R122: GET_VERSION: the connection begins anew, and version 1.2 is offered. -/
def onGetVersion (transport : Nat) (s : State) : State :=
  withSpdm s transport (fun _ => true) fun _ => answerSpdm s transport { noSpdm with version := true } (spdmMsg 0x84 []) 0x04 [(0, [0x12#8])]

/-- The capability flags: certificates, challenge, signed measurements, encryption and MAC of messages, key exchange, chunked transfer, an alias certificate; no
PSK, no mutual authentication (R122, R431). Log 106 (PRESUMED). -/
def spdmFlags : Nat := 2 + 4 + 16 + 64 + 128 + 512 + 2 ^ 17 + 2 ^ 18

/-- R122: GET_CAPABILITIES; `transfer` is the requester's transfer size, 0 without a limit. -/
def onGetCapabilities (transport transfer : Nat) (s : State) : State :=
  withSpdm s transport (fun x => x.version) fun x =>
    answerSpdm s transport { x with capabilities := true, transfer := transfer } (spdmMsg 0xE1 [(0, leBytes 4 transfer)]) 0x61
      [(0, leBytes 4 spdmFlags), (1, Config.standardBytes 0x630 0)]

/-- A choice among the two algorithms of a mask (bit 0 the smaller, bit 1 the larger): free where both are offered; none where neither is. Log 106 (PRESUMED). -/
def chooseAlg (s : State) (mask : Nat) : Option Bool × State :=
  if bitAt mask 0 && bitAt mask 1 then
    let (r, s) := draw s
    (some (r % 2 == 1), s)
  else (if bitAt mask 1 then some true else if bitAt mask 0 then some false else none, s)

/-- R122: NEGOTIATE_ALGORITHMS: `curves`, `hashes` and `groups` are the requester's offers for signing, hashing and key exchange, `aead` that of AES-256-GCM;
without the last two no session is possible. Log 106 (PRESUMED). -/
def onNegotiateAlgorithms (transport curves hashes groups : Nat) (aead : Bool) (s : State) : State :=
  withSpdm s transport (fun x => x.capabilities) fun x =>
    let (c, s) := chooseAlg s curves
    let (h, s) := chooseAlg s hashes
    let (g, s) := if aead then chooseAlg s groups else (none, s)
    let offer := fun (n : Nat) => leBytes 1 (n % 4)
    match c, h with
    | some c, some h =>
      answerSpdm s transport { x with negotiated := true, curve384 := c, hash384 := h, dhe384 := g }
        (spdmMsg 0xE3 [(0, offer curves), (1, offer hashes), (2, offer groups), (3, leBytes 1 (b2n aead))]) 0x63
        [(0, leBytes 1 (b2n c)), (1, leBytes 1 (b2n h)), (2, leBytes 1 (match g with | some g => 1 + b2n g | none => 0)), (3, leBytes 1 (b2n g.isSome))]
    | _, _ => spdmError s errInvalid

/-- R122, R431: GET_DIGESTS: slots 0 and 1. -/
def onGetDigests (transport : Nat) (s : State) : State :=
  withSpdm s transport (fun x => x.negotiated) fun x =>
    answerSpdm s transport x (spdmMsg 0x81 []) 0x01 [(0, [0x03#8]), (1, spdmHash x (certChain s 0)), (2, spdmHash x (certChain s 1))]

/-- R122, R431: GET_CERTIFICATE: a part of a slot's chain. -/
def onGetCertificate (transport slot offset length : Nat) (s : State) : State :=
  withSpdm s transport (fun x => x.negotiated) fun x =>
    let c := certChain s slot
    if 1 < slot ∨ c.length < offset then spdmError s errInvalid
    else
      let part := (c.drop offset).take length
      answerSpdm s transport x (spdmMsg 0x82 [(0, leBytes 1 slot), (1, leBytes 2 offset), (2, leBytes 2 length)]) 0x02 [(0, [BitVec.ofNat 8 slot]), (1, leBytes 2 part.length), (2, leBytes 2 (c.length - offset - part.length)), (3, part)]

/-- The measured contents of an index, raw (R432): digests are taken with the negotiated hash; 6 and 7 are the values now. -/
def measurement (s : State) (x : Spdm) (i : Nat) : List Byte :=
  if i = 6 then
    leBytes 1 (lifecycle s) ++ leBytes 1 (getF s F.dbgUnlock_level) ++ leBytes 1 (getF s F.tkrStat_alarmLock) ++ leBytes 1 s.otp.arb
  else if i = 7 then leBytes 1 (getF s F.secLc_rootIdx) ++ leBytes 1 s.otp.revoke
  else if i = 1 then spdmHash x (Config.standardBytes 0x602 0)
  else if i = 5 then spdmHash x s.prf.descs.flatten
  else spdmHash x (spGet [] s.sec.measured i)

/-- R122, R431: CHALLENGE on a slot, answered with the chain's digest, a fresh nonce, the requester's, and the signature. -/
def onChallenge (transport slot : Nat) (nonce : List Byte) (s : State) : State :=
  withSpdm s transport (fun x => x.negotiated) fun x =>
    if 1 < slot then spdmError s errInvalid
    else
      let (n, s) := drawBytes s 32
      let req := spdmMsg 0x83 [(0, leBytes 1 slot), (1, nonce)]
      let body := [(0, leBytes 1 slot), (1, spdmHash x (certChain s slot)), (2, n), (3, nonce)]
      let (sig, s) := spdmSign s x "responder-challenge_auth signing" (req ++ spdmMsg 0x03 body)
      answerSpdm s transport x req 0x03 (body ++ [(4, sig)])

/-- R122, R432: GET_MEASUREMENTS: index 0 asks for the count, 0xFF for all seven. -/
def onGetMeasurements (transport index : Nat) (sign : Bool) (nonce : List Byte) (s : State) : State :=
  withSpdm s transport (fun x => x.negotiated) fun x =>
    if 7 < index ∧ index ≠ 0xFF then spdmError s errInvalid
    else
      let ids := if index = 0xFF then [1, 2, 3, 4, 5, 6, 7] else if index = 0 then [] else [index]
      let blocks := ids.map fun i => (i, measurement s x i)
      let body := [(0, leBytes 1 (if index = 0 then 7 else ids.length))] ++ blocks
      let req := spdmMsg 0xE0 [(0, leBytes 1 (b2n sign)), (1, leBytes 1 index), (2, nonce)]
      if sign then
        let (n, s) := drawBytes s 32
        let body := body ++ [(8, n), (9, nonce)]
        let (sig, s) := spdmSign s x "responder-measurements signing" (req ++ spdmMsg 0x60 body)
        answerSpdm s transport x req 0x60 (body ++ [(10, sig)])
      else answerSpdm s transport x req 0x60 body

/-- A value of the key schedule: HKDF-Expand over the length, the version, a label and a context (R122). -/
def spdmExpand (x : Spdm) (secret : List Byte) (len : Nat) (label : String) (context : List Byte) : List Byte :=
  hkdfExpand (spdmMac x) (spdmSize x) secret (leBytes 2 len ++ ascii "spdm1.2 " ++ ascii label ++ context) len

/-- The secret of one direction in a phase, the requester's or the responder's: of the handshake, or of the application after FINISH. -/
def directionSecret (x : Spdm) (k : SpdmSession) (rsp : Bool) : List Byte :=
  spdmExpand x k.secret (spdmSize x) ((if rsp then "rsp " else "req ") ++ (if k.finished then "app data" else "hs data")) k.script

/-- The verification data of a direction over the transcript. -/
def verifyData (x : Spdm) (k : SpdmSession) (rsp : Bool) (script : List Byte) : List Byte :=
  spdmMac x (spdmExpand x (directionSecret x k rsp) (spdmSize x) "finished" []) (spdmHash x script)

/-- Key, nonce and additional data of a record of a session: AES-256-GCM with the direction's key and its vector mixed with the record's number (R122). Log
106 (PRESUMED). -/
def recordKey (x : Spdm) (k : SpdmSession) (rsp : Bool) (seq len : Nat) : List Byte × List Byte × List Byte :=
  let d := directionSecret x k rsp
  (spdmExpand x d 32 "key" [], xorBytes (spdmExpand x d 12 "iv" []) (leBytes 12 seq), leBytes 4 k.id ++ leBytes 2 seq ++ leBytes 2 len)

/-- Seal a message as a record of a session: ciphertext and tag. -/
def sealRecord (x : Spdm) (k : SpdmSession) (rsp : Bool) (seq : Nat) (msg : List Byte) : List Byte :=
  let plain := leBytes 2 msg.length ++ msg
  let r := recordKey x k rsp seq (plain.length + 16)
  let c := gcmSeal r.1 r.2.1 r.2.2 plain
  c.1 ++ c.2

/-- The message of a record, where its tag verifies. -/
def openRecord (x : Spdm) (k : SpdmSession) (rsp : Bool) (seq : Nat) (record : List Byte) : Option (List Byte) :=
  let n := record.length - 16
  let r := recordKey x k rsp seq record.length
  (gcmOpen r.1 r.2.1 r.2.2 (record.take n) (record.drop n)).map fun p => (p.drop 2).take (leAt p 0 2)

/-- Replace a session. -/
def putSession (x : Spdm) (k : SpdmSession) : Spdm := { x with sessions := x.sessions.filter (fun o => o.id != k.id) ++ [k] }

/-- A session ends. -/
def endSession (x : Spdm) (id : Nat) : Spdm := { x with sessions := x.sessions.filter fun o => o.id != id }

/-- Send a response as the next record of a session. -/
def respondSealed (s : State) (t : Nat) (x : Spdm) (k : SpdmSession) (code : Nat) (fields : List (Nat × List Byte)) : State :=
  emit (putSpdm s t (putSession x { k with tx := k.tx + 1 })) (.spdm code [(0, sealRecord x k true k.tx (spdmMsg code fields))])

/-- R122: KEY_EXCHANGE: an ephemeral key on the negotiated curve, the shared secret, and a session opens with the keys of its handshake. Log 106 (PRESUMED). -/
def onKeyExchange (transport slot : Nat) (pub : List Byte) (s : State) : State :=
  withSpdm s transport (fun x => x.negotiated) fun x =>
    match x.dhe384 with
    | none => spdmError s errUnsupported
    | some wide =>
      let c := curveOf wide
      let (e, s) := draw s
      let d := e % (c.n - 1) + 1
      match (if slot ≤ 1 then ecdh c d pub else none) with
      | none => spdmError s errInvalid
      | some z =>
        let (id, s) := draw s
        let id := id % 65536
        let req := spdmHash x (certChain s slot) ++ spdmMsg 0xE4 [(0, leBytes 1 slot), (1, pub)]
        let body := [(0, leBytes 2 id), (1, ecPublic c d), (2, spdmHash x (certChain s slot))]
        let (sig, s) := spdmSign s x "responder-key_exchange_rsp signing" (req ++ spdmMsg 0x64 body)
        let script := x.script ++ req ++ spdmMsg 0x64 (body ++ [(3, sig)])
        let k : SpdmSession := ⟨id, false, spdmMac x (List.replicate (spdmSize x) 0) z, spdmHash x script, 0, 0⟩
        let verify := verifyData x k true script
        respondSpdm (putSpdm s transport (putSession (x.note (req ++ spdmMsg 0x64 (body ++ [(3, sig), (4, verify)]))) k)) transport 0x64
          (body ++ [(3, sig), (4, verify)])

/-- The session after FINISH: the master secret and the transcript of its application keys. -/
def finishedSession (x : Spdm) (k : SpdmSession) (script : List Byte) : SpdmSession :=
  let zero := List.replicate (spdmSize x) 0
  { k with finished := true, secret := spdmMac x (spdmExpand x k.secret (spdmSize x) "derived" []) zero, script := spdmHash x script, rx := 0, tx := 0 }

/-- R88, R122: FINISH in a session over MCTP, as a sealed record; the DOE mailbox carries no secured message. A record that does not open, or verification
data that is not the requester's, ends the session. Log 106 (PRESUMED). -/
def onFinish (transport session : Nat) (record : List Byte) (s : State) : State :=
  withSpdm s transport (fun x => x.negotiated) fun x =>
    if !overMctp transport then spdmError s errUnsupported
    else match x.sessions.find? fun k => k.id == session && !k.finished with
      | none => spdmError s errSession
      | some k =>
        let head := spdmMsg 0xE5 []
        if openRecord x k false k.rx record = some (head ++ verifyData x k false (x.script ++ head)) then
          let script := x.script ++ head ++ verifyData x k false (x.script ++ head) ++ spdmMsg 0x65 []
          let s := respondSealed s transport x { k with rx := k.rx + 1 } 0x65 []
          putSpdm s transport (putSession x (finishedSession x k script))
        else spdmError (putSpdm s transport (endSession x session)) errDecrypt

/-- R88, R122: END_SESSION, as a sealed record. -/
def onEndSession (transport session : Nat) (record : List Byte) (s : State) : State :=
  withSpdm s transport (fun x => x.negotiated) fun x =>
    if !overMctp transport then spdmError s errUnsupported
    else match x.sessions.find? fun k => k.id == session && k.finished with
      | none => spdmError s errSession
      | some k =>
        if openRecord x k false k.rx record = some (spdmMsg 0xEC []) then
          putSpdm (respondSealed s transport x k 0x6C []) transport (endSession x session)
        else spdmError (putSpdm s transport (endSession x session)) errDecrypt

/-- Serve a request by its bytes, one that came in chunks or over MCTP (R121, R122). -/
def serveSpdm (t : Nat) (m : List Byte) (s : State) : State :=
  let p := fun (i n : Nat) => leAt m i n
  let body := m.drop 2
  match p 1 1 with
  | 0x84 => onGetVersion t s
  | 0xE1 => onGetCapabilities t (leAt body 0 4) s
  | 0xE3 => onNegotiateAlgorithms t (leAt body 0 1) (leAt body 1 1) (leAt body 2 1) (bitAt (leAt body 3 1) 0) s
  | 0x81 => onGetDigests t s
  | 0x82 => onGetCertificate t (leAt body 0 1) (leAt body 1 2) (leAt body 3 2) s
  | 0x83 => onChallenge t (leAt body 0 1) (bytesAt body 1 32) s
  | 0xE0 => onGetMeasurements t (leAt body 1 1) (bitAt (leAt body 0 1) 0) (bytesAt body 2 32) s
  | 0xE4 => onKeyExchange t (leAt body 0 1) (body.drop 1) s
  | _ => spdmError s errUnsupported

/-- The SPDM responses among the outputs go as records of a session. -/
def sealOutputs (t : Nat) (k : SpdmSession) : (os : List Output) → State → State
  | [], s => s
  | .spdm code fields :: os, s =>
    let x := spdmOf s t
    let k := (x.sessions.find? fun o => o.id == k.id).getD k
    sealOutputs t k os (respondSealed s t x k code fields)
  | o :: os, s => sealOutputs t k os (emit s o)

/-- A secured message over MCTP (R122): the session, the record's number and its bytes. A finished session serves the request in it, and answers sealed; the
others take FINISH. Log 106 (PRESUMED). -/
def onSecured (session : Nat) (record : List Byte) (s : State) : State :=
  let x := spdmOf s 1
  match x.sessions.find? fun k => k.id == session && k.finished with
  | none => onFinish 1 session record s
  | some k =>
    match openRecord x k false k.rx record with
    | none => spdmError (putSpdm s 1 (endSession x session)) errDecrypt
    | some m =>
      if leAt m 1 1 = 0xEC then onEndSession 1 session record s
      else
        let before := s.out
        let s := serveSpdm 1 m { putSpdm s 1 (putSession x { k with rx := k.rx + 1 }) with out := [] }
        sealOutputs 1 k s.out { s with out := before }

/-- R122: chunked transfer: a chunk of a large request arrives, the last of which lets it be served, or a chunk of a large response is fetched. Chunks go in
order. Log 106 (PRESUMED). -/
def onChunkedTransfer (transport : Nat) (fetch : Bool) (seq : Nat) (last : Bool) (data : List Byte) (s : State) : State :=
  withSpdm s transport (fun x => x.capabilities) fun x =>
    if fetch then
      if seq ≠ x.chunkSeq ∨ x.chunks.isEmpty = true ∨ x.transfer = 0 then spdmError s errInvalid
      else
        let part := x.chunks.take x.transfer
        let rest := x.chunks.drop x.transfer
        emit (putSpdm s transport { x with chunks := rest, chunkSeq := seq + 1 }) (.spdm 0x06 [(0, leBytes 2 seq), (1, [BitVec.ofNat 8 (b2n rest.isEmpty)]), (2, part)])
    else if seq ≠ 0 ∧ seq ≠ x.chunkSeq then spdmError s errInvalid
    else
      let all := (if seq = 0 then [] else x.chunks) ++ data
      let x := if last then { x with chunks := [], chunkSeq := 0 } else { x with chunks := all, chunkSeq := seq + 1 }
      let s := emit (putSpdm s transport x) (.spdm 0x05 [(0, leBytes 2 seq)])
      if last then serveSpdm transport all s else s

/-- R88: DOE Discovery: index 0 is Discovery itself, 1 CMA-SPDM; the last names no next. -/
def onDoeDiscovery (index : Nat) (s : State) : State :=
  if !domainOn s .host then s
  else match index with
    | 0 => emit s (.doe (leBytes 2 0x0001 ++ [0x00#8, 0x01#8]))
    | 1 => emit s (.doe (leBytes 2 0x0001 ++ [0x01#8, 0x00#8]))
    | _ => emit s (.doe (leBytes 2 0xFFFF ++ [0x00#8, 0x00#8]))

/-- What an NVMe-MI command answers: its status, the response Dword and the response data. -/
structure MiAnswer where
  status : Nat
  dword : Nat
  data : List Byte
deriving DecidableEq, Repr

/-- Status codes of NVMe-MI. -/
def miOk : Nat := 0x00
/-- Response status of NVMe-MI for an opcode it does not support. Log 107 (PRESUMED). -/
def miOpcode : Nat := 0x03
def miParam : Nat := 0x04

/-- The composite temperature as a byte of degrees, 0 to 126 (R617). -/
def miTemp (s : State) : Nat := if s.age.composite < 0 then 0 else min 126 s.age.composite.toNat

/-- Read NVMe-MI Data Structure: types 0 to 5; the controller list is the device's functions, the rest has the standard's form. -/
def miStructure (s : State) (dtype port ctrl : Nat) : MiAnswer :=
  if 5 < dtype then ⟨miParam, 0, []⟩
  else
    let d := if dtype = 2 then leBytes 2 (funcsOf s).length ++ (funcsOf s).flatMap (leBytes 2) else Config.standardBytes (0x640 + dtype) (port * 65536 + ctrl)
    ⟨miOk, d.length, d⟩

/-- NVM Subsystem Health Status Poll: the composite temperature of R617; the other fields have the standard's form. -/
def miSubsystem (s : State) : MiAnswer × State :=
  let (d, s) := drawBytes s 8
  (⟨miOk, 0, patch d 2 (leBytes 1 (miTemp s))⟩, s)

/-- One entry of the Controller Health Status Poll: identifier, CSTS, temperature, Available Spare and its warning; the rest is the standard's. -/
def miController (s : State) (f : Nat) : List Byte × State :=
  let x := (funcOf s f).regs
  let spare := getF s F.mhmHealth_availSpare
  let (d, s) := drawBytes s 16
  (patches d [(0, leBytes 2 f), (2, leBytes 2 (b2n x.rdy + 2 * b2n x.cfs + 4 * x.shst)), (4, leBytes 2 (s.age.composite + 273).toNat), (7, leBytes 1 spare),
    (8, leBytes 1 (b2n (decide (spare < 10))))], s)

/-- Entries of a list of controllers. -/
def miControllers : List Nat → State → List Byte × State
  | [], s => ([], s)
  | f :: fs, s =>
    let (a, s) := miController s f
    let (b, s) := miControllers fs s
    (a ++ b, s)

/-- Controller Health Status Poll from a controller on, at most `count` entries. Log 107 (PRESUMED). -/
def miHealth (s : State) (first count : Nat) : MiAnswer × State :=
  let fs := ((funcsOf s).filter fun f => decide (first ≤ f)).take count
  let (d, s) := miControllers fs s
  (⟨miOk, fs.length, d⟩, s)

/-- Configuration Get (R120): the MCTP transmission unit is 64 bytes; the others are what was set. -/
def miConfigGet (s : State) (id port : Nat) : MiAnswer :=
  if id = 3 then ⟨miOk, 64, []⟩
  else if id = 1 ∨ id = 2 then ⟨miOk, spGet 0 s.mi.config (id + 256 * port), []⟩
  else ⟨miParam, 0, []⟩

/-- Configuration Set (R120). -/
def miConfigSet (s : State) (id port value : Nat) : MiAnswer × State :=
  if id = 3 then (⟨if value = 64 then miOk else miParam, 0, []⟩, s)
  else if id = 1 ∨ id = 2 then (⟨miOk, 0, []⟩, { s with mi := { s.mi with config := spSet 0 s.mi.config (id + 256 * port) value } })
  else (⟨miParam, 0, []⟩, s)

/-- VPD Read. -/
def miVpd (offset length : Nat) : MiAnswer :=
  let v := Config.standardBytes 0x650 0
  if v.length < offset + length then ⟨miParam, 0, []⟩ else ⟨miOk, 0, (v.drop offset).take length⟩

/-- A response message over MCTP. -/
def miRespond (x : MiAnswer × State) : State := emit x.2 (.mctp (leBytes 1 x.1.status ++ leBytes 3 x.1.dword ++ x.1.data))

/-- Serve an NVMe-MI request over MCTP while the responder runs (R121). Log 107 (PRESUMED). -/
def miServe (s : State) (f : State → MiAnswer × State) : State := if domainOn s .mgmt then miRespond (f s) else s

/-- Serve an NVMe-MI command by its opcode and Dwords; VPD Write, NVMe-MI Reset and every opcode not supported are answered Invalid Command Opcode (R120). -/
def miCommand (s : State) (op d e : Nat) : MiAnswer × State :=
  match op with
  | 0 => (miStructure s (d / 2 ^ 24) (d / 2 ^ 16 % 256) (d % 65536), s)
  | 1 => miSubsystem s
  | 2 => miHealth s (d % 65536) (d / 2 ^ 16 % 256 + 1)
  | 3 => miConfigSet s (d % 256) (d / 2 ^ 24) e
  | 4 => (miConfigGet s (d % 256) (d / 2 ^ 24), s)
  | 5 => (miVpd (d % 65536) (e % 65536), s)
  | _ => (⟨miOpcode, 0, []⟩, s)

/-- A packet without a tunnelled command, by its message type: 4 NVMe-MI, 5 SPDM, 6 a secured message (R120 to R122). -/
def servePacket (s : State) (m : List Byte) : State :=
  match leAt m 0 1 % 128 with
  | 4 => if leAt m 1 1 / 8 % 16 = 1 then miRespond (miCommand s (leAt m 4 1) (leAt m 8 4) (leAt m 12 4)) else emit s (.note "mctp packet" m.length)
  | 5 => serveSpdm 1 (m.drop 1) s
  | 6 => onSecured (leAt m 1 4) (m.drop 9) s
  | _ => emit s (.note "mctp packet" m.length)

/-- R121: a packet at the responder: an admin command it tunnels to the PF, or a message that it answers. Log 151 (DEDUCED). -/
def takePacket (s : State) (p : MctpPacket) : State :=
  match p.admin with
  | none => servePacket s p.bytes
  | some q =>
    let q := { q with admin := true }
    let n := spFree s.hif.slots (s.hif.slots.length + 1) 0
    let s := putSlot s n (freshSlot s 0 miQueue q)
    match fetchCheck s 0 q with
    | some st => finish s n st
    | none => s

/-- The held packets are answered in order of arrival once the responder runs again (R121). Log 151 (DEDUCED). -/
def answerHeld (s : State) : State :=
  let ps := s.aon.mctp
  forEach ps { s with aon := { s.aon with mctp := [] } } takePacket

/-- R121: an MCTP packet: to the responder, behind the held ones, or held with a wake, or refused at the address phase. Log 107 (PRESUMED). -/
def onMctpPacket (bytes : List Byte) (admin : Option Sqe) (s : State) : State :=
  if domainOn s .mgmt then takePacket (answerHeld s) ⟨bytes, admin⟩
  else if s.aon.mctp.length < 4 then
    let first := s.aon.mctp.isEmpty
    let s := { s with aon := { s.aon with mctp := s.aon.mctp ++ [⟨bytes, admin⟩] } }
    if first then wakeRequest s F.pmuWake_mctp else s
  else emit s (.note "mctp refused" 0)

/-- R120: the NVMe-MI commands over MCTP. -/
def onReadNvmeMiDataStructure (dtype port ctrl : Nat) (s : State) : State := miServe s fun s => (miStructure s dtype port ctrl, s)

/-- R120: NVM Subsystem Health Status Poll. -/
def onNvmSubsystemHealthStatusPoll (s : State) : State := miServe s miSubsystem

/-- R120: Controller Health Status Poll. -/
def onControllerHealthStatusPoll (first count : Nat) (s : State) : State := miServe s fun s => miHealth s first count

/-- R120: Configuration Get. -/
def onConfigurationGet (id port : Nat) (s : State) : State := miServe s fun s => (miConfigGet s id port, s)

/-- R120: Configuration Set. -/
def onConfigurationSet (id port value : Nat) (s : State) : State := miServe s fun s => miConfigSet s id port value

/-- R120: VPD Read. -/
def onVpdRead (offset length : Nat) (s : State) : State := miServe s fun s => (miVpd offset length, s)

/-- The NVMe-MI opcode of NVMe-MI Send and Receive, and its two Dwords. -/
def miOpc (q : Sqe) : Nat := dw11 q % 256

/-- The end of an NVMe-MI Send or Receive: the tunnelled status and response in Dword 0. -/
def miFinish (n : Nat) (c : CmdSlot) (x : MiAnswer × State) : State :=
  finishWith (if x.1.data.isEmpty then x.2 else hostData x.2 c x.1.data) n .success (x.1.status + x.1.dword % 2 ^ 24 * 256) 0

/-- R120: NVMe-MI Send: Configuration Set; every other opcode, VPD Write and NVMe-MI Reset among them, fails with Invalid Command Opcode. -/
def onNvmeMiSend (slot : Nat) (s : State) : State :=
  withFetched s slot (isAdmin 0x1D) fun c =>
    let d := dw12 c.sqe
    miFinish slot c (if miOpc c.sqe = 3 then miCommand s 3 d (dw13 c.sqe) else (⟨miOpcode, 0, []⟩, s))

/-- R120: NVMe-MI Receive. -/
def onNvmeMiReceive (slot : Nat) (s : State) : State :=
  withFetched s slot (isAdmin 0x1E) fun c =>
    let d := dw12 c.sqe
    let e := dw13 c.sqe
    miFinish slot c (if miOpc c.sqe = 3 then (⟨miOpcode, 0, []⟩, s) else miCommand s (miOpc c.sqe) d e)

end Sys2Proof.Machine
end

