-- ==== Sys2Proof/Machine/Dbg.lean ====
section
/-!
DEFINITION. The debug port's unlock (R441 to R445, R451, R456 to R458).
-/

namespace Sys2Proof.Machine

open Sys2Proof

/-- The unlock message of R442, from DBG_CHAL. -/
def chalMessage (s : State) : List Byte := (List.range 12).flatMap fun i => leBytes 4 (getF s (F.dbgChal_word i))

/-- Fill DBG_CHAL. -/
def putChal (s : State) (bs : List Byte) : State := forEach (List.range 12) s fun s i => setF s (F.dbgChal_word i) (leAt bs (4 * i) 4)

/-- An unlock request ends with a STATUS: REQ clears, DBG_CHAL reads zero, the response is gone (R456, R457). -/
def endUnlock (s : State) (status : Nat) : State :=
  let s := putChal (clrF (setF s F.dbgUnlock_status status) F.dbgUnlock_req) []
  { s with dbg := { s.dbg with resp := [] } }

/-- STATUS codes of DBG_UNLOCK. -/
def dbgChalReady : Nat := 1
def dbgGranted : Nat := 3
def dbgDenied : Nat := 4
def dbgExpired : Nat := 5
def dbgLocked : Nat := 6
def dbgNoSec : Nat := 7

/-- GRANTED at a level (R442 to R444): tenant slots are erased first where it is FULL in DEPLOYED. Log 104 (DEDUCED). -/
def grantLevel (s : State) (level : Nat) : State :=
  let s := if level = 2 ∧ lifecycle s = 2 ∧ getF s F.dbgUnlock_level ≠ 2 then eraseKeys s fun k => decide (k < 4096) else s
  clrF (setF (endUnlock s dbgGranted) F.dbgUnlock_level level) F.dbgUnlock_fails

/-- DENIED (R443): the third in a row raises DEBUG_FAIL and locks the port. -/
def denyUnlock (s : State) : State :=
  let n := getF s F.dbgUnlock_fails + 1
  let s := endUnlock (setF s F.dbgUnlock_fails (min n 3)) dbgDenied
  if 3 ≤ n then setF (applyAlarm s 5) F.dbgUnlock_status dbgLocked else s

/-- A challenge in force expires (R442). -/
def expireChallenge (s : State) : State := if getF s F.dbgUnlock_status = dbgChalReady then endUnlock s dbgExpired else s

/-- R442, R443, R450: REQ with a REQ_LEVEL. -/
def onDbgUnlockReq (level : Nat) (s : State) : State :=
  let now_ := getF s F.dbgUnlock_level
  if getF s F.dbgUnlock_status = dbgLocked then s
  else
    let s := setF (expireChallenge s) F.dbgUnlock_reqLevel (level % 4)
    let level := level % 4
    if !domainOn s .sec then endUnlock s dbgNoSec
    else if level = 3 then denyUnlock s
    else if level ≤ now_ then grantLevel s level
    else
      let (n, s) := drawBytes s 32
      let m := n ++ beBytes 8 s.otp.devUid.toNat ++ leBytes 1 (lifecycle s) ++ leBytes 1 level ++ leBytes 3 s.clk.pwrcyc ++ [0, 0, 0]
      let s := { s with dbg := { s.dbg with resp := [], chalAt := s.clk.us } }
      setBit (setF (putChal s m) F.dbgUnlock_status dbgChalReady) F.dbgUnlock_req

/-- The 128-byte response: DBG_RESP[0] to [30] as written, and word 31. -/
def dbgResponse (s : State) (last : DWord) : List Byte :=
  ((List.range 31).flatMap fun i => leBytes 4 (spGet 0 s.dbg.resp i).toNat) ++ leBytes 4 last.toNat

/-- The response verifies against the debug authority's key (R442). -/
def unlockVerifies (s : State) (bs : List Byte) : Bool :=
  let pub := bytesAt bs 0 64
  let trusted := if lifecycle s = 0 then romHash 0x601 else beBytes 32 s.otp.debugHash.toNat
  sha256 pub == trusted && ecdsaVerify p256 pub (sha256 (chalMessage s)) (bytesAt bs 64 64)

/-- R442, R443, R451: the write of DBG_RESP[31] starts the verification, which an alarm of a source may meet; ignored while no challenge is
ready. Log 105 (DESIGN CHOICE). -/
def onDbgRespVerify (last : DWord) (alarm : Option Nat) (s : State) : State :=
  if getF s F.dbgUnlock_status ≠ dbgChalReady then s
  else match alarm with
    | some src => if src < 8 then endUnlock (applyAlarm (setFBit s F.secAlarmStat_active src) src) dbgDenied else s
    | none => if unlockVerifies s (dbgResponse s last) then grantLevel s (getF s F.dbgUnlock_reqLevel) else denyUnlock s

/-- R442: a challenge expires 60 s after CHAL_READY. -/
def onDbgChallengeExpiry (s : State) : State :=
  if getF s F.dbgUnlock_status ≠ dbgChalReady then s else expireChallenge (advanceTo s (s.dbg.chalAt + 60000000))

/-- R442, R445: RELOCK: LEVEL is CLOSED, halted cores resume, and a state request that waited for them proceeds. -/
def onRelock (s : State) : State := startPending (closeLevel s)

end Sys2Proof.Machine
end

