-- ==== Sys2Proof/Machine/Mhm.lean ====
section
/-!
DEFINITION. The commands of media health: record updates and walks (R277 to R280, R309, R310), retention scans (R283), the sentinel survey and
the off-time decision (R300 to R306), and the Timestamp (R96, R304).
-/

namespace Sys2Proof.Machine

open Sys2Proof

/-- The last record index of the table (R275). -/
def lastRecord : Nat := 17039359

/-- R278: a core's request to change a record enters the update queue, or is refused while 256 wait; requests are applied in order. Log 65 (DEDUCED). -/
def onBrtUpdateRequest (master index : Nat) (record : List Byte) (s : State) : State :=
  rowGate s master 0x1001500000 true fun s =>
  if !isMc master then refuse s master 0x1001500000
  else if 256 ≤ s.mhm.updateQ.length then emit s (.note "update queue full" index)
  else if lastRecord < index then s
  else applyUpdates { s with mhm := { s.mhm with updateQ := s.mhm.updateQ ++ [.write index (recordOfBytes record)] } }

/-- The physical zone a record's block-plane serves, where one does (R39, R47). -/
def zoneOfRecord (s : State) (i : Nat) : Option Nat :=
  let d := brtDie i
  let plane := i / 4160 % 4
  let block := i % 4160
  let pzn := dieGroup d * 4096 + (if block < 4096 then block else (recOf s i).owner)
  if blockFor (zstOf s pzn) pzn (dieMember d) plane = block then some pzn else none

/-- The bound zone a record's block-plane serves. -/
def eznOfRecord (s : State) (i : Nat) : Option Nat :=
  match zoneOfRecord s i with
  | some pzn => if (zstOf s pzn).bound then some (zstOf s pzn).ezn else none
  | none => none

/-- A record matches the predicate of a walk (R279); one of an absent die or held for its CHK matches none. -/
def walkMatch (s : State) (i : Nat) : Bool :=
  let r := recOf s i
  if !diePresent s (brtDie i) || s.mhm.brtHeld.contains i then false
  else
    match getF s F.mhmWalk_kind with
    | 0 => r.cond == .dirty && r.kind != .bad
    | 1 => (r.cond == .opened || r.cond == .written) && decide (1024 * getF s (F.mhmThresh_disturb r.tier) ≤ r.reads)
    | 2 => r.kind == .user && r.cond == .written && decide (r.pe ≤ getF s F.mhmWalk_param)
    | _ => false

/-- R279, R309: a write of RUN starts a walk at CURSOR. RATE 0 runs none, a walk in progress goes on, and one started above the table's end is
done at once. -/
def onWalkStart (s : State) : State :=
  if flag s F.mhmWalk_run || getF s F.mhmWalk_rate == 0 then s
  else if lastRecord < getF s F.mhmWalk_cursor then setBit s F.mhmWalk_done
  else
    let s := setBit (clrF s F.mhmWalk_stop) F.mhmWalk_run
    if getF s F.mhmWalk_kind = 2 ∧ getF s F.mhmWalk_cursor = 0 then { s with mhm := { s.mhm with lowestPe := [] } } else s

/-- The WEAR walk keeps, per stitch group, the lowest PE it found, with its record: PE × 2^25 + index. -/
def noteWear (s : State) (i : Nat) : State :=
  let g := dieGroup (brtDie i)
  let v := (recOf s i).pe * 2 ^ 25 + i
  match spFind s.mhm.lowestPe g with
  | some w => if w ≤ v then s else { s with mhm := { s.mhm with lowestPe := spPut s.mhm.lowestPe g v } }
  | none => { s with mhm := { s.mhm with lowestPe := spPut s.mhm.lowestPe g v } }

/-- The walk reads one record: a full FIFO pauses it there; CHK is checked (`bad` says that it fails), and a match is posted (R279). It stands still while an
entry is past its step 3F (R280, R488). Log 200 (DESIGN CHOICE). -/
def walkOne (s : State) (bad : Bool) : State :=
  let i := getF s F.mhmWalk_cursor
  if !flag s F.mhmWalk_run || flag s F.mhmWalk_paused || pmuDrains s then s
  else if 512 ≤ s.mhm.walkFifo.length then setBit s F.mhmWalk_paused
  else
    let s := checkBrt s i bad
    let hit := walkMatch s i
    let s := if hit then { s with mhm := { s.mhm with walkFifo := s.mhm.walkFifo ++ [i] } } else s
    let s := if hit && getF s F.mhmWalk_kind == 2 then noteWear s i else s
    if i = lastRecord then setBit (clrF s F.mhmWalk_run) F.mhmWalk_done else setF s F.mhmWalk_cursor (i + 1)

/-- R279: the walk reads the records of the next 64-byte burst; `bad` has a bit for each of the four whose CHK fails. -/
def onWalkRecord (bad : Nat) (s : State) : State :=
  forEach (List.range (4 - getF s F.mhmWalk_cursor % 4)) s fun s _ => walkOne s (bitAt bad (getF s F.mhmWalk_cursor % 4))

/-- End the walk where it stands (R280, R309). -/
def stopWalk (s : State) : State := clrF (clrF (clrF s F.mhmWalk_run) F.mhmWalk_stop) F.mhmWalk_paused

/-- R309: a write of STOP ends the walk at the next record. -/
def onWalkStop (s : State) : State := stopWalk s

/-- R310: a read of MHM_WALK_OUT removes the oldest candidate, and a paused walk goes on. Firmware acts on a DISTURB candidate whose record, loaded
again, still matches: its zone is a refresh candidate (R280, R284). Log 123 (DEDUCED). -/
def onWalkOutRead (master : Nat) (s : State) : State :=
  rowGate s master F.mhmWalkOut_index.addr false fun s =>
  match s.mhm.walkFifo with
  | [] => emit s (.readResponse master (BitVec.ofNat 64 (2 ^ 31)))
  | i :: rest =>
    let s := emit { s with mhm := { s.mhm with walkFifo := rest } } (.readResponse master (BitVec.ofNat 64 i))
    let s := clrF s F.mhmWalk_paused
    if getF s F.mhmWalk_kind = 1 ∧ walkMatch s i = true then
      (match eznOfRecord s i with
      | some e => queueCandidate s e .disturb
      | none => s)
    else s

/-- R283: the zone at the head of the scan queue is read at its sample bit-pages on one data member, chosen in rotation; the Scan Table is
written when its last read ends. Log 124 (DEDUCED). -/
def onRetentionScan (deadline : Nat) (s : State) : State :=
  match s.mhm.scanQueue with
  | [] => s
  | ezn :: rest =>
    let s := { s with mhm := { s.mhm with scanQueue := rest, scanCount := s.mhm.scanCount + 1 } }
    match boundZone s ezn with
    | none => s
    | some (pzn, z) =>
      if z.state = .offline then s
      else
      let m := (parityMember pzn + 1 + (s.mhm.scanCount - 1) % 15) % 16
      let d := memberDie (groupOf pzn) m
      let bin := ageBin (zoneAge s z)
      let pages := [0, 128, 255].flatMap fun w => [0, 2].flatMap fun p => (List.range (bitsOf z.tier)).map fun j => (w, p, j)
      let final := pages.filter fun (x : Nat × Nat × Nat) => finalSlot s pzn z (slotAt z.tier pzn (2 * x.1 + x.2.1 / 2) x.2.1 x.2.2 0 m)
      if final.isEmpty then scanEnd s ezn
      else forEach final s fun s (x : Nat × Nat × Nat) =>
        let cws := (List.range 8).map fun c => newCw c 0 (offsetOfSlot z.tier z.pads (slotAt z.tier pzn (2 * x.1 + x.2.1 / 2) x.2.1 x.2.2 c m))
        startOrClimb s (newRead (.scan ezn) d m x.2.1 (blockFor z pzn m x.2.1) x.1 x.2.2 z.tier (homeOf s pzn ezn) ezn .vault deadline .device bin
          false cws)

/-- One Off-time History entry more (R300): it counts the interval as 0; a full history drops entry 1, whose UNKNOWN flag passes on. -/
def appendHistory (hs : List HistEntry) (oph cyc : Nat) : List HistEntry :=
  let hs := if hs.length < 4096 then hs
    else match hs with
      | a :: b :: c :: rest => a :: { c with unknown := c.unknown || b.unknown } :: rest
      | _ => hs
  hs ++ [⟨oph, (hs.getLast?.map HistEntry.offsum).getD 0, cyc % 2 ^ 24, 0, false, 0⟩]

/-- R302, R307: the survey of the sentinels after a COLD reset, once the composite temperature or 600 s of firmware permit it; its senses go into the die
queues. A survey under way takes up the sentinels whose senses were lost with their queues. Log 126 (DEDUCED). -/
def onSentinelSurvey (s : State) : State :=
  let warm := decide (sbyte (getF s F.mhmCold_surveyMin) ≤ s.age.composite) || (s.sec.released && decide (s.age.fwStart + 600000000 ≤ s.clk.us))
  let st := getF s F.mhmOffest_state
  if st = 0 ∧ warm = true then surveyOn (startSurvey s) else if st = 1 then surveyOn s else s

/-- Insert into an ascending list; sort one. -/
def insertInt (x : Int) : List Int → List Int
  | [] => [x]
  | y :: ys => if x ≤ y then x :: y :: ys else y :: insertInt x ys

def sortInts (xs : List Int) : List Int := xs.foldr insertInt []

/-- The median of an ascending list; of an even count the mean of the two middle values, rounded down. Log 127 (DESIGN CHOICE). -/
def median (xs : List Int) : Int :=
  let n := xs.length
  if n % 2 = 1 then listAt 0 xs (n / 2) else (listAt 0 xs (n / 2 - 1) + listAt 0 xs (n / 2)) / 2

/-- The interquartile range: the difference of the medians of the upper and the lower half, the middle value of an odd count in neither. Log 127 (DESIGN CHOICE). -/
def quartileRange (xs : List Int) : Int :=
  let n := xs.length
  median (xs.drop (n - n / 2)) - median (xs.take (n / 2))

/-- The strip estimate where it is plausible (R305). -/
def stripEstimate (s : State) : Option Int :=
  let xs := sortInts s.age.estimates
  let need := getF s F.mhmOffest_minSent
  if need = 0 ∨ xs.length < need then none
  else if quartileRange xs ≤ max 2048 (median xs / 2) then some (median xs) else none

/-- The host estimate in 1/256 ms where it is plausible; OPHOURS counts 1/256 hour (R16, R304). Log 128 (DEDUCED). -/
def hostEstimate (s : State) : Option Int :=
  match s.age.stampLast, s.age.stampNew with
  | some (msL, ophL), some (msN, ophN) =>
    let h : Int := 256 * ((msN : Int) - msL) - ((ophN : Int) - ophL) * 3600000
    if h < -(3600000 * 256) ∨ 262800 * 3600000 * 256 < h then none else some (max 0 h)
  | _, _ => none

/-- 1/256 ms as 24.8 fixed-point hours. -/
def msToHours (h : Int) : Int := h / 3600000

/-- SOURCE, UNKNOWN and OFF of the decision (R305). -/
def decision (agree : Nat) (strip host : Option Int) : Nat × Bool × Int :=
  match strip, host with
  | some t, none => (1, false, t)
  | some t, some h =>
    let a : Int := t * 3600000
    let b : Int := h
    if b ≤ a * 2 ^ agree ∧ a ≤ b * 2 ^ agree then (2, false, t)
    else (if b ≤ a then 1 else 3, false, max t (msToHours h))
  | none, some h => (3, false, msToHours h)
  | none, none => (4, true, 0)

/-- Replace the newest entry of a history by its decided form. -/
def decideEntry (hs : List HistEntry) (source : Nat) (unknown : Bool) (off : Nat) : List HistEntry :=
  match hs.getLast? with
  | none => hs
  | some e =>
    let before := (hs.dropLast.getLast?.map HistEntry.offsum).getD 0
    hs.dropLast ++ [{ e with source := source, unknown := unknown, off := off, offsum := before + off }]

/-- A decision made where `before` zones were unknown: a zone whose age is unknown is a refresh candidate, and the first such zones raise the Retention
Status event (R306, R119). -/
def markUnknown (s : State) (before : Nat) : State :=
  let us := unknownZones s
  let s := forEach us s fun s p => queueCandidate s (zstOf s p).ezn .unknownAge
  if before = 0 ∧ us ≠ [] then forEach (funcsOf s) s fun s f => raiseAsync s f .retentionStatus else s

/-- MHM decides the interval (R305). -/
def decideInterval (s : State) : State :=
  let d := decision (getF s F.mhmOffest_agree) (stripEstimate s) (hostEstimate s)
  let before := unknownCount s
  let s := { s with age := { s.age with history := decideEntry s.age.history d.1 d.2.1 d.2.2.toNat, decidedAt := s.clk.ophours } }
  markUnknown (setF (setF s F.mhmOffest_source d.1) F.mhmOffest_state 3) before

/-- R305: the decision once the Timestamp has come, or at the end of the survey where TS_WAIT is 0. Log 128 (DEDUCED). -/
def onOfftimeDecision (s : State) : State :=
  if getF s F.mhmOffest_state == 2 && (s.age.stampNew.isSome || getF s F.mhmOffest_tsWait == 0) then decideInterval s else s

/-- R304: TS_WAIT seconds after the survey no Timestamp has come: the host estimate is absent. -/
def onTsWaitExpiry (s : State) : State :=
  if getF s F.mhmOffest_state != 2 || s.age.stampNew.isSome then s
  else decideInterval (advanceTo s (s.age.surveyed + 1000000 * getF s F.mhmOffest_tsWait))

/-- The Timestamp is set: the journal records it where it is not zero, and a decision of SOURCE 1 or 4 is made once more (R96, R304, R305); where TS_WAIT has
passed, the first decision is made without it. Log 128 (DEDUCED). -/
def setStamp (s : State) (ms : Nat) : State :=
  let late := getF s F.mhmOffest_state == 2 && s.age.stampNew.isNone && decide (s.age.surveyed + 1000000 * getF s F.mhmOffest_tsWait < s.clk.us)
  let s := if late then decideInterval s else s
  let s := { s with clk := { s.clk with stampMs := ms, stampAt := s.clk.us, stampSet := true }, age := { s.age with stampNew := some (ms, s.clk.ophours) } }
  let s := journal s (.stamp ms s.clk.ophours)
  let src := getF s F.mhmOffest_source
  if getF s F.mhmOffest_state == 3 && (src == 1 || src == 4) && !s.age.decidedTwice then
    decideInterval { s with age := { s.age with decidedTwice := true } }
  else s

/-- R96, R560: the PF sets the Timestamp; every member gets it. -/
def onSetTimestamp (slot ms : Nat) (s : State) : State :=
  setFeature s slot (· == 0x0E) fun c =>
    let ms := ms % 2 ^ 48
    wakeFirst s (joined s) fun s =>
      finishAdmin (sendAdmin (setStamp s ms) slot (joined s) (adminCommand c noNamespace ++ leBytes 8 ms)) slot

end Sys2Proof.Machine
end

