-- ==== Sys2Proof/Machine/Tick.lean ====
section
/-!
DEFINITION. What the time base does by itself: the operating-hours step (R16) and the epoch tick (R27, R28) with the work that hangs on it: counts
latched (R228, R246, R269), the accumulator written out (R281), scans and wear (R283, R288), sentinels (R301), the temperature with its throttle and cold
holds (R307, R308, R616, R617).
-/

namespace Sys2Proof.Machine

open Sys2Proof

/-- ALF µs per step of OPHOURS: 1/256 hour (R16). -/
def ophStep : Nat := 14062500

/-- R16: OPHOURS advances and SUB starts again; the time past the step counts toward the next. -/
def onOphoursStep (s : State) : State :=
  let s := advanceTo s (s.clk.subBase + ophStep)
  { s with clk := { s.clk with ophours := min (s.clk.ophours + 1) (2 ^ 32 - 1), subBase := s.clk.subBase + ophStep } }

/-- The pending writes of epoch-shadowed registers take effect (R28). -/
def applyShadow (s : State) : State :=
  let s := s.shadow.foldl (fun s kv =>
    match regAt kv.1 with
    | some (d, _) => setReg s kv.1 (shadowWord d kv.2 (regVal s kv.1))
    | none => s) s
  let classes := s.vfm.classShadow.foldl (fun cs x => listSet cs x.1 x.2) s.vfm.classDeadlines
  { s with shadow := [], vfm := { s.vfm with classDeadlines := classes, classShadow := [] } }

/-- The counts of the epoch are latched (R228, R246, R269). -/
def latchCounts (s : State) : State := { s with rch := { s.rch with latched := s.rch.live, live := [] } }

/-- TRIM_LIMIT 0 holds every trim at 0 (R241). -/
def holdTrims (s : State) : State := if getF s F.rchTrack_trimLimit = 0 then { s with rch := { s.rch with trims := [], trimBad := [] } } else s

/-- First bin scanned for an expected-retrieval class (R311). -/
def fromBin (s : State) (erc : Nat) : Nat :=
  match erc % 4 with
  | 0 => getF s F.mhmScan_fromBinUnspec
  | 1 => getF s F.mhmScan_fromBinSoon
  | 2 => getF s F.mhmScan_fromBinLater
  | _ => getF s F.mhmScan_fromBinRarely

/-- Up to 64 bound zones in rotation have their age bin computed; those past their limits are queued for a scan (R283), and one whose age is unknown is a refresh
candidate (R306). Log 124 (DEDUCED). -/
def selectScans (s : State) : State :=
  let bound := s.zrs.zst.filter fun kv => kv.2.bound && kv.2.state != .offline
  let order := bound.filter (fun kv => decide (s.mhm.scanNext ≤ kv.1)) ++ bound.filter fun kv => decide (kv.1 < s.mhm.scanNext)
  let these := order.take 64
  let due := these.filter fun kv =>
    let bin := ageBin (zoneAge s kv.2)
    decide (spGet 0 s.mhm.scanTable kv.1 < bin) && decide (fromBin s kv.2.erc ≤ bin)
  let s := { s with mhm := { s.mhm with scanNext := match these.getLast? with | some kv => kv.1 + 1 | none => 0 } }
  let s := forEach (these.filter fun kv => (zoneAge s kv.2).isNone) s fun s kv => queueCandidate s kv.2.ezn .unknownAge
  forEach due s fun s kv => { s with mhm := { s.mhm with scanQueue := addOnce s.mhm.scanQueue kv.2.ezn } }

/-- A stitch group's wear spread is compared with WL_SPREAD (R288). Log 132 (DEDUCED). -/
def checkWear (s : State) (g : Nat) : State :=
  let spread := getF s F.mhmScan_wlSpread
  match (spGet [] s.zrs.ready g).head?, spFind s.mhm.lowestPe g with
  | some p, some low =>
    if spread = 0 ∨ maxPe s p ≤ low / 2 ^ 25 + spread then s
    else
      match eznOfRecord s (low % 2 ^ 25) with
      | some e => if zoneState s e = .full then queueCandidate s e .wear else s
      | none => s
  | _, _ => s

/-- A word line can stand as a sentinel: final on a block-plane that is open or written, at the highest tier of its die, in a block with no other
sentinel of the die (R301). Log 125 (DESIGN CHOICE). -/
def markFits (s : State) (m : SentinelMark) : Bool :=
  let r := recOf s (brtIndex m.die m.plane m.block)
  let others := (spGet [] s.age.sentinels m.die).eraseIdx m.index
  dieInService s m.die && (r.cond == .opened || r.cond == .written) && decide (m.wl < r.wlDone) && decide (m.plane < 4) && decide (m.index < 4) &&
    (tierOf r.tier).any (fun t => decide (m.bp < bitsOf t)) &&
    s.mhm.brt.all (fun kv => brtDie kv.1 != m.die || kv.2.tier == 3 || decide (kv.2.tier ≤ r.tier)) && others.all fun x => x.block != m.block

/-- Place a sentinel: a new one while the die has fewer than four, or in place of an older one (R301). Log 125 (DESIGN CHOICE). -/
def placeMark (s : State) (m : SentinelMark) : State :=
  let xs := spGet [] s.age.sentinels m.die
  let t := (tierOf (recOf s (brtIndex m.die m.plane m.block)).tier).getD .d4
  let x : Sentinel := ⟨m.plane, m.block, m.wl, m.bp, t, m.progOph⟩
  if !markFits s m then s
  else
    let ys := if m.index < xs.length then
        (if xs.all fun y => decide ((listAt x xs m.index).progOph ≤ y.progOph) then
          (if (listAt x xs m.index).progOph < m.progOph then listSet xs m.index x else xs) else xs)
      else xs ++ [x]
    { s with age := { s.age with sentinels := spSet [] s.age.sentinels m.die ys } }

/-- The throttle level of a temperature, from the level before (R617). Log 130 (DEDUCED). -/
def nextThrottle (old : Nat) (c : Int) : Nat :=
  if 115 ≤ c then 2
  else if old = 2 ∧ 112 ≤ c then 2
  else if 108 ≤ c then 1
  else if 1 ≤ old ∧ 105 ≤ c then 1
  else 0

/-- A cold hold with its hysteresis: it ends at its limit and applies again more than HYST below it; the first sample after COLD sets it (R308). Log 129 (DEDUCED). -/
def nextHold (first old : Bool) (c limit hyst : Int) : Bool :=
  if first || old then decide (c < limit) else decide (c < limit - hyst)

/-- A temperature as the signed byte a register field holds. -/
def tempByte (c : Int) : Nat := (c % 256).toNat

/-- The throttle level moves, counted with the time spent (R617). Log 88, 130 (DEDUCED). -/
def moveThrottle (s : State) (c : Int) : State :=
  let old := getF s F.sysTemp_throttle
  let new := nextThrottle old c
  let t := s.aon.thermal
  let t := if old = 1 then { t with halfUs := t.halfUs + 32000 } else if old = 2 then { t with stoppedUs := t.stoppedUs + 32000 } else t
  let t := if new = old then t else if new = 1 then { t with half := t.half + 1 } else if new = 2 then { t with stopped := t.stopped + 1 } else t
  setF { s with aon := { s.aon with thermal := t } } F.sysTemp_throttle new

/-- Zones with a block-plane first programmed below 0 °C become candidates once no hold applies (R308). -/
def coldCandidates (s : State) : State :=
  let recs := s.mhm.brt.filter fun kv => (kv.2.cond == .opened || kv.2.cond == .written) && kv.2.ptemp == 0
  let zs := (recs.filterMap fun kv => eznOfRecord s kv.1).eraseDups
  forEach zs s fun s e => queueCandidate s e .coldProg

/-- A function whose temperature threshold the composite temperature has passed gets the event (R94). Log 183 (PRESUMED). -/
def warnTemp (s : State) : State :=
  if domainOn s .data then forEach ((funcsOf s).filter (overThreshold s)) s fun s f => raiseAsync s f .temperatureThreshold else s

/-- The sensors are sampled (R616): SYS_TEMP, the throttle, and the cold holds with MHM_COLD.HOLD (R308). Log 129 (DEDUCED), 167 (DESIGN CHOICE). -/
def sampleTemp (s : State) (sensors : List Int) (first : Bool) : State :=
  match sensors with
  | [] => s
  | x :: xs =>
    let c := xs.foldl max x
    let hot := match findIdxIn (· == c) sensors 0 with | some (i, _) => i | none => 0
    let peak := getF s F.sysTemp_peak
    let s := setF (setF s F.sysTemp_composite (tempByte c)) F.sysTemp_sensor hot
    let s := if peak = 0x80 ∨ sbyte peak < c then setF s F.sysTemp_peak (tempByte c) else s
    let s := warnTemp (moveThrottle { s with age := { s.age with composite := c } } c)
    let h : Int := getF s F.mhmCold_hyst
    let hi := nextHold first s.age.holdHi c (sbyte (getF s F.mhmCold_progMinHi)) h
    let d4 := nextHold first s.age.holdD4 c (sbyte (getF s F.mhmCold_progMinD4)) h
    let s := setF { s with age := { s.age with holdHi := hi, holdD4 := d4 } } F.mhmCold_hold (b2n (hi || d4))
    if hi || d4 || !domainOn s .data then s else coldCandidates s

/-- A parity error in the Off-time History: recorded, and the entry is loaded again from the journal (R299, R315). -/
def historyParity (s : State) (i : Nat) : State :=
  match s.age.history[i]? with
  | none => s
  | some e => raiseErr s F.mhmErr_histParity 0x06 0 idMhm fun s =>
    [regNat s F.mhmErr_histParity.addr, i, e.ophUp, e.offsum, e.pwrcyc + 2 ^ 24 * e.source + 2 ^ 27 * b2n e.unknown, e.off]

/-- The epoch's work of media health, while its domain is on. -/
def epochHealth (s : State) (marks : List SentinelMark) (histBad : Option Nat) : State :=
  if !domainOn s .data then s
  else
    let s := match histBad with | some i => historyParity s i | none => s
    let s := applyUpdates (flushAcc (holdTrims (latchCounts s)))
    let s := selectScans s
    let s := forEach (List.range 64) s checkWear
    forEach marks s placeMark

/-- R27, R28: the epoch tick. `histBad` is an entry of the Off-time History found with a parity error. Log 131 (DESIGN CHOICE), 133 (DEDUCED). -/
def onEpochTick (sensors : List Int) (marks : List SentinelMark) (histBad : Option Nat) (s : State) : State :=
  let s := advanceTo s (s.clk.lastTick + 32000)
  let s := { s with clk := { s.clk with lastTick := s.clk.us } }
  let n := getF s F.sysEpoch_count
  let s := interruptMcs (setF s F.sysEpoch_count ((n + 1) % 2 ^ 32))
  let s := epochHealth (applyShadow s) marks histBad
  sampleTemp s sensors (n == 0)

end Sys2Proof.Machine
end

