-- ==== Sys2Proof/Machine/Pmu.lean ====
section
/-!
DEFINITION. Power states (R482 to R494): requests and wakes, the entry into STANDBY and SAFELIGHT step by step with its abort points, the exits, the
change between ACTIVE and IDLE, and the clocks (R493).
-/

namespace Sys2Proof.Machine

open Sys2Proof

/-- Who may write the PMU and RST registers: MC0 to MC7, the LRS, and the debug port at FULL. -/
def pmuWriter (s : State) (m : Nat) : Bool := isMc m || m == idLrs || (m == idDebug && debugFull s)

/-- A write of PMU_REQ by a master (R484, R511). -/
def reqWrite (s : State) (m : Nat) (f : State → State) : State :=
  rowGate s m F.pmuReq_req.addr true fun s => if pmuWriter s m then f s else refuse s m F.pmuReq_req.addr

/-- A state request by a write of PMU_REQ; the leader passes it on (R484, R486, R562). Log 117 (DEDUCED). -/
def stateRequest (r : PmuReq) (m : Nat) (s : State) : State := reqWrite s m fun s => forwardPmu (pmuRequest s r) r

def onPmuReqActive (master : Nat) (s : State) : State := stateRequest .active master s
def onPmuReqIdle (master : Nat) (s : State) : State := stateRequest .idle master s
def onPmuReqStandby (master : Nat) (s : State) : State := stateRequest .standby master s
def onPmuReqSafelight (master : Nat) (s : State) : State := stateRequest .safelight master s

/-- R485: PMU_REQ written with WAKE. -/
def onPmuReqWake (master : Nat) (s : State) : State := reqWrite s master fun s => wakeRequest s F.pmuWake_request

/-- R485: a wake by its source, numbered as its bit of PMU_WAKE. -/
def onWakeEvent (source : Nat) (s : State) : State :=
  if 6 ≤ source then s else wakeRequest s ⟨F.pmuWake_doorbell.addr, source, source⟩

/-- STATE, LAST_OP and PS of an operational state (R95, R510). Log 118 (DEDUCED). -/
def enterOperational (s : State) (idle : Bool) (ps : Nat) : State :=
  setF (setF (setF s F.pmuState_state (b2n idle)) F.pmuState_lastOp (1 + b2n idle))
    F.pmuState_ps (if idle then 2 else if ps ≤ 1 then ps else 0)

/-- R482: a change between ACTIVE and IDLE takes effect. -/
def onActiveIdleChange (s : State) : State :=
  if s.pmu.flight ≠ .activeIdle then s
  else
    let s := enterOperational (expireChallenge s) (s.pmu.target == .idle) (getF s F.pmuState_ps)
    startPending { s with pmu := { s.pmu with flight := .none } }

/-- Zones with a padding deadline that has passed, the earliest first (R64). -/
def overdueZones (s : State) : List Nat :=
  let zs := (writingZones s).filterMap fun e => match padDeadline s e with
    | some d => if d ≤ now s then some (d, e) else none
    | none => none
  let ins := fun (x : Nat × Nat) (xs : List (Nat × Nat)) => xs.takeWhile (fun y => decide (y.1 ≤ x.1)) ++ [x] ++ xs.dropWhile fun y => decide (y.1 ≤ x.1)
  (zs.foldl (fun acc x => ins x acc) []).map (·.2)

/-- The die queues take back the entries that an entry took from them (R488, R489). Log 199 (DEDUCED). -/
def unparkEntries (s : State) : State :=
  forEach s.sch.parked { s with sch := { s.sch with parked := [] } } fun s (x : Nat × DieEntry) =>
    let q := dieOf s x.1
    let s := putDie s x.1 { q with
      queue := (q.queue.filter fun e => decide (e.order < x.2.order)) ++ x.2 :: q.queue.filter (fun e => decide (x.2.order < e.order)),
      balances := openBalance q.balances x.2.acct }
    if (bayOf s (dieBay x.1)).phase = .failed then s else requestBay s (dieBay x.1)

/-- A DRAM scrub that was suspended resumes at its next unchecked line (R337). -/
def resumeScrub (s : State) : State := if getF s F.mepScrubCtrl_status = scrubSuspended then setF s F.mepScrubCtrl_status scrubRunning else s

/-- Back in operation (R489, R492 step 10): overdue paddings start, the shadow and the held CC writes and packets are taken, a waiting START, the
sanitize and the relocations go on, and fetch resumes unless the LRS holds it. -/
def resumeOperation (s : State) (shadowBad : List Nat) : State :=
  let s := surveyOn (unparkEntries (resumeScrub s))
  let s := forEach (overdueZones s) s fun s e => padZone s e false false
  let s := takeHeldCc (takeShadow s shadowBad)
  let s := answerHeld s
  let s := runWaiting s
  let s := pumpRelocs (sanitizeAdvance s)
  forEach (s.zrs.zst.filter fun kv => kv.2.bound) { s with hif := { s.hif with fetchStopped := s.hif.admissionStopped } } fun s kv => topUpZone s kv.1

/-- An entry is abandoned (R489): the device runs back to its last operational state and then to the requested one. -/
def abandonEntry (s : State) (r : PmuReq) : State :=
  let s := { s with
    pmu := { s.pmu with flight := .none, pending := none, viaExit := false, padded := [] }, sch := { s.sch with reserveOff := false } }
  let s := enterOperational s (getF s F.pmuState_lastOp == 2) (getF s F.pmuState_ps)
  let s := resumeOperation s []
  if r = .wake then s else pmuRequest s r

/-- An abort point (R486): a pending wake, ACTIVE or IDLE abandons the entry; a pending STANDBY turns a SAFELIGHT entry into its own. -/
def abortPoint (s : State) (go : State → State) : State :=
  match s.pmu.pending with
  | some .wake => abandonEntry s .wake
  | some .active => abandonEntry s .active
  | some .idle => abandonEntry s .idle
  | some .standby =>
    if s.pmu.target = .safelight then go { s with pmu := { s.pmu with target := .standby, pending := none }, sch := { s.sch with reserveOff := false } }
    else go s
  | _ => go s

def setFlight (s : State) (st : PmuStep) : State := { s with pmu := { s.pmu with flight := st } }

/-- Step 2 of an entry is done (R488): admitted reads have completed, admitted appends are staged, and no SAVE, RESTORE, security command or forwarded
command is under way. Log 134 (DEDUCED). -/
def workDrained (s : State) : Bool :=
  (s.hif.slots.all fun kv =>
    let c := kv.2
    if c.sqe.admin then !(opc c.sqe == 0x81 || opc c.sqe == 0x82 || opc c.sqe == 0x10)
    else if isWriteKind c.kind && isAdmitted c && c.remote.isNone then c.failed.isSome || decide (c.blocks ≤ c.staged.length)
    else !(isReadKind c.kind && isAdmitted c) && c.remote.isNone) &&
  match s.vfm.migOp with
  | some (.save, _) | some (.restore, _) => false
  | _ => true

/-- Active zones the padding of SAFELIGHT entry has yet to close: those whose relocation, if any, has switched (R63, R490). -/
def zonesToClose (s : State) : List Nat :=
  (s.zrs.zst.filter fun kv => kv.2.bound && isActiveState kv.2.state && (zmapOf s kv.2.ezn).bound && (zmapOf s kv.2.ezn).pzn == kv.1 &&
    (relocOf s kv.1).isNone && !s.pmu.padded.contains kv.2.ezn).map fun kv => kv.2.ezn

/-- Pad and close one active zone (R63). -/
def padAndClose (s : State) (ezn : Nat) : State :=
  let s := { s with pmu := { s.pmu with padded := s.pmu.padded ++ [ezn] } }
  match boundZone s ezn with
  | none => s
  | some (_, z) =>
    let s := if z.durableHr * hrSlots z.tier < z.wpPhys then padZone s ezn true false else s
    if isOpenState (zoneState s ezn) then closeZone s ezn else s

/-- Every active zone is closed with all it holds durable, and no active zone is being relocated (R490). -/
def paddingDone (s : State) : Bool :=
  (zonesToClose s).isEmpty && s.zrs.zst.all fun kv =>
    !(kv.2.bound && (isActiveState kv.2.state || s.pmu.padded.contains kv.2.ezn)) ||
      ((relocOf s kv.1).isNone && decide (kv.2.wpPhys ≤ kv.2.durableHr * hrSlots kv.2.tier))

/-- Go on with the padding of SAFELIGHT entry; at its end stands A1b (R490). -/
def padStep (s : State) : State :=
  let s := forEach (zonesToClose s) s padAndClose
  if paddingDone s then abortPoint s fun s => setFlight s .firmware else s

/-- SAFELIGHT entry begins its padding: the read reserve joins the shared pool, and relocations of zones that are not active are abandoned (R286,
R490). -/
def beginPadding (s : State) : State :=
  let s := setFlight { s with sch := { s.sch with reserveOff := true } } .pad
  let s := forEach s.mhm.relocs s fun s kv => if isActiveState (zoneState s kv.2.ezn) then s else restartReloc s kv.1 kv.2
  padStep s

/-- R488 step 2 and A1, R486: the admitted work of the entry is drained. -/
def onAdmittedWorkDrained (s : State) : State :=
  if s.pmu.flight ≠ .drain || !workDrained s then s
  else
    let s := if s.pmu.pending = some .safelight then { s with pmu := { s.pmu with target := .safelight, pending := none } } else s
    abortPoint s fun s => if s.pmu.target = .safelight then beginPadding s else setFlight s .firmware

/-- R488 step 3F, R511: management firmware reports its step done: walks stopped, the accumulator written out, the Burnisher suspended or aborted,
injection disarmed, the ready journal pages programmed. -/
def onStepDone (master : Nat) (s : State) : State :=
  reqWrite s master fun s =>
    if s.pmu.flight ≠ .firmware then s
    else
      let s := applyUpdates (flushAcc s)
      let s := scrubEntry s (s.pmu.target == .safelight)
      let s := clrF s F.mepFlip_arm
      setFlight (onJournalPageProgram s) .bays

/-- Reads of the device's own end with PD_DATA: the zones of unfinished scans are queued again; relocations read again after the exit. Log 134 (DEDUCED). -/
def dropOwnReads (s : State) : State :=
  let scans := (s.rch.reads.filterMap fun kv => match kv.2.owner with | .scan e => some e | _ => none).eraseDups
  let s := dropEntries s isReadEntry
  freePages { s with
    rch := { s.rch with reads := [], probes := [], hardBusy := [], softBusy := [] },
    mhm := { s.mhm with scanQueue := scans ++ s.mhm.scanQueue.filter fun e => !scans.contains e } }

/-- The programs and erases still queued leave the die queues, so that no entry targets a bay (R195). Log 199 (DEDUCED). -/
def parkEntries (s : State) : State :=
  let parked := s.sch.dies.flatMap fun kv => kv.2.queue.map fun e => (kv.1, e)
  { s with sch := { s.sch with parked := s.sch.parked ++ parked, dies := spMapD noDie s.sch.dies fun _ x => { x with queue := [], tokenWait := false } } }

/-- The channels of the bays that are on drain (R211). -/
def markDraining (s : State) : State :=
  forEach ((List.range 64).filter fun c => getF s (F.fchStat_state c) == 3) s fun s c => setF s (F.fchStat_state c) 6

/-- Power every bay down (R195, R488). -/
def baysDown (s : State) : State :=
  forEach (List.range 4) s fun s b =>
    let x := bayOf s b
    let s := putBay s b { x with phase := if x.phase = .requested then .off else x.phase, again := false }
    powerDownBay s b

/-- Step 4 (R209, R488): nothing more is issued; once no operation is on a die the bays are powered down, and A2 follows. Log 135 (DEDUCED). -/
def bayStep (s : State) : State :=
  let s := forEach (s.sch.dies.map (·.1)) (markDraining s) drainDie
  if s.sch.dies.any fun kv => kv.2.current.isSome || kv.2.suspended.isSome then s
  else abortPoint (baysDown (parkEntries (dropOwnReads s))) fun s => setFlight s .save

/-- Steps 5 and A3 (R382, R403, R488): accumulators written, resident contexts parked, the time base saved; a SAFELIGHT entry then zeroises every key
slot and frees the DRAM pools (R383, R415, R490). -/
def saveStep (s : State) : State :=
  let s := forEach s.sbg.accums s writeAccum
  let s := forEach (s.cph.ctxs.map (·.1)) s parkCtx
  let s := { s with pmu := { s.pmu with savedSch := s.clk.sch, savedEpoch := getF s F.sysEpoch_count } }
  abortPoint s fun s =>
    let s := if s.pmu.target = .safelight then forEach [6, 7, 8] (eraseAll s) resetPool else s
    setFlight s .selfRefresh

/-- Step 6 (R360, R488, R562): DEPART to every live peer; the leader waits until each joined member has departed or been lost; then the DRAM enters
self-refresh. -/
def refreshStep (s : State) : State :=
  let leader := !standalone s && flag s F.slkLeader_isLeader
  let live := (s.slk.peers.filter fun kv => kv.2.cond == .live).map (·.1)
  if leader && !live.isEmpty then s
  else
    let s := forEach live s fun s d => slkSend s d 0x04 0 (leBytes 1 (reqState s.pmu.target))
    setFlight (selfRefreshEnter s (s.pmu.target == .safelight)) .off

/-- The Saosh ports of a device whose PD_SLK goes off are OFF; it has departed itself, and joins again after its exit (R564). -/
def slkOff (s : State) : State :=
  { s with slk := { s.slk with
    ports := [], eph := none, triedAt := none, csrTags := [],
    peers := spMap s.slk.peers fun _ p => if p.cond = .live then { p with cond := .none } else p } }

/-- Step 7 (R488, R490): the domains go off with what their registers lose, and the non-operational state is reached. R12 calls a lost field undefined inside
the state; it holds its reset value from the entry on. The SPDM connections and sessions are kept, of which the spec says nothing. Log 176, 194 (DESIGN CHOICE). -/
def offStep (s : State) : State :=
  let deep := s.pmu.target == .safelight
  let ps := getF s F.pmuState_ps
  let s := resetParties s ((List.range 8).map idMc ++ if deep then [idSec] else [])
  let s := slkOff (expireChallenge s)
  let off : List Domain := [.data, .mgmt, .dmc, .slk] ++ if deep then [.sec] else []
  let s := { s with
    shadow := [],
    regs := resetPick s.regs (fun _ => true) fun f => lostOver deep f.lowPower,
    rch := { s.rch with live := [], latched := [] },
    mhm := { s.mhm with walkFifo := [] },
    vfm := { s.vfm with classShadow := [] },
    pmu := { s.pmu with on := s.pmu.on.filter (fun d => !off.contains d), flight := .none, opPs := if ps ≤ 2 then ps else s.pmu.opPs, viaExit := false, padded := [] },
    sch := { s.sch with reserveOff := false },
    mep := { s.mep with sramBad := [] },
    sbg := { s.sbg with results := [], waits := s.sbg.waits.filter fun w => w.group != 2 },
    cph := { s.cph with mreqs := [], keyCache := [], keyReqs := [] },
    dbg := { s.dbg with resp := [] } }
  let s := if deep then
      { s with
        cph := { s.cph with ctxs := [], parkClock := 0 },
        sec := { s.sec with released := false, nonce := none } }
    else s
  let st := if deep then stSafelight else stStandby
  startPending (setF (setF s F.pmuState_state st) F.pmuState_ps (st + 1))

/-- One step of an entry that the PMU itself takes (R488, R490). Log 77, 134 (DEDUCED). -/
def entryStep (s : State) : State :=
  match s.pmu.flight with
  | .pad => padStep s
  | .bays => bayStep s
  | .save => saveStep s
  | .selfRefresh => refreshStep s
  | .off => offStep s
  | _ => s

/-- R488: a STANDBY entry takes its next step. Log 134 (DEDUCED). -/
def onStandbyEntry (s : State) : State := if s.pmu.target = .standby then entryStep s else s

/-- R490: a SAFELIGHT entry takes its next step. Log 134 (DEDUCED). -/
def onSafelightEntry (s : State) : State := if s.pmu.target = .safelight then entryStep s else s

/-- Steps 1 to 8 of an exit (R492): the domains come on, the SRAM pools start afresh, the DRAM leaves self-refresh, the time base goes on by the epoch
ticks passed (R64), and the cores restart. -/
def powerOn (s : State) (deep storeParity : Bool) : State :=
  let on : List Domain := [.sec, .host, .data, .mgmt, .dmc] ++ if standalone s then [] else [.slk]
  let ticks := getF s F.sysEpoch_count - s.pmu.savedEpoch
  let s := { s with
    pmu := { s.pmu with on := on },
    clk := { s.clk with sch := s.pmu.savedSch + 32000 * ticks },
    lrs := { s.lrs with beats := List.replicate 8 s.clk.us, written := [] } }
  let s := if deep then mbxInterrupts s [idSec] else s
  selfRefreshExit (forEach (List.range 6) s resetPool) storeParity

/-- The kept management image in DRAM, as the region of R353 holds it. Log 101 (DEDUCED). -/
def keptImage (s : State) (n : Nat) : List Byte := dramBytes s 0x20000000 n

/-- A SAFELIGHT exit's boot of the security core (R425, R494): the kept management image is compared with the last measurement, and loaded again
from the SPI NOR where it differs; the system slots are filled. Log 101 (DEDUCED). -/
def safelightBoot (s : State) : State :=
  let img := imageBody (fwSlotOf s (getF s F.secLc_bootSlot + 1)).management
  let s := if sha256 (keptImage s img.length) = s.sec.mgmtHash then s else dramStore s 0x20000000 img []
  let s := fillSystemSlots s
  { s with sec := { s.sec with released := true, aliasSerial := s.sec.aliasSerial + 1 } }

/-- The end of an exit: the state named by the target (R492 step 10), or a SAFELIGHT entry from step 3 on (R491). -/
def endExit (s : State) (shadowBad : List Nat) : State :=
  let s := mbxInterrupts s ((List.range 8).map idMc)
  if s.pmu.viaExit then beginPadding (unparkEntries s)
  else
    let s := if flag s F.slkLeader_isLeader then forEach (s.slk.peers.map (·.1)) s wakePeer else s
    let s := enterOperational (expireChallenge s) (s.pmu.target == .idle) s.pmu.opPs
    startPending (resumeOperation (setFlight s .none) shadowBad)

/-- An exit: power first, and, once the DRAM is READY, the rest. -/
def exitFrom (deep : Bool) (storeParity : Bool) (shadowBad : List Nat) (s : State) : State :=
  let s := if domainOn s .data then s else powerOn s deep storeParity
  if !dramReady s then s
  else endExit (if deep then safelightBoot s else s) shadowBad

/-- R492, R491: the exit from STANDBY. `storeParity` is a parity error of the training store, `shadowBad` the shadow entries with one. -/
def onStandbyExit (storeParity : Bool) (shadowBad : List Nat) (s : State) : State :=
  if s.pmu.flight ≠ .exiting || pmuState s != stStandby then s else exitFrom false storeParity shadowBad s

/-- R494: the exit from SAFELIGHT. -/
def onSafelightExit (storeParity : Bool) (shadowBad : List Nat) (s : State) : State :=
  if s.pmu.flight ≠ .exiting || pmuState s != stSafelight then s else exitFrom true storeParity shadowBad s

/-- R493: firmware sets the EN bit of a PLL (0 DCLK, 1 FCLK, 2 CCLK, 3 LCLK). -/
def onPllEnable (master pll : Nat) (s : State) : State :=
  rowGate s master F.pmuClk_en.addr true fun s =>
  if !pmuWriter s master then refuse s master F.pmuClk_en.addr
  else if 4 ≤ pll then s
  else setFBit s F.pmuClk_en pll

/-- R493: a PLL that runs reaches lock. -/
def onPllLockAcquired (pll : Nat) (s : State) : State :=
  if 4 ≤ pll || !bitAt (getF s F.pmuClk_en) pll then s else setFBit s F.pmuClk_lock pll

/-- R493: firmware switches a clock to its PLL; while LOCK reads 0 the write is ignored. SEL = 0 returns to FIRC. -/
def onClockSelect (master pll : Nat) (sel : Bool) (s : State) : State :=
  rowGate s master F.pmuClk_sel.addr true fun s =>
  if !pmuWriter s master then refuse s master F.pmuClk_sel.addr
  else if 4 ≤ pll then s
  else if !sel then clrFBit s F.pmuClk_sel pll
  else if bitAt (getF s F.pmuClk_lock) pll then setFBit s F.pmuClk_sel pll else s

/-- R446, R493: a PLL loses lock: its clock falls back to FIRC, and the CLOCK alarm is raised. -/
def onPllLockLoss (pll : Nat) (s : State) : State :=
  if 4 ≤ pll || !bitAt (getF s F.pmuClk_lock) pll then s
  else applyAlarm (clrFBit (clrFBit s F.pmuClk_sel pll) F.pmuClk_lock pll) 1

/-- R488, R601: the PCIe link enters L1.2 where the host permits it; PCLK stops and CLKREQ# is released. -/
def onL12Entry (s : State) : State :=
  if !s.hif.linkUp || s.hif.l12 then s
  else drive { s with hif := { s.hif with l12 := true }, pins := { s.pins with clkreqLow := false } } .clkreqN true

/-- R32: the PCIe link leaves L1.2 and PCLK runs again. -/
def onL12Exit (s : State) : State :=
  if !s.hif.l12 then s
  else drive { s with hif := { s.hif with l12 := false }, pins := { s.pins with clkreqLow := true } } .clkreqN false

end Sys2Proof.Machine
end

