-- ==== Sys2Proof/Machine/CsrBase.lean ====
section
/-!
DEFINITION. How a register takes a written word (R8, R28), the values a reset takes from straps, fuses, the journal, the boot record and the
wiring rule, and the application of a profile (R588).
-/

namespace Sys2Proof.Machine

open Sys2Proof

/-- SLK_CTRL.PORT_EN of a port. -/
def portEnabled (s : State) (p : Nat) : Bool := bitAt (getF s F.slkCtrl_portEn) p

/-- A port with PORT_EN clear is OFF; one with PORT_EN set again starts anew (R552, R573). -/
def portsFollow (s : State) : State :=
  forEach (List.range 4) s fun s p => if portEnabled s p then s else setF (putPort s p noPort) (F.slkPortStat_state p) 0

/-- What follows at once from a register's new value: POLL = 0 fixes the refresh rate (R359), PORT_EN turns ports off (R573). Log 13 (DESIGN CHOICE). -/
def regHook (s : State) (name : String) : State :=
  if name = "DMC_REFRESH" then (if getF s F.dmcRefresh_poll = 0 && dramReady s then setMult s 1 else s)
  else if name = "SLK_CTRL" then portsFollow s
  else s

/-- RWL fields of a register are locked (R8). -/
def locked (s : State) (name : String) : Bool :=
  if name = "RST_LRS" then flag s F.rstLrs_lock else if name = "CSH_RING" then flag s F.cshStat_init else false

/-- A register takes a write of the bytes that `mask` selects: at once, or in its shadow copy until the next epoch (R8, R28). -/
def takeWrite (s : State) (d : RegDef) (addr : Nat) (mask data : Word) : State :=
  if d.shadowed then
    let w := match spFind s.shadow addr with | some v => v | none => regVal s addr
    { s with shadow := spPut s.shadow addr (writeWord d (locked s d.name) mask data w) }
  else regHook (setReg s addr (writeWord d (locked s d.name) mask data (regVal s addr))) d.name

/-- The route of the wiring rule toward device d (R547): VALID and PORT; none in a STANDALONE device or toward itself. Log 143 (DEDUCED). -/
def wiringRoute (role dev d : Nat) : Nat :=
  if role = 0 ∨ d = dev then 0
  else if role = 1 then (if d ≤ 3 then 4 else 0)
  else if role = 2 then (if 3 < d then 0 else if dev < d then 5 else 4)
  else if dev = 0 then 4 + (d - 1) / 4
  else if d ≠ 0 ∧ (d - 1) / 4 = (dev - 1) / 4 ∧ dev < d then 5
  else 4

/-- The straps name a leader (R541, R543). -/
def strapLeader (x : Straps) : Bool := x.role == 1 || (x.role == 3 && x.devId == 0)

/-- The strap combination is one of R541 (R542). -/
def strapsValid (x : Straps) : Bool :=
  match x.role with
  | 1 => x.devId == 0
  | 2 => decide (1 ≤ x.devId ∧ x.devId ≤ 3)
  | _ => true

/-- SYS_ID, SEC_UID and SLK_ERR.STRAP as the straps and fuses give them (R36, R453, R542). -/
def loadStraps (s : State) : State :=
  let s := setF (setF (setF (setF s F.sysId_profileSel s.straps.profileSel) F.sysId_role s.straps.role) F.sysId_devId s.straps.devId)
    F.sysId_baysEn s.otp.baysEn
  let s := setF s F.secUid_devUid s.otp.devUid.toNat
  if strapsValid s.straps then s else setBit s F.slkErr_strap

/-- The Saosh registers whose reset values are the straps, the journal and the wiring rule (R547, R576, R577, R579). Log 143 (DEDUCED). -/
def loadSlk (s : State) : State :=
  let s := setF (setF (setF s F.slkLeader_isLeader (b2n (strapLeader s.straps))) F.slkLeader_term s.slk.term) F.slkRemove_removed s.jrn.removed
  forEach (List.range 16) s fun s d =>
    let w := wiringRoute s.straps.role s.straps.devId d
    let s := setF (setF s (F.slkRoute_valid d) (w / 4)) (F.slkRoute_port d) (w % 4)
    if bitAt s.jrn.removed d then putPeer s d { noPeer with cond := .removed } else s

/-- PRF_SEL as the boot record gives it (R593). -/
def loadSel (s : State) : State :=
  let r := bootRecord s
  setF (setF s F.prfSel_valid (b2n r.nextValid)) F.prfSel_next r.nextProfile

/-- Every register whose reset value comes from outside the register table. Log 11 (DESIGN CHOICE). -/
def loadDerived (s : State) : State := loadSel (loadSlk (loadStraps s))

/-- POWER of SCH_OPCOST row i in a descriptor (R185). -/
def descPower (d : List Byte) (i : Nat) : Nat := leAt d (0x58 + 2 * i) 2

/-- TIME of SCH_OPCOST row i in a descriptor: the typical time (R185). -/
def descTime (d : List Byte) (i : Nat) : Nat := leAt d (listAt 0 [0x28, 0x2A, 0x2C, 0x2E, 0x30, 0x34, 0x38, 0x3C, 0x40, 0x44] i) 2

/-- SCH_OPCOST from the descriptors: the largest value of each operation (R161). With none the rows keep their values. Log 40 (DESIGN CHOICE). -/
def applyOpcost (s : State) (ds : List (List Byte)) : State :=
  if ds.isEmpty then s
  else forEach (List.range 10) s fun s i =>
    let w := BitVec.ofNat 64 ((ds.map fun d => descPower d i).foldl max 0 % 4096 + (ds.map fun d => descTime d i).foldl max 0 % 2 ^ 20 * 4096)
    match regAt (F.schOpcost_time i).addr with
    | some (d, _) => takeWrite s d (F.schOpcost_time i).addr (BitVec.allOnes 64) w
    | none => s

/-- One register write of a profile (R583, R588): those of FCH_CTRL are kept for each bay's power-up. -/
def profileRegWrite (s : State) (w : List Byte) : State :=
  let addr := leAt w 0 8 % 2 ^ 40
  let data := BitVec.ofNat 64 (leAt w 8 8)
  match regAt addr with
  | none => s
  | some (d, _) =>
    if d.name = "FCH_CTRL" then { s with prf := { s.prf with fchWrites := spPut s.prf.fchWrites addr data } }
    else takeWrite s d addr (if d.wide then BitVec.allOnes 64 else 0xFFFFFFFF#64) data

/-- The active profile is applied (R588): descriptors kept for the bays, SCH_OPCOST, the deadlines that are not zero, the register writes in
order; PRF_STAT names it. Log 40 (DESIGN CHOICE). -/
def applyProfile (s : State) (k source : Nat) (img : List Byte) : State :=
  let b := imageBody img
  let ds := profileDescs b
  let s := { s with prf := { s.prf with descs := ds, tiers := leAt b 5 1, fchWrites := [] } }
  let s := setF (setF (setF s F.prfStat_tiers (leAt b 5 1)) F.prfStat_source source) F.prfStat_active k
  let s := applyOpcost s ds
  let s := forEach (List.range 4) s fun s c =>
    let v := leAt b (0x0C + 4 * c) 4 % 2 ^ 24
    if v = 0 then s else shadowClass s c v
  forEach (profileWrites b) s profileRegWrite

end Sys2Proof.Machine
end

