-- ==== Sys2Proof/Machine/Reset.lean ====
section
/-!
DEFINITION. The device resets COLD, SHELF and WARM, the loss of VDD_AON, and what each keeps (R10, R483, R499, R500, R509).
-/

namespace Sys2Proof.Machine

open Sys2Proof

/-- The defaults of the Deadline Class Table, in units of 100 µs (R105). -/
def defaultDeadlines : List Nat := [50, 500, 5000, 100000]

/-- The Function Manager after a WARM or stronger reset: no VF, nothing staged, no migration (R131, R509). -/
def freshVfm : VfmState := ⟨false, 0, false, false, 0, false, false, [], [], defaultDeadlines, [], none, false, none⟩

/-- The host interface after a WARM or stronger reset (R509): nothing but the sanitize state and the count of self-tests is kept; fetch and admission
wait for the boot. -/
def freshHif (s : State) : HifState := ⟨[], [], [], 0, s.hif.sanitize, s.hif.selfTest, [], true, true, false, false⟩

/-- The read channel with nothing in flight and every trim 0 (R509). -/
def freshRch : RchState := ⟨[], [], [], [], [], [], [], [], [], [], [], 0, []⟩

/-- The integrity state with nothing in flight; `dram` and `bad` are the DRAM's bytes and those with bad parity. -/
def freshMep (dram : Sparse Byte) (bad : List Nat) : MepState := ⟨[], [], [], [], 0, dram, bad, [], ⟨0, 0, 0, 0, 0⟩⟩

/-- Saddlebag with every pool fresh (R383). -/
def freshSbg : SbgState := ⟨[], [], [], [], [], []⟩

/-- The Saosh state after a reset that keeps the journal's term (R568). -/
def freshSlk (term : Nat) : SlkState := ⟨[], [], term, 0, [], [], [], 0, [], [], false, [], none, none, false⟩

/-- The program or erase a drained die ends with (R209): one that has begun runs to its end, a suspended one is resumed first; data-in not confirmed is
abandoned. `fails` are the operations that fail: die, plane, and whether the die times out (R206). Log 64, 136 (DEDUCED). -/
def finishDie (fails : List (Nat × Nat × Bool)) (s : State) (d : Nat) : State :=
  let x := dieOf s d
  forEach ((x.current.toList ++ x.suspended.toList).filter fun r => begun r && !isReadEntry r.entry) s fun s r =>
    match fails.find? fun f => f.1 == d with
    | none => opDone s d r.entry
    | some (_, plane, true) => countTimeout (opTimesOut s d plane r) d
    | some (_, plane, false) => opReportsFail s d plane r

/-- The LRS drains every bay: then WP_N is low and every CE_N high, and the clamps hold the pins while PD_FLASH is reset (R197, R209, R499). Log 136 (DEDUCED). -/
def drainBays (s : State) (fails : List (Nat × Nat × Bool)) : State :=
  let s := forEach (s.sch.dies.map (·.1)) s (finishDie fails)
  forEach ((List.range 64).filter fun c => (padsOf s c).drive == .driven) s fun s c => clampPads (protectPads s c) c

/-- Relocations end with their targets DIRTY (R286); their zones are candidates again. -/
def dropRelocs (s : State) : State := forEach s.mhm.relocs s fun s kv => restartReloc s kv.1 kv.2

/-- Every bay off and BAY_PWR_EN low (R198). Log 135 (DEDUCED). -/
def baysOff (s : State) (keepIdentified : Bool) : State :=
  let s := forEach (List.range 4) s fun s b => if bitAt s.pins.bayPwrEn b then cutBay s b else s
  { s with bay := ⟨(spFilter s.bay.bays fun _ x => x.identified && keepIdentified).map fun kv => (kv.1, ⟨.off, 0, false, true, false, s.clk.us⟩), none, []⟩ }

/-- The state of the blocks that every one of these resets clears (R499, R500, R509). -/
def dropBlocks (s : State) : State :=
  { s with
    shadow := [],
    hif := freshHif s,
    vfm := freshVfm,
    aon := { s.aon with shadow := [], heldCc := [], events := [], lost := 0 },
    zrs := { s.zrs with
      cam := [], cache := [], heldZones := [], linger := [], resv := [], ready := [], ops := [], padReqs := [], held := [], writeClock := 0,
      progs := spMapD freshProg s.zrs.progs fun _ p => { p with closes := [] } },
    sch := ⟨[], 0, false, []⟩,
    rch := freshRch,
    mhm := { s.mhm with acc := [], updateQ := [], walkFifo := [], scanQueue := [], lowestPe := [], relocs := [] },
    sbg := { freshSbg with pools := (spFilter s.sbg.pools fun _ p => !p.drawn.isEmpty).map fun kv => (kv.1, { freshPool with drawn := kv.2.drawn }) },
    cph := ⟨[], 0, [], [], [], [], 0⟩,
    tkr := { s.tkr with slots := [], versions := [], retired := [], waiting := false },
    sec := { s.sec with released := false, nonce := none, measured := [] },
    dbg := { s.dbg with halted := [] },
    spdm := [],
    mi := ⟨[]⟩,
    prf := ⟨[], 0, []⟩,
    lrs := { s.lrs with phase := .watching, beats := List.replicate 8 s.clk.us, written := [], sinceFailure := s.clk.us, bootStopped := false },
    pmu := { s.pmu with flight := .none, target := .active, pending := none, savedSch := 0, savedEpoch := 0, viaExit := false, padded := [], opPs := 0 } }

/-- What SHELF and COLD clear beside it: mailboxes, debug level, the DRAM's contents, refresh candidates (R354, R509); and the MCTP packets held in PD_AON, of which
R509 says nothing. Log 184 (DESIGN CHOICE). -/
def dropDeep (s : State) : State :=
  { s with
    mep := freshMep [] [],
    sbg := freshSbg,
    dmc := { s.dmc with
      chans := [], resps := [], lowPolls := 0, lowMult := 0, trackDue := [], selfRefresh := false, masked := false, lost := none,
      storeValid := false, storeBad := false, filled := false },
    mhm := { s.mhm with candidates := [], nextOrder := 0 },
    dbg := ⟨[], 0, []⟩,
    mbx := ⟨[], [], []⟩,
    aon := { s.aon with mctp := [] },
    pins := { s.pins with ddr := .reset },
    slk := freshSlk s.slk.term }

/-- What a WARM reset does to the same blocks: the DRAM is kept in self-refresh, the masters reset count as reset for the mailboxes (R361, R470,
R509). Log 136, 151 (DEDUCED), 144 (DESIGN CHOICE). -/
def dropWarm (s : State) : State :=
  let s := { s with
    mep := freshMep s.mep.dram s.mep.dramBad,
    dmc := { s.dmc with chans := [], resps := [], lowPolls := 0, lowMult := 0, trackDue := [] },
    slk := freshSlk s.slk.term }
  let s := forEach [6, 7, 8] s buildLines
  resetParties (clampDdr s) ((List.range 8).map idMc ++ [idSec] ++ (List.range 16).map idCs)

/-- VDD_AON is gone: what is in volatile storage is lost (R483, R509). The Contact Sheet ring, the OTP, the SPI NOR, the journal's programmed pages, OPHOURS and
PWRCYC stay. Log 145 (DEDUCED). -/
def dropVolatile (s : State) : State :=
  let s := baysOff (dropRelocs s) false
  let s := dropDeep (dropBlocks s)
  { s with
    regs := resetRegs .cold s.regs,
    clk := { s.clk with us := 0, sch := 0, lastTick := 0, subBase := 0, stampMs := 0, stampAt := 0, stampSet := false },
    lrs := { s.lrs with beats := List.replicate 8 0, sinceFailure := 0, shelfReset := false, perst := false },
    jrn := { s.jrn with waiting := [], waitSince := none },
    csh := ⟨[], [], [], 0, [], []⟩,
    slk := freshSlk s.jrn.term,
    nor := { s.nor with busy := false, writers := [] },
    age := { s.age with stampLast := s.jrn.stamp, stampNew := none, survey := [], estimates := [], surveyed := 0, decidedAt := 0, decidedTwice := false, fwStart := 0 },
    pmu := { s.pmu with on := [] },
    pins := { s.pins with clkreqLow := false, miAlertLow := false } }

/-- R483: VDD_AON is removed. Log 145 (DEDUCED). -/
def onPowerLoss (s : State) : State :=
  let s := dropVolatile s
  { s with pmu := { s.pmu with off := true } }

/-- Domains of a device whose cores are still in reset (R492, R32): PD_SLK stays off in a STANDALONE device. -/
def bootDomains (s : State) : List Domain := [.sec, .host, .data, .dmc] ++ if standalone s then [] else [.slk]

/-- The link to the host comes up on a device that leads, or stands alone (R543). -/
def linkLeads (s : State) : Bool := standalone s || flag s F.slkLeader_isLeader

/-- The boot from domain power-up on (R492, R590 step 2): straps in force, every domain on but PD_MGMT, whose cores wait for the security core. An
invalid combination of straps stops it (R591). -/
def powerUp (s : State) : State :=
  let s := loadDerived { s with pmu := { s.pmu with on := bootDomains s } }
  let s := { s with hif := { s.hif with linkUp := linkLeads s } }
  let s := mbxInterrupts s [idSec]
  if strapsValid s.straps then setF s F.prfBoot_stage 2 else bootStop s 1

/-- ROM's choice of a firmware slot (R428): the active one, else the other as a fallback, else none. Log 141 (DESIGN CHOICE). -/
def chooseSlot (s : State) : Option (Nat × Bool) :=
  let a := if (bootRecord s).activeSlot = 2 then 2 else 1
  if fwSlotGood s (fwSlotOf s a) then some (a, false)
  else if fwSlotGood s (fwSlotOf s (3 - a)) then some (3 - a, true)
  else none

/-- The profile a COLD or SHELF boot selects, with SOURCE (R585). -/
def selectProfile (s : State) : Option (Nat × Nat) :=
  let r := bootRecord s
  let good := fun k => profileGood s k (profileImage s k)
  if r.nextValid && good r.nextProfile then some (r.nextProfile, 0)
  else if good s.straps.profileSel then some (s.straps.profileSel, if r.nextValid then 2 else 1)
  else if good 0 then some (0, 3)
  else none

/-- The profile of this boot: a WARM boot loads LAST_PROFILE without selecting (R585); the spec states no SOURCE for it. Log 140 (DESIGN CHOICE). -/
def bootProfile (s : State) : Option (Nat × Nat) × State :=
  if s.sec.warmBoot then
    let k := (bootRecord s).lastProfile
    if profileGood s k (profileImage s k) then
      let (r, s) := draw s
      (some (k, r % 4), s)
    else (none, s)
  else (selectProfile s, s)

/-- VALID_MAP (R594). -/
def validMap (s : State) : Nat :=
  ((List.range 4).filter fun k => profileGood s k (profileImage s k)).foldl (fun a k => a + 2 ^ k) 0

/-- The binding table of the shipped firmware (R461), written where no channel is bound yet: parties and WAKE bits of a channel. Log 142 (DEDUCED). -/
def shippedBinding (s : State) (n : Nat) : Option DWord :=
  let word := fun (a b wakeA wakeB : Nat) => some (BitVec.ofNat 32 (a + b * 256 + wakeA * 2 ^ 29 + wakeB * 2 ^ 30 + 2 ^ 31))
  if n < 8 then word (idMc n) idSec 1 1
  else if n < 16 then word (idMc (n - 8)) idLrs 1 0
  else if n < 32 then (if canBeParty s (idCs (n - 16)) then word (idMc (n % 8)) (idCs (n - 16)) 0 1 else none)
  else if n < 48 then word (idMc 0) (idPeer (n - 32)) 1 0
  else none

/-- MBX bound and locked (R460, R590 step 6). Log 142 (DEDUCED). -/
def bindMailboxes (s : State) : State :=
  if flag s F.mbxLock_bindLock then s
  else
    let s := if s.mbx.chans.isEmpty then
        forEach (List.range 64) s fun s n => match shippedBinding s n with | some w => onMbxBindWrite idSec n w s | none => s
      else s
    onBindLock idSec s

/-- Steps 5 to 7 of the boot (R425, R590): profile and management firmware, mailboxes, system slots, release, profile applied; the held packets are
answered (R121). Log 101, 137 (DEDUCED). -/
def bootOn (s : State) (fw : FwSlot) : State :=
  let s := setF s F.prfStat_validMap (validMap s)
  match bootProfile s with
  | (none, s) => bootStop s 5
  | (some (k, source), s) =>
    let s := if s.sec.warmBoot || (bootRecord s).lastProfile == k then s else updateRecord s fun r => { r with lastProfile := k }
    let img := profileImage s k
    let body := imageBody fw.management
    let s := dramStore s 0x20000000 body []
    let s := { s with sec := { s.sec with measured := [(2, fw.security), (3, fw.management), (4, img)], mgmtHash := sha256 body } }
    let s := fillSystemSlots (bindMailboxes s)
    let s := { s with
      sec := { s.sec with released := true },
      pmu := { s.pmu with on := s.pmu.on ++ [.mgmt] },
      lrs := { s.lrs with beats := List.replicate 8 s.clk.us, written := [], sinceFailure := s.clk.us },
      age := { s.age with fwStart := s.clk.us } }
    answerHeld (mbxInterrupts (setF (applyProfile s k source img) F.prfBoot_stage 7) ((List.range 8).map idMc))

/-- R425, R428, R590 steps 3 to 7: the security core boots from ROM; it waits at step 3 until the DRAM is READY. Log 10 (DESIGN CHOICE), 139 (DEDUCED). -/
def securityBoot (s : State) : State :=
  if s.sec.released || s.lrs.bootStopped || !domainOn s .sec || decide (2 ≤ pmuState s) then s
  else
    match chooseSlot s with
    | none => bootStop s 2
    | some (k, fallback) =>
      let fw := fwSlotOf s k
      let s := setF (setF (setF s F.secLc_bootSlot (k - 1)) F.secLc_fallback (b2n fallback)) F.secLc_rootIdx (imageKeyIdx fw.security)
      let s := { s with sec := { s.sec with
        secDigest := sha384 fw.security, secFlags := imageFlags fw.security, secSvn := imageSvn fw.security,
        aliasSerial := if getF s F.prfBoot_stage < 3 then s.sec.aliasSerial + 1 else s.sec.aliasSerial } }
      let s := setF s F.prfBoot_stage 3
      if dramReady s then bootOn s fw else s

def onSecurityBoot (s : State) : State := securityBoot s

/-- R499, R16, R300: the rise of VDD_AON with the straps as sampled; where it was on, it falls first. The first power-up of a BLANK device clears OPHOURS and
PWRCYC, of which it is the first. Log 139 (DEDUCED), 152 (DESIGN CHOICE). -/
def onColdReset (profileSel role devId : Nat) (s : State) : State :=
  let s := if s.pmu.off then s else onPowerLoss s
  let first := !s.clk.powered && lifecycle s == 0
  let oph := if first then 0 else s.clk.ophours
  let cyc := if first then 1 else min (s.clk.pwrcyc + 1) 0xFFFFFF
  let s := { s with
    clk := { s.clk with ophours := oph, pwrcyc := cyc, powered := true },
    age := { s.age with history := appendHistory s.age.history oph cyc },
    straps := ⟨profileSel % 4, role % 4, devId % 16⟩,
    sec := { s.sec with warmBoot := false },
    pmu := { s.pmu with off := false } }
  securityBoot (powerUp s)

/-- R499, R609: SHELF_RST_N low: the bays are drained (`fails` are the operations that fail meanwhile), ready journal pages programmed, the DRAM enters self-refresh, and every domain but PD_AON is
reset. -/
def onShelfRstAssert (fails : List (Nat × Nat × Bool)) (s : State) : State :=
  if s.lrs.shelfReset then s
  else
    let s := programPage (drainBays s fails)
    let s := selfRefreshEnter s false
    let s := baysOff (dropRelocs s) false
    let s := dropDeep (dropBlocks s)
    let s := setBit { s with regs := resetRegs .shelf s.regs } F.rstCause_shelf
    loadDerived { s with
      pmu := { s.pmu with on := [] },
      lrs := { s.lrs with shelfReset := true, perst := false } }

/-- R499: SHELF_RST_N rises: the straps are latched, and the device continues as COLD from domain power-up. -/
def onShelfRstRelease (profileSel role devId : Nat) (s : State) : State :=
  if !s.lrs.shelfReset then s
  else
    let s := { s with
      straps := ⟨profileSel % 4, role % 4, devId % 16⟩,
      sec := { s.sec with warmBoot := false },
      lrs := { s.lrs with shelfReset := false } }
    securityBoot (powerUp (clrF s F.slkErr_strap))

/-- R499: PERST# asserted: a WARM reset, whose drain the operations of `fails` end failed. During a SHELF reset it is absorbed. -/
def onPerstAssert (fails : List (Nat × Nat × Bool)) (s : State) : State :=
  if s.lrs.perst || s.lrs.shelfReset then s
  else
    let s := selfRefreshEnter (drainBays s fails) false
    let s := baysOff (dropRelocs s) true
    let s := dropWarm (dropBlocks s)
    let s := setBit { s with regs := resetRegs .warm s.regs } F.rstCause_warm
    loadDerived { s with pmu := { s.pmu with on := [.host] }, lrs := { s.lrs with perst := true } }

/-- R499, R500: PERST# rises: configuration space returns, the DMC leaves self-refresh with the stored training, and the security core boots. Log 139 (DEDUCED). -/
def onPerstRelease (storeParity : Bool) (s : State) : State :=
  if !s.lrs.perst then s
  else
    let s := { s with lrs := { s.lrs with perst := false }, sec := { s.sec with warmBoot := true } }
    securityBoot (selfRefreshExit (powerUp s) storeParity)

/-- The zones of the journal come back into the Zone Map and the Zone State Table (R58, R590 step 9); physical zones that no zone holds keep their
substitutions. -/
def reloadMetadata (s : State) : State :=
  let zs := s.jrn.zones
  let bound : Sparse ZstEntry := zs.foldl (fun m kv =>
    match kv.2.zst with
    | some z => if kv.2.map.bound then spPut m kv.2.map.pzn z else m
    | none => m) []
  let free := s.zrs.zst.filter fun kv => (spFind bound kv.1).isNone
  let loose := free.filter fun kv => kv.2.bound
  let zst := free.foldl (fun m kv =>
    spSet freshZst m kv.1 (if kv.2.bound then { freshZst with subst := kv.2.subst } else kv.2)) bound
  let map := zs.foldl (fun m kv => spSet ⟨0, false, false, 0⟩ m kv.1 kv.2.map) []
  let s := { s with zrs := { s.zrs with map := map, zst := zst }, nss := s.jrn.nss }
  forEach loose s fun s kv => dropZoneWork (dirtyZone s kv.1 kv.2) kv.1

/-- The reservation horizon a zone is recovered against (R65): the journal's, or, after a WARM reset, WP_PHYS as the drain left it. -/
def recoveryHorizon (s : State) (ezn : Nat) (z : ZstEntry) : Nat :=
  if s.sec.warmBoot then z.wpPhys else match spFind s.jrn.zones ezn with | some j => recHorizon j | none => 0

/-- R65: one zone at recovery. Log 31 (DEDUCED). -/
def recoverZone (s : State) (ezn : Nat) : State :=
  match boundZone s ezn with
  | none => s
  | some (_, z) =>
    let d := z.durableHr * hrSlots z.tier
    let lostFull := z.state == .full && decide (d < z.wpPhys)
    if !isActiveState z.state && !lostFull then s
    else if d < recoveryHorizon s ezn z ∨ lostFull = true then
      let s := modZone s ezn fun z => { z with state := .full, finished := true, wpHost := durableOffsets z, wpPhys := d }
      journalZone (zoneChanged s ezn) ezn
    else if z.wpPhys = 0 then journalZone (releaseBinding s ezn) ezn
    else journalZone (modZone s ezn fun z => { z with state := .closed }) ezn

/-- R429: the fuses of ADVANCE and REVOKE, one at a time; a read-back that fails raises OTP_FAULT. -/
def blowFuses (s : State) (ok : Bool) : State :=
  let s := if bitAt s.sec.secFlags 0 && decide (s.otp.arb < s.sec.secSvn) then blow s ok fun o => { o with arb := s.sec.secSvn } else s
  let mask := field s.sec.secFlags 7 4
  if mask = 0 then s else blow s ok fun o => { o with revoke := o.revoke ||| mask }

/-- Each bay that is enabled is ready or has failed (R590 step 8). -/
def baysSettled (s : State) : Bool :=
  (enabledBays s).all fun b => match (bayOf s b).phase with | .ready | .failed => true | _ => false

/-- R429, R590 steps 9 and 10: management firmware reports boot complete: the metadata is reloaded from the journal (not after WARM), every active zone is
recovered (R65), BOOT_OK sets, the fuses are blown, and admission is enabled. It follows an epoch tick after the profile was applied. A journal
that cannot rebuild the metadata stops the boot (R591). Log 138 (DEDUCED). -/
def onBootCompleteReport (journalBad readBackOk : Bool) (s : State) : State :=
  if !s.sec.released || s.lrs.bootStopped || getF s F.prfBoot_stage == 10 || !dramReady s || !baysSettled s || decide (s.clk.lastTick ≤ s.age.fwStart) then s
  else if journalBad && !s.sec.warmBoot then bootStop s 6
  else
    let s := if s.sec.warmBoot then s else reloadMetadata s
    let s := forEach (s.zrs.map.map (·.1)) s recoverZone
    let s := blowFuses (setBit s F.secLc_bootOk) readBackOk
    let s := setF s F.prfBoot_stage 10
    let s := { s with hif := { s.hif with fetchStopped := false, admissionStopped := false } }
    let s := forEach (funcsOf s) s fun s f =>
      let x := funcOf s f
      if ccEn x then putFunc s f { x with regs := { x.regs with rdy := true } } else s
    sanitizeAdvance s

end Sys2Proof.Machine
end

