-- ==== Sys2Proof/Machine/SlkBase.lean ====
section
/-!
DEFINITION. The Saosh link's shared operations (chapter 18): ports going up and down, the wiring rule, peers lost, terms and stepping down, joins, and
accesses to a peer's mailboxes.
-/

namespace Sys2Proof.Machine

open Sys2Proof

/-- SLK_JOIN_INFO: the DEV_ID of the last refused join, and its cause (R578). Log 16 (DEDUCED). -/
def F.slkJoinInfo_dev : Fld := ⟨0x1001600060, 3, 0⟩
/-- SLK_JOIN_INFO: the cause of the last refused join. Log 16 (DEDUCED). -/
def F.slkJoinInfo_cause : Fld := ⟨0x1001600060, 6, 4⟩

/-- This device leads (R543, R576). -/
def isLeader (s : State) : Bool := flag s F.slkLeader_isLeader

/-- The DEV_ID of the leader (R576). -/
def leaderId (s : State) : Nat := getF s F.slkLeader_leader

/-- Saosh runs here: a cascade, with PD_SLK on (R32, R541). -/
def slkOn (s : State) : Bool := !standalone s && domainOn s .slk

/-- A port in a state, with its SLK_PORT_STAT (R574). -/
def portTo (s : State) (p : Nat) (st : PortState) (x : Port) : State :=
  let code := match st with | .off => 0 | .train => 1 | .up => 2 | .down => 3 | .failed => 4
  setF (putPort s p { x with st := st }) (F.slkPortStat_state p) code

/-- A route to a device exists: SLK_ROUTE names a port that is up (R547, R556). -/
def routeUp (s : State) (d : Nat) : Bool := flag s (F.slkRoute_valid d) && (portOf s (getF s (F.slkRoute_port d))).st == .up

/-- A device's chain and its position there in a hierarchy (R546); the manager has position 0. -/
def chainOfDev (d : Nat) : Nat := (d - 1) / 4
def placeOfDev (d : Nat) : Nat := if d = 0 then 0 else (d - 1) % 4 + 1

/-- What may stand at the other end of a port: device, role and port (R545, R546). Log 143 (DEDUCED). -/
def wiringPeers (role dev p : Nat) : List (Nat × Nat × Nat) :=
  if role = 1 then
    (if p = 0 then [(1, 2, 0)] else if p = 1 then [(1, 2, 1), (2, 2, 1), (3, 2, 1)] else [])
  else if role = 2 then
    (if p = 0 then [if dev = 1 then (0, 1, 0) else (dev - 1, 2, 1)]
    else if p = 1 then (if dev < 3 then [(dev + 1, 2, 0)] else []) ++ [(0, 1, 1)]
    else [])
  else if role = 3 then
    (if dev = 0 then (if p < 4 then [(4 * p + 1, 3, 0)] else [])
    else
      let c := chainOfDev dev
      let k := placeOfDev dev
      let other := fun (c : Nat) => if 4 * c + k ≤ 15 then [4 * c + k] else []
      if p = 0 then [if k = 1 then (0, 3, c) else (dev - 1, 3, 1)]
      else if p = 1 then (if k < 4 ∧ dev < 15 then [(dev + 1, 3, 0)] else [])
      else if p = 2 then (other ((c + 1) % 4)).map fun d => (d, 3, 3)
      else if p = 3 then (other ((c + 3) % 4)).map fun d => (d, 3, 2)
      else [])
  else []

/-- Links on the path between two devices by the wiring rule, rings and cross links left aside (R545, R546, R559). Log 160 (DEDUCED). -/
def linksBetween (role a b : Nat) : Nat :=
  if role = 3 then
    (if a = 0 ∨ b = 0 ∨ chainOfDev a ≠ chainOfDev b then placeOfDev a + placeOfDev b
    else max a b - min a b)
  else max a b - min a b

/-- A command forwarded to a device ends here with CASCADE_MEMBER_LOST (R565). -/
def failForwarded (s : State) (p : CmdSlot → Bool) : State :=
  let mine := s.hif.slots.filter fun kv => kv.2.phase == .waitMembers && p kv.2
  forEach mine s fun s kv => finish s kv.1 .cascadeMemberLost

/-- The slots that wait for an ADMIN_CPL of a device. -/
def awaiting (s : State) (d : Nat) : List Nat := (s.slk.adminWaits.filter fun kv => kv.2.contains d).map (·.1)

/-- An ADMIN_CPL of a device is in, or will not come (R560): the slot that waited for the last of them goes on, once the journal holds what it
changed. -/
def adminAnswered (s : State) (n d : Nat) : State :=
  let left := ((spFind s.slk.adminWaits n).getD []).erase d
  if !left.isEmpty then { s with slk := { s.slk with adminWaits := spPut s.slk.adminWaits n left } }
  else
    let s := { s with slk := { s.slk with adminWaits := spErase s.slk.adminWaits n } }
    match slotOf s n with
    | some c =>
      if c.phase == .waitMembers || (c.phase == .waitJournal && s.jrn.waiting.isEmpty) then finish s n (c.failed.getD .success) else s
    | none => s

/-- What a device will not answer goes on with CASCADE_MEMBER_LOST where an ADMIN_CPL of it is awaited. -/
def adminLost (s : State) (d : Nat) : State :=
  forEach (awaiting s d) s fun s n =>
    forEach (((spFind s.slk.adminWaits n).getD []).filter (· == d)) (noteStatus s n .cascadeMemberLost) fun s _ => adminAnswered s n d

/-- The flits of a queue without the message of a class and an origin that is not all there: those after the last LAST of it. -/
def wholeOnly (rsp : Bool) (origin : Nat) (q : List Flit) : List Flit :=
  let mine := fun (f : Flit) => f.rsp == rsp && f.origin == origin
  (q.foldr (fun f (a : Bool × List Flit) =>
    if !mine f then (a.1, f :: a.2) else if a.1 || f.last then (true, f :: a.2) else a) (false, [])).2

/-- What a port that goes down leaves at another port that passes its messages on: those that are all there go on, and no credit goes back for them. Log 156 (DEDUCED). -/
def leaveOrigin (p : Nat) (x : Port) : Port :=
  let q := wholeOnly true (p + 1) (wholeOnly false (p + 1) x.queue)
  let still := fun (rsp : Bool) (o : Option Nat) =>
    if o = some (p + 1) then (if q.any fun f => f.rsp == rsp && f.origin == p + 1 && !f.first then some (p + 5) else none) else o
  { x with
    queue := q.map fun f => if f.origin = p + 1 then { f with origin := p + 5 } else f,
    openReq := still false x.openReq, openRsp := still true x.openRsp }

/-- The flits that a port going down keeps for its return: those of every message but the ones it was in the midst of (R552). Log 156 (DEDUCED). -/
def keptQueue (x : Port) : List Flit :=
  let cut := fun (rsp : Bool) (q : List Flit) =>
    match openOf x rsp with
    | none => q
    | some o => (q.foldl (fun (a : Bool × List Flit) f =>
        if a.1 && f.rsp == rsp && f.origin == o then (!f.last, a.2) else (a.1, a.2 ++ [f])) (true, [])).2
  cut true (cut false x.queue)

/-- A message that was to leave by a port that goes down is discarded as far as it has not arrived. Log 156 (DEDUCED). -/
def dropWay (p : Nat) (x : Port) : Port :=
  { x with wayReq := if x.wayReq = .pass p then .drop else x.wayReq, wayRsp := if x.wayRsp = .pass p then .drop else x.wayRsp }

/-- A port leaves UP (R552): its replay buffer is discarded, and the messages that it was in the midst of sending or receiving are too. Log 156 (DEDUCED). -/
def emptyPort (s : State) (p : Nat) : State :=
  let x := portOf s p
  let s := { s with slk := { s.slk with ports := spMap s.slk.ports fun q y => if q = p then y else dropWay p (leaveOrigin p y) } }
  let s := forEach (x.queue.filter fun f => !(keptQueue x).contains f) s creditBack
  putPort s p { noPort with st := x.st, since := x.since, lastGood := x.lastGood, queue := keptQueue x }

/-- A port goes DOWN (R552, R565): what it holds is discarded, and every forwarded command whose route used it ends, but toward a peer that has
departed. Log 156 (DEDUCED). -/
def portDown (s : State) (p : Nat) (bit : Fld) : State :=
  let uses := fun (s : State) (d : Nat) =>
    flag s (F.slkRoute_valid d) && getF s (F.slkRoute_port d) == p && (peerOf s d).cond != .departed
  let s := emptyPort (slkErr s bit) p
  let s := portTo s p .down { portOf s p with since := s.clk.us }
  let s := failForwarded s fun c => match c.remote with
    | some d => uses s d
    | none => false
  forEach ((List.range 16).filter (uses s)) s adminLost

/-- A peer is lost (R564, R565, R567): commands to its zones end, what waits for its ADMIN_CPL goes on with CASCADE_MEMBER_LOST, and it counts as reset
for its mailbox channels (R470). -/
def peerLost (s : State) (d : Nat) : State :=
  let s := putPeer s d { peerOf s d with cond := .lost, lostAt := s.clk.us, wakeAt := none }
  let s := adminLost (failForwarded s fun c => c.remote == some d) d
  resetParties s [idPeer d]

/-- The term of this device becomes `t`, a 16-bit count; each device's journal keeps it (R568). Log 163 (DEDUCED). -/
def setTerm (s : State) (t : Nat) : State :=
  let t := t % 2 ^ 16
  if s.slk.term = t then s else journal (setF { s with slk := { s.slk with term := t } } F.slkLeader_term t) (.term t)

/-- R571: a device that acts as leader steps down: fetch stops, and its admitted commands complete first. Log 163 (DEDUCED). -/
def stepDown (s : State) : State :=
  if !isLeader s then s
  else
    let s := setF s F.slkLeader_isLeader 0
    settleStepDown { s with hif := { s.hif with fetchStopped := true }, slk := { s.slk with claimed := false, stepping := true } }

/-- A term seen in a message (R568, R571): the highest is adopted, and a leader that sees a higher one steps down. -/
def noteTerm (s : State) (t : Nat) : State := if t ≤ s.slk.term then s else setTerm (stepDown s) t

/-- The body of a JOIN (R556): DEV_UID, DEV_ID, ROLE, BAYS_EN, lifecycle, journal TERM, the ephemeral key and the certificate chain. Log 17 (DEDUCED). -/
def joinBody (uid dev role bays lc term : Nat) (pub chain : List Byte) : List Byte :=
  beBytes 8 uid ++ leBytes 1 dev ++ leBytes 1 role ++ leBytes 1 bays ++ leBytes 1 lc ++ leBytes 2 term ++ pub ++ chain

/-- An ALIAS384 signature of this device over bytes (R431, R556). -/
def aliasSign (s : State) (bytes : List Byte) : List Byte × State :=
  let (k, s) := drawBytes s 56
  (ecdsaSign p384 (aliasPrivate s true) (ecPrivate p384 k) (sha384 bytes), s)

/-- A member sends JOIN to its leader where a route exists (R556); a device whose boot has stopped joins none (R591). -/
def sendJoin (s : State) : State :=
  if !slkOn s || isLeader s || s.slk.stepping || s.lrs.bootStopped || !routeUp s (leaderId s) then s
  else
    let (k, s) := drawBytes s 56
    let eph := ecPrivate p384 k
    let s := { s with slk := { s.slk with eph := some eph, triedAt := some s.clk.us } }
    let body := joinBody s.otp.devUid.toNat (devId s) s.straps.role s.otp.baysEn (lifecycle s) s.slk.term (ecPublic p384 eph) (certChain s 0)
    let (sig, s) := aliasSign s body
    slkSend s (leaderId s) 0x01 0 (body ++ sig)

/-- The member's leader is not joined (R556). -/
def unjoined (s : State) : Bool := !isLeader s && !peerLive s (leaderId s)

/-- The pair key (R556): HKDF-SHA-384 over the shared secret, with both DEV_UIDs as the salt and the term in the info. -/
def pairKeyOf (leaderUid memberUid term : Nat) (secret : List Byte) : List Byte :=
  hkdf384 (beBytes 8 leaderUid ++ beBytes 8 memberUid) secret (ascii "EY6408-SAOSH" ++ leBytes 2 term) 32

/-- The security core writes the pair key into system slot 4,100 + the other's DEV_ID, and the peer is LIVE with its counts at 0 (R556, R557, R564); what
its mailbox channels would announce is announced (R563). None where the Tack Room does not take the key now. Log 158 (DEDUCED). -/
def joinPeer (s : State) (d uid : Nat) (key : List Byte) : Option State :=
  match tkrDo s 1 (4100 + d) 0 key with
  | some (_, s) =>
    some (mbxNotices (putPeer s d ⟨.live, BitVec.ofNat 64 uid, 0, 0, s.clk.us, none, 0⟩) d)
  | none => none

/-- SLK refuses a join (R556, R578). Log 158 (DEDUCED). -/
def refuseJoin (s : State) (d cause : Nat) : State :=
  setF (setF (slkErr s F.slkErr_join) F.slkJoinInfo_dev d) F.slkJoinInfo_cause cause

/-- The device and the MBX offset of an access to a peer's mailboxes through the SLK window (R563). -/
def peerTarget (addr : Nat) : Nat × Nat :=
  let off := (addr - 0x1000000000) % 0x100000 - 0x80000
  (off / 0x4000, off % 0x4000)

/-- R563: an access of MC0 to MC7 to a peer's MBX goes as CSR_REQ; toward a device that is not joined it meets PWR_OFF, and any other master an error
response. Log 164 (DEDUCED). -/
def peerAccess (s : State) (m addr size : Nat) (write : Bool) (data : Word) : State :=
  let t := peerTarget addr
  if !isMc m || decide (16 ≤ t.1) then errorResponse s m addr
  else if !peerLive s t.1 then pwrOffResponse s m addr write
  else
    let (tag, s) := takeTag s
    let s := { s with slk := { s.slk with csrTags := spPut s.slk.csrTags tag m } }
    slkSend s t.1 0x30 tag (leBytes 1 (b2n write) ++ leBytes 1 size ++ leBytes 4 t.2 ++ leBytes 8 data.toNat)

end Sys2Proof.Machine
end

