-- ==== Sys2Proof/Machine/Csr.lean ====
section
/-!
DEFINITION. Accesses to the CSR space (R8, R9, R15, R497, R619 to R625): writes and reads by every master, the debug port (R441 to R445), and the
profile override (R586).
-/

namespace Sys2Proof.Machine

open Sys2Proof

/-- A write of a register is refused by its chapter's writer rule; MBX refuses the debug port's (R461). Log 149 (DEDUCED). -/
def writeRefused (s : State) (m addr : Nat) (name : String) : Bool :=
  let w := windowOf addr
  if m = idDebug ∧ debugReach s addr true = false then true
  else if w = 1 ∨ w = 2 then !pmuWriter s m
  else if w = 3 then m == idDebug
  else if w = 5 then m != idSec
  else if w = 7 then m != idSec
  else if w = 8 then m != idDebug
  else if w = 22 then !(isMc m || m == idDebug)
  else if name = "PRF_BOOT" then !(m == idSec || m == idMc 0)
  else if name = "CPH_MREQ" then !(isMc m || m == idVfm)
  else false

/-- A read of a register is refused: TKR answers the security core, and MC0 to MC7 for TKR_STAT and TKR_ERR (R409); DBG answers only the debug
port. Log 149 (DEDUCED). -/
def readRefused (s : State) (m addr : Nat) (name : String) : Bool :=
  let w := windowOf addr
  if m = idDebug then !debugReach s addr false
  else if w = 5 then !(m == idSec || (isMc m && (name == "TKR_STAT" || name == "TKR_ERR")))
  else w == 8

/-- The bits of a register that another row of the table writes: its commands, and what needs more than the word written. -/
def rowBits (name : String) : Word :=
  if name ∈ ["PMU_REQ", "RST_CTRL", "RST_HB", "MBX_BIND", "MBX_LOCK", "MBX_CTRL", "MBX_WORD", "MBX_CLAIM", "CSH_CLEAR", "CSH_RING", "CSH_DRAIN",
      "CSH_CURSOR", "SEC_ALARM_ACT", "SBG_ALLOC_SIZE", "SBG_FREE", "VFM_RECONF", "RCH_TRIM_DATA", "PRF_SEL", "SLK_REMOVE"] then BitVec.allOnes 64
  else if name = "TKR_STAT" then fieldMask F.tkrStat_alarmLock.hi F.tkrStat_alarmLock.lo
  else if name = "TKR_CMD" then fieldMask 63 63
  else if name = "VFM_MIG_CTRL" then fieldMask F.vfmMigCtrl_go.hi F.vfmMigCtrl_go.lo
  else if name = "MHM_WALK" then fieldMask F.mhmWalk_run.hi F.mhmWalk_run.lo ||| fieldMask F.mhmWalk_stop.hi F.mhmWalk_stop.lo
  else if name = "MEP_SCRUB_CTRL" then fieldMask F.mepScrubCtrl_start.hi F.mepScrubCtrl_start.lo ||| fieldMask F.mepScrubCtrl_stop.hi F.mepScrubCtrl_stop.lo
  else if name = "MEP_FLIP" then fieldMask F.mepFlip_arm.hi F.mepFlip_arm.lo ||| fieldMask F.mepFlip_disarm.hi F.mepFlip_disarm.lo
  else if name = "DBG_UNLOCK" then fieldMask F.dbgUnlock_req.hi F.dbgUnlock_req.lo ||| fieldMask F.dbgUnlock_relock.hi F.dbgUnlock_relock.lo
  else 0

/-- The scrub is running or suspended: its range is fixed (R345). -/
def scrubFixed (s : State) : Bool := getF s F.mepScrubCtrl_status == scrubRunning || getF s F.mepScrubCtrl_status == scrubSuspended

/-- The bits of a register whose write has no effect as the device stands: a walk's cursor while it runs (R309), a scrub's range while it runs (R345),
injection where it is not allowed (R334), a SOFT_RESERVE above 15 (R270). -/
def deadBits (s : State) (name : String) (data : Word) : Word :=
  if name = "MHM_WALK" ∧ flag s F.mhmWalk_run = true then fieldMask F.mhmWalk_cursor.hi F.mhmWalk_cursor.lo
  else if name ∈ ["MEP_SCRUB_ADDR", "MEP_SCRUB_LEN"] ∧ scrubFixed s = true then BitVec.allOnes 64
  else if name = "MEP_SCRUB_CTRL" ∧ scrubFixed s = true then fieldMask F.mepScrubCtrl_space.hi F.mepScrubCtrl_space.lo
  else if name = "MEP_FLIP" ∧ injectAllowed s = false then BitVec.allOnes 64
  else if name = "RCH_LDPC" ∧ 15 < field data.toNat F.rchLdpc_softReserve.hi F.rchLdpc_softReserve.lo then
    fieldMask F.rchLdpc_softReserve.hi F.rchLdpc_softReserve.lo
  else 0

/-- PMU_CLK (R493): a PLL that EN stops loses lock and its clock; SEL takes a 1 only where LOCK is 1. -/
def writeClk (s : State) (mask data : Word) : State :=
  let a := F.pmuClk_en.addr
  let w := (regVal s a &&& ~~~ mask) ||| (data &&& mask)
  let en := field w.toNat 3 0
  let lock := (BitVec.ofNat 64 (getF s F.pmuClk_lock) &&& BitVec.ofNat 64 en).toNat
  let sel := (BitVec.ofNat 64 (field w.toNat 19 16) &&& BitVec.ofNat 64 lock).toNat
  setF (setF (setF s F.pmuClk_en en) F.pmuClk_lock lock) F.pmuClk_sel sel

/-- FCH_DIE_CFG.INSERVICE (R213): cleared, it takes the die out of service; a write of 1 to an absent die has no effect. -/
def writeDieCfg (s : State) (d : Nat) (data : Word) : State :=
  if !data.getLsbD 4 then dieOut s d
  else if diePresent s d && !dieInService s d then setDieStat (setBit s (F.fchDieCfg_inservice (dieChannel d) (diePos d))) d 0
  else s

/-- A word of a descriptor (R215): refused while a die it is bound to has an operation in progress or suspended; the last word validates it. -/
def writeDescWord (s : State) (d : RegDef) (addr i : Nat) (mask data : Word) : State :=
  let bay := i / 512
  let k := i % 512 / 64
  if descInUse s bay k then chanFault s F.fchErr_descBusy (16 * bay) 0
  else
    let s := takeWrite s d addr mask data
    if i % 64 = 63 then validateDesc s bay k else s

/-- A register takes a write (R8). Log 13 (DESIGN CHOICE). -/
def writeReg (s : State) (m : Nat) (d : RegDef) (addr i : Nat) (mask data : Word) : State :=
  let live := mask &&& ~~~ (rowBits d.name ||| deadBits s d.name data)
  if d.name = "PMU_CLK" then writeClk s mask data
  else if d.name = "FCH_DIE_CFG" then writeDieCfg s i data
  else if d.name = "FCH_DESC" then writeDescWord s d addr i mask data
  else if d.name = "MBX_MASK" then writeMask s m ((mbxMask s m &&& ~~~ mask) ||| (data &&& mask))
  else if d.name = "MBX_DONE" then { s with mbx := { s.mbx with done := spSet 0#64 s.mbx.done m (mbxDone s m &&& ~~~ (data &&& mask)) } }
  else if d.name = "MBX_STAT" then (if isParty s i m then mbxStatWrite s m i data else mbxRefuse s F.mbxErr_notBound i m addr)
  else if d.name = "DBG_RESP" then (if i < 31 then { s with dbg := { s.dbg with resp := spPut s.dbg.resp i (data.truncate 32) } } else s)
  else if d.name = "DMC_REFRESH" then holdMult (takeWrite s d addr live data)
  else if d.name = "MEP_FLIP" then
    let s := takeWrite s d addr live data
    if getF s F.mepFlip_mask = 0 then clrF s F.mepFlip_arm else s
  else if d.name = "CPH_MREQ" then queueDescriptor s m data.toNat
  else if d.name = "TKR_CMD" then
    let s := takeWrite s d addr live data
    let op := field data.toNat 51 48
    if (data &&& mask).getLsbD 63 && !(decide (1 ≤ op ∧ op ≤ 5)) then tkrCommand s m op 0 0 0 false else s
  else if d.name = "VFM_MIG_CTRL" then
    let go := (data &&& mask).getLsbD F.vfmMigCtrl_go.lo
    if flag s F.vfmMigCtrl_go && go then setF s F.vfmMigStat_err 1
    else
      let s := takeWrite s d addr live data
      if go && !(decide (1 ≤ getF s F.vfmMigCtrl_op ∧ getF s F.vfmMigCtrl_op ≤ 4)) then migEnd s 2 0 else s
  else if d.name = "FCH_CTRL" then
    let off := flag s (F.fchCtrl_enable i) && !data.getLsbD 13 && mask.getLsbD 13
    let s := takeWrite s d addr (live &&& ~~~ fieldMask 13 13) data
    if off then onChannelDisable m i s else if mask.getLsbD 13 && data.getLsbD 13 then setBit s (F.fchCtrl_enable i) else s
  else takeWrite s d addr live data

/-- The response to a refused write: the host sees none (R625). TKR records what it refuses (R409). Log 147 (DEDUCED). -/
def refuseWrite (s : State) (m addr : Nat) : State :=
  let s := if windowOf addr = 5 ∧ m ≠ idSec then tkrFault s F.tkrErr_refused 0 m else s
  refuse s m addr

/-- A write that lies in one 4-byte word, or in one 64-bit register. -/
def writePart (s : State) (m addr : Nat) (wide : Bool) (data : Word) : State :=
  match regAt addr with
  | some (d, i) =>
    if writeRefused s m addr d.name then refuseWrite s m addr
    else if d.wide && wide then writeReg s m d addr i (BitVec.allOnes 64) data
    else writeReg s m d addr i 0xFFFFFFFF#64 data
  | none =>
    match (if addr % 8 = 4 then regAt (addr - 4) else none) with
    | some (d, i) =>
      if !d.wide then s
      else if writeRefused s m (addr - 4) d.name then refuseWrite s m addr
      else writeReg s m d (addr - 4) i 0xFFFFFFFF00000000#64 (data <<< 32)
    | none => if writeRefused s m addr "" then refuseWrite s m addr else s

/-- What every CSR access meets first (R15, R20, R102, R497, R620 to R625); `f` is the access itself. Log 147 (DEDUCED). -/
def csrGate (s : State) (m addr size : Nat) (write : Bool) (f : State → State) : State :=
  if addr < 0x1000000000 then s
  else if reservedMaster m then badMaster s m addr
  else if m = idHostVf then (if write then s else emit s (.readResponse m 0))
  else if m = idHostPf ∧ domainOn s .data = false then refusedOff s 0 (barOffset addr) write
  else if !(size == 4 || size == 8) || addr % size != 0 then
    (if m = idHostPf then emit s (.completerAbort 0 (barOffset addr)) else errorResponse s m addr)
  else if 0x1001800000 ≤ addr then errorResponse s m addr
  else if m = idHostPf ∧ hostVisible addr = false then (if write then s else emit s (.readResponse m 0))
  else if !routed s m addr || !windowOn s addr then pwrOffResponse s m addr write
  else f s

/-- R8, R620, R624: a CSR write of 4 or 8 bytes. Eight bytes to two 32-bit registers are two accesses, the lower address first. -/
def csrWrite (s : State) (m addr size : Nat) (data : Word) : State :=
  csrGate s m addr size true fun s =>
    let slk := (addr - 0x1000000000) % 0x100000
    if windowOf addr = 22 ∧ 0x80000 ≤ slk ∧ slk < 0xC0000 then peerAccess s m addr size true data
    else if windowOf addr = 3 ∧ mbxReached s m = false ∧ m ≠ idDebug then pwrOffResponse s m addr true
    else if size = 4 then writePart s m addr false (data &&& 0xFFFFFFFF#64)
    else
      match regAt addr with
      | some (d, _) => if d.wide then writePart s m addr true data
        else writePart (writePart s m addr false (data &&& 0xFFFFFFFF#64)) m (addr + 4) false (data >>> 32)
      | none => writePart (writePart s m addr false (data &&& 0xFFFFFFFF#64)) m (addr + 4) false (data >>> 32)

/-- A CSR write as a command. Log 13, 166 (DESIGN CHOICE). -/
def onCsrWrite (master addr size : Nat) (data : Word) (s : State) : State := csrWrite s master addr size data

/-- A count saturated to 16 bits. -/
def sat16 (n : Nat) : Nat := min n 0xFFFF

/-- The counts of the selected die over the last complete epoch (R245, R246, R272 to R274). -/
def countWord (s : State) (name : String) : Word :=
  let c := spGet noCounts s.rch.latched (getF s F.rchStatIdx_die)
  let four := fun (a b x y : Nat) => BitVec.ofNat 64 (sat16 a + sat16 b * 2 ^ 16 + sat16 x * 2 ^ 32 + sat16 y * 2 ^ 48)
  if name = "RCH_FRAME_CNT" then four c.found c.shifted c.early c.missed
  else if name = "RCH_TRACK_CNT" then four c.dodges c.burns c.probes c.fogPartial
  else if name = "RCH_DEC_CNT0" then four c.hardOk c.hardFail c.softOk c.softFail
  else if name = "RCH_DEC_CNT1" then four c.rebuildOk c.rebuildFail c.miscorrect c.unrecovered
  else BitVec.ofNat 64 (min c.corrBits 0xFFFFFFFF + sat16 c.maxCorr * 2 ^ 32)

/-- The trims that RCH_TRIM_IDX selects (R242, R243). -/
def trimWord (s : State) : Word :=
  match tierOf (getF s F.rchTrimIdx_tier) with
  | some t => trimSet s (trimKey (getF s F.rchTrimIdx_die) t (getF s F.rchTrimIdx_bin))
  | none => 0

/-- VFM_RECONF as it reads: QUIET is that of the stopped queues now (R135). -/
def quietWord (s : State) (w : Word) : Word := (w &&& ~~~ fieldMask 16 16) ||| BitVec.ofNat 64 (b2n (quietNow s) * 2 ^ 16)

/-- What a register reads as to a master (R8): banked and computed registers, else the stored fields. -/
def readReg (s : State) (m : Nat) (d : RegDef) (addr i : Nat) : Word :=
  if d.name = "MBX_PEND" then mbxPend s m
  else if d.name = "MBX_DONE" then mbxDone s m
  else if d.name = "MBX_MASK" then mbxMask s m
  else if d.name = "MBX_STAT" then mbxStat s i
  else if d.name = "CSH_CURSOR" then BitVec.ofNat 64 ((readerOf s m).pos + (readerOf s m).wstat * 2 ^ 30)
  else if d.name = "CSH_WIN" then BitVec.ofNat 64 (leAt (readerOf s m).win (4 * i) 4)
  else if d.name = "RCH_TRIM_DATA" then trimWord s
  else if d.name ∈ ["RCH_FRAME_CNT", "RCH_TRACK_CNT", "RCH_DEC_CNT0", "RCH_DEC_CNT1", "RCH_DEC_CNT2"] then countWord s d.name
  else if d.name = "MEP_FLIP" ∧ injectAllowed s = false then 0
  else if d.name = "VFM_RECONF" then quietWord s (readWord d (regVal s addr))
  else readWord d (regVal s addr)

/-- A read of a register: its value, and its RC fields at their reset values in the half that is returned (R8, R624). The debug port's reads of MBX
clear nothing (R461). -/
def readPart (s : State) (m addr : Nat) (wide : Bool) : Option (Word × State) :=
  let take : RegDef → Nat → Nat → Word → Option (Word × State) := fun d a i mask =>
    if readRefused s m a d.name then none
    else some (readReg s m d a i &&& mask, if m = idDebug ∧ windowOf a = 3 then s else setReg s a (clearRc d i mask (regVal s a)))
  match regAt addr with
  | some (d, i) => take d addr i (if d.wide && wide then BitVec.allOnes 64 else 0xFFFFFFFF#64)
  | none =>
    match (if addr % 8 = 4 then regAt (addr - 4) else none) with
    | some (d, i) =>
      if !d.wide then some (0, s)
      else (take d (addr - 4) i 0xFFFFFFFF00000000#64).map fun (x : Word × State) => (x.1 >>> 32, x.2)
    | none => if readRefused s m addr "" then none else some (0, s)

/-- Two 32-bit registers read by one 8-byte access, the lower address first (R624). -/
def readPair (s : State) (m addr : Nat) : Option (Word × State) :=
  match readPart s m addr false with
  | none => none
  | some (lo, s) =>
    match readPart s m (addr + 4) false with
    | none => none
    | some (hi, s) => some (lo ||| hi <<< 32, s)

/-- The response to a read (R625): what was read, or all ones to the host where the target refuses. -/
def answerRead (s : State) (m addr : Nat) (r : Option (Word × State)) : State :=
  match r with
  | some (v, s) => emit s (.readResponse m v)
  | none => if m = idHostPf then emit s (.readResponse m 0xFFFFFFFF#64) else errorResponse s m addr

/-- A CSR read. A register whose read is a command of its own runs that command; a channel of MBX answers its parties and the debug port (R461). -/
def csrRead (s : State) (m addr size : Nat) : State :=
  csrGate s m addr size false fun s =>
    let slk := (addr - 0x1000000000) % 0x100000
    if windowOf addr = 22 ∧ 0x80000 ≤ slk ∧ slk < 0xC0000 then peerAccess s m addr size false 0
    else match regAt addr with
    | some (d, i) =>
      if readRefused s m addr d.name then answerRead s m addr none
      else if d.name = "MHM_WALK_OUT" then onWalkOutRead m s
      else if d.name = "SBG_ALLOC_RESULT" then onSbgAllocResultRead m s
      else if d.name = "MBX_CLAIM" then onMbxClaim i [m] s
      else if d.name = "MBX_WORD" then onMbxLastWordRead m (i / 16) (i % 16) s
      else if windowOf addr = 3 ∧ mbxReached s m = false ∧ m ≠ idDebug then pwrOffResponse s m addr false
      else if (d.name = "MBX_STAT" ∨ d.name = "MBX_CTRL") ∧ m ≠ idDebug ∧ isParty s i m = false then mbxRefuse s F.mbxErr_notBound i m addr
      else answerRead s m addr (if size = 8 then (if d.wide then readPart s m addr true else readPair s m addr) else readPart s m addr false)
    | none => answerRead s m addr (if size = 8 then readPair s m addr else readPart s m addr false)

/-- The CSR address that a slot of the PF's window shows (R619, R622); none for a reserved slot. -/
def windowAddr (off : Nat) : Option Nat :=
  let k := (off - 0x1000000) / 0x10000
  let low := off % 0x10000
  if 0x40 ≤ k ∧ k < 0x80 then some (0x1001000000 + (k - 0x40) * 0x10000 + low)
  else if k < 24 ∧ (windowSlot k == some k) = true then some (0x1000000000 + k * 0x100000 + low)
  else none

/-- An access to the PF's CSR window with PD_DATA on (R622). Log 42 (DEDUCED). -/
def windowAccess (s : State) (off size : Nat) (write : Bool) (data : Word) : State :=
  match windowAddr off with
  | some a => if write then csrWrite s idHostPf a size data else csrRead s idHostPf a size
  | none => if write then s else emit s (.barRead 0 0)

/-- R102, R621, R624: an access of 4 or 8 aligned bytes to BAR 0 of a function; PD_DATA off refuses what the mirror does not serve. An access beyond
the BAR, or to a VF that is not enabled, is an Unsupported Request. Log 42 (DEDUCED). -/
def onOffBarAccess (func offset size : Nat) (write : Bool) (data : Word) (s : State) : State :=
  if !funcExists s func || decide ((if func = 0 then 0x2000000 else 0x4000) < offset + size) then emit s (.note "unsupported request" func)
  else if !(size == 4 || size == 8) || offset % size != 0 then emit s (.completerAbort func offset)
  else if !domainOn s .data then offAccess s func offset size write data
  else if 0x1000000 ≤ offset then windowAccess s offset size write data
  else barAccess s func offset size write data

/-- R8: a read of a register with an RC field. -/
def onRcFieldRead (master addr size : Nat) (s : State) : State := csrRead s master addr size

/-- R15: an access that carries a reserved master ID is refused and recorded. -/
def onReservedMasterAccess (master addr : Nat) (_write : Bool) (s : State) : State :=
  if reservedMaster master then badMaster s master addr else s

/-- R497, R4: an access to a block whose domain is off, in reset or isolated, or to a fused channel. -/
def onPwrOffAccess (master addr : Nat) (write : Bool) (s : State) : State :=
  if reservedMaster master then badMaster s master addr
  else if master = idHostVf then s
  else if 0x1000000000 ≤ addr ∧ addr < 0x1001800000 ∧ windowOn s addr = false then
    (if master = idHostPf ∧ domainOn s .data = false then refusedOff s 0 (barOffset addr) write else pwrOffResponse s master addr write)
  else s

/-- Cores the port can halt: MC0 to MC7, CS0 to CS15; in BLANK the security core too (R441). -/
def haltable (s : State) (core : Nat) : Bool :=
  (isMc core && domainOn s .mgmt) || decide (0x30 ≤ core ∧ core ≤ 0x3F) || (core == idSec && lifecycle s == 0 && domainOn s .sec)

/-- The class and index of the SRAM buffer that an address lies in (R372). -/
def bufIn (ks : List Nat) (addr : Nat) : Option (Nat × Nat) :=
  (ks.find? fun k => decide (classBase k ≤ addr ∧ (addr - classBase k) / classBytes k < classCount k)).map fun k =>
    (k, (addr - classBase k) / classBytes k)

/-- On-chip SRAM as the port reaches it: the buffers of the classes RD_BLOCK and ING hold what the blocks there hold; the rest of the SRAM has no content the
spec gives, and reads as a free value. Log 150 (DESIGN CHOICE). -/
def sramRead (s : State) (addr : Nat) : Word × State :=
  match bufIn [0, 1, 2, 3, 4, 5] addr with
  | some (k, i) =>
    let off := addr - bufAddr k i
    let data : Option (List Byte) :=
      if k = 1 then (s.mep.pool.find? fun kv => kv.2.buf == i).map fun kv => kv.2.data
      else if k = 4 then (s.mep.ingest.find? fun kv => kv.2.buf == i).map fun kv => kv.2.data
      else none
    match data with
    | some bs => (BitVec.ofNat 64 (leAt bs off 8), s)
    | none => let (r, s) := draw s; (BitVec.ofNat 64 r, s)
  | none => let (r, s) := draw s; (BitVec.ofNat 64 r, s)

/-- A write of on-chip SRAM by the port reaches the block a buffer holds. -/
def sramWrite (s : State) (addr : Nat) (data : Word) : State :=
  match bufIn [0, 1, 2, 3, 4, 5] addr with
  | some (k, i) =>
    let off := addr - bufAddr k i
    let put := fun (bs : List Byte) => (bs.take off ++ leBytes 8 data.toNat ++ bs.drop (off + 8)).take bs.length
    if k = 1 then { s with mep := { s.mep with pool := spMap s.mep.pool fun _ x => if x.buf = i then { x with data := put x.data } else x } }
    else if k = 4 then { s with mep := { s.mep with ingest := spMap s.mep.ingest fun _ x => if x.buf = i then { x with data := put x.data } else x } }
    else s
  | none => s

/-- R441 to R445, R449, R450: an access of the debug port. What its level does not permit is not answered. Log 150 (DESIGN CHOICE). -/
def onDebugPortAccess (op : DebugOp) (s : State) : State :=
  let level := getF s F.dbgUnlock_level
  match op with
  | .csrRead addr size => if debugReach s addr false then csrRead s idDebug addr size else emit s (.note "debug refused" addr)
  | .csrWrite addr size data => if debugReach s addr true then csrWrite s idDebug addr size data else emit s (.note "debug refused" addr)
  | .stagingRead i =>
    if level = 0 then emit s (.note "debug refused" i)
    else forEach (List.range 8) s fun s k => emit s (.debugRead (8 * k) (BitVec.ofNat 64 (leAt (listAt [] s.csh.staging i) (8 * k) 8)))
  | .halt core =>
    if level = 2 && haltable s core then { s with dbg := { s.dbg with halted := addOnce s.dbg.halted core } } else emit s (.note "debug refused" core)
  | .step core => if level = 2 && s.dbg.halted.contains core then emit s (.note "debug step" core) else emit s (.note "debug refused" core)
  | .resume core =>
    if level = 2 && s.dbg.halted.contains core then startPending (resumeCores s fun m => m == core)
    else emit s (.note "debug refused" core)
  | .memRead dram addr =>
    if level ≠ 2 then emit s (.note "debug refused" addr)
    else if dram then
      if !dramReady s then pwrOffResponse s idDebug addr false
      else if usableDram < addr + 8 then errorResponse (dramRange s idDebug addr) idDebug addr
      else emit s (.debugRead addr (BitVec.ofNat 64 (ofLe (memBytes s addr 8))))
    else if !domainOn s .data then pwrOffResponse s idDebug addr false
    else
      let (v, s) := sramRead s addr
      emit s (.debugRead addr v)
  | .memWrite dram addr data =>
    if level ≠ 2 then emit s (.note "debug refused" addr)
    else if dram then
      if !dramReady s then pwrOffResponse s idDebug addr true
      else if usableDram < addr + 8 then errorResponse (dramRange s idDebug addr) idDebug addr
      else memWrite s addr (leBytes 8 data.toNat)
    else if !domainOn s .data then pwrOffResponse s idDebug addr true
    else sramWrite s addr data

/-- R586, R593: PRF_SEL takes the override from the PF or MC0 to MC7; COMMITTED clears until the boot record holds it. -/
def onPrfSelWrite (master : Nat) (valid : Bool) (next : Nat) (s : State) : State :=
  let a := F.prfSel_valid.addr
  csrGate s master a 4 true fun s =>
    if !(master == idHostPf || isMc master) then refuse s master a
    else clrF (setF (setF s F.prfSel_valid (b2n valid)) F.prfSel_next next) F.prfSel_committed

/-- R586: firmware writes the boot record with the newest override and sets COMMITTED. -/
def onBootRecordCommit (s : State) : State :=
  if !domainOn s .mgmt || flag s F.prfSel_committed then s
  else
    let v := flag s F.prfSel_valid
    let n := getF s F.prfSel_next
    setBit (updateRecord s fun r => { r with nextValid := v, nextProfile := n }) F.prfSel_committed

end Sys2Proof.Machine
end

