-- ==== Sys2Proof/Machine/SlkRows.lean ====
section
/-!
DEFINITION. The ports of the Saosh link (R547 to R553): training and IDENT, the flits received, replay and the loss of a port.
-/

namespace Sys2Proof.Machine

open Sys2Proof

/-- What an IDENT flit carries (R547): DEV_ID, ROLE, port number and DEV_UID. Log 153 (DEDUCED). -/
def identPayload (s : State) (p : Nat) : List Byte :=
  leBytes 1 (devId s) ++ leBytes 1 s.straps.role ++ leBytes 1 p ++ beBytes 8 s.otp.devUid.toNat

/-- R547, R548, R552: a port trains: from OFF, or a DOWN port once on its own; it sends IDENT. Log 165 (DESIGN CHOICE). -/
def onPortTraining (port : Nat) (s : State) : State :=
  let x := portOf s port
  if !slkOn s || decide (3 < port) || !portEnabled s port then s
  else
    let go := fun (again : Bool) (since : Nat) =>
      sendFlit (portTo s port .train { noPort with since := since, retrained := again, queue := x.queue }) port flitIdent { bareFlit with payload := identPayload s port }
    match x.st with
    | .off => go false s.clk.us
    | .down => go true x.since
    | _ => s

/-- R545 to R547, R553: every IDENT received is checked: a port that trains goes up with 256 credits of each class; on a mismatch it is FAILED. A member joins its
leader once a route to it exists (R556). Log 153 (DEDUCED). -/
def onIdent (port dev role rport _uid : Nat) (s : State) : State :=
  let x := portOf s port
  if !slkOn s || !(x.st == .train || x.st == .up) then s
  else if (wiringPeers s.straps.role (devId s) port).contains (dev, role, rport) then
    if x.st == .up then putPort s port { x with lastGood := s.clk.us }
    else
      let s := portTo s port .up { x with retrained := false, lastGood := s.clk.us, credReq := 256, credRsp := 256 }
      let s := pump (setF (setF s (F.slkPortStat_peerDev port) dev) (F.slkPortStat_peerPort port) rport) port
      if unjoined s && s.slk.eph.isNone then sendJoin s else s
  else
    let s := if x.st == .up then portDown s port F.slkErr_wiring else slkErr s F.slkErr_wiring
    portTo s port .failed (portOf s port)

/-- The CRC of a received flit passes and its type is one of R550. Log 154 (DEDUCED). -/
def flitGood (bytes : List Byte) : Bool :=
  bytes.length == 256 && leAt bytes 0xFC 4 == (crc32c (bytes.take 0xFC)).toNat && decide (leAt bytes 0 1 % 16 ≤ 4)

/-- The replay buffer once the flits up to an acknowledged SEQ are gone (R551). -/
def ackReplay (ack : Nat) (replay : List Flit) : List Flit :=
  match replay.findIdx? fun f => f.seq % 4096 == ack with
  | some i => replay.drop (i + 1)
  | none => replay

/-- What every flit delivers (R549, R551, R553): its ACK frees replay buffer entries, and its credits are usable. Log 155 (DEDUCED). -/
def takeFlit (s : State) (p : Nat) (bytes : List Byte) : State :=
  let x := portOf s p
  let acks := leAt bytes 6 2
  putPort s p { x with
    lastGood := s.clk.us,
    replay := if bitAt acks 15 then ackReplay (acks % 4096) x.replay else x.replay,
    credReq := x.credReq + leAt bytes 1 1, credRsp := x.credRsp + leAt bytes 2 1 }

/-- A MSG flit is discarded: the first discard after an accepted flit sends one NAK, whose ACK names the last accepted SEQ (R551). Log 154 (DEDUCED). -/
def discardFlit (s : State) (p : Nat) : State :=
  let x := portOf s p
  if x.nakSent then s else sendFlit (putPort s p { x with nakSent := true }) p flitNak bareFlit

/-- A flit of a type arrives at a port that is up (R550, R551): one that fails CRC, or is of a reserved type, is counted and discarded; the others are taken,
ACK first (R551), go on to `body`, and the port sends what now can leave. -/
def receiveFlit (s : State) (p ftype : Nat) (bytes : List Byte) (body : State → State) : State :=
  let t := leAt bytes 0 1 % 16
  if !slkOn s || (portOf s p).st != .up || decide (t ≠ ftype ∧ t ≤ 4) then s
  else if flitGood bytes then pump (body (takeFlit s p bytes)) p
  else discardFlit (incSat s (F.slkPortStat_crcErrs p) 1) p

/-- A sealed message for this device is opened with the pair key, the COUNT of its direction and its header (R557); a message whose sender shares no key
with this device is discarded. A tag failure sets MSG_AUTH, and the peer is lost. Log 157 (DEDUCED). -/
def openMessage (s : State) (bytes : List Byte) (src len term : Nat) : State :=
  let q := peerOf s src
  match pairKey s src with
  | none => s
  | some k =>
    match gcmOpen k (msgNonce src (devId s) term q.rxCount) (bytes.take 16) (bytesAt bytes 16 len) (bytesAt bytes (16 + len) 16) with
    | some _ => noteTerm (putPeer s src (usedUp { q with rxCount := q.rxCount + 1 })) term
    | none => peerLost (slkErr s F.slkErr_msgAuth) src

/-- Where a message goes, by the header in its first flit (R547, R555, R572): to this device, unopened by its route to another, or nowhere. Log 18 (DEDUCED). -/
def inflowOf (s : State) (payload : List Byte) : Inflow :=
  let dst := leAt payload 1 1 % 16
  if !knownMtype (leAt payload 0 1) then .drop
  else if dst = devId s then .take
  else if flag s (F.slkRoute_valid dst) then .pass (getF s (F.slkRoute_port dst))
  else .drop

/-- A whole message for this device is in (R555, R557): a sealed one is opened. What it does is the command of its name. Log 17 (DEDUCED). -/
def messageIn (s : State) (bytes : List Byte) : State :=
  if isSealed (leAt bytes 0 1) then openMessage s bytes (leAt bytes 1 1 / 16) (leAt bytes 4 3) (leAt bytes 0x0C 2) else s

/-- R551, R553, R555: a MSG flit: accepted where its SEQ is the next expected. A flit of a message for this device joins its class's, one for another waits at the port it
leaves by, and one that is discarded sets SLK_ERR.ROUTE with the first. The credit of a flit consumed here goes back, and an IDLE carries the ACK. Log 18, 155 (DEDUCED). -/
def msgBody (p : Nat) (bytes : List Byte) (s : State) : State :=
  let x := portOf s p
  let b := leAt bytes 0 1
  let rsp := bitAt b 4
  let first := bitAt b 5
  let last := bitAt b 6
  let payload := bytesAt bytes 8 240
  if leAt bytes 4 2 % 4096 ≠ x.rxSeq % 4096 then discardFlit s p
  else
    let way := if first then inflowOf s payload else if rsp then x.wayRsp else x.wayReq
    let whole := (if first then [] else if rsp then x.asmRsp else x.asmReq) ++ payload
    let kept := if last || way != .take then [] else whole
    let next := if last then Inflow.none else way
    let owes := match way with | .pass _ => 0 | _ => 1
    let s := putPort s p { x with
      rxSeq := x.rxSeq + 1, nakSent := false,
      owedReq := if rsp then x.owedReq else x.owedReq + owes, owedRsp := if rsp then x.owedRsp + owes else x.owedRsp,
      asmReq := if rsp then x.asmReq else kept, asmRsp := if rsp then kept else x.asmRsp,
      wayReq := if rsp then x.wayReq else next, wayRsp := if rsp then next else x.wayRsp }
    let s := match way with
      | .pass q => pump (putPort s q { portOf s q with queue := (portOf s q).queue ++ [⟨0, rsp, first, last, payload, p + 1⟩] }) q
      | .take => if last then messageIn s whole else s
      | .drop => if first then slkErr s F.slkErr_route else s
      | .none => s
    if (portOf s p).st == .up then sendFlit s p flitIdle bareFlit else s

/-- R551: a MSG flit is received. -/
def onMsgFlitReceive (port : Nat) (bytes : List Byte) (s : State) : State := receiveFlit s port flitMsg bytes (msgBody port bytes)

/-- R551, R552: a NAK is counted; every unacknowledged flit after its ACK is sent again in order, and the eighth that names one ACK takes the port down. -/
def nakBody (p : Nat) (bytes : List Byte) (s : State) : State :=
  let x := portOf s p
  let ack := leAt bytes 6 2 % 4096
  let s := incSat s (F.slkPortStat_replays p) 1
  let run := if x.nakRun ≠ 0 ∧ x.nakAck = ack then x.nakRun + 1 else 1
  let s := putPort s p { x with nakRun := run, nakAck := ack }
  if 8 ≤ run then portDown s p F.slkErr_replayLimit
  else forEach x.replay s fun s f => sendFlit s p flitMsg f

/-- R551, R552: a NAK is received. -/
def onNak (port : Nat) (bytes : List Byte) (s : State) : State := receiveFlit s port flitNak bytes (nakBody port bytes)

/-- R551, R553: an IDLE flit delivers its ACK and its credits. -/
def onIdleFlitReceive (port : Nat) (bytes : List Byte) (s : State) : State := receiveFlit s port flitIdle bytes id

/-- R550: an ALIGN flit, which is not sequenced. Log 153 (DEDUCED). -/
def onAlignFlitReceive (port : Nat) (bytes : List Byte) (s : State) : State := receiveFlit s port flitAlign bytes fun s => s

/-- R552, R565: no flit has passed CRC for LOSS_TIMEOUT × 10 µs. -/
def onPortLossTimeout (port : Nat) (s : State) : State :=
  let t := getF s F.slkCtrl_lossTimeout
  let x := portOf s port
  if !slkOn s || t == 0 || x.st != .up then s
  else portDown (advanceTo s (x.lastGood + 10 * t)) port F.slkErr_loss

/-- R552: a DOWN port that is not up within 50 ms is FAILED. Log 156 (DEDUCED). -/
def onPortRetrainTimeout (port : Nat) (s : State) : State :=
  let x := portOf s port
  if slkOn s && (x.st == .down || (x.st == .train && x.retrained)) then
    portTo (advanceTo s (x.since + 50000)) port .failed x
  else s

end Sys2Proof.Machine
end

