-- ==== Sys2Proof/Machine/SlkWork.lean ====
section
/-!
DEFINITION. The messages of the Saosh link: joins and terms (R556, R568), heartbeats, departure and loss (R562 to R567), work across a cascade (R559 to R561),
peer mailboxes (R563) and succession (R569 to R572). A command here is a message whole and, where its type is sealed, verified.
-/

namespace Sys2Proof.Machine

open Sys2Proof

/-- A sealed message of a device reaches its command here: Saosh runs and the device is joined (R557, R564). -/
def trusts (s : State) (src : Nat) : Bool := slkOn s && peerLive s src && (pairKey s src).isSome

/-- A message of this member's leader. -/
def fromLeader (s : State) (src : Nat) : Bool := trusts s src && isMember s && src == leaderId s

/-- Namespaces with zones on a device (R566). -/
def nssOn (s : State) (d : Nat) : List (Nat × Namespace) :=
  s.nss.filter fun kv => decide (kv.2.base < (d + 1) * exposedZones s ∧ d * exposedZones s < kv.2.base + kv.2.count)

/-- Zone Descriptor Changed for every namespace with zones on a device that joins again (R566). -/
def rejoined (s : State) (d : Nat) : State :=
  forEach (nssOn s d) s fun s kv => match kv.2.attached with
    | some f => raiseAsync s f (.zoneDescriptorChanged kv.1)
    | none => s

/-- Why the leader refuses a join: its cause in SLK_JOIN_INFO (R544, R556, R578). Log 158 (DEDUCED). -/
def joinFault (s : State) (src uid bays lc : Nat) (chainOk sigOk : Bool) : Option Nat :=
  let held := (peerOf s src).cond == .live || (peerOf s src).cond == .departed
  if !chainOk then some 1
  else if lc ≠ lifecycle s ∨ (lc ≠ 1 ∧ lc ≠ 2) then some 2
  else if bays ≠ s.otp.baysEn then some 3
  else if src = devId s ∨ held && (peerOf s src).uid != BitVec.ofNat 64 uid then some 4
  else if !sigOk then some 5
  else none

/-- R544, R556, R566, R568: the leader checks a JOIN, answers JOIN_ACK and takes the member in, or refuses it. The strap leader takes a term above the
member's. A REMOVED device joins only once its bit is clear (R564). Log 158 (DEDUCED). -/
def onJoin (src uid role bays lc term : Nat) (pub chain : List Byte) (chainOk sigOk : Bool) (s : State) : State :=
  if !slkOn s || !isLeader s || decide (15 < src) || (peerOf s src).cond == .removed then s
  else match joinFault s src uid bays lc chainOk sigOk with
    | some cause => refuseJoin s src cause
    | none =>
      let s := if strapLeader s.straps then (if s.slk.term ≤ term then setTerm s (term + 1) else s) else noteTerm s term
      let lost := (peerOf s src).cond == .lost
      let (k, s) := drawBytes s 56
      let eph := ecPrivate p384 k
      match (if isLeader s then ecdh p384 eph pub else none) with
      | none => s
      | some z =>
        let body := beBytes 8 s.otp.devUid.toNat ++ ecPublic p384 eph ++ certChain s 0
        let (sig, s) := aliasSign s (joinBody uid src role bays lc term pub chain ++ body)
        let s := slkSend s src 0x02 0 (body ++ sig)
        match joinPeer s src uid (pairKeyOf s.otp.devUid.toNat uid s.slk.term z) with
        | some s => if lost then rejoined s src else s
        | none => s

/-- R556: JOIN_ACK completes the join on the member: the pair key, the term and the leader. A signature or chain that does not verify refuses it. Log 158 (DEDUCED). -/
def onJoinAck (src uid term : Nat) (pub : List Byte) (chainOk sigOk : Bool) (s : State) : State :=
  match s.slk.eph with
  | none => s
  | some eph =>
    if !slkOn s || isLeader s || src != leaderId s || decide (term < s.slk.term) then s
    else if !chainOk then refuseJoin s src 1
    else if !sigOk then refuseJoin s src 5
    else match ecdh p384 eph pub with
      | none => refuseJoin s src 5
      | some z =>
        let s := setTerm s term
        match joinPeer { s with slk := { s.slk with eph := none } } src uid (pairKeyOf uid s.otp.devUid.toNat term z) with
        | some s => s
        | none => s

/-- R556: a member that is not joined sends JOIN again a second after the last. -/
def onJoinRetry (s : State) : State :=
  if !slkOn s || !unjoined s then s
  else sendJoin (advanceTo s (match s.slk.triedAt with | some t => t + 1000000 | none => s.clk.us))

/-- R569, R571, R572: a valid CLAIM of a higher term, or of an equal one from a lower DEV_ID than the claimant known, is adopted: a leader steps down, and this device
joins the claimant. Log 163 (DEDUCED). -/
def onClaim (src term : Nat) (valid : Bool) (s : State) : State :=
  let higher := decide (s.slk.term < term)
  let lower := decide (term = s.slk.term ∧ src < leaderId s)
  if !slkOn s || !valid || src == devId s || !(higher || lower) then s
  else
    let s := setTerm (stepDown s) term
    let old := leaderId s
    let s := if old = src then s else putPeer s old { peerOf s old with cond := .none }
    sendJoin (setF { s with slk := { s.slk with eph := none, claimed := false } } F.slkLeader_leader src)

/-- R562, R564: a peer's DEPART. -/
def onDepart (src : Nat) (s : State) : State :=
  if trusts s src then putPeer s src { peerOf s src with cond := .departed, wakeAt := none } else s

/-- R564, R572: a PEER_HB of a live peer; one of a leader counted as lost shows that it is back: the member joins it again, and SUCC_WAIT starts anew. Log 163 (DEDUCED). -/
def onPeerHb (src : Nat) (s : State) : State :=
  if trusts s src then putPeer s src { peerOf s src with lastHb := s.clk.us }
  else if slkOn s && isMember s && src == leaderId s && (peerOf s src).cond == .lost && (pairKey s src).isSome then
    sendJoin (putPeer s src { peerOf s src with lostAt := s.clk.us })
  else s

/-- R564: every 1 ms the leader sends PEER_HB to each joined member, and a member to its leader. -/
def onPeerHbSend (s : State) : State :=
  if !slkOn s then s
  else
    let s := advanceTo s (s.slk.hbSentAt + 1000)
    let s := { s with slk := { s.slk with hbSentAt := s.clk.us } }
    let peers := if isLeader s then s.slk.peers.map (·.1) else [leaderId s]
    forEach (peers.filter (peerLive s)) s fun s d => slkSend s d 0x05 0 []

/-- A slot for a command that a member serves for its leader: its entry, function and class, with nothing done. Log 159 (DEDUCED). -/
def servedSlot (s : State) (q : Sqe) (func cls deadline : Nat) : CmdSlot :=
  ⟨func, 0, q, .none, clsOf cls, now s, deadline, .checked, 0, 0, 0, 0, 0, [], [], [], [], [], 0, [], false, false, none, false, none, 0, 0, none⟩

/-- Put a command into a free slot and note whom it is served for. -/
def serve (s : State) (src tag : Nat) (admin : Bool) (c : CmdSlot) : Nat × State :=
  let n := spFree s.hif.slots (s.hif.slots.length + 1) 0
  let s := putSlot s n c
  (n, { s with slk := { s.slk with served := s.slk.served ++ [⟨n, src, tag, admin⟩] } })

/-- R559, R567: CMD_FWD: the member admits the command at ZRS with the carried deadline less 1 µs for each link back; one of another device than its
current leader, or of a lower term, is answered CASCADE_MEMBER_LOST. Log 159 (DEDUCED). -/
def onCmdFwd (src tag term : Nat) (q : Sqe) (func tenant ezn offset cls remain : Nat) (s : State) : State :=
  if !slkOn s || (pairKey s src).isNone then s
  else if !fromLeader s src || decide (term < s.slk.term) then
    slkSend s src 0x13 tag (statusBytes false .cascadeMemberLost ++ leBytes 4 0 ++ leBytes 4 0)
  else
    let k := ioKind q
    let c := servedSlot s q func cls (now s + remain - linksBetween s.straps.role (devId s) src)
    (serve s src tag false { c with
      kind := k, ezn := ezn, nsid := tenant + 1, offset := offset, blocks := if isReadKind k || isWriteKind k then nlb q else 0 }).2

/-- The slot that serves a request of the leader. -/
def servedTag (s : State) (src tag : Nat) : Option Nat := (s.slk.served.find? fun w => w.src == src && w.tag == tag && !w.admin).map (·.slot)

/-- R559: WR_DATA: the next block of a forwarded write; one whose ICRC does not match fails. Log 159 (DEDUCED). -/
def onWrData (src tag : Nat) (bytes : List Byte) (icrc : DWord) (s : State) : State :=
  if !trusts s src then s
  else match servedTag s src tag with
    | none => s
    | some n =>
      match slotOf s n with
      | none => s
      | some c => takeBlock s n c.fetched.length c bytes icrc (crc32c (bytesAt bytes 0 4096) != icrc)

/-- The slot of a request this leader sent to a device. -/
def sentSlot (s : State) (src tag : Nat) : Option (Nat × CmdSlot) :=
  match spFind s.slk.sentTags tag with
  | none => none
  | some n => match slotOf s n with
    | some c => if c.remote = some src then some (n, c) else none
    | none => none

/-- R374, R559: RD_DATA: the next block of a forwarded read enters the read pool on the command's reservation, for egress. -/
def onRdData (src tag : Nat) (bytes : List Byte) (ocrc : DWord) (s : State) : State :=
  if !trusts s src then s
  else match sentSlot s src tag with
    | none => s
    | some (n, c) =>
      if c.kind = .read ∧ c.phase = .waitMembers ∧ c.opened.length < c.blocks then poolWith s n c.opened.length (bytesAt bytes 0 4096) ocrc else s

/-- R559: CPL: a member's status passes through; a read completes once its blocks are with the host too. -/
def onCpl (src tag : Nat) (status : Status) (dw0 dw1 : DWord) (s : State) : State :=
  if !trusts s src then s
  else match sentSlot s src tag with
    | none => s
    | some (n, c) =>
      if c.phase ≠ .waitMembers then s
      else
        let s := putSlot s n { c with phase := .admitted, dw0 := dw0, dw1 := dw1 }
        if status = .success ∧ c.kind = .read then readReleased s n else finish s n (if status = .success then c.failed.getD .success else status)

/-- The status and data of a security command answer the leader (R561). -/
def securityAnswer (s : State) (src tag : Nat) (st : Status) (data : List Byte) : State := slkSend s src 0x21 tag (statusBytes false st ++ data)

/-- A host command of the leader's administration on a member (R560): each waits in a slot of its own for what it must. -/
def adminHere (s : State) (src tag : Nat) (q : Sqe) (nsid : Nat) (ns : Namespace) (ms : Nat) : State :=
  let c := servedSlot s { q with nsid := nsid } 0 1 (now s)
  let done := fun (s : State) => securityAnswer s src tag .success []
  match q.admin, opc q with
  | true, 0x0D =>
    if nsSel q = 0 then
      let s := journal { s with nss := spPut s.nss nsid ns } (.ns nsid (some ns))
      (serve s src tag true { c with kind := .admin, phase := .waitJournal }).2
    else match spFind s.nss nsid with
      | none => done s
      | some here =>
        let (n, s) := serve s src tag true { c with kind := .admin, phase := .waitZoneOp }
        let zs := deleteZones s here
        let s := forEach zs.1 s fun s e => match startZoneOp s e true (some n) with
          | (s, true) => s
          | (s, false) => awaitOp s n e
        opsDone (forEach zs.2 s releaseOffline) n
  | true, 0x84 =>
    let act : Option SanAction := if sanAct q = 2 then some .blockErase else if sanAct q = 4 then some .cryptoErase else none
    (match act with
    | some a => sanitizeAdvance (startSanitize (done s) a)
    | none => done s)
  | true, 0x09 =>
    if dw10 q % 256 = 0x0E then done (setStamp s (ms % 2 ^ 48))
    else if dw10 q % 256 = 0xC0 then done (shadowClass s (dw11 q / 2 ^ 30) (dw11 q % 2 ^ 24))
    else securityAnswer s src tag .invalidField []
  | false, _ => (serve s src tag true { c with kind := ioKind q, nsid := nsid }).2
  | true, _ => securityAnswer s src tag .invalidOpcode []

/-- The PMU request of a code (R484). -/
def reqOfCode (k : Nat) : Option PmuReq := [PmuReq.active, .idle, .standby, .safelight, .wake].find? fun r => reqCode r == k

/-- A member raises the epoch floor of a namespace and the epochs of its own zones of it (R147). Log 190 (DESIGN CHOICE). -/
def floorHere (s : State) (nsid base count floor : Nat) : State :=
  let s := match spFind s.nss nsid with
    | some n =>
      let n := { n with floor := max n.floor floor }
      journal { s with nss := spPut s.nss nsid n } (.ns nsid (some n))
    | none => s
  raiseHere s ⟨base, count, .d4, 0, 0, none, floor, none⟩ floor

/-- R560 to R562: ADMIN: the member applies what its leader forwards. -/
def onAdmin (src tag : Nat) (msg : AdminMsg) (s : State) : State :=
  if !fromLeader s src then s
  else match msg with
    | .command q nsid base count tier marCap morCap ms =>
      adminHere s src tag q nsid ⟨base, count, (tierOf tier).getD .d4, marCap, morCap, none, 0, none⟩ ms
    | .floor nsid base count floor => securityAnswer (floorHere s nsid base count floor) src tag .success []
    | .eraseKey nsid => securityAnswer (eraseKeys s fun k => k + 1 == nsid) src tag .success []
    | .power code => (match reqOfCode code with | some r => pmuRequest s r | none => s)
    | .security pf nsid q data =>
      (match securityHere s q pf nsid data with
      | some (s, st, bs) => securityAnswer s src tag st bs
      | none => s)

/-- R560, R561: ADMIN_CPL: a failure is the command's status; the last answer lets the command go on; a Security Receive returns the data to the host. -/
def onAdminCpl (src tag : Nat) (status : Status) (data : List Byte) (s : State) : State :=
  if !trusts s src then s
  else match spFind s.slk.sentTags tag with
    | none => s
    | some n =>
      match slotOf s n with
      | none => s
      | some c =>
        if !((spFind s.slk.adminWaits n).getD []).contains src then s
        else
          let s := { s with slk := { s.slk with sentTags := spErase s.slk.sentTags tag } }
          let s := if status = .success then (if isAdmin 0x82 c then hostData s c (data.take (secLen c.sqe)) else s) else noteStatus s n status
          adminAnswered s n src

/-- R560: MIRROR: a member that may succeed its leader keeps the record. -/
def onMirror (src : Nat) (rec : MirrorRec) (s : State) : State :=
  if !fromLeader s src || !flag s F.slkCtrl_succEn then s
  else match rec with
    | .namespaceIs nsid base count tier mar mor att =>
      let n : Namespace := ⟨base, count, (tierOf tier).getD .d4, mar, mor, if att = 0 then none else some (att - 1), 0, none⟩
      { s with slk := { s.slk with mirrorNs := spPut s.slk.mirrorNs nsid n } }
    | .namespaceGone nsid => { s with slk := { s.slk with mirrorNs := spErase s.slk.mirrorNs nsid } }
    | .deadline k v => { s with slk := { s.slk with mirrorDeadlines := spPut s.slk.mirrorDeadlines k v } }

/-- An access to this device's MBX window by a peer (R563): the registers whose access is a command of its own run it, the others are plain accesses. -/
def mbxAccess (s : State) (m offset size : Nat) (write : Bool) (data : Word) : State :=
  let addr := 0x1000300000 + offset
  let v := data.toNat
  if !write then csrRead s m addr size
  else match regAt addr with
    | some (d, i) =>
      if d.name = "MBX_WORD" then onMbxWordWrite m (i / 16) (i % 16) (data.truncate 32) s
      else if d.name = "MBX_CTRL" then
        (if bitAt v 31 then onGo m i (v % 32) s
        else if bitAt v 30 then onRelease m i s
        else if bitAt v 29 then onRecall m i s
        else if bitAt v 28 then onDiscard m i s
        else s)
      else if d.name = "MBX_BIND" then onMbxBindWrite m i (data.truncate 32) s
      else if d.name = "MBX_LOCK" then onBindLock m s
      else csrWrite s m addr size data
    | none => csrWrite s m addr size data

/-- What this device answered a master during an access: read data, or a refusal. -/
def responseTo (out : List Output) (m : Nat) : Option (Bool × Word) :=
  (out.filterMap fun o => match o with
    | .readResponse x v => if x = m then some (false, v) else none
    | .errorResponse x _ => if x = m then some (true, 0) else none
    | _ => none).getLast?

/-- The outputs of an access of a peer stay inside the device but for its answer. -/
def notTo (m : Nat) (o : Output) : Bool :=
  match o with
  | .readResponse x _ => x != m
  | .errorResponse x _ => x != m
  | _ => true

/-- R563: CSR_REQ: a peer's MBX access is performed with master PEER(SRC), and CSR_RSP carries the answer; any other target is refused. -/
def onCsrReq (src tag : Nat) (write : Bool) (offset size : Nat) (data : Word) (s : State) : State :=
  if !trusts s src then s
  else
    let m := idPeer src
    let s := if offset < 0x4000 then mbxAccess s m offset size write data else errorResponse s m (0x1000300000 + offset)
    let r := (responseTo s.out m).getD (false, 0)
    slkSend { s with out := s.out.filter (notTo m) } src 0x31 tag (leBytes 1 (b2n r.1) ++ leBytes 8 r.2.toNat)

/-- R563: CSR_RSP: the answer reaches the core that made the access. Log 164 (DEDUCED). -/
def onCsrRsp (src tag : Nat) (write refused : Bool) (data : Word) (s : State) : State :=
  if !trusts s src then s
  else match spFind s.slk.csrTags tag with
    | none => s
    | some m =>
      let s := { s with slk := { s.slk with csrTags := spErase s.slk.csrTags tag } }
      if refused then errorResponse s m 0x1001680000 else emitIf (!write) s (.readResponse m data)

/-- R563, R578: MBX_NOTICE: SLK_NOTE's bit of the sender, and an interrupt to MC0. -/
def onMbxNotice (src _channel _kind : Nat) (s : State) : State :=
  if !trusts s src then s
  else emitIf (domainOn s .mgmt) (setFBit s F.slkNote_src src) (.interrupt (idMc 0))

/-- R564, R565: no PEER_HB for PEER_TIMEOUT: a live peer is lost. -/
def onPeerTimeoutExpiry (peer : Nat) (s : State) : State :=
  let t := getF s F.slkCtrl_peerTimeout
  if !slkOn s || t == 0 || !peerLive s peer then s
  else peerLost (advanceTo s ((peerOf s peer).lastHb + 1000 * t)) peer

/-- R564: a departed member that has not joined again 60 s after the wake is lost. -/
def onDepartedRejoinExpiry (peer : Nat) (s : State) : State :=
  let p := peerOf s peer
  match p.wakeAt with
  | some t => if slkOn s && p.cond == .departed then peerLost (advanceTo s (t + 60000000)) peer else s
  | none => s

/-- A route by the ports that are up: the one it has, else the lowest port that is up (R569). Log 163 (DEDUCED). -/
def reroute (s : State) (d : Nat) : State :=
  if d = devId s ∨ routeUp s d = true then s
  else match (List.range 4).find? fun p => (portOf s p).st == .up with
    | some p => setF (setF s (F.slkRoute_valid d) 1) (F.slkRoute_port d) p
    | none => setF s (F.slkRoute_valid d) 0

/-- The other devices that a cascade's straps allow (R541). -/
def otherDevices (s : State) : List Nat := (if s.straps.role = 3 then List.range 16 else List.range 4).filter fun d => d != devId s

/-- R569: a candidate whose leader has been lost for SUCC_WAIT claims: a new term, its routes rewritten, CLAIM to each device it reaches. -/
def onSuccWaitExpiry (s : State) : State :=
  let w := getF s F.slkCtrl_succWait
  let l := peerOf s (leaderId s)
  if !slkOn s || isLeader s || !flag s F.slkCtrl_succEn || w == 0 || l.cond != .lost then s
  else
    let s := advanceTo s (l.lostAt + 100000 * w)
    let s := setTerm s (s.slk.term + 1)
    let s := setF (setF s F.slkLeader_leader (devId s)) F.slkLeader_isLeader 1
    let s := { s with slk := { s.slk with claimed := true, eph := none } }
    let s := forEach (otherDevices s) s reroute
    let body := leBytes 2 s.slk.term ++ beBytes 8 s.otp.devUid.toNat ++ leBytes 1 (devId s)
    let (sig, s) := aliasSign s body
    forEach ((otherDevices s).filter (routeUp s)) s fun s d => slkSend s d 0x03 0 (body ++ certChain s 0 ++ sig)

/-- R570: the new leader loads the mirrored state and presents its functions, with VF Enable, queues and Timestamp cleared. Log 163 (DEDUCED). -/
def onNewLeaderTakeover (s : State) : State :=
  if !slkOn s || !s.slk.claimed || !isLeader s then s
  else
    let s := forEach s.slk.mirrorNs s fun s kv =>
      let n := match spFind s.nss kv.1 with
        | some here => { kv.2 with floor := here.floor, lastBay := here.lastBay }
        | none => kv.2
      { s with nss := spPut s.nss kv.1 n }
    let cs := s.slk.mirrorDeadlines.foldl (fun (a : List Nat) kv => listSet a kv.1 kv.2) s.vfm.classDeadlines
    setShares { s with
      vfm := { s.vfm with vfEnable := false, numVfs := 0, classDeadlines := cs },
      clk := { s.clk with stampSet := false, stampMs := 0, stampAt := s.clk.us },
      hif := { s.hif with funcs := [], linkUp := true, fetchStopped := false },
      slk := { s.slk with claimed := false } } 0

/-- R485, R562, R614: a peer's transmitter has left electrical idle for 1 µs at a device whose PD_SLK is off: the PEER wake. -/
def onPeerSignalDetect (s : State) : State := if standalone s || operational s then s else wakeRequest s F.pmuWake_peer

/-- R564, R577: SLK_REMOVE: a bit set for a LOST peer removes it; a bit cleared lets the device join again. Log 163 (DEDUCED). -/
def onSlkRemoveWrite (master : Nat) (value : DWord) (s : State) : State :=
  let addr := F.slkRemove_removed.addr
  rowGate s master addr true fun s =>
  if !(isMc master || master == idHostPf || (master == idDebug && debugReach s addr true)) then refuse s master addr
  else
    let s := forEach (List.range 16) s fun s d =>
      match (peerOf s d).cond, bitAt value.toNat d with
      | .lost, true => setFBit (putPeer s d { peerOf s d with cond := .removed }) F.slkRemove_removed d
      | .removed, false => clrFBit (putPeer s d { peerOf s d with cond := .lost }) F.slkRemove_removed d
      | _, _ => s
    journal s (.removed (getF s F.slkRemove_removed))

end Sys2Proof.Machine
end

