-- ==== Sys2Proof/Machine/Meanings.lean ====
section
/-!
DEFINITION. The meaning of each command of the opcode table: its effect function, which its family's file defines from the spec, run by
`effect`.
-/

namespace Sys2Proof.Machine

open Sys2Proof

/-- OPHOURS_STEP (R16): The count of ALF cycles reaches 1/256 hour, so OPHOURS advances and SUB restarts at zero. -/
def execOphoursStep (s : State) : Res := effect (onOphoursStep) s

/-- EPOCH_TICK (R27): Every 6,400,000 FIRC cycles SYS_EPOCH.COUNT increments and the management cores are interrupted while PD_MGMT is on. -/
def execEpochTick (sensors : List Int) (marks : List SentinelMark) (histBad : Option Nat) (s : State) : Res := effect (onEpochTick sensors marks histBad) s

/-- RESERVED_MASTER_ACCESS (R15): An access that carries a reserved master ID is refused with an error response and recorded. -/
def execReservedMasterAccess (master addr : Nat) (write : Bool) (s : State) : Res := effect (onReservedMasterAccess master addr write) s

/-- PWR_OFF_ACCESS (R497): An internal access to an off, reset or isolated domain completes with PWR_OFF data 0x0BAD_0FF0 and is recorded. -/
def execPwrOffAccess (master addr : Nat) (write : Bool) (s : State) : Res := effect (onPwrOffAccess master addr write) s

/-- CSR_WRITE (R8): A write to a register that has no row of its own updates its fields according to their access codes. -/
def execCsrWrite (master addr size : Nat) (data : Word) (s : State) : Res := effect (onCsrWrite master addr size data) s

/-- SQ_TAIL_DOORBELL (R100): A host SQ tail doorbell write is ignored, latched, shadowed or taken, and a new tail starts fetch. -/
def execSqTailDoorbell (func qid : Nat) (value : Nat) (s : State) : Res := effect (onSqTailDoorbell func qid value) s

/-- CQ_HEAD_DOORBELL (R100): A host CQ head doorbell write is checked and taken, or ignored and reported. -/
def execCqHeadDoorbell (func qid : Nat) (value : Nat) (s : State) : Res := effect (onCqHeadDoorbell func qid value) s

/-- OFF_BAR_ACCESS (R102): While PD_DATA is off, a BAR access is served from the mirror, or held in it, or refused and counted. -/
def execOffBarAccess (func offset size : Nat) (write : Bool) (data : Word) (s : State) : Res := effect (onOffBarAccess func offset size write data) s

/-- COMMAND_FETCH (R99): The queue engine fetches submission entries round-robin across functions and queues into command slots. -/
def execCommandFetch (sqes : List Sqe) (s : State) : Res := effect (onCommandFetch sqes) s

/-- ZONE_RESOLVE (R80): ZRS resolves a command to its zone, runs the tenant, state and room checks, reserves slots, stitches them and admits the entry to a die queue. -/
def execZoneResolve (slot : Nat) (camParity loadBad : Bool) (s : State) : Res := effectIn .data (onZoneResolve slot camParity loadBad) s

/-- BINDING_RETRY (R42): A binding that waited on empty ready lists proceeds once a ready list holds an eligible entry. -/
def execBindingRetry (slot : Nat) (s : State) : Res := effectIn .data (onBindingRetry slot) s

/-- HORIZON_WAIT_RESUME (R58): A reservation that waited for a journalled horizon proceeds once the journal holds a new horizon. -/
def execHorizonWaitResume (slot : Nat) (s : State) : Res := effectIn .data (onHorizonWaitResume slot) s

/-- DIE_QUEUE_WAIT_RESUME (R154): A command that waited for a free die-queue entry is enqueued when one frees. -/
def execDieQueueWaitResume (slot : Nat) (s : State) : Res := effectIn .data (onDieQueueWaitResume slot) s

/-- READ_RESERVATION (R374): A Read or Verify reserves its RD_BLOCK buffers before ZRS, or waits for them in deadline order. -/
def execReadReservation (slot : Nat) (s : State) : Res := effectIn .data (onReadReservation slot) s

/-- READ (R24): The Read command reads zone data through resolve, sense, decode and open, or returns zeros. -/
def execRead (slot : Nat) (s : State) : Res := effectIn .data (onRead slot) s

/-- WRITE (R49): The Write command writes at the write pointer of a zone. -/
def execWrite (slot : Nat) (s : State) : Res := effectIn .data (onWrite slot) s

/-- FLUSH (R57): The Flush command completes at once. -/
def execFlush (slot : Nat) (s : State) : Res := effectIn .data (onFlush slot) s

/-- VERIFY (R106): The Verify command reads and checks blocks under its function's default class without transferring data. -/
def execVerify (slot : Nat) (s : State) : Res := effectIn .data (onVerify slot) s

/-- ZONE_APPEND (R22): The Zone Append command is staged, sealed, programmed and completed once durable and journalled. -/
def execZoneAppend (slot : Nat) (s : State) : Res := effectIn .data (onZoneAppend slot) s

/-- PLACED_ZONE_APPEND (R107): The Placed Zone Append command appends with ALIGN, PAD_AFTER and binding hints. -/
def execPlacedZoneAppend (slot : Nat) (s : State) : Res := effectIn .data (onPlacedZoneAppend slot) s

/-- ZONE_OPEN_TIERED (R75): The Zone Open Tiered command binds an Empty zone at a given tier and stitch group, or acts as Open. -/
def execZoneOpenTiered (slot : Nat) (s : State) : Res := effectIn .data (onZoneOpenTiered slot) s

/-- ZONE_OPEN (R51): The Zone Management Send Open action explicitly opens a zone, or with Select All every Closed zone or none. -/
def execZoneOpen (slot : Nat) (s : State) : Res := effectIn .data (onZoneOpen slot) s

/-- ZONE_CLOSE (R53): The Close action closes an open zone and releases its CAM entry, with the cipher context released once its writes are sealed. -/
def execZoneClose (slot : Nat) (s : State) : Res := effectIn .data (onZoneClose slot) s

/-- ZONE_FINISH (R67): The Finish action pads and closes a zone and makes it Full. -/
def execZoneFinish (slot : Nat) (s : State) : Res := effectIn .data (onZoneFinish slot) s

/-- ZONE_RESET (R69): The Reset action resets a zone, or with Select All every Full and active zone of the namespace. -/
def execZoneReset (slot : Nat) (s : State) : Res := effectIn .data (onZoneReset slot) s

/-- ZONE_OFFLINE (R71): The Offline action takes a Read Only zone Offline and keeps its binding and epoch. -/
def execZoneOffline (slot : Nat) (s : State) : Res := effectIn .data (onZoneOffline slot) s

/-- REPORT_ZONES (R98): The Zone Management Receive Report Zones action returns zone descriptors. -/
def execReportZones (slot : Nat) (s : State) : Res := effectIn .data (onReportZones slot) s

/-- ZONE_OP_TAKES_EFFECT (R54): A Reset or Finish that waited on admitted writes takes effect, and ZRS resolves the held commands against the new state. -/
def execZoneOpTakesEffect (ezn : Nat) (s : State) : Res := effectIn .data (onZoneOpTakesEffect ezn) s

/-- CONTEXT_RELEASE (R53): A closed or Full zone's cipher context returns to the share once its admitted writes are sealed. -/
def execContextRelease (ezn : Nat) (s : State) : Res := effectIn .data (onContextRelease ezn) s

/-- PAD_DEADLINE_EXPIRY (R59): The padding deadline of the oldest incomplete write passes, and ZRS pads the zone. -/
def execPadDeadlineExpiry (ezn : Nat) (s : State) : Res := effectIn .data (onPadDeadlineExpiry ezn) s

/-- PAD_AFTER_PADDING (R59): Once a PAD_AFTER append has been staged, the zone is padded. -/
def execPadAfterPadding (ezn : Nat) (s : State) : Res := effectIn .data (onPadAfterPadding ezn) s

/-- CREATE_IO_SQ (R132): The Create I/O Submission Queue command creates a queue within the function's share. -/
def execCreateIoSq (slot base : Nat) (s : State) : Res := effectIn .data (onCreateIoSq slot base) s

/-- CREATE_IO_CQ (R132): The Create I/O Completion Queue command creates a queue within the function's share. -/
def execCreateIoCq (slot base : Nat) (s : State) : Res := effectIn .data (onCreateIoCq slot base) s

/-- DELETE_IO_SQ (R629): The Delete I/O SQ command stops fetch, aborts unadmitted commands and completes after the last admitted completion. -/
def execDeleteIoSq (slot : Nat) (s : State) : Res := effectIn .data (onDeleteIoSq slot) s

/-- DELETE_IO_CQ (R629): The Delete I/O CQ command deletes the queue, or fails while an SQ still uses it. -/
def execDeleteIoCq (slot : Nat) (s : State) : Res := effectIn .data (onDeleteIoCq slot) s

/-- GET_LOG_PAGE (R114): The Get Log Page command returns a standard or vendor log page and may empty the events page. -/
def execGetLogPage (slot : Nat) (s : State) : Res := effectIn .data (onGetLogPage slot) s

/-- IDENTIFY (R89): The Identify command returns controller, namespace or secondary-controller data. -/
def execIdentify (slot : Nat) (s : State) : Res := effectIn .data (onIdentify slot) s

/-- ABORT (R630): The Abort command aborts a fetched command that has not yet been admitted. -/
def execAbort (slot : Nat) (s : State) : Res := effectIn .data (onAbort slot) s

/-- SET_FEATURES (R94): The Set Features command sets a standard feature, such as Arbitration, Temperature Threshold or Interrupt Coalescing. -/
def execSetFeatures (slot : Nat) (buffer : List Word) (s : State) : Res := effectIn .data (onSetFeatures slot buffer) s

/-- GET_FEATURES (R94): The Get Features command returns the current value of a feature. -/
def execGetFeatures (slot : Nat) (s : State) : Res := effectIn .data (onGetFeatures slot) s

/-- SET_POWER_MANAGEMENT (R95): The Set Features Power Management command selects PS0 to PS4 and completes when the PMU accepts the request. -/
def execSetPowerManagement (slot : Nat) (s : State) : Res := effectIn .data (onSetPowerManagement slot) s

/-- SET_NUMBER_OF_QUEUES (R132): The Set Features Number of Queues command grants queues up to the function's share. -/
def execSetNumberOfQueues (slot : Nat) (s : State) : Res := effectIn .data (onSetNumberOfQueues slot) s

/-- SET_TIMESTAMP (R96): The Set Features Timestamp command sets the millisecond count, which can lead to a new off-time decision. -/
def execSetTimestamp (slot : Nat) (ms : Nat) (s : State) : Res := effectIn .data (onSetTimestamp slot ms) s

/-- SET_DEADLINE_CLASS_TABLE (R105): The Set Features FID 0xC0 command changes a class deadline, or is staged during a stop. -/
def execSetDeadlineClassTable (slot : Nat) (s : State) : Res := effectIn .data (onSetDeadlineClassTable slot) s

/-- SET_DEFAULT_DEADLINE_CLASS (R106): The Set Features FID 0xC1 command sets the function's class for Write and Verify. -/
def execSetDefaultDeadlineClass (slot : Nat) (s : State) : Res := effectIn .data (onSetDefaultDeadlineClass slot) s

/-- AUTONOMOUS_PS_TRANSITION (R484): An Autonomous Power State Transition issues a state request. -/
def execAutonomousPsTransition (s : State) : Res := effect (onAutonomousPsTransition) s

/-- ASYNC_EVENT_REQUEST (R119): The Asynchronous Event Request command is held until an event is reported. -/
def execAsyncEventRequest (slot : Nat) (s : State) : Res := effectIn .data (onAsyncEventRequest slot) s

/-- ASYNC_EVENT_RAISE (R119): A vendor notice or Zone Descriptor Changed completes an outstanding Asynchronous Event Request. -/
def execAsyncEventRaise (func : Nat) (event : AsyncEvent) (s : State) : Res := effectIn .data (onAsyncEventRaise func event) s

/-- NAMESPACE_CREATE (R127): Namespace Management create takes the lowest free NSID and an EZN range. -/
def execNamespaceCreate (slot : Nat) (data : NsCreate) (s : State) : Res := effectIn .data (onNamespaceCreate slot data) s

/-- NAMESPACE_DELETE (R128): Namespace Management delete resets or releases its zones, erases the key slot and frees the range. -/
def execNamespaceDelete (slot : Nat) (s : State) : Res := effectIn .data (onNamespaceDelete slot) s

/-- NAMESPACE_ATTACHMENT (R129): Namespace Attachment attaches or detaches at once, is staged, or fails. -/
def execNamespaceAttachment (slot : Nat) (controllers : List Nat) (s : State) : Res := effectIn .data (onNamespaceAttachment slot controllers) s

/-- SECONDARY_OFFLINE (R134): The Virtualization Management Secondary Offline action stops one VF and its admin queue. -/
def execSecondaryOffline (slot : Nat) (s : State) : Res := effectIn .data (onSecondaryOffline slot) s

/-- SECONDARY_ONLINE (R136): The Virtualization Management Secondary Online action starts a stopped VF. -/
def execSecondaryOnline (slot : Nat) (s : State) : Res := effectIn .data (onSecondaryOnline slot) s

/-- FIRMWARE_IMAGE_DOWNLOAD (R430): The Firmware Image Download command transfers part of a firmware package. -/
def execFirmwareImageDownload (slot : Nat) (data : List Byte) (s : State) : Res := effectIn .data (onFirmwareImageDownload slot data) s

/-- FIRMWARE_COMMIT (R430): The Firmware Commit command verifies and writes a slot, sets the boot pointer, or fails. -/
def execFirmwareCommit (slot : Nat) (s : State) : Res := effectIn .data (onFirmwareCommit slot) s

/-- SANITIZE (R92): The Sanitize command with Crypto Erase or Block Erase completes at acceptance and runs the sanitize operation. -/
def execSanitize (slot : Nat) (s : State) : Res := effectIn .data (onSanitize slot) s

/-- SANITIZE_EXIT_FAILURE_MODE (R92): The Sanitize Exit Failure Mode action leaves the sanitize failure mode. -/
def execSanitizeExitFailureMode (slot : Nat) (s : State) : Res := effectIn .data (onSanitizeExitFailureMode slot) s

/-- SANITIZE_COMPLETE (R92): The sanitize operation ends once the journal holds the new zone states and, for Block Erase, the last erase has completed. -/
def execSanitizeComplete (readBackFails : Bool) (s : State) : Res := effectIn .data (onSanitizeComplete readBackFails) s

/-- DEVICE_SELF_TEST (R90): The short Device Self-test command runs on the PF. -/
def execDeviceSelfTest (slot : Nat) (s : State) : Res := effectIn .data (onDeviceSelfTest slot) s

/-- NVME_MI_SEND (R120): The NVMe-MI Send admin command carries an NVMe-MI request. -/
def execNvmeMiSend (slot : Nat) (s : State) : Res := effectIn .data (onNvmeMiSend slot) s

/-- NVME_MI_RECEIVE (R120): The NVMe-MI Receive admin command returns NVMe-MI data. -/
def execNvmeMiReceive (slot : Nat) (s : State) : Res := effectIn .data (onNvmeMiReceive slot) s

/-- SECURITY_SEND_KEY_IMPORT (R435): Security Send protocol 0xEA, SP Specific 0x0001, unwraps a tenant key into its slot through ECDH and the IMPORT slot. -/
def execSecuritySendKeyImport (slot : Nat) (data : List Byte) (s : State) : Res := effectIn .data (onSecuritySendKeyImport slot data) s

/-- SECURITY_SEND_MIGRATION_KEY (R436): Security Send SP Specific 0x0002 sets and stores the migration key. -/
def execSecuritySendMigrationKey (slot : Nat) (data : List Byte) (s : State) : Res := effectIn .data (onSecuritySendMigrationKey slot data) s

/-- LIFECYCLE_COMMAND (R439): Security Send SP Specific 0x0003 verifies a signed transition and blows a lifecycle fuse. -/
def execLifecycleCommand (slot : Nat) (data : List Byte) (readBackFails : Bool) (s : State) : Res := effectIn .data (onLifecycleCommand slot data readBackFails) s

/-- SECURITY_SEND_PROFILE_WRITE (R587): Security Send SP Specific 0x0005 validates and writes a profile image to its region. -/
def execSecuritySendProfileWrite (slot : Nat) (data : List Byte) (s : State) : Res := effectIn .data (onSecuritySendProfileWrite slot data) s

/-- SECURITY_RECEIVE_IMPORT_KEY (R433): Security Receive SP Specific 0x0001 returns the IMPORT_KP public key and its certificate. -/
def execSecurityReceiveImportKey (slot : Nat) (s : State) : Res := effectIn .data (onSecurityReceiveImportKey slot) s

/-- SECURITY_RECEIVE_NONCE (R439): Security Receive SP Specific 0x0003 returns a fresh 32-byte lifecycle nonce. -/
def execSecurityReceiveNonce (slot : Nat) (s : State) : Res := effectIn .data (onSecurityReceiveNonce slot) s

/-- SECURITY_RECEIVE_CERT_CHAIN (R561): Security Receive SP Specific 0x0004 returns the addressed device's slot 0 certificate chain. -/
def execSecurityReceiveCertChain (slot : Nat) (s : State) : Res := effectIn .data (onSecurityReceiveCertChain slot) s

/-- LIFECYCLE_NONCE_EXPIRY (R439): The lifecycle nonce expires 60 s after it was issued. -/
def execLifecycleNonceExpiry (s : State) : Res := effect (onLifecycleNonceExpiry) s

/-- CC_ENABLE (R500): CC.EN written from 0 to 1 enables the controller and sets CSTS.RDY. -/
def execCcEnable (func : Nat) (cc aqa : DWord) (asq acq : Nat) (s : State) : Res := effect (onCcEnable func cc aqa asq acq) s

/-- CONTROLLER_RESET (R139): CC.EN written from 1 to 0 clears the function's controller state and handles its admitted commands. -/
def execControllerReset (func : Nat) (s : State) : Res := effect (onControllerReset func) s

/-- SHUTDOWN_NOTIFICATION (R628): CC.SHN written stops fetch, pads the function's zones at once and sets SHST once its commands complete. -/
def execShutdownNotification (func shn : Nat) (s : State) : Res := effect (onShutdownNotification func shn) s

/-- FLR (R139): A Function Level Reset of a VF or of the PF clears that function's state, and an FLR of the PF clears VF Enable. -/
def execFlr (func : Nat) (s : State) : Res := effect (onFlr func) s

/-- SRIOV_CONFIG_WRITE (R87): A write to VF Enable or NumVFs is staged until START. -/
def execSriovConfigWrite (access : ConfigAccess) (s : State) : Res := effect (onSriovConfigWrite access) s

/-- STOP_ALL (R134): Setting VFM_RECONF.STOP_ALL stops every VF and the PF I/O queues. -/
def execStopAll (start : Bool) (s : State) : Res := effectIn .data (onStopAll start) s

/-- START (R136): Setting VFM_RECONF.START applies every staged change in one cycle, or refuses them all with ERR. -/
def execStart (s : State) : Res := effectIn .data (onStart) s

/-- QUIET_REACHED (R135): The last admitted command of the stopped queues completes, and QUIET reads 1. -/
def execQuietReached (s : State) : Res := effectIn .data (onQuietReached) s

/-- FREEZE (R142): The migration operation FREEZE stops a VF and completes when it is quiet. -/
def execFreeze (vf bufPages : Nat) (keyExport : Bool) (s : State) : Res := effectIn .data (onFreeze vf bufPages keyExport) s

/-- SAVE (R144): The migration operation SAVE writes the VF image, optionally with the wrapped key, and erases the slot. -/
def execSave (vf bufPages : Nat) (keyExport : Bool) (s : State) : Res := effectIn .data (onSave vf bufPages keyExport) s

/-- RESTORE (R145): The migration operation RESTORE checks an image and commits it locally or remotely to the target VF. -/
def execRestore (vf bufPages : Nat) (keyExport : Bool) (image : List Byte) (s : State) : Res := effectIn .data (onRestore vf bufPages keyExport image) s

/-- UNFREEZE (R142): The migration operation UNFREEZE ends a VF's freeze. -/
def execUnfreeze (vf bufPages : Nat) (keyExport : Bool) (s : State) : Res := effectIn .data (onUnfreeze vf bufPages keyExport) s

/-- DIE_ENTRY_ISSUE (R157): When a die is free and tokens suffice, SCH issues the chosen ready entry: a sense, program or erase. -/
def execDieEntryIssue (die : Nat) (trimParity : Bool) (dramBad : List Nat) (s : State) : Res := effectIn .data (onDieEntryIssue die trimParity dramBad) s

/-- CHANNEL_BURST_BOUNDARY (R184): At each 8 KiB boundary the channel goes to suspend and resume commands, polls, or the earliest deadline. -/
def execChannelBurstBoundary (channel : Nat) (s : State) : Res := effectIn .data (onChannelBurstBoundary channel) s

/-- STATUS_POLL (R183): A READ STATUS ENHANCED poll, due at 95 % of the typical time and then every 2 µs, finds a die busy, ready, failed or suspended. -/
def execStatusPoll (die : Nat) (status : Byte) (failPlane : Nat) (s : State) : Res := effectIn .data (onStatusPoll die status failPlane) s

/-- OPERATION_TIMEOUT (R206): An operation passes 110 % of its maximum, so RESET LUN is sent and a TIMEOUT failure is reported. -/
def execOperationTimeout (die failPlane : Nat) (s : State) : Res := effectIn .data (onOperationTimeout die failPlane) s

/-- SUSPEND_DECISION (R164): A ready read on a die that is programming or erasing causes SCH to suspend the operation, after MINRUN where needed. -/
def execSuspendDecision (die : Nat) (s : State) : Res := effectIn .data (onSuspendDecision die) s

/-- SUSPEND_WINDOW_EXPIRY (R165): A suspension reaches WINDOW, and the operation resumes. -/
def execSuspendWindowExpiry (die : Nat) (s : State) : Res := effectIn .data (onSuspendWindowExpiry die) s

/-- RESUME (R208): With no suspending read left, the channel sequencer sends RESUME_PROG or RESUME_ERASE and restarts MINRUN. -/
def execResume (die : Nat) (s : State) : Res := effectIn .data (onResume die) s

/-- READ_DEADLINE_EXPIRY (R172): At a read's deadline SCH cancels its entries and it completes with DEADLINE_MISSED. -/
def execReadDeadlineExpiry (slot : Nat) (s : State) : Res := effectIn .data (onReadDeadlineExpiry slot) s

/-- WEDGE_SYNC_SEARCH (R223): As a wedge's bytes arrive, RCH searches for the sync mark and classifies the wedge as FOUND, SHIFTED, EARLY or MISSED. -/
def execWedgeSyncSearch (die : Nat) (bytes : List Byte) (s : State) : Res := effectIn .data (onWedgeSyncSearch die bytes) s

/-- ENGINE_ALLOCATION (R257): A codeword whose input is complete enters a free hard or soft engine in deadline order. -/
def execEngineAllocation (soft : Bool) (s : State) : Res := effectIn .data (onEngineAllocation soft) s

/-- HARD_DECODE_DONE (R255): A hard bit-flipping decode passes or fails, and the ladder moves on. -/
def execHardDecodeDone (engine : Nat) (parityError : Bool) (s : State) : Res := effectIn .data (onHardDecodeDone engine parityError) s

/-- SOFT_DECODE_DONE (R256): A min-sum soft decode passes or fails at its step. -/
def execSoftDecodeDone (engine : Nat) (parityError : Bool) (s : State) : Res := effectIn .data (onSoftDecodeDone engine parityError) s

/-- TRACKING_PROBE_EVAL (R232): Once both probe senses are in, the trim is dodged, burned or kept. -/
def execTrackingProbeEval (die : Nat) (s : State) : Res := effectIn .data (onTrackingProbeEval die) s

/-- BLOCK_OPEN (R321): CPH checks SEAL, SEQ and TAG of a decoded or staged block and opens it into the read pool. -/
def execBlockOpen (slot block parityFails : Nat) (pipeFault : Option Nat) (keyBad : Bool) (s : State) : Res := effectIn .data (onBlockOpen slot block parityFails pipeFault keyBad) s

/-- HOST_DATA_EGRESS (R326): The queue engine writes a released block to host memory, checking OCRC and re-sending on failure. -/
def execHostDataEgress (slot block fails : Nat) (s : State) : Res := effectIn .data (onHostDataEgress slot block fails) s

/-- HOST_DATA_FETCH_COMPLETION (R325): A PCIe completion of host write data lands in the ingest buffer, or is poisoned, refused or timed out. -/
def execHostDataFetchCompletion (slot block : Nat) (bytes : List Byte) (bad : Bool) (s : State) : Res := effectIn .data (onHostDataFetchCompletion slot block bytes bad) s

/-- BLOCK_SEAL (R398): CPH seals the arriving chunks of a block under its context and writes the ciphertext and staging metadata. -/
def execBlockSeal (slot block upto : Nat) (pipeFault : Option Nat) (parity : CphSram) (s : State) : Res := effectIn .data (onBlockSeal slot block upto pipeFault parity) s

/-- CONTEXT_RESTORE (R399): A parked write context is unwrapped from DRAM and checked, parking an LRU context if needed. -/
def execContextRestore (ctx : Nat) (dramBad : List Nat) (dirParity : Bool) (s : State) : Res := effectIn .data (onContextRestore ctx dramBad dirParity) s

/-- KEY_REQUEST (R405): A key-cache miss is served by TKR over the key bus in deadline order, or answered EMPTY. -/
def execKeyRequest (slotParity : Bool) (s : State) : Res := effectIn .data (onKeyRequest slotParity) s

/-- MGMT_SEAL (R407): A management descriptor with OP SEAL seals a DRAM buffer under a system slot. -/
def execMgmtSeal (deadline : Nat) (s : State) : Res := effectIn .data (onMgmtSeal deadline) s

/-- MGMT_OPEN (R407): A management descriptor with OP OPEN opens and verifies a DRAM buffer. -/
def execMgmtOpen (deadline : Nat) (s : State) : Res := effectIn .data (onMgmtOpen deadline) s

/-- MGMT_GMAC (R407): A management descriptor with OP GMAC computes a tag over additional data only. -/
def execMgmtGmac (deadline : Nat) (s : State) : Res := effectIn .data (onMgmtGmac deadline) s

/-- TKR_WRITE (R409): The TKR WRITE command writes TKR_DATA into a system slot. -/
def execTkrWrite (master slot : Nat) (parity : Bool) (s : State) : Res := effect (onTkrWrite master slot parity) s

/-- TKR_UNWRAP (R409): The TKR UNWRAP command key-unwraps TKR_DATA under IMPORT or MIGRATION into a slot. -/
def execTkrUnwrap (master slot wrapSlot : Nat) (parity : Bool) (s : State) : Res := effect (onTkrUnwrap master slot wrapSlot parity) s

/-- TKR_WRAP (R409): The TKR WRAP command wraps a tenant slot under MIGRATION into TKR_OUT. -/
def execTkrWrap (master slot wrapSlot : Nat) (parity : Bool) (s : State) : Res := effect (onTkrWrap master slot wrapSlot parity) s

/-- TKR_ERASE (R412): The TKR ERASE command zeroises COUNT slots and revokes operations on them. -/
def execTkrErase (master slot count : Nat) (readBackFails : Bool) (s : State) : Res := effect (onTkrErase master slot count readBackFails) s

/-- TKR_GENERATE (R409): The TKR GENERATE command fills a system slot from the random bit generator. -/
def execTkrGenerate (master slot : Nat) (parity : Bool) (s : State) : Res := effect (onTkrGenerate master slot parity) s

/-- RETIRED_COPY_EXPIRY (R411): 64 µs after a rewrite the retired copy is zeroised, and blocks still on it restart. -/
def execRetiredCopyExpiry (readBackFails : Bool) (s : State) : Res := effect (onRetiredCopyExpiry readBackFails) s

/-- ALARM_DETECT (R446): An alarm source fires and its action is applied: record, notify, or erase in TENANT or ALL scope. -/
def execAlarmDetect (source : Nat) (present : Bool) (s : State) : Res := effect (onAlarmDetect source present) s

/-- ALARM_LOCK_CLEAR (R448): The security core writes ALARM_LOCK, which clears unless an erase source is active or ALL_SEEN is set. -/
def execAlarmLockClear (master : Nat) (s : State) : Res := effect (onAlarmLockClear master) s

/-- SEC_ALARM_ACT_WRITE (R447): The security core writes alarm actions, raised to their floors, or sets LOCK. -/
def execSecAlarmActWrite (master : Nat) (value : DWord) (s : State) : Res := effect (onSecAlarmActWrite master value) s

/-- SECURITY_BOOT (R425): The security core boots ROM, verifies images from the active slot or the fallback slot, and releases MC0–MC7. -/
def execSecurityBoot (s : State) : Res := effect (onSecurityBoot) s

/-- BOOT_COMPLETE_REPORT (R429): Management firmware reports boot complete, BOOT_OK sets, and ARB and REVOKE fuses are blown. -/
def execBootCompleteReport (journalBad readBackOk : Bool) (s : State) : Res := effect (onBootCompleteReport journalBad readBackOk) s

/-- GET_VERSION (R122): The SPDM GET_VERSION request is answered. -/
def execGetVersion (transport : Nat) (s : State) : Res := effect (onGetVersion transport) s

/-- GET_CAPABILITIES (R122): The SPDM GET_CAPABILITIES request is answered. -/
def execGetCapabilities (transport transfer : Nat) (s : State) : Res := effect (onGetCapabilities transport transfer) s

/-- NEGOTIATE_ALGORITHMS (R122): The SPDM NEGOTIATE_ALGORITHMS request selects the curves and hashes. -/
def execNegotiateAlgorithms (transport curves hashes groups : Nat) (aead : Bool) (s : State) : Res := effect (onNegotiateAlgorithms transport curves hashes groups aead) s

/-- GET_DIGESTS (R122): The SPDM GET_DIGESTS request returns certificate chain digests. -/
def execGetDigests (transport : Nat) (s : State) : Res := effect (onGetDigests transport) s

/-- GET_CERTIFICATE (R431): The SPDM GET_CERTIFICATE request returns a slot's certificate chain. -/
def execGetCertificate (transport slot offset length : Nat) (s : State) : Res := effect (onGetCertificate transport slot offset length) s

/-- CHALLENGE (R431): The SPDM CHALLENGE request is answered, signed with the alias key. -/
def execChallenge (transport slot : Nat) (nonce : List Byte) (s : State) : Res := effect (onChallenge transport slot nonce) s

/-- GET_MEASUREMENTS (R432): The SPDM GET_MEASUREMENTS request returns measurement indices 1 to 7. -/
def execGetMeasurements (transport index : Nat) (sign : Bool) (nonce : List Byte) (s : State) : Res := effect (onGetMeasurements transport index sign nonce) s

/-- KEY_EXCHANGE (R122): The SPDM KEY_EXCHANGE request starts a secured session. -/
def execKeyExchange (transport slot : Nat) (pub : List Byte) (s : State) : Res := effect (onKeyExchange transport slot pub) s

/-- FINISH (R122): The SPDM FINISH request completes session establishment. -/
def execFinish (transport session : Nat) (record : List Byte) (s : State) : Res := effect (onFinish transport session record) s

/-- END_SESSION (R122): The SPDM END_SESSION request ends a secured session. -/
def execEndSession (transport session : Nat) (record : List Byte) (s : State) : Res := effect (onEndSession transport session record) s

/-- MCTP_PACKET (R121): An MCTP packet arrives at the front end, is held with a wake while PD_MGMT is off, or is refused. -/
def execMctpPacket (bytes : List Byte) (admin : Option Sqe) (s : State) : Res := effect (onMctpPacket bytes admin) s

/-- READ_NVME_MI_DATA_STRUCTURE (R120): The NVMe-MI Read NVMe-MI Data Structure command returns a data structure. -/
def execReadNvmeMiDataStructure (dtype port ctrl : Nat) (s : State) : Res := effect (onReadNvmeMiDataStructure dtype port ctrl) s

/-- NVM_SUBSYSTEM_HEALTH_STATUS_POLL (R120): The NVMe-MI NVM Subsystem Health Status Poll command returns subsystem health. -/
def execNvmSubsystemHealthStatusPoll (s : State) : Res := effect (onNvmSubsystemHealthStatusPoll) s

/-- CONTROLLER_HEALTH_STATUS_POLL (R120): The NVMe-MI Controller Health Status Poll command returns controller health. -/
def execControllerHealthStatusPoll (first count : Nat) (s : State) : Res := effect (onControllerHealthStatusPoll first count) s

/-- CONFIGURATION_GET (R120): The NVMe-MI Configuration Get command returns a configuration. -/
def execConfigurationGet (id port : Nat) (s : State) : Res := effect (onConfigurationGet id port) s

/-- CONFIGURATION_SET (R120): The NVMe-MI Configuration Set command sets a configuration. -/
def execConfigurationSet (id port value : Nat) (s : State) : Res := effect (onConfigurationSet id port value) s

/-- VPD_READ (R120): The NVMe-MI VPD Read command returns vital product data. -/
def execVpdRead (offset length : Nat) (s : State) : Res := effect (onVpdRead offset length) s

/-- DBG_UNLOCK_REQ (R442): A debug REQ grants a lower level at once or issues a challenge in DBG_CHAL. -/
def execDbgUnlockReq (level : Nat) (s : State) : Res := effect (onDbgUnlockReq level) s

/-- DBG_RESP_VERIFY (R442): A write of DBG_RESP[31] starts verification, which ends GRANTED or DENIED. -/
def execDbgRespVerify (last : DWord) (alarm : Option Nat) (s : State) : Res := effect (onDbgRespVerify last alarm) s

/-- DBG_CHALLENGE_EXPIRY (R442): A challenge expires 60 s after CHAL_READY. -/
def execDbgChallengeExpiry (s : State) : Res := effect (onDbgChallengeExpiry) s

/-- RELOCK (R442): RELOCK sets LEVEL to CLOSED and resumes halted cores. -/
def execRelock (s : State) : Res := effect (onRelock) s

/-- DEBUG_PORT_ACCESS (R441): A debug port read, write, halt, step or resume is served as the level permits. -/
def execDebugPortAccess (op : DebugOp) (s : State) : Res := effect (onDebugPortAccess op) s

/-- MBX_BIND_WRITE (R460): SECCORE binds a mailbox channel, or the write is refused. -/
def execMbxBindWrite (master n : Nat) (value : DWord) (s : State) : Res := effect (onMbxBindWrite master n value) s

/-- BIND_LOCK (R474): Setting BIND_LOCK makes the binding table read-only until SHELF. -/
def execBindLock (master : Nat) (s : State) : Res := effect (onBindLock master) s

/-- MBX_CLAIM (R463): A party's read of MBX_CLAIM is GRANTED, BUSY, FULL or DENIED, with same-cycle claims going to the lower ID. -/
def execMbxClaim (n : Nat) (masters : List Nat) (s : State) : Res := effect (onMbxClaim n masters) s

/-- MBX_WORD_WRITE (R466): The holder writes a message word while the channel is CLAIMED. -/
def execMbxWordWrite (master n word : Nat) (value : DWord) (s : State) : Res := effect (onMbxWordWrite master n word value) s

/-- GO (R466): GO with LEN posts the message, marks the channel FULL and notifies or wakes the receiver. -/
def execGo (master n len : Nat) (s : State) : Res := effect (onGo master n len) s

/-- RELEASE (R462): The holder drops its claim, and the channel returns to IDLE. -/
def execRelease (master n : Nat) (s : State) : Res := effect (onRelease master n) s

/-- RECALL (R462): The sender withdraws a FULL message without a DONE bit. -/
def execRecall (master n : Nat) (s : State) : Res := effect (onRecall master n) s

/-- DISCARD (R467): The receiver empties a FULL message unread, and the sender's DONE bit is set. -/
def execDiscard (master n : Nat) (s : State) : Res := effect (onDiscard master n) s

/-- MBX_LAST_WORD_READ (R467): The receiver's read of word LEN − 1 clears FULL and sets the sender's DONE bit. -/
def execMbxLastWordRead (master n word : Nat) (s : State) : Res := effect (onMbxLastWordRead master n word) s

/-- MBX_PARTY_RESET (R471): A party's reset drops a claim or marks the message ORPHAN or RX_RESET. -/
def execMbxPartyReset (masters : List Nat) (s : State) : Res := effect (onMbxPartyReset masters) s

/-- PMU_REQ_ACTIVE (R486): PMU_REQ ACTIVE requests the ACTIVE state. -/
def execPmuReqActive (master : Nat) (s : State) : Res := effect (onPmuReqActive master) s

/-- PMU_REQ_IDLE (R486): PMU_REQ IDLE requests the IDLE state. -/
def execPmuReqIdle (master : Nat) (s : State) : Res := effect (onPmuReqIdle master) s

/-- PMU_REQ_STANDBY (R486): PMU_REQ STANDBY requests the STANDBY state. -/
def execPmuReqStandby (master : Nat) (s : State) : Res := effect (onPmuReqStandby master) s

/-- PMU_REQ_SAFELIGHT (R486): PMU_REQ SAFELIGHT requests the SAFELIGHT state. -/
def execPmuReqSafelight (master : Nat) (s : State) : Res := effect (onPmuReqSafelight master) s

/-- PMU_REQ_WAKE (R485): PMU_REQ WAKE requests a return to the last operational state. -/
def execPmuReqWake (master : Nat) (s : State) : Res := effect (onPmuReqWake master) s

/-- STEP_DONE (R488): Management firmware reports that an F step is done, and the entry continues. -/
def execStepDone (master : Nat) (s : State) : Res := effect (onStepDone master) s

/-- WAKE_EVENT (R485): A doorbell, CC, MCTP, mailbox or peer wake sets PMU_WAKE and requests an exit. -/
def execWakeEvent (source : Nat) (s : State) : Res := effect (onWakeEvent source) s

/-- ACTIVE_IDLE_CHANGE (R482): The device changes between ACTIVE and IDLE within 1 ms. -/
def execActiveIdleChange (s : State) : Res := effect (onActiveIdleChange) s

/-- BAY_IDLE_EXPIRY (R482): In IDLE, a bay whose queues stayed empty for BAY_IDLE ms is powered down. -/
def execBayIdleExpiry (bay : Nat) (s : State) : Res := effect (onBayIdleExpiry bay) s

/-- STANDBY_ENTRY (R488): Fetch stops, and reads drain, bays drain, state is saved and DRAM self-refreshes, before domains go off. -/
def execStandbyEntry (s : State) : Res := effect (onStandbyEntry) s

/-- ADMITTED_WORK_DRAINED (R488): The admitted reads complete and appends are staged, so the entry passes step 2. -/
def execAdmittedWorkDrained (s : State) : Res := effect (onAdmittedWorkDrained) s

/-- SAFELIGHT_ENTRY (R490): The STANDBY steps run with zone padding and closing, slot zeroisation, segment masks and PD_SEC off. -/
def execSafelightEntry (s : State) : Res := effect (onSafelightEntry) s

/-- STANDBY_EXIT (R492): Domains power on, DRAM leaves self-refresh, state is written back, PLLs switch and fetch resumes. -/
def execStandbyExit (storeParity : Bool) (shadowBad : List Nat) (s : State) : Res := effect (onStandbyExit storeParity shadowBad) s

/-- SAFELIGHT_EXIT (R494): The STANDBY exit runs with PD_SEC on, image re-verification and system slot fill. -/
def execSafelightExit (storeParity : Bool) (shadowBad : List Nat) (s : State) : Res := effect (onSafelightExit storeParity shadowBad) s

/-- PLL_ENABLE (R493): Firmware sets a PLL's EN bit, which starts it. -/
def execPllEnable (master pll : Nat) (s : State) : Res := effect (onPllEnable master pll) s

/-- CLOCK_SELECT (R493): Firmware sets SEL, which switches a locked clock glitch-free to its PLL. -/
def execClockSelect (master pll : Nat) (sel : Bool) (s : State) : Res := effect (onClockSelect master pll sel) s

/-- PLL_LOCK_LOSS (R493): A PLL loses lock, so its clock falls back to FIRC and the CLOCK alarm is raised. -/
def execPllLockLoss (pll : Nat) (s : State) : Res := effect (onPllLockLoss pll) s

/-- COLD_RESET (R499): The rise of VDD_AON resets PD_AON, increments PWRCYC, appends a history entry, latches straps and boots. -/
def execColdReset (profileSel role devId : Nat) (s : State) : Res := effectOff (onColdReset profileSel role devId) s

/-- SHELF_RST_ASSERT (R499): SHELF_RST_N held low drops the link, drains bays, self-refreshes DRAM and resets every domain but PD_AON. -/
def execShelfRstAssert (fails : List (Nat × Nat × Bool)) (s : State) : Res := effect (onShelfRstAssert fails) s

/-- SHELF_RST_RELEASE (R499): SHELF_RST_N rising latches the straps and continues as COLD from domain power-up. -/
def execShelfRstRelease (profileSel role devId : Nat) (s : State) : Res := effect (onShelfRstRelease profileSel role devId) s

/-- PERST_ASSERT (R499): PERST# asserted runs a WARM reset: drains bays, self-refreshes DRAM, resets domains and erases slots. -/
def execPerstAssert (fails : List (Nat × Nat × Bool)) (s : State) : Res := effect (onPerstAssert fails) s

/-- PERST_RELEASE (R500): PERST# rising boots the security core, the DMC exits self-refresh and configuration space returns. -/
def execPerstRelease (storeParity : Bool) (s : State) : Res := effect (onPerstRelease storeParity) s

/-- POWER_LOSS (R483): VDD_AON is removed, the device goes OFF and incomplete writes are lost. -/
def execPowerLoss (s : State) : Res := effect (onPowerLoss) s

/-- CLUSTER (R517): RST_CTRL.CLUSTER requests a CLUSTER reset through LRS steps 1 to 3 and 5. -/
def execCluster (master : Nat) (s : State) : Res := effect (onCluster master) s

/-- RST_HB_WRITE (R501): A management core writes its heartbeat register. -/
def execRstHbWrite (master c : Nat) (s : State) : Res := effect (onRstHbWrite master c) s

/-- HEARTBEAT_TIMEOUT (R501): A core misses its heartbeat within HB_TIMEOUT, which is a cluster failure. -/
def execHeartbeatTimeout (c : Nat) (s : State) : Res := effect (onHeartbeatTimeout c) s

/-- DOUBLE_FAULT (R501): A core's trap handler traps, which is a cluster failure. -/
def execDoubleFault (c : Nat) (s : State) : Res := effect (onDoubleFault c) s

/-- BOOT_TIMEOUT (R501): Released cores fail to write RST_HB within BOOT_TIMEOUT, which is a cluster failure. -/
def execBootTimeout (s : State) : Res := effect (onBootTimeout) s

/-- RESTARTS_CLEAR (R503): After 3,600 s without a cluster failure, RESTARTS returns to 0. -/
def execRestartsClear (s : State) : Res := effect (onRestartsClear) s

/-- SHELF_HB_TOGGLE (R505): Once per second the LRS self-checks and drives SHELF_HB with a 500 ms or 125 ms high time. -/
def execShelfHbToggle (checksPass : Bool) (s : State) : Res := effect (onShelfHbToggle checksPass) s

/-- BAY_POWER_UP_REQUEST (R192): SCH or firmware requests a bay, and the PMU asserts BAY_PWR_EN with 5 ms spacing. -/
def execBayPowerUpRequest (bay : Nat) (firmware : Bool) (s : State) : Res := effect (onBayPowerUpRequest bay firmware) s

/-- BAY_PG_ASSERT (R192): BAY_PG rises, and PD_FLASH comes on and out of reset with its restored configuration and descriptors. -/
def execBayPgAssert (bay : Nat) (s : State) : Res := effect (onBayPgAssert bay) s

/-- BAY_TPOR_EXPIRY (R192): TPOR elapses, the clamps are released, targets are reset, then identified and trained. -/
def execBayTporExpiry (bay : Nat) (ids : List (List Byte)) (resets badPages trainFails : List Nat) (s : State) : Res := effect (onBayTporExpiry bay ids resets badPages trainFails) s

/-- BAY_PG_TIMEOUT (R194): BAY_PG is not asserted within 50 ms, so the bay fails and its waiting commands complete POWERED_OFF_ACCESS. -/
def execBayPgTimeout (bay : Nat) (s : State) : Res := effect (onBayPgTimeout bay) s

/-- BAY_PG_FALL (R196): A bay loses power good while on, so the bay is clamped and re-powered and its operations are failed as BAY_LOSS. -/
def execBayPgFall (bay : Nat) (s : State) : Res := effect (onBayPgFall bay) s

/-- BAY_POWER_DOWN (R195): An unused bay drains, is clamped, goes off and has BAY_PWR_EN deasserted. -/
def execBayPowerDown (bay : Nat) (s : State) : Res := effect (onBayPowerDown bay) s

/-- DESC_VALIDATE (R215): A write of FCH_DESC word 63 validates a descriptor by R188, or the write is refused as busy. -/
def execDescValidate (master channel k : Nat) (crc : DWord) (s : State) : Res := effect (onDescValidate master channel k crc) s

/-- TRAIN (R210): FCH_CTRL.TRAIN retrains the channel once no die has an operation in progress. -/
def execTrain (master channel : Nat) (fails : Bool) (s : State) : Res := effect (onTrain master channel fails) s

/-- CHANNEL_DISABLE (R210): Clearing FCH_CTRL.ENABLE drains the channel and takes it out of service. -/
def execChannelDisable (master channel : Nat) (s : State) : Res := effect (onChannelDisable master channel) s

/-- TRIM_DATA_WRITE (R243): A write to RCH_TRIM_DATA replaces all six trims of the selected set. -/
def execTrimDataWrite (master : Nat) (data : Word) (s : State) : Res := effect (onTrimDataWrite master data) s

/-- BRT_UPDATE_REQUEST (R278): A core's request to the MHM update queue is applied in order, or refused when the queue is full. -/
def execBrtUpdateRequest (master index : Nat) (record : List Byte) (s : State) : Res := effect (onBrtUpdateRequest master index record) s

/-- WALK_START (R279): Setting MHM_WALK.RUN starts a paced walk of the table for one predicate from CURSOR. -/
def execWalkStart (s : State) : Res := effectIn .data (onWalkStart) s

/-- WALK_RECORD (R279): A paced walk reads the next records and posts matches to the candidate FIFO, pausing when it is full. -/
def execWalkRecord (bad : Nat) (s : State) : Res := effectIn .data (onWalkRecord bad) s

/-- WALK_STOP (R309): Setting MHM_WALK.STOP ends the walk at the next record. -/
def execWalkStop (s : State) : Res := effectIn .data (onWalkStop) s

/-- WALK_OUT_READ (R310): A read of MHM_WALK_OUT removes the oldest candidate and resumes a paused walk. -/
def execWalkOutRead (master : Nat) (s : State) : Res := effect (onWalkOutRead master) s

/-- RETENTION_SCAN (R283): A queued zone's sample bit-pages are read through the ladder, and the Scan Table bin is written. -/
def execRetentionScan (deadline : Nat) (s : State) : Res := effectIn .data (onRetentionScan deadline) s

/-- RELOCATION_START (R285): A refresh candidate is relocated to a target, copying its durable slots. -/
def execRelocationStart (target deadline : Nat) (s : State) : Res := effectIn .data (onRelocationStart target deadline) s

/-- RELOCATION_SWITCH (R285): The target is durable, so the Zone Map switches to it and the source goes DIRTY. -/
def execRelocationSwitch (pzn : Nat) (s : State) : Res := effectIn .data (onRelocationSwitch pzn) s

/-- SPARE_COPY_COMPLETE (R290): The spare reaches the failed word line, and the zone's programs resume. -/
def execSpareCopyComplete (pzn member plane : Nat) (s : State) : Res := effectIn .data (onSpareCopyComplete pzn member plane) s

/-- SENTINEL_SURVEY (R302): After COLD, sentinels are swept to estimate the unpowered interval. -/
def execSentinelSurvey (s : State) : Res := effectIn .data (onSentinelSurvey) s

/-- OFFTIME_DECISION (R305): Strip and host estimates decide OFF, OFFSUM and SOURCE, and fill the Retention Status page. -/
def execOfftimeDecision (s : State) : Res := effectIn .data (onOfftimeDecision) s

/-- TS_WAIT_EXPIRY (R304): TS_WAIT seconds pass after the survey with no Timestamp, so the host estimate is absent. -/
def execTsWaitExpiry (s : State) : Res := effectIn .data (onTsWaitExpiry) s

/-- NARROW_DRAM_WRITE (R331): A write narrower than a line is merged into a merge-buffer entry after a fill read. -/
def execNarrowDramWrite (master addr : Nat) (data : List Byte) (s : State) : Res := effect (onNarrowDramWrite master addr data) s

/-- MERGE_ENTRY_WRITEBACK (R331): A merge entry is written back as a whole line after MERGE_HOLD, an eviction or a flush. -/
def execMergeEntryWriteback (s : State) : Res := effectIn .data (onMergeEntryWriteback) s

/-- FLIP_ARM (R334): Setting MEP_FLIP.ARM arms fault injection at the first qualifying event of FUNC. -/
def execFlipArm (master func target mask : Nat) (s : State) : Res := effect (onFlipArm master func target mask) s

/-- FLIP_DISARM (R334): Setting MEP_FLIP.DISARM disarms the injection without firing. -/
def execFlipDisarm (master : Nat) (s : State) : Res := effect (onFlipDisarm master) s

/-- SCRUB_START (R336): Setting MEP_SCRUB_CTRL.START starts a Burnisher scrub, or ends it ZERO_LENGTH or RANGE. -/
def execScrubStart (master : Nat) (s : State) : Res := effect (onScrubStart master) s

/-- SCRUB_LINE_CHECK (R335): At its paced rate, the scrub reads a line and checks its parity. -/
def execScrubLineCheck (found : List Nat) (s : State) : Res := effectIn .data (onScrubLineCheck found) s

/-- SCRUB_STOP (R337): Setting STOP aborts the scrub after the line in progress. -/
def execScrubStop (master : Nat) (s : State) : Res := effect (onScrubStop master) s

/-- DRAM_COMMAND_ISSUE (R356): The channel picks a read or write per the bypass, open-row and age rules and issues it. -/
def execDramCommandIssue (channel : Nat) (accesses : List DramAccess) (s : State) : Res := effect (onDramCommandIssue channel accesses) s

/-- REFRESH_DUE (R359): A per-bank refresh falls due and is issued, or is postponed up to 8 times. -/
def execRefreshDue (channel bank : Nat) (postpone : Bool) (s : State) : Res := effect (onRefreshDue channel bank postpone) s

/-- DRAM_TEMP_POLL (R359): Every POLL ms the refresh-rate fields are read and MULT is set, raising TEMP_HIGH at excess. -/
def execDramTempPoll (dies : List DieRate) (s : State) : Res := effect (onDramTempPoll dies) s

/-- DQ_TRACKING_INTERVAL (R365): The DQ oscillator is read and the channel is retrained on excessive drift. -/
def execDqTrackingInterval (channel drift : Nat) (retrainFails : Bool) (s : State) : Res := effect (onDqTrackingInterval channel drift retrainFails) s

/-- SELF_REFRESH_EXIT (R362): The DMC restores training, exits self-refresh and reports READY. -/
def execSelfRefreshExit (storeParity : Bool) (s : State) : Res := effect (onSelfRefreshExit storeParity) s

/-- DRAM_TRAINING (R363): The full training runs after COLD or SHELF and is retried twice on failure. -/
def execDramTraining (mismatched failed : List Nat) (s : State) : Res := effect (onDramTraining mismatched failed) s

/-- DRAM_FILL (R354): Every physical line is written with zeros and valid parity before READY. -/
def execDramFill (s : State) : Res := effect (onDramFill) s

/-- BUFFER_ALLOC (R377): A buffer is popped from a class's free list after the link checks, or the request waits or spills. -/
def execBufferAlloc (requester group size deadline upset : Nat) (linkParity bitmapParity : Bool) (s : State) : Res := effectIn .data (onBufferAlloc requester group size deadline upset linkParity bitmapParity) s

/-- BUFFER_FREE (R378): A buffer is pushed on its free list, or refused as BAD_INDEX or DOUBLE_FREE. -/
def execBufferFree (requester cls index : Nat) (s : State) : Res := effectIn .data (onBufferFree requester cls index) s

/-- FREE_LIST_REBUILD_DONE (R379): The rebuild ends, and queued frees and waiting allocations proceed. -/
def execFreeListRebuildDone (cls : Nat) (s : State) : Res := effectIn .data (onFreeListRebuildDone cls) s

/-- SBG_ALLOC_SIZE_WRITE (R387): A core's write of SIZE starts a DRAM-group allocation. -/
def execSbgAllocSizeWrite (master size : Nat) (s : State) : Res := effect (onSbgAllocSizeWrite master size) s

/-- SBG_FREE_WRITE (R388): A core frees a DRAM-group buffer by address. -/
def execSbgFreeWrite (master addr : Nat) (s : State) : Res := effect (onSbgFreeWrite master addr) s

/-- SBG_ALLOC_RESULT_READ (R387): A read of SBG_ALLOC_RESULT returns the allocation outcome and clears a final status. -/
def execSbgAllocResultRead (master : Nat) (s : State) : Res := effect (onSbgAllocResultRead master) s

/-- ACCUMULATOR_IDLE_EXPIRY (R382): An accumulator idle for SBG_ACC.IDLE is written to its parity blocks and freed. -/
def execAccumulatorIdleExpiry (pzn hr v : Nat) (s : State) : Res := effectIn .data (onAccumulatorIdleExpiry pzn hr v) s

/-- EVENT_CAPTURE (R520): Each FIRC cycle CSH moves one port's event into the capture FIFO with its time stamp. -/
def execEventCapture (s : State) : Res := effect (onEventCapture) s

/-- RECORD_BUILD (R522): Every 16 FIRC cycles the builder assigns SEQ and CRC and stages the record, or drops it to LOST. -/
def execRecordBuild (s : State) : Res := effect (onRecordBuild) s

/-- CSH_DRAIN_WRITE (R527): Firmware confirms a drained SEQ, and the oldest staging record moves into the ring. -/
def execCshDrainWrite (master seq : Nat) (s : State) : Res := effect (onCshDrainWrite master seq) s

/-- CSH_CLEAR_WRITE (R530): A matching clear releases COUNT records, may zero LOST and raises the clear interrupt. -/
def execCshClearWrite (master count : Nat) (resetLost : Bool) (oldest : Nat) (s : State) : Res := effect (onCshClearWrite master count resetLost oldest) s

/-- CSH_RING_WRITE (R528): Firmware initialises the ring description, which sets INIT and locks the register. -/
def execCshRingWrite (master base oldSlot count : Nat) (seqs : List Nat) (s : State) : Res := effect (onCshRingWrite master base oldSlot count seqs) s

/-- CSH_CURSOR_WRITE (R529): A reader's cursor write fetches a log position into its window. -/
def execCshCursorWrite (master pos : Nat) (upset : List (Nat × Byte)) (s : State) : Res := effect (onCshCursorWrite master pos upset) s

/-- RING_FETCH_COMPLETE (R529): A ring record read from SPI NOR lands in the window, and WSTAT becomes READY. -/
def execRingFetchComplete (master : Nat) (bytes : List Byte) (s : State) : Res := effect (onRingFetchComplete master bytes) s

/-- PORT_TRAINING (R548): A Saosh port detects signal, equalises, deskews and exchanges IDENT to come up. -/
def execPortTraining (port : Nat) (s : State) : Res := effect (onPortTraining port) s

/-- IDENT (R547): A received IDENT flit is checked against the wiring rule. -/
def execIdent (port dev role rport uid : Nat) (s : State) : Res := effect (onIdent port dev role rport uid) s

/-- MSG_FLIT_RECEIVE (R551): A MSG flit is accepted in sequence, or discarded with one NAK. -/
def execMsgFlitReceive (port : Nat) (bytes : List Byte) (s : State) : Res := effect (onMsgFlitReceive port bytes) s

/-- NAK (R551): A received NAK replays every unacknowledged flit after ACK, and 8 NAKs take the port down. -/
def execNak (port : Nat) (bytes : List Byte) (s : State) : Res := effect (onNak port bytes) s

/-- PORT_LOSS_TIMEOUT (R552): No flit passes CRC for LOSS_TIMEOUT, so the port goes DOWN and retrains. -/
def execPortLossTimeout (port : Nat) (s : State) : Res := effect (onPortLossTimeout port) s

/-- PORT_RETRAIN_TIMEOUT (R552): A DOWN port not up within 50 ms goes FAILED. -/
def execPortRetrainTimeout (port : Nat) (s : State) : Res := effect (onPortRetrainTimeout port) s

/-- JOIN (R556): A member's JOIN is checked by the leader, which answers JOIN_ACK or refuses. -/
def execJoin (src uid role bays lc term : Nat) (pub chain : List Byte) (chainOk sigOk : Bool) (s : State) : Res := effect (onJoin src uid role bays lc term pub chain chainOk sigOk) s

/-- JOIN_ACK (R556): A JOIN_ACK completes the join and loads the pair key into a system slot. -/
def execJoinAck (src uid term : Nat) (pub : List Byte) (chainOk sigOk : Bool) (s : State) : Res := effect (onJoinAck src uid term pub chainOk sigOk) s

/-- JOIN_RETRY (R556): A refused or pending member retries its join every second. -/
def execJoinRetry (s : State) : Res := effect (onJoinRetry) s

/-- CLAIM (R569): A valid CLAIM makes the device adopt the term and join the claimant. -/
def execClaim (src term : Nat) (valid : Bool) (s : State) : Res := effect (onClaim src term valid) s

/-- DEPART (R562): A received DEPART marks the peer DEPARTED. -/
def execDepart (src : Nat) (s : State) : Res := effect (onDepart src) s

/-- PEER_HB (R564): A received PEER_HB keeps the peer LIVE. -/
def execPeerHb (src : Nat) (s : State) : Res := effect (onPeerHb src) s

/-- PEER_HB_SEND (R564): Every 1 ms a PEER_HB is sent to each joined peer. -/
def execPeerHbSend (s : State) : Res := effect (onPeerHbSend) s

/-- CMD_FWD (R559): A member admits a forwarded command with the carried deadline, or refuses it with CASCADE_MEMBER_LOST. -/
def execCmdFwd (src tag term : Nat) (q : Sqe) (func tenant ezn offset cls remain : Nat) (s : State) : Res := effect (onCmdFwd src tag term q func tenant ezn offset cls remain) s

/-- WR_DATA (R559): A member receives one block of write data and checks its ICRC at CPH. -/
def execWrData (src tag : Nat) (bytes : List Byte) (icrc : DWord) (s : State) : Res := effect (onWrData src tag bytes icrc) s

/-- RD_DATA (R559): The leader receives one read block from a member for egress. -/
def execRdData (src tag : Nat) (bytes : List Byte) (ocrc : DWord) (s : State) : Res := effect (onRdData src tag bytes ocrc) s

/-- CPL (R559): The leader receives a member's completion and posts it to the host. -/
def execCpl (src tag : Nat) (status : Status) (dw0 dw1 : DWord) (s : State) : Res := effect (onCpl src tag status dw0 dw1) s

/-- ADMIN (R560): A member applies forwarded administration: namespaces, Select All, Sanitize, features and PMU requests. -/
def execAdmin (src tag : Nat) (msg : AdminMsg) (s : State) : Res := effect (onAdmin src tag msg) s

/-- ADMIN_CPL (R560): The leader receives an ADMIN completion, which lets the command complete. -/
def execAdminCpl (src tag : Nat) (status : Status) (data : List Byte) (s : State) : Res := effect (onAdminCpl src tag status data) s

/-- MIRROR (R560): A succession candidate stores the leader's namespace and deadline state. -/
def execMirror (src : Nat) (rec : MirrorRec) (s : State) : Res := effect (onMirror src rec) s

/-- CSR_REQ (R563): A peer's forwarded MBX access is performed, or refused for other targets. -/
def execCsrReq (src tag : Nat) (write : Bool) (offset size : Nat) (data : Word) (s : State) : Res := effect (onCsrReq src tag write offset size data) s

/-- CSR_RSP (R563): The response of a peer MBX access returns to the requesting core. -/
def execCsrRsp (src tag : Nat) (write refused : Bool) (data : Word) (s : State) : Res := effect (onCsrRsp src tag write refused data) s

/-- MBX_NOTICE (R563): A mailbox notice from a peer sets SLK_NOTE and interrupts MC0. -/
def execMbxNotice (src channel kind : Nat) (s : State) : Res := effect (onMbxNotice src channel kind) s

/-- PEER_TIMEOUT_EXPIRY (R564): No PEER_HB arrives for PEER_TIMEOUT, so the peer is LOST and its commands fail. -/
def execPeerTimeoutExpiry (peer : Nat) (s : State) : Res := effect (onPeerTimeoutExpiry peer) s

/-- DEPARTED_REJOIN_EXPIRY (R564): A departed member not rejoined within 60 s of the wake becomes LOST. -/
def execDepartedRejoinExpiry (peer : Nat) (s : State) : Res := effect (onDepartedRejoinExpiry peer) s

/-- SUCC_WAIT_EXPIRY (R569): A candidate whose leader stays lost for SUCC_WAIT claims leadership with a new term. -/
def execSuccWaitExpiry (s : State) : Res := effect (onSuccWaitExpiry) s

/-- NEW_LEADER_TAKEOVER (R570): The new leader loads mirrored state, trains PCIe and presents functions. -/
def execNewLeaderTakeover (s : State) : Res := effect (onNewLeaderTakeover) s

/-- PEER_SIGNAL_DETECT (R562): A departed device's lane-0 detector sees a peer leave electrical idle and raises the PEER wake. -/
def execPeerSignalDetect (s : State) : Res := effect (onPeerSignalDetect) s

/-- SLK_REMOVE_WRITE (R577): The PF marks a LOST peer REMOVED, and its zones are seen as Offline. -/
def execSlkRemoveWrite (master : Nat) (value : DWord) (s : State) : Res := effect (onSlkRemoveWrite master value) s

/-- PRF_SEL_WRITE (R586): A write of PRF_SEL sets or clears the profile override pending commit. -/
def execPrfSelWrite (master : Nat) (valid : Bool) (next : Nat) (s : State) : Res := effect (onPrfSelWrite master valid next) s

/-- BOOT_RECORD_COMMIT (R586): Firmware writes the boot record with the override and sets COMMITTED. -/
def execBootRecordCommit (s : State) : Res := effect (onBootRecordCommit) s

/-- JOURNAL_PAGE_PROGRAM (R58): Device firmware programs a journal page within 1 ms of its first waiting record. -/
def execJournalPageProgram (s : State) : Res := effectIn .data (onJournalPageProgram) s

/-- ZRS_COMMAND_PORT_REQUEST (R34): A management core's request to ZRS changes a zone's state or rewrites its entry. -/
def execZrsCommandPortRequest (request : ZrsRequest) (s : State) : Res := effectIn .data (onZrsCommandPortRequest request) s

/-- RC_FIELD_READ (R8): A read of a register with an RC field returns the value and then returns the field to its reset value. -/
def execRcFieldRead (master addr size : Nat) (s : State) : Res := effect (onRcFieldRead master addr size) s

/-- IDLE_FLIT_RECEIVE (R551): A received IDLE flit delivers its ACK, which frees replay-buffer entries, and its returned REQ and RSP credits. -/
def execIdleFlitReceive (port : Nat) (bytes : List Byte) (s : State) : Res := effect (onIdleFlitReceive port bytes) s

/-- ALIGN_FLIT_RECEIVE (R550): A received ALIGN flit in every 1,024th flit slot is used for deskew and flit framing. -/
def execAlignFlitReceive (port : Nat) (bytes : List Byte) (s : State) : Res := effect (onAlignFlitReceive port bytes) s

/-- L1_2_ENTRY (R488): The PCIe link enters L1.2 when the host permits it, PCLK stops and CLKREQ# is released. -/
def execL12Entry (s : State) : Res := effect (onL12Entry) s

/-- L1_2_EXIT (R32): The PCIe link leaves L1.2 and PCLK restarts for the HIF link part. -/
def execL12Exit (s : State) : Res := effect (onL12Exit) s

/-- PLL_LOCK_ACQUIRED (R493): A started PLL achieves lock and sets LOCK, after which a SEL write can switch its clock. -/
def execPllLockAcquired (pll : Nat) (s : State) : Res := effect (onPllLockAcquired pll) s

/-- PAGE_IDLE_PRECHARGE (R355): A bank row is closed by precharge when DMC_PAGE.IDLE MCLK cycles pass with no access to that bank. -/
def execPageIdlePrecharge (channel bank : Nat) (s : State) : Res := effect (onPageIdlePrecharge channel bank) s

/-- DOE_DISCOVERY (R88): A DOE Discovery request in the PF's DOE mailbox is answered. -/
def execDoeDiscovery (index : Nat) (s : State) : Res := effect (onDoeDiscovery index) s

/-- CHUNKED_TRANSFER (R122): An SPDM chunked transfer request carries a large message in chunks. -/
def execChunkedTransfer (transport : Nat) (fetch : Bool) (seq : Nat) (last : Bool) (data : List Byte) (s : State) : Res := effect (onChunkedTransfer transport fetch seq last data) s

/-- SPI_NOR_OPERATION_END (R529): A program or erase of the SPI NOR ends, and a ring fetch that waited for it starts its read. -/
def execSpiNorOperationEnd (s : State) : Res := effect (onSpiNorOperationEnd) s

end Sys2Proof.Machine
end

