-- ==== Sys2Proof/Machine/Dispatch.lean ====
section
/-!
DEFINITION. One arm per command of the opcode table: each calls the meaning of that command once.
-/

namespace Sys2Proof.Machine

open Sys2Proof

/-- The effect of a command on everything but the queue of waiting commands. -/
def exec (i : Instr) (s : State) : Host.Outcome State Fault Refusal :=
  match i with
  | .ophoursStep => Sys2Proof.Machine.execOphoursStep s
  | .epochTick sensors marks histBad => Sys2Proof.Machine.execEpochTick sensors marks histBad s
  | .reservedMasterAccess master addr write => Sys2Proof.Machine.execReservedMasterAccess master addr write s
  | .pwrOffAccess master addr write => Sys2Proof.Machine.execPwrOffAccess master addr write s
  | .csrWrite master addr size data => Sys2Proof.Machine.execCsrWrite master addr size data s
  | .sqTailDoorbell func qid value => Sys2Proof.Machine.execSqTailDoorbell func qid value s
  | .cqHeadDoorbell func qid value => Sys2Proof.Machine.execCqHeadDoorbell func qid value s
  | .offBarAccess func offset size write data => Sys2Proof.Machine.execOffBarAccess func offset size write data s
  | .commandFetch sqes => Sys2Proof.Machine.execCommandFetch sqes s
  | .zoneResolve slot camParity loadBad => Sys2Proof.Machine.execZoneResolve slot camParity loadBad s
  | .bindingRetry slot => Sys2Proof.Machine.execBindingRetry slot s
  | .horizonWaitResume slot => Sys2Proof.Machine.execHorizonWaitResume slot s
  | .dieQueueWaitResume slot => Sys2Proof.Machine.execDieQueueWaitResume slot s
  | .readReservation slot => Sys2Proof.Machine.execReadReservation slot s
  | .read slot => Sys2Proof.Machine.execRead slot s
  | .write slot => Sys2Proof.Machine.execWrite slot s
  | .flush slot => Sys2Proof.Machine.execFlush slot s
  | .verify slot => Sys2Proof.Machine.execVerify slot s
  | .zoneAppend slot => Sys2Proof.Machine.execZoneAppend slot s
  | .placedZoneAppend slot => Sys2Proof.Machine.execPlacedZoneAppend slot s
  | .zoneOpenTiered slot => Sys2Proof.Machine.execZoneOpenTiered slot s
  | .zoneOpen slot => Sys2Proof.Machine.execZoneOpen slot s
  | .zoneClose slot => Sys2Proof.Machine.execZoneClose slot s
  | .zoneFinish slot => Sys2Proof.Machine.execZoneFinish slot s
  | .zoneReset slot => Sys2Proof.Machine.execZoneReset slot s
  | .zoneOffline slot => Sys2Proof.Machine.execZoneOffline slot s
  | .reportZones slot => Sys2Proof.Machine.execReportZones slot s
  | .zoneOpTakesEffect ezn => Sys2Proof.Machine.execZoneOpTakesEffect ezn s
  | .contextRelease ezn => Sys2Proof.Machine.execContextRelease ezn s
  | .padDeadlineExpiry ezn => Sys2Proof.Machine.execPadDeadlineExpiry ezn s
  | .padAfterPadding ezn => Sys2Proof.Machine.execPadAfterPadding ezn s
  | .createIoSq slot base => Sys2Proof.Machine.execCreateIoSq slot base s
  | .createIoCq slot base => Sys2Proof.Machine.execCreateIoCq slot base s
  | .deleteIoSq slot => Sys2Proof.Machine.execDeleteIoSq slot s
  | .deleteIoCq slot => Sys2Proof.Machine.execDeleteIoCq slot s
  | .getLogPage slot => Sys2Proof.Machine.execGetLogPage slot s
  | .identify slot => Sys2Proof.Machine.execIdentify slot s
  | .abort slot => Sys2Proof.Machine.execAbort slot s
  | .setFeatures slot buffer => Sys2Proof.Machine.execSetFeatures slot buffer s
  | .getFeatures slot => Sys2Proof.Machine.execGetFeatures slot s
  | .setPowerManagement slot => Sys2Proof.Machine.execSetPowerManagement slot s
  | .setNumberOfQueues slot => Sys2Proof.Machine.execSetNumberOfQueues slot s
  | .setTimestamp slot ms => Sys2Proof.Machine.execSetTimestamp slot ms s
  | .setDeadlineClassTable slot => Sys2Proof.Machine.execSetDeadlineClassTable slot s
  | .setDefaultDeadlineClass slot => Sys2Proof.Machine.execSetDefaultDeadlineClass slot s
  | .autonomousPsTransition => Sys2Proof.Machine.execAutonomousPsTransition s
  | .asyncEventRequest slot => Sys2Proof.Machine.execAsyncEventRequest slot s
  | .asyncEventRaise func event => Sys2Proof.Machine.execAsyncEventRaise func event s
  | .namespaceCreate slot data => Sys2Proof.Machine.execNamespaceCreate slot data s
  | .namespaceDelete slot => Sys2Proof.Machine.execNamespaceDelete slot s
  | .namespaceAttachment slot controllers => Sys2Proof.Machine.execNamespaceAttachment slot controllers s
  | .secondaryOffline slot => Sys2Proof.Machine.execSecondaryOffline slot s
  | .secondaryOnline slot => Sys2Proof.Machine.execSecondaryOnline slot s
  | .firmwareImageDownload slot data => Sys2Proof.Machine.execFirmwareImageDownload slot data s
  | .firmwareCommit slot => Sys2Proof.Machine.execFirmwareCommit slot s
  | .sanitize slot => Sys2Proof.Machine.execSanitize slot s
  | .sanitizeExitFailureMode slot => Sys2Proof.Machine.execSanitizeExitFailureMode slot s
  | .sanitizeComplete readBackFails => Sys2Proof.Machine.execSanitizeComplete readBackFails s
  | .deviceSelfTest slot => Sys2Proof.Machine.execDeviceSelfTest slot s
  | .nvmeMiSend slot => Sys2Proof.Machine.execNvmeMiSend slot s
  | .nvmeMiReceive slot => Sys2Proof.Machine.execNvmeMiReceive slot s
  | .securitySendKeyImport slot data => Sys2Proof.Machine.execSecuritySendKeyImport slot data s
  | .securitySendMigrationKey slot data => Sys2Proof.Machine.execSecuritySendMigrationKey slot data s
  | .lifecycleCommand slot data readBackFails => Sys2Proof.Machine.execLifecycleCommand slot data readBackFails s
  | .securitySendProfileWrite slot data => Sys2Proof.Machine.execSecuritySendProfileWrite slot data s
  | .securityReceiveImportKey slot => Sys2Proof.Machine.execSecurityReceiveImportKey slot s
  | .securityReceiveNonce slot => Sys2Proof.Machine.execSecurityReceiveNonce slot s
  | .securityReceiveCertChain slot => Sys2Proof.Machine.execSecurityReceiveCertChain slot s
  | .lifecycleNonceExpiry => Sys2Proof.Machine.execLifecycleNonceExpiry s
  | .ccEnable func cc aqa asq acq => Sys2Proof.Machine.execCcEnable func cc aqa asq acq s
  | .controllerReset func => Sys2Proof.Machine.execControllerReset func s
  | .shutdownNotification func shn => Sys2Proof.Machine.execShutdownNotification func shn s
  | .flr func => Sys2Proof.Machine.execFlr func s
  | .sriovConfigWrite access => Sys2Proof.Machine.execSriovConfigWrite access s
  | .stopAll start => Sys2Proof.Machine.execStopAll start s
  | .start => Sys2Proof.Machine.execStart s
  | .quietReached => Sys2Proof.Machine.execQuietReached s
  | .freeze vf bufPages keyExport => Sys2Proof.Machine.execFreeze vf bufPages keyExport s
  | .save vf bufPages keyExport => Sys2Proof.Machine.execSave vf bufPages keyExport s
  | .restore vf bufPages keyExport image => Sys2Proof.Machine.execRestore vf bufPages keyExport image s
  | .unfreeze vf bufPages keyExport => Sys2Proof.Machine.execUnfreeze vf bufPages keyExport s
  | .dieEntryIssue die trimParity dramBad => Sys2Proof.Machine.execDieEntryIssue die trimParity dramBad s
  | .channelBurstBoundary channel => Sys2Proof.Machine.execChannelBurstBoundary channel s
  | .statusPoll die status failPlane => Sys2Proof.Machine.execStatusPoll die status failPlane s
  | .operationTimeout die failPlane => Sys2Proof.Machine.execOperationTimeout die failPlane s
  | .suspendDecision die => Sys2Proof.Machine.execSuspendDecision die s
  | .suspendWindowExpiry die => Sys2Proof.Machine.execSuspendWindowExpiry die s
  | .resume die => Sys2Proof.Machine.execResume die s
  | .readDeadlineExpiry slot => Sys2Proof.Machine.execReadDeadlineExpiry slot s
  | .wedgeSyncSearch die bytes => Sys2Proof.Machine.execWedgeSyncSearch die bytes s
  | .engineAllocation soft => Sys2Proof.Machine.execEngineAllocation soft s
  | .hardDecodeDone engine parityError => Sys2Proof.Machine.execHardDecodeDone engine parityError s
  | .softDecodeDone engine parityError => Sys2Proof.Machine.execSoftDecodeDone engine parityError s
  | .trackingProbeEval die => Sys2Proof.Machine.execTrackingProbeEval die s
  | .blockOpen slot block parityFails pipeFault keyBad => Sys2Proof.Machine.execBlockOpen slot block parityFails pipeFault keyBad s
  | .hostDataEgress slot block fails => Sys2Proof.Machine.execHostDataEgress slot block fails s
  | .hostDataFetchCompletion slot block bytes bad => Sys2Proof.Machine.execHostDataFetchCompletion slot block bytes bad s
  | .blockSeal slot block upto pipeFault parity => Sys2Proof.Machine.execBlockSeal slot block upto pipeFault parity s
  | .contextRestore ctx dramBad dirParity => Sys2Proof.Machine.execContextRestore ctx dramBad dirParity s
  | .keyRequest slotParity => Sys2Proof.Machine.execKeyRequest slotParity s
  | .mgmtSeal deadline => Sys2Proof.Machine.execMgmtSeal deadline s
  | .mgmtOpen deadline => Sys2Proof.Machine.execMgmtOpen deadline s
  | .mgmtGmac deadline => Sys2Proof.Machine.execMgmtGmac deadline s
  | .tkrWrite master slot parity => Sys2Proof.Machine.execTkrWrite master slot parity s
  | .tkrUnwrap master slot wrapSlot parity => Sys2Proof.Machine.execTkrUnwrap master slot wrapSlot parity s
  | .tkrWrap master slot wrapSlot parity => Sys2Proof.Machine.execTkrWrap master slot wrapSlot parity s
  | .tkrErase master slot count readBackFails => Sys2Proof.Machine.execTkrErase master slot count readBackFails s
  | .tkrGenerate master slot parity => Sys2Proof.Machine.execTkrGenerate master slot parity s
  | .retiredCopyExpiry readBackFails => Sys2Proof.Machine.execRetiredCopyExpiry readBackFails s
  | .alarmDetect source present => Sys2Proof.Machine.execAlarmDetect source present s
  | .alarmLockClear master => Sys2Proof.Machine.execAlarmLockClear master s
  | .secAlarmActWrite master value => Sys2Proof.Machine.execSecAlarmActWrite master value s
  | .securityBoot => Sys2Proof.Machine.execSecurityBoot s
  | .bootCompleteReport journalBad readBackOk => Sys2Proof.Machine.execBootCompleteReport journalBad readBackOk s
  | .getVersion transport => Sys2Proof.Machine.execGetVersion transport s
  | .getCapabilities transport transfer => Sys2Proof.Machine.execGetCapabilities transport transfer s
  | .negotiateAlgorithms transport curves hashes groups aead => Sys2Proof.Machine.execNegotiateAlgorithms transport curves hashes groups aead s
  | .getDigests transport => Sys2Proof.Machine.execGetDigests transport s
  | .getCertificate transport slot offset length => Sys2Proof.Machine.execGetCertificate transport slot offset length s
  | .challenge transport slot nonce => Sys2Proof.Machine.execChallenge transport slot nonce s
  | .getMeasurements transport index sign nonce => Sys2Proof.Machine.execGetMeasurements transport index sign nonce s
  | .keyExchange transport slot pub => Sys2Proof.Machine.execKeyExchange transport slot pub s
  | .finish transport session record => Sys2Proof.Machine.execFinish transport session record s
  | .endSession transport session record => Sys2Proof.Machine.execEndSession transport session record s
  | .mctpPacket bytes admin => Sys2Proof.Machine.execMctpPacket bytes admin s
  | .readNvmeMiDataStructure dtype port ctrl => Sys2Proof.Machine.execReadNvmeMiDataStructure dtype port ctrl s
  | .nvmSubsystemHealthStatusPoll => Sys2Proof.Machine.execNvmSubsystemHealthStatusPoll s
  | .controllerHealthStatusPoll first count => Sys2Proof.Machine.execControllerHealthStatusPoll first count s
  | .configurationGet id port => Sys2Proof.Machine.execConfigurationGet id port s
  | .configurationSet id port value => Sys2Proof.Machine.execConfigurationSet id port value s
  | .vpdRead offset length => Sys2Proof.Machine.execVpdRead offset length s
  | .dbgUnlockReq level => Sys2Proof.Machine.execDbgUnlockReq level s
  | .dbgRespVerify last alarm => Sys2Proof.Machine.execDbgRespVerify last alarm s
  | .dbgChallengeExpiry => Sys2Proof.Machine.execDbgChallengeExpiry s
  | .relock => Sys2Proof.Machine.execRelock s
  | .debugPortAccess op => Sys2Proof.Machine.execDebugPortAccess op s
  | .mbxBindWrite master n value => Sys2Proof.Machine.execMbxBindWrite master n value s
  | .bindLock master => Sys2Proof.Machine.execBindLock master s
  | .mbxClaim n masters => Sys2Proof.Machine.execMbxClaim n masters s
  | .mbxWordWrite master n word value => Sys2Proof.Machine.execMbxWordWrite master n word value s
  | .go master n len => Sys2Proof.Machine.execGo master n len s
  | .release master n => Sys2Proof.Machine.execRelease master n s
  | .recall master n => Sys2Proof.Machine.execRecall master n s
  | .discard master n => Sys2Proof.Machine.execDiscard master n s
  | .mbxLastWordRead master n word => Sys2Proof.Machine.execMbxLastWordRead master n word s
  | .mbxPartyReset masters => Sys2Proof.Machine.execMbxPartyReset masters s
  | .pmuReqActive master => Sys2Proof.Machine.execPmuReqActive master s
  | .pmuReqIdle master => Sys2Proof.Machine.execPmuReqIdle master s
  | .pmuReqStandby master => Sys2Proof.Machine.execPmuReqStandby master s
  | .pmuReqSafelight master => Sys2Proof.Machine.execPmuReqSafelight master s
  | .pmuReqWake master => Sys2Proof.Machine.execPmuReqWake master s
  | .stepDone master => Sys2Proof.Machine.execStepDone master s
  | .wakeEvent source => Sys2Proof.Machine.execWakeEvent source s
  | .activeIdleChange => Sys2Proof.Machine.execActiveIdleChange s
  | .bayIdleExpiry bay => Sys2Proof.Machine.execBayIdleExpiry bay s
  | .standbyEntry => Sys2Proof.Machine.execStandbyEntry s
  | .admittedWorkDrained => Sys2Proof.Machine.execAdmittedWorkDrained s
  | .safelightEntry => Sys2Proof.Machine.execSafelightEntry s
  | .standbyExit storeParity shadowBad => Sys2Proof.Machine.execStandbyExit storeParity shadowBad s
  | .safelightExit storeParity shadowBad => Sys2Proof.Machine.execSafelightExit storeParity shadowBad s
  | .pllEnable master pll => Sys2Proof.Machine.execPllEnable master pll s
  | .clockSelect master pll sel => Sys2Proof.Machine.execClockSelect master pll sel s
  | .pllLockLoss pll => Sys2Proof.Machine.execPllLockLoss pll s
  | .coldReset profileSel role devId => Sys2Proof.Machine.execColdReset profileSel role devId s
  | .shelfRstAssert fails => Sys2Proof.Machine.execShelfRstAssert fails s
  | .shelfRstRelease profileSel role devId => Sys2Proof.Machine.execShelfRstRelease profileSel role devId s
  | .perstAssert fails => Sys2Proof.Machine.execPerstAssert fails s
  | .perstRelease storeParity => Sys2Proof.Machine.execPerstRelease storeParity s
  | .powerLoss => Sys2Proof.Machine.execPowerLoss s
  | .cluster master => Sys2Proof.Machine.execCluster master s
  | .rstHbWrite master c => Sys2Proof.Machine.execRstHbWrite master c s
  | .heartbeatTimeout c => Sys2Proof.Machine.execHeartbeatTimeout c s
  | .doubleFault c => Sys2Proof.Machine.execDoubleFault c s
  | .bootTimeout => Sys2Proof.Machine.execBootTimeout s
  | .restartsClear => Sys2Proof.Machine.execRestartsClear s
  | .shelfHbToggle checksPass => Sys2Proof.Machine.execShelfHbToggle checksPass s
  | .bayPowerUpRequest bay firmware => Sys2Proof.Machine.execBayPowerUpRequest bay firmware s
  | .bayPgAssert bay => Sys2Proof.Machine.execBayPgAssert bay s
  | .bayTporExpiry bay ids resets badPages trainFails => Sys2Proof.Machine.execBayTporExpiry bay ids resets badPages trainFails s
  | .bayPgTimeout bay => Sys2Proof.Machine.execBayPgTimeout bay s
  | .bayPgFall bay => Sys2Proof.Machine.execBayPgFall bay s
  | .bayPowerDown bay => Sys2Proof.Machine.execBayPowerDown bay s
  | .descValidate master channel k crc => Sys2Proof.Machine.execDescValidate master channel k crc s
  | .train master channel fails => Sys2Proof.Machine.execTrain master channel fails s
  | .channelDisable master channel => Sys2Proof.Machine.execChannelDisable master channel s
  | .trimDataWrite master data => Sys2Proof.Machine.execTrimDataWrite master data s
  | .brtUpdateRequest master index record => Sys2Proof.Machine.execBrtUpdateRequest master index record s
  | .walkStart => Sys2Proof.Machine.execWalkStart s
  | .walkRecord bad => Sys2Proof.Machine.execWalkRecord bad s
  | .walkStop => Sys2Proof.Machine.execWalkStop s
  | .walkOutRead master => Sys2Proof.Machine.execWalkOutRead master s
  | .retentionScan deadline => Sys2Proof.Machine.execRetentionScan deadline s
  | .relocationStart target deadline => Sys2Proof.Machine.execRelocationStart target deadline s
  | .relocationSwitch pzn => Sys2Proof.Machine.execRelocationSwitch pzn s
  | .spareCopyComplete pzn member plane => Sys2Proof.Machine.execSpareCopyComplete pzn member plane s
  | .sentinelSurvey => Sys2Proof.Machine.execSentinelSurvey s
  | .offtimeDecision => Sys2Proof.Machine.execOfftimeDecision s
  | .tsWaitExpiry => Sys2Proof.Machine.execTsWaitExpiry s
  | .narrowDramWrite master addr data => Sys2Proof.Machine.execNarrowDramWrite master addr data s
  | .mergeEntryWriteback => Sys2Proof.Machine.execMergeEntryWriteback s
  | .flipArm master func target mask => Sys2Proof.Machine.execFlipArm master func target mask s
  | .flipDisarm master => Sys2Proof.Machine.execFlipDisarm master s
  | .scrubStart master => Sys2Proof.Machine.execScrubStart master s
  | .scrubLineCheck found => Sys2Proof.Machine.execScrubLineCheck found s
  | .scrubStop master => Sys2Proof.Machine.execScrubStop master s
  | .dramCommandIssue channel accesses => Sys2Proof.Machine.execDramCommandIssue channel accesses s
  | .refreshDue channel bank postpone => Sys2Proof.Machine.execRefreshDue channel bank postpone s
  | .dramTempPoll dies => Sys2Proof.Machine.execDramTempPoll dies s
  | .dqTrackingInterval channel drift retrainFails => Sys2Proof.Machine.execDqTrackingInterval channel drift retrainFails s
  | .selfRefreshExit storeParity => Sys2Proof.Machine.execSelfRefreshExit storeParity s
  | .dramTraining mismatched failed => Sys2Proof.Machine.execDramTraining mismatched failed s
  | .dramFill => Sys2Proof.Machine.execDramFill s
  | .bufferAlloc requester group size deadline upset linkParity bitmapParity => Sys2Proof.Machine.execBufferAlloc requester group size deadline upset linkParity bitmapParity s
  | .bufferFree requester cls index => Sys2Proof.Machine.execBufferFree requester cls index s
  | .freeListRebuildDone cls => Sys2Proof.Machine.execFreeListRebuildDone cls s
  | .sbgAllocSizeWrite master size => Sys2Proof.Machine.execSbgAllocSizeWrite master size s
  | .sbgFreeWrite master addr => Sys2Proof.Machine.execSbgFreeWrite master addr s
  | .sbgAllocResultRead master => Sys2Proof.Machine.execSbgAllocResultRead master s
  | .accumulatorIdleExpiry pzn hr v => Sys2Proof.Machine.execAccumulatorIdleExpiry pzn hr v s
  | .eventCapture => Sys2Proof.Machine.execEventCapture s
  | .recordBuild => Sys2Proof.Machine.execRecordBuild s
  | .cshDrainWrite master seq => Sys2Proof.Machine.execCshDrainWrite master seq s
  | .cshClearWrite master count resetLost oldest => Sys2Proof.Machine.execCshClearWrite master count resetLost oldest s
  | .cshRingWrite master base oldSlot count seqs => Sys2Proof.Machine.execCshRingWrite master base oldSlot count seqs s
  | .cshCursorWrite master pos upset => Sys2Proof.Machine.execCshCursorWrite master pos upset s
  | .ringFetchComplete master bytes => Sys2Proof.Machine.execRingFetchComplete master bytes s
  | .portTraining port => Sys2Proof.Machine.execPortTraining port s
  | .ident port dev role rport uid => Sys2Proof.Machine.execIdent port dev role rport uid s
  | .msgFlitReceive port bytes => Sys2Proof.Machine.execMsgFlitReceive port bytes s
  | .nak port bytes => Sys2Proof.Machine.execNak port bytes s
  | .portLossTimeout port => Sys2Proof.Machine.execPortLossTimeout port s
  | .portRetrainTimeout port => Sys2Proof.Machine.execPortRetrainTimeout port s
  | .join src uid role bays lc term pub chain chainOk sigOk => Sys2Proof.Machine.execJoin src uid role bays lc term pub chain chainOk sigOk s
  | .joinAck src uid term pub chainOk sigOk => Sys2Proof.Machine.execJoinAck src uid term pub chainOk sigOk s
  | .joinRetry => Sys2Proof.Machine.execJoinRetry s
  | .claim src term valid => Sys2Proof.Machine.execClaim src term valid s
  | .depart src => Sys2Proof.Machine.execDepart src s
  | .peerHb src => Sys2Proof.Machine.execPeerHb src s
  | .peerHbSend => Sys2Proof.Machine.execPeerHbSend s
  | .cmdFwd src tag term q func tenant ezn offset cls remain => Sys2Proof.Machine.execCmdFwd src tag term q func tenant ezn offset cls remain s
  | .wrData src tag bytes icrc => Sys2Proof.Machine.execWrData src tag bytes icrc s
  | .rdData src tag bytes ocrc => Sys2Proof.Machine.execRdData src tag bytes ocrc s
  | .cpl src tag status dw0 dw1 => Sys2Proof.Machine.execCpl src tag status dw0 dw1 s
  | .admin src tag msg => Sys2Proof.Machine.execAdmin src tag msg s
  | .adminCpl src tag status data => Sys2Proof.Machine.execAdminCpl src tag status data s
  | .mirror src rec => Sys2Proof.Machine.execMirror src rec s
  | .csrReq src tag write offset size data => Sys2Proof.Machine.execCsrReq src tag write offset size data s
  | .csrRsp src tag write refused data => Sys2Proof.Machine.execCsrRsp src tag write refused data s
  | .mbxNotice src channel kind => Sys2Proof.Machine.execMbxNotice src channel kind s
  | .peerTimeoutExpiry peer => Sys2Proof.Machine.execPeerTimeoutExpiry peer s
  | .departedRejoinExpiry peer => Sys2Proof.Machine.execDepartedRejoinExpiry peer s
  | .succWaitExpiry => Sys2Proof.Machine.execSuccWaitExpiry s
  | .newLeaderTakeover => Sys2Proof.Machine.execNewLeaderTakeover s
  | .peerSignalDetect => Sys2Proof.Machine.execPeerSignalDetect s
  | .slkRemoveWrite master value => Sys2Proof.Machine.execSlkRemoveWrite master value s
  | .prfSelWrite master valid next => Sys2Proof.Machine.execPrfSelWrite master valid next s
  | .bootRecordCommit => Sys2Proof.Machine.execBootRecordCommit s
  | .journalPageProgram => Sys2Proof.Machine.execJournalPageProgram s
  | .zrsCommandPortRequest request => Sys2Proof.Machine.execZrsCommandPortRequest request s
  | .rcFieldRead master addr size => Sys2Proof.Machine.execRcFieldRead master addr size s
  | .idleFlitReceive port bytes => Sys2Proof.Machine.execIdleFlitReceive port bytes s
  | .alignFlitReceive port bytes => Sys2Proof.Machine.execAlignFlitReceive port bytes s
  | .l12Entry => Sys2Proof.Machine.execL12Entry s
  | .l12Exit => Sys2Proof.Machine.execL12Exit s
  | .pllLockAcquired pll => Sys2Proof.Machine.execPllLockAcquired pll s
  | .pageIdlePrecharge channel bank => Sys2Proof.Machine.execPageIdlePrecharge channel bank s
  | .doeDiscovery index => Sys2Proof.Machine.execDoeDiscovery index s
  | .chunkedTransfer transport fetch seq last data => Sys2Proof.Machine.execChunkedTransfer transport fetch seq last data s
  | .spiNorOperationEnd => Sys2Proof.Machine.execSpiNorOperationEnd s

end Sys2Proof.Machine
end

