-- ==== Sys2Proof/Machine/Idle.lean ====
section
/-!
DEFINITION. What the device does while no command waits: a microsecond passes, and what no row of the opcode table names goes on by itself: the steps of a
sanitize (R92), the end of a channel's drain and a retraining that waits (R210), and the copies of the relocations under way (R285, R286).
-/

namespace Sys2Proof.Machine

open Sys2Proof

/-- A microsecond without a command. Log 1 (DESIGN CHOICE). -/
def idle (s : State) : State :=
  if s.pmu.off then { s with out := [] }
  else
    let s := advance { s with out := [] } 1
    let s := forEach (List.range 64) (sanitizeAdvance s) channelRest
    settle (if domainOn s .data then pumpRelocs s else s)

end Sys2Proof.Machine
end

