-- ==== Sys2Proof/Safety.lean ====
section
/-!
DEFINITION. What counts as a sound state of the device, in the terms claims use: the DRAM bytes and the registers in their canonical forms, and the read-only
status fields agreeing with what they report.
-/

namespace Sys2Proof.Machine

open Sys2Proof

/-- The DRAM bytes are in canonical form: addresses strictly rising, and no byte listed that reads the same unlisted. Where bytes are undefined, in the regions
lost in SAFELIGHT and in allocated buffers (R354, R377), every written byte is listed. -/
def Memory.wf (s : State) : Bool :=
  spSorted s.mep.dram && s.mep.dram.all fun kv => (undefDraw s kv.1).isSome || decide (kv.2 ≠ 0)

/-- The register file is in canonical form: no register listed at its reset value. -/
def Regs.wf (s : State) : Bool := spWf regReset s.regs

/-- A field holds a number, as far as its width goes. -/
abbrev holds (s : State) (f : Fld) (n : Nat) : Prop := getF s f = n % 2 ^ (f.hi + 1 - f.lo)

/-- The Contact Sheet, staging, key and shadow counts agree with what they count (R83, R103, R420, R533). -/
abbrev CountsAgree (s : State) : Prop :=
  holds s F.cshStat_ringCount s.csh.ringSeqs.length ∧ holds s F.cshRing_count s.csh.ringSeqs.length ∧ holds s F.cshStat_stgCount s.csh.staging.length ∧
  holds s F.cshStat_oldestSeq (oldestSeq s) ∧
  holds s F.zrsStaging_blkD6 (resvBlocks s .d6) ∧ holds s F.zrsStaging_blkD5 (resvBlocks s .d5) ∧
  holds s F.zrsStaging_blkD4 (resvBlocks s .d4) ∧ holds s F.zrsStaging_granulesUsed (granulesUsed s) ∧
  holds s F.tkrStat_loadedCount s.tkr.slots.length ∧ holds s F.tkrStat_retiredUsed s.tkr.retired.length ∧
  holds s F.hifDbsStat_validCount s.aon.shadow.length ∧ holds s F.hifDbsStat_pending (b2n (!s.aon.shadow.isEmpty))

/-- PMU_STATE, SLK_PEERS, SEC_LC and RST_LRS.STATE agree with what they show (R452, R510, R518, R575). -/
abbrev StatesAgree (s : State) : Prop :=
  holds s F.pmuState_pending (match s.pmu.pending with | none => 0 | some r => reqCode r) ∧
  holds s F.pmuState_step (stepCode (domainOn s .data) s.pmu.flight) ∧
  holds s F.pmuState_target (match s.pmu.flight with | .none => 0 | _ => reqCode s.pmu.target) ∧
  holds s F.slkPeers_live (peerBits s .live) ∧ holds s F.slkPeers_lost (peerBits s .lost) ∧
  holds s F.slkPeers_departed (peerBits s .departed) ∧
  holds s F.secLc_lifecycle (lifecycle s) ∧ holds s F.secLc_arb s.otp.arb ∧ holds s F.secLc_revoked s.otp.revoke ∧
  holds s F.secLc_level (getF s F.dbgUnlock_level) ∧ holds s F.rstLrs_state (lrsCode s)

/-- The power in use, the encryption contexts, the engines out of use and the media health agree with what they count (R160, R270, R296, R416, R417). -/
abbrev UseAgrees (s : State) : Prop :=
  holds s F.schPowerStat_inUse (inUse s) ∧
  holds s F.cphStat_inProgress (s.cph.ctxs.filter fun kv => kv.2.blk.isSome).length ∧
  holds s F.cphStat_resident (s.cph.ctxs.filter fun kv => kv.2.resident).length ∧
  holds s F.cphErr_pipesOff s.cph.pipesOff.length ∧
  holds s F.rchDecErr_hardOff s.rch.hardOff.length ∧ holds s F.rchDecErr_softOff s.rch.softOff.length ∧
  holds s F.mhmHealth_diesOut ((dieCfgs s).filter fun x => bitAt x.2 0 && !bitAt x.2 4).length ∧
  holds s F.mhmHealth_withdrawnZones s.mhm.withdrawn.length ∧ holds s F.mhmHealth_availSpare (availSpare s)

/-- The pins that follow from the state: SHELF_ALERT_N (R506), and the transmitters of the serial lanes (R495, R543). -/
abbrev PinsAgree (s : State) : Prop :=
  s.pins.shelfAlertLow = alertCondition s ∧ s.pins.slkTx = slkDriven s ∧ s.pins.pcieTx = pcieDriven s

/-- Every status field and pin agrees with what it reports. -/
abbrev Settled (s : State) : Prop := CountsAgree s ∧ StatesAgree s ∧ UseAgrees s ∧ PinsAgree s

/-- The registers whose read-only counts and states `settle` keeps up to date. -/
def settledAddrs : List Nat :=
  [0x1000400000, 0x1000400018, 0x1000e00020, 0x1000500008, 0x1000c00100, 0x1000100000, 0x1001600040, 0x1000f00030, 0x1000600000, 0x1000600010, 0x1001400058,
    0x1000700000, 0x1000200010, 0x1001500038]

/-- A command completes from a state: `exec` answers a next state, and that state has a property. -/
def Completes (c : Instr) (s : State) (P : State → Prop) : Prop := ∃ t, exec c s = .next t ∧ P t

/-- The rise of VDD_AON, the one command OFF waits for. -/
def isColdReset : Instr → Bool
  | .coldReset _ _ _ => true
  | _ => false

/-- VDD_AON is present. -/
abbrev Powered (s : State) : Prop := s.pmu.off = false

/-- PD_DATA is on. -/
abbrev Works (s : State) : Prop := s.pmu.off = false ∧ domainOn s .data = true

/-- The parts of the state beside the registers and the outputs. -/
inductive Part where
  | shadow | clk | straps | pmu | lrs | aon | csh | hif | vfm | nss | zrs | jrn | sch | bay | rch | mhm | age | mep | dmc | sbg | cph | tkr | otp | sec
  | dbg | spdm | mi | mbx | slk | nor | prf | pins | free | pending
deriving DecidableEq, Repr

/-- A part is the same in two states. Of a bay the moment its queues were last busy, which follows the clock, is not compared, nor of the pins those
that follow from the state. -/
def Part.same (p : Part) (s t : State) : Prop :=
  match p with
  | .shadow => t.shadow = s.shadow
  | .clk => t.clk = s.clk
  | .straps => t.straps = s.straps
  | .pmu => t.pmu = s.pmu
  | .lrs => t.lrs = s.lrs
  | .aon => t.aon = s.aon
  | .csh => t.csh = s.csh
  | .hif => t.hif = s.hif
  | .vfm => t.vfm = s.vfm
  | .nss => t.nss = s.nss
  | .zrs => t.zrs = s.zrs
  | .jrn => t.jrn = s.jrn
  | .sch => t.sch = s.sch
  | .bay => t.bay.lastRise = s.bay.lastRise ∧ t.bay.trainFails = s.bay.trainFails ∧ ∀ b, { bayOf t b with emptySince := 0 } = { bayOf s b with emptySince := 0 }
  | .rch => t.rch = s.rch
  | .mhm => t.mhm = s.mhm
  | .age => t.age = s.age
  | .mep => t.mep = s.mep
  | .dmc => t.dmc = s.dmc
  | .sbg => t.sbg = s.sbg
  | .cph => t.cph = s.cph
  | .tkr => t.tkr = s.tkr
  | .otp => t.otp = s.otp
  | .sec => t.sec = s.sec
  | .dbg => t.dbg = s.dbg
  | .spdm => t.spdm = s.spdm
  | .mi => t.mi = s.mi
  | .mbx => t.mbx = s.mbx
  | .slk => t.slk = s.slk
  | .nor => t.nor = s.nor
  | .prf => t.prf = s.prf
  | .pins => { t.pins with shelfAlertLow := false, slkTx := 0, pcieTx := false } = { s.pins with shelfAlertLow := false, slkTx := 0, pcieTx := false }
  | .free => t.free = s.free
  | .pending => t.pending = s.pending

/-- The frame of a command: nothing changes but the named parts, the registers at the named addresses, the outputs, and the status fields and the pin that
follow from the state. -/
def Only (s t : State) (parts : List Part) (addrs : List Nat) : Prop :=
  (∀ p : Part, p ∉ parts → p.same s t) ∧ ∀ f : Fld, f.addr ∉ addrs → f.addr ∉ settledAddrs → getF t f = getF s f

/-- A slot's command is the host's own and holds nothing: no read reservation, no buffer, no request to another device, no place among the commands held for a
zone; and neither a deletion of its queue nor a leader that steps down waits for its end. -/
abbrev Bare (s : State) (n : Nat) (c : CmdSlot) : Prop :=
  servedBy s n = none ∧ c.reserved = 0 ∧ (∀ kv ∈ s.mep.pool, kv.1 / 256 ≠ n) ∧ (∀ kv ∈ s.mep.ingest, kv.1 / 256 ≠ n) ∧
  (∀ kv ∈ s.slk.sentTags, kv.2 ≠ n) ∧ (∀ kv ∈ s.slk.adminWaits, kv.1 ≠ n) ∧
  (spFind (funcOf s c.func).sqs c.sqid).bind SubQ.deleting = none ∧ n ∉ s.zrs.held ∧ s.slk.stepping = false

/-- The slot of a command holds a fetched admin entry of an opcode. -/
abbrev FetchedAdmin (s : State) (n o : Nat) (c : CmdSlot) : Prop :=
  slotOf s n = some c ∧ c.phase = .fetched ∧ isAdmin o c = true ∧ Bare s n c

/-- The slot of a command holds a fetched I/O entry of a kind. -/
abbrev FetchedIo (s : State) (n : Nat) (k : CmdKind) (c : CmdSlot) : Prop :=
  slotOf s n = some c ∧ c.phase = .fetched ∧ c.sqe.admin = false ∧ ioKind c.sqe = k ∧ Bare s n c

/-- A completion for the command of a slot can be posted: the command is the host's own, its queues exist, and the completion queue has room. -/
abbrev CanPost (s : State) (n : Nat) (c : CmdSlot) : Prop :=
  servedBy s n = none ∧ c.silent = false ∧ c.sqid ≠ miQueue ∧
  (((spFind (funcOf s c.func).sqs c.sqid).bind fun k => spFind (funcOf s c.func).cqs k.cqid).any fun q => !cqFull q) = true

/-- The completion of a slot's command with a status and completion Dwords is among the outputs. -/
def Posted (t : State) (c : CmdSlot) (st : Status) (d0 d1 : DWord) : Prop :=
  ∃ dnr, Output.completion c.func c.sqid c.sqe.cid st dnr d0 d1 ∈ t.out

/-- The command of a slot has ended with a status: its slot is free, every other slot is as it was, and its completion is posted where it can be. -/
def Ended (s t : State) (n : Nat) (c : CmdSlot) (st : Status) : Prop :=
  slotOf t n = none ∧ (∀ m, m ≠ n → slotOf t m = slotOf s m) ∧ (CanPost s n c → ∃ d0 d1, Posted t c st d0 d1)

/-- A fetched I/O command passes its generic checks (R113): its namespace is one of its function, its queue is not stopped and the device its zone lies on
has not left. -/
abbrev Passes (s : State) (n : Nat) (k : CmdKind) (c : CmdSlot) (nsid : Nat) (ns : Namespace) : Prop :=
  Works s ∧ FetchedIo s n k c ∧ genericCheck s c = none ∧ nsOf s c.func c.sqe.nsid = some (nsid, ns) ∧
  queueStopped s c.func c.sqid = false ∧ memberLost s (zoneHome s (ns.base + slba c.sqe / 2 ^ 20)).1 = false

/-- The slot of an I/O command that has passed its generic checks. -/
abbrev checkedSlot (s : State) (k : CmdKind) (c : CmdSlot) (nsid : Nat) (ns : Namespace) : CmdSlot :=
  { c with
    kind := k, nsid := nsid, ezn := (zoneHome s (ns.base + slba c.sqe / 2 ^ 20)).2, remote := (zoneHome s (ns.base + slba c.sqe / 2 ^ 20)).1,
    offset := slba c.sqe % 2 ^ 20, blocks := if isReadKind k || isWriteKind k then nlb c.sqe else 0, phase := .checked }

/-- The I/O commands with the kind each checks for. -/
def ioRows (n : Nat) : List (CmdKind × Instr) :=
  [(.read, .read n), (.verify, .verify n), (.write, .write n), (.append, .zoneAppend n), (.placedAppend, .placedZoneAppend n),
   (.openTiered, .zoneOpenTiered n), (.open, .zoneOpen n), (.close, .zoneClose n), (.finish, .zoneFinish n), (.reset, .zoneReset n),
   (.offline, .zoneOffline n), (.report, .reportZones n)]

/-- ZRS takes the command of a slot in a phase, for one zone of this device that is its tenant's, is not busy, has no command before this one, and whose
entries are sound. -/
abbrev Resolves (s : State) (n : Nat) (ph : Phase) (c : CmdSlot) (ns : Namespace) : Prop :=
  Works s ∧ slotOf s n = some c ∧ c.phase = ph ∧ c.remote = none ∧ selectAll c.sqe = false ∧ slotNs s c = some ns ∧
  s.hif.admissionStopped = false ∧ n ∉ s.zrs.held ∧ zoneBusy s c.ezn = false ∧ standsBehind s n c c.ezn = false ∧ loadFault s c.ezn = none ∧
  otherTenant s c = false

/-- A Zone State Table entry with its check word. -/
abbrev sealedZst (z : ZstEntry) : ZstEntry := { z with crc := crc32c (zstBytes z) }

/-- A write for an open zone that finds its room: it stands at the write pointer, fits below the zone's end and the horizon, and the die queues have room. -/
abbrev CanReserve (s : State) (n : Nat) (ph : Phase) (c : CmdSlot) (ns : Namespace) (pzn : Nat) (z : ZstEntry) : Prop :=
  Resolves s n ph c ns ∧ isWriteKind c.kind = true ∧ boundZone s c.ezn = some (pzn, z) ∧ (zmapOf s c.ezn).retired = false ∧
  (spFind s.zrs.cam c.ezn).isSome = true ∧ isOpenState z.state = true ∧ relocOf s pzn = none ∧ keyLoaded s c.nsid = true ∧
  (c.kind = .write → slba c.sqe % 2 ^ 20 = z.wpHost) ∧ alignedWp z c = z.wpPhys ∧ z.wpPhys + c.blocks < zoneSlots z.tier ∧
  z.wpPhys + c.blocks ≤ horizonOf s c.ezn ∧ programRoom s pzn (missingPrograms s z.tier pzn z.wpPhys c.blocks) = true ∧
  bayOn s (groupOf pzn / 16) = true

/-- A write has its slots: the zone's write pointers have moved past them and the command is admitted at the old ones. -/
abbrev Reserved (t : State) (n : Nat) (c : CmdSlot) (pzn : Nat) (z : ZstEntry) : Prop :=
  boundZone t c.ezn = some (pzn, sealedZst { z with wpHost := z.wpHost + c.blocks, wpPhys := z.wpPhys + c.blocks }) ∧
  ∃ d0 d1, slotOf t n = some { c with phase := .admitted, offset := z.wpHost, firstSlot := z.wpPhys, dw0 := d0, dw1 := d1 }

/-- Nothing of a die's stitch group is bound, so that no program follows by itself, and no die's entry waits for tokens. -/
abbrev QuietDies (s : State) (d : Nat) : Prop :=
  (s.zrs.zst.filter fun kv => kv.2.bound && groupOf kv.1 == dieGroup d) = [] ∧ ∀ kv ∈ s.sch.dies, kv.2.tokenWait = false

/-- A free die in service with a valid descriptor, on a powered bay and a channel that is READY, has one entry, which is ready and eligible. -/
abbrev MayIssue (s : State) (d : Nat) (e : DieEntry) (bs : List Balance) : Prop :=
  Works s ∧ dieOf s d = { noDie with queue := [e], balances := bs } ∧ mayIssue s d = true ∧ eligibleAcct s (dieOf s d) e.acct = true ∧
  entryReady s d e = true

/-- And its tokens can be granted, of which the read reserve gives `k`. -/
abbrev CanIssue (s : State) (d k : Nat) (e : DieEntry) (bs : List Balance) : Prop := MayIssue s d e bs ∧ tokensFor s e = some k

/-- An issued entry at its start: its stage, its senses, its bursts. -/
abbrev issuedRun (s : State) (e : DieEntry) (k : Nat) (stage : OpStage) (senses : List SenseStep) (bursts : Nat) : Running :=
  ⟨{ e with charged := true }, entryPower s e, k, stage, senses, 0, [], [], 0, now s, 0, false, 0, none, bursts⟩

/-- The channel is free and its next burst boundary goes to this use. -/
abbrev NextUse (s : State) (c : Nat) (u : ChanUse) : Prop := Works s ∧ channelHeld s c = false ∧ chanUse s c = some u

/-- A die runs an operation whose array is busy, and a poll may be made of it. -/
abbrev Polled (s : State) (d : Nat) (r : Running) : Prop :=
  Works s ∧ (dieOf s d).current = some r ∧ r.stage = .busy ∧ pollServed s d = true

/-- What ends on a die frees nothing else: no bound zone of its group queues a program, no entry waits for tokens, no page buffer is in use, and the
channel has neither a drain to end nor a retraining to take up. -/
abbrev EndsAlone (s : State) (d : Nat) : Prop :=
  QuietDies s d ∧ s.rch.pages = [] ∧ getF s (F.fchStat_state (dieChannel d)) ≠ 6 ∧ flag s (F.fchCtrl_train (dieChannel d)) = false

/-- A buffer class gives this buffer next, and its LOW level is off. -/
abbrev Gives (s : State) (k i : Nat) : Prop := (popBuf s k 0).1 = some i ∧ getF s (F.sbgPoolCfg_low k) = 0

/-- A buffer of a class is held and can be given back: the class runs and no request waits for a buffer. -/
abbrev CanFree (s : State) (k i : Nat) : Prop :=
  i < classCount k ∧ bufTaken (poolOf s k) i = true ∧ i ∉ (poolOf s k).queuedFrees ∧ (poolOf s k).rebuilding = false ∧ s.sbg.waits = [] ∧
  freeCount s k < classCount k ∧ getF s (F.sbgPoolCfg_low k) = 0

/-- The additional data of a data block of a command: its header and SEQ (R319, R392). -/
abbrev blockAad (s : State) (c : CmdSlot) (b : Nat) : List Byte :=
  leBytes 8 (blockHeader 0 (c.nsid - 1) (c.offset + b) c.ezn (zmapOf s c.ezn).epoch).toNat ++ leBytes 4 (seqWord (zmapOf s c.ezn).epoch (devId s))

/-- The nonce of a data block of a command. -/
abbrev blockNonce (s : State) (c : CmdSlot) (b : Nat) : List Byte :=
  nonceBytes (devId s) c.ezn (zmapOf s c.ezn).epoch (c.offset + b) (c.nsid - 1)

/-- The block in progress of a context before its first byte. -/
abbrev freshBlock (s : State) (n b v : Nat) (c : CmdSlot) : CtxBlock :=
  ⟨n, b, BitVec.ofNat 96 (ofBe (blockNonce s c b)), 0, 0, [], [], 0xFFFFFFFF#32, 0xFFFFFFFF#32, v⟩

/-- The sealed copy of a block of 4,096 bytes: ciphertext, header, SEQ, SEAL and TAG. -/
abbrev sealedCopy (s : State) (c : CmdSlot) (b : Nat) (key data : List Byte) : StagedBlock :=
  ⟨gcmStream key (blockNonce s c b) (data.take 4096), blockHeader 0 (c.nsid - 1) (c.offset + b) c.ezn (zmapOf s c.ezn).epoch,
    BitVec.ofNat 32 (seqWord (zmapOf s c.ezn).epoch (devId s)),
    sealOf (gcmStream key (blockNonce s c b) (data.take 4096)) (seqWord (zmapOf s c.ezn).epoch (devId s)),
    BitVec.ofNat 128 (ofBe (gcmTag key (blockNonce s c b) (blockAad s c b) (gcmStream key (blockNonce s c b) (data.take 4096)))), [], false, 0, false⟩

/-- A fetched block of a write is the next its zone seals, under a resident context with no block in progress, and its key is in the cache. -/
abbrev CanSeal (s : State) (n b pzn i : Nat) (c : CmdSlot) (z : ZstEntry) (x : Ctx) (g : IngestBlock) (key : List Byte) : Prop :=
  Works s ∧ slotOf s n = some c ∧ liveWrite c b = true ∧ c.fetched.contains b = true ∧ boundZone s c.ezn = some (pzn, z) ∧ relocOf s pzn = none ∧
  nextSeal s c.ezn = some (n, b) ∧ ctxOf s c.ezn = some i ∧ spFind s.cph.ctxs i = some x ∧ x.resident = true ∧ x.blk = none ∧
  spFind s.mep.ingest (blockKey n b) = some g ∧ keyAt s x.keySlot (keyVersion s x.keySlot) = some key ∧
  keyCached s x.keySlot (keyVersion s x.keySlot) = true

/-- A block of a read can be opened now: its deadline has not passed, its zone has the epoch of its resolve, its tenant's key is in the cache. -/
abbrev CanOpen (s : State) (n b pzn : Nat) (c : CmdSlot) (z : ZstEntry) (key : List Byte) : Prop :=
  Works s ∧ slotOf s n = some c ∧ readOpen c = true ∧ c.opened.contains b = false ∧ c.egress.contains b = false ∧ b < c.blocks ∧ now s ≤ c.deadline ∧
  boundZone s c.ezn = some (pzn, z) ∧ c.home.map Resolved.epoch = some (zmapOf s c.ezn).epoch ∧ relocOf s pzn = none ∧
  keyBytes s (c.nsid - 1) = some key ∧
  keyCached s (c.nsid - 1) (keyVersion s (c.nsid - 1)) = true

/-- A read's block is in its read-pool buffer, every block of the read is open, no read of the read is left, and the host waits for it. -/
abbrev CanSend (s : State) (n b : Nat) (c : CmdSlot) (p : PoolBlock) : Prop :=
  Works s ∧ slotOf s n = some c ∧ c.kind = .read ∧ c.remote = none ∧ allOpened c = true ∧ c.egress.contains b = false ∧ servedBy s n = none ∧
  spFind s.mep.pool (blockKey n b) = some p ∧ crc32c p.data = p.ocrc ∧ flag s F.mepFlip_arm = false ∧ CanFree s 1 p.buf ∧
  readsOfSlot s n = []

/-- CPH serves the descriptor at the head of its queue: of an operation, for a LOADED system slot whose expanded key is in the cache, with lengths of at most
1 MiB, not both zero, and its ranges in usable DRAM. -/
abbrev Serves (s : State) (op m a : Nat) (rest : List (Nat × Nat)) (d key : List Byte) : Prop :=
  Works s ∧ dramReady s = true ∧ s.cph.mreqs = (m, a) :: rest ∧ d = memBytes s a 64 ∧ leAt d 0 1 % 16 = op ∧ inDram a 64 = true ∧
  isSystemSlot (mgmtSlot d) = true ∧ keyBytes s (mgmtSlot d) = some key ∧ keyCached s (mgmtSlot d) (keyVersion s (mgmtSlot d)) = true ∧
  leAt d 0x14 4 % 2 ^ 21 ≤ 2 ^ 20 ∧ leAt d 0x18 4 % 2 ^ 21 ≤ 2 ^ 20 ∧ (leAt d 0x14 4 % 2 ^ 21 ≠ 0 ∨ leAt d 0x18 4 % 2 ^ 21 ≠ 0) ∧
  (leAt d 0x14 4 % 2 ^ 21 = 0 ∨ inDram (leAt d 0x20 8) (leAt d 0x14 4 % 2 ^ 21) = true) ∧ inDram (leAt d 0x38 8) 16 = true ∧
  (op = 3 ∨ leAt d 0x18 4 % 2 ^ 21 = 0 ∨ (inDram (leAt d 0x28 8) (leAt d 0x18 4 % 2 ^ 21) = true ∧ inDram (leAt d 0x30 8) (leAt d 0x18 4 % 2 ^ 21) = true))

/-- A pipe has taken the expanded key of the slot a descriptor names. -/
abbrev pipeKeyed (s : State) (d : List Byte) : State := touchKey s (mgmtSlot d) (keyVersion s (mgmtSlot d))

/-- Nothing changes in the parts of the state beside the named ones; of the registers nothing is said. -/
def OnlyParts (s t : State) (parts : List Part) : Prop := ∀ p : Part, p ∉ parts → p.same s t

/-- The registers of a Tack Room command: TKR_CMD, TKR_STAT, TKR_DATA and TKR_OUT. -/
def tkrAddrs : List Nat :=
  [F.tkrCmd_go.addr, F.tkrStat_result.addr] ++ (List.range 10).map (fun i => (F.tkrData_word i).addr) ++ (List.range 10).map fun i => (F.tkrOut_word i).addr

/-- The security core can command the Tack Room: PD_SEC is on, no command runs, and no alarm has locked it. -/
abbrev TkrIdle (s : State) : Prop :=
  Powered s ∧ domainOn s .sec = true ∧ flag s F.tkrCmd_go = false ∧ flag s F.tkrStat_alarmLock = false ∧ s.tkr.waiting = false

/-- A Tack Room command has ended with a RESULT: GO reads 0, TKR_DATA is zero. -/
abbrev TkrEnded (t : State) (r : TkrResult) : Prop :=
  getF t F.tkrStat_result = tkrCode r ∧ flag t F.tkrCmd_go = false ∧ t.tkr.waiting = false ∧ ∀ i ∈ List.range 10, getF t (F.tkrData_word i) = 0

/-- The PMU stands still and takes requests: nothing in flight, no reset asserted, no core halted, the LRS watching; the device stands alone. -/
abbrev PmuIdle (s : State) : Prop :=
  Powered s ∧ s.pmu.flight = .none ∧ s.dbg.halted = [] ∧ s.lrs.perst = false ∧ s.lrs.shelfReset = false ∧ lrsActive s = false ∧ standalone s = true

/-- A register access by a row of its own reaches its register: neither its master (R15, R102, R441) nor its way or its target (R18, R497, R622) turns it
away. -/
abbrev Reaches (s : State) (m addr : Nat) (write : Bool) : Prop :=
  Powered s ∧ reservedMaster m = false ∧ (m = idDebug → debugReach s addr write = true) ∧ m ≠ idHostVf ∧
  (m = idHostPf → domainOn s .data = true ∧ hostVisible addr = true) ∧ routed s m addr = true ∧ windowOn s addr = true

/-- No mailbox channel has a message, or a holder: a reset of a party leaves every channel as it is. -/
abbrev MailQuiet (s : State) : Prop := ∀ kv ∈ s.mbx.chans, kv.2.st ≠ .claimed ∧ kv.2.st ≠ .full

/-- Nothing waits for the device to be in operation again: no shadow doorbell, held CC write or packet, no command slot, START, FLR, sanitize, relocation,
bound zone, parked die-queue entry, survey, suspended scrub or challenge. -/
abbrev NothingHeld (s : State) : Prop :=
  s.aon.shadow = [] ∧ s.aon.heldCc = [] ∧ s.aon.mctp = [] ∧ s.hif.slots = [] ∧ s.vfm.startWaits = false ∧ s.hif.sanitize.running = none ∧
  s.mhm.relocs = [] ∧ s.zrs.zst = [] ∧ s.vfm.flrWaits = false ∧ s.sch.parked = [] ∧ s.age.survey = [] ∧ getF s F.mhmOffest_state ≠ 1 ∧
  getF s F.mepScrubCtrl_status ≠ scrubSuspended ∧ getF s F.dbgUnlock_status ≠ dbgChalReady

end Sys2Proof.Machine
end

