-- ==== Sys2Proof/Certificates/Slice0/Obligations.lean ====
section
/-!
DEFINITION. The statements for the provers: what each command does, in which states it completes, what it leaves alone, and the invariants every step keeps.
`Only` is the frame: no part of the state and no register changes but the named ones, the outputs, and the status fields that follow from the state.
-/

open Sys2Proof Sys2Proof.Machine

/-- For every command c and state s, a step with c at the front of the queue is exec c on s with the queue's rest. On an empty queue the block idles: with
VDD_AON present the step answers a next state a microsecond later (the model's choice, assumption log entry 1), in OFF it changes the outputs alone. -/
def Obligations.StepRunsFront : Prop :=
    (∀ (c : Instr) (rest : List Instr) (s : State),
      step { s with pending := c :: rest } = exec c { s with pending := rest }) ∧
    (∀ (s : State),
      s.pending = [] → Powered s →
      ∃ t, step s = .next t ∧ t.clk.us = s.clk.us + 1) ∧
    (∀ (s : State),
      s.pending = [] → s.pmu.off = true →
      step s = .next { s with out := [] })

/-- For every state in which the read-only status fields and SHELF_ALERT_N agree with what they report, the next state of a step has them agree too: the
counts of CSH_STAT, ZRS_STAGING, TKR_STAT, HIF_DBS_STAT, CPH_STAT, the engines and pipes out of use, SCH_POWER_STAT.IN_USE, PMU_STATE, SLK_PEERS,
SEC_LC, RST_LRS.STATE, MHM_HEALTH and the alert pin. -/
def Obligations.SettledKept : Prop :=
    ∀ (s t : State),
      Settled s → step s = .next t →
      Settled t

/-- In OFF every command but COLD_RESET leaves the state as it is, but for the outputs of the last command, which are gone. -/
def Obligations.OffIsInert : Prop :=
    ∀ (c : Instr) (s : State),
      s.pmu.off = true → isColdReset c = false →
      exec c s = .next { s with out := [] }

/-- From every state exec answers a next state for every command: no command of the block faults and none is refused. -/
def Obligations.EveryCommandCompletes : Prop :=
    ∀ (c : Instr) (s : State),
      ∃ t, exec c s = .next t

/-- OPHOURS_STEP adds one to OPHOURS, which saturates, and SUB counts again from the moment of the step. EPOCH_TICK adds one to SYS_EPOCH.COUNT modulo
2^32, interrupts MC0 to MC7 while PD_MGMT is on, samples the sensors, and makes the pending values of epoch-shadowed registers effective; with PD_DATA
on it also latches the epoch's counts of the read channel and counts from none again, with PD_DATA off nothing else changes but the temperature state. -/
def Obligations.TimeSteps : Prop :=
    (∀ (s : State),
      Powered s →
      Completes (.ophoursStep) s fun t =>
        t.clk.ophours = min (s.clk.ophours + 1) (2 ^ 32 - 1) ∧ t.clk.subBase = s.clk.subBase + ophStep ∧ t.clk.us = max s.clk.us (s.clk.subBase + ophStep) ∧
        (s.clk.us ≤ s.clk.subBase + ophStep → subCount t = 0) ∧ Only s t [.clk] []) ∧
    (∀ (sensors : List Int) (marks : List SentinelMark) (bad : Option Nat) (s : State),
      Powered s → domainOn s .data = false → s.shadow = [] →
      Completes (.epochTick sensors marks bad) s fun t =>
        getF t F.sysEpoch_count = (getF s F.sysEpoch_count + 1) % 2 ^ 32 ∧ t.clk.lastTick = t.clk.us ∧
        t.vfm.classDeadlines = s.vfm.classShadow.foldl (fun cs x => listSet cs x.1 x.2) s.vfm.classDeadlines ∧ t.vfm.classShadow = [] ∧
        (domainOn s .mgmt = true → ∀ k ∈ List.range 8, Output.interrupt (idMc k) ∈ t.out) ∧
        (sensors.head?.all fun x => getF t F.sysTemp_composite == tempByte (sensors.tail.foldl max x)) = true ∧ Only s t [.clk, .vfm, .aon, .age] [F.sysEpoch_count.addr, F.sysTemp_composite.addr, F.mhmCold_hold.addr]) ∧
    (∀ (sensors : List Int) (marks : List SentinelMark) (bad : Option Nat) (s : State),
      Powered s → domainOn s .data = false → spSorted s.shadow = true →
      Completes (.epochTick sensors marks bad) s fun t =>
        t.shadow = [] ∧ (∀ (a : Nat) (w : Word) (d : RegDef) (i : Nat), spFind s.shadow a = some w → regAt a = some (d, i) → a ≠ F.mhmCold_hold.addr →
          a ≠ F.sysEpoch_count.addr → a ≠ F.sysTemp_composite.addr → a ∉ settledAddrs → regVal t a = shadowWord d w (regVal s a)) ∧
        OnlyParts s t [.shadow, .clk, .vfm, .aon, .age]) ∧
    (∀ (sensors : List Int) (marks : List SentinelMark) (s : State),
      Works s →
      Completes (.epochTick sensors marks none) s fun t =>
        getF t F.sysEpoch_count = (getF s F.sysEpoch_count + 1) % 2 ^ 32 ∧ t.shadow = [] ∧ t.vfm.classShadow = [] ∧ t.rch.latched = s.rch.live ∧ t.rch.live = [] ∧ t.mhm.updateQ = [] ∧
        (domainOn s .mgmt = true → ∀ k ∈ List.range 8, Output.interrupt (idMc k) ∈ t.out) ∧ OnlyParts s t [.shadow, .clk, .vfm, .aon, .age, .rch, .mhm, .hif, .csh])

/-- An access to a window whose domain is off reads 0x0BAD0FF00BAD0FF0, is counted in PMU_PWROFF, and the first one is latched there. -/
def Obligations.BusRefusals : Prop :=
    ∀ (master addr : Nat) (write : Bool) (s : State),
      Powered s → reservedMaster master = false → master ≠ idHostPf → master ≠ idHostVf → 0x1000000000 ≤ addr → addr < 0x1001800000 →
      windowOn s addr = false →
      Completes (.pwrOffAccess master addr write) s fun t =>
        (write = false → Output.readResponse master 0x0BAD0FF00BAD0FF0#64 ∈ t.out) ∧ getF t F.pmuPwroff_valid = 1 ∧
        getF t F.pmuPwroff_count = min (getF s F.pmuPwroff_count + 1) 4095 ∧
        (flag s F.pmuPwroff_valid = false → getF t F.pmuPwroff_addr = addr ∧ getF t F.pmuPwroff_master = master ∧ getF t F.pmuPwroff_write = b2n write) ∧ Only s t [.csh] [F.pmuPwroff_count.addr, (F.cshMissed_total 12).addr]

/-- A write of 4 bytes, or of 8 bytes to a 64-bit register, by MC0 to MC7 to a register with no command of its own gives each field what its access code
says, at once or, where the register is shadowed, in its pending copy; a read of 4 bytes, or of 8 of a 64-bit register, returns the readable fields
and puts the RC fields of the part read at their reset values. A refused write and an access of another size or alignment get an error response, an
access with no way to its target or to a target that is off gets the PWR_OFF response. Nothing else changes. -/
def Obligations.CsrAccess : Prop :=
    (∀ (master addr : Nat) (data : Word) (d : RegDef) (i : Nat) (s : State),
      Powered s → isMc master = true → 0x1000000000 ≤ addr → routed s master addr = true → regAt addr = some (d, i) → addr % 4 = 0 →
      addr < 0x1001800000 → windowOf addr ≠ 22 → windowOn s addr = true → addr ∉ settledAddrs → (windowOf addr ≠ 3 ∨ mbxReached s master = true) →
      writeRefused s master addr d.name = false →
      d.name ∉ ["PMU_CLK", "FCH_DIE_CFG", "FCH_DESC", "MBX_MASK", "MBX_DONE", "MBX_STAT", "DBG_RESP", "CPH_MREQ", "TKR_CMD", "VFM_MIG_CTRL", "FCH_CTRL", "DMC_REFRESH", "SLK_CTRL"] →
      rowBits d.name = 0 → deadBits s d.name (data &&& 0xFFFFFFFF#64) = 0 → d.shadowed = false →
      Completes (.csrWrite master addr 4 data) s fun t =>
        regVal t addr = writeWord d (locked s d.name) 0xFFFFFFFF#64 (data &&& 0xFFFFFFFF#64) (regVal s addr) ∧ Only s t [] [addr]) ∧
    (∀ (master addr : Nat) (data : Word) (d : RegDef) (i : Nat) (s : State),
      Powered s → isMc master = true → 0x1000000000 ≤ addr → routed s master addr = true → regAt addr = some (d, i) → addr % 4 = 0 →
      addr < 0x1001800000 → windowOf addr ≠ 22 → windowOn s addr = true → addr ∉ settledAddrs → (windowOf addr ≠ 3 ∨ mbxReached s master = true) →
      writeRefused s master addr d.name = false →
      d.name ∉ ["PMU_CLK", "FCH_DIE_CFG", "FCH_DESC", "MBX_MASK", "MBX_DONE", "MBX_STAT", "DBG_RESP", "CPH_MREQ", "TKR_CMD", "VFM_MIG_CTRL", "FCH_CTRL", "DMC_REFRESH", "SLK_CTRL"] →
      rowBits d.name = 0 → deadBits s d.name (data &&& 0xFFFFFFFF#64) = 0 → d.shadowed = true →
      Completes (.csrWrite master addr 4 data) s fun t =>
        spFind t.shadow addr = some (writeWord d (locked s d.name) 0xFFFFFFFF#64 (data &&& 0xFFFFFFFF#64) ((spFind s.shadow addr).getD (regVal s addr))) ∧ Only s t [.shadow] []) ∧
    (∀ (master addr : Nat) (data : Word) (d : RegDef) (i : Nat) (s : State),
      Powered s → isMc master = true → 0x1000000000 ≤ addr → routed s master addr = true → regAt addr = some (d, i) → addr % 4 = 0 →
      addr < 0x1001800000 → windowOf addr ≠ 22 → windowOn s addr = true → addr ∉ settledAddrs → (windowOf addr ≠ 3 ∨ mbxReached s master = true) →
      writeRefused s master addr d.name = false →
      d.name ∉ ["PMU_CLK", "FCH_DIE_CFG", "FCH_DESC", "MBX_MASK", "MBX_DONE", "MBX_STAT", "DBG_RESP", "CPH_MREQ", "TKR_CMD", "VFM_MIG_CTRL", "FCH_CTRL", "DMC_REFRESH", "SLK_CTRL"] →
      rowBits d.name = 0 → addr % 8 = 0 → d.wide = true → deadBits s d.name data = 0 → d.shadowed = false →
      Completes (.csrWrite master addr 8 data) s fun t =>
        regVal t addr = writeWord d (locked s d.name) (BitVec.allOnes 64) data (regVal s addr) ∧ Only s t [] [addr]) ∧
    (∀ (master addr : Nat) (data : Word) (d : RegDef) (i : Nat) (s : State),
      Powered s → isMc master = true → 0x1000000000 ≤ addr → routed s master addr = true → regAt addr = some (d, i) → addr % 4 = 0 →
      addr < 0x1001800000 → windowOf addr ≠ 22 → windowOn s addr = true → addr ∉ settledAddrs → (windowOf addr ≠ 3 ∨ mbxReached s master = true) →
      windowOf addr ≠ 5 → writeRefused s master addr d.name = true →
      Completes (.csrWrite master addr 4 data) s fun t =>
        Output.errorResponse master addr ∈ t.out ∧ Only s t [] []) ∧
    (∀ (master addr size : Nat) (data : Word) (s : State),
      Powered s → isMc master = true → 0x1000000000 ≤ addr → ((size ≠ 4 ∧ size ≠ 8) ∨ addr % size ≠ 0) →
      Completes (.csrWrite master addr size data) s fun t =>
        Output.errorResponse master addr ∈ t.out ∧ Only s t [] []) ∧
    (∀ (master addr : Nat) (data : Word) (s : State),
      Powered s → isMc master = true → 0x1000000000 ≤ addr → addr % 4 = 0 → addr < 0x1001800000 →
      (routed s master addr = false ∨ windowOn s addr = false) →
      Completes (.csrWrite master addr 4 data) s fun t =>
        flag t F.pmuPwroff_valid = true ∧ getF t F.pmuPwroff_count = min (getF s F.pmuPwroff_count + 1) 4095 ∧ Output.note "access fault" master ∈ t.out ∧ Only s t [.csh] [F.pmuPwroff_count.addr, (F.cshMissed_total 12).addr]) ∧
    (∀ (master addr : Nat) (d : RegDef) (i : Nat) (s : State),
      Powered s → isMc master = true → 0x1000000000 ≤ addr → routed s master addr = true → regAt addr = some (d, i) → addr % 4 = 0 →
      addr < 0x1001800000 → windowOf addr ≠ 22 → windowOn s addr = true → addr ∉ settledAddrs → windowOf addr ∉ [3, 5, 8] →
      d.name ∉ ["MBX_PEND", "MBX_DONE", "MBX_MASK", "MBX_STAT", "CSH_CURSOR", "CSH_WIN", "RCH_TRIM_DATA", "RCH_FRAME_CNT", "RCH_TRACK_CNT", "RCH_DEC_CNT0", "RCH_DEC_CNT1", "RCH_DEC_CNT2", "MEP_FLIP", "MHM_WALK_OUT", "SBG_ALLOC_RESULT", "MBX_CLAIM", "MBX_WORD", "VFM_RECONF"] →
      Completes (.rcFieldRead master addr 4) s fun t =>
        Output.readResponse master (readWord d (regVal s addr) &&& 0xFFFFFFFF#64) ∈ t.out ∧ regVal t addr = clearRc d i 0xFFFFFFFF#64 (regVal s addr) ∧ Only s t [] [addr]) ∧
    (∀ (master addr : Nat) (d : RegDef) (i : Nat) (s : State),
      Powered s → isMc master = true → 0x1000000000 ≤ addr → routed s master addr = true → regAt addr = some (d, i) → addr % 4 = 0 →
      addr < 0x1001800000 → windowOf addr ≠ 22 → windowOn s addr = true → addr ∉ settledAddrs → windowOf addr ∉ [3, 5, 8] →
      d.name ∉ ["MBX_PEND", "MBX_DONE", "MBX_MASK", "MBX_STAT", "CSH_CURSOR", "CSH_WIN", "RCH_TRIM_DATA", "RCH_FRAME_CNT", "RCH_TRACK_CNT", "RCH_DEC_CNT0", "RCH_DEC_CNT1", "RCH_DEC_CNT2", "MEP_FLIP", "MHM_WALK_OUT", "SBG_ALLOC_RESULT", "MBX_CLAIM", "MBX_WORD", "VFM_RECONF"] →
      addr % 8 = 0 → d.wide = true →
      Completes (.rcFieldRead master addr 8) s fun t =>
        Output.readResponse master (readWord d (regVal s addr)) ∈ t.out ∧ regVal t addr = clearRc d i (BitVec.allOnes 64) (regVal s addr) ∧ Only s t [] [addr])

/-- A tail doorbell sets the tail of its queue and a head doorbell the head of its completion queue, also where the function is stopped and the doorbell
is latched, where the value is in range. While the doorbell shadow is in use the doorbell is stored in its shadow entry; the first one sets
HIF_DBS_STAT.WAKE and the DOORBELL bit of PMU_WAKE. -/
def Obligations.Doorbells : Prop :=
    (∀ (f qid v : Nat) (q : SubQ) (s : State),
      Powered s → funcExists s f = true → (funcOf s f).stop.inFlr = false → ccEn (funcOf s f) = true → entering s = false →
      spFind (funcOf s f).sqs qid = some q → v ≤ q.size → latched s f qid = false →
      Completes (.sqTailDoorbell f qid v) s fun t =>
        spFind (funcOf t f).sqs qid = some { q with tail := v } ∧ (∀ i, i ≠ qid → spFind (funcOf t f).sqs i = spFind (funcOf s f).sqs i) ∧ Only s t [.hif] []) ∧
    (∀ (f qid v : Nat) (q : SubQ) (s : State),
      Powered s → funcExists s f = true → (funcOf s f).stop.inFlr = false → ccEn (funcOf s f) = true → entering s = false →
      spFind (funcOf s f).sqs qid = some q → v ≤ q.size → latched s f qid = true →
      Completes (.sqTailDoorbell f qid v) s fun t =>
        spFind (funcOf t f).sqs qid = some { q with tail := v } ∧ Only s t [.hif, .aon] []) ∧
    (∀ (f qid v : Nat) (q : CplQ) (s : State),
      Powered s → funcExists s f = true → (funcOf s f).stop.inFlr = false → ccEn (funcOf s f) = true → entering s = false →
      spFind (funcOf s f).cqs qid = some q → v ≤ q.size → headOk q v = true → latched s f qid = false → s.hif.waiting = [] →
      Completes (.cqHeadDoorbell f qid v) s fun t =>
        spFind (funcOf t f).cqs qid = some { q with head := v } ∧ (∀ i, i ≠ qid → spFind (funcOf t f).cqs i = spFind (funcOf s f).cqs i) ∧ Only s t [.hif] []) ∧
    (∀ (f qid v : Nat) (s : State),
      Powered s → funcExists s f = true → (funcOf s f).stop.inFlr = false → ccEn (funcOf s f) = true → entering s = true → s.aon.shadow ≠ [] →
      Completes (.sqTailDoorbell f qid v) s fun t =>
        spFind t.aon.shadow (shadowKey f qid false) = some (v % 65536) ∧ Only s t [.aon] []) ∧
    (∀ (f qid v : Nat) (s : State),
      Powered s → funcExists s f = true → (funcOf s f).stop.inFlr = false → ccEn (funcOf s f) = true → entering s = true → s.aon.shadow = [] →
      Completes (.cqHeadDoorbell f qid v) s fun t =>
        t.aon.shadow = [(shadowKey f qid true, v % 65536)] ∧ flag t F.hifDbsStat_wake = true ∧ flag t F.pmuWake_doorbell = true ∧ Only s t [.aon, .pmu] [F.hifDbsStat_wake.addr, F.pmuWake_doorbell.addr])

/-- A read of VS returns 2.0 in every state. With PD_DATA on an access below the CSR window reads the property, MSI-X and pending words it names; with
PD_DATA off the mirror serves CAP, VS, CC and CSTS, a write to CC is held and wakes the device, and every other read returns ones and every other
write is dropped, each counted and recorded. A frozen VF drops every write but a doorbell, recorded as KIND 4. An access of another size or alignment
is answered with a completer abort, one beyond the BAR changes nothing. -/
def Obligations.BarAccess : Prop :=
    (∀ (f : Nat) (data : Word) (s : State),
      Powered s → funcExists s f = true →
      Completes (.offBarAccess f 8 4 false data) s fun t =>
        Output.barRead f 0x20000#64 ∈ t.out ∧ Only s t [] []) ∧
    (∀ (f off size : Nat) (write : Bool) (data : Word) (s : State),
      Powered s → funcExists s f = true → off + size ≤ (if f = 0 then 0x2000000 else 0x4000) → ((size ≠ 4 ∧ size ≠ 8) ∨ off % size ≠ 0) →
      Completes (.offBarAccess f off size write data) s fun t =>
        Output.completerAbort f off ∈ t.out ∧ Only s t [] []) ∧
    (∀ (f off size : Nat) (write : Bool) (data : Word) (s : State),
      Powered s → (funcExists s f = false ∨ (if f = 0 then 0x2000000 else 0x4000) < off + size) →
      Completes (.offBarAccess f off size write data) s fun t =>
        Output.note "unsupported request" f ∈ t.out ∧ Only s t [] []) ∧
    (∀ (f off size : Nat) (data : Word) (s : State),
      Works s → funcExists s f = true → (size = 4 ∨ size = 8) → off % size = 0 → off + size ≤ (if f = 0 then 0x2000000 else 0x4000) →
      off + size ≤ 0x1000000 →
      Completes (.offBarAccess f off size false data) s fun t =>
        Output.barRead f (joinWords ((barWords off size).map (barWord s f))) ∈ t.out ∧ Only s t [] []) ∧
    (∀ (f : Nat) (data : Word) (s : State),
      Powered s → funcExists s f = true → domainOn s .data = false → (funcOf s f).stop.frozen = false →
      Completes (.offBarAccess f 0x14 4 true data) s fun t =>
        spFind t.aon.heldCc f = some (data.truncate 32) ∧ flag t F.pmuWake_cc = true ∧ Only s t [.aon, .pmu] [F.pmuWake_cc.addr]) ∧
    (∀ (f off size : Nat) (data : Word) (s : State),
      Powered s → funcExists s f = true → domainOn s .data = false → (size = 4 ∨ size = 8) → off % size = 0 →
      off + size ≤ (if f = 0 then 0x2000000 else 0x4000) → (barWords off size).all mirrored = true →
      Completes (.offBarAccess f off size false data) s fun t =>
        Output.barRead f (joinWords ((barWords off size).map (mirrorWord s f))) ∈ t.out ∧ Only s t [] []) ∧
    (∀ (f off size : Nat) (data : Word) (s : State),
      Powered s → funcExists s f = true → domainOn s .data = false → (size = 4 ∨ size = 8) → off % size = 0 →
      off + size ≤ (if f = 0 then 0x2000000 else 0x4000) → (barWords off size).all mirrored = false → s.aon.events.length < 255 →
      Completes (.offBarAccess f off size false data) s fun t =>
        Output.barRead f (joinWords ((barWords off size).map (mirrorWord s f))) ∈ t.out ∧ getF t F.hifErr_pwroffAccesses = min (getF s F.hifErr_pwroffAccesses + 1) 65535 ∧
        t.aon.events = s.aon.events ++ [⟨s.clk.ophours, s.clk.pwrcyc, 1, f, off, getF s F.pmuState_ps⟩] ∧ Only s t [.aon, .hif] [F.hifErr_pwroffAccesses.addr]) ∧
    (∀ (f off size : Nat) (data : Word) (s : State),
      Powered s → funcExists s f = true → domainOn s .data = false → (funcOf s f).stop.frozen = false → (size = 4 ∨ size = 8) → off % size = 0 →
      off + size ≤ (if f = 0 then 0x2000000 else 0x4000) → ((barWords off size).any fun o => o == 0x14 || doorbellAt o) = false →
      s.aon.events.length < 255 →
      Completes (.offBarAccess f off size true data) s fun t =>
        getF t F.hifErr_pwroffAccesses = min (getF s F.hifErr_pwroffAccesses + 1) 65535 ∧ t.aon.events = s.aon.events ++ [⟨s.clk.ophours, s.clk.pwrcyc, 2, f, off, getF s F.pmuState_ps⟩] ∧ Only s t [.aon, .hif] [F.hifErr_pwroffAccesses.addr]) ∧
    (∀ (f off size : Nat) (data : Word) (s : State),
      Powered s → funcExists s f = true → (funcOf s f).stop.frozen = true → (size = 4 ∨ size = 8) → off % size = 0 →
      off + size ≤ (if f = 0 then 0x2000000 else 0x4000) → off + size ≤ 0x1000000 → (barWords off size).all doorbellAt = false →
      s.aon.events.length < 255 →
      Completes (.offBarAccess f off size true data) s fun t =>
        t.aon.events = s.aon.events ++ [⟨s.clk.ophours, s.clk.pwrcyc, 4, f, off, getF s F.pmuState_ps⟩] ∧ Only s t [.aon, .hif] [])

/-- One turn of the queue engine takes the next function of the rotation and its next queue, puts the entry that passes its checks into the lowest free
slot with the class and deadline of its fetch, and advances the head. While fetch is stopped, the link is down, the throttle stops it or the device is
a member, nothing changes. -/
def Obligations.CommandFetch : Prop :=
    (∀ (q : Sqe) (f i : Nat) (k : SubQ) (s : State),
      Works s → domainOn s .host = true → s.hif.fetchStopped = false → s.hif.linkUp = true → getF s F.sysTemp_throttle ≠ 2 → isMember s = false →
      ((rotateFrom s.hif.nextFunc (funcsOf s)).findSome? fun f => (nextQueueOf s f).map fun i => (f, i)) = some (f, i) →
      spFind (funcOf s f).sqs i = some k → k.head ≠ k.tail →
      fetchCheck (putSlot s (spFree s.hif.slots (s.hif.slots.length + 1) 0) (freshSlot s f i { q with admin := i == 0 })) f { q with admin := i == 0 } = none →
      Completes (.commandFetch [q]) s fun t =>
        slotOf t (spFree s.hif.slots (s.hif.slots.length + 1) 0) = some (freshSlot s f i { q with admin := i == 0 }) ∧
        spFind (funcOf t f).sqs i = some { k with head := if k.head = k.size then 0 else k.head + 1 } ∧ Only s t [.hif] []) ∧
    (∀ (sqes : List Sqe) (s : State),
      Works s → (s.hif.fetchStopped = true ∨ isMember s = true ∨ s.hif.linkUp = false ∨ getF s F.sysTemp_throttle = 2) →
      Completes (.commandFetch sqes) s fun t =>
        Only s t [] [])

/-- Create I/O Submission Queue and Create I/O Completion Queue add an empty queue with the base, size and completion queue or vector of the command where
the checks of R132 pass. Delete I/O Submission Queue removes a queue with no command in progress at once and completes, and waits where an admitted
command of the queue still runs or a completion of it still waits for room; Delete I/O Completion Queue removes a queue that no submission queue uses.
Abort ends a command of the function that has been fetched and not admitted with Command Abort Requested and frees its slot and its own, and likewise
an outstanding Asynchronous Event Request; where no such command exists it completes with bit 0 of Dword 0 set and every other slot as it was. -/
def Obligations.QueueCommands : Prop :=
    (∀ (n base : Nat) (c : CmdSlot) (s : State),
      Works s → FetchedAdmin s n 0x01 c → queueError s c base (spFind (funcOf s c.func).sqs (qidOf c.sqe)).isSome = none → sqCqid c.sqe ≠ 0 →
      sqCqid c.sqe ≤ qpShare s c.func → (spFind (funcOf s c.func).cqs (sqCqid c.sqe)).isSome = true →
      Completes (.createIoSq n base) s fun t =>
        spFind (funcOf t c.func).sqs (qidOf c.sqe) = some ⟨base, qsize c.sqe, 0, 0, sqCqid c.sqe, none⟩ ∧ (∀ i, i ≠ qidOf c.sqe → spFind (funcOf t c.func).sqs i = spFind (funcOf s c.func).sqs i) ∧ Ended s t n c .success ∧ Only s t [.hif] []) ∧
    (∀ (n base : Nat) (c : CmdSlot) (s : State),
      Works s → FetchedAdmin s n 0x05 c → ((spFind (funcOf s c.func).sqs c.sqid).map SubQ.cqid).getD 0 ≠ qidOf c.sqe →
      queueError s c base (spFind (funcOf s c.func).cqs (qidOf c.sqe)).isSome = none →
      (cqIen c.sqe && decide (vecShare s c.func ≤ cqVector c.sqe)) = false →
      Completes (.createIoCq n base) s fun t =>
        spFind (funcOf t c.func).cqs (qidOf c.sqe) = some ⟨base, qsize c.sqe, 0, 0, true, cqVector c.sqe, cqIen c.sqe⟩ ∧ Ended s t n c .success ∧ Only s t [.hif] []) ∧
    (∀ (n : Nat) (c : CmdSlot) (s : State),
      Works s → FetchedAdmin s n 0x00 c → qidOf c.sqe ≠ 0 → (spFind (funcOf s c.func).sqs (qidOf c.sqe)).isSome = true →
      (spFind (funcOf s c.func).sqs (qidOf c.sqe)).bind SubQ.deleting = none → waitingOn s c.func (qidOf c.sqe) = false →
      (∀ kv ∈ s.hif.slots, kv.2.func = c.func → kv.2.sqid ≠ qidOf c.sqe) →
      Completes (.deleteIoSq n) s fun t =>
        spFind (funcOf t c.func).sqs (qidOf c.sqe) = none ∧ (∀ i, i ≠ qidOf c.sqe → spFind (funcOf t c.func).sqs i = spFind (funcOf s c.func).sqs i) ∧ Ended s t n c .success ∧ Only s t [.hif] []) ∧
    (∀ (n : Nat) (c : CmdSlot) (q : SubQ) (s : State),
      Works s → FetchedAdmin s n 0x00 c → qidOf c.sqe ≠ 0 → c.sqid ≠ qidOf c.sqe → spFind (funcOf s c.func).sqs (qidOf c.sqe) = some q →
      q.deleting = none → (admittedOn s c.func (qidOf c.sqe) = true ∨ waitingOn s c.func (qidOf c.sqe) = true) →
      (∀ kv ∈ s.hif.slots, kv.2.func = c.func → kv.2.sqid = qidOf c.sqe → isAdmitted kv.2 = true) →
      Completes (.deleteIoSq n) s fun t =>
        spFind (funcOf t c.func).sqs (qidOf c.sqe) = some { q with deleting := some n } ∧ slotOf t n = some { c with kind := .admin, phase := .admitted } ∧ Only s t [.hif] []) ∧
    (∀ (n : Nat) (c : CmdSlot) (s : State),
      Works s → FetchedAdmin s n 0x04 c → qidOf c.sqe ≠ 0 → (spFind (funcOf s c.func).cqs (qidOf c.sqe)).isSome = true →
      ((funcOf s c.func).sqs.any fun kv => kv.2.cqid == qidOf c.sqe) = false →
      Completes (.deleteIoCq n) s fun t =>
        spFind (funcOf t c.func).cqs (qidOf c.sqe) = none ∧ Ended s t n c .success ∧ Only s t [.hif] []) ∧
    (∀ (n m : Nat) (c x : CmdSlot) (s : State),
      Works s → FetchedAdmin s n 0x08 c →
      (s.hif.slots.find? fun kv => kv.1 != n && kv.2.func == c.func && kv.2.sqid == abortSq c.sqe && kv.2.sqe.cid == abortCid c.sqe && !isAdmitted kv.2) = some (m, x) →
      Bare s m x →
      Completes (.abort n) s fun t =>
        slotOf t m = none ∧ slotOf t n = none ∧ (∀ k, k ≠ n → k ≠ m → slotOf t k = slotOf s k) ∧ (CanPost s m x → ∃ d0 d1, Posted t x .abortRequested d0 d1) ∧ Only s t [.hif] []) ∧
    (∀ (n : Nat) (c : CmdSlot) (s : State),
      Works s → FetchedAdmin s n 0x08 c →
      (s.hif.slots.find? fun kv => kv.1 != n && kv.2.func == c.func && kv.2.sqid == abortSq c.sqe && kv.2.sqe.cid == abortCid c.sqe && !isAdmitted kv.2) = none →
      (abortSq c.sqe ≠ 0 ∨ abortCid c.sqe ∉ (funcOf s c.func).aers) →
      Completes (.abort n) s fun t =>
        (CanPost s n c → Posted t c .success 1 0) ∧ Ended s t n c .success ∧ Only s t [.hif] []) ∧
    (∀ (n : Nat) (c : CmdSlot) (s : State),
      Works s → FetchedAdmin s n 0x08 c →
      (s.hif.slots.find? fun kv => kv.1 != n && kv.2.func == c.func && kv.2.sqid == abortSq c.sqe && kv.2.sqe.cid == abortCid c.sqe && !isAdmitted kv.2) = none →
      abortSq c.sqe = 0 → abortCid c.sqe ∈ (funcOf s c.func).aers →
      Completes (.abort n) s fun t =>
        slotOf t n = none ∧ (funcOf t c.func).aers = dropAll (funcOf s c.func).aers (abortCid c.sqe) ∧ (∀ k, k ≠ n → slotOf t k = slotOf s k) ∧
        (((spFind (funcOf s c.func).cqs 0).any fun q => !cqFull q) = true → ∃ dnr, Output.completion c.func 0 (abortCid c.sqe) .abortRequested dnr 0 0 ∈ t.out) ∧ Only s t [.hif] [])

/-- The Host Interface Events page returns the events in order to the PF, and a read with Retain Asynchronous Event cleared empties it; the Retention
Status page returns its 64 bytes; every page is returned from its offset, and a page the device or the function does not have fails with its status.
Identify returns the structure of its CNS, and fails with the status the code has where it is not served. -/
def Obligations.LogAndIdentify : Prop :=
    (∀ (n : Nat) (c : CmdSlot) (s : State),
      Works s → FetchedAdmin s n 0x02 c → logId c.sqe = 0xC1 → c.func = 0 → logOffset c.sqe % 32 = 0 → logOffset c.sqe < 8192 →
      logDwords c.sqe ≤ 262144 → s.aon.events.length ≤ 255 →
      Completes (.getLogPage n) s fun t =>
        Output.hostData c.func c.sqe.cid (((eventsPage s).drop (logOffset c.sqe)).take (4 * logDwords c.sqe)) ∈ t.out ∧
        t.aon = (if rae c.sqe then s.aon else { s.aon with events := [], lost := 0 }) ∧ Ended s t n c .success ∧ Only s t [.hif, .aon] []) ∧
    (∀ (n : Nat) (c : CmdSlot) (s : State),
      Works s → FetchedAdmin s n 0x02 c → logId c.sqe = 0xC2 → logOffset c.sqe = 0 → logDwords c.sqe ≤ 262144 →
      Completes (.getLogPage n) s fun t =>
        Output.hostData c.func c.sqe.cid ((retentionPage s).take (4 * logDwords c.sqe)) ∈ t.out ∧ Ended s t n c .success ∧ Only s t [.hif] []) ∧
    (∀ (n e : Nat) (page : List Byte) (c : CmdSlot) (s : State),
      Works s → FetchedAdmin s n 0x02 c → (logPage s c).1 = s → (logPage s c).2.toOption = some (e, page) → logOffset c.sqe % e = 0 →
      logOffset c.sqe < page.length → logDwords c.sqe ≤ 262144 →
      Completes (.getLogPage n) s fun t =>
        Output.hostData c.func c.sqe.cid ((page.drop (logOffset c.sqe)).take (4 * logDwords c.sqe)) ∈ t.out ∧ Ended s t n c .success ∧ Only s t [.hif, .aon] []) ∧
    (∀ (n : Nat) (st : Status) (c : CmdSlot) (s : State),
      Works s → FetchedAdmin s n 0x02 c → (logPage s c).1 = s → ((match (logPage s c).2 with | .ok _ => none | .error e => some e) = some st) →
      Completes (.getLogPage n) s fun t =>
        Ended s t n c st ∧ Only s t [.hif] []) ∧
    (∀ (n : Nat) (c : CmdSlot) (bs : List Byte) (s : State),
      Works s → FetchedAdmin s n 0x06 c → (identifyData s c).toOption = some bs →
      Completes (.identify n) s fun t =>
        Output.hostData c.func c.sqe.cid bs ∈ t.out ∧ Ended s t n c .success ∧ Only s t [.hif] []) ∧
    (∀ (n : Nat) (c : CmdSlot) (st : Status) (s : State),
      Works s → FetchedAdmin s n 0x06 c → ((match identifyData s c with | .ok _ => none | .error e => some e) = some st) →
      Completes (.identify n) s fun t =>
        Ended s t n c st ∧ Only s t [.hif] [])

/-- Set Features sets the value of its identifier, for the function that asks, and no other feature: Arbitration, Temperature Threshold, Interrupt
Coalescing, Interrupt Vector Configuration, Asynchronous Event Configuration, Autonomous Power State Transition (PF), Number of Queues (granted within
the share), the default class; Get Features returns the value in Dword 0. Save set, or an identifier the device does not have, fails. -/
def Obligations.Features : Prop :=
    (∀ (n : Nat) (buf : List Word) (c : CmdSlot) (s : State),
      Works s → FetchedAdmin s n 0x09 c → fid c.sqe = 0x01 → featSave c.sqe = false → c.sqe.cdw11.toNat % 8 ≤ 3 →
      Completes (.setFeatures n buf) s fun t =>
        (funcOf t c.func).features = { (funcOf s c.func).features with arbitration := c.sqe.cdw11 } ∧ Ended s t n c .success ∧ Only s t [.hif] []) ∧
    (∀ (n : Nat) (buf : List Word) (c : CmdSlot) (s : State),
      Works s → FetchedAdmin s n 0x09 c → fid c.sqe = 0x04 → featSave c.sqe = false → tmpSel c.sqe = 0 → thSel c.sqe = 0 →
      Completes (.setFeatures n buf) s fun t =>
        (funcOf t c.func).features = { (funcOf s c.func).features with tempThreshold := c.sqe.cdw11 &&& 0xFFFF#32 } ∧ Ended s t n c .success ∧ Only s t [.hif] []) ∧
    (∀ (n : Nat) (buf : List Word) (c : CmdSlot) (s : State),
      Works s → FetchedAdmin s n 0x09 c → fid c.sqe = 0x04 → featSave c.sqe = false → tmpSel c.sqe = 0 → thSel c.sqe = 1 →
      Completes (.setFeatures n buf) s fun t =>
        (funcOf t c.func).features = { (funcOf s c.func).features with underThreshold := c.sqe.cdw11 &&& 0xFFFF#32 } ∧ Ended s t n c .success ∧ Only s t [.hif] []) ∧
    (∀ (n : Nat) (buf : List Word) (c : CmdSlot) (s : State),
      Works s → FetchedAdmin s n 0x09 c → fid c.sqe = 0x09 → featSave c.sqe = false → c.sqe.cdw11.toNat % 65536 < vecShare s c.func →
      Completes (.setFeatures n buf) s fun t =>
        (spGet noMsix (funcOf t c.func).msix (c.sqe.cdw11.toNat % 65536)).coalesceOff = c.sqe.cdw11.getLsbD 16 ∧ Ended s t n c .success ∧ Only s t [.hif] []) ∧
    (∀ (n : Nat) (buf : List Word) (c : CmdSlot) (s : State),
      Works s → FetchedAdmin s n 0x09 c → fid c.sqe = 0x08 → featSave c.sqe = false →
      Completes (.setFeatures n buf) s fun t =>
        (funcOf t c.func).features = { (funcOf s c.func).features with intCoalescing := c.sqe.cdw11 } ∧ Ended s t n c .success ∧ Only s t [.hif] []) ∧
    (∀ (n : Nat) (buf : List Word) (c : CmdSlot) (s : State),
      Works s → FetchedAdmin s n 0x09 c → fid c.sqe = 0x0B → featSave c.sqe = false →
      Completes (.setFeatures n buf) s fun t =>
        (funcOf t c.func).features = { (funcOf s c.func).features with asyncEventConfig := c.sqe.cdw11 } ∧ Ended s t n c .success ∧ Only s t [.hif] []) ∧
    (∀ (n : Nat) (buf : List Word) (c : CmdSlot) (s : State),
      Works s → FetchedAdmin s n 0x09 c → fid c.sqe = 0x0C → featSave c.sqe = false → c.func = 0 →
      Completes (.setFeatures n buf) s fun t =>
        (funcOf t c.func).features = { (funcOf s c.func).features with apstEnable := c.sqe.cdw11.getLsbD 0, apst := buf.take 32 } ∧ Ended s t n c .success ∧ Only s t [.hif] []) ∧
    (∀ (n : Nat) (buf : List Word) (c : CmdSlot) (s : State),
      Works s → FetchedAdmin s n 0x09 c → ownFeature (fid c.sqe) = false → (pfFeature (fid c.sqe) = false ∨ c.func = 0) → featSave c.sqe = true →
      Completes (.setFeatures n buf) s fun t =>
        Ended s t n c .featureNotSaveable ∧ Only s t [.hif] []) ∧
    (∀ (n : Nat) (buf : List Word) (c : CmdSlot) (s : State),
      Works s → FetchedAdmin s n 0x09 c → featSave c.sqe = false → ownFeature (fid c.sqe) = false →
      fid c.sqe ∉ [0x01, 0x04, 0x08, 0x09, 0x0B, 0x0C] →
      Completes (.setFeatures n buf) s fun t =>
        Ended s t n c .invalidField ∧ Only s t [.hif] []) ∧
    (∀ (n : Nat) (c : CmdSlot) (s : State),
      Works s → FetchedAdmin s n 0x09 c → fid c.sqe = 0x07 → featSave c.sqe = false → qpShare s c.func ≠ 0 → dw11 c.sqe % 65536 ≠ 65535 →
      dw11 c.sqe / 65536 ≠ 65535 →
      Completes (.setNumberOfQueues n) s fun t =>
        (funcOf t c.func).features.numQueues = BitVec.ofNat 32 (min (dw11 c.sqe % 65536) (qpShare s c.func - 1) + min (dw11 c.sqe / 65536) (qpShare s c.func - 1) * 65536) ∧ (CanPost s n c → Posted t c .success (funcOf t c.func).features.numQueues 0) ∧ Ended s t n c .success ∧ Only s t [.hif] []) ∧
    (∀ (n : Nat) (c : CmdSlot) (s : State),
      Works s → FetchedAdmin s n 0x09 c → fid c.sqe = 0xC1 → featSave c.sqe = false →
      Completes (.setDefaultDeadlineClass n) s fun t =>
        (funcOf t c.func).features = { (funcOf s c.func).features with defClass := clsOf (dw11 c.sqe % 4) } ∧ Ended s t n c .success ∧ Only s t [.hif] []) ∧
    (∀ (n : Nat) (c : CmdSlot) (s : State),
      Works s → FetchedAdmin s n 0x0A c → fid c.sqe = 0x01 →
      Completes (.getFeatures n) s fun t =>
        (CanPost s n c → Posted t c .success (BitVec.ofNat 32 (funcOf s c.func).features.arbitration.toNat) 0) ∧ Ended s t n c .success ∧ Only s t [.hif] []) ∧
    (∀ (n : Nat) (c : CmdSlot) (s : State),
      Works s → FetchedAdmin s n 0x0A c → fid c.sqe = 0x0B →
      Completes (.getFeatures n) s fun t =>
        (CanPost s n c → Posted t c .success (BitVec.ofNat 32 (funcOf s c.func).features.asyncEventConfig.toNat) 0) ∧ Ended s t n c .success ∧ Only s t [.hif] []) ∧
    (∀ (n : Nat) (c : CmdSlot) (s : State),
      Works s → FetchedAdmin s n 0x0A c → fid c.sqe = 0x0E → c.func = 0 →
      Completes (.getFeatures n) s fun t =>
        Output.hostData 0 c.sqe.cid (leBytes 6 (stampNow s) ++ leBytes 1 (if s.clk.stampSet then 2 else 0) ++ leBytes 1 0) ∈ t.out ∧ Ended s t n c .success ∧ Only s t [.hif] []) ∧
    (∀ (n : Nat) (c : CmdSlot) (s : State),
      Works s → FetchedAdmin s n 0x0A c → fid c.sqe = 0x02 → c.func = 0 →
      Completes (.getFeatures n) s fun t =>
        (CanPost s n c → Posted t c .success (BitVec.ofNat 32 (getF s F.pmuState_ps)) 0) ∧ Ended s t n c .success ∧ Only s t [.hif] []) ∧
    (∀ (n : Nat) (c : CmdSlot) (s : State),
      Works s → FetchedAdmin s n 0x0A c → fid c.sqe = 0xC1 →
      Completes (.getFeatures n) s fun t =>
        (CanPost s n c → Posted t c .success (BitVec.ofNat 32 (clsNum (funcOf s c.func).features.defClass)) 0) ∧ Ended s t n c .success ∧ Only s t [.hif] [])

/-- Power Management to PS0 or PS1 in ACTIVE records the state and completes; to PS3 it begins the entry to STANDBY, with fetch stopped. An Autonomous
Power State Transition to PS3 or PS4 begins the entry its table names. The Timestamp counts from the value set. A class deadline is kept until the
next epoch, or staged while STOP_ALL is set. -/
def Obligations.DeviceFeatures : Prop :=
    (∀ (n : Nat) (c : CmdSlot) (s : State),
      Works s → FetchedAdmin s n 0x09 c → fid c.sqe = 0x02 → featSave c.sqe = false → c.func = 0 → dw11 c.sqe % 32 ≤ 1 → pmuState s = 0 →
      s.pmu.flight = .none → s.lrs.perst = false → s.lrs.shelfReset = false → lrsActive s = false → s.dbg.halted = [] → standalone s = true →
      Completes (.setPowerManagement n) s fun t =>
        getF t F.pmuState_ps = dw11 c.sqe % 32 ∧ Ended s t n c .success ∧ Only s t [.hif] []) ∧
    (∀ (n : Nat) (c : CmdSlot) (s : State),
      Works s → FetchedAdmin s n 0x09 c → fid c.sqe = 0x02 → featSave c.sqe = false → c.func = 0 → dw11 c.sqe % 32 = 3 → operational s = true →
      s.pmu.flight = .none → s.lrs.perst = false → s.lrs.shelfReset = false → lrsActive s = false → s.dbg.halted = [] → standalone s = true →
      Completes (.setPowerManagement n) s fun t =>
        t.pmu.flight = .drain ∧ t.pmu.target = .standby ∧ t.hif.fetchStopped = true ∧ Ended s t n c .success ∧ Only s t [.hif, .pmu] []) ∧
    (∀ (e : Nat) (s : State),
      Powered s → operational s = true → (funcOf s 0).features.apstEnable = true →
      (listAt 0 (funcOf s 0).features.apst (getF s F.pmuState_ps)).toNat = e → e / 256 % 2 ^ 24 ≠ 0 → getF s F.pmuState_ps < e / 8 % 32 →
      (e / 8 % 32 = 3 ∨ e / 8 % 32 = 4) → s.pmu.flight = .none → s.lrs.perst = false → s.lrs.shelfReset = false → lrsActive s = false →
      s.dbg.halted = [] → standalone s = true →
      Completes (.autonomousPsTransition) s fun t =>
        t.pmu.flight = .drain ∧ t.pmu.target = psRequest (e / 8 % 32) ∧ t.hif.fetchStopped = true ∧ Only s t [.hif, .pmu] []) ∧
    (∀ (n ms : Nat) (c : CmdSlot) (s : State),
      Works s → FetchedAdmin s n 0x09 c → fid c.sqe = 0x0E → featSave c.sqe = false → c.func = 0 → joined s = [] → getF s F.mhmOffest_state ≠ 3 →
      (getF s F.mhmOffest_state ≠ 2 ∨ s.age.stampNew.isSome = true ∨ s.clk.us ≤ s.age.surveyed + 1000000 * getF s F.mhmOffest_tsWait) →
      Completes (.setTimestamp n ms) s fun t =>
        stampNow t = ms % 2 ^ 48 ∧ t.clk.stampSet = true ∧ t.age.stampNew = some (ms % 2 ^ 48, s.clk.ophours) ∧ Ended s t n c .success ∧ Only s t [.clk, .age, .jrn, .hif] []) ∧
    (∀ (n : Nat) (c : CmdSlot) (s : State),
      Works s → FetchedAdmin s n 0x09 c → fid c.sqe = 0xC0 → featSave c.sqe = false → c.func = 0 → joined s = [] → dw11 c.sqe % 2 ^ 24 ≠ 0 →
      s.vfm.stopAll = false →
      Completes (.setDeadlineClassTable n) s fun t =>
        t.vfm = { s.vfm with classShadow := s.vfm.classShadow ++ [(dw11 c.sqe / 2 ^ 30, dw11 c.sqe % 2 ^ 24)] } ∧ Ended s t n c .success ∧ Only s t [.vfm, .hif] []) ∧
    (∀ (n : Nat) (c : CmdSlot) (s : State),
      Works s → FetchedAdmin s n 0x09 c → fid c.sqe = 0xC0 → featSave c.sqe = false → c.func = 0 → dw11 c.sqe % 2 ^ 24 ≠ 0 → s.vfm.stopAll = true →
      Completes (.setDeadlineClassTable n) s fun t =>
        t.vfm = { s.vfm with stagedClasses := s.vfm.stagedClasses ++ [(dw11 c.sqe / 2 ^ 30, dw11 c.sqe % 2 ^ 24)] } ∧ Ended s t n c .success ∧ Only s t [.vfm, .hif] [])

/-- An Asynchronous Event Request with no event pending is held; the fifth held one fails. An event with no request outstanding waits; with one
outstanding it completes the oldest request and is masked until its page is read. A short self-test counts one and completes. NVMe-MI Send with
Configuration Set stores the value; NVMe-MI Receive with Configuration Get returns the stored one, 64 bytes for the MCTP unit. -/
def Obligations.Events : Prop :=
    (∀ (n : Nat) (c : CmdSlot) (s : State),
      Works s → FetchedAdmin s n 0x0C c → (funcOf s c.func).aers.length < 4 → (funcOf s c.func).pendingEvents = [] →
      Completes (.asyncEventRequest n) s fun t =>
        (funcOf t c.func).aers = (funcOf s c.func).aers ++ [c.sqe.cid] ∧ slotOf t n = none ∧ (∀ m, m ≠ n → slotOf t m = slotOf s m) ∧ Only s t [.hif] []) ∧
    (∀ (n : Nat) (c : CmdSlot) (s : State),
      Works s → FetchedAdmin s n 0x0C c → 4 ≤ (funcOf s c.func).aers.length →
      Completes (.asyncEventRequest n) s fun t =>
        Ended s t n c .aerLimitExceeded ∧ Only s t [.hif] []) ∧
    (∀ (f : Nat) (e : AsyncEvent) (s : State),
      Works s → funcExists s f = true → eventEnabled (funcOf s f) e = true → (funcOf s f).masked.any (sameKind e) = false →
      (funcOf s f).pendingEvents.contains e = false → (funcOf s f).aers = [] →
      Completes (.asyncEventRaise f e) s fun t =>
        (funcOf t f).pendingEvents = (funcOf s f).pendingEvents ++ [e] ∧ Only s t [.hif] []) ∧
    (∀ (f cid : Nat) (rest : List Nat) (e : AsyncEvent) (s : State),
      Works s → funcExists s f = true → eventEnabled (funcOf s f) e = true → (funcOf s f).masked.any (sameKind e) = false →
      (funcOf s f).pendingEvents = [] → (funcOf s f).aers = cid :: rest → (queueStopped s f 0 = false ∨ quietNow s = false) →
      ((spFind (funcOf s f).cqs 0).any fun q => !cqFull q) = true →
      Completes (.asyncEventRaise f e) s fun t =>
        (funcOf t f).aers = rest ∧ (funcOf t f).pendingEvents = [] ∧ (funcOf t f).masked = (funcOf s f).masked ++ [e] ∧ (∃ d0 d1, Output.completion f 0 cid .success false d0 d1 ∈ t.out) ∧ Only s t [.hif] []) ∧
    (∀ (n : Nat) (c : CmdSlot) (s : State),
      Works s → FetchedAdmin s n 0x14 c → dw10 c.sqe % 16 = 1 →
      Completes (.deviceSelfTest n) s fun t =>
        t.hif.selfTest = s.hif.selfTest + 1 ∧ Ended s t n c .success ∧ Only s t [.hif] []) ∧
    (∀ (n : Nat) (c : CmdSlot) (s : State),
      Works s → FetchedAdmin s n 0x1D c → miOpc c.sqe = 3 → (dw12 c.sqe % 256 = 1 ∨ dw12 c.sqe % 256 = 2) →
      Completes (.nvmeMiSend n) s fun t =>
        spGet 0 t.mi.config (dw12 c.sqe % 256 + 256 * (dw12 c.sqe / 2 ^ 24)) = dw13 c.sqe ∧ (CanPost s n c → Posted t c .success 0 0) ∧ Ended s t n c .success ∧ Only s t [.mi, .hif] []) ∧
    (∀ (n : Nat) (c : CmdSlot) (s : State),
      Works s → FetchedAdmin s n 0x1E c → miOpc c.sqe = 4 → dw12 c.sqe % 256 = 3 →
      Completes (.nvmeMiReceive n) s fun t =>
        (CanPost s n c → Posted t c .success (BitVec.ofNat 32 (64 * 256)) 0) ∧ Ended s t n c .success ∧ Only s t [.hif] []) ∧
    (∀ (n : Nat) (c : CmdSlot) (s : State),
      Works s → FetchedAdmin s n 0x1E c → miOpc c.sqe = 4 → (dw12 c.sqe % 256 = 1 ∨ dw12 c.sqe % 256 = 2) →
      Completes (.nvmeMiReceive n) s fun t =>
        (CanPost s n c → Posted t c .success (BitVec.ofNat 32 (spGet 0 s.mi.config (dw12 c.sqe % 256 + 256 * (dw12 c.sqe / 2 ^ 24)) % 2 ^ 24 * 256)) 0) ∧ Ended s t n c .success ∧ Only s t [.hif] [])

/-- Create takes the lowest free NSID and the lowest free range and asks the journal; delete of a namespace with no bound zone erases its key slot, frees
the NSID and asks the journal; attachment and detachment take effect at once on the PF and on a stopped VF, and wait for the journal; while STOP_ALL
is set they are staged and wait for START. -/
def Obligations.Namespaces : Prop :=
    (∀ (n base : Nat) (tr : Tier) (data : NsCreate) (c : CmdSlot) (s : State),
      Works s → FetchedAdmin s n 0x0D c → nsSel c.sqe = 0 → tierOf (data.defTier.toNat % 4) = some tr → data.nsze ≠ 0 → data.nsze % 2 ^ 20 = 0 →
      data.flbas = 0 → data.defTier.toNat < 4 → data.reservedZero = true → data.marCap ≠ 0 → data.morCap ≠ 0 →
      lowestRange s (data.nsze / 2 ^ 20) = some base → spFree s.nss 4096 1 ≤ 4096 → standalone s = true →
      Completes (.namespaceCreate n data) s fun t =>
        spFind t.nss (spFree s.nss 4096 1) = some ⟨base, data.nsze / 2 ^ 20, tr, data.marCap, data.morCap, none, 0, none⟩ ∧
        t.jrn.waiting = s.jrn.waiting ++ [.ns (spFree s.nss 4096 1) (some ⟨base, data.nsze / 2 ^ 20, tr, data.marCap, data.morCap, none, 0, none⟩)] ∧
        slotOf t n = some { c with kind := .admin, phase := .waitJournal, dw0 := BitVec.ofNat 32 (spFree s.nss 4096 1) } ∧ (∀ i, i ≠ spFree s.nss 4096 1 → spFind t.nss i = spFind s.nss i) ∧ Only s t [.nss, .jrn, .hif] []) ∧
    (∀ (n i : Nat) (ns : Namespace) (c : CmdSlot) (s : State),
      Works s → FetchedAdmin s n 0x0D c → nsSel c.sqe = 1 → c.sqe.nsid = i → 0 < i → i < 4097 → spFind s.nss i = some ns →
      (ns.attached = some 0 ∨ ns.attached = none) → nsZones s ns = [] → standalone s = true →
      (∀ kv ∈ s.hif.slots, kv.2.nsid ≠ i ∨ isAdmitted kv.2 = false) → c.zones = [] →
      Completes (.namespaceDelete n) s fun t =>
        spFind t.nss i = none ∧ spFind t.tkr.slots (i - 1) = none ∧ t.jrn.waiting = s.jrn.waiting ++ [.ns i none] ∧
        slotOf t n = some { c with kind := .admin, phase := .waitJournal } ∧ (∀ k, k ≠ i → spFind t.nss k = spFind s.nss k) ∧ Only s t [.nss, .jrn, .hif, .tkr, .cph] [F.cphErr_revokedOps.addr]) ∧
    (∀ (n i f : Nat) (ns : Namespace) (c : CmdSlot) (s : State),
      Works s → FetchedAdmin s n 0x15 c → nsSel c.sqe = 0 → c.sqe.nsid = i → spFind s.nss i = some ns → stagedOwner s i = none → f ≤ 4096 →
      (f = 0 ∨ (funcExists s f = true ∧ funcStopped s f = true ∧ s.vfm.stopAll = false ∧ (s.nss.any fun kv => kv.1 != i && stagedOwner s kv.1 == some f) = false)) →
      standalone s = true →
      Completes (.namespaceAttachment n [f]) s fun t =>
        spFind t.nss i = some { ns with attached := some f } ∧ t.jrn.waiting = s.jrn.waiting ++ [.ns i (some { ns with attached := some f })] ∧
        slotOf t n = some { c with kind := .admin, phase := .waitJournal } ∧ (∀ k, k ≠ i → spFind t.nss k = spFind s.nss k) ∧ Only s t [.nss, .jrn, .hif] []) ∧
    (∀ (n i f : Nat) (ns : Namespace) (c : CmdSlot) (s : State),
      Works s → FetchedAdmin s n 0x15 c → nsSel c.sqe = 1 → c.sqe.nsid = i → spFind s.nss i = some ns → stagedOwner s i = some f → f ≤ 4096 →
      (f = 0 ∨ (funcExists s f = true ∧ funcStopped s f = true ∧ s.vfm.stopAll = false)) → standalone s = true →
      Completes (.namespaceAttachment n [f]) s fun t =>
        spFind t.nss i = some { ns with attached := none } ∧ Only s t [.nss, .jrn, .hif] []) ∧
    (∀ (n i f : Nat) (c : CmdSlot) (s : State),
      Works s → FetchedAdmin s n 0x15 c → nsSel c.sqe = 0 → c.sqe.nsid = i → (spFind s.nss i).isSome = true → stagedOwner s i = none → 0 < f →
      f ≤ 4096 → funcExists s f = true → funcStopped s f = true → s.vfm.stopAll = true →
      (s.nss.any fun kv => kv.1 != i && stagedOwner s kv.1 == some f) = false →
      Completes (.namespaceAttachment n [f]) s fun t =>
        t.vfm = { s.vfm with stagedAttach := s.vfm.stagedAttach ++ [⟨i, f, true⟩] } ∧ slotOf t n = some { c with kind := .admin, phase := .waitStart } ∧ (∀ m, m ≠ n → slotOf t m = slotOf s m) ∧ Only s t [.vfm, .hif] [])

/-- Secondary Offline stops an enabled VF whose queues hold no fetched command and completes; Secondary Online starts one that is not frozen; QUIET reads
whether an admitted command of a stopped queue is left. A write of VF Enable and NumVFs is kept until START; a write of Device Control sets the
payload, read request and timeout it supports; a read returns what R3, R85, R86 and R87 give, 0xB0 as the Revision ID of every function. A
configuration access changes nothing else. CC.EN set enables a controller: its registers, empty admin queues with the sizes of AQA, RDY once the boot
is complete. A CONTROLLER reset of a function with no command in progress clears it but for MSI-X and statistics; a FUNCTION reset clears these too
and keeps the stopped flag; an FLR of the PF also clears VF Enable and what is staged, and the shares are those of no VF; where a START waits, the FLR
waits for it. A shutdown notification with no admitted command reads SHST 10b at once. -/
def Obligations.Controllers : Prop :=
    (∀ (n : Nat) (c : CmdSlot) (s : State),
      Works s → FetchedAdmin s n 0x1C c → virtAct c.sqe = 7 → virtCntl c.sqe ≠ 0 → funcExists s (virtCntl c.sqe) = true → c.func = 0 →
      (∀ kv ∈ s.hif.slots, kv.2.func ≠ virtCntl c.sqe) →
      Completes (.secondaryOffline n) s fun t =>
        (funcOf t (virtCntl c.sqe)).stop.byOffline = true ∧ getF t F.vfmReconf_quiet = b2n (quietNow t) ∧ (∀ f, f ≠ virtCntl c.sqe → (funcOf t f).stop = (funcOf s f).stop) ∧ Ended s t n c .success ∧ Only s t [.hif] [F.vfmReconf_quiet.addr]) ∧
    (∀ (n : Nat) (c : CmdSlot) (s : State),
      Works s → FetchedAdmin s n 0x1C c → virtAct c.sqe = 9 → virtCntl c.sqe ≠ 0 → funcExists s (virtCntl c.sqe) = true →
      (funcOf s (virtCntl c.sqe)).stop.frozen = false → s.hif.waiting = [] → (∀ f ∈ funcsOf s, (funcOf s f).pendingEvents = []) →
      Completes (.secondaryOnline n) s fun t =>
        (funcOf t (virtCntl c.sqe)).stop.byOffline = false ∧ getF t F.vfmReconf_quiet = b2n (quietNow t) ∧ (∀ f, f ≠ virtCntl c.sqe → (funcOf t f).stop = (funcOf s f).stop) ∧ Ended s t n c .success ∧ Only s t [.hif] [F.vfmReconf_quiet.addr]) ∧
    (∀ (n : Nat) (c : CmdSlot) (s : State),
      Works s → FetchedAdmin s n 0x1C c → virtAct c.sqe = 9 → virtCntl c.sqe ≠ 0 → funcExists s (virtCntl c.sqe) = true →
      (funcOf s (virtCntl c.sqe)).stop.frozen = true →
      Completes (.secondaryOnline n) s fun t =>
        Ended s t n c .commandSequenceError ∧ Only s t [.hif] []) ∧
    (∀ (en ari : Bool) (k : Nat) (s : State),
      Powered s → domainOn s .host = true →
      Completes (.sriovConfigWrite (.vf en k ari)) s fun t =>
        t.vfm = { s.vfm with vfEnableWritten := en, numVfsWritten := k, ariCapable := ari } ∧ Only s t [.vfm] []) ∧
    (∀ (f p r : Nat) (us : Option Nat) (s : State),
      Powered s → domainOn s .host = true → funcExists s f = true → p ∈ [128, 256, 512] → r ∈ [128, 256, 512, 1024, 2048, 4096] →
      (us.all fun n => decide (50 ≤ n ∧ n ≤ 64000000)) = true →
      Completes (.sriovConfigWrite (.control f p r us)) s fun t =>
        (funcOf t f).pci = ⟨p, r, us⟩ ∧ (∀ g, g ≠ f → funcOf t g = funcOf s g) ∧ Only s t [.hif] []) ∧
    (∀ (f n : Nat) (item : ConfigItem) (s : State),
      Powered s → domainOn s .host = true → funcExists s f = true → configValue s f item = some n →
      Completes (.sriovConfigWrite (.read f item)) s fun t =>
        Output.configRead f item n ∈ t.out ∧ Only s t [] []) ∧
    (∀ (f : Nat) (s : State),
      Powered s → domainOn s .host = true → funcExists s f = true →
      Completes (.sriovConfigWrite (.read f .revisionId)) s fun t =>
        Output.configRead f .revisionId 0xB0 ∈ t.out ∧ Only s t [] []) ∧
    (∀ (a : ConfigAccess) (s : State),
      Powered s → domainOn s .host = false →
      Completes (.sriovConfigWrite a) s fun t =>
        Output.note "configuration request retry status" 0 ∈ t.out ∧ Only s t [] []) ∧
    (∀ (f a b : Nat) (cc aqa : DWord) (s : State),
      Works s → funcExists s f = true → (funcOf s f).stop.frozen = false → ccEn (funcOf s f) = false → cc.getLsbD 0 = true →
      Completes (.ccEnable f cc aqa a b) s fun t =>
        (funcOf t f).regs = { cc := cc, aqa := aqa, asq := a, acq := b, rdy := getF s F.prfBoot_stage == 10, cfs := s.lrs.bootStopped, shst := 0 } ∧
        spFind (funcOf t f).sqs 0 = some ⟨a, aqa.toNat % 4096, 0, 0, 0, none⟩ ∧
        spFind (funcOf t f).cqs 0 = some ⟨b, aqa.toNat / 65536 % 4096, 0, 0, true, 0, true⟩ ∧ (∀ g, g ≠ f → funcOf t g = funcOf s g) ∧ Only s t [.hif] []) ∧
    (∀ (f : Nat) (s : State),
      Works s → funcExists s f = true → (funcOf s f).stop.frozen = false → ccEn (funcOf s f) = true → (∀ kv ∈ s.hif.slots, kv.2.func ≠ f) →
      s.zrs.cam = [] →
      Completes (.controllerReset f) s fun t =>
        funcOf t f = { noFunc with pci := (funcOf s f).pci, msix := (funcOf s f).msix, msixEnable := (funcOf s f).msixEnable, stats := (funcOf s f).stats, stop := { (funcOf s f).stop with shutdown := false } } ∧ (∀ g, g ≠ f → funcOf t g = funcOf s g) ∧ Only s t [.hif, .aon, .sec] []) ∧
    (∀ (f : Nat) (s : State),
      Powered s → 0 < f → funcExists s f = true → s.vfm.migOp = none → (∀ kv ∈ s.hif.slots, kv.2.func ≠ f) → s.zrs.cam = [] →
      Completes (.flr f) s fun t =>
        funcOf t f = { noFunc with pci := (funcOf s f).pci, stop := { (funcOf s f).stop with frozen := false, shutdown := false, inFlr := false } } ∧
        (getF s F.mepFlip_func = f → flag t F.mepFlip_arm = false) ∧ (∀ g, g ≠ f → funcOf t g = funcOf s g) ∧ Only s t [.hif, .aon, .sec] [F.mepFlip_arm.addr]) ∧
    (∀ (s : State),
      Powered s → s.vfm.vfEnable = false → s.vfm.startWaits = false → s.vfm.migOp = none → (∀ kv ∈ s.hif.slots, kv.2.func ≠ 0) → s.zrs.cam = [] →
      Completes (.flr 0) s fun t =>
        t.vfm = { s.vfm with vfEnable := false, numVfs := 0, vfEnableWritten := false, numVfsWritten := 0, stagedAttach := [], stagedClasses := [], startWaits := false, flrWaits := false } ∧
        getF t F.vfmShare_qp = 0 ∧ getF t F.vfmSharePf_qpPf = 64 ∧ Only s t [.hif, .aon, .sec, .vfm] [F.mepFlip_arm.addr, F.vfmShare_qp.addr, F.vfmSharePf_qpPf.addr]) ∧
    (∀ (s : State),
      Powered s → s.vfm.startWaits = true →
      Completes (.flr 0) s fun t =>
        t.vfm = { s.vfm with flrWaits := true } ∧ (funcOf t 0).stop.inFlr = true ∧ (∀ g, g ≠ 0 → funcOf t g = funcOf s g) ∧ Only s t [.hif, .vfm] []) ∧
    (∀ (f shn : Nat) (s : State),
      Works s → funcExists s f = true → (shn = 1 ∨ shn = 2) → (funcOf s f).stop.frozen = false → s.hif.slots = [] →
      Completes (.shutdownNotification f shn) s fun t =>
        (funcOf t f).regs.shst = 2 ∧ (funcOf t f).stop.shutdown = true ∧ (funcOf t f).sqs = (funcOf s f).sqs ∧ (∀ g, g ≠ f → funcOf t g = funcOf s g) ∧ Only s t [.hif] [])

/-- STOP_ALL stops every function and sets STOPPED. START with no change of the VF set applies the staged deadlines and attachments, clears the stop, and
what waited for it waits for the journal; with VF Enable newly set it brings up NumVFs stopped VFs with the shares of R130; refused, it sets ERR and
leaves everything staged; during an entry it waits. QUIET reads 1 exactly where no admitted command of a stopped queue is left, and a FREEZE that
waits for its VF to be quiet completes. -/
def Obligations.StopChangeStart : Prop :=
    (∀ (s : State),
      Works s → s.vfm.stopAll = false → (∀ kv ∈ s.hif.slots, isAdmitted kv.2 = true) →
      Completes (.stopAll false) s fun t =>
        t.vfm = { s.vfm with stopAll := true } ∧ flag t F.vfmReconf_stopped = true ∧ getF t F.vfmReconf_quiet = b2n (quietNow t) ∧ (∀ f ∈ funcsOf s, (funcOf t f).stop.byStopAll = true) ∧ t.hif.slots = s.hif.slots ∧ Only s t [.vfm, .hif] [F.vfmReconf_start.addr]) ∧
    (∀ (s : State),
      Works s → flag s F.vfmReconf_start = false → entering s = false → startError s = 0 → s.vfm.vfEnableWritten = s.vfm.vfEnable →
      s.vfm.numVfsWritten = s.vfm.numVfs → s.hif.waiting = [] → (s.jrn.waiting ≠ [] ∨ ∀ kv ∈ s.hif.slots, kv.2.phase ≠ .waitStart) →
      Completes (.start) s fun t =>
        t.vfm = { s.vfm with stopAll := false, stagedAttach := [], stagedClasses := [], startWaits := false, classShadow := s.vfm.classShadow ++ s.vfm.stagedClasses } ∧
        flag t F.vfmReconf_stopped = false ∧ flag t F.vfmReconf_start = false ∧ getF t F.vfmReconf_err = 0 ∧ getF t F.vfmReconf_quiet = b2n (quietNow t) ∧ (∀ f ∈ funcsOf s, (funcOf t f).stop.byStopAll = false) ∧
        (∀ i ns, spFind s.nss i = some ns → spFind t.nss i = some { ns with attached := stagedOwner s i }) ∧
        (∀ n c, slotOf s n = some c → c.phase = .waitStart → slotOf t n = some { c with phase := .waitJournal }) ∧ Only s t [.vfm, .hif, .nss, .jrn] [F.vfmReconf_start.addr]) ∧
    (∀ (s : State),
      Works s → flag s F.vfmReconf_start = false → entering s = false → startError s = 0 → s.vfm.vfEnable = false → s.vfm.vfEnableWritten = true →
      s.vfm.stagedAttach = [] → s.hif.waiting = [] → (∀ kv ∈ s.hif.slots, kv.2.phase ≠ .waitStart) →
      Completes (.start) s fun t =>
        t.vfm.vfEnable = true ∧ t.vfm.numVfs = s.vfm.numVfsWritten ∧ holds t F.vfmShare_qp (vfShares s.vfm.numVfsWritten).1 ∧
        holds t F.vfmShare_vec (vfShares s.vfm.numVfsWritten).2.1 ∧ holds t F.vfmShare_ctx (vfShares s.vfm.numVfsWritten).2.2 ∧ holds t F.vfmSharePf_ctxPf (pfShares s.vfm.numVfsWritten).2.2 ∧ (∀ f, 1 ≤ f → f ≤ s.vfm.numVfsWritten → (funcOf t f).stop.byOffline = true) ∧ Only s t [.vfm, .hif] [F.vfmReconf_start.addr, F.vfmShare_qp.addr, F.vfmSharePf_qpPf.addr]) ∧
    (∀ (s : State),
      Works s → flag s F.vfmReconf_start = false → entering s = false → startError s ≠ 0 →
      Completes (.start) s fun t =>
        getF t F.vfmReconf_err = startError s ∧ flag t F.vfmReconf_start = false ∧ t.vfm = { s.vfm with startWaits := false } ∧ Only s t [.vfm] [F.vfmReconf_start.addr]) ∧
    (∀ (s : State),
      Works s → entering s = true → flag s F.vfmReconf_start = false →
      Completes (.start) s fun t =>
        t.vfm = { s.vfm with startWaits := true } ∧ flag t F.vfmReconf_start = true ∧ Only s t [.vfm] [F.vfmReconf_start.addr]) ∧
    (∀ (s : State),
      Works s → s.vfm.migOp = none →
      Completes (.quietReached) s fun t =>
        getF t F.vfmReconf_quiet = b2n (quietNow t) ∧ Only s t [] [F.vfmReconf_quiet.addr]) ∧
    (∀ (f : Nat) (s : State),
      Works s → s.vfm.migOp = some (.freeze, f) → vfQuiet s f = true →
      Completes (.quietReached) s fun t =>
        (funcOf t f).stop.frozen = true ∧ flag t F.vfmMigStat_done = true ∧ getF t F.vfmMigStat_err = 0 ∧ flag t F.vfmMigCtrl_go = false ∧ t.vfm.migOp = none ∧ Only s t [.hif, .vfm] [F.vfmReconf_quiet.addr, F.vfmMigCtrl_go.addr, F.vfmMigStat_done.addr])

/-- FREEZE of a VF with no command in progress stops and freezes it and is done; UNFREEZE ends the freeze and leaves the VF stopped. SAVE of a frozen VF
without KEY_EXPORT writes the image, its nonce a fresh value and its last 16 bytes the GCM tag under the migration key. RESTORE of an image with no
namespace onto a stopped VF writes the VF's state, which stays frozen. A buffer too small, an image that fails a check, and an UNFREEZE of a VF that
is not frozen end with their ERR and change nothing else. A second operation while one runs sets BUSY and changes nothing else. -/
def Obligations.Migration : Prop :=
    (∀ (vf pages : Nat) (ke : Bool) (s : State),
      Works s → flag s F.vfmMigCtrl_go = false → isVf s vf = true → (funcOf s vf).stop.frozen = false → (∀ kv ∈ s.hif.slots, kv.2.func ≠ vf) →
      Completes (.freeze vf pages ke) s fun t =>
        (funcOf t vf).stop.frozen = true ∧ (funcOf t vf).stop.byOffline = true ∧ flag t F.vfmMigStat_done = true ∧ getF t F.vfmMigStat_err = 0 ∧ flag t F.vfmMigCtrl_go = false ∧
        holds t F.vfmMigCtrl_bufPages pages ∧ getF t F.vfmMigCtrl_keyExport = b2n ke ∧ Only s t [.hif, .vfm] [F.vfmMigCtrl_go.addr, F.vfmMigStat_done.addr, F.vfmReconf_quiet.addr]) ∧
    (∀ (vf pages : Nat) (ke : Bool) (s : State),
      Works s → flag s F.vfmMigCtrl_go = false → isVf s vf = true → (funcOf s vf).stop.frozen = true →
      Completes (.unfreeze vf pages ke) s fun t =>
        (funcOf t vf).stop.frozen = false ∧ (funcOf t vf).stop.byOffline = true ∧ flag t F.vfmMigStat_done = true ∧ getF t F.vfmMigStat_err = 0 ∧ Only s t [.hif, .vfm] [F.vfmMigCtrl_go.addr, F.vfmMigStat_done.addr]) ∧
    (∀ (vf pages : Nat) (ke : Bool) (s : State),
      Works s → flag s F.vfmMigCtrl_go = false → (isVf s vf = false ∨ (funcOf s vf).stop.frozen = false) →
      Completes (.unfreeze vf pages ke) s fun t =>
        flag t F.vfmMigStat_done = true ∧ getF t F.vfmMigStat_err = 2 ∧ flag t F.vfmMigCtrl_go = false ∧ Only s t [.vfm] [F.vfmMigCtrl_go.addr, F.vfmMigStat_done.addr]) ∧
    (∀ (vf pages : Nat) (mk : List Byte) (s : State),
      Works s → flag s F.vfmMigCtrl_go = false → isVf s vf = true → (funcOf s vf).stop.frozen = true → pages ≠ 0 →
      imageLength (qpShare s vf) (vecShare s vf) false ≤ pages * 4096 → keyBytes s slotMigration = some mk → standalone s = true →
      Completes (.save vf pages false) s fun t =>
        Output.hostWrite (migAddr s) (imageHeader s vf (qpShare s vf) (vecShare s vf) (imageFloor s (s.nss.find? fun kv => kv.2.attached == some vf)).1 false (leBytes 12 (Config.freeNat s.free)) ++
          imageController (funcOf s vf) ++ (List.range (qpShare s vf)).flatMap (fun i => imageQueue (funcOf s vf) (i + 1)) ++
          (List.range (vecShare s vf)).flatMap (imageVector (funcOf s vf)) ++ imageNs (s.nss.find? fun kv => kv.2.attached == some vf) ++ statsPage (funcOf s vf) ++
          gcmTag mk (leBytes 12 (Config.freeNat s.free)) (imageHeader s vf (qpShare s vf) (vecShare s vf) (imageFloor s (s.nss.find? fun kv => kv.2.attached == some vf)).1 false (leBytes 12 (Config.freeNat s.free)) ++
          imageController (funcOf s vf) ++ (List.range (qpShare s vf)).flatMap (fun i => imageQueue (funcOf s vf) (i + 1)) ++
          (List.range (vecShare s vf)).flatMap (imageVector (funcOf s vf)) ++ imageNs (s.nss.find? fun kv => kv.2.attached == some vf) ++ statsPage (funcOf s vf)) []) ∈ t.out ∧
        holds t F.vfmMigStat_length (imageLength (qpShare s vf) (vecShare s vf) false) ∧ flag t F.vfmMigStat_done = true ∧ getF t F.vfmMigStat_err = 0 ∧ t.free = s.free + 1 ∧ Only s t [.vfm, .free] [F.vfmMigCtrl_go.addr, F.vfmMigStat_done.addr]) ∧
    (∀ (vf pages : Nat) (ke : Bool) (s : State),
      Works s → flag s F.vfmMigCtrl_go = false → isVf s vf = true → (funcOf s vf).stop.frozen = true → pages ≠ 0 →
      pages * 4096 < imageLength (qpShare s vf) (vecShare s vf) ke →
      Completes (.save vf pages ke) s fun t =>
        flag t F.vfmMigStat_done = true ∧ getF t F.vfmMigStat_err = 8 ∧ flag t F.vfmMigCtrl_go = false ∧ Only s t [.vfm] [F.vfmMigCtrl_go.addr, F.vfmMigStat_done.addr]) ∧
    (∀ (vf pages : Nat) (ke : Bool) (image : List Byte) (s : State),
      Works s → flag s F.vfmMigCtrl_go = false → isVf s vf = true → ((funcOf s vf).stop.byOffline || (funcOf s vf).stop.byStopAll) = true →
      (funcOf s vf).stop.frozen = false → pages ≠ 0 → imageError s vf pages image = 0 →
      (leAt image 0x10 8 ≠ s.otp.devUid.toNat ∨ (funcOf s (leAt image 0x0C 2 % 8192)).stop.frozen = false) →
      (s.nss.find? fun kv => kv.2.attached == some vf) = none →
      leAt image (192 + 32 * (leAt image 0x20 1 % 128) + 16 * leAt image 0x21 1 + 8) 4 % 2 ^ 18 = 0 → bitAt (leAt image 4 4) 16 = false →
      s.jrn.waiting = [] →
      Completes (.restore vf pages ke image) s fun t =>
        funcOf t vf = funcOf (applyImage s vf 0 image) vf ∧ (funcOf t vf).stop.frozen = true ∧ flag t F.vfmMigStat_done = true ∧ getF t F.vfmMigStat_err = 0 ∧ Output.hostRead (migAddr s) (pages * 4096) ∈ t.out ∧ Only s t [.hif, .vfm, .free] [F.vfmMigCtrl_go.addr, F.vfmMigStat_done.addr]) ∧
    (∀ (vf pages : Nat) (ke : Bool) (image : List Byte) (s : State),
      Works s → flag s F.vfmMigCtrl_go = false → isVf s vf = true → ((funcOf s vf).stop.byOffline || (funcOf s vf).stop.byStopAll) = true →
      (funcOf s vf).stop.frozen = false → pages ≠ 0 → imageError s vf pages image ≠ 0 →
      Completes (.restore vf pages ke image) s fun t =>
        flag t F.vfmMigStat_done = true ∧ getF t F.vfmMigStat_err = imageError s vf pages image ∧ flag t F.vfmMigCtrl_go = false ∧ Only s t [.vfm] [F.vfmMigCtrl_go.addr, F.vfmMigStat_done.addr]) ∧
    (∀ (vf pages : Nat) (ke : Bool) (s : State),
      Works s → flag s F.vfmMigCtrl_go = true →
      Completes (.freeze vf pages ke) s fun t =>
        getF t F.vfmMigStat_err = 1 ∧ Only s t [] [F.vfmMigStat_err.addr])

/-- Read, Verify, Write, Zone Append, Placed Zone Append and the zone management actions that pass the checks take their zone, offset and length into
their slot and wait for ZRS, or for their read reservation; a Read or Verify that crosses its zone's end fails with Zone Boundary Error. Nothing but
the slot changes. -/
def Obligations.IoChecks : Prop :=
    (∀ (n nsid : Nat) (c : CmdSlot) (ns : Namespace) (s : State),
      Passes s n .read c nsid ns → slba c.sqe % 2 ^ 20 + nlb c.sqe ≤ 2 ^ 20 →
      Completes (.read n) s fun t =>
        slotOf t n = some (checkedSlot s .read c nsid ns) ∧ (∀ m, m ≠ n → slotOf t m = slotOf s m) ∧ Only s t [.hif] []) ∧
    (∀ (n nsid : Nat) (c : CmdSlot) (ns : Namespace) (s : State),
      Passes s n .verify c nsid ns → slba c.sqe % 2 ^ 20 + nlb c.sqe ≤ 2 ^ 20 →
      Completes (.verify n) s fun t =>
        slotOf t n = some (checkedSlot s .verify c nsid ns) ∧ (∀ m, m ≠ n → slotOf t m = slotOf s m) ∧ Only s t [.hif] []) ∧
    (∀ (n nsid : Nat) (c : CmdSlot) (ns : Namespace) (s : State),
      Passes s n .write c nsid ns →
      Completes (.write n) s fun t =>
        slotOf t n = some (checkedSlot s .write c nsid ns) ∧ (∀ m, m ≠ n → slotOf t m = slotOf s m) ∧ Only s t [.hif] []) ∧
    (∀ (n nsid : Nat) (c : CmdSlot) (ns : Namespace) (s : State),
      Passes s n .append c nsid ns →
      Completes (.zoneAppend n) s fun t =>
        slotOf t n = some (checkedSlot s .append c nsid ns) ∧ (∀ m, m ≠ n → slotOf t m = slotOf s m) ∧ Only s t [.hif] []) ∧
    (∀ (n nsid : Nat) (c : CmdSlot) (ns : Namespace) (s : State),
      Passes s n .placedAppend c nsid ns →
      Completes (.placedZoneAppend n) s fun t =>
        slotOf t n = some (checkedSlot s .placedAppend c nsid ns) ∧ (∀ m, m ≠ n → slotOf t m = slotOf s m) ∧ Only s t [.hif] []) ∧
    (∀ (n nsid : Nat) (c : CmdSlot) (ns : Namespace) (s : State),
      Passes s n .openTiered c nsid ns →
      Completes (.zoneOpenTiered n) s fun t =>
        slotOf t n = some (checkedSlot s .openTiered c nsid ns) ∧ (∀ m, m ≠ n → slotOf t m = slotOf s m) ∧ Only s t [.hif] []) ∧
    (∀ (n nsid : Nat) (c : CmdSlot) (ns : Namespace) (s : State),
      Passes s n .open c nsid ns →
      Completes (.zoneOpen n) s fun t =>
        slotOf t n = some (checkedSlot s .open c nsid ns) ∧ (∀ m, m ≠ n → slotOf t m = slotOf s m) ∧ Only s t [.hif] []) ∧
    (∀ (n nsid : Nat) (c : CmdSlot) (ns : Namespace) (s : State),
      Passes s n .close c nsid ns →
      Completes (.zoneClose n) s fun t =>
        slotOf t n = some (checkedSlot s .close c nsid ns) ∧ (∀ m, m ≠ n → slotOf t m = slotOf s m) ∧ Only s t [.hif] []) ∧
    (∀ (n nsid : Nat) (c : CmdSlot) (ns : Namespace) (s : State),
      Passes s n .finish c nsid ns →
      Completes (.zoneFinish n) s fun t =>
        slotOf t n = some (checkedSlot s .finish c nsid ns) ∧ (∀ m, m ≠ n → slotOf t m = slotOf s m) ∧ Only s t [.hif] []) ∧
    (∀ (n nsid : Nat) (c : CmdSlot) (ns : Namespace) (s : State),
      Passes s n .reset c nsid ns →
      Completes (.zoneReset n) s fun t =>
        slotOf t n = some (checkedSlot s .reset c nsid ns) ∧ (∀ m, m ≠ n → slotOf t m = slotOf s m) ∧ Only s t [.hif] []) ∧
    (∀ (n nsid : Nat) (c : CmdSlot) (ns : Namespace) (s : State),
      Passes s n .offline c nsid ns →
      Completes (.zoneOffline n) s fun t =>
        slotOf t n = some (checkedSlot s .offline c nsid ns) ∧ (∀ m, m ≠ n → slotOf t m = slotOf s m) ∧ Only s t [.hif] []) ∧
    (∀ (n nsid : Nat) (c : CmdSlot) (ns : Namespace) (s : State),
      Passes s n .read c nsid ns → 2 ^ 20 < slba c.sqe % 2 ^ 20 + nlb c.sqe →
      Completes (.read n) s fun t =>
        Ended s t n c .zoneBoundaryError ∧ Only s t [.hif] []) ∧
    (∀ (n nsid : Nat) (c : CmdSlot) (ns : Namespace) (s : State),
      Passes s n .verify c nsid ns → 2 ^ 20 < slba c.sqe % 2 ^ 20 + nlb c.sqe →
      Completes (.verify n) s fun t =>
        Ended s t n c .zoneBoundaryError ∧ Only s t [.hif] [])

/-- Every I/O command but Flush fails at the first of its checks that does not hold, in the order of its own fields, its namespace, its LBA range, its
transfer size, the sanitize failure mode, a stopped queue, a lost member, with the status of that check; its slot is free and nothing else changes. -/
def Obligations.IoCheckFailures : Prop :=
    (∀ (x : CmdKind × Instr) (n : Nat) (c : CmdSlot) (s : State),
      x ∈ ioRows n → Works s → FetchedIo s n x.1 c → badField s c.sqe = true →
      Completes x.2 s fun t => Ended s t n c .invalidField ∧ Only s t [.hif] []) ∧
    (∀ (x : CmdKind × Instr) (n : Nat) (c : CmdSlot) (s : State),
      x ∈ ioRows n → Works s → FetchedIo s n x.1 c → badField s c.sqe = false → nsOf s c.func c.sqe.nsid = none →
      Completes x.2 s fun t => Ended s t n c .invalidNamespace ∧ Only s t [.hif] []) ∧
    (∀ (x : CmdKind × Instr) (n : Nat) (c : CmdSlot) (nsid : Nat) (ns : Namespace) (s : State),
      x ∈ ioRows n → Works s → FetchedIo s n x.1 c → badField s c.sqe = false → nsOf s c.func c.sqe.nsid = some (nsid, ns) →
      0 < rangeBlocks c.sqe ∧ ns.count * 2 ^ 20 < slba c.sqe + rangeBlocks c.sqe →
      Completes x.2 s fun t => Ended s t n c .lbaOutOfRange ∧ Only s t [.hif] []) ∧
    (∀ (x : CmdKind × Instr) (n : Nat) (c : CmdSlot) (nsid : Nat) (ns : Namespace) (s : State),
      x ∈ ioRows n → Works s → FetchedIo s n x.1 c → badField s c.sqe = false → nsOf s c.func c.sqe.nsid = some (nsid, ns) →
      ¬(0 < rangeBlocks c.sqe ∧ ns.count * 2 ^ 20 < slba c.sqe + rangeBlocks c.sqe) → tooLarge c.sqe = true →
      Completes x.2 s fun t => Ended s t n c .invalidField ∧ Only s t [.hif] []) ∧
    (∀ (x : CmdKind × Instr) (n : Nat) (c : CmdSlot) (nsid : Nat) (ns : Namespace) (s : State),
      x ∈ ioRows n → Works s → FetchedIo s n x.1 c → nsOf s c.func c.sqe.nsid = some (nsid, ns) → ioCheck s c (some ns) = none →
      s.hif.sanitize.failureMode = true →
      Completes x.2 s fun t => Ended s t n c .sanitizeFailed ∧ Only s t [.hif] []) ∧
    (∀ (x : CmdKind × Instr) (n : Nat) (c : CmdSlot) (nsid : Nat) (ns : Namespace) (s : State),
      x ∈ ioRows n → Works s → FetchedIo s n x.1 c → genericCheck s c = none → nsOf s c.func c.sqe.nsid = some (nsid, ns) →
      queueStopped s c.func c.sqid = true →
      Completes x.2 s fun t => Ended s t n c .functionStopped ∧ Only s t [.hif] []) ∧
    (∀ (x : CmdKind × Instr) (n : Nat) (c : CmdSlot) (nsid : Nat) (ns : Namespace) (s : State),
      x ∈ ioRows n → Works s → FetchedIo s n x.1 c → genericCheck s c = none → nsOf s c.func c.sqe.nsid = some (nsid, ns) →
      queueStopped s c.func c.sqid = false → memberLost s (zoneHome s (ns.base + slba c.sqe / 2 ^ 20)).1 = true → selectAll c.sqe = false →
      Completes x.2 s fun t => Ended s t n c .cascadeMemberLost ∧ Only s t [.hif] [])

/-- ZRS resolves a command for one zone. A write for an open zone takes the slots at the write pointers and moves them by its length, is queued on the
dies and is admitted; a write for a Full, Read Only or Offline zone fails with the status of the state; a Read of a zone that was never bound is
answered with zeros; an Open of an Empty zone binds it to the ready entry and opens it; a Close of an open zone takes it to Closed and out of the CAM;
a Reset of an Empty zone completes. A command for a busy zone, or behind a command that waits for the same zone, is held; one whose zone's entry fails
its check as it is loaded fails, and the zone is held. A command that waited for a ready entry, for its horizon, for die-queue entries, for read
buffers or for a context goes on as at its first resolve once what it waited for is there. -/
def Obligations.Resolve : Prop :=
    (∀ (n pzn : Nat) (c : CmdSlot) (ns : Namespace) (z : ZstEntry) (s : State),
      CanReserve s n .checked c ns pzn z →
      Completes (.zoneResolve n false false) s fun t =>
        Reserved t n c pzn z ∧ Only s t [.hif, .zrs, .sch] []) ∧
    (∀ (n : Nat) (c : CmdSlot) (ns : Namespace) (st : Status) (s : State),
      Resolves s n .checked c ns → Bare s n c → isWriteKind c.kind = true → ((zmapOf s c.ezn).bound = false ∨ onChip s c.ezn = true) →
      writeRefusal (zoneState s c.ezn) = some st →
      Completes (.zoneResolve n false false) s fun t =>
        Ended s t n c st ∧ Only s t [.hif] []) ∧
    (∀ (n : Nat) (c : CmdSlot) (ns : Namespace) (s : State),
      Resolves s n .ready c ns → c.kind = .read → zmapOf s c.ezn = ⟨(zmapOf s c.ezn).pzn, false, false, (zmapOf s c.ezn).epoch⟩ →
      keyLoaded s c.nsid = true → c.reserved = c.blocks → c.blocks ≠ 0 → Bare s n { c with reserved := 0 } →
      Completes (.zoneResolve n false false) s fun t =>
        (∀ b ∈ List.range c.blocks, Output.hostBlock c.func c.sqe.cid b (List.replicate 4096 0) ∈ t.out) ∧ getF t (F.sbgPoolStat_reserved 1) = getF s (F.sbgPoolStat_reserved 1) - c.blocks ∧ Ended s t n c .success ∧ Only s t [.hif] [(F.sbgPoolStat_reserved 1).addr]) ∧
    (∀ (n pzn : Nat) (c : CmdSlot) (ns : Namespace) (s : State),
      Resolves s n .checked c ns → c.kind = .open → zmapOf s c.ezn = ⟨(zmapOf s c.ezn).pzn, false, false, (zmapOf s c.ezn).epoch⟩ →
      activeRoom s c.nsid ns (bindingTier s ns.defTier) = true → openOfFunc s c.func < ctxShare s c.func → openOfNs s c.nsid < ns.morCap →
      findReady s ns (bindingTier s ns.defTier) none 0 = some pzn → s.zrs.linger = [] → (s.cph.ctxs.filter fun kv => kv.2.resident).length < 512 →
      Completes (.zoneResolve n false false) s fun t =>
        boundZone t c.ezn = some (pzn, sealedZst { freshZst with ezn := c.ezn, bound := true, state := .explicitlyOpened, tier := bindingTier s ns.defTier, tenant := c.nsid - 1, nsx := c.nsid - 1, subst := (zstOf s pzn).subst }) ∧
        (spFind t.zrs.cam c.ezn).map CamEntry.owner = some c.func ∧ slotOf t n = some { c with phase := .waitJournal } ∧ Only s t [.hif, .zrs, .jrn, .nss, .sbg, .cph] []) ∧
    (∀ (n pzn : Nat) (c : CmdSlot) (ns : Namespace) (z : ZstEntry) (s : State),
      Resolves s n .checked c ns → c.kind = .close → boundZone s c.ezn = some (pzn, z) → (zmapOf s c.ezn).retired = false →
      isOpenState z.state = true → z.wpPhys ≠ 0 → s.tkr.retired = [] →
      Completes (.zoneResolve n false false) s fun t =>
        zoneState t c.ezn = .closed ∧ spFind t.zrs.cam c.ezn = none ∧ slotOf t n = some { c with phase := .waitJournal } ∧ Only s t [.hif, .zrs, .jrn, .cph, .free] []) ∧
    (∀ (n : Nat) (c : CmdSlot) (ns : Namespace) (s : State),
      Resolves s n .checked c ns → Bare s n c → c.kind = .reset → zmapOf s c.ezn = ⟨(zmapOf s c.ezn).pzn, false, false, (zmapOf s c.ezn).epoch⟩ →
      waitingOf s c.ezn = [] →
      Completes (.zoneResolve n false false) s fun t =>
        Ended s t n c .success ∧ Only s t [.hif] []) ∧
    (∀ (n : Nat) (c : CmdSlot) (ns : Namespace) (s : State),
      Works s → slotOf s n = some c → c.phase = .checked → c.kind = .reset → c.remote = none → selectAll c.sqe = false → slotNs s c = some ns →
      s.hif.admissionStopped = false →
      (zoneBusy s c.ezn = true ∨ (standsBehind s n c c.ezn = true ∧ ∀ k ∈ s.zrs.held, k ≠ n → (slotOf s k).map CmdSlot.ezn ≠ some c.ezn)) →
      Completes (.zoneResolve n false false) s fun t =>
        slotOf t n = some { c with phase := .held } ∧ t.zrs = { s.zrs with held := addOnce s.zrs.held n } ∧ Only s t [.hif, .zrs] []) ∧
    (∀ (n : Nat) (c : CmdSlot) (s : State),
      Works s → slotOf s n = some c → resolvable c = true → Bare s n c → s.hif.admissionStopped = false → (zmapOf s c.ezn).bound = true →
      c.remote = none → zoneBusy s c.ezn = false → standsBehind s n c c.ezn = false → onChip s c.ezn = false → flag s F.zrsErr_zstCrc = false →
      Completes (.zoneResolve n false true) s fun t =>
        flag t F.zrsErr_zstCrc = true ∧ t.zrs = { s.zrs with heldZones := addOnce s.zrs.heldZones c.ezn } ∧ Ended s t n c .zoneHeld ∧ Only s t [.hif, .zrs, .csh] [F.zrsErr_zstCrc.addr, (F.cshMissed_total 0).addr]) ∧
    (∀ (n pzn : Nat) (c : CmdSlot) (ns : Namespace) (z : ZstEntry) (s : State),
      CanReserve s n .waitHorizon c ns pzn z → waitingOf s c.ezn = [] →
      Completes (.horizonWaitResume n) s fun t =>
        Reserved t n c pzn z ∧ Only s t [.hif, .zrs, .sch] []) ∧
    (∀ (n pzn : Nat) (c : CmdSlot) (ns : Namespace) (z : ZstEntry) (s : State),
      CanReserve s n .waitDieQueue c ns pzn z →
      Completes (.dieQueueWaitResume n) s fun t =>
        Reserved t n c pzn z ∧ Only s t [.hif, .zrs, .sch] []) ∧
    (∀ (n pzn : Nat) (c : CmdSlot) (ns : Namespace) (s : State),
      Resolves s n .waitReady c ns → c.kind = .open → zmapOf s c.ezn = ⟨(zmapOf s c.ezn).pzn, false, false, (zmapOf s c.ezn).epoch⟩ →
      activeRoom s c.nsid ns (bindingTier s ns.defTier) = true → openOfFunc s c.func < ctxShare s c.func → openOfNs s c.nsid < ns.morCap →
      findReady s ns (bindingTier s ns.defTier) none 0 = some pzn → s.zrs.linger = [] → (s.cph.ctxs.filter fun kv => kv.2.resident).length < 512 →
      Completes (.bindingRetry n) s fun t =>
        boundZone t c.ezn = some (pzn, sealedZst { freshZst with ezn := c.ezn, bound := true, state := .explicitlyOpened, tier := bindingTier s ns.defTier, tenant := c.nsid - 1, nsx := c.nsid - 1, subst := (zstOf s pzn).subst }) ∧
        (spFind t.zrs.cam c.ezn).map CamEntry.owner = some c.func ∧ slotOf t n = some { c with phase := .waitJournal } ∧ Only s t [.hif, .zrs, .jrn, .nss, .sbg, .cph] []) ∧
    (∀ (n : Nat) (c : CmdSlot) (s : State),
      Works s → slotOf s n = some c → c.phase = .checked → isReadKind c.kind = true → firstWaiting s = none → c.blocks ≤ openCount s 1 →
      getF s (F.sbgPoolStat_reserved 1) + c.blocks < 4097 →
      Completes (.readReservation n) s fun t =>
        slotOf t n = some { c with phase := .ready, reserved := c.blocks } ∧ getF t (F.sbgPoolStat_reserved 1) = getF s (F.sbgPoolStat_reserved 1) + c.blocks ∧ Only s t [.hif] [(F.sbgPoolStat_reserved 1).addr]) ∧
    (∀ (n : Nat) (c : CmdSlot) (s : State),
      Works s → slotOf s n = some c → c.phase = .checked → isReadKind c.kind = true → ((firstWaiting s).isSome = true ∨ openCount s 1 < c.blocks) →
      Completes (.readReservation n) s fun t =>
        slotOf t n = some { c with phase := .waitReadPool } ∧ Only s t [.hif] []) ∧
    (∀ (e : Nat) (s : State),
      Works s → s.tkr.retired = [] → (s.zrs.linger.any fun l => l.ezn == e) = true → unsealed s e = false →
      (∀ kv ∈ s.hif.slots, kv.2.phase ≠ .waitContext) →
      Completes (.contextRelease e) s fun t =>
        t.zrs = { s.zrs with linger := s.zrs.linger.filter fun l => l.ezn != e } ∧ (∀ l ∈ s.zrs.linger, l.ezn = e → spFind t.cph.ctxs l.ctx = none) ∧ Only s t [.zrs, .cph] [])

/-- A zone whose padding deadline passes, or whose PAD_AFTER append has been staged, is padded once every reserved slot is staged: an extent from the
write pointer to the end of the half-row at which the last slot becomes durable is recorded, the physical write pointer moves there and the filler
counts it; the host's write pointer stays. Flush completes with success at once. Report Zones returns the number of zones and the descriptors that
fit. -/
def Obligations.Padding : Prop :=
    (∀ (e d pzn : Nat) (z : ZstEntry) (s : State),
      Works s → padDeadline s e = some d → allStaged s e = true → boundZone s e = some (pzn, z) → relocOf s pzn = none → z.wpPhys ≠ 0 →
      z.pads.length < 4 → z.wpPhys < (padEnd z.tier z.wpPhys + 1) * hrSlots z.tier →
      (padEnd z.tier z.wpPhys + 1) * hrSlots z.tier < zoneSlots z.tier →
      accumOf s pzn (z.wpPhys / hrSlots z.tier) (z.wpPhys % hrSlots z.tier / 120) = none →
      Completes (.padDeadlineExpiry e) s fun t =>
        boundZone t e = some (pzn, sealedZst { z with pads := insertPad ⟨z.wpPhys, padEnd z.tier z.wpPhys⟩ z.pads, wpPhys := (padEnd z.tier z.wpPhys + 1) * hrSlots z.tier, filler := z.filler + ((padEnd z.tier z.wpPhys + 1) * hrSlots z.tier - z.wpPhys), padded := true }) ∧
        (progOf t pzn).padded = (progOf s pzn).padded ++ [(z.wpPhys / hrSlots z.tier, max s.clk.sch d)] ∧ t.clk.sch = max s.clk.sch d ∧ Only s t [.zrs, .jrn, .clk] []) ∧
    (∀ (e pzn : Nat) (z : ZstEntry) (s : State),
      Works s →
      ((incomplete s e).any fun kv => kv.2.kind == .placedAppend && pzaPadAfter kv.2.sqe && decide (kv.2.blocks ≤ kv.2.staged.length) && !secured z.tier z.wpPhys kv.2) = true →
      allStaged s e = true → boundZone s e = some (pzn, z) → relocOf s pzn = none → z.wpPhys ≠ 0 → z.pads.length < 4 →
      z.wpPhys < (padEnd z.tier z.wpPhys + 1) * hrSlots z.tier → (padEnd z.tier z.wpPhys + 1) * hrSlots z.tier < zoneSlots z.tier →
      accumOf s pzn (z.wpPhys / hrSlots z.tier) (z.wpPhys % hrSlots z.tier / 120) = none →
      Completes (.padAfterPadding e) s fun t =>
        boundZone t e = some (pzn, sealedZst { z with pads := insertPad ⟨z.wpPhys, padEnd z.tier z.wpPhys⟩ z.pads, wpPhys := (padEnd z.tier z.wpPhys + 1) * hrSlots z.tier, filler := z.filler + ((padEnd z.tier z.wpPhys + 1) * hrSlots z.tier - z.wpPhys), padded := true }) ∧
        (progOf t pzn).padded = (progOf s pzn).padded ++ [(z.wpPhys / hrSlots z.tier, s.clk.sch)] ∧ Only s t [.zrs, .jrn] []) ∧
    (∀ (n : Nat) (c : CmdSlot) (s : State),
      Works s → FetchedIo s n .flush c → genericCheck s c = none → queueStopped s c.func c.sqid = false →
      Completes (.flush n) s fun t =>
        Ended s t n c .success ∧ Only s t [.hif] []) ∧
    (∀ (n nsid : Nat) (c : CmdSlot) (ns : Namespace) (s : State),
      Passes s n .report c nsid ns → spFind s.nss nsid = some ns → standalone s = true →
      Completes (.reportZones n) s fun t =>
        Output.hostData c.func c.sqe.cid ((leBytes 8 (if partialReport c.sqe then ((reportList ns (zrasf c.sqe) ((List.range (ns.count - slba c.sqe / 2 ^ 20)).map fun i => ns.base + slba c.sqe / 2 ^ 20 + i) s).1.take ((zmrDwords c.sqe * 4 - 64) / 64)).length else (reportList ns (zrasf c.sqe) ((List.range (ns.count - slba c.sqe / 2 ^ 20)).map fun i => ns.base + slba c.sqe / 2 ^ 20 + i) s).1.length) ++ List.replicate 56 0 ++ ((reportList ns (zrasf c.sqe) ((List.range (ns.count - slba c.sqe / 2 ^ 20)).map fun i => ns.base + slba c.sqe / 2 ^ 20 + i) s).1.take ((zmrDwords c.sqe * 4 - 64) / 64)).flatten).take (zmrDwords c.sqe * 4)) ∈ t.out ∧ Ended s t n c .success ∧ Only s t [.hif] [])

/-- A Reset or Finish that waited takes effect once its zone has no incomplete write: a Reset unbinds the zone and gives it the next epoch, a Finish makes
it Full. A journal page takes every waiting record in order, and what waited for it completes: a zone management command at once, a write once a
journalled durable point covers it. The command port adds an erased physical zone to its group's ready list, takes a zone to Read Only, withdraws a
physical zone, and rewrites a held zone from the journal. -/
def Obligations.ZoneOps : Prop :=
    (∀ (e n pzn : Nat) (c : CmdSlot) (z : ZstEntry) (s : State),
      Works s → s.tkr.retired = [] → spFind s.zrs.ops e = some ⟨true, some n⟩ → incomplete s e = [] → boundZone s e = some (pzn, z) →
      relocOf s pzn = none → exhausts s e = false → s.mhm.doomed.contains pzn = false → slotOf s n = some c → c.zones = [e] → c.sqe.admin = false →
      s.zrs.held = [] → s.sbg.accums = [] →
      Completes (.zoneOpTakesEffect e) s fun t =>
        zmapOf t e = { zmapOf s e with pzn := 0, bound := false, epoch := nextEpoch s e } ∧ spFind t.zrs.ops e = none ∧ slotOf t n = some { c with zones := [], phase := .waitJournal } ∧ Only s t [.hif, .zrs, .jrn, .cph, .sbg, .mhm, .mep, .sch, .free] []) ∧
    (∀ (e pzn : Nat) (z : ZstEntry) (s : State),
      Works s → s.tkr.retired = [] → spFind s.zrs.ops e = some ⟨false, none⟩ → incomplete s e = [] → boundZone s e = some (pzn, z) →
      relocOf s pzn = none → isActiveState z.state = true → (zmapOf s e).retired = false → z.durableHr = 0 → s.zrs.held = [] →
      Completes (.zoneOpTakesEffect e) s fun t =>
        boundZone t e = some (pzn, sealedZst { z with state := .full }) ∧ spFind t.zrs.ops e = none ∧ spFind t.zrs.cam e = none ∧ Only s t [.zrs, .jrn, .cph, .sbg, .free] []) ∧
    (∀ (s : State),
      Works s → spSorted s.hif.slots = true → s.jrn.waiting ≠ [] → writingZones s = [] → s.vfm.migOp = none →
      (∀ kv ∈ s.hif.slots, kv.2.phase = .waitJournal → Bare s kv.1 kv.2) →
      Completes (.journalPageProgram) s fun t =>
        t.jrn = pageTaken s.jrn ∧ Output.systemPage (systemHeader s.jrn) ∈ t.out ∧ (∀ kv ∈ s.hif.slots, kv.2.phase = .waitJournal → slotOf t kv.1 = none) ∧ Only s t [.jrn, .hif] []) ∧
    (∀ (e n : Nat) (j : ZoneJournal) (c : CmdSlot) (s : State),
      Works s → s.jrn.waiting = [.zone e j] → s.zrs.held = [] → s.vfm.migOp = none → writingZones s = [e] → writesInOrder s e = [(n, c)] →
      slotOf s n = some c → Bare s n c → writeDone { s with jrn := { s.jrn with zones := spPut s.jrn.zones e j } } e c = true →
      isActiveState (zoneState s e) = true → (∀ kv ∈ s.hif.slots, kv.2.phase ≠ .waitJournal) →
      Completes (.journalPageProgram) s fun t =>
        spFind t.jrn.zones e = some j ∧ Ended s t n c (c.failed.getD .success) ∧ Only s t [.jrn, .hif] []) ∧
    (∀ (p : Nat) (s : State),
      Works s → mayBeReady s p = true →
      Completes (.zrsCommandPortRequest (.addReady p)) s fun t =>
        t.zrs = { s.zrs with ready := spPut s.zrs.ready (groupOf p) (readyInsert s p ((spFind s.zrs.ready (groupOf p)).getD [])) } ∧ Only s t [.zrs] []) ∧
    (∀ (e pzn : Nat) (z : ZstEntry) (s : State),
      Works s → s.tkr.retired = [] → boundZone s e = some (pzn, z) → (zmapOf s e).retired = false → z.state = .full → incomplete s e = [] →
      spFind s.zrs.ops e = none → relocOf s pzn = none → resvOf s e = none → loadFault s e = none → spFind s.zrs.cam e = none →
      nsOfEzn s e = none → s.sbg.accums = [] →
      Completes (.zrsCommandPortRequest (.readOnly e)) s fun t =>
        zoneState t e = .readOnly ∧ Only s t [.zrs, .jrn, .sch, .sbg, .mep, .cph, .free] []) ∧
    (∀ (p : Nat) (s : State),
      Works s → (zstOf s p).bound = false →
      Completes (.zrsCommandPortRequest (.withdraw p)) s fun t =>
        (zstOf t p).state = .offline ∧ (zstOf t p).bound = false ∧ p ∈ t.mhm.withdrawn ∧ flag t F.mhmErr_withdrawn = true ∧ (((spFind t.zrs.ready (groupOf p)).getD []).contains p) = false ∧ Only s t [.zrs, .mhm, .csh] [F.mhmErr_withdrawn.addr, (F.cshMissed_total 5).addr]) ∧
    (∀ (e : Nat) (j : ZoneJournal) (z : ZstEntry) (s : State),
      Works s → waitingOf s e = [] → spFind s.jrn.zones e = some j → j.zst = some z → s.zrs.held = [] →
      Completes (.zrsCommandPortRequest (.rewrite e)) s fun t =>
        zmapOf t e = j.map ∧ zstOf t j.map.pzn = sealedZst z ∧ t.zrs.heldZones = dropAll s.zrs.heldZones e ∧ Only s t [.zrs] [])

/-- Sanitize is accepted at once and completes; a command that is fetched and not admitted fails with Sanitize In Progress; while an admitted I/O command
runs the operation waits; with none it erases every tenant key slot; a Crypto Erase has no block to erase, and a Block Erase has an erase on every die
in service that has blocks to erase. The operation ends with success once the zone states are journalled and every erase is done, and with failure
where a die left service before its erases or a read-back is not zero; Exit Failure Mode ends the failure mode. -/
def Obligations.Sanitize : Prop :=
    (∀ (n : Nat) (a : SanAction) (c : CmdSlot) (s : State),
      Works s → FetchedAdmin s n 0x84 c → (sanAct c.sqe = (match a with | .blockErase => 2 | .cryptoErase => 4)) → standalone s = true →
      (∀ kv ∈ s.hif.slots, kv.1 ≠ n → isAdmitted kv.2 = true) → (s.hif.slots.any fun kv => !kv.2.sqe.admin) = true →
      Completes (.sanitize n) s fun t =>
        t.hif.sanitize = ⟨some a, s.hif.sanitize.failureMode, false, s.hif.sanitize.everDone, false, [], [], false⟩ ∧ Ended s t n c .success ∧ Only s t [.hif] []) ∧
    (∀ (n m : Nat) (c d : CmdSlot) (s : State),
      Works s → FetchedAdmin s n 0x84 c → sanAct c.sqe = 4 → standalone s = true → spSorted s.hif.slots = true → m ≠ n → slotOf s m = some d →
      d.phase = .fetched → Bare s m d → (d.sqe.admin = false ∨ sanitizeAllows d.sqe = false) → (∀ kv ∈ s.hif.slots, kv.1 = n ∨ kv.1 = m) →
      s.nss.flatMap (fun kv => nsZones s kv.2) = [] →
      Completes (.sanitize n) s fun t =>
        s.hif.slots.length = 2 ∧ t.hif.slots = [] ∧ t.hif.sanitize.zonesReset = true ∧ (CanPost s m d → ∃ d0 d1, Posted t d .sanitizeInProgress d0 d1) ∧ (CanPost s n c → ∃ d0 d1, Posted t c .success d0 d1) ∧ Only s t [.hif, .tkr, .cph] []) ∧
    (∀ (n : Nat) (c : CmdSlot) (s : State),
      Works s → FetchedAdmin s n 0x84 c → sanAct c.sqe = 4 → standalone s = true → s.hif.slots = [(n, c)] → c.sqe.nsid = 0 →
      s.nss.flatMap (fun kv => nsZones s kv.2) = [] →
      Completes (.sanitize n) s fun t =>
        t.hif.sanitize = ⟨some .cryptoErase, s.hif.sanitize.failureMode, false, s.hif.sanitize.everDone, true, [], s.jrn.home, false⟩ ∧ t.tkr.slots = s.tkr.slots.filter (fun kv => !decide (kv.1 < 4096)) ∧ Ended s t n c .success ∧ Only s t [.hif, .tkr, .cph] []) ∧
    (∀ (n : Nat) (c : CmdSlot) (s : State),
      Works s → FetchedAdmin s n 0x84 c → sanAct c.sqe = 2 → standalone s = true → s.hif.slots = [(n, c)] → c.sqe.nsid = 0 →
      s.nss.flatMap (fun kv => nsZones s kv.2) = [] → s.pmu.flight = .none →
      Completes (.sanitize n) s fun t =>
        t.hif.sanitize.running = some .blockErase ∧ t.hif.sanitize.zonesReset = true ∧ t.hif.sanitize.kept = s.jrn.home ∧ t.tkr.slots = s.tkr.slots.filter (fun kv => !decide (kv.1 < 4096)) ∧
        (∀ d ∈ List.range 1024, dieInService s d = true → (spFind t.hif.sanitize.eraseLeft d).isSome = true → eraseOn t d = true) ∧ Ended s t n c .success ∧ Only s t [.hif, .tkr, .cph, .sch, .jrn, .zrs] []) ∧
    (∀ (n : Nat) (c : CmdSlot) (s : State),
      Works s → FetchedAdmin s n 0x84 c → sanAct c.sqe ≠ 1 → sanAct c.sqe ≠ 2 → sanAct c.sqe ≠ 4 →
      Completes (.sanitize n) s fun t =>
        Ended s t n c .invalidField ∧ Only s t [.hif] []) ∧
    (∀ (n : Nat) (c : CmdSlot) (s : State),
      Works s → FetchedAdmin s n 0x84 c → sanAct c.sqe = 1 →
      Completes (.sanitizeExitFailureMode n) s fun t =>
        t.hif.sanitize = { s.hif.sanitize with failureMode := false } ∧ Ended s t n c .success ∧ Only s t [.hif] []) ∧
    (∀ (s : State),
      Works s → s.hif.sanitize.running ≠ none → s.hif.sanitize.zonesReset = true → s.hif.sanitize.eraseLeft = [] → s.jrn.waiting = [] →
      (s.hif.sanitize.running = some .blockErase → s.hif.sanitize.last = true) →
      Completes (.sanitizeComplete false) s fun t =>
        t.hif.sanitize = ⟨none, false, false, true, false, [], [], false⟩ ∧ Only s t [.hif] []) ∧
    (∀ (s : State),
      Works s → s.hif.sanitize.running ≠ none → s.hif.sanitize.zonesReset = true → getF s F.dbgUnlock_status ≠ 2 → alarmAction s 4 = 0 →
      Completes (.sanitizeComplete true) s fun t =>
        t.hif.sanitize = ⟨none, true, true, s.hif.sanitize.everDone, false, [], [], false⟩ ∧ flag t F.tkrErr_zeroiseFail = true ∧ bitAt (getF t F.secAlarmStat_latched) 4 = true ∧ Only s t [.hif, .csh] [F.tkrErr_zeroiseFail.addr, F.secAlarmStat_latched.addr, (F.cshMissed_total 10).addr, (F.cshMissed_total 14).addr]) ∧
    (∀ (s : State),
      Works s → s.hif.sanitize.running ≠ none → s.hif.sanitize.zonesReset = true →
      (s.hif.sanitize.eraseLeft.any fun kv => !dieInService s kv.1) = true →
      Completes (.sanitizeComplete false) s fun t =>
        t.hif.sanitize = ⟨none, true, true, s.hif.sanitize.everDone, false, [], [], false⟩ ∧ Only s t [.hif] [])

/-- Firmware Image Download puts its Dwords into the package buffer at its offset. Firmware Commit refuses the booted slot and slots 0 and 3 to 7 and an
action above 2, and a package that does not pass the image checks; else it stores the package, with action 1 makes the slot the active one in the boot
record's other copy under the next SEQ, and with action 2 does so without storing. -/
def Obligations.Firmware : Prop :=
    (∀ (n : Nat) (data : List Byte) (c : CmdSlot) (s : State),
      Works s → FetchedAdmin s n 0x11 c →
      Completes (.firmwareImageDownload n data) s fun t =>
        t.hif.fwBuffer = bytesAt s.hif.fwBuffer 0 (4 * dw11 c.sqe) ++ bytesAt data 0 (4 * fwDwords c.sqe) ++ s.hif.fwBuffer.drop (4 * dw11 c.sqe + (bytesAt data 0 (4 * fwDwords c.sqe)).length) ∧ Ended s t n c .success ∧ Only s t [.hif] []) ∧
    (∀ (n : Nat) (c : CmdSlot) (s : State),
      Works s → FetchedAdmin s n 0x10 c → (fwSlot c.sqe = 0 ∨ 2 < fwSlot c.sqe ∨ fwSlot c.sqe = bootedSlot s) →
      Completes (.firmwareCommit n) s fun t =>
        Ended s t n c .invalidFirmwareSlot ∧ Only s t [.hif] []) ∧
    (∀ (n : Nat) (c : CmdSlot) (s : State),
      Works s → FetchedAdmin s n 0x10 c → 0 < fwSlot c.sqe → fwSlot c.sqe ≤ 2 → fwSlot c.sqe ≠ bootedSlot s → 3 ≤ fwAction c.sqe →
      Completes (.firmwareCommit n) s fun t =>
        Ended s t n c .invalidField ∧ Only s t [.hif] []) ∧
    (∀ (n : Nat) (c : CmdSlot) (s : State),
      Works s → FetchedAdmin s n 0x10 c → 0 < fwSlot c.sqe → fwSlot c.sqe ≤ 2 → fwSlot c.sqe ≠ bootedSlot s → fwAction c.sqe ≤ 1 →
      fwSlotGood s (packageSlot s.hif.fwBuffer) = false →
      Completes (.firmwareCommit n) s fun t =>
        Ended s t n c .invalidFirmwareImage ∧ Only s t [.hif] []) ∧
    (∀ (n : Nat) (c : CmdSlot) (s : State),
      Works s → FetchedAdmin s n 0x10 c → 0 < fwSlot c.sqe → fwSlot c.sqe ≤ 2 → fwSlot c.sqe ≠ bootedSlot s → fwAction c.sqe = 0 →
      fwSlotGood s (packageSlot s.hif.fwBuffer) = true →
      Completes (.firmwareCommit n) s fun t =>
        fwSlotOf t (fwSlot c.sqe) = packageSlot s.hif.fwBuffer ∧ t.nor.recA = s.nor.recA ∧ t.nor.recB = s.nor.recB ∧ t.hif.fwBuffer = [] ∧ Ended s t n c .success ∧ Only s t [.hif, .nor] []) ∧
    (∀ (n : Nat) (c : CmdSlot) (s : State),
      Works s → FetchedAdmin s n 0x10 c → 0 < fwSlot c.sqe → fwSlot c.sqe ≤ 2 → fwSlot c.sqe ≠ bootedSlot s → fwAction c.sqe = 2 →
      fwSlotGood s (fwSlotOf s (fwSlot c.sqe)) = true → recordInA s = false →
      Completes (.firmwareCommit n) s fun t =>
        t.nor = { s.nor with recA := t.nor.recA } ∧ t.nor.recA.activeSlot = fwSlot c.sqe ∧ t.nor.recA.seq = ((bootRecord s).seq + 1) % 2 ^ 32 ∧ recordGood t.nor.recA = true ∧ t.nor.recA.lastProfile = (bootRecord s).lastProfile ∧ Ended s t n c .success ∧ Only s t [.hif, .nor] [])

/-- A key import whose payload has the form of R434 and names a namespace of the function is unwrapped under the key agreed with IMPORT_KP and its value
loaded into the tenant slot, as a new version of it where it held another; the IMPORT slot takes a fresh value. The migration key import loads the
empty migration slot and stores the payload with its CRC-32C. A payload of another form fails with Invalid Field, one for no namespace with Invalid
Namespace, one in a lifecycle state that forbids it with Access Denied, and loads nothing. The import key and the slot 0 certificate chain are
returned to whoever asks; in BLANK, where no key exists, the bytes are free values (the model's choice). -/
def Obligations.KeyImports : Prop :=
    (∀ (n nsid : Nat) (data kek v : List Byte) (c : CmdSlot) (s : State),
      Works s → FetchedAdmin s n 0x81 c → secp c.sqe = 0xEA → spsp c.sqe = 1 → secTarget s c.sqe = some none → secLen c.sqe = 152 →
      data.length = 152 → importForm data = true → ephOnCurve data = true → domainOn s .sec = true → flag s F.tkrCmd_go = false →
      flag s F.tkrStat_alarmLock = false → s.tkr.retired = [] → (spFind s.tkr.slots slotImport).isSome = true →
      importNs s c.func data = some nsid → 1 ≤ nsid → nsid ≤ 4096 → importForbidden s = false →
      importKek s 1 (nsid - 1) (importEph data) = some kek → keyUnwrap kek (importWrapped data) = some v → spFind s.tkr.slots (nsid - 1) = none →
      Completes (.securitySendKeyImport n data) s fun t =>
        spFind t.tkr.slots (nsid - 1) = some (keyOf v) ∧ spFind t.tkr.slots slotImport = some (BitVec.ofNat 256 (Config.freeNat s.free)) ∧ t.free = s.free + 1 ∧ (∀ k, k ≠ nsid - 1 → k ≠ slotImport → spFind t.tkr.slots k = spFind s.tkr.slots k) ∧ Ended s t n c .success ∧ Only s t [.hif, .tkr, .cph, .free] [F.tkrCmd_go.addr, F.tkrStat_result.addr, (F.tkrData_word 0).addr, (F.tkrData_word 1).addr, (F.tkrData_word 2).addr, (F.tkrData_word 3).addr, (F.tkrData_word 4).addr, (F.tkrData_word 5).addr, (F.tkrData_word 6).addr, (F.tkrData_word 7).addr, (F.tkrData_word 8).addr, (F.tkrData_word 9).addr, (F.tkrOut_word 0).addr, (F.tkrOut_word 1).addr, (F.tkrOut_word 2).addr, (F.tkrOut_word 3).addr, (F.tkrOut_word 4).addr, (F.tkrOut_word 5).addr, (F.tkrOut_word 6).addr, (F.tkrOut_word 7).addr, (F.tkrOut_word 8).addr, (F.tkrOut_word 9).addr]) ∧
    (∀ (n nsid : Nat) (data kek v : List Byte) (old : BitVec 256) (c : CmdSlot) (s : State),
      Works s → FetchedAdmin s n 0x81 c → secp c.sqe = 0xEA → spsp c.sqe = 1 → secTarget s c.sqe = some none → secLen c.sqe = 152 →
      data.length = 152 → importForm data = true → ephOnCurve data = true → domainOn s .sec = true → flag s F.tkrCmd_go = false →
      flag s F.tkrStat_alarmLock = false → s.tkr.retired = [] → (spFind s.tkr.slots slotImport).isSome = true →
      importNs s c.func data = some nsid → 1 ≤ nsid → nsid ≤ 4096 → importForbidden s = false →
      importKek s 1 (nsid - 1) (importEph data) = some kek → keyUnwrap kek (importWrapped data) = some v →
      spFind s.tkr.slots (nsid - 1) = some old → old ≠ keyOf v →
      Completes (.securitySendKeyImport n data) s fun t =>
        spFind t.tkr.slots (nsid - 1) = some (keyOf v) ∧ keyVersion t (nsid - 1) = keyVersion s (nsid - 1) + 1 ∧ (t.cph.keyCache.any fun k => k.keySlot == nsid - 1) = false ∧ (∀ k, k ≠ nsid - 1 → k ≠ slotImport → spFind t.tkr.slots k = spFind s.tkr.slots k) ∧ Ended s t n c .success ∧ Only s t [.hif, .tkr, .cph, .free] [F.tkrCmd_go.addr, F.tkrStat_result.addr, (F.tkrData_word 0).addr, (F.tkrData_word 1).addr, (F.tkrData_word 2).addr, (F.tkrData_word 3).addr, (F.tkrData_word 4).addr, (F.tkrData_word 5).addr, (F.tkrData_word 6).addr, (F.tkrData_word 7).addr, (F.tkrData_word 8).addr, (F.tkrData_word 9).addr, (F.tkrOut_word 0).addr, (F.tkrOut_word 1).addr, (F.tkrOut_word 2).addr, (F.tkrOut_word 3).addr, (F.tkrOut_word 4).addr, (F.tkrOut_word 5).addr, (F.tkrOut_word 6).addr, (F.tkrOut_word 7).addr, (F.tkrOut_word 8).addr, (F.tkrOut_word 9).addr]) ∧
    (∀ (n nsid : Nat) (data : List Byte) (c : CmdSlot) (s : State),
      Works s → FetchedAdmin s n 0x81 c → secp c.sqe = 0xEA → spsp c.sqe = 1 → secTarget s c.sqe = some none → secLen c.sqe = 152 →
      data.length = 152 → importForm data = true → ephOnCurve data = true → importNs s c.func data = some nsid → importForbidden s = true →
      Completes (.securitySendKeyImport n data) s fun t =>
        Ended s t n c .accessDenied ∧ Only s t [.hif] []) ∧
    (∀ (n : Nat) (data : List Byte) (c : CmdSlot) (s : State),
      Works s → FetchedAdmin s n 0x81 c → secp c.sqe = 0xEA → spsp c.sqe = 1 → secTarget s c.sqe = some none → secLen c.sqe = 152 →
      data.length = 152 → importForm data = true → ephOnCurve data = true → importNs s c.func data = none →
      Completes (.securitySendKeyImport n data) s fun t =>
        Ended s t n c .invalidNamespace ∧ Only s t [.hif] []) ∧
    (∀ (n : Nat) (data : List Byte) (ns : Option Nat) (c : CmdSlot) (s : State),
      Works s → FetchedAdmin s n 0x81 c → secp c.sqe = 0xEA → spsp c.sqe = 1 → secTarget s c.sqe = some none → slotOf s n = some c →
      importNs s c.func data = ns → (secLen c.sqe ≠ 152 ∨ importForm (bytesAt data 0 152) = false ∨ ephOnCurve (bytesAt data 0 152) = false) →
      Completes (.securitySendKeyImport n data) s fun t =>
        Ended s t n c .invalidField ∧ Only s t [.hif] []) ∧
    (∀ (n : Nat) (data kek v : List Byte) (c : CmdSlot) (s : State),
      Works s → FetchedAdmin s n 0x81 c → secp c.sqe = 0xEA → spsp c.sqe = 2 → secTarget s c.sqe = some none → secLen c.sqe = 152 →
      data.length = 152 → importForm data = true → ephOnCurve data = true → domainOn s .sec = true → flag s F.tkrCmd_go = false →
      flag s F.tkrStat_alarmLock = false → s.tkr.retired = [] → (spFind s.tkr.slots slotImport).isSome = true → c.func = 0 → leAt data 4 4 = 0 →
      lifecycle s ≠ 0 → importKek s 2 0xFFFF (importEph data) = some kek → keyUnwrap kek (importWrapped data) = some v →
      spFind s.tkr.slots slotMigration = none →
      Completes (.securitySendMigrationKey n data) s fun t =>
        spFind t.tkr.slots slotMigration = some (keyOf v) ∧ t.nor = { s.nor with migKey := data ++ leBytes 4 (crc32c data).toNat } ∧ (∀ k, k ≠ slotMigration → k ≠ slotImport → spFind t.tkr.slots k = spFind s.tkr.slots k) ∧ Ended s t n c .success ∧ Only s t [.hif, .tkr, .cph, .free, .nor] [F.tkrCmd_go.addr, F.tkrStat_result.addr, (F.tkrData_word 0).addr, (F.tkrData_word 1).addr, (F.tkrData_word 2).addr, (F.tkrData_word 3).addr, (F.tkrData_word 4).addr, (F.tkrData_word 5).addr, (F.tkrData_word 6).addr, (F.tkrData_word 7).addr, (F.tkrData_word 8).addr, (F.tkrData_word 9).addr, (F.tkrOut_word 0).addr, (F.tkrOut_word 1).addr, (F.tkrOut_word 2).addr, (F.tkrOut_word 3).addr, (F.tkrOut_word 4).addr, (F.tkrOut_word 5).addr, (F.tkrOut_word 6).addr, (F.tkrOut_word 7).addr, (F.tkrOut_word 8).addr, (F.tkrOut_word 9).addr]) ∧
    (∀ (n : Nat) (data : List Byte) (c : CmdSlot) (s : State),
      Works s → FetchedAdmin s n 0x81 c → secp c.sqe = 0xEA → spsp c.sqe = 2 → secTarget s c.sqe = some none → secLen c.sqe = 152 →
      data.length = 152 → importForm data = true → ephOnCurve data = true → c.func = 0 → leAt data 4 4 = 0 → lifecycle s = 0 →
      Completes (.securitySendMigrationKey n data) s fun t =>
        Ended s t n c .accessDenied ∧ Only s t [.hif] []) ∧
    (∀ (n : Nat) (data : List Byte) (c : CmdSlot) (s : State),
      Works s → FetchedAdmin s n 0x81 c → secp c.sqe = 0xEA → spsp c.sqe = 2 → secTarget s c.sqe = some none →
      (secLen c.sqe ≠ 152 ∨ c.func ≠ 0 ∨ importForm (bytesAt data 0 152) = false ∨ leAt (bytesAt data 0 152) 4 4 ≠ 0) →
      Completes (.securitySendMigrationKey n data) s fun t =>
        Ended s t n c .invalidField ∧ Only s t [.hif] []) ∧
    (∀ (n : Nat) (c : CmdSlot) (s : State),
      Works s → FetchedAdmin s n 0x82 c → secp c.sqe = 0xEA → spsp c.sqe = 1 → secTarget s c.sqe = some none → lifecycle s = 0 →
      Completes (.securityReceiveImportKey n) s fun t =>
        t.free = s.free + 1 ∧ (∃ bs, Output.hostData c.func c.sqe.cid bs ∈ t.out) ∧ Ended s t n c .success ∧ Only s t [.hif, .free] []) ∧
    (∀ (n : Nat) (c : CmdSlot) (s : State),
      Works s → FetchedAdmin s n 0x82 c → secp c.sqe = 0xEA → spsp c.sqe = 1 → secTarget s c.sqe = some none → lifecycle s ≠ 0 →
      Completes (.securityReceiveImportKey n) s fun t =>
        Output.hostData c.func c.sqe.cid ((ecPublic p384 (importPrivate s) ++ leBytes 4 ((Config.standardBytes 0x610 s.sec.aliasSerial).take 1024).length ++ (Config.standardBytes 0x610 s.sec.aliasSerial).take 1024).take (secLen c.sqe)) ∈ t.out ∧ Ended s t n c .success ∧ Only s t [.hif] []) ∧
    (∀ (n : Nat) (c : CmdSlot) (s : State),
      Works s → FetchedAdmin s n 0x82 c → secp c.sqe = 0xEA → spsp c.sqe = 4 → secTarget s c.sqe = some none →
      Completes (.securityReceiveCertChain n) s fun t =>
        Output.hostData c.func c.sqe.cid ((certChain s 0).take (secLen c.sqe)) ∈ t.out ∧ Ended s t n c .success ∧ Only s t [.hif] [])

/-- The lifecycle nonce is a fresh 32-byte value and is gone 60 s after. The lifecycle command consumes it; with the nonce in force, the device's DEV_UID,
an allowed step and a valid signature of a trusted root key it blows the fuse of the new state, a step to DEPLOYED raises every alarm action to its
floor, a step to RETIRED erases every key slot and fills JOURNAL with its second key; without the nonce it fails and changes nothing else. A valid
profile image for another index than the last used one is stored and its bit of PRF_STAT sets. -/
def Obligations.Lifecycle : Prop :=
    (∀ (n : Nat) (data : List Byte) (c : CmdSlot) (s : State),
      Works s → FetchedAdmin s n 0x81 c → secp c.sqe = 0xEA → spsp c.sqe = 3 → secTarget s c.sqe = some none → c.func = 0 → secLen c.sqe = 176 →
      data.length = 176 → getF s F.dbgUnlock_level = 0 → leAt data 0 1 = 2 → allZero (bytesAt data 2 6) = true → lifecycle s = 1 →
      bytesAt data 8 8 = beBytes 8 s.otp.devUid.toNat → nonceNow s = some (bytesAt data 0x10 32) →
      keyTrusted s (leAt data 1 1) (bytesAt data 0x30 64) = true →
      ecdsaVerify p256 (bytesAt data 0x30 64) (sha256 (bytesAt data 0 0x30)) (bytesAt data 0x70 64) = true →
      Completes (.lifecycleCommand n data false) s fun t =>
        t.otp = { s.otp with lc := s.otp.lc ||| 2 } ∧ t.sec = { s.sec with nonce := none } ∧ (∀ i ∈ List.range 8, alarmFloor i ≤ alarmAction t i ∧ (i ≠ 4 → alarmAction s i ≤ alarmAction t i)) ∧ Ended s t n c .success ∧ Only s t [.hif, .otp, .sec, .dbg, .lrs] [F.secAlarmAct_lock.addr]) ∧
    (∀ (n : Nat) (data : List Byte) (c : CmdSlot) (s : State),
      Works s → FetchedAdmin s n 0x81 c → secp c.sqe = 0xEA → spsp c.sqe = 3 → secTarget s c.sqe = some none → c.func = 0 →
      s.hif.slots = [(n, c)] → secLen c.sqe = 176 → data.length = 176 → getF s F.dbgUnlock_level = 0 → leAt data 0 1 = 3 →
      allZero (bytesAt data 2 6) = true → (lifecycle s = 1 ∨ lifecycle s = 2) → bytesAt data 8 8 = beBytes 8 s.otp.devUid.toNat →
      nonceNow s = some (bytesAt data 0x10 32) → keyTrusted s (leAt data 1 1) (bytesAt data 0x30 64) = true →
      ecdsaVerify p256 (bytesAt data 0x30 64) (sha256 (bytesAt data 0 0x30)) (bytesAt data 0x70 64) = true →
      Completes (.lifecycleCommand n data false) s fun t =>
        t.otp = { s.otp with lc := s.otp.lc ||| 4 } ∧ t.sec = { s.sec with nonce := none } ∧ t.tkr.slots = [(slotJournal, keyOf (deriveKey s (ascii "JOURNAL1") 32))] ∧ t.tkr.retired = [] ∧ t.cph.keyCache = [] ∧ t.jrn.zones = [] ∧ Ended s t n c .success ∧ Only s t [.hif, .otp, .sec, .dbg, .lrs, .tkr, .cph, .jrn] []) ∧
    (∀ (n : Nat) (data : List Byte) (c : CmdSlot) (s : State),
      Works s → FetchedAdmin s n 0x81 c → secp c.sqe = 0xEA → spsp c.sqe = 3 → secTarget s c.sqe = some none → c.func = 0 →
      getF s F.dbgUnlock_level = 0 → nonceNow s ≠ some (bytesAt (bytesAt data 0 176) 0x10 32) →
      Completes (.lifecycleCommand n data false) s fun t =>
        t.sec = { s.sec with nonce := none } ∧ Ended s t n c .invalidField ∧ Only s t [.hif, .sec] []) ∧
    (∀ (n : Nat) (c : CmdSlot) (s : State),
      Works s → FetchedAdmin s n 0x82 c → secp c.sqe = 0xEA → spsp c.sqe = 3 → secTarget s c.sqe = some none →
      Completes (.securityReceiveNonce n) s fun t =>
        t.sec = { s.sec with nonce := some (leBytes 32 (Config.freeNat s.free), s.clk.us) } ∧ Output.hostData c.func c.sqe.cid ((leBytes 32 (Config.freeNat s.free)).take (secLen c.sqe)) ∈ t.out ∧ t.free = s.free + 1 ∧ Ended s t n c .success ∧ Only s t [.hif, .sec, .free] []) ∧
    (∀ (x : List Byte) (since : Nat) (s : State),
      Powered s → s.sec.nonce = some (x, since) →
      Completes (.lifecycleNonceExpiry) s fun t =>
        t.sec = { s.sec with nonce := none } ∧ t.clk.us = max s.clk.us (since + 60000000) ∧ Only s t [.sec, .clk] []) ∧
    (∀ (n : Nat) (data : List Byte) (c : CmdSlot) (s : State),
      Works s → FetchedAdmin s n 0x81 c → secp c.sqe = 0xEA → spsp c.sqe = 5 → secTarget s c.sqe = some none → c.func = 0 →
      data.length ≤ secLen c.sqe → data.length ≤ 65536 → profileGood s (leAt (imageBody data) 4 1) data = true → leAt (imageBody data) 4 1 ≤ 3 →
      leAt (imageBody data) 4 1 ≠ (bootRecord s).lastProfile → lifecycle s ≠ 3 →
      Completes (.securitySendProfileWrite n data) s fun t =>
        profileImage t (leAt (imageBody data) 4 1) = data ∧ bitAt (getF t F.prfStat_validMap) (leAt (imageBody data) 4 1) = true ∧ Ended s t n c .success ∧ Only s t [.hif, .nor] [F.prfStat_validMap.addr])

/-- An alarm source whose action is NOTIFY latches, raises its record and interrupts the security core; with ERASE_ALL every key slot is erased and
ALARM_LOCK sets; the end of its condition clears its ACTIVE bit and nothing else. ALARM_LOCK clears on the security core's write once no erase source
is active; a write of SEC_ALARM_ACT sets the actions, never below their floors, and its LOCK. -/
def Obligations.Alarms : Prop :=
    (∀ (k : Nat) (s : State),
      Powered s → k < 8 → (k = 7 → s.mbx.chans = []) → alarmAction s k = 1 → getF s F.dbgUnlock_status ≠ 2 → domainOn s .sec = true →
      Completes (.alarmDetect k true) s fun t =>
        bitAt (getF t F.secAlarmStat_active) k = true ∧ bitAt (getF t F.secAlarmStat_latched) k = true ∧ Output.interrupt idSec ∈ t.out ∧
        (portHeld s 0x0F 0 = false → (t.csh.ports.any fun e => e.trigger == 0x0F && (e.words.map BitVec.toNat).take 2 == [k, 1]) = true) ∧ Only s t [.csh] [F.secAlarmStat_active.addr, (F.cshMissed_total 14).addr]) ∧
    (∀ (k : Nat) (s : State),
      Powered s → k < 8 → (k = 7 → s.mbx.chans = []) → alarmAction s k = 3 → getF s F.dbgUnlock_status ≠ 2 → domainOn s .sec = true →
      s.tkr.waiting = false → s.hif.slots = [] →
      Completes (.alarmDetect k true) s fun t =>
        t.tkr.slots = [] ∧ t.tkr.retired = [] ∧ t.cph.keyCache = [] ∧ flag t F.tkrStat_alarmLock = true ∧ flag t F.secAlarmStat_allSeen = true ∧ bitAt (getF t F.secAlarmStat_latched) k = true ∧ Only s t [.csh, .tkr, .cph] [F.secAlarmStat_active.addr, (F.cshMissed_total 14).addr, F.tkrStat_alarmLock.addr]) ∧
    (∀ (k : Nat) (s : State),
      Powered s → k < 8 →
      Completes (.alarmDetect k false) s fun t =>
        bitAt (getF t F.secAlarmStat_active) k = false ∧ getF t F.secAlarmStat_latched = getF s F.secAlarmStat_latched ∧ Only s t [] [F.secAlarmStat_active.addr]) ∧
    (∀ (s : State),
      Powered s → domainOn s .sec = true → lockHeld s = false →
      Completes (.alarmLockClear idSec) s fun t =>
        flag t F.tkrStat_alarmLock = false ∧ Only s t [] [F.tkrStat_alarmLock.addr]) ∧
    (∀ (s : State),
      Powered s → domainOn s .sec = true → lockHeld s = true →
      Completes (.alarmLockClear idSec) s fun t =>
        getF t F.tkrStat_alarmLock = getF s F.tkrStat_alarmLock ∧ Only s t [] []) ∧
    (∀ (value : DWord) (s : State),
      Powered s → domainOn s .sec = true → flag s F.secAlarmAct_lock = false →
      Completes (.secAlarmActWrite idSec value) s fun t =>
        (∀ i ∈ List.range 8, alarmAction t i = if i = 4 then 3 else raisedAction (lifecycle s) i (field value.toNat (2 * i + 1) (2 * i))) ∧ flag t F.secAlarmAct_lock = value.getLsbD 31 ∧ Only s t [] [F.secAlarmAct_lock.addr]) ∧
    (∀ (value : DWord) (s : State),
      Powered s → domainOn s .sec = true → flag s F.secAlarmAct_lock = true →
      Completes (.secAlarmActWrite idSec value) s fun t =>
        regVal t F.secAlarmAct_lock.addr = regVal s F.secAlarmAct_lock.addr ∧ Only s t [] [])

/-- A free die with a valid descriptor takes its ready entry once its tokens can be granted: the entry occupies the die with its power and its senses or
bursts, its TIME is charged, the queue is empty and the die's state says what it does. A hard sense takes its center code at the issue, and zeros for
a trim set with a parity error, which is recorded; the first pass of a half-row takes its stamp. Where no tokens suffice the entry waits for them in
its queue. At a burst boundary a waiting suspend or resume command goes out to its die, of an operation not yet on the array the suspend needs none;
else a status poll that is due; else the command or the next burst of the die whose entry has the earliest deadline: a sense and an erase with their
addresses, 8,192 bytes of the page a program builds, a burst out of a die. With its last burst, or its command, the array is busy and is polled at 95
% of the typical time. -/
def Obligations.DieWork : Prop :=
    (∀ (d k : Nat) (e : DieEntry) (bs : List Balance) (b : List (Nat × Nat)) (s : State),
      CanIssue s d k e bs → QuietDies s d → e.op = .erase b →
      Completes (.dieEntryIssue d false []) s fun t =>
        dieOf t d = { noDie with current := some (issuedRun s e k .command [] 0) } ∧ getF t (F.fchDieStat_state (dieChannel d) (diePos d)) = 3 ∧ getF t (F.fchDieStat_suspends (dieChannel d) (diePos d)) = 0 ∧ (∀ x, x ≠ d → dieOf t x = dieOf s x) ∧ Only s t [.sch] [(F.fchDieStat_state (dieChannel d) (diePos d)).addr]) ∧
    (∀ (d k : Nat) (e : DieEntry) (bs : List Balance) (rd : Nat) (r : ReadOp) (s : State),
      CanIssue s d k e bs → QuietDies s d → e.op = .sense rd → s.rch.reads = [(rd, r)] → r.die = d →
      Completes (.dieEntryIssue d false []) s fun t =>
        dieOf t d = { noDie with current := some (issuedRun s e k .command (stepSenses s { r with center := centerCode s r } .hard) 0) } ∧ readAt t rd = some { r with issued := true, center := centerCode s r } ∧ getF t (F.fchDieStat_state (dieChannel d) (diePos d)) = 1 ∧ (∀ x, x ≠ d → dieOf t x = dieOf s x) ∧ Only s t [.sch, .rch] [(F.fchDieStat_state (dieChannel d) (diePos d)).addr]) ∧
    (∀ (d k : Nat) (e : DieEntry) (bs : List Balance) (rd : Nat) (r : ReadOp) (s : State),
      CanIssue s d k e bs → QuietDies s d → e.op = .sense rd → s.rch.reads = [(rd, r)] → r.die = d →
      Completes (.dieEntryIssue d true []) s fun t =>
        (trimKey d r.tier r.bin) ∈ t.rch.trimBad ∧ trimOf t d r.tier r.bin r.bp = 0 ∧ flag t F.rchErr_trimParity = true ∧ readAt t rd = some { r with issued := true, center := centerCode t r } ∧ (∀ x, x ≠ d → dieOf t x = dieOf s x) ∧ Only s t [.sch, .rch, .csh] [(F.fchDieStat_state (dieChannel d) (diePos d)).addr, F.rchErr_trimParity.addr, (F.cshMissed_total 3).addr]) ∧
    (∀ (d k : Nat) (e : DieEntry) (bs : List Balance) (pzn hr m : Nat) (pass : Pass) (s : State),
      CanIssue s d k e bs → d < 1024 → e.op = .program pzn hr m pass → badSlots s pzn hr m = [] → wornPlanes s d e = [] → m ≠ parityMember pzn →
      Completes (.dieEntryIssue d false []) s fun t =>
        (dieOf t d).current = some (issuedRun s e k .dataIn [] (programBursts e.tier)) ∧ getF t (F.fchDieStat_state (dieChannel d) (diePos d)) = 2 ∧ (pass ≠ .fine → spFind (progOf t pzn).stamps (hr * 16 + m) = some (s.clk.ophours, s.clk.pwrcyc)) ∧ (∀ x, x ≠ d → dieOf t x = dieOf s x) ∧ Only s t [.sch, .zrs, .mhm, .age] [(F.fchDieStat_state (dieChannel d) (diePos d)).addr]) ∧
    (∀ (d : Nat) (e : DieEntry) (bs : List Balance) (s : State),
      MayIssue s d e bs → tokensFor s e = none →
      Completes (.dieEntryIssue d false []) s fun t =>
        dieOf t d = { noDie with queue := [e], balances := bs, tokenWait := true } ∧ (∀ x, x ≠ d → dieOf t x = dieOf s x) ∧ Only s t [.sch] []) ∧
    (∀ (c d : Nat) (r : Running) (s : State),
      NextUse s c (.control d) → (dieOf s d).current = some r → r.stage = .busy →
      Completes (.channelBurstBoundary c) s fun t =>
        dieOf t d = { dieOf s d with suspSent := true, current := some { r with pollAt := now s, confirming := false } } ∧ [Output.die d (.command (opByte s d (if isProgramEntry r.entry then 8 else 9) 1)), .die d (.address (rowBytes s d (entryRow s d r)))] <:+ t.out ∧ (∀ x, x ≠ d → dieOf t x = dieOf s x) ∧ Only s t [.sch, .pins] []) ∧
    (∀ (c d : Nat) (r : Running) (s : State),
      NextUse s c (.control d) → (dieOf s d).current = some r → r.stage ≠ .busy →
      Completes (.channelBurstBoundary c) s fun t =>
        dieOf t d = { dieOf s d with current := none, suspended := some { r with stage := firstStage r.entry, ranBefore := 0, suspendedAt := some (now s), burstsLeft := if isProgramEntry r.entry then programBursts r.entry.tier else 0 }, suspending := none, suspSent := false, suspLate := false } ∧ getF t (F.fchDieStat_state (dieChannel d) (diePos d)) = 0 ∧ (∀ x, x ≠ d → dieOf t x = dieOf s x) ∧ Only s t [.sch] [(F.fchDieStat_state (dieChannel d) (diePos d)).addr]) ∧
    (∀ (c d : Nat) (r : Running) (s : State),
      NextUse s c (.control d) → (dieOf s d).current = none → (dieOf s d).suspended = some r → r.stage = .busy →
      Completes (.channelBurstBoundary c) s fun t =>
        dieOf t d = { dieOf s d with current := some { r with busySince := now s, suspendedAt := none, pollAt := now s + dieF s d 0x4C 2, confirming := true }, suspended := none, resuming := false } ∧ getF t (F.fchDieStat_state (dieChannel d) (diePos d)) = runState r.entry ∧ [Output.die d (.command (opByte s d (if isProgramEntry r.entry then 10 else 11) 1)), .die d (.address (rowBytes s d (entryRow s d r)))] <:+ t.out ∧ (∀ x, x ≠ d → dieOf t x = dieOf s x) ∧ Only s t [.sch, .pins] [(F.fchDieStat_state (dieChannel d) (diePos d)).addr]) ∧
    (∀ (c d : Nat) (r : Running) (s : State),
      NextUse s c (.poll d) → (dieOf s d).current = some r →
      Completes (.channelBurstBoundary c) s fun t =>
        dieOf t d = { dieOf s d with granted := some .poll } ∧ [Output.die d (.command (opByte s d 12 1)), .die d (.address (rowBytes s d (entryRow s d r)))] <:+ t.out ∧ (∀ x, x ≠ d → dieOf t x = dieOf s x) ∧ Only s t [.sch, .pins] []) ∧
    (∀ (c d : Nat) (r : Running) (x : SenseStep) (s : State),
      NextUse s c (.work d) → (dieOf s d).current = some r → r.stage = .command → isReadEntry r.entry = true → currentSense r = some x →
      r.index = 0 → s.mhm.acc = [] →
      Completes (.channelBurstBoundary c) s fun t =>
        (dieOf t d).current = some { r with stage := .busy, confirming := false, pollAt := firstPoll s d r } ∧ t.mhm = { s.mhm with acc := [(brtIndex d x.plane x.block, 1)] } ∧
        Output.die d (.address (fullAddr s d (rowAddr s d x.plane x.block x.wl x.bp))) ∈ t.out ∧ (∀ x, x ≠ d → dieOf t x = dieOf s x) ∧ Only s t [.sch, .mhm, .pins] []) ∧
    (∀ (c d : Nat) (r : Running) (b : List (Nat × Nat)) (s : State),
      NextUse s c (.work d) → (dieOf s d).current = some r → r.stage = .command → r.entry.op = .erase b →
      Completes (.channelBurstBoundary c) s fun t =>
        dieOf t d = { dieOf s d with current := some { r with stage := .busy, confirming := false, pollAt := firstPoll s d r } } ∧ (∀ x ∈ b, Output.die d (.address (rowBytes s d (rowAddr s d x.1 x.2 0 0))) ∈ t.out) ∧ (∀ x, x ≠ d → dieOf t x = dieOf s x) ∧ Only s t [.sch, .pins] []) ∧
    (∀ (c d pzn hr m : Nat) (p : Pass) (r : Running) (s : State),
      NextUse s c (.work d) → (dieOf s d).current = some r → r.stage = .dataIn → r.entry.op = .program pzn hr m p →
      flipCw s pzn hr (2 * (hr % 2) + (programBursts r.entry.tier - r.burstsLeft) / 5 / bitsOf r.entry.tier) ((programBursts r.entry.tier - r.burstsLeft) / 5 % bitsOf r.entry.tier) m p r.entry.acct = none →
      (programBursts r.entry.tier - r.burstsLeft) + 1 < programBursts r.entry.tier →
      Completes (.channelBurstBoundary c) s fun t =>
        dieOf t d = { dieOf s d with current := some { r with burstsLeft := r.burstsLeft - 1 } } ∧ Output.die d (.dataIn (bytesAt (buildPage s pzn hr (2 * (hr % 2) + (programBursts r.entry.tier - r.burstsLeft) / 5 / bitsOf r.entry.tier) ((programBursts r.entry.tier - r.burstsLeft) / 5 % bitsOf r.entry.tier) m ((spFind (progOf s pzn).stamps (hr * 16 + m)).getD (0, 0)) none) (8192 * ((programBursts r.entry.tier - r.burstsLeft) % 5)) 8192)) ∈ t.out ∧ (∀ x, x ≠ d → dieOf t x = dieOf s x) ∧ Only s t [.sch, .pins] []) ∧
    (∀ (c d pzn hr m : Nat) (p : Pass) (r : Running) (s : State),
      NextUse s c (.work d) → (dieOf s d).current = some r → r.stage = .dataIn → r.entry.op = .program pzn hr m p →
      flipCw s pzn hr (2 * (hr % 2) + (programBursts r.entry.tier - r.burstsLeft) / 5 / bitsOf r.entry.tier) ((programBursts r.entry.tier - r.burstsLeft) / 5 % bitsOf r.entry.tier) m p r.entry.acct = none →
      programBursts r.entry.tier ≤ (programBursts r.entry.tier - r.burstsLeft) + 1 →
      Completes (.channelBurstBoundary c) s fun t =>
        dieOf t d = { dieOf s d with current := some { r with burstsLeft := r.burstsLeft - 1, stage := .busy, confirming := false, pollAt := firstPoll s d r } } ∧ Output.die d (.dataIn (bytesAt (buildPage s pzn hr (2 * (hr % 2) + (programBursts r.entry.tier - r.burstsLeft) / 5 / bitsOf r.entry.tier) ((programBursts r.entry.tier - r.burstsLeft) / 5 % bitsOf r.entry.tier) m ((spFind (progOf s pzn).stamps (hr * 16 + m)).getD (0, 0)) none) (8192 * ((programBursts r.entry.tier - r.burstsLeft) % 5)) 8192)) ∈ t.out ∧ (∀ x, x ≠ d → dieOf t x = dieOf s x) ∧ Only s t [.sch, .pins] []) ∧
    (∀ (c d : Nat) (r : Running) (s : State),
      NextUse s c (.work d) → (dieOf s d).current = some r → r.stage = .dataOut →
      Completes (.channelBurstBoundary c) s fun t =>
        dieOf t d = { dieOf s d with granted := some .burst } ∧ (∀ x, x ≠ d → dieOf t x = dieOf s x) ∧ Only s t [.sch] [])

/-- A poll that finds the array busy comes again after 2 µs; one that finds a sense ready lets its transfer begin; one that finds a suspend confirmed
holds the operation suspended. An erase that is done makes its block-plane ERASED with one more P/E cycle, one that failed takes it out of use and a
spare in its place; a coarse program that is done counts its half-row, a final one makes it durable on its member. At 110 % of the maximum time the
LUN is reset and the timeout counted, and the eighth takes the die out of service. -/
def Obligations.StatusPolls : Prop :=
    (∀ (d f : Nat) (st : Byte) (r : Running) (s : State),
      Polled s d r → (dieOf s d).suspending = none → statusReady st = false →
      Completes (.statusPoll d st f) s fun t =>
        dieOf t d = { dieOf s d with current := some { r with confirming := false, pollAt := if r.confirming then firstPoll t d r else max s.clk.sch r.pollAt + 2 }, granted := none } ∧ t.clk.sch = max s.clk.sch r.pollAt ∧ (∀ x, x ≠ d → dieOf t x = dieOf s x) ∧ Only s t [.sch, .clk, .pins] []) ∧
    (∀ (d f : Nat) (st : Byte) (r : Running) (s : State),
      Polled s d r → (dieOf s d).suspending = none → isReadEntry r.entry = true → statusReady st = true →
      (currentSense r).any SenseStep.out = true →
      Completes (.statusPoll d st f) s fun t =>
        dieOf t d = { dieOf s d with current := some { r with stage := .dataOut, burstsLeft := 5 }, granted := none } ∧ t.clk.sch = max s.clk.sch r.pollAt ∧ (∀ x, x ≠ d → dieOf t x = dieOf s x) ∧ Only s t [.sch, .clk, .pins] []) ∧
    (∀ (d f since : Nat) (st : Byte) (r : Running) (s : State),
      Polled s d r → (dieOf s d).suspending = some since → (dieOf s d).suspSent = true → isReadEntry r.entry = false →
      max s.clk.us (s.clk.us + (r.pollAt - s.clk.sch)) ≤ since + dieF s d (if isProgramEntry r.entry then 0x48 else 0x4A) 2 + 5 →
      statusReady st = true → statusSuspended s d st = true →
      Completes (.statusPoll d st f) s fun t =>
        (dieOf t d).current = none ∧ (dieOf t d).suspended = some { r with ranBefore := ranTime t { r with suspendedAt := none }, suspendedAt := some (max s.clk.sch r.pollAt) } ∧ (dieOf t d).suspending = none ∧ getF t (F.fchDieStat_state (dieChannel d) (diePos d)) = (if isProgramEntry r.entry then 4 else 5) ∧ (∀ x, x ≠ d → dieOf t x = dieOf s x) ∧ Only s t [.sch, .clk, .pins] [(F.fchDieStat_state (dieChannel d) (diePos d)).addr]) ∧
    (∀ (d pl b f : Nat) (st : Byte) (r : Running) (s : State),
      Polled s d r → EndsAlone s d → dieOf s d = { noDie with current := some r, granted := (dieOf s d).granted } → r.entry.op = .erase [(pl, b)] →
      statusReady st = true → statusFail st = false → spFind s.hif.sanitize.eraseLeft d = none →
      (recOf s (brtIndex d pl b)).pe + 1 < dieF s d 0xC0 2 →
      Completes (.statusPoll d st f) s fun t =>
        recOf t (brtIndex d pl b) = sealBrt { recOf s (brtIndex d pl b) with cond := .erased, pe := min ((recOf s (brtIndex d pl b)).pe + 1) 0xFFFF, progOph := 0, reads := 0, wlDone := 0, partialFlag := false } ∧ dieOf t d = noDie ∧ getF t (F.fchDieStat_state (dieChannel d) (diePos d)) = (if dieInService s d then 0 else 6) ∧ (∀ i, i ≠ brtIndex d pl b → recOf t i = recOf s i) ∧ Only s t [.sch, .mhm, .clk, .pins] [(F.fchDieStat_state (dieChannel d) (diePos d)).addr]) ∧
    (∀ (d pl b x f : Nat) (st : Byte) (r : Running) (s : State),
      Polled s d r → EndsAlone s d → dieOf s d = { noDie with current := some r, granted := (dieOf s d).granted } → r.entry.op = .erase [(pl, b)] →
      (dieOf s d).suspending = none → statusReady st = true → statusFail st = true → f = pl → b < 4096 → d < 1024 →
      spFind s.hif.sanitize.eraseLeft d = none → (zstOf s (dieGroup d * 4096 + b)).bound = false → (zstOf s (dieGroup d * 4096 + b)).subst = [] →
      freeSpare s d pl = some x → pl < 4 →
      Completes (.statusPoll d st f) s fun t =>
        (recOf t (brtIndex d pl b)).kind = .bad ∧ (recOf t (brtIndex d pl (4096 + x))).kind = .spareAssigned ∧ (recOf t (brtIndex d pl (4096 + x))).owner = b ∧ (zstOf t (dieGroup d * 4096 + b)).subst = [⟨dieMember d, pl, x⟩] ∧ flag t (F.fchErr_eraseFail (dieChannel d)) = true ∧ dieOf t d = noDie ∧ Only s t [.sch, .mhm, .zrs, .csh, .clk, .pins] [(F.fchDieStat_state (dieChannel d) (diePos d)).addr, (F.fchErr_eraseFail (dieChannel d)).addr, (F.cshMissed_total 2).addr]) ∧
    (∀ (d pzn hr m f : Nat) (st : Byte) (p : Pass) (r : Running) (s : State),
      Polled s d r → r.entry.op = .program pzn hr m p → p = .coarse → (dieOf s d).suspending = none → statusReady st = true →
      statusFail st = false → (dieOf s d).queue = [] → (dieOf s d).suspended = none → s.rch.pages = [] →
      ((∀ kv ∈ s.sch.dies, kv.2.tokenWait = false)) → getF s (F.fchStat_state (dieChannel d)) ≠ 6 →
      flag s (F.fchCtrl_train (dieChannel d)) = false → bayOn s (dieBay d) = true → d < 1024 → memberDie (groupOf pzn) m = d →
      sourceOf s pzn = none →
      Completes (.statusPoll d st f) s fun t =>
        (progOf t pzn).members = listSet (progOf s pzn).members m { listAt ⟨0, 0⟩ (progOf s pzn).members m with coarse := hr + 1 } ∧ (dieOf t d).current = none ∧ (∀ x, x ≠ d → dieOf t x = dieOf s x) ∧ Only s t [.sch, .zrs, .clk, .pins] [(F.fchDieStat_state (dieChannel d) (diePos d)).addr]) ∧
    (∀ (d pzn hr m f : Nat) (st : Byte) (p : Pass) (r : Running) (s : State),
      Polled s d r → r.entry.op = .program pzn hr m p → p = .fine → (zstOf s pzn).tier ≠ .d4 → (dieOf s d).suspending = none →
      statusReady st = true → statusFail st = false → (dieOf s d).queue = [] → (dieOf s d).suspended = none → s.rch.pages = [] →
      ((∀ kv ∈ s.sch.dies, kv.2.tokenWait = false)) → getF s (F.fchStat_state (dieChannel d)) ≠ 6 →
      flag s (F.fchCtrl_train (dieChannel d)) = false → bayOn s (dieBay d) = true → d < 1024 → memberDie (groupOf pzn) m = d →
      sourceOf s pzn = none →
      Completes (.statusPoll d st f) s fun t =>
        (progOf t pzn).members = listSet (progOf s pzn).members m { listAt ⟨0, 0⟩ (progOf s pzn).members m with fine := hr + 1 } ∧ (zstOf t pzn).lastOph = s.clk.ophours ∧
        (zstOf t pzn).durableHr = max (zstOf s pzn).durableHr (minOr 0 ((List.range 16).map fun i => finalOn (zstOf s pzn).tier (progOf t pzn) i)) ∧ (dieOf t d).current = none ∧ OnlyParts s t [.sch, .zrs, .mhm, .jrn, .mep, .sbg, .clk, .pins] ∧ (∀ x, x ≠ d → dieOf t x = dieOf s x)) ∧
    (∀ (d f : Nat) (up : Bool) (r : Running) (s : State),
      Works s → (dieOf s d).current = some r → r.stage = .busy → EndsAlone s d → dieOf s d = { noDie with current := some r } →
      r.entry.op = .probe up → spGet 0 s.mhm.timeouts d < 7 →
      Completes (.operationTimeout d f) s fun t =>
        Output.die d (.resetLun (rowBytes s d (entryRow s d r))) ∈ t.out ∧ t.clk.sch = max s.clk.sch (timeoutAt s d r) ∧ spGet 0 t.mhm.timeouts d = spGet 0 s.mhm.timeouts d + 1 ∧ dieOf t d = noDie ∧ spFind t.rch.probes d = none ∧ flag t (F.fchErr_timeout (dieChannel d)) = true ∧ Only s t [.sch, .rch, .mhm, .csh, .clk, .pins] [(F.fchDieStat_state (dieChannel d) (diePos d)).addr, (F.fchErr_timeout (dieChannel d)).addr, (F.cshMissed_total 2).addr]) ∧
    (∀ (d f : Nat) (up : Bool) (r : Running) (s : State),
      Works s → (dieOf s d).current = some r → r.stage = .busy → EndsAlone s d → dieOf s d = { noDie with current := some r } →
      r.entry.op = .probe up → spGet 0 s.mhm.timeouts d = 7 → dieInService s d = true → (bayOf s (dieBay d)).phase ≠ .failed →
      Completes (.operationTimeout d f) s fun t =>
        dieInService t d = false ∧ getF t (F.fchDieStat_state (dieChannel d) (diePos d)) = 6 ∧ spGet 0 t.mhm.timeouts d = 8 ∧ Only s t [.sch, .rch, .mhm, .csh, .clk, .pins] [(F.fchDieStat_state (dieChannel d) (diePos d)).addr, (F.fchErr_timeout (dieChannel d)).addr, (F.cshMissed_total 2).addr, (F.fchDieCfg_inservice (dieChannel d) (diePos d)).addr])

/-- A ready read that may suspend decides the suspend of an operation that has run MINRUN; the operation resumes once no such read is left, or at the end
of WINDOW. A Read whose deadline passes before its last codeword has decoded ends with Deadline Missed and its reads are abandoned; one that has
decoded goes on. -/
def Obligations.Suspends : Prop :=
    (∀ (d : Nat) (r : Running) (s : State),
      Works s → (dieOf s d).current = some r → isReadEntry r.entry = false → (dieOf s d).suspending = none →
      (readyEntries s d).filter (causesSuspend s d r r.suspends) ≠ [] → minRun s ≤ now s - r.busySince →
      Completes (.suspendDecision d) s fun t =>
        dieOf t d = { dieOf s d with suspending := some s.clk.us, suspSent := false, suspLate := false, current := some { r with suspends := r.suspends + b2n (((readyEntries s d).filter (causesSuspend s d r r.suspends)).all fun e => e.cls != .proof) } } ∧ (∀ x, x ≠ d → dieOf t x = dieOf s x) ∧ Only s t [.sch] []) ∧
    (∀ (d : Nat) (r : Running) (s : State),
      Works s → (dieOf s d).suspended = some r → (readyEntries s d).any (causesSuspend s d r (r.suspends - 1)) = false →
      Completes (.resume d) s fun t =>
        dieOf t d = { dieOf s d with resuming := true } ∧ (∀ x, x ≠ d → dieOf t x = dieOf s x) ∧ Only s t [.sch] []) ∧
    (∀ (d since : Nat) (r : Running) (s : State),
      Works s → (dieOf s d).suspended = some r → r.suspendedAt = some since →
      Completes (.suspendWindowExpiry d) s fun t =>
        dieOf t d = { dieOf s d with resuming := true } ∧ t.clk.sch = max s.clk.sch (since + window s) ∧ (∀ x, x ≠ d → dieOf t x = dieOf s x) ∧ Only s t [.sch, .clk] []) ∧
    (∀ (n : Nat) (c : CmdSlot) (s : State),
      Works s → slotOf s n = some c → isReadKind c.kind = true → Bare s n { c with reserved := 0 } → allDecoded s n c = false → c.remote = none →
      spSorted s.rch.reads = true →
      Completes (.readDeadlineExpiry n) s fun t =>
        t.clk.sch = max s.clk.sch c.deadline ∧ (∀ kv ∈ t.rch.reads, kv.2.owner ≠ .command n) ∧ OnlyParts s t [.hif, .rch, .sch, .clk, .mhm, .sbg, .mep] ∧ Ended s t n c .deadlineMissed) ∧
    (∀ (n : Nat) (c : CmdSlot) (s : State),
      Works s → slotOf s n = some c → isReadKind c.kind = true → allDecoded s n c = true →
      Completes (.readDeadlineExpiry n) s fun t =>
        t.clk.sch = max s.clk.sch c.deadline ∧ Only s t [.clk] [])

/-- A burst of a hard sense is searched for its sync mark, its shift settled and its outcome counted; a codeword whose last byte it brings is ready. An
engine takes the first codeword ready for it. A decode that passes, with the block header of its place, leaves the codeword with its word for the
open, counts it and frees the engine; an engine with a parity error goes out of use and its codeword starts again. A tracking probe that reads better
one way moves the trim by one code that way, and is gone; one whose trim or table entry has changed moves nothing. -/
def Obligations.ReadChannel : Prop :=
    (∀ (d rd g : Nat) (bytes : List Byte) (run : Running) (r : ReadOp) (s : State),
      Works s → (dieOf s d).current = some run → run.stage = .dataOut → burstServed s d = true → run.entry.op = .sense rd → senseReads s d = [rd] →
      readAt s rd = some r → r.headerSeen = true → r.headerBad = false → run.burstsLeft = 5 - g → 0 < g → g < 4 →
      (r.cws.all fun c => lastBurst c.idx != g) = true →
      Completes (.wedgeSyncSearch d bytes) s fun t =>
        readAt t rd = some (settleShift { r with wedges := spPut r.wedges g (searchWedge s g bytes), sensed := false } (getF s F.rchSync_coastBits) (hardLeft s) g) ∧ (dieOf t d).current = some { run with burstsLeft := run.burstsLeft - 1 } ∧ (dieOf t d).granted = none ∧ (∀ x, x ≠ d → dieOf t x = dieOf s x) ∧ Only s t [.rch, .sch] []) ∧
    (∀ (d rd g : Nat) (bytes : List Byte) (run : Running) (r : ReadOp) (c : Cw) (s : State),
      Works s → (dieOf s d).current = some run → run.stage = .dataOut → burstServed s d = true → run.entry.op = .sense rd → senseReads s d = [rd] →
      readAt s rd = some r → r.headerSeen = true → r.headerBad = false → run.burstsLeft = 5 - g → 0 < g → g < 4 → r.cws = [c] →
      lastBurst c.idx = g → c.step = .hard → c.phase = .waitInput → hardLeft s = true →
      Completes (.wedgeSyncSearch d bytes) s fun t =>
        ((readAt t rd).bind fun x => x.cws[0]?) = some { c with phase := .ready, turn := s.rch.turn, flag := cwFlag (settleShift { r with wedges := spPut r.wedges g (searchWedge s g bytes), sensed := false } (getF s F.rchSync_coastBits) (hardLeft s) g) c.idx } ∧ (dieOf t d).current = some { run with burstsLeft := run.burstsLeft - 1 } ∧ (dieOf t d).granted = none ∧ (∀ x, x ≠ d → dieOf t x = dieOf s x) ∧ Only s t [.rch, .sch] []) ∧
    (∀ (k i : Nat) (r : ReadOp) (c : Cw) (s : State),
      Works s → firstCw ((readyCws s false).filter fun _ => !(freeHard s).isEmpty) = some (k, i, r, c) → readAt s k = some r → r.cws[i]? = some c →
      c.step = .hard →
      Completes (.engineAllocation false) s fun t =>
        ((readAt t k).bind fun x => x.cws[i]?) = some { c with phase := .inEngine, engine := some (listAt 0 (freeHard s) 0), input := cwInput s r c } ∧ t.rch.hardBusy = addOnce s.rch.hardBusy (listAt 0 (freeHard s) 0) ∧ Only s t [.rch] []) ∧
    (∀ (k i : Nat) (r : ReadOp) (c : Cw) (s : State),
      Works s → firstCw ((readyCws s true).filter fun x => !(freeSoft s x.2.2.1.cls).isEmpty) = some (k, i, r, c) → readAt s k = some r →
      r.cws[i]? = some c → c.step ≠ .hard →
      Completes (.engineAllocation true) s fun t =>
        ((readAt t k).bind fun x => x.cws[i]?) = some { c with phase := .inEngine, engine := some (listAt 0 (freeSoft s r.cls) 0), input := cwInput s r c } ∧ t.rch.softBusy = addOnce s.rch.softBusy (listAt 0 (freeSoft s r.cls) 0) ∧ Only s t [.rch] []) ∧
    (∀ (e k i n m : Nat) (r : ReadOp) (c : Cw) (word : List Byte) (s : State),
      Works s → cwOn s false e = some (k, i, c) → lateSlot s k = none → c.step = .hard → c.engine = some e →
      hardDecode (getF s F.rchLdpc_hardIter) (bytesOfBits 4960 (c.input.map fun v => decide (v % 2 = 1)).toArray) (c.input.map fun v => decide (2 ≤ v)).toArray = some (word, m) →
      getF s F.rchTrack_trigger = 0 → readAt s k = some r → r.cws[i]? = some c → r.owner = .command n → c.rebuild = none →
      leAt word 4096 8 = (expectedHeader r c).toNat →
      Completes (.hardDecodeDone e false) s fun t =>
        ((readAt t k).bind fun x => x.cws[i]?) = some { c with input := [], corrected := some m, word := word, phase := .headerOk, engine := none } ∧ t.rch.hardBusy.contains e = false ∧
        spGet noCounts t.rch.live r.die = { spGet noCounts s.rch.live r.die with hardOk := (spGet noCounts s.rch.live r.die).hardOk + 1, corrBits := (spGet noCounts s.rch.live r.die).corrBits + m, maxCorr := max (spGet noCounts s.rch.live r.die).maxCorr m } ∧ Only s t [.rch] []) ∧
    (∀ (e k i : Nat) (r : ReadOp) (c : Cw) (s : State),
      Works s → cwOn s false e = some (k, i, c) → lateSlot s k = none → readAt s k = some r → r.cws[i]? = some c → s.rch.hardOff.length < 31 →
      Completes (.hardDecodeDone e true) s fun t =>
        ((readAt t k).bind fun x => x.cws[i]?) = some { c with phase := .ready, engine := none, input := [] } ∧ t.rch.hardOff = addOnce s.rch.hardOff e ∧ t.rch.hardBusy = dropAll s.rch.hardBusy e ∧ flag t F.rchDecErr_engineFault = true ∧ Only s t [.rch, .csh] [F.rchDecErr_engineFault.addr, (F.cshMissed_total 4).addr]) ∧
    (∀ (e k i n : Nat) (r : ReadOp) (c : Cw) (word : List Byte) (s : State),
      Works s → cwOn s true e = some (k, i, c) → lateSlot s k = none → c.step ≠ .hard → c.engine = some e →
      softDecode (getF s F.rchLdpc_softIter) (getF s F.rchLdpc_msOffset) c.input.toArray = some word → readAt s k = some r → r.cws[i]? = some c →
      r.owner = .command n → c.rebuild = none → leAt word 4096 8 = (expectedHeader r c).toNat →
      Completes (.softDecodeDone e false) s fun t =>
        ((readAt t k).bind fun x => x.cws[i]?) = some { c with input := [], word := word, phase := .headerOk, engine := none } ∧ t.rch.softBusy.contains e = false ∧
        spGet noCounts t.rch.live r.die = { spGet noCounts s.rch.live r.die with softOk := (spGet noCounts s.rch.live r.die).softOk + 1 } ∧ Only s t [.rch] []) ∧
    (∀ (d : Nat) (p : Probe) (s : State),
      Works s → spFind s.rch.probes d = some p → p.low ≠ [] → p.high ≠ [] → trimOf s d p.tier p.bin p.bp = p.trim →
      ttabOf s p.tier p.bin p.bp = p.ttab → sumAt p.low p.framed + getF s F.rchTrack_hyst ≤ min (sumAt p.e0 p.framed) (sumAt p.high p.framed) →
      getF s F.rchTrack_trimLimit ≠ 0 →
      Completes (.trackingProbeEval d) s fun t =>
        spFind t.rch.probes d = none ∧ t.rch.trims = spSet 0#64 s.rch.trims (trimKey d p.tier p.bin) (putField (trimSet s (trimKey d p.tier p.bin)) (8 * p.bp + 7) (8 * p.bp) ((max (p.trim - 1) (-(getF s F.rchTrack_trimLimit : Int))) % 256).toNat) ∧
        spGet noCounts t.rch.live d = { spGet noCounts s.rch.live d with probes := (spGet noCounts s.rch.live d).probes + 1, dodges := (spGet noCounts s.rch.live d).dodges + 1 } ∧ Only s t [.rch] []) ∧
    (∀ (d : Nat) (p : Probe) (s : State),
      Works s → spFind s.rch.probes d = some p → p.low ≠ [] → p.high ≠ [] → trimOf s d p.tier p.bin p.bp = p.trim →
      ttabOf s p.tier p.bin p.bp = p.ttab → ¬(sumAt p.low p.framed + getF s F.rchTrack_hyst ≤ min (sumAt p.e0 p.framed) (sumAt p.high p.framed)) →
      sumAt p.high p.framed + getF s F.rchTrack_hyst ≤ min (sumAt p.e0 p.framed) (sumAt p.low p.framed) → getF s F.rchTrack_trimLimit ≠ 0 →
      Completes (.trackingProbeEval d) s fun t =>
        spFind t.rch.probes d = none ∧ t.rch.trims = spSet 0#64 s.rch.trims (trimKey d p.tier p.bin) (putField (trimSet s (trimKey d p.tier p.bin)) (8 * p.bp + 7) (8 * p.bp) ((min (p.trim + 1) (getF s F.rchTrack_trimLimit : Int)) % 256).toNat) ∧
        spGet noCounts t.rch.live d = { spGet noCounts s.rch.live d with probes := (spGet noCounts s.rch.live d).probes + 1, burns := (spGet noCounts s.rch.live d).burns + 1 } ∧ Only s t [.rch] []) ∧
    (∀ (d : Nat) (p : Probe) (s : State),
      Works s → spFind s.rch.probes d = some p → p.low ≠ [] → p.high ≠ [] →
      (trimOf s d p.tier p.bin p.bp ≠ p.trim ∨ ttabOf s p.tier p.bin p.bp ≠ p.ttab) →
      Completes (.trackingProbeEval d) s fun t =>
        t.rch = { s.rch with probes := spErase s.rch.probes d } ∧ Only s t [.rch] [])

/-- A block of a write that the host fetch brings takes an ingest buffer with its ICRC. CPH seals a zone's blocks in host-offset order under the zone's
context: up to a byte it holds ciphertext, GHASH and the running codes in the context; with the last byte, where the ICRC matches, the sealed copy
with header, SEQ, SEAL and TAG is staged in the block's place and the ingest buffer is free. A staged block whose SEAL, SEQ and TAG hold opens into a
read-pool buffer of the command's reservation with its OCRC. With every block of a Read open, the queue engine writes a block whose OCRC matches to
the host and frees its buffer; with the last block the command completes. -/
def Obligations.DataBlocks : Prop :=
    (∀ (n b pzn i : Nat) (bytes : List Byte) (c : CmdSlot) (z : ZstEntry) (s : State),
      Works s → slotOf s n = some c → servedBy s n = none → liveWrite c b = true → c.fetched.contains b = false →
      boundZone s c.ezn = some (pzn, z) → relocOf s pzn = none → (c.firstSlot + b) / hrSlots z.tier < z.durableHr + ringSlots z.tier →
      accumRoom s pzn z.tier (c.firstSlot + b) = true → spFind s.mep.ingest (blockKey n b) = none → Gives s 4 i → flag s F.mepFlip_arm = false →
      Completes (.hostDataFetchCompletion n b bytes false) s fun t =>
        spFind t.mep.ingest (blockKey n b) = some ⟨i, bytesAt bytes 0 4096, crc32c (bytesAt bytes 0 4096), [], false, 0⟩ ∧ slotOf t n = some { c with fetched := addOnce c.fetched b } ∧ bufTaken (poolOf t 4) i = true ∧ (∀ m, m ≠ n → slotOf t m = slotOf s m) ∧ Only s t [.mep, .hif, .sbg] [(F.sbgPoolStat_free 4).addr]) ∧
    (∀ (n b pzn i upto : Nat) (c : CmdSlot) (z : ZstEntry) (x : Ctx) (g : IngestBlock) (key : List Byte) (s : State),
      CanSeal s n b pzn i c z x g key → 0 < upto → upto < 4096 →
      Completes (.blockSeal n b upto none .none) s fun t =>
        spFind t.cph.ctxs i = some { x with cond := .block, used := s.cph.useClock + 1, blk := some (sealChunk key (blockNonce s c b) (blockAad s c b) g.data upto (freshBlock s n b (keyVersion s x.keySlot) c)) } ∧ Only s t [.cph] []) ∧
    (∀ (n b pzn i upto : Nat) (c : CmdSlot) (z : ZstEntry) (x : Ctx) (g : IngestBlock) (key : List Byte) (a : Accum) (s : State),
      CanSeal s n b pzn i c z x g key → 4096 ≤ upto → g.parityBad = [] → crc32c (g.data.take 4096) = g.icrc → flag s F.mepFlip_arm = false →
      CanFree s 4 g.buf → s.tkr.retired = [] → s.tkr.waiting = false → spFind s.zrs.padReqs c.ezn = none →
      spFind s.mep.staged (stageKey pzn (c.firstSlot + b)) = none →
      accumOf s pzn ((c.firstSlot + b) / hrSlots z.tier) ((c.firstSlot + b) % hrSlots z.tier / 120) = some a →
      ((groupSlots z.tier ((c.firstSlot + b) / hrSlots z.tier) ((c.firstSlot + b) % hrSlots z.tier / 120)).any fun k => k != c.firstSlot + b && !a.slots.contains k && !slotFiller z k && (spFind s.mep.staged (stageKey pzn k)).isNone) = true →
      Completes (.blockSeal n b upto none .none) s fun t =>
        spFind t.mep.staged (stageKey pzn (c.firstSlot + b)) = some (sealedCopy s c b key g.data) ∧ spFind t.mep.ingest (blockKey n b) = none ∧ bufTaken (poolOf t 4) g.buf = false ∧
        slotOf t n = some { c with sealed := addOnce c.sealed b, staged := addOnce c.staged b } ∧ spFind t.cph.ctxs i = some { x with blk := none, cond := .idle, used := s.cph.useClock + 1 } ∧ Only s t [.mep, .hif, .sbg, .cph, .sch, .bay] [(F.sbgPoolStat_free 4).addr]) ∧
    (∀ (n b pzn i : Nat) (c : CmdSlot) (z : ZstEntry) (key plain : List Byte) (w : StagedBlock) (s : State),
      CanOpen s n b pzn c z key → hasCw s n b = false → c.offset + b < z.wpHost →
      finalSlot s pzn z (slotOfOffset z.tier z.pads (c.offset + b)) = false →
      spFind s.mep.staged (stageKey pzn (slotOfOffset z.tier z.pads (c.offset + b))) = some w →
      stagedParity s pzn (slotOfOffset z.tier z.pads (c.offset + b)) w = [] →
      metaFails s pzn (slotOfOffset z.tier z.pads (c.offset + b)) w = false → w.resending = false →
      openBlock s c (c.offset + b) key w = .plain plain → Gives s 1 i → c.reserved ≠ 0 →
      allOpened { c with opened := addOnce c.opened b } = false →
      Completes (.blockOpen n b 0 none false) s fun t =>
        spFind t.mep.pool (blockKey n b) = some ⟨i, plain, crc32c plain, [], 0⟩ ∧ slotOf t n = some { c with opened := addOnce c.opened b, reserved := c.reserved - 1 } ∧
        getF t (F.sbgPoolStat_reserved 1) = getF s (F.sbgPoolStat_reserved 1) - 1 ∧ bufTaken (poolOf t 1) i = true ∧ (∀ m, m ≠ n → slotOf t m = slotOf s m) ∧ Only s t [.mep, .hif, .sbg, .cph] [(F.sbgPoolStat_free 1).addr]) ∧
    (∀ (n b : Nat) (c : CmdSlot) (p : PoolBlock) (s : State),
      CanSend s n b c p → ((List.range c.blocks).all fun i => (addOnce c.egress b).contains i) = false →
      Completes (.hostDataEgress n b 0) s fun t =>
        Output.hostBlock c.func c.sqe.cid b p.data ∈ t.out ∧ spFind t.mep.pool (blockKey n b) = none ∧ bufTaken (poolOf t 1) p.buf = false ∧ slotOf t n = some { c with egress := addOnce c.egress b } ∧ (∀ m, m ≠ n → slotOf t m = slotOf s m) ∧ Only s t [.mep, .hif, .sbg] [(F.sbgPoolStat_free 1).addr]) ∧
    (∀ (n b : Nat) (c : CmdSlot) (p : PoolBlock) (s : State),
      CanSend s n b c p → ((List.range c.blocks).all fun i => (addOnce c.egress b).contains i) = true → c.failed = none →
      Bare { s with mep := { s.mep with pool := spErase s.mep.pool (blockKey n b) } } n c →
      Completes (.hostDataEgress n b 0) s fun t =>
        Output.hostBlock c.func c.sqe.cid b p.data ∈ t.out ∧ spFind t.mep.pool (blockKey n b) = none ∧ bufTaken (poolOf t 1) p.buf = false ∧ Ended s t n c .success ∧ Only s t [.mep, .hif, .sbg] [(F.sbgPoolStat_free 1).addr])

/-- A parked context that verifies is restored with its block in progress, and one that does not is recorded and its block starts again from its first
byte. TKR answers the earliest key request: with the value of a LOADED slot, which is then in the cache, or EMPTY. A management descriptor runs under
the key of its system slot, requested first where the cache has it not: SEAL writes ciphertext and tag, OPEN the plaintext where the tag matches and
nothing where it does not, GMAC the tag alone; then STATUS, and the requesting core is interrupted. A tenant slot, a length above 1 MiB or a range
outside DRAM, and two lengths of zero, end the descriptor with their STATUS. -/
def Obligations.CipherPort : Prop :=
    (∀ (ctx : Nat) (c : Ctx) (s : State),
      Works s → spFind s.cph.ctxs ctx = some c → c.resident = false → (s.cph.ctxs.filter fun kv => kv.2.resident).length < 512 →
      parkedBad s ctx = [] → restorePasses s ctx c (parkedBytes s ctx) = true → c.cond ≠ .revoked →
      Completes (.contextRestore ctx [] false) s fun t =>
        spFind t.cph.ctxs ctx = some { c with resident := true, used := s.cph.useClock, cond := if c.blk.isSome then .block else .idle } ∧ getF t F.cphStat_restores = min (getF s F.cphStat_restores + 1) (2 ^ (F.cphStat_restores.hi + 1 - F.cphStat_restores.lo) - 1) ∧ Only s t [.cph] [F.cphStat_restores.addr]) ∧
    (∀ (ctx : Nat) (c : Ctx) (s : State),
      Works s → spFind s.cph.ctxs ctx = some c → c.resident = false → (s.cph.ctxs.filter fun kv => kv.2.resident).length < 512 →
      parkedBad s ctx = [] → restorePasses s ctx c (parkedBytes s ctx) = false → c.cond ≠ .revoked →
      Completes (.contextRestore ctx [] false) s fun t =>
        spFind t.cph.ctxs ctx = some { c with resident := true, used := s.cph.useClock, cond := if c.blk.isSome then .block else .idle, blk := c.blk.map fun b => blockFromStart b.version b } ∧ flag t F.cphErr_ctxAuth = true ∧ getF t F.cphStat_restores = min (getF s F.cphStat_restores + 1) (2 ^ (F.cphStat_restores.hi + 1 - F.cphStat_restores.lo) - 1) ∧ Only s t [.cph, .csh] [F.cphStat_restores.addr, F.cphErr_ctxAuth.addr, (F.cshMissed_total 9).addr]) ∧
    (∀ (r : KeyReq) (v : BitVec 256) (s : State),
      Works s → firstKeyReq s.cph.keyReqs = some r → spFind s.tkr.slots r.keySlot = some v → s.tkr.retired = [] →
      Completes (.keyRequest false) s fun t =>
        keyCached t r.keySlot (keyVersion s r.keySlot) = true ∧ t.cph.keyReqs = (s.cph.keyReqs.filter fun x => x.order != r.order) ∧ Only s t [.cph] []) ∧
    (∀ (r : KeyReq) (s : State),
      Works s → firstKeyReq s.cph.keyReqs = some r → spFind s.tkr.slots r.keySlot = none → s.hif.slots = [] → s.cph.mreqs = [] →
      Completes (.keyRequest false) s fun t =>
        t.cph.keyReqs = (s.cph.keyReqs.filter fun x => x.order != r.order) ∧ t.cph.keyCache = s.cph.keyCache ∧ Only s t [.cph] []) ∧
    (∀ (m a dl : Nat) (rest : List (Nat × Nat)) (d : List Byte) (s : State),
      Works s → dramReady s = true → s.cph.mreqs = (m, a) :: rest → d = memBytes s a 64 → inDram a 64 = true → leAt d 0 1 % 16 = 1 →
      keyReady s d = false → s.cph.keyReqs.length < 32 → (s.cph.keyReqs.any fun r => r.keySlot == mgmtSlot d && r.deadline == dl) = false →
      Completes (.mgmtSeal dl) s fun t =>
        t.cph = { s.cph with keyReqs := s.cph.keyReqs ++ [⟨mgmtSlot d, dl, s.cph.useClock⟩], useClock := s.cph.useClock + 1 } ∧ Only s t [.cph] []) ∧
    (∀ (m a dl : Nat) (rest : List (Nat × Nat)) (d key : List Byte) (s : State),
      Serves s 1 m a rest d key →
      Completes (.mgmtSeal dl) s fun t =>
        t.cph.mreqs = rest ∧ [Output.interrupt m] <+: t.out ∧ Only (endDescriptor (memWrite (memWrite (pipeKeyed s d) (leAt d 0x30 8) (gcmSeal key (bytesAt d 8 12) (memBytes s (leAt d 0x20 8) (leAt d 0x14 4 % 2 ^ 21)) (memBytes s (leAt d 0x28 8) (leAt d 0x18 4 % 2 ^ 21))).1) (leAt d 0x38 8) (gcmSeal key (bytesAt d 8 12) (memBytes s (leAt d 0x20 8) (leAt d 0x14 4 % 2 ^ 21)) (memBytes s (leAt d 0x28 8) (leAt d 0x18 4 % 2 ^ 21))).2) m a .ok) t [] []) ∧
    (∀ (m a dl : Nat) (rest : List (Nat × Nat)) (d key plain : List Byte) (s : State),
      Serves s 2 m a rest d key →
      gcmOpen key (bytesAt d 8 12) (memBytes s (leAt d 0x20 8) (leAt d 0x14 4 % 2 ^ 21)) (memBytes s (leAt d 0x28 8) (leAt d 0x18 4 % 2 ^ 21)) (memBytes s (leAt d 0x38 8) 16) = some plain →
      Completes (.mgmtOpen dl) s fun t =>
        t.cph.mreqs = rest ∧ [Output.interrupt m] <+: t.out ∧ Only (endDescriptor (memWrite (pipeKeyed s d) (leAt d 0x30 8) plain) m a .ok) t [] []) ∧
    (∀ (m a dl : Nat) (rest : List (Nat × Nat)) (d key : List Byte) (s : State),
      Serves s 2 m a rest d key →
      gcmOpen key (bytesAt d 8 12) (memBytes s (leAt d 0x20 8) (leAt d 0x14 4 % 2 ^ 21)) (memBytes s (leAt d 0x28 8) (leAt d 0x18 4 % 2 ^ 21)) (memBytes s (leAt d 0x38 8) 16) = none →
      Completes (.mgmtOpen dl) s fun t =>
        t.cph.mreqs = rest ∧ [Output.interrupt m] <+: t.out ∧ Only (endDescriptor (pipeKeyed s d) m a .tagFail) t [] []) ∧
    (∀ (m a dl : Nat) (rest : List (Nat × Nat)) (d key : List Byte) (s : State),
      Serves s 3 m a rest d key →
      Completes (.mgmtGmac dl) s fun t =>
        t.cph.mreqs = rest ∧ [Output.interrupt m] <+: t.out ∧ Only (endDescriptor (memWrite (pipeKeyed s d) (leAt d 0x38 8) (gcmTag key (bytesAt d 8 12) (memBytes s (leAt d 0x20 8) (leAt d 0x14 4 % 2 ^ 21)) [])) m a .ok) t [] []) ∧
    (∀ (m a dl : Nat) (rest : List (Nat × Nat)) (d : List Byte) (s : State),
      Works s → dramReady s = true → s.cph.mreqs = (m, a) :: rest → d = memBytes s a 64 → inDram a 64 = true → leAt d 0 1 % 16 = 3 →
      leAt d 0x14 4 % 2 ^ 21 = 0 → leAt d 0x18 4 % 2 ^ 21 = 0 →
      Completes (.mgmtGmac dl) s fun t =>
        t.cph.mreqs = rest ∧ [Output.interrupt m] <+: t.out ∧ Only (endDescriptor (pipeKeyed s d) m a .zeroLength) t [] []) ∧
    (∀ (m a dl : Nat) (rest : List (Nat × Nat)) (d : List Byte) (s : State),
      Works s → dramReady s = true → s.cph.mreqs = (m, a) :: rest → d = memBytes s a 64 → inDram a 64 = true → leAt d 0 1 % 16 = 3 →
      (2 ^ 20 < leAt d 0x14 4 % 2 ^ 21 ∨ 2 ^ 20 < leAt d 0x18 4 % 2 ^ 21) →
      Completes (.mgmtGmac dl) s fun t =>
        t.cph.mreqs = rest ∧ [Output.interrupt m] <+: t.out ∧ Only (endDescriptor (pipeKeyed s d) m a .range) t [] []) ∧
    (∀ (m a dl : Nat) (rest : List (Nat × Nat)) (d : List Byte) (s : State),
      Works s → dramReady s = true → s.cph.mreqs = (m, a) :: rest → d = memBytes s a 64 → inDram a 64 = true → leAt d 0 1 % 16 = 3 →
      0 < leAt d 0x14 4 % 2 ^ 21 → leAt d 0x14 4 % 2 ^ 21 ≤ 2 ^ 20 → leAt d 0x18 4 % 2 ^ 21 ≤ 2 ^ 20 →
      inDram (leAt d 0x20 8) (leAt d 0x14 4 % 2 ^ 21) = true → inDram (leAt d 0x38 8) 16 = true → isSystemSlot (mgmtSlot d) = false →
      Completes (.mgmtGmac dl) s fun t =>
        t.cph.mreqs = rest ∧ [Output.interrupt m] <+: t.out ∧ Only (endDescriptor (pipeKeyed s d) m a .notAllowed) t [] [])

/-- The security core's WRITE, UNWRAP and GENERATE load an EMPTY slot with TKR_DATA, with the value unwrapped under the wrapping slot, or with a fresh
value, and a WRITE over another value retires the old one where a block holds it, while one of the same value changes nothing; WRAP puts the wrapped
tenant key into TKR_OUT; ERASE empties a run of slots. Each ends with its RESULT and TKR_DATA zero. A slot the operation may not touch, and every
store and WRAP under ALARM_LOCK, changes no slot; a write by any other master is refused and recorded. A slot found with a parity error is erased, and
a zeroisation that does not read back as zero is an alarm. A retired copy goes 64 µs after its rewrite, and a block under it starts again. -/
def Obligations.TackRoom : Prop :=
    (∀ (slot : Nat) (s : State),
      TkrIdle s → isSystemSlot slot = true → spFind s.tkr.slots slot = none →
      Completes (.tkrWrite idSec slot false) s fun t =>
        TkrEnded t .ok ∧ spFind t.tkr.slots slot = some (keyOf (tkrDataBytes s 8)) ∧ (∀ i ∈ List.range 10, getF t (F.tkrOut_word i) = 0) ∧ (∀ k, k ≠ slot → spFind t.tkr.slots k = spFind s.tkr.slots k) ∧ Only s t [.tkr] tkrAddrs) ∧
    (∀ (slot : Nat) (old : BitVec 256) (s : State),
      TkrIdle s → isSystemSlot slot = true → spFind s.tkr.slots slot = some old → old ≠ keyOf (tkrDataBytes s 8) → s.tkr.retired.length < 64 →
      (s.cph.ctxs.any fun kv => holdsKey kv.2 slot (keyVersion s slot)) = true →
      ((∀ r ∈ s.tkr.retired, (s.cph.ctxs.any fun kv => holdsKey kv.2 r.keySlot r.version) = true)) →
      Completes (.tkrWrite idSec slot false) s fun t =>
        TkrEnded t .ok ∧ spFind t.tkr.slots slot = some (keyOf (tkrDataBytes s 8)) ∧ keyVersion t slot = keyVersion s slot + 1 ∧ t.tkr.retired = s.tkr.retired ++ [⟨slot, keyVersion s slot, old, s.clk.us⟩] ∧ (∀ i ∈ List.range 10, getF t (F.tkrOut_word i) = 0) ∧ (∀ k, k ≠ slot → spFind t.tkr.slots k = spFind s.tkr.slots k) ∧ Only s t [.tkr, .cph] tkrAddrs) ∧
    (∀ (slot : Nat) (s : State),
      TkrIdle s → isSystemSlot slot = true → spFind s.tkr.slots slot = some (keyOf (tkrDataBytes s 8)) →
      Completes (.tkrWrite idSec slot false) s fun t =>
        TkrEnded t .unchanged ∧ (∀ i ∈ List.range 10, getF t (F.tkrOut_word i) = 0) ∧ Only s t [] tkrAddrs) ∧
    (∀ (slot : Nat) (s : State),
      TkrIdle s → isSystemSlot slot = false → slot < 8192 →
      Completes (.tkrWrite idSec slot false) s fun t =>
        TkrEnded t .notAllowed ∧ (∀ i ∈ List.range 10, getF t (F.tkrOut_word i) = 0) ∧ Only s t [] tkrAddrs) ∧
    (∀ (slot : Nat) (s : State),
      TkrIdle s → isSystemSlot slot = false → slot < 8192 →
      Completes (.tkrGenerate idSec slot false) s fun t =>
        TkrEnded t .notAllowed ∧ (∀ i ∈ List.range 10, getF t (F.tkrOut_word i) = 0) ∧ Only s t [] tkrAddrs) ∧
    (∀ (slot w : Nat) (s : State),
      TkrIdle s → slot < 8192 → w < 8192 → (slot = slotCtxWrap ∨ 4160 ≤ slot ∨ (w ≠ slotImport ∧ w ≠ slotMigration)) →
      Completes (.tkrUnwrap idSec slot w false) s fun t =>
        TkrEnded t .notAllowed ∧ (∀ i ∈ List.range 10, getF t (F.tkrOut_word i) = 0) ∧ Only s t [] tkrAddrs) ∧
    (∀ (slot w : Nat) (s : State),
      TkrIdle s → slot < 8192 → w < 8192 → (4096 ≤ slot ∨ w ≠ slotMigration) →
      Completes (.tkrWrap idSec slot w false) s fun t =>
        TkrEnded t .notAllowed ∧ (∀ i ∈ List.range 10, getF t (F.tkrOut_word i) = 0) ∧ Only s t [] tkrAddrs) ∧
    (∀ (slot : Nat) (s : State),
      Powered s → domainOn s .sec = true → flag s F.tkrCmd_go = false → s.tkr.waiting = false → flag s F.tkrStat_alarmLock = true →
      isSystemSlot slot = true →
      Completes (.tkrWrite idSec slot false) s fun t =>
        TkrEnded t .locked ∧ (∀ i ∈ List.range 10, getF t (F.tkrOut_word i) = 0) ∧ Only s t [] tkrAddrs) ∧
    (∀ (slot : Nat) (s : State),
      Powered s → domainOn s .sec = true → flag s F.tkrCmd_go = false → s.tkr.waiting = false → flag s F.tkrStat_alarmLock = true →
      isSystemSlot slot = true →
      Completes (.tkrGenerate idSec slot false) s fun t =>
        TkrEnded t .locked ∧ (∀ i ∈ List.range 10, getF t (F.tkrOut_word i) = 0) ∧ Only s t [] tkrAddrs) ∧
    (∀ (slot w : Nat) (s : State),
      Powered s → domainOn s .sec = true → flag s F.tkrCmd_go = false → s.tkr.waiting = false → flag s F.tkrStat_alarmLock = true → slot < 4160 →
      slot ≠ slotCtxWrap → (w = slotImport ∨ w = slotMigration) →
      Completes (.tkrUnwrap idSec slot w false) s fun t =>
        TkrEnded t .locked ∧ (∀ i ∈ List.range 10, getF t (F.tkrOut_word i) = 0) ∧ Only s t [] tkrAddrs) ∧
    (∀ (slot : Nat) (s : State),
      Powered s → domainOn s .sec = true → flag s F.tkrCmd_go = false → s.tkr.waiting = false → flag s F.tkrStat_alarmLock = true → slot < 4096 →
      Completes (.tkrWrap idSec slot slotMigration false) s fun t =>
        TkrEnded t .locked ∧ (∀ i ∈ List.range 10, getF t (F.tkrOut_word i) = 0) ∧ Only s t [] tkrAddrs) ∧
    (∀ (m slot : Nat) (s : State),
      Works s → domainOn s .sec = true → reservedMaster m = false → m ≠ idSec → m ≠ idHostPf →
      Completes (.tkrWrite m slot false) s fun t =>
        Output.errorResponse m F.tkrCmd_go.addr ∈ t.out ∧ flag t F.tkrErr_refused = true ∧ Only s t [.csh] [F.tkrErr_refused.addr, (F.cshMissed_total 10).addr]) ∧
    (∀ (slot w : Nat) (kek v : List Byte) (s : State),
      TkrIdle s → slot < 4160 → slot ≠ slotCtxWrap → (w = slotImport ∨ w = slotMigration) → (4096 ≤ slot ∨ tenantLocked s = false) →
      keyBytes s w = some kek → keyUnwrap kek (tkrDataBytes s 10) = some v → spFind s.tkr.slots slot = none →
      Completes (.tkrUnwrap idSec slot w false) s fun t =>
        TkrEnded t .ok ∧ spFind t.tkr.slots slot = some (keyOf v) ∧ (∀ i ∈ List.range 10, getF t (F.tkrOut_word i) = 0) ∧ (∀ k, k ≠ slot → spFind t.tkr.slots k = spFind s.tkr.slots k) ∧ Only s t [.tkr] tkrAddrs) ∧
    (∀ (slot w : Nat) (kek : List Byte) (s : State),
      TkrIdle s → slot < 4160 → slot ≠ slotCtxWrap → (w = slotImport ∨ w = slotMigration) → (4096 ≤ slot ∨ tenantLocked s = false) →
      keyBytes s w = some kek → keyUnwrap kek (tkrDataBytes s 10) = none →
      Completes (.tkrUnwrap idSec slot w false) s fun t =>
        TkrEnded t .unwrapFail ∧ (∀ i ∈ List.range 10, getF t (F.tkrOut_word i) = 0) ∧ Only s t [] tkrAddrs) ∧
    (∀ (slot : Nat) (v kek : List Byte) (s : State),
      TkrIdle s → slot < 4096 → keyBytes s slot = some v → keyBytes s slotMigration = some kek →
      Completes (.tkrWrap idSec slot slotMigration false) s fun t =>
        TkrEnded t .ok ∧ (∀ i ∈ List.range 10, getF t (F.tkrOut_word i) = leAt (keyWrap kek v) (4 * i) 4) ∧ Only s t [] tkrAddrs) ∧
    (∀ (slot : Nat) (v : BitVec 256) (s : State),
      TkrIdle s → slot < 4096 → spFind s.tkr.slots slot = some v → s.hif.slots = [] →
      Completes (.tkrWrap idSec slot slotMigration true) s fun t =>
        TkrEnded t .empty ∧ t.tkr.slots = (s.tkr.slots.filter fun kv => kv.1 != slot) ∧ flag t F.tkrErr_slotParity = true ∧ (∀ i ∈ List.range 10, getF t (F.tkrOut_word i) = 0) ∧ Only s t [.tkr, .cph, .csh] (tkrAddrs ++ [F.tkrErr_slotParity.addr, (F.cshMissed_total 10).addr])) ∧
    (∀ (slot count : Nat) (s : State),
      TkrIdle s → count ≠ 0 → slot + count ≤ 4160 → slot ≠ slotCtxWrap → s.hif.slots = [] →
      Completes (.tkrErase idSec slot count false) s fun t =>
        TkrEnded t .ok ∧ t.tkr.slots = (s.tkr.slots.filter fun kv => !decide (slot ≤ kv.1 ∧ kv.1 < slot + count)) ∧ (∀ r ∈ t.tkr.retired, r.keySlot < slot ∨ slot + count ≤ r.keySlot) ∧ (∀ i ∈ List.range 10, getF t (F.tkrOut_word i) = 0) ∧ Only s t [.tkr, .cph] tkrAddrs) ∧
    (∀ (slot count : Nat) (s : State),
      TkrIdle s → count ≠ 0 → slot + count ≤ 4160 → slot ≠ slotCtxWrap → s.hif.slots = [] → alarmAction s 4 ≤ 1 → getF s F.dbgUnlock_status ≠ 2 →
      Completes (.tkrErase idSec slot count true) s fun t =>
        TkrEnded t .ok ∧ t.tkr.slots = (s.tkr.slots.filter fun kv => !decide (slot ≤ kv.1 ∧ kv.1 < slot + count)) ∧ (∀ r ∈ t.tkr.retired, r.keySlot < slot ∨ slot + count ≤ r.keySlot) ∧ flag t F.tkrErr_zeroiseFail = true ∧ bitAt (getF t F.secAlarmStat_latched) 4 = true ∧ Only s t [.tkr, .cph, .csh] (tkrAddrs ++ [F.tkrErr_zeroiseFail.addr, F.secAlarmStat_latched.addr, (F.cshMissed_total 10).addr, (F.cshMissed_total 14).addr])) ∧
    (∀ (slot : Nat) (s : State),
      TkrIdle s → slot < 8192 →
      Completes (.tkrErase idSec slot 0 false) s fun t =>
        TkrEnded t .zeroLength ∧ (∀ i ∈ List.range 10, getF t (F.tkrOut_word i) = 0) ∧ Only s t [] tkrAddrs) ∧
    (∀ (slot count : Nat) (s : State),
      TkrIdle s → slot < 8192 → count < 8192 → count ≠ 0 → 4160 < slot + count →
      Completes (.tkrErase idSec slot count false) s fun t =>
        TkrEnded t .range ∧ (∀ i ∈ List.range 10, getF t (F.tkrOut_word i) = 0) ∧ Only s t [] tkrAddrs) ∧
    (∀ (count : Nat) (s : State),
      TkrIdle s → count ≠ 0 → slotCtxWrap + count ≤ 4160 →
      Completes (.tkrErase idSec slotCtxWrap count false) s fun t =>
        TkrEnded t .notAllowed ∧ (∀ i ∈ List.range 10, getF t (F.tkrOut_word i) = 0) ∧ Only s t [] tkrAddrs) ∧
    (∀ (slot : Nat) (s : State),
      TkrIdle s → isSystemSlot slot = true → spFind s.tkr.slots slot = none →
      Completes (.tkrGenerate idSec slot false) s fun t =>
        TkrEnded t .ok ∧ spFind t.tkr.slots slot = some (BitVec.ofNat 256 (Config.freeNat s.free)) ∧ t.free = s.free + 1 ∧ (∀ i ∈ List.range 10, getF t (F.tkrOut_word i) = 0) ∧ (∀ k, k ≠ slot → spFind t.tkr.slots k = spFind s.tkr.slots k) ∧ Only s t [.tkr, .free] tkrAddrs) ∧
    (∀ (r : RetiredKey) (rest : List RetiredKey) (s : State),
      Powered s → s.tkr.retired = r :: rest → s.tkr.waiting = false → (s.cph.ctxs.any fun kv => holdsKey kv.2 r.keySlot r.version) = false →
      Completes (.retiredCopyExpiry false) s fun t =>
        t.tkr = { s.tkr with retired := rest } ∧ t.clk.us = max s.clk.us (r.since + 64) ∧ Only s t [.tkr, .clk] []) ∧
    (∀ (i : Nat) (c : Ctx) (b : CtxBlock) (r : RetiredKey) (rest : List RetiredKey) (s : State),
      Powered s → s.tkr.retired = r :: rest → s.tkr.waiting = false → s.cph.ctxs = [(i, c)] → c.keySlot = r.keySlot → c.blk = some b →
      b.version = r.version →
      Completes (.retiredCopyExpiry false) s fun t =>
        t.tkr = { s.tkr with retired := rest } ∧ t.cph = { s.cph with ctxs := [(i, { c with blk := some (blockFromStart (keyVersion s c.keySlot) b) })] } ∧ t.clk.us = max s.clk.us (r.since + 64) ∧ Only s t [.tkr, .clk, .cph] [])

/-- The security core takes the active firmware slot whose images pass their checks, or the other one; without one the boot stops. It waits at step 3
until the DRAM is READY, then selects the profile and releases the cores at step 7. Boot complete, after an epoch tick and with every bay settled,
reloads the metadata of the journal unless the boot is WARM, sets BOOT_OK and starts fetch and admission. -/
def Obligations.Boot : Prop :=
    (∀ (s : State),
      Powered s → s.sec.released = false → s.lrs.bootStopped = false → domainOn s .sec = true → pmuState s < 2 → chooseSlot s = none →
      Completes (.securityBoot) s fun t =>
        getF t F.prfBoot_stop = 2 ∧ t.lrs = { s.lrs with bootStopped := true } ∧ (funcOf t 0).regs.cfs = true ∧ Only s t [.lrs, .hif] [F.prfBoot_stop.addr]) ∧
    (∀ (k : Nat) (fb : Bool) (s : State),
      Powered s → s.sec.released = false → s.lrs.bootStopped = false → domainOn s .sec = true → pmuState s < 2 → chooseSlot s = some (k, fb) →
      dramReady s = false →
      Completes (.securityBoot) s fun t =>
        getF t F.prfBoot_stage = 3 ∧ getF t F.secLc_bootSlot = k - 1 ∧ getF t F.secLc_fallback = b2n fb ∧ t.sec.secDigest = sha384 (fwSlotOf s k).security ∧ t.sec.released = s.sec.released ∧ getF t F.secLc_rootIdx = imageKeyIdx (fwSlotOf s k).security ∧ Only s t [.sec] [F.prfBoot_stage.addr, F.secLc_bootSlot.addr]) ∧
    (∀ (k p src : Nat) (fb : Bool) (s : State),
      Powered s → s.sec.released = false → s.lrs.bootStopped = false → domainOn s .sec = true → pmuState s < 2 → chooseSlot s = some (k, fb) →
      dramReady s = true → s.sec.warmBoot = false → selectProfile s = some (p, src) → (bootRecord s).seq + 1 < 2 ^ 32 →
      Completes (.securityBoot) s fun t =>
        getF t F.prfBoot_stage = 7 ∧ t.sec.released = true ∧ domainOn t .mgmt = true ∧ (bootRecord t).lastProfile = p ∧ t.sec.measured = [(2, (fwSlotOf s k).security), (3, (fwSlotOf s k).management), (4, profileImage s p)] ∧
        (spFind t.tkr.slots slotJournal).isSome = true ∧ (spFind t.tkr.slots slotCtxWrap).isSome = true ∧ OnlyParts s t [.sec, .nor, .mep, .tkr, .cph, .mbx, .pmu, .lrs, .age, .free, .prf, .vfm, .shadow, .csh, .hif, .zrs, .sch, .rch, .mhm]) ∧
    (∀ (s : State),
      Powered s → s.sec.released = true → s.lrs.bootStopped = false → getF s F.prfBoot_stage ≠ 10 → dramReady s = true → baysSettled s = true →
      s.age.fwStart < s.clk.lastTick → s.sec.warmBoot = false → s.jrn.zones = [] → s.zrs.zst = [] → s.hif.sanitize.running = none →
      s.sec.secFlags = 0 →
      Completes (.bootCompleteReport false true) s fun t =>
        getF t F.prfBoot_stage = 10 ∧ flag t F.secLc_bootOk = true ∧ t.hif.fetchStopped = false ∧ t.hif.admissionStopped = false ∧ t.nss = s.jrn.nss ∧ t.zrs = { s.zrs with map := [] } ∧ Only s t [.hif, .nss, .zrs] [F.prfBoot_stage.addr, F.secLc_bootOk.addr]) ∧
    (∀ (s : State),
      Powered s → s.sec.released = true → s.lrs.bootStopped = false → getF s F.prfBoot_stage ≠ 10 → dramReady s = true → baysSettled s = true →
      s.age.fwStart < s.clk.lastTick → s.sec.warmBoot = true → s.zrs.map = [] → s.hif.sanitize.running = none → s.sec.secFlags = 0 →
      Completes (.bootCompleteReport false true) s fun t =>
        getF t F.prfBoot_stage = 10 ∧ flag t F.secLc_bootOk = true ∧ t.hif.fetchStopped = false ∧ t.hif.admissionStopped = false ∧ Only s t [.hif] [F.prfBoot_stage.addr, F.secLc_bootOk.addr]) ∧
    (∀ (ok : Bool) (s : State),
      Powered s → s.sec.released = true → s.lrs.bootStopped = false → getF s F.prfBoot_stage ≠ 10 → dramReady s = true → baysSettled s = true →
      s.age.fwStart < s.clk.lastTick → s.hif.sanitize.running = none →
      Completes (.bootCompleteReport false ok) s fun t =>
        getF t F.prfBoot_stage = 10 ∧ flag t F.secLc_bootOk = true ∧ t.hif.fetchStopped = false ∧ t.hif.admissionStopped = false) ∧
    (∀ (e : Nat) (m : ZoneMapEntry) (z : ZstEntry) (h : Option WriteRecord) (s : State),
      Powered s → s.sec.released = true → s.lrs.bootStopped = false → getF s F.prfBoot_stage ≠ 10 → dramReady s = true → baysSettled s = true →
      s.age.fwStart < s.clk.lastTick → s.sec.warmBoot = false → s.jrn.zones = [(e, ⟨m, some z, h⟩)] → m.bound = true → z.bound = true →
      isActiveState z.state = true → z.durableHr * hrSlots z.tier < recHorizon ⟨m, some z, h⟩ → s.zrs.zst = [] → s.hif.sanitize.running = none →
      Completes (.bootCompleteReport false true) s fun t =>
        zoneState t e = .full ∧ (boundZone t e).map (fun x => (x.1, x.2.wpHost, x.2.wpPhys, x.2.finished)) = some (m.pzn, durableOffsets z, z.durableHr * hrSlots z.tier, true)) ∧
    (∀ (s : State),
      Powered s → s.sec.released = true → s.lrs.bootStopped = false → getF s F.prfBoot_stage ≠ 10 → dramReady s = true → baysSettled s = true →
      s.age.fwStart < s.clk.lastTick → s.sec.warmBoot = true → s.zrs.map = [] → s.hif.sanitize.running = none → bitAt s.sec.secFlags 0 = true →
      s.otp.arb < s.sec.secSvn → field s.sec.secFlags 7 4 = 0 →
      Completes (.bootCompleteReport false true) s fun t =>
        t.otp = { s.otp with arb := s.sec.secSvn } ∧ getF t F.prfBoot_stage = 10 ∧ Only s t [.hif, .otp] [F.prfBoot_stage.addr, F.secLc_bootOk.addr]) ∧
    (∀ (ok : Bool) (s : State),
      Powered s → s.sec.released = true → s.lrs.bootStopped = false → getF s F.prfBoot_stage ≠ 10 → dramReady s = true → baysSettled s = true →
      s.age.fwStart < s.clk.lastTick → s.sec.warmBoot = false →
      Completes (.bootCompleteReport true ok) s fun t =>
        getF t F.prfBoot_stop = 6 ∧ t.lrs = { s.lrs with bootStopped := true } ∧ (funcOf t 0).regs.cfs = true ∧ Only s t [.lrs, .hif] [F.prfBoot_stop.addr])

/-- The rise of VDD_AON latches the straps, counts PWRCYC and boots to step 3; so does the rise of SHELF_RST_N without the count. SHELF_RST_N low, and
PERST#, reset every register field of their strength, set their cause and turn the domains off; PERST# leaves the host domain on and the journal, and
the DRAM bytes, as they are. With VDD_AON gone the device is off, and what is not in non-volatile storage is lost. -/
def Obligations.Resets : Prop :=
    (∀ (p r d k : Nat) (fb : Bool) (s : State),
      s.pmu.off = true → strapsValid ⟨p % 4, r % 4, d % 16⟩ = true → s.sec.released = false → s.lrs.bootStopped = false → pmuState s < 2 →
      chooseSlot s = some (k, fb) → getF s F.dmcStat_state ≠ 4 → s.jrn.removed = 0 →
      Completes (.coldReset p r d) s fun t =>
        t.pmu.off = false ∧ t.straps = ⟨p % 4, r % 4, d % 16⟩ ∧ t.pmu.on = bootDomains t ∧ t.clk = { s.clk with ophours := if s.clk.powered = false ∧ lifecycle s = 0 then 0 else s.clk.ophours, pwrcyc := if s.clk.powered = false ∧ lifecycle s = 0 then 1 else min (s.clk.pwrcyc + 1) 0xFFFFFF, powered := true } ∧
        t.age = { s.age with history := appendHistory s.age.history t.clk.ophours t.clk.pwrcyc } ∧ t.hif.linkUp = linkLeads t ∧ t.sec.warmBoot = false ∧
        getF t F.sysId_devId = d % 16 ∧ getF t F.sysId_role = r % 4 ∧ getF t F.sysId_profileSel = p % 4 ∧ getF t F.prfBoot_stage = 3 ∧ getF t F.secLc_bootSlot = k - 1 ∧ getF t F.secLc_fallback = b2n fb ∧ t.sec.secDigest = sha384 (fwSlotOf s k).security ∧ t.sec.released = s.sec.released ∧ Only s t [.clk, .age, .straps, .sec, .pmu, .hif] ([F.sysId_role.addr, F.secUid_devUid.addr, F.slkErr_strap.addr, F.slkLeader_isLeader.addr, F.slkRemove_removed.addr, F.prfSel_valid.addr, F.prfBoot_stage.addr, F.secLc_bootSlot.addr] ++ (List.range 16).map fun d => (F.slkRoute_valid d).addr)) ∧
    (∀ (fails : List (Nat × Nat × Bool)) (s : State),
      Powered s → s.lrs.shelfReset = false → s.dmc.chans = [] → s.mhm.relocs = [] → s.sch.dies = [] → s.jrn.waiting = [] → Regs.wf s = true →
      Completes (.shelfRstAssert fails) s fun t =>
        t.pmu.on = [] ∧ t.lrs.shelfReset = true ∧ flag t F.rstCause_shelf = true ∧ t.hif.slots = [] ∧ t.mep.dram = [] ∧ t.tkr.slots = [] ∧ t.jrn = { s.jrn with waiting := [], waitSince := none } ∧ OnlyParts s t [.shadow, .pmu, .lrs, .aon, .hif, .vfm, .zrs, .jrn, .sch, .bay, .rch, .mhm, .mep, .dmc, .sbg, .cph, .tkr, .sec, .dbg, .spdm, .mi, .mbx, .slk, .prf, .pins] ∧
        (∀ a d i, regAt a = some (d, i) → a ∉ ([F.sysId_role.addr, F.secUid_devUid.addr, F.slkErr_strap.addr, F.slkLeader_isLeader.addr, F.slkRemove_removed.addr, F.prfSel_valid.addr, F.prfBoot_stage.addr, F.secLc_bootSlot.addr, F.rstCause_shelf.addr] ++ (List.range 16).map fun d => (F.slkRoute_valid d).addr) → a ∉ settledAddrs → regVal t a = resetFields d i (fun f => clearedAt .shelf f.cleared) (regVal s a))) ∧
    (∀ (fails : List (Nat × Nat × Bool)) (s : State),
      Powered s → s.lrs.shelfReset = false →
      Completes (.shelfRstAssert fails) s fun t =>
        t.pmu.on = [] ∧ t.lrs.shelfReset = true ∧ flag t F.rstCause_shelf = true ∧ t.hif.slots = [] ∧ t.sch.dies = [] ∧ t.mep.dram = [] ∧ t.tkr.slots = [] ∧ t.cph.ctxs = [] ∧ t.mbx.chans = [] ∧ t.pins.ddr = .reset) ∧
    (∀ (fails : List (Nat × Nat × Bool)) (s : State),
      Powered s → s.lrs.perst = false → s.lrs.shelfReset = false →
      Completes (.perstAssert fails) s fun t =>
        t.pmu.on = [.host] ∧ t.lrs.perst = true ∧ flag t F.rstCause_warm = true ∧ t.hif.slots = [] ∧ t.sch.dies = [] ∧ t.tkr.slots = [] ∧ t.cph.ctxs = []) ∧
    (∀ (p r d k : Nat) (fb : Bool) (s : State),
      Powered s → s.lrs.shelfReset = true → strapsValid ⟨p % 4, r % 4, d % 16⟩ = true → s.sec.released = false → s.lrs.bootStopped = false →
      pmuState s < 2 → chooseSlot s = some (k, fb) → getF s F.dmcStat_state ≠ 4 → s.jrn.removed = 0 →
      Completes (.shelfRstRelease p r d) s fun t =>
        t.lrs.shelfReset = false ∧ t.straps = ⟨p % 4, r % 4, d % 16⟩ ∧ t.pmu.on = bootDomains t ∧ t.clk = s.clk ∧ getF t F.prfBoot_stage = 3 ∧ getF t F.secLc_bootSlot = k - 1 ∧ getF t F.secLc_fallback = b2n fb ∧ t.sec.secDigest = sha384 (fwSlotOf s k).security ∧ t.sec.released = s.sec.released ∧ Only s t [.lrs, .straps, .sec, .pmu, .hif] ([F.sysId_role.addr, F.secUid_devUid.addr, F.slkErr_strap.addr, F.slkLeader_isLeader.addr, F.slkRemove_removed.addr, F.prfSel_valid.addr, F.prfBoot_stage.addr, F.secLc_bootSlot.addr] ++ (List.range 16).map fun d => (F.slkRoute_valid d).addr)) ∧
    (∀ (fails : List (Nat × Nat × Bool)) (s : State),
      Powered s → s.lrs.perst = false → s.lrs.shelfReset = false → s.dmc.chans = [] → s.mep.merge = [] →
      ((∀ kv ∈ s.mbx.chans, kv.2.st ≠ .claimed ∧ kv.2.st ≠ .full)) → s.mhm.relocs = [] → s.sch.dies = [] → s.jrn.waiting = [] → Regs.wf s = true →
      Completes (.perstAssert fails) s fun t =>
        t.pmu.on = [.host] ∧ t.lrs.perst = true ∧ flag t F.rstCause_warm = true ∧ t.hif.slots = [] ∧ t.mep.dram = s.mep.dram ∧ t.tkr.slots = [] ∧ t.nss = s.nss ∧ t.zrs.zst = s.zrs.zst ∧ t.zrs.map = s.zrs.map ∧ OnlyParts s t [.shadow, .pmu, .lrs, .aon, .hif, .vfm, .zrs, .sch, .bay, .rch, .mhm, .mep, .dmc, .sbg, .cph, .tkr, .sec, .dbg, .spdm, .mi, .slk, .prf, .pins] ∧
        (∀ a d i, regAt a = some (d, i) → a ∉ ([F.sysId_role.addr, F.secUid_devUid.addr, F.slkErr_strap.addr, F.slkLeader_isLeader.addr, F.slkRemove_removed.addr, F.prfSel_valid.addr, F.prfBoot_stage.addr, F.secLc_bootSlot.addr, F.rstCause_warm.addr] ++ (List.range 16).map fun d => (F.slkRoute_valid d).addr) → a ∉ settledAddrs → regVal t a = resetFields d i (fun f => clearedAt .warm f.cleared) (regVal s a))) ∧
    (∀ (k : Nat) (fb : Bool) (s : State),
      Powered s → s.lrs.perst = true → strapsValid s.straps = true → s.sec.released = false → s.lrs.bootStopped = false → pmuState s < 2 →
      chooseSlot s = some (k, fb) → s.dmc.selfRefresh = true → s.dmc.storeValid = false → s.jrn.removed = 0 →
      Completes (.perstRelease false) s fun t =>
        t.lrs.perst = false ∧ t.sec.warmBoot = true ∧ t.pmu.on = bootDomains t ∧ t.dmc.selfRefresh = false ∧ getF t F.dmcStat_state = 2 ∧ getF t F.prfBoot_stage = 3 ∧ getF t F.secLc_bootSlot = k - 1 ∧ getF t F.secLc_fallback = b2n fb ∧ t.sec.secDigest = sha384 (fwSlotOf s k).security ∧ t.sec.released = s.sec.released ∧ Only s t [.lrs, .sec, .pmu, .hif, .dmc, .pins] ([F.sysId_role.addr, F.secUid_devUid.addr, F.slkErr_strap.addr, F.slkLeader_isLeader.addr, F.slkRemove_removed.addr, F.prfSel_valid.addr, F.prfBoot_stage.addr, F.secLc_bootSlot.addr, F.dmcStat_state.addr] ++ (List.range 16).map fun d => (F.slkRoute_valid d).addr)) ∧
    (∀ (s : State),
      Powered s → s.mhm.relocs = [] → s.sch.dies = [] → s.jrn.waiting = [] → Regs.wf s = true →
      Completes (.powerLoss) s fun t =>
        t.pmu.off = true ∧ t.pmu.on = [] ∧ t.hif.slots = [] ∧ t.mep.dram = [] ∧ t.tkr.slots = [] ∧ t.clk.ophours = s.clk.ophours ∧ t.clk.pwrcyc = s.clk.pwrcyc ∧ t.jrn = { s.jrn with waiting := [], waitSince := none } ∧
        t.nor = { s.nor with busy := false, writers := [] } ∧ OnlyParts s t [.shadow, .clk, .pmu, .lrs, .aon, .csh, .hif, .vfm, .zrs, .jrn, .sch, .bay, .rch, .mhm, .age, .mep, .dmc, .sbg, .cph, .tkr, .sec, .dbg, .spdm, .mi, .mbx, .slk, .nor, .prf, .pins] ∧
        (∀ a d i, regAt a = some (d, i) → a ∉ ([] : List Nat) → a ∉ settledAddrs → regVal t a = resetFields d i (fun f => clearedAt .cold f.cleared) (regVal s a))) ∧
    (∀ (a : Nat) (xs : List Nat) (s : State),
      Powered s → s.lrs.phase = .restart → getF s F.rstLrs_hbTimeout ≠ 0 → (List.range 8).filter (fun c => !s.lrs.written.contains c) = a :: xs →
      getF s F.rstLrs_restarts < 3 → s.jrn.waiting = [] → ((∀ kv ∈ s.mbx.chans, kv.2.st ≠ .claimed ∧ kv.2.st ≠ .full)) →
      Completes (.bootTimeout) s fun t =>
        t.lrs.phase = .restart ∧ getF t F.rstLrs_restarts = getF s F.rstLrs_restarts + 1 ∧ t.hif.fetchStopped = true ∧ t.hif.admissionStopped = true ∧ (funcOf t 0).regs.cfs = true ∧ flag t F.rstCause_clusterLrs = true ∧
        t.lrs.written = [] ∧ s.lrs.sinceFailure + 100000 * getF s F.rstLrs_bootTimeout < t.clk.us ∧ t.sbg.results = [] ∧ t.sec.nonce = none ∧ OnlyParts s t [.clk, .lrs, .hif, .pmu, .csh, .sch, .sbg, .sec, .dbg])

/-- A management core, the LRS or the debug port at FULL asks for a state by PMU_REQ: from ACTIVE or IDLE the other of the two starts its change, STANDBY
or SAFELIGHT its entry with fetch stopped; from STANDBY or SAFELIGHT every state but the present one is reached through an exit; a request for the
state the device is in has no effect; while a change is in flight the request waits, the last one alone. From STANDBY or SAFELIGHT a wake sets its bit
of PMU_WAKE and starts the return to the last operational state. Any other master is refused. In IDLE a bay without work for BAY_IDLE powers down. -/
def Obligations.PowerRequests : Prop :=
    (∀ (m : Nat) (s : State),
      PmuIdle s → Reaches s m F.pmuReq_req.addr true → pmuWriter s m = true → pmuState s = 1 →
      Completes (.pmuReqActive m) s fun t =>
        t.pmu = { s.pmu with flight := .activeIdle, target := .active, viaExit := false, padded := [] } ∧ Only s t [.pmu] []) ∧
    (∀ (m : Nat) (s : State),
      PmuIdle s → Reaches s m F.pmuReq_req.addr true → pmuWriter s m = true → pmuState s = 0 →
      Completes (.pmuReqIdle m) s fun t =>
        t.pmu = { s.pmu with flight := .activeIdle, target := .idle, viaExit := false, padded := [] } ∧ Only s t [.pmu] []) ∧
    (∀ (m : Nat) (s : State),
      PmuIdle s → Reaches s m F.pmuReq_req.addr true → pmuWriter s m = true → pmuState s ≤ 1 →
      Completes (.pmuReqStandby m) s fun t =>
        t.pmu = { s.pmu with flight := .drain, target := .standby, viaExit := false, padded := [] } ∧ t.hif = { s.hif with fetchStopped := true } ∧ Only s t [.pmu, .hif] []) ∧
    (∀ (m : Nat) (s : State),
      PmuIdle s → Reaches s m F.pmuReq_req.addr true → pmuWriter s m = true → pmuState s ≤ 1 →
      Completes (.pmuReqSafelight m) s fun t =>
        t.pmu = { s.pmu with flight := .drain, target := .safelight, viaExit := false, padded := [] } ∧ t.hif = { s.hif with fetchStopped := true } ∧ Only s t [.pmu, .hif] []) ∧
    (∀ (m : Nat) (s : State),
      PmuIdle s → Reaches s m F.pmuReq_req.addr true → pmuWriter s m = true → pmuState s = 0 →
      Completes (.pmuReqActive m) s fun t =>
        Only s t [] []) ∧
    (∀ (m : Nat) (s : State),
      PmuIdle s → Reaches s m F.pmuReq_req.addr true → pmuWriter s m = true → (pmuState s = 2 ∨ pmuState s = 3) →
      Completes (.pmuReqActive m) s fun t =>
        t.pmu = { s.pmu with flight := .exiting, target := .active, viaExit := false, padded := [] } ∧ Only s t [.pmu] []) ∧
    (∀ (m : Nat) (s : State),
      PmuIdle s → Reaches s m F.pmuReq_req.addr true → pmuWriter s m = true → (pmuState s = 2 ∨ pmuState s = 3) →
      Completes (.pmuReqIdle m) s fun t =>
        t.pmu = { s.pmu with flight := .exiting, target := .idle, viaExit := false, padded := [] } ∧ Only s t [.pmu] []) ∧
    (∀ (m : Nat) (s : State),
      PmuIdle s → Reaches s m F.pmuReq_req.addr true → pmuWriter s m = true → pmuState s = 2 →
      Completes (.pmuReqSafelight m) s fun t =>
        t.pmu = { s.pmu with flight := .exiting, target := .safelight, viaExit := true, padded := [] } ∧ Only s t [.pmu] []) ∧
    (∀ (m : Nat) (s : State),
      PmuIdle s → Reaches s m F.pmuReq_req.addr true → pmuWriter s m = true → pmuState s = 3 →
      Completes (.pmuReqStandby m) s fun t =>
        t.pmu = { s.pmu with flight := .exiting, target := lastOp s, pending := some .standby, viaExit := false } ∧ Only s t [.pmu] []) ∧
    (∀ (m : Nat) (s : State),
      Reaches s m F.pmuReq_req.addr true → pmuWriter s m = true → s.lrs.perst = false → s.lrs.shelfReset = false → standalone s = true →
      s.pmu.flight ≠ .none → (s.pmu.flight = .exiting → s.pmu.target ≠ .idle) →
      Completes (.pmuReqIdle m) s fun t =>
        t.pmu = { s.pmu with pending := some .idle } ∧ Only s t [.pmu] []) ∧
    (∀ (m : Nat) (s : State),
      Reaches s m F.pmuReq_req.addr true → pmuWriter s m = false → m ≠ idHostPf →
      Completes (.pmuReqStandby m) s fun t =>
        [Output.errorResponse m F.pmuReq_req.addr] <+: t.out ∧ Only s t [] []) ∧
    (∀ (m : Nat) (s : State),
      PmuIdle s → Reaches s m F.pmuReq_req.addr true → pmuWriter s m = true → (pmuState s = 2 ∨ pmuState s = 3) →
      Completes (.pmuReqWake m) s fun t =>
        flag t F.pmuWake_request = true ∧ t.pmu = { s.pmu with flight := .exiting, target := (lastOp s), viaExit := false, padded := [] } ∧ Only s t [.pmu] [F.pmuWake_request.addr]) ∧
    (∀ (k : Nat) (s : State),
      PmuIdle s → k < 6 → (pmuState s = 2 ∨ pmuState s = 3) →
      Completes (.wakeEvent k) s fun t =>
        flag t ⟨F.pmuWake_doorbell.addr, k, k⟩ = true ∧ t.pmu = { s.pmu with flight := .exiting, target := (lastOp s), viaExit := false, padded := [] } ∧ Only s t [.pmu] [F.pmuWake_doorbell.addr]) ∧
    (∀ (s : State),
      Powered s → s.pmu.flight = .activeIdle → s.pmu.pending = none → getF s F.dbgUnlock_status ≠ dbgChalReady →
      Completes (.activeIdleChange) s fun t =>
        t.pmu = { s.pmu with flight := .none } ∧ pmuState t = b2n (s.pmu.target == .idle) ∧ getF t F.pmuState_ps = (if s.pmu.target = .idle then 2 else if getF s F.pmuState_ps ≤ 1 then getF s F.pmuState_ps else 0) ∧ Only s t [.pmu] []) ∧
    (∀ (b : Nat) (s : State),
      Powered s → pmuState s = stIdle → getF s F.pmuCfg_bayIdle ≠ 0 → (bayOf s b).phase = .ready → (bayOf s b).again = false →
      bayUnused s b = true → b < 4 → bitAt s.pins.bayPwrEn b = true → MailQuiet s → Regs.wf s = true →
      Completes (.bayIdleExpiry b) s fun t =>
        (bayOf t b).phase = .off ∧ bitAt t.pins.bayPwrEn b = false ∧ (∀ c ∈ bayChannels b, (padsOf t c).drive = .unpowered) ∧ (bayOf s b).emptySince + 1000 * getF s F.pmuCfg_bayIdle ≤ t.clk.us ∧ OnlyParts s t [.clk, .bay, .pins, .sch] ∧ (∀ x, x ≠ b → { bayOf t x with emptySince := 0 } = { bayOf s x with emptySince := 0 }) ∧ (∀ d, dieBay d ≠ b → dieOf t d = dieOf s d) ∧ (∀ f : Fld, inBayWindow b f.addr = false → f.addr ∉ settledAddrs → getF t f = getF s f))

/-- An entry goes from the drained work to the firmware's step, SAFELIGHT over its padding, which lasts while a zone's data is not durable; with the
firmware's report, which suspends a scrub or ends it for SAFELIGHT, to the bays, where it waits for the operations on the dies and puts the queued
entries aside; then to the save, which keeps the time base and, for SAFELIGHT, zeroises every key; then to self-refresh, in which SAFELIGHT keeps the
metadata segment alone; and off: the domains of the state go off, and every register field lost over it is at its reset value. At an abort point a
pending wake ends the entry, and a pending STANDBY takes over a SAFELIGHT entry. An exit turns the domains on, starts the SRAM pools afresh, ends
self-refresh with the stored training, lets the time base go on by the epoch ticks passed, and ends in the state it was asked for with fetch on; one
to a SAFELIGHT entry goes on with its padding. After SAFELIGHT the security core boots and fills the system slots first. With a bad training store the
exit waits for the DRAM to be trained. -/
def Obligations.PowerStates : Prop :=
    (∀ (s : State),
      Powered s → s.pmu.flight = .drain → workDrained s = true → s.pmu.target = .standby → s.pmu.pending = none →
      Completes (.admittedWorkDrained) s fun t =>
        t.pmu = { s.pmu with flight := .firmware } ∧ Only s t [.pmu] []) ∧
    (∀ (s : State),
      Powered s → s.pmu.flight = .drain → workDrained s = true → s.pmu.target = .safelight → s.zrs.zst = [] → s.mhm.relocs = [] →
      s.pmu.pending = none →
      Completes (.admittedWorkDrained) s fun t =>
        t.pmu = { s.pmu with flight := .firmware } ∧ t.sch = { s.sch with reserveOff := true } ∧ Only s t [.pmu, .sch] []) ∧
    (∀ (pzn : Nat) (z : ZstEntry) (s : State),
      Powered s → s.pmu.flight = .drain → workDrained s = true → s.pmu.target = .safelight → s.pmu.padded = [] → s.mhm.relocs = [] →
      s.zrs.zst = [(pzn, z)] → boundZone s z.ezn = some (pzn, z) → isActiveState z.state = true → z.durableHr * hrSlots z.tier < z.wpPhys →
      s.pmu.pending = none →
      Completes (.admittedWorkDrained) s fun t =>
        t.pmu.flight = .pad ∧ t.sch.reserveOff = true ∧ t.pmu.padded = [z.ezn]) ∧
    (∀ (s : State),
      Powered s → s.pmu.flight = .drain → workDrained s = true → s.pmu.pending = some .wake → NothingHeld s → s.zrs.cam = [] →
      Completes (.admittedWorkDrained) s fun t =>
        t.pmu = { s.pmu with flight := .none, pending := none, viaExit := false, padded := [] } ∧ pmuState t = b2n (getF s F.pmuState_lastOp == 2) ∧ t.hif = { s.hif with fetchStopped := s.hif.admissionStopped } ∧ t.sch = { s.sch with reserveOff := false } ∧ Only s t [.pmu, .hif, .sch] []) ∧
    (∀ (m : Nat) (s : State),
      Reaches s m F.pmuReq_req.addr true → pmuWriter s m = true → s.pmu.flight = .firmware → s.mhm.acc = [] → s.mhm.updateQ = [] →
      s.jrn.waiting = [] → getF s F.mepScrubCtrl_status ≠ scrubRunning →
      (getF s F.mepScrubCtrl_status ≠ scrubSuspended ∨ s.pmu.target ≠ .safelight) →
      Completes (.stepDone m) s fun t =>
        t.pmu = { s.pmu with flight := .bays } ∧ flag t F.mepFlip_arm = false ∧ Only s t [.pmu] [F.mepFlip_arm.addr]) ∧
    (∀ (m : Nat) (s : State),
      Reaches s m F.pmuReq_req.addr true → pmuWriter s m = true → s.pmu.flight = .firmware → s.mhm.acc = [] → s.mhm.updateQ = [] →
      s.jrn.waiting = [] → getF s F.mepScrubCtrl_status = scrubRunning → flag s F.mepScrubCtrl_space = false → s.pmu.target = .standby →
      Completes (.stepDone m) s fun t =>
        t.pmu = { s.pmu with flight := .bays } ∧ getF t F.mepScrubCtrl_status = scrubSuspended ∧ flag t F.mepFlip_arm = false ∧ Only s t [.pmu] [F.mepFlip_arm.addr, F.mepScrubCtrl_status.addr]) ∧
    (∀ (d : Nat) (e : DieEntry) (bs : List Balance) (s : State),
      Powered s → s.pmu.flight = .bays → s.bay.bays = [] → s.rch.reads = [] → s.rch.pages = [] →
      ((∀ c ∈ List.range 64, getF s (F.fchStat_state c) ≠ 3)) → s.pmu.target = .standby →
      s.sch.dies = [(d, { noDie with queue := [e], balances := bs })] → isReadEntry e = false → s.pmu.pending = none →
      Completes (.standbyEntry) s fun t =>
        t.pmu = { s.pmu with flight := .save } ∧ t.sch.parked = s.sch.parked ++ [(d, e)] ∧ (dieOf t d).queue = [] ∧ Only s t [.pmu, .rch, .sch, .bay] []) ∧
    (∀ (d : Nat) (r : Running) (s : State),
      Powered s → s.pmu.flight = .bays → s.pmu.target = .standby → s.sch.dies = [(d, { noDie with current := some r })] → r.stage = .busy →
      Completes (.standbyEntry) s fun t =>
        t.pmu = s.pmu ∧ t.sch = s.sch ∧ OnlyParts s t [] ∧ (∀ f : Fld, f.addr ∉ settledAddrs → (∀ c ∈ List.range 64, f.addr ≠ (F.fchStat_state c).addr) → getF t f = getF s f)) ∧
    (∀ (s : State),
      Powered s → s.pmu.flight = .bays → s.bay.bays = [] → s.rch.reads = [] → s.rch.pages = [] →
      ((∀ c ∈ List.range 64, getF s (F.fchStat_state c) ≠ 3)) → s.pmu.target = .safelight → s.sch.dies = [] → s.pmu.pending = some .standby →
      Completes (.safelightEntry) s fun t =>
        t.pmu = { s.pmu with flight := .save, target := .standby, pending := none } ∧ Only s t [.pmu, .rch, .sch] []) ∧
    (∀ (s : State),
      Powered s → s.pmu.flight = .save → s.sbg.accums = [] → s.cph.ctxs = [] → s.pmu.pending = none → s.pmu.target = .standby →
      Completes (.standbyEntry) s fun t =>
        t.pmu = { s.pmu with flight := .selfRefresh, savedSch := s.clk.sch, savedEpoch := getF s F.sysEpoch_count } ∧ Only s t [.pmu] []) ∧
    (∀ (s : State),
      Powered s → s.pmu.flight = .save → s.sbg.accums = [] → s.cph.ctxs = [] → s.pmu.pending = none → s.pmu.target = .safelight →
      s.hif.slots = [] →
      Completes (.safelightEntry) s fun t =>
        t.pmu = { s.pmu with flight := .selfRefresh, savedSch := s.clk.sch, savedEpoch := getF s F.sysEpoch_count } ∧ t.tkr.slots = [] ∧ t.tkr.retired = [] ∧ t.cph.keyCache = [] ∧ getF t (F.sbgPoolStat_free 6) = classCount 6 ∧ getF t (F.sbgPoolStat_free 7) = classCount 7 ∧ getF t (F.sbgPoolStat_free 8) = classCount 8 ∧ Only s t [.pmu, .tkr, .cph, .sbg] ([6, 7, 8].map fun k => (F.sbgPoolStat_free k).addr)) ∧
    (∀ (s : State),
      Powered s → s.pmu.flight = .selfRefresh → standalone s = true → s.slk.peers = [] → dramReady s = true → s.dmc.chans = [] → s.mep.merge = [] →
      s.pmu.target = .standby →
      Completes (.standbyEntry) s fun t =>
        t.pmu = { s.pmu with flight := .off } ∧ t.dmc.selfRefresh = true ∧ t.dmc.masked = false ∧ t.mep.dram = s.mep.dram ∧ Only s t [.pmu, .dmc, .pins] [F.dmcStat_state.addr]) ∧
    (∀ (s : State),
      Powered s → s.pmu.flight = .selfRefresh → standalone s = true → s.slk.peers = [] → dramReady s = true → s.dmc.chans = [] → s.mep.merge = [] →
      s.pmu.target = .safelight →
      Completes (.safelightEntry) s fun t =>
        t.pmu = { s.pmu with flight := .off } ∧ t.dmc.selfRefresh = true ∧ t.dmc.masked = true ∧ t.dmc.lost = some s.free ∧ t.free = s.free + 1 ∧ (∀ a, a < 0x1C0000000 → spFind t.mep.dram a = spFind s.mep.dram a) ∧ Only s t [.pmu, .dmc, .pins, .mep, .sbg, .free] [F.dmcStat_state.addr]) ∧
    (∀ (s : State),
      Powered s → s.pmu.flight = .off → getF s F.dbgUnlock_status ≠ dbgChalReady → Regs.wf s = true → MailQuiet s → s.pmu.pending = none →
      s.pmu.target = .standby →
      Completes (.standbyEntry) s fun t =>
        t.pmu.flight = .none ∧ pmuState t = 2 ∧ getF t F.pmuState_ps = 3 ∧ (∀ d ∈ [Domain.data, .mgmt, .dmc, .slk], domainOn t d = false) ∧ (∀ d ∈ [Domain.sec, .host], domainOn t d = domainOn s d) ∧ OnlyParts s t [.shadow, .pmu, .vfm, .sch, .mep, .slk, .rch, .mhm, .sbg, .cph, .dbg] ∧ (∀ a d i, regAt a = some (d, i) → a ∉ settledAddrs → regVal t a = resetFields d i (fun f => lostOver false f.lowPower) (regVal s a))) ∧
    (∀ (s : State),
      Powered s → s.pmu.flight = .off → getF s F.dbgUnlock_status ≠ dbgChalReady → Regs.wf s = true → MailQuiet s → s.pmu.pending = none →
      s.pmu.target = .safelight →
      Completes (.safelightEntry) s fun t =>
        t.pmu.flight = .none ∧ pmuState t = 3 ∧ getF t F.pmuState_ps = 4 ∧ (∀ d ∈ [Domain.data, .mgmt, .dmc, .slk, .sec], domainOn t d = false) ∧ domainOn t .host = domainOn s .host ∧ t.cph.ctxs = [] ∧ t.sec.released = false ∧ OnlyParts s t [.shadow, .pmu, .vfm, .sch, .mep, .slk, .rch, .mhm, .sbg, .cph, .dbg, .sec] ∧ (∀ a d i, regAt a = some (d, i) → a ∉ settledAddrs → regVal t a = resetFields d i (fun f => lostOver true f.lowPower) (regVal s a))) ∧
    (∀ (s : State),
      Powered s → s.pmu.flight = .exiting → s.pmu.viaExit = false → s.pmu.pending = none → domainOn s .data = false → standalone s = true →
      flag s F.slkLeader_isLeader = false → s.dmc.selfRefresh = true → s.dmc.storeValid = true → s.dmc.storeBad = false →
      getF s F.dmcRefresh_poll ≠ 0 → NothingHeld s → pmuState s = 2 →
      Completes (.standbyExit false []) s fun t =>
        t.pmu.flight = .none ∧ t.pmu.on = [.sec, .host, .data, .mgmt, .dmc] ∧ t.clk = { s.clk with sch := s.pmu.savedSch + 32000 * (getF s F.sysEpoch_count - s.pmu.savedEpoch) } ∧ t.dmc.selfRefresh = false ∧ dramReady t = true ∧ t.pins.ddr = .driven ∧
        pmuState t = b2n (s.pmu.target == .idle) ∧ t.hif.fetchStopped = s.hif.admissionStopped ∧ Only s t [.pmu, .clk, .lrs, .sbg, .dmc, .hif, .aon, .pins] (F.dmcStat_state.addr :: ((List.range 6).map fun k => (F.sbgPoolStat_free k).addr))) ∧
    (∀ (s : State),
      Powered s → s.pmu.flight = .exiting → pmuState s = 2 → domainOn s .data = false → standalone s = true → s.dmc.selfRefresh = true →
      Completes (.standbyExit true []) s fun t =>
        t.pmu = { s.pmu with on := [.sec, .host, .data, .mgmt, .dmc] } ∧ getF t F.dmcStat_state = 2 ∧ t.dmc.selfRefresh = false ∧ Only s t [.pmu, .clk, .lrs, .sbg, .dmc, .pins] (F.dmcStat_state.addr :: ((List.range 6).map fun k => (F.sbgPoolStat_free k).addr))) ∧
    (∀ (s : State),
      Powered s → s.pmu.flight = .exiting → s.pmu.viaExit = true → s.pmu.pending = none → pmuState s = 2 → domainOn s .data = true →
      dramReady s = true → s.sch.parked = [] → s.mhm.relocs = [] → s.zrs.zst = [] →
      Completes (.standbyExit false []) s fun t =>
        t.pmu = { s.pmu with flight := .firmware } ∧ t.sch = { s.sch with reserveOff := true } ∧ Only s t [.pmu, .sch] []) ∧
    (∀ (s : State),
      Powered s → s.pmu.flight = .exiting → s.pmu.viaExit = false → s.pmu.pending = none → domainOn s .data = false → standalone s = true →
      flag s F.slkLeader_isLeader = false → s.dmc.selfRefresh = true → s.dmc.storeValid = true → s.dmc.storeBad = false →
      getF s F.dmcRefresh_poll ≠ 0 → NothingHeld s → pmuState s = 3 → flag s F.tkrStat_alarmLock = false → flag s F.tkrCmd_go = false →
      s.tkr.slots = [] → s.tkr.retired = [] →
      Completes (.safelightExit false []) s fun t =>
        t.pmu.flight = .none ∧ t.pmu.on = [.sec, .host, .data, .mgmt, .dmc] ∧ t.clk = { s.clk with sch := s.pmu.savedSch + 32000 * (getF s F.sysEpoch_count - s.pmu.savedEpoch) } ∧ t.dmc.selfRefresh = false ∧ dramReady t = true ∧ t.pins.ddr = .driven ∧
        pmuState t = b2n (s.pmu.target == .idle) ∧ t.hif.fetchStopped = s.hif.admissionStopped ∧ t.sec.released = true ∧ (spFind t.tkr.slots slotJournal).isSome = true ∧ (spFind t.tkr.slots slotCtxWrap).isSome = true ∧ Only s t [.pmu, .clk, .lrs, .sbg, .dmc, .hif, .aon, .mep, .sec, .tkr, .cph, .free, .pins] (F.dmcStat_state.addr :: ((List.range 6).map fun k => (F.sbgPoolStat_free k).addr) ++ tkrAddrs))

/-- A management core, or the debug port at FULL, sets a PLL's EN bit; a running PLL reaches LOCK; a clock moves to its PLL only while it is locked, and
back to FIRC at any time. The loss of lock takes the clock back to FIRC, clears LOCK and raises the CLOCK alarm. L1.2 releases CLKREQ#, its end
asserts it. Another master's write of PMU_CLK is refused. -/
def Obligations.ClocksAndLink : Prop :=
    (∀ (m pll : Nat) (s : State),
      Reaches s m F.pmuClk_en.addr true → pmuWriter s m = true → pll < 4 →
      Completes (.pllEnable m pll) s fun t =>
        bitAt (getF t F.pmuClk_en) pll = true ∧ (∀ k ∈ List.range 4, k ≠ pll → bitAt (getF t F.pmuClk_en) k = bitAt (getF s F.pmuClk_en) k) ∧ getF t F.pmuClk_sel = getF s F.pmuClk_sel ∧ getF t F.pmuClk_lock = getF s F.pmuClk_lock ∧ Only s t [] [F.pmuClk_en.addr]) ∧
    (∀ (pll : Nat) (s : State),
      Powered s → pll < 4 → bitAt (getF s F.pmuClk_en) pll = true →
      Completes (.pllLockAcquired pll) s fun t =>
        bitAt (getF t F.pmuClk_lock) pll = true ∧ (∀ k ∈ List.range 4, k ≠ pll → bitAt (getF t F.pmuClk_lock) k = bitAt (getF s F.pmuClk_lock) k) ∧ getF t F.pmuClk_en = getF s F.pmuClk_en ∧ getF t F.pmuClk_sel = getF s F.pmuClk_sel ∧ Only s t [] [F.pmuClk_en.addr]) ∧
    (∀ (m pll : Nat) (s : State),
      Reaches s m F.pmuClk_en.addr true → pmuWriter s m = true → pll < 4 → bitAt (getF s F.pmuClk_lock) pll = true →
      Completes (.clockSelect m pll true) s fun t =>
        bitAt (getF t F.pmuClk_sel) pll = true ∧ (∀ k ∈ List.range 4, k ≠ pll → bitAt (getF t F.pmuClk_sel) k = bitAt (getF s F.pmuClk_sel) k) ∧ getF t F.pmuClk_en = getF s F.pmuClk_en ∧ getF t F.pmuClk_lock = getF s F.pmuClk_lock ∧ Only s t [] [F.pmuClk_en.addr]) ∧
    (∀ (m pll : Nat) (s : State),
      Reaches s m F.pmuClk_en.addr true → pmuWriter s m = true → pll < 4 → bitAt (getF s F.pmuClk_lock) pll = false →
      Completes (.clockSelect m pll true) s fun t =>
        Only s t [] []) ∧
    (∀ (m pll : Nat) (s : State),
      Reaches s m F.pmuClk_en.addr true → pmuWriter s m = true → pll < 4 →
      Completes (.clockSelect m pll false) s fun t =>
        bitAt (getF t F.pmuClk_sel) pll = false ∧ (∀ k ∈ List.range 4, k ≠ pll → bitAt (getF t F.pmuClk_sel) k = bitAt (getF s F.pmuClk_sel) k) ∧ Only s t [] [F.pmuClk_en.addr]) ∧
    (∀ (pll : Nat) (s : State),
      Powered s → pll < 4 → bitAt (getF s F.pmuClk_lock) pll = true → alarmAction s 1 ≤ 1 → getF s F.dbgUnlock_status ≠ 2 →
      Completes (.pllLockLoss pll) s fun t =>
        bitAt (getF t F.pmuClk_lock) pll = false ∧ bitAt (getF t F.pmuClk_sel) pll = false ∧ bitAt (getF t F.secAlarmStat_latched) 1 = true ∧ Only s t [.csh] [F.pmuClk_en.addr, F.secAlarmStat_latched.addr, (F.cshMissed_total 14).addr]) ∧
    (∀ (m pll : Nat) (s : State),
      Reaches s m F.pmuClk_en.addr true → pmuWriter s m = false → m ≠ idHostPf →
      Completes (.pllEnable m pll) s fun t =>
        [Output.errorResponse m F.pmuClk_en.addr] <+: t.out ∧ Only s t [] []) ∧
    (∀ (m pll : Nat) (sel : Bool) (s : State),
      Reaches s m F.pmuClk_sel.addr true → pmuWriter s m = false → m ≠ idHostPf →
      Completes (.clockSelect m pll sel) s fun t =>
        [Output.errorResponse m F.pmuClk_sel.addr] <+: t.out ∧ Only s t [] []) ∧
    (∀ (s : State),
      Powered s → s.hif.linkUp = true → s.hif.l12 = false →
      Completes (.l12Entry) s fun t =>
        t.hif = { s.hif with l12 := true } ∧ t.pins.clkreqLow = false ∧ [Output.pin .clkreqN true] <+: t.out ∧ Only s t [.hif, .pins] []) ∧
    (∀ (s : State),
      Powered s → s.hif.l12 = true →
      Completes (.l12Exit) s fun t =>
        t.hif = { s.hif with l12 := false } ∧ t.pins.clkreqLow = true ∧ [Output.pin .clkreqN false] <+: t.out ∧ Only s t [.hif, .pins] [])

/-- A core's write of its RST_HB is its heartbeat; with every core's write after a restart, admission resumes. A missed heartbeat or a double fault stops
fetch and admission, sets CSTS.CFS, counts and restarts the cluster, and after three restarts holds it; MC0's request, or the debug port's at FULL,
restarts it without CFS or count, and any other master's is refused. An hour without failure clears the count. SHELF_HB pulses for 500 ms, or for 125
ms as the safe indication, while the checks pass, and has no edge where one fails. -/
def Obligations.LastResort : Prop :=
    (∀ (c : Nat) (s : State),
      Reaches s (idMc c) (0x1000200020 + 4 * c) true → c < 8 → s.lrs.phase ≠ .restart →
      Completes (.rstHbWrite (idMc c) c) s fun t =>
        t.lrs = { s.lrs with beats := listSet s.lrs.beats c s.clk.us, written := addOnce s.lrs.written c } ∧ Only s t [.lrs] []) ∧
    (∀ (c : Nat) (s : State),
      Reaches s (idMc c) (0x1000200020 + 4 * c) true → c < 8 → s.lrs.phase = .restart →
      (List.range 8).all (fun x => (addOnce s.lrs.written c).contains x) = true → s.pmu.flight = .none →
      Completes (.rstHbWrite (idMc c) c) s fun t =>
        t.lrs.phase = .watching ∧ t.hif.admissionStopped = false ∧ t.hif.fetchStopped = false ∧ flag t F.rstCtrl_cluster = false ∧ Only s t [.lrs, .hif] [F.rstLrs_state.addr, F.rstCtrl_cluster.addr]) ∧
    (∀ (m c : Nat) (s : State),
      Reaches s m (0x1000200020 + 4 * c) true → c < 8 → m ≠ idMc c → m ≠ idHostPf →
      Completes (.rstHbWrite m c) s fun t =>
        [Output.errorResponse m (0x1000200020 + 4 * c)] <+: t.out ∧ Only s t [] []) ∧
    (∀ (c : Nat) (s : State),
      Powered s → lrsWatches s = true → (s.dbg.halted.any isMc) = false → c < 8 → getF s F.rstLrs_restarts < 3 → s.jrn.waiting = [] → MailQuiet s →
      Completes (.heartbeatTimeout c) s fun t =>
        t.lrs.phase = .restart ∧ t.hif.fetchStopped = true ∧ t.hif.admissionStopped = true ∧ t.lrs.written = [] ∧ t.sbg.results = [] ∧ getF t F.rstLrs_restarts = getF s F.rstLrs_restarts + 1 ∧ (funcOf t 0).regs.cfs = true ∧ flag t F.rstCause_clusterLrs = true ∧ listAt 0 s.lrs.beats c + 10000 * getF s F.rstLrs_hbTimeout < t.clk.us ∧ OnlyParts s t [.clk, .lrs, .hif, .pmu, .csh, .sch, .sbg, .sec, .dbg]) ∧
    (∀ (c : Nat) (s : State),
      Powered s → lrsWatches { s with lrs := { s.lrs with phase := .watching } } = true → (s.lrs.phase = .watching ∨ s.lrs.phase = .restart) →
      c < 8 → getF s F.rstLrs_restarts < 3 → s.jrn.waiting = [] → MailQuiet s →
      Completes (.doubleFault c) s fun t =>
        t.lrs.phase = .restart ∧ t.hif.fetchStopped = true ∧ t.hif.admissionStopped = true ∧ t.lrs.written = [] ∧ t.sbg.results = [] ∧ getF t F.rstLrs_restarts = getF s F.rstLrs_restarts + 1 ∧ (funcOf t 0).regs.cfs = true ∧ flag t F.rstCause_clusterLrs = true ∧ t.clk = s.clk ∧ OnlyParts s t [.clk, .lrs, .hif, .pmu, .csh, .sch, .sbg, .sec, .dbg]) ∧
    (∀ (c : Nat) (s : State),
      Powered s → lrsWatches { s with lrs := { s.lrs with phase := .watching } } = true → (s.lrs.phase = .watching ∨ s.lrs.phase = .restart) →
      c < 8 → getF s F.rstLrs_restarts = 3 → s.jrn.waiting = [] → s.csh.ports = [] → MailQuiet s →
      Completes (.doubleFault c) s fun t =>
        t.lrs.phase = .hold ∧ t.hif.fetchStopped = true ∧ t.hif.admissionStopped = true ∧ (funcOf t 0).regs.cfs = true ∧ flag t F.rstCause_hold = true ∧ domainOn t .mgmt = false ∧ getF t F.rstLrs_restarts = 3 ∧ t.pins.shelfAlertLow = true ∧ Only s t [.lrs, .hif, .pmu, .csh, .sch, .pins] [F.rstLrs_state.addr, F.rstCause_hold.addr, (F.cshMissed_total 16).addr]) ∧
    (∀ (m : Nat) (s : State),
      Reaches s m 0x1000200008 true → (m = idMc 0 ∨ (m = idDebug ∧ debugFull s = true)) → lrsActive s = false → domainOn s .mgmt = true →
      s.jrn.waiting = [] → MailQuiet s →
      Completes (.cluster m) s fun t =>
        t.lrs.phase = .restart ∧ t.hif.fetchStopped = true ∧ t.hif.admissionStopped = true ∧ t.lrs.written = [] ∧ t.sbg.results = [] ∧ getF t F.rstLrs_restarts = getF s F.rstLrs_restarts ∧ flag t F.rstCause_clusterReq = true ∧ (funcOf t 0).regs.cfs = (funcOf s 0).regs.cfs ∧ OnlyParts s t [.clk, .lrs, .hif, .pmu, .csh, .sch, .sbg, .sec, .dbg]) ∧
    (∀ (m : Nat) (s : State),
      Reaches s m 0x1000200008 true → m ≠ idMc 0 → m ≠ idDebug → m ≠ idHostPf →
      Completes (.cluster m) s fun t =>
        [Output.errorResponse m 0x1000200008] <+: t.out ∧ Only s t [] []) ∧
    (∀ (s : State),
      Powered s → s.lrs.phase = .watching →
      Completes (.restartsClear) s fun t =>
        getF t F.rstLrs_restarts = 0 ∧ t.clk.us = max s.clk.us (s.lrs.sinceFailure + 3600000000) ∧ Only s t [.clk] [F.rstLrs_restarts.addr]) ∧
    (∀ (s : State),
      Powered s → s.lrs.shelfReset = false → pmuState s ≠ stSafelight → s.lrs.phase ≠ .hold →
      Completes (.shelfHbToggle true) s fun t =>
        t.pins.shelfHbMs = 500 ∧ [Output.pin .shelfHb true, .pin .shelfHb false] <+: t.out ∧ Only s t [.pins] []) ∧
    (∀ (s : State),
      Powered s → s.lrs.shelfReset = false → (pmuState s = stSafelight ∨ s.lrs.phase = .hold) →
      Completes (.shelfHbToggle true) s fun t =>
        t.pins.shelfHbMs = 125 ∧ [Output.pin .shelfHb true, .pin .shelfHb false] <+: t.out ∧ Only s t [.pins] []) ∧
    (∀ (s : State),
      Powered s →
      Completes (.shelfHbToggle false) s fun t =>
        t.pins.shelfHbMs = 0 ∧ Only s t [.pins] [])

/-- A bay asked for takes BAY_PWR_EN, 5 ms after the last rise, with its channels' pins clamped. With BAY_PG its channels leave reset; without it in 50 ms
the bay has failed. After TPOR the targets are reset and identified by their descriptors, their dies go into service and every enabled channel trains;
at a later power-up a target that answers otherwise leaves service. Loss of BAY_PG while the bay is on takes its rail away and powers it again. An
unused bay powers down at the firmware's wish, one in use does not. -/
def Obligations.BayPower : Prop :=
    (∀ (b : Nat) (s : State),
      Works s → pmuState s < 2 → b < 4 → bayEnabled s b = true → ((bayOf s b).phase = .off ∨ (bayOf s b).phase = .failed) →
      ((∀ x ∈ List.range 4, x < b → (bayOf s x).phase ≠ .requested)) →
      Completes (.bayPowerUpRequest b true) s fun t =>
        (bayOf t b).phase = .waitPg ∧ (bayOf t b).since = t.clk.us ∧ (bayOf t b).again = false ∧ t.bay.lastRise = some t.clk.us ∧ bitAt t.pins.bayPwrEn b = true ∧ [Output.pin (.bayPwrEn b) true] <+: t.out ∧ (∀ c ∈ bayChannels b, (padsOf t c).drive = .clamped) ∧
        t.clk.us = (match s.bay.lastRise with | some r => max s.clk.us (r + 5000) | none => s.clk.us) ∧ (∀ x, x ≠ b → { bayOf t x with emptySince := 0 } = { bayOf s x with emptySince := 0 }) ∧ Only s t [.clk, .bay, .pins] []) ∧
    (∀ (b x : Nat) (s : State),
      Works s → pmuState s < 2 → b < 4 → (bayOf s b).phase = .requested → ((∀ x ∈ List.range 4, x < b → (bayOf s x).phase ≠ .requested)) →
      Completes (.bayPowerUpRequest x false) s fun t =>
        (bayOf t b).phase = .waitPg ∧ (bayOf t b).since = t.clk.us ∧ (bayOf t b).again = false ∧ t.bay.lastRise = some t.clk.us ∧ bitAt t.pins.bayPwrEn b = true ∧ [Output.pin (.bayPwrEn b) true] <+: t.out ∧ (∀ c ∈ bayChannels b, (padsOf t c).drive = .clamped) ∧
        t.clk.us = (match s.bay.lastRise with | some r => max s.clk.us (r + 5000) | none => s.clk.us) ∧ (∀ x, x ≠ b → { bayOf t x with emptySince := 0 } = { bayOf s x with emptySince := 0 }) ∧ Only s t [.clk, .bay, .pins] []) ∧
    (∀ (b : Nat) (s : State),
      Powered s → b < 4 → (bayOf s b).phase = .waitPg → s.prf.descs = [] → s.prf.fchWrites = [] →
      Completes (.bayPgAssert b) s fun t =>
        (bayOf t b).phase = .waitTpor ∧ (bayOf t b).pg = true ∧ (bayOf t b).since = s.clk.us ∧ (∀ c ∈ List.range 16, getF t (F.fchStat_state (16 * b + c)) = 1) ∧ OnlyParts s t [.bay, .sch] ∧ (∀ x, x ≠ b → { bayOf t x with emptySince := 0 } = { bayOf s x with emptySince := 0 }) ∧ (∀ f : Fld, inBayWindow b f.addr = false → f.addr ∉ settledAddrs → getF t f = getF s f)) ∧
    (∀ (b : Nat) (s : State),
      Powered s → b < 4 → (bayOf s b).phase = .waitPg →
      Completes (.bayPgAssert b) s fun t =>
        (bayOf t b).phase = .waitTpor ∧ (bayOf t b).pg = true ∧ (bayOf t b).since = s.clk.us ∧ (∀ c ∈ List.range 16, getF t (F.fchStat_state (16 * b + c)) = 1)) ∧
    (∀ (b k d : Nat) (bytes : List Byte) (rs : List Nat) (s : State),
      Powered s → b < 4 → (bayOf s b).phase = .waitTpor → (bayOf s b).identified = false →
      (validDescs s b).find? (fun k => idMatches s b k 0 bytes) = some k → d ∈ targetDies s b 0 0 k → 800 ≤ descF s b k 0x1E 2 →
      ((∀ x ∈ bayDies b, diePresent s x = false)) → ((∀ x ∈ List.range 16, getF s (F.fchCtrl_maxRate (16 * b + x)) ≠ 0)) →
      ((∀ x ∈ List.range 16, flag s (F.fchCtrl_enable (16 * b + x)) = true)) →
      Completes (.bayTporExpiry b [bytes] rs [] []) s fun t =>
        (bayOf t b).phase = .ready ∧ (bayOf t b).identified = true ∧ (bayOf s b).since + bayTpor s b ≤ t.clk.us ∧ dieInService t d = true ∧ getF t (F.fchDieCfg_desc (dieChannel d) (diePos d)) = k ∧ getF t (F.fchDieStat_state (dieChannel d) (diePos d)) = 0 ∧
        (∀ x ∈ bayChannels b, getF t (F.fchStat_state x) = 3 ∧ padsOf t x = ⟨.driven, 15, true, true⟩) ∧ OnlyParts s t [.clk, .bay, .mhm, .pins] ∧ (∀ x, x ≠ b → { bayOf t x with emptySince := 0 } = { bayOf s x with emptySince := 0 }) ∧ (∀ f : Fld, inBayWindow b f.addr = false → f.addr ∉ settledAddrs → getF t f = getF s f)) ∧
    (∀ (b : Nat) (bytes : List Byte) (rs fs : List Nat) (s : State),
      Powered s → b < 4 → (bayOf s b).phase = .waitTpor → (bayOf s b).identified = true → diePresent s (256 * b) = true →
      idMatches s b (getF s (F.fchDieCfg_desc (16 * b) 0)) 0 bytes = false →
      Completes (.bayTporExpiry b [bytes] rs [] fs) s fun t =>
        (bayOf t b).phase = .ready ∧ (bayOf t b).identified = true ∧ (bayOf s b).since + bayTpor s b ≤ t.clk.us ∧ dieInService t (256 * b) = false ∧ flag t (F.fchErr_idNomatch (16 * b)) = true) ∧
    (∀ (b : Nat) (s : State),
      Powered s → b < 4 → (bayOf s b).phase = .waitPg → s.rch.reads = [] → ((∀ kv ∈ s.hif.slots, isReadKind kv.2.kind = false)) →
      bayWriteZones s b = [] → ((∀ kv ∈ s.sch.dies, dieBay kv.1 ≠ b)) →
      Completes (.bayPgTimeout b) s fun t =>
        (bayOf t b).phase = .failed ∧ bitAt t.pins.bayPwrEn b = false ∧ (bayOf s b).since + 50000 ≤ t.clk.us ∧ t.pins.shelfAlertLow = true ∧ (∀ c ∈ bayChannels b, (padsOf t c).drive = .unpowered) ∧ (∀ x, x ≠ b → { bayOf t x with emptySince := 0 } = { bayOf s x with emptySince := 0 }) ∧ Only s t [.clk, .bay, .pins, .csh, .sch] [(F.cshMissed_total 15).addr]) ∧
    (∀ (b : Nat) (s : State),
      Powered s → b < 4 → (bayOf s b).phase = .ready → ((∀ kv ∈ s.sch.dies, dieBay kv.1 ≠ b)) → ((∀ kv ∈ s.sch.dies, kv.2.tokenWait = false)) →
      s.rch.pages = [] → MailQuiet s →
      Completes (.bayPgFall b) s fun t =>
        (bayOf t b).phase = .requested ∧ (bayOf t b).pg = false ∧ bitAt t.pins.bayPwrEn b = false ∧ (∀ c ∈ bayChannels b, (padsOf t c).drive = .unpowered) ∧ OnlyParts s t [.bay, .pins, .csh, .sch] ∧ (∀ x, x ≠ b → { bayOf t x with emptySince := 0 } = { bayOf s x with emptySince := 0 }) ∧ (∀ f : Fld, inBayWindow b f.addr = false → f.addr ∉ settledAddrs → f.addr ≠ (F.cshMissed_total 2).addr → getF t f = getF s f)) ∧
    (∀ (b : Nat) (s : State),
      Powered s → b < 4 → (bayOf s b).phase = .ready → (bayOf s b).again = false → bayUnused s b = true → MailQuiet s →
      Completes (.bayPowerDown b) s fun t =>
        (bayOf t b).phase = .off ∧ (bayOf t b).pg = false ∧ bitAt t.pins.bayPwrEn b = false ∧ Output.pin (.bayPwrEn b) false ∈ t.out ∧ (∀ c ∈ bayChannels b, (padsOf t c).drive = .unpowered) ∧ OnlyParts s t [.bay, .pins, .sch] ∧ (∀ x, x ≠ b → { bayOf t x with emptySince := 0 } = { bayOf s x with emptySince := 0 }) ∧ (∀ f : Fld, inBayWindow b f.addr = false → f.addr ∉ settledAddrs → getF t f = getF s f)) ∧
    (∀ (b : Nat) (s : State),
      Powered s → bayUnused s b = false →
      Completes (.bayPowerDown b) s fun t =>
        Only s t [] [])

/-- A descriptor's last word validates it: a bad CRC sets DESC_CRC, and while a die bound to it works the write is refused. TRAIN trains an enabled
channel whose dies are free at the highest rate it can run, waits while one works, and where the training fails sets TRAIN_FAIL and the channel
FAILED. Clearing ENABLE takes a channel without operations, and its dies, out of service. A write of the trim register replaces the selected trim set,
with zeros while TRIM_LIMIT is 0. A core's record update is written with its CHK. -/
def Obligations.Channels : Prop :=
    (∀ (m c k : Nat) (crc : DWord) (s : State),
      Reaches s m (F.fchDesc_word (c / 16) (64 * k + 63)).addr true → c < 64 → c % 16 = 0 → k < 8 → descInUse s (c / 16) k = false →
      descValid (setF s (F.fchDesc_word (c / 16) (64 * k + 63)) crc.toNat) (c / 16) k = true →
      Completes (.descValidate m c k crc) s fun t =>
        getF t (F.fchDesc_word (c / 16) (64 * k + 63)) = crc.toNat ∧ Only s t [] [(F.fchDesc_word (c / 16) (64 * k + 63)).addr]) ∧
    (∀ (m c k : Nat) (crc : DWord) (s : State),
      Reaches s m (F.fchDesc_word (c / 16) (64 * k + 63)).addr true → c < 64 → c % 16 = 0 → k < 8 → descInUse s (c / 16) k = false →
      descCrcGood (setF s (F.fchDesc_word (c / 16) (64 * k + 63)) crc.toNat) (c / 16) k = false →
      Completes (.descValidate m c k crc) s fun t =>
        getF t (F.fchDesc_word (c / 16) (64 * k + 63)) = crc.toNat ∧ flag t (F.fchErr_descCrc c) = true ∧ Only s t [.csh] [(F.fchDesc_word (c / 16) (64 * k + 63)).addr, (F.fchErr_descCrc c).addr, (F.cshMissed_total 2).addr]) ∧
    (∀ (m c k : Nat) (crc : DWord) (s : State),
      Reaches s m (F.fchDesc_word (c / 16) (64 * k + 63)).addr true → c < 64 → c % 16 = 0 → k < 8 → descInUse s (c / 16) k = true →
      Completes (.descValidate m c k crc) s fun t =>
        flag t (F.fchErr_descBusy c) = true ∧ Only s t [.csh] [(F.fchErr_descBusy c).addr, (F.cshMissed_total 2).addr]) ∧
    (∀ (m c r : Nat) (s : State),
      Reaches s m (F.fchCtrl_train c).addr true → c < 64 → channelBusy s c = false → (bayOf s (c / 16)).phase = .ready →
      flag s (F.fchCtrl_enable c) = true → trainRate s c = some r → r < 2 ^ 12 →
      Completes (.train m c false) s fun t =>
        getF t (F.fchStat_state c) = 3 ∧ getF t (F.fchStat_rateNow c) = r ∧ flag t (F.fchCtrl_train c) = false ∧ flag t (F.fchCtrl_enable c) = true ∧ padsOf t c = ⟨.driven, 15, true, true⟩ ∧
        (diePresent s (16 * c) = true → Output.die (16 * c) (.setFeatures .interface r) ∈ t.out ∧ Output.die (16 * c) .zqCalibration ∈ t.out ∧ Output.die (16 * c) .readTraining ∈ t.out ∧ Output.die (16 * c) .writeTraining ∈ t.out) ∧ Only s t [.bay, .pins] [(F.fchStat_state c).addr, (F.fchCtrl_train c).addr]) ∧
    (∀ (m c r : Nat) (s : State),
      Reaches s m (F.fchCtrl_train c).addr true → c < 64 → ((∀ x ∈ diesOfChannel c, diePresent s x = false)) → channelBusy s c = false →
      (bayOf s (c / 16)).phase = .ready → flag s (F.fchCtrl_enable c) = true → trainRate s c = some r →
      Completes (.train m c true) s fun t =>
        getF t (F.fchStat_state c) = 4 ∧ flag t (F.fchErr_trainFail c) = true ∧ flag t (F.fchCtrl_train c) = false ∧ Only s t [.bay, .pins, .csh] [(F.fchStat_state c).addr, (F.fchCtrl_train c).addr, (F.fchErr_trainFail c).addr, (F.cshMissed_total 2).addr]) ∧
    (∀ (m c : Nat) (fails : Bool) (s : State),
      Reaches s m (F.fchCtrl_train c).addr true → c < 64 → channelBusy s c = true →
      Completes (.train m c fails) s fun t =>
        flag t (F.fchCtrl_train c) = true ∧ getF t (F.fchStat_state c) = getF s (F.fchStat_state c) ∧ t.bay.trainFails.contains c = fails ∧ Only s t [.bay] [(F.fchCtrl_train c).addr]) ∧
    (∀ (m c : Nat) (s : State),
      Reaches s m (F.fchCtrl_train c).addr true → c < 64 → ((∀ x ∈ diesOfChannel c, diePresent s x = false)) → channelBusy s c = false →
      flag s (F.fchCtrl_train c) = false →
      Completes (.channelDisable m c) s fun t =>
        getF t (F.fchStat_state c) = 5 ∧ flag t (F.fchCtrl_enable c) = false ∧ (padsOf t c).wpN = false ∧ Only s t [.pins] [(F.fchStat_state c).addr, (F.fchCtrl_enable c).addr]) ∧
    (∀ (m c d : Nat) (s : State),
      Reaches s m (F.fchCtrl_train c).addr true → c < 64 → channelBusy s c = false → flag s (F.fchCtrl_train c) = false → d ∈ diesOfChannel c →
      Completes (.channelDisable m c) s fun t =>
        getF t (F.fchStat_state c) = 5 ∧ flag t (F.fchCtrl_enable c) = false ∧ dieInService t d = false) ∧
    (∀ (m : Nat) (v : Word) (tr : Tier) (s : State),
      Reaches s m 0x1001400028 true → tierOf (getF s F.rchTrimIdx_tier) = some tr →
      Completes (.trimDataWrite m v) s fun t =>
        spGet 0#64 t.rch.trims (trimKey (getF s F.rchTrimIdx_die) tr (getF s F.rchTrimIdx_bin)) = (if getF s F.rchTrack_trimLimit = 0 then 0 else v &&& fieldMask 47 0) ∧ (trimKey (getF s F.rchTrimIdx_die) tr (getF s F.rchTrimIdx_bin) ∉ t.rch.trimBad) ∧ (∀ k, k ≠ trimKey (getF s F.rchTrimIdx_die) tr (getF s F.rchTrimIdx_bin) → spGet 0#64 t.rch.trims k = spGet 0#64 s.rch.trims k) ∧ Only s t [.rch] []) ∧
    (∀ (m i : Nat) (bs : List Byte) (s : State),
      Reaches s m 0x1001500000 true → isMc m = true → i ≤ lastRecord → s.mhm.updateQ = [] →
      Completes (.brtUpdateRequest m i bs) s fun t =>
        recOf t i = recordOfBytes bs ∧ t.mhm.brtHeld = dropAll s.mhm.brtHeld i ∧ t.mhm.updateQ = [] ∧ (∀ j, j ≠ i → recOf t j = recOf s j) ∧ Only s t [.mhm] []) ∧
    (∀ (m i : Nat) (bs : List Byte) (s : State),
      Reaches s m 0x1001500000 true → isMc m = false → m ≠ idHostPf →
      Completes (.brtUpdateRequest m i bs) s fun t =>
        [Output.errorResponse m 0x1001500000] <+: t.out ∧ Only s t [] [])

/-- RUN starts a walk at CURSOR, a WEAR walk from record 0 with no lowest P/E known; one above the table's end is done at once. A walk takes a record that
matches into its FIFO and goes on, at a full FIFO it pauses at the record. STOP ends it. A read of MHM_WALK_OUT takes the oldest candidate, or answers
EMPTY, and the walk goes on. A retention scan reads the zone at the head of its queue on one data member, chosen in rotation; with no page final it
ends at once and writes the Scan Table. A relocation takes the first candidate to a target that suits it, with nothing of it durable. The switch maps
the zone to the target and gives the source back. With the copies of a failed block-plane complete its member's programs resume. -/
def Obligations.MediaRefresh : Prop :=
    (∀ (s : State),
      Works s → flag s F.mhmWalk_run = false → getF s F.mhmWalk_rate ≠ 0 → getF s F.mhmWalk_cursor ≤ lastRecord →
      Completes (.walkStart) s fun t =>
        flag t F.mhmWalk_run = true ∧ flag t F.mhmWalk_stop = false ∧ getF t F.mhmWalk_cursor = getF s F.mhmWalk_cursor ∧ t.mhm = (if getF s F.mhmWalk_kind = 2 ∧ getF s F.mhmWalk_cursor = 0 then { s.mhm with lowestPe := [] } else s.mhm) ∧ Only s t [.mhm] [F.mhmWalk_run.addr]) ∧
    (∀ (s : State),
      Works s → flag s F.mhmWalk_run = false → getF s F.mhmWalk_rate ≠ 0 → lastRecord < getF s F.mhmWalk_cursor →
      Completes (.walkStart) s fun t =>
        flag t F.mhmWalk_run = false ∧ flag t F.mhmWalk_done = true ∧ Only s t [] [F.mhmWalk_run.addr]) ∧
    (∀ (bad : Nat) (s : State),
      Works s → flag s F.mhmWalk_run = true → flag s F.mhmWalk_paused = false → pmuDrains s = false → getF s F.mhmWalk_cursor % 4 = 3 →
      getF s F.mhmWalk_cursor < lastRecord → brtGood s (getF s F.mhmWalk_cursor) = true → walkMatch s (getF s F.mhmWalk_cursor) = false →
      bitAt bad 3 = false →
      Completes (.walkRecord bad) s fun t =>
        getF t F.mhmWalk_cursor = getF s F.mhmWalk_cursor + 1 ∧ flag t F.mhmWalk_run = true ∧ Only s t [] [F.mhmWalk_run.addr]) ∧
    (∀ (bad : Nat) (s : State),
      Works s → flag s F.mhmWalk_run = true → flag s F.mhmWalk_paused = false → pmuDrains s = false → getF s F.mhmWalk_cursor % 4 = 3 →
      getF s F.mhmWalk_cursor < lastRecord → brtGood s (getF s F.mhmWalk_cursor) = true → walkMatch s (getF s F.mhmWalk_cursor) = true →
      getF s F.mhmWalk_kind ≠ 2 → s.mhm.walkFifo.length < 512 → bitAt bad 3 = false →
      Completes (.walkRecord bad) s fun t =>
        getF t F.mhmWalk_cursor = getF s F.mhmWalk_cursor + 1 ∧ t.mhm = { s.mhm with walkFifo := s.mhm.walkFifo ++ [getF s F.mhmWalk_cursor] } ∧ Only s t [.mhm] [F.mhmWalk_run.addr]) ∧
    (∀ (bad : Nat) (s : State),
      Works s → flag s F.mhmWalk_run = true → flag s F.mhmWalk_paused = false → pmuDrains s = false → getF s F.mhmWalk_cursor % 4 = 3 →
      getF s F.mhmWalk_cursor < lastRecord → brtGood s (getF s F.mhmWalk_cursor) = true → 512 ≤ s.mhm.walkFifo.length →
      Completes (.walkRecord bad) s fun t =>
        getF t F.mhmWalk_cursor = getF s F.mhmWalk_cursor ∧ flag t F.mhmWalk_paused = true ∧ Only s t [] [F.mhmWalk_run.addr]) ∧
    (∀ (s : State),
      Works s → getF s F.mhmWalk_cursor = 0 → Works s → flag s F.mhmWalk_run = true → flag s F.mhmWalk_paused = false → pmuDrains s = false →
      ((∀ i ∈ List.range 4, walkMatch s i = false ∧ brtGood s i = true)) → s.mhm.walkFifo.length < 512 →
      Completes (.walkRecord 0) s fun t =>
        getF t F.mhmWalk_cursor = 4 ∧ flag t F.mhmWalk_run = true ∧ Only s t [] [F.mhmWalk_run.addr]) ∧
    (∀ (bad : Nat) (s : State),
      Works s → flag s F.mhmWalk_run = true → flag s F.mhmWalk_paused = false → pmuDrains s = false → getF s F.mhmWalk_cursor % 4 = 3 →
      getF s F.mhmWalk_cursor < lastRecord → brtGood s (getF s F.mhmWalk_cursor) = true → bitAt bad 3 = true → s.mhm.walkFifo.length < 512 →
      Completes (.walkRecord bad) s fun t =>
        getF t F.mhmWalk_cursor = getF s F.mhmWalk_cursor + 1 ∧ t.mhm.brtHeld.contains (getF s F.mhmWalk_cursor) = true ∧ t.mhm.walkFifo = s.mhm.walkFifo) ∧
    (∀ (s : State),
      Works s → flag s F.mhmWalk_run = true →
      Completes (.walkStart) s fun t =>
        True ∧ Only s t [] []) ∧
    (∀ (bad : Nat) (s : State),
      Works s → (flag s F.mhmWalk_run = false ∨ flag s F.mhmWalk_paused = true ∨ pmuDrains s = true) →
      Completes (.walkRecord bad) s fun t =>
        True ∧ Only s t [] []) ∧
    (∀ (g : Nat) (s : State),
      Works s → flag s F.mhmWalk_run = true → flag s F.mhmWalk_paused = false → pmuDrains s = false → getF s F.mhmWalk_cursor % 4 = 3 →
      getF s F.mhmWalk_cursor < lastRecord → brtGood s (getF s F.mhmWalk_cursor) = true → walkMatch s (getF s F.mhmWalk_cursor) = true →
      getF s F.mhmWalk_kind = 2 → s.mhm.walkFifo.length < 512 → dieGroup (brtDie (getF s F.mhmWalk_cursor)) = g → spFind s.mhm.lowestPe g = none →
      Completes (.walkRecord 0) s fun t =>
        getF t F.mhmWalk_cursor = getF s F.mhmWalk_cursor + 1 ∧ t.mhm = { s.mhm with walkFifo := s.mhm.walkFifo ++ [getF s F.mhmWalk_cursor], lowestPe := spPut s.mhm.lowestPe g ((recOf s (getF s F.mhmWalk_cursor)).pe * 2 ^ 25 + getF s F.mhmWalk_cursor) } ∧ Only s t [.mhm] [F.mhmWalk_run.addr]) ∧
    (∀ (s : State),
      Works s →
      Completes (.walkStop) s fun t =>
        flag t F.mhmWalk_run = false ∧ flag t F.mhmWalk_paused = false ∧ getF t F.mhmWalk_cursor = getF s F.mhmWalk_cursor ∧ Only s t [] [F.mhmWalk_run.addr]) ∧
    (∀ (m i : Nat) (rest : List Nat) (s : State),
      Works s → Reaches s m F.mhmWalkOut_index.addr false → s.mhm.walkFifo = i :: rest → getF s F.mhmWalk_kind ≠ 1 →
      Completes (.walkOutRead m) s fun t =>
        t.mhm = { s.mhm with walkFifo := rest } ∧ flag t F.mhmWalk_paused = false ∧ [Output.readResponse m (BitVec.ofNat 64 i)] <+: t.out ∧ Only s t [.mhm] [F.mhmWalk_run.addr]) ∧
    (∀ (m i e : Nat) (rest : List Nat) (s : State),
      Works s → Reaches s m F.mhmWalkOut_index.addr false → s.mhm.walkFifo = i :: rest → getF s F.mhmWalk_kind = 1 →
      walkMatch (clrF s F.mhmWalk_paused) i = true → eznOfRecord s i = some e → ((∀ c ∈ s.mhm.candidates, c.ezn ≠ e)) → zoneState s e = .full →
      zoneState s e ≠ .offline →
      Completes (.walkOutRead m) s fun t =>
        t.mhm.walkFifo = rest ∧ (t.mhm.candidates.any fun c => c.ezn == e && c.cause == .disturb) = true ∧ Only s t [.mhm] [F.mhmWalk_run.addr]) ∧
    (∀ (m : Nat) (s : State),
      Works s → Reaches s m F.mhmWalkOut_index.addr false → s.mhm.walkFifo = [] →
      Completes (.walkOutRead m) s fun t =>
        [Output.readResponse m (BitVec.ofNat 64 (2 ^ 31))] <+: t.out ∧ Only s t [] []) ∧
    (∀ (e pzn dl : Nat) (rest : List Nat) (z : ZstEntry) (s : State),
      Works s → s.mhm.scanQueue = e :: rest → boundZone s e = some (pzn, z) → z.state ≠ .offline → z.durableHr = 0 → progOf s pzn = freshProg →
      ageBin (zoneAge s z) < getF s (F.mhmThresh_forceBin (tierNum z.tier)) →
      Completes (.retentionScan dl) s fun t =>
        t.mhm = { s.mhm with scanQueue := rest, scanCount := s.mhm.scanCount + 1, scanTable := t.mhm.scanTable } ∧ spGet 0 t.mhm.scanTable pzn = ageBin (zoneAge s z) ∧ (∀ x, x ≠ pzn → spGet 0 t.mhm.scanTable x = spGet 0 s.mhm.scanTable x) ∧ Only s t [.mhm] []) ∧
    (∀ (e pzn dl : Nat) (rest : List Nat) (z : ZstEntry) (s : State),
      Works s → s.mhm.scanQueue = e :: rest → boundZone s e = some (pzn, z) → z.state ≠ .offline →
      finalSlot s pzn z (slotAt z.tier pzn 0 0 0 0 ((parityMember pzn + 1 + s.mhm.scanCount % 15) % 16)) = true →
      dieInService s (memberDie (groupOf pzn) ((parityMember pzn + 1 + s.mhm.scanCount % 15) % 16)) = true →
      (stepEst s z.tier .hard = 0 ∨ now s + stepEst s z.tier .hard ≤ dl) →
      Completes (.retentionScan dl) s fun t =>
        t.mhm = { s.mhm with scanQueue := rest, scanCount := s.mhm.scanCount + 1 } ∧ (t.rch.reads.any fun kv => kv.2.owner == .scan e && kv.2.die == memberDie (groupOf pzn) ((parityMember pzn + 1 + s.mhm.scanCount % 15) % 16)) = true ∧ Only s t [.mhm, .rch, .sch, .bay] []) ∧
    (∀ (e pzn dl : Nat) (rest : List Nat) (z : ZstEntry) (s : State),
      Works s → s.mhm.scanQueue = e :: rest → boundZone s e = some (pzn, z) → z.state = .offline →
      Completes (.retentionScan dl) s fun t =>
        t.mhm = { s.mhm with scanQueue := rest, scanCount := s.mhm.scanCount + 1 } ∧ Only s t [.mhm] []) ∧
    (∀ (dl : Nat) (s : State),
      Works s → s.mhm.scanQueue = [] →
      Completes (.retentionScan dl) s fun t =>
        True ∧ Only s t [] []) ∧
    (∀ (src target dl : Nat) (c : Candidate) (z : ZstEntry) (s : State),
      Works s → nextCandidate (openCandidates s) = some c → boundZone s c.ezn = some (src, z) → z.durableHr = 0 →
      targetFits s src target z.tier c.cause = true → s.mep.staged = [] → src ≠ target → s.sbg.accums = [] →
      Completes (.relocationStart target dl) s fun t =>
        spFind t.mhm.relocs src = some ⟨c.ezn, target, c.cause, [], 0, relocClass c.cause, dl⟩ ∧ t.mhm.candidates = s.mhm.candidates.filter (fun x => x.ezn != c.ezn) ∧ (zstOf t target).ezn = z.ezn ∧ (zstOf t target).tier = z.tier ∧ (zstOf t target).wpPhys = z.wpPhys ∧
        (zstOf t target).durableHr = 0 ∧ (zstOf t target).subst = (zstOf s target).subst ∧ boundZone t c.ezn = some (src, z) ∧ Only s t [.mhm, .zrs, .sch, .sbg, .bay] []) ∧
    (∀ (pzn : Nat) (x : Reloc) (s : State),
      Works s → relocOf s pzn = some x → x.rows ≤ (zstOf s x.target).durableHr → s.mhm.doomed = [] → s.sbg.accums = [] → x.target ≠ pzn →
      ((spFind s.zrs.ops x.ezn).any fun o => o.isReset) = false →
      Completes (.relocationSwitch pzn) s fun t =>
        (zmapOf t x.ezn).pzn = x.target ∧ spFind t.mhm.relocs pzn = none ∧ (∀ c ∈ t.mhm.candidates, c.ezn ≠ x.ezn) ∧ zstOf t pzn = sealedZst { freshZst with subst := (zstOf s pzn).subst } ∧ zstOf t x.target = zstOf s x.target ∧ progOf t pzn = freshProg ∧ (∀ e, e ≠ x.ezn → zmapOf t e = zmapOf s e) ∧ Only s t [.zrs, .mhm, .mep, .sch, .sbg, .jrn] []) ∧
    (∀ (pzn : Nat) (x : Reloc) (s : State),
      Works s → relocOf s pzn = some x → ((zstOf s x.target).durableHr < x.rows ∨ ((spFind s.zrs.ops x.ezn).any fun o => o.isReset) = true) →
      Completes (.relocationSwitch pzn) s fun t =>
        True ∧ Only s t [] []) ∧
    (∀ (target dl : Nat) (s : State),
      Works s → openCandidates s = [] →
      Completes (.relocationStart target dl) s fun t =>
        True ∧ Only s t [] []) ∧
    (∀ (p m pl : Nat) (c : SpareCopy) (s : State),
      Works s → s.mhm.copies = [c] → c.pzn = p → c.member = m → c.plane = pl → c.wl = 0 →
      Completes (.spareCopyComplete p m pl) s fun t =>
        t.mhm = { s.mhm with copies := [] } ∧ (progOf t p) = { progOf s p with halted := dropAll (progOf s p).halted m } ∧ Only s t [.mhm, .zrs, .sch, .bay] [])

/-- After power-up, once it is warm enough, the sentinels of the dies in service are sensed, each at the even codes and beside the best of them, and those
that give an estimate are taken; with the last one done the survey has ended. MHM decides the interval when the Timestamp has come or its wait has
ended: SOURCE, the history entry and UNKNOWN follow from the two estimates. The order of the senses is the model's choice (assumption log entry 126). -/
def Obligations.OffTime : Prop :=
    (∀ (s : State),
      Works s → getF s F.mhmOffest_state = 0 →
      (sbyte (getF s F.mhmCold_surveyMin) ≤ s.age.composite ∨ (s.sec.released = true ∧ s.age.fwStart + 600000000 ≤ s.clk.us)) →
      s.age.sentinels = [] →
      Completes (.sentinelSurvey) s fun t =>
        getF t F.mhmOffest_state = 2 ∧ t.age = { s.age with estimates := [], survey := [], surveyed := s.clk.us } ∧ Only s t [.age] [F.mhmOffest_state.addr]) ∧
    (∀ (d : Nat) (x : Sentinel) (s : State),
      Works s → getF s F.mhmOffest_state = 0 →
      (sbyte (getF s F.mhmCold_surveyMin) ≤ s.age.composite ∨ (s.sec.released = true ∧ s.age.fwStart + 600000000 ≤ s.clk.us)) →
      s.age.sentinels = [(d, [x])] → dieInService s d = true →
      Completes (.sentinelSurvey) s fun t =>
        getF t F.mhmOffest_state = 1 ∧ t.age = { s.age with estimates := [], survey := [(4 * d, ⟨[], []⟩)] } ∧ surveyHeld t (4 * d) = true ∧ Only s t [.age, .sch, .bay] [F.mhmOffest_state.addr]) ∧
    (∀ (s : State),
      Works s → getF s F.mhmOffest_state = 0 → s.age.composite < sbyte (getF s F.mhmCold_surveyMin) →
      (s.sec.released = false ∨ s.clk.us < s.age.fwStart + 600000000) →
      Completes (.sentinelSurvey) s fun t =>
        True ∧ Only s t [] []) ∧
    (∀ (k : Nat) (c : Int) (x : Sentinel) (w : SurveyWork) (s : State),
      Works s → getF s F.mhmOffest_state = 1 → s.age.survey = [(k, w)] → surveyHeld s k = false → sentinelAt s k = some x →
      nextCode s (k / 4) w = some c →
      Completes (.sentinelSurvey) s fun t =>
        getF t F.mhmOffest_state = 1 ∧ t.age = { s.age with survey := [(k, { w with wedges := [] })] } ∧ ((dieOf t (k / 4)).queue.any fun e => e.op == .survey (k % 4) c && e.acct == .device && e.cls == .negative) = true ∧ Only s t [.age, .sch, .bay] []) ∧
    (∀ (k : Nat) (x : Sentinel) (w : SurveyWork) (s : State),
      Works s → getF s F.mhmOffest_state = 1 → s.age.survey = [(k, w)] → surveyHeld s k = false → sentinelAt s k = some x →
      nextCode s (k / 4) w = none →
      Completes (.sentinelSurvey) s fun t =>
        getF t F.mhmOffest_state = 2 ∧ t.age = { s.age with survey := [], estimates := s.age.estimates ++ (sentinelEstimate s (k / 4) x w).toList, surveyed := s.clk.us } ∧ Only s t [.age] [F.mhmOffest_state.addr]) ∧
    (∀ (num : Int) (den : Nat) (v : Nat → Int),
      v 0 * den < num →
      effectiveAge v num den = 512) ∧
    (∀ (s : State),
      Works s → getF s F.mhmOffest_state = 2 → s.age.stampNew.isSome = true → s.zrs.zst = [] →
      Completes (.offtimeDecision) s fun t =>
        getF t F.mhmOffest_state = 3 ∧ getF t F.mhmOffest_source = (decision (getF s F.mhmOffest_agree) (stripEstimate s) (hostEstimate s)).1 ∧ t.age = { s.age with history := decideEntry s.age.history (decision (getF s F.mhmOffest_agree) (stripEstimate s) (hostEstimate s)).1 (decision (getF s F.mhmOffest_agree) (stripEstimate s) (hostEstimate s)).2.1 (decision (getF s F.mhmOffest_agree) (stripEstimate s) (hostEstimate s)).2.2.toNat, decidedAt := s.clk.ophours } ∧ Only s t [.age] [F.mhmOffest_state.addr]) ∧
    (∀ (s : State),
      Works s → getF s F.mhmOffest_state = 2 → s.age.stampNew.isSome = true →
      Completes (.offtimeDecision) s fun t =>
        getF t F.mhmOffest_state = 3 ∧ getF t F.mhmOffest_source = (decision (getF s F.mhmOffest_agree) (stripEstimate s) (hostEstimate s)).1 ∧ t.age = { s.age with history := decideEntry s.age.history (decision (getF s F.mhmOffest_agree) (stripEstimate s) (hostEstimate s)).1 (decision (getF s F.mhmOffest_agree) (stripEstimate s) (hostEstimate s)).2.1 (decision (getF s F.mhmOffest_agree) (stripEstimate s) (hostEstimate s)).2.2.toNat, decidedAt := s.clk.ophours } ∧ (∀ p ∈ unknownZones t, causeApplies .unknownAge (zoneState t (zstOf t p).ezn) = true → ∃ c ∈ t.mhm.candidates, c.ezn = (zstOf t p).ezn)) ∧
    (∀ (s : State),
      Works s → getF s F.mhmOffest_state = 2 → s.age.stampNew = none → s.zrs.zst = [] →
      Completes (.tsWaitExpiry) s fun t =>
        getF t F.mhmOffest_state = 3 ∧ getF t F.mhmOffest_source = (decision (getF s F.mhmOffest_agree) (stripEstimate s) none).1 ∧ t.age = { s.age with history := decideEntry s.age.history (decision (getF s F.mhmOffest_agree) (stripEstimate s) none).1 (decision (getF s F.mhmOffest_agree) (stripEstimate s) none).2.1 (decision (getF s F.mhmOffest_agree) (stripEstimate s) none).2.2.toNat, decidedAt := s.clk.ophours } ∧ t.clk.us = max s.clk.us (s.age.surveyed + 1000000 * getF s F.mhmOffest_tsWait) ∧ Only s t [.age, .clk] [F.mhmOffest_state.addr])

/-- The security core binds a channel to two distinct parties until BIND_LOCK. Of the claims of one cycle the lower master ID is granted, the others find
the channel claimed. The holder writes words, posts them with GO, which tells the receiver, or releases; the sender recalls; the receiver's discard or
read of the last word empties the channel and sets the sender's DONE bit. A reset of the holder drops a claim, a reset of the sender marks the message
orphaned, one of the receiver marks RX_RESET and sets DONE. A word write by a master that is no party is refused. -/
def Obligations.Mailboxes : Prop :=
    (∀ (n : Nat) (v : DWord) (s : State),
      Works s → n < 64 → flag s F.mbxLock_bindLock = false → v.toNat % 128 ≠ v.toNat / 256 % 128 → canBeParty s (v.toNat % 128) = true →
      canBeParty s (v.toNat / 256 % 128) = true → bitAt v.toNat 31 = true → (chanOf s n).st = .unbound →
      Completes (.mbxBindWrite idSec n v) s fun t =>
        partyA t n = v.toNat % 128 ∧ partyB t n = v.toNat / 256 % 128 ∧ getF t (F.mbxBind_wakeA n) = v.toNat / 2 ^ 29 % 2 ∧ getF t (F.mbxBind_wakeB n) = v.toNat / 2 ^ 30 % 2 ∧ flag t (F.mbxBind_valid n) = true ∧ chanOf t n = { noChan with st := .idle } ∧ (∀ i, i ≠ n → chanOf t i = chanOf s i) ∧ Only s t [.mbx] [(F.mbxBind_valid n).addr]) ∧
    (∀ (n : Nat) (v : DWord) (s : State),
      Works s → n < 64 → flag s F.mbxLock_bindLock = false → v.toNat % 128 ≠ v.toNat / 256 % 128 → canBeParty s (v.toNat % 128) = true →
      canBeParty s (v.toNat / 256 % 128) = true → bitAt v.toNat 31 = false →
      Completes (.mbxBindWrite idSec n v) s fun t =>
        partyA t n = v.toNat % 128 ∧ partyB t n = v.toNat / 256 % 128 ∧ flag t (F.mbxBind_valid n) = false ∧ chanOf t n = noChan ∧ (∀ i, i ≠ n → chanOf t i = chanOf s i) ∧ Only s t [.mbx] [(F.mbxBind_valid n).addr]) ∧
    (∀ (m n : Nat) (v : DWord) (s : State),
      Works s → reservedMaster m = false →
      ((m ≠ idSec ∨ flag s F.mbxLock_bindLock = true ∨ v.toNat % 128 = v.toNat / 256 % 128 ∨ canBeParty s (v.toNat % 128) = false ∨ canBeParty s (v.toNat / 256 % 128) = false ∨ 64 ≤ n)) →
      Completes (.mbxBindWrite m n v) s fun t =>
        Output.errorResponse m (F.mbxBind_valid n).addr ∈ t.out ∧ flag t F.mbxErr_bindRefused = true ∧ getF t F.mbxErr_errCount = min (getF s F.mbxErr_errCount + 1) 65535 ∧ Only s t [.csh] [F.mbxErr_orphaned.addr, (F.cshMissed_total 11).addr, F.mbxErr_errCount.addr]) ∧
    (∀ (m : Nat) (s : State),
      Works s → reservedMaster m = false → m ≠ idSec →
      Completes (.bindLock m) s fun t =>
        [Output.errorResponse m F.mbxLock_bindLock.addr] <+: t.out ∧ Only s t [] []) ∧
    (∀ (s : State),
      Works s →
      Completes (.bindLock idSec) s fun t =>
        flag t F.mbxLock_bindLock = true ∧ Only s t [] [F.mbxLock_bindLock.addr]) ∧
    (∀ (n a b : Nat) (s : State),
      Works s → a < b → isParty s n a = true → isParty s n b = true → reservedMaster a = false → reservedMaster b = false → a ≠ idDebug →
      b ≠ idDebug → (chanOf s n).st = .idle →
      Completes (.mbxClaim n [b, a]) s fun t =>
        chanOf t n = { chanOf s n with st := .claimed, holder := a } ∧ [Output.readResponse a (BitVec.ofNat 64 a), .readResponse b (BitVec.ofNat 64 (2 ^ 30 + a))] <+: t.out ∧ (∀ i, i ≠ n → chanOf t i = chanOf s i) ∧ Only s t [.mbx] []) ∧
    (∀ (n m : Nat) (s : State),
      Works s → reservedMaster m = false → m ≠ idDebug → isParty s n m = false →
      Completes (.mbxClaim n [m]) s fun t =>
        Output.readResponse m (BitVec.ofNat 64 (3 * 2 ^ 30)) ∈ t.out ∧ flag t F.mbxErr_notBound = true ∧ getF t F.mbxErr_errCount = min (getF s F.mbxErr_errCount + 1) 65535 ∧ Only s t [.csh] [F.mbxErr_orphaned.addr, (F.cshMissed_total 11).addr, F.mbxErr_errCount.addr]) ∧
    (∀ (n m : Nat) (s : State),
      Works s → isParty s n m = true → reservedMaster m = false → m ≠ idDebug →
      ((chanOf s n).st = .full ∨ ((chanOf s n).st = .claimed ∧ (chanOf s n).holder ≠ m)) →
      Completes (.mbxClaim n [m]) s fun t =>
        [Output.readResponse m (BitVec.ofNat 64 ((if (chanOf s n).st = .full then 2 else 1) * 2 ^ 30 + (chanOf s n).holder))] <+: t.out ∧ Only s t [] []) ∧
    (∀ (n m i : Nat) (v : DWord) (s : State),
      Works s → isParty s n m = true → reservedMaster m = false → m ≠ idDebug → (chanOf s n).st = .claimed → (chanOf s n).holder = m → i < 16 →
      Completes (.mbxWordWrite m n i v) s fun t =>
        chanOf t n = { chanOf s n with words := listSet (chanOf s n).words i v } ∧ (∀ i, i ≠ n → chanOf t i = chanOf s i) ∧ Only s t [.mbx] []) ∧
    (∀ (n m i : Nat) (v : DWord) (s : State),
      Works s → reservedMaster m = false → isParty s n m = false →
      Completes (.mbxWordWrite m n i v) s fun t =>
        Output.errorResponse m (F.mbxWord_word n i).addr ∈ t.out ∧ flag t F.mbxErr_notBound = true ∧ getF t F.mbxErr_errCount = min (getF s F.mbxErr_errCount + 1) 65535 ∧ Only s t [.csh] [F.mbxErr_orphaned.addr, (F.cshMissed_total 11).addr, F.mbxErr_errCount.addr]) ∧
    (∀ (n m len : Nat) (s : State),
      Works s → isParty s n m = true → reservedMaster m = false → m ≠ idDebug → (chanOf s n).st = .claimed → (chanOf s n).holder = m → 0 < len →
      ((otherParty s n m < 0x40 ∨ 0x50 ≤ otherParty s n m)) → partyOn s (otherParty s n m) = true →
      (mbxMask s (otherParty s n m)).getLsbD n = false →
      Completes (.go m n len) s fun t =>
        chanOf t n = { chanOf s n with st := .full, len := min len 16, words := (chanOf s n).words.take (min len 16) ++ List.replicate (16 - min len 16) 0, zeroLen := false } ∧ Output.interrupt (otherParty s n m) ∈ t.out ∧ (∀ i, i ≠ n → chanOf t i = chanOf s i) ∧ Only s t [.mbx] []) ∧
    (∀ (n m len : Nat) (s : State),
      Works s → isParty s n m = true → reservedMaster m = false → m ≠ idDebug → (chanOf s n).st = .claimed → (chanOf s n).holder = m → 0 < len →
      Completes (.go m n len) s fun t =>
        chanOf t n = { chanOf s n with st := .full, len := min len 16, words := (chanOf s n).words.take (min len 16) ++ List.replicate (16 - min len 16) 0, zeroLen := false }) ∧
    (∀ (n m i : Nat) (v : DWord) (s : State),
      Works s → isParty s n m = true → reservedMaster m = false → m ≠ idDebug → ((chanOf s n).st ≠ .claimed ∨ (chanOf s n).holder ≠ m ∨ 16 ≤ i) →
      Completes (.mbxWordWrite m n i v) s fun t =>
        Output.errorResponse m (F.mbxWord_word n i).addr ∈ t.out ∧ flag t F.mbxErr_protocol = true ∧ getF t F.mbxErr_errCount = min (getF s F.mbxErr_errCount + 1) 65535 ∧ Only s t [.csh] [F.mbxErr_orphaned.addr, (F.cshMissed_total 11).addr, F.mbxErr_errCount.addr]) ∧
    (∀ (n m len : Nat) (s : State),
      Works s → isParty s n m = true → reservedMaster m = false → m ≠ idDebug → ((chanOf s n).st ≠ .claimed ∨ (chanOf s n).holder ≠ m) →
      Completes (.go m n len) s fun t =>
        Output.errorResponse m (F.mbxCtrl_go n).addr ∈ t.out ∧ flag t F.mbxErr_protocol = true ∧ getF t F.mbxErr_errCount = min (getF s F.mbxErr_errCount + 1) 65535 ∧ Only s t [.csh] [F.mbxErr_orphaned.addr, (F.cshMissed_total 11).addr, F.mbxErr_errCount.addr]) ∧
    (∀ (n m : Nat) (s : State),
      Works s → isParty s n m = true → reservedMaster m = false → m ≠ idDebug → ((chanOf s n).st ≠ .claimed ∨ (chanOf s n).holder ≠ m) →
      Completes (.release m n) s fun t =>
        Output.errorResponse m (F.mbxCtrl_go n).addr ∈ t.out ∧ flag t F.mbxErr_protocol = true ∧ getF t F.mbxErr_errCount = min (getF s F.mbxErr_errCount + 1) 65535 ∧ Only s t [.csh] [F.mbxErr_orphaned.addr, (F.cshMissed_total 11).addr, F.mbxErr_errCount.addr]) ∧
    (∀ (n m : Nat) (s : State),
      Works s → isParty s n m = true → reservedMaster m = false → m ≠ idDebug → ((chanOf s n).st ≠ .full ∨ (chanOf s n).holder ≠ m) →
      ((chanOf s n).st ≠ .idle ∨ (mbxDone s m).getLsbD n = false) →
      Completes (.recall m n) s fun t =>
        Output.errorResponse m (F.mbxCtrl_go n).addr ∈ t.out ∧ flag t F.mbxErr_protocol = true ∧ getF t F.mbxErr_errCount = min (getF s F.mbxErr_errCount + 1) 65535 ∧ Only s t [.csh] [F.mbxErr_orphaned.addr, (F.cshMissed_total 11).addr, F.mbxErr_errCount.addr]) ∧
    (∀ (n m : Nat) (s : State),
      Works s → isParty s n m = true → reservedMaster m = false → m ≠ idDebug → ((chanOf s n).st ≠ .full ∨ (chanOf s n).holder = m) →
      Completes (.discard m n) s fun t =>
        Output.errorResponse m (F.mbxCtrl_go n).addr ∈ t.out ∧ flag t F.mbxErr_protocol = true ∧ getF t F.mbxErr_errCount = min (getF s F.mbxErr_errCount + 1) 65535 ∧ Only s t [.csh] [F.mbxErr_orphaned.addr, (F.cshMissed_total 11).addr, F.mbxErr_errCount.addr]) ∧
    (∀ (n m : Nat) (s : State),
      Works s → isParty s n m = true → reservedMaster m = false → m ≠ idDebug → (chanOf s n).st = .claimed → (chanOf s n).holder = m →
      Completes (.go m n 0) s fun t =>
        chanOf t n = { chanOf s n with zeroLen := true } ∧ (∀ i, i ≠ n → chanOf t i = chanOf s i) ∧ Only s t [.mbx] []) ∧
    (∀ (n m : Nat) (s : State),
      Works s → isParty s n m = true → reservedMaster m = false → m ≠ idDebug → (chanOf s n).st = .claimed → (chanOf s n).holder = m →
      Completes (.release m n) s fun t =>
        chanOf t n = { toIdle (chanOf s n) with zeroLen := false } ∧ (∀ i, i ≠ n → chanOf t i = chanOf s i) ∧ Only s t [.mbx] []) ∧
    (∀ (n m : Nat) (s : State),
      Works s → isParty s n m = true → reservedMaster m = false → m ≠ idDebug → (chanOf s n).st = .full → (chanOf s n).holder = m →
      Completes (.recall m n) s fun t =>
        chanOf t n = toIdle (chanOf s n) ∧ (∀ i, i ≠ n → chanOf t i = chanOf s i) ∧ Only s t [.mbx] []) ∧
    (∀ (n m : Nat) (c : Chan) (s : State),
      Works s → isParty s n m = true → reservedMaster m = false → m ≠ idDebug → chanOf s n = c → c.st = .full → c.holder ≠ m → c.orphan = false →
      ((c.holder < 0x40 ∨ 0x50 ≤ c.holder)) →
      Completes (.discard m n) s fun t =>
        chanOf t n = toIdle c ∧ mbxDone t c.holder = mbxDone s c.holder ||| BitVec.ofNat 64 (2 ^ n) ∧ (∀ i, i ≠ n → chanOf t i = chanOf s i) ∧ Only s t [.mbx] []) ∧
    (∀ (n m : Nat) (c : Chan) (s : State),
      Works s → isParty s n m = true → reservedMaster m = false → m ≠ idDebug → chanOf s n = c → c.st = .full → c.holder ≠ m → c.orphan = false →
      0 < c.len → ((c.holder < 0x40 ∨ 0x50 ≤ c.holder)) →
      Completes (.mbxLastWordRead m n (c.len - 1)) s fun t =>
        chanOf t n = toIdle c ∧ mbxDone t c.holder = mbxDone s c.holder ||| BitVec.ofNat 64 (2 ^ n) ∧ [Output.readResponse m ((listAt 0 c.words (c.len - 1)).zeroExtend 64)] <+: t.out ∧ (∀ i, i ≠ n → chanOf t i = chanOf s i) ∧ Only s t [.mbx] []) ∧
    (∀ (n i m : Nat) (c : Chan) (s : State),
      Works s → isParty s n m = true → reservedMaster m = false → m ≠ idDebug → chanOf s n = c → c.st = .full → ((c.holder = m ∨ i + 1 ≠ c.len)) →
      Completes (.mbxLastWordRead m n i) s fun t =>
        [Output.readResponse m ((listAt 0 c.words i).zeroExtend 64)] <+: t.out ∧ Only s t [] []) ∧
    (∀ (n m : Nat) (c : Chan) (s : State),
      Works s → isParty s n m = true → reservedMaster m = false → m ≠ idDebug → chanOf s n = c → c.st = .full → c.holder ≠ m → c.orphan = true →
      Completes (.discard m n) s fun t =>
        chanOf t n = toIdle c ∧ (∀ i, i ≠ n → chanOf t i = chanOf s i) ∧ Only s t [.mbx] []) ∧
    (∀ (n i m : Nat) (s : State),
      Works s → isParty s n m = true → reservedMaster m = false → m ≠ idDebug → (chanOf s n).st ≠ .full →
      Completes (.mbxLastWordRead m n i) s fun t =>
        [Output.readResponse m 0] <+: t.out ∧ Only s t [] []) ∧
    (∀ (ms : List Nat) (s : State),
      Powered s →
      Completes (.mbxPartyReset ms) s fun t =>
        True ∧ (∀ n, (chanOf s n).st = .claimed → chanOf t n = if (chanOf s n).holder ∈ ms then toIdle (chanOf s n) else chanOf s n) ∧
        (∀ n, (chanOf s n).st = .full → chanOf t n = { chanOf s n with
          orphan := (chanOf s n).orphan || ms.contains (chanOf s n).holder, rxReset := (chanOf s n).rxReset || ms.contains (otherParty s n (chanOf s n).holder) }) ∧
        (∀ n, n < 64 → (chanOf s n).st = .full → (chanOf s n).holder ∉ ms → otherParty s n (chanOf s n).holder ∈ ms → (mbxDone t (chanOf s n).holder).getLsbD n = true) ∧
        (∀ n, (chanOf s n).st ≠ .claimed → (chanOf s n).st ≠ .full → chanOf t n = chanOf s n) ∧ OnlyParts s t [.mbx, .csh, .slk]) ∧
    (∀ (n m : Nat) (c : Chan) (s : State),
      Powered s → (s.mbx.chans.map (·.1)) = [n] → chanOf s n = c → c.st = .claimed → c.holder = m →
      Completes (.mbxPartyReset [m]) s fun t =>
        chanOf t n = toIdle c ∧ (∀ i, i ≠ n → chanOf t i = chanOf s i) ∧ Only s t [.mbx] []) ∧
    (∀ (n m : Nat) (c : Chan) (s : State),
      Powered s → (s.mbx.chans.map (·.1)) = [n] → chanOf s n = c → c.st = .full → c.holder = m → otherParty s n m ≠ m →
      Completes (.mbxPartyReset [m]) s fun t =>
        chanOf t n = { c with orphan := true } ∧ flag t F.mbxErr_orphaned = true ∧ t.mbx.done = s.mbx.done ∧ (∀ i, i ≠ n → chanOf t i = chanOf s i) ∧ Only s t [.mbx, .csh] [F.mbxErr_orphaned.addr, (F.cshMissed_total 11).addr]) ∧
    (∀ (n m : Nat) (c : Chan) (s : State),
      Powered s → (s.mbx.chans.map (·.1)) = [n] → chanOf s n = c → c.st = .full → c.holder ≠ m → otherParty s n c.holder = m →
      ((c.holder < 0x40 ∨ 0x50 ≤ c.holder)) →
      Completes (.mbxPartyReset [m]) s fun t =>
        chanOf t n = { c with rxReset := true } ∧ flag t F.mbxErr_rxReset = true ∧ mbxDone t c.holder = mbxDone s c.holder ||| BitVec.ofNat 64 (2 ^ n) ∧ (∀ i, i ≠ n → chanOf t i = chanOf s i) ∧ Only s t [.mbx, .csh] [F.mbxErr_orphaned.addr, (F.cshMissed_total 11).addr])

/-- A request above LEVEL draws a nonce and shows the challenge message; one at or below LEVEL is granted at once. A response that verifies against the
debug authority grants the level requested, one that does not is denied and counted. A challenge expires 60 seconds after it was ready. RELOCK closes
the port and lets halted cores run. At FULL the port halts a core; at CLOSED it is not served. -/
def Obligations.DebugPort : Prop :=
    (∀ (level : Nat) (s : State),
      Powered s → domainOn s .sec = true → getF s F.dbgUnlock_status ≠ dbgLocked → 0 < level → level < 3 → getF s F.dbgUnlock_level < level →
      Completes (.dbgUnlockReq level) s fun t =>
        getF t F.dbgUnlock_status = dbgChalReady ∧ flag t F.dbgUnlock_req = true ∧ getF t F.dbgUnlock_reqLevel = level ∧ getF t F.dbgUnlock_level = getF s F.dbgUnlock_level ∧ t.dbg = { s.dbg with resp := [], chalAt := s.clk.us } ∧ t.free = s.free + 1 ∧
        chalMessage t = leBytes 32 (Config.freeNat s.free) ++ beBytes 8 s.otp.devUid.toNat ++ leBytes 1 (lifecycle s) ++ leBytes 1 level ++ leBytes 3 s.clk.pwrcyc ++ [0, 0, 0] ∧ Only s t [.dbg, .free] (F.dbgUnlock_level.addr :: (List.range 12).map fun i => (F.dbgChal_word i).addr)) ∧
    (∀ (level : Nat) (s : State),
      Powered s → domainOn s .sec = true → getF s F.dbgUnlock_status ≠ dbgLocked → level ≤ getF s F.dbgUnlock_level → level < 2 →
      Completes (.dbgUnlockReq level) s fun t =>
        getF t F.dbgUnlock_status = dbgGranted ∧ flag t F.dbgUnlock_req = false ∧ (∀ i ∈ List.range 12, getF t (F.dbgChal_word i) = 0) ∧ getF t F.dbgUnlock_level = level ∧ getF t F.dbgUnlock_fails = 0 ∧ Only s t [.dbg] (F.dbgUnlock_level.addr :: (List.range 12).map fun i => (F.dbgChal_word i).addr)) ∧
    (∀ (level : Nat) (s : State),
      Powered s → domainOn s .sec = true → getF s F.dbgUnlock_status ≠ dbgLocked → level = 2 → getF s F.dbgUnlock_level = 2 →
      Completes (.dbgUnlockReq level) s fun t =>
        getF t F.dbgUnlock_status = dbgGranted ∧ flag t F.dbgUnlock_req = false ∧ (∀ i ∈ List.range 12, getF t (F.dbgChal_word i) = 0) ∧ getF t F.dbgUnlock_level = 2 ∧ getF t F.dbgUnlock_fails = 0 ∧ Only s t [.dbg] (F.dbgUnlock_level.addr :: (List.range 12).map fun i => (F.dbgChal_word i).addr)) ∧
    (∀ (level : Nat) (s : State),
      Powered s → domainOn s .sec = false → getF s F.dbgUnlock_status ≠ dbgLocked →
      Completes (.dbgUnlockReq level) s fun t =>
        getF t F.dbgUnlock_status = dbgNoSec ∧ flag t F.dbgUnlock_req = false ∧ (∀ i ∈ List.range 12, getF t (F.dbgChal_word i) = 0) ∧ getF t F.dbgUnlock_level = getF s F.dbgUnlock_level ∧ Only s t [.dbg] (F.dbgUnlock_level.addr :: (List.range 12).map fun i => (F.dbgChal_word i).addr)) ∧
    (∀ (level : Nat) (s : State),
      Powered s → domainOn s .sec = true → getF s F.dbgUnlock_status ≠ dbgLocked → level % 4 = 3 → getF s F.dbgUnlock_fails < 2 →
      Completes (.dbgUnlockReq level) s fun t =>
        getF t F.dbgUnlock_status = dbgDenied ∧ flag t F.dbgUnlock_req = false ∧ (∀ i ∈ List.range 12, getF t (F.dbgChal_word i) = 0) ∧ getF t F.dbgUnlock_level = getF s F.dbgUnlock_level ∧ getF t F.dbgUnlock_fails = getF s F.dbgUnlock_fails + 1 ∧ Only s t [.dbg] (F.dbgUnlock_level.addr :: (List.range 12).map fun i => (F.dbgChal_word i).addr)) ∧
    (∀ (level : Nat) (s : State),
      Powered s → getF s F.dbgUnlock_status = dbgLocked →
      Completes (.dbgUnlockReq level) s fun t =>
        True ∧ Only s t [] []) ∧
    (∀ (last : DWord) (s : State),
      Powered s → getF s F.dbgUnlock_status = dbgChalReady → getF s F.dbgUnlock_reqLevel = 2 → lifecycle s = 2 → getF s F.dbgUnlock_level ≠ 2 →
      unlockVerifies s (dbgResponse s last) = true →
      Completes (.dbgRespVerify last none) s fun t =>
        getF t F.dbgUnlock_status = dbgGranted ∧ flag t F.dbgUnlock_req = false ∧ (∀ i ∈ List.range 12, getF t (F.dbgChal_word i) = 0) ∧ getF t F.dbgUnlock_level = 2 ∧ getF t F.dbgUnlock_fails = 0 ∧ (∀ kv ∈ t.tkr.slots, 4096 ≤ kv.1) ∧ (∀ k ∈ t.cph.keyCache, 4096 ≤ k.keySlot)) ∧
    (∀ (last : DWord) (s : State),
      Powered s → getF s F.dbgUnlock_status = dbgChalReady → 2 ≤ getF s F.dbgUnlock_fails → unlockVerifies s (dbgResponse s last) = false →
      Completes (.dbgRespVerify last none) s fun t =>
        getF t F.dbgUnlock_status = dbgLocked ∧ getF t F.dbgUnlock_level = getF s F.dbgUnlock_level ∧ getF t F.dbgUnlock_fails = 3 ∧ bitAt (getF t F.secAlarmStat_latched) 5 = true) ∧
    (∀ (last : DWord) (a : Option Nat) (s : State),
      Powered s → getF s F.dbgUnlock_status ≠ dbgChalReady →
      Completes (.dbgRespVerify last a) s fun t =>
        True ∧ Only s t [] []) ∧
    (∀ (s : State),
      Powered s → getF s F.dbgUnlock_status ≠ dbgChalReady →
      Completes (.dbgChallengeExpiry) s fun t =>
        True ∧ Only s t [] []) ∧
    (∀ (last : DWord) (s : State),
      Powered s → getF s F.dbgUnlock_status = dbgChalReady → getF s F.dbgUnlock_reqLevel = 1 → unlockVerifies s (dbgResponse s last) = true →
      Completes (.dbgRespVerify last none) s fun t =>
        getF t F.dbgUnlock_status = dbgGranted ∧ flag t F.dbgUnlock_req = false ∧ (∀ i ∈ List.range 12, getF t (F.dbgChal_word i) = 0) ∧ getF t F.dbgUnlock_level = 1 ∧ getF t F.dbgUnlock_fails = 0 ∧ t.dbg = { s.dbg with resp := [] } ∧ Only s t [.dbg] (F.dbgUnlock_level.addr :: (List.range 12).map fun i => (F.dbgChal_word i).addr)) ∧
    (∀ (last : DWord) (s : State),
      Powered s → getF s F.dbgUnlock_status = dbgChalReady → getF s F.dbgUnlock_fails < 2 → unlockVerifies s (dbgResponse s last) = false →
      Completes (.dbgRespVerify last none) s fun t =>
        getF t F.dbgUnlock_status = dbgDenied ∧ flag t F.dbgUnlock_req = false ∧ (∀ i ∈ List.range 12, getF t (F.dbgChal_word i) = 0) ∧ getF t F.dbgUnlock_level = getF s F.dbgUnlock_level ∧ getF t F.dbgUnlock_fails = getF s F.dbgUnlock_fails + 1 ∧ Only s t [.dbg] (F.dbgUnlock_level.addr :: (List.range 12).map fun i => (F.dbgChal_word i).addr)) ∧
    (∀ (s : State),
      Powered s → getF s F.dbgUnlock_status = dbgChalReady →
      Completes (.dbgChallengeExpiry) s fun t =>
        getF t F.dbgUnlock_status = dbgExpired ∧ flag t F.dbgUnlock_req = false ∧ (∀ i ∈ List.range 12, getF t (F.dbgChal_word i) = 0) ∧ t.clk.us = max s.clk.us (s.dbg.chalAt + 60000000) ∧ Only s t [.dbg, .clk] (F.dbgUnlock_level.addr :: (List.range 12).map fun i => (F.dbgChal_word i).addr)) ∧
    (∀ (s : State),
      Powered s → s.pmu.pending = none →
      Completes (.relock) s fun t =>
        getF t F.dbgUnlock_level = 0 ∧ t.dbg = { s.dbg with halted := [] } ∧ Only s t [.dbg] [F.dbgUnlock_level.addr]) ∧
    (∀ (core : Nat) (s : State),
      Powered s → getF s F.dbgUnlock_level = 2 → haltable s core = true →
      Completes (.debugPortAccess (.halt core)) s fun t =>
        t.dbg = { s.dbg with halted := addOnce s.dbg.halted core } ∧ core ∈ t.dbg.halted ∧ Only s t [.dbg] []) ∧
    (∀ (core : Nat) (s : State),
      Powered s → getF s F.dbgUnlock_level = 2 → core ∈ s.dbg.halted →
      Completes (.debugPortAccess (.step core)) s fun t =>
        [Output.note "debug step" core] <+: t.out ∧ Only s t [] []) ∧
    (∀ (core : Nat) (s : State),
      Powered s → getF s F.dbgUnlock_level = 2 → core ∈ s.dbg.halted → s.pmu.pending = none →
      Completes (.debugPortAccess (.resume core)) s fun t =>
        t.dbg = { s.dbg with halted := s.dbg.halted.filter (· != core) } ∧ Only s t [.dbg] []) ∧
    (∀ (addr : Nat) (data : Word) (s : State),
      Powered s → getF s F.dbgUnlock_level = 2 → dramReady s = true → 0x11640000 ≤ addr → addr + 8 ≤ 0x1C0000000 → addr % 64 ≤ 56 →
      spFind s.mep.merge (addr / 64) = none → s.mep.merge.length < 64 →
      Completes (.debugPortAccess (.memWrite true addr data)) s fun t =>
        (∀ i ∈ List.range 8, memByte t (addr + i) = listAt 0 (leBytes 8 data.toNat) i) ∧ (∀ a, a < addr ∨ addr + 8 ≤ a → memByte t a = memByte s a)) ∧
    (∀ (addr : Nat) (s : State),
      Powered s → getF s F.dbgUnlock_level = 2 → dramReady s = true → addr + 8 ≤ usableDram →
      Completes (.debugPortAccess (.memRead true addr)) s fun t =>
        [Output.debugRead addr (BitVec.ofNat 64 (ofLe (memBytes s addr 8)))] <+: t.out ∧ Only s t [] []) ∧
    (∀ (op : DebugOp) (s : State),
      Powered s → getF s F.dbgUnlock_level = 0 → ((match op with | .csrRead _ _ => false | .csrWrite _ _ _ => false | _ => true) = true) →
      Completes (.debugPortAccess op) s fun t =>
        Only s t [] []) ∧
    (∀ (a k : Nat) (s : State),
      Powered s → debugReach s a false = false →
      Completes (.debugPortAccess (.csrRead a k)) s fun t =>
        Only s t [] []) ∧
    (∀ (a k : Nat) (v : Word) (s : State),
      Powered s → debugReach s a true = false →
      Completes (.debugPortAccess (.csrWrite a k v)) s fun t =>
        Only s t [] []) ∧
    (∀ (core : Nat) (s : State),
      Powered s → getF s F.dbgUnlock_level ≠ 2 →
      Completes (.debugPortAccess (.halt core)) s fun t =>
        Only s t [] [])

/-- GET_VERSION begins the connection anew, GET_CAPABILITIES and NEGOTIATE_ALGORITHMS bring it on. Digests, certificate parts, measurements and a signed
challenge are answered with the negotiated hash and the alias key, and requests and responses are kept in the transcript. KEY_EXCHANGE opens a session
with its handshake keys, FINISH completes it and END_SESSION ends it, each as a sealed record over MCTP; the DOE mailbox carries no session. A request
before its turn is answered Unexpected Request. Large messages go in chunks, in order. DOE Discovery lists Discovery and CMA-SPDM. The message codes
are the published standard's, as the model has them (assumption log entry 106). -/
def Obligations.SpdmResponder : Prop :=
    (∀ (tr : Nat) (s : State),
      Powered s → responderRuns s = true → tr < 2 →
      Completes (.getVersion tr) s fun t =>
        spdmOf t tr = ({ noSpdm with version := true } : Spdm).note (spdmMsg 0x84 [] ++ spdmMsg 0x04 [(0, [0x12#8])]) ∧ [Output.spdm 0x04 [(0, [0x12#8])]] <+: t.out ∧ (∀ i, i ≠ tr → spdmOf t i = spdmOf s i) ∧ Only s t [.spdm] []) ∧
    (∀ (tr transfer : Nat) (x : Spdm) (s : State),
      Powered s → responderRuns s = true → tr < 2 → spdmOf s tr = x → x.version = true → transfer = 0 →
      Completes (.getCapabilities tr transfer) s fun t =>
        spdmOf t tr = ({ x with capabilities := true, transfer := 0 } : Spdm).note (spdmMsg 0xE1 [(0, leBytes 4 0)] ++ spdmMsg 0x61 [(0, leBytes 4 spdmFlags), (1, Config.standardBytes 0x630 0)]) ∧ [Output.spdm 0x61 [(0, leBytes 4 spdmFlags), (1, Config.standardBytes 0x630 0)]] <+: t.out ∧ (∀ i, i ≠ tr → spdmOf t i = spdmOf s i) ∧ Only s t [.spdm] []) ∧
    (∀ (tr transfer : Nat) (x : Spdm) (s : State),
      Powered s → responderRuns s = true → tr < 2 → spdmOf s tr = x → x.version = true →
      Completes (.getCapabilities tr transfer) s fun t =>
        (spdmOf t tr).capabilities = true ∧ (spdmOf t tr).transfer = transfer ∧ (∀ i, i ≠ tr → spdmOf t i = spdmOf s i) ∧ Only s t [.spdm] []) ∧
    (∀ (tr c h : Nat) (x : Spdm) (s : State),
      Powered s → responderRuns s = true → tr < 2 → spdmOf s tr = x → x.capabilities = true → x.transfer = 0 → ((c = 1 ∨ c = 2)) →
      ((h = 1 ∨ h = 2)) →
      Completes (.negotiateAlgorithms tr c h 2 true) s fun t =>
        spdmOf t tr = ({ x with negotiated := true, curve384 := c == 2, hash384 := h == 2, dhe384 := some true } : Spdm).note (spdmMsg 0xE3 [(0, leBytes 1 c), (1, leBytes 1 h), (2, [2#8]), (3, [1#8])] ++ spdmMsg 0x63 [(0, [BitVec.ofNat 8 (c - 1)]), (1, [BitVec.ofNat 8 (h - 1)]), (2, [2#8]), (3, [1#8])]) ∧ [Output.spdm 0x63 [(0, [BitVec.ofNat 8 (c - 1)]), (1, [BitVec.ofNat 8 (h - 1)]), (2, [2#8]), (3, [1#8])]] <+: t.out ∧ (∀ i, i ≠ tr → spdmOf t i = spdmOf s i) ∧ Only s t [.spdm] []) ∧
    (∀ (tr g : Nat) (x : Spdm) (s : State),
      Powered s → responderRuns s = true → tr < 2 → spdmOf s tr = x → x.capabilities = true →
      Completes (.negotiateAlgorithms tr 1 1 g false) s fun t =>
        (spdmOf t tr).negotiated = true ∧ (spdmOf t tr).dhe384 = none ∧ (∀ i, i ≠ tr → spdmOf t i = spdmOf s i) ∧ Only s t [.spdm] []) ∧
    (∀ (tr : Nat) (x : Spdm) (s : State),
      Powered s → responderRuns s = true → tr < 2 → spdmOf s tr = x → x.negotiated = true → x.transfer = 0 →
      Completes (.getDigests tr) s fun t =>
        spdmOf t tr = x.note (spdmMsg 0x81 [] ++ spdmMsg 0x01 [(0, [0x03#8]), (1, spdmHash x (certChain s 0)), (2, spdmHash x (certChain s 1))]) ∧ [Output.spdm 0x01 [(0, [0x03#8]), (1, spdmHash x (certChain s 0)), (2, spdmHash x (certChain s 1))]] <+: t.out ∧ (∀ i, i ≠ tr → spdmOf t i = spdmOf s i) ∧ Only s t [.spdm] []) ∧
    (∀ (tr slot off len : Nat) (x : Spdm) (s : State),
      Powered s → responderRuns s = true → tr < 2 → spdmOf s tr = x → x.negotiated = true → x.transfer = 0 → slot < 2 →
      off ≤ (certChain s slot).length →
      Completes (.getCertificate tr slot off len) s fun t =>
        [Output.spdm 0x02 [(0, [BitVec.ofNat 8 slot]), (1, leBytes 2 (min len ((certChain s slot).length - off))), (2, leBytes 2 ((certChain s slot).length - off - min len ((certChain s slot).length - off))), (3, ((certChain s slot).drop off).take len)]] <+: t.out ∧ (∀ i, i ≠ tr → spdmOf t i = spdmOf s i) ∧ Only s t [.spdm] []) ∧
    (∀ (tr slot : Nat) (nonce : List Byte) (x : Spdm) (s : State),
      Powered s → responderRuns s = true → tr < 2 → spdmOf s tr = x → x.negotiated = true → x.transfer = 0 → slot < 2 →
      Completes (.challenge tr slot nonce) s fun t =>
        spdmOf t tr = x.note (spdmMsg 0x83 [(0, leBytes 1 slot), (1, nonce)] ++ spdmMsg 0x03 ([(0, leBytes 1 slot), (1, spdmHash x (certChain s slot)), (2, leBytes 32 (Config.freeNat s.free)), (3, nonce)] ++ [(4, (spdmSign { s with free := s.free + 1 } x "responder-challenge_auth signing" (spdmMsg 0x83 [(0, leBytes 1 slot), (1, nonce)] ++ spdmMsg 0x03 ([(0, leBytes 1 slot), (1, spdmHash x (certChain s slot)), (2, leBytes 32 (Config.freeNat s.free)), (3, nonce)]))).1)])) ∧
        [Output.spdm 0x03 ([(0, leBytes 1 slot), (1, spdmHash x (certChain s slot)), (2, leBytes 32 (Config.freeNat s.free)), (3, nonce)] ++ [(4, (spdmSign { s with free := s.free + 1 } x "responder-challenge_auth signing" (spdmMsg 0x83 [(0, leBytes 1 slot), (1, nonce)] ++ spdmMsg 0x03 ([(0, leBytes 1 slot), (1, spdmHash x (certChain s slot)), (2, leBytes 32 (Config.freeNat s.free)), (3, nonce)]))).1)])] <+: t.out ∧ (∀ i, i ≠ tr → spdmOf t i = spdmOf s i) ∧ Only s t [.free, .spdm] []) ∧
    (∀ (tr i : Nat) (nonce : List Byte) (x : Spdm) (s : State),
      Powered s → responderRuns s = true → tr < 2 → spdmOf s tr = x → x.negotiated = true → x.transfer = 0 → 0 < i → i ≤ 7 →
      Completes (.getMeasurements tr i false nonce) s fun t =>
        spdmOf t tr = x.note (spdmMsg 0xE0 [(0, leBytes 1 0), (1, leBytes 1 i), (2, nonce)] ++ spdmMsg 0x60 [(0, [1#8]), (i, measurement s x i)]) ∧ [Output.spdm 0x60 [(0, [1#8]), (i, measurement s x i)]] <+: t.out ∧ (∀ i, i ≠ tr → spdmOf t i = spdmOf s i) ∧ Only s t [.spdm] []) ∧
    (∀ (tr : Nat) (nonce : List Byte) (x : Spdm) (s : State),
      Powered s → responderRuns s = true → tr < 2 → spdmOf s tr = x → x.negotiated = true → x.transfer = 0 →
      Completes (.getMeasurements tr 0 false nonce) s fun t =>
        [Output.spdm 0x60 [(0, [7#8])]] <+: t.out ∧ (∀ i, i ≠ tr → spdmOf t i = spdmOf s i) ∧ Only s t [.spdm] []) ∧
    (∀ (tr : Nat) (nonce : List Byte) (x : Spdm) (s : State),
      Powered s → responderRuns s = true → tr < 2 → spdmOf s tr = x → x.negotiated = true → x.transfer = 0 →
      Completes (.getMeasurements tr 0xFF false nonce) s fun t =>
        [Output.spdm 0x60 ((0, [7#8]) :: [1, 2, 3, 4, 5, 6, 7].map fun i => (i, measurement s x i))] <+: t.out ∧ (∀ i, i ≠ tr → spdmOf t i = spdmOf s i) ∧ Only s t [.spdm] []) ∧
    (∀ (tr i : Nat) (nonce : List Byte) (x : Spdm) (s : State),
      Powered s → responderRuns s = true → tr < 2 → spdmOf s tr = x → x.negotiated = true → x.transfer = 0 → 0 < i → i ≤ 7 →
      Completes (.getMeasurements tr i true nonce) s fun t =>
        [Output.spdm 0x60 ([(0, [1#8]), (i, measurement s x i)] ++ [(8, leBytes 32 (Config.freeNat s.free)), (9, nonce)] ++ [(10, (spdmSign { s with free := s.free + 1 } x "responder-measurements signing" (spdmMsg 0xE0 [(0, leBytes 1 1), (1, leBytes 1 i), (2, nonce)] ++ spdmMsg 0x60 ([(0, [1#8]), (i, measurement s x i)] ++ [(8, leBytes 32 (Config.freeNat s.free)), (9, nonce)]))).1)])] <+: t.out ∧ (∀ i, i ≠ tr → spdmOf t i = spdmOf s i) ∧ Only s t [.free, .spdm] []) ∧
    (∀ (tr slot : Nat) (wide : Bool) (pub : List Byte) (x : Spdm) (s : State),
      Powered s → responderRuns s = true → tr < 2 → spdmOf s tr = x → x.negotiated = true → x.transfer = 0 → slot < 2 → x.dhe384 = some wide →
      onCurve (curveOf wide) (ofBe (bytesAt pub 0 (curveOf wide).size)) (ofBe (bytesAt pub (curveOf wide).size (curveOf wide).size)) = true →
      Completes (.keyExchange tr slot pub) s fun t =>
        True ∧ (∀ z, ecdh (curveOf wide) (Config.freeNat s.free % ((curveOf wide).n - 1) + 1) pub = some z → ∃ k ∈ (spdmOf t tr).sessions, k.id = Config.freeNat (s.free + 1) % 65536 ∧ k.finished = false ∧ k.secret = spdmMac x (List.replicate (spdmSize x) 0) z ∧ k.rx = 0 ∧ k.tx = 0) ∧
        (∀ k ∈ x.sessions, k.id ≠ Config.freeNat (s.free + 1) % 65536 → k ∈ (spdmOf t tr).sessions) ∧ (ecdh (curveOf wide) (Config.freeNat s.free % ((curveOf wide).n - 1) + 1) pub = none → spdmOf t tr = x ∧ [Output.spdm 0x7F [(0, [1#8])]] <+: t.out) ∧ (∀ i, i ≠ tr → spdmOf t i = spdmOf s i) ∧ Only s t [.free, .spdm] []) ∧
    (∀ (tr slot : Nat) (pub : List Byte) (x : Spdm) (s : State),
      Powered s → responderRuns s = true → tr < 2 → spdmOf s tr = x → x.negotiated = true → x.transfer = 0 → x.dhe384 = none →
      Completes (.keyExchange tr slot pub) s fun t =>
        [Output.spdm 0x7F [(0, [7#8])]] <+: t.out ∧ Only s t [] []) ∧
    (∀ (tr id : Nat) (k : SpdmSession) (x : Spdm) (record : List Byte) (s : State),
      Powered s → responderRuns s = true → tr < 2 → spdmOf s tr = x → x.negotiated = true → x.transfer = 0 → tr = 1 →
      x.sessions.find? (fun o => o.id == id && !o.finished) = some k →
      openRecord x k false k.rx record = some (spdmMsg 0xE5 [] ++ verifyData x k false (x.script ++ spdmMsg 0xE5 [])) →
      Completes (.finish tr id record) s fun t =>
        spdmOf t tr = putSession x (finishedSession x k (x.script ++ spdmMsg 0xE5 [] ++ verifyData x k false (x.script ++ spdmMsg 0xE5 []) ++ spdmMsg 0x65 [])) ∧ [Output.spdm 0x65 [(0, sealRecord x k true k.tx (spdmMsg 0x65 []))]] <+: t.out ∧ (∀ i, i ≠ tr → spdmOf t i = spdmOf s i) ∧ Only s t [.spdm] []) ∧
    (∀ (tr id : Nat) (k : SpdmSession) (x : Spdm) (record : List Byte) (s : State),
      Powered s → responderRuns s = true → tr < 2 → spdmOf s tr = x → x.negotiated = true → x.transfer = 0 → tr = 1 →
      x.sessions.find? (fun o => o.id == id && !o.finished) = some k →
      openRecord x k false k.rx record ≠ some (spdmMsg 0xE5 [] ++ verifyData x k false (x.script ++ spdmMsg 0xE5 [])) →
      Completes (.finish tr id record) s fun t =>
        spdmOf t tr = endSession x id ∧ [Output.spdm 0x7F [(0, [6#8])]] <+: t.out ∧ (∀ i, i ≠ tr → spdmOf t i = spdmOf s i) ∧ Only s t [.spdm] []) ∧
    (∀ (tr id : Nat) (k : SpdmSession) (x : Spdm) (record : List Byte) (s : State),
      Powered s → responderRuns s = true → tr < 2 → spdmOf s tr = x → x.negotiated = true → x.transfer = 0 → tr = 1 →
      x.sessions.find? (fun o => o.id == id && o.finished) = some k → openRecord x k false k.rx record = some (spdmMsg 0xEC []) →
      Completes (.endSession tr id record) s fun t =>
        spdmOf t tr = endSession x id ∧ [Output.spdm 0x6C [(0, sealRecord x k true k.tx (spdmMsg 0x6C []))]] <+: t.out ∧ (∀ i, i ≠ tr → spdmOf t i = spdmOf s i) ∧ Only s t [.spdm] []) ∧
    (∀ (tr id : Nat) (x : Spdm) (record : List Byte) (s : State),
      Powered s → responderRuns s = true → tr < 2 → spdmOf s tr = x → x.negotiated = true → x.transfer = 0 → tr = 1 →
      x.sessions.find? (fun o => o.id == id && o.finished) = none →
      Completes (.endSession tr id record) s fun t =>
        [Output.spdm 0x7F [(0, [2#8])]] <+: t.out ∧ Only s t [] []) ∧
    (∀ (id : Nat) (record : List Byte) (x : Spdm) (s : State),
      Powered s → responderRuns s = true → spdmOf s 0 = x → x.negotiated = true →
      Completes (.finish 0 id record) s fun t =>
        [Output.spdm 0x7F [(0, [7#8])]] <+: t.out ∧ Only s t [] []) ∧
    (∀ (id : Nat) (record : List Byte) (x : Spdm) (s : State),
      Powered s → responderRuns s = true → spdmOf s 0 = x → x.negotiated = true →
      Completes (.endSession 0 id record) s fun t =>
        [Output.spdm 0x7F [(0, [7#8])]] <+: t.out ∧ Only s t [] []) ∧
    (∀ (tr tz : Nat) (x : Spdm) (s : State),
      Powered s → responderRuns s = true → tr < 2 → spdmOf s tr = x → x.version = false →
      Completes (.getCapabilities tr tz) s fun t =>
        [Output.spdm 0x7F [(0, [4#8])]] <+: t.out ∧ Only s t [] []) ∧
    (∀ (tr c h g : Nat) (a : Bool) (x : Spdm) (s : State),
      Powered s → responderRuns s = true → tr < 2 → spdmOf s tr = x → x.capabilities = false →
      Completes (.negotiateAlgorithms tr c h g a) s fun t =>
        [Output.spdm 0x7F [(0, [4#8])]] <+: t.out ∧ Only s t [] []) ∧
    (∀ (tr slot : Nat) (pub : List Byte) (x : Spdm) (s : State),
      Powered s → responderRuns s = true → tr < 2 → spdmOf s tr = x → x.negotiated = false →
      Completes (.keyExchange tr slot pub) s fun t =>
        [Output.spdm 0x7F [(0, [4#8])]] <+: t.out ∧ Only s t [] []) ∧
    (∀ (tr slot : Nat) (nonce : List Byte) (s : State),
      Powered s → responderRuns s = false →
      Completes (.challenge tr slot nonce) s fun t =>
        True ∧ Only s t [] []) ∧
    (∀ (tr : Nat) (x : Spdm) (s : State),
      Powered s → responderRuns s = true → tr < 2 → spdmOf s tr = x → x.capabilities = true → x.chunks ≠ [] → x.transfer ≠ 0 →
      Completes (.chunkedTransfer tr true x.chunkSeq false []) s fun t =>
        spdmOf t tr = { x with chunks := x.chunks.drop x.transfer, chunkSeq := x.chunkSeq + 1 } ∧ [Output.spdm 0x06 [(0, leBytes 2 x.chunkSeq), (1, [BitVec.ofNat 8 (b2n (x.chunks.drop x.transfer).isEmpty)]), (2, x.chunks.take x.transfer)]] <+: t.out ∧ (∀ i, i ≠ tr → spdmOf t i = spdmOf s i) ∧ Only s t [.spdm] []) ∧
    (∀ (tr : Nat) (data : List Byte) (x : Spdm) (s : State),
      Powered s → responderRuns s = true → tr < 2 → spdmOf s tr = x → x.capabilities = true → x.chunkSeq ≠ 0 →
      Completes (.chunkedTransfer tr false x.chunkSeq false data) s fun t =>
        spdmOf t tr = { x with chunks := x.chunks ++ data, chunkSeq := x.chunkSeq + 1 } ∧ [Output.spdm 0x05 [(0, leBytes 2 x.chunkSeq)]] <+: t.out ∧ (∀ i, i ≠ tr → spdmOf t i = spdmOf s i) ∧ Only s t [.spdm] []) ∧
    (∀ (tr : Nat) (data : List Byte) (x : Spdm) (s : State),
      Powered s → responderRuns s = true → tr < 2 → spdmOf s tr = x → x.capabilities = true → x.negotiated = true → x.transfer = 0 →
      x.chunkSeq ≠ 0 → x.chunks ++ data = [0x12, 0x81] →
      Completes (.chunkedTransfer tr false x.chunkSeq true data) s fun t =>
        (spdmOf t tr).chunks = [] ∧ (spdmOf t tr).chunkSeq = 0 ∧ [Output.spdm 0x05 [(0, leBytes 2 x.chunkSeq)], Output.spdm 0x01 [(0, [0x03#8]), (1, spdmHash x (certChain s 0)), (2, spdmHash x (certChain s 1))]] <+: t.out ∧ (∀ i, i ≠ tr → spdmOf t i = spdmOf s i) ∧ Only s t [.spdm] []) ∧
    (∀ (s : State),
      Powered s → domainOn s .host = true →
      Completes (.doeDiscovery 0) s fun t =>
        [Output.doe [1, 0, 0, 1]] <+: t.out ∧ Only s t [] []) ∧
    (∀ (s : State),
      Powered s → domainOn s .host = true →
      Completes (.doeDiscovery 1) s fun t =>
        [Output.doe [1, 0, 1, 0]] <+: t.out ∧ Only s t [] []) ∧
    (∀ (n : Nat) (s : State),
      Powered s → domainOn s .host = true → 2 ≤ n →
      Completes (.doeDiscovery n) s fun t =>
        [Output.doe [0xFF, 0xFF, 0, 0]] <+: t.out ∧ Only s t [] [])

/-- The controller list of Read NVMe-MI Data Structure is the device's functions; a Subsystem Health Status Poll reports the composite temperature, a
Controller Health Status Poll the controllers it asks for. Configuration Set stores what Configuration Get answers; the MCTP transmission unit is 64
bytes. VPD Read answers a part of the VPD. A request in a packet is answered, an opcode not supported with Invalid Command Opcode. With PD_MGMT off up
to four packets are held and the first wakes the device; a fifth is refused. -/
def Obligations.NvmeMi : Prop :=
    (∀ (port ctrl : Nat) (s : State),
      Powered s → domainOn s .mgmt = true →
      Completes (.readNvmeMiDataStructure 2 port ctrl) s fun t =>
        [Output.mctp (leBytes 1 0 ++ leBytes 3 (2 + 2 * (funcsOf s).length) ++ leBytes 2 (funcsOf s).length ++ (funcsOf s).flatMap (leBytes 2))] <+: t.out ∧ Only s t [] []) ∧
    (∀ (s : State),
      Powered s → domainOn s .mgmt = true →
      Completes (.nvmSubsystemHealthStatusPoll) s fun t =>
        t.free = s.free + 1 ∧ [Output.mctp (leBytes 4 0 ++ patch (leBytes 8 (Config.freeNat s.free)) 2 (leBytes 1 (min 126 s.age.composite.toNat)))] <+: t.out ∧ Only s t [.free] []) ∧
    (∀ (f first count : Nat) (s : State),
      Powered s → domainOn s .mgmt = true → ((funcsOf s).filter fun f => decide (first ≤ f)).take count = [f] →
      Completes (.controllerHealthStatusPoll first count) s fun t =>
        t.free = s.free + 1 ∧ [Output.mctp (leBytes 1 0 ++ leBytes 3 1 ++ (miController s f).1)] <+: t.out ∧ Only s t [.free] []) ∧
    (∀ (id port : Nat) (s : State),
      Powered s → domainOn s .mgmt = true → ((id = 1 ∨ id = 2)) →
      Completes (.configurationGet id port) s fun t =>
        [Output.mctp (leBytes 1 0 ++ leBytes 3 (spGet 0 s.mi.config (id + 256 * port)))] <+: t.out ∧ Only s t [] []) ∧
    (∀ (port : Nat) (s : State),
      Powered s → domainOn s .mgmt = true →
      Completes (.configurationGet 3 port) s fun t =>
        [Output.mctp ([0, 64, 0, 0])] <+: t.out ∧ Only s t [] []) ∧
    (∀ (id port v : Nat) (s : State),
      Powered s → domainOn s .mgmt = true → ((id = 1 ∨ id = 2)) →
      Completes (.configurationSet id port v) s fun t =>
        spGet 0 t.mi.config (id + 256 * port) = v ∧ [Output.mctp ([0, 0, 0, 0])] <+: t.out ∧ (∀ k, k ≠ id + 256 * port → spGet 0 t.mi.config k = spGet 0 s.mi.config k) ∧ Only s t [.mi] []) ∧
    (∀ (off len : Nat) (s : State),
      Powered s → domainOn s .mgmt = true → off + len ≤ (Config.standardBytes 0x650 0).length →
      Completes (.vpdRead off len) s fun t =>
        [Output.mctp ([0, 0, 0, 0] ++ ((Config.standardBytes 0x650 0).drop off).take len)] <+: t.out ∧ Only s t [] []) ∧
    (∀ (bytes : List Byte) (q : Sqe) (s : State),
      Powered s → domainOn s .mgmt = true → s.aon.mctp = [] → fetchCheck s 0 { q with admin := true } = none →
      Completes (.mctpPacket bytes (some q)) s fun t =>
        slotOf t (spFree s.hif.slots (s.hif.slots.length + 1) 0) = some (freshSlot s 0 miQueue { q with admin := true }) ∧ (∀ m, m ≠ spFree s.hif.slots (s.hif.slots.length + 1) 0 → slotOf t m = slotOf s m) ∧ Only s t [.hif] []) ∧
    (∀ (ty port ctrl : Nat) (s : State),
      Powered s → domainOn s .mgmt = true → 5 < ty →
      Completes (.readNvmeMiDataStructure ty port ctrl) s fun t =>
        [Output.mctp ([4, 0, 0, 0])] <+: t.out ∧ Only s t [] []) ∧
    (∀ (port v : Nat) (s : State),
      Powered s → domainOn s .mgmt = true → v ≠ 64 →
      Completes (.configurationSet 3 port v) s fun t =>
        [Output.mctp ([4, 0, 0, 0])] <+: t.out ∧ Only s t [] []) ∧
    (∀ (off len : Nat) (s : State),
      Powered s → domainOn s .mgmt = true → (Config.standardBytes 0x650 0).length < off + len →
      Completes (.vpdRead off len) s fun t =>
        [Output.mctp ([4, 0, 0, 0])] <+: t.out ∧ Only s t [] []) ∧
    (∀ (id port : Nat) (s : State),
      Powered s → domainOn s .mgmt = false →
      Completes (.configurationGet id port) s fun t =>
        True ∧ Only s t [] []) ∧
    (∀ (bytes : List Byte) (s : State),
      Powered s → domainOn s .mgmt = true → s.aon.mctp = [] → leAt bytes 0 1 = 4 → leAt bytes 1 1 = 8 → 5 < leAt bytes 4 1 →
      Completes (.mctpPacket bytes none) s fun t =>
        [Output.mctp ([3, 0, 0, 0])] <+: t.out ∧ Only s t [] []) ∧
    (∀ (bytes : List Byte) (s : State),
      Powered s → domainOn s .mgmt = true → s.aon.mctp = [] → leAt bytes 0 1 = 4 → leAt bytes 1 1 = 8 → leAt bytes 4 1 = 4 → leAt bytes 8 4 = 3 →
      Completes (.mctpPacket bytes none) s fun t =>
        [Output.mctp ([0, 64, 0, 0])] <+: t.out ∧ Only s t [] []) ∧
    (∀ (bytes : List Byte) (q : Option Sqe) (s : State),
      PmuIdle s → domainOn s .mgmt = false → 0 < s.aon.mctp.length → s.aon.mctp.length < 4 →
      Completes (.mctpPacket bytes q) s fun t =>
        t.aon = { s.aon with mctp := s.aon.mctp ++ [⟨bytes, q⟩] } ∧ Only s t [.aon] []) ∧
    (∀ (bytes : List Byte) (q : Option Sqe) (s : State),
      PmuIdle s → domainOn s .mgmt = false → operational s = true → s.aon.mctp = [] →
      Completes (.mctpPacket bytes q) s fun t =>
        t.aon = { s.aon with mctp := [⟨bytes, q⟩] } ∧ flag t F.pmuWake_mctp = true ∧ Only s t [.aon] [F.pmuWake_mctp.addr]) ∧
    (∀ (bytes : List Byte) (q : Option Sqe) (s : State),
      Powered s → domainOn s .mgmt = false → s.aon.mctp.length = 4 →
      Completes (.mctpPacket bytes q) s fun t =>
        Only s t [] [])

/-- A narrow write changes the bytes it stores and no other byte, whether it stays in the merge buffer or is written back at once; a write-back of an
entry changes no byte a reader finds. MEP_FLIP is armed and disarmed. A scrub starts, or ends at once with ZERO_LENGTH or RANGE; it checks line after
line, counts a bad line and reports it, and ends DONE after the last with its summary, or ABORTED at STOP. -/
def Obligations.IntegrityRows : Prop :=
    (∀ (m a : Nat) (bs : List Byte) (s : State),
      Works s → dramReady s = true → reservedMaster m = false → m ≠ idLrs → bs ≠ [] → a % 64 + bs.length ≤ 64 → bs.length < 64 →
      a + bs.length ≤ usableDram → ((List.range 64).all fun i => (tableAt s (64 * (a / 64) + i)).isNone) = true →
      spFind s.mep.merge (a / 64) = none → s.mep.merge.length < 64 → lineBad s (64 * (a / 64)) = [] →
      Completes (.narrowDramWrite m a bs) s fun t =>
        (∀ i, i < bs.length → memByte t (a + i) = listAt 0 bs i) ∧ (∀ x, x < a ∨ a + bs.length ≤ x → memByte t x = memByte s x) ∧ Only s t [.mep] []) ∧
    (∀ (l : Nat) (e : MergeEntry) (s : State),
      Works s → (mergeOldest MergeEntry.since s.mep.merge).map (·.1) = some l → spFind s.mep.merge l = some e → e.bytes.length = 64 →
      ((tableAt s (64 * l)).isNone || (tableAt s (64 * l + 63)).isNone || (List.range 64).all fun i => (tableAt s (64 * l + i)).isSome) = true →
      Completes (.mergeEntryWriteback) s fun t =>
        spFind t.mep.merge l = none ∧ (∀ x, memByte t x = memByte s x) ∧ Only s t [.mep] []) ∧
    (∀ (m a : Nat) (bs : List Byte) (e : MergeEntry) (s : State),
      Works s → dramReady s = true → reservedMaster m = false → m ≠ idLrs → bs ≠ [] → a % 64 + bs.length ≤ 64 → bs.length < 64 →
      a + bs.length ≤ usableDram → ((List.range 64).all fun i => (tableAt s (64 * (a / 64) + i)).isNone) = true →
      spFind s.mep.merge (a / 64) = some e → e.bytes.length = 64 →
      Completes (.narrowDramWrite m a bs) s fun t =>
        (∀ i, i < bs.length → memByte t (a + i) = listAt 0 bs i) ∧ (∀ x, x < a ∨ a + bs.length ≤ x → memByte t x = memByte s x) ∧ Only s t [.mep] []) ∧
    (∀ (m i : Nat) (bs : List Byte) (s : State),
      Works s → dramReady s = true → reservedMaster m = false → m ≠ idLrs → i ≤ lastRecord → bs.length = 16 → spFind s.mep.merge (i / 4) = none →
      s.mep.merge.length < 64 → lineBad s (64 * (i / 4)) = [] →
      Completes (.narrowDramWrite m (16 * i) bs) s fun t =>
        spGet (freshBrt i) t.mhm.brt i = { recordOfBytes bs with chk := listAt 0 bs 15 } ∧ (∀ k, k ≠ i → spGet (freshBrt k) t.mhm.brt k = spGet (freshBrt k) s.mhm.brt k) ∧ Only s t [.mep, .mhm] []) ∧
    (∀ (m a : Nat) (bs : List Byte) (s : State),
      Works s → reservedMaster m = false → domainOn s .dmc = true → usableDram < a + bs.length →
      Completes (.narrowDramWrite m a bs) s fun t =>
        Output.errorResponse m a ∈ t.out ∧ Only s t [.csh] [(F.cshMissed_total 7).addr]) ∧
    (∀ (a : Nat) (bs : List Byte) (s : State),
      Works s → dramReady s = true → a + bs.length ≤ usableDram →
      Completes (.narrowDramWrite idLrs a bs) s fun t =>
        True ∧ Only s t [] []) ∧
    (∀ (s : State),
      Works s → s.mep.merge = [] →
      Completes (.mergeEntryWriteback) s fun t =>
        True ∧ Only s t [] []) ∧
    (∀ (m f tg mask : Nat) (s : State),
      Works s → Reaches s m F.mepFlip_arm.addr true → injectAllowed s = true → getF (setF s F.mepFlip_mask mask) F.mepFlip_mask ≠ 0 →
      Completes (.flipArm m f tg mask) s fun t =>
        getF t F.mepFlip_arm = 1 ∧ holds t F.mepFlip_mask mask ∧ holds t F.mepFlip_func f ∧ holds t F.mepFlip_target tg ∧ Only s t [] [F.mepFlip_arm.addr]) ∧
    (∀ (m f tg mask : Nat) (s : State),
      Works s → Reaches s m F.mepFlip_arm.addr true → injectAllowed s = true → getF (setF s F.mepFlip_mask mask) F.mepFlip_mask = 0 →
      Completes (.flipArm m f tg mask) s fun t =>
        getF t F.mepFlip_arm = 0 ∧ getF t F.mepFlip_mask = 0 ∧ holds t F.mepFlip_func f ∧ holds t F.mepFlip_target tg ∧ Only s t [] [F.mepFlip_arm.addr]) ∧
    (∀ (m f tg mask : Nat) (s : State),
      Works s → Reaches s m F.mepFlip_arm.addr true → injectAllowed s = false →
      Completes (.flipArm m f tg mask) s fun t =>
        True ∧ Only s t [] []) ∧
    (∀ (m : Nat) (s : State),
      Works s → Reaches s m F.mepFlip_arm.addr true → injectAllowed s = false →
      Completes (.flipDisarm m) s fun t =>
        True ∧ Only s t [] []) ∧
    (∀ (m : Nat) (s : State),
      Works s → Reaches s m F.mepFlip_arm.addr true → injectAllowed s = true →
      Completes (.flipDisarm m) s fun t =>
        getF t F.mepFlip_arm = 0 ∧ getF t F.mepFlip_mask = getF s F.mepFlip_mask ∧ Only s t [] [F.mepFlip_arm.addr]) ∧
    (∀ (m : Nat) (s : State),
      Works s → Reaches s m F.mepScrubCtrl_start.addr true → getF s F.mepScrubCtrl_status ≠ scrubRunning →
      getF s F.mepScrubCtrl_status ≠ scrubSuspended → getF s F.mepScrubLen_lines ≠ 0 → getF s F.mepScrubCtrl_rate ≠ 0 →
      scrubBase s + 64 * getF s F.mepScrubLen_lines ≤ (if flag s F.mepScrubCtrl_space then 67108864 else usableDram) →
      Completes (.scrubStart m) s fun t =>
        getF t F.mepScrubCtrl_status = scrubRunning ∧ flag t F.mepScrubCtrl_start = true ∧ getF t F.mepScrubSum_checked = 0 ∧ t.mep = { s.mep with scrub := ⟨0, 0, 0, 0, 0⟩ } ∧ Only s t [.mep] [F.mepScrubCtrl_status.addr, F.mepScrubSum_checked.addr, F.mepScrubErr_firstLine.addr]) ∧
    (∀ (m : Nat) (s : State),
      Works s → Reaches s m F.mepScrubCtrl_start.addr true → getF s F.mepScrubCtrl_status ≠ scrubRunning →
      getF s F.mepScrubCtrl_status ≠ scrubSuspended → (getF s F.mepScrubLen_lines = 0 ∨ getF s F.mepScrubCtrl_rate = 0) →
      Completes (.scrubStart m) s fun t =>
        getF t F.mepScrubCtrl_status = 3 ∧ Only s t [] [F.mepScrubCtrl_status.addr, F.mepScrubSum_checked.addr, F.mepScrubErr_firstLine.addr]) ∧
    (∀ (m : Nat) (s : State),
      Works s → Reaches s m F.mepScrubCtrl_start.addr true → getF s F.mepScrubCtrl_status ≠ scrubRunning →
      getF s F.mepScrubCtrl_status ≠ scrubSuspended → getF s F.mepScrubLen_lines ≠ 0 → getF s F.mepScrubCtrl_rate ≠ 0 →
      (if flag s F.mepScrubCtrl_space then 67108864 else usableDram) < scrubBase s + 64 * getF s F.mepScrubLen_lines →
      Completes (.scrubStart m) s fun t =>
        getF t F.mepScrubCtrl_status = 4 ∧ Only s t [] [F.mepScrubCtrl_status.addr, F.mepScrubSum_checked.addr, F.mepScrubErr_firstLine.addr]) ∧
    (∀ (m : Nat) (s : State),
      Works s → Reaches s m F.mepScrubCtrl_start.addr true →
      (getF s F.mepScrubCtrl_status = scrubRunning ∨ getF s F.mepScrubCtrl_status = scrubSuspended) →
      Completes (.scrubStart m) s fun t =>
        True ∧ Only s t [] []) ∧
    (∀ (m : Nat) (s : State),
      Works s → Reaches s m F.mepScrubCtrl_stop.addr true → getF s F.mepScrubCtrl_status ≠ scrubRunning →
      getF s F.mepScrubCtrl_status ≠ scrubSuspended →
      Completes (.scrubStop m) s fun t =>
        True ∧ Only s t [] []) ∧
    (∀ (found : List Nat) (s : State),
      Works s → getF s F.mepScrubCtrl_status ≠ scrubRunning →
      Completes (.scrubLineCheck found) s fun t =>
        True ∧ Only s t [] []) ∧
    (∀ (s : State),
      Works s → getF s F.mepScrubCtrl_status = scrubRunning → flag s F.mepScrubCtrl_space = false → s.mep.dramBad = [] →
      s.mep.scrub.next + 1 < getF s F.mepScrubLen_lines →
      Completes (.scrubLineCheck []) s fun t =>
        t.mep = { s.mep with scrub := { s.mep.scrub with next := s.mep.scrub.next + 1 } } ∧ Only s t [.mep] []) ∧
    (∀ (s : State),
      Works s → getF s F.mepScrubCtrl_status = scrubRunning → flag s F.mepScrubCtrl_space = false → s.mep.dramBad = [] →
      getF s F.mepScrubLen_lines ≤ s.mep.scrub.next + 1 →
      Completes (.scrubLineCheck []) s fun t =>
        getF t F.mepScrubCtrl_status = 2 ∧ flag t F.mepScrubCtrl_start = false ∧ holds t F.mepScrubSum_checked (s.mep.scrub.next + 1) ∧ getF t F.mepScrubSum_errLines = min s.mep.scrub.errLines 65535 ∧ t.mep = { s.mep with scrub := { s.mep.scrub with next := s.mep.scrub.next + 1 } } ∧ Only s t [.mep, .csh] [F.mepScrubCtrl_status.addr, F.mepScrubSum_checked.addr, F.mepScrubErr_firstLine.addr, (F.cshMissed_total 18).addr]) ∧
    (∀ (i : Nat) (s : State),
      Works s → getF s F.mepScrubCtrl_status = scrubRunning → flag s F.mepScrubCtrl_space = false → s.mep.dramBad = [] → i < 64 →
      spFind s.mep.merge (scrubBase s / 64 + s.mep.scrub.next) = none → s.mep.scrub.next + 1 < getF s F.mepScrubLen_lines →
      Completes (.scrubLineCheck [i]) s fun t =>
        t.mep = { s.mep with dramBad := [scrubBase s + 64 * s.mep.scrub.next + i], scrub := ⟨s.mep.scrub.next + 1, s.mep.scrub.errLines + 1, s.mep.scrub.errBytes + 1, if s.mep.scrub.errLines = 0 then s.mep.scrub.next else s.mep.scrub.first, s.mep.scrub.next⟩ } ∧ flag t F.mepErr_scrubErr = true ∧ flag t F.mepErr_dramParity = true ∧ getF t F.mepErr_parityCount = min (getF s F.mepErr_parityCount + 1) 65535 ∧ Only s t [.mep, .csh] [F.mepErr_scrubErr.addr, (F.cshMissed_total 17).addr, (F.cshMissed_total 6).addr]) ∧
    (∀ (m : Nat) (s : State),
      Works s → getF s F.mepScrubCtrl_status = scrubRunning → Reaches s m F.mepScrubCtrl_stop.addr true →
      Completes (.scrubStop m) s fun t =>
        getF t F.mepScrubCtrl_status = 5 ∧ flag t F.mepScrubCtrl_start = false ∧ holds t F.mepScrubSum_checked s.mep.scrub.next ∧ Only s t [.csh] [F.mepScrubCtrl_status.addr, F.mepScrubSum_checked.addr, F.mepScrubErr_firstLine.addr, (F.cshMissed_total 18).addr])

/-- A read of a line that nothing else is queued before is answered with its bytes and changes no byte, refused while the controller or its path is off; a
write stores its 64 bytes and no other. A refresh that falls due closes the row and catches up, or is postponed while requests to the bank are queued.
A temperature poll sets the refresh rate; drift beyond the limit retrains a channel. A failed retraining is fatal. Training leads to the fill after
COLD or SHELF, and a third failure or a wrong organisation stops the boot; the fill zeroes every byte; leaving self-refresh restores the training. An
idle bank closes its row. -/
def Obligations.DramRows : Prop :=
    (∀ (c m a : Nat) (lrs : Bool) (s : State),
      Works s → dramReady s = true → reservedMaster m = false → c < 8 → dramChannel a = c → a % 64 = 0 → a + 64 ≤ usableDram →
      (chanState s c).readQ = [] → (chanState s c).writeQ = [] → (chanState s c).waiting = [] → s.dmc.resps = [] →
      spFind s.mep.merge (a / 64) = none → lineBad s a = [] → (∀ kv ∈ s.dmc.chans, kv.2.readQ = []) →
      Completes (.dramCommandIssue c [⟨m, a, none, lrs⟩]) s fun t =>
        Output.dramResponse m a (dramBytes s a 64) [] ∈ t.out ∧ t.dmc.resps = [] ∧ (chanState t c).readQ = [] ∧ (∀ x, memByte t x = memByte s x) ∧ Only s t [.dmc] []) ∧
    (∀ (c m a : Nat) (bs : List Byte) (lrs : Bool) (s : State),
      Works s → dramReady s = true → reservedMaster m = false → c < 8 → dramChannel a = c → a % 64 = 0 → a + 64 ≤ usableDram →
      (chanState s c).readQ = [] → (chanState s c).writeQ = [] → (chanState s c).waiting = [] → s.dmc.resps = [] → bs.length = 64 →
      ((List.range 64).all fun i => (tableAt s (64 * (a / 64) + i)).isNone) = true →
      Completes (.dramCommandIssue c [⟨m, a, some bs, lrs⟩]) s fun t =>
        (chanState t c).writeQ = [] ∧ (∀ i, i < bs.length → memByte t (a + i) = listAt 0 bs i) ∧ (∀ x, x < a ∨ a + bs.length ≤ x → memByte t x = memByte s x) ∧ Only s t [.dmc, .mep] []) ∧
    (∀ (c : Nat) (x : DramAccess) (s : State),
      Works s → domainOn s .dmc = true → dramReady s = false → reservedMaster x.master = false →
      Completes (.dramCommandIssue c [x]) s fun t =>
        True ∧ Only s t [] []) ∧
    (∀ (c : Nat) (x : DramAccess) (s : State),
      Powered s → (domainOn s .dmc = false ∨ (domainOn s .data = false ∧ x.master ≠ idLrs)) → reservedMaster x.master = false → x.data = none →
      Completes (.dramCommandIssue c [x]) s fun t =>
        Output.readResponse x.master 0x0BAD0FF00BAD0FF0#64 ∈ t.out) ∧
    (∀ (c b : Nat) (p : Bool) (s : State),
      Powered s → dramReady s = true → c < 8 → b < 32 → bankBusy (chanState s c) b = false →
      Completes (.refreshDue c b p) s fun t =>
        spFind (chanState t c).rows b = none ∧ spGet 0 (chanState t c).postponed b = 0 ∧ (t.out.filter (· == Output.dram c b 0 0 .refresh)).length = spGet 0 (chanState s c).postponed b + 1 ∧ Only s t [.dmc] []) ∧
    (∀ (c b : Nat) (s : State),
      Powered s → dramReady s = true → c < 8 → b < 32 → bankBusy (chanState s c) b = true → spGet 0 (chanState s c).postponed b < 8 →
      Completes (.refreshDue c b true) s fun t =>
        chanState t c = { chanState s c with postponed := spSet 0 (chanState s c).postponed b (spGet 0 (chanState s c).postponed b + 1) } ∧ Only s t [.dmc] []) ∧
    (∀ (dies : List DieRate) (s : State),
      Powered s → dramReady s = true → getF s F.dmcRefresh_poll ≠ 0 → (dies.map rateMult).foldl max 0 < 2 →
      getF s F.dmcRefresh_mult ≤ (dies.map rateMult).foldl max 0 →
      Completes (.dramTempPoll dies) s fun t =>
        getF t F.dmcRefresh_mult = (dies.map rateMult).foldl max 0 ∧ holds t F.dmcRefresh_rateCode ((dies.map DieRate.code).foldl max 0) ∧ bitAt (getF t F.secAlarmStat_active) 3 = false ∧ Only s t [.dmc] [F.dmcRefresh_mult.addr, F.dmcRefresh_rateCode.addr, F.secAlarmStat_active.addr]) ∧
    (∀ (dies : List DieRate) (s : State),
      Powered s → dramReady s = true → getF s F.dmcRefresh_poll ≠ 0 → (dies.map rateMult).foldl max 0 = 2 → getF s F.dmcRefresh_mult ≤ 2 →
      bitAt (getF s F.secAlarmStat_active) 3 = true →
      Completes (.dramTempPoll dies) s fun t =>
        getF t F.dmcRefresh_mult = 2 ∧ flag t F.dmcErr_tempHigh = true ∧ Only s t [.dmc, .csh] [F.dmcRefresh_mult.addr, F.dmcRefresh_rateCode.addr, F.dmcErr_tempHigh.addr, (F.cshMissed_total 7).addr]) ∧
    (∀ (dies : List DieRate) (m : Nat) (s : State),
      Powered s → dramReady s = true → getF s F.dmcRefresh_poll ≠ 0 → (dies.map rateMult).foldl max 0 = m → m < getF s F.dmcRefresh_mult →
      s.dmc.lowPolls = 0 → m < 2 →
      Completes (.dramTempPoll dies) s fun t =>
        getF t F.dmcRefresh_mult = getF s F.dmcRefresh_mult ∧ t.dmc = { s.dmc with lowPolls := 1, lowMult := m } ∧ Only s t [.dmc] [F.dmcRefresh_rateCode.addr, F.secAlarmStat_active.addr]) ∧
    (∀ (dies : List DieRate) (m : Nat) (s : State),
      Powered s → dramReady s = true → getF s F.dmcRefresh_poll ≠ 0 → (dies.map rateMult).foldl max 0 = m → m < getF s F.dmcRefresh_mult →
      1 ≤ s.dmc.lowPolls → m < 2 →
      Completes (.dramTempPoll dies) s fun t =>
        holds t F.dmcRefresh_mult (max m s.dmc.lowMult) ∧ t.dmc.lowPolls = 0 ∧ t.dmc.lowMult = 0 ∧ Only s t [.dmc] [F.dmcRefresh_mult.addr, F.dmcRefresh_rateCode.addr, F.secAlarmStat_active.addr]) ∧
    (∀ (dies : List DieRate) (s : State),
      Powered s → dramReady s = true → getF s F.dmcRefresh_poll = 0 →
      Completes (.dramTempPoll dies) s fun t =>
        getF t F.dmcRefresh_mult = 1 ∧ Only s t [.dmc] [F.dmcRefresh_mult.addr]) ∧
    (∀ (c d : Nat) (s : State),
      Powered s → dramReady s = true → c < 8 → getF s F.dmcTrack_interval ≠ 0 → getF s F.dmcTrack_driftLimit ≠ 0 →
      d ≤ getF s F.dmcTrack_driftLimit →
      Completes (.dqTrackingInterval c d false) s fun t =>
        t.dmc = { s.dmc with trackDue := dropAll s.dmc.trackDue c } ∧ Only s t [.dmc] []) ∧
    (∀ (c d : Nat) (s : State),
      Powered s → dramReady s = true → c < 8 → getF s F.dmcTrack_interval ≠ 0 → getF s F.dmcTrack_driftLimit < d →
      Completes (.dqTrackingInterval c d false) s fun t =>
        t.dmc = { s.dmc with trackDue := dropAll s.dmc.trackDue c, storeValid := true, storeBad := false } ∧ getF t F.dmcTrack_retrains = min (getF s F.dmcTrack_retrains + 1) 65535 ∧ Only s t [.dmc] [F.dmcTrack_retrains.addr]) ∧
    (∀ (s : State),
      Powered s → domainOn s .dmc = true → s.dmc.selfRefresh = true → s.dmc.storeValid = true → s.dmc.storeBad = false →
      getF s F.dmcRefresh_poll ≠ 0 →
      Completes (.selfRefreshExit false) s fun t =>
        dramReady t = true ∧ t.pins.ddr = .driven ∧ getF t F.dmcStat_trained = 255 ∧ t.dmc = { s.dmc with selfRefresh := false, masked := false } ∧ Only s t [.dmc, .pins] [F.dmcStat_state.addr]) ∧
    (∀ (s : State),
      Powered s → domainOn s .dmc = true → s.dmc.selfRefresh = true →
      Completes (.selfRefreshExit true) s fun t =>
        getF t F.dmcStat_state = 2 ∧ getF t F.dmcStat_trained = 0 ∧ t.dmc = { s.dmc with selfRefresh := false, masked := false, storeBad := true } ∧ Only s t [.dmc, .pins] [F.dmcStat_state.addr]) ∧
    (∀ (s : State),
      Powered s → domainOn s .dmc = true → s.dmc.selfRefresh = false → getF s F.dmcStat_state < 3 → s.lrs.bootStopped = false →
      Completes (.dramTraining [] []) s fun t =>
        getF t F.dmcStat_trained = 255 ∧ getF t F.dmcStat_state = (if s.dmc.filled then 4 else 3) ∧ t.dmc.storeValid = true ∧ t.dmc.storeBad = false ∧ t.pins.ddr = .driven ∧ Only s t [.dmc, .pins] [F.dmcStat_state.addr]) ∧
    (∀ (c : Nat) (s : State),
      Powered s → domainOn s .dmc = true → s.dmc.selfRefresh = false → getF s F.dmcStat_state < 3 → s.lrs.bootStopped = false → c < 8 →
      getF s F.dmcStat_trained = 0 → (chanState s c).trainFails < 2 →
      Completes (.dramTraining [] [c]) s fun t =>
        getF t F.dmcStat_trained = 255 - 2 ^ c ∧ getF t F.dmcStat_state = 2 ∧ chanState t c = { chanState s c with trainFails := (chanState s c).trainFails + 1 } ∧ Only s t [.dmc, .pins] [F.dmcStat_state.addr]) ∧
    (∀ (c : Nat) (s : State),
      Powered s → domainOn s .dmc = true → s.dmc.selfRefresh = false → getF s F.dmcStat_state < 3 → s.lrs.bootStopped = false → c < 8 →
      getF s F.dmcStat_trained = 0 → 2 ≤ (chanState s c).trainFails →
      Completes (.dramTraining [] [c]) s fun t =>
        getF t F.dmcStat_state = 5 ∧ getF t F.prfBoot_stop = 4 ∧ t.lrs.bootStopped = true ∧ flag t F.dmcErr_trainFail = true ∧ t.pins.shelfAlertLow = true ∧ (∀ f ∈ funcsOf t, (funcOf t f).regs.cfs = true) ∧ OnlyParts s t [.dmc, .pins, .lrs, .csh, .hif, .vfm]) ∧
    (∀ (c : Nat) (failed : List Nat) (s : State),
      Powered s → domainOn s .dmc = true → s.dmc.selfRefresh = false → getF s F.dmcStat_state < 3 → s.lrs.bootStopped = false → c < 8 →
      Completes (.dramTraining [c] failed) s fun t =>
        getF t F.dmcStat_state = 5 ∧ getF t F.prfBoot_stop = 3 ∧ t.lrs.bootStopped = true ∧ flag t F.dmcErr_config = true ∧ bitAt (getF t F.dmcErr_ch) c = true ∧ OnlyParts s t [.dmc, .pins, .lrs, .csh, .hif, .vfm]) ∧
    (∀ (mis failed : List Nat) (s : State),
      Powered s → (3 ≤ getF s F.dmcStat_state ∨ s.lrs.bootStopped = true ∨ s.dmc.selfRefresh = true ∨ domainOn s .dmc = false) →
      Completes (.dramTraining mis failed) s fun t =>
        True ∧ Only s t [] []) ∧
    (∀ (p : Bool) (s : State),
      Powered s → s.dmc.selfRefresh = false →
      Completes (.selfRefreshExit p) s fun t =>
        True ∧ Only s t [] []) ∧
    (∀ (s : State),
      Powered s → getF s F.dmcStat_state ≠ 3 →
      Completes (.dramFill) s fun t =>
        True ∧ Only s t [] []) ∧
    (∀ (c d : Nat) (s : State),
      Powered s → dramReady s = true → c < 8 → getF s F.dmcTrack_interval ≠ 0 → getF s F.dmcTrack_driftLimit < d → s.lrs.phase = .watching →
      Completes (.dqTrackingInterval c d true) s fun t =>
        flag t F.dmcErr_trackFail = true ∧ bitAt (getF t F.dmcErr_ch) c = true ∧ getF t F.dmcTrack_retrains = min (getF s F.dmcTrack_retrains + 1) 65535 ∧ t.lrs.phase = .hold ∧ flag t F.rstLrs_fatal = true) ∧
    (∀ (c d : Nat) (f : Bool) (s : State),
      Powered s → getF s F.dmcTrack_interval = 0 → c ∉ s.dmc.trackDue →
      Completes (.dqTrackingInterval c d f) s fun t =>
        True ∧ Only s t [] []) ∧
    (∀ (s : State),
      Powered s → domainOn s .dmc = true → getF s F.dmcStat_state = 3 → getF s F.dmcRefresh_poll ≠ 0 →
      Completes (.dramFill) s fun t =>
        dramReady t = true ∧ t.mep = { s.mep with dram := [], dramBad := [] } ∧ t.dmc = { s.dmc with lost := none, filled := true } ∧ (∀ a, tableAt t a = none → dramByte t a = 0) ∧ Only s t [.dmc, .mep, .sbg] [F.dmcStat_state.addr]) ∧
    (∀ (c b r : Nat) (s : State),
      Powered s → spFind (chanState s c).rows b = some r →
      Completes (.pageIdlePrecharge c b) s fun t =>
        chanState t c = { chanState s c with rows := spErase (chanState s c).rows b } ∧ Output.dram c b r 0 .precharge ∈ t.out ∧ Only s t [.dmc] [])

/-- An allocation takes the head of the list of the smallest class that holds the size, or of the next class that takes spills, or waits; a DRAM buffer's
bytes are then undefined beyond its link word. A free puts the buffer at the head; an index or address that is no buffer's, and a second free, are
counted and refused. A corrupt link takes the list out of use, and a rebuild's end links every free buffer in ascending order; a corrupt bitmap is
fatal. A core's request answers with class and address, or NONE, ZERO_LENGTH or TOO_BIG, and a read of a final result clears it. An idle accumulator
is written to its parity blocks and its buffer freed. -/
def Obligations.Buffers : Prop :=
    (∀ (rq g size dl k i : Nat) (s : State),
      Works s → reservedMaster rq = false → g < 2 → 0 < size → size ≤ groupMax g → (eligible s g size).head? = some k → openCount s k ≠ 0 →
      Gives s k i →
      Completes (.bufferAlloc rq g size dl 0 false false) s fun t =>
        bufTaken (poolOf t k) i = true ∧ freeCount t k = freeCount s k - 1 ∧ Output.buffer rq k i ∈ t.out ∧ Only s t [.sbg] [(F.sbgPoolStat_free k).addr]) ∧
    (∀ (rq g size dl : Nat) (s : State),
      Works s → reservedMaster rq = false → g < 2 → 0 < size → size ≤ groupMax g → (∀ k ∈ eligible s g size, openCount s k = 0) →
      Completes (.bufferAlloc rq g size dl 0 false false) s fun t =>
        t.sbg = { s.sbg with waits := s.sbg.waits ++ [⟨rq, g, size, dl⟩] } ∧ Only s t [.sbg] []) ∧
    (∀ (rq g size dl k0 k i : Nat) (ks : List Nat) (s : State),
      Works s → reservedMaster rq = false → g < 2 → 0 < size → size ≤ groupMax g → eligible s g size = k0 :: k :: ks → openCount s k0 = 0 →
      openCount s k ≠ 0 → Gives s k i →
      Completes (.bufferAlloc rq g size dl 0 false false) s fun t =>
        bufTaken (poolOf t k) i = true ∧ freeCount t k = freeCount s k - 1 ∧ Output.buffer rq k i ∈ t.out ∧ Only s t [.sbg] [(F.sbgPoolStat_free k).addr]) ∧
    (∀ (rq g dl u : Nat) (a b : Bool) (s : State),
      Works s → reservedMaster rq = false → g < 2 →
      Completes (.bufferAlloc rq g 0 dl u a b) s fun t =>
        [Output.note "ZERO_LENGTH" rq] <+: t.out ∧ Only s t [] []) ∧
    (∀ (rq g size dl u : Nat) (a b : Bool) (s : State),
      Works s → reservedMaster rq = false → g < 2 → groupMax g < size →
      Completes (.bufferAlloc rq g size dl u a b) s fun t =>
        [Output.note "TOO_BIG" rq] <+: t.out ∧ Only s t [] []) ∧
    (∀ (rq g size dl k : Nat) (s : State),
      Works s → reservedMaster rq = false → g < 2 → 0 < size → size ≤ groupMax g → eligible s g size = [k] → openCount s k ≠ 0 →
      Completes (.bufferAlloc rq g size dl 0 true false) s fun t =>
        (poolOf t k).rebuilding = true ∧ flag t F.sbgErr_linkCorrupt = true ∧ flag t F.sbgErr_rebuild = true ∧ t.sbg.waits = s.sbg.waits ++ [⟨rq, g, size, dl⟩]) ∧
    (∀ (rq g size dl k u : Nat) (s : State),
      Works s → reservedMaster rq = false → g < 2 → 0 < size → size ≤ groupMax g → eligible s g size = [k] → openCount s k ≠ 0 →
      (poolOf s k).rebuilding = false → (poolOf s k).stopped = false → u ≠ 0 → linkGood k (poolOf (upsetHead s g size u) k) = false →
      Completes (.bufferAlloc rq g size dl u false false) s fun t =>
        (poolOf t k).rebuilding = true ∧ flag t F.sbgErr_linkCorrupt = true ∧ flag t F.sbgErr_rebuild = true ∧ t.sbg.waits = s.sbg.waits ++ [⟨rq, g, size, dl⟩]) ∧
    (∀ (rq g size dl k u : Nat) (a : Bool) (s : State),
      Works s → reservedMaster rq = false → g < 2 → 0 < size → size ≤ groupMax g → (eligible s g size).head? = some k → s.lrs.phase = .watching →
      Completes (.bufferAlloc rq g size dl u a true) s fun t =>
        (poolOf t k).stopped = true ∧ flag t F.mepErr_sramParity = true ∧ t.lrs.phase = .hold ∧ flag t F.rstLrs_fatal = true) ∧
    (∀ (rq k i : Nat) (s : State),
      Works s → reservedMaster rq = false → k < 6 → i < classCount k → (bufTaken (poolOf s k) i = false ∨ i ∈ (poolOf s k).queuedFrees) →
      Completes (.bufferFree rq k i) s fun t =>
        flag t F.sbgErr_doubleFree = true ∧ getF t F.sbgErr_errCount = min (getF s F.sbgErr_errCount + 1) 65535 ∧ poolOf t k = poolOf s k ∧ Only s t [.csh] [F.sbgErr_doubleFree.addr, F.sbgErrInfo_addr.addr, (F.cshMissed_total 8).addr]) ∧
    (∀ (rq k i : Nat) (s : State),
      Works s → reservedMaster rq = false → k < 6 → classCount k ≤ i →
      Completes (.bufferFree rq k i) s fun t =>
        flag t F.sbgErr_badIndex = true ∧ getF t F.sbgErr_errCount = min (getF s F.sbgErr_errCount + 1) 65535 ∧ poolOf t k = poolOf s k ∧ Only s t [.csh] [F.sbgErr_badIndex.addr, F.sbgErrInfo_addr.addr, (F.cshMissed_total 8).addr]) ∧
    (∀ (rq k i : Nat) (s : State),
      Works s → reservedMaster rq = false → k < 6 → i < classCount k → bufTaken (poolOf s k) i = true → i ∉ (poolOf s k).queuedFrees →
      (poolOf s k).rebuilding = true →
      Completes (.bufferFree rq k i) s fun t =>
        poolOf t k = { poolOf s k with queuedFrees := (poolOf s k).queuedFrees ++ [i] } ∧ Only s t [.sbg] []) ∧
    (∀ (rq k i : Nat) (s : State),
      Works s → reservedMaster rq = false → k < 6 → CanFree s k i →
      Completes (.bufferFree rq k i) s fun t =>
        bufTaken (poolOf t k) i = false ∧ (poolOf t k).head = i ∧ freeCount t k = freeCount s k + 1 ∧ Only s t [.sbg] [(F.sbgPoolStat_free k).addr]) ∧
    (∀ (k : Nat) (s : State),
      Works s → (poolOf s k).rebuilding = true → (poolOf s k).queuedFrees = [] → s.sbg.waits = [] →
      Completes (.freeListRebuildDone k) s fun t =>
        poolOf t k = rebuiltPool k (poolOf s k) ∧ (poolOf t k).rebuilding = false ∧ (poolOf t k).bits = (poolOf s k).bits ∧ (∀ j, j ≠ k → poolOf t j = poolOf s j) ∧ Only s t [.sbg, .mep] [F.sbgErr_rebuild.addr]) ∧
    (∀ (m size k i : Nat) (s : State),
      Works s → Reaches s m F.sbgAllocSize_size.addr true → isMc m = true → (allocResult s m).toNat / 2 ^ 61 ≠ 4 → 0 < size → size ≤ 1048576 →
      (eligible s 2 size).head? = some k → openCount s k ≠ 0 → Gives s k i →
      Completes (.sbgAllocSizeWrite m size) s fun t =>
        bufTaken (poolOf t k) i = true ∧ freeCount t k = freeCount s k - 1 ∧ allocResult t m = BitVec.ofNat 64 (bufAddr k i + k * 2 ^ 57) ∧ t.free = s.free + 1 ∧ (∀ x, bufAddr k i + 8 ≤ x → x < bufAddr k i + classBytes k → dramByte t x = Config.freeByte s.free x) ∧ Only s t [.sbg, .mep, .free] [(F.sbgPoolStat_free k).addr]) ∧
    (∀ (m size : Nat) (s : State),
      Works s → Reaches s m F.sbgAllocSize_size.addr true → isMc m = true → (allocResult s m).toNat / 2 ^ 61 ≠ 4 → 1048576 < size →
      Completes (.sbgAllocSizeWrite m size) s fun t =>
        allocResult t m = BitVec.ofNat 64 (3 * 2 ^ 61) ∧ (∀ x, x ≠ m → allocResult t x = allocResult s x) ∧ Only s t [.sbg] []) ∧
    (∀ (m : Nat) (s : State),
      Works s → Reaches s m F.sbgAllocSize_size.addr true → isMc m = true → (allocResult s m).toNat / 2 ^ 61 ≠ 4 →
      Completes (.sbgAllocSizeWrite m 0) s fun t =>
        allocResult t m = BitVec.ofNat 64 (2 * 2 ^ 61) ∧ (∀ x, x ≠ m → allocResult t x = allocResult s x) ∧ Only s t [.sbg] []) ∧
    (∀ (m size : Nat) (s : State),
      Works s → Reaches s m F.sbgAllocSize_size.addr true → isMc m = true → (allocResult s m).toNat / 2 ^ 61 ≠ 4 → 0 < size → size ≤ 1048576 →
      ((∀ k ∈ eligible s 2 size, openCount s k = 0)) →
      Completes (.sbgAllocSizeWrite m size) s fun t =>
        allocResult t m = BitVec.ofNat 64 (2 ^ 61) ∧ (∀ x, x ≠ m → allocResult t x = allocResult s x) ∧ Only s t [.sbg] []) ∧
    (∀ (m size k : Nat) (s : State),
      Works s → Reaches s m F.sbgAllocSize_size.addr true → isMc m = true → (allocResult s m).toNat / 2 ^ 61 ≠ 4 → 0 < size → size ≤ 1048576 →
      eligible s 2 size = [k] → openCount s k ≠ 0 → (poolOf s k).rebuilding = true →
      Completes (.sbgAllocSizeWrite m size) s fun t =>
        allocResult t m = BitVec.ofNat 64 (2 ^ 63) ∧ t.sbg.waits = s.sbg.waits ++ [⟨m, 2, size, 0⟩] ∧ (∀ x, x ≠ m → allocResult t x = allocResult s x) ∧ Only s t [.sbg] []) ∧
    (∀ (m size : Nat) (s : State),
      Works s → Reaches s m F.sbgAllocSize_size.addr true → (isMc m = false ∨ (allocResult s m).toNat / 2 ^ 61 = 4) →
      Completes (.sbgAllocSizeWrite m size) s fun t =>
        True ∧ Only s t [] []) ∧
    (∀ (m k i : Nat) (a : Nat) (s : State),
      Works s → Reaches s m F.sbgFree_addr.addr true → bufAt [6, 7, 8] a = some (k, i) →
      (bufTaken (poolOf s k) i = false ∨ i ∈ (poolOf s k).queuedFrees) →
      Completes (.sbgFreeWrite m a) s fun t =>
        flag t F.sbgErr_doubleFree = true ∧ getF t F.sbgErr_errCount = min (getF s F.sbgErr_errCount + 1) 65535 ∧ poolOf t k = poolOf s k ∧ Only s t [.csh] [F.sbgErr_doubleFree.addr, F.sbgErrInfo_addr.addr, (F.cshMissed_total 8).addr]) ∧
    (∀ (m a k i : Nat) (s : State),
      Works s → Reaches s m F.sbgFree_addr.addr true → bufAt [6, 7, 8] a = some (k, i) → CanFree s k i →
      Completes (.sbgFreeWrite m a) s fun t =>
        bufTaken (poolOf t k) i = false ∧ (poolOf t k).head = i ∧ freeCount t k = freeCount s k + 1 ∧ Only s t [.sbg, .mep] [(F.sbgPoolStat_free k).addr]) ∧
    (∀ (m a : Nat) (s : State),
      Works s → Reaches s m F.sbgFree_addr.addr true → bufAt [6, 7, 8] a = none →
      Completes (.sbgFreeWrite m a) s fun t =>
        flag t F.sbgErr_badIndex = true ∧ getF t F.sbgErr_errCount = min (getF s F.sbgErr_errCount + 1) 65535 ∧ Only s t [.csh] [F.sbgErr_badIndex.addr, F.sbgErrInfo_addr.addr, (F.cshMissed_total 8).addr]) ∧
    (∀ (m : Nat) (s : State),
      Works s → Reaches s m F.sbgAllocResult_status.addr false →
      Completes (.sbgAllocResultRead m) s fun t =>
        Output.readResponse m (allocResult s m) ∈ t.out ∧ ((allocResult s m).toNat / 2 ^ 61 ≠ 4 → allocResult t m = 0) ∧ ((allocResult s m).toNat / 2 ^ 61 = 4 → t.sbg = s.sbg) ∧ (∀ x, x ≠ m → allocResult t x = allocResult s x) ∧ Only s t [.sbg] []) ∧
    (∀ (pzn hr v : Nat) (a : Accum) (s : State),
      Works s → accumOf s pzn hr v = some a → getF s F.sbgAcc_idle ≠ 0 → CanFree s 5 a.buf →
      Completes (.accumulatorIdleExpiry pzn hr v) s fun t =>
        accumOf t pzn hr v = none ∧ spFind t.sbg.parityBlocks (parityKey pzn hr v) = some a.parts.flatten ∧ bufTaken (poolOf t 5) a.buf = false ∧ t.clk.us = max s.clk.us (a.since + getF s F.sbgAcc_idle) ∧ Only s t [.sbg, .clk] [(F.sbgPoolStat_free 5).addr]) ∧
    (∀ (pzn hr v : Nat) (s : State),
      Works s → (accumOf s pzn hr v = none ∨ getF s F.sbgAcc_idle = 0) →
      Completes (.accumulatorIdleExpiry pzn hr v) s fun t =>
        True ∧ Only s t [] []) ∧
    (∀ (k : Nat) (s : State),
      Works s → (poolOf s k).rebuilding = false →
      Completes (.freeListRebuildDone k) s fun t =>
        True ∧ Only s t [] [])

/-- A port's event is captured with its stamps, the builder makes records in sequence, a full FIFO or staging counts what is lost. A drain moves the
oldest staging record to the ring, a clear that names the oldest record releases records and moves every cursor with them, the first write of CSH_RING
describes the ring; other masters are refused. A cursor fetches a log position; a ring record arrives later, and a program or erase of the flash that
ends lets the next writer go on. PRF_SEL takes an override, and the commit puts it into the boot record. -/
def Obligations.ContactSheet : Prop :=
    (∀ (e : Event) (s : State),
      Powered s → nextPort s.csh.ports = some e → s.csh.fifo.length < 32 →
      Completes (.eventCapture) s fun t =>
        t.csh = { s.csh with ports := freePort s.csh.ports e, fifo := s.csh.fifo ++ [⟨e, s.clk.ophours, s.clk.pwrcyc, subCount s, getF s (F.cshMissed_pending (e.trigger - 1))⟩] } ∧ getF t (F.cshMissed_pending (e.trigger - 1)) = 0 ∧ getF t (F.cshMissed_total (e.trigger - 1)) = getF s (F.cshMissed_total (e.trigger - 1)) ∧ Only s t [.csh] [(F.cshMissed_pending (e.trigger - 1)).addr]) ∧
    (∀ (e : Event) (s : State),
      Powered s → nextPort s.csh.ports = some e → 32 ≤ s.csh.fifo.length →
      Completes (.eventCapture) s fun t =>
        t.csh = { s.csh with ports := freePort s.csh.ports e } ∧ getF t (F.cshMissed_pending (e.trigger - 1)) = min (getF s (F.cshMissed_pending (e.trigger - 1)) + 1) 65535 ∧ getF t (F.cshMissed_total (e.trigger - 1)) = min (getF s (F.cshMissed_total (e.trigger - 1)) + 1) 65535 ∧ Only s t [.csh] [(F.cshMissed_pending (e.trigger - 1)).addr]) ∧
    (∀ (c : Captured) (r : List Captured) (s : State),
      Powered s → s.csh.fifo = c :: r → s.csh.staging.length < 1024 →
      Completes (.recordBuild) s fun t =>
        t.csh = { s.csh with fifo := r, seq := nextSeq s.csh.seq, staging := s.csh.staging ++ [buildRecord (nextSeq s.csh.seq) c] } ∧ Only s t [.csh] []) ∧
    (∀ (c : Captured) (r : List Captured) (s : State),
      Powered s → s.csh.fifo = c :: r → 1024 ≤ s.csh.staging.length →
      Completes (.recordBuild) s fun t =>
        t.csh = { s.csh with fifo := r } ∧ getF t F.cshLost_lost = min (getF s F.cshLost_lost + 1) 4294967295 ∧ getF t (F.cshMissed_pending (c.event.trigger - 1)) = min (getF s (F.cshMissed_pending (c.event.trigger - 1)) + c.missed) 65535 ∧ Only s t [.csh] [F.cshLost_lost.addr, (F.cshMissed_pending (c.event.trigger - 1)).addr]) ∧
    (∀ (m q : Nat) (r : List Byte) (rs : List (List Byte)) (s : State),
      Powered s → Reaches s m F.cshDrain_seq.addr true → isMc m = true → flag s F.cshStat_init = true → s.csh.staging = r :: rs → recordSeq r = q →
      s.csh.ringSeqs.length < 16384 →
      Completes (.cshDrainWrite m q) s fun t =>
        t.csh = { s.csh with staging := rs, ringSeqs := s.csh.ringSeqs ++ [q] } ∧ flag t F.cshStat_drainStale = flag s F.cshStat_drainStale ∧ Only s t [.csh] []) ∧
    (∀ (m q : Nat) (s : State),
      Powered s → Reaches s m F.cshDrain_seq.addr true → isMc m = true → flag s F.cshStat_init = true →
      ((∀ r ∈ s.csh.staging.head?, recordSeq r ≠ q)) → s.csh.ringSeqs.length < 16384 →
      Completes (.cshDrainWrite m q) s fun t =>
        flag t F.cshStat_drainStale = true ∧ Only s t [] [F.cshStat_drainStale.addr]) ∧
    (∀ (m q : Nat) (s : State),
      Powered s → Reaches s m F.cshDrain_seq.addr true → isMc m = true → flag s F.cshStat_init = true → 16384 ≤ s.csh.ringSeqs.length →
      Completes (.cshDrainWrite m q) s fun t =>
        True ∧ Only s t [] []) ∧
    (∀ (m q : Nat) (s : State),
      Powered s → Reaches s m F.cshDrain_seq.addr true → (isMc m = false ∨ flag s F.cshStat_init = false) →
      Completes (.cshDrainWrite m q) s fun t =>
        [Output.errorResponse m F.cshDrain_seq.addr] <+: t.out ∧ Only s t [] []) ∧
    (∀ (m n q : Nat) (l : Bool) (s : State),
      Powered s → Reaches s m F.cshClear_count.addr true → isMc m = false → m ≠ idHostPf →
      Completes (.cshClearWrite m n l q) s fun t =>
        [Output.errorResponse m F.cshClear_count.addr] <+: t.out ∧ Only s t [] []) ∧
    (∀ (m b o n : Nat) (qs : List Nat) (s : State),
      Powered s → Reaches s m F.cshRing_count.addr true → isMc m = true → flag s F.cshStat_init = true →
      Completes (.cshRingWrite m b o n qs) s fun t =>
        True ∧ Only s t [] []) ∧
    (∀ (m n : Nat) (s : State),
      Powered s → Reaches s m F.cshClear_count.addr true → isMc m = true →
      Completes (.cshClearWrite m n false (oldestSeq s)) s fun t =>
        t.csh.ringSeqs = s.csh.ringSeqs.drop (min n s.csh.ringSeqs.length) ∧ t.csh.staging = s.csh.staging.drop (min n (s.csh.ringSeqs.length + s.csh.staging.length) - min n s.csh.ringSeqs.length) ∧ getF t F.cshRing_oldSlot = (getF s F.cshRing_oldSlot + min n s.csh.ringSeqs.length) % 16384 ∧ getF t F.cshLost_lost = getF s F.cshLost_lost ∧ (∀ x, readerOf t x = moveCursor (min n (s.csh.ringSeqs.length + s.csh.staging.length)) (readerOf s x)) ∧ Only s t [.csh] [F.cshRing_oldSlot.addr]) ∧
    (∀ (m n : Nat) (s : State),
      Powered s → Reaches s m F.cshClear_count.addr true → (isMc m = true ∨ m = idHostPf) →
      Completes (.cshClearWrite m n true (oldestSeq s)) s fun t =>
        getF t F.cshLost_lost = 0 ∧ t.csh.ringSeqs = s.csh.ringSeqs.drop (min n s.csh.ringSeqs.length) ∧ Only s t [.csh] [F.cshRing_oldSlot.addr, F.cshLost_lost.addr]) ∧
    (∀ (m n q : Nat) (rl : Bool) (s : State),
      Powered s → Reaches s m F.cshClear_count.addr true → isMc m = true → q ≠ oldestSeq s →
      Completes (.cshClearWrite m n rl q) s fun t =>
        flag t F.cshStat_clearStale = true ∧ Only s t [] [F.cshStat_clearStale.addr]) ∧
    (∀ (m base old n : Nat) (qs : List Nat) (s : State),
      Powered s → Reaches s m F.cshRing_count.addr true → isMc m = true → flag s F.cshStat_init = false → n ≤ 16384 → qs.length = n →
      Completes (.cshRingWrite m base old n qs) s fun t =>
        flag t F.cshStat_init = true ∧ t.csh = { s.csh with ringSeqs := qs } ∧ holds t F.cshRing_base base ∧ holds t F.cshRing_oldSlot old ∧ holds t F.cshRing_count n ∧ Only s t [.csh] [F.cshRing_base.addr]) ∧
    (∀ (m p : Nat) (s : State),
      Powered s → Reaches s m F.cshCursor_pos.addr true → isReader m = true → s.csh.ringSeqs.length ≤ p →
      p < s.csh.ringSeqs.length + s.csh.staging.length →
      Completes (.cshCursorWrite m p []) s fun t =>
        readerOf t m = ⟨p, 0, listAt (List.replicate 64 (0 : Byte)) s.csh.staging (p - s.csh.ringSeqs.length), false⟩ ∧ (∀ x, x ≠ m → readerOf t x = readerOf s x) ∧ Only s t [.csh] []) ∧
    (∀ (m p : Nat) (s : State),
      Powered s → domainOn s .mgmt = true → Reaches s m F.cshCursor_pos.addr true → isReader m = true → flag s F.cshStat_init = true →
      p < s.csh.ringSeqs.length →
      Completes (.cshCursorWrite m p []) s fun t =>
        readerOf t m = ⟨p, 1, (readerOf s m).win, false⟩ ∧ (∀ x, x ≠ m → readerOf t x = readerOf s x) ∧ Only s t [.csh] []) ∧
    (∀ (m p : Nat) (s : State),
      Powered s → Reaches s m F.cshCursor_pos.addr true → isReader m = true → s.csh.ringSeqs.length + s.csh.staging.length ≤ p →
      Completes (.cshCursorWrite m p []) s fun t =>
        readerOf t m = ⟨p, 2, List.replicate 64 (0 : Byte), false⟩ ∧ (∀ x, x ≠ m → readerOf t x = readerOf s x) ∧ Only s t [.csh] []) ∧
    (∀ (m p : Nat) (s : State),
      Powered s → Reaches s m F.cshCursor_pos.addr true → isReader m = true → (domainOn s .mgmt = false ∨ flag s F.cshStat_init = false) →
      p < s.csh.ringSeqs.length →
      Completes (.cshCursorWrite m p []) s fun t =>
        readerOf t m = ⟨p, 3, List.replicate 64 (0 : Byte), false⟩ ∧ (∀ x, x ≠ m → readerOf t x = readerOf s x) ∧ Only s t [.csh] []) ∧
    (∀ (m p i : Nat) (v : Byte) (s : State),
      Powered s → Reaches s m F.cshCursor_pos.addr true → isReader m = true → s.csh.ringSeqs.length ≤ p →
      p < s.csh.ringSeqs.length + s.csh.staging.length →
      Completes (.cshCursorWrite m p [(i, v)]) s fun t =>
        flag t F.cshStat_stgParity = true ∧ readerOf t m = ⟨p, 0, listSet (listAt [] s.csh.staging (p - s.csh.ringSeqs.length)) i (listAt 0 (listAt [] s.csh.staging (p - s.csh.ringSeqs.length)) i ^^^ v), false⟩ ∧ (∀ x, x ≠ m → readerOf t x = readerOf s x) ∧ Only s t [.csh] [F.cshStat_stgParity.addr]) ∧
    (∀ (m p : Nat) (u : List (Nat × Byte)) (s : State),
      Powered s → Reaches s m F.cshCursor_pos.addr true → isReader m = false →
      Completes (.cshCursorWrite m p u) s fun t =>
        True ∧ Only s t [] []) ∧
    (∀ (m : Nat) (bs : List Byte) (s : State),
      Powered s → domainOn s .mgmt = true → (readerOf s m).wstat = 1 → (readerOf s m).released = true → s.nor.busy = false →
      Completes (.ringFetchComplete m bs) s fun t =>
        readerOf t m = { readerOf s m with wstat := 2, win := bytesAt bs 0 64, released := false } ∧ (∀ x, x ≠ m → readerOf t x = readerOf s x) ∧ Only s t [.csh] []) ∧
    (∀ (m : Nat) (bs : List Byte) (s : State),
      Powered s → ((readerOf s m).wstat ≠ 1 ∨ s.nor.busy = true ∨ domainOn s .mgmt = false) →
      Completes (.ringFetchComplete m bs) s fun t =>
        True ∧ Only s t [] []) ∧
    (∀ (m : Nat) (bs : List Byte) (s : State),
      Powered s → domainOn s .mgmt = true → (readerOf s m).wstat = 1 → (readerOf s m).released = false → s.nor.busy = false →
      Completes (.ringFetchComplete m bs) s fun t =>
        readerOf t m = { readerOf s m with wstat := 0, win := bytesAt bs 0 64 } ∧ (∀ x, x ≠ m → readerOf t x = readerOf s x) ∧ Only s t [.csh] []) ∧
    (∀ (w : Nat) (ws : List Nat) (s : State),
      Powered s → domainOn s .mgmt = true → s.nor.writers = w :: ws → (s.csh.readers.any fun kv => kv.2.wstat == 1) = false →
      Completes (.spiNorOperationEnd) s fun t =>
        t.nor = { s.nor with writers := ws, busy := true } ∧ Only s t [.nor] []) ∧
    (∀ (s : State),
      Powered s → domainOn s .mgmt = true → ((s.nor.writers = [] ∨ (s.csh.readers.any fun kv => kv.2.wstat == 1) = true)) →
      Completes (.spiNorOperationEnd) s fun t =>
        t.nor = { s.nor with busy := false } ∧ Only s t [.nor] []) ∧
    (∀ (m next : Nat) (v : Bool) (s : State),
      Powered s → Reaches s m F.prfSel_valid.addr true → (isMc m = true ∨ m = idHostPf) → next < 4 →
      Completes (.prfSelWrite m v next) s fun t =>
        flag t F.prfSel_valid = v ∧ getF t F.prfSel_next = next ∧ flag t F.prfSel_committed = false ∧ Only s t [] [F.prfSel_valid.addr]) ∧
    (∀ (s : State),
      Powered s → domainOn s .mgmt = true → flag s F.prfSel_committed = false → (bootRecord s).seq + 1 < 2 ^ 32 →
      Completes (.bootRecordCommit) s fun t =>
        flag t F.prfSel_committed = true ∧ (bootRecord t).nextValid = flag s F.prfSel_valid ∧ (bootRecord t).nextProfile = getF s F.prfSel_next ∧ (bootRecord t).seq = (bootRecord s).seq + 1 ∧ (bootRecord t).activeSlot = (bootRecord s).activeSlot ∧ (bootRecord t).lastProfile = (bootRecord s).lastProfile ∧ Only s t [.nor] [F.prfSel_committed.addr]) ∧
    (∀ (m next : Nat) (v : Bool) (s : State),
      Powered s → Reaches s m F.prfSel_valid.addr true → isMc m = false → m ≠ idHostPf →
      Completes (.prfSelWrite m v next) s fun t =>
        [Output.errorResponse m F.prfSel_valid.addr] <+: t.out ∧ Only s t [] []) ∧
    (∀ (s : State),
      Powered s → (domainOn s .mgmt = false ∨ flag s F.prfSel_committed = true) →
      Completes (.bootRecordCommit) s fun t =>
        True ∧ Only s t [] []) ∧
    (∀ (s : State),
      Powered s → s.csh.ports = [] →
      Completes (.eventCapture) s fun t =>
        True ∧ Only s t [] []) ∧
    (∀ (s : State),
      Powered s → s.csh.fifo = [] →
      Completes (.recordBuild) s fun t =>
        True ∧ Only s t [] [])

/-- A port trains from OFF, and from DOWN once, and sends IDENT. An IDENT that the wiring rule allows brings a training port up with 256 credits of each
class, another FAILED; a member that is not joined then sends JOIN. Every flit that passes CRC delivers its acknowledgement and credits. A MSG flit of
the next SEQ is taken: it joins its message, which is opened when whole, waits at the port toward another device, or is discarded with an error where
none serves it; one out of order or with a bad CRC is discarded and a NAK sent once. A NAK resends; the eighth in a row takes the port down, as does
the loss of flits; a DOWN port that does not come up in time is FAILED. -/
def Obligations.LinkPorts : Prop :=
    (∀ (p : Nat) (s : State),
      Powered s → slkOn s = true → p < 4 → portEnabled s p = true → (portOf s p).st = .off →
      Completes (.portTraining p) s fun t =>
        portOf t p = { noPort with st := .train, since := s.clk.us, queue := (portOf s p).queue } ∧ getF t (F.slkPortStat_state p) = 1 ∧ Output.slkFlit p (flitBytes flitIdent { bareFlit with payload := identPayload s p } 0 0 4095 false) ∈ t.out ∧ (∀ i, i ≠ p → portOf t i = portOf s i) ∧ Only s t [.slk] [(F.slkPortStat_state p).addr]) ∧
    (∀ (p : Nat) (s : State),
      Powered s → slkOn s = true → p < 4 → portEnabled s p = true → (portOf s p).st = .down →
      Completes (.portTraining p) s fun t =>
        portOf t p = { noPort with st := .train, since := (portOf s p).since, retrained := true, queue := (portOf s p).queue } ∧ getF t (F.slkPortStat_state p) = 1 ∧ (∀ i, i ≠ p → portOf t i = portOf s i) ∧ Only s t [.slk] [(F.slkPortStat_state p).addr]) ∧
    (∀ (p dev role rp uid : Nat) (x : Port) (s : State),
      Powered s → slkOn s = true → p < 4 → portOf s p = x → x.st = .train → x.queue = [] →
      (wiringPeers s.straps.role (devId s) p).contains (dev, role, rp) = true → ((unjoined s = false ∨ s.slk.eph.isSome = true)) →
      Completes (.ident p dev role rp uid) s fun t =>
        portOf t p = { x with st := .up, retrained := false, lastGood := s.clk.us, credReq := 256, credRsp := 256 } ∧ getF t (F.slkPortStat_state p) = 2 ∧ holds t (F.slkPortStat_peerDev p) dev ∧ holds t (F.slkPortStat_peerPort p) rp ∧ (∀ i, i ≠ p → portOf t i = portOf s i) ∧ Only s t [.slk] [(F.slkPortStat_state p).addr]) ∧
    (∀ (p dev role rp uid : Nat) (x : Port) (s : State),
      Powered s → slkOn s = true → p < 4 → portOf s p = x → x.st = .train → x.queue = [] →
      (wiringPeers s.straps.role (devId s) p).contains (dev, role, rp) = true → unjoined s = true → s.slk.eph = none → s.lrs.bootStopped = false →
      s.slk.stepping = false → flag s (F.slkRoute_valid (leaderId s)) = true → getF s (F.slkRoute_port (leaderId s)) = p →
      Completes (.ident p dev role rp uid) s fun t =>
        (portOf t p).st = .up ∧ getF t (F.slkPortStat_state p) = 2 ∧ t.slk.triedAt = some s.clk.us ∧ t.slk.eph = some (ecPrivate p384 (leBytes 56 (Config.freeNat s.free))) ∧ (∀ i, i ≠ p → portOf t i = portOf s i) ∧ Only s t [.slk, .free] [(F.slkPortStat_state p).addr]) ∧
    (∀ (p dev role rp uid : Nat) (x : Port) (s : State),
      Powered s → slkOn s = true → p < 4 → portOf s p = x → x.st = .up → (wiringPeers s.straps.role (devId s) p).contains (dev, role, rp) = true →
      Completes (.ident p dev role rp uid) s fun t =>
        portOf t p = { x with lastGood := s.clk.us } ∧ (∀ i, i ≠ p → portOf t i = portOf s i) ∧ Only s t [.slk] []) ∧
    (∀ (p dev role rp uid : Nat) (x : Port) (s : State),
      Powered s → slkOn s = true → p < 4 → portOf s p = x → x.st = .train →
      (wiringPeers s.straps.role (devId s) p).contains (dev, role, rp) = false →
      Completes (.ident p dev role rp uid) s fun t =>
        portOf t p = { x with st := .failed } ∧ getF t (F.slkPortStat_state p) = 4 ∧ flag t F.slkErr_wiring = true ∧ (∀ i, i ≠ p → portOf t i = portOf s i) ∧ Only s t [.slk] [(F.slkPortStat_state p).addr, F.slkErr_wiring.addr]) ∧
    (∀ (p dev role rp uid : Nat) (x : Port) (s : State),
      Powered s → slkOn s = true → p < 4 → portOf s p = x → x.st = .up → x.queue = [] → s.hif.slots = [] → s.slk.adminWaits = [] →
      (wiringPeers s.straps.role (devId s) p).contains (dev, role, rp) = false →
      Completes (.ident p dev role rp uid) s fun t =>
        portOf t p = { noPort with st := .failed, since := s.clk.us, lastGood := x.lastGood } ∧ getF t (F.slkPortStat_state p) = 4 ∧ flag t F.slkErr_wiring = true ∧ (∀ i, i ≠ p → portOf t i = dropWay p (leaveOrigin p (portOf s i))) ∧ Only s t [.slk] [(F.slkPortStat_state p).addr, F.slkErr_wiring.addr]) ∧
    (∀ (p : Nat) (b : List Byte) (x : Port) (s : State),
      Powered s → slkOn s = true → p < 4 → portOf s p = x → x.st = .up → x.queue = [] → flitGood b = true → leAt b 0 1 % 16 = 0 →
      Completes (.idleFlitReceive p b) s fun t =>
        portOf t p = { x with lastGood := s.clk.us, replay := (if bitAt (leAt b 6 2) 15 then ackReplay (leAt b 6 2 % 4096) x.replay else x.replay), credReq := x.credReq + leAt b 1 1, credRsp := x.credRsp + leAt b 2 1 } ∧ (∀ i, i ≠ p → portOf t i = portOf s i) ∧ Only s t [.slk] []) ∧
    (∀ (p : Nat) (b : List Byte) (x : Port) (s : State),
      Powered s → slkOn s = true → p < 4 → portOf s p = x → x.st = .up → x.queue = [] → flitGood b = true → leAt b 0 1 % 16 = 3 →
      Completes (.alignFlitReceive p b) s fun t =>
        portOf t p = { x with lastGood := s.clk.us, replay := (if bitAt (leAt b 6 2) 15 then ackReplay (leAt b 6 2 % 4096) x.replay else x.replay), credReq := x.credReq + leAt b 1 1, credRsp := x.credRsp + leAt b 2 1 } ∧ (∀ i, i ≠ p → portOf t i = portOf s i) ∧ Only s t [.slk] []) ∧
    (∀ (p : Nat) (b : List Byte) (x : Port) (s : State),
      Powered s → slkOn s = true → p < 4 → portOf s p = x → x.st = .up → x.queue = [] → flitGood b = true → leAt b 0 1 % 16 = 1 →
      leAt b 4 2 % 4096 = x.rxSeq % 4096 → bitAt (leAt b 0 1) 6 = false →
      (if bitAt (leAt b 0 1) 5 then inflowOf s (bytesAt b 8 240) else if bitAt (leAt b 0 1) 4 then x.wayRsp else x.wayReq) = .take →
      Completes (.msgFlitReceive p b) s fun t =>
        (portOf t p).rxSeq = x.rxSeq + 1 ∧ (portOf t p).nakSent = false ∧ (portOf t p).lastGood = s.clk.us ∧ Output.slkFlit p (flitBytes flitIdle bareFlit (min 255 (x.owedReq + b2n (!bitAt (leAt b 0 1) 4))) (min 255 (x.owedRsp + b2n (bitAt (leAt b 0 1) 4))) (x.rxSeq % 4096) true) ∈ t.out ∧
        (if bitAt (leAt b 0 1) 4 then (portOf t p).asmRsp = ((if bitAt (leAt b 0 1) 5 then [] else if bitAt (leAt b 0 1) 4 then x.asmRsp else x.asmReq) ++ bytesAt b 8 240) ∧ (portOf t p).wayRsp = .take ∧ (portOf t p).asmReq = x.asmReq ∧ (portOf t p).wayReq = x.wayReq
        else (portOf t p).asmReq = ((if bitAt (leAt b 0 1) 5 then [] else if bitAt (leAt b 0 1) 4 then x.asmRsp else x.asmReq) ++ bytesAt b 8 240) ∧ (portOf t p).wayReq = .take ∧ (portOf t p).asmRsp = x.asmRsp ∧ (portOf t p).wayRsp = x.wayRsp) ∧ (∀ i, i ≠ p → portOf t i = portOf s i) ∧ Only s t [.slk] []) ∧
    (∀ (p : Nat) (b : List Byte) (x : Port) (s : State),
      Powered s → slkOn s = true → p < 4 → portOf s p = x → x.st = .up → x.queue = [] → flitGood b = true → leAt b 0 1 % 16 = 1 →
      leAt b 4 2 % 4096 = x.rxSeq % 4096 → bitAt (leAt b 0 1) 6 = false → bitAt (leAt b 0 1) 5 = false → bitAt (leAt b 0 1) 4 = true →
      x.wayRsp = .take →
      Completes (.msgFlitReceive p b) s fun t =>
        (portOf t p).rxSeq = x.rxSeq + 1 ∧ (portOf t p).nakSent = false ∧ (portOf t p).lastGood = s.clk.us ∧ (portOf t p).asmRsp = x.asmRsp ++ bytesAt b 8 240 ∧ (portOf t p).wayRsp = .take ∧ (∀ i, i ≠ p → portOf t i = portOf s i) ∧ Only s t [.slk] []) ∧
    (∀ (p : Nat) (b : List Byte) (x : Port) (s : State),
      Powered s → slkOn s = true → p < 4 → portOf s p = x → x.st = .up → x.queue = [] → flitGood b = true → leAt b 0 1 % 16 = 1 →
      leAt b 4 2 % 4096 = x.rxSeq % 4096 → bitAt (leAt b 0 1) 6 = true →
      (if bitAt (leAt b 0 1) 5 then inflowOf s (bytesAt b 8 240) else if bitAt (leAt b 0 1) 4 then x.wayRsp else x.wayReq) = .take →
      isSealed (leAt ((if bitAt (leAt b 0 1) 5 then [] else if bitAt (leAt b 0 1) 4 then x.asmRsp else x.asmReq) ++ bytesAt b 8 240) 0 1) = false →
      Completes (.msgFlitReceive p b) s fun t =>
        (portOf t p).rxSeq = x.rxSeq + 1 ∧ (portOf t p).nakSent = false ∧ (portOf t p).lastGood = s.clk.us ∧ Output.slkFlit p (flitBytes flitIdle bareFlit (min 255 (x.owedReq + b2n (!bitAt (leAt b 0 1) 4))) (min 255 (x.owedRsp + b2n (bitAt (leAt b 0 1) 4))) (x.rxSeq % 4096) true) ∈ t.out ∧
        (if bitAt (leAt b 0 1) 4 then (portOf t p).asmRsp = [] ∧ (portOf t p).wayRsp = .none ∧ (portOf t p).asmReq = x.asmReq ∧ (portOf t p).wayReq = x.wayReq
        else (portOf t p).asmReq = [] ∧ (portOf t p).wayReq = .none ∧ (portOf t p).asmRsp = x.asmRsp ∧ (portOf t p).wayRsp = x.wayRsp) ∧ (∀ i, i ≠ p → portOf t i = portOf s i) ∧ Only s t [.slk] []) ∧
    (∀ (p d : Nat) (b k m : List Byte) (x : Port) (s : State),
      Powered s → slkOn s = true → p < 4 → portOf s p = x → x.st = .up → x.queue = [] → flitGood b = true → leAt b 0 1 % 16 = 1 →
      leAt b 4 2 % 4096 = x.rxSeq % 4096 → bitAt (leAt b 0 1) 6 = true →
      (if bitAt (leAt b 0 1) 5 then inflowOf s (bytesAt b 8 240) else if bitAt (leAt b 0 1) 4 then x.wayRsp else x.wayReq) = .take →
      ((if bitAt (leAt b 0 1) 5 then [] else if bitAt (leAt b 0 1) 4 then x.asmRsp else x.asmReq) ++ bytesAt b 8 240) = m →
      isSealed (leAt m 0 1) = true → leAt m 1 1 / 16 = d → pairKey s d = some k → leAt m 0x0C 2 ≤ s.slk.term →
      (peerOf s d).rxCount + 1 < 2 ^ 48 - 1 → (peerOf s d).txCount < 2 ^ 48 - 1 → s.hif.slots = [] → s.slk.adminWaits = [] → s.mbx.chans = [] →
      Completes (.msgFlitReceive p b) s fun t =>
        (portOf t p).rxSeq = x.rxSeq + 1 ∧ (portOf t p).nakSent = false ∧ (portOf t p).lastGood = s.clk.us ∧ (if (gcmOpen k (msgNonce d (devId s) (leAt m 0x0C 2) (peerOf s d).rxCount) (m.take 16) (bytesAt m 16 (leAt m 4 3)) (bytesAt m (16 + leAt m 4 3) 16)).isSome
        then peerOf t d = { peerOf s d with rxCount := (peerOf s d).rxCount + 1 }
        else flag t F.slkErr_msgAuth = true ∧ peerOf t d = { peerOf s d with cond := .lost, lostAt := s.clk.us, wakeAt := none }) ∧ (∀ i, i ≠ p → portOf t i = portOf s i) ∧ (∀ i, i ≠ d → peerOf t i = peerOf s i) ∧ Only s t [.slk] [F.slkErr_msgAuth.addr]) ∧
    (∀ (p q : Nat) (b : List Byte) (x : Port) (s : State),
      Powered s → slkOn s = true → p < 4 → portOf s p = x → x.st = .up → x.queue = [] → flitGood b = true → leAt b 0 1 % 16 = 1 →
      leAt b 4 2 % 4096 = x.rxSeq % 4096 → q < 4 → q ≠ p →
      (if bitAt (leAt b 0 1) 5 then inflowOf s (bytesAt b 8 240) else if bitAt (leAt b 0 1) 4 then x.wayRsp else x.wayReq) = .pass q →
      (portOf s q).st ≠ .up →
      Completes (.msgFlitReceive p b) s fun t =>
        (portOf t p).rxSeq = x.rxSeq + 1 ∧ (portOf t p).nakSent = false ∧ portOf t q = { portOf s q with queue := (portOf s q).queue ++ [⟨0, bitAt (leAt b 0 1) 4, bitAt (leAt b 0 1) 5, bitAt (leAt b 0 1) 6, bytesAt b 8 240, p + 1⟩] } ∧ (∀ i, i ≠ p → i ≠ q → portOf t i = portOf s i) ∧ Only s t [.slk] []) ∧
    (∀ (p q : Nat) (b : List Byte) (x : Port) (s : State),
      Powered s → slkOn s = true → p < 4 → portOf s p = x → x.st = .up → x.queue = [] → flitGood b = true → leAt b 0 1 % 16 = 1 →
      leAt b 4 2 % 4096 = x.rxSeq % 4096 → q < 4 → q ≠ p →
      (if bitAt (leAt b 0 1) 5 then inflowOf s (bytesAt b 8 240) else if bitAt (leAt b 0 1) 4 then x.wayRsp else x.wayReq) = .pass q →
      (portOf s q).st = .up → (portOf s q).queue = [] → bitAt (leAt b 0 1) 5 = true → openOf (portOf s q) (bitAt (leAt b 0 1) 4) = none →
      0 < (if bitAt (leAt b 0 1) 4 then (portOf s q).credRsp else (portOf s q).credReq) → (portOf s q).replay.length < 512 →
      Completes (.msgFlitReceive p b) s fun t =>
        (portOf t p).rxSeq = x.rxSeq + 1 ∧ (portOf t q).queue = [] ∧ (portOf t q).txSeq = (portOf s q).txSeq + 1 ∧ (portOf t q).replay = (portOf s q).replay ++ [⟨(portOf s q).txSeq, bitAt (leAt b 0 1) 4, bitAt (leAt b 0 1) 5, bitAt (leAt b 0 1) 6, bytesAt b 8 240, p + 1⟩] ∧ (∀ i, i ≠ p → i ≠ q → portOf t i = portOf s i) ∧ Only s t [.slk] []) ∧
    (∀ (p : Nat) (b : List Byte) (x : Port) (s : State),
      Powered s → slkOn s = true → p < 4 → portOf s p = x → x.st = .up → x.queue = [] → flitGood b = true → leAt b 0 1 % 16 = 1 →
      leAt b 4 2 % 4096 = x.rxSeq % 4096 →
      (if bitAt (leAt b 0 1) 5 then inflowOf s (bytesAt b 8 240) else if bitAt (leAt b 0 1) 4 then x.wayRsp else x.wayReq) = .drop →
      Completes (.msgFlitReceive p b) s fun t =>
        (portOf t p).rxSeq = x.rxSeq + 1 ∧ (portOf t p).nakSent = false ∧ (portOf t p).lastGood = s.clk.us ∧ Output.slkFlit p (flitBytes flitIdle bareFlit (min 255 (x.owedReq + b2n (!bitAt (leAt b 0 1) 4))) (min 255 (x.owedRsp + b2n (bitAt (leAt b 0 1) 4))) (x.rxSeq % 4096) true) ∈ t.out ∧ flag t F.slkErr_route = (bitAt (leAt b 0 1) 5 || flag s F.slkErr_route) ∧ (∀ i, i ≠ p → portOf t i = portOf s i) ∧ Only s t [.slk] [F.slkErr_route.addr]) ∧
    (∀ (p : Nat) (b : List Byte) (x : Port) (s : State),
      Powered s → slkOn s = true → p < 4 → portOf s p = x → x.st = .up → x.queue = [] → flitGood b = true → leAt b 0 1 % 16 = 1 →
      leAt b 4 2 % 4096 ≠ x.rxSeq % 4096 →
      Completes (.msgFlitReceive p b) s fun t =>
        (portOf t p).rxSeq = x.rxSeq ∧ (portOf t p).nakSent = true ∧ (portOf t p).asmReq = x.asmReq ∧ (portOf t p).asmRsp = x.asmRsp ∧ (x.nakSent = false → t.out ≠ []) ∧ (∀ i, i ≠ p → portOf t i = portOf s i) ∧ Only s t [.slk] []) ∧
    (∀ (p : Nat) (b : List Byte) (x : Port) (s : State),
      Powered s → slkOn s = true → p < 4 → portOf s p = x → x.st = .up → flitGood b = false → ((leAt b 0 1 % 16 = 1 ∨ 4 < leAt b 0 1 % 16)) →
      Completes (.msgFlitReceive p b) s fun t =>
        (portOf t p).rxSeq = x.rxSeq ∧ (portOf t p).nakSent = true ∧ (portOf t p).lastGood = x.lastGood ∧ getF t (F.slkPortStat_crcErrs p) = min (getF s (F.slkPortStat_crcErrs p) + 1) 65535 ∧ (∀ i, i ≠ p → portOf t i = portOf s i) ∧ Only s t [.slk] [(F.slkPortStat_state p).addr]) ∧
    (∀ (p : Nat) (b : List Byte) (x : Port) (s : State),
      Powered s → slkOn s = true → p < 4 → portOf s p = x → x.st = .up → x.queue = [] → flitGood b = true → leAt b 0 1 % 16 = 2 →
      (if x.nakRun ≠ 0 ∧ x.nakAck = leAt b 6 2 % 4096 then x.nakRun + 1 else 1) < 8 → x.replay = [] →
      Completes (.nak p b) s fun t =>
        portOf t p = { x with lastGood := s.clk.us, replay := (if bitAt (leAt b 6 2) 15 then ackReplay (leAt b 6 2 % 4096) x.replay else x.replay), credReq := x.credReq + leAt b 1 1, credRsp := x.credRsp + leAt b 2 1, nakRun := (if x.nakRun ≠ 0 ∧ x.nakAck = leAt b 6 2 % 4096 then x.nakRun + 1 else 1), nakAck := leAt b 6 2 % 4096 } ∧ getF t (F.slkPortStat_replays p) = min (getF s (F.slkPortStat_replays p) + 1) 65535 ∧ (∀ i, i ≠ p → portOf t i = portOf s i) ∧ Only s t [.slk] [(F.slkPortStat_state p).addr]) ∧
    (∀ (p : Nat) (b : List Byte) (x : Port) (s : State) (f : Flit),
      Powered s → slkOn s = true → p < 4 → portOf s p = x → x.st = .up → x.queue = [] → flitGood b = true → leAt b 0 1 % 16 = 2 →
      (if x.nakRun ≠ 0 ∧ x.nakAck = leAt b 6 2 % 4096 then x.nakRun + 1 else 1) < 8 → x.owedReq = 0 → x.owedRsp = 0 →
      f ∈ (if bitAt (leAt b 6 2) 15 then ackReplay (leAt b 6 2 % 4096) x.replay else x.replay) →
      Completes (.nak p b) s fun t =>
        Output.slkFlit p (flitBytes flitMsg f 0 0 ((x.rxSeq + 4095) % 4096) (decide (0 < x.rxSeq))) ∈ t.out ∧ (portOf t p).nakRun = (if x.nakRun ≠ 0 ∧ x.nakAck = leAt b 6 2 % 4096 then x.nakRun + 1 else 1) ∧ (portOf t p).st = .up ∧ (portOf t p).replay = (if bitAt (leAt b 6 2) 15 then ackReplay (leAt b 6 2 % 4096) x.replay else x.replay) ∧ (∀ i, i ≠ p → portOf t i = portOf s i) ∧ Only s t [.slk] [(F.slkPortStat_state p).addr]) ∧
    (∀ (p : Nat) (b : List Byte) (x : Port) (s : State),
      Powered s → slkOn s = true → p < 4 → portOf s p = x → x.st = .up → x.queue = [] → flitGood b = true → leAt b 0 1 % 16 = 2 →
      8 ≤ (if x.nakRun ≠ 0 ∧ x.nakAck = leAt b 6 2 % 4096 then x.nakRun + 1 else 1) → s.hif.slots = [] → s.slk.adminWaits = [] →
      Completes (.nak p b) s fun t =>
        portOf t p = { noPort with st := .down, since := s.clk.us, lastGood := s.clk.us } ∧ getF t (F.slkPortStat_state p) = 3 ∧ getF t (F.slkPortStat_replays p) = min (getF s (F.slkPortStat_replays p) + 1) 65535 ∧ flag t F.slkErr_replayLimit = true ∧ (∀ i, i ≠ p → portOf t i = dropWay p (leaveOrigin p (portOf s i))) ∧ Only s t [.slk] [(F.slkPortStat_state p).addr, F.slkErr_replayLimit.addr]) ∧
    (∀ (p : Nat) (x : Port) (s : State),
      Powered s → slkOn s = true → p < 4 → getF s F.slkCtrl_lossTimeout ≠ 0 → portOf s p = x → x.st = .up → x.queue = [] → s.hif.slots = [] →
      s.slk.adminWaits = [] →
      Completes (.portLossTimeout p) s fun t =>
        portOf t p = { noPort with st := .down, since := t.clk.us, lastGood := x.lastGood } ∧ t.clk.us = max s.clk.us (x.lastGood + 10 * getF s F.slkCtrl_lossTimeout) ∧ getF t (F.slkPortStat_state p) = 3 ∧ flag t F.slkErr_loss = true ∧ (∀ i, i ≠ p → portOf t i = dropWay p (leaveOrigin p (portOf s i))) ∧ Only s t [.slk, .clk] [(F.slkPortStat_state p).addr, F.slkErr_loss.addr]) ∧
    (∀ (p : Nat) (s : State),
      Powered s → slkOn s = true → p < 4 → getF s F.slkCtrl_lossTimeout ≠ 0 → (portOf s p).st = .up →
      Completes (.portLossTimeout p) s fun t =>
        (portOf t p).st = .down ∧ (portOf t p).replay = [] ∧ (portOf t p).queue = keptQueue (portOf s p) ∧ getF t (F.slkPortStat_state p) = 3 ∧ flag t F.slkErr_loss = true) ∧
    (∀ (p : Nat) (s : State),
      Powered s → slkOn s = true → p < 4 → ((portOf s p).st = .down ∨ ((portOf s p).st = .train ∧ (portOf s p).retrained = true)) →
      Completes (.portRetrainTimeout p) s fun t =>
        portOf t p = { portOf s p with st := .failed } ∧ t.clk.us = max s.clk.us ((portOf s p).since + 50000) ∧ getF t (F.slkPortStat_state p) = 4 ∧ (∀ i, i ≠ p → portOf t i = portOf s i) ∧ Only s t [.slk, .clk] [(F.slkPortStat_state p).addr])

/-- The leader takes a member in whose JOIN passes its checks, with the pair key of the exchange, and refuses another with the cause; the member completes
its join with JOIN_ACK and retries a second after the last JOIN. A CLAIM of a higher term is adopted. DEPART, a heartbeat, the timeouts and the
removal move a peer among its states; heartbeats go out each millisecond. A candidate whose leader stays lost claims, and takes over. A departed
device's signal wakes the member. -/
def Obligations.Joining : Prop :=
    (∀ (d uid role bays lc term : Nat) (pub chain : List Byte) (s : State),
      TkrIdle s → spFind s.tkr.slots (4100 + d) = none → s.mbx.chans = [] → mbxDone s (idPeer d) = 0 → slkOn s = true → isLeader s = true →
      d ≤ 15 → (peerOf s d).cond = .none → joinFault s d uid bays lc true true = none → strapLeader s.straps = true → term < s.slk.term →
      flag s (F.slkRoute_valid d) = true →
      Completes (.join d uid role bays lc term pub chain true true) s fun t =>
        (∀ z, ecdh p384 (ecPrivate p384 (leBytes 56 (Config.freeNat s.free))) pub = some z → peerOf t d = ⟨.live, BitVec.ofNat 64 uid, 0, 0, s.clk.us, none, 0⟩ ∧ pairKey t d = some (pairKeyOf s.otp.devUid.toNat uid s.slk.term z)) ∧ (∀ i, i ≠ d → peerOf t i = peerOf s i) ∧ Only s t [.slk, .free, .tkr] tkrAddrs) ∧
    (∀ (d uid role bays lc term cause : Nat) (pub chain : List Byte) (co so : Bool) (s : State),
      Powered s → slkOn s = true → isLeader s = true → d ≤ 15 → (peerOf s d).cond ≠ .removed → joinFault s d uid bays lc co so = some cause →
      cause < 8 →
      Completes (.join d uid role bays lc term pub chain co so) s fun t =>
        getF t F.slkJoinInfo_dev = d ∧ getF t F.slkJoinInfo_cause = cause ∧ flag t F.slkErr_join = true ∧ Only s t [] [F.slkJoinInfo_dev.addr, F.slkErr_join.addr]) ∧
    (∀ (d uid role bays lc term : Nat) (pub chain : List Byte) (co so : Bool) (s : State),
      Powered s → slkOn s = true → (peerOf s d).cond = .removed →
      Completes (.join d uid role bays lc term pub chain co so) s fun t =>
        Only s t [] []) ∧
    (∀ (d uid role bays lc term : Nat) (pub chain : List Byte) (s : State),
      Powered s → slkOn s = true → isLeader s = true → d ≤ 15 → (peerOf s d).cond ≠ .removed → joinFault s d uid bays lc true true = none →
      strapLeader s.straps = true → s.slk.term ≤ term → term + 1 < 2 ^ 16 →
      Completes (.join d uid role bays lc term pub chain true true) s fun t =>
        t.slk.term = term + 1 ∧ isLeader t = true) ∧
    (∀ (d uid role bays lc term : Nat) (pub chain : List Byte) (s : State),
      Powered s → slkOn s = true → isLeader s = true → d ≤ 15 → (peerOf s d).cond ≠ .removed → joinFault s d uid bays lc true true = none →
      strapLeader s.straps = false → s.slk.term < term → term < 2 ^ 16 →
      Completes (.join d uid role bays lc term pub chain true true) s fun t =>
        t.slk.term = term ∧ isLeader t = false ∧ (peerOf t d).cond = (peerOf s d).cond) ∧
    (∀ (d uid eph : Nat) (pub z : List Byte) (s : State),
      TkrIdle s → spFind s.tkr.slots (4100 + d) = none → s.mbx.chans = [] → mbxDone s (idPeer d) = 0 → slkOn s = true → isLeader s = false →
      d ≤ 15 → leaderId s = d → s.slk.eph = some eph → ecdh p384 eph pub = some z →
      Completes (.joinAck d uid s.slk.term pub true true) s fun t =>
        peerOf t d = ⟨.live, BitVec.ofNat 64 uid, 0, 0, s.clk.us, none, 0⟩ ∧ pairKey t d = some (pairKeyOf uid s.otp.devUid.toNat s.slk.term z) ∧ t.slk.eph = none ∧ (∀ i, i ≠ d → peerOf t i = peerOf s i) ∧ Only s t [.slk, .tkr] tkrAddrs) ∧
    (∀ (d uid term eph : Nat) (pub : List Byte) (co so : Bool) (s : State),
      Powered s → slkOn s = true → isLeader s = false → leaderId s = d → d < 16 → s.slk.eph = some eph → s.slk.term ≤ term →
      (co = false ∨ so = false) →
      Completes (.joinAck d uid term pub co so) s fun t =>
        getF t F.slkJoinInfo_dev = d ∧ getF t F.slkJoinInfo_cause = (if co then 5 else 1) ∧ flag t F.slkErr_join = true ∧ Only s t [] [F.slkJoinInfo_dev.addr, F.slkErr_join.addr]) ∧
    (∀ (d uid term : Nat) (pub : List Byte) (co so : Bool) (s : State),
      Powered s → slkOn s = true → (s.slk.eph = none ∨ isLeader s = true ∨ leaderId s ≠ d ∨ term < s.slk.term) →
      Completes (.joinAck d uid term pub co so) s fun t =>
        Only s t [] []) ∧
    (∀ (u : Nat) (s : State),
      Powered s → slkOn s = true → unjoined s = true → s.lrs.bootStopped = false → s.slk.stepping = false → routeUp s (leaderId s) = true →
      s.slk.triedAt = some u →
      Completes (.joinRetry) s fun t =>
        t.clk.us = max s.clk.us (u + 1000000) ∧ t.slk.triedAt = some t.clk.us ∧ t.slk.eph = some (ecPrivate p384 (leBytes 56 (Config.freeNat s.free))) ∧ t.slk.peers = s.slk.peers ∧ Only s t [.slk, .clk, .free] []) ∧
    (∀ (d term : Nat) (s : State),
      Powered s → slkOn s = true → d ≠ devId s → d < 16 → s.slk.term < term → term < 2 ^ 16 → isLeader s = false → routeUp s d = false →
      Completes (.claim d term true) s fun t =>
        t.slk.term = term ∧ leaderId t = d ∧ getF t F.slkLeader_term = term ∧ t.slk.eph = none ∧ t.slk.claimed = false ∧ (leaderId s ≠ d → (peerOf t (leaderId s)).cond = .none) ∧ (∀ i, i ≠ leaderId s → peerOf t i = peerOf s i) ∧ Only s t [.slk, .jrn] [F.slkLeader_term.addr]) ∧
    (∀ (d : Nat) (s : State),
      Powered s → slkOn s = true → d ≠ devId s → d < leaderId s → leaderId s < 16 → s.slk.term < 2 ^ 16 → isLeader s = false →
      routeUp s d = false →
      Completes (.claim d s.slk.term true) s fun t =>
        t.slk.term = s.slk.term ∧ leaderId t = d ∧ t.slk.eph = none ∧ t.slk.claimed = false ∧ (peerOf t (leaderId s)).cond = .none ∧ (∀ i, i ≠ leaderId s → peerOf t i = peerOf s i) ∧ Only s t [.slk] [F.slkLeader_leader.addr]) ∧
    (∀ (d term : Nat) (s : State),
      Powered s → slkOn s = true → d ≠ devId s → d < 16 → (s.slk.term < term ∨ (term = s.slk.term ∧ d < leaderId s)) → term < 2 ^ 16 →
      isLeader s = true → s.slk.eph = none → (s.hif.slots.any fun kv => isAdmitted kv.2) = true →
      Completes (.claim d term true) s fun t =>
        t.slk.term = term ∧ leaderId t = d ∧ isLeader t = false ∧ t.slk.stepping = true ∧ t.slk.claimed = false ∧ t.hif = { s.hif with fetchStopped := true } ∧ (leaderId s ≠ d → (peerOf t (leaderId s)).cond = .none) ∧ Only s t [.slk, .jrn, .hif] [F.slkLeader_term.addr]) ∧
    (∀ (d term : Nat) (s : State),
      Powered s → slkOn s = true → d ≠ devId s → d < 16 → (s.slk.term < term ∨ (term = s.slk.term ∧ d < leaderId s)) → term < 2 ^ 16 →
      isLeader s = true → (s.hif.slots.any fun kv => isAdmitted kv.2) = false →
      Completes (.claim d term true) s fun t =>
        t.slk.term = term ∧ leaderId t = d ∧ isLeader t = false ∧ t.hif.fetchStopped = true ∧ t.hif.linkUp = false) ∧
    (∀ (d term : Nat) (v : Bool) (s : State),
      Powered s → slkOn s = true → (v = false ∨ d = devId s ∨ term < s.slk.term ∨ (term = s.slk.term ∧ leaderId s ≤ d)) →
      Completes (.claim d term v) s fun t =>
        Only s t [] []) ∧
    (∀ (d : Nat) (s : State),
      Powered s → trusts s d = true →
      Completes (.depart d) s fun t =>
        peerOf t d = { peerOf s d with cond := .departed, wakeAt := none } ∧ (∀ i, i ≠ d → peerOf t i = peerOf s i) ∧ Only s t [.slk] []) ∧
    (∀ (d : Nat) (s : State),
      Powered s → trusts s d = true →
      Completes (.peerHb d) s fun t =>
        peerOf t d = { peerOf s d with lastHb := s.clk.us } ∧ (∀ i, i ≠ d → peerOf t i = peerOf s i) ∧ Only s t [.slk] []) ∧
    (∀ (d : Nat) (s : State),
      Powered s → slkOn s = true → isLeader s = false → leaderId s = d → (peerOf s d).cond = .lost → (pairKey s d).isSome = true →
      routeUp s d = false →
      Completes (.peerHb d) s fun t =>
        peerOf t d = { peerOf s d with lostAt := s.clk.us } ∧ (∀ i, i ≠ d → peerOf t i = peerOf s i) ∧ Only s t [.slk] []) ∧
    (∀ (d : Nat) (s : State),
      Powered s → slkOn s = true → isLeader s = false → leaderId s = d → (peerOf s d).cond = .lost → (pairKey s d).isSome = true →
      routeUp s d = true → s.slk.stepping = false → s.lrs.bootStopped = false →
      Completes (.peerHb d) s fun t =>
        peerOf t d = { peerOf s d with lostAt := s.clk.us } ∧ t.slk.triedAt = some s.clk.us ∧ t.slk.eph.isSome = true ∧ (∀ i, i ≠ d → peerOf t i = peerOf s i) ∧ Only s t [.slk, .free] []) ∧
    (∀ (d : Nat) (q : Peer) (s : State),
      Powered s → slkOn s = true → isLeader s = true → s.slk.peers = [(d, q)] → q.cond = .live → (pairKey s d).isSome = true →
      q.txCount < 2 ^ 48 - 2 → q.rxCount < 2 ^ 48 - 1 → flag s (F.slkRoute_valid d) = true →
      Completes (.peerHbSend) s fun t =>
        t.clk.us = max s.clk.us (s.slk.hbSentAt + 1000) ∧ t.slk.hbSentAt = t.clk.us ∧ peerOf t d = { q with txCount := q.txCount + 1 } ∧ Only s t [.slk, .clk] []) ∧
    (∀ (d : Nat) (q : Peer) (s : State),
      Powered s → slkOn s = true → isLeader s = false → leaderId s = d → peerOf s d = q → q.cond = .live → (pairKey s d).isSome = true →
      q.txCount < 2 ^ 48 - 2 → q.rxCount < 2 ^ 48 - 1 → flag s (F.slkRoute_valid d) = true →
      Completes (.peerHbSend) s fun t =>
        t.clk.us = max s.clk.us (s.slk.hbSentAt + 1000) ∧ t.slk.hbSentAt = t.clk.us ∧ peerOf t d = { q with txCount := q.txCount + 1 } ∧ (∀ i, i ≠ d → peerOf t i = peerOf s i) ∧ Only s t [.slk, .clk] []) ∧
    (∀ (d : Nat) (s : State),
      Powered s → slkOn s = true → getF s F.slkCtrl_peerTimeout ≠ 0 → peerLive s d = true →
      Completes (.peerTimeoutExpiry d) s fun t =>
        (peerOf t d).cond = .lost ∧ (∀ kv ∈ t.hif.slots, kv.2.remote = some d → kv.2.phase ≠ .waitMembers)) ∧
    (∀ (d : Nat) (s : State),
      Powered s → slkOn s = true → getF s F.slkCtrl_peerTimeout ≠ 0 → peerLive s d = true → s.hif.slots = [] → s.slk.adminWaits = [] →
      s.mbx.chans = [] →
      Completes (.peerTimeoutExpiry d) s fun t =>
        peerOf t d = { peerOf s d with cond := .lost, lostAt := t.clk.us, wakeAt := none } ∧ t.clk.us = max s.clk.us ((peerOf s d).lastHb + 1000 * getF s F.slkCtrl_peerTimeout) ∧ (∀ i, i ≠ d → peerOf t i = peerOf s i) ∧ Only s t [.slk, .clk] []) ∧
    (∀ (d u : Nat) (s : State),
      Powered s → slkOn s = true → (peerOf s d).cond = .departed → (peerOf s d).wakeAt = some u → s.hif.slots = [] → s.slk.adminWaits = [] →
      s.mbx.chans = [] →
      Completes (.departedRejoinExpiry d) s fun t =>
        peerOf t d = { peerOf s d with cond := .lost, lostAt := t.clk.us, wakeAt := none } ∧ t.clk.us = max s.clk.us (u + 60000000) ∧ (∀ i, i ≠ d → peerOf t i = peerOf s i) ∧ Only s t [.slk, .clk] []) ∧
    (∀ (s : State),
      Powered s → slkOn s = true → isLeader s = false → flag s F.slkCtrl_succEn = true → getF s F.slkCtrl_succWait ≠ 0 →
      (peerOf s (leaderId s)).cond = .lost → s.slk.term + 1 < 2 ^ 16 → devId s < 16 →
      Completes (.succWaitExpiry) s fun t =>
        t.slk.term = s.slk.term + 1 ∧ isLeader t = true ∧ leaderId t = devId s ∧ t.slk.claimed = true ∧ t.clk.us = max s.clk.us ((peerOf s (leaderId s)).lostAt + 100000 * getF s F.slkCtrl_succWait) ∧ t.slk.peers = s.slk.peers ∧ Only s t [.slk, .clk, .jrn, .free] ([F.slkLeader_leader.addr] ++ (List.range 16).map fun i => (F.slkRoute_valid i).addr)) ∧
    (∀ (s : State),
      Powered s → slkOn s = true → s.slk.claimed = true → isLeader s = true → s.slk.mirrorNs = [] → s.slk.mirrorDeadlines = [] →
      Completes (.newLeaderTakeover) s fun t =>
        t.hif = { s.hif with funcs := [], linkUp := true, fetchStopped := false } ∧ t.vfm.vfEnable = false ∧ t.vfm.numVfs = 0 ∧ t.vfm.classDeadlines = s.vfm.classDeadlines ∧ t.clk.stampSet = false ∧ t.slk = { s.slk with claimed := false } ∧ Only s t [.slk, .clk, .vfm, .hif] [F.vfmShare_qp.addr, F.vfmSharePf_qpPf.addr]) ∧
    (∀ (nsid k v : Nat) (ns : Namespace) (s : State),
      Powered s → slkOn s = true → s.slk.claimed = true → isLeader s = true → s.slk.mirrorNs = [(nsid, ns)] → s.slk.mirrorDeadlines = [(k, v)] →
      k < s.vfm.classDeadlines.length →
      Completes (.newLeaderTakeover) s fun t =>
        spFind t.nss nsid = some (match spFind s.nss nsid with | some here => { ns with floor := here.floor, lastBay := here.lastBay } | none => ns) ∧ t.vfm.classDeadlines = s.vfm.classDeadlines.set k v ∧ (∀ i, i ≠ nsid → spFind t.nss i = spFind s.nss i) ∧ Only s t [.slk, .clk, .vfm, .hif, .nss] [F.vfmShare_qp.addr, F.vfmSharePf_qpPf.addr]) ∧
    (∀ (s : State),
      Powered s → slkOn s = true → (s.slk.claimed = false ∨ isLeader s = false) →
      Completes (.newLeaderTakeover) s fun t =>
        Only s t [] []) ∧
    (∀ (s : State),
      Powered s → standalone s = false → operational s = false → pmuState s ≠ 4 → s.pmu.flight = .none → s.dbg.halted = [] → s.lrs.perst = false →
      s.lrs.shelfReset = false →
      Completes (.peerSignalDetect) s fun t =>
        flag t F.pmuWake_peer = true ∧ t.pmu = { s.pmu with flight := .exiting, target := lastOp s, viaExit := false, padded := [] } ∧ Only s t [.pmu] [F.pmuWake_peer.addr]) ∧
    (∀ (m d : Nat) (p : Peer) (s : State),
      Reaches s m F.slkRemove_removed.addr true → (isMc m = true ∨ m = idHostPf ∨ m = idDebug) → d < 16 → s.slk.peers = [(d, p)] → p.cond = .lost →
      getF s F.slkRemove_removed = 0 →
      Completes (.slkRemoveWrite m (BitVec.ofNat 32 (2 ^ d))) s fun t =>
        peerOf t d = { p with cond := .removed } ∧ getF t F.slkRemove_removed = 2 ^ d ∧ Only s t [.slk, .jrn] [F.slkRemove_removed.addr]) ∧
    (∀ (m d : Nat) (p : Peer) (s : State),
      Reaches s m F.slkRemove_removed.addr true → (isMc m = true ∨ m = idHostPf ∨ m = idDebug) → d < 16 → s.slk.peers = [(d, p)] →
      p.cond = .removed → getF s F.slkRemove_removed = 2 ^ d →
      Completes (.slkRemoveWrite m 0) s fun t =>
        peerOf t d = { p with cond := .lost } ∧ getF t F.slkRemove_removed = 0 ∧ Only s t [.slk, .jrn] [F.slkRemove_removed.addr]) ∧
    (∀ (m v : Nat) (s : State),
      Reaches s m F.slkRemove_removed.addr true → (isMc m = true ∨ m = idHostPf ∨ m = idDebug) → v < 2 ^ 16 →
      Completes (.slkRemoveWrite m (BitVec.ofNat 32 v)) s fun t =>
        (∀ d ∈ List.range 16, (peerOf t d).cond = (if (peerOf s d).cond = .lost ∧ bitAt v d = true then .removed else if (peerOf s d).cond = .removed ∧ bitAt v d = false then .lost else (peerOf s d).cond)) ∧ Only s t [.slk, .jrn] [F.slkRemove_removed.addr]) ∧
    (∀ (m : Nat) (v : DWord) (s : State),
      Reaches s m F.slkRemove_removed.addr true → isMc m = false → m ≠ idHostPf → m ≠ idDebug →
      Completes (.slkRemoveWrite m v) s fun t =>
        Output.errorResponse m F.slkRemove_removed.addr ∈ t.out)

/-- A member admits a command its leader forwards, with the deadline less the way back, and takes the blocks of a write in order; the leader takes the
blocks of a read into the read pool and passes the member's status through. An administration command waits for every member's answer, and a failure
is its status; a member applies it and mirrors what it is told to. A peer's mailbox access is performed for it and answered, and an answer reaches the
core that asked; a notice sets its bit. -/
def Obligations.Forwarding : Prop :=
    (∀ (d tag term f tenant ezn off cls remain : Nat) (q : Sqe) (s : State),
      Powered s → fromLeader s d = true → s.slk.term ≤ term →
      Completes (.cmdFwd d tag term q f tenant ezn off cls remain) s fun t =>
        slotOf t (spFree s.hif.slots (s.hif.slots.length + 1) 0) = some { servedSlot s q f cls (now s + remain - linksBetween s.straps.role (devId s) d) with kind := ioKind q, ezn := ezn, nsid := tenant + 1, offset := off, blocks := if isReadKind (ioKind q) || isWriteKind (ioKind q) then nlb q else 0 } ∧ t.slk = { s.slk with served := s.slk.served ++ [⟨(spFree s.hif.slots (s.hif.slots.length + 1) 0), d, tag, false⟩] } ∧ (∀ m, m ≠ (spFree s.hif.slots (s.hif.slots.length + 1) 0) → slotOf t m = slotOf s m) ∧ Only s t [.slk, .hif] []) ∧
    (∀ (d tag term f tenant ezn off cls remain : Nat) (q : Sqe) (s : State),
      Powered s → slkOn s = true → (pairKey s d).isSome = true → (fromLeader s d = false ∨ term < s.slk.term) → (peerOf s d).txCount < 2 ^ 48 - 2 →
      (peerOf s d).rxCount < 2 ^ 48 - 1 → flag s (F.slkRoute_valid d) = true →
      Completes (.cmdFwd d tag term q f tenant ezn off cls remain) s fun t =>
        peerOf t d = { peerOf s d with txCount := (peerOf s d).txCount + 1 } ∧ (∀ i, i ≠ d → peerOf t i = peerOf s i) ∧ Only s t [.slk] []) ∧
    (∀ (d tag term f tenant ezn off cls remain : Nat) (q : Sqe) (s : State),
      Powered s → (slkOn s = false ∨ pairKey s d = none) →
      Completes (.cmdFwd d tag term q f tenant ezn off cls remain) s fun t =>
        Only s t [] []) ∧
    (∀ (d tag n : Nat) (bytes : List Byte) (icrc : DWord) (c : CmdSlot) (s : State),
      Powered s → trusts s d = true → servedTag s d tag = some n → slotOf s n = some c → liveWrite c c.fetched.length = true →
      c.fetched.contains c.fetched.length = false → (boundZone s c.ezn).isSome = true →
      Completes (.wrData d tag bytes icrc) s fun t =>
        (crc32c (bytesAt bytes 0 4096) ≠ icrc → flag t F.mepErr_writeFail = true ∧ spFind t.mep.ingest (blockKey n c.fetched.length) = spFind s.mep.ingest (blockKey n c.fetched.length))) ∧
    (∀ (d tag n pzn i : Nat) (bytes : List Byte) (c : CmdSlot) (z : ZstEntry) (s : State),
      Powered s → trusts s d = true → servedTag s d tag = some n → slotOf s n = some c → liveWrite c c.fetched.length = true →
      c.fetched.contains c.fetched.length = false → boundZone s c.ezn = some (pzn, z) → relocOf s pzn = none →
      (c.firstSlot + c.fetched.length) / hrSlots z.tier < z.durableHr + ringSlots z.tier →
      accumRoom s pzn z.tier (c.firstSlot + c.fetched.length) = true → spFind s.mep.ingest (blockKey n c.fetched.length) = none → Gives s 4 i →
      flag s F.mepFlip_arm = false →
      Completes (.wrData d tag bytes (crc32c (bytesAt bytes 0 4096))) s fun t =>
        spFind t.mep.ingest (blockKey n c.fetched.length) = some ⟨i, bytesAt bytes 0 4096, crc32c (bytesAt bytes 0 4096), [], false, 0⟩ ∧ slotOf t n = some { c with fetched := addOnce c.fetched c.fetched.length } ∧ bufTaken (poolOf t 4) i = true ∧ (∀ m, m ≠ n → slotOf t m = slotOf s m) ∧ Only s t [.mep, .hif, .sbg] [(F.sbgPoolStat_free 4).addr]) ∧
    (∀ (d tag n i : Nat) (bytes : List Byte) (ocrc : DWord) (c : CmdSlot) (s : State),
      Powered s → trusts s d = true → sentSlot s d tag = some (n, c) → c.phase = .waitMembers → c.kind = .read → c.opened.length < c.blocks →
      Gives s 1 i → c.reserved ≠ 0 → getF s (F.sbgPoolStat_reserved 1) ≠ 0 →
      Completes (.rdData d tag bytes ocrc) s fun t =>
        spFind t.mep.pool (blockKey n c.opened.length) = some ⟨i, bytesAt bytes 0 4096, ocrc, [], 0⟩ ∧ slotOf t n = some { c with opened := addOnce c.opened c.opened.length, reserved := c.reserved - 1 } ∧ bufTaken (poolOf t 1) i = true ∧ (∀ m, m ≠ n → slotOf t m = slotOf s m) ∧ Only s t [.mep, .hif, .sbg] [(F.sbgPoolStat_free 1).addr]) ∧
    (∀ (d tag n i : Nat) (bytes : List Byte) (ocrc : DWord) (c : CmdSlot) (s : State),
      Powered s → trusts s d = true → sentSlot s d tag = some (n, c) → c.phase = .waitMembers → c.kind = .read → c.opened.length < c.blocks →
      Gives s 1 i → c.reserved = 0 →
      Completes (.rdData d tag bytes ocrc) s fun t =>
        spFind t.mep.pool (blockKey n c.opened.length) = some ⟨i, bytesAt bytes 0 4096, ocrc, [], 0⟩ ∧ slotOf t n = some { c with opened := addOnce c.opened c.opened.length } ∧ bufTaken (poolOf t 1) i = true ∧ (∀ m, m ≠ n → slotOf t m = slotOf s m) ∧ Only s t [.mep, .hif, .sbg] [(F.sbgPoolStat_free 1).addr]) ∧
    (∀ (d tag n : Nat) (a b : DWord) (st : Status) (c : CmdSlot) (s : State),
      Powered s → trusts s d = true → sentSlot s d tag = some (n, c) → c.phase = .waitMembers → c.kind ≠ .read → c.failed = none → n ∉ s.zrs.held →
      s.slk.stepping = false → servedBy s n = none → c.reserved = 0 → ((∀ kv ∈ s.mep.pool, kv.1 / 256 ≠ n)) →
      ((∀ kv ∈ s.mep.ingest, kv.1 / 256 ≠ n)) → (spFind (funcOf s c.func).sqs c.sqid).bind SubQ.deleting = none →
      Completes (.cpl d tag st a b) s fun t =>
        (CanPost s n c → t.out.any (fun o => match o with | .completion f q cid x _ y w => f == c.func && q == c.sqid && cid == c.sqe.cid && x == st && y == a && w == b | _ => false) = true) ∧ Ended s t n c st ∧ Only s t [.hif, .slk] []) ∧
    (∀ (d tag n : Nat) (a b : DWord) (st : Status) (c : CmdSlot) (s : State),
      Powered s → trusts s d = true → sentSlot s d tag = some (n, c) → c.phase = .waitMembers → c.kind = .read → st ≠ .success → n ∉ s.zrs.held →
      s.slk.stepping = false → servedBy s n = none → c.reserved = 0 → ((∀ kv ∈ s.mep.pool, kv.1 / 256 ≠ n)) →
      ((∀ kv ∈ s.mep.ingest, kv.1 / 256 ≠ n)) → (spFind (funcOf s c.func).sqs c.sqid).bind SubQ.deleting = none →
      Completes (.cpl d tag st a b) s fun t =>
        Ended s t n c st ∧ Only s t [.hif, .slk] []) ∧
    (∀ (d tag n : Nat) (a b : DWord) (c : CmdSlot) (s : State),
      Powered s → trusts s d = true → sentSlot s d tag = some (n, c) → c.phase = .waitMembers → c.kind = .read →
      (allOpened c = false ∨ (List.range c.blocks).all (fun i => c.egress.contains i) = false) → readsOfSlot s n = [] →
      Completes (.cpl d tag .success a b) s fun t =>
        slotOf t n = some { c with phase := .admitted, dw0 := a, dw1 := b } ∧ (∀ m, m ≠ n → slotOf t m = slotOf s m) ∧ Only s t [.hif] []) ∧
    (∀ (d tag n : Nat) (a b : DWord) (c : CmdSlot) (s : State),
      Powered s → trusts s d = true → sentSlot s d tag = some (n, c) → c.phase = .waitMembers → c.kind = .read → allOpened c = true →
      (List.range c.blocks).all (fun i => c.egress.contains i) = true → readsOfSlot s n = [] → n ∉ s.zrs.held → s.slk.stepping = false →
      servedBy s n = none → c.reserved = 0 → ((∀ kv ∈ s.mep.pool, kv.1 / 256 ≠ n)) → ((∀ kv ∈ s.mep.ingest, kv.1 / 256 ≠ n)) →
      (spFind (funcOf s c.func).sqs c.sqid).bind SubQ.deleting = none →
      Completes (.cpl d tag .success a b) s fun t =>
        Ended s t n c (c.failed.getD .success) ∧ Only s t [.hif, .slk] []) ∧
    (∀ (d tag n e : Nat) (st : Status) (bs : List Byte) (c : CmdSlot) (s : State),
      Powered s → trusts s d = true → st ≠ .success → spFind s.slk.sentTags tag = some n → slotOf s n = some c →
      spFind s.slk.adminWaits n = some [d, e] → d ≠ e →
      Completes (.adminCpl d tag st bs) s fun t =>
        slotOf t n = some { c with failed := some (c.failed.getD st) } ∧ spFind t.slk.adminWaits n = some [e] ∧ spFind t.slk.sentTags tag = none ∧ (∀ m, m ≠ n → slotOf t m = slotOf s m) ∧ Only s t [.hif, .slk] []) ∧
    (∀ (d tag n : Nat) (bs : List Byte) (c : CmdSlot) (s : State),
      Powered s → trusts s d = true → spFind s.slk.sentTags tag = some n → slotOf s n = some c → c.phase = .waitMembers →
      spFind s.slk.adminWaits n = some [d] → n ∉ s.zrs.held → s.slk.stepping = false → servedBy s n = none → c.reserved = 0 →
      ((∀ kv ∈ s.mep.pool, kv.1 / 256 ≠ n)) → ((∀ kv ∈ s.mep.ingest, kv.1 / 256 ≠ n)) →
      (spFind (funcOf s c.func).sqs c.sqid).bind SubQ.deleting = none →
      Completes (.adminCpl d tag .success bs) s fun t =>
        spFind t.slk.adminWaits n = none ∧ (isAdmin 0x82 c = true → Output.hostData c.func c.sqe.cid (bs.take (secLen c.sqe)) ∈ t.out) ∧ Ended s t n c (c.failed.getD .success) ∧ Only s t [.hif, .slk] []) ∧
    (∀ (d tag n : Nat) (st : Status) (bs : List Byte) (c : CmdSlot) (s : State),
      Powered s → trusts s d = true → st ≠ .success → spFind s.slk.sentTags tag = some n → slotOf s n = some c → c.phase = .waitMembers →
      spFind s.slk.adminWaits n = some [d] → n ∉ s.zrs.held → s.slk.stepping = false → servedBy s n = none → c.reserved = 0 →
      ((∀ kv ∈ s.mep.pool, kv.1 / 256 ≠ n)) → ((∀ kv ∈ s.mep.ingest, kv.1 / 256 ≠ n)) →
      (spFind (funcOf s c.func).sqs c.sqid).bind SubQ.deleting = none →
      Completes (.adminCpl d tag st bs) s fun t =>
        spFind t.slk.adminWaits n = none ∧ Ended s t n c (c.failed.getD st) ∧ Only s t [.hif, .slk] []) ∧
    (∀ (d tag nsid base count tier mar mor ms : Nat) (q : Sqe) (tr : Tier) (s : State),
      Powered s → fromLeader s d = true → q.admin = true → opc q = 0x0D → nsSel q = 0 → tierOf tier = some tr →
      Completes (.admin d tag (.command q nsid base count tier mar mor ms)) s fun t =>
        spFind t.nss nsid = some ⟨base, count, tr, mar, mor, none, 0, none⟩ ∧ t.jrn.waiting = s.jrn.waiting ++ [.ns nsid (some ⟨base, count, tr, mar, mor, none, 0, none⟩)] ∧ slotOf t (spFree s.hif.slots (s.hif.slots.length + 1) 0) = some { servedSlot s { q with nsid := nsid } 0 1 (now s) with kind := .admin, phase := .waitJournal } ∧
        t.slk = { s.slk with served := s.slk.served ++ [⟨(spFree s.hif.slots (s.hif.slots.length + 1) 0), d, tag, true⟩] } ∧ (∀ i, i ≠ nsid → spFind t.nss i = spFind s.nss i) ∧ Only s t [.nss, .jrn, .hif, .slk] []) ∧
    (∀ (d tag nsid base count tier mar mor ms : Nat) (q : Sqe) (s : State),
      Powered s → fromLeader s d = true → q.admin = true → opc q = 0x0D → nsSel q ≠ 0 → spFind s.nss nsid = none →
      (peerOf s d).txCount < 2 ^ 48 - 2 → (peerOf s d).rxCount < 2 ^ 48 - 1 → flag s (F.slkRoute_valid d) = true →
      Completes (.admin d tag (.command q nsid base count tier mar mor ms)) s fun t =>
        peerOf t d = { peerOf s d with txCount := (peerOf s d).txCount + 1 } ∧ (∀ i, i ≠ d → peerOf t i = peerOf s i) ∧ Only s t [.slk] []) ∧
    (∀ (d tag nsid base count tier mar mor ms : Nat) (q : Sqe) (ns : Namespace) (s : State),
      Powered s → fromLeader s d = true → q.admin = true → opc q = 0x0D → nsSel q ≠ 0 → spFind s.nss nsid = some ns →
      (∀ i, i < ns.count → (zoneHome s (ns.base + i)).1 = none ∧ zoneState s (zoneHome s (ns.base + i)).2 = .empty) →
      Completes (.admin d tag (.command q nsid base count tier mar mor ms)) s fun t =>
        spFind t.nss nsid = none) ∧
    (∀ (d tag nsid base count tier mar mor ms : Nat) (q : Sqe) (s : State),
      Powered s → fromLeader s d = true → q.admin = true → opc q = 0x84 → (sanAct q = 2 ∨ sanAct q = 4) →
      Completes (.admin d tag (.command q nsid base count tier mar mor ms)) s fun t =>
        t.hif.sanitize.running = some (if sanAct q = 2 then .blockErase else .cryptoErase)) ∧
    (∀ (d tag nsid base count tier mar mor ms : Nat) (q : Sqe) (s : State),
      Powered s → fromLeader s d = true → q.admin = true → opc q = 0x09 → dw10 q % 256 = 0x0E → getF s F.mhmOffest_state ≠ 2 →
      getF s F.mhmOffest_state ≠ 3 → (peerOf s d).txCount < 2 ^ 48 - 2 → (peerOf s d).rxCount < 2 ^ 48 - 1 → flag s (F.slkRoute_valid d) = true →
      Completes (.admin d tag (.command q nsid base count tier mar mor ms)) s fun t =>
        t.clk = { s.clk with stampSet := true, stampMs := ms % 2 ^ 48, stampAt := s.clk.us } ∧ t.jrn.waiting = s.jrn.waiting ++ [.stamp (ms % 2 ^ 48) s.clk.ophours] ∧ t.age = { s.age with stampNew := some (ms % 2 ^ 48, s.clk.ophours) } ∧ peerOf t d = { peerOf s d with txCount := (peerOf s d).txCount + 1 } ∧ (∀ i, i ≠ d → peerOf t i = peerOf s i) ∧ Only s t [.slk, .clk, .jrn, .age] []) ∧
    (∀ (d tag nsid base count tier mar mor ms : Nat) (q : Sqe) (s : State),
      Powered s → fromLeader s d = true → q.admin = true → opc q = 0x09 → dw10 q % 256 = 0xC0 → (peerOf s d).txCount < 2 ^ 48 - 2 →
      (peerOf s d).rxCount < 2 ^ 48 - 1 → flag s (F.slkRoute_valid d) = true →
      Completes (.admin d tag (.command q nsid base count tier mar mor ms)) s fun t =>
        t.vfm = { s.vfm with classShadow := s.vfm.classShadow ++ [(dw11 q / 2 ^ 30, dw11 q % 2 ^ 24)] } ∧ peerOf t d = { peerOf s d with txCount := (peerOf s d).txCount + 1 } ∧ (∀ i, i ≠ d → peerOf t i = peerOf s i) ∧ Only s t [.slk, .vfm] []) ∧
    (∀ (d tag nsid base count tier mar mor ms : Nat) (q : Sqe) (s : State),
      Powered s → fromLeader s d = true → q.admin = false →
      Completes (.admin d tag (.command q nsid base count tier mar mor ms)) s fun t =>
        slotOf t (spFree s.hif.slots (s.hif.slots.length + 1) 0) = some { servedSlot s { q with nsid := nsid } 0 1 (now s) with kind := ioKind q, nsid := nsid } ∧ t.slk = { s.slk with served := s.slk.served ++ [⟨(spFree s.hif.slots (s.hif.slots.length + 1) 0), d, tag, true⟩] } ∧ (∀ m, m ≠ (spFree s.hif.slots (s.hif.slots.length + 1) 0) → slotOf t m = slotOf s m) ∧ Only s t [.hif, .slk] []) ∧
    (∀ (d tag nsid base count tier mar mor ms : Nat) (q : Sqe) (s : State),
      Powered s → fromLeader s d = true → q.admin = true → opc q ∉ [0x0D, 0x84, 0x09] → (peerOf s d).txCount < 2 ^ 48 - 2 →
      (peerOf s d).rxCount < 2 ^ 48 - 1 → flag s (F.slkRoute_valid d) = true →
      Completes (.admin d tag (.command q nsid base count tier mar mor ms)) s fun t =>
        peerOf t d = { peerOf s d with txCount := (peerOf s d).txCount + 1 } ∧ (∀ i, i ≠ d → peerOf t i = peerOf s i) ∧ Only s t [.slk] []) ∧
    (∀ (d tag nsid base count floor : Nat) (s : State),
      Powered s → fromLeader s d = true → spFind s.nss nsid = none → count = 0 → (peerOf s d).txCount < 2 ^ 48 - 2 →
      (peerOf s d).rxCount < 2 ^ 48 - 1 → flag s (F.slkRoute_valid d) = true →
      Completes (.admin d tag (.floor nsid base count floor)) s fun t =>
        peerOf t d = { peerOf s d with txCount := (peerOf s d).txCount + 1 } ∧ (∀ i, i ≠ d → peerOf t i = peerOf s i) ∧ Only s t [.slk] []) ∧
    (∀ (d tag nsid base count floor i : Nat) (s : State),
      Powered s → fromLeader s d = true → i < count → zoneHome s (base + i) = (none, i) → (zmapOf s i).retired = false → zoneState s i = .empty →
      (zmapOf s i).epoch < floor → floor ≤ 0xFFFFFF → count = 1 →
      Completes (.admin d tag (.floor nsid base count floor)) s fun t =>
        (zmapOf t i).epoch = floor ∧ ((spFind s.nss nsid).isSome = true → ∃ n ∈ spFind t.nss nsid, floor ≤ n.floor)) ∧
    (∀ (d tag nsid : Nat) (s : State),
      Powered s → fromLeader s d = true →
      Completes (.admin d tag (.eraseKey nsid)) s fun t =>
        (0 < nsid → spFind t.tkr.slots (nsid - 1) = none)) ∧
    (∀ (d tag code : Nat) (s : State),
      Powered s → fromLeader s d = true → reqOfCode code = none →
      Completes (.admin d tag (.power code)) s fun t =>
        Only s t [] []) ∧
    (∀ (d tag code : Nat) (q : PmuReq) (s : State),
      Powered s → fromLeader s d = true → reqOfCode code = some q → s.lrs.perst = false → s.lrs.shelfReset = false → lrsActive s = false →
      s.pmu.flight = .none → q ≠ .wake → reqState q ≠ pmuState s → s.dbg.halted ≠ [] →
      Completes (.admin d tag (.power code)) s fun t =>
        t.pmu = { s.pmu with pending := some q } ∧ Only s t [.pmu] []) ∧
    (∀ (d tag nsid : Nat) (pf : Bool) (q : Sqe) (data : List Byte) (s : State),
      Powered s → fromLeader s d = true → opc q = 0x82 → spsp q = 9 → (peerOf s d).txCount < 2 ^ 48 - 2 → (peerOf s d).rxCount < 2 ^ 48 - 1 →
      flag s (F.slkRoute_valid d) = true →
      Completes (.admin d tag (.security pf nsid q data)) s fun t =>
        peerOf t d = { peerOf s d with txCount := (peerOf s d).txCount + 1 } ∧ (∀ i, i ≠ d → peerOf t i = peerOf s i) ∧ Only s t [.slk] []) ∧
    (∀ (d tag : Nat) (m : AdminMsg) (s : State),
      Powered s → fromLeader s d = false →
      Completes (.admin d tag m) s fun t =>
        Only s t [] []) ∧
    (∀ (d nsid base count tier mar mor att : Nat) (s : State),
      Powered s → fromLeader s d = true → flag s F.slkCtrl_succEn = true →
      Completes (.mirror d (.namespaceIs nsid base count tier mar mor att)) s fun t =>
        spFind t.slk.mirrorNs nsid = some ⟨base, count, (tierOf tier).getD .d4, mar, mor, if att = 0 then none else some (att - 1), 0, none⟩ ∧ (∀ i, i ≠ nsid → spFind t.slk.mirrorNs i = spFind s.slk.mirrorNs i) ∧ Only s t [.slk] []) ∧
    (∀ (d : Nat) (m : MirrorRec) (s : State),
      Powered s → (fromLeader s d = false ∨ flag s F.slkCtrl_succEn = false) →
      Completes (.mirror d m) s fun t =>
        Only s t [] []) ∧
    (∀ (d k v : Nat) (s : State),
      Powered s → fromLeader s d = true → flag s F.slkCtrl_succEn = true →
      Completes (.mirror d (.deadline k v)) s fun t =>
        spFind t.slk.mirrorDeadlines k = some v ∧ (∀ i, i ≠ k → spFind t.slk.mirrorDeadlines i = spFind s.slk.mirrorDeadlines i) ∧ Only s t [.slk] []) ∧
    (∀ (d nsid : Nat) (s : State),
      Powered s → fromLeader s d = true → flag s F.slkCtrl_succEn = true →
      Completes (.mirror d (.namespaceGone nsid)) s fun t =>
        spFind t.slk.mirrorNs nsid = none ∧ (∀ i, i ≠ nsid → spFind t.slk.mirrorNs i = spFind s.slk.mirrorNs i) ∧ Only s t [.slk] []) ∧
    (∀ (d tag off i : Nat) (data : Word) (r : RegDef) (s : State),
      Powered s → trusts s d = true → domainOn s .data = true → d < 16 → off < 0x4000 → (regAt (0x1000300000 + off)) = some (r, i) →
      r.name = "MBX_WORD" → isParty s (i / 16) (idPeer d) = true → (chanOf s (i / 16)).st = .claimed → (chanOf s (i / 16)).holder = idPeer d →
      flag s (F.slkRoute_valid d) = true →
      Completes (.csrReq d tag true off 4 data) s fun t =>
        chanOf t (i / 16) = { chanOf s (i / 16) with words := listSet (chanOf s (i / 16)).words (i % 16) (data.truncate 32) } ∧ (∀ k, k ≠ i / 16 → chanOf t k = chanOf s k) ∧ Only s t [.mbx, .slk] []) ∧
    (∀ (d tag off size : Nat) (w : Bool) (data : Word) (s : State),
      Powered s → trusts s d = true → d < 16 → 0x4000 ≤ off → (peerOf s d).txCount < 2 ^ 48 - 2 → (peerOf s d).rxCount < 2 ^ 48 - 1 →
      flag s (F.slkRoute_valid d) = true →
      Completes (.csrReq d tag w off size data) s fun t =>
        peerOf t d = { peerOf s d with txCount := (peerOf s d).txCount + 1 } ∧ (∀ i, i ≠ d → peerOf t i = peerOf s i) ∧ Only s t [.slk] []) ∧
    (∀ (d tag off size : Nat) (data : Word) (s : State),
      Powered s → trusts s d = true → d < 16 → off < 0x4000 → domainOn s .data = true → size = 4 → off % 4 = 0 →
      ((regAt (0x1000300000 + off)).map (fun r => r.1.name)) = some "MBX_BIND" → (peerOf s d).txCount < 2 ^ 48 - 2 →
      (peerOf s d).rxCount < 2 ^ 48 - 1 → flag s (F.slkRoute_valid d) = true →
      Completes (.csrReq d tag false off size data) s fun t =>
        peerOf t d = { peerOf s d with txCount := (peerOf s d).txCount + 1 } ∧ (∀ i, i ≠ d → peerOf t i = peerOf s i) ∧ Only s t [.slk] []) ∧
    (∀ (d tag off size : Nat) (w : Bool) (data : Word) (s : State),
      Powered s → trusts s d = false →
      Completes (.csrReq d tag w off size data) s fun t =>
        Only s t [] []) ∧
    (∀ (d tag m : Nat) (data : Word) (s : State),
      Powered s → trusts s d = true → spFind s.slk.csrTags tag = some m →
      Completes (.csrRsp d tag false false data) s fun t =>
        [Output.readResponse m data] <+: t.out ∧ spFind t.slk.csrTags tag = none ∧ Only s t [.slk] []) ∧
    (∀ (d tag m : Nat) (data : Word) (s : State),
      Powered s → trusts s d = true → spFind s.slk.csrTags tag = some m →
      Completes (.csrRsp d tag true false data) s fun t =>
        spFind t.slk.csrTags tag = none ∧ Only s t [.slk] []) ∧
    (∀ (d tag m : Nat) (w : Bool) (data : Word) (s : State),
      Powered s → trusts s d = true → spFind s.slk.csrTags tag = some m → isMc m = true →
      Completes (.csrRsp d tag w true data) s fun t =>
        spFind t.slk.csrTags tag = none ∧ Output.errorResponse m 0x1001680000 ∈ t.out) ∧
    (∀ (d ch kd : Nat) (s : State),
      Powered s → trusts s d = true → d < 16 →
      Completes (.mbxNotice d ch kd) s fun t =>
        bitAt (getF t F.slkNote_src) d = true ∧ (domainOn s .mgmt = true → Output.interrupt (idMc 0) ∈ t.out) ∧ Only s t [] [F.slkNote_src.addr])

/-- Every access that carries a master ID the table does not list is answered with an error response, makes its Contact Sheet event where the port is free
or is counted as missed, and changes nothing else: any access, a register write, a register read. -/
def Obligations.ReservedMasters : Prop :=
    (∀ (m a : Nat) (w : Bool) (s : State),
      Powered s → m ≠ 0x00 ∧ m ≠ 0x01 ∧ ¬(0x10 ≤ m ∧ m ≤ 0x17) ∧ m ≠ 0x20 ∧ ¬(0x30 ≤ m ∧ m ≤ 0x5D) ∧ m ≠ 0x70 ∧ m ≠ 0x7F →
      Completes (.reservedMasterAccess m a w) s fun t =>
        Output.errorResponse m a ∈ t.out ∧
        (portHeld s 0x0E 0 = false → (⟨0x0E, 0, m, [m, a % 2 ^ 32, a / 2 ^ 32 % 256].map (BitVec.ofNat 32)⟩ : Event) ∈ t.csh.ports) ∧ (portHeld s 0x0E 0 = true → getF t (F.cshMissed_total 13) = min (getF s (F.cshMissed_total 13) + 1) 65535) ∧ Only s t [.csh] [(F.cshMissed_total 13).addr]) ∧
    (∀ (m a size : Nat) (v : Word) (s : State),
      Powered s → m ≠ 0x00 ∧ m ≠ 0x01 ∧ ¬(0x10 ≤ m ∧ m ≤ 0x17) ∧ m ≠ 0x20 ∧ ¬(0x30 ≤ m ∧ m ≤ 0x5D) ∧ m ≠ 0x70 ∧ m ≠ 0x7F → 0x1000000000 ≤ a →
      Completes (.csrWrite m a size v) s fun t =>
        Output.errorResponse m a ∈ t.out ∧
        (portHeld s 0x0E 0 = false → (⟨0x0E, 0, m, [m, a % 2 ^ 32, a / 2 ^ 32 % 256].map (BitVec.ofNat 32)⟩ : Event) ∈ t.csh.ports) ∧ (portHeld s 0x0E 0 = true → getF t (F.cshMissed_total 13) = min (getF s (F.cshMissed_total 13) + 1) 65535) ∧ Only s t [.csh] [(F.cshMissed_total 13).addr]) ∧
    (∀ (m a size : Nat) (s : State),
      Powered s → m ≠ 0x00 ∧ m ≠ 0x01 ∧ ¬(0x10 ≤ m ∧ m ≤ 0x17) ∧ m ≠ 0x20 ∧ ¬(0x30 ≤ m ∧ m ≤ 0x5D) ∧ m ≠ 0x70 ∧ m ≠ 0x7F → 0x1000000000 ≤ a →
      Completes (.rcFieldRead m a size) s fun t =>
        Output.errorResponse m a ∈ t.out ∧
        (portHeld s 0x0E 0 = false → (⟨0x0E, 0, m, [m, a % 2 ^ 32, a / 2 ^ 32 % 256].map (BitVec.ofNat 32)⟩ : Event) ∈ t.csh.ports) ∧ (portHeld s 0x0E 0 = true → getF t (F.cshMissed_total 13) = min (getF s (F.cshMissed_total 13) + 1) 65535) ∧ Only s t [.csh] [(F.cshMissed_total 13).addr])

/-- After every command SHELF_ALERT_N is driven low exactly while the LRS is in TAKEOVER, RESTART or HOLD, a boot has stopped, or a bay has failed;
without VDD_AON it is released. -/
def Obligations.AlertPin : Prop :=
    (∀ (c : Instr) (s t : State),
      Powered s → exec c s = .next t →
      (t.pins.shelfAlertLow = true ↔ t.lrs.phase = .takeover ∨ t.lrs.phase = .restart ∨ t.lrs.phase = .hold ∨ t.lrs.bootStopped = true ∨
        ∃ kv ∈ t.bay.bays, kv.2.phase = .failed)) ∧
    (∀ (s : State),
      Powered s →
      Completes (.powerLoss) s fun t =>
        t.pmu.off = true ∧ t.pins.shelfAlertLow = false)

/-- Right after reset every register holds its reset value but SYS_ID, RST_LRS, SEC_LC and PRF_BOOT, which show fuses, straps, the state of the LRS and
the boot; DRAM reads as zeros, nothing is bound, queued or listed, every bay is off, the mailboxes are unbound and the class deadlines are the
table's. The fuses, straps and boot progress are the model's choice (assumption log entries 9 and 10). State.reset is in agreement, its DRAM bytes and
its registers are in canonical form, and its queue is empty. -/
def Obligations.ResetValues : Prop :=
    (∀ (a : Nat),
      a ∉ [0x1000000000, 0x1000200010, 0x1000700000, 0x1001700010] →
      regVal State.reset a = regReset a) ∧
    (∀ (a : Nat),
      memByte State.reset a = 0) ∧
    (∀ (n : Nat),
      chanOf State.reset n = noChan ∧ (bayOf State.reset n).phase = .off ∧ slotOf State.reset n = none) ∧
    (State.reset.vfm.classDeadlines = [50, 500, 5000, 100000] ∧ State.reset.zrs.zst = [] ∧ State.reset.csh.ports = [] ∧ State.reset.pending = [] ∧ Works State.reset) ∧
    (Settled State.reset) ∧
    (Memory.wf State.reset = true) ∧
    (Regs.wf State.reset = true) ∧
    (State.reset.pending = [])
end

