-- ==== Sys2Proof/Laws/Sparse.lean ====
section
/-!
SUPPORT. Laws of the sparse tables: what is found after a store, and that every operation keeps the canonical form.
-/

namespace Sys2Proof.Machine

variable {α : Type}

@[simp] theorem spFind_nil (i : Nat) : spFind ([] : Sparse α) i = none := rfl

@[simp] theorem spFind_put_same (m : Sparse α) (i : Nat) (x : α) : spFind (spPut m i x) i = some x := by
  induction m with
  | nil => simp [spPut, spFind]
  | cons kv m ih =>
    obtain ⟨k, v⟩ := kv
    unfold spPut
    split
    · next h => subst h; simp [spFind]
    · split
      · simp [spFind]
      · next h _ => simp [spFind, h, ih]

theorem spFind_put_ne (m : Sparse α) {i j : Nat} (x : α) (h : j ≠ i) : spFind (spPut m i x) j = spFind m j := by
  induction m with
  | nil => simp [spPut, spFind, h]
  | cons kv m ih =>
    obtain ⟨k, v⟩ := kv
    unfold spPut
    split
    · next e => subst e; simp [spFind, h]
    · split
      · simp [spFind, h]
      · simp only [spFind]; split
        · rfl
        · exact ih

@[simp] theorem spFind_erase_same (m : Sparse α) (i : Nat) : spFind (spErase m i) i = none := by
  induction m with
  | nil => rfl
  | cons kv m ih =>
    obtain ⟨k, v⟩ := kv
    unfold spErase
    split
    · exact ih
    · next h => simp [spFind, h, ih]

theorem spFind_erase_ne (m : Sparse α) {i j : Nat} (h : j ≠ i) : spFind (spErase m i) j = spFind m j := by
  induction m with
  | nil => rfl
  | cons kv m ih =>
    obtain ⟨k, v⟩ := kv
    unfold spErase
    split
    · next e => subst e; simp [spFind, h, ih]
    · simp only [spFind]; split
      · rfl
      · exact ih

@[simp] theorem spGet_set_same [DecidableEq α] (d : α) (m : Sparse α) (i : Nat) (x : α) : spGet d (spSet d m i x) i = x := by
  unfold spSet spGet
  split
  · next h => simp [h]
  · simp

theorem spGet_set_ne [DecidableEq α] (d e : α) (m : Sparse α) {i j : Nat} (x : α) (h : j ≠ i) :
    spGet e (spSet d m i x) j = spGet e m j := by
  unfold spSet spGet
  split
  · rw [spFind_erase_ne m h]
  · rw [spFind_put_ne m x h]

/-- Every key of the table is above a bound. -/
def spAbove (b : Nat) (m : Sparse α) : Prop := ∀ kv ∈ m, b < kv.1

theorem spSorted_cons {k : Nat} {v : α} {m : Sparse α} : spSorted ((k, v) :: m) = true ↔ spAbove k m ∧ spSorted m = true := by
  induction m generalizing k v with
  | nil => simp [spSorted, spAbove]
  | cons kv m ih =>
    obtain ⟨l, w⟩ := kv
    simp only [spSorted, Bool.and_eq_true, decide_eq_true_eq]
    constructor
    · rintro ⟨h, hs⟩
      refine ⟨?_, hs⟩
      have := (ih (k := l) (v := w)).1 hs
      intro x hx
      rcases List.mem_cons.1 hx with rfl | hx
      · exact h
      · exact lt_trans h (this.1 x hx)
    · rintro ⟨ha, hs⟩
      exact ⟨ha (l, w) (by simp), hs⟩

theorem spAbove_put {b i : Nat} {m : Sparse α} {x : α} (h : spAbove b m) (hb : b < i) : spAbove b (spPut m i x) := by
  induction m with
  | nil => intro kv hkv; simp [spPut] at hkv; simp [hkv, hb]
  | cons kv m ih =>
    obtain ⟨k, v⟩ := kv
    have h1 : b < k := h (k, v) (by simp)
    have h2 : spAbove b m := fun y hy => h y (by simp [hy])
    unfold spPut
    split
    · intro y hy; rcases List.mem_cons.1 hy with rfl | hy
      · exact h1
      · exact h2 y hy
    · split
      · intro y hy; rcases List.mem_cons.1 hy with rfl | hy
        · exact hb
        · exact h y hy
      · intro y hy; rcases List.mem_cons.1 hy with rfl | hy
        · exact h1
        · exact ih h2 y hy

theorem spAbove_erase {b i : Nat} {m : Sparse α} (h : spAbove b m) : spAbove b (spErase m i) := by
  induction m with
  | nil => simpa [spErase] using h
  | cons kv m ih =>
    obtain ⟨k, v⟩ := kv
    have h2 : spAbove b m := fun y hy => h y (by simp [hy])
    unfold spErase
    split
    · exact ih h2
    · intro y hy; rcases List.mem_cons.1 hy with rfl | hy
      · exact h (k, v) (by simp)
      · exact ih h2 y hy

theorem spSorted_put {m : Sparse α} (i : Nat) (x : α) (h : spSorted m = true) : spSorted (spPut m i x) = true := by
  induction m with
  | nil => rfl
  | cons kv m ih =>
    obtain ⟨k, v⟩ := kv
    obtain ⟨ha, hs⟩ := spSorted_cons.1 h
    unfold spPut
    split
    · exact spSorted_cons.2 ⟨ha, hs⟩
    · split
      · next hlt =>
        refine spSorted_cons.2 ⟨?_, h⟩
        intro y hy; rcases List.mem_cons.1 hy with rfl | hy
        · exact hlt
        · exact lt_trans hlt (ha y hy)
      · next hne hnl =>
        exact spSorted_cons.2 ⟨spAbove_put ha (lt_of_le_of_ne (not_lt.1 hnl) (Ne.symm hne)), ih hs⟩

theorem spSorted_erase {m : Sparse α} (i : Nat) (h : spSorted m = true) : spSorted (spErase m i) = true := by
  induction m with
  | nil => rfl
  | cons kv m ih =>
    obtain ⟨k, v⟩ := kv
    obtain ⟨ha, hs⟩ := spSorted_cons.1 h
    unfold spErase
    split
    · exact ih hs
    · exact spSorted_cons.2 ⟨spAbove_erase ha, ih hs⟩

theorem spSorted_set [DecidableEq α] (d : α) {m : Sparse α} (i : Nat) (x : α) (h : spSorted m = true) :
    spSorted (spSet d m i x) = true := by
  unfold spSet
  split
  · exact spSorted_erase i h
  · exact spSorted_put i x h

theorem mem_spPut {m : Sparse α} {i : Nat} {x : α} {y : Nat × α} (h : y ∈ spPut m i x) : y = (i, x) ∨ y ∈ m := by
  induction m with
  | nil => simpa [spPut] using h
  | cons kv m ih =>
    obtain ⟨k, v⟩ := kv
    unfold spPut at h
    split at h
    · next e => rcases List.mem_cons.1 h with h | h
                · exact Or.inl (by rw [h, e])
                · exact Or.inr (List.mem_cons_of_mem _ h)
    · split at h
      · rcases List.mem_cons.1 h with h | h
        · exact Or.inl h
        · exact Or.inr h
      · rcases List.mem_cons.1 h with h | h
        · exact Or.inr (by rw [h]; exact List.mem_cons_self)
        · rcases ih h with h | h
          · exact Or.inl h
          · exact Or.inr (List.mem_cons_of_mem _ h)

theorem mem_spErase {m : Sparse α} {i : Nat} {y : Nat × α} (h : y ∈ spErase m i) : y ∈ m := by
  induction m with
  | nil => simp [spErase] at h
  | cons kv m ih =>
    obtain ⟨k, v⟩ := kv
    unfold spErase at h
    split at h
    · exact List.mem_cons_of_mem _ (ih h)
    · rcases List.mem_cons.1 h with h | h
      · rw [h]; exact List.mem_cons_self
      · exact List.mem_cons_of_mem _ (ih h)

/-- A store keeps the canonical form of a table whose keys have defaults of their own. -/
theorem spWf_set [DecidableEq α] (d : Nat → α) {m : Sparse α} (i : Nat) (x : α) (h : spWf d m = true) :
    spWf d (spSet (d i) m i x) = true := by
  unfold spWf at h ⊢
  simp only [Bool.and_eq_true, List.all_eq_true, decide_eq_true_eq] at h ⊢
  refine ⟨spSorted_set _ i x h.1, fun y hy => ?_⟩
  unfold spSet at hy
  split at hy
  · exact h.2 y (mem_spErase hy)
  · next hx => rcases mem_spPut hy with rfl | hy
               · exact hx
               · exact h.2 y hy

end Sys2Proof.Machine
end

