-- ==== Sys2Proof/Laws/Dram.lean ====
section
/-!
SUPPORT. Laws of the DRAM bytes: a read after a store to the same address gives the byte stored, a store leaves every other byte alone, and every store
keeps the canonical form.
-/

namespace Sys2Proof.Machine

open Sys2Proof

/-- The canonical form of a byte table, the addresses whose bytes are undefined while unlisted given by a test. -/
def bytesWf (und : Nat → Bool) (m : Sparse Byte) : Bool := spSorted m && m.all fun kv => und kv.1 || decide (kv.2 ≠ 0)

theorem bytesWf_storeByte {und : Nat → Bool} {m : Sparse Byte} (a : Nat) (b : Byte) (h : bytesWf und m = true) :
    bytesWf und (storeByte und m a b) = true := by
  unfold bytesWf at h ⊢
  simp only [Bool.and_eq_true, List.all_eq_true] at h ⊢
  unfold storeByte
  split
  · next hc =>
    refine ⟨spSorted_put _ _ h.1, fun kv hkv => ?_⟩
    rcases mem_spPut hkv with rfl | hm
    · simp [hc]
    · exact h.2 kv hm
  · refine ⟨spSorted_set _ _ _ h.1, fun kv hkv => ?_⟩
    unfold spSet at hkv
    split at hkv
    · exact h.2 kv (mem_spErase hkv)
    · next hb =>
      rcases mem_spPut hkv with rfl | hm
      · simp only [decide_eq_true (show (a, b).2 ≠ 0 from hb), Bool.or_true]
      · exact h.2 kv hm

theorem bytesWf_storeBytes {und : Nat → Bool} {m : Sparse Byte} (a : Nat) (bs : List Byte) (h : bytesWf und m = true) :
    bytesWf und (storeBytes und m a bs) = true := by
  induction bs generalizing m a with
  | nil => exact h
  | cons b bs ih => exact ih (a + 1) (bytesWf_storeByte a b h)

/-- The draw that stands for an unwritten byte does not depend on the byte table. -/
theorem undefDraw_mep (s : State) (m : MepState) (a : Nat) : undefDraw { s with mep := m } a = undefDraw s a := rfl

/-- A store of any bytes keeps the canonical form of the DRAM bytes. -/
theorem memory_wf_putDramBytes {s : State} (a : Nat) (bs : List Byte) (h : Memory.wf s = true) : Memory.wf (putDramBytes s a bs) = true :=
  bytesWf_storeBytes (und := fun x => (undefDraw s x).isSome) a bs h

/-- A store to DRAM keeps the canonical form of its bytes. -/
theorem memory_wf_dramStore {s : State} (a : Nat) (bs : List Byte) (bad : List Nat) (h : Memory.wf s = true) :
    Memory.wf (dramStore s a bs bad) = true := by
  unfold dramStore
  split
  · exact h
  · exact bytesWf_storeBytes (und := fun x => (undefDraw s x).isSome) a bs h

theorem getD_storeByte_same (und : Nat → Bool) (m : Sparse Byte) (a : Nat) (b d : Byte) (hd : und a = false → d = 0) :
    (spFind (storeByte und m a b) a).getD d = b := by
  unfold storeByte
  split
  · simp
  · next h =>
    unfold spSet
    split
    · next hb => simp [hb, hd (by simpa using h)]
    · simp

theorem spFind_storeByte_ne (und : Nat → Bool) (m : Sparse Byte) {a x : Nat} (b : Byte) (h : x ≠ a) :
    spFind (storeByte und m a b) x = spFind m x := by
  unfold storeByte spSet
  split
  · exact spFind_put_ne m b h
  · split
    · exact spFind_erase_ne m h
    · exact spFind_put_ne m b h

theorem spFind_storeBytes_out (und : Nat → Bool) (m : Sparse Byte) (a : Nat) (bs : List Byte) {x : Nat} (h : x < a ∨ a + bs.length ≤ x) :
    spFind (storeBytes und m a bs) x = spFind m x := by
  induction bs generalizing m a with
  | nil => rfl
  | cons b bs ih =>
    simp only [List.length_cons] at h
    rw [storeBytes, ih _ _ (by omega), spFind_storeByte_ne _ _ _ (by omega)]

theorem dramDefault_zero {s : State} {a : Nat} (h : (undefDraw s a).isSome = false) : dramDefault s a = 0 := by
  unfold dramDefault
  split
  · next n e => simp [e] at h
  · rfl

/-- A byte outside those stored is as it was. -/
theorem dramByte_dramStore_out (s : State) (a : Nat) (bs : List Byte) (bad : List Nat) {x : Nat} (h : x < a ∨ a + bs.length ≤ x) :
    dramByte (dramStore s a bs bad) x = dramByte s x := by
  have t : tableByte (dramStore s a bs bad) x = tableByte s x := rfl
  have e : dramDefault (dramStore s a bs bad) x = dramDefault s x := rfl
  have d : spFind (dramStore s a bs bad).mep.dram x = spFind s.mep.dram x := by
    show spFind (if _ then _ else _) x = _
    split
    · rfl
    · exact spFind_storeBytes_out _ _ _ _ h
  simp only [dramByte, t, e, d]

theorem getD_storeBytes {und : Nat → Bool} {d : Nat → Byte} (hd : ∀ x, und x = false → d x = 0) (m : Sparse Byte) (a : Nat)
    (bs : List Byte) (i : Nat) (hi : i < bs.length) : (spFind (storeBytes und m a bs) (a + i)).getD (d (a + i)) = bs[i] := by
  induction bs generalizing m a i with
  | nil => simp at hi
  | cons b bs ih =>
    rw [storeBytes]
    cases i with
    | zero =>
      rw [spFind_storeBytes_out _ _ _ _ (Or.inl (by omega))]
      exact getD_storeByte_same und m a b _ (hd a)
    | succ i =>
      have := ih (storeByte und m a b) (a + 1) i (by simpa using hi)
      rw [show a + 1 + i = a + (i + 1) by omega] at this
      simpa using this

/-- A byte stored outside the tables reads as stored. -/
theorem dramByte_dramStore_in (s : State) (a : Nat) (bs : List Byte) (bad : List Nat) (i : Nat) (hi : i < bs.length)
    (ht : tableAt s (a + i) = none) (hs : tableAt s a = none) : dramByte (dramStore s a bs bad) (a + i) = bs[i] := by
  have t : tableByte (dramStore s a bs bad) (a + i) = none := by
    show (tableAt s (a + i)).map _ = none
    rw [ht]; rfl
  have e : dramDefault (dramStore s a bs bad) (a + i) = dramDefault s (a + i) := rfl
  have d : (dramStore s a bs bad).mep.dram = storeBytes (fun x => (undefDraw s x).isSome) s.mep.dram a bs := by
    show (if (tableAt s a).isSome && _ then _ else _) = _
    simp [hs]
  simp only [dramByte, t, e, d, Option.getD_none]
  exact getD_storeBytes (d := dramDefault s) (fun _ h => dramDefault_zero h) s.mep.dram a bs i hi

end Sys2Proof.Machine
end

