-- ==== Sys2Proof/Laws/State.lean ====
section
/-!
SUPPORT. What each shared update of the state leaves alone: one lemma per update and field, and each named update as the update it stands for.
-/

namespace Sys2Proof.Machine

open Sys2Proof

@[simp] theorem setReg_shadow (s : State) (a : Nat) (v : Word) : (setReg s a v).shadow = s.shadow := rfl
@[simp] theorem setReg_clk (s : State) (a : Nat) (v : Word) : (setReg s a v).clk = s.clk := rfl
@[simp] theorem setReg_straps (s : State) (a : Nat) (v : Word) : (setReg s a v).straps = s.straps := rfl
@[simp] theorem setReg_pmu (s : State) (a : Nat) (v : Word) : (setReg s a v).pmu = s.pmu := rfl
@[simp] theorem setReg_lrs (s : State) (a : Nat) (v : Word) : (setReg s a v).lrs = s.lrs := rfl
@[simp] theorem setReg_aon (s : State) (a : Nat) (v : Word) : (setReg s a v).aon = s.aon := rfl
@[simp] theorem setReg_csh (s : State) (a : Nat) (v : Word) : (setReg s a v).csh = s.csh := rfl
@[simp] theorem setReg_hif (s : State) (a : Nat) (v : Word) : (setReg s a v).hif = s.hif := rfl
@[simp] theorem setReg_vfm (s : State) (a : Nat) (v : Word) : (setReg s a v).vfm = s.vfm := rfl
@[simp] theorem setReg_nss (s : State) (a : Nat) (v : Word) : (setReg s a v).nss = s.nss := rfl
@[simp] theorem setReg_zrs (s : State) (a : Nat) (v : Word) : (setReg s a v).zrs = s.zrs := rfl
@[simp] theorem setReg_jrn (s : State) (a : Nat) (v : Word) : (setReg s a v).jrn = s.jrn := rfl
@[simp] theorem setReg_sch (s : State) (a : Nat) (v : Word) : (setReg s a v).sch = s.sch := rfl
@[simp] theorem setReg_bay (s : State) (a : Nat) (v : Word) : (setReg s a v).bay = s.bay := rfl
@[simp] theorem setReg_rch (s : State) (a : Nat) (v : Word) : (setReg s a v).rch = s.rch := rfl
@[simp] theorem setReg_mhm (s : State) (a : Nat) (v : Word) : (setReg s a v).mhm = s.mhm := rfl
@[simp] theorem setReg_age (s : State) (a : Nat) (v : Word) : (setReg s a v).age = s.age := rfl
@[simp] theorem setReg_mep (s : State) (a : Nat) (v : Word) : (setReg s a v).mep = s.mep := rfl
@[simp] theorem setReg_dmc (s : State) (a : Nat) (v : Word) : (setReg s a v).dmc = s.dmc := rfl
@[simp] theorem setReg_sbg (s : State) (a : Nat) (v : Word) : (setReg s a v).sbg = s.sbg := rfl
@[simp] theorem setReg_cph (s : State) (a : Nat) (v : Word) : (setReg s a v).cph = s.cph := rfl
@[simp] theorem setReg_tkr (s : State) (a : Nat) (v : Word) : (setReg s a v).tkr = s.tkr := rfl
@[simp] theorem setReg_otp (s : State) (a : Nat) (v : Word) : (setReg s a v).otp = s.otp := rfl
@[simp] theorem setReg_sec (s : State) (a : Nat) (v : Word) : (setReg s a v).sec = s.sec := rfl
@[simp] theorem setReg_dbg (s : State) (a : Nat) (v : Word) : (setReg s a v).dbg = s.dbg := rfl
@[simp] theorem setReg_spdm (s : State) (a : Nat) (v : Word) : (setReg s a v).spdm = s.spdm := rfl
@[simp] theorem setReg_mi (s : State) (a : Nat) (v : Word) : (setReg s a v).mi = s.mi := rfl
@[simp] theorem setReg_mbx (s : State) (a : Nat) (v : Word) : (setReg s a v).mbx = s.mbx := rfl
@[simp] theorem setReg_slk (s : State) (a : Nat) (v : Word) : (setReg s a v).slk = s.slk := rfl
@[simp] theorem setReg_nor (s : State) (a : Nat) (v : Word) : (setReg s a v).nor = s.nor := rfl
@[simp] theorem setReg_prf (s : State) (a : Nat) (v : Word) : (setReg s a v).prf = s.prf := rfl
@[simp] theorem setReg_pins (s : State) (a : Nat) (v : Word) : (setReg s a v).pins = s.pins := rfl
@[simp] theorem setReg_free (s : State) (a : Nat) (v : Word) : (setReg s a v).free = s.free := rfl
@[simp] theorem setReg_out (s : State) (a : Nat) (v : Word) : (setReg s a v).out = s.out := rfl
@[simp] theorem setReg_pending (s : State) (a : Nat) (v : Word) : (setReg s a v).pending = s.pending := rfl

@[simp] theorem setF_shadow (s : State) (f : Fld) (n : Nat) : (setF s f n).shadow = s.shadow := rfl
@[simp] theorem setF_clk (s : State) (f : Fld) (n : Nat) : (setF s f n).clk = s.clk := rfl
@[simp] theorem setF_straps (s : State) (f : Fld) (n : Nat) : (setF s f n).straps = s.straps := rfl
@[simp] theorem setF_pmu (s : State) (f : Fld) (n : Nat) : (setF s f n).pmu = s.pmu := rfl
@[simp] theorem setF_lrs (s : State) (f : Fld) (n : Nat) : (setF s f n).lrs = s.lrs := rfl
@[simp] theorem setF_aon (s : State) (f : Fld) (n : Nat) : (setF s f n).aon = s.aon := rfl
@[simp] theorem setF_csh (s : State) (f : Fld) (n : Nat) : (setF s f n).csh = s.csh := rfl
@[simp] theorem setF_hif (s : State) (f : Fld) (n : Nat) : (setF s f n).hif = s.hif := rfl
@[simp] theorem setF_vfm (s : State) (f : Fld) (n : Nat) : (setF s f n).vfm = s.vfm := rfl
@[simp] theorem setF_nss (s : State) (f : Fld) (n : Nat) : (setF s f n).nss = s.nss := rfl
@[simp] theorem setF_zrs (s : State) (f : Fld) (n : Nat) : (setF s f n).zrs = s.zrs := rfl
@[simp] theorem setF_jrn (s : State) (f : Fld) (n : Nat) : (setF s f n).jrn = s.jrn := rfl
@[simp] theorem setF_sch (s : State) (f : Fld) (n : Nat) : (setF s f n).sch = s.sch := rfl
@[simp] theorem setF_bay (s : State) (f : Fld) (n : Nat) : (setF s f n).bay = s.bay := rfl
@[simp] theorem setF_rch (s : State) (f : Fld) (n : Nat) : (setF s f n).rch = s.rch := rfl
@[simp] theorem setF_mhm (s : State) (f : Fld) (n : Nat) : (setF s f n).mhm = s.mhm := rfl
@[simp] theorem setF_age (s : State) (f : Fld) (n : Nat) : (setF s f n).age = s.age := rfl
@[simp] theorem setF_mep (s : State) (f : Fld) (n : Nat) : (setF s f n).mep = s.mep := rfl
@[simp] theorem setF_dmc (s : State) (f : Fld) (n : Nat) : (setF s f n).dmc = s.dmc := rfl
@[simp] theorem setF_sbg (s : State) (f : Fld) (n : Nat) : (setF s f n).sbg = s.sbg := rfl
@[simp] theorem setF_cph (s : State) (f : Fld) (n : Nat) : (setF s f n).cph = s.cph := rfl
@[simp] theorem setF_tkr (s : State) (f : Fld) (n : Nat) : (setF s f n).tkr = s.tkr := rfl
@[simp] theorem setF_otp (s : State) (f : Fld) (n : Nat) : (setF s f n).otp = s.otp := rfl
@[simp] theorem setF_sec (s : State) (f : Fld) (n : Nat) : (setF s f n).sec = s.sec := rfl
@[simp] theorem setF_dbg (s : State) (f : Fld) (n : Nat) : (setF s f n).dbg = s.dbg := rfl
@[simp] theorem setF_spdm (s : State) (f : Fld) (n : Nat) : (setF s f n).spdm = s.spdm := rfl
@[simp] theorem setF_mi (s : State) (f : Fld) (n : Nat) : (setF s f n).mi = s.mi := rfl
@[simp] theorem setF_mbx (s : State) (f : Fld) (n : Nat) : (setF s f n).mbx = s.mbx := rfl
@[simp] theorem setF_slk (s : State) (f : Fld) (n : Nat) : (setF s f n).slk = s.slk := rfl
@[simp] theorem setF_nor (s : State) (f : Fld) (n : Nat) : (setF s f n).nor = s.nor := rfl
@[simp] theorem setF_prf (s : State) (f : Fld) (n : Nat) : (setF s f n).prf = s.prf := rfl
@[simp] theorem setF_pins (s : State) (f : Fld) (n : Nat) : (setF s f n).pins = s.pins := rfl
@[simp] theorem setF_free (s : State) (f : Fld) (n : Nat) : (setF s f n).free = s.free := rfl
@[simp] theorem setF_out (s : State) (f : Fld) (n : Nat) : (setF s f n).out = s.out := rfl
@[simp] theorem setF_pending (s : State) (f : Fld) (n : Nat) : (setF s f n).pending = s.pending := rfl

@[simp] theorem emit_regs (s : State) (x : Output) : (emit s x).regs = s.regs := rfl
@[simp] theorem emit_shadow (s : State) (x : Output) : (emit s x).shadow = s.shadow := rfl
@[simp] theorem emit_clk (s : State) (x : Output) : (emit s x).clk = s.clk := rfl
@[simp] theorem emit_straps (s : State) (x : Output) : (emit s x).straps = s.straps := rfl
@[simp] theorem emit_pmu (s : State) (x : Output) : (emit s x).pmu = s.pmu := rfl
@[simp] theorem emit_lrs (s : State) (x : Output) : (emit s x).lrs = s.lrs := rfl
@[simp] theorem emit_aon (s : State) (x : Output) : (emit s x).aon = s.aon := rfl
@[simp] theorem emit_csh (s : State) (x : Output) : (emit s x).csh = s.csh := rfl
@[simp] theorem emit_hif (s : State) (x : Output) : (emit s x).hif = s.hif := rfl
@[simp] theorem emit_vfm (s : State) (x : Output) : (emit s x).vfm = s.vfm := rfl
@[simp] theorem emit_nss (s : State) (x : Output) : (emit s x).nss = s.nss := rfl
@[simp] theorem emit_zrs (s : State) (x : Output) : (emit s x).zrs = s.zrs := rfl
@[simp] theorem emit_jrn (s : State) (x : Output) : (emit s x).jrn = s.jrn := rfl
@[simp] theorem emit_sch (s : State) (x : Output) : (emit s x).sch = s.sch := rfl
@[simp] theorem emit_bay (s : State) (x : Output) : (emit s x).bay = s.bay := rfl
@[simp] theorem emit_rch (s : State) (x : Output) : (emit s x).rch = s.rch := rfl
@[simp] theorem emit_mhm (s : State) (x : Output) : (emit s x).mhm = s.mhm := rfl
@[simp] theorem emit_age (s : State) (x : Output) : (emit s x).age = s.age := rfl
@[simp] theorem emit_mep (s : State) (x : Output) : (emit s x).mep = s.mep := rfl
@[simp] theorem emit_dmc (s : State) (x : Output) : (emit s x).dmc = s.dmc := rfl
@[simp] theorem emit_sbg (s : State) (x : Output) : (emit s x).sbg = s.sbg := rfl
@[simp] theorem emit_cph (s : State) (x : Output) : (emit s x).cph = s.cph := rfl
@[simp] theorem emit_tkr (s : State) (x : Output) : (emit s x).tkr = s.tkr := rfl
@[simp] theorem emit_otp (s : State) (x : Output) : (emit s x).otp = s.otp := rfl
@[simp] theorem emit_sec (s : State) (x : Output) : (emit s x).sec = s.sec := rfl
@[simp] theorem emit_dbg (s : State) (x : Output) : (emit s x).dbg = s.dbg := rfl
@[simp] theorem emit_spdm (s : State) (x : Output) : (emit s x).spdm = s.spdm := rfl
@[simp] theorem emit_mi (s : State) (x : Output) : (emit s x).mi = s.mi := rfl
@[simp] theorem emit_mbx (s : State) (x : Output) : (emit s x).mbx = s.mbx := rfl
@[simp] theorem emit_slk (s : State) (x : Output) : (emit s x).slk = s.slk := rfl
@[simp] theorem emit_nor (s : State) (x : Output) : (emit s x).nor = s.nor := rfl
@[simp] theorem emit_prf (s : State) (x : Output) : (emit s x).prf = s.prf := rfl
@[simp] theorem emit_pins (s : State) (x : Output) : (emit s x).pins = s.pins := rfl
@[simp] theorem emit_free (s : State) (x : Output) : (emit s x).free = s.free := rfl
@[simp] theorem emit_pending (s : State) (x : Output) : (emit s x).pending = s.pending := rfl

@[simp] theorem advance_regs (s : State) (us : Nat) : (advance s us).regs = s.regs := rfl
@[simp] theorem advance_shadow (s : State) (us : Nat) : (advance s us).shadow = s.shadow := rfl
@[simp] theorem advance_straps (s : State) (us : Nat) : (advance s us).straps = s.straps := rfl
@[simp] theorem advance_pmu (s : State) (us : Nat) : (advance s us).pmu = s.pmu := rfl
@[simp] theorem advance_lrs (s : State) (us : Nat) : (advance s us).lrs = s.lrs := rfl
@[simp] theorem advance_aon (s : State) (us : Nat) : (advance s us).aon = s.aon := rfl
@[simp] theorem advance_csh (s : State) (us : Nat) : (advance s us).csh = s.csh := rfl
@[simp] theorem advance_hif (s : State) (us : Nat) : (advance s us).hif = s.hif := rfl
@[simp] theorem advance_vfm (s : State) (us : Nat) : (advance s us).vfm = s.vfm := rfl
@[simp] theorem advance_nss (s : State) (us : Nat) : (advance s us).nss = s.nss := rfl
@[simp] theorem advance_zrs (s : State) (us : Nat) : (advance s us).zrs = s.zrs := rfl
@[simp] theorem advance_jrn (s : State) (us : Nat) : (advance s us).jrn = s.jrn := rfl
@[simp] theorem advance_sch (s : State) (us : Nat) : (advance s us).sch = s.sch := rfl
@[simp] theorem advance_bay (s : State) (us : Nat) : (advance s us).bay = s.bay := rfl
@[simp] theorem advance_rch (s : State) (us : Nat) : (advance s us).rch = s.rch := rfl
@[simp] theorem advance_mhm (s : State) (us : Nat) : (advance s us).mhm = s.mhm := rfl
@[simp] theorem advance_age (s : State) (us : Nat) : (advance s us).age = s.age := rfl
@[simp] theorem advance_mep (s : State) (us : Nat) : (advance s us).mep = s.mep := rfl
@[simp] theorem advance_dmc (s : State) (us : Nat) : (advance s us).dmc = s.dmc := rfl
@[simp] theorem advance_sbg (s : State) (us : Nat) : (advance s us).sbg = s.sbg := rfl
@[simp] theorem advance_cph (s : State) (us : Nat) : (advance s us).cph = s.cph := rfl
@[simp] theorem advance_tkr (s : State) (us : Nat) : (advance s us).tkr = s.tkr := rfl
@[simp] theorem advance_otp (s : State) (us : Nat) : (advance s us).otp = s.otp := rfl
@[simp] theorem advance_sec (s : State) (us : Nat) : (advance s us).sec = s.sec := rfl
@[simp] theorem advance_dbg (s : State) (us : Nat) : (advance s us).dbg = s.dbg := rfl
@[simp] theorem advance_spdm (s : State) (us : Nat) : (advance s us).spdm = s.spdm := rfl
@[simp] theorem advance_mi (s : State) (us : Nat) : (advance s us).mi = s.mi := rfl
@[simp] theorem advance_mbx (s : State) (us : Nat) : (advance s us).mbx = s.mbx := rfl
@[simp] theorem advance_slk (s : State) (us : Nat) : (advance s us).slk = s.slk := rfl
@[simp] theorem advance_nor (s : State) (us : Nat) : (advance s us).nor = s.nor := rfl
@[simp] theorem advance_prf (s : State) (us : Nat) : (advance s us).prf = s.prf := rfl
@[simp] theorem advance_pins (s : State) (us : Nat) : (advance s us).pins = s.pins := rfl
@[simp] theorem advance_free (s : State) (us : Nat) : (advance s us).free = s.free := rfl
@[simp] theorem advance_out (s : State) (us : Nat) : (advance s us).out = s.out := rfl
@[simp] theorem advance_pending (s : State) (us : Nat) : (advance s us).pending = s.pending := rfl

@[simp] theorem putSlot_regs (s : State) (n : Nat) (c : CmdSlot) : (putSlot s n c).regs = s.regs := rfl
@[simp] theorem putSlot_shadow (s : State) (n : Nat) (c : CmdSlot) : (putSlot s n c).shadow = s.shadow := rfl
@[simp] theorem putSlot_clk (s : State) (n : Nat) (c : CmdSlot) : (putSlot s n c).clk = s.clk := rfl
@[simp] theorem putSlot_straps (s : State) (n : Nat) (c : CmdSlot) : (putSlot s n c).straps = s.straps := rfl
@[simp] theorem putSlot_pmu (s : State) (n : Nat) (c : CmdSlot) : (putSlot s n c).pmu = s.pmu := rfl
@[simp] theorem putSlot_lrs (s : State) (n : Nat) (c : CmdSlot) : (putSlot s n c).lrs = s.lrs := rfl
@[simp] theorem putSlot_aon (s : State) (n : Nat) (c : CmdSlot) : (putSlot s n c).aon = s.aon := rfl
@[simp] theorem putSlot_csh (s : State) (n : Nat) (c : CmdSlot) : (putSlot s n c).csh = s.csh := rfl
@[simp] theorem putSlot_vfm (s : State) (n : Nat) (c : CmdSlot) : (putSlot s n c).vfm = s.vfm := rfl
@[simp] theorem putSlot_nss (s : State) (n : Nat) (c : CmdSlot) : (putSlot s n c).nss = s.nss := rfl
@[simp] theorem putSlot_zrs (s : State) (n : Nat) (c : CmdSlot) : (putSlot s n c).zrs = s.zrs := rfl
@[simp] theorem putSlot_jrn (s : State) (n : Nat) (c : CmdSlot) : (putSlot s n c).jrn = s.jrn := rfl
@[simp] theorem putSlot_sch (s : State) (n : Nat) (c : CmdSlot) : (putSlot s n c).sch = s.sch := rfl
@[simp] theorem putSlot_bay (s : State) (n : Nat) (c : CmdSlot) : (putSlot s n c).bay = s.bay := rfl
@[simp] theorem putSlot_rch (s : State) (n : Nat) (c : CmdSlot) : (putSlot s n c).rch = s.rch := rfl
@[simp] theorem putSlot_mhm (s : State) (n : Nat) (c : CmdSlot) : (putSlot s n c).mhm = s.mhm := rfl
@[simp] theorem putSlot_age (s : State) (n : Nat) (c : CmdSlot) : (putSlot s n c).age = s.age := rfl
@[simp] theorem putSlot_mep (s : State) (n : Nat) (c : CmdSlot) : (putSlot s n c).mep = s.mep := rfl
@[simp] theorem putSlot_dmc (s : State) (n : Nat) (c : CmdSlot) : (putSlot s n c).dmc = s.dmc := rfl
@[simp] theorem putSlot_sbg (s : State) (n : Nat) (c : CmdSlot) : (putSlot s n c).sbg = s.sbg := rfl
@[simp] theorem putSlot_cph (s : State) (n : Nat) (c : CmdSlot) : (putSlot s n c).cph = s.cph := rfl
@[simp] theorem putSlot_tkr (s : State) (n : Nat) (c : CmdSlot) : (putSlot s n c).tkr = s.tkr := rfl
@[simp] theorem putSlot_otp (s : State) (n : Nat) (c : CmdSlot) : (putSlot s n c).otp = s.otp := rfl
@[simp] theorem putSlot_sec (s : State) (n : Nat) (c : CmdSlot) : (putSlot s n c).sec = s.sec := rfl
@[simp] theorem putSlot_dbg (s : State) (n : Nat) (c : CmdSlot) : (putSlot s n c).dbg = s.dbg := rfl
@[simp] theorem putSlot_spdm (s : State) (n : Nat) (c : CmdSlot) : (putSlot s n c).spdm = s.spdm := rfl
@[simp] theorem putSlot_mi (s : State) (n : Nat) (c : CmdSlot) : (putSlot s n c).mi = s.mi := rfl
@[simp] theorem putSlot_mbx (s : State) (n : Nat) (c : CmdSlot) : (putSlot s n c).mbx = s.mbx := rfl
@[simp] theorem putSlot_slk (s : State) (n : Nat) (c : CmdSlot) : (putSlot s n c).slk = s.slk := rfl
@[simp] theorem putSlot_nor (s : State) (n : Nat) (c : CmdSlot) : (putSlot s n c).nor = s.nor := rfl
@[simp] theorem putSlot_prf (s : State) (n : Nat) (c : CmdSlot) : (putSlot s n c).prf = s.prf := rfl
@[simp] theorem putSlot_pins (s : State) (n : Nat) (c : CmdSlot) : (putSlot s n c).pins = s.pins := rfl
@[simp] theorem putSlot_free (s : State) (n : Nat) (c : CmdSlot) : (putSlot s n c).free = s.free := rfl
@[simp] theorem putSlot_out (s : State) (n : Nat) (c : CmdSlot) : (putSlot s n c).out = s.out := rfl
@[simp] theorem putSlot_pending (s : State) (n : Nat) (c : CmdSlot) : (putSlot s n c).pending = s.pending := rfl

@[simp] theorem putFunc_regs (s : State) (n : Nat) (x : Func) : (putFunc s n x).regs = s.regs := rfl
@[simp] theorem putFunc_shadow (s : State) (n : Nat) (x : Func) : (putFunc s n x).shadow = s.shadow := rfl
@[simp] theorem putFunc_clk (s : State) (n : Nat) (x : Func) : (putFunc s n x).clk = s.clk := rfl
@[simp] theorem putFunc_straps (s : State) (n : Nat) (x : Func) : (putFunc s n x).straps = s.straps := rfl
@[simp] theorem putFunc_pmu (s : State) (n : Nat) (x : Func) : (putFunc s n x).pmu = s.pmu := rfl
@[simp] theorem putFunc_lrs (s : State) (n : Nat) (x : Func) : (putFunc s n x).lrs = s.lrs := rfl
@[simp] theorem putFunc_aon (s : State) (n : Nat) (x : Func) : (putFunc s n x).aon = s.aon := rfl
@[simp] theorem putFunc_csh (s : State) (n : Nat) (x : Func) : (putFunc s n x).csh = s.csh := rfl
@[simp] theorem putFunc_vfm (s : State) (n : Nat) (x : Func) : (putFunc s n x).vfm = s.vfm := rfl
@[simp] theorem putFunc_nss (s : State) (n : Nat) (x : Func) : (putFunc s n x).nss = s.nss := rfl
@[simp] theorem putFunc_zrs (s : State) (n : Nat) (x : Func) : (putFunc s n x).zrs = s.zrs := rfl
@[simp] theorem putFunc_jrn (s : State) (n : Nat) (x : Func) : (putFunc s n x).jrn = s.jrn := rfl
@[simp] theorem putFunc_sch (s : State) (n : Nat) (x : Func) : (putFunc s n x).sch = s.sch := rfl
@[simp] theorem putFunc_bay (s : State) (n : Nat) (x : Func) : (putFunc s n x).bay = s.bay := rfl
@[simp] theorem putFunc_rch (s : State) (n : Nat) (x : Func) : (putFunc s n x).rch = s.rch := rfl
@[simp] theorem putFunc_mhm (s : State) (n : Nat) (x : Func) : (putFunc s n x).mhm = s.mhm := rfl
@[simp] theorem putFunc_age (s : State) (n : Nat) (x : Func) : (putFunc s n x).age = s.age := rfl
@[simp] theorem putFunc_mep (s : State) (n : Nat) (x : Func) : (putFunc s n x).mep = s.mep := rfl
@[simp] theorem putFunc_dmc (s : State) (n : Nat) (x : Func) : (putFunc s n x).dmc = s.dmc := rfl
@[simp] theorem putFunc_sbg (s : State) (n : Nat) (x : Func) : (putFunc s n x).sbg = s.sbg := rfl
@[simp] theorem putFunc_cph (s : State) (n : Nat) (x : Func) : (putFunc s n x).cph = s.cph := rfl
@[simp] theorem putFunc_tkr (s : State) (n : Nat) (x : Func) : (putFunc s n x).tkr = s.tkr := rfl
@[simp] theorem putFunc_otp (s : State) (n : Nat) (x : Func) : (putFunc s n x).otp = s.otp := rfl
@[simp] theorem putFunc_sec (s : State) (n : Nat) (x : Func) : (putFunc s n x).sec = s.sec := rfl
@[simp] theorem putFunc_dbg (s : State) (n : Nat) (x : Func) : (putFunc s n x).dbg = s.dbg := rfl
@[simp] theorem putFunc_spdm (s : State) (n : Nat) (x : Func) : (putFunc s n x).spdm = s.spdm := rfl
@[simp] theorem putFunc_mi (s : State) (n : Nat) (x : Func) : (putFunc s n x).mi = s.mi := rfl
@[simp] theorem putFunc_mbx (s : State) (n : Nat) (x : Func) : (putFunc s n x).mbx = s.mbx := rfl
@[simp] theorem putFunc_slk (s : State) (n : Nat) (x : Func) : (putFunc s n x).slk = s.slk := rfl
@[simp] theorem putFunc_nor (s : State) (n : Nat) (x : Func) : (putFunc s n x).nor = s.nor := rfl
@[simp] theorem putFunc_prf (s : State) (n : Nat) (x : Func) : (putFunc s n x).prf = s.prf := rfl
@[simp] theorem putFunc_pins (s : State) (n : Nat) (x : Func) : (putFunc s n x).pins = s.pins := rfl
@[simp] theorem putFunc_free (s : State) (n : Nat) (x : Func) : (putFunc s n x).free = s.free := rfl
@[simp] theorem putFunc_out (s : State) (n : Nat) (x : Func) : (putFunc s n x).out = s.out := rfl
@[simp] theorem putFunc_pending (s : State) (n : Nat) (x : Func) : (putFunc s n x).pending = s.pending := rfl

@[simp] theorem putChan_regs (s : State) (n : Nat) (c : Chan) : (putChan s n c).regs = s.regs := rfl
@[simp] theorem putChan_shadow (s : State) (n : Nat) (c : Chan) : (putChan s n c).shadow = s.shadow := rfl
@[simp] theorem putChan_clk (s : State) (n : Nat) (c : Chan) : (putChan s n c).clk = s.clk := rfl
@[simp] theorem putChan_straps (s : State) (n : Nat) (c : Chan) : (putChan s n c).straps = s.straps := rfl
@[simp] theorem putChan_pmu (s : State) (n : Nat) (c : Chan) : (putChan s n c).pmu = s.pmu := rfl
@[simp] theorem putChan_lrs (s : State) (n : Nat) (c : Chan) : (putChan s n c).lrs = s.lrs := rfl
@[simp] theorem putChan_aon (s : State) (n : Nat) (c : Chan) : (putChan s n c).aon = s.aon := rfl
@[simp] theorem putChan_csh (s : State) (n : Nat) (c : Chan) : (putChan s n c).csh = s.csh := rfl
@[simp] theorem putChan_hif (s : State) (n : Nat) (c : Chan) : (putChan s n c).hif = s.hif := rfl
@[simp] theorem putChan_vfm (s : State) (n : Nat) (c : Chan) : (putChan s n c).vfm = s.vfm := rfl
@[simp] theorem putChan_nss (s : State) (n : Nat) (c : Chan) : (putChan s n c).nss = s.nss := rfl
@[simp] theorem putChan_zrs (s : State) (n : Nat) (c : Chan) : (putChan s n c).zrs = s.zrs := rfl
@[simp] theorem putChan_jrn (s : State) (n : Nat) (c : Chan) : (putChan s n c).jrn = s.jrn := rfl
@[simp] theorem putChan_sch (s : State) (n : Nat) (c : Chan) : (putChan s n c).sch = s.sch := rfl
@[simp] theorem putChan_bay (s : State) (n : Nat) (c : Chan) : (putChan s n c).bay = s.bay := rfl
@[simp] theorem putChan_rch (s : State) (n : Nat) (c : Chan) : (putChan s n c).rch = s.rch := rfl
@[simp] theorem putChan_mhm (s : State) (n : Nat) (c : Chan) : (putChan s n c).mhm = s.mhm := rfl
@[simp] theorem putChan_age (s : State) (n : Nat) (c : Chan) : (putChan s n c).age = s.age := rfl
@[simp] theorem putChan_mep (s : State) (n : Nat) (c : Chan) : (putChan s n c).mep = s.mep := rfl
@[simp] theorem putChan_dmc (s : State) (n : Nat) (c : Chan) : (putChan s n c).dmc = s.dmc := rfl
@[simp] theorem putChan_sbg (s : State) (n : Nat) (c : Chan) : (putChan s n c).sbg = s.sbg := rfl
@[simp] theorem putChan_cph (s : State) (n : Nat) (c : Chan) : (putChan s n c).cph = s.cph := rfl
@[simp] theorem putChan_tkr (s : State) (n : Nat) (c : Chan) : (putChan s n c).tkr = s.tkr := rfl
@[simp] theorem putChan_otp (s : State) (n : Nat) (c : Chan) : (putChan s n c).otp = s.otp := rfl
@[simp] theorem putChan_sec (s : State) (n : Nat) (c : Chan) : (putChan s n c).sec = s.sec := rfl
@[simp] theorem putChan_dbg (s : State) (n : Nat) (c : Chan) : (putChan s n c).dbg = s.dbg := rfl
@[simp] theorem putChan_spdm (s : State) (n : Nat) (c : Chan) : (putChan s n c).spdm = s.spdm := rfl
@[simp] theorem putChan_mi (s : State) (n : Nat) (c : Chan) : (putChan s n c).mi = s.mi := rfl
@[simp] theorem putChan_slk (s : State) (n : Nat) (c : Chan) : (putChan s n c).slk = s.slk := rfl
@[simp] theorem putChan_nor (s : State) (n : Nat) (c : Chan) : (putChan s n c).nor = s.nor := rfl
@[simp] theorem putChan_prf (s : State) (n : Nat) (c : Chan) : (putChan s n c).prf = s.prf := rfl
@[simp] theorem putChan_pins (s : State) (n : Nat) (c : Chan) : (putChan s n c).pins = s.pins := rfl
@[simp] theorem putChan_free (s : State) (n : Nat) (c : Chan) : (putChan s n c).free = s.free := rfl
@[simp] theorem putChan_out (s : State) (n : Nat) (c : Chan) : (putChan s n c).out = s.out := rfl
@[simp] theorem putChan_pending (s : State) (n : Nat) (c : Chan) : (putChan s n c).pending = s.pending := rfl

@[simp] theorem putPort_regs (s : State) (p : Nat) (x : Port) : (putPort s p x).regs = s.regs := rfl
@[simp] theorem putPort_shadow (s : State) (p : Nat) (x : Port) : (putPort s p x).shadow = s.shadow := rfl
@[simp] theorem putPort_clk (s : State) (p : Nat) (x : Port) : (putPort s p x).clk = s.clk := rfl
@[simp] theorem putPort_straps (s : State) (p : Nat) (x : Port) : (putPort s p x).straps = s.straps := rfl
@[simp] theorem putPort_pmu (s : State) (p : Nat) (x : Port) : (putPort s p x).pmu = s.pmu := rfl
@[simp] theorem putPort_lrs (s : State) (p : Nat) (x : Port) : (putPort s p x).lrs = s.lrs := rfl
@[simp] theorem putPort_aon (s : State) (p : Nat) (x : Port) : (putPort s p x).aon = s.aon := rfl
@[simp] theorem putPort_csh (s : State) (p : Nat) (x : Port) : (putPort s p x).csh = s.csh := rfl
@[simp] theorem putPort_hif (s : State) (p : Nat) (x : Port) : (putPort s p x).hif = s.hif := rfl
@[simp] theorem putPort_vfm (s : State) (p : Nat) (x : Port) : (putPort s p x).vfm = s.vfm := rfl
@[simp] theorem putPort_nss (s : State) (p : Nat) (x : Port) : (putPort s p x).nss = s.nss := rfl
@[simp] theorem putPort_zrs (s : State) (p : Nat) (x : Port) : (putPort s p x).zrs = s.zrs := rfl
@[simp] theorem putPort_jrn (s : State) (p : Nat) (x : Port) : (putPort s p x).jrn = s.jrn := rfl
@[simp] theorem putPort_sch (s : State) (p : Nat) (x : Port) : (putPort s p x).sch = s.sch := rfl
@[simp] theorem putPort_bay (s : State) (p : Nat) (x : Port) : (putPort s p x).bay = s.bay := rfl
@[simp] theorem putPort_rch (s : State) (p : Nat) (x : Port) : (putPort s p x).rch = s.rch := rfl
@[simp] theorem putPort_mhm (s : State) (p : Nat) (x : Port) : (putPort s p x).mhm = s.mhm := rfl
@[simp] theorem putPort_age (s : State) (p : Nat) (x : Port) : (putPort s p x).age = s.age := rfl
@[simp] theorem putPort_mep (s : State) (p : Nat) (x : Port) : (putPort s p x).mep = s.mep := rfl
@[simp] theorem putPort_dmc (s : State) (p : Nat) (x : Port) : (putPort s p x).dmc = s.dmc := rfl
@[simp] theorem putPort_sbg (s : State) (p : Nat) (x : Port) : (putPort s p x).sbg = s.sbg := rfl
@[simp] theorem putPort_cph (s : State) (p : Nat) (x : Port) : (putPort s p x).cph = s.cph := rfl
@[simp] theorem putPort_tkr (s : State) (p : Nat) (x : Port) : (putPort s p x).tkr = s.tkr := rfl
@[simp] theorem putPort_otp (s : State) (p : Nat) (x : Port) : (putPort s p x).otp = s.otp := rfl
@[simp] theorem putPort_sec (s : State) (p : Nat) (x : Port) : (putPort s p x).sec = s.sec := rfl
@[simp] theorem putPort_dbg (s : State) (p : Nat) (x : Port) : (putPort s p x).dbg = s.dbg := rfl
@[simp] theorem putPort_spdm (s : State) (p : Nat) (x : Port) : (putPort s p x).spdm = s.spdm := rfl
@[simp] theorem putPort_mi (s : State) (p : Nat) (x : Port) : (putPort s p x).mi = s.mi := rfl
@[simp] theorem putPort_mbx (s : State) (p : Nat) (x : Port) : (putPort s p x).mbx = s.mbx := rfl
@[simp] theorem putPort_nor (s : State) (p : Nat) (x : Port) : (putPort s p x).nor = s.nor := rfl
@[simp] theorem putPort_prf (s : State) (p : Nat) (x : Port) : (putPort s p x).prf = s.prf := rfl
@[simp] theorem putPort_pins (s : State) (p : Nat) (x : Port) : (putPort s p x).pins = s.pins := rfl
@[simp] theorem putPort_free (s : State) (p : Nat) (x : Port) : (putPort s p x).free = s.free := rfl
@[simp] theorem putPort_out (s : State) (p : Nat) (x : Port) : (putPort s p x).out = s.out := rfl
@[simp] theorem putPort_pending (s : State) (p : Nat) (x : Port) : (putPort s p x).pending = s.pending := rfl

@[simp] theorem putPeer_regs (s : State) (d : Nat) (x : Peer) : (putPeer s d x).regs = s.regs := rfl
@[simp] theorem putPeer_shadow (s : State) (d : Nat) (x : Peer) : (putPeer s d x).shadow = s.shadow := rfl
@[simp] theorem putPeer_clk (s : State) (d : Nat) (x : Peer) : (putPeer s d x).clk = s.clk := rfl
@[simp] theorem putPeer_straps (s : State) (d : Nat) (x : Peer) : (putPeer s d x).straps = s.straps := rfl
@[simp] theorem putPeer_pmu (s : State) (d : Nat) (x : Peer) : (putPeer s d x).pmu = s.pmu := rfl
@[simp] theorem putPeer_lrs (s : State) (d : Nat) (x : Peer) : (putPeer s d x).lrs = s.lrs := rfl
@[simp] theorem putPeer_aon (s : State) (d : Nat) (x : Peer) : (putPeer s d x).aon = s.aon := rfl
@[simp] theorem putPeer_csh (s : State) (d : Nat) (x : Peer) : (putPeer s d x).csh = s.csh := rfl
@[simp] theorem putPeer_hif (s : State) (d : Nat) (x : Peer) : (putPeer s d x).hif = s.hif := rfl
@[simp] theorem putPeer_vfm (s : State) (d : Nat) (x : Peer) : (putPeer s d x).vfm = s.vfm := rfl
@[simp] theorem putPeer_nss (s : State) (d : Nat) (x : Peer) : (putPeer s d x).nss = s.nss := rfl
@[simp] theorem putPeer_zrs (s : State) (d : Nat) (x : Peer) : (putPeer s d x).zrs = s.zrs := rfl
@[simp] theorem putPeer_jrn (s : State) (d : Nat) (x : Peer) : (putPeer s d x).jrn = s.jrn := rfl
@[simp] theorem putPeer_sch (s : State) (d : Nat) (x : Peer) : (putPeer s d x).sch = s.sch := rfl
@[simp] theorem putPeer_bay (s : State) (d : Nat) (x : Peer) : (putPeer s d x).bay = s.bay := rfl
@[simp] theorem putPeer_rch (s : State) (d : Nat) (x : Peer) : (putPeer s d x).rch = s.rch := rfl
@[simp] theorem putPeer_mhm (s : State) (d : Nat) (x : Peer) : (putPeer s d x).mhm = s.mhm := rfl
@[simp] theorem putPeer_age (s : State) (d : Nat) (x : Peer) : (putPeer s d x).age = s.age := rfl
@[simp] theorem putPeer_mep (s : State) (d : Nat) (x : Peer) : (putPeer s d x).mep = s.mep := rfl
@[simp] theorem putPeer_dmc (s : State) (d : Nat) (x : Peer) : (putPeer s d x).dmc = s.dmc := rfl
@[simp] theorem putPeer_sbg (s : State) (d : Nat) (x : Peer) : (putPeer s d x).sbg = s.sbg := rfl
@[simp] theorem putPeer_cph (s : State) (d : Nat) (x : Peer) : (putPeer s d x).cph = s.cph := rfl
@[simp] theorem putPeer_tkr (s : State) (d : Nat) (x : Peer) : (putPeer s d x).tkr = s.tkr := rfl
@[simp] theorem putPeer_otp (s : State) (d : Nat) (x : Peer) : (putPeer s d x).otp = s.otp := rfl
@[simp] theorem putPeer_sec (s : State) (d : Nat) (x : Peer) : (putPeer s d x).sec = s.sec := rfl
@[simp] theorem putPeer_dbg (s : State) (d : Nat) (x : Peer) : (putPeer s d x).dbg = s.dbg := rfl
@[simp] theorem putPeer_spdm (s : State) (d : Nat) (x : Peer) : (putPeer s d x).spdm = s.spdm := rfl
@[simp] theorem putPeer_mi (s : State) (d : Nat) (x : Peer) : (putPeer s d x).mi = s.mi := rfl
@[simp] theorem putPeer_mbx (s : State) (d : Nat) (x : Peer) : (putPeer s d x).mbx = s.mbx := rfl
@[simp] theorem putPeer_nor (s : State) (d : Nat) (x : Peer) : (putPeer s d x).nor = s.nor := rfl
@[simp] theorem putPeer_prf (s : State) (d : Nat) (x : Peer) : (putPeer s d x).prf = s.prf := rfl
@[simp] theorem putPeer_pins (s : State) (d : Nat) (x : Peer) : (putPeer s d x).pins = s.pins := rfl
@[simp] theorem putPeer_free (s : State) (d : Nat) (x : Peer) : (putPeer s d x).free = s.free := rfl
@[simp] theorem putPeer_out (s : State) (d : Nat) (x : Peer) : (putPeer s d x).out = s.out := rfl
@[simp] theorem putPeer_pending (s : State) (d : Nat) (x : Peer) : (putPeer s d x).pending = s.pending := rfl

@[simp] theorem journal_regs (s : State) (r : JRec) : (journal s r).regs = s.regs := rfl
@[simp] theorem journal_shadow (s : State) (r : JRec) : (journal s r).shadow = s.shadow := rfl
@[simp] theorem journal_clk (s : State) (r : JRec) : (journal s r).clk = s.clk := rfl
@[simp] theorem journal_straps (s : State) (r : JRec) : (journal s r).straps = s.straps := rfl
@[simp] theorem journal_pmu (s : State) (r : JRec) : (journal s r).pmu = s.pmu := rfl
@[simp] theorem journal_lrs (s : State) (r : JRec) : (journal s r).lrs = s.lrs := rfl
@[simp] theorem journal_aon (s : State) (r : JRec) : (journal s r).aon = s.aon := rfl
@[simp] theorem journal_csh (s : State) (r : JRec) : (journal s r).csh = s.csh := rfl
@[simp] theorem journal_hif (s : State) (r : JRec) : (journal s r).hif = s.hif := rfl
@[simp] theorem journal_vfm (s : State) (r : JRec) : (journal s r).vfm = s.vfm := rfl
@[simp] theorem journal_nss (s : State) (r : JRec) : (journal s r).nss = s.nss := rfl
@[simp] theorem journal_zrs (s : State) (r : JRec) : (journal s r).zrs = s.zrs := rfl
@[simp] theorem journal_sch (s : State) (r : JRec) : (journal s r).sch = s.sch := rfl
@[simp] theorem journal_bay (s : State) (r : JRec) : (journal s r).bay = s.bay := rfl
@[simp] theorem journal_rch (s : State) (r : JRec) : (journal s r).rch = s.rch := rfl
@[simp] theorem journal_mhm (s : State) (r : JRec) : (journal s r).mhm = s.mhm := rfl
@[simp] theorem journal_age (s : State) (r : JRec) : (journal s r).age = s.age := rfl
@[simp] theorem journal_mep (s : State) (r : JRec) : (journal s r).mep = s.mep := rfl
@[simp] theorem journal_dmc (s : State) (r : JRec) : (journal s r).dmc = s.dmc := rfl
@[simp] theorem journal_sbg (s : State) (r : JRec) : (journal s r).sbg = s.sbg := rfl
@[simp] theorem journal_cph (s : State) (r : JRec) : (journal s r).cph = s.cph := rfl
@[simp] theorem journal_tkr (s : State) (r : JRec) : (journal s r).tkr = s.tkr := rfl
@[simp] theorem journal_otp (s : State) (r : JRec) : (journal s r).otp = s.otp := rfl
@[simp] theorem journal_sec (s : State) (r : JRec) : (journal s r).sec = s.sec := rfl
@[simp] theorem journal_dbg (s : State) (r : JRec) : (journal s r).dbg = s.dbg := rfl
@[simp] theorem journal_spdm (s : State) (r : JRec) : (journal s r).spdm = s.spdm := rfl
@[simp] theorem journal_mi (s : State) (r : JRec) : (journal s r).mi = s.mi := rfl
@[simp] theorem journal_mbx (s : State) (r : JRec) : (journal s r).mbx = s.mbx := rfl
@[simp] theorem journal_slk (s : State) (r : JRec) : (journal s r).slk = s.slk := rfl
@[simp] theorem journal_nor (s : State) (r : JRec) : (journal s r).nor = s.nor := rfl
@[simp] theorem journal_prf (s : State) (r : JRec) : (journal s r).prf = s.prf := rfl
@[simp] theorem journal_pins (s : State) (r : JRec) : (journal s r).pins = s.pins := rfl
@[simp] theorem journal_free (s : State) (r : JRec) : (journal s r).free = s.free := rfl
@[simp] theorem journal_out (s : State) (r : JRec) : (journal s r).out = s.out := rfl
@[simp] theorem journal_pending (s : State) (r : JRec) : (journal s r).pending = s.pending := rfl

@[simp] theorem setBit_eq (s : State) (f : Fld) : setBit s f = setF s f 1 := rfl
@[simp] theorem clrF_eq (s : State) (f : Fld) : clrF s f = setF s f 0 := rfl
@[simp] theorem incSat_eq (s : State) (f : Fld) (k : Nat) :
    incSat s f k = setF s f (min (getF s f + k) (2 ^ (f.hi + 1 - f.lo) - 1)) := rfl
@[simp] theorem drive_eq (s : State) (p : Pin) (l : Bool) : drive s p l = emit s (.pin p l) := rfl
@[simp] theorem advanceTo_eq (s : State) (t : Nat) : advanceTo s t = advance s (t - s.clk.us) := rfl
@[simp] theorem advanceSch_eq (s : State) (t : Nat) : advanceSch s t = advance s (t - s.clk.sch) := rfl

@[simp] theorem emit_out (s : State) (x : Output) : (emit s x).out = s.out ++ [x] := rfl
@[simp] theorem advance_us (s : State) (n : Nat) : (advance s n).clk.us = s.clk.us + n := rfl
@[simp] theorem journal_waiting (s : State) (r : JRec) : (journal s r).jrn.waiting = s.jrn.waiting ++ [r] := rfl
@[simp] theorem putSlot_slots (s : State) (n : Nat) (c : CmdSlot) : (putSlot s n c).hif.slots = spPut s.hif.slots n c := rfl
@[simp] theorem putFunc_funcs (s : State) (n : Nat) (x : Func) : (putFunc s n x).hif.funcs = spSet noFunc s.hif.funcs n x := rfl

/-- An update that may leave the state as it is keeps what the update keeps. -/
theorem forEach_keeps {α β : Type} (p : State → β) (f : State → α → State) (h : ∀ s x, p (f s x) = p s) (xs : List α) (s : State) :
    p (forEach xs s f) = p s := by
  unfold forEach
  induction xs generalizing s with
  | nil => rfl
  | cons x xs ih => simp [List.foldl, ih, h]

end Sys2Proof.Machine
end

