-- ==== Sys2Proof/Laws/Regs.lean ====
section
/-!
SUPPORT. Laws of the register file: a field reads as it was set, setting one field leaves every other as it was, and the register file keeps its
canonical form.
-/

namespace Sys2Proof.Machine

open Sys2Proof

@[simp] theorem regVal_setReg_same (s : State) (a : Nat) (v : Word) : regVal (setReg s a v) a = v := by
  simp [regVal, setReg]

theorem regVal_setReg_ne (s : State) {a b : Nat} (v : Word) (h : b ≠ a) : regVal (setReg s a v) b = regVal s b := by
  simp [regVal, setReg, spGet_set_ne _ _ _ _ h]

/-- A register depends on the register file alone. -/
theorem regVal_congr {s t : State} (h : t.regs = s.regs) (a : Nat) : regVal t a = regVal s a := by
  simp [regVal, h]

theorem getF_congr {s t : State} (h : t.regs = s.regs) (f : Fld) : getF t f = getF s f := by
  simp [getF, regVal_congr h]

theorem flag_congr {s t : State} (h : t.regs = s.regs) (f : Fld) : flag t f = flag s f := by
  simp [flag, getF_congr h]

/-- Setting a field of one register leaves the fields of every other. -/
theorem getF_setF_addr (s : State) {f g : Fld} (n : Nat) (h : g.addr ≠ f.addr) : getF (setF s f n) g = getF s g := by
  simp [getF, setF, regVal_setReg_ne s _ h]

theorem flag_setF_addr (s : State) {f g : Fld} (n : Nat) (h : g.addr ≠ f.addr) : flag (setF s f n) g = flag s g := by
  simp [flag, getF_setF_addr s n h]

/-- The mask of a field has the bits of the field. -/
theorem fieldMask_getLsbD (hi lo i : Nat) (h : i < 64) : (fieldMask hi lo).getLsbD i = decide (lo ≤ i ∧ i < lo + (hi + 1 - lo)) := by
  simp only [fieldMask, BitVec.getLsbD_ofNat, h, decide_true, Bool.true_and]
  rw [Nat.testBit_mul_two_pow]
  by_cases hl : lo ≤ i
  · simp only [hl, decide_true, Bool.true_and, true_and]
    rw [Nat.testBit_two_pow_sub_one]
    by_cases hh : i - lo < hi + 1 - lo
    · have : i < lo + (hi + 1 - lo) := by omega
      simp [hh, this]
    · have : ¬ i < lo + (hi + 1 - lo) := by omega
      simp [hh, this]
  · simp [hl]

theorem putField_getLsbD (w : Word) (hi lo n i : Nat) (h : i < 64) :
    (putField w hi lo n).getLsbD i =
      if lo ≤ i ∧ i < lo + (hi + 1 - lo) then n.testBit (i - lo) else w.getLsbD i := by
  simp only [putField, BitVec.getLsbD_or, BitVec.getLsbD_and, BitVec.getLsbD_not, h, decide_true, Bool.true_and,
    fieldMask_getLsbD hi lo i h, BitVec.getLsbD_ofNat, Nat.testBit_mul_two_pow]
  by_cases hl : lo ≤ i ∧ i < lo + (hi + 1 - lo)
  · simp [hl]
  · simp [hl]

theorem field_testBit (w hi lo i : Nat) : (field w hi lo).testBit i = (decide (i < hi + 1 - lo) && w.testBit (lo + i)) := by
  simp only [field, Nat.testBit_mod_two_pow, Nat.testBit_div_two_pow]
  rw [Nat.add_comm i lo]

/-- A field reads as it was set, as far as its width goes. -/
theorem getF_setF_same (s : State) (f : Fld) (n : Nat) (hw : f.hi < 64) (hl : f.lo ≤ f.hi) :
    getF (setF s f n) f = n % 2 ^ (f.hi + 1 - f.lo) := by
  simp only [getF, setF, regVal_setReg_same]
  apply Nat.eq_of_testBit_eq
  intro i
  rw [field_testBit, Nat.testBit_mod_two_pow]
  by_cases hi : i < f.hi + 1 - f.lo
  · have h64 : f.lo + i < 64 := by omega
    have := putField_getLsbD (regVal s f.addr) f.hi f.lo n (f.lo + i) h64
    simp only [BitVec.getLsbD] at this
    rw [this]
    have c : f.lo ≤ f.lo + i ∧ f.lo + i < f.lo + (f.hi + 1 - f.lo) := by omega
    simp [hi, c]
  · simp [hi]

/-- Setting a field leaves every field of its register that shares no bit with it. -/
theorem getF_setF_bits (s : State) {f g : Fld} (n : Nat) (ha : g.addr = f.addr) (hg : g.hi < 64)
    (hd : g.hi < f.lo ∨ f.hi < g.lo) : getF (setF s f n) g = getF s g := by
  simp only [getF, setF, ha, regVal_setReg_same]
  apply Nat.eq_of_testBit_eq
  intro i
  rw [field_testBit, field_testBit]
  by_cases hi : i < g.hi + 1 - g.lo
  · have h64 : g.lo + i < 64 := by omega
    have := putField_getLsbD (regVal s f.addr) f.hi f.lo n (g.lo + i) h64
    simp only [BitVec.getLsbD] at this
    rw [this]
    have c : ¬ (f.lo ≤ g.lo + i ∧ g.lo + i < f.lo + (f.hi + 1 - f.lo)) := by omega
    simp [hi, c]
  · simp [hi]

/-- Setting a register keeps the register file canonical. -/
theorem regs_wf_setReg (s : State) (a : Nat) (v : Word) (h : spWf regReset s.regs = true) :
    spWf regReset (setReg s a v).regs = true := spWf_set regReset a v h

theorem regs_wf_setF (s : State) (f : Fld) (n : Nat) (h : spWf regReset s.regs = true) :
    spWf regReset (setF s f n).regs = true := regs_wf_setReg s _ _ h

end Sys2Proof.Machine
end

