-- ==== Sys2Proof/Laws/Settle.lean ====
section
/-!
SUPPORT. What every command shares: the outcome of `effect`, and what bringing the derived state up to date leaves alone.
-/

namespace Sys2Proof.Machine

open Sys2Proof

@[simp] theorem settle_shadow (s : State) : (settle s).shadow = s.shadow := by
  simp only [settle, settleLanes, settleAlert]; split <;> rfl

@[simp] theorem settle_clk (s : State) : (settle s).clk = s.clk := by
  simp only [settle, settleLanes, settleAlert]; split <;> rfl

@[simp] theorem settle_straps (s : State) : (settle s).straps = s.straps := by
  simp only [settle, settleLanes, settleAlert]; split <;> rfl

@[simp] theorem settle_pmu (s : State) : (settle s).pmu = s.pmu := by
  simp only [settle, settleLanes, settleAlert]; split <;> rfl

@[simp] theorem settle_lrs (s : State) : (settle s).lrs = s.lrs := by
  simp only [settle, settleLanes, settleAlert]; split <;> rfl

@[simp] theorem settle_aon (s : State) : (settle s).aon = s.aon := by
  simp only [settle, settleLanes, settleAlert]; split <;> rfl

@[simp] theorem settle_csh (s : State) : (settle s).csh = s.csh := by
  simp only [settle, settleLanes, settleAlert]; split <;> rfl

@[simp] theorem settle_hif (s : State) : (settle s).hif = s.hif := by
  simp only [settle, settleLanes, settleAlert]; split <;> rfl

@[simp] theorem settle_vfm (s : State) : (settle s).vfm = s.vfm := by
  simp only [settle, settleLanes, settleAlert]; split <;> rfl

@[simp] theorem settle_nss (s : State) : (settle s).nss = s.nss := by
  simp only [settle, settleLanes, settleAlert]; split <;> rfl

@[simp] theorem settle_zrs (s : State) : (settle s).zrs = s.zrs := by
  simp only [settle, settleLanes, settleAlert]; split <;> rfl

@[simp] theorem settle_jrn (s : State) : (settle s).jrn = s.jrn := by
  simp only [settle, settleLanes, settleAlert]; split <;> rfl

@[simp] theorem settle_sch (s : State) : (settle s).sch = s.sch := by
  simp only [settle, settleLanes, settleAlert]; split <;> rfl

@[simp] theorem settle_rch (s : State) : (settle s).rch = s.rch := by
  simp only [settle, settleLanes, settleAlert]; split <;> rfl

@[simp] theorem settle_mhm (s : State) : (settle s).mhm = s.mhm := by
  simp only [settle, settleLanes, settleAlert]; split <;> rfl

@[simp] theorem settle_age (s : State) : (settle s).age = s.age := by
  simp only [settle, settleLanes, settleAlert]; split <;> rfl

@[simp] theorem settle_mep (s : State) : (settle s).mep = s.mep := by
  simp only [settle, settleLanes, settleAlert]; split <;> rfl

@[simp] theorem settle_dmc (s : State) : (settle s).dmc = s.dmc := by
  simp only [settle, settleLanes, settleAlert]; split <;> rfl

@[simp] theorem settle_sbg (s : State) : (settle s).sbg = s.sbg := by
  simp only [settle, settleLanes, settleAlert]; split <;> rfl

@[simp] theorem settle_cph (s : State) : (settle s).cph = s.cph := by
  simp only [settle, settleLanes, settleAlert]; split <;> rfl

@[simp] theorem settle_tkr (s : State) : (settle s).tkr = s.tkr := by
  simp only [settle, settleLanes, settleAlert]; split <;> rfl

@[simp] theorem settle_otp (s : State) : (settle s).otp = s.otp := by
  simp only [settle, settleLanes, settleAlert]; split <;> rfl

@[simp] theorem settle_sec (s : State) : (settle s).sec = s.sec := by
  simp only [settle, settleLanes, settleAlert]; split <;> rfl

@[simp] theorem settle_dbg (s : State) : (settle s).dbg = s.dbg := by
  simp only [settle, settleLanes, settleAlert]; split <;> rfl

@[simp] theorem settle_spdm (s : State) : (settle s).spdm = s.spdm := by
  simp only [settle, settleLanes, settleAlert]; split <;> rfl

@[simp] theorem settle_mi (s : State) : (settle s).mi = s.mi := by
  simp only [settle, settleLanes, settleAlert]; split <;> rfl

@[simp] theorem settle_mbx (s : State) : (settle s).mbx = s.mbx := by
  simp only [settle, settleLanes, settleAlert]; split <;> rfl

@[simp] theorem settle_slk (s : State) : (settle s).slk = s.slk := by
  simp only [settle, settleLanes, settleAlert]; split <;> rfl

@[simp] theorem settle_nor (s : State) : (settle s).nor = s.nor := by
  simp only [settle, settleLanes, settleAlert]; split <;> rfl

@[simp] theorem settle_prf (s : State) : (settle s).prf = s.prf := by
  simp only [settle, settleLanes, settleAlert]; split <;> rfl

@[simp] theorem settle_free (s : State) : (settle s).free = s.free := by
  simp only [settle, settleLanes, settleAlert]; split <;> rfl

@[simp] theorem settle_pending (s : State) : (settle s).pending = s.pending := by
  simp only [settle, settleLanes, settleAlert]; split <;> rfl

theorem getF_settleAlert (s : State) (f : Fld) : getF (settleAlert s) f = getF s f := by
  unfold settleAlert; split
  · rfl
  · exact getF_congr rfl f

/-- A register field a settling step sets does not move the fields of the registers outside the settled ones. -/
theorem getF_setF_settled {f g : Fld} (hf : f.addr ∉ settledAddrs) (hg : g.addr ∈ settledAddrs) (s : State) (n : Nat) :
    getF (setF s g n) f = getF s f := getF_setF_addr s n fun e => hf (e ▸ hg)

/-- The fields of the other registers are as they were through the first settling steps. -/
theorem getF_settleFirst (s : State) (f : Fld) (h : f.addr ∉ settledAddrs) :
    getF (settlePeers (settlePmu (settleDbs (settleTkr (settleStaging (settleCsh s)))))) f = getF s f := by
  simp only [settlePeers, settlePmu, settleDbs, settleTkr, settleStaging, settleCsh]
  repeat rw [getF_setF_settled h (by decide)]

/-- The fields of the other registers are as they were through the last settling steps. -/
theorem getF_settleLast (s : State) (f : Fld) (h : f.addr ∉ settledAddrs) :
    getF (settleHealth (settleLc (settleLrs (settleEngines (settleCph (settlePower s)))))) f = getF s f := by
  simp only [settleHealth, settleLc, settleLrs, settleEngines, settleCph, settlePower]
  repeat rw [getF_setF_settled h (by decide)]

/-- A field of another register is as it was. -/
theorem getF_settle (s : State) (f : Fld) (h : f.addr ∉ settledAddrs) : getF (settle s) f = getF s f := by
  have l : ∀ t : State, getF (settleLanes t) f = getF t f := fun t => getF_congr rfl f
  have b : ∀ t : State, getF (settleBays t) f = getF t f := fun t => getF_congr rfl f
  rw [settle, l, getF_settleAlert, b, getF_settleLast _ _ h, getF_settleFirst _ _ h]

/-- With VDD_AON present a command's effect runs on the state with the last outputs gone, and the derived state follows. -/
theorem effect_on (f : State → State) {s : State} (h : s.pmu.off = false) : effect f s = .next (settle (f { s with out := [] })) := by
  simp [effect, h]

theorem effectIn_on (d : Domain) (f : State → State) {s : State} (h : s.pmu.off = false) (hd : domainOn s d = true) :
    effectIn d f s = .next (settle (f { s with out := [] })) := by
  have e : domainOn { s with out := [] } d = true := hd
  simp [effectIn, effect, h, e]

/-- In OFF a command changes nothing but the outputs. -/
theorem effect_off (f : State → State) {s : State} (h : s.pmu.off = true) : effect f s = .next { s with out := [] } := by
  simp [effect, h]

/-- A bay is as it was but for the moment its queues were last busy. -/
theorem settle_bayOf (s : State) (b : Nat) : { bayOf (settle s) b with emptySince := 0 } = { bayOf s b with emptySince := 0 } := by
  have g : ∃ u : Nat → Bay → Bay, (∀ k x, { u k x with emptySince := 0 } = { x with emptySince := 0 }) ∧
      (settle s).bay.bays = spMap s.bay.bays u := by
    obtain ⟨x, hx, hs⟩ : ∃ x : State, x.bay = s.bay ∧ (settle s).bay = (settleBays x).bay := by
      refine ⟨settleHealth (settleLc (settleLrs (settleEngines (settleCph (settlePower (settlePeers (settlePmu (settleDbs (settleTkr
        (settleStaging (settleCsh s))))))))))), rfl, ?_⟩
      simp only [settle, settleLanes, settleAlert]; split <;> rfl
    refine ⟨fun b y => if bayBusy x b then { y with emptySince := x.clk.us } else y, fun k y => ?_, ?_⟩
    · dsimp only; split <;> rfl
    · rw [hs, ← hx]; rfl
  obtain ⟨u, hu, hb⟩ := g
  have h : ∀ m : Sparse Bay, { spGet ⟨.off, 0, false, false, false, 0⟩ (spMap m u) b with emptySince := 0 } =
      { spGet ⟨.off, 0, false, false, false, 0⟩ m b with emptySince := 0 } := by
    intro m
    induction m with
    | nil => rfl
    | cons kv m ih =>
      obtain ⟨k, v⟩ := kv
      simp only [spGet, spMap, List.map, spFind] at ih ⊢
      split
      · exact hu k v
      · exact ih
  unfold bayOf
  rw [hb]
  exact h s.bay.bays

theorem settle_pins (s : State) : { (settle s).pins with shelfAlertLow := false, slkTx := 0, pcieTx := false } =
    { s.pins with shelfAlertLow := false, slkTx := 0, pcieTx := false } := by
  simp only [settle, settleLanes, settleAlert]; split <;> rfl

/-- The outputs of a command are among those after the derived state has followed. -/
theorem mem_settle_out {s : State} {x : Output} (h : x ∈ s.out) : x ∈ (settle s).out := by
  simp only [settle, settleLanes, settleAlert]
  refine List.mem_append_left _ ?_
  split
  · exact h
  · exact List.mem_append_left _ h

/-- A part is as `settle` found it. -/
theorem same_settle (p : Part) (s : State) : p.same s (settle s) := by
  cases p
  case bay =>
    refine ⟨?_, ?_, settle_bayOf s⟩ <;> (simp only [settle, settleLanes, settleAlert]; split <;> rfl)
  case pins => exact settle_pins s
  all_goals simp [Part.same]

theorem same_trans {p : Part} {s t u : State} (h : p.same s t) (k : p.same t u) : p.same s u := by
  cases p
  case bay => exact ⟨k.1.trans h.1, k.2.1.trans h.2.1, fun b => (k.2.2 b).trans (h.2.2 b)⟩
  all_goals exact k.trans h

theorem same_refl (p : Part) (s : State) : p.same s s := by
  cases p
  case bay => exact ⟨rfl, rfl, fun _ => rfl⟩
  all_goals rfl

/-- The frame of what a command does is the frame of the command. -/
theorem only_settle {s x : State} {ps : List Part} {as : List Nat} (h : Only s x ps as) : Only s (settle x) ps as :=
  ⟨fun p hp => same_trans (h.1 p hp) (same_settle p x), fun f ha hs => (getF_settle x f hs).trans (h.2 f ha hs)⟩

theorem only_refl (s : State) (ps : List Part) (as : List Nat) : Only s s ps as := ⟨fun p _ => same_refl p s, fun _ _ _ => rfl⟩

theorem only_trans {s t u : State} {ps qs : List Part} {as bs : List Nat} (h : Only s t ps as) (k : Only t u qs bs) :
    Only s u (ps ++ qs) (as ++ bs) := by
  refine ⟨fun p hp => ?_, fun f ha hs => ?_⟩
  · simp only [List.mem_append, not_or] at hp
    exact same_trans (h.1 p hp.1) (k.1 p hp.2)
  · simp only [List.mem_append, not_or] at ha
    exact (k.2 f ha.2 hs).trans (h.2 f ha.1 hs)

theorem only_mono {s t : State} {ps qs : List Part} {as bs : List Nat} (h : Only s t ps as) (hp : ps ⊆ qs) (ha : as ⊆ bs) : Only s t qs bs :=
  ⟨fun p hq => h.1 p fun hm => hq (hp hm), fun f hb hs => h.2 f (fun hm => hb (ha hm)) hs⟩

/-- Dropping the outputs changes nothing of the state. -/
theorem only_out (s : State) (o : List Output) : Only s { s with out := o } [] [] :=
  ⟨fun p _ => by cases p <;> first | rfl | exact ⟨rfl, rfl, fun _ => rfl⟩, fun _ _ _ => rfl⟩

/-- Setting a register field changes the registers at its address alone. -/
theorem only_setF (s : State) (f : Fld) (n : Nat) : Only s (setF s f n) [] [f.addr] :=
  ⟨fun p _ => by cases p <;> first | rfl | exact ⟨rfl, rfl, fun _ => rfl⟩,
   fun g ha _ => getF_setF_addr s n (by simpa using ha)⟩

theorem only_emit (s : State) (x : Output) : Only s (emit s x) [] [] :=
  ⟨fun p _ => by cases p <;> first | rfl | exact ⟨rfl, rfl, fun _ => rfl⟩, fun _ _ _ => rfl⟩

end Sys2Proof.Machine
end

