-- ==== Sys2Proof/Laws/Finish.lean ====
section
/-!
SUPPORT. What the end of a command does: its slot is free, its completion is posted, and nothing but the host interface changes.
-/

namespace Sys2Proof.Machine

open Sys2Proof

theorem spErase_absent {α : Type} (m : Sparse α) (i : Nat) (h : ∀ kv ∈ m, kv.1 ≠ i) : spErase m i = m := by
  induction m with
  | nil => rfl
  | cons kv m ih =>
    obtain ⟨k, v⟩ := kv
    have hk : i ≠ k := fun e => h (k, v) (by simp) e.symm
    simp only [spErase, if_neg hk]
    rw [ih fun y hy => h y (by simp [hy])]

/-- Freeing the slot of a bare command changes the host interface alone. -/
theorem releaseBuffers_bare {s : State} {n : Nat} {c : CmdSlot} (h : Bare s n c) :
    releaseBuffers (delSlot s n) n c = { s with hif := { s.hif with slots := spErase s.hif.slots n } } := by
  obtain ⟨_, hr, hp, hi, ht, ha, _, hz, _⟩ := h
  have e : delSlot s n = { s with hif := { s.hif with slots := spErase s.hif.slots n } } := by
    unfold delSlot
    have hd : dropAll s.zrs.held n = s.zrs.held := by
      unfold dropAll
      apply List.filter_eq_self.2; intro x hx
      have : x ≠ n := fun e => hz (e ▸ hx)
      simp [this]
    rw [spErase_absent _ _ ha, hd]
    have : s.slk.sentTags.filter (fun x => x.2 != n) = s.slk.sentTags := by
      apply List.filter_eq_self.2; intro x hx; simp [ht x hx]
    rw [this]
  have p0 : s.mep.pool.filter (fun kv => kv.1 / 256 == n) = [] := by
    apply List.filter_eq_nil_iff.2; intro x hx; simp [hp x hx]
  have i0 : s.mep.ingest.filter (fun kv => kv.1 / 256 == n) = [] := by
    apply List.filter_eq_nil_iff.2; intro x hx; simp [hi x hx]
  have p1 : s.mep.pool.filter (fun kv => kv.1 / 256 != n) = s.mep.pool := by
    apply List.filter_eq_self.2; intro x hx; simp [hp x hx]
  have i1 : s.mep.ingest.filter (fun kv => kv.1 / 256 != n) = s.mep.ingest := by
    apply List.filter_eq_self.2; intro x hx; simp [hi x hx]
  rw [e]
  simp only [releaseBuffers, p0, i0, p1, i1, forEach, List.foldl, hr, if_true]

/-- An update that changes the host interface and the outputs alone, and there neither the command slots nor the submission queues. -/
def HostOnly (s t : State) : Prop :=
  ∃ h o, t = { s with hif := h, out := s.out ++ o } ∧ h.slots = s.hif.slots ∧
    ∀ f, (spGet noFunc h.funcs f).sqs = (spGet noFunc s.hif.funcs f).sqs

theorem hostOnly_refl (s : State) : HostOnly s s := ⟨s.hif, [], by simp, rfl, fun _ => rfl⟩

theorem hostOnly_trans {s t u : State} (h : HostOnly s t) (k : HostOnly t u) : HostOnly s u := by
  obtain ⟨a, b, rfl, h1, h2⟩ := h
  obtain ⟨c, d, rfl, k1, k2⟩ := k
  exact ⟨c, b ++ d, by simp [List.append_assoc], k1.trans h1, fun f => (k2 f).trans (h2 f)⟩

theorem hostOnly_hif (s : State) (h : HifState) (h1 : h.slots = s.hif.slots) (h2 : h.funcs = s.hif.funcs) :
    HostOnly s { s with hif := h } := ⟨h, [], by simp, h1, fun f => by rw [h2]⟩

theorem hostOnly_putFunc (s : State) (f : Nat) (x : Func) (h : x.sqs = (funcOf s f).sqs) : HostOnly s (putFunc s f x) := by
  refine ⟨{ s.hif with funcs := spSet noFunc s.hif.funcs f x }, [], by simp [putFunc], rfl, fun g => ?_⟩
  by_cases e : g = f
  · subst e; rw [spGet_set_same]; exact h
  · rw [spGet_set_ne _ _ _ _ e]

theorem hostOnly_emit (s : State) (x : Output) : HostOnly s (emit s x) := ⟨s.hif, [x], rfl, rfl, fun _ => rfl⟩

theorem hostOnly_only {s t : State} (h : HostOnly s t) : Only s t [.hif] [] := by
  obtain ⟨a, b, rfl, _, _⟩ := h
  exact ⟨fun p hp => by cases p <;> first | rfl | exact ⟨rfl, rfl, fun _ => rfl⟩ | simp at hp, fun f _ _ => rfl⟩

theorem hostOnly_out {s t : State} (h : HostOnly s t) {x : Output} (hx : x ∈ s.out) : x ∈ t.out := by
  obtain ⟨a, b, rfl, _, _⟩ := h
  exact List.mem_append_left _ hx

theorem hostOnly_slotOf {s t : State} (h : HostOnly s t) (n : Nat) : slotOf t n = slotOf s n := by
  obtain ⟨a, b, rfl, h1, _⟩ := h
  simp only [slotOf, h1]

theorem hostOnly_sqs {s t : State} (h : HostOnly s t) (f : Nat) : (funcOf t f).sqs = (funcOf s f).sqs := by
  obtain ⟨a, b, rfl, _, h2⟩ := h
  exact h2 f

theorem hostOnly_slk {s t : State} (h : HostOnly s t) : t.slk = s.slk := by
  obtain ⟨a, b, rfl, _, _⟩ := h
  rfl

/-- A choice between two such updates is one. -/
theorem hostOnly_ite {c : Prop} [Decidable c] {s a b : State} (ha : HostOnly s a) (hb : HostOnly s b) : HostOnly s (if c then a else b) := by
  split <;> assumption

theorem hostOnly_sendMsix (s : State) (f v : Nat) : HostOnly s (sendMsix s f v) :=
  hostOnly_ite (hostOnly_refl s) (hostOnly_ite (hostOnly_putFunc s _ _ rfl) (hostOnly_emit s _))

theorem hostOnly_postCqe (s : State) (e : Cqe) : HostOnly s (postCqe s e) := by
  unfold postCqe
  refine hostOnly_ite (hostOnly_emit s _) ?_
  split
  · exact hostOnly_refl s
  · refine hostOnly_ite (hostOnly_hif s _ rfl rfl) ?_
    dsimp only
    split
    · refine hostOnly_trans ?_ (hostOnly_sendMsix _ _ _)
      refine hostOnly_trans ?_ (hostOnly_emit _ _)
      exact hostOnly_putFunc s e.func _ rfl
    · refine hostOnly_trans ?_ (hostOnly_emit _ _)
      exact hostOnly_putFunc s e.func _ rfl

theorem hostOnly_countCompletion (s : State) (c : CmdSlot) (st : Status) : HostOnly s (countCompletion s c st) := by
  unfold countCompletion
  refine hostOnly_ite (hostOnly_refl s) ?_
  extract_lets x k k1 k2 k3
  exact hostOnly_putFunc s _ _ rfl

theorem hostOnly_settleShutdown (s : State) (f : Nat) : HostOnly s (settleShutdown s f) := by
  unfold settleShutdown
  refine hostOnly_ite ?_ (hostOnly_refl s)
  exact hostOnly_putFunc s _ _ rfl

/-- Nothing waits for the deletion of a queue that is not being deleted. -/
theorem settleDeletion_none {s : State} {f qid : Nat} (h : (spFind (funcOf s f).sqs qid).bind SubQ.deleting = none) :
    settleDeletion s f qid = s := by
  unfold settleDeletion
  split
  · next q hq =>
    have : q.deleting = none := by simpa [hq] using h
    rw [this]
  · rfl

/-- Where a completion queue exists and has room, posting puts the completion among the outputs. -/
theorem mem_out_postCqe {s : State} {e : Cqe} {q : CplQ} (hm : e.sqid ≠ miQueue) (hq : spFind (funcOf s e.func).cqs e.cqid = some q)
    (hf : cqFull q = false) : Output.completion e.func e.sqid e.cid e.status e.dnr e.dw0 e.dw1 ∈ (postCqe s e).out := by
  unfold postCqe
  dsimp only
  rw [if_neg hm]
  split
  · next h0 => exact absurd (hq.symm.trans h0) (by simp)
  · next p h0 =>
    have hp : q = p := Option.some.inj (hq.symm.trans h0)
    subst hp
    rw [if_neg (by rw [hf]; exact Bool.false_ne_true : ¬cqFull q = true)]
    have h2 : ∀ u : State, Output.completion e.func e.sqid e.cid e.status e.dnr e.dw0 e.dw1 ∈
        (emit u (.completion e.func e.sqid e.cid e.status e.dnr e.dw0 e.dw1)).out :=
      fun u => List.mem_append_right _ (List.mem_singleton.2 rfl)
    split
    · exact hostOnly_out (hostOnly_sendMsix _ _ _) (h2 _)
    · exact h2 _

theorem funcOf_countCompletion_cqs (s : State) (c : CmdSlot) (st : Status) (f : Nat) :
    (funcOf (countCompletion s c st) f).cqs = (funcOf s f).cqs := by
  unfold countCompletion
  dsimp only
  split
  · rfl
  · simp only [funcOf, putFunc]
    by_cases e : f = c.func
    · subst e; rw [spGet_set_same]
    · rw [spGet_set_ne _ _ _ _ e]

/-- Ending a bare command changes the host interface alone, frees its slot and no other, and posts its completion where it can be. -/
theorem finish_bare {s : State} {n : Nat} {c : CmdSlot} (hs : slotOf s n = some c) (h : Bare s n c) (st : Status) :
    Only s (finish s n st) [.hif] [] ∧ slotOf (finish s n st) n = none ∧ (∀ m, m ≠ n → slotOf (finish s n st) m = slotOf s m) ∧
      (CanPost s n c → Posted (finish s n st) c st c.dw0 c.dw1) := by
  have hb := releaseBuffers_bare h
  have hv := h.1
  have hd := h.2.2.2.2.2.2.1
  have hst := h.2.2.2.2.2.2.2.2
  let s1 : State := { s with hif := { s.hif with slots := spErase s.hif.slots n } }
  let s2 : State := if c.silent then s1 else countCompletion s1 c st
  let s3 : State := if c.silent then s2 else postCqe s2 (cqeOf s2 c st)
  have h12 : HostOnly s1 s2 := hostOnly_ite (hostOnly_refl _) (hostOnly_countCompletion _ _ _)
  have h23 : HostOnly s2 s3 := hostOnly_ite (hostOnly_refl _) (hostOnly_postCqe _ _)
  have hq : (spFind (funcOf s3 c.func).sqs c.sqid).bind SubQ.deleting = none := by
    rw [hostOnly_sqs (hostOnly_trans h12 h23)]; exact hd
  have h4 : HostOnly s1 (settleShutdown s3 c.func) := hostOnly_trans (hostOnly_trans h12 h23) (hostOnly_settleShutdown _ _)
  have e : finish s n st = settleShutdown s3 c.func := by
    unfold finish
    rw [hs]
    dsimp only
    rw [hb]
    have : servedBy s1 n = none := hv
    simp only [s1] at this
    rw [this]
    refine (congrArg (fun u => settleStepDown (settleShutdown u c.func)) (settleDeletion_none hq)).trans ?_
    unfold settleStepDown
    rw [hostOnly_slk h4]
    simp [s1, hst]
  have h3 : HostOnly s1 (finish s n st) := by rw [e]; exact h4
  have h01 : Only s s1 [.hif] [] :=
    ⟨fun p hp => by cases p <;> first | rfl | exact ⟨rfl, rfl, fun _ => rfl⟩ | simp at hp, fun f _ _ => rfl⟩
  refine ⟨only_mono (only_trans h01 (hostOnly_only h3)) (by simp) (by simp), ?_, fun m hm => ?_, ?_⟩
  · rw [hostOnly_slotOf h3]; exact spFind_erase_same _ _
  · rw [hostOnly_slotOf h3]; exact spFind_erase_ne _ hm
  · rintro ⟨_, hsil, hmi, hp⟩
    cases hk : spFind (funcOf s c.func).sqs c.sqid with
    | none => rw [hk] at hp; cases hp
    | some k =>
      rw [hk] at hp
      cases hcq : spFind (funcOf s c.func).cqs k.cqid with
      | none => simp only [Option.bind_some, hcq] at hp; cases hp
      | some q =>
        simp only [Option.bind_some, hcq, Option.any_some, Bool.not_eq_true'] at hp
        refine ⟨statusDnr (isWriteKind c.kind) st, ?_⟩
        rw [e]
        refine hostOnly_out (hostOnly_settleShutdown _ _) ?_
        have hk2 : spFind (funcOf s2 c.func).sqs c.sqid = some k := by rw [hostOnly_sqs h12]; exact hk
        have hc2 : spFind (funcOf s2 c.func).cqs k.cqid = some q := by
          simp only [s2]; rw [hsil]; exact (congrArg (spFind · k.cqid) (funcOf_countCompletion_cqs s1 c st c.func)).trans hcq
        have ec : cqeOf s2 c st = ⟨c.func, k.cqid, c.sqid, c.sqe.cid, st, statusDnr (isWriteKind c.kind) st, c.dw0, c.dw1⟩ := by
          unfold cqeOf; rw [hk2]
        have := mem_out_postCqe (s := s2) (e := cqeOf s2 c st) (by rw [ec]; exact hmi) (by rw [ec]; exact hc2) hp
        simp only [s3]; rw [hsil]; rw [ec] at this ⊢
        exact this

end Sys2Proof.Machine
end

