-- ==== Sys2Proof/Laws/Ldpc.lean ====
section
/-!
SUPPORT. The decoders on the all-zero codeword.
-/

namespace Sys2Proof.Machine

open Sys2Proof

theorem foldl_xor_false (x : Array Bool) (h : ∀ b, x.getD b false = false) (l : List Nat) :
    l.foldl (fun a b => a != x.getD b false) false = false := by
  induction l with
  | nil => rfl
  | cons b l ih => simpa only [List.foldl, h, bne_self_eq_false] using ih

theorem foldl_count (l : List Bool) (n : Nat) (h : ∀ b ∈ l, b = false) : l.foldl (fun n b => if b then n + 1 else n) n = n := by
  induction l with
  | nil => rfl
  | cons b l ih =>
    have := h b (by simp)
    subst this
    simpa using ih fun b hb => h b (by simp [hb])

theorem synWeight_zero (l : List Bool) (h : ∀ b ∈ l, b = false) : synWeight l.toArray = 0 := by
  simp only [synWeight, List.size_toArray, List.foldl_toArray']
  exact foldl_count l 0 h

theorem syndrome_zero (x : Array Bool) (h : ∀ b, x.getD b false = false) : synWeight (syndrome x) = 0 := by
  unfold syndrome
  refine synWeight_zero _ fun b hb => ?_
  obtain ⟨i, _, hb⟩ := List.mem_flatMap.1 hb
  obtain ⟨t, _, rfl⟩ := List.mem_map.1 hb
  exact foldl_xor_false x h _

theorem bytesOfBits_zero (n : Nat) (x : Array Bool) (h : ∀ b, x.getD b false = false) : bytesOfBits n x = List.replicate n 0 := by
  unfold bytesOfBits
  have e : ∀ l : List Nat, ∀ k, l.foldl (fun a i => 2 * a + b2n (x.getD (8 * k + i) false)) 0 = 0 := by
    intro l k
    induction l with
    | nil => rfl
    | cons i l ih => rw [List.foldl_cons, h]; exact ih
  refine List.ext_getElem (by rw [List.length_map, List.length_range, List.length_replicate]) fun i h1 h2 => ?_
  rw [List.getElem_map, e, List.getElem_replicate]
  rfl

theorem bitsOfBytes_zero (n b : Nat) : (bitsOfBytes (List.replicate n 0)).getD b false = false := by
  simp only [bitsOfBytes, Array.getD_eq_getD_getElem?, List.getElem?_toArray]
  cases h : ((List.replicate n (0 : Byte)).flatMap fun b => (List.range 8).map fun i => b.getLsbD (7 - i))[b]? with
  | none => rfl
  | some v =>
    have := List.mem_of_getElem? h
    simp only [List.mem_flatMap, List.mem_map, List.mem_replicate] at this
    obtain ⟨a, ⟨_, rfl⟩, i, _, rfl⟩ := this
    simp

theorem hardRun_zero (m : Array Bool) (n : Nat) (x : Array Bool) (h : ∀ b, x.getD b false = false) : hardRun m n x = some x := by
  cases n <;> simp only [hardRun, syndrome_zero x h, if_true]

/-- The all-zero word is a codeword. -/
theorem hardDecode_zero (n : Nat) (m : Array Bool) : hardDecode n (List.replicate 4960 0) m = some (List.replicate 4960 0, 0) := by
  have h := bitsOfBytes_zero 4960
  have e : ∀ l : List Nat, (l.filter fun _ => false).length = 0 := fun l => by simp
  simp only [hardDecode, hardRun_zero m n _ h, bytesOfBits_zero 4960 _ h, bne_self_eq_false, e]

theorem softCheck_nil (o : Int) (r : Array (List Int)) (c : Nat) : (softCheck o ⟨#[], r⟩ c).q = #[] := by
  simp only [softCheck]
  generalize List.zip _ _ = l
  induction l with
  | nil => rfl
  | cons x l ih => simpa [List.foldl] using ih

theorem softIter_nil (o : Int) (st : SoftState) (h : st.q = #[]) : (softIter o st).q = #[] := by
  unfold softIter
  generalize List.range 6656 = l
  induction l generalizing st with
  | nil => exact h
  | cons c l ih =>
    obtain ⟨q, r⟩ := st
    cases h
    exact ih _ (softCheck_nil o r c)

/-- With no LLR at all every bit is decided 0. -/
theorem softDecode_nil (n o : Nat) : softDecode (n + 1) o #[] = some (List.replicate 4960 0) := by
  have z : ∀ b, (#[] : Array Bool).getD b false = false := fun b => rfl
  have h : ∀ st : SoftState, st.q = #[] → softRun o (n + 1) st = some #[] := by
    intro st hq
    have e : softWord (softIter o st) = #[] := by simp [softWord, softIter_nil o st hq]
    simp only [softRun, e, syndrome_zero _ z, if_true]
  unfold softDecode
  rw [h _ (by simp), Option.map_some, bytesOfBits_zero 4960 _ z]

end Sys2Proof.Machine
end

