-- ==== Sys2Proof/Tests/Slice0.lean ====
section
/-!
SUPPORT. The model's own tests: the well-formedness smoke, the spec's worked examples and published known answers on the definitions that
compute them, and one witness per clause of each statement with hypotheses.
-/

namespace Sys2Proof.Tests

open Sys2Proof Sys2Proof.Machine

set_option Elab.async false
set_option maxRecDepth 1000000

/-- `wfSize` refuses an access of 2 bytes, `below` a master ID of 8 bits and a CSR address of 41 bits. -/
theorem test_wf_csr : Instr.wf (.csrWrite 0x10 0x1000000000 4 0) = true ∧ Instr.wf (.csrWrite 0x10 0x1000000000 2 0) = false ∧
    Instr.wf (.csrWrite 0x80 0x1000000000 4 0) = false ∧ Instr.wf (.csrWrite 0x10 (2 ^ 40) 4 0) = false := by decide +kernel

/-- `wfLength` refuses a flit of 255 bytes. -/
theorem test_wf_flit : Instr.wf (.msgFlitReceive 0 (List.replicate 256 0)) = true ∧
    Instr.wf (.msgFlitReceive 0 (List.replicate 255 0)) = false := by decide +kernel

/-- `allBelow` refuses a list with a master ID of 8 bits. -/
theorem test_wf_masters : Instr.wf (.mbxPartyReset [0x10, 0x7F]) = true ∧ Instr.wf (.mbxPartyReset [0x10, 0x80]) = false := by decide +kernel

/-- `wfSqe` refuses a CID of 17 bits. -/
theorem test_wf_sqe : Instr.wf (.commandFetch [⟨true, 0x06, 65535, 0, 0, 0, 0, 0, 0, 0⟩]) = true ∧
    Instr.wf (.commandFetch [⟨true, 0x06, 65536, 0, 0, 0, 0, 0, 0, 0⟩]) = false := by decide +kernel

/-- Worked example of R42 to R47: SLBA 0x1A6_4AB9, PZN 224,589, one padding extent, die 950. -/
theorem test_stitch_example : slotOfOffset .d6 [⟨100000, 71⟩] 412345 = 416025 ∧ stitch .d6 224589 416025 = ⟨288, 144, 0, 5, 1, 11⟩ ∧
    groupOf 224589 = 54 ∧ blockOf 224589 = 3405 ∧ memberDie 54 11 = 950 := by decide +kernel

theorem test_unstitch_example : slotAt .d6 224589 288 0 5 1 11 = 416025 ∧ offsetOfSlot .d6 [⟨100000, 71⟩] 416025 = 412345 := by decide +kernel

/-- Worked example of R60: the padded D6 zone. -/
theorem test_padding_example : padEnd .d6 100000 = 71 ∧ padLen .d6 ⟨100000, 71⟩ = 3680 ∧ slotOfOffset .d6 [⟨100000, 71⟩] 100000 = 103680 := by
  decide +kernel

/-- Worked example of R107: the Placed Zone Append of 64 blocks. -/
theorem test_pza_example : (let q : Sqe := ⟨false, 0x81, 0, 1, 0x01A00000, 0, 0x3F, 0x4000F605, 0x7D3, 0⟩
    slba q = 0x1A00000 ∧ nlb q = 64 ∧ dclass q = .print ∧ pzaErc q = 3 ∧ pzaGroup q = 54 ∧ pzaGrpValid q = true ∧ pzaAlign q = false ∧
      pzaPadAfter q = true ∧ pzaCoKey q = 0x7D3) := by decide +kernel

/-- The reference descriptor's address shifts of the die's table (R191). -/
def wShifts : State :=
  let s := setF (setF State.reset (F.fchDesc_word 3 8) 0x0B030000) (F.fchDesc_word 3 9) 0x1A0D
  { s with bay := { s.bay with bays := [(3, ⟨.ready, 0, false, false, false, 0⟩)] } }

/-- Worked example of R191: the row address of the codeword on die 950. -/
theorem test_row_example : rowAddr wShifts 950 0 3405 144 5 = 0x9A9A485 := by decide +kernel

/-- Worked example of R349: the Zone State Table entry of PZN 224,589. -/
theorem test_dram_example : dramChannel 0x111B5340 = 5 ∧ physLine 0x111B5340 = 630622 ∧ parityLine 0x111B5340 = 630629 ∧
    bankKey 630622 = 11 ∧ dramCol 630622 = 21 ∧ dramRow 630622 = 1231 ∧ bankKey 630629 = 5 ∧ dramCol 630629 = 22 := by decide +kernel

/-- Worked example of R381: slot 102,105 of zone place 300 of a block with granules 4, 5, 9, 10, 11 and 12. -/
theorem test_staging_example : slotAddr { State.reset with
    zrs := { State.reset.zrs with resv := [(0, ⟨.d6, [(300, 77)]⟩)], zst := [(9, { freshZst with bound := true, tier := .d6, ezn := 77 })] },
    sbg := { State.reset.sbg with granules := [(0, [4, 5, 9, 10, 11, 12])] } } 9 102105 = some 0x743119000 := by decide +kernel

/-- Worked example of R252: the header of host offset 412,347. -/
theorem test_header_example : blockHeader 0 2 412347 4122 7 = 0x0700406992AEC008#64 ∧
    leBytes 8 (blockHeader 0 2 412347 4122 7).toNat ++ leBytes 4 (seqWord 7 0) = [0x08, 0xC0, 0xAE, 0x92, 0x69, 0x40, 0, 7, 7, 0, 0, 0] := by decide +kernel

/-- Worked example of R392: the nonce of that block. -/
theorem test_nonce_example : nonceBytes 0 4122 7 412347 2 = [0x00, 0x04, 0x06, 0x80, 0x00, 0x01, 0xD9, 0x2A, 0xEC, 0x00, 0x80, 0x00] := by decide +kernel

/-- The stored CRC of an entry of zeros is that of its bytes (R78). -/
theorem test_fresh_zst : freshZst.crc = crc32c (zstBytes freshZst) := by decide +kernel

/-- The published check values of CRC-32C and CRC-8 over the digits 1 to 9. -/
theorem test_crc : crc32c (ascii "123456789") = 0xE3069283#32 ∧ crc8 (ascii "123456789") = 0xF4#8 := by decide +kernel

/-- R253: five block rows hold 21 circulants and the others 22, 567 in all. -/
theorem test_ldpc_rows : ((List.range 26).filter fun i => (rowEntries i).length == 21) = [0, 6, 13, 20, 25] ∧
    ((List.range 26).map fun i => (rowEntries i).length).sum = 567 := by decide +kernel

/-- R230, worked examples: 9,000 hours fall in bin 12, 4,022.6 hours in bin 10, 1,236.4 hours in bin 9. -/
theorem test_age_bins : ageBin (some (9000 * 256)) = 12 ∧ ageBin (some 1029786) = 10 ∧ ageBin (some 316518) = 9 := by decide +kernel

/-- Worked example of R234, R236: the bracket widths of D6, and a cell with M = 1. -/
theorem test_bracket_example : bracketWidths State.reset .d6 = [7, 4, 2] ∧ softM false true true = 1 ∧ llrMag State.reset .d6 0 1 = 5 ∧
    llrMag State.reset .d6 2 1 = 4 := by decide +kernel

/-- Worked example of R305: the strip estimate of 2,786.2 hours and the host estimate of 2,599.95 hours agree. -/
theorem test_decision_example : decision 1 (some 713267) (some 2396113920000) = (2, false, 713267) := by decide +kernel

/-- Worked example of R304: 2,600 hours of Timestamps less 13/256 hour of power are 2,599.9 hours. -/
theorem test_host_estimate : (hostEstimate { State.reset with age := { State.reset.age with
    stampLast := some (1700000000000, 10556480), stampNew := some (1709360000000, 10556493) } }).map msToHours = some (2600 * 256 - 13) := by decide +kernel

/-- Worked example of R303: the code -9.909 of D6, bit-page 5, is 2,806.4 hours. -/
theorem test_age_example : effectiveAge (fun a => ttabOf State.reset .d6 a 5) (-436) 44 / 256 = 2806 := by decide +kernel

/-- R625, worked example: the PF's window of CSR 0x10_013B_0218. -/
theorem test_bar_example : barOffset 0x10013B0218 = 0x17B0218 := by decide +kernel

/-- R548, worked example: RD_DATA of 4,132 bytes is 18 flits. -/
theorem test_flits_example : (flitsOf true (List.replicate 4132 0)).length = 18 := by decide +kernel

/-- The published answers of FIPS 180-4 for the message abc: the first bytes of SHA-256 and of SHA-384. -/
theorem test_sha : (sha256 (ascii "abc")).take 4 = [0xBA, 0x78, 0x16, 0xBF] ∧ (sha384 (ascii "abc")).take 4 = [0xCB, 0x00, 0x75, 0x3F] := by decide +kernel

/-- The published answer of FIPS 197 for AES-256 (appendix C.3), and its inverse. -/
theorem test_aes : (let k := (List.range 32).map (BitVec.ofNat 8); let p := (List.range 16).map fun i => BitVec.ofNat 8 (0x11 * i)
    let c : List Byte := [0x8E, 0xA2, 0xB7, 0xCA, 0x51, 0x67, 0x45, 0xBF, 0xEA, 0xFC, 0x49, 0x90, 0x4B, 0x49, 0x60, 0x89]
    aesEncrypt k p = c ∧ aesDecrypt k c = p) := by decide +kernel

/-- The published answer of RFC 3394 for a 256-bit key under a 256-bit key, its first 8 bytes. -/
theorem test_key_wrap : (keyWrap ((List.range 32).map (BitVec.ofNat 8))
    ((List.range 16).map (fun i => BitVec.ofNat 8 (0x11 * i)) ++ (List.range 16).map (BitVec.ofNat 8))).take 8 =
    [0x28, 0xC9, 0xF4, 0x04, 0xC4, 0xB8, 0x10, 0xF4] := by decide +kernel

/-- The base points lie on their curves, and their orders are those of the groups (FIPS 186-5, SP 800-186). -/
theorem test_curves : onCurve p256 p256.gx p256.gy = true ∧ ecTimes p256 (p256.n - 1) (p256.gx, p256.gy) = some (p256.gx, p256.p - p256.gy) ∧
    onCurve p384 p384.gx p384.gy = true ∧ ecTimes p384 (p384.n - 1) (p384.gx, p384.gy) = some (p384.gx, p384.p - p384.gy) := by decide +kernel

def wReg (a : Nat) : RegDef := ((regAt a).getD (⟨"", 0, [], false, false, [], []⟩, 0)).1

def w0 : State := State.reset

def wOff : State := { State.reset with pmu := { State.reset.pmu with on := [.sec, .host, .dmc] } }

def wFunc : Func := { noFunc with
  regs := ⟨0x460001#32, 0, 0, 0, true, false, 0⟩,
  sqs := [(0, ⟨0x1000, 15, 0, 0, 0, none⟩), (1, ⟨0x2000, 15, 14, 2, 1, none⟩)],
  cqs := [(0, ⟨0x3000, 15, 0, 0, true, 0, false⟩), (1, ⟨0x4000, 15, 0, 3, true, 0, false⟩)] }

def wHost : State :=
  { putFunc State.reset 0 wFunc with hif := { (putFunc State.reset 0 wFunc).hif with fetchStopped := false, admissionStopped := false } }

def wHostOff : State := { wHost with pmu := { wHost.pmu with on := [.sec, .host, .dmc] } }

def wSqe (adm : Bool) (o : Byte) (nsid : Nat) (d10 d11 d12 d13 : DWord) : Sqe := ⟨adm, o, 7, nsid, d10, d11, d12, d13, 0, 0⟩

def wSlot (q : Sqe) : CmdSlot := freshSlot wHost 0 (if q.admin then 0 else 1) q

def wIn (s : State) (q : Sqe) : State := putSlot s 0 (wSlot q)

def wHost3 : State := wIn wHost (wSqe true 0x08 0 0x00070001 0 0 0)

def wNs : Namespace := ⟨0, 4, .d4, 8, 8, some 0, 0, none⟩

def wNss : Sparse Namespace := [(1, wNs), (2, ⟨10, 2, .d5, 4, 4, none, 0, none⟩)]

def wVf : State :=
  let s := setShares { wHost with vfm := { wHost.vfm with vfEnable := true, numVfs := 2, vfEnableWritten := true, numVfsWritten := 2 }, nss := wNss } 2
  putFunc s 1 { noFunc with stop := ⟨false, true, false, false, false⟩ }

def wVfQuiet : State := { wVf with tkr := { wVf.tkr with slots := [(4097, 5#256)] } }

def wFrozen : State := putFunc wVfQuiet 1 { noFunc with stop := ⟨false, true, true, false, false⟩ }

def wTiny : State :=
  let s := setF (setF wFrozen F.vfmShare_qp 1) F.vfmShare_vec 1
  { s with nss := [] }

def wImage : List Byte :=
  let b := imageHeader wTiny 9 1 1 0 false (leBytes 12 77) ++ imageController noFunc ++ imageQueue noFunc 1 ++ imageVector noFunc 0 ++ leBytes 32 0 ++ statsPage noFunc
  b ++ gcmTag (beBytes 32 5) (leBytes 12 77) b []

def wStopped : State := putFunc wTiny 1 { noFunc with stop := ⟨false, true, false, false, false⟩ }

def wZst : ZstEntry := sealedZst ⟨3, true, .explicitlyOpened, false, .d5, 0, 0, 0, 8, 8, 0, 0, 7, 7, [], [], 0, false, 0⟩

def wDescHead : List Byte :=
  leBytes 4 0x64084444 ++ leBytes 2 1 ++ leBytes 2 256 ++ [0x2C, 0x7B, 0, 0, 0, 0, 0, 2] ++ [4, 1, 1, 8] ++ leBytes 2 256 ++ leBytes 2 4096 ++ leBytes 4 40960 ++ [7, 0] ++
    leBytes 2 2400 ++ [5, 0, 3, 11, 13, 26] ++ List.replicate 74 0 ++ (List.range 13).flatMap (fun i => leBytes 4 (i + 1)) ++ List.replicate 28 0 ++ leBytes 2 1000 ++ leBytes 2 1000 ++ leBytes 2 1000 ++ List.replicate 54 0

def wDescBytes : List Byte := wDescHead ++ leBytes 4 (crc32c wDescHead).toNat

def wDescIn (s : State) (b : Nat) : State := forEach (List.range 64) s fun s i => setF s (F.fchDesc_word b i) (leAt wDescBytes (4 * i) 4)

def wDies : State :=
  let s := forEach (List.range 16) wHost fun s m => setF (setBit (setBit s (F.fchDieCfg_present m 0)) (F.fchDieCfg_inservice m 0)) (F.fchDieCfg_tiers m 0) 7
  let s := wDescIn s 0
  { s with bay := { s.bay with bays := [(0, ⟨.ready, 0, false, false, false, 0⟩)] }, nss := [(1, wNs)], tkr := { s.tkr with slots := [(0, 5#256)] } }

def wZone : State := { wDies with
  zrs := { wDies.zrs with map := [(3, ⟨5, true, false, 1⟩)], zst := [(5, wZst)], cam := [(3, ⟨0, 0, 0⟩)] },
  jrn := { wDies.jrn with zones := [(3, ⟨⟨5, true, false, 1⟩, some wZst, some ⟨0, 5000, [], 8, 0⟩⟩)] },
  cph := { wDies.cph with ctxs := [(0, ⟨.idle, true, 3, 0, 0, none, 0⟩)] } }

def wIo (o : Byte) (d10 d12 d13 : DWord) : CmdSlot := wSlot (wSqe false o 1 d10 0 d12 d13)

def wCk (k : CmdKind) (o : Byte) (d10 d12 d13 : DWord) (ph : Phase) : CmdSlot := { checkedSlot wHost k (wIo o d10 d12 d13) 1 wNs with phase := ph }

def wReadZeros : State := setF (putSlot wZone 0 { wCk .read 0x02 0x200000 1 0 .ready with reserved := 2 }) (F.sbgPoolStat_reserved 1) 2

def wWriting : State := putSlot wZone 0 { wCk .placedAppend 0x81 0x300000 1 0 .admitted with firstSlot := 6, staged := [0, 1], sealed := [0, 1], fetched := [0, 1], deadline := 90000, sqe := { wSqe false 0x81 1 0x300000 0 1 1 with cdw14 := 0 } }

def wPub : List Byte := beBytes 32 p256.gx ++ beBytes 32 p256.gy

def wSig (m : List Byte) : List Byte := beBytes 32 (p256.gx % p256.n) ++ beBytes 32 ((ofBe (sha256 m) + p256.gx) % p256.n)

def wImg (ty : Nat) (body : List Byte) : List Byte :=
  let h := leBytes 4 0x64085349 ++ leBytes 1 ty ++ [0, 0, 3] ++ leBytes 4 body.length ++ leBytes 4 0 ++ sha256 body ++ wPub
  h ++ wSig h ++ List.replicate 80 0 ++ body

def wRoot : State := { wHost with otp := { wHost.otp with rootHash := [some (keyOf (sha256 wPub))] } }

def wPkg : FwSlot := ⟨wImg 1 [1, 2, 3], wImg 2 [4, 5]⟩

def wEph : List Byte := beBytes 48 p384.gx ++ beBytes 48 p384.gy

def wKek : List Byte := beBytes 32 0x5452b92757a9c61b36be541a1d4d737e7bd361e117e3ae19a0185cb3bc1d1b7e

def wKek2 : List Byte := beBytes 32 0x963968a8389b4e0b96d0ed473a9e3b9edc59f5f4f2ca57622c2e788879855a08

def wImport (nsid : Nat) (kek : List Byte) : List Byte := [1, 0, 0, 0] ++ leBytes 4 nsid ++ leBytes 8 0 ++ wEph ++ keyWrap kek (beBytes 32 77)

def wImpHost : State := { wHost with nss := [(1, wNs)], tkr := { wHost.tkr with slots := [(4099, 1#256)] } }

def wNonce : List Byte := beBytes 32 0x1234

def wLcData (target : Nat) : List Byte := let m := leBytes 1 target ++ List.replicate 7 0 ++ beBytes 8 0 ++ wNonce ++ wPub; (m.take 0x30) ++ wPub ++ wSig (m.take 0x30)

def wNonced : State := { wRoot with sec := { wRoot.sec with nonce := some (wNonce, 0) } }

def wProfile : List Byte := wImg 3 (leBytes 4 0x64085052 ++ [2, 1, 0, 0, 0, 0] ++ List.replicate 2294 0)

def wFlash : State := setF { wDies with zrs := { wDies.zrs with zst := [] } } (F.fchStat_state 0) 3

def wErase : DieEntry := ⟨.erase [(1, 7)], .d4, .device, .vault, 100, 0, false⟩

def wReadOp (sl : Nat) : ReadOp := newRead (.command sl) 0 0 0 5 0 0 .d5 ⟨5, freshZst, 0⟩ 0 .proof 100000 (.func 0) 0 false [newCw 0 0 0]

def wSense : DieEntry := ⟨.sense 9, .d5, .func 0, .proof, 100000, 0, false⟩

def wProgram : DieEntry := ⟨.program 5 0 0 .coarse, .d5, .func 0, .vault, 0, 0, false⟩

def wSenses : List SenseStep := [⟨0, 5, 0, 0, 0, false, true⟩]

def wRun (e : DieEntry) (st : OpStage) (n : Nat) : Running := { issuedRun wFlash e 0 st (if isReadEntry e then wSenses else []) n with power := 100 }

def wOn (e : DieEntry) (st : OpStage) (n : Nat) : State := putDie wFlash 0 { noDie with current := some (wRun e st n) }

def wFill : ZstEntry := sealedZst { wZst with wpHost := 0, wpPhys := 100000 }

def wProgQ : State := { putDie wFlash 0 { noDie with queue := [wProgram], balances := [⟨.func 0, 0⟩] } with zrs := { wFlash.zrs with map := [(3, ⟨5, true, false, 1⟩)], zst := [(5, wFill)] } }

def wProbe : Probe := ⟨.d5, 0, 0, 5, 0, 0, 0, 0, 0, [9, 9, 9, 9, 9], [1, 1, 1, 1, 1], [9, 9, 9, 9, 9], [0, 1, 2, 3, 4], []⟩

def wCwIn (step : Step) : Cw := { newCw 0 0 0 with step := step, phase := .inEngine, engine := some 3 }

def wInEngine (step : Step) : State := { setF wDies F.rchTrack_trigger 0 with rch := { wDies.rch with reads := [(9, { wReadOp 0 with sensed := true, cws := [wCwIn step] })], hardBusy := if step = .hard then [3] else [], softBusy := if step = .hard then [] else [3] } }

def wFetched : State := setF { putSlot wZone 0 { wCk .write 0x01 0x300008 1 0 .admitted with fetched := [0], firstSlot := 8, offset := 8 } with mep := { wZone.mep with ingest := [(0, ⟨0, [], 0, [], false, 0⟩)] }, sbg := { wZone.sbg with pools := [(4, { freshPool with head := 1, bits := [(0, true)] })], accums := [⟨0, 5, 0, 0, [], [], 0, false⟩] }, cph := { wZone.cph with keyCache := [⟨0, 0, 0⟩] } } (F.sbgPoolStat_free 4) 1023

def wKey : List Byte := beBytes 32 5

def wReading : State := setF { putSlot wZone 0 { wCk .read 0x02 0x300000 1 0 .admitted with reserved := 2, home := some ⟨5, wZst, 1⟩ } with cph := { wZone.cph with keyCache := [⟨0, 0, 0⟩] }, mep := { wZone.mep with staged := [(stageKey 5 0, sealedCopy wZone (wCk .read 0x02 0x300000 1 0 .admitted) 0 wKey [])] } } (F.sbgPoolStat_reserved 1) 2

def wOpened (e : List Nat) : CmdSlot := { wCk .read 0x02 0x300000 1 0 .admitted with opened := [0, 1], egress := e }

def wPool : PoolBlock := ⟨0, [], 0, [], 0⟩

def wSending (e : List Nat) : State := setF { putSlot wZone 0 (wOpened e) with mep := { wZone.mep with pool := [(0, wPool)] }, sbg := { wZone.sbg with pools := [(1, { freshPool with head := 1, bits := [(0, true)] })] } } (F.sbgPoolStat_free 1) 4095

def wDescr (op : Nat) : State := setF { wZone with tkr := { wZone.tkr with slots := spPut wZone.tkr.slots 4097 5#256 }, cph := { wZone.cph with mreqs := [(0x10, 0x60000040)], keyCache := [⟨4097, 0, 0⟩] }, mep := { wZone.mep with dram := [(1610612800, BitVec.ofNat 8 op), (1610612804, 1), (1610612805, 16), (1610612820, 4), (1610612833, 2), (1610612835, 96), (1610612857, 4), (1610612859, 96)] } } F.dmcStat_state 4

def wDescrEnd (op a v : Nat) : State := { wDescr op with mep := { (wDescr op).mep with dram := storeBytes (fun _ => false) (wDescr op).mep.dram a [BitVec.ofNat 8 v] } }

def wWrap (blk : Option CtxBlock) : State := parkCtx { wZone with tkr := { wZone.tkr with slots := spPut wZone.tkr.slots slotCtxWrap 9#256 }, cph := { wZone.cph with ctxs := [(0, ⟨if blk.isSome then .block else .idle, true, 3, 0, 0, blk, 0⟩)] } } 0

def wBlk : CtxBlock := freshBlock wZone 0 0 0 (wCk .write 0x01 0x300008 1 0 .admitted)

def wKeyQ : State := { wZone with cph := { wZone.cph with keyReqs := [⟨7, 200, 2⟩, ⟨0, 100, 3⟩] } }

def wDescr1 : State := setF { wDescr 1 with mep := { (wDescr 1).mep with dram := [(1610612800, 1), (1610612804, 1), (1610612805, 16), (1610612824, 4), (1610612841, 2), (1610612843, 96), (1610612849, 3), (1610612851, 96), (1610612857, 4), (1610612859, 96)] } } F.dmcStat_state 4

def wDescr2 : State := { wDescr 2 with mep := { (wDescr 2).mep with dram := storeBytes (fun _ => false) (wDescr 2).mep.dram 0x60000400 (gcmSeal wKey (List.replicate 12 0) (List.replicate 4 0) []).2 } }

def wBooting : State := { State.reset with otp := { State.reset.otp with rootHash := [some (keyOf (sha256 wPub))] }, nor := { State.reset.nor with slots := [(1, wPkg)] } }

def wOffDev : State := { wBooting with pmu := { wBooting.pmu with off := true, on := [] } }

def wReady : State := setF wHost F.dmcStat_state 4

def wReported : State := { setF wReady F.prfBoot_stage 7 with sec := { wHost.sec with released := true }, bay := { wHost.bay with bays := [(0, ⟨.ready, 0, false, true, false, 0⟩), (1, ⟨.ready, 0, false, true, false, 0⟩), (2, ⟨.failed, 0, false, true, false, 0⟩), (3, ⟨.ready, 0, false, true, false, 0⟩)] }, clk := { wHost.clk with lastTick := 40 }, hif := { wHost.hif with fetchStopped := true, admissionStopped := true } }

def wRestart : State := let s := setF (setF wReady F.rstLrs_hbTimeout 5) F.rstLrs_bootTimeout 3; lrsEnter { s with pmu := { s.pmu with on := s.pmu.on ++ [.mgmt] } } .restart 3

def wBase : State := setF (setBit wReady F.mhmErr_brtChk) F.slkErr_route 1

def wDown : State := { setF wHost F.pmuState_state 2 with pmu := { wHost.pmu with on := [.sec, .host] } }

def wActive : State := { wZone with pmu := { wZone.pmu with flight := .drain, target := .safelight } }

def wBusyOff : State := { wOn wErase .busy 0 with pmu := { wFlash.pmu with flight := .bays, target := .standby } }

def wPadded : State := { wHost with sch := { wHost.sch with dies := [(0, { noDie with queue := [wErase] })] } }

def wBay (b : Bay) : State := { wHost with bay := { wHost.bay with bays := [(1, b)] }, pins := { wHost.pins with bayPwrEn := 2 } }

def wDescBay : State := writeDesc (setBit (setF (wBay ⟨.waitTpor, 40, true, false, false, 0⟩) (F.fchCtrl_maxRate 16) 3600) (F.fchCtrl_enable 16)) 1 0 wDescBytes

def wTrainBay : State := forEach (List.range 16) wDescBay fun s c => setF (setBit s (F.fchCtrl_enable (16 + c))) (F.fchCtrl_maxRate (16 + c)) 1600

def wRebind : State := { setBit (setBit wTrainBay (F.fchDieCfg_present 16 0)) (F.fchDieCfg_inservice 16 0) with bay := { wTrainBay.bay with bays := [(1, ⟨.waitTpor, 40, true, true, false, 0⟩)] } }

def wReadyBay : State := { wDescBay with bay := { wDescBay.bay with bays := [(1, ⟨.ready, 0, true, true, false, 0⟩)] } }

def wBusyChan : State := putDie (setBit (setBit wReadyBay (F.fchDieCfg_present 16 0)) (F.fchDieCfg_inservice 16 0)) 256 { noDie with current := some (wRun wErase .busy 0) }

def wWalk (k c : Nat) : State := setF (setF (setF (setBit wDies F.mhmWalk_run) F.mhmWalk_rate 9) F.mhmWalk_kind k) F.mhmWalk_cursor c

def wBound : State := { wZone with mhm := { wZone.mhm with scanQueue := [3, 8] } }

def wDisturb : State := let x := setF wZone F.mhmWalk_kind 1; let x := setBrt { x with zrs := { x.zrs with zst := [(5, { wZst with state := .full })] } } (brtIndex (memberDie 0 0) 0 5) { freshBrt (brtIndex (memberDie 0 0) 0 5) with cond := .written, reads := 16777215 }; { x with mhm := { x.mhm with walkFifo := [brtIndex (memberDie 0 0) 0 5, 4] } }

def wMove : State := { wZone with mhm := { wZone.mhm with candidates := [⟨3, .bayLoss, 4⟩] } }

def wMoved : State := { wMove with mhm := { wMove.mhm with relocs := [(5, ⟨3, 4101, .bayLoss, [], 0, .negative, 500⟩)] }, zrs := { wMove.zrs with zst := [(5, wZst), (4101, wZst)] } }

def wCopy : SpareCopy := ⟨5, 2, 1, 77, 4096, 0⟩

def wSurv : State := { wDies with age := { wDies.age with history := [⟨0, 0, 1, 0, false, 0⟩, ⟨10, 0, 2, 0, false, 0⟩] } }

def wSent : Sentinel := ⟨1, 7, 3, 0, .d5, 0⟩

def wProbed (n : Nat) : List (Int × Nat × Nat) := [(0, 100, 5), (-1, 135, 5)] ++ (if n = 2 then [(1, 130, 5)] else [])

def wAsk (xs : List (Int × Nat × Nat)) : State := setF { wSurv with age := { wSurv.age with sentinels := [(0, [wSent])], survey := [(0, ⟨xs, []⟩)] } } F.mhmOffest_state 1

def wChan (n : Nat) (c : Chan) (a b : Nat) : State := putChan (setF (setF (setBit w0 (F.mbxBind_valid n)) (F.mbxBind_partyA n) a) (F.mbxBind_partyB n) b) n c

def wIdleCh : Chan := { noChan with st := .idle }

def wClaimed : Chan := { noChan with st := .claimed, holder := 0x11 }

def wFull : Chan := ⟨.full, 0x11, 2, [7, 8] ++ List.replicate 14 0, false, false, false⟩

def wChal : State := putChal (setBit (setF (setF w0 F.dbgUnlock_status dbgChalReady) F.dbgUnlock_reqLevel 1) F.dbgUnlock_req) (List.replicate 48 9)

def wUnlock : State := let sig := ecdsaSign p256 4242 999 (sha256 (chalMessage wChal)); let pub := ecPublic p256 4242; { wChal with otp := { wChal.otp with debugHash := BitVec.ofNat 256 (ofBe (sha256 pub)) }, dbg := { wChal.dbg with resp := (List.range 31).map fun i => (i, BitVec.ofNat 32 (leAt (pub ++ sig) (4 * i) 4)) } }

def wChal2 : State := setF (setF { wChal with otp := { wChal.otp with lc := 3 }, tkr := { wChal.tkr with slots := [(3, 5), (4100, 6)] } } F.dbgUnlock_reqLevel 2) F.secLc_lifecycle 2

def wUnlock2 : State := let sig := ecdsaSign p256 4242 999 (sha256 (chalMessage wChal2)); let pub := ecPublic p256 4242; { wChal2 with otp := { wChal2.otp with debugHash := BitVec.ofNat 256 (ofBe (sha256 pub)) }, dbg := { wChal2.dbg with resp := (List.range 31).map fun i => (i, BitVec.ofNat 32 (leAt (pub ++ sig) (4 * i) 4)) } }

def wLast2 : DWord := BitVec.ofNat 32 (leAt (ecdsaSign p256 4242 999 (sha256 (chalMessage wChal2))) 60 4)

def wLast : DWord := BitVec.ofNat 32 (leAt (ecdsaSign p256 4242 999 (sha256 (chalMessage wChal))) 60 4)

def wTalk (t : Nat) (x : Spdm) : State := putSpdm { w0 with pmu := { w0.pmu with on := .mgmt :: w0.pmu.on } } t x

def wAgreed : Spdm := { noSpdm with version := true, capabilities := true, negotiated := true }

def wSess : SpdmSession := ⟨77, false, List.replicate 32 5, List.replicate 32 6, 0, 0⟩

def wTalked : Spdm := { wAgreed with sessions := [wSess], script := [1, 2, 3] }

def wInSession : Spdm := { wAgreed with sessions := [{ wSess with finished := true }] }

def wProof : List Byte := sealRecord wTalked wSess false 0 (spdmMsg 0xE5 [] ++ verifyData wTalked wSess false ([1, 2, 3] ++ spdmMsg 0xE5 []))

def wMiCfg : State := { wTalk 0 noSpdm with mi := ⟨[(1 + 256 * 3, 5)]⟩ }

def wDeployed : State := { w0 with otp := { w0.otp with lc := 3 } }

def wDram : State := setF w0 F.dmcStat_state 4

def wScrub : State := let x := setBit (setF (setF (setF w0 F.mepScrubCtrl_status scrubRunning) F.mepScrubLen_lines 3) F.mepScrubCtrl_rate 1) F.mepScrubCtrl_start; { x with mep := { x.mep with scrub := ⟨1, 0, 0, 0, 0⟩ } }

def wOffDmc : State := { w0 with pmu := { w0.pmu with on := w0.pmu.on.filter (· != .dmc) } }

def wRow : State := putDram wDram 2 { freshChan with rows := [(5, 77)], postponed := [(5, 3)], readQ := [⟨0x10, 0x80, none, false, 0, 0⟩] }

def wPools : State := setF { w0 with sbg := { w0.sbg with pools := [(1, { freshPool with head := 1, bits := [(0, true)] }), (5, { freshPool with head := 1, bits := [(0, true)] }), (6, { freshPool with head := 1, bits := [(0, true)] })] } } (F.sbgPoolStat_free 1) 4095

def wPools6 : State := setF (setF wPools (F.sbgPoolStat_free 6) 757303) (F.sbgPoolStat_free 5) 127

def wSpill : State := setBit (setF (setF wPools (F.sbgPoolStat_free 1) 0) (F.sbgPoolStat_free 2) 5) (F.sbgPoolCfg_spillIn 2)

def wAcc : Accum := ⟨0, 5, 2, 1, [240], [[1], [2]], 100, false⟩

def wRebuild : State := let x := setBit wPools6 F.sbgErr_rebuild; putPool x 6 { poolOf x 6 with rebuilding := true, head := linkEnd }

def wEv (k : Nat) : Event := ⟨k, 0, 0x11, [1, 2]⟩

def wCap : Captured := ⟨wEv 3, 10, 1, 200, 4⟩

def wLog : State := let x := setBit w0 F.cshStat_init; { x with csh := { x.csh with seq := 8, ringSeqs := [5, 6], staging := [buildRecord 7 wCap, buildRecord 8 wCap] } }

def wLogOn : State := { wLog with pmu := { wLog.pmu with on := .mgmt :: wLog.pmu.on } }

def wUp : Port := { noPort with st := .up, credReq := 256, credRsp := 256 }

def wLive : Peer := ⟨.live, 5, 0, 0, 0, none, 0⟩

def wCasc (s : State) (dev peer : Nat) : State :=
  let x := setF (setBit (setBit { s with straps := { s.straps with role := 3, devId := dev }, pmu := { s.pmu with on := .slk :: s.pmu.on } } (F.slkRoute_valid peer)) F.slkCtrl_succEn) F.slkCtrl_portEn 15
  { setF (setF x F.slkLeader_isLeader (b2n (dev == 0))) F.slkLeader_leader 0 with
    slk := { x.slk with ports := [(0, wUp)], peers := [(peer, wLive)] }, tkr := { x.tkr with slots := spPut x.tkr.slots (4100 + peer) 9#256 } }

def wLead : State := wCasc w0 0 1

def wMemb : State := wCasc w0 1 0

def wPort (s : State) (x : Port) : State := putPort s 0 x

def wFlit (ty seq : Nat) (last : Bool) : List Byte := flitBytes ty ⟨seq, false, true, last, [7, 8], 0⟩ 3 4 0 false

def wNewLead : State := { wLead with slk := { wLead.slk with peers := [] }, tkr := { wLead.tkr with slots := [] }, otp := { wLead.otp with lc := 1, devUid := 77 } }

def wNewMemb : State := { wMemb with slk := { wMemb.slk with peers := [], eph := some 12345 }, tkr := { wMemb.tkr with slots := [] } }

def wMsg (b0 : Nat) (m : List Byte) : List Byte := let h := leBytes 1 b0 ++ [3, 4, 0, 0, 0, 0, 0] ++ bytesAt m 0 240 ++ [0, 0, 0, 0]; h ++ leBytes 4 (crc32c h).toNat

def wSealedMsg : List Byte := let h := msgHeader 0x05 0 1 0 0 0; h ++ (gcmSeal (beBytes 32 9) (msgNonce 1 0 0 0) h []).2

def wPass : State := { setBit (setF wLead (F.slkRoute_port 2) 1) (F.slkRoute_valid 2) with slk := { wLead.slk with ports := [(0, wUp), (1, { noPort with st := .train })] } }

def wRemote (k : CmdKind) (o : Byte) : CmdSlot := { wCk k o 0x300000 1 0 .waitMembers with remote := some 1, reserved := 2 }

def wRelay (k : CmdKind) (o : Byte) : State := let x := wCasc wZone 0 1; { putSlot x 0 (wRemote k o) with slk := { x.slk with sentTags := [(6, 0)] } }

def wServing (c : CmdSlot) : State := let x := wCasc wZone 1 0; { putSlot x 0 c with slk := { x.slk with served := [⟨0, 0, 6, false⟩] } }

def wAdmin (n : Nat) : State := let x := wRelay .write 0x01; { putSlot x 0 (wCk .admin 0x01 0 0 0 .waitMembers) with slk := { x.slk with adminWaits := [(0, List.range n)] } }

theorem witness_StepRunsFront_2 :
    (let s : State := w0; decide (s.pending = [] ∧ Powered s)) = true := by decide +kernel

theorem witness_StepRunsFront_3 :
    (let s : State := ({ State.reset with pmu := { State.reset.pmu with off := true } } : State); decide (s.pending = [] ∧ s.pmu.off = true)) = true := by decide +kernel

theorem witness_SettledKept :
    Settled w0 ∧ step w0 = .next (idle w0) :=
  ⟨by decide +kernel, rfl⟩

theorem witness_OffIsInert_1 :
    (let s : State := ({ State.reset with pmu := { State.reset.pmu with off := true } } : State); let c : Instr := Instr.walkStart; decide (s.pmu.off = true ∧ isColdReset c = false)) = true := by decide +kernel

theorem witness_TimeSteps_1 :
    (let s : State := w0; decide (Powered s)) = true := by decide +kernel

theorem witness_TimeSteps_2 :
    (let s : State := wOff; decide (Powered s ∧ domainOn s .data = false ∧ s.shadow = [])) = true := by decide +kernel

theorem witness_TimeSteps_3 :
    (let s : State := { wOff with shadow := [(0x1000a00008, 0x3)] }; decide (Powered s ∧ domainOn s .data = false ∧ spSorted s.shadow = true)) = true := by decide +kernel

theorem witness_TimeSteps_4 :
    (let s : State := { w0 with shadow := [(0x1000a00008, 0x3)], rch := { w0.rch with live := [(3, { noCounts with found := 7 })] } }; decide (Works s)) = true := by decide +kernel

theorem witness_BusRefusals_1 :
    (let s : State := w0; let master : Nat := idMc 0; let addr : Nat := 0x1001600000; decide (Powered s ∧ reservedMaster master = false ∧ master ≠ idHostPf ∧ master ≠ idHostVf ∧ 0x1000000000 ≤ addr ∧ addr < 0x1001800000 ∧ windowOn s addr = false)) = true := by decide +kernel

theorem witness_CsrAccess_1 :
    (let s : State := w0; let master : Nat := idMc 3; let addr : Nat := 0x1000a00020; let data : Word := 0x00030011#64; let d : RegDef := wReg 0x1000a00020; let i : Nat := 0; decide (Powered s ∧ isMc master = true ∧ 0x1000000000 ≤ addr ∧ routed s master addr = true ∧ regAt addr = some (d, i) ∧ addr % 4 = 0 ∧ addr < 0x1001800000 ∧ windowOf addr ≠ 22 ∧ windowOn s addr = true ∧ addr ∉ settledAddrs ∧ (windowOf addr ≠ 3 ∨ mbxReached s master = true) ∧ writeRefused s master addr d.name = false ∧ d.name ∉ ["PMU_CLK", "FCH_DIE_CFG", "FCH_DESC", "MBX_MASK", "MBX_DONE", "MBX_STAT", "DBG_RESP", "CPH_MREQ", "TKR_CMD", "VFM_MIG_CTRL", "FCH_CTRL", "DMC_REFRESH", "SLK_CTRL"] ∧ rowBits d.name = 0 ∧ deadBits s d.name (data &&& 0xFFFFFFFF#64) = 0 ∧ d.shadowed = false)) = true := by decide +kernel

theorem witness_CsrAccess_2 :
    (let s : State := w0; let master : Nat := idMc 3; let addr : Nat := 0x1000a00008; let data : Word := 0x3#64; let d : RegDef := wReg 0x1000a00008; let i : Nat := 0; decide (Powered s ∧ isMc master = true ∧ 0x1000000000 ≤ addr ∧ routed s master addr = true ∧ regAt addr = some (d, i) ∧ addr % 4 = 0 ∧ addr < 0x1001800000 ∧ windowOf addr ≠ 22 ∧ windowOn s addr = true ∧ addr ∉ settledAddrs ∧ (windowOf addr ≠ 3 ∨ mbxReached s master = true) ∧ writeRefused s master addr d.name = false ∧ d.name ∉ ["PMU_CLK", "FCH_DIE_CFG", "FCH_DESC", "MBX_MASK", "MBX_DONE", "MBX_STAT", "DBG_RESP", "CPH_MREQ", "TKR_CMD", "VFM_MIG_CTRL", "FCH_CTRL", "DMC_REFRESH", "SLK_CTRL"] ∧ rowBits d.name = 0 ∧ deadBits s d.name (data &&& 0xFFFFFFFF#64) = 0 ∧ d.shadowed = true)) = true := by decide +kernel

theorem witness_CsrAccess_3 :
    (let s : State := w0; let master : Nat := idMc 3; let addr : Nat := 0x1000b00088; let data : Word := 0x123456789abcdef0#64; let d : RegDef := wReg 0x1000b00088; let i : Nat := 0; decide (Powered s ∧ isMc master = true ∧ 0x1000000000 ≤ addr ∧ routed s master addr = true ∧ regAt addr = some (d, i) ∧ addr % 4 = 0 ∧ addr < 0x1001800000 ∧ windowOf addr ≠ 22 ∧ windowOn s addr = true ∧ addr ∉ settledAddrs ∧ (windowOf addr ≠ 3 ∨ mbxReached s master = true) ∧ writeRefused s master addr d.name = false ∧ d.name ∉ ["PMU_CLK", "FCH_DIE_CFG", "FCH_DESC", "MBX_MASK", "MBX_DONE", "MBX_STAT", "DBG_RESP", "CPH_MREQ", "TKR_CMD", "VFM_MIG_CTRL", "FCH_CTRL", "DMC_REFRESH", "SLK_CTRL"] ∧ rowBits d.name = 0 ∧ addr % 8 = 0 ∧ d.wide = true ∧ deadBits s d.name data = 0 ∧ d.shadowed = false)) = true := by decide +kernel

theorem witness_CsrAccess_4 :
    (let s : State := w0; let master : Nat := idMc 3; let addr : Nat := 0x1000700008; let d : RegDef := wReg 0x1000700008; let i : Nat := 0; decide (Powered s ∧ isMc master = true ∧ 0x1000000000 ≤ addr ∧ routed s master addr = true ∧ regAt addr = some (d, i) ∧ addr % 4 = 0 ∧ addr < 0x1001800000 ∧ windowOf addr ≠ 22 ∧ windowOn s addr = true ∧ addr ∉ settledAddrs ∧ (windowOf addr ≠ 3 ∨ mbxReached s master = true) ∧ windowOf addr ≠ 5 ∧ writeRefused s master addr d.name = true)) = true := by decide +kernel

theorem witness_CsrAccess_5 :
    (let s : State := w0; let master : Nat := idMc 3; let addr : Nat := 0x1000a00002; let size : Nat := 4; decide (Powered s ∧ isMc master = true ∧ 0x1000000000 ≤ addr ∧ ((size ≠ 4 ∧ size ≠ 8) ∨ addr % size ≠ 0))) = true := by decide +kernel

theorem witness_CsrAccess_6 :
    (let s : State := wOff; let master : Nat := idMc 3; let addr : Nat := 0x1000a00020; decide (Powered s ∧ isMc master = true ∧ 0x1000000000 ≤ addr ∧ addr % 4 = 0 ∧ addr < 0x1001800000 ∧ (routed s master addr = false ∨ windowOn s addr = false))) = true := by decide +kernel

theorem witness_CsrAccess_7 :
    (let s : State := setReg w0 0x1000a00020 0x00051020#64; let master : Nat := idMc 3; let addr : Nat := 0x1000a00020; let d : RegDef := wReg 0x1000a00020; let i : Nat := 0; decide (Powered s ∧ isMc master = true ∧ 0x1000000000 ≤ addr ∧ routed s master addr = true ∧ regAt addr = some (d, i) ∧ addr % 4 = 0 ∧ addr < 0x1001800000 ∧ windowOf addr ≠ 22 ∧ windowOn s addr = true ∧ addr ∉ settledAddrs ∧ windowOf addr ∉ [3, 5, 8] ∧ d.name ∉ ["MBX_PEND", "MBX_DONE", "MBX_MASK", "MBX_STAT", "CSH_CURSOR", "CSH_WIN", "RCH_TRIM_DATA", "RCH_FRAME_CNT", "RCH_TRACK_CNT", "RCH_DEC_CNT0", "RCH_DEC_CNT1", "RCH_DEC_CNT2", "MEP_FLIP", "MHM_WALK_OUT", "SBG_ALLOC_RESULT", "MBX_CLAIM", "MBX_WORD", "VFM_RECONF"])) = true := by decide +kernel

theorem witness_CsrAccess_8 :
    (let s : State := setReg w0 0x1000b00088 0x00051020#64; let master : Nat := idMc 3; let addr : Nat := 0x1000b00088; let d : RegDef := wReg 0x1000b00088; let i : Nat := 0; decide (Powered s ∧ isMc master = true ∧ 0x1000000000 ≤ addr ∧ routed s master addr = true ∧ regAt addr = some (d, i) ∧ addr % 4 = 0 ∧ addr < 0x1001800000 ∧ windowOf addr ≠ 22 ∧ windowOn s addr = true ∧ addr ∉ settledAddrs ∧ windowOf addr ∉ [3, 5, 8] ∧ d.name ∉ ["MBX_PEND", "MBX_DONE", "MBX_MASK", "MBX_STAT", "CSH_CURSOR", "CSH_WIN", "RCH_TRIM_DATA", "RCH_FRAME_CNT", "RCH_TRACK_CNT", "RCH_DEC_CNT0", "RCH_DEC_CNT1", "RCH_DEC_CNT2", "MEP_FLIP", "MHM_WALK_OUT", "SBG_ALLOC_RESULT", "MBX_CLAIM", "MBX_WORD", "VFM_RECONF"] ∧ addr % 8 = 0 ∧ d.wide = true)) = true := by decide +kernel

theorem witness_Doorbells_1 :
    (let s : State := wHost; let f : Nat := 0; let qid : Nat := 1; let v : Nat := 15; let q : SubQ := ⟨0x2000, 15, 14, 2, 1, none⟩; decide (Powered s ∧ funcExists s f = true ∧ (funcOf s f).stop.inFlr = false ∧ ccEn (funcOf s f) = true ∧ entering s = false ∧ spFind (funcOf s f).sqs qid = some q ∧ v ≤ q.size ∧ latched s f qid = false)) = true := by decide +kernel

theorem witness_Doorbells_2 :
    (let s : State := { wHost with hif := { wHost.hif with funcs := spSet noFunc wHost.hif.funcs 0 { wFunc with stop := ⟨true, false, false, false, false⟩ } } }; let f : Nat := 0; let qid : Nat := 1; let v : Nat := 0; let q : SubQ := ⟨0x2000, 15, 14, 2, 1, none⟩; decide (Powered s ∧ funcExists s f = true ∧ (funcOf s f).stop.inFlr = false ∧ ccEn (funcOf s f) = true ∧ entering s = false ∧ spFind (funcOf s f).sqs qid = some q ∧ v ≤ q.size ∧ latched s f qid = true)) = true := by decide +kernel

theorem witness_Doorbells_3 :
    (let s : State := wHost; let f : Nat := 0; let qid : Nat := 1; let v : Nat := 3; let q : CplQ := ⟨0x4000, 15, 0, 3, true, 0, false⟩; decide (Powered s ∧ funcExists s f = true ∧ (funcOf s f).stop.inFlr = false ∧ ccEn (funcOf s f) = true ∧ entering s = false ∧ spFind (funcOf s f).cqs qid = some q ∧ v ≤ q.size ∧ headOk q v = true ∧ latched s f qid = false ∧ s.hif.waiting = [])) = true := by decide +kernel

theorem witness_Doorbells_4 :
    (let s : State := { wHostOff with aon := { wHostOff.aon with shadow := [(2, 5)] } }; let f : Nat := 0; decide (Powered s ∧ funcExists s f = true ∧ (funcOf s f).stop.inFlr = false ∧ ccEn (funcOf s f) = true ∧ entering s = true ∧ s.aon.shadow ≠ [])) = true := by decide +kernel

theorem witness_Doorbells_5 :
    (let s : State := wHostOff; let f : Nat := 0; decide (Powered s ∧ funcExists s f = true ∧ (funcOf s f).stop.inFlr = false ∧ ccEn (funcOf s f) = true ∧ entering s = true ∧ s.aon.shadow = [])) = true := by decide +kernel

theorem witness_BarAccess_1 :
    (let s : State := w0; let f : Nat := 0; decide (Powered s ∧ funcExists s f = true)) = true := by decide +kernel

theorem witness_BarAccess_2 :
    (let s : State := w0; let f : Nat := 0; let off : Nat := 0x14; let size : Nat := 8; decide (Powered s ∧ funcExists s f = true ∧ off + size ≤ (if f = 0 then 0x2000000 else 0x4000) ∧ ((size ≠ 4 ∧ size ≠ 8) ∨ off % size ≠ 0))) = true := by decide +kernel

theorem witness_BarAccess_3 :
    (let s : State := w0; let f : Nat := 3; let off : Nat := 0x14; let size : Nat := 4; decide (Powered s ∧ (funcExists s f = false ∨ (if f = 0 then 0x2000000 else 0x4000) < off + size))) = true := by decide +kernel

theorem witness_BarAccess_4 :
    (let s : State := w0; let f : Nat := 0; let off : Nat := 0x1000; let size : Nat := 8; decide (Works s ∧ funcExists s f = true ∧ (size = 4 ∨ size = 8) ∧ off % size = 0 ∧ off + size ≤ (if f = 0 then 0x2000000 else 0x4000) ∧ off + size ≤ 0x1000000)) = true := by decide +kernel

theorem witness_BarAccess_5 :
    (let s : State := wOff; let f : Nat := 0; decide (Powered s ∧ funcExists s f = true ∧ domainOn s .data = false ∧ (funcOf s f).stop.frozen = false)) = true := by decide +kernel

theorem witness_BarAccess_6 :
    (let s : State := wOff; let f : Nat := 0; let off : Nat := 0x1C; let size : Nat := 4; decide (Powered s ∧ funcExists s f = true ∧ domainOn s .data = false ∧ (size = 4 ∨ size = 8) ∧ off % size = 0 ∧ off + size ≤ (if f = 0 then 0x2000000 else 0x4000) ∧ (barWords off size).all mirrored = true)) = true := by decide +kernel

theorem witness_BarAccess_7 :
    (let s : State := wOff; let f : Nat := 0; let off : Nat := 0x2000; let size : Nat := 4; decide (Powered s ∧ funcExists s f = true ∧ domainOn s .data = false ∧ (size = 4 ∨ size = 8) ∧ off % size = 0 ∧ off + size ≤ (if f = 0 then 0x2000000 else 0x4000) ∧ (barWords off size).all mirrored = false ∧ s.aon.events.length < 255)) = true := by decide +kernel

theorem witness_BarAccess_8 :
    (let s : State := wOff; let f : Nat := 0; let off : Nat := 0x28; let size : Nat := 8; decide (Powered s ∧ funcExists s f = true ∧ domainOn s .data = false ∧ (funcOf s f).stop.frozen = false ∧ (size = 4 ∨ size = 8) ∧ off % size = 0 ∧ off + size ≤ (if f = 0 then 0x2000000 else 0x4000) ∧ ((barWords off size).any fun o => o == 0x14 || doorbellAt o) = false ∧ s.aon.events.length < 255)) = true := by decide +kernel

theorem witness_BarAccess_9 :
    (let s : State := { wHost with vfm := { wHost.vfm with vfEnable := true, numVfs := 1 }, hif := { wHost.hif with funcs := spSet noFunc wHost.hif.funcs 1 { noFunc with stop := ⟨true, true, true, false, false⟩ } } }; let f : Nat := 1; let off : Nat := 0x14; let size : Nat := 4; decide (Powered s ∧ funcExists s f = true ∧ (funcOf s f).stop.frozen = true ∧ (size = 4 ∨ size = 8) ∧ off % size = 0 ∧ off + size ≤ (if f = 0 then 0x2000000 else 0x4000) ∧ off + size ≤ 0x1000000 ∧ (barWords off size).all doorbellAt = false ∧ s.aon.events.length < 255)) = true := by decide +kernel

theorem witness_CommandFetch_1 :
    (let s : State := wHost; let f : Nat := 0; let i : Nat := 1; let k : SubQ := ⟨0x2000, 15, 14, 2, 1, none⟩; let q : Sqe := wSqe false 0x02 1 0 0 0 0; decide (Works s ∧ domainOn s .host = true ∧ s.hif.fetchStopped = false ∧ s.hif.linkUp = true ∧ getF s F.sysTemp_throttle ≠ 2 ∧ isMember s = false ∧ ((rotateFrom s.hif.nextFunc (funcsOf s)).findSome? fun f => (nextQueueOf s f).map fun i => (f, i)) = some (f, i) ∧ spFind (funcOf s f).sqs i = some k ∧ k.head ≠ k.tail ∧ fetchCheck (putSlot s (spFree s.hif.slots (s.hif.slots.length + 1) 0) (freshSlot s f i { q with admin := i == 0 })) f { q with admin := i == 0 } = none)) = true := by decide +kernel

theorem witness_CommandFetch_2 :
    (let s : State := w0; decide (Works s ∧ (s.hif.fetchStopped = true ∨ isMember s = true ∨ s.hif.linkUp = false ∨ getF s F.sysTemp_throttle = 2))) = true := by decide +kernel

theorem witness_QueueCommands_1 :
    (let c : CmdSlot := wSlot (wSqe true 0x01 0 0x00FF0002 0x00010001 0 0); let n : Nat := 0; let s : State := wIn wHost (wSqe true 0x01 0 0x00FF0002 0x00010001 0 0); let base : Nat := 0x5000; decide (Works s ∧ FetchedAdmin s n 0x01 c ∧ queueError s c base (spFind (funcOf s c.func).sqs (qidOf c.sqe)).isSome = none ∧ sqCqid c.sqe ≠ 0 ∧ sqCqid c.sqe ≤ qpShare s c.func ∧ (spFind (funcOf s c.func).cqs (sqCqid c.sqe)).isSome = true)) = true := by decide +kernel

theorem witness_QueueCommands_2 :
    (let c : CmdSlot := wSlot (wSqe true 0x05 0 0x0FFF0002 0x00030003 0 0); let n : Nat := 0; let s : State := wIn wHost (wSqe true 0x05 0 0x0FFF0002 0x00030003 0 0); let base : Nat := 0x6000; decide (Works s ∧ FetchedAdmin s n 0x05 c ∧ ((spFind (funcOf s c.func).sqs c.sqid).map SubQ.cqid).getD 0 ≠ qidOf c.sqe ∧ queueError s c base (spFind (funcOf s c.func).cqs (qidOf c.sqe)).isSome = none ∧ (cqIen c.sqe && decide (vecShare s c.func ≤ cqVector c.sqe)) = false)) = true := by decide +kernel

theorem witness_QueueCommands_3 :
    (let c : CmdSlot := wSlot (wSqe true 0x00 0 1 0 0 0); let n : Nat := 0; let s : State := wIn wHost (wSqe true 0x00 0 1 0 0 0); decide (Works s ∧ FetchedAdmin s n 0x00 c ∧ qidOf c.sqe ≠ 0 ∧ (spFind (funcOf s c.func).sqs (qidOf c.sqe)).isSome = true ∧ (spFind (funcOf s c.func).sqs (qidOf c.sqe)).bind SubQ.deleting = none ∧ waitingOn s c.func (qidOf c.sqe) = false ∧ (∀ kv ∈ s.hif.slots, kv.2.func = c.func → kv.2.sqid ≠ qidOf c.sqe))) = true := by decide +kernel

theorem witness_QueueCommands_4 :
    (let c : CmdSlot := wSlot (wSqe true 0x00 0 1 0 0 0); let n : Nat := 0; let s : State := putSlot (wIn wHost (wSqe true 0x00 0 1 0 0 0)) 1 { wSlot (wSqe false 0x02 1 0 0 0 0) with phase := .admitted }; let q : SubQ := ⟨0x2000, 15, 14, 2, 1, none⟩; decide (Works s ∧ FetchedAdmin s n 0x00 c ∧ qidOf c.sqe ≠ 0 ∧ c.sqid ≠ qidOf c.sqe ∧ spFind (funcOf s c.func).sqs (qidOf c.sqe) = some q ∧ q.deleting = none ∧ (admittedOn s c.func (qidOf c.sqe) = true ∨ waitingOn s c.func (qidOf c.sqe) = true) ∧ (∀ kv ∈ s.hif.slots, kv.2.func = c.func → kv.2.sqid = qidOf c.sqe → isAdmitted kv.2 = true))) = true := by decide +kernel

theorem witness_QueueCommands_5 :
    (let c : CmdSlot := wSlot (wSqe true 0x04 0 2 0 0 0); let n : Nat := 0; let s : State := putFunc (wIn wHost (wSqe true 0x04 0 2 0 0 0)) 0 { wFunc with cqs := wFunc.cqs ++ [(2, ⟨0x7000, 15, 0, 0, true, 0, false⟩)] }; decide (Works s ∧ FetchedAdmin s n 0x04 c ∧ qidOf c.sqe ≠ 0 ∧ (spFind (funcOf s c.func).cqs (qidOf c.sqe)).isSome = true ∧ ((funcOf s c.func).sqs.any fun kv => kv.2.cqid == qidOf c.sqe) = false)) = true := by decide +kernel

theorem witness_QueueCommands_6 :
    (let c : CmdSlot := wSlot (wSqe true 0x08 0 0x00070001 0 0 0); let n : Nat := 0; let s : State := putSlot (wIn wHost (wSqe true 0x08 0 0x00070001 0 0 0)) 1 (wSlot (wSqe false 0x02 1 0 0 0 0)); let m : Nat := 1; let x : CmdSlot := wSlot (wSqe false 0x02 1 0 0 0 0); decide (Works s ∧ FetchedAdmin s n 0x08 c ∧ (s.hif.slots.find? fun kv => kv.1 != n && kv.2.func == c.func && kv.2.sqid == abortSq c.sqe && kv.2.sqe.cid == abortCid c.sqe && !isAdmitted kv.2) = some (m, x) ∧ Bare s m x)) = true := by decide +kernel

theorem witness_QueueCommands_7 :
    (let c : CmdSlot := wSlot (wSqe true 0x08 0 0x00090001 0 0 0); let n : Nat := 0; let s : State := wIn wHost (wSqe true 0x08 0 0x00090001 0 0 0); decide (Works s ∧ FetchedAdmin s n 0x08 c ∧ (s.hif.slots.find? fun kv => kv.1 != n && kv.2.func == c.func && kv.2.sqid == abortSq c.sqe && kv.2.sqe.cid == abortCid c.sqe && !isAdmitted kv.2) = none ∧ (abortSq c.sqe ≠ 0 ∨ abortCid c.sqe ∉ (funcOf s c.func).aers))) = true := by decide +kernel

theorem witness_QueueCommands_8 :
    (let c : CmdSlot := wSlot (wSqe true 0x08 0 0x00090000 0 0 0); let n : Nat := 0; let s : State := putFunc (wIn wHost (wSqe true 0x08 0 0x00090000 0 0 0)) 0 { wFunc with aers := [9] }; decide (Works s ∧ FetchedAdmin s n 0x08 c ∧ (s.hif.slots.find? fun kv => kv.1 != n && kv.2.func == c.func && kv.2.sqid == abortSq c.sqe && kv.2.sqe.cid == abortCid c.sqe && !isAdmitted kv.2) = none ∧ abortSq c.sqe = 0 ∧ abortCid c.sqe ∈ (funcOf s c.func).aers)) = true := by decide +kernel

theorem witness_LogAndIdentify_1 :
    (let c : CmdSlot := wSlot (wSqe true 0x02 0 0x00FF00C1 0 8160 0); let n : Nat := 0; let s : State := { wIn wHost (wSqe true 0x02 0 0x00FF00C1 0 8160 0) with aon := { wHost.aon with events := [⟨0, 1, 1, 0, 0x2000, 0⟩] } }; decide (Works s ∧ FetchedAdmin s n 0x02 c ∧ logId c.sqe = 0xC1 ∧ c.func = 0 ∧ logOffset c.sqe % 32 = 0 ∧ logOffset c.sqe < 8192 ∧ logDwords c.sqe ≤ 262144 ∧ s.aon.events.length ≤ 255)) = true := by decide +kernel

theorem witness_LogAndIdentify_2 :
    (let c : CmdSlot := wSlot (wSqe true 0x02 0 0x000F00C2 0 0 0); let n : Nat := 0; let s : State := wIn wHost (wSqe true 0x02 0 0x000F00C2 0 0 0); decide (Works s ∧ FetchedAdmin s n 0x02 c ∧ logId c.sqe = 0xC2 ∧ logOffset c.sqe = 0 ∧ logDwords c.sqe ≤ 262144)) = true := by decide +kernel

theorem witness_LogAndIdentify_3 :
    (let c : CmdSlot := wSlot (wSqe true 0x02 0 0x000700C3 0 0 0); let n : Nat := 0; let s : State := wIn wHost (wSqe true 0x02 0 0x000700C3 0 0 0); let e : Nat := 32; let page : List Byte := statsPage wFunc; decide (Works s ∧ FetchedAdmin s n 0x02 c ∧ (logPage s c).1 = s ∧ (logPage s c).2.toOption = some (e, page) ∧ logOffset c.sqe % e = 0 ∧ logOffset c.sqe < page.length ∧ logDwords c.sqe ≤ 262144)) = true := by decide +kernel

theorem witness_LogAndIdentify_4 :
    (let c : CmdSlot := wSlot (wSqe true 0x02 0 0x000700C4 0 0 0); let n : Nat := 0; let s : State := wIn wHost (wSqe true 0x02 0 0x000700C4 0 0 0); let st : Status := .invalidLogPage; decide (Works s ∧ FetchedAdmin s n 0x02 c ∧ (logPage s c).1 = s ∧ ((match (logPage s c).2 with | .ok _ => none | .error e => some e) = some st))) = true := by decide +kernel

theorem witness_LogAndIdentify_5 :
    Works (wIn wHost (wSqe true 0x06 0 0x13 0 0 0)) ∧ FetchedAdmin (wIn wHost (wSqe true 0x06 0 0x13 0 0 0)) 0 0x06 (wSlot (wSqe true 0x06 0 0x13 0 0 0)) ∧ (identifyData (wIn wHost (wSqe true 0x06 0 0x13 0 0 0)) (wSlot (wSqe true 0x06 0 0x13 0 0 0))).toOption = some (bytesAt [1, 0, 0, 0] 0 4096) :=
  ⟨by decide +kernel, by decide +kernel, rfl⟩

theorem witness_LogAndIdentify_6 :
    (let c : CmdSlot := wSlot (wSqe true 0x06 3 0x00 0 0 0); let n : Nat := 0; let s : State := wIn wHost (wSqe true 0x06 3 0x00 0 0 0); let st : Status := .invalidNamespace; decide (Works s ∧ FetchedAdmin s n 0x06 c ∧ ((match identifyData s c with | .ok _ => none | .error e => some e) = some st))) = true := by decide +kernel

theorem witness_Features_1 :
    (let c : CmdSlot := wSlot (wSqe true 0x09 0 0x01 0x03 0 0); let n : Nat := 0; let s : State := wIn wHost (wSqe true 0x09 0 0x01 0x03 0 0); decide (Works s ∧ FetchedAdmin s n 0x09 c ∧ fid c.sqe = 0x01 ∧ featSave c.sqe = false ∧ c.sqe.cdw11.toNat % 8 ≤ 3)) = true := by decide +kernel

theorem witness_Features_2 :
    (let c : CmdSlot := wSlot (wSqe true 0x09 0 0x04 0x16D 0 0); let n : Nat := 0; let s : State := wIn wHost (wSqe true 0x09 0 0x04 0x16D 0 0); decide (Works s ∧ FetchedAdmin s n 0x09 c ∧ fid c.sqe = 0x04 ∧ featSave c.sqe = false ∧ tmpSel c.sqe = 0 ∧ thSel c.sqe = 0)) = true := by decide +kernel

theorem witness_Features_3 :
    (let c : CmdSlot := wSlot (wSqe true 0x09 0 0x04 0x100100 0 0); let n : Nat := 0; let s : State := wIn wHost (wSqe true 0x09 0 0x04 0x100100 0 0); decide (Works s ∧ FetchedAdmin s n 0x09 c ∧ fid c.sqe = 0x04 ∧ featSave c.sqe = false ∧ tmpSel c.sqe = 0 ∧ thSel c.sqe = 1)) = true := by decide +kernel

theorem witness_Features_4 :
    (let c : CmdSlot := wSlot (wSqe true 0x09 0 0x09 0x10000 0 0); let n : Nat := 0; let s : State := wIn wHost (wSqe true 0x09 0 0x09 0x10000 0 0); decide (Works s ∧ FetchedAdmin s n 0x09 c ∧ fid c.sqe = 0x09 ∧ featSave c.sqe = false ∧ c.sqe.cdw11.toNat % 65536 < vecShare s c.func)) = true := by decide +kernel

theorem witness_Features_5 :
    (let c : CmdSlot := wSlot (wSqe true 0x09 0 0x08 0x0101 0 0); let n : Nat := 0; let s : State := wIn wHost (wSqe true 0x09 0 0x08 0x0101 0 0); decide (Works s ∧ FetchedAdmin s n 0x09 c ∧ fid c.sqe = 0x08 ∧ featSave c.sqe = false)) = true := by decide +kernel

theorem witness_Features_6 :
    (let c : CmdSlot := wSlot (wSqe true 0x09 0 0x0B 0x08000000 0 0); let n : Nat := 0; let s : State := wIn wHost (wSqe true 0x09 0 0x0B 0x08000000 0 0); decide (Works s ∧ FetchedAdmin s n 0x09 c ∧ fid c.sqe = 0x0B ∧ featSave c.sqe = false)) = true := by decide +kernel

theorem witness_Features_7 :
    (let c : CmdSlot := wSlot (wSqe true 0x09 0 0x0C 0x01 0 0); let n : Nat := 0; let s : State := wIn wHost (wSqe true 0x09 0 0x0C 0x01 0 0); decide (Works s ∧ FetchedAdmin s n 0x09 c ∧ fid c.sqe = 0x0C ∧ featSave c.sqe = false ∧ c.func = 0)) = true := by decide +kernel

theorem witness_Features_8 :
    (let c : CmdSlot := wSlot (wSqe true 0x09 0 0x80000001 0 0 0); let n : Nat := 0; let s : State := wIn wHost (wSqe true 0x09 0 0x80000001 0 0 0); decide (Works s ∧ FetchedAdmin s n 0x09 c ∧ ownFeature (fid c.sqe) = false ∧ (pfFeature (fid c.sqe) = false ∨ c.func = 0) ∧ featSave c.sqe = true)) = true := by decide +kernel

theorem witness_Features_9 :
    (let c : CmdSlot := wSlot (wSqe true 0x09 0 0xD0 0 0 0); let n : Nat := 0; let s : State := wIn wHost (wSqe true 0x09 0 0xD0 0 0 0); decide (Works s ∧ FetchedAdmin s n 0x09 c ∧ featSave c.sqe = false ∧ ownFeature (fid c.sqe) = false ∧ fid c.sqe ∉ [0x01, 0x04, 0x08, 0x09, 0x0B, 0x0C])) = true := by decide +kernel

theorem witness_Features_10 :
    (let c : CmdSlot := wSlot (wSqe true 0x09 0 0x07 0xFFFE0003 0 0); let n : Nat := 0; let s : State := wIn wHost (wSqe true 0x09 0 0x07 0xFFFE0003 0 0); decide (Works s ∧ FetchedAdmin s n 0x09 c ∧ fid c.sqe = 0x07 ∧ featSave c.sqe = false ∧ qpShare s c.func ≠ 0 ∧ dw11 c.sqe % 65536 ≠ 65535 ∧ dw11 c.sqe / 65536 ≠ 65535)) = true := by decide +kernel

theorem witness_Features_11 :
    (let c : CmdSlot := wSlot (wSqe true 0x09 0 0xC1 0x02 0 0); let n : Nat := 0; let s : State := wIn wHost (wSqe true 0x09 0 0xC1 0x02 0 0); decide (Works s ∧ FetchedAdmin s n 0x09 c ∧ fid c.sqe = 0xC1 ∧ featSave c.sqe = false)) = true := by decide +kernel

theorem witness_Features_12 :
    (let c : CmdSlot := wSlot (wSqe true 0x0A 0 0x01 0 0 0); let n : Nat := 0; let s : State := wIn wHost (wSqe true 0x0A 0 0x01 0 0 0); decide (Works s ∧ FetchedAdmin s n 0x0A c ∧ fid c.sqe = 0x01)) = true := by decide +kernel

theorem witness_Features_13 :
    (let c : CmdSlot := wSlot (wSqe true 0x0A 0 0x0B 0 0 0); let n : Nat := 0; let s : State := wIn wHost (wSqe true 0x0A 0 0x0B 0 0 0); decide (Works s ∧ FetchedAdmin s n 0x0A c ∧ fid c.sqe = 0x0B)) = true := by decide +kernel

theorem witness_Features_14 :
    (let c : CmdSlot := wSlot (wSqe true 0x0A 0 0x0E 0 0 0); let n : Nat := 0; let s : State := wIn wHost (wSqe true 0x0A 0 0x0E 0 0 0); decide (Works s ∧ FetchedAdmin s n 0x0A c ∧ fid c.sqe = 0x0E ∧ c.func = 0)) = true := by decide +kernel

theorem witness_Features_15 :
    (let c : CmdSlot := wSlot (wSqe true 0x0A 0 0x02 0 0 0); let n : Nat := 0; let s : State := wIn wHost (wSqe true 0x0A 0 0x02 0 0 0); decide (Works s ∧ FetchedAdmin s n 0x0A c ∧ fid c.sqe = 0x02 ∧ c.func = 0)) = true := by decide +kernel

theorem witness_Features_16 :
    (let c : CmdSlot := wSlot (wSqe true 0x0A 0 0xC1 0 0 0); let n : Nat := 0; let s : State := wIn wHost (wSqe true 0x0A 0 0xC1 0 0 0); decide (Works s ∧ FetchedAdmin s n 0x0A c ∧ fid c.sqe = 0xC1)) = true := by decide +kernel

theorem witness_DeviceFeatures_1 :
    (let c : CmdSlot := wSlot (wSqe true 0x09 0 0x02 1 0 0); let n : Nat := 0; let s : State := wIn wHost (wSqe true 0x09 0 0x02 1 0 0); decide (Works s ∧ FetchedAdmin s n 0x09 c ∧ fid c.sqe = 0x02 ∧ featSave c.sqe = false ∧ c.func = 0 ∧ dw11 c.sqe % 32 ≤ 1 ∧ pmuState s = 0 ∧ s.pmu.flight = .none ∧ s.lrs.perst = false ∧ s.lrs.shelfReset = false ∧ lrsActive s = false ∧ s.dbg.halted = [] ∧ standalone s = true)) = true := by decide +kernel

theorem witness_DeviceFeatures_2 :
    (let c : CmdSlot := wSlot (wSqe true 0x09 0 0x02 3 0 0); let n : Nat := 0; let s : State := wIn wHost (wSqe true 0x09 0 0x02 3 0 0); decide (Works s ∧ FetchedAdmin s n 0x09 c ∧ fid c.sqe = 0x02 ∧ featSave c.sqe = false ∧ c.func = 0 ∧ dw11 c.sqe % 32 = 3 ∧ operational s = true ∧ s.pmu.flight = .none ∧ s.lrs.perst = false ∧ s.lrs.shelfReset = false ∧ lrsActive s = false ∧ s.dbg.halted = [] ∧ standalone s = true)) = true := by decide +kernel

theorem witness_DeviceFeatures_3 :
    (let e : Nat := 0x0003E818; let s : State := putFunc wHost 0 { wFunc with features := { freshFeatures with apstEnable := true, apst := [0x0003E818#64] } }; decide (Powered s ∧ operational s = true ∧ (funcOf s 0).features.apstEnable = true ∧ (listAt 0 (funcOf s 0).features.apst (getF s F.pmuState_ps)).toNat = e ∧ e / 256 % 2 ^ 24 ≠ 0 ∧ getF s F.pmuState_ps < e / 8 % 32 ∧ (e / 8 % 32 = 3 ∨ e / 8 % 32 = 4) ∧ s.pmu.flight = .none ∧ s.lrs.perst = false ∧ s.lrs.shelfReset = false ∧ lrsActive s = false ∧ s.dbg.halted = [] ∧ standalone s = true)) = true := by decide +kernel

theorem witness_DeviceFeatures_4 :
    (let c : CmdSlot := wSlot (wSqe true 0x09 0 0x0E 0 0 0); let n : Nat := 0; let s : State := wIn wHost (wSqe true 0x09 0 0x0E 0 0 0); decide (Works s ∧ FetchedAdmin s n 0x09 c ∧ fid c.sqe = 0x0E ∧ featSave c.sqe = false ∧ c.func = 0 ∧ joined s = [] ∧ getF s F.mhmOffest_state ≠ 3 ∧ (getF s F.mhmOffest_state ≠ 2 ∨ s.age.stampNew.isSome = true ∨ s.clk.us ≤ s.age.surveyed + 1000000 * getF s F.mhmOffest_tsWait))) = true := by decide +kernel

theorem witness_DeviceFeatures_5 :
    (let c : CmdSlot := wSlot (wSqe true 0x09 0 0xC0 0x40000064 0 0); let n : Nat := 0; let s : State := wIn wHost (wSqe true 0x09 0 0xC0 0x40000064 0 0); decide (Works s ∧ FetchedAdmin s n 0x09 c ∧ fid c.sqe = 0xC0 ∧ featSave c.sqe = false ∧ c.func = 0 ∧ joined s = [] ∧ dw11 c.sqe % 2 ^ 24 ≠ 0 ∧ s.vfm.stopAll = false)) = true := by decide +kernel

theorem witness_DeviceFeatures_6 :
    (let c : CmdSlot := wSlot (wSqe true 0x09 0 0xC0 0x40000064 0 0); let n : Nat := 0; let s : State := { wIn wHost (wSqe true 0x09 0 0xC0 0x40000064 0 0) with vfm := { wHost.vfm with stopAll := true } }; decide (Works s ∧ FetchedAdmin s n 0x09 c ∧ fid c.sqe = 0xC0 ∧ featSave c.sqe = false ∧ c.func = 0 ∧ dw11 c.sqe % 2 ^ 24 ≠ 0 ∧ s.vfm.stopAll = true)) = true := by decide +kernel

theorem witness_Events_1 :
    (let c : CmdSlot := wSlot (wSqe true 0x0C 0 0 0 0 0); let n : Nat := 0; let s : State := wIn wHost (wSqe true 0x0C 0 0 0 0 0); decide (Works s ∧ FetchedAdmin s n 0x0C c ∧ (funcOf s c.func).aers.length < 4 ∧ (funcOf s c.func).pendingEvents = [])) = true := by decide +kernel

theorem witness_Events_2 :
    (let c : CmdSlot := wSlot (wSqe true 0x0C 0 0 0 0 0); let n : Nat := 0; let s : State := putFunc (wIn wHost (wSqe true 0x0C 0 0 0 0 0)) 0 { wFunc with aers := [1, 2, 3, 4] }; decide (Works s ∧ FetchedAdmin s n 0x0C c ∧ 4 ≤ (funcOf s c.func).aers.length)) = true := by decide +kernel

theorem witness_Events_3 :
    (let f : Nat := 0; let e : AsyncEvent := .retentionStatus; let s : State := wHost; decide (Works s ∧ funcExists s f = true ∧ eventEnabled (funcOf s f) e = true ∧ (funcOf s f).masked.any (sameKind e) = false ∧ (funcOf s f).pendingEvents.contains e = false ∧ (funcOf s f).aers = [])) = true := by decide +kernel

theorem witness_Events_4 :
    (let f : Nat := 0; let cid : Nat := 9; let rest : List Nat := []; let e : AsyncEvent := .hostInterfaceEvents; let s : State := putFunc wHost 0 { wFunc with aers := [9] }; decide (Works s ∧ funcExists s f = true ∧ eventEnabled (funcOf s f) e = true ∧ (funcOf s f).masked.any (sameKind e) = false ∧ (funcOf s f).pendingEvents = [] ∧ (funcOf s f).aers = cid :: rest ∧ (queueStopped s f 0 = false ∨ quietNow s = false) ∧ ((spFind (funcOf s f).cqs 0).any fun q => !cqFull q) = true)) = true := by decide +kernel

theorem witness_Events_5 :
    (let c : CmdSlot := wSlot (wSqe true 0x14 0 1 0 0 0); let n : Nat := 0; let s : State := wIn wHost (wSqe true 0x14 0 1 0 0 0); decide (Works s ∧ FetchedAdmin s n 0x14 c ∧ dw10 c.sqe % 16 = 1)) = true := by decide +kernel

theorem witness_Events_6 :
    (let c : CmdSlot := wSlot (wSqe true 0x1D 0 0 3 2 5); let n : Nat := 0; let s : State := wIn wHost (wSqe true 0x1D 0 0 3 2 5); decide (Works s ∧ FetchedAdmin s n 0x1D c ∧ miOpc c.sqe = 3 ∧ (dw12 c.sqe % 256 = 1 ∨ dw12 c.sqe % 256 = 2))) = true := by decide +kernel

theorem witness_Events_7 :
    (let c : CmdSlot := wSlot (wSqe true 0x1E 0 0 4 3 0); let n : Nat := 0; let s : State := wIn wHost (wSqe true 0x1E 0 0 4 3 0); decide (Works s ∧ FetchedAdmin s n 0x1E c ∧ miOpc c.sqe = 4 ∧ dw12 c.sqe % 256 = 3)) = true := by decide +kernel

theorem witness_Events_8 :
    (let c : CmdSlot := wSlot (wSqe true 0x1E 0 0 4 1 0); let n : Nat := 0; let s : State := wIn wHost (wSqe true 0x1E 0 0 4 1 0); decide (Works s ∧ FetchedAdmin s n 0x1E c ∧ miOpc c.sqe = 4 ∧ (dw12 c.sqe % 256 = 1 ∨ dw12 c.sqe % 256 = 2))) = true := by decide +kernel

theorem witness_Namespaces_1 :
    (let c : CmdSlot := wSlot (wSqe true 0x0D 0 0 0 0 0); let n : Nat := 0; let s : State := wIn { wHost with nss := wNss } (wSqe true 0x0D 0 0 0 0 0); let data : NsCreate := ⟨3 * 2 ^ 20, 0, 1, 2, 2, true⟩; let tr : Tier := .d5; let base : Nat := 4; decide (Works s ∧ FetchedAdmin s n 0x0D c ∧ nsSel c.sqe = 0 ∧ tierOf (data.defTier.toNat % 4) = some tr ∧ data.nsze ≠ 0 ∧ data.nsze % 2 ^ 20 = 0 ∧ data.flbas = 0 ∧ data.defTier.toNat < 4 ∧ data.reservedZero = true ∧ data.marCap ≠ 0 ∧ data.morCap ≠ 0 ∧ lowestRange s (data.nsze / 2 ^ 20) = some base ∧ spFree s.nss 4096 1 ≤ 4096 ∧ standalone s = true)) = true := by decide +kernel

theorem witness_Namespaces_2 :
    (let c : CmdSlot := wSlot (wSqe true 0x0D 1 1 0 0 0); let n : Nat := 0; let s : State := wIn { wHost with nss := wNss, tkr := { wHost.tkr with slots := [(0, 9#256)] } } (wSqe true 0x0D 1 1 0 0 0); let i : Nat := 1; let ns : Namespace := wNs; decide (Works s ∧ FetchedAdmin s n 0x0D c ∧ nsSel c.sqe = 1 ∧ c.sqe.nsid = i ∧ 0 < i ∧ i < 4097 ∧ spFind s.nss i = some ns ∧ (ns.attached = some 0 ∨ ns.attached = none) ∧ nsZones s ns = [] ∧ standalone s = true ∧ (∀ kv ∈ s.hif.slots, kv.2.nsid ≠ i ∨ isAdmitted kv.2 = false) ∧ c.zones = [])) = true := by decide +kernel

theorem witness_Namespaces_3 :
    (let c : CmdSlot := wSlot (wSqe true 0x15 2 0 0 0 0); let n : Nat := 0; let s : State := wIn { wHost with nss := wNss } (wSqe true 0x15 2 0 0 0 0); let i : Nat := 2; let f : Nat := 0; let ns : Namespace := ⟨10, 2, .d5, 4, 4, none, 0, none⟩; decide (Works s ∧ FetchedAdmin s n 0x15 c ∧ nsSel c.sqe = 0 ∧ c.sqe.nsid = i ∧ spFind s.nss i = some ns ∧ stagedOwner s i = none ∧ f ≤ 4096 ∧ (f = 0 ∨ (funcExists s f = true ∧ funcStopped s f = true ∧ s.vfm.stopAll = false ∧ (s.nss.any fun kv => kv.1 != i && stagedOwner s kv.1 == some f) = false)) ∧ standalone s = true)) = true := by decide +kernel

theorem witness_Namespaces_4 :
    (let c : CmdSlot := wSlot (wSqe true 0x15 1 1 0 0 0); let n : Nat := 0; let s : State := wIn { wHost with nss := wNss } (wSqe true 0x15 1 1 0 0 0); let i : Nat := 1; let f : Nat := 0; let ns : Namespace := wNs; decide (Works s ∧ FetchedAdmin s n 0x15 c ∧ nsSel c.sqe = 1 ∧ c.sqe.nsid = i ∧ spFind s.nss i = some ns ∧ stagedOwner s i = some f ∧ f ≤ 4096 ∧ (f = 0 ∨ (funcExists s f = true ∧ funcStopped s f = true ∧ s.vfm.stopAll = false)) ∧ standalone s = true)) = true := by decide +kernel

theorem witness_Namespaces_5 :
    (let c : CmdSlot := wSlot (wSqe true 0x15 2 0 0 0 0); let n : Nat := 0; let s : State := wIn { wVf with vfm := { wVf.vfm with stopAll := true } } (wSqe true 0x15 2 0 0 0 0); let i : Nat := 2; let f : Nat := 1; decide (Works s ∧ FetchedAdmin s n 0x15 c ∧ nsSel c.sqe = 0 ∧ c.sqe.nsid = i ∧ (spFind s.nss i).isSome = true ∧ stagedOwner s i = none ∧ 0 < f ∧ f ≤ 4096 ∧ funcExists s f = true ∧ funcStopped s f = true ∧ s.vfm.stopAll = true ∧ (s.nss.any fun kv => kv.1 != i && stagedOwner s kv.1 == some f) = false)) = true := by decide +kernel

theorem witness_Controllers_1 :
    (let c : CmdSlot := wSlot (wSqe true 0x1C 0 0x00020007 0 0 0); let n : Nat := 0; let s : State := wIn wVf (wSqe true 0x1C 0 0x00020007 0 0 0); decide (Works s ∧ FetchedAdmin s n 0x1C c ∧ virtAct c.sqe = 7 ∧ virtCntl c.sqe ≠ 0 ∧ funcExists s (virtCntl c.sqe) = true ∧ c.func = 0 ∧ (∀ kv ∈ s.hif.slots, kv.2.func ≠ virtCntl c.sqe))) = true := by decide +kernel

theorem witness_Controllers_2 :
    (let c : CmdSlot := wSlot (wSqe true 0x1C 0 0x00010009 0 0 0); let n : Nat := 0; let s : State := wIn wVf (wSqe true 0x1C 0 0x00010009 0 0 0); decide (Works s ∧ FetchedAdmin s n 0x1C c ∧ virtAct c.sqe = 9 ∧ virtCntl c.sqe ≠ 0 ∧ funcExists s (virtCntl c.sqe) = true ∧ (funcOf s (virtCntl c.sqe)).stop.frozen = false ∧ s.hif.waiting = [] ∧ (∀ f ∈ funcsOf s, (funcOf s f).pendingEvents = []))) = true := by decide +kernel

theorem witness_Controllers_3 :
    (let c : CmdSlot := wSlot (wSqe true 0x1C 0 0x00010009 0 0 0); let n : Nat := 0; let s : State := wIn (putFunc wVf 1 { noFunc with stop := ⟨false, true, true, false, false⟩ }) (wSqe true 0x1C 0 0x00010009 0 0 0); decide (Works s ∧ FetchedAdmin s n 0x1C c ∧ virtAct c.sqe = 9 ∧ virtCntl c.sqe ≠ 0 ∧ funcExists s (virtCntl c.sqe) = true ∧ (funcOf s (virtCntl c.sqe)).stop.frozen = true)) = true := by decide +kernel

theorem witness_Controllers_4 :
    (let s : State := w0; decide (Powered s ∧ domainOn s .host = true)) = true := by decide +kernel

theorem witness_Controllers_5 :
    (let s : State := w0; let f : Nat := 0; let p : Nat := 512; let r : Nat := 1024; let us : Option Nat := some 200; decide (Powered s ∧ domainOn s .host = true ∧ funcExists s f = true ∧ p ∈ [128, 256, 512] ∧ r ∈ [128, 256, 512, 1024, 2048, 4096] ∧ (us.all fun n => decide (50 ≤ n ∧ n ≤ 64000000)) = true)) = true := by decide +kernel

theorem witness_Controllers_6 :
    (let s : State := w0; let f : Nat := 0; let n : Nat := 4096; let item : ConfigItem := .totalVfs; decide (Powered s ∧ domainOn s .host = true ∧ funcExists s f = true ∧ configValue s f item = some n)) = true := by decide +kernel

theorem witness_Controllers_7 :
    (let s : State := w0; let f : Nat := 0; decide (Powered s ∧ domainOn s .host = true ∧ funcExists s f = true)) = true := by decide +kernel

theorem witness_Controllers_8 :
    (let s : State := { w0 with pmu := { w0.pmu with on := [.sec] } }; decide (Powered s ∧ domainOn s .host = false)) = true := by decide +kernel

theorem witness_Controllers_9 :
    (let s : State := w0; let f : Nat := 0; let cc : DWord := 0x460001; decide (Works s ∧ funcExists s f = true ∧ (funcOf s f).stop.frozen = false ∧ ccEn (funcOf s f) = false ∧ cc.getLsbD 0 = true)) = true := by decide +kernel

theorem witness_Controllers_10 :
    (let s : State := wHost; let f : Nat := 0; decide (Works s ∧ funcExists s f = true ∧ (funcOf s f).stop.frozen = false ∧ ccEn (funcOf s f) = true ∧ (∀ kv ∈ s.hif.slots, kv.2.func ≠ f) ∧ s.zrs.cam = [])) = true := by decide +kernel

theorem witness_Controllers_11 :
    (let s : State := wFrozen; let f : Nat := 1; decide (Powered s ∧ 0 < f ∧ funcExists s f = true ∧ s.vfm.migOp = none ∧ (∀ kv ∈ s.hif.slots, kv.2.func ≠ f) ∧ s.zrs.cam = [])) = true := by decide +kernel

theorem witness_Controllers_12 :
    (let s : State := { wHost with vfm := { wHost.vfm with vfEnableWritten := true, numVfsWritten := 3 } }; decide (Powered s ∧ s.vfm.vfEnable = false ∧ s.vfm.startWaits = false ∧ s.vfm.migOp = none ∧ (∀ kv ∈ s.hif.slots, kv.2.func ≠ 0) ∧ s.zrs.cam = [])) = true := by decide +kernel

theorem witness_Controllers_13 :
    (let s : State := { wHost with vfm := { wHost.vfm with startWaits := true } }; decide (Powered s ∧ s.vfm.startWaits = true)) = true := by decide +kernel

theorem witness_Controllers_14 :
    (let s : State := wHost; let f : Nat := 0; let shn : Nat := 2; decide (Works s ∧ funcExists s f = true ∧ (shn = 1 ∨ shn = 2) ∧ (funcOf s f).stop.frozen = false ∧ s.hif.slots = [])) = true := by decide +kernel

theorem witness_StopChangeStart_1 :
    (let s : State := wVf; decide (Works s ∧ s.vfm.stopAll = false ∧ (∀ kv ∈ s.hif.slots, isAdmitted kv.2 = true))) = true := by decide +kernel

theorem witness_StopChangeStart_2 :
    (let s : State := { wVf with vfm := { wVf.vfm with stopAll := true, stagedAttach := [⟨2, 1, true⟩], stagedClasses := [(1, 9)] } }; decide (Works s ∧ flag s F.vfmReconf_start = false ∧ entering s = false ∧ startError s = 0 ∧ s.vfm.vfEnableWritten = s.vfm.vfEnable ∧ s.vfm.numVfsWritten = s.vfm.numVfs ∧ s.hif.waiting = [] ∧ (s.jrn.waiting ≠ [] ∨ ∀ kv ∈ s.hif.slots, kv.2.phase ≠ .waitStart))) = true := by decide +kernel

theorem witness_StopChangeStart_3 :
    (let s : State := { wHost with vfm := { wHost.vfm with stopAll := true, vfEnableWritten := true, numVfsWritten := 3 } }; decide (Works s ∧ flag s F.vfmReconf_start = false ∧ entering s = false ∧ startError s = 0 ∧ s.vfm.vfEnable = false ∧ s.vfm.vfEnableWritten = true ∧ s.vfm.stagedAttach = [] ∧ s.hif.waiting = [] ∧ (∀ kv ∈ s.hif.slots, kv.2.phase ≠ .waitStart))) = true := by decide +kernel

theorem witness_StopChangeStart_4 :
    (let s : State := wVf; decide (Works s ∧ flag s F.vfmReconf_start = false ∧ entering s = false ∧ startError s ≠ 0)) = true := by decide +kernel

theorem witness_StopChangeStart_5 :
    (let s : State := { wVf with pmu := { wVf.pmu with flight := .drain } }; decide (Works s ∧ entering s = true ∧ flag s F.vfmReconf_start = false)) = true := by decide +kernel

theorem witness_StopChangeStart_6 :
    (let s : State := wVf; decide (Works s ∧ s.vfm.migOp = none)) = true := by decide +kernel

theorem witness_StopChangeStart_7 :
    (let s : State := { wVf with vfm := { wVf.vfm with migOp := some (.freeze, 1) } }; let f : Nat := 1; decide (Works s ∧ s.vfm.migOp = some (.freeze, f) ∧ vfQuiet s f = true)) = true := by decide +kernel

theorem witness_Migration_1 :
    (let s : State := wVf; let vf : Nat := 1; decide (Works s ∧ flag s F.vfmMigCtrl_go = false ∧ isVf s vf = true ∧ (funcOf s vf).stop.frozen = false ∧ (∀ kv ∈ s.hif.slots, kv.2.func ≠ vf))) = true := by decide +kernel

theorem witness_Migration_2 :
    (let s : State := wFrozen; let vf : Nat := 1; decide (Works s ∧ flag s F.vfmMigCtrl_go = false ∧ isVf s vf = true ∧ (funcOf s vf).stop.frozen = true)) = true := by decide +kernel

theorem witness_Migration_3 :
    (let s : State := wVf; let vf : Nat := 1; decide (Works s ∧ flag s F.vfmMigCtrl_go = false ∧ (isVf s vf = false ∨ (funcOf s vf).stop.frozen = false))) = true := by decide +kernel

theorem witness_Migration_4 :
    (let s : State := wTiny; let vf : Nat := 1; let pages : Nat := 1; let mk : List Byte := beBytes 32 5; decide (Works s ∧ flag s F.vfmMigCtrl_go = false ∧ isVf s vf = true ∧ (funcOf s vf).stop.frozen = true ∧ pages ≠ 0 ∧ imageLength (qpShare s vf) (vecShare s vf) false ≤ pages * 4096 ∧ keyBytes s slotMigration = some mk ∧ standalone s = true)) = true := by decide +kernel

theorem witness_Migration_5 :
    (let s : State := setF wFrozen F.vfmShare_vec 128; let vf : Nat := 1; let pages : Nat := 1; let ke : Bool := false; decide (Works s ∧ flag s F.vfmMigCtrl_go = false ∧ isVf s vf = true ∧ (funcOf s vf).stop.frozen = true ∧ pages ≠ 0 ∧ pages * 4096 < imageLength (qpShare s vf) (vecShare s vf) ke)) = true := by decide +kernel

theorem witness_Migration_6 :
    (let s : State := wStopped; let vf : Nat := 1; let pages : Nat := 1; let image : List Byte := wImage; decide (Works s ∧ flag s F.vfmMigCtrl_go = false ∧ isVf s vf = true ∧ ((funcOf s vf).stop.byOffline || (funcOf s vf).stop.byStopAll) = true ∧ (funcOf s vf).stop.frozen = false ∧ pages ≠ 0 ∧ imageError s vf pages image = 0 ∧ (leAt image 0x10 8 ≠ s.otp.devUid.toNat ∨ (funcOf s (leAt image 0x0C 2 % 8192)).stop.frozen = false) ∧ (s.nss.find? fun kv => kv.2.attached == some vf) = none ∧ leAt image (192 + 32 * (leAt image 0x20 1 % 128) + 16 * leAt image 0x21 1 + 8) 4 % 2 ^ 18 = 0 ∧ bitAt (leAt image 4 4) 16 = false ∧ s.jrn.waiting = [])) = true := by decide +kernel

theorem witness_Migration_7 :
    (let s : State := wStopped; let vf : Nat := 1; let pages : Nat := 1; let image : List Byte := [1]; decide (Works s ∧ flag s F.vfmMigCtrl_go = false ∧ isVf s vf = true ∧ ((funcOf s vf).stop.byOffline || (funcOf s vf).stop.byStopAll) = true ∧ (funcOf s vf).stop.frozen = false ∧ pages ≠ 0 ∧ imageError s vf pages image ≠ 0)) = true := by decide +kernel

theorem witness_Migration_8 :
    (let s : State := setBit wVf F.vfmMigCtrl_go; decide (Works s ∧ flag s F.vfmMigCtrl_go = true)) = true := by decide +kernel

theorem witness_IoChecks_1 :
    (let n : Nat := 0; let c : CmdSlot := wIo 0x02 0x300004 1 0; let nsid : Nat := 1; let ns : Namespace := wNs; let s : State := putSlot wZone 0 (wIo 0x02 0x300004 1 0); decide (Passes s n .read c nsid ns ∧ slba c.sqe % 2 ^ 20 + nlb c.sqe ≤ 2 ^ 20)) = true := by decide +kernel

theorem witness_IoChecks_2 :
    (let n : Nat := 0; let c : CmdSlot := wIo 0x0C 0x300004 1 0; let nsid : Nat := 1; let ns : Namespace := wNs; let s : State := putSlot wZone 0 (wIo 0x0C 0x300004 1 0); decide (Passes s n .verify c nsid ns ∧ slba c.sqe % 2 ^ 20 + nlb c.sqe ≤ 2 ^ 20)) = true := by decide +kernel

theorem witness_IoChecks_3 :
    (let n : Nat := 0; let c : CmdSlot := wIo 0x01 0x300004 1 0; let nsid : Nat := 1; let ns : Namespace := wNs; let s : State := putSlot wZone 0 (wIo 0x01 0x300004 1 0); decide (Passes s n .write c nsid ns)) = true := by decide +kernel

theorem witness_IoChecks_4 :
    (let n : Nat := 0; let c : CmdSlot := wIo 0x7D 0x300000 1 0; let nsid : Nat := 1; let ns : Namespace := wNs; let s : State := putSlot wZone 0 (wIo 0x7D 0x300000 1 0); decide (Passes s n .append c nsid ns)) = true := by decide +kernel

theorem witness_IoChecks_5 :
    (let n : Nat := 0; let c : CmdSlot := wIo 0x81 0x300000 1 0; let nsid : Nat := 1; let ns : Namespace := wNs; let s : State := putSlot wZone 0 (wIo 0x81 0x300000 1 0); decide (Passes s n .placedAppend c nsid ns)) = true := by decide +kernel

theorem witness_IoChecks_6 :
    (let n : Nat := 0; let c : CmdSlot := wIo 0x85 0x300000 0 0; let nsid : Nat := 1; let ns : Namespace := wNs; let s : State := putSlot wZone 0 (wIo 0x85 0x300000 0 0); decide (Passes s n .openTiered c nsid ns)) = true := by decide +kernel

theorem witness_IoChecks_7 :
    (let n : Nat := 0; let c : CmdSlot := wIo 0x79 0x300000 0 3; let nsid : Nat := 1; let ns : Namespace := wNs; let s : State := putSlot wZone 0 (wIo 0x79 0x300000 0 3); decide (Passes s n .open c nsid ns)) = true := by decide +kernel

theorem witness_IoChecks_8 :
    (let n : Nat := 0; let c : CmdSlot := wIo 0x79 0x300000 0 1; let nsid : Nat := 1; let ns : Namespace := wNs; let s : State := putSlot wZone 0 (wIo 0x79 0x300000 0 1); decide (Passes s n .close c nsid ns)) = true := by decide +kernel

theorem witness_IoChecks_9 :
    (let n : Nat := 0; let c : CmdSlot := wIo 0x79 0x300000 0 2; let nsid : Nat := 1; let ns : Namespace := wNs; let s : State := putSlot wZone 0 (wIo 0x79 0x300000 0 2); decide (Passes s n .finish c nsid ns)) = true := by decide +kernel

theorem witness_IoChecks_10 :
    (let n : Nat := 0; let c : CmdSlot := wIo 0x79 0x300000 0 4; let nsid : Nat := 1; let ns : Namespace := wNs; let s : State := putSlot wZone 0 (wIo 0x79 0x300000 0 4); decide (Passes s n .reset c nsid ns)) = true := by decide +kernel

theorem witness_IoChecks_11 :
    (let n : Nat := 0; let c : CmdSlot := wIo 0x79 0x300000 0 5; let nsid : Nat := 1; let ns : Namespace := wNs; let s : State := putSlot wZone 0 (wIo 0x79 0x300000 0 5); decide (Passes s n .offline c nsid ns)) = true := by decide +kernel

theorem witness_IoChecks_12 :
    (let n : Nat := 0; let c : CmdSlot := wIo 0x02 0x2FFFFF 1 0; let nsid : Nat := 1; let ns : Namespace := wNs; let s : State := putSlot wZone 0 (wIo 0x02 0x2FFFFF 1 0); decide (Passes s n .read c nsid ns ∧ 2 ^ 20 < slba c.sqe % 2 ^ 20 + nlb c.sqe)) = true := by decide +kernel

theorem witness_IoChecks_13 :
    (let n : Nat := 0; let c : CmdSlot := wIo 0x0C 0x2FFFFF 1 0; let nsid : Nat := 1; let ns : Namespace := wNs; let s : State := putSlot wZone 0 (wIo 0x0C 0x2FFFFF 1 0); decide (Passes s n .verify c nsid ns ∧ 2 ^ 20 < slba c.sqe % 2 ^ 20 + nlb c.sqe)) = true := by decide +kernel

theorem witness_IoCheckFailures_1 :
    (let n : Nat := 0; let c : CmdSlot := wIo 0x7D 0x300004 1 0; let s : State := putSlot wZone 0 (wIo 0x7D 0x300004 1 0); let x : CmdKind × Instr := (.append, .zoneAppend 0); decide (x ∈ ioRows n ∧ Works s ∧ FetchedIo s n x.1 c ∧ badField s c.sqe = true)) = true := by decide +kernel

theorem witness_IoCheckFailures_2 :
    (let n : Nat := 0; let c : CmdSlot := wIo 0x02 0x300004 1 0; let s : State := putSlot wHost 0 (wIo 0x02 0x300004 1 0); let x : CmdKind × Instr := (.read, .read 0); decide (x ∈ ioRows n ∧ Works s ∧ FetchedIo s n x.1 c ∧ badField s c.sqe = false ∧ nsOf s c.func c.sqe.nsid = none)) = true := by decide +kernel

theorem witness_IoCheckFailures_3 :
    (let n : Nat := 0; let c : CmdSlot := wIo 0x02 0x400000 1 0; let s : State := putSlot wZone 0 (wIo 0x02 0x400000 1 0); let x : CmdKind × Instr := (.read, .read 0); let nsid : Nat := 1; let ns : Namespace := wNs; decide (x ∈ ioRows n ∧ Works s ∧ FetchedIo s n x.1 c ∧ badField s c.sqe = false ∧ nsOf s c.func c.sqe.nsid = some (nsid, ns) ∧ 0 < rangeBlocks c.sqe ∧ ns.count * 2 ^ 20 < slba c.sqe + rangeBlocks c.sqe)) = true := by decide +kernel

theorem witness_IoCheckFailures_4 :
    (let n : Nat := 0; let c : CmdSlot := wIo 0x02 0x300000 256 0; let s : State := putSlot wZone 0 (wIo 0x02 0x300000 256 0); let x : CmdKind × Instr := (.read, .read 0); let nsid : Nat := 1; let ns : Namespace := wNs; decide (x ∈ ioRows n ∧ Works s ∧ FetchedIo s n x.1 c ∧ badField s c.sqe = false ∧ nsOf s c.func c.sqe.nsid = some (nsid, ns) ∧ ¬(0 < rangeBlocks c.sqe ∧ ns.count * 2 ^ 20 < slba c.sqe + rangeBlocks c.sqe) ∧ tooLarge c.sqe = true)) = true := by decide +kernel

theorem witness_IoCheckFailures_5 :
    (let n : Nat := 0; let c : CmdSlot := wIo 0x02 0x300004 1 0; let s : State := { putSlot wZone 0 (wIo 0x02 0x300004 1 0) with hif := { (putSlot wZone 0 (wIo 0x02 0x300004 1 0)).hif with sanitize := { wZone.hif.sanitize with failureMode := true } } }; let x : CmdKind × Instr := (.read, .read 0); let nsid : Nat := 1; let ns : Namespace := wNs; decide (x ∈ ioRows n ∧ Works s ∧ FetchedIo s n x.1 c ∧ nsOf s c.func c.sqe.nsid = some (nsid, ns) ∧ ioCheck s c (some ns) = none ∧ s.hif.sanitize.failureMode = true)) = true := by decide +kernel

theorem witness_IoCheckFailures_6 :
    (let n : Nat := 0; let c : CmdSlot := wIo 0x02 0x300004 1 0; let s : State := putSlot (putFunc wZone 0 { wFunc with stop := ⟨true, false, false, false, false⟩ }) 0 (wIo 0x02 0x300004 1 0); let x : CmdKind × Instr := (.read, .read 0); let nsid : Nat := 1; let ns : Namespace := wNs; decide (x ∈ ioRows n ∧ Works s ∧ FetchedIo s n x.1 c ∧ genericCheck s c = none ∧ nsOf s c.func c.sqe.nsid = some (nsid, ns) ∧ queueStopped s c.func c.sqid = true)) = true := by decide +kernel

theorem witness_IoCheckFailures_7 :
    (let n : Nat := 0; let c : CmdSlot := wIo 0x02 0x300004 1 0; let s : State := putSlot { wZone with nss := [(1, { wNs with base := 245760 })], straps := { wZone.straps with role := 1 } } 0 (wIo 0x02 0x300004 1 0); let x : CmdKind × Instr := (.read, .read 0); let nsid : Nat := 1; let ns : Namespace := { wNs with base := 245760 }; decide (x ∈ ioRows n ∧ Works s ∧ FetchedIo s n x.1 c ∧ genericCheck s c = none ∧ nsOf s c.func c.sqe.nsid = some (nsid, ns) ∧ queueStopped s c.func c.sqid = false ∧ memberLost s (zoneHome s (ns.base + slba c.sqe / 2 ^ 20)).1 = true ∧ selectAll c.sqe = false)) = true := by decide +kernel

theorem witness_Resolve_1 :
    (let n : Nat := 0; let c : CmdSlot := wCk .append 0x7D 0x300000 1 0 .checked; let ns : Namespace := wNs; let s : State := putSlot wZone 0 (wCk .append 0x7D 0x300000 1 0 .checked); let pzn : Nat := 5; let z : ZstEntry := wZst; decide (CanReserve s n .checked c ns pzn z)) = true := by decide +kernel

theorem witness_Resolve_2 :
    (let n : Nat := 0; let c : CmdSlot := wCk .write 0x01 0x300000 1 0 .checked; let ns : Namespace := wNs; let s : State := putSlot { wZone with zrs := { wZone.zrs with zst := [(5, sealedZst { wZst with state := .full })] } } 0 (wCk .write 0x01 0x300000 1 0 .checked); let st : Status := .zoneIsFull; decide (Resolves s n .checked c ns ∧ Bare s n c ∧ isWriteKind c.kind = true ∧ ((zmapOf s c.ezn).bound = false ∨ onChip s c.ezn = true) ∧ writeRefusal (zoneState s c.ezn) = some st)) = true := by decide +kernel

theorem witness_Resolve_3 :
    (let n : Nat := 0; let c : CmdSlot := { wCk .read 0x02 0x200000 1 0 .ready with reserved := 2 }; let ns : Namespace := wNs; let s : State := wReadZeros; decide (Resolves s n .ready c ns ∧ c.kind = .read ∧ zmapOf s c.ezn = ⟨(zmapOf s c.ezn).pzn, false, false, (zmapOf s c.ezn).epoch⟩ ∧ keyLoaded s c.nsid = true ∧ c.reserved = c.blocks ∧ c.blocks ≠ 0 ∧ Bare s n { c with reserved := 0 })) = true := by decide +kernel

theorem witness_Resolve_4 :
    (let n : Nat := 0; let c : CmdSlot := wCk .open 0x79 0x300000 0 3 .checked; let ns : Namespace := wNs; let pzn : Nat := 5; let s : State := putSlot { wDies with zrs := { wDies.zrs with ready := [(0, [5])] } } 0 (wCk .open 0x79 0x300000 0 3 .checked); decide (Resolves s n .checked c ns ∧ c.kind = .open ∧ zmapOf s c.ezn = ⟨(zmapOf s c.ezn).pzn, false, false, (zmapOf s c.ezn).epoch⟩ ∧ activeRoom s c.nsid ns (bindingTier s ns.defTier) = true ∧ openOfFunc s c.func < ctxShare s c.func ∧ openOfNs s c.nsid < ns.morCap ∧ findReady s ns (bindingTier s ns.defTier) none 0 = some pzn ∧ s.zrs.linger = [] ∧ (s.cph.ctxs.filter fun kv => kv.2.resident).length < 512)) = true := by decide +kernel

theorem witness_Resolve_5 :
    (let n : Nat := 0; let c : CmdSlot := wCk .close 0x79 0x300000 0 1 .checked; let ns : Namespace := wNs; let s : State := putSlot wZone 0 (wCk .close 0x79 0x300000 0 1 .checked); let pzn : Nat := 5; let z : ZstEntry := wZst; decide (Resolves s n .checked c ns ∧ c.kind = .close ∧ boundZone s c.ezn = some (pzn, z) ∧ (zmapOf s c.ezn).retired = false ∧ isOpenState z.state = true ∧ z.wpPhys ≠ 0 ∧ s.tkr.retired = [])) = true := by decide +kernel

theorem witness_Resolve_6 :
    (let n : Nat := 0; let c : CmdSlot := wCk .reset 0x79 0x200000 0 4 .checked; let ns : Namespace := wNs; let s : State := putSlot wZone 0 (wCk .reset 0x79 0x200000 0 4 .checked); decide (Resolves s n .checked c ns ∧ Bare s n c ∧ c.kind = .reset ∧ zmapOf s c.ezn = ⟨(zmapOf s c.ezn).pzn, false, false, (zmapOf s c.ezn).epoch⟩ ∧ waitingOf s c.ezn = [])) = true := by decide +kernel

theorem witness_Resolve_7 :
    (let n : Nat := 0; let c : CmdSlot := wCk .reset 0x79 0x300000 0 4 .checked; let ns : Namespace := wNs; let s : State := putSlot { wZone with zrs := { wZone.zrs with ops := [(3, ⟨true, none⟩)] } } 0 (wCk .reset 0x79 0x300000 0 4 .checked); decide (Works s ∧ slotOf s n = some c ∧ c.phase = .checked ∧ c.kind = .reset ∧ c.remote = none ∧ selectAll c.sqe = false ∧ slotNs s c = some ns ∧ s.hif.admissionStopped = false ∧ (zoneBusy s c.ezn = true ∨ (standsBehind s n c c.ezn = true ∧ ∀ k ∈ s.zrs.held, k ≠ n → (slotOf s k).map CmdSlot.ezn ≠ some c.ezn)))) = true := by decide +kernel

theorem witness_Resolve_8 :
    (let n : Nat := 0; let c : CmdSlot := wCk .reset 0x79 0x300000 0 4 .checked; let s : State := putSlot { wZone with zrs := { wZone.zrs with cam := [] } } 0 (wCk .reset 0x79 0x300000 0 4 .checked); decide (Works s ∧ slotOf s n = some c ∧ resolvable c = true ∧ Bare s n c ∧ s.hif.admissionStopped = false ∧ (zmapOf s c.ezn).bound = true ∧ c.remote = none ∧ zoneBusy s c.ezn = false ∧ standsBehind s n c c.ezn = false ∧ onChip s c.ezn = false ∧ flag s F.zrsErr_zstCrc = false)) = true := by decide +kernel

theorem witness_Resolve_9 :
    (let n : Nat := 0; let c : CmdSlot := wCk .append 0x7D 0x300000 1 0 .waitHorizon; let ns : Namespace := wNs; let s : State := putSlot wZone 0 (wCk .append 0x7D 0x300000 1 0 .waitHorizon); let pzn : Nat := 5; let z : ZstEntry := wZst; decide (CanReserve s n .waitHorizon c ns pzn z ∧ waitingOf s c.ezn = [])) = true := by decide +kernel

theorem witness_Resolve_10 :
    (let n : Nat := 0; let c : CmdSlot := wCk .write 0x01 0x300008 1 0 .waitDieQueue; let ns : Namespace := wNs; let s : State := putSlot wZone 0 (wCk .write 0x01 0x300008 1 0 .waitDieQueue); let pzn : Nat := 5; let z : ZstEntry := wZst; decide (CanReserve s n .waitDieQueue c ns pzn z)) = true := by decide +kernel

theorem witness_Resolve_11 :
    (let n : Nat := 0; let c : CmdSlot := wCk .open 0x79 0x300000 0 3 .waitReady; let ns : Namespace := wNs; let pzn : Nat := 5; let s : State := putSlot { wDies with zrs := { wDies.zrs with ready := [(0, [5])] } } 0 (wCk .open 0x79 0x300000 0 3 .waitReady); decide (Resolves s n .waitReady c ns ∧ c.kind = .open ∧ zmapOf s c.ezn = ⟨(zmapOf s c.ezn).pzn, false, false, (zmapOf s c.ezn).epoch⟩ ∧ activeRoom s c.nsid ns (bindingTier s ns.defTier) = true ∧ openOfFunc s c.func < ctxShare s c.func ∧ openOfNs s c.nsid < ns.morCap ∧ findReady s ns (bindingTier s ns.defTier) none 0 = some pzn ∧ s.zrs.linger = [] ∧ (s.cph.ctxs.filter fun kv => kv.2.resident).length < 512)) = true := by decide +kernel

theorem witness_Resolve_12 :
    (let n : Nat := 0; let c : CmdSlot := wCk .read 0x02 0x300000 1 0 .checked; let s : State := putSlot wZone 0 (wCk .read 0x02 0x300000 1 0 .checked); decide (Works s ∧ slotOf s n = some c ∧ c.phase = .checked ∧ isReadKind c.kind = true ∧ firstWaiting s = none ∧ c.blocks ≤ openCount s 1 ∧ getF s (F.sbgPoolStat_reserved 1) + c.blocks < 4097)) = true := by decide +kernel

theorem witness_Resolve_13 :
    (let n : Nat := 0; let c : CmdSlot := wCk .read 0x02 0x300000 1 0 .checked; let s : State := setF (putSlot wZone 0 (wCk .read 0x02 0x300000 1 0 .checked)) (F.sbgPoolStat_free 1) 1; decide (Works s ∧ slotOf s n = some c ∧ c.phase = .checked ∧ isReadKind c.kind = true ∧ ((firstWaiting s).isSome = true ∨ openCount s 1 < c.blocks))) = true := by decide +kernel

theorem witness_Resolve_14 :
    (let s : State := { wZone with zrs := { wZone.zrs with linger := [⟨3, 0, 0, 1⟩, ⟨4, 1, 0, 1⟩] } }; let e : Nat := 3; decide (Works s ∧ s.tkr.retired = [] ∧ (s.zrs.linger.any fun l => l.ezn == e) = true ∧ unsealed s e = false ∧ (∀ kv ∈ s.hif.slots, kv.2.phase ≠ .waitContext))) = true := by decide +kernel

theorem witness_Padding_1 :
    (let s : State := wWriting; let e : Nat := 3; let d : Nat := 78000; let pzn : Nat := 5; let z : ZstEntry := wZst; decide (Works s ∧ padDeadline s e = some d ∧ allStaged s e = true ∧ boundZone s e = some (pzn, z) ∧ relocOf s pzn = none ∧ z.wpPhys ≠ 0 ∧ z.pads.length < 4 ∧ z.wpPhys < (padEnd z.tier z.wpPhys + 1) * hrSlots z.tier ∧ (padEnd z.tier z.wpPhys + 1) * hrSlots z.tier < zoneSlots z.tier ∧ accumOf s pzn (z.wpPhys / hrSlots z.tier) (z.wpPhys % hrSlots z.tier / 120) = none)) = true := by decide +kernel

theorem witness_Padding_2 :
    (let s : State := wWriting; let e : Nat := 3; let pzn : Nat := 5; let z : ZstEntry := wZst; decide (Works s ∧ ((incomplete s e).any fun kv => kv.2.kind == .placedAppend && pzaPadAfter kv.2.sqe && decide (kv.2.blocks ≤ kv.2.staged.length) && !secured z.tier z.wpPhys kv.2) = true ∧ allStaged s e = true ∧ boundZone s e = some (pzn, z) ∧ relocOf s pzn = none ∧ z.wpPhys ≠ 0 ∧ z.pads.length < 4 ∧ z.wpPhys < (padEnd z.tier z.wpPhys + 1) * hrSlots z.tier ∧ (padEnd z.tier z.wpPhys + 1) * hrSlots z.tier < zoneSlots z.tier ∧ accumOf s pzn (z.wpPhys / hrSlots z.tier) (z.wpPhys % hrSlots z.tier / 120) = none)) = true := by decide +kernel

theorem witness_Padding_3 :
    (let n : Nat := 0; let c : CmdSlot := wIo 0x00 0 0 0; let s : State := putSlot wZone 0 (wIo 0x00 0 0 0); decide (Works s ∧ FetchedIo s n .flush c ∧ genericCheck s c = none ∧ queueStopped s c.func c.sqid = false)) = true := by decide +kernel

theorem witness_Padding_4 :
    (let n : Nat := 0; let c : CmdSlot := wIo 0x7A 0x200000 63 0; let nsid : Nat := 1; let ns : Namespace := wNs; let s : State := putSlot wZone 0 (wIo 0x7A 0x200000 63 0); decide (Passes s n .report c nsid ns ∧ spFind s.nss nsid = some ns ∧ standalone s = true)) = true := by decide +kernel

theorem witness_ZoneOps_1 :
    (let s : State := { putSlot wZone 0 { wCk .reset 0x79 0x300000 0 4 .waitZoneOp with zones := [3] } with zrs := { wZone.zrs with ops := [(3, ⟨true, some 0⟩)] } }; let e : Nat := 3; let n : Nat := 0; let pzn : Nat := 5; let c : CmdSlot := { wCk .reset 0x79 0x300000 0 4 .waitZoneOp with zones := [3] }; let z : ZstEntry := wZst; decide (Works s ∧ s.tkr.retired = [] ∧ spFind s.zrs.ops e = some ⟨true, some n⟩ ∧ incomplete s e = [] ∧ boundZone s e = some (pzn, z) ∧ relocOf s pzn = none ∧ exhausts s e = false ∧ s.mhm.doomed.contains pzn = false ∧ slotOf s n = some c ∧ c.zones = [e] ∧ c.sqe.admin = false ∧ s.zrs.held = [] ∧ s.sbg.accums = [])) = true := by decide +kernel

theorem witness_ZoneOps_2 :
    (let s : State := { wZone with zrs := { wZone.zrs with ops := [(3, ⟨false, none⟩)] } }; let e : Nat := 3; let pzn : Nat := 5; let z : ZstEntry := wZst; decide (Works s ∧ s.tkr.retired = [] ∧ spFind s.zrs.ops e = some ⟨false, none⟩ ∧ incomplete s e = [] ∧ boundZone s e = some (pzn, z) ∧ relocOf s pzn = none ∧ isActiveState z.state = true ∧ (zmapOf s e).retired = false ∧ z.durableHr = 0 ∧ s.zrs.held = [])) = true := by decide +kernel

theorem witness_ZoneOps_3 :
    (let s : State := putSlot { wZone with jrn := { wZone.jrn with waiting := [.zone 3 ⟨⟨0, false, false, 2⟩, none, none⟩] } } 0 (wCk .reset 0x79 0x300000 0 4 .waitJournal); decide (Works s ∧ spSorted s.hif.slots = true ∧ s.jrn.waiting ≠ [] ∧ writingZones s = [] ∧ s.vfm.migOp = none ∧ (∀ kv ∈ s.hif.slots, kv.2.phase = .waitJournal → Bare s kv.1 kv.2))) = true := by decide +kernel

theorem witness_ZoneOps_4 :
    (let s : State := { wWriting with jrn := { wWriting.jrn with waiting := [.zone 3 ⟨⟨5, true, false, 1⟩, some wZst, some ⟨1, 5000, [], 8, 0⟩⟩] } }; let e : Nat := 3; let n : Nat := 0; let j : ZoneJournal := ⟨⟨5, true, false, 1⟩, some wZst, some ⟨1, 5000, [], 8, 0⟩⟩; let c : CmdSlot := { wCk .placedAppend 0x81 0x300000 1 0 .admitted with firstSlot := 6, staged := [0, 1], sealed := [0, 1], fetched := [0, 1], deadline := 90000, sqe := { wSqe false 0x81 1 0x300000 0 1 1 with cdw14 := 0 } }; decide (Works s ∧ s.jrn.waiting = [.zone e j] ∧ s.zrs.held = [] ∧ s.vfm.migOp = none ∧ writingZones s = [e] ∧ writesInOrder s e = [(n, c)] ∧ slotOf s n = some c ∧ Bare s n c ∧ writeDone { s with jrn := { s.jrn with zones := spPut s.jrn.zones e j } } e c = true ∧ isActiveState (zoneState s e) = true ∧ (∀ kv ∈ s.hif.slots, kv.2.phase ≠ .waitJournal))) = true := by decide +kernel

theorem witness_ZoneOps_5 :
    (let s : State := wDies; let p : Nat := 7; decide (Works s ∧ mayBeReady s p = true)) = true := by decide +kernel

theorem witness_ZoneOps_6 :
    (let s : State := { wZone with nss := [], zrs := { wZone.zrs with cam := [], zst := [(5, sealedZst { wZst with state := .full })] } }; let e : Nat := 3; let pzn : Nat := 5; let z : ZstEntry := sealedZst { wZst with state := .full }; decide (Works s ∧ s.tkr.retired = [] ∧ boundZone s e = some (pzn, z) ∧ (zmapOf s e).retired = false ∧ z.state = .full ∧ incomplete s e = [] ∧ spFind s.zrs.ops e = none ∧ relocOf s pzn = none ∧ resvOf s e = none ∧ loadFault s e = none ∧ spFind s.zrs.cam e = none ∧ nsOfEzn s e = none ∧ s.sbg.accums = [])) = true := by decide +kernel

theorem witness_ZoneOps_7 :
    (let s : State := { wDies with zrs := { wDies.zrs with ready := [(0, [7])] } }; let p : Nat := 7; decide (Works s ∧ (zstOf s p).bound = false)) = true := by decide +kernel

theorem witness_ZoneOps_8 :
    (let s : State := { wZone with zrs := { wZone.zrs with heldZones := [3], zst := [] } }; let e : Nat := 3; let j : ZoneJournal := ⟨⟨5, true, false, 1⟩, some wZst, some ⟨0, 5000, [], 8, 0⟩⟩; let z : ZstEntry := wZst; decide (Works s ∧ waitingOf s e = [] ∧ spFind s.jrn.zones e = some j ∧ j.zst = some z ∧ s.zrs.held = [])) = true := by decide +kernel

theorem witness_Sanitize_1 :
    (let c : CmdSlot := wSlot (wSqe true 0x84 0 2 0 0 0); let n : Nat := 0; let s : State := putSlot (wIn wHost (wSqe true 0x84 0 2 0 0 0)) 1 { wSlot (wSqe false 0x02 1 0 0 0 0) with phase := .admitted }; let a : SanAction := .blockErase; decide (Works s ∧ FetchedAdmin s n 0x84 c ∧ (sanAct c.sqe = (match a with | .blockErase => 2 | .cryptoErase => 4)) ∧ standalone s = true ∧ (∀ kv ∈ s.hif.slots, kv.1 ≠ n → isAdmitted kv.2 = true) ∧ (s.hif.slots.any fun kv => !kv.2.sqe.admin) = true)) = true := by decide +kernel

theorem witness_Sanitize_2 :
    (let c : CmdSlot := wSlot (wSqe true 0x84 0 4 0 0 0); let n : Nat := 0; let s : State := putSlot (wIn wHost (wSqe true 0x84 0 4 0 0 0)) 1 (wSlot (wSqe false 0x02 1 0 0 0 0)); let m : Nat := 1; let d : CmdSlot := wSlot (wSqe false 0x02 1 0 0 0 0); decide (Works s ∧ FetchedAdmin s n 0x84 c ∧ sanAct c.sqe = 4 ∧ standalone s = true ∧ spSorted s.hif.slots = true ∧ m ≠ n ∧ slotOf s m = some d ∧ d.phase = .fetched ∧ Bare s m d ∧ (d.sqe.admin = false ∨ sanitizeAllows d.sqe = false) ∧ (∀ kv ∈ s.hif.slots, kv.1 = n ∨ kv.1 = m) ∧ s.nss.flatMap (fun kv => nsZones s kv.2) = [])) = true := by decide +kernel

theorem witness_Sanitize_3 :
    (let c : CmdSlot := wSlot (wSqe true 0x84 0 4 0 0 0); let n : Nat := 0; let s : State := wIn { wHost with tkr := { wHost.tkr with slots := [(3, 5#256), (4097, 6#256)] } } (wSqe true 0x84 0 4 0 0 0); decide (Works s ∧ FetchedAdmin s n 0x84 c ∧ sanAct c.sqe = 4 ∧ standalone s = true ∧ s.hif.slots = [(n, c)] ∧ c.sqe.nsid = 0 ∧ s.nss.flatMap (fun kv => nsZones s kv.2) = [])) = true := by decide +kernel

theorem witness_Sanitize_4 :
    (let c : CmdSlot := wSlot (wSqe true 0x84 0 2 0 0 0); let n : Nat := 0; let s : State := wIn { wDies with nss := [], hif := { wDies.hif with slots := [] } } (wSqe true 0x84 0 2 0 0 0); decide (Works s ∧ FetchedAdmin s n 0x84 c ∧ sanAct c.sqe = 2 ∧ standalone s = true ∧ s.hif.slots = [(n, c)] ∧ c.sqe.nsid = 0 ∧ s.nss.flatMap (fun kv => nsZones s kv.2) = [] ∧ s.pmu.flight = .none)) = true := by decide +kernel

theorem witness_Sanitize_5 :
    (let c : CmdSlot := wSlot (wSqe true 0x84 0 3 0 0 0); let n : Nat := 0; let s : State := wIn wHost (wSqe true 0x84 0 3 0 0 0); decide (Works s ∧ FetchedAdmin s n 0x84 c ∧ sanAct c.sqe ≠ 1 ∧ sanAct c.sqe ≠ 2 ∧ sanAct c.sqe ≠ 4)) = true := by decide +kernel

theorem witness_Sanitize_6 :
    (let c : CmdSlot := wSlot (wSqe true 0x84 0 1 0 0 0); let n : Nat := 0; let s : State := wIn wHost (wSqe true 0x84 0 1 0 0 0); decide (Works s ∧ FetchedAdmin s n 0x84 c ∧ sanAct c.sqe = 1)) = true := by decide +kernel

theorem witness_Sanitize_7 :
    (let s : State := putSanitize wHost ⟨some .cryptoErase, false, false, false, true, [], [], false⟩; decide (Works s ∧ s.hif.sanitize.running ≠ none ∧ s.hif.sanitize.zonesReset = true ∧ s.hif.sanitize.eraseLeft = [] ∧ s.jrn.waiting = [] ∧ (s.hif.sanitize.running = some .blockErase → s.hif.sanitize.last = true))) = true := by decide +kernel

theorem witness_Sanitize_8 :
    (let s : State := setF (putSanitize wHost ⟨some .cryptoErase, false, false, false, true, [], [], false⟩) F.secAlarmAct_zeroise 0; decide (Works s ∧ s.hif.sanitize.running ≠ none ∧ s.hif.sanitize.zonesReset = true ∧ getF s F.dbgUnlock_status ≠ 2 ∧ alarmAction s 4 = 0)) = true := by decide +kernel

theorem witness_Sanitize_9 :
    (let s : State := putSanitize wHost ⟨some .blockErase, false, false, false, true, [(7, 12)], [], false⟩; decide (Works s ∧ s.hif.sanitize.running ≠ none ∧ s.hif.sanitize.zonesReset = true ∧ (s.hif.sanitize.eraseLeft.any fun kv => !dieInService s kv.1) = true)) = true := by decide +kernel

theorem witness_Firmware_1 :
    (let n : Nat := 0; let c : CmdSlot := wSlot (wSqe true 0x11 0 1 2 0 0); let s : State := wIn wHost (wSqe true 0x11 0 1 2 0 0); decide (Works s ∧ FetchedAdmin s n 0x11 c)) = true := by decide +kernel

theorem witness_Firmware_2 :
    (let n : Nat := 0; let c : CmdSlot := wSlot (wSqe true 0x10 0 9 0 0 0); let s : State := wIn wRoot (wSqe true 0x10 0 9 0 0 0); decide (Works s ∧ FetchedAdmin s n 0x10 c ∧ (fwSlot c.sqe = 0 ∨ 2 < fwSlot c.sqe ∨ fwSlot c.sqe = bootedSlot s))) = true := by decide +kernel

theorem witness_Firmware_3 :
    (let n : Nat := 0; let c : CmdSlot := wSlot (wSqe true 0x10 0 42 0 0 0); let s : State := wIn wRoot (wSqe true 0x10 0 42 0 0 0); decide (Works s ∧ FetchedAdmin s n 0x10 c ∧ 0 < fwSlot c.sqe ∧ fwSlot c.sqe ≤ 2 ∧ fwSlot c.sqe ≠ bootedSlot s ∧ 3 ≤ fwAction c.sqe)) = true := by decide +kernel

theorem witness_Firmware_4 :
    (let n : Nat := 0; let c : CmdSlot := wSlot (wSqe true 0x10 0 10 0 0 0); let s : State := wIn wRoot (wSqe true 0x10 0 10 0 0 0); decide (Works s ∧ FetchedAdmin s n 0x10 c ∧ 0 < fwSlot c.sqe ∧ fwSlot c.sqe ≤ 2 ∧ fwSlot c.sqe ≠ bootedSlot s ∧ fwAction c.sqe ≤ 1 ∧ fwSlotGood s (packageSlot s.hif.fwBuffer) = false)) = true := by decide +kernel

theorem witness_Firmware_5 :
    (let n : Nat := 0; let c : CmdSlot := wSlot (wSqe true 0x10 0 2 0 0 0); let s : State := wIn { wRoot with hif := { wRoot.hif with fwBuffer := wPkg.security ++ wPkg.management } } (wSqe true 0x10 0 2 0 0 0); decide (Works s ∧ FetchedAdmin s n 0x10 c ∧ 0 < fwSlot c.sqe ∧ fwSlot c.sqe ≤ 2 ∧ fwSlot c.sqe ≠ bootedSlot s ∧ fwAction c.sqe = 0 ∧ fwSlotGood s (packageSlot s.hif.fwBuffer) = true)) = true := by decide +kernel

theorem witness_Firmware_6 :
    (let n : Nat := 0; let c : CmdSlot := wSlot (wSqe true 0x10 0 18 0 0 0); let s : State := wIn { wRoot with nor := { wRoot.nor with slots := [(2, wPkg)] } } (wSqe true 0x10 0 18 0 0 0); decide (Works s ∧ FetchedAdmin s n 0x10 c ∧ 0 < fwSlot c.sqe ∧ fwSlot c.sqe ≤ 2 ∧ fwSlot c.sqe ≠ bootedSlot s ∧ fwAction c.sqe = 2 ∧ fwSlotGood s (fwSlotOf s (fwSlot c.sqe)) = true ∧ recordInA s = false)) = true := by decide +kernel

theorem witness_KeyImports_1 :
    (let n : Nat := 0; let c : CmdSlot := wSlot (wSqe true 0x81 0 0xea000100 152 0 0); let s : State := wIn wImpHost (wSqe true 0x81 0 0xea000100 152 0 0); let nsid : Nat := 1; let kek : List Byte := wKek; let data : List Byte := wImport 1 wKek; let v : List Byte := beBytes 32 77; decide (Works s ∧ FetchedAdmin s n 0x81 c ∧ secp c.sqe = 0xEA ∧ spsp c.sqe = 1 ∧ secTarget s c.sqe = some none ∧ secLen c.sqe = 152 ∧ data.length = 152 ∧ importForm data = true ∧ ephOnCurve data = true ∧ domainOn s .sec = true ∧ flag s F.tkrCmd_go = false ∧ flag s F.tkrStat_alarmLock = false ∧ s.tkr.retired = [] ∧ (spFind s.tkr.slots slotImport).isSome = true ∧ importNs s c.func data = some nsid ∧ 1 ≤ nsid ∧ nsid ≤ 4096 ∧ importForbidden s = false ∧ importKek s 1 (nsid - 1) (importEph data) = some kek ∧ keyUnwrap kek (importWrapped data) = some v ∧ spFind s.tkr.slots (nsid - 1) = none)) = true := by decide +kernel

theorem witness_KeyImports_2 :
    (let n : Nat := 0; let c : CmdSlot := wSlot (wSqe true 0x81 0 0xea000100 152 0 0); let s : State := wIn { wImpHost with tkr := { wImpHost.tkr with slots := [(0, 9#256), (4099, 1#256)] } } (wSqe true 0x81 0 0xea000100 152 0 0); let nsid : Nat := 1; let kek : List Byte := wKek; let data : List Byte := wImport 1 wKek; let v : List Byte := beBytes 32 77; let old : BitVec 256 := 9#256; decide (Works s ∧ FetchedAdmin s n 0x81 c ∧ secp c.sqe = 0xEA ∧ spsp c.sqe = 1 ∧ secTarget s c.sqe = some none ∧ secLen c.sqe = 152 ∧ data.length = 152 ∧ importForm data = true ∧ ephOnCurve data = true ∧ domainOn s .sec = true ∧ flag s F.tkrCmd_go = false ∧ flag s F.tkrStat_alarmLock = false ∧ s.tkr.retired = [] ∧ (spFind s.tkr.slots slotImport).isSome = true ∧ importNs s c.func data = some nsid ∧ 1 ≤ nsid ∧ nsid ≤ 4096 ∧ importForbidden s = false ∧ importKek s 1 (nsid - 1) (importEph data) = some kek ∧ keyUnwrap kek (importWrapped data) = some v ∧ spFind s.tkr.slots (nsid - 1) = some old ∧ old ≠ keyOf v)) = true := by decide +kernel

theorem witness_KeyImports_3 :
    (let n : Nat := 0; let c : CmdSlot := wSlot (wSqe true 0x81 0 0xea000100 152 0 0); let s : State := wIn { wImpHost with otp := { wImpHost.otp with lc := 0 } } (wSqe true 0x81 0 0xea000100 152 0 0); let nsid : Nat := 1; let data : List Byte := wImport 1 wKek; decide (Works s ∧ FetchedAdmin s n 0x81 c ∧ secp c.sqe = 0xEA ∧ spsp c.sqe = 1 ∧ secTarget s c.sqe = some none ∧ secLen c.sqe = 152 ∧ data.length = 152 ∧ importForm data = true ∧ ephOnCurve data = true ∧ importNs s c.func data = some nsid ∧ importForbidden s = true)) = true := by decide +kernel

theorem witness_KeyImports_4 :
    (let n : Nat := 0; let c : CmdSlot := wSlot (wSqe true 0x81 0 0xea000100 152 0 0); let s : State := wIn wImpHost (wSqe true 0x81 0 0xea000100 152 0 0); let data : List Byte := wImport 2 wKek; decide (Works s ∧ FetchedAdmin s n 0x81 c ∧ secp c.sqe = 0xEA ∧ spsp c.sqe = 1 ∧ secTarget s c.sqe = some none ∧ secLen c.sqe = 152 ∧ data.length = 152 ∧ importForm data = true ∧ ephOnCurve data = true ∧ importNs s c.func data = none)) = true := by decide +kernel

theorem witness_KeyImports_5 :
    (let n : Nat := 0; let c : CmdSlot := wSlot (wSqe true 0x81 0 0xea000100 152 0 0); let s : State := wIn wImpHost (wSqe true 0x81 0 0xea000100 152 0 0); let data : List Byte := [2]; let ns : Option Nat := none; decide (Works s ∧ FetchedAdmin s n 0x81 c ∧ secp c.sqe = 0xEA ∧ spsp c.sqe = 1 ∧ secTarget s c.sqe = some none ∧ slotOf s n = some c ∧ importNs s c.func data = ns ∧ (secLen c.sqe ≠ 152 ∨ importForm (bytesAt data 0 152) = false ∨ ephOnCurve (bytesAt data 0 152) = false))) = true := by decide +kernel

theorem witness_KeyImports_6 :
    (let n : Nat := 0; let c : CmdSlot := wSlot (wSqe true 0x81 0 0xea000200 152 0 0); let s : State := wIn wImpHost (wSqe true 0x81 0 0xea000200 152 0 0); let kek : List Byte := wKek2; let data : List Byte := wImport 0 wKek2; let v : List Byte := beBytes 32 77; decide (Works s ∧ FetchedAdmin s n 0x81 c ∧ secp c.sqe = 0xEA ∧ spsp c.sqe = 2 ∧ secTarget s c.sqe = some none ∧ secLen c.sqe = 152 ∧ data.length = 152 ∧ importForm data = true ∧ ephOnCurve data = true ∧ domainOn s .sec = true ∧ flag s F.tkrCmd_go = false ∧ flag s F.tkrStat_alarmLock = false ∧ s.tkr.retired = [] ∧ (spFind s.tkr.slots slotImport).isSome = true ∧ c.func = 0 ∧ leAt data 4 4 = 0 ∧ lifecycle s ≠ 0 ∧ importKek s 2 0xFFFF (importEph data) = some kek ∧ keyUnwrap kek (importWrapped data) = some v ∧ spFind s.tkr.slots slotMigration = none)) = true := by decide +kernel

theorem witness_KeyImports_7 :
    (let n : Nat := 0; let c : CmdSlot := wSlot (wSqe true 0x81 0 0xea000200 152 0 0); let s : State := wIn { wImpHost with otp := { wImpHost.otp with lc := 0 } } (wSqe true 0x81 0 0xea000200 152 0 0); let data : List Byte := wImport 0 wKek2; decide (Works s ∧ FetchedAdmin s n 0x81 c ∧ secp c.sqe = 0xEA ∧ spsp c.sqe = 2 ∧ secTarget s c.sqe = some none ∧ secLen c.sqe = 152 ∧ data.length = 152 ∧ importForm data = true ∧ ephOnCurve data = true ∧ c.func = 0 ∧ leAt data 4 4 = 0 ∧ lifecycle s = 0)) = true := by decide +kernel

theorem witness_KeyImports_8 :
    (let n : Nat := 0; let c : CmdSlot := wSlot (wSqe true 0x81 0 0xea000200 152 0 0); let s : State := wIn wImpHost (wSqe true 0x81 0 0xea000200 152 0 0); let data : List Byte := wImport 1 wKek2; decide (Works s ∧ FetchedAdmin s n 0x81 c ∧ secp c.sqe = 0xEA ∧ spsp c.sqe = 2 ∧ secTarget s c.sqe = some none ∧ (secLen c.sqe ≠ 152 ∨ c.func ≠ 0 ∨ importForm (bytesAt data 0 152) = false ∨ leAt (bytesAt data 0 152) 4 4 ≠ 0))) = true := by decide +kernel

theorem witness_KeyImports_9 :
    (let n : Nat := 0; let c : CmdSlot := wSlot (wSqe true 0x82 0 0xea000100 96 0 0); let s : State := wIn { wHost with otp := { wHost.otp with lc := 0 } } (wSqe true 0x82 0 0xea000100 96 0 0); decide (Works s ∧ FetchedAdmin s n 0x82 c ∧ secp c.sqe = 0xEA ∧ spsp c.sqe = 1 ∧ secTarget s c.sqe = some none ∧ lifecycle s = 0)) = true := by decide +kernel

theorem witness_KeyImports_10 :
    (let n : Nat := 0; let c : CmdSlot := wSlot (wSqe true 0x82 0 0xea000100 96 0 0); let s : State := wIn wHost (wSqe true 0x82 0 0xea000100 96 0 0); decide (Works s ∧ FetchedAdmin s n 0x82 c ∧ secp c.sqe = 0xEA ∧ spsp c.sqe = 1 ∧ secTarget s c.sqe = some none ∧ lifecycle s ≠ 0)) = true := by decide +kernel

theorem witness_KeyImports_11 :
    (let n : Nat := 0; let c : CmdSlot := wSlot (wSqe true 0x82 0 0xea000400 64 0 0); let s : State := wIn wHost (wSqe true 0x82 0 0xea000400 64 0 0); decide (Works s ∧ FetchedAdmin s n 0x82 c ∧ secp c.sqe = 0xEA ∧ spsp c.sqe = 4 ∧ secTarget s c.sqe = some none)) = true := by decide +kernel

theorem witness_Lifecycle_1 :
    (let n : Nat := 0; let c : CmdSlot := wSlot (wSqe true 0x81 0 0xea000300 176 0 0); let s : State := wIn wNonced (wSqe true 0x81 0 0xea000300 176 0 0); let data : List Byte := wLcData 2; decide (Works s ∧ FetchedAdmin s n 0x81 c ∧ secp c.sqe = 0xEA ∧ spsp c.sqe = 3 ∧ secTarget s c.sqe = some none ∧ c.func = 0 ∧ secLen c.sqe = 176 ∧ data.length = 176 ∧ getF s F.dbgUnlock_level = 0 ∧ leAt data 0 1 = 2 ∧ allZero (bytesAt data 2 6) = true ∧ lifecycle s = 1 ∧ bytesAt data 8 8 = beBytes 8 s.otp.devUid.toNat ∧ nonceNow s = some (bytesAt data 0x10 32) ∧ keyTrusted s (leAt data 1 1) (bytesAt data 0x30 64) = true ∧ ecdsaVerify p256 (bytesAt data 0x30 64) (sha256 (bytesAt data 0 0x30)) (bytesAt data 0x70 64) = true)) = true := by decide +kernel

theorem witness_Lifecycle_2 :
    (let n : Nat := 0; let c : CmdSlot := wSlot (wSqe true 0x81 0 0xea000300 176 0 0); let s : State := wIn { wNonced with tkr := { wNonced.tkr with slots := [(3, 5#256)] } } (wSqe true 0x81 0 0xea000300 176 0 0); let data : List Byte := wLcData 3; decide (Works s ∧ FetchedAdmin s n 0x81 c ∧ secp c.sqe = 0xEA ∧ spsp c.sqe = 3 ∧ secTarget s c.sqe = some none ∧ c.func = 0 ∧ s.hif.slots = [(n, c)] ∧ secLen c.sqe = 176 ∧ data.length = 176 ∧ getF s F.dbgUnlock_level = 0 ∧ leAt data 0 1 = 3 ∧ allZero (bytesAt data 2 6) = true ∧ (lifecycle s = 1 ∨ lifecycle s = 2) ∧ bytesAt data 8 8 = beBytes 8 s.otp.devUid.toNat ∧ nonceNow s = some (bytesAt data 0x10 32) ∧ keyTrusted s (leAt data 1 1) (bytesAt data 0x30 64) = true ∧ ecdsaVerify p256 (bytesAt data 0x30 64) (sha256 (bytesAt data 0 0x30)) (bytesAt data 0x70 64) = true)) = true := by decide +kernel

theorem witness_Lifecycle_3 :
    (let n : Nat := 0; let c : CmdSlot := wSlot (wSqe true 0x81 0 0xea000300 176 0 0); let s : State := wIn wRoot (wSqe true 0x81 0 0xea000300 176 0 0); let data : List Byte := [2]; decide (Works s ∧ FetchedAdmin s n 0x81 c ∧ secp c.sqe = 0xEA ∧ spsp c.sqe = 3 ∧ secTarget s c.sqe = some none ∧ c.func = 0 ∧ getF s F.dbgUnlock_level = 0 ∧ nonceNow s ≠ some (bytesAt (bytesAt data 0 176) 0x10 32))) = true := by decide +kernel

theorem witness_Lifecycle_4 :
    (let n : Nat := 0; let c : CmdSlot := wSlot (wSqe true 0x82 0 0xea000300 32 0 0); let s : State := wIn wHost (wSqe true 0x82 0 0xea000300 32 0 0); decide (Works s ∧ FetchedAdmin s n 0x82 c ∧ secp c.sqe = 0xEA ∧ spsp c.sqe = 3 ∧ secTarget s c.sqe = some none)) = true := by decide +kernel

theorem witness_Lifecycle_5 :
    (let s : State := wNonced; let x : List Byte := wNonce; let since : Nat := 0; decide (Powered s ∧ s.sec.nonce = some (x, since))) = true := by decide +kernel

theorem witness_Lifecycle_6 :
    (let n : Nat := 0; let c : CmdSlot := wSlot (wSqe true 0x81 0 0xea000500 4096 0 0); let s : State := wIn wRoot (wSqe true 0x81 0 0xea000500 4096 0 0); let data : List Byte := wProfile; decide (Works s ∧ FetchedAdmin s n 0x81 c ∧ secp c.sqe = 0xEA ∧ spsp c.sqe = 5 ∧ secTarget s c.sqe = some none ∧ c.func = 0 ∧ data.length ≤ secLen c.sqe ∧ data.length ≤ 65536 ∧ profileGood s (leAt (imageBody data) 4 1) data = true ∧ leAt (imageBody data) 4 1 ≤ 3 ∧ leAt (imageBody data) 4 1 ≠ (bootRecord s).lastProfile ∧ lifecycle s ≠ 3)) = true := by decide +kernel

theorem witness_Alarms_1 :
    (let s : State := setF w0 F.secAlarmAct_vglitch 1; let k : Nat := 0; decide (Powered s ∧ k < 8 ∧ (k = 7 → s.mbx.chans = []) ∧ alarmAction s k = 1 ∧ getF s F.dbgUnlock_status ≠ 2 ∧ domainOn s .sec = true)) = true := by decide +kernel

theorem witness_Alarms_2 :
    (let s : State := { setF w0 F.secAlarmAct_vglitch 3 with tkr := { w0.tkr with slots := [(3, 5#256)] } }; let k : Nat := 0; decide (Powered s ∧ k < 8 ∧ (k = 7 → s.mbx.chans = []) ∧ alarmAction s k = 3 ∧ getF s F.dbgUnlock_status ≠ 2 ∧ domainOn s .sec = true ∧ s.tkr.waiting = false ∧ s.hif.slots = [])) = true := by decide +kernel

theorem witness_Alarms_3 :
    (let s : State := setFBit w0 F.secAlarmStat_active 2; let k : Nat := 2; decide (Powered s ∧ k < 8)) = true := by decide +kernel

theorem witness_Alarms_4 :
    (let s : State := setBit w0 F.tkrStat_alarmLock; decide (Powered s ∧ domainOn s .sec = true ∧ lockHeld s = false)) = true := by decide +kernel

theorem witness_Alarms_5 :
    (let s : State := setBit (setBit w0 F.tkrStat_alarmLock) F.secAlarmStat_allSeen; decide (Powered s ∧ domainOn s .sec = true ∧ lockHeld s = true)) = true := by decide +kernel

theorem witness_Alarms_6 :
    (let s : State := w0; decide (Powered s ∧ domainOn s .sec = true ∧ flag s F.secAlarmAct_lock = false)) = true := by decide +kernel

theorem witness_Alarms_7 :
    (let s : State := setBit w0 F.secAlarmAct_lock; decide (Powered s ∧ domainOn s .sec = true ∧ flag s F.secAlarmAct_lock = true)) = true := by decide +kernel

theorem witness_DieWork_1 :
    (let s : State := putDie wFlash 0 { noDie with queue := [wErase], balances := [⟨.device, 0⟩] }; let d : Nat := 0; let e : DieEntry := wErase; let bs : List Balance := [⟨.device, 0⟩]; let k : Nat := 0; let b : List (Nat × Nat) := [(1, 7)]; decide (CanIssue s d k e bs ∧ QuietDies s d ∧ e.op = .erase b)) = true := by decide +kernel

theorem witness_DieWork_2 :
    (let s : State := { putDie wFlash 0 { noDie with queue := [wSense], balances := [⟨.func 0, 0⟩] } with rch := { wFlash.rch with reads := [(9, wReadOp 0)] } }; let d : Nat := 0; let k : Nat := 28; let e : DieEntry := wSense; let bs : List Balance := [⟨.func 0, 0⟩]; let rd : Nat := 9; let r : ReadOp := wReadOp 0; decide (CanIssue s d k e bs ∧ QuietDies s d ∧ e.op = .sense rd ∧ s.rch.reads = [(rd, r)] ∧ r.die = d)) = true := by decide +kernel

theorem witness_DieWork_3 :
    (let s : State := { putDie wFlash 0 { noDie with queue := [wSense], balances := [⟨.func 0, 0⟩] } with rch := { wFlash.rch with reads := [(9, wReadOp 0)] } }; let d : Nat := 0; let k : Nat := 28; let e : DieEntry := wSense; let bs : List Balance := [⟨.func 0, 0⟩]; let rd : Nat := 9; let r : ReadOp := wReadOp 0; decide (CanIssue s d k e bs ∧ QuietDies s d ∧ e.op = .sense rd ∧ s.rch.reads = [(rd, r)] ∧ r.die = d)) = true := by decide +kernel

theorem witness_DieWork_4 :
    (let s : State := wProgQ; let d : Nat := 0; let e : DieEntry := wProgram; let bs : List Balance := [⟨.func 0, 0⟩]; let k : Nat := 0; let pzn : Nat := 5; let hr : Nat := 0; let m : Nat := 0; let pass : Pass := .coarse; decide (CanIssue s d k e bs ∧ d < 1024 ∧ e.op = .program pzn hr m pass ∧ badSlots s pzn hr m = [] ∧ wornPlanes s d e = [] ∧ m ≠ parityMember pzn)) = true := by decide +kernel

theorem witness_DieWork_5 :
    (let s : State := putDie (putDie wFlash 0 { noDie with queue := [wErase], balances := [⟨.device, 0⟩] }) 16 { noDie with current := some { wRun wErase .busy 0 with power := 100000 } }; let d : Nat := 0; let e : DieEntry := wErase; let bs : List Balance := [⟨.device, 0⟩]; decide (MayIssue s d e bs ∧ tokensFor s e = none)) = true := by decide +kernel

theorem witness_DieWork_6 :
    (let s : State := putDie wFlash 0 { noDie with current := some (wRun wErase .busy 0), suspending := some 0 }; let c : Nat := 0; let d : Nat := 0; let r : Running := wRun wErase .busy 0; decide (NextUse s c (.control d) ∧ (dieOf s d).current = some r ∧ r.stage = .busy)) = true := by decide +kernel

theorem witness_DieWork_7 :
    (let s : State := putDie wFlash 0 { noDie with current := some (wRun wProgram .dataIn 40), suspending := some 0 }; let c : Nat := 0; let d : Nat := 0; let r : Running := wRun wProgram .dataIn 40; decide (NextUse s c (.control d) ∧ (dieOf s d).current = some r ∧ r.stage ≠ .busy)) = true := by decide +kernel

theorem witness_DieWork_8 :
    (let s : State := putDie wFlash 0 { noDie with suspended := some (wRun wErase .busy 0), resuming := true }; let c : Nat := 0; let d : Nat := 0; let r : Running := wRun wErase .busy 0; decide (NextUse s c (.control d) ∧ (dieOf s d).current = none ∧ (dieOf s d).suspended = some r ∧ r.stage = .busy)) = true := by decide +kernel

theorem witness_DieWork_9 :
    (let s : State := wOn wErase .busy 0; let c : Nat := 0; let d : Nat := 0; let r : Running := wRun wErase .busy 0; decide (NextUse s c (.poll d) ∧ (dieOf s d).current = some r)) = true := by decide +kernel

theorem witness_DieWork_10 :
    (let s : State := wOn wSense .command 0; let c : Nat := 0; let d : Nat := 0; let r : Running := wRun wSense .command 0; let x : SenseStep := ⟨0, 5, 0, 0, 0, false, true⟩; decide (NextUse s c (.work d) ∧ (dieOf s d).current = some r ∧ r.stage = .command ∧ isReadEntry r.entry = true ∧ currentSense r = some x ∧ r.index = 0 ∧ s.mhm.acc = [])) = true := by decide +kernel

theorem witness_DieWork_11 :
    (let s : State := wOn wErase .command 0; let c : Nat := 0; let d : Nat := 0; let r : Running := wRun wErase .command 0; let b : List (Nat × Nat) := [(1, 7)]; decide (NextUse s c (.work d) ∧ (dieOf s d).current = some r ∧ r.stage = .command ∧ r.entry.op = .erase b)) = true := by decide +kernel

theorem witness_DieWork_12 :
    (let s : State := { wOn wProgram .dataIn 50 with zrs := { wFlash.zrs with map := [(3, ⟨5, true, false, 1⟩)], zst := [(5, wFill)] } }; let c : Nat := 0; let d : Nat := 0; let pzn : Nat := 5; let hr : Nat := 0; let m : Nat := 0; let p : Pass := .coarse; let r : Running := wRun wProgram .dataIn 50; decide (NextUse s c (.work d) ∧ (dieOf s d).current = some r ∧ r.stage = .dataIn ∧ r.entry.op = .program pzn hr m p ∧ flipCw s pzn hr (2 * (hr % 2) + (programBursts r.entry.tier - r.burstsLeft) / 5 / bitsOf r.entry.tier) ((programBursts r.entry.tier - r.burstsLeft) / 5 % bitsOf r.entry.tier) m p r.entry.acct = none ∧ (programBursts r.entry.tier - r.burstsLeft) + 1 < programBursts r.entry.tier)) = true := by decide +kernel

theorem witness_DieWork_13 :
    (let s : State := { wOn wProgram .dataIn 1 with zrs := { wFlash.zrs with map := [(3, ⟨5, true, false, 1⟩)], zst := [(5, wFill)] } }; let c : Nat := 0; let d : Nat := 0; let pzn : Nat := 5; let hr : Nat := 0; let m : Nat := 0; let p : Pass := .coarse; let r : Running := wRun wProgram .dataIn 1; decide (NextUse s c (.work d) ∧ (dieOf s d).current = some r ∧ r.stage = .dataIn ∧ r.entry.op = .program pzn hr m p ∧ flipCw s pzn hr (2 * (hr % 2) + (programBursts r.entry.tier - r.burstsLeft) / 5 / bitsOf r.entry.tier) ((programBursts r.entry.tier - r.burstsLeft) / 5 % bitsOf r.entry.tier) m p r.entry.acct = none ∧ programBursts r.entry.tier ≤ (programBursts r.entry.tier - r.burstsLeft) + 1)) = true := by decide +kernel

theorem witness_DieWork_14 :
    (let s : State := wOn wSense .dataOut 5; let c : Nat := 0; let d : Nat := 0; let r : Running := wRun wSense .dataOut 5; decide (NextUse s c (.work d) ∧ (dieOf s d).current = some r ∧ r.stage = .dataOut)) = true := by decide +kernel

theorem witness_StatusPolls_1 :
    (let s : State := wOn wErase .busy 0; let d : Nat := 0; let st : Byte := 0x00; let r : Running := wRun wErase .busy 0; decide (Polled s d r ∧ (dieOf s d).suspending = none ∧ statusReady st = false)) = true := by decide +kernel

theorem witness_StatusPolls_2 :
    (let s : State := wOn wSense .busy 0; let d : Nat := 0; let st : Byte := 0x40; let r : Running := wRun wSense .busy 0; decide (Polled s d r ∧ (dieOf s d).suspending = none ∧ isReadEntry r.entry = true ∧ statusReady st = true ∧ (currentSense r).any SenseStep.out = true)) = true := by decide +kernel

theorem witness_StatusPolls_3 :
    (let s : State := putDie wFlash 0 { noDie with current := some (wRun wErase .busy 0), suspending := some 0, suspSent := true }; let d : Nat := 0; let since : Nat := 0; let st : Byte := 0x41; let r : Running := wRun wErase .busy 0; decide (Polled s d r ∧ (dieOf s d).suspending = some since ∧ (dieOf s d).suspSent = true ∧ isReadEntry r.entry = false ∧ max s.clk.us (s.clk.us + (r.pollAt - s.clk.sch)) ≤ since + dieF s d (if isProgramEntry r.entry then 0x48 else 0x4A) 2 + 5 ∧ statusReady st = true ∧ statusSuspended s d st = true)) = true := by decide +kernel

theorem witness_StatusPolls_4 :
    (let s : State := setF (wOn wErase .busy 0) (F.fchDieStat_state 0 0) 3; let d : Nat := 0; let pl : Nat := 1; let b : Nat := 7; let st : Byte := 0x40; let r : Running := wRun wErase .busy 0; decide (Polled s d r ∧ EndsAlone s d ∧ dieOf s d = { noDie with current := some r, granted := (dieOf s d).granted } ∧ r.entry.op = .erase [(pl, b)] ∧ statusReady st = true ∧ statusFail st = false ∧ spFind s.hif.sanitize.eraseLeft d = none ∧ (recOf s (brtIndex d pl b)).pe + 1 < dieF s d 0xC0 2)) = true := by decide +kernel

theorem witness_StatusPolls_5 :
    (let s : State := wOn wErase .busy 0; let d : Nat := 0; let pl : Nat := 1; let b : Nat := 7; let x : Nat := 0; let f : Nat := 1; let st : Byte := 0x41; let r : Running := wRun wErase .busy 0; decide (Polled s d r ∧ EndsAlone s d ∧ dieOf s d = { noDie with current := some r, granted := (dieOf s d).granted } ∧ r.entry.op = .erase [(pl, b)] ∧ (dieOf s d).suspending = none ∧ statusReady st = true ∧ statusFail st = true ∧ f = pl ∧ b < 4096 ∧ d < 1024 ∧ spFind s.hif.sanitize.eraseLeft d = none ∧ (zstOf s (dieGroup d * 4096 + b)).bound = false ∧ (zstOf s (dieGroup d * 4096 + b)).subst = [] ∧ freeSpare s d pl = some x ∧ pl < 4)) = true := by decide +kernel

theorem witness_StatusPolls_6 :
    (let s : State := { wOn wProgram .busy 0 with zrs := { wFlash.zrs with map := [(3, ⟨5, true, false, 1⟩)], zst := [(5, wFill)] } }; let d : Nat := 0; let pzn : Nat := 5; let hr : Nat := 0; let m : Nat := 0; let st : Byte := 0x40; let p : Pass := .coarse; let r : Running := wRun wProgram .busy 0; decide (Polled s d r ∧ r.entry.op = .program pzn hr m p ∧ p = .coarse ∧ (dieOf s d).suspending = none ∧ statusReady st = true ∧ statusFail st = false ∧ (dieOf s d).queue = [] ∧ (dieOf s d).suspended = none ∧ s.rch.pages = [] ∧ ((∀ kv ∈ s.sch.dies, kv.2.tokenWait = false)) ∧ getF s (F.fchStat_state (dieChannel d)) ≠ 6 ∧ flag s (F.fchCtrl_train (dieChannel d)) = false ∧ bayOn s (dieBay d) = true ∧ d < 1024 ∧ memberDie (groupOf pzn) m = d ∧ sourceOf s pzn = none)) = true := by decide +kernel

theorem witness_StatusPolls_7 :
    (let s : State := { wOn { wProgram with op := .program 5 0 0 .fine } .busy 0 with zrs := { wFlash.zrs with map := [(3, ⟨5, true, false, 1⟩)], zst := [(5, wFill)], progs := [(5, ⟨[⟨3, 0⟩], [], [], [], []⟩)] } }; let d : Nat := 0; let pzn : Nat := 5; let hr : Nat := 0; let m : Nat := 0; let st : Byte := 0x40; let p : Pass := .fine; let r : Running := wRun { wProgram with op := .program 5 0 0 .fine } .busy 0; decide (Polled s d r ∧ r.entry.op = .program pzn hr m p ∧ p = .fine ∧ (zstOf s pzn).tier ≠ .d4 ∧ (dieOf s d).suspending = none ∧ statusReady st = true ∧ statusFail st = false ∧ (dieOf s d).queue = [] ∧ (dieOf s d).suspended = none ∧ s.rch.pages = [] ∧ ((∀ kv ∈ s.sch.dies, kv.2.tokenWait = false)) ∧ getF s (F.fchStat_state (dieChannel d)) ≠ 6 ∧ flag s (F.fchCtrl_train (dieChannel d)) = false ∧ bayOn s (dieBay d) = true ∧ d < 1024 ∧ memberDie (groupOf pzn) m = d ∧ sourceOf s pzn = none)) = true := by decide +kernel

theorem witness_StatusPolls_8 :
    (let s : State := wOn ⟨.probe true, .d5, .device, .vault, 100, 0, false⟩ .busy 0; let d : Nat := 0; let up : Bool := true; let r : Running := wRun ⟨.probe true, .d5, .device, .vault, 100, 0, false⟩ .busy 0; decide (Works s ∧ (dieOf s d).current = some r ∧ r.stage = .busy ∧ EndsAlone s d ∧ dieOf s d = { noDie with current := some r } ∧ r.entry.op = .probe up ∧ spGet 0 s.mhm.timeouts d < 7)) = true := by decide +kernel

theorem witness_StatusPolls_9 :
    (let s : State := { wOn ⟨.probe true, .d5, .device, .vault, 100, 0, false⟩ .busy 0 with mhm := { wFlash.mhm with timeouts := [(0, 7)] } }; let d : Nat := 0; let up : Bool := true; let r : Running := wRun ⟨.probe true, .d5, .device, .vault, 100, 0, false⟩ .busy 0; decide (Works s ∧ (dieOf s d).current = some r ∧ r.stage = .busy ∧ EndsAlone s d ∧ dieOf s d = { noDie with current := some r } ∧ r.entry.op = .probe up ∧ spGet 0 s.mhm.timeouts d = 7 ∧ dieInService s d = true ∧ (bayOf s (dieBay d)).phase ≠ .failed)) = true := by decide +kernel

theorem witness_Suspends_1 :
    (let s : State := { putDie wFlash 0 { noDie with current := some (wRun wErase .busy 0), queue := [wSense] } with clk := { wFlash.clk with sch := 20000 } }; let d : Nat := 0; let r : Running := wRun wErase .busy 0; decide (Works s ∧ (dieOf s d).current = some r ∧ isReadEntry r.entry = false ∧ (dieOf s d).suspending = none ∧ (readyEntries s d).filter (causesSuspend s d r r.suspends) ≠ [] ∧ minRun s ≤ now s - r.busySince)) = true := by decide +kernel

theorem witness_Suspends_2 :
    (let s : State := putDie wFlash 0 { noDie with suspended := some (wRun wErase .busy 0) }; let d : Nat := 0; let r : Running := wRun wErase .busy 0; decide (Works s ∧ (dieOf s d).suspended = some r ∧ (readyEntries s d).any (causesSuspend s d r (r.suspends - 1)) = false)) = true := by decide +kernel

theorem witness_Suspends_3 :
    (let s : State := putDie wFlash 0 { noDie with suspended := some { wRun wErase .busy 0 with suspendedAt := some 7 } }; let d : Nat := 0; let since : Nat := 7; let r : Running := { wRun wErase .busy 0 with suspendedAt := some 7 }; decide (Works s ∧ (dieOf s d).suspended = some r ∧ r.suspendedAt = some since)) = true := by decide +kernel

theorem witness_Suspends_4 :
    (let s : State := putSlot { wZone with rch := { wZone.rch with reads := [(9, wReadOp 0)] } } 0 (wCk .read 0x02 0x300000 1 0 .admitted); let n : Nat := 0; let c : CmdSlot := wCk .read 0x02 0x300000 1 0 .admitted; decide (Works s ∧ slotOf s n = some c ∧ isReadKind c.kind = true ∧ Bare s n { c with reserved := 0 } ∧ allDecoded s n c = false ∧ c.remote = none ∧ spSorted s.rch.reads = true)) = true := by decide +kernel

theorem witness_Suspends_5 :
    (let s : State := putSlot wZone 0 { wCk .read 0x02 0x300000 1 0 .admitted with opened := [0, 1] }; let n : Nat := 0; let c : CmdSlot := { wCk .read 0x02 0x300000 1 0 .admitted with opened := [0, 1] }; decide (Works s ∧ slotOf s n = some c ∧ isReadKind c.kind = true ∧ allDecoded s n c = true)) = true := by decide +kernel

theorem witness_ReadChannel_1 :
    (let s : State := { wOn wSense .dataOut 3 with rch := { wFlash.rch with reads := [(9, { wReadOp 0 with issued := true, headerSeen := true })] } }; let d : Nat := 0; let rd : Nat := 9; let g : Nat := 2; let run : Running := wRun wSense .dataOut 3; let r : ReadOp := { wReadOp 0 with issued := true, headerSeen := true }; decide (Works s ∧ (dieOf s d).current = some run ∧ run.stage = .dataOut ∧ burstServed s d = true ∧ run.entry.op = .sense rd ∧ senseReads s d = [rd] ∧ readAt s rd = some r ∧ r.headerSeen = true ∧ r.headerBad = false ∧ run.burstsLeft = 5 - g ∧ 0 < g ∧ g < 4 ∧ (r.cws.all fun c => lastBurst c.idx != g) = true)) = true := by decide +kernel

theorem witness_ReadChannel_2 :
    (let s : State := { wOn wSense .dataOut 3 with rch := { wFlash.rch with reads := [(9, { wReadOp 0 with issued := true, headerSeen := true, cws := [newCw 3 0 0] })] } }; let d : Nat := 0; let rd : Nat := 9; let g : Nat := 2; let run : Running := wRun wSense .dataOut 3; let r : ReadOp := { wReadOp 0 with issued := true, headerSeen := true, cws := [newCw 3 0 0] }; let c : Cw := newCw 3 0 0; decide (Works s ∧ (dieOf s d).current = some run ∧ run.stage = .dataOut ∧ burstServed s d = true ∧ run.entry.op = .sense rd ∧ senseReads s d = [rd] ∧ readAt s rd = some r ∧ r.headerSeen = true ∧ r.headerBad = false ∧ run.burstsLeft = 5 - g ∧ 0 < g ∧ g < 4 ∧ r.cws = [c] ∧ lastBurst c.idx = g ∧ c.step = .hard ∧ c.phase = .waitInput ∧ hardLeft s = true)) = true := by decide +kernel

theorem witness_ReadChannel_3 :
    (let s : State := { wDies with rch := { wDies.rch with reads := [(9, { wReadOp 0 with sensed := true, cws := [{ newCw 0 0 0 with phase := .ready }] })], hardBusy := [0] } }; let k : Nat := 9; let i : Nat := 0; let r : ReadOp := { wReadOp 0 with sensed := true, cws := [{ newCw 0 0 0 with phase := .ready }] }; let c : Cw := { newCw 0 0 0 with phase := .ready }; decide (Works s ∧ firstCw ((readyCws s false).filter fun _ => !(freeHard s).isEmpty) = some (k, i, r, c) ∧ readAt s k = some r ∧ r.cws[i]? = some c ∧ c.step = .hard)) = true := by decide +kernel

theorem witness_ReadChannel_4 :
    (let s : State := { wDies with rch := { wDies.rch with reads := [(9, { wReadOp 0 with sensed := true, cws := [{ { newCw 0 0 0 with phase := .ready } with step := .bracket }] })], softBusy := [0] } }; let k : Nat := 9; let i : Nat := 0; let r : ReadOp := { wReadOp 0 with sensed := true, cws := [{ { newCw 0 0 0 with phase := .ready } with step := .bracket }] }; let c : Cw := { { newCw 0 0 0 with phase := .ready } with step := .bracket }; decide (Works s ∧ firstCw ((readyCws s true).filter fun x => !(freeSoft s x.2.2.1.cls).isEmpty) = some (k, i, r, c) ∧ readAt s k = some r ∧ r.cws[i]? = some c ∧ c.step ≠ .hard)) = true := by decide +kernel

theorem witness_ReadChannel_5 :
    Works (wInEngine .hard) ∧ cwOn (wInEngine .hard) false 3 = some (9, 0, (wCwIn .hard)) ∧ lateSlot (wInEngine .hard) 9 = none ∧ (wCwIn .hard).step = .hard ∧ (wCwIn .hard).engine = some 3 ∧ hardDecode (getF (wInEngine .hard) F.rchLdpc_hardIter) (bytesOfBits 4960 ((wCwIn .hard).input.map fun v => decide (v % 2 = 1)).toArray) ((wCwIn .hard).input.map fun v => decide (2 ≤ v)).toArray = some ((List.replicate 4960 0), 0) ∧ getF (wInEngine .hard) F.rchTrack_trigger = 0 ∧ readAt (wInEngine .hard) 9 = some ({ wReadOp 0 with sensed := true, cws := [wCwIn .hard] }) ∧ ({ wReadOp 0 with sensed := true, cws := [wCwIn .hard] }).cws[0]? = some (wCwIn .hard) ∧ ({ wReadOp 0 with sensed := true, cws := [wCwIn .hard] }).owner = .command 0 ∧ (wCwIn .hard).rebuild = none ∧ leAt (List.replicate 4960 0) 4096 8 = (expectedHeader ({ wReadOp 0 with sensed := true, cws := [wCwIn .hard] }) (wCwIn .hard)).toNat :=
  by
  refine ⟨by decide +kernel, by decide +kernel, by decide +kernel, by decide +kernel, by decide +kernel, ?_, by decide +kernel, by decide +kernel, by decide +kernel, by decide +kernel, by decide +kernel, by decide +kernel⟩
  have h : bytesOfBits 4960 (((wCwIn .hard).input.map fun v => decide (v % 2 = 1)).toArray) = List.replicate 4960 0 := bytesOfBits_zero _ _ fun _ => rfl
  rw [h]; exact hardDecode_zero _ _

theorem witness_ReadChannel_6 :
    (let k : Nat := 9; let i : Nat := 0; let e : Nat := 3; let s : State := wInEngine .hard; let r : ReadOp := { wReadOp 0 with sensed := true, cws := [wCwIn .hard] }; let c : Cw := wCwIn .hard; decide (Works s ∧ cwOn s false e = some (k, i, c) ∧ lateSlot s k = none ∧ readAt s k = some r ∧ r.cws[i]? = some c ∧ s.rch.hardOff.length < 31)) = true := by decide +kernel

theorem witness_ReadChannel_7 :
    Works (wInEngine .bracket) ∧ cwOn (wInEngine .bracket) true 3 = some (9, 0, (wCwIn .bracket)) ∧ lateSlot (wInEngine .bracket) 9 = none ∧ (wCwIn .bracket).step ≠ .hard ∧ (wCwIn .bracket).engine = some 3 ∧ softDecode (getF (wInEngine .bracket) F.rchLdpc_softIter) (getF (wInEngine .bracket) F.rchLdpc_msOffset) (wCwIn .bracket).input.toArray = some (List.replicate 4960 0) ∧ readAt (wInEngine .bracket) 9 = some ({ wReadOp 0 with sensed := true, cws := [wCwIn .bracket] }) ∧ ({ wReadOp 0 with sensed := true, cws := [wCwIn .bracket] }).cws[0]? = some (wCwIn .bracket) ∧ ({ wReadOp 0 with sensed := true, cws := [wCwIn .bracket] }).owner = .command 0 ∧ (wCwIn .bracket).rebuild = none ∧ leAt (List.replicate 4960 0) 4096 8 = (expectedHeader ({ wReadOp 0 with sensed := true, cws := [wCwIn .bracket] }) (wCwIn .bracket)).toNat :=
  by
  refine ⟨by decide +kernel, by decide +kernel, by decide +kernel, by decide +kernel, by decide +kernel, ?_, by decide +kernel, by decide +kernel, by decide +kernel, by decide +kernel, by decide +kernel⟩
  have h : getF (wInEngine .bracket) F.rchLdpc_softIter = 39 + 1 := by decide +kernel
  rw [h]; exact softDecode_nil _ _

theorem witness_ReadChannel_8 :
    (let s : State := { wDies with rch := { wDies.rch with probes := [(0, wProbe)] } }; let d : Nat := 0; let p : Probe := wProbe; decide (Works s ∧ spFind s.rch.probes d = some p ∧ p.low ≠ [] ∧ p.high ≠ [] ∧ trimOf s d p.tier p.bin p.bp = p.trim ∧ ttabOf s p.tier p.bin p.bp = p.ttab ∧ sumAt p.low p.framed + getF s F.rchTrack_hyst ≤ min (sumAt p.e0 p.framed) (sumAt p.high p.framed) ∧ getF s F.rchTrack_trimLimit ≠ 0)) = true := by decide +kernel

theorem witness_ReadChannel_9 :
    (let s : State := { wDies with rch := { wDies.rch with probes := [(0, { wProbe with low := [9, 9, 9, 9, 9], high := [1, 1, 1, 1, 1] })] } }; let d : Nat := 0; let p : Probe := { wProbe with low := [9, 9, 9, 9, 9], high := [1, 1, 1, 1, 1] }; decide (Works s ∧ spFind s.rch.probes d = some p ∧ p.low ≠ [] ∧ p.high ≠ [] ∧ trimOf s d p.tier p.bin p.bp = p.trim ∧ ttabOf s p.tier p.bin p.bp = p.ttab ∧ ¬(sumAt p.low p.framed + getF s F.rchTrack_hyst ≤ min (sumAt p.e0 p.framed) (sumAt p.high p.framed)) ∧ sumAt p.high p.framed + getF s F.rchTrack_hyst ≤ min (sumAt p.e0 p.framed) (sumAt p.low p.framed) ∧ getF s F.rchTrack_trimLimit ≠ 0)) = true := by decide +kernel

theorem witness_ReadChannel_10 :
    (let s : State := { wDies with rch := { wDies.rch with probes := [(0, { wProbe with trim := 3 })] } }; let d : Nat := 0; let p : Probe := { wProbe with trim := 3 }; decide (Works s ∧ spFind s.rch.probes d = some p ∧ p.low ≠ [] ∧ p.high ≠ [] ∧ (trimOf s d p.tier p.bin p.bp ≠ p.trim ∨ ttabOf s p.tier p.bin p.bp ≠ p.ttab))) = true := by decide +kernel

theorem witness_DataBlocks_1 :
    (let n : Nat := 0; let b : Nat := 0; let pzn : Nat := 5; let i : Nat := 0; let c : CmdSlot := { wCk .write 0x01 0x300008 1 0 .admitted with firstSlot := 8, offset := 8 }; let z : ZstEntry := wZst; let s : State := putSlot wZone 0 { wCk .write 0x01 0x300008 1 0 .admitted with firstSlot := 8, offset := 8 }; decide (Works s ∧ slotOf s n = some c ∧ servedBy s n = none ∧ liveWrite c b = true ∧ c.fetched.contains b = false ∧ boundZone s c.ezn = some (pzn, z) ∧ relocOf s pzn = none ∧ (c.firstSlot + b) / hrSlots z.tier < z.durableHr + ringSlots z.tier ∧ accumRoom s pzn z.tier (c.firstSlot + b) = true ∧ spFind s.mep.ingest (blockKey n b) = none ∧ Gives s 4 i ∧ flag s F.mepFlip_arm = false)) = true := by decide +kernel

theorem witness_DataBlocks_2 :
    (let n : Nat := 0; let b : Nat := 0; let pzn : Nat := 5; let i : Nat := 0; let upto : Nat := 16; let c : CmdSlot := { wCk .write 0x01 0x300008 1 0 .admitted with fetched := [0], firstSlot := 8, offset := 8 }; let z : ZstEntry := wZst; let x : Ctx := ⟨.idle, true, 3, 0, 0, none, 0⟩; let g : IngestBlock := ⟨0, [], 0, [], false, 0⟩; let key : List Byte := wKey; let s : State := wFetched; decide (CanSeal s n b pzn i c z x g key ∧ 0 < upto ∧ upto < 4096)) = true := by decide +kernel

theorem witness_DataBlocks_3 :
    (let n : Nat := 0; let b : Nat := 0; let pzn : Nat := 5; let i : Nat := 0; let upto : Nat := 4096; let c : CmdSlot := { wCk .write 0x01 0x300008 1 0 .admitted with fetched := [0], firstSlot := 8, offset := 8 }; let z : ZstEntry := { wZst with wpHost := 10, wpPhys := 10 }; let x : Ctx := ⟨.idle, true, 3, 0, 0, none, 0⟩; let g : IngestBlock := ⟨0, [], 0, [], false, 0⟩; let key : List Byte := wKey; let s : State := { wFetched with zrs := { wFetched.zrs with zst := [(5, { wZst with wpHost := 10, wpPhys := 10 })] } }; let a : Accum := ⟨0, 5, 0, 0, [], [], 0, false⟩; decide (CanSeal s n b pzn i c z x g key ∧ 4096 ≤ upto ∧ g.parityBad = [] ∧ crc32c (g.data.take 4096) = g.icrc ∧ flag s F.mepFlip_arm = false ∧ CanFree s 4 g.buf ∧ s.tkr.retired = [] ∧ s.tkr.waiting = false ∧ spFind s.zrs.padReqs c.ezn = none ∧ spFind s.mep.staged (stageKey pzn (c.firstSlot + b)) = none ∧ accumOf s pzn ((c.firstSlot + b) / hrSlots z.tier) ((c.firstSlot + b) % hrSlots z.tier / 120) = some a ∧ ((groupSlots z.tier ((c.firstSlot + b) / hrSlots z.tier) ((c.firstSlot + b) % hrSlots z.tier / 120)).any fun k => k != c.firstSlot + b && !a.slots.contains k && !slotFiller z k && (spFind s.mep.staged (stageKey pzn k)).isNone) = true)) = true := by decide +kernel

theorem witness_DataBlocks_4 :
    (let n : Nat := 0; let b : Nat := 0; let pzn : Nat := 5; let i : Nat := 0; let c : CmdSlot := { wCk .read 0x02 0x300000 1 0 .admitted with reserved := 2, home := some ⟨5, wZst, 1⟩ }; let z : ZstEntry := wZst; let key : List Byte := wKey; let w : StagedBlock := sealedCopy wZone (wCk .read 0x02 0x300000 1 0 .admitted) 0 wKey []; let plain : List Byte := []; let s : State := wReading; decide (CanOpen s n b pzn c z key ∧ hasCw s n b = false ∧ c.offset + b < z.wpHost ∧ finalSlot s pzn z (slotOfOffset z.tier z.pads (c.offset + b)) = false ∧ spFind s.mep.staged (stageKey pzn (slotOfOffset z.tier z.pads (c.offset + b))) = some w ∧ stagedParity s pzn (slotOfOffset z.tier z.pads (c.offset + b)) w = [] ∧ metaFails s pzn (slotOfOffset z.tier z.pads (c.offset + b)) w = false ∧ w.resending = false ∧ openBlock s c (c.offset + b) key w = .plain plain ∧ Gives s 1 i ∧ c.reserved ≠ 0 ∧ allOpened { c with opened := addOnce c.opened b } = false)) = true := by decide +kernel

theorem witness_DataBlocks_5 :
    (let n : Nat := 0; let b : Nat := 0; let c : CmdSlot := wOpened []; let p : PoolBlock := wPool; let s : State := wSending []; decide (CanSend s n b c p ∧ ((List.range c.blocks).all fun i => (addOnce c.egress b).contains i) = false)) = true := by decide +kernel

theorem witness_DataBlocks_6 :
    (let n : Nat := 0; let b : Nat := 0; let c : CmdSlot := wOpened [1]; let p : PoolBlock := wPool; let s : State := wSending [1]; decide (CanSend s n b c p ∧ ((List.range c.blocks).all fun i => (addOnce c.egress b).contains i) = true ∧ c.failed = none ∧ Bare { s with mep := { s.mep with pool := spErase s.mep.pool (blockKey n b) } } n c)) = true := by decide +kernel

theorem witness_CipherPort_1 :
    (let ctx : Nat := 0; let c : Ctx := { spGet noCtx (wWrap (some wBlk)).cph.ctxs 0 with resident := false }; let s : State := wWrap (some wBlk); decide (Works s ∧ spFind s.cph.ctxs ctx = some c ∧ c.resident = false ∧ (s.cph.ctxs.filter fun kv => kv.2.resident).length < 512 ∧ parkedBad s ctx = [] ∧ restorePasses s ctx c (parkedBytes s ctx) = true ∧ c.cond ≠ .revoked)) = true := by decide +kernel

theorem witness_CipherPort_2 :
    (let ctx : Nat := 0; let c : Ctx := ⟨.block, false, 3, 0, 0, some wBlk, 4⟩; let s : State := { wWrap (some wBlk) with cph := { wZone.cph with ctxs := [(0, ⟨.block, false, 3, 0, 0, some wBlk, 4⟩)] } }; decide (Works s ∧ spFind s.cph.ctxs ctx = some c ∧ c.resident = false ∧ (s.cph.ctxs.filter fun kv => kv.2.resident).length < 512 ∧ parkedBad s ctx = [] ∧ restorePasses s ctx c (parkedBytes s ctx) = false ∧ c.cond ≠ .revoked)) = true := by decide +kernel

theorem witness_CipherPort_3 :
    (let r : KeyReq := ⟨0, 100, 3⟩; let v : BitVec 256 := 5#256; let s : State := wKeyQ; decide (Works s ∧ firstKeyReq s.cph.keyReqs = some r ∧ spFind s.tkr.slots r.keySlot = some v ∧ s.tkr.retired = [])) = true := by decide +kernel

theorem witness_CipherPort_4 :
    (let r : KeyReq := ⟨0, 100, 3⟩; let s : State := { wKeyQ with tkr := { wKeyQ.tkr with slots := [] } }; decide (Works s ∧ firstKeyReq s.cph.keyReqs = some r ∧ spFind s.tkr.slots r.keySlot = none ∧ s.hif.slots = [] ∧ s.cph.mreqs = [])) = true := by decide +kernel

theorem witness_CipherPort_5 :
    (let m : Nat := 0x10; let a : Nat := 0x60000040; let dl : Nat := 900; let rest : List (Nat × Nat) := []; let d : List Byte := memBytes wDescr1 0x60000040 64; let s : State := { wDescr1 with cph := { wDescr1.cph with keyCache := [] } }; decide (Works s ∧ dramReady s = true ∧ s.cph.mreqs = (m, a) :: rest ∧ d = memBytes s a 64 ∧ inDram a 64 = true ∧ leAt d 0 1 % 16 = 1 ∧ keyReady s d = false ∧ s.cph.keyReqs.length < 32 ∧ (s.cph.keyReqs.any fun r => r.keySlot == mgmtSlot d && r.deadline == dl) = false)) = true := by decide +kernel

theorem witness_CipherPort_6 :
    (let m : Nat := 0x10; let a : Nat := 0x60000040; let rest : List (Nat × Nat) := []; let d : List Byte := memBytes wDescr1 0x60000040 64; let key : List Byte := wKey; let s : State := wDescr1; decide (Serves s 1 m a rest d key)) = true := by decide +kernel

theorem witness_CipherPort_7 :
    (let m : Nat := 0x10; let a : Nat := 0x60000040; let rest : List (Nat × Nat) := []; let d : List Byte := memBytes wDescr2 0x60000040 64; let key : List Byte := wKey; let s : State := wDescr2; let plain : List Byte := []; decide (Serves s 2 m a rest d key ∧ gcmOpen key (bytesAt d 8 12) (memBytes s (leAt d 0x20 8) (leAt d 0x14 4 % 2 ^ 21)) (memBytes s (leAt d 0x28 8) (leAt d 0x18 4 % 2 ^ 21)) (memBytes s (leAt d 0x38 8) 16) = some plain)) = true := by decide +kernel

theorem witness_CipherPort_8 :
    (let m : Nat := 0x10; let a : Nat := 0x60000040; let rest : List (Nat × Nat) := []; let d : List Byte := memBytes (wDescr 2) 0x60000040 64; let key : List Byte := wKey; let s : State := wDescr 2; decide (Serves s 2 m a rest d key ∧ gcmOpen key (bytesAt d 8 12) (memBytes s (leAt d 0x20 8) (leAt d 0x14 4 % 2 ^ 21)) (memBytes s (leAt d 0x28 8) (leAt d 0x18 4 % 2 ^ 21)) (memBytes s (leAt d 0x38 8) 16) = none)) = true := by decide +kernel

theorem witness_CipherPort_9 :
    (let m : Nat := 0x10; let a : Nat := 0x60000040; let rest : List (Nat × Nat) := []; let d : List Byte := memBytes (wDescr 3) 0x60000040 64; let key : List Byte := wKey; let s : State := wDescr 3; decide (Serves s 3 m a rest d key)) = true := by decide +kernel

theorem witness_CipherPort_10 :
    (let m : Nat := 0x10; let a : Nat := 0x60000040; let rest : List (Nat × Nat) := []; let d : List Byte := memBytes (wDescrEnd 3 0x60000054 0) 0x60000040 64; let s : State := wDescrEnd 3 0x60000054 0; decide (Works s ∧ dramReady s = true ∧ s.cph.mreqs = (m, a) :: rest ∧ d = memBytes s a 64 ∧ inDram a 64 = true ∧ leAt d 0 1 % 16 = 3 ∧ leAt d 0x14 4 % 2 ^ 21 = 0 ∧ leAt d 0x18 4 % 2 ^ 21 = 0)) = true := by decide +kernel

theorem witness_CipherPort_11 :
    (let m : Nat := 0x10; let a : Nat := 0x60000040; let rest : List (Nat × Nat) := []; let d : List Byte := memBytes (wDescrEnd 3 0x60000056 31) 0x60000040 64; let s : State := wDescrEnd 3 0x60000056 31; decide (Works s ∧ dramReady s = true ∧ s.cph.mreqs = (m, a) :: rest ∧ d = memBytes s a 64 ∧ inDram a 64 = true ∧ leAt d 0 1 % 16 = 3 ∧ (2 ^ 20 < leAt d 0x14 4 % 2 ^ 21 ∨ 2 ^ 20 < leAt d 0x18 4 % 2 ^ 21))) = true := by decide +kernel

theorem witness_CipherPort_12 :
    (let m : Nat := 0x10; let a : Nat := 0x60000040; let rest : List (Nat × Nat) := []; let d : List Byte := memBytes (wDescrEnd 3 0x60000045 0) 0x60000040 64; let s : State := wDescrEnd 3 0x60000045 0; decide (Works s ∧ dramReady s = true ∧ s.cph.mreqs = (m, a) :: rest ∧ d = memBytes s a 64 ∧ inDram a 64 = true ∧ leAt d 0 1 % 16 = 3 ∧ 0 < leAt d 0x14 4 % 2 ^ 21 ∧ leAt d 0x14 4 % 2 ^ 21 ≤ 2 ^ 20 ∧ leAt d 0x18 4 % 2 ^ 21 ≤ 2 ^ 20 ∧ inDram (leAt d 0x20 8) (leAt d 0x14 4 % 2 ^ 21) = true ∧ inDram (leAt d 0x38 8) 16 = true ∧ isSystemSlot (mgmtSlot d) = false)) = true := by decide +kernel

theorem witness_TackRoom_1 :
    (let slot : Nat := 4099; let s : State := setF wHost (F.tkrData_word 3) 99; decide (TkrIdle s ∧ isSystemSlot slot = true ∧ spFind s.tkr.slots slot = none)) = true := by decide +kernel

theorem witness_TackRoom_2 :
    (let slot : Nat := 4099; let old : BitVec 256 := 6#256; let s : State := { setF wHost (F.tkrData_word 3) 99 with tkr := { wHost.tkr with slots := [(4099, 6#256)] }, cph := { wHost.cph with ctxs := [(0, ⟨.block, true, 3, 4099, 0, (some (freshBlock wHost 0 0 0 (wSlot (wSqe true 0 0 0 0 0 0)))), 0⟩)] } }; decide (TkrIdle s ∧ isSystemSlot slot = true ∧ spFind s.tkr.slots slot = some old ∧ old ≠ keyOf (tkrDataBytes s 8) ∧ s.tkr.retired.length < 64 ∧ (s.cph.ctxs.any fun kv => holdsKey kv.2 slot (keyVersion s slot)) = true ∧ ((∀ r ∈ s.tkr.retired, (s.cph.ctxs.any fun kv => holdsKey kv.2 r.keySlot r.version) = true)))) = true := by decide +kernel

theorem witness_TackRoom_3 :
    (let slot : Nat := 4099; let s : State := { wHost with tkr := { wHost.tkr with slots := [(4099, 0#256)] } }; decide (TkrIdle s ∧ isSystemSlot slot = true ∧ spFind s.tkr.slots slot = some (keyOf (tkrDataBytes s 8)))) = true := by decide +kernel

theorem witness_TackRoom_4 :
    (let slot : Nat := 3; let s : State := wHost; decide (TkrIdle s ∧ isSystemSlot slot = false ∧ slot < 8192)) = true := by decide +kernel

theorem witness_TackRoom_5 :
    (let slot : Nat := 4096; let s : State := wHost; decide (TkrIdle s ∧ isSystemSlot slot = false ∧ slot < 8192)) = true := by decide +kernel

theorem witness_TackRoom_6 :
    (let slot : Nat := 3; let w : Nat := 4098; let s : State := wHost; decide (TkrIdle s ∧ slot < 8192 ∧ w < 8192 ∧ (slot = slotCtxWrap ∨ 4160 ≤ slot ∨ (w ≠ slotImport ∧ w ≠ slotMigration)))) = true := by decide +kernel

theorem witness_TackRoom_7 :
    (let slot : Nat := 3; let w : Nat := 4099; let s : State := wHost; decide (TkrIdle s ∧ slot < 8192 ∧ w < 8192 ∧ (4096 ≤ slot ∨ w ≠ slotMigration))) = true := by decide +kernel

theorem witness_TackRoom_8 :
    (let slot : Nat := 4099; let s : State := setBit wHost F.tkrStat_alarmLock; decide (Powered s ∧ domainOn s .sec = true ∧ flag s F.tkrCmd_go = false ∧ s.tkr.waiting = false ∧ flag s F.tkrStat_alarmLock = true ∧ isSystemSlot slot = true)) = true := by decide +kernel

theorem witness_TackRoom_9 :
    (let slot : Nat := 4099; let s : State := setBit wHost F.tkrStat_alarmLock; decide (Powered s ∧ domainOn s .sec = true ∧ flag s F.tkrCmd_go = false ∧ s.tkr.waiting = false ∧ flag s F.tkrStat_alarmLock = true ∧ isSystemSlot slot = true)) = true := by decide +kernel

theorem witness_TackRoom_10 :
    (let slot : Nat := 3; let w : Nat := 4099; let s : State := setBit wHost F.tkrStat_alarmLock; decide (Powered s ∧ domainOn s .sec = true ∧ flag s F.tkrCmd_go = false ∧ s.tkr.waiting = false ∧ flag s F.tkrStat_alarmLock = true ∧ slot < 4160 ∧ slot ≠ slotCtxWrap ∧ (w = slotImport ∨ w = slotMigration))) = true := by decide +kernel

theorem witness_TackRoom_11 :
    (let slot : Nat := 3; let s : State := setBit wHost F.tkrStat_alarmLock; decide (Powered s ∧ domainOn s .sec = true ∧ flag s F.tkrCmd_go = false ∧ s.tkr.waiting = false ∧ flag s F.tkrStat_alarmLock = true ∧ slot < 4096)) = true := by decide +kernel

theorem witness_TackRoom_12 :
    (let m : Nat := 0x10; let s : State := wHost; decide (Works s ∧ domainOn s .sec = true ∧ reservedMaster m = false ∧ m ≠ idSec ∧ m ≠ idHostPf)) = true := by decide +kernel

theorem witness_TackRoom_13 :
    (let slot : Nat := 3; let w : Nat := 4099; let kek : List Byte := beBytes 32 1; let v : List Byte := beBytes 32 77; let s : State := loadTkr ({ wHost with tkr := { wHost.tkr with slots := [(4099, 1#256)] } }) (keyWrap (beBytes 32 1) (beBytes 32 77)); decide (TkrIdle s ∧ slot < 4160 ∧ slot ≠ slotCtxWrap ∧ (w = slotImport ∨ w = slotMigration) ∧ (4096 ≤ slot ∨ tenantLocked s = false) ∧ keyBytes s w = some kek ∧ keyUnwrap kek (tkrDataBytes s 10) = some v ∧ spFind s.tkr.slots slot = none)) = true := by decide +kernel

theorem witness_TackRoom_14 :
    (let slot : Nat := 3; let w : Nat := 4099; let kek : List Byte := beBytes 32 1; let s : State := { wHost with tkr := { wHost.tkr with slots := [(4099, 1#256)] } }; decide (TkrIdle s ∧ slot < 4160 ∧ slot ≠ slotCtxWrap ∧ (w = slotImport ∨ w = slotMigration) ∧ (4096 ≤ slot ∨ tenantLocked s = false) ∧ keyBytes s w = some kek ∧ keyUnwrap kek (tkrDataBytes s 10) = none)) = true := by decide +kernel

theorem witness_TackRoom_15 :
    (let slot : Nat := 3; let v : List Byte := beBytes 32 9; let kek : List Byte := beBytes 32 1; let s : State := { wHost with tkr := { wHost.tkr with slots := [(3, 9#256), (4097, 1#256)] } }; decide (TkrIdle s ∧ slot < 4096 ∧ keyBytes s slot = some v ∧ keyBytes s slotMigration = some kek)) = true := by decide +kernel

theorem witness_TackRoom_16 :
    (let slot : Nat := 3; let v : BitVec 256 := 9#256; let s : State := { wHost with tkr := { wHost.tkr with slots := [(3, 9#256), (4097, 1#256)] } }; decide (TkrIdle s ∧ slot < 4096 ∧ spFind s.tkr.slots slot = some v ∧ s.hif.slots = [])) = true := by decide +kernel

theorem witness_TackRoom_17 :
    (let slot : Nat := 3; let count : Nat := 2; let s : State := { wHost with tkr := { wHost.tkr with slots := [(3, 9#256), (4, 8#256), (5, 1#256)] } }; decide (TkrIdle s ∧ count ≠ 0 ∧ slot + count ≤ 4160 ∧ slot ≠ slotCtxWrap ∧ s.hif.slots = [])) = true := by decide +kernel

theorem witness_TackRoom_18 :
    (let slot : Nat := 3; let count : Nat := 2; let s : State := setF ({ wHost with tkr := { wHost.tkr with slots := [(3, 9#256), (4, 8#256), (5, 1#256)] } }) F.secAlarmAct_zeroise 1; decide (TkrIdle s ∧ count ≠ 0 ∧ slot + count ≤ 4160 ∧ slot ≠ slotCtxWrap ∧ s.hif.slots = [] ∧ alarmAction s 4 ≤ 1 ∧ getF s F.dbgUnlock_status ≠ 2)) = true := by decide +kernel

theorem witness_TackRoom_19 :
    (let slot : Nat := 3; let s : State := wHost; decide (TkrIdle s ∧ slot < 8192)) = true := by decide +kernel

theorem witness_TackRoom_20 :
    (let slot : Nat := 4159; let count : Nat := 2; let s : State := wHost; decide (TkrIdle s ∧ slot < 8192 ∧ count < 8192 ∧ count ≠ 0 ∧ 4160 < slot + count)) = true := by decide +kernel

theorem witness_TackRoom_21 :
    (let count : Nat := 1; let s : State := wHost; decide (TkrIdle s ∧ count ≠ 0 ∧ slotCtxWrap + count ≤ 4160)) = true := by decide +kernel

theorem witness_TackRoom_22 :
    (let slot : Nat := 4099; let s : State := wHost; decide (TkrIdle s ∧ isSystemSlot slot = true ∧ spFind s.tkr.slots slot = none)) = true := by decide +kernel

theorem witness_TackRoom_23 :
    (let r : RetiredKey := ⟨3, 0, 7#256, 5⟩; let rest : List RetiredKey := [⟨4, 0, 7#256, 9⟩]; let s : State := { wHost with tkr := { wHost.tkr with retired := [⟨3, 0, 7#256, 5⟩, ⟨4, 0, 7#256, 9⟩] } }; decide (Powered s ∧ s.tkr.retired = r :: rest ∧ s.tkr.waiting = false ∧ (s.cph.ctxs.any fun kv => holdsKey kv.2 r.keySlot r.version) = false)) = true := by decide +kernel

theorem witness_TackRoom_24 :
    (let i : Nat := 0; let c : Ctx := ⟨.block, true, 3, 4099, 0, some (freshBlock wHost 0 0 0 (wSlot (wSqe true 0 0 0 0 0 0))), 0⟩; let b : CtxBlock := freshBlock wHost 0 0 0 (wSlot (wSqe true 0 0 0 0 0 0)); let r : RetiredKey := ⟨4099, 0, 7#256, 5⟩; let rest : List RetiredKey := []; let s : State := { wHost with tkr := { wHost.tkr with retired := [⟨4099, 0, 7#256, 5⟩] }, cph := { wHost.cph with ctxs := [(0, ⟨.block, true, 3, 4099, 0, some (freshBlock wHost 0 0 0 (wSlot (wSqe true 0 0 0 0 0 0))), 0⟩)] } }; decide (Powered s ∧ s.tkr.retired = r :: rest ∧ s.tkr.waiting = false ∧ s.cph.ctxs = [(i, c)] ∧ c.keySlot = r.keySlot ∧ c.blk = some b ∧ b.version = r.version)) = true := by decide +kernel

theorem witness_Boot_1 :
    (let s : State := wHost; decide (Powered s ∧ s.sec.released = false ∧ s.lrs.bootStopped = false ∧ domainOn s .sec = true ∧ pmuState s < 2 ∧ chooseSlot s = none)) = true := by decide +kernel

theorem witness_Boot_2 :
    (let k : Nat := 1; let fb : Bool := false; let s : State := wBooting; decide (Powered s ∧ s.sec.released = false ∧ s.lrs.bootStopped = false ∧ domainOn s .sec = true ∧ pmuState s < 2 ∧ chooseSlot s = some (k, fb) ∧ dramReady s = false)) = true := by decide +kernel

theorem witness_Boot_3 :
    (let k : Nat := 1; let p : Nat := 2; let src : Nat := 1; let fb : Bool := false; let s : State := { setF wBooting F.dmcStat_state 4 with nor := { wBooting.nor with profiles := [(2, wProfile)] }, straps := ⟨2, 0, 0⟩ }; decide (Powered s ∧ s.sec.released = false ∧ s.lrs.bootStopped = false ∧ domainOn s .sec = true ∧ pmuState s < 2 ∧ chooseSlot s = some (k, fb) ∧ dramReady s = true ∧ s.sec.warmBoot = false ∧ selectProfile s = some (p, src) ∧ (bootRecord s).seq + 1 < 2 ^ 32)) = true := by decide +kernel

theorem witness_Boot_4 :
    (let s : State := { wReported with jrn := { wReported.jrn with nss := wNss } }; decide (Powered s ∧ s.sec.released = true ∧ s.lrs.bootStopped = false ∧ getF s F.prfBoot_stage ≠ 10 ∧ dramReady s = true ∧ baysSettled s = true ∧ s.age.fwStart < s.clk.lastTick ∧ s.sec.warmBoot = false ∧ s.jrn.zones = [] ∧ s.zrs.zst = [] ∧ s.hif.sanitize.running = none ∧ s.sec.secFlags = 0)) = true := by decide +kernel

theorem witness_Boot_5 :
    (let s : State := { wReported with sec := { wReported.sec with warmBoot := true } }; decide (Powered s ∧ s.sec.released = true ∧ s.lrs.bootStopped = false ∧ getF s F.prfBoot_stage ≠ 10 ∧ dramReady s = true ∧ baysSettled s = true ∧ s.age.fwStart < s.clk.lastTick ∧ s.sec.warmBoot = true ∧ s.zrs.map = [] ∧ s.hif.sanitize.running = none ∧ s.sec.secFlags = 0)) = true := by decide +kernel

theorem witness_Boot_6 :
    (let s : State := { wReported with jrn := wZone.jrn }; decide (Powered s ∧ s.sec.released = true ∧ s.lrs.bootStopped = false ∧ getF s F.prfBoot_stage ≠ 10 ∧ dramReady s = true ∧ baysSettled s = true ∧ s.age.fwStart < s.clk.lastTick ∧ s.hif.sanitize.running = none)) = true := by decide +kernel

theorem witness_Boot_7 :
    (let e : Nat := 3; let m : ZoneMapEntry := ⟨5, true, false, 1⟩; let z : ZstEntry := wZst; let h : Option WriteRecord := some ⟨0, 5000, [], 8, 0⟩; let s : State := { wReported with jrn := wZone.jrn }; decide (Powered s ∧ s.sec.released = true ∧ s.lrs.bootStopped = false ∧ getF s F.prfBoot_stage ≠ 10 ∧ dramReady s = true ∧ baysSettled s = true ∧ s.age.fwStart < s.clk.lastTick ∧ s.sec.warmBoot = false ∧ s.jrn.zones = [(e, ⟨m, some z, h⟩)] ∧ m.bound = true ∧ z.bound = true ∧ isActiveState z.state = true ∧ z.durableHr * hrSlots z.tier < recHorizon ⟨m, some z, h⟩ ∧ s.zrs.zst = [] ∧ s.hif.sanitize.running = none)) = true := by decide +kernel

theorem witness_Boot_8 :
    (let s : State := { wReported with sec := { wReported.sec with warmBoot := true, secFlags := 1, secSvn := 3 } }; decide (Powered s ∧ s.sec.released = true ∧ s.lrs.bootStopped = false ∧ getF s F.prfBoot_stage ≠ 10 ∧ dramReady s = true ∧ baysSettled s = true ∧ s.age.fwStart < s.clk.lastTick ∧ s.sec.warmBoot = true ∧ s.zrs.map = [] ∧ s.hif.sanitize.running = none ∧ bitAt s.sec.secFlags 0 = true ∧ s.otp.arb < s.sec.secSvn ∧ field s.sec.secFlags 7 4 = 0)) = true := by decide +kernel

theorem witness_Boot_9 :
    (let s : State := wReported; decide (Powered s ∧ s.sec.released = true ∧ s.lrs.bootStopped = false ∧ getF s F.prfBoot_stage ≠ 10 ∧ dramReady s = true ∧ baysSettled s = true ∧ s.age.fwStart < s.clk.lastTick ∧ s.sec.warmBoot = false)) = true := by decide +kernel

theorem witness_Resets_1 :
    (let p : Nat := 1; let r : Nat := 0; let d : Nat := 0; let k : Nat := 1; let fb : Bool := false; let s : State := wOffDev; decide (s.pmu.off = true ∧ strapsValid ⟨p % 4, r % 4, d % 16⟩ = true ∧ s.sec.released = false ∧ s.lrs.bootStopped = false ∧ pmuState s < 2 ∧ chooseSlot s = some (k, fb) ∧ getF s F.dmcStat_state ≠ 4 ∧ s.jrn.removed = 0)) = true := by decide +kernel

theorem witness_Resets_2 :
    (let s : State := wBase; decide (Powered s ∧ s.lrs.shelfReset = false ∧ s.dmc.chans = [] ∧ s.mhm.relocs = [] ∧ s.sch.dies = [] ∧ s.jrn.waiting = [] ∧ Regs.wf s = true)) = true := by decide +kernel

theorem witness_Resets_3 :
    (let s : State := putSlot wZone 0 (wSlot (wSqe true 0 0 0 0 0 0)); decide (Powered s ∧ s.lrs.shelfReset = false)) = true := by decide +kernel

theorem witness_Resets_4 :
    (let s : State := putSlot wZone 0 (wSlot (wSqe true 0 0 0 0 0 0)); decide (Powered s ∧ s.lrs.perst = false ∧ s.lrs.shelfReset = false)) = true := by decide +kernel

theorem witness_Resets_5 :
    (let p : Nat := 1; let r : Nat := 0; let d : Nat := 0; let k : Nat := 1; let fb : Bool := false; let s : State := { wBooting with lrs := { wBooting.lrs with shelfReset := true }, pmu := { wBooting.pmu with on := [] } }; decide (Powered s ∧ s.lrs.shelfReset = true ∧ strapsValid ⟨p % 4, r % 4, d % 16⟩ = true ∧ s.sec.released = false ∧ s.lrs.bootStopped = false ∧ pmuState s < 2 ∧ chooseSlot s = some (k, fb) ∧ getF s F.dmcStat_state ≠ 4 ∧ s.jrn.removed = 0)) = true := by decide +kernel

theorem witness_Resets_6 :
    (let s : State := wBase; decide (Powered s ∧ s.lrs.perst = false ∧ s.lrs.shelfReset = false ∧ s.dmc.chans = [] ∧ s.mep.merge = [] ∧ ((∀ kv ∈ s.mbx.chans, kv.2.st ≠ .claimed ∧ kv.2.st ≠ .full)) ∧ s.mhm.relocs = [] ∧ s.sch.dies = [] ∧ s.jrn.waiting = [] ∧ Regs.wf s = true)) = true := by decide +kernel

theorem witness_Resets_7 :
    (let k : Nat := 1; let fb : Bool := false; let s : State := { wBooting with lrs := { wBooting.lrs with perst := true }, pmu := { wBooting.pmu with on := [.host] }, dmc := { wBooting.dmc with selfRefresh := true } }; decide (Powered s ∧ s.lrs.perst = true ∧ strapsValid s.straps = true ∧ s.sec.released = false ∧ s.lrs.bootStopped = false ∧ pmuState s < 2 ∧ chooseSlot s = some (k, fb) ∧ s.dmc.selfRefresh = true ∧ s.dmc.storeValid = false ∧ s.jrn.removed = 0)) = true := by decide +kernel

theorem witness_Resets_8 :
    (let s : State := wBase; decide (Powered s ∧ s.mhm.relocs = [] ∧ s.sch.dies = [] ∧ s.jrn.waiting = [] ∧ Regs.wf s = true)) = true := by decide +kernel

theorem witness_Resets_9 :
    (let a : Nat := 0; let xs : List Nat := [1, 2, 3, 4, 5, 6, 7]; let s : State := wRestart; decide (Powered s ∧ s.lrs.phase = .restart ∧ getF s F.rstLrs_hbTimeout ≠ 0 ∧ (List.range 8).filter (fun c => !s.lrs.written.contains c) = a :: xs ∧ getF s F.rstLrs_restarts < 3 ∧ s.jrn.waiting = [] ∧ ((∀ kv ∈ s.mbx.chans, kv.2.st ≠ .claimed ∧ kv.2.st ≠ .full)))) = true := by decide +kernel

theorem witness_PowerRequests_1 :
    (let m : Nat := 0x10; let s : State := setF (wHost) F.pmuState_state 1; decide (PmuIdle s ∧ Reaches s m F.pmuReq_req.addr true ∧ pmuWriter s m = true ∧ pmuState s = 1)) = true := by decide +kernel

theorem witness_PowerRequests_2 :
    (let m : Nat := 0x10; let s : State := setF (wHost) F.pmuState_state 0; decide (PmuIdle s ∧ Reaches s m F.pmuReq_req.addr true ∧ pmuWriter s m = true ∧ pmuState s = 0)) = true := by decide +kernel

theorem witness_PowerRequests_3 :
    (let m : Nat := 0x10; let s : State := setF (wHost) F.pmuState_state 0; decide (PmuIdle s ∧ Reaches s m F.pmuReq_req.addr true ∧ pmuWriter s m = true ∧ pmuState s ≤ 1)) = true := by decide +kernel

theorem witness_PowerRequests_4 :
    (let m : Nat := 0x17; let s : State := setF (wHost) F.pmuState_state 1; decide (PmuIdle s ∧ Reaches s m F.pmuReq_req.addr true ∧ pmuWriter s m = true ∧ pmuState s ≤ 1)) = true := by decide +kernel

theorem witness_PowerRequests_5 :
    (let m : Nat := 0x10; let s : State := setF (wHost) F.pmuState_state 0; decide (PmuIdle s ∧ Reaches s m F.pmuReq_req.addr true ∧ pmuWriter s m = true ∧ pmuState s = 0)) = true := by decide +kernel

theorem witness_PowerRequests_6 :
    (let m : Nat := idLrs; let s : State := wDown; decide (PmuIdle s ∧ Reaches s m F.pmuReq_req.addr true ∧ pmuWriter s m = true ∧ (pmuState s = 2 ∨ pmuState s = 3))) = true := by decide +kernel

theorem witness_PowerRequests_7 :
    (let m : Nat := idLrs; let s : State := wDown; decide (PmuIdle s ∧ Reaches s m F.pmuReq_req.addr true ∧ pmuWriter s m = true ∧ (pmuState s = 2 ∨ pmuState s = 3))) = true := by decide +kernel

theorem witness_PowerRequests_8 :
    (let m : Nat := idLrs; let s : State := wDown; decide (PmuIdle s ∧ Reaches s m F.pmuReq_req.addr true ∧ pmuWriter s m = true ∧ pmuState s = 2)) = true := by decide +kernel

theorem witness_PowerRequests_9 :
    (let m : Nat := idLrs; let s : State := setF (wDown) F.pmuState_state 3; decide (PmuIdle s ∧ Reaches s m F.pmuReq_req.addr true ∧ pmuWriter s m = true ∧ pmuState s = 3)) = true := by decide +kernel

theorem witness_PowerRequests_10 :
    (let m : Nat := 0x10; let s : State := { wHost with pmu := { wHost.pmu with flight := .drain, target := .standby } }; decide (Reaches s m F.pmuReq_req.addr true ∧ pmuWriter s m = true ∧ s.lrs.perst = false ∧ s.lrs.shelfReset = false ∧ standalone s = true ∧ s.pmu.flight ≠ .none ∧ (s.pmu.flight = .exiting → s.pmu.target ≠ .idle))) = true := by decide +kernel

theorem witness_PowerRequests_11 :
    (let m : Nat := 0x20; let s : State := wHost; decide (Reaches s m F.pmuReq_req.addr true ∧ pmuWriter s m = false ∧ m ≠ idHostPf)) = true := by decide +kernel

theorem witness_PowerRequests_12 :
    (let m : Nat := idLrs; let s : State := wDown; decide (PmuIdle s ∧ Reaches s m F.pmuReq_req.addr true ∧ pmuWriter s m = true ∧ (pmuState s = 2 ∨ pmuState s = 3))) = true := by decide +kernel

theorem witness_PowerRequests_13 :
    (let k : Nat := 3; let s : State := setF (wHost) F.pmuState_state 3; decide (PmuIdle s ∧ k < 6 ∧ (pmuState s = 2 ∨ pmuState s = 3))) = true := by decide +kernel

theorem witness_PowerRequests_14 :
    (let s : State := { wHost with pmu := { wHost.pmu with flight := .activeIdle, target := .idle } }; decide (Powered s ∧ s.pmu.flight = .activeIdle ∧ s.pmu.pending = none ∧ getF s F.dbgUnlock_status ≠ dbgChalReady)) = true := by decide +kernel

theorem witness_PowerRequests_15 :
    (let b : Nat := 1; let s : State := setF (setF ({ wHost with bay := { wHost.bay with bays := [(1, ⟨.ready, 0, true, true, false, 3⟩)] }, pins := { wHost.pins with bayPwrEn := 2 } }) F.pmuState_state 1) F.pmuCfg_bayIdle 7; decide (Powered s ∧ pmuState s = stIdle ∧ getF s F.pmuCfg_bayIdle ≠ 0 ∧ (bayOf s b).phase = .ready ∧ (bayOf s b).again = false ∧ bayUnused s b = true ∧ b < 4 ∧ bitAt s.pins.bayPwrEn b = true ∧ MailQuiet s ∧ Regs.wf s = true)) = true := by decide +kernel

theorem witness_PowerStates_1 :
    (let s : State := { wHost with pmu := { wHost.pmu with flight := .drain, target := .standby } }; decide (Powered s ∧ s.pmu.flight = .drain ∧ workDrained s = true ∧ s.pmu.target = .standby ∧ s.pmu.pending = none)) = true := by decide +kernel

theorem witness_PowerStates_2 :
    (let s : State := { wHost with pmu := { wHost.pmu with flight := .drain, target := .safelight } }; decide (Powered s ∧ s.pmu.flight = .drain ∧ workDrained s = true ∧ s.pmu.target = .safelight ∧ s.zrs.zst = [] ∧ s.mhm.relocs = [] ∧ s.pmu.pending = none)) = true := by decide +kernel

theorem witness_PowerStates_3 :
    (let s : State := wActive; let pzn : Nat := 5; let z : ZstEntry := wZst; decide (Powered s ∧ s.pmu.flight = .drain ∧ workDrained s = true ∧ s.pmu.target = .safelight ∧ s.pmu.padded = [] ∧ s.mhm.relocs = [] ∧ s.zrs.zst = [(pzn, z)] ∧ boundZone s z.ezn = some (pzn, z) ∧ isActiveState z.state = true ∧ z.durableHr * hrSlots z.tier < z.wpPhys ∧ s.pmu.pending = none)) = true := by decide +kernel

theorem witness_PowerStates_4 :
    (let s : State := { wHost with pmu := { wHost.pmu with flight := .drain, target := .standby, pending := some .wake } }; decide (Powered s ∧ s.pmu.flight = .drain ∧ workDrained s = true ∧ s.pmu.pending = some .wake ∧ NothingHeld s ∧ s.zrs.cam = [])) = true := by decide +kernel

theorem witness_PowerStates_5 :
    (let m : Nat := 0x10; let s : State := setBit ({ wHost with pmu := { wHost.pmu with flight := .firmware, target := .standby } }) F.mepFlip_arm; decide (Reaches s m F.pmuReq_req.addr true ∧ pmuWriter s m = true ∧ s.pmu.flight = .firmware ∧ s.mhm.acc = [] ∧ s.mhm.updateQ = [] ∧ s.jrn.waiting = [] ∧ getF s F.mepScrubCtrl_status ≠ scrubRunning ∧ (getF s F.mepScrubCtrl_status ≠ scrubSuspended ∨ s.pmu.target ≠ .safelight))) = true := by decide +kernel

theorem witness_PowerStates_6 :
    (let m : Nat := 0x10; let s : State := setF ({ wHost with pmu := { wHost.pmu with flight := .firmware, target := .standby } }) F.mepScrubCtrl_status scrubRunning; decide (Reaches s m F.pmuReq_req.addr true ∧ pmuWriter s m = true ∧ s.pmu.flight = .firmware ∧ s.mhm.acc = [] ∧ s.mhm.updateQ = [] ∧ s.jrn.waiting = [] ∧ getF s F.mepScrubCtrl_status = scrubRunning ∧ flag s F.mepScrubCtrl_space = false ∧ s.pmu.target = .standby)) = true := by decide +kernel

theorem witness_PowerStates_7 :
    (let d : Nat := 0; let e : DieEntry := wErase; let bs : List Balance := []; let s : State := { wPadded with pmu := { wPadded.pmu with flight := .bays, target := .standby } }; decide (Powered s ∧ s.pmu.flight = .bays ∧ s.bay.bays = [] ∧ s.rch.reads = [] ∧ s.rch.pages = [] ∧ ((∀ c ∈ List.range 64, getF s (F.fchStat_state c) ≠ 3)) ∧ s.pmu.target = .standby ∧ s.sch.dies = [(d, { noDie with queue := [e], balances := bs })] ∧ isReadEntry e = false ∧ s.pmu.pending = none)) = true := by decide +kernel

theorem witness_PowerStates_8 :
    (let d : Nat := 0; let r : Running := wRun wErase .busy 0; let s : State := wBusyOff; decide (Powered s ∧ s.pmu.flight = .bays ∧ s.pmu.target = .standby ∧ s.sch.dies = [(d, { noDie with current := some r })] ∧ r.stage = .busy)) = true := by decide +kernel

theorem witness_PowerStates_9 :
    (let s : State := { wHost with pmu := { wHost.pmu with flight := .bays, target := .safelight, pending := some .standby } }; decide (Powered s ∧ s.pmu.flight = .bays ∧ s.bay.bays = [] ∧ s.rch.reads = [] ∧ s.rch.pages = [] ∧ ((∀ c ∈ List.range 64, getF s (F.fchStat_state c) ≠ 3)) ∧ s.pmu.target = .safelight ∧ s.sch.dies = [] ∧ s.pmu.pending = some .standby)) = true := by decide +kernel

theorem witness_PowerStates_10 :
    (let s : State := { wHost with pmu := { wHost.pmu with flight := .save, target := .standby } }; decide (Powered s ∧ s.pmu.flight = .save ∧ s.sbg.accums = [] ∧ s.cph.ctxs = [] ∧ s.pmu.pending = none ∧ s.pmu.target = .standby)) = true := by decide +kernel

theorem witness_PowerStates_11 :
    (let s : State := { wZone with cph := { wZone.cph with ctxs := [] }, pmu := { wZone.pmu with flight := .save, target := .safelight } }; decide (Powered s ∧ s.pmu.flight = .save ∧ s.sbg.accums = [] ∧ s.cph.ctxs = [] ∧ s.pmu.pending = none ∧ s.pmu.target = .safelight ∧ s.hif.slots = [])) = true := by decide +kernel

theorem witness_PowerStates_12 :
    (let s : State := setF ({ wHost with pmu := { wHost.pmu with flight := .selfRefresh, target := .standby } }) F.dmcStat_state 4; decide (Powered s ∧ s.pmu.flight = .selfRefresh ∧ standalone s = true ∧ s.slk.peers = [] ∧ dramReady s = true ∧ s.dmc.chans = [] ∧ s.mep.merge = [] ∧ s.pmu.target = .standby)) = true := by decide +kernel

theorem witness_PowerStates_13 :
    (let s : State := setF ({ wHost with pmu := { wHost.pmu with flight := .selfRefresh, target := .safelight } }) F.dmcStat_state 4; decide (Powered s ∧ s.pmu.flight = .selfRefresh ∧ standalone s = true ∧ s.slk.peers = [] ∧ dramReady s = true ∧ s.dmc.chans = [] ∧ s.mep.merge = [] ∧ s.pmu.target = .safelight)) = true := by decide +kernel

theorem witness_PowerStates_14 :
    (let s : State := setF ({ wHost with pmu := { wHost.pmu with flight := .off, target := .standby, opPs := 1 } }) F.mepIntegCnt_icrcResend 3; decide (Powered s ∧ s.pmu.flight = .off ∧ getF s F.dbgUnlock_status ≠ dbgChalReady ∧ Regs.wf s = true ∧ MailQuiet s ∧ s.pmu.pending = none ∧ s.pmu.target = .standby)) = true := by decide +kernel

theorem witness_PowerStates_15 :
    (let s : State := setF ({ wHost with pmu := { wHost.pmu with flight := .off, target := .safelight, opPs := 1 } }) F.mepIntegCnt_icrcResend 3; decide (Powered s ∧ s.pmu.flight = .off ∧ getF s F.dbgUnlock_status ≠ dbgChalReady ∧ Regs.wf s = true ∧ MailQuiet s ∧ s.pmu.pending = none ∧ s.pmu.target = .safelight)) = true := by decide +kernel

theorem witness_PowerStates_16 :
    (let s : State := setF ({ wHost with pmu := { wHost.pmu with on := [.sec, .host], flight := .exiting, target := .active, opPs := 1, savedSch := 50, savedEpoch := 0 }, dmc := { wHost.dmc with selfRefresh := true, storeValid := true } }) F.pmuState_state 2; decide (Powered s ∧ s.pmu.flight = .exiting ∧ s.pmu.viaExit = false ∧ s.pmu.pending = none ∧ domainOn s .data = false ∧ standalone s = true ∧ flag s F.slkLeader_isLeader = false ∧ s.dmc.selfRefresh = true ∧ s.dmc.storeValid = true ∧ s.dmc.storeBad = false ∧ getF s F.dmcRefresh_poll ≠ 0 ∧ NothingHeld s ∧ pmuState s = 2)) = true := by decide +kernel

theorem witness_PowerStates_17 :
    (let s : State := setF ({ wHost with pmu := { wHost.pmu with on := [.sec, .host], flight := .exiting, target := .active, opPs := 1, savedSch := 50, savedEpoch := 0 }, dmc := { wHost.dmc with selfRefresh := true, storeValid := true } }) F.pmuState_state 2; decide (Powered s ∧ s.pmu.flight = .exiting ∧ pmuState s = 2 ∧ domainOn s .data = false ∧ standalone s = true ∧ s.dmc.selfRefresh = true)) = true := by decide +kernel

theorem witness_PowerStates_18 :
    (let s : State := setF (setF ({ wHost with pmu := { wHost.pmu with flight := .exiting, target := .safelight, viaExit := true } }) F.pmuState_state 2) F.dmcStat_state 4; decide (Powered s ∧ s.pmu.flight = .exiting ∧ s.pmu.viaExit = true ∧ s.pmu.pending = none ∧ pmuState s = 2 ∧ domainOn s .data = true ∧ dramReady s = true ∧ s.sch.parked = [] ∧ s.mhm.relocs = [] ∧ s.zrs.zst = [])) = true := by decide +kernel

theorem witness_PowerStates_19 :
    (let s : State := setF ({ wHost with pmu := { wHost.pmu with on := [.host], flight := .exiting, target := .idle, opPs := 1, savedSch := 50, savedEpoch := 0 }, dmc := { wHost.dmc with selfRefresh := true, storeValid := true } }) F.pmuState_state 3; decide (Powered s ∧ s.pmu.flight = .exiting ∧ s.pmu.viaExit = false ∧ s.pmu.pending = none ∧ domainOn s .data = false ∧ standalone s = true ∧ flag s F.slkLeader_isLeader = false ∧ s.dmc.selfRefresh = true ∧ s.dmc.storeValid = true ∧ s.dmc.storeBad = false ∧ getF s F.dmcRefresh_poll ≠ 0 ∧ NothingHeld s ∧ pmuState s = 3 ∧ flag s F.tkrStat_alarmLock = false ∧ flag s F.tkrCmd_go = false ∧ s.tkr.slots = [] ∧ s.tkr.retired = [])) = true := by decide +kernel

theorem witness_ClocksAndLink_1 :
    (let m : Nat := 0x10; let pll : Nat := 2; let s : State := wHost; decide (Reaches s m F.pmuClk_en.addr true ∧ pmuWriter s m = true ∧ pll < 4)) = true := by decide +kernel

theorem witness_ClocksAndLink_2 :
    (let pll : Nat := 2; let s : State := setF wHost F.pmuClk_en 4; decide (Powered s ∧ pll < 4 ∧ bitAt (getF s F.pmuClk_en) pll = true)) = true := by decide +kernel

theorem witness_ClocksAndLink_3 :
    (let m : Nat := 0x10; let pll : Nat := 2; let s : State := setF wHost F.pmuClk_lock 4; decide (Reaches s m F.pmuClk_en.addr true ∧ pmuWriter s m = true ∧ pll < 4 ∧ bitAt (getF s F.pmuClk_lock) pll = true)) = true := by decide +kernel

theorem witness_ClocksAndLink_4 :
    (let m : Nat := 0x10; let pll : Nat := 1; let s : State := setF wHost F.pmuClk_lock 4; decide (Reaches s m F.pmuClk_en.addr true ∧ pmuWriter s m = true ∧ pll < 4 ∧ bitAt (getF s F.pmuClk_lock) pll = false)) = true := by decide +kernel

theorem witness_ClocksAndLink_5 :
    (let m : Nat := 0x10; let pll : Nat := 2; let s : State := setF wHost F.pmuClk_sel 5; decide (Reaches s m F.pmuClk_en.addr true ∧ pmuWriter s m = true ∧ pll < 4)) = true := by decide +kernel

theorem witness_ClocksAndLink_6 :
    (let pll : Nat := 2; let s : State := setF (setF (setF wHost F.pmuClk_lock 4) F.pmuClk_sel 4) ⟨F.secAlarmAct_vglitch.addr, 3, 2⟩ 1; decide (Powered s ∧ pll < 4 ∧ bitAt (getF s F.pmuClk_lock) pll = true ∧ alarmAction s 1 ≤ 1 ∧ getF s F.dbgUnlock_status ≠ 2)) = true := by decide +kernel

theorem witness_ClocksAndLink_7 :
    (let m : Nat := idSec; let s : State := wHost; decide (Reaches s m F.pmuClk_en.addr true ∧ pmuWriter s m = false ∧ m ≠ idHostPf)) = true := by decide +kernel

theorem witness_ClocksAndLink_8 :
    (let m : Nat := idSec; let s : State := wHost; decide (Reaches s m F.pmuClk_sel.addr true ∧ pmuWriter s m = false ∧ m ≠ idHostPf)) = true := by decide +kernel

theorem witness_ClocksAndLink_9 :
    (let s : State := wHost; decide (Powered s ∧ s.hif.linkUp = true ∧ s.hif.l12 = false)) = true := by decide +kernel

theorem witness_ClocksAndLink_10 :
    (let s : State := { wHost with hif := { wHost.hif with l12 := true } }; decide (Powered s ∧ s.hif.l12 = true)) = true := by decide +kernel

theorem witness_LastResort_1 :
    (let c : Nat := 5; let s : State := wHost; decide (Reaches s (idMc c) (0x1000200020 + 4 * c) true ∧ c < 8 ∧ s.lrs.phase ≠ .restart)) = true := by decide +kernel

theorem witness_LastResort_2 :
    (let c : Nat := 5; let s : State := { wRestart with lrs := { wRestart.lrs with written := [0, 1, 2, 3, 4, 6, 7] } }; decide (Reaches s (idMc c) (0x1000200020 + 4 * c) true ∧ c < 8 ∧ s.lrs.phase = .restart ∧ (List.range 8).all (fun x => (addOnce s.lrs.written c).contains x) = true ∧ s.pmu.flight = .none)) = true := by decide +kernel

theorem witness_LastResort_3 :
    (let m : Nat := 0x11; let c : Nat := 5; let s : State := wHost; decide (Reaches s m (0x1000200020 + 4 * c) true ∧ c < 8 ∧ m ≠ idMc c ∧ m ≠ idHostPf)) = true := by decide +kernel

theorem witness_LastResort_4 :
    (let c : Nat := 3; let s : State := { wHost with pmu := { wHost.pmu with on := [.sec, .host, .data, .dmc, .mgmt] } }; decide (Powered s ∧ lrsWatches s = true ∧ (s.dbg.halted.any isMc) = false ∧ c < 8 ∧ getF s F.rstLrs_restarts < 3 ∧ s.jrn.waiting = [] ∧ MailQuiet s)) = true := by decide +kernel

theorem witness_LastResort_5 :
    (let c : Nat := 3; let s : State := { wHost with pmu := { wHost.pmu with on := [.sec, .host, .data, .dmc, .mgmt] } }; decide (Powered s ∧ lrsWatches { s with lrs := { s.lrs with phase := .watching } } = true ∧ (s.lrs.phase = .watching ∨ s.lrs.phase = .restart) ∧ c < 8 ∧ getF s F.rstLrs_restarts < 3 ∧ s.jrn.waiting = [] ∧ MailQuiet s)) = true := by decide +kernel

theorem witness_LastResort_6 :
    (let c : Nat := 3; let s : State := setF ({ wHost with pmu := { wHost.pmu with on := [.sec, .host, .data, .dmc, .mgmt] } }) F.rstLrs_restarts 3; decide (Powered s ∧ lrsWatches { s with lrs := { s.lrs with phase := .watching } } = true ∧ (s.lrs.phase = .watching ∨ s.lrs.phase = .restart) ∧ c < 8 ∧ getF s F.rstLrs_restarts = 3 ∧ s.jrn.waiting = [] ∧ s.csh.ports = [] ∧ MailQuiet s)) = true := by decide +kernel

theorem witness_LastResort_7 :
    (let m : Nat := idMc 0; let s : State := { wHost with pmu := { wHost.pmu with on := [.sec, .host, .data, .dmc, .mgmt] } }; decide (Reaches s m 0x1000200008 true ∧ (m = idMc 0 ∨ (m = idDebug ∧ debugFull s = true)) ∧ lrsActive s = false ∧ domainOn s .mgmt = true ∧ s.jrn.waiting = [] ∧ MailQuiet s)) = true := by decide +kernel

theorem witness_LastResort_8 :
    (let m : Nat := idMc 1; let s : State := wHost; decide (Reaches s m 0x1000200008 true ∧ m ≠ idMc 0 ∧ m ≠ idDebug ∧ m ≠ idHostPf)) = true := by decide +kernel

theorem witness_LastResort_9 :
    (let s : State := setF wHost F.rstLrs_restarts 2; decide (Powered s ∧ s.lrs.phase = .watching)) = true := by decide +kernel

theorem witness_LastResort_10 :
    (let s : State := wHost; decide (Powered s ∧ s.lrs.shelfReset = false ∧ pmuState s ≠ stSafelight ∧ s.lrs.phase ≠ .hold)) = true := by decide +kernel

theorem witness_LastResort_11 :
    (let s : State := setF wHost F.pmuState_state 3; decide (Powered s ∧ s.lrs.shelfReset = false ∧ (pmuState s = stSafelight ∨ s.lrs.phase = .hold))) = true := by decide +kernel

theorem witness_LastResort_12 :
    (let s : State := { wHost with pins := { wHost.pins with shelfHbMs := 500 } }; decide (Powered s)) = true := by decide +kernel

theorem witness_BayPower_1 :
    (let b : Nat := 2; let s : State := { wHost with bay := { wHost.bay with lastRise := some 3 } }; decide (Works s ∧ pmuState s < 2 ∧ b < 4 ∧ bayEnabled s b = true ∧ ((bayOf s b).phase = .off ∨ (bayOf s b).phase = .failed) ∧ ((∀ x ∈ List.range 4, x < b → (bayOf s x).phase ≠ .requested)))) = true := by decide +kernel

theorem witness_BayPower_2 :
    (let b : Nat := 1; let x : Nat := 0; let s : State := wBay ⟨.requested, 0, false, true, false, 0⟩; decide (Works s ∧ pmuState s < 2 ∧ b < 4 ∧ (bayOf s b).phase = .requested ∧ ((∀ x ∈ List.range 4, x < b → (bayOf s x).phase ≠ .requested)))) = true := by decide +kernel

theorem witness_BayPower_3 :
    (let b : Nat := 1; let s : State := wBay ⟨.waitPg, 40, false, true, false, 0⟩; decide (Powered s ∧ b < 4 ∧ (bayOf s b).phase = .waitPg ∧ s.prf.descs = [] ∧ s.prf.fchWrites = [])) = true := by decide +kernel

theorem witness_BayPower_4 :
    (let b : Nat := 1; let s : State := { wBay ⟨.waitPg, 40, false, true, false, 0⟩ with prf := { wHost.prf with descs := [wDescBytes] } }; decide (Powered s ∧ b < 4 ∧ (bayOf s b).phase = .waitPg)) = true := by decide +kernel

theorem witness_BayPower_5 :
    (let b : Nat := 1; let k : Nat := 0; let d : Nat := 256; let bytes : List Byte := [0x2C, 0x7B]; let s : State := wTrainBay; decide (Powered s ∧ b < 4 ∧ (bayOf s b).phase = .waitTpor ∧ (bayOf s b).identified = false ∧ (validDescs s b).find? (fun k => idMatches s b k 0 bytes) = some k ∧ d ∈ targetDies s b 0 0 k ∧ 800 ≤ descF s b k 0x1E 2 ∧ ((∀ x ∈ bayDies b, diePresent s x = false)) ∧ ((∀ x ∈ List.range 16, getF s (F.fchCtrl_maxRate (16 * b + x)) ≠ 0)) ∧ ((∀ x ∈ List.range 16, flag s (F.fchCtrl_enable (16 * b + x)) = true)))) = true := by decide +kernel

theorem witness_BayPower_6 :
    (let b : Nat := 1; let bytes : List Byte := [0x2C, 0x7C]; let s : State := wRebind; decide (Powered s ∧ b < 4 ∧ (bayOf s b).phase = .waitTpor ∧ (bayOf s b).identified = true ∧ diePresent s (256 * b) = true ∧ idMatches s b (getF s (F.fchDieCfg_desc (16 * b) 0)) 0 bytes = false)) = true := by decide +kernel

theorem witness_BayPower_7 :
    (let b : Nat := 1; let s : State := wBay ⟨.waitPg, 40, false, true, false, 0⟩; decide (Powered s ∧ b < 4 ∧ (bayOf s b).phase = .waitPg ∧ s.rch.reads = [] ∧ ((∀ kv ∈ s.hif.slots, isReadKind kv.2.kind = false)) ∧ bayWriteZones s b = [] ∧ ((∀ kv ∈ s.sch.dies, dieBay kv.1 ≠ b)))) = true := by decide +kernel

theorem witness_BayPower_8 :
    (let b : Nat := 1; let s : State := wBay ⟨.ready, 40, true, true, false, 0⟩; decide (Powered s ∧ b < 4 ∧ (bayOf s b).phase = .ready ∧ ((∀ kv ∈ s.sch.dies, dieBay kv.1 ≠ b)) ∧ ((∀ kv ∈ s.sch.dies, kv.2.tokenWait = false)) ∧ s.rch.pages = [] ∧ MailQuiet s)) = true := by decide +kernel

theorem witness_BayPower_9 :
    (let b : Nat := 1; let s : State := wBay ⟨.ready, 40, true, true, false, 0⟩; decide (Powered s ∧ b < 4 ∧ (bayOf s b).phase = .ready ∧ (bayOf s b).again = false ∧ bayUnused s b = true ∧ MailQuiet s)) = true := by decide +kernel

theorem witness_BayPower_10 :
    (let b : Nat := 0; let s : State := wOn wErase .busy 0; decide (Powered s ∧ bayUnused s b = false)) = true := by decide +kernel

theorem witness_Channels_1 :
    (let m : Nat := 0x10; let c : Nat := 16; let k : Nat := 0; let crc : DWord := BitVec.ofNat 32 (leAt wDescBytes 252 4); let s : State := wReadyBay; decide (Reaches s m (F.fchDesc_word (c / 16) (64 * k + 63)).addr true ∧ c < 64 ∧ c % 16 = 0 ∧ k < 8 ∧ descInUse s (c / 16) k = false ∧ descValid (setF s (F.fchDesc_word (c / 16) (64 * k + 63)) crc.toNat) (c / 16) k = true)) = true := by decide +kernel

theorem witness_Channels_2 :
    (let m : Nat := 0x10; let c : Nat := 16; let k : Nat := 0; let crc : DWord := 5; let s : State := wReadyBay; decide (Reaches s m (F.fchDesc_word (c / 16) (64 * k + 63)).addr true ∧ c < 64 ∧ c % 16 = 0 ∧ k < 8 ∧ descInUse s (c / 16) k = false ∧ descCrcGood (setF s (F.fchDesc_word (c / 16) (64 * k + 63)) crc.toNat) (c / 16) k = false)) = true := by decide +kernel

theorem witness_Channels_3 :
    (let m : Nat := 0x10; let c : Nat := 16; let k : Nat := 0; let s : State := wBusyChan; decide (Reaches s m (F.fchDesc_word (c / 16) (64 * k + 63)).addr true ∧ c < 64 ∧ c % 16 = 0 ∧ k < 8 ∧ descInUse s (c / 16) k = true)) = true := by decide +kernel

theorem witness_Channels_4 :
    (let m : Nat := 0x10; let c : Nat := 16; let r : Nat := 2400; let s : State := setBit (wDescIn wReadyBay 1) (F.fchDieCfg_present 16 0); decide (Reaches s m (F.fchCtrl_train c).addr true ∧ c < 64 ∧ channelBusy s c = false ∧ (bayOf s (c / 16)).phase = .ready ∧ flag s (F.fchCtrl_enable c) = true ∧ trainRate s c = some r ∧ r < 2 ^ 12)) = true := by decide +kernel

theorem witness_Channels_5 :
    (let m : Nat := 0x10; let c : Nat := 16; let r : Nat := 3600; let s : State := wReadyBay; decide (Reaches s m (F.fchCtrl_train c).addr true ∧ c < 64 ∧ ((∀ x ∈ diesOfChannel c, diePresent s x = false)) ∧ channelBusy s c = false ∧ (bayOf s (c / 16)).phase = .ready ∧ flag s (F.fchCtrl_enable c) = true ∧ trainRate s c = some r)) = true := by decide +kernel

theorem witness_Channels_6 :
    (let m : Nat := 0x10; let c : Nat := 16; let s : State := wBusyChan; decide (Reaches s m (F.fchCtrl_train c).addr true ∧ c < 64 ∧ channelBusy s c = true)) = true := by decide +kernel

theorem witness_Channels_7 :
    (let m : Nat := 0x10; let c : Nat := 16; let s : State := wReadyBay; decide (Reaches s m (F.fchCtrl_train c).addr true ∧ c < 64 ∧ ((∀ x ∈ diesOfChannel c, diePresent s x = false)) ∧ channelBusy s c = false ∧ flag s (F.fchCtrl_train c) = false)) = true := by decide +kernel

theorem witness_Channels_8 :
    (let m : Nat := 0x10; let c : Nat := 16; let d : Nat := 256; let s : State := setBit (setBit wReadyBay (F.fchDieCfg_present 16 0)) (F.fchDieCfg_inservice 16 0); decide (Reaches s m (F.fchCtrl_train c).addr true ∧ c < 64 ∧ channelBusy s c = false ∧ flag s (F.fchCtrl_train c) = false ∧ d ∈ diesOfChannel c)) = true := by decide +kernel

theorem witness_Channels_9 :
    (let m : Nat := 0x10; let tr : Tier := .d4; let s : State := setF wHost F.rchTrimIdx_bin 3; decide (Reaches s m 0x1001400028 true ∧ tierOf (getF s F.rchTrimIdx_tier) = some tr)) = true := by decide +kernel

theorem witness_Channels_10 :
    (let m : Nat := 0x10; let i : Nat := 77; let s : State := wHost; decide (Reaches s m 0x1001500000 true ∧ isMc m = true ∧ i ≤ lastRecord ∧ s.mhm.updateQ = [])) = true := by decide +kernel

theorem witness_Channels_11 :
    (let m : Nat := idSec; let s : State := wHost; decide (Reaches s m 0x1001500000 true ∧ isMc m = false ∧ m ≠ idHostPf)) = true := by decide +kernel

theorem witness_MediaRefresh_1 :
    (let s : State := { setF (setF wDies F.mhmWalk_rate 9) F.mhmWalk_kind 2 with mhm := { wDies.mhm with lowestPe := [(1, 7)] } }; decide (Works s ∧ flag s F.mhmWalk_run = false ∧ getF s F.mhmWalk_rate ≠ 0 ∧ getF s F.mhmWalk_cursor ≤ lastRecord)) = true := by decide +kernel

theorem witness_MediaRefresh_2 :
    (let s : State := setF (setF wDies F.mhmWalk_rate 9) F.mhmWalk_cursor 17039360; decide (Works s ∧ flag s F.mhmWalk_run = false ∧ getF s F.mhmWalk_rate ≠ 0 ∧ lastRecord < getF s F.mhmWalk_cursor)) = true := by decide +kernel

theorem witness_MediaRefresh_3 :
    (let bad : Nat := 0; let s : State := wWalk 0 7; decide (Works s ∧ flag s F.mhmWalk_run = true ∧ flag s F.mhmWalk_paused = false ∧ pmuDrains s = false ∧ getF s F.mhmWalk_cursor % 4 = 3 ∧ getF s F.mhmWalk_cursor < lastRecord ∧ brtGood s (getF s F.mhmWalk_cursor) = true ∧ walkMatch s (getF s F.mhmWalk_cursor) = false ∧ bitAt bad 3 = false)) = true := by decide +kernel

theorem witness_MediaRefresh_4 :
    (let bad : Nat := 0; let s : State := setBrt (wWalk 0 7) 7 { freshBrt 7 with cond := .dirty }; decide (Works s ∧ flag s F.mhmWalk_run = true ∧ flag s F.mhmWalk_paused = false ∧ pmuDrains s = false ∧ getF s F.mhmWalk_cursor % 4 = 3 ∧ getF s F.mhmWalk_cursor < lastRecord ∧ brtGood s (getF s F.mhmWalk_cursor) = true ∧ walkMatch s (getF s F.mhmWalk_cursor) = true ∧ getF s F.mhmWalk_kind ≠ 2 ∧ s.mhm.walkFifo.length < 512 ∧ bitAt bad 3 = false)) = true := by decide +kernel

theorem witness_MediaRefresh_5 :
    (let s : State := let x := setBrt (wWalk 0 7) 7 { freshBrt 7 with cond := .dirty }; { x with mhm := { x.mhm with walkFifo := List.range 512 } }; decide (Works s ∧ flag s F.mhmWalk_run = true ∧ flag s F.mhmWalk_paused = false ∧ pmuDrains s = false ∧ getF s F.mhmWalk_cursor % 4 = 3 ∧ getF s F.mhmWalk_cursor < lastRecord ∧ brtGood s (getF s F.mhmWalk_cursor) = true ∧ 512 ≤ s.mhm.walkFifo.length)) = true := by decide +kernel

theorem witness_MediaRefresh_6 :
    (let s : State := wWalk 0 0; decide (Works s ∧ getF s F.mhmWalk_cursor = 0 ∧ Works s ∧ flag s F.mhmWalk_run = true ∧ flag s F.mhmWalk_paused = false ∧ pmuDrains s = false ∧ ((∀ i ∈ List.range 4, walkMatch s i = false ∧ brtGood s i = true)) ∧ s.mhm.walkFifo.length < 512)) = true := by decide +kernel

theorem witness_MediaRefresh_7 :
    (let bad : Nat := 8; let s : State := setBrt (wWalk 0 7) 7 { freshBrt 7 with cond := .dirty }; decide (Works s ∧ flag s F.mhmWalk_run = true ∧ flag s F.mhmWalk_paused = false ∧ pmuDrains s = false ∧ getF s F.mhmWalk_cursor % 4 = 3 ∧ getF s F.mhmWalk_cursor < lastRecord ∧ brtGood s (getF s F.mhmWalk_cursor) = true ∧ bitAt bad 3 = true ∧ s.mhm.walkFifo.length < 512)) = true := by decide +kernel

theorem witness_MediaRefresh_8 :
    (let s : State := wWalk 0 7; decide (Works s ∧ flag s F.mhmWalk_run = true)) = true := by decide +kernel

theorem witness_MediaRefresh_9 :
    (let s : State := setBit (wWalk 0 7) F.mhmWalk_paused; decide (Works s ∧ (flag s F.mhmWalk_run = false ∨ flag s F.mhmWalk_paused = true ∨ pmuDrains s = true))) = true := by decide +kernel

theorem witness_MediaRefresh_10 :
    (let g : Nat := 0; let s : State := setBrt (wWalk 2 7) 7 { freshBrt 7 with cond := .written }; decide (Works s ∧ flag s F.mhmWalk_run = true ∧ flag s F.mhmWalk_paused = false ∧ pmuDrains s = false ∧ getF s F.mhmWalk_cursor % 4 = 3 ∧ getF s F.mhmWalk_cursor < lastRecord ∧ brtGood s (getF s F.mhmWalk_cursor) = true ∧ walkMatch s (getF s F.mhmWalk_cursor) = true ∧ getF s F.mhmWalk_kind = 2 ∧ s.mhm.walkFifo.length < 512 ∧ dieGroup (brtDie (getF s F.mhmWalk_cursor)) = g ∧ spFind s.mhm.lowestPe g = none)) = true := by decide +kernel

theorem witness_MediaRefresh_11 :
    (let s : State := wWalk 0 7; decide (Works s)) = true := by decide +kernel

theorem witness_MediaRefresh_12 :
    (let m : Nat := 0x10; let i : Nat := 9; let rest : List Nat := [4]; let s : State := let x := setBit (wWalk 0 7) F.mhmWalk_paused; { x with mhm := { x.mhm with walkFifo := [9, 4] } }; decide (Works s ∧ Reaches s m F.mhmWalkOut_index.addr false ∧ s.mhm.walkFifo = i :: rest ∧ getF s F.mhmWalk_kind ≠ 1)) = true := by decide +kernel

theorem witness_MediaRefresh_13 :
    (let m : Nat := 0x10; let i : Nat := brtIndex (memberDie 0 0) 0 5; let e : Nat := 3; let rest : List Nat := [4]; let s : State := wDisturb; decide (Works s ∧ Reaches s m F.mhmWalkOut_index.addr false ∧ s.mhm.walkFifo = i :: rest ∧ getF s F.mhmWalk_kind = 1 ∧ walkMatch (clrF s F.mhmWalk_paused) i = true ∧ eznOfRecord s i = some e ∧ ((∀ c ∈ s.mhm.candidates, c.ezn ≠ e)) ∧ zoneState s e = .full ∧ zoneState s e ≠ .offline)) = true := by decide +kernel

theorem witness_MediaRefresh_14 :
    (let m : Nat := 0x10; let s : State := wWalk 0 7; decide (Works s ∧ Reaches s m F.mhmWalkOut_index.addr false ∧ s.mhm.walkFifo = [])) = true := by decide +kernel

theorem witness_MediaRefresh_15 :
    (let e : Nat := 3; let pzn : Nat := 5; let rest : List Nat := [8]; let z : ZstEntry := wZst; let s : State := wBound; decide (Works s ∧ s.mhm.scanQueue = e :: rest ∧ boundZone s e = some (pzn, z) ∧ z.state ≠ .offline ∧ z.durableHr = 0 ∧ progOf s pzn = freshProg ∧ ageBin (zoneAge s z) < getF s (F.mhmThresh_forceBin (tierNum z.tier)))) = true := by decide +kernel

theorem witness_MediaRefresh_16 :
    (let e : Nat := 3; let pzn : Nat := 5; let dl : Nat := 90000000; let rest : List Nat := [8]; let z : ZstEntry := sealedZst { wZst with durableHr := 4 }; let s : State := { wBound with zrs := { wBound.zrs with zst := [(5, sealedZst { wZst with durableHr := 4 })] } }; decide (Works s ∧ s.mhm.scanQueue = e :: rest ∧ boundZone s e = some (pzn, z) ∧ z.state ≠ .offline ∧ finalSlot s pzn z (slotAt z.tier pzn 0 0 0 0 ((parityMember pzn + 1 + s.mhm.scanCount % 15) % 16)) = true ∧ dieInService s (memberDie (groupOf pzn) ((parityMember pzn + 1 + s.mhm.scanCount % 15) % 16)) = true ∧ (stepEst s z.tier .hard = 0 ∨ now s + stepEst s z.tier .hard ≤ dl))) = true := by decide +kernel

theorem witness_MediaRefresh_17 :
    (let e : Nat := 3; let pzn : Nat := 5; let rest : List Nat := [8]; let z : ZstEntry := sealedZst { wZst with state := .offline }; let s : State := { wBound with zrs := { wBound.zrs with zst := [(5, sealedZst { wZst with state := .offline })] } }; decide (Works s ∧ s.mhm.scanQueue = e :: rest ∧ boundZone s e = some (pzn, z) ∧ z.state = .offline)) = true := by decide +kernel

theorem witness_MediaRefresh_18 :
    (let s : State := wZone; decide (Works s ∧ s.mhm.scanQueue = [])) = true := by decide +kernel

theorem witness_MediaRefresh_19 :
    (let src : Nat := 5; let target : Nat := 4101; let c : Candidate := ⟨3, .bayLoss, 4⟩; let z : ZstEntry := wZst; let s : State := forEach (List.range 16) wMove fun s m => setF (setBit (setBit s (F.fchDieCfg_present m 1)) (F.fchDieCfg_inservice m 1)) (F.fchDieCfg_tiers m 1) 7; decide (Works s ∧ nextCandidate (openCandidates s) = some c ∧ boundZone s c.ezn = some (src, z) ∧ z.durableHr = 0 ∧ targetFits s src target z.tier c.cause = true ∧ s.mep.staged = [] ∧ src ≠ target ∧ s.sbg.accums = [])) = true := by decide +kernel

theorem witness_MediaRefresh_20 :
    (let pzn : Nat := 5; let x : Reloc := ⟨3, 4101, .bayLoss, [], 0, .negative, 500⟩; let s : State := wMoved; decide (Works s ∧ relocOf s pzn = some x ∧ x.rows ≤ (zstOf s x.target).durableHr ∧ s.mhm.doomed = [] ∧ s.sbg.accums = [] ∧ x.target ≠ pzn ∧ ((spFind s.zrs.ops x.ezn).any fun o => o.isReset) = false)) = true := by decide +kernel

theorem witness_MediaRefresh_21 :
    (let pzn : Nat := 5; let x : Reloc := ⟨3, 4101, .bayLoss, [], 4, .negative, 500⟩; let s : State := { wMoved with mhm := { wMoved.mhm with relocs := [(5, ⟨3, 4101, .bayLoss, [], 4, .negative, 500⟩)] } }; decide (Works s ∧ relocOf s pzn = some x ∧ ((zstOf s x.target).durableHr < x.rows ∨ ((spFind s.zrs.ops x.ezn).any fun o => o.isReset) = true))) = true := by decide +kernel

theorem witness_MediaRefresh_22 :
    (let s : State := wZone; decide (Works s ∧ openCandidates s = [])) = true := by decide +kernel

theorem witness_MediaRefresh_23 :
    (let p : Nat := 5; let m : Nat := 2; let pl : Nat := 1; let c : SpareCopy := wCopy; let s : State := putProg { wZone with mhm := { wZone.mhm with copies := [wCopy] } } 5 { progOf wZone 5 with halted := [2, 3] }; decide (Works s ∧ s.mhm.copies = [c] ∧ c.pzn = p ∧ c.member = m ∧ c.plane = pl ∧ c.wl = 0)) = true := by decide +kernel

theorem witness_OffTime_1 :
    (let s : State := { wSurv with age := { wSurv.age with composite := 30 } }; decide (Works s ∧ getF s F.mhmOffest_state = 0 ∧ (sbyte (getF s F.mhmCold_surveyMin) ≤ s.age.composite ∨ (s.sec.released = true ∧ s.age.fwStart + 600000000 ≤ s.clk.us)) ∧ s.age.sentinels = [])) = true := by decide +kernel

theorem witness_OffTime_2 :
    (let d : Nat := 0; let x : Sentinel := wSent; let s : State := { wSurv with age := { wSurv.age with sentinels := [(0, [wSent])], composite := 30 } }; decide (Works s ∧ getF s F.mhmOffest_state = 0 ∧ (sbyte (getF s F.mhmCold_surveyMin) ≤ s.age.composite ∨ (s.sec.released = true ∧ s.age.fwStart + 600000000 ≤ s.clk.us)) ∧ s.age.sentinels = [(d, [x])] ∧ dieInService s d = true)) = true := by decide +kernel

theorem witness_OffTime_3 :
    (let s : State := { wSurv with age := { wSurv.age with composite := -30 } }; decide (Works s ∧ getF s F.mhmOffest_state = 0 ∧ s.age.composite < sbyte (getF s F.mhmCold_surveyMin) ∧ (s.sec.released = false ∨ s.clk.us < s.age.fwStart + 600000000))) = true := by decide +kernel

theorem witness_OffTime_4 :
    (let k : Nat := 0; let c : Int := 1; let x : Sentinel := wSent; let w : SurveyWork := ⟨wProbed 1, []⟩; let s : State := wAsk (wProbed 1); decide (Works s ∧ getF s F.mhmOffest_state = 1 ∧ s.age.survey = [(k, w)] ∧ surveyHeld s k = false ∧ sentinelAt s k = some x ∧ nextCode s (k / 4) w = some c)) = true := by decide +kernel

theorem witness_OffTime_5 :
    (let k : Nat := 0; let x : Sentinel := wSent; let w : SurveyWork := ⟨wProbed 2, []⟩; let s : State := wAsk (wProbed 2); decide (Works s ∧ getF s F.mhmOffest_state = 1 ∧ s.age.survey = [(k, w)] ∧ surveyHeld s k = false ∧ sentinelAt s k = some x ∧ nextCode s (k / 4) w = none)) = true := by decide +kernel

theorem witness_OffTime_6 :
    (let num : Int := 5; let den : Nat := 1; let v : Nat → Int := (fun _ => 4); decide (v 0 * den < num)) = true := by decide +kernel

theorem witness_OffTime_7 :
    (let s : State := { setF wSurv F.mhmOffest_state 2 with age := { wSurv.age with stampLast := some (0, 0), stampNew := some (7200000, 1) } }; decide (Works s ∧ getF s F.mhmOffest_state = 2 ∧ s.age.stampNew.isSome = true ∧ s.zrs.zst = [])) = true := by decide +kernel

theorem witness_OffTime_8 :
    (let s : State := { setF wZone F.mhmOffest_state 2 with age := { wSurv.age with stampLast := some (0, 0), stampNew := some (7200000, 1) } }; decide (Works s ∧ getF s F.mhmOffest_state = 2 ∧ s.age.stampNew.isSome = true)) = true := by decide +kernel

theorem witness_OffTime_9 :
    (let s : State := setF wSurv F.mhmOffest_state 2; decide (Works s ∧ getF s F.mhmOffest_state = 2 ∧ s.age.stampNew = none ∧ s.zrs.zst = [])) = true := by decide +kernel

theorem witness_Mailboxes_1 :
    (let n : Nat := 63; let v : DWord := 0xA0001120#32; let s : State := w0; decide (Works s ∧ n < 64 ∧ flag s F.mbxLock_bindLock = false ∧ v.toNat % 128 ≠ v.toNat / 256 % 128 ∧ canBeParty s (v.toNat % 128) = true ∧ canBeParty s (v.toNat / 256 % 128) = true ∧ bitAt v.toNat 31 = true ∧ (chanOf s n).st = .unbound)) = true := by decide +kernel

theorem witness_Mailboxes_2 :
    (let n : Nat := 5; let v : DWord := 0x00001120#32; let s : State := wChan 5 wFull 0x20 0x11; decide (Works s ∧ n < 64 ∧ flag s F.mbxLock_bindLock = false ∧ v.toNat % 128 ≠ v.toNat / 256 % 128 ∧ canBeParty s (v.toNat % 128) = true ∧ canBeParty s (v.toNat / 256 % 128) = true ∧ bitAt v.toNat 31 = false)) = true := by decide +kernel

theorem witness_Mailboxes_3 :
    (let m : Nat := idSec; let n : Nat := 63; let v : DWord := 0xA0001120#32; let s : State := setBit w0 F.mbxLock_bindLock; decide (Works s ∧ reservedMaster m = false ∧ ((m ≠ idSec ∨ flag s F.mbxLock_bindLock = true ∨ v.toNat % 128 = v.toNat / 256 % 128 ∨ canBeParty s (v.toNat % 128) = false ∨ canBeParty s (v.toNat / 256 % 128) = false ∨ 64 ≤ n)))) = true := by decide +kernel

theorem witness_Mailboxes_4 :
    (let m : Nat := 0x10; let s : State := w0; decide (Works s ∧ reservedMaster m = false ∧ m ≠ idSec)) = true := by decide +kernel

theorem witness_Mailboxes_5 :
    (let s : State := w0; decide (Works s)) = true := by decide +kernel

theorem witness_Mailboxes_6 :
    (let n : Nat := 5; let a : Nat := 0x11; let b : Nat := 0x20; let s : State := wChan 5 wIdleCh 0x20 0x11; decide (Works s ∧ a < b ∧ isParty s n a = true ∧ isParty s n b = true ∧ reservedMaster a = false ∧ reservedMaster b = false ∧ a ≠ idDebug ∧ b ≠ idDebug ∧ (chanOf s n).st = .idle)) = true := by decide +kernel

theorem witness_Mailboxes_7 :
    (let n : Nat := 5; let m : Nat := 0x12; let s : State := wChan 5 wIdleCh 0x20 0x11; decide (Works s ∧ reservedMaster m = false ∧ m ≠ idDebug ∧ isParty s n m = false)) = true := by decide +kernel

theorem witness_Mailboxes_8 :
    (let n : Nat := 5; let m : Nat := 0x20; let s : State := wChan 5 wFull 0x20 0x11; decide (Works s ∧ isParty s n m = true ∧ reservedMaster m = false ∧ m ≠ idDebug ∧ ((chanOf s n).st = .full ∨ ((chanOf s n).st = .claimed ∧ (chanOf s n).holder ≠ m)))) = true := by decide +kernel

theorem witness_Mailboxes_9 :
    (let n : Nat := 5; let m : Nat := 0x11; let i : Nat := 15; let s : State := wChan 5 wClaimed 0x20 0x11; decide (Works s ∧ isParty s n m = true ∧ reservedMaster m = false ∧ m ≠ idDebug ∧ (chanOf s n).st = .claimed ∧ (chanOf s n).holder = m ∧ i < 16)) = true := by decide +kernel

theorem witness_Mailboxes_10 :
    (let n : Nat := 5; let m : Nat := 0x12; let s : State := wChan 5 wClaimed 0x20 0x11; decide (Works s ∧ reservedMaster m = false ∧ isParty s n m = false)) = true := by decide +kernel

theorem witness_Mailboxes_11 :
    (let n : Nat := 5; let m : Nat := 0x11; let len : Nat := 20; let s : State := wChan 5 wClaimed 0x20 0x11; decide (Works s ∧ isParty s n m = true ∧ reservedMaster m = false ∧ m ≠ idDebug ∧ (chanOf s n).st = .claimed ∧ (chanOf s n).holder = m ∧ 0 < len ∧ ((otherParty s n m < 0x40 ∨ 0x50 ≤ otherParty s n m)) ∧ partyOn s (otherParty s n m) = true ∧ (mbxMask s (otherParty s n m)).getLsbD n = false)) = true := by decide +kernel

theorem witness_Mailboxes_12 :
    (let n : Nat := 5; let m : Nat := 0x11; let len : Nat := 3; let s : State := wChan 5 wClaimed 0x41 0x11; decide (Works s ∧ isParty s n m = true ∧ reservedMaster m = false ∧ m ≠ idDebug ∧ (chanOf s n).st = .claimed ∧ (chanOf s n).holder = m ∧ 0 < len)) = true := by decide +kernel

theorem witness_Mailboxes_13 :
    (let n : Nat := 5; let m : Nat := 0x11; let i : Nat := 15; let s : State := wChan 5 wFull 0x20 0x11; decide (Works s ∧ isParty s n m = true ∧ reservedMaster m = false ∧ m ≠ idDebug ∧ ((chanOf s n).st ≠ .claimed ∨ (chanOf s n).holder ≠ m ∨ 16 ≤ i))) = true := by decide +kernel

theorem witness_Mailboxes_14 :
    (let n : Nat := 5; let m : Nat := 0x20; let s : State := wChan 5 wClaimed 0x20 0x11; decide (Works s ∧ isParty s n m = true ∧ reservedMaster m = false ∧ m ≠ idDebug ∧ ((chanOf s n).st ≠ .claimed ∨ (chanOf s n).holder ≠ m))) = true := by decide +kernel

theorem witness_Mailboxes_15 :
    (let n : Nat := 5; let m : Nat := 0x20; let s : State := wChan 5 wClaimed 0x20 0x11; decide (Works s ∧ isParty s n m = true ∧ reservedMaster m = false ∧ m ≠ idDebug ∧ ((chanOf s n).st ≠ .claimed ∨ (chanOf s n).holder ≠ m))) = true := by decide +kernel

theorem witness_Mailboxes_16 :
    (let n : Nat := 5; let m : Nat := 0x20; let s : State := wChan 5 wFull 0x20 0x11; decide (Works s ∧ isParty s n m = true ∧ reservedMaster m = false ∧ m ≠ idDebug ∧ ((chanOf s n).st ≠ .full ∨ (chanOf s n).holder ≠ m) ∧ ((chanOf s n).st ≠ .idle ∨ (mbxDone s m).getLsbD n = false))) = true := by decide +kernel

theorem witness_Mailboxes_17 :
    (let n : Nat := 5; let m : Nat := 0x11; let s : State := wChan 5 wFull 0x20 0x11; decide (Works s ∧ isParty s n m = true ∧ reservedMaster m = false ∧ m ≠ idDebug ∧ ((chanOf s n).st ≠ .full ∨ (chanOf s n).holder = m))) = true := by decide +kernel

theorem witness_Mailboxes_18 :
    (let n : Nat := 5; let m : Nat := 0x11; let s : State := wChan 5 wClaimed 0x20 0x11; decide (Works s ∧ isParty s n m = true ∧ reservedMaster m = false ∧ m ≠ idDebug ∧ (chanOf s n).st = .claimed ∧ (chanOf s n).holder = m)) = true := by decide +kernel

theorem witness_Mailboxes_19 :
    (let n : Nat := 5; let m : Nat := 0x11; let s : State := wChan 5 wClaimed 0x20 0x11; decide (Works s ∧ isParty s n m = true ∧ reservedMaster m = false ∧ m ≠ idDebug ∧ (chanOf s n).st = .claimed ∧ (chanOf s n).holder = m)) = true := by decide +kernel

theorem witness_Mailboxes_20 :
    (let n : Nat := 5; let m : Nat := 0x11; let s : State := wChan 5 wFull 0x20 0x11; decide (Works s ∧ isParty s n m = true ∧ reservedMaster m = false ∧ m ≠ idDebug ∧ (chanOf s n).st = .full ∧ (chanOf s n).holder = m)) = true := by decide +kernel

theorem witness_Mailboxes_21 :
    (let n : Nat := 5; let m : Nat := 0x20; let c : Chan := wFull; let s : State := wChan 5 wFull 0x20 0x11; decide (Works s ∧ isParty s n m = true ∧ reservedMaster m = false ∧ m ≠ idDebug ∧ chanOf s n = c ∧ c.st = .full ∧ c.holder ≠ m ∧ c.orphan = false ∧ ((c.holder < 0x40 ∨ 0x50 ≤ c.holder)))) = true := by decide +kernel

theorem witness_Mailboxes_22 :
    (let n : Nat := 5; let m : Nat := 0x20; let c : Chan := wFull; let s : State := wChan 5 wFull 0x20 0x11; decide (Works s ∧ isParty s n m = true ∧ reservedMaster m = false ∧ m ≠ idDebug ∧ chanOf s n = c ∧ c.st = .full ∧ c.holder ≠ m ∧ c.orphan = false ∧ 0 < c.len ∧ ((c.holder < 0x40 ∨ 0x50 ≤ c.holder)))) = true := by decide +kernel

theorem witness_Mailboxes_23 :
    (let n : Nat := 5; let i : Nat := 1; let m : Nat := 0x11; let c : Chan := wFull; let s : State := wChan 5 wFull 0x20 0x11; decide (Works s ∧ isParty s n m = true ∧ reservedMaster m = false ∧ m ≠ idDebug ∧ chanOf s n = c ∧ c.st = .full ∧ ((c.holder = m ∨ i + 1 ≠ c.len)))) = true := by decide +kernel

theorem witness_Mailboxes_24 :
    (let n : Nat := 5; let m : Nat := 0x20; let c : Chan := { wFull with orphan := true }; let s : State := wChan 5 { wFull with orphan := true } 0x20 0x11; decide (Works s ∧ isParty s n m = true ∧ reservedMaster m = false ∧ m ≠ idDebug ∧ chanOf s n = c ∧ c.st = .full ∧ c.holder ≠ m ∧ c.orphan = true)) = true := by decide +kernel

theorem witness_Mailboxes_25 :
    (let n : Nat := 5; let m : Nat := 0x11; let s : State := wChan 5 wClaimed 0x20 0x11; decide (Works s ∧ isParty s n m = true ∧ reservedMaster m = false ∧ m ≠ idDebug ∧ (chanOf s n).st ≠ .full)) = true := by decide +kernel

theorem witness_Mailboxes_26 :
    (let s : State := wChan 5 wFull 0x20 0x11; decide (Powered s)) = true := by decide +kernel

theorem witness_Mailboxes_27 :
    (let n : Nat := 5; let m : Nat := 0x11; let c : Chan := wClaimed; let s : State := wChan 5 wClaimed 0x20 0x11; decide (Powered s ∧ (s.mbx.chans.map (·.1)) = [n] ∧ chanOf s n = c ∧ c.st = .claimed ∧ c.holder = m)) = true := by decide +kernel

theorem witness_Mailboxes_28 :
    (let n : Nat := 5; let m : Nat := 0x11; let c : Chan := wFull; let s : State := wChan 5 wFull 0x20 0x11; decide (Powered s ∧ (s.mbx.chans.map (·.1)) = [n] ∧ chanOf s n = c ∧ c.st = .full ∧ c.holder = m ∧ otherParty s n m ≠ m)) = true := by decide +kernel

theorem witness_Mailboxes_29 :
    (let n : Nat := 5; let m : Nat := 0x20; let c : Chan := wFull; let s : State := wChan 5 wFull 0x20 0x11; decide (Powered s ∧ (s.mbx.chans.map (·.1)) = [n] ∧ chanOf s n = c ∧ c.st = .full ∧ c.holder ≠ m ∧ otherParty s n c.holder = m ∧ ((c.holder < 0x40 ∨ 0x50 ≤ c.holder)))) = true := by decide +kernel

theorem witness_DebugPort_1 :
    (let level : Nat := 2; let s : State := w0; decide (Powered s ∧ domainOn s .sec = true ∧ getF s F.dbgUnlock_status ≠ dbgLocked ∧ 0 < level ∧ level < 3 ∧ getF s F.dbgUnlock_level < level)) = true := by decide +kernel

theorem witness_DebugPort_2 :
    (let level : Nat := 0; let s : State := setF w0 F.dbgUnlock_level 1; decide (Powered s ∧ domainOn s .sec = true ∧ getF s F.dbgUnlock_status ≠ dbgLocked ∧ level ≤ getF s F.dbgUnlock_level ∧ level < 2)) = true := by decide +kernel

theorem witness_DebugPort_3 :
    (let level : Nat := 2; let s : State := setF w0 F.dbgUnlock_level 2; decide (Powered s ∧ domainOn s .sec = true ∧ getF s F.dbgUnlock_status ≠ dbgLocked ∧ level = 2 ∧ getF s F.dbgUnlock_level = 2)) = true := by decide +kernel

theorem witness_DebugPort_4 :
    (let s : State := { wDown with pmu := { wDown.pmu with on := [.host] } }; decide (Powered s ∧ domainOn s .sec = false ∧ getF s F.dbgUnlock_status ≠ dbgLocked)) = true := by decide +kernel

theorem witness_DebugPort_5 :
    (let level : Nat := 3; let s : State := w0; decide (Powered s ∧ domainOn s .sec = true ∧ getF s F.dbgUnlock_status ≠ dbgLocked ∧ level % 4 = 3 ∧ getF s F.dbgUnlock_fails < 2)) = true := by decide +kernel

theorem witness_DebugPort_6 :
    (let s : State := setF w0 F.dbgUnlock_status dbgLocked; decide (Powered s ∧ getF s F.dbgUnlock_status = dbgLocked)) = true := by decide +kernel

theorem witness_DebugPort_7 :
    (let last : DWord := wLast2; let s : State := wUnlock2; decide (Powered s ∧ getF s F.dbgUnlock_status = dbgChalReady ∧ getF s F.dbgUnlock_reqLevel = 2 ∧ lifecycle s = 2 ∧ getF s F.dbgUnlock_level ≠ 2 ∧ unlockVerifies s (dbgResponse s last) = true)) = true := by decide +kernel

theorem witness_DebugPort_8 :
    (let last : DWord := 5#32; let s : State := setF wChal F.dbgUnlock_fails 2; decide (Powered s ∧ getF s F.dbgUnlock_status = dbgChalReady ∧ 2 ≤ getF s F.dbgUnlock_fails ∧ unlockVerifies s (dbgResponse s last) = false)) = true := by decide +kernel

theorem witness_DebugPort_9 :
    (let s : State := w0; decide (Powered s ∧ getF s F.dbgUnlock_status ≠ dbgChalReady)) = true := by decide +kernel

theorem witness_DebugPort_10 :
    (let s : State := w0; decide (Powered s ∧ getF s F.dbgUnlock_status ≠ dbgChalReady)) = true := by decide +kernel

theorem witness_DebugPort_11 :
    (let last : DWord := wLast; let s : State := wUnlock; decide (Powered s ∧ getF s F.dbgUnlock_status = dbgChalReady ∧ getF s F.dbgUnlock_reqLevel = 1 ∧ unlockVerifies s (dbgResponse s last) = true)) = true := by decide +kernel

theorem witness_DebugPort_12 :
    (let last : DWord := 5#32; let s : State := wChal; decide (Powered s ∧ getF s F.dbgUnlock_status = dbgChalReady ∧ getF s F.dbgUnlock_fails < 2 ∧ unlockVerifies s (dbgResponse s last) = false)) = true := by decide +kernel

theorem witness_DebugPort_13 :
    (let s : State := wChal; decide (Powered s ∧ getF s F.dbgUnlock_status = dbgChalReady)) = true := by decide +kernel

theorem witness_DebugPort_14 :
    (let s : State := let x := setF w0 F.dbgUnlock_level 2; { x with dbg := { x.dbg with halted := [0x12] } }; decide (Powered s ∧ s.pmu.pending = none)) = true := by decide +kernel

theorem witness_DebugPort_15 :
    (let core : Nat := 0x3F; let s : State := setF w0 F.dbgUnlock_level 2; decide (Powered s ∧ getF s F.dbgUnlock_level = 2 ∧ haltable s core = true)) = true := by decide +kernel

theorem witness_DebugPort_16 :
    (let core : Nat := 0x12; let s : State := let x := setF w0 F.dbgUnlock_level 2; { x with dbg := { x.dbg with halted := [0x12] } }; decide (Powered s ∧ getF s F.dbgUnlock_level = 2 ∧ core ∈ s.dbg.halted)) = true := by decide +kernel

theorem witness_DebugPort_17 :
    (let core : Nat := 0x12; let s : State := let x := setF w0 F.dbgUnlock_level 2; { x with dbg := { x.dbg with halted := [0x12, 0x13] } }; decide (Powered s ∧ getF s F.dbgUnlock_level = 2 ∧ core ∈ s.dbg.halted ∧ s.pmu.pending = none)) = true := by decide +kernel

theorem witness_DebugPort_18 :
    (let addr : Nat := 0x60000010; let s : State := setF wDram F.dbgUnlock_level 2; decide (Powered s ∧ getF s F.dbgUnlock_level = 2 ∧ dramReady s = true ∧ 0x11640000 ≤ addr ∧ addr + 8 ≤ 0x1C0000000 ∧ addr % 64 ≤ 56 ∧ spFind s.mep.merge (addr / 64) = none ∧ s.mep.merge.length < 64)) = true := by decide +kernel

theorem witness_DebugPort_19 :
    (let addr : Nat := 0x60000010; let s : State := setF wDram F.dbgUnlock_level 2; decide (Powered s ∧ getF s F.dbgUnlock_level = 2 ∧ dramReady s = true ∧ addr + 8 ≤ usableDram)) = true := by decide +kernel

theorem witness_DebugPort_20 :
    (let op : DebugOp := DebugOp.halt 0x12; let s : State := w0; decide (Powered s ∧ getF s F.dbgUnlock_level = 0 ∧ ((match op with | .csrRead _ _ => false | .csrWrite _ _ _ => false | _ => true) = true))) = true := by decide +kernel

theorem witness_DebugPort_21 :
    (let a : Nat := 0x1000100000; let s : State := w0; decide (Powered s ∧ debugReach s a false = false)) = true := by decide +kernel

theorem witness_DebugPort_22 :
    (let a : Nat := 0x1000100000; let s : State := setF w0 F.dbgUnlock_level 1; decide (Powered s ∧ debugReach s a true = false)) = true := by decide +kernel

theorem witness_DebugPort_23 :
    (let s : State := setF w0 F.dbgUnlock_level 1; decide (Powered s ∧ getF s F.dbgUnlock_level ≠ 2)) = true := by decide +kernel

theorem witness_SpdmResponder_1 :
    (let tr : Nat := 1; let s : State := wTalk 1 wAgreed; decide (Powered s ∧ responderRuns s = true ∧ tr < 2)) = true := by decide +kernel

theorem witness_SpdmResponder_2 :
    (let tr : Nat := 0; let transfer : Nat := 0; let x : Spdm := { noSpdm with version := true }; let s : State := wTalk 0 { noSpdm with version := true }; decide (Powered s ∧ responderRuns s = true ∧ tr < 2 ∧ spdmOf s tr = x ∧ x.version = true ∧ transfer = 0)) = true := by decide +kernel

theorem witness_SpdmResponder_3 :
    (let tr : Nat := 0; let x : Spdm := { noSpdm with version := true }; let s : State := wTalk 0 { noSpdm with version := true }; decide (Powered s ∧ responderRuns s = true ∧ tr < 2 ∧ spdmOf s tr = x ∧ x.version = true)) = true := by decide +kernel

theorem witness_SpdmResponder_4 :
    (let tr : Nat := 0; let c : Nat := 2; let h : Nat := 1; let x : Spdm := { noSpdm with version := true, capabilities := true }; let s : State := wTalk 0 { noSpdm with version := true, capabilities := true }; decide (Powered s ∧ responderRuns s = true ∧ tr < 2 ∧ spdmOf s tr = x ∧ x.capabilities = true ∧ x.transfer = 0 ∧ ((c = 1 ∨ c = 2)) ∧ ((h = 1 ∨ h = 2)))) = true := by decide +kernel

theorem witness_SpdmResponder_5 :
    (let tr : Nat := 0; let x : Spdm := { noSpdm with version := true, capabilities := true }; let s : State := wTalk 0 { noSpdm with version := true, capabilities := true }; decide (Powered s ∧ responderRuns s = true ∧ tr < 2 ∧ spdmOf s tr = x ∧ x.capabilities = true)) = true := by decide +kernel

theorem witness_SpdmResponder_6 :
    (let tr : Nat := 1; let x : Spdm := wAgreed; let s : State := wTalk 1 wAgreed; decide (Powered s ∧ responderRuns s = true ∧ tr < 2 ∧ spdmOf s tr = x ∧ x.negotiated = true ∧ x.transfer = 0)) = true := by decide +kernel

theorem witness_SpdmResponder_7 :
    Powered (wTalk 1 wAgreed) ∧ responderRuns (wTalk 1 wAgreed) = true ∧ 1 < 2 ∧ spdmOf (wTalk 1 wAgreed) 1 = wAgreed ∧ wAgreed.negotiated = true ∧ wAgreed.transfer = 0 ∧ 1 < 2 ∧ 0 ≤ (certChain (wTalk 1 wAgreed) 1).length :=
  ⟨by decide +kernel, by decide +kernel, by decide +kernel, by decide +kernel, by decide +kernel, by decide +kernel, by decide +kernel, Nat.zero_le _⟩

theorem witness_SpdmResponder_8 :
    (let tr : Nat := 1; let x : Spdm := wAgreed; let s : State := wTalk 1 wAgreed; let slot : Nat := 0; decide (Powered s ∧ responderRuns s = true ∧ tr < 2 ∧ spdmOf s tr = x ∧ x.negotiated = true ∧ x.transfer = 0 ∧ slot < 2)) = true := by decide +kernel

theorem witness_SpdmResponder_9 :
    (let tr : Nat := 1; let x : Spdm := wAgreed; let s : State := wTalk 1 wAgreed; let i : Nat := 7; decide (Powered s ∧ responderRuns s = true ∧ tr < 2 ∧ spdmOf s tr = x ∧ x.negotiated = true ∧ x.transfer = 0 ∧ 0 < i ∧ i ≤ 7)) = true := by decide +kernel

theorem witness_SpdmResponder_10 :
    (let tr : Nat := 1; let x : Spdm := wAgreed; let s : State := wTalk 1 wAgreed; decide (Powered s ∧ responderRuns s = true ∧ tr < 2 ∧ spdmOf s tr = x ∧ x.negotiated = true ∧ x.transfer = 0)) = true := by decide +kernel

theorem witness_SpdmResponder_11 :
    (let tr : Nat := 1; let x : Spdm := wAgreed; let s : State := wTalk 1 wAgreed; decide (Powered s ∧ responderRuns s = true ∧ tr < 2 ∧ spdmOf s tr = x ∧ x.negotiated = true ∧ x.transfer = 0)) = true := by decide +kernel

theorem witness_SpdmResponder_12 :
    (let tr : Nat := 1; let x : Spdm := wAgreed; let s : State := wTalk 1 wAgreed; let i : Nat := 6; decide (Powered s ∧ responderRuns s = true ∧ tr < 2 ∧ spdmOf s tr = x ∧ x.negotiated = true ∧ x.transfer = 0 ∧ 0 < i ∧ i ≤ 7)) = true := by decide +kernel

theorem witness_SpdmResponder_13 :
    (let tr : Nat := 1; let slot : Nat := 0; let wide : Bool := false; let pub : List Byte := ecPublic p256 7; let x : Spdm := { wAgreed with dhe384 := some false }; let s : State := wTalk 1 { wAgreed with dhe384 := some false }; decide (Powered s ∧ responderRuns s = true ∧ tr < 2 ∧ spdmOf s tr = x ∧ x.negotiated = true ∧ x.transfer = 0 ∧ slot < 2 ∧ x.dhe384 = some wide ∧ onCurve (curveOf wide) (ofBe (bytesAt pub 0 (curveOf wide).size)) (ofBe (bytesAt pub (curveOf wide).size (curveOf wide).size)) = true)) = true := by decide +kernel

theorem witness_SpdmResponder_14 :
    (let tr : Nat := 1; let x : Spdm := wAgreed; let s : State := wTalk 1 wAgreed; decide (Powered s ∧ responderRuns s = true ∧ tr < 2 ∧ spdmOf s tr = x ∧ x.negotiated = true ∧ x.transfer = 0 ∧ x.dhe384 = none)) = true := by decide +kernel

theorem witness_SpdmResponder_15 :
    (let tr : Nat := 1; let id : Nat := 77; let k : SpdmSession := wSess; let x : Spdm := wTalked; let record : List Byte := wProof; let s : State := wTalk 1 wTalked; decide (Powered s ∧ responderRuns s = true ∧ tr < 2 ∧ spdmOf s tr = x ∧ x.negotiated = true ∧ x.transfer = 0 ∧ tr = 1 ∧ x.sessions.find? (fun o => o.id == id && !o.finished) = some k ∧ openRecord x k false k.rx record = some (spdmMsg 0xE5 [] ++ verifyData x k false (x.script ++ spdmMsg 0xE5 [])))) = true := by decide +kernel

theorem witness_SpdmResponder_16 :
    (let tr : Nat := 1; let id : Nat := 77; let k : SpdmSession := wSess; let x : Spdm := wTalked; let record : List Byte := [1, 2]; let s : State := wTalk 1 wTalked; decide (Powered s ∧ responderRuns s = true ∧ tr < 2 ∧ spdmOf s tr = x ∧ x.negotiated = true ∧ x.transfer = 0 ∧ tr = 1 ∧ x.sessions.find? (fun o => o.id == id && !o.finished) = some k ∧ openRecord x k false k.rx record ≠ some (spdmMsg 0xE5 [] ++ verifyData x k false (x.script ++ spdmMsg 0xE5 [])))) = true := by decide +kernel

theorem witness_SpdmResponder_17 :
    (let tr : Nat := 1; let id : Nat := 77; let k : SpdmSession := { wSess with finished := true }; let x : Spdm := wInSession; let record : List Byte := sealRecord wInSession { wSess with finished := true } false 0 (spdmMsg 0xEC []); let s : State := wTalk 1 wInSession; decide (Powered s ∧ responderRuns s = true ∧ tr < 2 ∧ spdmOf s tr = x ∧ x.negotiated = true ∧ x.transfer = 0 ∧ tr = 1 ∧ x.sessions.find? (fun o => o.id == id && o.finished) = some k ∧ openRecord x k false k.rx record = some (spdmMsg 0xEC []))) = true := by decide +kernel

theorem witness_SpdmResponder_18 :
    (let tr : Nat := 1; let id : Nat := 5; let x : Spdm := wInSession; let s : State := wTalk 1 wInSession; decide (Powered s ∧ responderRuns s = true ∧ tr < 2 ∧ spdmOf s tr = x ∧ x.negotiated = true ∧ x.transfer = 0 ∧ tr = 1 ∧ x.sessions.find? (fun o => o.id == id && o.finished) = none)) = true := by decide +kernel

theorem witness_SpdmResponder_19 :
    (let x : Spdm := wAgreed; let s : State := wTalk 0 wAgreed; decide (Powered s ∧ responderRuns s = true ∧ spdmOf s 0 = x ∧ x.negotiated = true)) = true := by decide +kernel

theorem witness_SpdmResponder_20 :
    (let x : Spdm := wAgreed; let s : State := wTalk 0 wAgreed; decide (Powered s ∧ responderRuns s = true ∧ spdmOf s 0 = x ∧ x.negotiated = true)) = true := by decide +kernel

theorem witness_SpdmResponder_21 :
    (let tr : Nat := 1; let x : Spdm := noSpdm; let s : State := wTalk 1 noSpdm; decide (Powered s ∧ responderRuns s = true ∧ tr < 2 ∧ spdmOf s tr = x ∧ x.version = false)) = true := by decide +kernel

theorem witness_SpdmResponder_22 :
    (let tr : Nat := 1; let x : Spdm := noSpdm; let s : State := wTalk 1 noSpdm; decide (Powered s ∧ responderRuns s = true ∧ tr < 2 ∧ spdmOf s tr = x ∧ x.capabilities = false)) = true := by decide +kernel

theorem witness_SpdmResponder_23 :
    (let tr : Nat := 1; let x : Spdm := noSpdm; let s : State := wTalk 1 noSpdm; decide (Powered s ∧ responderRuns s = true ∧ tr < 2 ∧ spdmOf s tr = x ∧ x.negotiated = false)) = true := by decide +kernel

theorem witness_SpdmResponder_24 :
    (let s : State := { w0 with pmu := { w0.pmu with on := [.sec] } }; decide (Powered s ∧ responderRuns s = false)) = true := by decide +kernel

theorem witness_SpdmResponder_25 :
    (let tr : Nat := 0; let x : Spdm := { wAgreed with transfer := 2, chunks := [1, 2, 3], chunkSeq := 4 }; let s : State := wTalk 0 { wAgreed with transfer := 2, chunks := [1, 2, 3], chunkSeq := 4 }; decide (Powered s ∧ responderRuns s = true ∧ tr < 2 ∧ spdmOf s tr = x ∧ x.capabilities = true ∧ x.chunks ≠ [] ∧ x.transfer ≠ 0)) = true := by decide +kernel

theorem witness_SpdmResponder_26 :
    (let tr : Nat := 0; let x : Spdm := { wAgreed with chunks := [1, 2, 3], chunkSeq := 4 }; let s : State := wTalk 0 { wAgreed with chunks := [1, 2, 3], chunkSeq := 4 }; decide (Powered s ∧ responderRuns s = true ∧ tr < 2 ∧ spdmOf s tr = x ∧ x.capabilities = true ∧ x.chunkSeq ≠ 0)) = true := by decide +kernel

theorem witness_SpdmResponder_27 :
    (let tr : Nat := 0; let data : List Byte := [0x81]; let x : Spdm := { wAgreed with chunks := [0x12], chunkSeq := 1 }; let s : State := wTalk 0 { wAgreed with chunks := [0x12], chunkSeq := 1 }; decide (Powered s ∧ responderRuns s = true ∧ tr < 2 ∧ spdmOf s tr = x ∧ x.capabilities = true ∧ x.negotiated = true ∧ x.transfer = 0 ∧ x.chunkSeq ≠ 0 ∧ x.chunks ++ data = [0x12, 0x81])) = true := by decide +kernel

theorem witness_SpdmResponder_28 :
    (let s : State := w0; decide (Powered s ∧ domainOn s .host = true)) = true := by decide +kernel

theorem witness_SpdmResponder_29 :
    (let s : State := w0; decide (Powered s ∧ domainOn s .host = true)) = true := by decide +kernel

theorem witness_SpdmResponder_30 :
    (let n : Nat := 2; let s : State := w0; decide (Powered s ∧ domainOn s .host = true ∧ 2 ≤ n)) = true := by decide +kernel

theorem witness_NvmeMi_1 :
    (let s : State := wTalk 0 noSpdm; decide (Powered s ∧ domainOn s .mgmt = true)) = true := by decide +kernel

theorem witness_NvmeMi_2 :
    (let s : State := wTalk 0 noSpdm; decide (Powered s ∧ domainOn s .mgmt = true)) = true := by decide +kernel

theorem witness_NvmeMi_3 :
    (let f : Nat := 0; let first : Nat := 0; let count : Nat := 1; let s : State := wTalk 0 noSpdm; decide (Powered s ∧ domainOn s .mgmt = true ∧ ((funcsOf s).filter fun f => decide (first ≤ f)).take count = [f])) = true := by decide +kernel

theorem witness_NvmeMi_4 :
    (let id : Nat := 1; let s : State := wMiCfg; decide (Powered s ∧ domainOn s .mgmt = true ∧ ((id = 1 ∨ id = 2)))) = true := by decide +kernel

theorem witness_NvmeMi_5 :
    (let s : State := wMiCfg; decide (Powered s ∧ domainOn s .mgmt = true)) = true := by decide +kernel

theorem witness_NvmeMi_6 :
    (let id : Nat := 2; let s : State := wMiCfg; decide (Powered s ∧ domainOn s .mgmt = true ∧ ((id = 1 ∨ id = 2)))) = true := by decide +kernel

theorem witness_NvmeMi_7 :
    Powered (wTalk 0 noSpdm) ∧ domainOn (wTalk 0 noSpdm) .mgmt = true ∧ 0 + 0 ≤ (Config.standardBytes 0x650 0).length :=
  ⟨by decide +kernel, by decide +kernel, Nat.zero_le _⟩

theorem witness_NvmeMi_8 :
    (let q : Sqe := wSqe true 0x06 0 1 0 0 0; let s : State := wTalk 0 noSpdm; decide (Powered s ∧ domainOn s .mgmt = true ∧ s.aon.mctp = [] ∧ fetchCheck s 0 { q with admin := true } = none)) = true := by decide +kernel

theorem witness_NvmeMi_9 :
    (let ty : Nat := 6; let s : State := wTalk 0 noSpdm; decide (Powered s ∧ domainOn s .mgmt = true ∧ 5 < ty)) = true := by decide +kernel

theorem witness_NvmeMi_10 :
    (let v : Nat := 128; let s : State := wMiCfg; decide (Powered s ∧ domainOn s .mgmt = true ∧ v ≠ 64)) = true := by decide +kernel

theorem witness_NvmeMi_11 :
    Powered (wTalk 0 noSpdm) ∧ domainOn (wTalk 0 noSpdm) .mgmt = true ∧ (Config.standardBytes 0x650 0).length < 0 + ((Config.standardBytes 0x650 0).length + 1) :=
  ⟨by decide +kernel, by decide +kernel, by omega⟩

theorem witness_NvmeMi_12 :
    (let s : State := w0; decide (Powered s ∧ domainOn s .mgmt = false)) = true := by decide +kernel

theorem witness_NvmeMi_13 :
    (let bytes : List Byte := [4, 8, 0, 0, 6]; let s : State := wTalk 0 noSpdm; decide (Powered s ∧ domainOn s .mgmt = true ∧ s.aon.mctp = [] ∧ leAt bytes 0 1 = 4 ∧ leAt bytes 1 1 = 8 ∧ 5 < leAt bytes 4 1)) = true := by decide +kernel

theorem witness_NvmeMi_14 :
    (let bytes : List Byte := [4, 8, 0, 0, 4, 0, 0, 0, 3]; let s : State := wTalk 0 noSpdm; decide (Powered s ∧ domainOn s .mgmt = true ∧ s.aon.mctp = [] ∧ leAt bytes 0 1 = 4 ∧ leAt bytes 1 1 = 8 ∧ leAt bytes 4 1 = 4 ∧ leAt bytes 8 4 = 3)) = true := by decide +kernel

theorem witness_NvmeMi_15 :
    (let s : State := { w0 with aon := { w0.aon with mctp := [⟨[2], none⟩] } }; decide (PmuIdle s ∧ domainOn s .mgmt = false ∧ 0 < s.aon.mctp.length ∧ s.aon.mctp.length < 4)) = true := by decide +kernel

theorem witness_NvmeMi_16 :
    (let s : State := w0; decide (PmuIdle s ∧ domainOn s .mgmt = false ∧ operational s = true ∧ s.aon.mctp = [])) = true := by decide +kernel

theorem witness_NvmeMi_17 :
    (let s : State := { w0 with aon := { w0.aon with mctp := List.replicate 4 ⟨[2], none⟩ } }; decide (Powered s ∧ domainOn s .mgmt = false ∧ s.aon.mctp.length = 4)) = true := by decide +kernel

theorem witness_IntegrityRows_1 :
    (let m : Nat := 0x10; let a : Nat := 0x600010FE; let bs : List Byte := [0xAB#8, 0x00#8]; let s : State := wDram; decide (Works s ∧ dramReady s = true ∧ reservedMaster m = false ∧ m ≠ idLrs ∧ bs ≠ [] ∧ a % 64 + bs.length ≤ 64 ∧ bs.length < 64 ∧ a + bs.length ≤ usableDram ∧ ((List.range 64).all fun i => (tableAt s (64 * (a / 64) + i)).isNone) = true ∧ spFind s.mep.merge (a / 64) = none ∧ s.mep.merge.length < 64 ∧ lineBad s (64 * (a / 64)) = [])) = true := by decide +kernel

theorem witness_IntegrityRows_2 :
    (let l : Nat := 7; let e : MergeEntry := ⟨List.replicate 64 3, [], 0, 0⟩; let s : State := { wDram with mep := { wDram.mep with merge := [(7, ⟨List.replicate 64 3, [], 0, 0⟩)] } }; decide (Works s ∧ (mergeOldest MergeEntry.since s.mep.merge).map (·.1) = some l ∧ spFind s.mep.merge l = some e ∧ e.bytes.length = 64 ∧ ((tableAt s (64 * l)).isNone || (tableAt s (64 * l + 63)).isNone || (List.range 64).all fun i => (tableAt s (64 * l + i)).isSome) = true)) = true := by decide +kernel

theorem witness_IntegrityRows_3 :
    (let m : Nat := 0x10; let a : Nat := 0x600010FE; let bs : List Byte := [0xAB#8, 0x00#8]; let e : MergeEntry := ⟨List.replicate 64 3, [], 0, 0⟩; let s : State := { wDram with mep := { wDram.mep with merge := [(0x1800043, ⟨List.replicate 64 3, [], 0, 0⟩)] } }; decide (Works s ∧ dramReady s = true ∧ reservedMaster m = false ∧ m ≠ idLrs ∧ bs ≠ [] ∧ a % 64 + bs.length ≤ 64 ∧ bs.length < 64 ∧ a + bs.length ≤ usableDram ∧ ((List.range 64).all fun i => (tableAt s (64 * (a / 64) + i)).isNone) = true ∧ spFind s.mep.merge (a / 64) = some e ∧ e.bytes.length = 64)) = true := by decide +kernel

theorem witness_IntegrityRows_4 :
    (let m : Nat := 0x10; let i : Nat := 9; let bs : List Byte := [1, 2, 3, 4, 5, 6, 7, 8, 9, 10, 11, 12, 13, 14, 15, 16]; let s : State := wDram; decide (Works s ∧ dramReady s = true ∧ reservedMaster m = false ∧ m ≠ idLrs ∧ i ≤ lastRecord ∧ bs.length = 16 ∧ spFind s.mep.merge (i / 4) = none ∧ s.mep.merge.length < 64 ∧ lineBad s (64 * (i / 4)) = [])) = true := by decide +kernel

theorem witness_IntegrityRows_5 :
    (let m : Nat := 0x10; let a : Nat := usableDram; let bs : List Byte := [1]; let s : State := wDram; decide (Works s ∧ reservedMaster m = false ∧ domainOn s .dmc = true ∧ usableDram < a + bs.length)) = true := by decide +kernel

theorem witness_IntegrityRows_6 :
    (let a : Nat := 0x600010FE; let bs : List Byte := [1]; let s : State := wDram; decide (Works s ∧ dramReady s = true ∧ a + bs.length ≤ usableDram)) = true := by decide +kernel

theorem witness_IntegrityRows_7 :
    (let s : State := wDram; decide (Works s ∧ s.mep.merge = [])) = true := by decide +kernel

theorem witness_IntegrityRows_8 :
    (let m : Nat := 0x10; let mask : Nat := 6; let s : State := w0; decide (Works s ∧ Reaches s m F.mepFlip_arm.addr true ∧ injectAllowed s = true ∧ getF (setF s F.mepFlip_mask mask) F.mepFlip_mask ≠ 0)) = true := by decide +kernel

theorem witness_IntegrityRows_9 :
    (let m : Nat := 0x10; let mask : Nat := 0; let s : State := setBit w0 F.mepFlip_arm; decide (Works s ∧ Reaches s m F.mepFlip_arm.addr true ∧ injectAllowed s = true ∧ getF (setF s F.mepFlip_mask mask) F.mepFlip_mask = 0)) = true := by decide +kernel

theorem witness_IntegrityRows_10 :
    (let m : Nat := 0x10; let s : State := wDeployed; decide (Works s ∧ Reaches s m F.mepFlip_arm.addr true ∧ injectAllowed s = false)) = true := by decide +kernel

theorem witness_IntegrityRows_11 :
    (let m : Nat := 0x10; let s : State := setBit wDeployed F.mepFlip_arm; decide (Works s ∧ Reaches s m F.mepFlip_arm.addr true ∧ injectAllowed s = false)) = true := by decide +kernel

theorem witness_IntegrityRows_12 :
    (let m : Nat := 0x10; let s : State := setBit (setF w0 F.mepFlip_mask 3) F.mepFlip_arm; decide (Works s ∧ Reaches s m F.mepFlip_arm.addr true ∧ injectAllowed s = true)) = true := by decide +kernel

theorem witness_IntegrityRows_13 :
    (let m : Nat := 0x10; let s : State := setF (setF w0 F.mepScrubLen_lines 3) F.mepScrubCtrl_rate 1; decide (Works s ∧ Reaches s m F.mepScrubCtrl_start.addr true ∧ getF s F.mepScrubCtrl_status ≠ scrubRunning ∧ getF s F.mepScrubCtrl_status ≠ scrubSuspended ∧ getF s F.mepScrubLen_lines ≠ 0 ∧ getF s F.mepScrubCtrl_rate ≠ 0 ∧ scrubBase s + 64 * getF s F.mepScrubLen_lines ≤ (if flag s F.mepScrubCtrl_space then 67108864 else usableDram))) = true := by decide +kernel

theorem witness_IntegrityRows_14 :
    (let m : Nat := 0x10; let s : State := w0; decide (Works s ∧ Reaches s m F.mepScrubCtrl_start.addr true ∧ getF s F.mepScrubCtrl_status ≠ scrubRunning ∧ getF s F.mepScrubCtrl_status ≠ scrubSuspended ∧ (getF s F.mepScrubLen_lines = 0 ∨ getF s F.mepScrubCtrl_rate = 0))) = true := by decide +kernel

theorem witness_IntegrityRows_15 :
    (let m : Nat := 0x10; let s : State := setBit (setF (setF (setF w0 F.mepScrubLen_lines 2) F.mepScrubCtrl_rate 1) F.mepScrubAddr_addr 1048575) F.mepScrubCtrl_space; decide (Works s ∧ Reaches s m F.mepScrubCtrl_start.addr true ∧ getF s F.mepScrubCtrl_status ≠ scrubRunning ∧ getF s F.mepScrubCtrl_status ≠ scrubSuspended ∧ getF s F.mepScrubLen_lines ≠ 0 ∧ getF s F.mepScrubCtrl_rate ≠ 0 ∧ (if flag s F.mepScrubCtrl_space then 67108864 else usableDram) < scrubBase s + 64 * getF s F.mepScrubLen_lines)) = true := by decide +kernel

theorem witness_IntegrityRows_16 :
    (let m : Nat := 0x10; let s : State := wScrub; decide (Works s ∧ Reaches s m F.mepScrubCtrl_start.addr true ∧ (getF s F.mepScrubCtrl_status = scrubRunning ∨ getF s F.mepScrubCtrl_status = scrubSuspended))) = true := by decide +kernel

theorem witness_IntegrityRows_17 :
    (let m : Nat := 0x10; let s : State := w0; decide (Works s ∧ Reaches s m F.mepScrubCtrl_stop.addr true ∧ getF s F.mepScrubCtrl_status ≠ scrubRunning ∧ getF s F.mepScrubCtrl_status ≠ scrubSuspended)) = true := by decide +kernel

theorem witness_IntegrityRows_18 :
    (let s : State := w0; decide (Works s ∧ getF s F.mepScrubCtrl_status ≠ scrubRunning)) = true := by decide +kernel

theorem witness_IntegrityRows_19 :
    (let s : State := wScrub; decide (Works s ∧ getF s F.mepScrubCtrl_status = scrubRunning ∧ flag s F.mepScrubCtrl_space = false ∧ s.mep.dramBad = [] ∧ s.mep.scrub.next + 1 < getF s F.mepScrubLen_lines)) = true := by decide +kernel

theorem witness_IntegrityRows_20 :
    (let s : State := { wScrub with mep := { wScrub.mep with scrub := ⟨2, 1, 3, 0, 0⟩ } }; decide (Works s ∧ getF s F.mepScrubCtrl_status = scrubRunning ∧ flag s F.mepScrubCtrl_space = false ∧ s.mep.dramBad = [] ∧ getF s F.mepScrubLen_lines ≤ s.mep.scrub.next + 1)) = true := by decide +kernel

theorem witness_IntegrityRows_21 :
    (let i : Nat := 9; let s : State := wScrub; decide (Works s ∧ getF s F.mepScrubCtrl_status = scrubRunning ∧ flag s F.mepScrubCtrl_space = false ∧ s.mep.dramBad = [] ∧ i < 64 ∧ spFind s.mep.merge (scrubBase s / 64 + s.mep.scrub.next) = none ∧ s.mep.scrub.next + 1 < getF s F.mepScrubLen_lines)) = true := by decide +kernel

theorem witness_IntegrityRows_22 :
    (let m : Nat := 0x10; let s : State := wScrub; decide (Works s ∧ getF s F.mepScrubCtrl_status = scrubRunning ∧ Reaches s m F.mepScrubCtrl_stop.addr true)) = true := by decide +kernel

theorem witness_DramRows_1 :
    (let c : Nat := 2; let m : Nat := 0x10; let a : Nat := 0x1280; let s : State := wDram; decide (Works s ∧ dramReady s = true ∧ reservedMaster m = false ∧ c < 8 ∧ dramChannel a = c ∧ a % 64 = 0 ∧ a + 64 ≤ usableDram ∧ (chanState s c).readQ = [] ∧ (chanState s c).writeQ = [] ∧ (chanState s c).waiting = [] ∧ s.dmc.resps = [] ∧ spFind s.mep.merge (a / 64) = none ∧ lineBad s a = [] ∧ (∀ kv ∈ s.dmc.chans, kv.2.readQ = []))) = true := by decide +kernel

theorem witness_DramRows_2 :
    (let c : Nat := 2; let m : Nat := 0x10; let a : Nat := 0x60001280; let bs : List Byte := List.replicate 64 5; let s : State := wDram; decide (Works s ∧ dramReady s = true ∧ reservedMaster m = false ∧ c < 8 ∧ dramChannel a = c ∧ a % 64 = 0 ∧ a + 64 ≤ usableDram ∧ (chanState s c).readQ = [] ∧ (chanState s c).writeQ = [] ∧ (chanState s c).waiting = [] ∧ s.dmc.resps = [] ∧ bs.length = 64 ∧ ((List.range 64).all fun i => (tableAt s (64 * (a / 64) + i)).isNone) = true)) = true := by decide +kernel

theorem witness_DramRows_3 :
    (let x : DramAccess := ⟨0x10, 0x1280, none, false⟩; let s : State := w0; decide (Works s ∧ domainOn s .dmc = true ∧ dramReady s = false ∧ reservedMaster x.master = false)) = true := by decide +kernel

theorem witness_DramRows_4 :
    (let x : DramAccess := ⟨0x10, 0x1280, none, false⟩; let s : State := wOffDmc; decide (Powered s ∧ (domainOn s .dmc = false ∨ (domainOn s .data = false ∧ x.master ≠ idLrs)) ∧ reservedMaster x.master = false ∧ x.data = none)) = true := by decide +kernel

theorem witness_DramRows_5 :
    (let c : Nat := 2; let b : Nat := 5; let s : State := wRow; decide (Powered s ∧ dramReady s = true ∧ c < 8 ∧ b < 32 ∧ bankBusy (chanState s c) b = false)) = true := by decide +kernel

theorem witness_DramRows_6 :
    (let c : Nat := 2; let b : Nat := 0; let s : State := wRow; decide (Powered s ∧ dramReady s = true ∧ c < 8 ∧ b < 32 ∧ bankBusy (chanState s c) b = true ∧ spGet 0 (chanState s c).postponed b < 8)) = true := by decide +kernel

theorem witness_DramRows_7 :
    (let dies : List DieRate := [⟨3, 4, false⟩, ⟨5, 8, false⟩]; let s : State := setF wDram F.dmcRefresh_poll 10; decide (Powered s ∧ dramReady s = true ∧ getF s F.dmcRefresh_poll ≠ 0 ∧ (dies.map rateMult).foldl max 0 < 2 ∧ getF s F.dmcRefresh_mult ≤ (dies.map rateMult).foldl max 0)) = true := by decide +kernel

theorem witness_DramRows_8 :
    (let dies : List DieRate := [⟨3, 4, false⟩, ⟨5, 16, true⟩]; let s : State := setFBit (setF wDram F.dmcRefresh_poll 10) F.secAlarmStat_active 3; decide (Powered s ∧ dramReady s = true ∧ getF s F.dmcRefresh_poll ≠ 0 ∧ (dies.map rateMult).foldl max 0 = 2 ∧ getF s F.dmcRefresh_mult ≤ 2 ∧ bitAt (getF s F.secAlarmStat_active) 3 = true)) = true := by decide +kernel

theorem witness_DramRows_9 :
    (let dies : List DieRate := [⟨3, 4, false⟩]; let m : Nat := 0; let s : State := setF (setF wDram F.dmcRefresh_poll 10) F.dmcRefresh_mult 2; decide (Powered s ∧ dramReady s = true ∧ getF s F.dmcRefresh_poll ≠ 0 ∧ (dies.map rateMult).foldl max 0 = m ∧ m < getF s F.dmcRefresh_mult ∧ s.dmc.lowPolls = 0 ∧ m < 2)) = true := by decide +kernel

theorem witness_DramRows_10 :
    (let dies : List DieRate := [⟨3, 4, false⟩]; let m : Nat := 0; let s : State := let x := setF (setF wDram F.dmcRefresh_poll 10) F.dmcRefresh_mult 2; { x with dmc := { x.dmc with lowPolls := 1, lowMult := 1 } }; decide (Powered s ∧ dramReady s = true ∧ getF s F.dmcRefresh_poll ≠ 0 ∧ (dies.map rateMult).foldl max 0 = m ∧ m < getF s F.dmcRefresh_mult ∧ 1 ≤ s.dmc.lowPolls ∧ m < 2)) = true := by decide +kernel

theorem witness_DramRows_11 :
    (let s : State := setF wDram F.dmcRefresh_poll 0; decide (Powered s ∧ dramReady s = true ∧ getF s F.dmcRefresh_poll = 0)) = true := by decide +kernel

theorem witness_DramRows_12 :
    (let c : Nat := 1; let d : Nat := 3; let s : State := { setF (setF wDram F.dmcTrack_interval 5) F.dmcTrack_driftLimit 3 with dmc := { wDram.dmc with trackDue := [1] } }; decide (Powered s ∧ dramReady s = true ∧ c < 8 ∧ getF s F.dmcTrack_interval ≠ 0 ∧ getF s F.dmcTrack_driftLimit ≠ 0 ∧ d ≤ getF s F.dmcTrack_driftLimit)) = true := by decide +kernel

theorem witness_DramRows_13 :
    (let c : Nat := 1; let d : Nat := 4; let s : State := setF (setF wDram F.dmcTrack_interval 5) F.dmcTrack_driftLimit 3; decide (Powered s ∧ dramReady s = true ∧ c < 8 ∧ getF s F.dmcTrack_interval ≠ 0 ∧ getF s F.dmcTrack_driftLimit < d)) = true := by decide +kernel

theorem witness_DramRows_14 :
    (let s : State := let x := setF w0 F.dmcRefresh_poll 10; { x with dmc := { x.dmc with selfRefresh := true, storeValid := true } }; decide (Powered s ∧ domainOn s .dmc = true ∧ s.dmc.selfRefresh = true ∧ s.dmc.storeValid = true ∧ s.dmc.storeBad = false ∧ getF s F.dmcRefresh_poll ≠ 0)) = true := by decide +kernel

theorem witness_DramRows_15 :
    (let s : State := { w0 with dmc := { w0.dmc with selfRefresh := true, storeValid := true } }; decide (Powered s ∧ domainOn s .dmc = true ∧ s.dmc.selfRefresh = true)) = true := by decide +kernel

theorem witness_DramRows_16 :
    (let s : State := w0; decide (Powered s ∧ domainOn s .dmc = true ∧ s.dmc.selfRefresh = false ∧ getF s F.dmcStat_state < 3 ∧ s.lrs.bootStopped = false)) = true := by decide +kernel

theorem witness_DramRows_17 :
    (let c : Nat := 6; let s : State := w0; decide (Powered s ∧ domainOn s .dmc = true ∧ s.dmc.selfRefresh = false ∧ getF s F.dmcStat_state < 3 ∧ s.lrs.bootStopped = false ∧ c < 8 ∧ getF s F.dmcStat_trained = 0 ∧ (chanState s c).trainFails < 2)) = true := by decide +kernel

theorem witness_DramRows_18 :
    (let c : Nat := 6; let s : State := putDram w0 6 { freshChan with trainFails := 2 }; decide (Powered s ∧ domainOn s .dmc = true ∧ s.dmc.selfRefresh = false ∧ getF s F.dmcStat_state < 3 ∧ s.lrs.bootStopped = false ∧ c < 8 ∧ getF s F.dmcStat_trained = 0 ∧ 2 ≤ (chanState s c).trainFails)) = true := by decide +kernel

theorem witness_DramRows_19 :
    (let c : Nat := 6; let s : State := w0; decide (Powered s ∧ domainOn s .dmc = true ∧ s.dmc.selfRefresh = false ∧ getF s F.dmcStat_state < 3 ∧ s.lrs.bootStopped = false ∧ c < 8)) = true := by decide +kernel

theorem witness_DramRows_20 :
    (let s : State := wDram; decide (Powered s ∧ (3 ≤ getF s F.dmcStat_state ∨ s.lrs.bootStopped = true ∨ s.dmc.selfRefresh = true ∨ domainOn s .dmc = false))) = true := by decide +kernel

theorem witness_DramRows_21 :
    (let s : State := wDram; decide (Powered s ∧ s.dmc.selfRefresh = false)) = true := by decide +kernel

theorem witness_DramRows_22 :
    (let s : State := wDram; decide (Powered s ∧ getF s F.dmcStat_state ≠ 3)) = true := by decide +kernel

theorem witness_DramRows_23 :
    (let c : Nat := 1; let d : Nat := 4; let s : State := setF (setF wDram F.dmcTrack_interval 5) F.dmcTrack_driftLimit 3; decide (Powered s ∧ dramReady s = true ∧ c < 8 ∧ getF s F.dmcTrack_interval ≠ 0 ∧ getF s F.dmcTrack_driftLimit < d ∧ s.lrs.phase = .watching)) = true := by decide +kernel

theorem witness_DramRows_24 :
    (let c : Nat := 1; let s : State := setF wDram F.dmcTrack_interval 0; decide (Powered s ∧ getF s F.dmcTrack_interval = 0 ∧ c ∉ s.dmc.trackDue)) = true := by decide +kernel

theorem witness_DramRows_25 :
    (let s : State := setF (setF w0 F.dmcStat_state 3) F.dmcRefresh_poll 10; decide (Powered s ∧ domainOn s .dmc = true ∧ getF s F.dmcStat_state = 3 ∧ getF s F.dmcRefresh_poll ≠ 0)) = true := by decide +kernel

theorem witness_DramRows_26 :
    (let c : Nat := 2; let b : Nat := 5; let r : Nat := 77; let s : State := wRow; decide (Powered s ∧ spFind (chanState s c).rows b = some r)) = true := by decide +kernel

theorem witness_Buffers_1 :
    (let rq : Nat := 0x52; let g : Nat := 0; let size : Nat := 4096; let k : Nat := 1; let i : Nat := 1; let s : State := wPools; decide (Works s ∧ reservedMaster rq = false ∧ g < 2 ∧ 0 < size ∧ size ≤ groupMax g ∧ (eligible s g size).head? = some k ∧ openCount s k ≠ 0 ∧ Gives s k i)) = true := by decide +kernel

theorem witness_Buffers_2 :
    (let rq : Nat := 0x52; let g : Nat := 0; let size : Nat := 4096; let s : State := setF (setF (setF wPools (F.sbgPoolStat_free 1) 0) (F.sbgPoolStat_free 2) 0) (F.sbgPoolStat_free 3) 0; decide (Works s ∧ reservedMaster rq = false ∧ g < 2 ∧ 0 < size ∧ size ≤ groupMax g ∧ (∀ k ∈ eligible s g size, openCount s k = 0))) = true := by decide +kernel

theorem witness_Buffers_3 :
    (let rq : Nat := 0x52; let g : Nat := 0; let size : Nat := 4096; let k0 : Nat := 1; let k : Nat := 2; let i : Nat := 0; let ks : List Nat := []; let s : State := wSpill; decide (Works s ∧ reservedMaster rq = false ∧ g < 2 ∧ 0 < size ∧ size ≤ groupMax g ∧ eligible s g size = k0 :: k :: ks ∧ openCount s k0 = 0 ∧ openCount s k ≠ 0 ∧ Gives s k i)) = true := by decide +kernel

theorem witness_Buffers_4 :
    (let rq : Nat := 0x52; let g : Nat := 1; let s : State := wPools; decide (Works s ∧ reservedMaster rq = false ∧ g < 2)) = true := by decide +kernel

theorem witness_Buffers_5 :
    (let rq : Nat := 0x52; let g : Nat := 1; let size : Nat := 1048577; let s : State := wPools; decide (Works s ∧ reservedMaster rq = false ∧ g < 2 ∧ groupMax g < size)) = true := by decide +kernel

theorem witness_Buffers_6 :
    (let rq : Nat := 0x52; let g : Nat := 0; let size : Nat := 4096; let k : Nat := 1; let s : State := clrF (clrF wPools (F.sbgPoolCfg_spillIn 2)) (F.sbgPoolCfg_spillIn 3); decide (Works s ∧ reservedMaster rq = false ∧ g < 2 ∧ 0 < size ∧ size ≤ groupMax g ∧ eligible s g size = [k] ∧ openCount s k ≠ 0)) = true := by decide +kernel

theorem witness_Buffers_7 :
    (let rq : Nat := 0x52; let g : Nat := 0; let size : Nat := 4096; let k : Nat := 1; let u : Nat := 4; let s : State := clrF (clrF wPools (F.sbgPoolCfg_spillIn 2)) (F.sbgPoolCfg_spillIn 3); decide (Works s ∧ reservedMaster rq = false ∧ g < 2 ∧ 0 < size ∧ size ≤ groupMax g ∧ eligible s g size = [k] ∧ openCount s k ≠ 0 ∧ (poolOf s k).rebuilding = false ∧ (poolOf s k).stopped = false ∧ u ≠ 0 ∧ linkGood k (poolOf (upsetHead s g size u) k) = false)) = true := by decide +kernel

theorem witness_Buffers_8 :
    (let rq : Nat := 0x52; let g : Nat := 0; let size : Nat := 4096; let k : Nat := 1; let s : State := wPools; decide (Works s ∧ reservedMaster rq = false ∧ g < 2 ∧ 0 < size ∧ size ≤ groupMax g ∧ (eligible s g size).head? = some k ∧ s.lrs.phase = .watching)) = true := by decide +kernel

theorem witness_Buffers_9 :
    (let rq : Nat := 0x52; let k : Nat := 1; let i : Nat := 7; let s : State := wPools; decide (Works s ∧ reservedMaster rq = false ∧ k < 6 ∧ i < classCount k ∧ (bufTaken (poolOf s k) i = false ∨ i ∈ (poolOf s k).queuedFrees))) = true := by decide +kernel

theorem witness_Buffers_10 :
    (let rq : Nat := 0x52; let k : Nat := 1; let i : Nat := classCount 1; let s : State := wPools; decide (Works s ∧ reservedMaster rq = false ∧ k < 6 ∧ classCount k ≤ i)) = true := by decide +kernel

theorem witness_Buffers_11 :
    (let rq : Nat := 0x52; let k : Nat := 1; let i : Nat := 0; let s : State := putPool wPools 1 { poolOf wPools 1 with rebuilding := true }; decide (Works s ∧ reservedMaster rq = false ∧ k < 6 ∧ i < classCount k ∧ bufTaken (poolOf s k) i = true ∧ i ∉ (poolOf s k).queuedFrees ∧ (poolOf s k).rebuilding = true)) = true := by decide +kernel

theorem witness_Buffers_12 :
    (let rq : Nat := 0x52; let k : Nat := 1; let i : Nat := 0; let s : State := wPools; decide (Works s ∧ reservedMaster rq = false ∧ k < 6 ∧ CanFree s k i)) = true := by decide +kernel

theorem witness_Buffers_13 :
    (let k : Nat := 6; let s : State := wRebuild; decide (Works s ∧ (poolOf s k).rebuilding = true ∧ (poolOf s k).queuedFrees = [] ∧ s.sbg.waits = [])) = true := by decide +kernel

theorem witness_Buffers_14 :
    (let m : Nat := 0x11; let size : Nat := 100; let k : Nat := 6; let i : Nat := 1; let s : State := wPools6; decide (Works s ∧ Reaches s m F.sbgAllocSize_size.addr true ∧ isMc m = true ∧ (allocResult s m).toNat / 2 ^ 61 ≠ 4 ∧ 0 < size ∧ size ≤ 1048576 ∧ (eligible s 2 size).head? = some k ∧ openCount s k ≠ 0 ∧ Gives s k i)) = true := by decide +kernel

theorem witness_Buffers_15 :
    (let m : Nat := 0x11; let size : Nat := 1048577; let s : State := wPools6; decide (Works s ∧ Reaches s m F.sbgAllocSize_size.addr true ∧ isMc m = true ∧ (allocResult s m).toNat / 2 ^ 61 ≠ 4 ∧ 1048576 < size)) = true := by decide +kernel

theorem witness_Buffers_16 :
    (let m : Nat := 0x11; let s : State := wPools6; decide (Works s ∧ Reaches s m F.sbgAllocSize_size.addr true ∧ isMc m = true ∧ (allocResult s m).toNat / 2 ^ 61 ≠ 4)) = true := by decide +kernel

theorem witness_Buffers_17 :
    (let m : Nat := 0x11; let size : Nat := 100; let s : State := setF (setF (setF wPools6 (F.sbgPoolStat_free 6) 0) (F.sbgPoolStat_free 7) 0) (F.sbgPoolStat_free 8) 0; decide (Works s ∧ Reaches s m F.sbgAllocSize_size.addr true ∧ isMc m = true ∧ (allocResult s m).toNat / 2 ^ 61 ≠ 4 ∧ 0 < size ∧ size ≤ 1048576 ∧ ((∀ k ∈ eligible s 2 size, openCount s k = 0)))) = true := by decide +kernel

theorem witness_Buffers_18 :
    (let m : Nat := 0x11; let size : Nat := 1048576; let k : Nat := 8; let s : State := putPool wPools6 8 { poolOf wPools6 8 with rebuilding := true }; decide (Works s ∧ Reaches s m F.sbgAllocSize_size.addr true ∧ isMc m = true ∧ (allocResult s m).toNat / 2 ^ 61 ≠ 4 ∧ 0 < size ∧ size ≤ 1048576 ∧ eligible s 2 size = [k] ∧ openCount s k ≠ 0 ∧ (poolOf s k).rebuilding = true)) = true := by decide +kernel

theorem witness_Buffers_19 :
    (let m : Nat := idSec; let s : State := wPools6; decide (Works s ∧ Reaches s m F.sbgAllocSize_size.addr true ∧ (isMc m = false ∨ (allocResult s m).toNat / 2 ^ 61 = 4))) = true := by decide +kernel

theorem witness_Buffers_20 :
    (let m : Nat := 0x11; let a : Nat := bufAddr 6 1; let k : Nat := 6; let i : Nat := 1; let s : State := wPools6; decide (Works s ∧ Reaches s m F.sbgFree_addr.addr true ∧ bufAt [6, 7, 8] a = some (k, i) ∧ (bufTaken (poolOf s k) i = false ∨ i ∈ (poolOf s k).queuedFrees))) = true := by decide +kernel

theorem witness_Buffers_21 :
    (let m : Nat := 0x11; let a : Nat := 0xC00000000; let k : Nat := 6; let i : Nat := 0; let s : State := wPools6; decide (Works s ∧ Reaches s m F.sbgFree_addr.addr true ∧ bufAt [6, 7, 8] a = some (k, i) ∧ CanFree s k i)) = true := by decide +kernel

theorem witness_Buffers_22 :
    (let m : Nat := 0x11; let a : Nat := 0xC00000008; let s : State := wPools6; decide (Works s ∧ Reaches s m F.sbgFree_addr.addr true ∧ bufAt [6, 7, 8] a = none)) = true := by decide +kernel

theorem witness_Buffers_23 :
    (let m : Nat := 0x11; let s : State := { wPools with sbg := { wPools.sbg with results := [(0x11, 77#64)] } }; decide (Works s ∧ Reaches s m F.sbgAllocResult_status.addr false)) = true := by decide +kernel

theorem witness_Buffers_24 :
    (let pzn : Nat := 5; let hr : Nat := 2; let v : Nat := 1; let a : Accum := wAcc; let s : State := let x := setF wPools6 F.sbgAcc_idle 50; { x with sbg := { x.sbg with accums := [wAcc] } }; decide (Works s ∧ accumOf s pzn hr v = some a ∧ getF s F.sbgAcc_idle ≠ 0 ∧ CanFree s 5 a.buf)) = true := by decide +kernel

theorem witness_Buffers_25 :
    (let pzn : Nat := 5; let hr : Nat := 2; let v : Nat := 1; let s : State := wPools6; decide (Works s ∧ (accumOf s pzn hr v = none ∨ getF s F.sbgAcc_idle = 0))) = true := by decide +kernel

theorem witness_Buffers_26 :
    (let k : Nat := 6; let s : State := wPools6; decide (Works s ∧ (poolOf s k).rebuilding = false)) = true := by decide +kernel

theorem witness_ContactSheet_1 :
    (let e : Event := wEv 3; let s : State := setF { w0 with csh := { w0.csh with ports := [wEv 9, wEv 3] } } (F.cshMissed_pending 2) 5; decide (Powered s ∧ nextPort s.csh.ports = some e ∧ s.csh.fifo.length < 32)) = true := by decide +kernel

theorem witness_ContactSheet_2 :
    (let e : Event := wEv 3; let s : State := { w0 with csh := { w0.csh with ports := [wEv 3], fifo := List.replicate 32 wCap } }; decide (Powered s ∧ nextPort s.csh.ports = some e ∧ 32 ≤ s.csh.fifo.length)) = true := by decide +kernel

theorem witness_ContactSheet_3 :
    (let c : Captured := wCap; let r : List Captured := []; let s : State := { wLog with csh := { wLog.csh with fifo := [wCap] } }; decide (Powered s ∧ s.csh.fifo = c :: r ∧ s.csh.staging.length < 1024)) = true := by decide +kernel

theorem witness_ContactSheet_4 :
    (let c : Captured := wCap; let r : List Captured := []; let s : State := { wLog with csh := { wLog.csh with fifo := [wCap], staging := List.replicate 1024 [] } }; decide (Powered s ∧ s.csh.fifo = c :: r ∧ 1024 ≤ s.csh.staging.length)) = true := by decide +kernel

theorem witness_ContactSheet_5 :
    (let m : Nat := 0x11; let q : Nat := 7; let r : List Byte := buildRecord 7 wCap; let rs : List (List Byte) := [buildRecord 8 wCap]; let s : State := wLog; decide (Powered s ∧ Reaches s m F.cshDrain_seq.addr true ∧ isMc m = true ∧ flag s F.cshStat_init = true ∧ s.csh.staging = r :: rs ∧ recordSeq r = q ∧ s.csh.ringSeqs.length < 16384)) = true := by decide +kernel

theorem witness_ContactSheet_6 :
    (let m : Nat := 0x11; let q : Nat := 8; let s : State := wLog; decide (Powered s ∧ Reaches s m F.cshDrain_seq.addr true ∧ isMc m = true ∧ flag s F.cshStat_init = true ∧ ((∀ r ∈ s.csh.staging.head?, recordSeq r ≠ q)) ∧ s.csh.ringSeqs.length < 16384)) = true := by decide +kernel

theorem witness_ContactSheet_7 :
    (let m : Nat := 0x11; let s : State := { wLog with csh := { wLog.csh with ringSeqs := List.range 16384 } }; decide (Powered s ∧ Reaches s m F.cshDrain_seq.addr true ∧ isMc m = true ∧ flag s F.cshStat_init = true ∧ 16384 ≤ s.csh.ringSeqs.length)) = true := by decide +kernel

theorem witness_ContactSheet_8 :
    (let m : Nat := idSec; let s : State := wLog; decide (Powered s ∧ Reaches s m F.cshDrain_seq.addr true ∧ (isMc m = false ∨ flag s F.cshStat_init = false))) = true := by decide +kernel

theorem witness_ContactSheet_9 :
    (let m : Nat := idSec; let s : State := wLog; decide (Powered s ∧ Reaches s m F.cshClear_count.addr true ∧ isMc m = false ∧ m ≠ idHostPf)) = true := by decide +kernel

theorem witness_ContactSheet_10 :
    (let m : Nat := 0x11; let s : State := wLog; decide (Powered s ∧ Reaches s m F.cshRing_count.addr true ∧ isMc m = true ∧ flag s F.cshStat_init = true)) = true := by decide +kernel

theorem witness_ContactSheet_11 :
    (let m : Nat := 0x11; let s : State := wLog; decide (Powered s ∧ Reaches s m F.cshClear_count.addr true ∧ isMc m = true)) = true := by decide +kernel

theorem witness_ContactSheet_12 :
    (let m : Nat := idHostPf; let s : State := wLog; decide (Powered s ∧ Reaches s m F.cshClear_count.addr true ∧ (isMc m = true ∨ m = idHostPf))) = true := by decide +kernel

theorem witness_ContactSheet_13 :
    (let m : Nat := 0x11; let q : Nat := 6; let s : State := wLog; decide (Powered s ∧ Reaches s m F.cshClear_count.addr true ∧ isMc m = true ∧ q ≠ oldestSeq s)) = true := by decide +kernel

theorem witness_ContactSheet_14 :
    (let m : Nat := 0x11; let n : Nat := 2; let qs : List Nat := [3, 4]; let s : State := w0; decide (Powered s ∧ Reaches s m F.cshRing_count.addr true ∧ isMc m = true ∧ flag s F.cshStat_init = false ∧ n ≤ 16384 ∧ qs.length = n)) = true := by decide +kernel

theorem witness_ContactSheet_15 :
    (let m : Nat := 0x11; let p : Nat := 3; let s : State := wLog; decide (Powered s ∧ Reaches s m F.cshCursor_pos.addr true ∧ isReader m = true ∧ s.csh.ringSeqs.length ≤ p ∧ p < s.csh.ringSeqs.length + s.csh.staging.length)) = true := by decide +kernel

theorem witness_ContactSheet_16 :
    (let m : Nat := 0x11; let p : Nat := 1; let s : State := wLogOn; decide (Powered s ∧ domainOn s .mgmt = true ∧ Reaches s m F.cshCursor_pos.addr true ∧ isReader m = true ∧ flag s F.cshStat_init = true ∧ p < s.csh.ringSeqs.length)) = true := by decide +kernel

theorem witness_ContactSheet_17 :
    (let m : Nat := 0x11; let p : Nat := 4; let s : State := wLog; decide (Powered s ∧ Reaches s m F.cshCursor_pos.addr true ∧ isReader m = true ∧ s.csh.ringSeqs.length + s.csh.staging.length ≤ p)) = true := by decide +kernel

theorem witness_ContactSheet_18 :
    (let m : Nat := 0x11; let p : Nat := 1; let s : State := wLog; decide (Powered s ∧ Reaches s m F.cshCursor_pos.addr true ∧ isReader m = true ∧ (domainOn s .mgmt = false ∨ flag s F.cshStat_init = false) ∧ p < s.csh.ringSeqs.length)) = true := by decide +kernel

theorem witness_ContactSheet_19 :
    (let m : Nat := 0x11; let p : Nat := 3; let s : State := wLog; decide (Powered s ∧ Reaches s m F.cshCursor_pos.addr true ∧ isReader m = true ∧ s.csh.ringSeqs.length ≤ p ∧ p < s.csh.ringSeqs.length + s.csh.staging.length)) = true := by decide +kernel

theorem witness_ContactSheet_20 :
    (let m : Nat := idSec; let s : State := wLog; decide (Powered s ∧ Reaches s m F.cshCursor_pos.addr true ∧ isReader m = false)) = true := by decide +kernel

theorem witness_ContactSheet_21 :
    (let m : Nat := 0x11; let s : State := putReader wLogOn 0x11 ⟨1, 1, [], true⟩; decide (Powered s ∧ domainOn s .mgmt = true ∧ (readerOf s m).wstat = 1 ∧ (readerOf s m).released = true ∧ s.nor.busy = false)) = true := by decide +kernel

theorem witness_ContactSheet_22 :
    (let m : Nat := 0x11; let s : State := wLog; decide (Powered s ∧ ((readerOf s m).wstat ≠ 1 ∨ s.nor.busy = true ∨ domainOn s .mgmt = false))) = true := by decide +kernel

theorem witness_ContactSheet_23 :
    (let m : Nat := 0x11; let s : State := putReader wLogOn 0x11 ⟨1, 1, [], false⟩; decide (Powered s ∧ domainOn s .mgmt = true ∧ (readerOf s m).wstat = 1 ∧ (readerOf s m).released = false ∧ s.nor.busy = false)) = true := by decide +kernel

theorem witness_ContactSheet_24 :
    (let w : Nat := 1; let ws : List Nat := [2]; let s : State := { wLogOn with nor := { wLogOn.nor with busy := true, writers := [1, 2] } }; decide (Powered s ∧ domainOn s .mgmt = true ∧ s.nor.writers = w :: ws ∧ (s.csh.readers.any fun kv => kv.2.wstat == 1) = false)) = true := by decide +kernel

theorem witness_ContactSheet_25 :
    (let s : State := { wLogOn with nor := { wLogOn.nor with busy := true } }; decide (Powered s ∧ domainOn s .mgmt = true ∧ ((s.nor.writers = [] ∨ (s.csh.readers.any fun kv => kv.2.wstat == 1) = true)))) = true := by decide +kernel

theorem witness_ContactSheet_26 :
    (let m : Nat := 0x11; let next : Nat := 2; let s : State := wLogOn; decide (Powered s ∧ Reaches s m F.prfSel_valid.addr true ∧ (isMc m = true ∨ m = idHostPf) ∧ next < 4)) = true := by decide +kernel

theorem witness_ContactSheet_27 :
    (let s : State := clrF (setBit (setF wLogOn F.prfSel_next 2) F.prfSel_valid) F.prfSel_committed; decide (Powered s ∧ domainOn s .mgmt = true ∧ flag s F.prfSel_committed = false ∧ (bootRecord s).seq + 1 < 2 ^ 32)) = true := by decide +kernel

theorem witness_ContactSheet_28 :
    (let m : Nat := idSec; let s : State := wLogOn; decide (Powered s ∧ Reaches s m F.prfSel_valid.addr true ∧ isMc m = false ∧ m ≠ idHostPf)) = true := by decide +kernel

theorem witness_ContactSheet_29 :
    (let s : State := setBit wLogOn F.prfSel_committed; decide (Powered s ∧ (domainOn s .mgmt = false ∨ flag s F.prfSel_committed = true))) = true := by decide +kernel

theorem witness_ContactSheet_30 :
    (let s : State := wLog; decide (Powered s ∧ s.csh.ports = [])) = true := by decide +kernel

theorem witness_ContactSheet_31 :
    (let s : State := wLog; decide (Powered s ∧ s.csh.fifo = [])) = true := by decide +kernel

theorem witness_LinkPorts_1 :
    (let p : Nat := 2; let s : State := wLead; decide (Powered s ∧ slkOn s = true ∧ p < 4 ∧ portEnabled s p = true ∧ (portOf s p).st = .off)) = true := by decide +kernel

theorem witness_LinkPorts_2 :
    (let p : Nat := 0; let s : State := wPort wLead { noPort with st := .down, since := 4 }; decide (Powered s ∧ slkOn s = true ∧ p < 4 ∧ portEnabled s p = true ∧ (portOf s p).st = .down)) = true := by decide +kernel

theorem witness_LinkPorts_3 :
    (let p : Nat := 1; let dev : Nat := 5; let role : Nat := 3; let rp : Nat := 0; let x : Port := { noPort with st := .train }; let s : State := putPort wLead 1 { noPort with st := .train }; decide (Powered s ∧ slkOn s = true ∧ p < 4 ∧ portOf s p = x ∧ x.st = .train ∧ x.queue = [] ∧ (wiringPeers s.straps.role (devId s) p).contains (dev, role, rp) = true ∧ ((unjoined s = false ∨ s.slk.eph.isSome = true)))) = true := by decide +kernel

theorem witness_LinkPorts_4 :
    (let p : Nat := 0; let dev : Nat := 0; let role : Nat := 3; let rp : Nat := 0; let x : Port := { noPort with st := .train }; let s : State := wPort { wNewMemb with slk := { wNewMemb.slk with eph := none } } { noPort with st := .train }; decide (Powered s ∧ slkOn s = true ∧ p < 4 ∧ portOf s p = x ∧ x.st = .train ∧ x.queue = [] ∧ (wiringPeers s.straps.role (devId s) p).contains (dev, role, rp) = true ∧ unjoined s = true ∧ s.slk.eph = none ∧ s.lrs.bootStopped = false ∧ s.slk.stepping = false ∧ flag s (F.slkRoute_valid (leaderId s)) = true ∧ getF s (F.slkRoute_port (leaderId s)) = p)) = true := by decide +kernel

theorem witness_LinkPorts_5 :
    (let p : Nat := 0; let dev : Nat := 1; let role : Nat := 3; let rp : Nat := 0; let x : Port := wUp; let s : State := wLead; decide (Powered s ∧ slkOn s = true ∧ p < 4 ∧ portOf s p = x ∧ x.st = .up ∧ (wiringPeers s.straps.role (devId s) p).contains (dev, role, rp) = true)) = true := by decide +kernel

theorem witness_LinkPorts_6 :
    (let p : Nat := 1; let dev : Nat := 1; let role : Nat := 3; let rp : Nat := 0; let x : Port := { noPort with st := .train }; let s : State := putPort wLead 1 { noPort with st := .train }; decide (Powered s ∧ slkOn s = true ∧ p < 4 ∧ portOf s p = x ∧ x.st = .train ∧ (wiringPeers s.straps.role (devId s) p).contains (dev, role, rp) = false)) = true := by decide +kernel

theorem witness_LinkPorts_7 :
    (let p : Nat := 0; let dev : Nat := 1; let role : Nat := 2; let rp : Nat := 0; let x : Port := wUp; let s : State := wLead; decide (Powered s ∧ slkOn s = true ∧ p < 4 ∧ portOf s p = x ∧ x.st = .up ∧ x.queue = [] ∧ s.hif.slots = [] ∧ s.slk.adminWaits = [] ∧ (wiringPeers s.straps.role (devId s) p).contains (dev, role, rp) = false)) = true := by decide +kernel

theorem witness_LinkPorts_8 :
    (let p : Nat := 0; let b : List Byte := wFlit 0 0 false; let x : Port := wUp; let s : State := wLead; decide (Powered s ∧ slkOn s = true ∧ p < 4 ∧ portOf s p = x ∧ x.st = .up ∧ x.queue = [] ∧ flitGood b = true ∧ leAt b 0 1 % 16 = 0)) = true := by decide +kernel

theorem witness_LinkPorts_9 :
    (let p : Nat := 0; let b : List Byte := wFlit 3 0 false; let x : Port := wUp; let s : State := wLead; decide (Powered s ∧ slkOn s = true ∧ p < 4 ∧ portOf s p = x ∧ x.st = .up ∧ x.queue = [] ∧ flitGood b = true ∧ leAt b 0 1 % 16 = 3)) = true := by decide +kernel

theorem witness_LinkPorts_10 :
    (let p : Nat := 0; let b : List Byte := wMsg 0x21 (msgHeader 0x01 0 1 300 0 0); let x : Port := wUp; let s : State := wLead; decide (Powered s ∧ slkOn s = true ∧ p < 4 ∧ portOf s p = x ∧ x.st = .up ∧ x.queue = [] ∧ flitGood b = true ∧ leAt b 0 1 % 16 = 1 ∧ leAt b 4 2 % 4096 = x.rxSeq % 4096 ∧ bitAt (leAt b 0 1) 6 = false ∧ (if bitAt (leAt b 0 1) 5 then inflowOf s (bytesAt b 8 240) else if bitAt (leAt b 0 1) 4 then x.wayRsp else x.wayReq) = .take)) = true := by decide +kernel

theorem witness_LinkPorts_11 :
    (let p : Nat := 0; let b : List Byte := wMsg 0x11 [5]; let x : Port := { wUp with wayRsp := .take, asmRsp := [1] }; let s : State := wPort wLead { wUp with wayRsp := .take, asmRsp := [1] }; decide (Powered s ∧ slkOn s = true ∧ p < 4 ∧ portOf s p = x ∧ x.st = .up ∧ x.queue = [] ∧ flitGood b = true ∧ leAt b 0 1 % 16 = 1 ∧ leAt b 4 2 % 4096 = x.rxSeq % 4096 ∧ bitAt (leAt b 0 1) 6 = false ∧ bitAt (leAt b 0 1) 5 = false ∧ bitAt (leAt b 0 1) 4 = true ∧ x.wayRsp = .take)) = true := by decide +kernel

theorem witness_LinkPorts_12 :
    (let p : Nat := 0; let b : List Byte := wMsg 0x61 (msgHeader 0x01 0 1 20 0 0); let x : Port := wUp; let s : State := wLead; decide (Powered s ∧ slkOn s = true ∧ p < 4 ∧ portOf s p = x ∧ x.st = .up ∧ x.queue = [] ∧ flitGood b = true ∧ leAt b 0 1 % 16 = 1 ∧ leAt b 4 2 % 4096 = x.rxSeq % 4096 ∧ bitAt (leAt b 0 1) 6 = true ∧ (if bitAt (leAt b 0 1) 5 then inflowOf s (bytesAt b 8 240) else if bitAt (leAt b 0 1) 4 then x.wayRsp else x.wayReq) = .take ∧ isSealed (leAt ((if bitAt (leAt b 0 1) 5 then [] else if bitAt (leAt b 0 1) 4 then x.asmRsp else x.asmReq) ++ bytesAt b 8 240) 0 1) = false)) = true := by decide +kernel

theorem witness_LinkPorts_13 :
    (let m : List Byte := bytesAt wSealedMsg 0 240; let p : Nat := 0; let d : Nat := 1; let b : List Byte := wMsg 0x61 m; let k : List Byte := beBytes 32 9; let x : Port := wUp; let s : State := wLead; decide (Powered s ∧ slkOn s = true ∧ p < 4 ∧ portOf s p = x ∧ x.st = .up ∧ x.queue = [] ∧ flitGood b = true ∧ leAt b 0 1 % 16 = 1 ∧ leAt b 4 2 % 4096 = x.rxSeq % 4096 ∧ bitAt (leAt b 0 1) 6 = true ∧ (if bitAt (leAt b 0 1) 5 then inflowOf s (bytesAt b 8 240) else if bitAt (leAt b 0 1) 4 then x.wayRsp else x.wayReq) = .take ∧ ((if bitAt (leAt b 0 1) 5 then [] else if bitAt (leAt b 0 1) 4 then x.asmRsp else x.asmReq) ++ bytesAt b 8 240) = m ∧ isSealed (leAt m 0 1) = true ∧ leAt m 1 1 / 16 = d ∧ pairKey s d = some k ∧ leAt m 0x0C 2 ≤ s.slk.term ∧ (peerOf s d).rxCount + 1 < 2 ^ 48 - 1 ∧ (peerOf s d).txCount < 2 ^ 48 - 1 ∧ s.hif.slots = [] ∧ s.slk.adminWaits = [] ∧ s.mbx.chans = [])) = true := by decide +kernel

theorem witness_LinkPorts_14 :
    (let p : Nat := 0; let q : Nat := 1; let b : List Byte := wMsg 0x21 (msgHeader 0x05 2 1 300 0 0); let x : Port := wUp; let s : State := wPass; decide (Powered s ∧ slkOn s = true ∧ p < 4 ∧ portOf s p = x ∧ x.st = .up ∧ x.queue = [] ∧ flitGood b = true ∧ leAt b 0 1 % 16 = 1 ∧ leAt b 4 2 % 4096 = x.rxSeq % 4096 ∧ q < 4 ∧ q ≠ p ∧ (if bitAt (leAt b 0 1) 5 then inflowOf s (bytesAt b 8 240) else if bitAt (leAt b 0 1) 4 then x.wayRsp else x.wayReq) = .pass q ∧ (portOf s q).st ≠ .up)) = true := by decide +kernel

theorem witness_LinkPorts_15 :
    (let p : Nat := 0; let q : Nat := 1; let b : List Byte := wMsg 0x61 (msgHeader 0x05 2 1 20 0 0); let x : Port := wUp; let s : State := putPort wPass 1 wUp; decide (Powered s ∧ slkOn s = true ∧ p < 4 ∧ portOf s p = x ∧ x.st = .up ∧ x.queue = [] ∧ flitGood b = true ∧ leAt b 0 1 % 16 = 1 ∧ leAt b 4 2 % 4096 = x.rxSeq % 4096 ∧ q < 4 ∧ q ≠ p ∧ (if bitAt (leAt b 0 1) 5 then inflowOf s (bytesAt b 8 240) else if bitAt (leAt b 0 1) 4 then x.wayRsp else x.wayReq) = .pass q ∧ (portOf s q).st = .up ∧ (portOf s q).queue = [] ∧ bitAt (leAt b 0 1) 5 = true ∧ openOf (portOf s q) (bitAt (leAt b 0 1) 4) = none ∧ 0 < (if bitAt (leAt b 0 1) 4 then (portOf s q).credRsp else (portOf s q).credReq) ∧ (portOf s q).replay.length < 512)) = true := by decide +kernel

theorem witness_LinkPorts_16 :
    (let p : Nat := 0; let b : List Byte := wMsg 0x21 (msgHeader 0x05 9 1 20 0 0); let x : Port := wUp; let s : State := wLead; decide (Powered s ∧ slkOn s = true ∧ p < 4 ∧ portOf s p = x ∧ x.st = .up ∧ x.queue = [] ∧ flitGood b = true ∧ leAt b 0 1 % 16 = 1 ∧ leAt b 4 2 % 4096 = x.rxSeq % 4096 ∧ (if bitAt (leAt b 0 1) 5 then inflowOf s (bytesAt b 8 240) else if bitAt (leAt b 0 1) 4 then x.wayRsp else x.wayReq) = .drop)) = true := by decide +kernel

theorem witness_LinkPorts_17 :
    (let p : Nat := 0; let b : List Byte := wFlit 1 1 false; let x : Port := wUp; let s : State := wLead; decide (Powered s ∧ slkOn s = true ∧ p < 4 ∧ portOf s p = x ∧ x.st = .up ∧ x.queue = [] ∧ flitGood b = true ∧ leAt b 0 1 % 16 = 1 ∧ leAt b 4 2 % 4096 ≠ x.rxSeq % 4096)) = true := by decide +kernel

theorem witness_LinkPorts_18 :
    (let p : Nat := 0; let b : List Byte := [1]; let x : Port := wUp; let s : State := wLead; decide (Powered s ∧ slkOn s = true ∧ p < 4 ∧ portOf s p = x ∧ x.st = .up ∧ flitGood b = false ∧ ((leAt b 0 1 % 16 = 1 ∨ 4 < leAt b 0 1 % 16)))) = true := by decide +kernel

theorem witness_LinkPorts_19 :
    (let p : Nat := 0; let b : List Byte := wFlit 2 0 false; let x : Port := wUp; let s : State := wLead; decide (Powered s ∧ slkOn s = true ∧ p < 4 ∧ portOf s p = x ∧ x.st = .up ∧ x.queue = [] ∧ flitGood b = true ∧ leAt b 0 1 % 16 = 2 ∧ (if x.nakRun ≠ 0 ∧ x.nakAck = leAt b 6 2 % 4096 then x.nakRun + 1 else 1) < 8 ∧ x.replay = [])) = true := by decide +kernel

theorem witness_LinkPorts_20 :
    (let p : Nat := 0; let b : List Byte := wFlit 2 0 false; let f : Flit := { bareFlit with seq := 3 }; let x : Port := { wUp with replay := [bareFlit, { bareFlit with seq := 3 }] }; let s : State := wPort wLead { wUp with replay := [bareFlit, { bareFlit with seq := 3 }] }; decide (Powered s ∧ slkOn s = true ∧ p < 4 ∧ portOf s p = x ∧ x.st = .up ∧ x.queue = [] ∧ flitGood b = true ∧ leAt b 0 1 % 16 = 2 ∧ (if x.nakRun ≠ 0 ∧ x.nakAck = leAt b 6 2 % 4096 then x.nakRun + 1 else 1) < 8 ∧ x.owedReq = 0 ∧ x.owedRsp = 0 ∧ f ∈ (if bitAt (leAt b 6 2) 15 then ackReplay (leAt b 6 2 % 4096) x.replay else x.replay))) = true := by decide +kernel

theorem witness_LinkPorts_21 :
    (let p : Nat := 0; let b : List Byte := wFlit 2 0 false; let x : Port := { wUp with nakRun := 7 }; let s : State := wPort wLead { wUp with nakRun := 7 }; decide (Powered s ∧ slkOn s = true ∧ p < 4 ∧ portOf s p = x ∧ x.st = .up ∧ x.queue = [] ∧ flitGood b = true ∧ leAt b 0 1 % 16 = 2 ∧ 8 ≤ (if x.nakRun ≠ 0 ∧ x.nakAck = leAt b 6 2 % 4096 then x.nakRun + 1 else 1) ∧ s.hif.slots = [] ∧ s.slk.adminWaits = [])) = true := by decide +kernel

theorem witness_LinkPorts_22 :
    (let p : Nat := 0; let x : Port := wUp; let s : State := setF wLead F.slkCtrl_lossTimeout 10; decide (Powered s ∧ slkOn s = true ∧ p < 4 ∧ getF s F.slkCtrl_lossTimeout ≠ 0 ∧ portOf s p = x ∧ x.st = .up ∧ x.queue = [] ∧ s.hif.slots = [] ∧ s.slk.adminWaits = [])) = true := by decide +kernel

theorem witness_LinkPorts_23 :
    (let p : Nat := 0; let s : State := setF (putSlot wLead 0 (wCk .read 0x02 0 1 0 .waitMembers)) F.slkCtrl_lossTimeout 10; decide (Powered s ∧ slkOn s = true ∧ p < 4 ∧ getF s F.slkCtrl_lossTimeout ≠ 0 ∧ (portOf s p).st = .up)) = true := by decide +kernel

theorem witness_LinkPorts_24 :
    (let p : Nat := 0; let s : State := wPort wLead { noPort with st := .down }; decide (Powered s ∧ slkOn s = true ∧ p < 4 ∧ ((portOf s p).st = .down ∨ ((portOf s p).st = .train ∧ (portOf s p).retrained = true)))) = true := by decide +kernel

theorem witness_Joining_1 :
    (let d : Nat := 1; let uid : Nat := 88; let bays : Nat := 15; let lc : Nat := 1; let term : Nat := 0; let s : State := { wNewLead with slk := { wNewLead.slk with term := 3 } }; decide (TkrIdle s ∧ spFind s.tkr.slots (4100 + d) = none ∧ s.mbx.chans = [] ∧ mbxDone s (idPeer d) = 0 ∧ slkOn s = true ∧ isLeader s = true ∧ d ≤ 15 ∧ (peerOf s d).cond = .none ∧ joinFault s d uid bays lc true true = none ∧ strapLeader s.straps = true ∧ term < s.slk.term ∧ flag s (F.slkRoute_valid d) = true)) = true := by decide +kernel

theorem witness_Joining_2 :
    (let d : Nat := 1; let uid : Nat := 88; let bays : Nat := 7; let lc : Nat := 1; let cause : Nat := 3; let co : Bool := true; let so : Bool := true; let s : State := wNewLead; decide (Powered s ∧ slkOn s = true ∧ isLeader s = true ∧ d ≤ 15 ∧ (peerOf s d).cond ≠ .removed ∧ joinFault s d uid bays lc co so = some cause ∧ cause < 8)) = true := by decide +kernel

theorem witness_Joining_3 :
    (let d : Nat := 1; let s : State := putPeer wNewLead 1 { wLive with cond := .removed }; decide (Powered s ∧ slkOn s = true ∧ (peerOf s d).cond = .removed)) = true := by decide +kernel

theorem witness_Joining_4 :
    (let d : Nat := 1; let uid : Nat := 88; let bays : Nat := 15; let lc : Nat := 1; let term : Nat := 7; let s : State := wNewLead; decide (Powered s ∧ slkOn s = true ∧ isLeader s = true ∧ d ≤ 15 ∧ (peerOf s d).cond ≠ .removed ∧ joinFault s d uid bays lc true true = none ∧ strapLeader s.straps = true ∧ s.slk.term ≤ term ∧ term + 1 < 2 ^ 16)) = true := by decide +kernel

theorem witness_Joining_5 :
    (let d : Nat := 2; let uid : Nat := 88; let bays : Nat := 15; let lc : Nat := 1; let term : Nat := 7; let s : State := { setF (setF wNewLead F.slkLeader_leader 1) F.slkLeader_isLeader 1 with straps := { wNewLead.straps with devId := 1 } }; decide (Powered s ∧ slkOn s = true ∧ isLeader s = true ∧ d ≤ 15 ∧ (peerOf s d).cond ≠ .removed ∧ joinFault s d uid bays lc true true = none ∧ strapLeader s.straps = false ∧ s.slk.term < term ∧ term < 2 ^ 16)) = true := by decide +kernel

theorem witness_Joining_6 :
    (let d : Nat := 0; let eph : Nat := 12345; let pub : List Byte := ecPublic p384 5; let z : List Byte := (ecdh p384 12345 (ecPublic p384 5)).getD []; let s : State := wNewMemb; decide (TkrIdle s ∧ spFind s.tkr.slots (4100 + d) = none ∧ s.mbx.chans = [] ∧ mbxDone s (idPeer d) = 0 ∧ slkOn s = true ∧ isLeader s = false ∧ d ≤ 15 ∧ leaderId s = d ∧ s.slk.eph = some eph ∧ ecdh p384 eph pub = some z)) = true := by decide +kernel

theorem witness_Joining_7 :
    (let d : Nat := 0; let term : Nat := 3; let eph : Nat := 12345; let co : Bool := true; let so : Bool := false; let s : State := wNewMemb; decide (Powered s ∧ slkOn s = true ∧ isLeader s = false ∧ leaderId s = d ∧ d < 16 ∧ s.slk.eph = some eph ∧ s.slk.term ≤ term ∧ (co = false ∨ so = false))) = true := by decide +kernel

theorem witness_Joining_8 :
    (let d : Nat := 0; let term : Nat := 3; let s : State := wLead; decide (Powered s ∧ slkOn s = true ∧ (s.slk.eph = none ∨ isLeader s = true ∨ leaderId s ≠ d ∨ term < s.slk.term))) = true := by decide +kernel

theorem witness_Joining_9 :
    (let u : Nat := 50; let s : State := { wNewMemb with slk := { wNewMemb.slk with triedAt := some 50 } }; decide (Powered s ∧ slkOn s = true ∧ unjoined s = true ∧ s.lrs.bootStopped = false ∧ s.slk.stepping = false ∧ routeUp s (leaderId s) = true ∧ s.slk.triedAt = some u)) = true := by decide +kernel

theorem witness_Joining_10 :
    (let d : Nat := 2; let term : Nat := 4; let s : State := wMemb; decide (Powered s ∧ slkOn s = true ∧ d ≠ devId s ∧ d < 16 ∧ s.slk.term < term ∧ term < 2 ^ 16 ∧ isLeader s = false ∧ routeUp s d = false)) = true := by decide +kernel

theorem witness_Joining_11 :
    (let d : Nat := 2; let s : State := setF wMemb F.slkLeader_leader 3; decide (Powered s ∧ slkOn s = true ∧ d ≠ devId s ∧ d < leaderId s ∧ leaderId s < 16 ∧ s.slk.term < 2 ^ 16 ∧ isLeader s = false ∧ routeUp s d = false)) = true := by decide +kernel

theorem witness_Joining_12 :
    (let d : Nat := 2; let term : Nat := 4; let s : State := putSlot wLead 0 (wCk .read 0x02 0 1 0 .admitted); decide (Powered s ∧ slkOn s = true ∧ d ≠ devId s ∧ d < 16 ∧ (s.slk.term < term ∨ (term = s.slk.term ∧ d < leaderId s)) ∧ term < 2 ^ 16 ∧ isLeader s = true ∧ s.slk.eph = none ∧ (s.hif.slots.any fun kv => isAdmitted kv.2) = true)) = true := by decide +kernel

theorem witness_Joining_13 :
    (let d : Nat := 2; let term : Nat := 4; let s : State := wLead; decide (Powered s ∧ slkOn s = true ∧ d ≠ devId s ∧ d < 16 ∧ (s.slk.term < term ∨ (term = s.slk.term ∧ d < leaderId s)) ∧ term < 2 ^ 16 ∧ isLeader s = true ∧ (s.hif.slots.any fun kv => isAdmitted kv.2) = false)) = true := by decide +kernel

theorem witness_Joining_14 :
    (let d : Nat := 2; let term : Nat := 0; let v : Bool := true; let s : State := wMemb; decide (Powered s ∧ slkOn s = true ∧ (v = false ∨ d = devId s ∨ term < s.slk.term ∨ (term = s.slk.term ∧ leaderId s ≤ d)))) = true := by decide +kernel

theorem witness_Joining_15 :
    (let d : Nat := 1; let s : State := wLead; decide (Powered s ∧ trusts s d = true)) = true := by decide +kernel

theorem witness_Joining_16 :
    (let d : Nat := 1; let s : State := wLead; decide (Powered s ∧ trusts s d = true)) = true := by decide +kernel

theorem witness_Joining_17 :
    (let d : Nat := 0; let s : State := putPeer wMemb 0 { wLive with cond := .lost } |> fun s => putPort s 0 noPort; decide (Powered s ∧ slkOn s = true ∧ isLeader s = false ∧ leaderId s = d ∧ (peerOf s d).cond = .lost ∧ (pairKey s d).isSome = true ∧ routeUp s d = false)) = true := by decide +kernel

theorem witness_Joining_18 :
    (let d : Nat := 0; let s : State := putPeer { wMemb with otp := { wMemb.otp with lc := 1, devUid := 77 } } 0 { wLive with cond := .lost }; decide (Powered s ∧ slkOn s = true ∧ isLeader s = false ∧ leaderId s = d ∧ (peerOf s d).cond = .lost ∧ (pairKey s d).isSome = true ∧ routeUp s d = true ∧ s.slk.stepping = false ∧ s.lrs.bootStopped = false)) = true := by decide +kernel

theorem witness_Joining_19 :
    (let d : Nat := 1; let q : Peer := wLive; let s : State := wLead; decide (Powered s ∧ slkOn s = true ∧ isLeader s = true ∧ s.slk.peers = [(d, q)] ∧ q.cond = .live ∧ (pairKey s d).isSome = true ∧ q.txCount < 2 ^ 48 - 2 ∧ q.rxCount < 2 ^ 48 - 1 ∧ flag s (F.slkRoute_valid d) = true)) = true := by decide +kernel

theorem witness_Joining_20 :
    (let d : Nat := 0; let q : Peer := wLive; let s : State := wMemb; decide (Powered s ∧ slkOn s = true ∧ isLeader s = false ∧ leaderId s = d ∧ peerOf s d = q ∧ q.cond = .live ∧ (pairKey s d).isSome = true ∧ q.txCount < 2 ^ 48 - 2 ∧ q.rxCount < 2 ^ 48 - 1 ∧ flag s (F.slkRoute_valid d) = true)) = true := by decide +kernel

theorem witness_Joining_21 :
    (let d : Nat := 1; let s : State := setF (putSlot wLead 0 (wCk .read 0x02 0 1 0 .admitted)) F.slkCtrl_peerTimeout 8; decide (Powered s ∧ slkOn s = true ∧ getF s F.slkCtrl_peerTimeout ≠ 0 ∧ peerLive s d = true)) = true := by decide +kernel

theorem witness_Joining_22 :
    (let d : Nat := 1; let s : State := setF wLead F.slkCtrl_peerTimeout 8; decide (Powered s ∧ slkOn s = true ∧ getF s F.slkCtrl_peerTimeout ≠ 0 ∧ peerLive s d = true ∧ s.hif.slots = [] ∧ s.slk.adminWaits = [] ∧ s.mbx.chans = [])) = true := by decide +kernel

theorem witness_Joining_23 :
    (let d : Nat := 1; let u : Nat := 70; let s : State := putPeer wLead 1 { wLive with cond := .departed, wakeAt := some 70 }; decide (Powered s ∧ slkOn s = true ∧ (peerOf s d).cond = .departed ∧ (peerOf s d).wakeAt = some u ∧ s.hif.slots = [] ∧ s.slk.adminWaits = [] ∧ s.mbx.chans = [])) = true := by decide +kernel

theorem witness_Joining_24 :
    (let s : State := putPeer (setF wMemb F.slkCtrl_succWait 3) 0 { wLive with cond := .lost }; decide (Powered s ∧ slkOn s = true ∧ isLeader s = false ∧ flag s F.slkCtrl_succEn = true ∧ getF s F.slkCtrl_succWait ≠ 0 ∧ (peerOf s (leaderId s)).cond = .lost ∧ s.slk.term + 1 < 2 ^ 16 ∧ devId s < 16)) = true := by decide +kernel

theorem witness_Joining_25 :
    (let s : State := { wLead with slk := { wLead.slk with claimed := true } }; decide (Powered s ∧ slkOn s = true ∧ s.slk.claimed = true ∧ isLeader s = true ∧ s.slk.mirrorNs = [] ∧ s.slk.mirrorDeadlines = [])) = true := by decide +kernel

theorem witness_Joining_26 :
    (let nsid : Nat := 2; let k : Nat := 1; let v : Nat := 9; let ns : Namespace := wNs; let s : State := { wLead with slk := { wLead.slk with claimed := true, mirrorNs := [(2, wNs)], mirrorDeadlines := [(1, 9)] } }; decide (Powered s ∧ slkOn s = true ∧ s.slk.claimed = true ∧ isLeader s = true ∧ s.slk.mirrorNs = [(nsid, ns)] ∧ s.slk.mirrorDeadlines = [(k, v)] ∧ k < s.vfm.classDeadlines.length)) = true := by decide +kernel

theorem witness_Joining_27 :
    (let s : State := wLead; decide (Powered s ∧ slkOn s = true ∧ (s.slk.claimed = false ∨ isLeader s = false))) = true := by decide +kernel

theorem witness_Joining_28 :
    (let s : State := setF { wMemb with pmu := { wMemb.pmu with on := [.sec, .host, .dmc] } } F.pmuState_state 2; decide (Powered s ∧ standalone s = false ∧ operational s = false ∧ pmuState s ≠ 4 ∧ s.pmu.flight = .none ∧ s.dbg.halted = [] ∧ s.lrs.perst = false ∧ s.lrs.shelfReset = false)) = true := by decide +kernel

theorem witness_Joining_29 :
    (let m : Nat := 0x11; let d : Nat := 1; let p : Peer := { wLive with cond := .lost }; let s : State := putPeer wLead 1 { wLive with cond := .lost }; decide (Reaches s m F.slkRemove_removed.addr true ∧ (isMc m = true ∨ m = idHostPf ∨ m = idDebug) ∧ d < 16 ∧ s.slk.peers = [(d, p)] ∧ p.cond = .lost ∧ getF s F.slkRemove_removed = 0)) = true := by decide +kernel

theorem witness_Joining_30 :
    (let m : Nat := 0x11; let d : Nat := 1; let p : Peer := { wLive with cond := .removed }; let s : State := setF (putPeer wLead 1 { wLive with cond := .removed }) F.slkRemove_removed 2; decide (Reaches s m F.slkRemove_removed.addr true ∧ (isMc m = true ∨ m = idHostPf ∨ m = idDebug) ∧ d < 16 ∧ s.slk.peers = [(d, p)] ∧ p.cond = .removed ∧ getF s F.slkRemove_removed = 2 ^ d)) = true := by decide +kernel

theorem witness_Joining_31 :
    (let m : Nat := 0x11; let v : Nat := 2; let s : State := putPeer wLead 1 { wLive with cond := .lost }; decide (Reaches s m F.slkRemove_removed.addr true ∧ (isMc m = true ∨ m = idHostPf ∨ m = idDebug) ∧ v < 2 ^ 16)) = true := by decide +kernel

theorem witness_Joining_32 :
    (let m : Nat := 0x30; let s : State := wLead; decide (Reaches s m F.slkRemove_removed.addr true ∧ isMc m = false ∧ m ≠ idHostPf ∧ m ≠ idDebug)) = true := by decide +kernel

theorem witness_Forwarding_1 :
    (let d : Nat := 0; let term : Nat := 0; let s : State := wMemb; decide (Powered s ∧ fromLeader s d = true ∧ s.slk.term ≤ term)) = true := by decide +kernel

theorem witness_Forwarding_2 :
    (let d : Nat := 0; let term : Nat := 0; let s : State := { wMemb with slk := { wMemb.slk with term := 2 } }; decide (Powered s ∧ slkOn s = true ∧ (pairKey s d).isSome = true ∧ (fromLeader s d = false ∨ term < s.slk.term) ∧ (peerOf s d).txCount < 2 ^ 48 - 2 ∧ (peerOf s d).rxCount < 2 ^ 48 - 1 ∧ flag s (F.slkRoute_valid d) = true)) = true := by decide +kernel

theorem witness_Forwarding_3 :
    (let d : Nat := 5; let s : State := wMemb; decide (Powered s ∧ (slkOn s = false ∨ pairKey s d = none))) = true := by decide +kernel

theorem witness_Forwarding_4 :
    (let d : Nat := 0; let tag : Nat := 6; let n : Nat := 0; let c : CmdSlot := { wCk .write 0x01 0x300008 1 0 .admitted with firstSlot := 8, offset := 8 }; let s : State := wServing { wCk .write 0x01 0x300008 1 0 .admitted with firstSlot := 8, offset := 8 }; decide (Powered s ∧ trusts s d = true ∧ servedTag s d tag = some n ∧ slotOf s n = some c ∧ liveWrite c c.fetched.length = true ∧ c.fetched.contains c.fetched.length = false ∧ (boundZone s c.ezn).isSome = true)) = true := by decide +kernel

theorem witness_Forwarding_5 :
    (let d : Nat := 0; let tag : Nat := 6; let n : Nat := 0; let pzn : Nat := 5; let i : Nat := 0; let c : CmdSlot := { wCk .write 0x01 0x300008 1 0 .admitted with firstSlot := 8, offset := 8 }; let z : ZstEntry := wZst; let s : State := wServing { wCk .write 0x01 0x300008 1 0 .admitted with firstSlot := 8, offset := 8 }; decide (Powered s ∧ trusts s d = true ∧ servedTag s d tag = some n ∧ slotOf s n = some c ∧ liveWrite c c.fetched.length = true ∧ c.fetched.contains c.fetched.length = false ∧ boundZone s c.ezn = some (pzn, z) ∧ relocOf s pzn = none ∧ (c.firstSlot + c.fetched.length) / hrSlots z.tier < z.durableHr + ringSlots z.tier ∧ accumRoom s pzn z.tier (c.firstSlot + c.fetched.length) = true ∧ spFind s.mep.ingest (blockKey n c.fetched.length) = none ∧ Gives s 4 i ∧ flag s F.mepFlip_arm = false)) = true := by decide +kernel

theorem witness_Forwarding_6 :
    (let d : Nat := 1; let tag : Nat := 6; let n : Nat := 0; let i : Nat := 0; let c : CmdSlot := wRemote .read 0x02; let s : State := setF (wRelay .read 0x02) (F.sbgPoolStat_reserved 1) 2; decide (Powered s ∧ trusts s d = true ∧ sentSlot s d tag = some (n, c) ∧ c.phase = .waitMembers ∧ c.kind = .read ∧ c.opened.length < c.blocks ∧ Gives s 1 i ∧ c.reserved ≠ 0 ∧ getF s (F.sbgPoolStat_reserved 1) ≠ 0)) = true := by decide +kernel

theorem witness_Forwarding_7 :
    (let d : Nat := 1; let tag : Nat := 6; let n : Nat := 0; let i : Nat := 0; let c : CmdSlot := { wRemote .read 0x02 with reserved := 0 }; let s : State := putSlot (wRelay .read 0x02) 0 { wRemote .read 0x02 with reserved := 0 }; decide (Powered s ∧ trusts s d = true ∧ sentSlot s d tag = some (n, c) ∧ c.phase = .waitMembers ∧ c.kind = .read ∧ c.opened.length < c.blocks ∧ Gives s 1 i ∧ c.reserved = 0)) = true := by decide +kernel

theorem witness_Forwarding_8 :
    (let d : Nat := 1; let tag : Nat := 6; let n : Nat := 0; let c : CmdSlot := { wRemote .write 0x01 with reserved := 0 }; let s : State := let x := wRelay .write 0x01; putSlot x 0 { wRemote .write 0x01 with reserved := 0 }; decide (Powered s ∧ trusts s d = true ∧ sentSlot s d tag = some (n, c) ∧ c.phase = .waitMembers ∧ c.kind ≠ .read ∧ c.failed = none ∧ n ∉ s.zrs.held ∧ s.slk.stepping = false ∧ servedBy s n = none ∧ c.reserved = 0 ∧ ((∀ kv ∈ s.mep.pool, kv.1 / 256 ≠ n)) ∧ ((∀ kv ∈ s.mep.ingest, kv.1 / 256 ≠ n)) ∧ (spFind (funcOf s c.func).sqs c.sqid).bind SubQ.deleting = none)) = true := by decide +kernel

theorem witness_Forwarding_9 :
    (let d : Nat := 1; let tag : Nat := 6; let n : Nat := 0; let st : Status := .internalError; let c : CmdSlot := { wRemote .read 0x02 with reserved := 0 }; let s : State := putSlot (wRelay .read 0x02) 0 { wRemote .read 0x02 with reserved := 0 }; decide (Powered s ∧ trusts s d = true ∧ sentSlot s d tag = some (n, c) ∧ c.phase = .waitMembers ∧ c.kind = .read ∧ st ≠ .success ∧ n ∉ s.zrs.held ∧ s.slk.stepping = false ∧ servedBy s n = none ∧ c.reserved = 0 ∧ ((∀ kv ∈ s.mep.pool, kv.1 / 256 ≠ n)) ∧ ((∀ kv ∈ s.mep.ingest, kv.1 / 256 ≠ n)) ∧ (spFind (funcOf s c.func).sqs c.sqid).bind SubQ.deleting = none)) = true := by decide +kernel

theorem witness_Forwarding_10 :
    (let d : Nat := 1; let tag : Nat := 6; let n : Nat := 0; let c : CmdSlot := wRemote .read 0x02; let s : State := wRelay .read 0x02; decide (Powered s ∧ trusts s d = true ∧ sentSlot s d tag = some (n, c) ∧ c.phase = .waitMembers ∧ c.kind = .read ∧ (allOpened c = false ∨ (List.range c.blocks).all (fun i => c.egress.contains i) = false) ∧ readsOfSlot s n = [])) = true := by decide +kernel

theorem witness_Forwarding_11 :
    (let d : Nat := 1; let tag : Nat := 6; let n : Nat := 0; let c : CmdSlot := { wRemote .read 0x02 with reserved := 0, opened := [0, 1], egress := [0, 1] }; let s : State := putSlot (wRelay .read 0x02) 0 { wRemote .read 0x02 with reserved := 0, opened := [0, 1], egress := [0, 1] }; decide (Powered s ∧ trusts s d = true ∧ sentSlot s d tag = some (n, c) ∧ c.phase = .waitMembers ∧ c.kind = .read ∧ allOpened c = true ∧ (List.range c.blocks).all (fun i => c.egress.contains i) = true ∧ readsOfSlot s n = [] ∧ n ∉ s.zrs.held ∧ s.slk.stepping = false ∧ servedBy s n = none ∧ c.reserved = 0 ∧ ((∀ kv ∈ s.mep.pool, kv.1 / 256 ≠ n)) ∧ ((∀ kv ∈ s.mep.ingest, kv.1 / 256 ≠ n)) ∧ (spFind (funcOf s c.func).sqs c.sqid).bind SubQ.deleting = none)) = true := by decide +kernel

theorem witness_Forwarding_12 :
    (let d : Nat := 1; let tag : Nat := 6; let n : Nat := 0; let e : Nat := 2; let st : Status := .internalError; let c : CmdSlot := wCk .admin 0x01 0 0 0 .waitMembers; let s : State := let x := wRelay .write 0x01; { putSlot x 0 (wCk .admin 0x01 0 0 0 .waitMembers) with slk := { x.slk with adminWaits := [(0, [1, 2])] } }; decide (Powered s ∧ trusts s d = true ∧ st ≠ .success ∧ spFind s.slk.sentTags tag = some n ∧ slotOf s n = some c ∧ spFind s.slk.adminWaits n = some [d, e] ∧ d ≠ e)) = true := by decide +kernel

theorem witness_Forwarding_13 :
    (let d : Nat := 1; let tag : Nat := 6; let n : Nat := 0; let c : CmdSlot := wCk .admin 0x01 0 0 0 .waitMembers; let s : State := let x := wRelay .write 0x01; { putSlot x 0 (wCk .admin 0x01 0 0 0 .waitMembers) with slk := { x.slk with adminWaits := [(0, [1])] } }; decide (Powered s ∧ trusts s d = true ∧ spFind s.slk.sentTags tag = some n ∧ slotOf s n = some c ∧ c.phase = .waitMembers ∧ spFind s.slk.adminWaits n = some [d] ∧ n ∉ s.zrs.held ∧ s.slk.stepping = false ∧ servedBy s n = none ∧ c.reserved = 0 ∧ ((∀ kv ∈ s.mep.pool, kv.1 / 256 ≠ n)) ∧ ((∀ kv ∈ s.mep.ingest, kv.1 / 256 ≠ n)) ∧ (spFind (funcOf s c.func).sqs c.sqid).bind SubQ.deleting = none)) = true := by decide +kernel

theorem witness_Forwarding_14 :
    (let d : Nat := 1; let tag : Nat := 6; let n : Nat := 0; let st : Status := .internalError; let c : CmdSlot := wCk .admin 0x01 0 0 0 .waitMembers; let s : State := let x := wRelay .write 0x01; { putSlot x 0 (wCk .admin 0x01 0 0 0 .waitMembers) with slk := { x.slk with adminWaits := [(0, [1])] } }; decide (Powered s ∧ trusts s d = true ∧ st ≠ .success ∧ spFind s.slk.sentTags tag = some n ∧ slotOf s n = some c ∧ c.phase = .waitMembers ∧ spFind s.slk.adminWaits n = some [d] ∧ n ∉ s.zrs.held ∧ s.slk.stepping = false ∧ servedBy s n = none ∧ c.reserved = 0 ∧ ((∀ kv ∈ s.mep.pool, kv.1 / 256 ≠ n)) ∧ ((∀ kv ∈ s.mep.ingest, kv.1 / 256 ≠ n)) ∧ (spFind (funcOf s c.func).sqs c.sqid).bind SubQ.deleting = none)) = true := by decide +kernel

theorem witness_Forwarding_15 :
    (let d : Nat := 0; let tier : Nat := 1; let q : Sqe := wSqe true 0x0D 0 0 0 0 0; let tr : Tier := (tierOf 1).getD .d4; let s : State := wMemb; decide (Powered s ∧ fromLeader s d = true ∧ q.admin = true ∧ opc q = 0x0D ∧ nsSel q = 0 ∧ tierOf tier = some tr)) = true := by decide +kernel

theorem witness_Forwarding_16 :
    (let d : Nat := 0; let nsid : Nat := 2; let q : Sqe := wSqe true 0x0D 0 1 0 0 0; let s : State := wMemb; decide (Powered s ∧ fromLeader s d = true ∧ q.admin = true ∧ opc q = 0x0D ∧ nsSel q ≠ 0 ∧ spFind s.nss nsid = none ∧ (peerOf s d).txCount < 2 ^ 48 - 2 ∧ (peerOf s d).rxCount < 2 ^ 48 - 1 ∧ flag s (F.slkRoute_valid d) = true)) = true := by decide +kernel

theorem witness_Forwarding_17 :
    (let d : Nat := 0; let nsid : Nat := 2; let base : Nat := 4; let q : Sqe := wSqe true 0x0D 0 1 0 0 0; let ns : Namespace := { wNs with base := exposedZones w0 }; let s : State := { wMemb with nss := [(2, { wNs with base := exposedZones w0 })] }; decide (Powered s ∧ fromLeader s d = true ∧ q.admin = true ∧ opc q = 0x0D ∧ nsSel q ≠ 0 ∧ spFind s.nss nsid = some ns ∧ (∀ i, i < ns.count → (zoneHome s (ns.base + i)).1 = none ∧ zoneState s (zoneHome s (ns.base + i)).2 = .empty))) = true := by decide +kernel

theorem witness_Forwarding_18 :
    (let d : Nat := 0; let q : Sqe := wSqe true 0x84 0 2 0 0 0; let s : State := wMemb; decide (Powered s ∧ fromLeader s d = true ∧ q.admin = true ∧ opc q = 0x84 ∧ (sanAct q = 2 ∨ sanAct q = 4))) = true := by decide +kernel

theorem witness_Forwarding_19 :
    (let d : Nat := 0; let q : Sqe := wSqe true 0x09 0 0x0E 0 0 0; let s : State := wMemb; decide (Powered s ∧ fromLeader s d = true ∧ q.admin = true ∧ opc q = 0x09 ∧ dw10 q % 256 = 0x0E ∧ getF s F.mhmOffest_state ≠ 2 ∧ getF s F.mhmOffest_state ≠ 3 ∧ (peerOf s d).txCount < 2 ^ 48 - 2 ∧ (peerOf s d).rxCount < 2 ^ 48 - 1 ∧ flag s (F.slkRoute_valid d) = true)) = true := by decide +kernel

theorem witness_Forwarding_20 :
    (let d : Nat := 0; let q : Sqe := wSqe true 0x09 0 0xC0 0x40000064 0 0; let s : State := wMemb; decide (Powered s ∧ fromLeader s d = true ∧ q.admin = true ∧ opc q = 0x09 ∧ dw10 q % 256 = 0xC0 ∧ (peerOf s d).txCount < 2 ^ 48 - 2 ∧ (peerOf s d).rxCount < 2 ^ 48 - 1 ∧ flag s (F.slkRoute_valid d) = true)) = true := by decide +kernel

theorem witness_Forwarding_21 :
    (let d : Nat := 0; let q : Sqe := wSqe false 0x79 0 0 0 0 0; let s : State := wMemb; decide (Powered s ∧ fromLeader s d = true ∧ q.admin = false)) = true := by decide +kernel

theorem witness_Forwarding_22 :
    (let d : Nat := 0; let q : Sqe := wSqe true 0x0C 0 0 0 0 0; let s : State := wMemb; decide (Powered s ∧ fromLeader s d = true ∧ q.admin = true ∧ opc q ∉ [0x0D, 0x84, 0x09] ∧ (peerOf s d).txCount < 2 ^ 48 - 2 ∧ (peerOf s d).rxCount < 2 ^ 48 - 1 ∧ flag s (F.slkRoute_valid d) = true)) = true := by decide +kernel

theorem witness_Forwarding_23 :
    (let d : Nat := 0; let nsid : Nat := 2; let count : Nat := 0; let s : State := wMemb; decide (Powered s ∧ fromLeader s d = true ∧ spFind s.nss nsid = none ∧ count = 0 ∧ (peerOf s d).txCount < 2 ^ 48 - 2 ∧ (peerOf s d).rxCount < 2 ^ 48 - 1 ∧ flag s (F.slkRoute_valid d) = true)) = true := by decide +kernel

theorem witness_Forwarding_24 :
    (let d : Nat := 0; let base : Nat := exposedZones w0; let count : Nat := 1; let floor : Nat := 9; let i : Nat := 0; let s : State := wMemb; decide (Powered s ∧ fromLeader s d = true ∧ i < count ∧ zoneHome s (base + i) = (none, i) ∧ (zmapOf s i).retired = false ∧ zoneState s i = .empty ∧ (zmapOf s i).epoch < floor ∧ floor ≤ 0xFFFFFF ∧ count = 1)) = true := by decide +kernel

theorem witness_Forwarding_25 :
    (let d : Nat := 0; let s : State := { wMemb with tkr := { wMemb.tkr with slots := spPut wMemb.tkr.slots 1 5#256 } }; decide (Powered s ∧ fromLeader s d = true)) = true := by decide +kernel

theorem witness_Forwarding_26 :
    (let d : Nat := 0; let code : Nat := 0; let s : State := wMemb; decide (Powered s ∧ fromLeader s d = true ∧ reqOfCode code = none)) = true := by decide +kernel

theorem witness_Forwarding_27 :
    (let d : Nat := 0; let code : Nat := reqCode .standby; let q : PmuReq := .standby; let s : State := { wMemb with dbg := { wMemb.dbg with halted := [0x11] } }; decide (Powered s ∧ fromLeader s d = true ∧ reqOfCode code = some q ∧ s.lrs.perst = false ∧ s.lrs.shelfReset = false ∧ lrsActive s = false ∧ s.pmu.flight = .none ∧ q ≠ .wake ∧ reqState q ≠ pmuState s ∧ s.dbg.halted ≠ [])) = true := by decide +kernel

theorem witness_Forwarding_28 :
    (let d : Nat := 0; let q : Sqe := wSqe true 0x82 0 0x00000900#32 0 0 0; let s : State := wMemb; decide (Powered s ∧ fromLeader s d = true ∧ opc q = 0x82 ∧ spsp q = 9 ∧ (peerOf s d).txCount < 2 ^ 48 - 2 ∧ (peerOf s d).rxCount < 2 ^ 48 - 1 ∧ flag s (F.slkRoute_valid d) = true)) = true := by decide +kernel

theorem witness_Forwarding_29 :
    (let d : Nat := 1; let s : State := wLead; decide (Powered s ∧ fromLeader s d = false)) = true := by decide +kernel

theorem witness_Forwarding_30 :
    (let d : Nat := 0; let s : State := wMemb; decide (Powered s ∧ fromLeader s d = true ∧ flag s F.slkCtrl_succEn = true)) = true := by decide +kernel

theorem witness_Forwarding_31 :
    (let d : Nat := 0; let s : State := setF wMemb F.slkCtrl_succEn 0; decide (Powered s ∧ (fromLeader s d = false ∨ flag s F.slkCtrl_succEn = false))) = true := by decide +kernel

theorem witness_Forwarding_32 :
    (let d : Nat := 0; let s : State := wMemb; decide (Powered s ∧ fromLeader s d = true ∧ flag s F.slkCtrl_succEn = true)) = true := by decide +kernel

theorem witness_Forwarding_33 :
    (let d : Nat := 0; let s : State := { wMemb with slk := { wMemb.slk with mirrorNs := [(2, wNs)] } }; decide (Powered s ∧ fromLeader s d = true ∧ flag s F.slkCtrl_succEn = true)) = true := by decide +kernel

theorem witness_Forwarding_34 :
    (let d : Nat := 1; let off : Nat := (F.mbxWord_word 5 3).addr - 0x1000300000; let i : Nat := 83; let r : RegDef := wReg (F.mbxWord_word 5 3).addr; let s : State := wCasc (wChan 5 { noChan with st := .claimed, holder := idPeer 1 } (idPeer 1) 0x11) 0 1; decide (Powered s ∧ trusts s d = true ∧ domainOn s .data = true ∧ d < 16 ∧ off < 0x4000 ∧ (regAt (0x1000300000 + off)) = some (r, i) ∧ r.name = "MBX_WORD" ∧ isParty s (i / 16) (idPeer d) = true ∧ (chanOf s (i / 16)).st = .claimed ∧ (chanOf s (i / 16)).holder = idPeer d ∧ flag s (F.slkRoute_valid d) = true)) = true := by decide +kernel

theorem witness_Forwarding_35 :
    (let d : Nat := 1; let off : Nat := 0x5000; let s : State := wLead; decide (Powered s ∧ trusts s d = true ∧ d < 16 ∧ 0x4000 ≤ off ∧ (peerOf s d).txCount < 2 ^ 48 - 2 ∧ (peerOf s d).rxCount < 2 ^ 48 - 1 ∧ flag s (F.slkRoute_valid d) = true)) = true := by decide +kernel

theorem witness_Forwarding_36 :
    (let d : Nat := 1; let off : Nat := (F.mbxBind_valid 5).addr - 0x1000300000; let size : Nat := 4; let s : State := wCasc (wChan 5 { noChan with st := .claimed, holder := idPeer 1 } (idPeer 1) 0x11) 0 1; decide (Powered s ∧ trusts s d = true ∧ d < 16 ∧ off < 0x4000 ∧ domainOn s .data = true ∧ size = 4 ∧ off % 4 = 0 ∧ ((regAt (0x1000300000 + off)).map (fun r => r.1.name)) = some "MBX_BIND" ∧ (peerOf s d).txCount < 2 ^ 48 - 2 ∧ (peerOf s d).rxCount < 2 ^ 48 - 1 ∧ flag s (F.slkRoute_valid d) = true)) = true := by decide +kernel

theorem witness_Forwarding_37 :
    (let d : Nat := 5; let s : State := wLead; decide (Powered s ∧ trusts s d = false)) = true := by decide +kernel

theorem witness_Forwarding_38 :
    (let d : Nat := 1; let tag : Nat := 6; let m : Nat := 0x11; let s : State := { wLead with slk := { wLead.slk with csrTags := [(6, 0x11)] } }; decide (Powered s ∧ trusts s d = true ∧ spFind s.slk.csrTags tag = some m)) = true := by decide +kernel

theorem witness_Forwarding_39 :
    (let d : Nat := 1; let tag : Nat := 6; let m : Nat := 0x11; let s : State := { wLead with slk := { wLead.slk with csrTags := [(6, 0x11)] } }; decide (Powered s ∧ trusts s d = true ∧ spFind s.slk.csrTags tag = some m)) = true := by decide +kernel

theorem witness_Forwarding_40 :
    (let d : Nat := 1; let tag : Nat := 6; let m : Nat := 0x11; let s : State := { wLead with slk := { wLead.slk with csrTags := [(6, 0x11)] } }; decide (Powered s ∧ trusts s d = true ∧ spFind s.slk.csrTags tag = some m ∧ isMc m = true)) = true := by decide +kernel

theorem witness_Forwarding_41 :
    (let d : Nat := 1; let s : State := wLead; decide (Powered s ∧ trusts s d = true ∧ d < 16)) = true := by decide +kernel

theorem witness_ReservedMasters_1 :
    (let m : Nat := 0x18; let s : State := w0; decide (Powered s ∧ m ≠ 0x00 ∧ m ≠ 0x01 ∧ ¬(0x10 ≤ m ∧ m ≤ 0x17) ∧ m ≠ 0x20 ∧ ¬(0x30 ≤ m ∧ m ≤ 0x5D) ∧ m ≠ 0x70 ∧ m ≠ 0x7F)) = true := by decide +kernel

theorem witness_ReservedMasters_2 :
    (let m : Nat := 0x5E; let a : Nat := 0x1000000000; let s : State := w0; decide (Powered s ∧ m ≠ 0x00 ∧ m ≠ 0x01 ∧ ¬(0x10 ≤ m ∧ m ≤ 0x17) ∧ m ≠ 0x20 ∧ ¬(0x30 ≤ m ∧ m ≤ 0x5D) ∧ m ≠ 0x70 ∧ m ≠ 0x7F ∧ 0x1000000000 ≤ a)) = true := by decide +kernel

theorem witness_ReservedMasters_3 :
    (let m : Nat := 0x80; let a : Nat := 0x1000a00020; let s : State := { w0 with csh := { w0.csh with ports := [⟨0x0E, 0, 0x18, []⟩] } }; decide (Powered s ∧ m ≠ 0x00 ∧ m ≠ 0x01 ∧ ¬(0x10 ≤ m ∧ m ≤ 0x17) ∧ m ≠ 0x20 ∧ ¬(0x30 ≤ m ∧ m ≤ 0x5D) ∧ m ≠ 0x70 ∧ m ≠ 0x7F ∧ 0x1000000000 ≤ a)) = true := by decide +kernel

theorem witness_AlertPin :
    Powered w0 ∧ ∃ t, exec .walkStart w0 = .next t :=
  ⟨by decide +kernel, _, rfl⟩

theorem witness_AlertPin_2 :
    (let s : State := { w0 with lrs := { w0.lrs with bootStopped := true } }; decide (Powered s)) = true := by decide +kernel

theorem witness_ResetValues_1 :
    (let a : Nat := 0x1000500008; decide (a ∉ [0x1000000000, 0x1000200010, 0x1000700000, 0x1001700010])) = true := by decide +kernel

end Sys2Proof.Tests
end

section
/-!
SUPPORT. What every access of the scope family shares: the outcome of a command that runs by `effect`, a register through `settle`, and the frames of the
shared updates.
-/

namespace Sys2Proof.Machine

open Sys2Proof

/-- A powered command that runs by `effect` completes, with what holds of its settled effect. -/
theorem completes_effect {c : Instr} {f : State → State} {s : State} {P : State → Prop} (hc : exec c s = effect f s) (hp : Powered s)
    (h : P (settle (f { s with out := [] }))) : Completes c s P :=
  ⟨_, hc.trans (effect_on f hp), h⟩

/-- The state after a powered command that runs by `effect`, whatever it is asked for. -/
theorem eq_settle_of_exec {c : Instr} {f : State → State} {s t : State} (hc : exec c s = effect f s) (hp : Powered s)
    (ht : exec c s = .next t) : t = settle (f { s with out := [] }) :=
  Host.Outcome.next.inj (ht.symm.trans (hc.trans (effect_on f hp)))

theorem getF_wholeWord (s : State) (a : Nat) : getF s ⟨a, 63, 0⟩ = (regVal s a).toNat := by
  simpa [getF, field] using Nat.mod_eq_of_lt (regVal s a).isLt

/-- A register outside the settled ones is as `settle` found it. -/
theorem regVal_settle (s : State) {a : Nat} (h : a ∉ settledAddrs) : regVal (settle s) a = regVal s a := by
  have := getF_settle s ⟨a, 63, 0⟩ h
  rw [getF_wholeWord, getF_wholeWord] at this
  exact BitVec.eq_of_toNat_eq this

theorem flag_settle (s : State) {f : Fld} (h : f.addr ∉ settledAddrs) : flag (settle s) f = flag s f := by
  simp only [flag, getF_settle s f h]

/-- The frame of an effect on the state whose last outputs are gone is its frame on the state itself. -/
theorem only_of_cleared {s x : State} {ps : List Part} {as : List Nat} (h : Only { s with out := [] } x ps as) : Only s x ps as :=
  only_mono (only_trans (only_out s []) h) (by simp) (by simp)

theorem only_setReg (s : State) (a : Nat) (v : Word) : Only s (setReg s a v) [] [a] :=
  ⟨fun p _ => by cases p <;> first | rfl | exact ⟨rfl, rfl, fun _ => rfl⟩,
   fun f ha _ => by simp only [getF, regVal_setReg_ne s v (by simpa using ha : f.addr ≠ a)]⟩

theorem only_shadow (s : State) (x : Sparse Word) : Only s { s with shadow := x } [.shadow] [] :=
  ⟨fun p hp => by cases p <;> first | rfl | exact ⟨rfl, rfl, fun _ => rfl⟩ | simp at hp, fun _ _ _ => rfl⟩

theorem only_csh (s : State) (x : CshState) : Only s { s with csh := x } [.csh] [] :=
  ⟨fun p hp => by cases p <;> first | rfl | exact ⟨rfl, rfl, fun _ => rfl⟩ | simp at hp, fun _ _ _ => rfl⟩

theorem only_emitIf (c : Bool) (s : State) (x : Output) : Only s (emitIf c s x) [] [] := by
  cases c
  · exact only_refl s [] []
  · exact only_emit s x

theorem mem_emitIf_out {c : Bool} {s : State} {x y : Output} (h : y ∈ s.out) : y ∈ (emitIf c s x).out := by
  cases c
  · exact h
  · exact List.mem_append_left _ h

/-- Counting a missed event changes the trigger's CSH_MISSED register alone. -/
theorem only_missEvent (s : State) (trig : Nat) : Only s (missEvent s trig) [] [(F.cshMissed_total (trig - 1)).addr] :=
  only_mono (only_trans (only_setF s _ _) (only_setF _ _ _)) (by simp) (by simp [F.cshMissed_total, F.cshMissed_pending])

/-- An event changes the ports, or the CSH_MISSED register of its trigger. -/
theorem only_raise (s : State) (trig inst m : Nat) (ws : List Nat) :
    Only s (raise s trig inst m ws) [.csh] [(F.cshMissed_total (trig - 1)).addr] := by
  unfold raise
  split
  · exact only_mono (only_missEvent s trig) (by simp) (by simp)
  · exact only_mono (only_csh s _) (by simp) (by simp)

theorem getF_raise (s : State) (trig inst m : Nat) (ws : List Nat) {f : Fld} (h : f.addr ≠ (F.cshMissed_total (trig - 1)).addr) :
    getF (raise s trig inst m ws) f = getF s f := by
  have hpend : f.addr ≠ (F.cshMissed_pending (trig - 1)).addr := h
  unfold raise
  split
  · rw [missEvent, incSat_eq, incSat_eq, getF_setF_addr _ _ hpend, getF_setF_addr _ _ h]
  · rfl

/-- An event whose port is free stands in the port. -/
theorem mem_raise_ports {s : State} {trig inst : Nat} (h : portHeld s trig inst = false) (m : Nat) (ws : List Nat) :
    (⟨trig, inst, m, ws.map (BitVec.ofNat 32)⟩ : Event) ∈ (raise s trig inst m ws).csh.ports := by
  simp [raise, h]

/-- An event whose port is held is counted in TOTAL, which saturates. -/
theorem getF_raise_total {s : State} {trig inst : Nat} (h : portHeld s trig inst = true) (m : Nat) (ws : List Nat) :
    getF (raise s trig inst m ws) (F.cshMissed_total (trig - 1)) = min (getF s (F.cshMissed_total (trig - 1)) + 1) 65535 := by
  have hpend : ∀ (u : State) (n : Nat),
      getF (setF u (F.cshMissed_pending (trig - 1)) n) (F.cshMissed_total (trig - 1)) = getF u (F.cshMissed_total (trig - 1)) :=
    fun u n => getF_setF_bits u n rfl (by simp [F.cshMissed_total]) (Or.inr (by simp [F.cshMissed_total, F.cshMissed_pending]))
  simp only [raise, h, if_true, missEvent, incSat_eq, hpend]
  rw [getF_setF_same _ _ _ (by simp [F.cshMissed_total]) (by simp [F.cshMissed_total])]
  simp only [F.cshMissed_total]
  omega

end Sys2Proof.Machine
end

section
/-!
PROOFS. An access with a reserved master ID (R15): what `badMaster` does, and that every way into the CSR space comes to it.
-/

namespace Sys2Proof.Machine

open Sys2Proof

/-- The event of a refused access with a reserved master ID. -/
def reservedEvent (m a : Nat) : Event := ⟨0x0E, 0, m, [m, a % 2 ^ 32, a / 2 ^ 32 % 256].map (BitVec.ofNat 32)⟩

/-- An access is answered with an error response, stands in its port or is counted as missed, and nothing else changes. -/
def RefusedAndRecorded (s t : State) (m a : Nat) : Prop :=
  Output.errorResponse m a ∈ t.out ∧ (portHeld s 0x0E 0 = false → reservedEvent m a ∈ t.csh.ports) ∧
    (portHeld s 0x0E 0 = true → getF t (F.cshMissed_total 13) = min (getF s (F.cshMissed_total 13) + 1) 65535) ∧
    Only s t [.csh] [(F.cshMissed_total 13).addr]

/-- The master IDs R14 does not list are the reserved ones. -/
theorem reservedMaster_of_unlisted {m : Nat}
    (h : m ≠ 0x00 ∧ m ≠ 0x01 ∧ ¬(0x10 ≤ m ∧ m ≤ 0x17) ∧ m ≠ 0x20 ∧ ¬(0x30 ≤ m ∧ m ≤ 0x5D) ∧ m ≠ 0x70 ∧ m ≠ 0x7F) :
    reservedMaster m = true := by
  obtain ⟨hpf, hvf, hmc, hsec, hin, hlrs, hdbg⟩ := h
  have hlow : ¬ m ≤ 0x01 := by omega
  simp [reservedMaster, isMc, hlow, hmc, hsec, hin, hlrs, hdbg]

theorem refusedAndRecorded_badMaster (s : State) (m a : Nat) : RefusedAndRecorded s (badMaster s m a) m a :=
  ⟨List.mem_append_right _ (List.mem_singleton.2 rfl), fun h => mem_raise_ports h m _, fun h => getF_raise_total h m _,
   only_mono (only_trans (only_raise s _ _ _ _) (only_emit _ _)) (by simp) (by simp)⟩

theorem refusedAndRecorded_settle {s t : State} {m a : Nat} (h : RefusedAndRecorded s t m a) : RefusedAndRecorded s (settle t) m a := by
  obtain ⟨hout, hport, hmiss, honly⟩ := h
  refine ⟨mem_settle_out hout, fun hp => ?_, fun hp => ?_, only_settle honly⟩
  · simpa using hport hp
  · rw [getF_settle _ _ (by decide)]; exact hmiss hp

/-- A command that comes to `badMaster` refuses and records its access. -/
theorem completes_badMaster {c : Instr} {f : State → State} {s : State} {m a : Nat} (hc : exec c s = effect f s) (hp : Powered s)
    (hf : ∀ u, f u = badMaster u m a) : Completes c s fun t => RefusedAndRecorded s t m a := by
  refine completes_effect hc hp (refusedAndRecorded_settle ?_)
  rw [hf]
  obtain ⟨hout, hport, hmiss, honly⟩ := refusedAndRecorded_badMaster { s with out := [] } m a
  exact ⟨hout, hport, hmiss, only_of_cleared honly⟩

/-- A reserved master ID is refused before everything else a CSR access meets. -/
theorem csrGate_reserved (s : State) {m a : Nat} (size : Nat) (w : Bool) (f : State → State) (hm : reservedMaster m = true)
    (ha : 0x1000000000 ≤ a) : csrGate s m a size w f = badMaster s m a := by
  simp [csrGate, Nat.not_lt.2 ha, hm]

/-- Settles O58: the three ways an access comes in, a bus access, a register write and a register read, all come to `badMaster`. -/
theorem reservedMasters : Obligations.ReservedMasters := by
  unfold Obligations.ReservedMasters
  refine ⟨fun m a w s hp hm => ?_, fun m a size v s hp hm ha => ?_, fun m a size s hp hm ha => ?_⟩
  · refine completes_badMaster (f := onReservedMasterAccess m a w) rfl hp fun u => ?_
    rw [onReservedMasterAccess, if_pos (reservedMaster_of_unlisted hm)]
  · refine completes_badMaster (f := onCsrWrite m a size v) rfl hp fun u => ?_
    unfold onCsrWrite csrWrite
    exact csrGate_reserved u size _ _ (reservedMaster_of_unlisted hm) ha
  · refine completes_badMaster (f := onRcFieldRead m a size) rfl hp fun u => ?_
    unfold onRcFieldRead csrRead
    exact csrGate_reserved u size _ _ (reservedMaster_of_unlisted hm) ha

end Sys2Proof.Machine
end

section
/-!
SUPPORT. The access to an off domain (R497): the latch, the count and the responses of `pwrOffResponse`.
-/

namespace Sys2Proof.Machine

open Sys2Proof

/-- PMU_PWROFF latches the first access to an off domain. -/
def pwrOffLatch (s : State) (m a : Nat) (w : Bool) : State :=
  if flag s F.pmuPwroff_valid then s else
    setBit (setF (setF (setF s F.pmuPwroff_addr a) F.pmuPwroff_master m) F.pmuPwroff_write (b2n w)) F.pmuPwroff_valid

/-- PMU_PWROFF after an access to an off domain: latched and counted. -/
def pwrOffCount (s : State) (m a : Nat) (w : Bool) : State := incSat (pwrOffLatch s m a w) F.pmuPwroff_count 1

theorem flag_pwrOffLatch_valid (s : State) (m a : Nat) (w : Bool) : flag (pwrOffLatch s m a w) F.pmuPwroff_valid = true := by
  unfold pwrOffLatch
  split
  · assumption
  · rw [setBit_eq, flag, getF_setF_same _ _ _ (by decide) (by decide)]
    decide

theorem getF_pwrOffLatch_count (s : State) (m a : Nat) (w : Bool) :
    getF (pwrOffLatch s m a w) F.pmuPwroff_count = getF s F.pmuPwroff_count := by
  have hother : ∀ (u : State) (n : Nat) (f : Fld), f.addr = F.pmuPwroff_count.addr → f.hi < F.pmuPwroff_count.lo →
      getF (setF u f n) F.pmuPwroff_count = getF u F.pmuPwroff_count :=
    fun u n f ha hb => getF_setF_bits u n ha.symm (by decide) (Or.inr hb)
  unfold pwrOffLatch
  split
  · rfl
  · rw [setBit_eq, hother _ _ F.pmuPwroff_valid rfl (by decide), hother _ _ F.pmuPwroff_write rfl (by decide),
      hother _ _ F.pmuPwroff_master rfl (by decide), hother _ _ F.pmuPwroff_addr rfl (by decide)]

theorem only_pwrOffLatch (s : State) (m a : Nat) (w : Bool) : Only s (pwrOffLatch s m a w) [] [F.pmuPwroff_count.addr] := by
  unfold pwrOffLatch
  split
  · exact only_refl s _ _
  · refine only_mono (only_trans (only_trans (only_trans (only_setF s _ _) (only_setF _ _ _)) (only_setF _ _ _)) (only_setF _ _ _)) (by simp) ?_
    decide

theorem flag_pwrOffCount_valid (s : State) (m a : Nat) (w : Bool) : flag (pwrOffCount s m a w) F.pmuPwroff_valid = true := by
  rw [pwrOffCount, incSat_eq, flag,
    getF_setF_bits (f := F.pmuPwroff_count) (g := F.pmuPwroff_valid) _ _ rfl (by decide) (Or.inl (by decide))]
  exact flag_pwrOffLatch_valid s m a w

theorem getF_pwrOffCount (s : State) (m a : Nat) (w : Bool) :
    getF (pwrOffCount s m a w) F.pmuPwroff_count = min (getF s F.pmuPwroff_count + 1) 4095 := by
  rw [pwrOffCount, incSat_eq, getF_setF_same _ _ _ (by decide) (by decide), getF_pwrOffLatch_count]
  simp only [F.pmuPwroff_count]
  omega

theorem only_pwrOffCount (s : State) (m a : Nat) (w : Bool) : Only s (pwrOffCount s m a w) [] [F.pmuPwroff_count.addr] :=
  only_mono (only_trans (only_pwrOffLatch s m a w) (only_setF _ _ _)) (by simp) (by simp)

/-- After the count come the record of the access and the responses. -/
theorem pwrOffResponse_eq (s : State) (m a : Nat) (w : Bool) :
    pwrOffResponse s m a w =
      emitIf (!w) (emitIf (isMc m || m == idSec)
        (raise (pwrOffCount s m a w) 0x0D 0 m [a % 2 ^ 32, a / 2 ^ 32 % 256, m, b2n w, regNat (pwrOffCount s m a w) F.pmuState_state.addr])
        (.note "access fault" m)) (.readResponse m 0x0BAD0FF00BAD0FF0#64) := rfl

/-- Of the registers the responses change none that the count has left. -/
theorem getF_pwrOffResponse (s : State) (m a : Nat) (w : Bool) {f : Fld} (h : f.addr ≠ (F.cshMissed_total 12).addr) :
    getF (pwrOffResponse s m a w) f = getF (pwrOffCount s m a w) f := by
  have hemit : ∀ (c : Bool) (u : State) (x : Output), getF (emitIf c u x) f = getF u f := fun c u x => by cases c <;> rfl
  rw [pwrOffResponse_eq, hemit, hemit, getF_raise _ _ _ _ _ h]

theorem only_pwrOffResponse (s : State) (m a : Nat) (w : Bool) :
    Only s (pwrOffResponse s m a w) [.csh] [F.pmuPwroff_count.addr, (F.cshMissed_total 12).addr] := by
  rw [pwrOffResponse_eq]
  exact only_mono (only_trans (only_trans (only_trans (only_pwrOffCount s m a w) (only_raise _ _ _ _ _)) (only_emitIf _ _ _)) (only_emitIf _ _ _))
    (by simp) (by simp)

/-- A management core takes an access fault. -/
theorem mem_pwrOffResponse_fault (s : State) {m : Nat} (hm : isMc m = true) (a : Nat) (w : Bool) :
    Output.note "access fault" m ∈ (pwrOffResponse s m a w).out := by
  rw [pwrOffResponse_eq]
  refine mem_emitIf_out ?_
  rw [hm, Bool.true_or]
  exact List.mem_append_right _ (List.mem_singleton.2 rfl)

end Sys2Proof.Machine
end

section
/-!
SUPPORT. The accesses of a management core to the CSR space: what turns them away (R18, R497, R620), and how a register with no command of its own takes a write
and answers a read (R8, R28).
-/

namespace Sys2Proof.Machine

open Sys2Proof

/-- A management core is none of the masters that are treated apart. -/
theorem isMc_ordinary {m : Nat} (h : isMc m = true) :
    reservedMaster m = false ∧ m ≠ idHostPf ∧ m ≠ idHostVf ∧ m ≠ idDebug := by
  have hb : 0x10 ≤ m ∧ m ≤ 0x17 := by simpa [isMc] using h
  refine ⟨by simp [reservedMaster, h], ?_, ?_, ?_⟩ <;> simp only [idHostPf, idHostVf, idDebug] <;> omega

/-- An access of 4 or 8 bytes at a multiple of its size. -/
def sizeOk (a size : Nat) : Bool := (size == 4 || size == 8) && a % size == 0

/-- What a management core's access to the CSR space meets first. -/
theorem csrGate_mc (s : State) {m a : Nat} (size : Nat) (w : Bool) (f : State → State) (hm : isMc m = true) (ha : 0x1000000000 ≤ a) :
    csrGate s m a size w f =
      if sizeOk a size = false then errorResponse s m a
      else if 0x1001800000 ≤ a then errorResponse s m a
      else if routed s m a = false ∨ windowOn s a = false then pwrOffResponse s m a w
      else f s := by
  obtain ⟨hres, hpf, hvf, -⟩ := isMc_ordinary hm
  have hsize : (!(size == 4 || size == 8) || a % size != 0) = !sizeOk a size := by simp [sizeOk, bne]
  simp only [csrGate, if_neg (Nat.not_lt.2 ha), hres, Bool.false_eq_true, if_false, hvf, hpf, false_and, hsize]
  cases sizeOk a size <;> simp

/-- A management core's access of 4 or 8 aligned bytes has a way to its target, and the target's domain is on. -/
structure McReaches (s : State) (m a size : Nat) : Prop where
  core : isMc m = true
  low : 0x1000000000 ≤ a
  high : a < 0x1001800000
  sized : sizeOk a size = true
  way : routed s m a = true
  on : windowOn s a = true
  notPeers : windowOf a ≠ 22

theorem csrGate_reached {s : State} {m a size : Nat} (h : McReaches s m a size) (w : Bool) (f : State → State) :
    csrGate s m a size w f = f s := by
  simp [csrGate_mc s size w f h.core h.low, h.sized, Nat.not_le.2 h.high, h.way, h.on]

/-- The registers whose write does more than give each field what its access code says. -/
def specialWrites : List String :=
  ["PMU_CLK", "FCH_DIE_CFG", "FCH_DESC", "MBX_MASK", "MBX_DONE", "MBX_STAT", "DBG_RESP", "CPH_MREQ", "TKR_CMD", "VFM_MIG_CTRL", "FCH_CTRL", "DMC_REFRESH",
    "SLK_CTRL"]

/-- A management core's write reaches a register that takes it as it stands: its writer rule permits it, and no row of its own writes the register. -/
structure McWrites (s : State) (m a size : Nat) (d : RegDef) (i : Nat) : Prop extends McReaches s m a size where
  reg : regAt a = some (d, i)
  mailbox : windowOf a ≠ 3 ∨ mbxReached s m = true
  allowed : writeRefused s m a d.name = false
  plain : d.name ∉ specialWrites
  noRow : rowBits d.name = 0

/-- A write that reaches its window comes to the register there. -/
theorem csrWrite_four {s : State} {m a : Nat} (h : McReaches s m a 4) (hbox : windowOf a ≠ 3 ∨ mbxReached s m = true) (data : Word) :
    csrWrite s m a 4 data = writePart s m a false (data &&& 0xFFFFFFFF#64) := by
  have hmbx : ¬(windowOf a = 3 ∧ mbxReached s m = false ∧ m ≠ idDebug) := fun hc => by simp [hc.1, hc.2.1] at hbox
  rw [csrWrite, csrGate_reached h]
  simp only [h.notPeers, false_and, if_false, hmbx, if_true]

theorem csrWrite_eight {s : State} {m a : Nat} {d : RegDef} {i : Nat} (h : McReaches s m a 8) (hbox : windowOf a ≠ 3 ∨ mbxReached s m = true)
    (hreg : regAt a = some (d, i)) (hwide : d.wide = true) (data : Word) : csrWrite s m a 8 data = writePart s m a true data := by
  have hmbx : ¬(windowOf a = 3 ∧ mbxReached s m = false ∧ m ≠ idDebug) := fun hc => by simp [hc.1, hc.2.1] at hbox
  rw [csrWrite, csrGate_reached h]
  simp [h.notPeers, hmbx, hreg, hwide]

/-- A register with no command of its own, none of whose bits is dead, takes the word written. -/
theorem writeReg_plain (s : State) (m : Nat) {d : RegDef} (a i : Nat) (mask : Word) {data : Word} (hplain : d.name ∉ specialWrites)
    (hrow : rowBits d.name = 0) (hdead : deadBits s d.name data = 0) : writeReg s m d a i mask data = takeWrite s d a mask data := by
  have hlive : mask &&& ~~~(rowBits d.name ||| deadBits s d.name data) = mask := by
    rw [hrow, hdead, show ~~~((0 : Word) ||| 0) = BitVec.allOnes 64 by decide, BitVec.and_allOnes]
  have hflip : d.name ≠ "MEP_FLIP" := fun e => absurd (e ▸ hrow) (by decide)
  simp only [specialWrites, List.mem_cons, List.not_mem_nil, or_false, not_or] at hplain
  obtain ⟨h1, h2, h3, h4, h5, h6, h7, h8, h9, h10, h11, h12, -⟩ := hplain
  simp [writeReg, hlive, hflip, h1, h2, h3, h4, h5, h6, h7, h8, h9, h10, h11, h12]

/-- A register that is not shadowed has the written word at once. -/
theorem takeWrite_now (s : State) {d : RegDef} (a : Nat) (mask data : Word) (hplain : d.name ∉ specialWrites) (hsh : d.shadowed = false) :
    takeWrite s d a mask data = setReg s a (writeWord d (locked s d.name) mask data (regVal s a)) := by
  have hdmc : d.name ≠ "DMC_REFRESH" := fun e => hplain (by simp [specialWrites, e])
  have hslk : d.name ≠ "SLK_CTRL" := fun e => hplain (by simp [specialWrites, e])
  simp [takeWrite, hsh, regHook, hdmc, hslk]

/-- A shadowed register has it in its pending copy. -/
theorem takeWrite_pending (s : State) {d : RegDef} (a : Nat) (mask data : Word) (hsh : d.shadowed = true) :
    takeWrite s d a mask data =
      { s with shadow := spPut s.shadow a (writeWord d (locked s d.name) mask data ((spFind s.shadow a).getD (regVal s a))) } := by
  simp only [takeWrite, hsh, if_true]
  cases spFind s.shadow a <;> rfl

theorem McWrites.csrWrite_four {s : State} {m a : Nat} {d : RegDef} {i : Nat} (h : McWrites s m a 4 d i) {data : Word}
    (hdead : deadBits s d.name (data &&& 0xFFFFFFFF#64) = 0) :
    csrWrite s m a 4 data = takeWrite s d a 0xFFFFFFFF#64 (data &&& 0xFFFFFFFF#64) := by
  rw [Machine.csrWrite_four h.toMcReaches h.mailbox, writePart, h.reg]
  simp [h.allowed, writeReg_plain s m a i _ h.plain h.noRow hdead]

theorem McWrites.csrWrite_eight {s : State} {m a : Nat} {d : RegDef} {i : Nat} (h : McWrites s m a 8 d i) (hwide : d.wide = true) {data : Word}
    (hdead : deadBits s d.name data = 0) : csrWrite s m a 8 data = takeWrite s d a (BitVec.allOnes 64) data := by
  rw [Machine.csrWrite_eight h.toMcReaches h.mailbox h.reg hwide, writePart, h.reg]
  simp [h.allowed, hwide, writeReg_plain s m a i _ h.plain h.noRow hdead]

/-- A refused write outside TKR's window gets an error response. -/
theorem csrWrite_refused {s : State} {m a : Nat} {d : RegDef} {i : Nat} (h : McReaches s m a 4) (hbox : windowOf a ≠ 3 ∨ mbxReached s m = true)
    (hreg : regAt a = some (d, i)) (htkr : windowOf a ≠ 5) (hno : writeRefused s m a d.name = true) (data : Word) :
    csrWrite s m a 4 data = errorResponse s m a := by
  obtain ⟨-, hpf, -, -⟩ := isMc_ordinary h.core
  rw [csrWrite_four h hbox, writePart, hreg]
  simp [hno, refuseWrite, htkr, refuse, hpf]

/-- A register found in a list is one of it. -/
theorem mem_of_findReg {ds : List RegDef} {a : Nat} {d : RegDef} {i : Nat} (h : findReg ds a = some (d, i)) : d ∈ ds := by
  induction ds with
  | nil => simp [findReg] at h
  | cons e ds ih =>
    simp only [findReg] at h
    split at h
    · split at h
      · obtain ⟨rfl, -⟩ := Prod.mk.inj (Option.some.inj h)
        exact List.mem_cons_self
      · exact List.mem_cons_of_mem _ (ih h)
    · exact List.mem_cons_of_mem _ (ih h)

theorem mem_regsOfWindow {a : Nat} {d : RegDef} {i : Nat} (h : regAt a = some (d, i)) : d ∈ regsOfWindow (windowOf a) := by
  unfold regAt at h
  split at h
  · cases h
  · exact mem_of_findReg h

/-- MBX_CTRL lies in MBX's window. -/
theorem name_ne_mbxCtrl {a : Nat} {d : RegDef} {i : Nat} (h : regAt a = some (d, i)) (hhi : a < 0x1001800000) (hw : windowOf a ≠ 3) :
    d.name ≠ "MBX_CTRL" := by
  have hwin : windowOf a < 24 := by simp only [windowOf]; omega
  have hall : ∀ w < 24, w ≠ 3 → ∀ e ∈ regsOfWindow w, e.name ≠ "MBX_CTRL" := by decide +kernel
  exact hall _ hwin hw d (mem_regsOfWindow h)

/-- The registers whose read is computed, banked, or a command of its own. -/
def specialReads : List String :=
  ["MBX_PEND", "MBX_DONE", "MBX_MASK", "MBX_STAT", "CSH_CURSOR", "CSH_WIN", "RCH_TRIM_DATA", "RCH_FRAME_CNT", "RCH_TRACK_CNT", "RCH_DEC_CNT0", "RCH_DEC_CNT1",
    "RCH_DEC_CNT2", "MEP_FLIP", "MHM_WALK_OUT", "SBG_ALLOC_RESULT", "MBX_CLAIM", "MBX_WORD", "VFM_RECONF"]

/-- A management core's read reaches a register that answers with its stored fields. -/
structure McReads (s : State) (m a size : Nat) (d : RegDef) (i : Nat) : Prop extends McReaches s m a size where
  reg : regAt a = some (d, i)
  window : windowOf a ∉ [3, 5, 8]
  plain : d.name ∉ specialReads

/-- What a read of a register with stored fields answers, and the RC fields it clears, through a mask. -/
def readOut (s : State) (m a : Nat) (d : RegDef) (i : Nat) (mask : Word) : State :=
  emit (setReg s a (clearRc d i mask (regVal s a))) (.readResponse m (readWord d (regVal s a) &&& mask))

theorem McReads.notRefused {s : State} {m a size : Nat} {d : RegDef} {i : Nat} (h : McReads s m a size d i) : readRefused s m a d.name = false := by
  obtain ⟨-, -, -, hdbg⟩ := isMc_ordinary h.core
  have hw := h.window
  simp only [List.mem_cons, List.not_mem_nil, or_false, not_or] at hw
  simp [readRefused, hdbg, hw.2.1, hw.2.2]

theorem McReads.readReg_eq {s : State} {m a size : Nat} {d : RegDef} {i : Nat} (h : McReads s m a size d i) :
    readReg s m d a i = readWord d (regVal s a) := by
  have hn := h.plain
  simp only [specialReads, List.mem_cons, List.not_mem_nil, or_false, not_or] at hn
  simp [readReg, hn]

theorem McReads.readPart_eq {s : State} {m a size : Nat} {d : RegDef} {i : Nat} (h : McReads s m a size d i) (wide : Bool) :
    answerRead s m a (readPart s m a wide) = readOut s m a d i (if d.wide && wide then BitVec.allOnes 64 else 0xFFFFFFFF#64) := by
  obtain ⟨-, -, -, hdbg⟩ := isMc_ordinary h.core
  simp [readPart, h.reg, h.notRefused, h.readReg_eq, hdbg, answerRead, readOut]

theorem McReads.csrRead_eq {s : State} {m a size : Nat} {d : RegDef} {i : Nat} (h : McReads s m a size d i) :
    csrRead s m a size = answerRead s m a (if size = 8 then (if d.wide then readPart s m a true else readPair s m a) else readPart s m a false) := by
  have hw := h.window
  have hn := h.plain
  have hctrl : d.name ≠ "MBX_CTRL" := name_ne_mbxCtrl h.reg h.high fun e => hw (by simp [e])
  simp only [List.mem_cons, List.not_mem_nil, or_false, not_or] at hw
  simp only [specialReads, List.mem_cons, List.not_mem_nil, or_false, not_or] at hn
  rw [csrRead, csrGate_reached h.toMcReaches]
  simp [h.notPeers, h.reg, h.notRefused, hn, hw.1, hctrl]

theorem McReads.csrRead_four {s : State} {m a : Nat} {d : RegDef} {i : Nat} (h : McReads s m a 4 d i) :
    csrRead s m a 4 = readOut s m a d i 0xFFFFFFFF#64 := by
  rw [h.csrRead_eq]
  simpa using h.readPart_eq false

theorem McReads.csrRead_eight {s : State} {m a : Nat} {d : RegDef} {i : Nat} (h : McReads s m a 8 d i) (hwide : d.wide = true) :
    csrRead s m a 8 = readOut s m a d i (BitVec.allOnes 64) := by
  rw [h.csrRead_eq]
  simpa [hwide] using h.readPart_eq true

end Sys2Proof.Machine
end

section
/-!
PROOFS. The accesses of a management core to the CSR space as commands (R8, R9, R28, R497, R620, R624).
-/

namespace Sys2Proof.Machine

open Sys2Proof

/-- A write that a register takes at once sets that register alone. -/
theorem completes_write_now {s : State} {m a size : Nat} {data mask w : Word} {d : RegDef} (hp : Powered s) (hs : a ∉ settledAddrs)
    (hplain : d.name ∉ specialWrites) (hsh : d.shadowed = false)
    (hw : csrWrite { s with out := [] } m a size data = takeWrite { s with out := [] } d a mask w) :
    Completes (.csrWrite m a size data) s fun t =>
      regVal t a = writeWord d (locked s d.name) mask w (regVal s a) ∧ Only s t [] [a] := by
  refine completes_effect (f := onCsrWrite m a size data) rfl hp ?_
  rw [onCsrWrite, hw, takeWrite_now _ _ _ _ hplain hsh]
  refine ⟨?_, only_settle (only_of_cleared (only_setReg _ _ _))⟩
  rw [regVal_settle _ hs, regVal_setReg_same]
  rfl

/-- A write that a register takes with the epoch sets its pending copy alone. -/
theorem completes_write_pending {s : State} {m a size : Nat} {data mask w : Word} {d : RegDef} (hp : Powered s) (hsh : d.shadowed = true)
    (hw : csrWrite { s with out := [] } m a size data = takeWrite { s with out := [] } d a mask w) :
    Completes (.csrWrite m a size data) s fun t =>
      spFind t.shadow a = some (writeWord d (locked s d.name) mask w ((spFind s.shadow a).getD (regVal s a))) ∧ Only s t [.shadow] [] := by
  refine completes_effect (f := onCsrWrite m a size data) rfl hp ?_
  rw [onCsrWrite, hw, takeWrite_pending _ _ _ _ hsh]
  refine ⟨?_, only_settle (only_of_cleared (only_shadow _ _))⟩
  rw [settle_shadow, spFind_put_same]
  rfl

/-- A write that is answered with an error response changes nothing. -/
theorem completes_write_refused {s : State} {m a size : Nat} {data : Word} (hp : Powered s)
    (hw : csrWrite { s with out := [] } m a size data = errorResponse { s with out := [] } m a) :
    Completes (.csrWrite m a size data) s fun t => Output.errorResponse m a ∈ t.out ∧ Only s t [] [] := by
  refine completes_effect (f := onCsrWrite m a size data) rfl hp ?_
  rw [onCsrWrite, hw]
  exact ⟨mem_settle_out (by simp [errorResponse]), only_settle (only_of_cleared (only_emit _ _))⟩

/-- A management core's write that comes to no target that is on is counted, and the core takes an access fault. -/
theorem completes_write_off {s : State} {m a size : Nat} {data : Word} (hp : Powered s) (hm : isMc m = true)
    (hw : csrWrite { s with out := [] } m a size data = pwrOffResponse { s with out := [] } m a true) :
    Completes (.csrWrite m a size data) s fun t =>
      flag t F.pmuPwroff_valid = true ∧ getF t F.pmuPwroff_count = min (getF s F.pmuPwroff_count + 1) 4095 ∧
        Output.note "access fault" m ∈ t.out ∧ Only s t [.csh] [F.pmuPwroff_count.addr, (F.cshMissed_total 12).addr] := by
  refine completes_effect (f := onCsrWrite m a size data) rfl hp ?_
  rw [onCsrWrite, hw]
  refine ⟨?_, ?_, mem_settle_out (mem_pwrOffResponse_fault _ hm a true), only_settle (only_of_cleared (only_pwrOffResponse _ m a true))⟩
  · rw [flag_settle _ (by decide), flag, getF_pwrOffResponse _ _ _ _ (by decide)]
    exact flag_pwrOffCount_valid _ m a true
  · rw [getF_settle _ _ (by decide), getF_pwrOffResponse _ _ _ _ (by decide), getF_pwrOffCount]
    rfl

/-- A read that a register answers with its stored fields puts its RC fields back, and changes nothing else. -/
theorem completes_read {s : State} {m a size i : Nat} {mask : Word} {d : RegDef} (hp : Powered s) (hs : a ∉ settledAddrs)
    (hr : csrRead { s with out := [] } m a size = readOut { s with out := [] } m a d i mask) :
    Completes (.rcFieldRead m a size) s fun t =>
      Output.readResponse m (readWord d (regVal s a) &&& mask) ∈ t.out ∧ regVal t a = clearRc d i mask (regVal s a) ∧ Only s t [] [a] := by
  refine completes_effect (f := onRcFieldRead m a size) rfl hp ?_
  rw [onRcFieldRead, hr, readOut]
  refine ⟨mem_settle_out (List.mem_append_right _ (List.mem_singleton.2 rfl)), ?_, only_settle (only_of_cleared ?_)⟩
  · rw [regVal_settle _ hs]
    exact regVal_setReg_same _ _ _
  · exact only_mono (only_trans (only_setReg _ _ _) (only_emit _ _)) (by simp) (by simp)

/-- A size or an alignment that is none of the CSR space's is refused before the target is looked at. -/
theorem csrWrite_badSize (s : State) {m a size : Nat} (hm : isMc m = true) (ha : 0x1000000000 ≤ a) (hbad : (size ≠ 4 ∧ size ≠ 8) ∨ a % size ≠ 0)
    (data : Word) : csrWrite s m a size data = errorResponse s m a := by
  have hsize : sizeOk a size = false := by
    simp only [sizeOk, Bool.and_eq_false_iff, Bool.or_eq_false_iff, beq_eq_false_iff_ne]
    exact hbad
  rw [csrWrite, csrGate_mc s size true _ hm ha, if_pos hsize]

/-- An aligned write with no way to its target, or to a target that is off, gets the PWR_OFF response. -/
theorem csrWrite_noTarget (s : State) {m a : Nat} (hm : isMc m = true) (ha : 0x1000000000 ≤ a) (hhi : a < 0x1001800000) (hal : a % 4 = 0)
    (hno : routed s m a = false ∨ windowOn s a = false) (data : Word) : csrWrite s m a 4 data = pwrOffResponse s m a true := by
  have hsize : ¬ sizeOk a 4 = false := by simp [sizeOk, hal]
  rw [csrWrite, csrGate_mc s 4 true _ hm ha, if_neg hsize, if_neg (Nat.not_le.2 hhi), if_pos hno]

/-- Settles O7: each kind of access comes to its register, to the error response or to the PWR_OFF response, whose effects and frames are known. -/
theorem csrAccess : Obligations.CsrAccess := by
  unfold Obligations.CsrAccess
  refine ⟨?now, ?pending, ?wide, ?refused, ?badSize, ?off, ?readFour, ?readEight⟩
  case now =>
    intro m a data d i s hp hm hlo hway hreg hal hhi hnp hon hs hbox hok hplain hrow hdead hsh
    have h : McWrites { s with out := [] } m a 4 d i := ⟨⟨hm, hlo, hhi, by simp [sizeOk, hal], hway, hon, hnp⟩, hreg, hbox, hok, hplain, hrow⟩
    exact completes_write_now hp hs hplain hsh (h.csrWrite_four hdead)
  case pending =>
    intro m a data d i s hp hm hlo hway hreg hal hhi hnp hon hs hbox hok hplain hrow hdead hsh
    have h : McWrites { s with out := [] } m a 4 d i := ⟨⟨hm, hlo, hhi, by simp [sizeOk, hal], hway, hon, hnp⟩, hreg, hbox, hok, hplain, hrow⟩
    exact completes_write_pending hp hsh (h.csrWrite_four hdead)
  case wide =>
    intro m a data d i s hp hm hlo hway hreg _ hhi hnp hon hs hbox hok hplain hrow hal hwide hdead hsh
    have h : McWrites { s with out := [] } m a 8 d i := ⟨⟨hm, hlo, hhi, by simp [sizeOk, hal], hway, hon, hnp⟩, hreg, hbox, hok, hplain, hrow⟩
    exact completes_write_now hp hs hplain hsh (h.csrWrite_eight hwide hdead)
  case refused =>
    intro m a data d i s hp hm hlo hway hreg hal hhi hnp hon _ hbox htkr hno
    have h : McReaches { s with out := [] } m a 4 := ⟨hm, hlo, hhi, by simp [sizeOk, hal], hway, hon, hnp⟩
    exact completes_write_refused hp (csrWrite_refused h hbox hreg htkr hno data)
  case badSize =>
    intro m a size data s hp hm hlo hbad
    exact completes_write_refused hp (csrWrite_badSize _ hm hlo hbad data)
  case off =>
    intro m a data s hp hm hlo hal hhi hno
    exact completes_write_off hp hm (csrWrite_noTarget { s with out := [] } hm hlo hhi hal hno data)
  case readFour =>
    intro m a d i s hp hm hlo hway hreg hal hhi hnp hon hs hwin hplain
    have h : McReads { s with out := [] } m a 4 d i := ⟨⟨hm, hlo, hhi, by simp [sizeOk, hal], hway, hon, hnp⟩, hreg, hwin, hplain⟩
    exact completes_read hp hs h.csrRead_four
  case readEight =>
    intro m a d i s hp hm hlo hway hreg _ hhi hnp hon hs hwin hplain hal hwide
    have h : McReads { s with out := [] } m a 8 d i := ⟨⟨hm, hlo, hhi, by simp [sizeOk, hal], hway, hon, hnp⟩, hreg, hwin, hplain⟩
    simpa only [BitVec.and_allOnes] using completes_read hp hs (h.csrRead_eight hwide)

end Sys2Proof.Machine
end

section
/-!
PROOFS. Refutations: what reset leaves in DRAM (R275), and what a WARM reset and a SAFELIGHT entry do to an allocated DRAM buffer: both free it, and building
its list again writes the first line of every free buffer (R379).
-/

namespace Sys2Proof.Machine

open Sys2Proof

/-- Refutes O60: DRAM does not read as zeros at reset. Address 0 lies in the Block Record Table, and the record of an absent die holds KIND BAD (R275):
its first byte reads 0xC3. -/
theorem not_resetValues : ¬ Obligations.ResetValues := by
  unfold Obligations.ResetValues
  rintro ⟨-, hzero, -⟩
  have hbyte : memByte State.reset 0 = 0xC3#8 := by decide +kernel
  exact absurd (hbyte.symm.trans (hzero 0)) (by decide)

/-- The reset device once MC0 has been given a buffer of class 6, the first of the DRAM classes: only its link word is defined (R377). -/
def oneBuffer : State := (popBuf State.reset 6 (idMc 0)).2

/-- The same device at the save step of an entry into SAFELIGHT (R488, R490). -/
def oneBufferSaving : State := { oneBuffer with pmu := { oneBuffer.pmu with flight := .save, target := .safelight } }

/-- What a powered command leaves in DRAM is what its effect leaves there. -/
theorem dram_of_exec {c : Instr} {f : State → State} {s t : State} (hc : exec c s = effect f s) (hp : Powered s) (ht : exec c s = .next t) :
    t.mep.dram = (f { s with out := [] }).mep.dram := by
  rw [eq_settle_of_exec hc hp ht, settle_mep]

/-- Refutes O38: PERST# does not leave the DRAM bytes as they are. From `oneBuffer` it frees the buffer and writes its first line again. -/
theorem not_resets : ¬ Obligations.Resets := by
  unfold Obligations.Resets
  rintro ⟨-, -, -, -, -, hperst, -⟩
  have hp : Powered oneBuffer := by decide +kernel
  obtain ⟨t, ht, -, -, -, -, hkept, -⟩ := hperst [] oneBuffer hp (by decide +kernel) (by decide +kernel) (by decide +kernel) (by decide +kernel)
    (by decide +kernel) (by decide +kernel) (by decide +kernel) (by decide +kernel) (by decide +kernel)
  have hdram := dram_of_exec (c := .perstAssert []) (f := onPerstAssert []) rfl hp ht
  have hmoved : t.mep.dram ≠ oneBuffer.mep.dram := by
    rw [hdram]
    decide +kernel
  exact hmoved hkept

/-- Refutes O40: the save step of a SAFELIGHT entry does not leave the integrity path's state, which holds the DRAM bytes, as it is. From `oneBufferSaving` the
pools of the DRAM classes start afresh, which writes the first line of the buffer again. -/
theorem not_powerStates : ¬ Obligations.PowerStates := by
  unfold Obligations.PowerStates
  rintro ⟨-, -, -, -, -, -, -, -, -, -, hsave, -⟩
  have hp : Powered oneBufferSaving := by decide +kernel
  obtain ⟨t, ht, -, -, -, -, -, -, -, honly⟩ := hsave oneBufferSaving hp rfl (by decide +kernel) (by decide +kernel) (by decide +kernel) rfl
    (by decide +kernel)
  have hkept : t.mep = oneBufferSaving.mep := honly.1 .mep (by decide)
  have hdram := dram_of_exec (c := .safelightEntry) (f := onSafelightEntry) rfl hp ht
  have hmoved : t.mep.dram ≠ oneBufferSaving.mep.dram := by
    rw [hdram]
    decide +kernel
  exact hmoved (congrArg MepState.dram hkept)

end Sys2Proof.Machine
end

section
/-!
SUPPORT. Fields with one bit per item: what setting and clearing a bit does to the field and to the other registers.
-/

namespace Sys2Proof.Machine

open Sys2Proof

theorem bitAt_eq_testBit (x i : Nat) : bitAt x i = x.testBit i := by
  rw [bitAt, Nat.testBit_eq_decide_div_mod_eq, beq_eq_decide]

/-- Adding a clear bit sets it and no other. -/
theorem bitAt_add_two_pow {n i : Nat} (h : bitAt n i = false) (k : Nat) : bitAt (n + 2 ^ i) k = (decide (k = i) || bitAt n k) := by
  rw [bitAt_eq_testBit] at h
  have hlow : n % 2 ^ (i + 1) < 2 ^ i := by
    refine Nat.lt_of_testBit i ?_ (by simp) fun j hj => ?_
    · simpa [Nat.testBit_mod_two_pow] using h
    · rw [Nat.testBit_mod_two_pow, Nat.testBit_two_pow_of_ne (by omega)]
      simp; omega
  have hsum : n + 2 ^ i = 2 ^ (i + 1) * (n / 2 ^ (i + 1)) + (2 ^ i + n % 2 ^ (i + 1)) := by
    have := Nat.div_add_mod n (2 ^ (i + 1)); omega
  rcases Nat.lt_trichotomy k i with hk | rfl | hk
  · rw [bitAt_eq_testBit, bitAt_eq_testBit, Nat.add_comm, Nat.testBit_two_pow_add_gt hk]
    simp [hk.ne]
  · rw [bitAt_eq_testBit, Nat.add_comm, Nat.testBit_two_pow_add_eq, h]
    simp
  · have hlt : 2 ^ i + n % 2 ^ (i + 1) < 2 ^ (i + 1) := by rw [Nat.pow_succ] at *; omega
    rw [bitAt_eq_testBit, bitAt_eq_testBit, hsum, Nat.testBit_two_pow_mul_add _ hlt, if_neg (by omega), ← Nat.testBit_add,
      Nat.sub_add_cancel (by omega)]
    simp [hk.ne']

/-- Taking a set bit away clears it and no other. -/
theorem bitAt_sub_two_pow {n i : Nat} (h : bitAt n i = true) (k : Nat) : bitAt (n - 2 ^ i) k = (!decide (k = i) && bitAt n k) := by
  have hle : 2 ^ i ≤ n := Nat.ge_two_pow_of_testBit (by rwa [bitAt_eq_testBit] at h)
  have hback : n - 2 ^ i + 2 ^ i = n := Nat.sub_add_cancel hle
  have hclear : bitAt (n - 2 ^ i) i = false := by
    rw [bitAt_eq_testBit] at h ⊢
    rw [← hback, Nat.add_comm, Nat.testBit_two_pow_add_eq] at h
    simpa using h
  have hset := bitAt_add_two_pow hclear k
  rw [hback] at hset
  by_cases hk : k = i
  · subst hk; simp [hclear]
  · simp [hset, hk]

/-- A bit of a field that has been set, below its width. -/
theorem bitAt_getF_setF {s : State} {f : Fld} {n k : Nat} (hw : f.hi < 64) (hl : f.lo ≤ f.hi) (hk : k < f.hi + 1 - f.lo) :
    bitAt (getF (setF s f n) f) k = bitAt n k := by
  rw [getF_setF_same s f n hw hl, bitAt_eq_testBit, bitAt_eq_testBit, Nat.testBit_mod_two_pow]
  simp [hk]

theorem bitAt_setFBit (s : State) {f : Fld} (i : Nat) {k : Nat} (hw : f.hi < 64) (hl : f.lo ≤ f.hi) (hk : k < f.hi + 1 - f.lo) :
    bitAt (getF (setFBit s f i) f) k = (decide (k = i) || bitAt (getF s f) k) := by
  unfold setFBit
  split
  · next h => by_cases e : k = i <;> simp [e, h]
  · next h => rw [bitAt_getF_setF hw hl hk, bitAt_add_two_pow (by simpa using h)]

theorem bitAt_clrFBit (s : State) {f : Fld} (i : Nat) {k : Nat} (hw : f.hi < 64) (hl : f.lo ≤ f.hi) (hk : k < f.hi + 1 - f.lo) :
    bitAt (getF (clrFBit s f i) f) k = (!decide (k = i) && bitAt (getF s f) k) := by
  unfold clrFBit
  split
  · next h => rw [bitAt_getF_setF hw hl hk, bitAt_sub_two_pow h]
  · next h => by_cases e : k = i <;> simp [e, h]

/-- Setting or clearing a bit of a field leaves what the setting of the field leaves. -/
theorem setFBit_keeps {β : Type} {p : State → β} {f : Fld} (h : ∀ (u : State) (n : Nat), p (setF u f n) = p u) (s : State) (i : Nat) :
    p (setFBit s f i) = p s := by
  unfold setFBit
  split
  · rfl
  · exact h s _

theorem clrFBit_keeps {β : Type} {p : State → β} {f : Fld} (h : ∀ (u : State) (n : Nat), p (setF u f n) = p u) (s : State) (i : Nat) :
    p (clrFBit s f i) = p s := by
  unfold clrFBit
  split
  · exact h s _
  · rfl

theorem only_setFBit (s : State) (f : Fld) (i : Nat) : Only s (setFBit s f i) [] [f.addr] := by
  unfold setFBit
  split
  · exact only_refl s _ _
  · exact only_setF s f _

theorem only_clrFBit (s : State) (f : Fld) (i : Nat) : Only s (clrFBit s f i) [] [f.addr] := by
  unfold clrFBit
  split
  · exact only_setF s f _
  · exact only_refl s _ _

end Sys2Proof.Machine
end

section
/-!
PROOFS. The PLLs, the clocks and L1.2 (R32, R446, R493, R601).
-/

namespace Sys2Proof.Machine

open Sys2Proof

/-- The state a command's effect starts from: the last outputs are gone. -/
def cleared (s : State) : State := { s with out := [] }

theorem only_cleared {s x : State} {ps : List Part} {as : List Nat} (h : Only (cleared s) x ps as) : Only s x ps as := only_of_cleared h

/-- A powered command completes with what holds of its effect once that is settled. -/
theorem completes_run {c : Instr} {f : State → State} {s x : State} {P : State → Prop} (hc : exec c s = effect f s) (hp : Powered s)
    (hx : f (cleared s) = x) (hP : P (settle x)) : Completes c s P :=
  completes_effect hc hp (by rw [show f { s with out := [] } = x from hx]; exact hP)

/-- A register access that reaches its register comes through the gate of its row. -/
theorem rowGate_reached {s : State} {m a : Nat} {w : Bool} (h : Reaches s m a w) (f : State → State) : rowGate s m a w f = f s := by
  obtain ⟨-, hres, hdbg, hvf, hpf, hway, hon⟩ := h
  have hd : ¬(m = idDebug ∧ debugReach s a w = false) := fun ⟨e, hno⟩ => by simp [hdbg e] at hno
  have ho : ¬(m = idHostPf ∧ domainOn s .data = false) := fun ⟨e, hno⟩ => by simp [(hpf e).1] at hno
  have hv : ¬(m = idHostPf ∧ hostVisible a = false) := fun ⟨e, hno⟩ => by simp [(hpf e).2] at hno
  simp only [rowGate, hres, Bool.false_eq_true, if_false, if_neg hd, if_neg hvf, if_neg ho, if_neg hv, hway, hon, Bool.not_true, Bool.or_false]

/-- A row whose access reaches its register completes, with what holds of its settled effect. -/
theorem completes_reached {c : Instr} {m a : Nat} {w : Bool} {f : State → State} {s x : State} {P : State → Prop}
    (hc : exec c s = effect (fun s => rowGate s m a w f) s) (h : Reaches s m a w) (hx : f (cleared s) = x) (hP : P (settle x)) : Completes c s P :=
  have hcleared : Reaches (cleared s) m a w := h
  completes_run hc h.1 ((rowGate_reached hcleared f).trans hx) hP

/-- `settle` adds its outputs behind those of the command. -/
theorem out_prefix_settle (s : State) : s.out <+: (settle s).out := by
  simp only [settle, settleLanes, settleAlert]
  refine List.IsPrefix.trans ?_ (List.prefix_append _ _)
  split
  · exact List.prefix_rfl
  · exact List.prefix_append _ _

/-- The first output of a command comes first. -/
theorem emitted_prefix {s : State} (h : s.out = []) (x : Output) : [x] <+: (settle (emit s x)).out := by
  have := out_prefix_settle (emit s x)
  rwa [emit_out, h, List.nil_append] at this

/-- A row refuses an access of a master that is not the host: an error response, and nothing else. -/
theorem completes_rowRefused {c : Instr} {m a : Nat} {w : Bool} {f : State → State} {s : State} (hm : m ≠ idHostPf)
    (hc : exec c s = effect (fun s => rowGate s m a w f) s) (h : Reaches s m a w)
    (hf : f (cleared s) = refuse (cleared s) m a) : Completes c s fun t => [Output.errorResponse m a] <+: t.out ∧ Only s t [] [] := by
  have hno : refuse (cleared s) m a = emit (cleared s) (.errorResponse m a) := if_neg (by simpa using hm)
  exact completes_reached hc h (hf.trans hno) ⟨emitted_prefix rfl _, only_settle (only_cleared (only_emit _ _))⟩

/-- The fields of PMU_CLK: 4 bits, one for each PLL, in a register that `settle` leaves. -/
structure ClkField (f : Fld) : Prop where
  addr : f.addr = F.pmuClk_en.addr
  wide : 4 ≤ f.hi + 1 - f.lo
  high : f.hi < 64

theorem clkField_en : ClkField F.pmuClk_en := ⟨rfl, by decide, by decide⟩
theorem clkField_lock : ClkField F.pmuClk_lock := ⟨rfl, by decide, by decide⟩
theorem clkField_sel : ClkField F.pmuClk_sel := ⟨rfl, by decide, by decide⟩

theorem ClkField.unsettled {f : Fld} (h : ClkField f) : f.addr ∉ settledAddrs := by
  rw [h.addr]; decide

/-- After a PLL's bit is set in a field of PMU_CLK: the bit is set, the field's others are as they were, and nothing else changes. -/
theorem ClkField.set {f : Fld} (h : ClkField f) (s : State) {pll : Nat} (hp : pll < 4) :
    bitAt (getF (settle (setFBit (cleared s) f pll)) f) pll = true ∧
      (∀ k ∈ List.range 4, k ≠ pll → bitAt (getF (settle (setFBit (cleared s) f pll)) f) k = bitAt (getF s f) k) ∧
      Only s (settle (setFBit (cleared s) f pll)) [] [F.pmuClk_en.addr] := by
  have hw := h.wide
  have hbit : ∀ k < 4, bitAt (getF (settle (setFBit (cleared s) f pll)) f) k = (decide (k = pll) || bitAt (getF s f) k) := fun k hk => by
    rw [getF_settle _ _ h.unsettled, bitAt_setFBit _ pll h.high (by omega) (by omega)]
    rfl
  refine ⟨?_, fun k hk hne => ?_, ?_⟩
  · simp [hbit pll hp]
  · simp [hbit k (List.mem_range.1 hk), hne]
  · rw [← h.addr]
    exact only_settle (only_cleared (only_setFBit _ f pll))

/-- After a PLL's bit is cleared in a field of PMU_CLK. -/
theorem ClkField.clear {f : Fld} (h : ClkField f) (s : State) {pll : Nat} (hp : pll < 4) :
    bitAt (getF (settle (clrFBit (cleared s) f pll)) f) pll = false ∧
      (∀ k ∈ List.range 4, k ≠ pll → bitAt (getF (settle (clrFBit (cleared s) f pll)) f) k = bitAt (getF s f) k) ∧
      Only s (settle (clrFBit (cleared s) f pll)) [] [F.pmuClk_en.addr] := by
  have hw := h.wide
  have hbit : ∀ k < 4, bitAt (getF (settle (clrFBit (cleared s) f pll)) f) k = (!decide (k = pll) && bitAt (getF s f) k) := fun k hk => by
    rw [getF_settle _ _ h.unsettled, bitAt_clrFBit _ pll h.high (by omega) (by omega)]
    rfl
  refine ⟨?_, fun k hk hne => ?_, ?_⟩
  · simp [hbit pll hp]
  · simp [hbit k (List.mem_range.1 hk), hne]
  · rw [← h.addr]
    exact only_settle (only_cleared (only_clrFBit _ f pll))

/-- A field of PMU_CLK that shares no bit with another keeps its value when a bit of the other is set. -/
theorem ClkField.set_other {f g : Fld} (hf : ClkField f) (hg : ClkField g) (hd : g.hi < f.lo ∨ f.hi < g.lo) (s : State) (pll : Nat) :
    getF (settle (setFBit (cleared s) f pll)) g = getF s g := by
  rw [getF_settle _ _ hg.unsettled]
  exact setFBit_keeps (p := fun u => getF u g) (fun u n => getF_setF_bits u n (hg.addr.trans hf.addr.symm) hg.high hd) _ pll

theorem getF_emitIf (c : Bool) (s : State) (x : Output) (f : Fld) : getF (emitIf c s x) f = getF s f := by
  cases c <;> rfl

/-- An alarm whose action is to record or to notify, while no unlock is being verified: latched, raised, and notified where the action says so. -/
theorem applyAlarm_mild {s : State} {src : Nat} (hact : alarmAction s src ≤ 1) (hst : getF s F.dbgUnlock_status ≠ 2) :
    ∃ (ws : List Nat) (sec mc : Bool), applyAlarm s src =
      emitIf mc (emitIf sec (raise (setFBit s F.secAlarmStat_latched src) 0x0F 0 idSec ws) (.interrupt idSec)) (.interrupt (idMc 0)) := by
  have hraise : ∀ ws, getF (raise (setFBit s F.secAlarmStat_latched src) 0x0F 0 idSec ws) F.dbgUnlock_status ≠ 2 := fun ws => by
    rw [getF_raise _ _ _ _ _ (by decide),
      setFBit_keeps (p := fun u => getF u F.dbgUnlock_status) (fun u n => getF_setF_addr u n (by decide))]
    exact hst
  have h3 : alarmAction s src ≠ 3 := by omega
  have h2 : alarmAction s src ≠ 2 := by omega
  simp only [applyAlarm, if_neg h3, if_neg h2]
  by_cases h1 : 1 ≤ alarmAction s src
  · rw [if_pos h1, if_neg (by rw [getF_emitIf, getF_emitIf]; exact hraise _)]
    exact ⟨_, _, _, rfl⟩
  · rw [if_neg h1, if_neg (hraise _)]
    exact ⟨_, false, false, rfl⟩

/-- Of the registers such an alarm changes the latched sources, and the count of a missed event. -/
theorem getF_applyAlarm_mild {s : State} {src : Nat} (hact : alarmAction s src ≤ 1) (hst : getF s F.dbgUnlock_status ≠ 2) {f : Fld}
    (hf : f.addr ≠ (F.cshMissed_total 14).addr) : getF (applyAlarm s src) f = getF (setFBit s F.secAlarmStat_latched src) f := by
  obtain ⟨ws, sec, mc, h⟩ := applyAlarm_mild hact hst
  rw [h, getF_emitIf, getF_emitIf, getF_raise _ _ _ _ _ hf]

theorem only_applyAlarm_mild {s : State} {src : Nat} (hact : alarmAction s src ≤ 1) (hst : getF s F.dbgUnlock_status ≠ 2) :
    Only s (applyAlarm s src) [.csh] [F.secAlarmStat_latched.addr, (F.cshMissed_total 14).addr] := by
  obtain ⟨ws, sec, mc, h⟩ := applyAlarm_mild hact hst
  rw [h]
  exact only_mono (only_trans (only_trans (only_trans (only_setFBit s _ _) (only_raise _ _ _ _ _)) (only_emitIf _ _ _)) (only_emitIf _ _ _))
    (by simp) (by simp)

/-- The state of PMU_CLK once a PLL has lost lock and its clock is back at FIRC. -/
def lockLost (s : State) (pll : Nat) : State := clrFBit (clrFBit s F.pmuClk_sel pll) F.pmuClk_lock pll

theorem getF_lockLost_addr (s : State) (pll : Nat) {f : Fld} (h : f.addr ≠ F.pmuClk_en.addr) : getF (lockLost s pll) f = getF s f := by
  have hkeep : ∀ (u : State) (g : Fld), ClkField g → getF (clrFBit u g pll) f = getF u f := fun u g hg =>
    clrFBit_keeps (p := fun u => getF u f) (fun u n => getF_setF_addr u n (hg.addr ▸ h)) u pll
  rw [lockLost, hkeep _ _ clkField_lock, hkeep _ _ clkField_sel]

theorem only_lockLost (s : State) (pll : Nat) : Only s (lockLost s pll) [] [F.pmuClk_en.addr] :=
  only_mono (only_trans (only_clrFBit s _ pll) (only_clrFBit _ _ pll)) (by simp) (by decide)

/-- LOCK and SEL read 0 for the PLL. -/
theorem bitAt_lockLost (s : State) {pll : Nat} (hp : pll < 4) :
    bitAt (getF (lockLost s pll) F.pmuClk_lock) pll = false ∧ bitAt (getF (lockLost s pll) F.pmuClk_sel) pll = false := by
  have hcleared : ∀ (u : State) (f : Fld), ClkField f → bitAt (getF (clrFBit u f pll) f) pll = false := fun u f hf => by
    have hw := hf.wide
    rw [bitAt_clrFBit u pll hf.high (by omega) (by omega)]
    simp
  refine ⟨hcleared _ _ clkField_lock, ?_⟩
  have hkeep : ∀ u : State, getF (clrFBit u F.pmuClk_lock pll) F.pmuClk_sel = getF u F.pmuClk_sel := fun u =>
    clrFBit_keeps (p := fun u => getF u F.pmuClk_sel) (f := F.pmuClk_lock) (fun u n => getF_setF_bits u n rfl (by decide) (Or.inr (by decide))) u pll
  rw [lockLost, hkeep]
  exact hcleared _ _ clkField_sel

/-- The loss of lock with a CLOCK alarm that does not erase. -/
theorem completes_lockLoss {pll : Nat} {s : State} (hon : Powered s) (hp : pll < 4) (hlock : bitAt (getF s F.pmuClk_lock) pll = true)
    (hact : alarmAction s 1 ≤ 1) (hst : getF s F.dbgUnlock_status ≠ 2) :
    Completes (.pllLockLoss pll) s fun t =>
      bitAt (getF t F.pmuClk_lock) pll = false ∧ bitAt (getF t F.pmuClk_sel) pll = false ∧ bitAt (getF t F.secAlarmStat_latched) 1 = true ∧
        Only s t [.csh] [F.pmuClk_en.addr, F.secAlarmStat_latched.addr, (F.cshMissed_total 14).addr] := by
  have hrun : onPllLockLoss pll (cleared s) = applyAlarm (lockLost (cleared s) pll) 1 := by
    have hl : bitAt (getF (cleared s) F.pmuClk_lock) pll = true := hlock
    simp only [onPllLockLoss, hl, Nat.not_le.2 hp, decide_false, Bool.not_true, Bool.or_false, Bool.false_eq_true, if_false]
    rfl
  have hact' : alarmAction (lockLost (cleared s) pll) 1 ≤ 1 := by
    have hword : regNat (lockLost (cleared s) pll) F.secAlarmAct_vglitch.addr = regNat s F.secAlarmAct_vglitch.addr := by
      rw [regNat, ← getF_wholeWord, getF_lockLost_addr _ _ (by decide), getF_wholeWord]
      rfl
    rwa [alarmAction, hword]
  have hst' : getF (lockLost (cleared s) pll) F.dbgUnlock_status ≠ 2 := by
    rwa [getF_lockLost_addr _ _ (by decide)]
  obtain ⟨hlock0, hsel0⟩ := bitAt_lockLost (cleared s) hp
  have hclk : ∀ f, ClkField f → getF (settle (applyAlarm (lockLost (cleared s) pll) 1)) f = getF (lockLost (cleared s) pll) f := fun f hf => by
    rw [getF_settle _ _ hf.unsettled, getF_applyAlarm_mild hact' hst' (by rw [hf.addr]; decide)]
    exact setFBit_keeps (p := fun u => getF u f) (fun u n => getF_setF_addr u n (by rw [hf.addr]; decide)) _ _
  have honly := only_trans (only_lockLost (cleared s) pll) (only_applyAlarm_mild hact' hst')
  refine completes_run (f := onPllLockLoss pll) rfl hon hrun ⟨?_, ?_, ?_, only_settle (only_cleared (only_mono honly (by simp) (by simp)))⟩
  · rw [hclk _ clkField_lock]; exact hlock0
  · rw [hclk _ clkField_sel]; exact hsel0
  · rw [getF_settle _ _ (by decide), getF_applyAlarm_mild hact' hst' (by decide), bitAt_setFBit _ _ (by decide) (by decide) (by decide)]
    simp

/-- A change of the host interface's link and of the pins that leaves everything else. -/
theorem only_link (s : State) (h : HifState) (p : Pins) : Only s { s with hif := h, pins := p } [.hif, .pins] [] :=
  ⟨fun q hq => by
    cases q
    case hif => simp at hq
    case pins => simp at hq
    case bay => exact ⟨rfl, rfl, fun _ => rfl⟩
    all_goals rfl, fun _ _ _ => rfl⟩

/-- The link enters or leaves L1.2: CLKREQ# is released or asserted. -/
theorem completes_l12 {c : Instr} {f : State → State} {s : State} (b : Bool) (hc : exec c s = effect f s) (hon : Powered s)
    (hf : f (cleared s) =
      emit { cleared s with hif := { s.hif with l12 := b }, pins := { s.pins with clkreqLow := !b } } (.pin .clkreqN b)) :
    Completes c s fun t =>
      t.hif = { s.hif with l12 := b } ∧ t.pins.clkreqLow = (!b) ∧ [Output.pin .clkreqN b] <+: t.out ∧ Only s t [.hif, .pins] [] :=
  completes_run hc hon hf
    ⟨settle_hif _, congrArg Pins.clkreqLow (settle_pins _), emitted_prefix rfl _,
     only_settle (only_cleared (only_mono (only_trans (only_link _ _ _) (only_emit _ _)) (by simp) (by simp)))⟩

/-- Settles O41: the rows of PMU_CLK come to a bit of one of its fields, the loss of lock to two and the CLOCK alarm, and those of L1.2 to CLKREQ#. -/
theorem clocksAndLink : Obligations.ClocksAndLink := by
  unfold Obligations.ClocksAndLink
  refine ⟨?enable, ?lock, ?toPll, ?unlocked, ?toFirc, ?loss, ?enableRefused, ?selectRefused, ?enter, ?leave⟩
  case enable =>
    intro m pll s hr hw hp
    have hw' : pmuWriter (cleared s) m = true := hw
    obtain ⟨hset, hrest, honly⟩ := clkField_en.set s hp
    exact completes_reached rfl hr (x := setFBit (cleared s) F.pmuClk_en pll) (by simp [hw', Nat.not_le.2 hp])
      ⟨hset, hrest, clkField_en.set_other clkField_sel (Or.inr (by decide)) s pll,
        clkField_en.set_other clkField_lock (Or.inr (by decide)) s pll, honly⟩
  case lock =>
    intro pll s hon hp hen
    have hen' : bitAt (getF (cleared s) F.pmuClk_en) pll = true := hen
    obtain ⟨hset, hrest, honly⟩ := clkField_lock.set s hp
    exact completes_run rfl hon (x := setFBit (cleared s) F.pmuClk_lock pll) (by simp [onPllLockAcquired, hen', Nat.not_le.2 hp])
      ⟨hset, hrest, clkField_lock.set_other clkField_en (Or.inl (by decide)) s pll,
        clkField_lock.set_other clkField_sel (Or.inr (by decide)) s pll, honly⟩
  case toPll =>
    intro m pll s hr hw hp hlock
    have hw' : pmuWriter (cleared s) m = true := hw
    have hlock' : bitAt (getF (cleared s) F.pmuClk_lock) pll = true := hlock
    obtain ⟨hset, hrest, honly⟩ := clkField_sel.set s hp
    exact completes_reached rfl hr (x := setFBit (cleared s) F.pmuClk_sel pll) (by simp [hw', hlock', Nat.not_le.2 hp])
      ⟨hset, hrest, clkField_sel.set_other clkField_en (Or.inl (by decide)) s pll,
        clkField_sel.set_other clkField_lock (Or.inl (by decide)) s pll, honly⟩
  case unlocked =>
    intro m pll s hr hw hp hlock
    have hw' : pmuWriter (cleared s) m = true := hw
    have hlock' : bitAt (getF (cleared s) F.pmuClk_lock) pll = false := hlock
    exact completes_reached rfl hr (x := cleared s) (by simp [hw', hlock']) (only_settle (only_cleared (only_refl _ _ _)))
  case toFirc =>
    intro m pll s hr hw hp
    have hw' : pmuWriter (cleared s) m = true := hw
    exact completes_reached rfl hr (x := clrFBit (cleared s) F.pmuClk_sel pll) (by simp [hw', Nat.not_le.2 hp]) (clkField_sel.clear s hp)
  case loss => exact fun pll s hon hp hlock hact hst => completes_lockLoss hon hp hlock hact hst
  case enableRefused =>
    intro m pll s hr hw hm
    have hw' : pmuWriter (cleared s) m = false := hw
    exact completes_rowRefused hm rfl hr (by simp [hw'])
  case selectRefused =>
    intro m pll sel s hr hw hm
    have hw' : pmuWriter (cleared s) m = false := hw
    exact completes_rowRefused hm rfl hr (by simp [hw'])
  case enter =>
    intro s hon hup hl
    exact completes_l12 true rfl hon (by simp [onL12Entry, cleared, hup, hl])
  case leave =>
    intro s hon hl
    exact completes_l12 false rfl hon (by simp [onL12Exit, cleared, hl])

end Sys2Proof.Machine
end

section
/-!
PROOFS. The I/O commands that pass their generic checks (R24, R49, R107, R113).
-/

namespace Sys2Proof.Machine

open Sys2Proof

/-- A command of a domain that is on completes with what holds of its effect once that is settled. -/
theorem completes_runIn {c : Instr} {d : Domain} {f : State → State} {s x : State} {P : State → Prop} (hc : exec c s = effectIn d f s)
    (hp : Powered s) (hd : domainOn s d = true) (hx : f (cleared s) = x) (hP : P (settle x)) : Completes c s P :=
  ⟨settle x, by rw [hc, effectIn_on d f hp hd]; exact congrArg (fun u => Host.Outcome.next (settle u)) hx, hP⟩

@[simp] theorem slotOf_settle (s : State) (n : Nat) : slotOf (settle s) n = slotOf s n := by
  rw [slotOf, settle_hif, slotOf]

@[simp] theorem slotOf_putSlot_same (s : State) (n : Nat) (c : CmdSlot) : slotOf (putSlot s n c) n = some c := spFind_put_same _ _ _

theorem slotOf_putSlot_ne (s : State) {n m : Nat} (c : CmdSlot) (h : m ≠ n) : slotOf (putSlot s n c) m = slotOf s m := spFind_put_ne _ _ h

theorem only_putSlot (s : State) (n : Nat) (c : CmdSlot) : Only s (putSlot s n c) [.hif] [] :=
  ⟨fun p hp => by
    cases p
    case hif => simp at hp
    case bay => exact ⟨rfl, rfl, fun _ => rfl⟩
    all_goals rfl, fun _ _ _ => rfl⟩

/-- A fetched I/O command that passes its generic checks goes on with its zone, offset and length in its slot. -/
theorem startIo_passes {s : State} {n nsid : Nat} {k : CmdKind} {c : CmdSlot} {ns : Namespace} (h : Passes s n k c nsid ns)
    (ok : State → CmdSlot → State) :
    startIo s n k ok = ok (putSlot s n (checkedSlot s k c nsid ns)) (checkedSlot s k c nsid ns) := by
  obtain ⟨-, ⟨hslot, hphase, hio, hkind, -⟩, hcheck, hns, hstop, hlost⟩ := h
  have hfetched : (c.phase == .fetched && (!c.sqe.admin && ioKind c.sqe == k)) = true := by simp [hphase, hio, hkind]
  simp only [startIo, withFetched, hslot, hfetched, if_true, hcheck, hns, hstop, hlost, Bool.false_and, Bool.false_eq_true, if_false]

/-- The slot alone has changed. -/
def SlotTaken (s t : State) (n : Nat) (c : CmdSlot) : Prop :=
  slotOf t n = some c ∧ (∀ m, m ≠ n → slotOf t m = slotOf s m) ∧ Only s t [.hif] []

theorem slotTaken_settle (s : State) (n : Nat) (c : CmdSlot) : SlotTaken s (settle (putSlot (cleared s) n c)) n c := by
  refine ⟨by simp, fun m hm => ?_, only_settle (only_cleared (only_putSlot _ _ _))⟩
  rw [slotOf_settle, slotOf_putSlot_ne _ _ hm]
  rfl

/-- A row that only checks its command completes with the checked slot. -/
theorem completes_checked {i : Instr} {s : State} {n nsid : Nat} {k : CmdKind} {c : CmdSlot} {ns : Namespace} (ok : State → CmdSlot → State)
    (hi : exec i s = effectIn .data (fun s => startIo s n k ok) s) (h : Passes s n k c nsid ns)
    (hok : ∀ u, ok u (checkedSlot s k c nsid ns) = u) : Completes i s fun t => SlotTaken s t n (checkedSlot s k c nsid ns) := by
  have hcleared : Passes (cleared s) n k c nsid ns := h
  exact completes_runIn hi h.1.1 h.1.2 ((startIo_passes hcleared ok).trans (hok _)) (slotTaken_settle s n _)

/-- A Read or Verify that passes its checks and crosses its zone's end fails. -/
theorem completes_crossing {i : Instr} {s : State} {n nsid : Nat} {k : CmdKind} {c : CmdSlot} {ns : Namespace}
    (hi : exec i s = effectIn .data (fun s => startReadKind s n k) s) (hk : isReadKind k = true) (h : Passes s n k c nsid ns)
    (hcross : 2 ^ 20 < slba c.sqe % 2 ^ 20 + nlb c.sqe) :
    Completes i s fun t => Ended s t n c .zoneBoundaryError ∧ Only s t [.hif] [] := by
  have hcleared : Passes (cleared s) n k c nsid ns := h
  let c' := checkedSlot (cleared s) k c nsid ns
  let u := putSlot (cleared s) n c'
  have hrun : startReadKind (cleared s) n k = finish u n .zoneBoundaryError := by
    rw [startReadKind, startIo_passes hcleared]
    simp only [hk, Bool.true_or, if_true]
    exact if_pos hcross
  obtain ⟨-, ⟨-, -, -, -, hbare0⟩, -⟩ := id h
  have hbare : Bare u n c' := hbare0
  obtain ⟨honly, hfree, hothers, hpost⟩ := finish_bare (slotOf_putSlot_same _ n c') hbare .zoneBoundaryError
  refine completes_runIn hi h.1.1 h.1.2 hrun ⟨⟨by rw [slotOf_settle]; exact hfree, fun m hm => ?_, fun hcan => ?_⟩, ?_⟩
  · rw [slotOf_settle, hothers m hm, slotOf_putSlot_ne _ _ hm]
    rfl
  · obtain ⟨dnr, hout⟩ := hpost hcan
    exact ⟨_, _, dnr, mem_settle_out hout⟩
  · exact only_settle (only_cleared (only_mono (only_trans (only_putSlot _ _ _) honly) (by simp) (by simp)))

/-- What a Read or Verify looks at once it has passed its checks: its zone's end (R49). -/
def withinZone (n : Nat) (s : State) (c : CmdSlot) : State := if 2 ^ 20 < c.offset + c.blocks then finish s n .zoneBoundaryError else s

/-- A Read or Verify that passes its checks and ends within its zone completes with the checked slot. -/
theorem completes_within {i : Instr} {s : State} {n nsid : Nat} {k : CmdKind} {c : CmdSlot} {ns : Namespace}
    (hi : exec i s = effectIn .data (fun s => startReadKind s n k) s) (hk : isReadKind k = true) (h : Passes s n k c nsid ns)
    (hle : slba c.sqe % 2 ^ 20 + nlb c.sqe ≤ 2 ^ 20) : Completes i s fun t => SlotTaken s t n (checkedSlot s k c nsid ns) := by
  refine completes_checked (withinZone n) hi h fun u => ?_
  simp only [withinZone, hk, Bool.true_or, if_true]
  exact if_neg (Nat.not_lt.2 hle)

/-- Settles O20: every I/O row comes to `startIo`, of which the reads alone go on to look at their zone's end. -/
theorem ioChecks : Obligations.IoChecks := by
  unfold Obligations.IoChecks
  refine ⟨?read, ?verify, ?write, ?append, ?placedAppend, ?openTiered, ?reopen, ?close, ?finish, ?reset, ?offline, ?readCrosses, ?verifyCrosses⟩
  case read => exact fun _ _ _ _ _ h hle => completes_within rfl rfl h hle
  case verify => exact fun _ _ _ _ _ h hle => completes_within rfl rfl h hle
  case readCrosses => exact fun _ _ _ _ _ h hlt => completes_crossing rfl rfl h hlt
  case verifyCrosses => exact fun _ _ _ _ _ h hlt => completes_crossing rfl rfl h hlt
  all_goals exact fun _ _ _ _ _ h => completes_checked (fun s _ => s) rfl h fun _ => rfl

end Sys2Proof.Machine
end

section
/-!
SUPPORT. What the shared steps of the zone resolver do to the state: each names the parts it changes, and what of them it keeps.
-/

namespace Sys2Proof.Machine

open Sys2Proof

/-- A relation every step of a loop keeps holds of the whole loop. -/
theorem forEach_rel {α : Type} {R : State → State → Prop} (hrefl : ∀ s, R s s) (htrans : ∀ {s t u}, R s t → R t u → R s u)
    {f : State → α → State} (hf : ∀ s x, R s (f s x)) (xs : List α) (s : State) : R s (forEach xs s f) := by
  unfold forEach
  induction xs generalizing s with
  | nil => exact hrefl s
  | cons x xs ih => exact htrans (hf s x) (ih (f s x))

/-- The tables of the zones and of what waits for them are as they were. -/
structure TablesKept (z z' : ZrsState) : Prop where
  map : z'.map = z.map
  zst : z'.zst = z.zst
  ops : z'.ops = z.ops
  held : z'.held = z.held

theorem TablesKept.trans {x y z : ZrsState} (h : TablesKept x y) (k : TablesKept y z) : TablesKept x z :=
  ⟨k.map.trans h.map, k.zst.trans h.zst, k.ops.trans h.ops, k.held.trans h.held⟩

theorem sweepRetired_none {s : State} (h : s.tkr.retired = []) : sweepRetired s = s := by
  have htkr : ∀ (x : TkrState) (p : RetiredKey → Bool), x.retired = [] → { x with retired := x.retired.filter p } = x := by
    rintro ⟨⟩ p rfl
    rfl
  simp only [sweepRetired, htkr _ _ h]

/-- With no retired copy of a key, the return of a context changes CPH alone. -/
theorem closeCtx_shape {s : State} (h : s.tkr.retired = []) (i : Nat) : ∃ c, closeCtx s i = { s with cph := c } := by
  refine ⟨{ s.cph with ctxs := spErase s.cph.ctxs i }, ?_⟩
  simp only [closeCtx]
  rw [sweepRetired_none (by exact h), ite_self]

theorem closeCtxs_shape {s : State} (h : s.tkr.retired = []) (ls : List LingerCtx) :
    ∃ c, forEach ls s (fun s l => closeCtx s l.ctx) = { s with cph := c } := by
  unfold forEach
  induction ls generalizing s with
  | nil => exact ⟨s.cph, rfl⟩
  | cons l ls ih =>
    obtain ⟨c, hc⟩ := closeCtx_shape h l.ctx
    obtain ⟨d, hd⟩ := ih (s := { s with cph := c }) h
    exact ⟨d, by rw [List.foldl_cons, hc, hd]⟩

theorem releaseLinger_shape {s : State} (h : s.tkr.retired = []) (e : Nat) :
    ∃ l c, releaseLinger s e = { s with zrs := { s.zrs with linger := l }, cph := c } := by
  obtain ⟨c, hc⟩ := closeCtxs_shape (s := { s with zrs := { s.zrs with linger := s.zrs.linger.filter fun l => l.ezn != e } }) h
    (s.zrs.linger.filter fun l => l.ezn == e)
  exact ⟨_, c, hc⟩

theorem cacheZone_shape (s : State) (e : Nat) : ∃ l f, cacheZone s e = { s with zrs := { s.zrs with cache := l }, free := f } := by
  unfold cacheZone
  split
  · exact ⟨s.zrs.cache, s.free, rfl⟩
  · split
    · exact ⟨_, s.free, rfl⟩
    · exact ⟨_, _, rfl⟩

/-- A zone that leaves the CAM is in no entry of it; the zones' tables stay. -/
theorem leaveCam_shape {s : State} (h : s.tkr.retired = []) (e : Nat) :
    ∃ z c f, leaveCam s e = { s with zrs := z, cph := c, free := f } ∧ TablesKept s.zrs z ∧ spFind z.cam e = none := by
  unfold leaveCam
  split
  · next hnone => exact ⟨s.zrs, s.cph, s.free, rfl, ⟨rfl, rfl, rfl, rfl⟩, hnone⟩
  · obtain ⟨l, f, hcache⟩ := cacheZone_shape { s with zrs := { s.zrs with cam := spErase s.zrs.cam e } } e
    dsimp only
    rw [hcache]
    split
    · exact ⟨_, s.cph, f, rfl, ⟨rfl, rfl, rfl, rfl⟩, spFind_erase_same _ _⟩
    · next entry _ _ =>
      obtain ⟨c, hc⟩ := closeCtx_shape (s := { s with zrs := { s.zrs with cam := spErase s.zrs.cam e, cache := l }, free := f }) h entry.ctx
      exact ⟨_, c, f, hc, ⟨rfl, rfl, rfl, rfl⟩, spFind_erase_same _ _⟩

theorem freeResv_shape (s : State) (e : Nat) :
    ∃ z b, freeResv s e = { s with zrs := z, sbg := b } ∧ TablesKept s.zrs z ∧ z.cam = s.zrs.cam ∧ b.accums = s.sbg.accums := by
  unfold freeResv
  split
  · exact ⟨s.zrs, s.sbg, rfl, ⟨rfl, rfl, rfl, rfl⟩, rfl, rfl⟩
  · dsimp only
    split
    · exact ⟨_, _, rfl, ⟨rfl, rfl, rfl, rfl⟩, rfl, rfl⟩
    · exact ⟨_, s.sbg, rfl, ⟨rfl, rfl, rfl, rfl⟩, rfl, rfl⟩

/-- A physical zone goes to DIRTY in the Block Record Table alone. -/
theorem dirtyZone_shape (s : State) (p : Nat) (z : ZstEntry) :
    ∃ m, dirtyZone s p z = { s with mhm := m } ∧ m.doomed = s.mhm.doomed := by
  refine forEach_rel (R := fun s t => ∃ m, t = { s with mhm := m } ∧ m.doomed = s.mhm.doomed) (fun s => ⟨s.mhm, rfl, rfl⟩) ?_ ?_ _ s
  · rintro s t u ⟨m, rfl, hm⟩ ⟨k, rfl, hk⟩
    exact ⟨k, rfl, hk.trans hm⟩
  · intro s i
    dsimp only
    split
    · exact ⟨s.mhm, rfl, rfl⟩
    · exact ⟨_, rfl, rfl⟩

/-- Without an accumulator the work of a physical zone is dropped without a buffer freed. -/
theorem dropZoneWork_shape {s : State} (h : s.sbg.accums = []) (p : Nat) :
    ∃ g b q m, dropZoneWork s p = { s with zrs := { s.zrs with progs := g }, sbg := b, sch := q, mep := m } := by
  have hp : dropParity s p =
      { s with sbg := { s.sbg with accums := [], parityBlocks := s.sbg.parityBlocks.filter fun kv => kv.1 / 2 ^ 20 != p } } := by
    simp only [dropParity, h, List.filter_nil, forEach, List.foldl_nil]
  exact ⟨_, _, _, _, by rw [dropZoneWork, hp]; rfl⟩

theorem withdrawDoomed_sound {s : State} {p : Nat} (h : s.mhm.doomed.contains p = false) : withdrawDoomed s p = s := by
  simp only [withdrawDoomed, h, Bool.false_eq_true, if_false]

/-- A bound zone whose contexts, buffers and substitutions hold nothing back is released: unbound in the Zone Map, and no command or wait is
touched. -/
theorem releaseBinding_shape {s : State} {e p : Nat} {z : ZstEntry} (hb : boundZone s e = some (p, z)) (hr : s.tkr.retired = [])
    (ha : s.sbg.accums = []) (hd : s.mhm.doomed.contains p = false) :
    ∃ y c b m k q f, releaseBinding s e = { s with zrs := y, cph := c, sbg := b, mhm := m, mep := k, sch := q, free := f } ∧
      y.map = spSet ⟨0, false, false, 0⟩ s.zrs.map e { zmapOf s e with pzn := 0, bound := false } ∧
        y.ops = s.zrs.ops ∧ y.held = s.zrs.held := by
  obtain ⟨y1, c1, f1, h1, k1, -⟩ := leaveCam_shape hr e
  obtain ⟨l2, c2, h2⟩ := releaseLinger_shape (s := { s with zrs := y1, cph := c1, free := f1 }) hr e
  obtain ⟨y3, b3, h3, k3, -, ha3⟩ := freeResv_shape { s with zrs := { y1 with linger := l2 }, cph := c2, free := f1 } e
  obtain ⟨m4, h4, hd4⟩ := dirtyZone_shape { s with zrs := y3, cph := c2, sbg := b3, free := f1 } p z
  obtain ⟨g5, b5, q5, k5, h5⟩ := dropZoneWork_shape (s := { s with zrs := y3, cph := c2, sbg := b3, mhm := m4, free := f1 }) (ha3.trans ha) p
  have hkept : TablesKept s.zrs y3 := k1.trans ⟨k3.map, k3.zst, k3.ops, k3.held⟩
  have hdoomed : m4.doomed.contains p = false := by rw [hd4]; exact hd
  simp only [releaseBinding, hb, h1, h2, h3, h4, h5]
  rw [withdrawDoomed_sound (by exact hdoomed)]
  refine ⟨_, c2, b5, m4, k5, q5, f1, rfl, ?_, hkept.ops, hkept.held⟩
  simp only [putZst, zmapOf, hkept.map]

end Sys2Proof.Machine
end

section
/-!
PROOFS. Resets and Finishes that waited (R54, R67, R69), and the ZRS command port (R34, R42, R79, R294, R296).
-/

namespace Sys2Proof.Machine

open Sys2Proof

/-- The frame of an update of these parts: what of them is none of `ps` is as it was. -/
theorem only_changed (s : State) {ps : List Part} {h : HifState} {z : ZrsState} {j : Journal} {c : CphState} {b : SbgState} {m : MhmState}
    {k : MepState} {q : SchState} {f : Nat} (hh : .hif ∉ ps → h = s.hif := by simp) (hz : .zrs ∉ ps → z = s.zrs := by simp)
    (hj : .jrn ∉ ps → j = s.jrn := by simp) (hc : .cph ∉ ps → c = s.cph := by simp) (hb : .sbg ∉ ps → b = s.sbg := by simp)
    (hm : .mhm ∉ ps → m = s.mhm := by simp) (hk : .mep ∉ ps → k = s.mep := by simp) (hq : .sch ∉ ps → q = s.sch := by simp)
    (hf : .free ∉ ps → f = s.free := by simp) :
    Only s { s with hif := h, zrs := z, jrn := j, cph := c, sbg := b, mhm := m, mep := k, sch := q, free := f } ps [] := by
  refine ⟨fun p hp => ?_, fun _ _ _ => rfl⟩
  cases p
  case bay => exact ⟨rfl, rfl, fun _ => rfl⟩
  case hif => exact hh hp
  case zrs => exact hz hp
  case jrn => exact hj hp
  case cph => exact hc hp
  case sbg => exact hb hp
  case mhm => exact hm hp
  case mep => exact hk hp
  case sch => exact hq hp
  case free => exact hf hp
  all_goals rfl

/-- Where no command is held for a zone, none is taken. -/
theorem wakeHeld_none {s : State} (h : s.zrs.held = []) (e : Nat) : wakeHeld s e = s := by
  simp only [wakeHeld, h, List.filter_nil, forEach, List.foldl_nil, ite_self]

/-- A zone's record waits in the journal. -/
theorem journalZone_shape (s : State) (e : Nat) : ∃ j, journalZone s e = { s with jrn := j } ∧ j.waiting ≠ [] := by
  have hrec : ∀ r : JRec, ∃ j, journal s r = { s with jrn := j } ∧ j.waiting ≠ [] := fun r => ⟨_, rfl, by simp⟩
  have hat : ∀ hz, ∃ j, journalZoneAt s e hz = { s with jrn := j } ∧ j.waiting ≠ [] := fun hz => by
    unfold journalZoneAt
    split <;> exact hrec _
  unfold journalZone
  split <;> exact hat _

theorem zmapOf_putZmap (s : State) (e : Nat) (x : ZoneMapEntry) : zmapOf (putZmap s e x) e = x := spGet_set_same _ _ _ _

theorem zstOf_putZst (s : State) (p : Nat) (z : ZstEntry) : zstOf (putZst s p z) p = sealedZst z := spGet_set_same _ _ _ _

/-- The Zone Map entry a Reset leaves (R69). -/
def resetEntry (s : State) (e : Nat) : ZoneMapEntry := { zmapOf s e with pzn := 0, bound := false, epoch := nextEpoch s e }

/-- A Reset of a bound zone that nothing holds back: its binding is released, its epoch is the next, and its record waits in the journal. -/
theorem applyReset_shape {s : State} {e p : Nat} {z : ZstEntry} (hb : boundZone s e = some (p, z)) (hl : relocOf s p = none)
    (hx : exhausts s e = false) (hr : s.tkr.retired = []) (ha : s.sbg.accums = []) (hd : s.mhm.doomed.contains p = false) :
    ∃ y j c b m k q f, applyReset s e = { s with zrs := y, jrn := j, cph := c, sbg := b, mhm := m, mep := k, sch := q, free := f } ∧
      spGet ⟨0, false, false, 0⟩ y.map e = resetEntry s e ∧ y.ops = s.zrs.ops ∧ y.held = s.zrs.held ∧ j.waiting ≠ [] := by
  let u : State := { s with mhm := { s.mhm with candidates := s.mhm.candidates.filter fun c => c.ezn != e } }
  have hxu : exhausts u e = false := hx
  have hcancel : cancelReloc s p = s := by simp only [cancelReloc, hl]
  obtain ⟨y, c, b, m, k, q, f, hu, hmap, hops, hheld⟩ := releaseBinding_shape (s := u) hb hr ha hd
  let v : State := putZmap (releaseBinding u e) e { zmapOf (releaseBinding u e) e with epoch := nextEpoch u e }
  have hv : v = { s with zrs := { y with map := v.zrs.map }, cph := c, sbg := b, mhm := m, mep := k, sch := q, free := f } := by
    simp only [v, putZmap, hu]
    rfl
  obtain ⟨j, hj, hw⟩ := journalZone_shape v e
  have hrun : applyReset s e = journalZone v e := by
    simp only [applyReset, hb, hcancel]
    exact if_neg (by rw [hxu]; exact Bool.false_ne_true)
  refine ⟨{ y with map := v.zrs.map }, j, c, b, m, k, q, f, by rw [hrun, hj, hv], ?_, hops, hheld, hw⟩
  have hold : zmapOf (releaseBinding u e) e = { zmapOf s e with pzn := 0, bound := false } := by
    rw [hu]
    simp only [zmapOf, hmap]
    exact spGet_set_same _ _ _ _
  have hnew : zmapOf v e = { zmapOf (releaseBinding u e) e with epoch := nextEpoch u e } := zmapOf_putZmap _ _ _
  exact hnew.trans (by rw [hold]; rfl)

/-- A command whose zones have all taken effect waits for the journal, which has a record to program. -/
theorem opsDone_waits {s : State} {n : Nat} {c : CmdSlot} (hs : slotOf s n = some c) (hz : c.zones = []) (ha : c.sqe.admin = false)
    (hw : s.jrn.waiting ≠ []) : opsDone s n = putSlot s n { c with phase := .waitJournal } := by
  have hempty : s.jrn.waiting.isEmpty = false := by simpa using hw
  simp only [opsDone, hs, hz, isAdmin, ha, awaitJournal, hempty, List.isEmpty_nil, Bool.not_true, Bool.false_and, Bool.false_eq_true, if_false]

/-- The Reset or Finish that waited for a zone waits no more. -/
def opTaken (s : State) (e : Nat) : State := { s with zrs := { s.zrs with ops := spErase s.zrs.ops e } }

theorem only_opTaken (s : State) (e : Nat) : Only s (opTaken s e) [.zrs] [] := only_changed s

/-- What a Reset that waited for its zone's writes does: it is applied, the command that asked goes on, and held commands have their turn. -/
theorem onZoneOpTakesEffect_reset {s : State} {e n : Nat} {c : CmdSlot} (hop : spFind s.zrs.ops e = some ⟨true, some n⟩)
    (hi : incomplete s e = []) (hx : exhausts s e = false) (hs : slotOf (applyReset (opTaken s e) e) n = some c) :
    onZoneOpTakesEffect e s = wakeHeld (opsDone (putSlot (applyReset (opTaken s e) e) n { c with zones := dropAll c.zones e }) n) e := by
  unfold opTaken at hs
  simp only [onZoneOpTakesEffect, hop, hi, hx, hs, List.isEmpty_nil, Bool.not_true, Bool.false_and, Bool.or_false, Bool.and_false, Bool.false_eq_true,
    if_false, if_true]
  rfl

/-- A Reset that waited takes effect: the zone has no incomplete write. -/
theorem completes_waitedReset {e n p : Nat} {c : CmdSlot} {z : ZstEntry} {s : State} (hw : Works s) (hr : s.tkr.retired = [])
    (hop : spFind s.zrs.ops e = some ⟨true, some n⟩) (hi : incomplete s e = []) (hb : boundZone s e = some (p, z)) (hl : relocOf s p = none)
    (hx : exhausts s e = false) (hd : s.mhm.doomed.contains p = false) (hs : slotOf s n = some c) (hz : c.zones = [e]) (hc : c.sqe.admin = false)
    (hh : s.zrs.held = []) (ha : s.sbg.accums = []) :
    Completes (.zoneOpTakesEffect e) s fun t =>
      zmapOf t e = resetEntry s e ∧ spFind t.zrs.ops e = none ∧ slotOf t n = some { c with zones := [], phase := .waitJournal } ∧
        Only s t [.hif, .zrs, .jrn, .cph, .sbg, .mhm, .mep, .sch, .free] [] := by
  let u : State := opTaken (cleared s) e
  obtain ⟨y, j, k, b, m, i, q, f, hu, hmap, hops, hheld, hj⟩ := applyReset_shape (s := u) hb hl hx hr ha hd
  let c0 : CmdSlot := { c with zones := [] }
  let v : State := putSlot (applyReset u e) n c0
  have hslot : slotOf (applyReset u e) n = some c := by rw [hu]; exact hs
  have hzones : dropAll c.zones e = [] := by simp [hz, dropAll]
  have hdone : opsDone v n = putSlot v n { c0 with phase := .waitJournal } :=
    opsDone_waits (slotOf_putSlot_same _ _ _) rfl hc (by simp only [v, hu]; exact hj)
  have hwake : wakeHeld (putSlot v n { c0 with phase := .waitJournal }) e = putSlot v n { c0 with phase := .waitJournal } :=
    wakeHeld_none (by simp only [v, hu]; exact hheld.trans hh) e
  have hrun : onZoneOpTakesEffect e (cleared s) = putSlot v n { c0 with phase := .waitJournal } := by
    rw [onZoneOpTakesEffect_reset (s := cleared s) hop hi hx hslot, hzones]
    exact (congrArg (wakeHeld · e) hdone).trans hwake
  refine completes_runIn (f := onZoneOpTakesEffect e) rfl hw.1 hw.2 hrun ⟨?_, ?_, ?_, ?_⟩
  · rw [zmapOf, settle_zrs]
    simp only [putSlot_zrs, v, hu]
    exact hmap
  · rw [settle_zrs]
    simp only [putSlot_zrs, v, hu, hops]
    exact spFind_erase_same _ _
  · rw [slotOf_settle]
    exact slotOf_putSlot_same _ _ _
  · refine only_settle (only_cleared ?_)
    simp only [v, hu, putSlot]
    exact only_changed _

theorem boundZone_kept {s t : State} (h : TablesKept s.zrs t.zrs) (e : Nat) : boundZone t e = boundZone s e := by
  unfold boundZone zmapOf zstOf
  rw [h.map, h.zst]

theorem boundZone_settle (s : State) (e : Nat) : boundZone (settle s) e = boundZone s e :=
  boundZone_kept (by rw [settle_zrs]; exact ⟨rfl, rfl, rfl, rfl⟩) e

/-- A bound zone lies where its Zone Map entry says. -/
theorem boundZone_some {s : State} {e p : Nat} {z : ZstEntry} (h : boundZone s e = some (p, z)) :
    (zmapOf s e).bound = true ∧ (zmapOf s e).pzn = p ∧ zstOf s p = z := by
  simp only [boundZone] at h
  split at h
  · next hb =>
    obtain ⟨rfl, rfl⟩ := Prod.mk.inj (Option.some.inj h)
    exact ⟨hb, rfl, rfl⟩
  · cases h

/-- The entry ZRS writes for a bound zone is the one it then finds. -/
theorem boundZone_putZst {s : State} {e p : Nat} {z : ZstEntry} (h : boundZone s e = some (p, z)) (y : ZstEntry) :
    boundZone (putZst s p y) e = some (p, sealedZst y) := by
  obtain ⟨hb, hp, -⟩ := boundZone_some h
  have hmap : zmapOf (putZst s p y) e = zmapOf s e := rfl
  simp only [boundZone, hmap, hb, if_true, hp, zstOf_putZst]

/-- Without a relocation a zone's entry alone changes. -/
theorem modZone_alone {s : State} {e p : Nat} {z : ZstEntry} (hb : boundZone s e = some (p, z)) (hl : relocOf s p = none)
    (f : ZstEntry → ZstEntry) : modZone s e f = putZst s p (f z) := by
  have hl' : relocOf (putZst s p (f z)) p = none := hl
  simp only [modZone, hb, hl']

/-- A zone without a write in flight, durable half-rows or a relocation goes to Full at the host's word. -/
theorem makeFull_shape {s : State} {e p : Nat} {z : ZstEntry} (hb : boundZone s e = some (p, z)) (hl : relocOf s p = none)
    (hr : s.tkr.retired = []) (hi : incomplete s e = []) (hd : z.durableHr = 0) :
    ∃ y j c b f, makeFull s e false false = { s with zrs := y, jrn := j, cph := c, sbg := b, free := f } ∧
      TablesKept (putZst s p { z with state := .full }).zrs y ∧ spFind y.cam e = none := by
  let u : State := putZst s p { z with state := .full }
  obtain ⟨y1, c1, f1, h1, k1, hcam1⟩ := leaveCam_shape (s := u) hr e
  obtain ⟨y2, b2, h2, k2, hcam2, -⟩ := freeResv_shape { u with zrs := y1, cph := c1, free := f1 } e
  have hkept : TablesKept u.zrs y2 := k1.trans ⟨k2.map, k2.zst, k2.ops, k2.held⟩
  let v : State := { s with zrs := y2, cph := c1, sbg := b2, free := f1 }
  obtain ⟨j, hj, -⟩ := journalZone_shape v e
  have hmod : modZone s e (fun z => { z with state := .full, finished := z.finished || false }) = u := by
    rw [modZone_alone hb hl]
    simp only [u, Bool.or_false]
  have hfree : freeResv (leaveCam u e) e = v := by rw [h1, h2]; rfl
  have hinc : incomplete (leaveCam u e) e = [] := by rw [h1]; exact hi
  have hbv : boundZone v e = some (p, sealedZst { z with state := .full }) := (boundZone_kept hkept e).trans (boundZone_putZst hb _)
  have hrun : makeFull s e false false = journalZone v e := by
    simp only [makeFull, hmod, hinc, hfree, hbv, hd, List.isEmpty_nil, if_true, Nat.lt_irrefl, false_and, if_false, Bool.false_eq_true]
  exact ⟨y2, j, c1, b2, f1, hrun.trans hj, hkept, (congrArg (spFind · e) hcam2).trans hcam1⟩

/-- What a Finish of the device that waited does. -/
theorem onZoneOpTakesEffect_finish {s : State} {e p : Nat} {z : ZstEntry} (hop : spFind s.zrs.ops e = some ⟨false, none⟩)
    (hi : incomplete s e = []) (hb : boundZone s e = some (p, z)) (hl : relocOf s p = none)
    (ha : isActiveState (zoneState (opTaken s e) e) = true) :
    onZoneOpTakesEffect e s = wakeHeld (makeFull (opTaken s e) e false false) e := by
  unfold opTaken at ha
  simp only [onZoneOpTakesEffect, hop, hi, hb, hl, ha, List.isEmpty_nil, Bool.not_true, Bool.not_false, Bool.true_and, Option.isSome_none,
    Bool.or_false, Bool.false_eq_true, if_false, if_true]
  rfl

theorem zoneState_bound {s : State} {e p : Nat} {z : ZstEntry} (hb : boundZone s e = some (p, z)) (hret : (zmapOf s e).retired = false) :
    zoneState s e = z.state := by
  simp only [zoneState, hret, hb, Bool.false_eq_true, if_false]

/-- A Finish that waited takes effect: the zone has no incomplete write. -/
theorem completes_waitedFinish {e p : Nat} {z : ZstEntry} {s : State} (hw : Works s) (hr : s.tkr.retired = [])
    (hop : spFind s.zrs.ops e = some ⟨false, none⟩) (hi : incomplete s e = []) (hb : boundZone s e = some (p, z)) (hl : relocOf s p = none)
    (ha : isActiveState z.state = true) (hret : (zmapOf s e).retired = false) (hd : z.durableHr = 0) (hh : s.zrs.held = []) :
    Completes (.zoneOpTakesEffect e) s fun t =>
      boundZone t e = some (p, sealedZst { z with state := .full }) ∧ spFind t.zrs.ops e = none ∧ spFind t.zrs.cam e = none ∧
        Only s t [.zrs, .jrn, .cph, .sbg, .free] [] := by
  let u : State := opTaken (cleared s) e
  have hbu : boundZone u e = some (p, z) := hb
  obtain ⟨y, j, c, b, f, hu, hkept, hcam⟩ := makeFull_shape hbu hl hr hi hd
  have hactive : isActiveState (zoneState u e) = true := by rw [zoneState_bound hbu hret]; exact ha
  have hwake : wakeHeld (makeFull u e false false) e = makeFull u e false false := wakeHeld_none (by rw [hu]; exact hkept.held.trans hh) e
  have hrun : onZoneOpTakesEffect e (cleared s) = makeFull u e false false :=
    (onZoneOpTakesEffect_finish (s := cleared s) hop hi hb hl hactive).trans hwake
  refine completes_runIn (f := onZoneOpTakesEffect e) rfl hw.1 hw.2 (hrun.trans hu) ⟨?_, ?_, ?_, ?_⟩
  · rw [boundZone_settle, boundZone_kept (s := putZst u p { z with state := .full }) hkept e]
    exact boundZone_putZst hbu _
  · rw [settle_zrs]
    exact (congrArg (spFind · e) hkept.ops).trans (spFind_erase_same _ _)
  · rw [settle_zrs]
    exact hcam
  · exact only_settle (only_cleared (only_mono
      (only_trans (only_opTaken (cleared s) e) (only_changed u (ps := [.zrs, .jrn, .cph, .sbg, .free]))) (by decide) (by decide)))

/-- The outputs have no part in the order of a ready list. -/
theorem readyInsert_cleared (s : State) (p : Nat) (l : List Nat) : readyInsert (cleared s) p l = readyInsert s p l := by
  have hpe : ∀ q, maxPe (cleared s) q = maxPe s q := fun _ => rfl
  induction l with
  | nil => rfl
  | cons x xs ih => simp only [readyInsert, hpe, ih]

/-- The ready lists once an erased physical zone has entered its group's (R42). -/
def readyWith (s : State) (p : Nat) : ZrsState :=
  { s.zrs with ready := spPut s.zrs.ready (groupOf p) (readyInsert s p ((spFind s.zrs.ready (groupOf p)).getD [])) }

/-- An erased physical zone enters its group's ready list. -/
theorem completes_addReady {p : Nat} {s : State} (hw : Works s) (hm : mayBeReady s p = true) :
    Completes (.zrsCommandPortRequest (.addReady p)) s fun t => t.zrs = readyWith s p ∧ Only s t [.zrs] [] := by
  have hm' : mayBeReady (cleared s) p = true := hm
  have hrun : onZrsCommandPortRequest (.addReady p) (cleared s) = { cleared s with zrs := readyWith s p } := by
    simp only [onZrsCommandPortRequest, hm', if_true, readyInsert_cleared]
    rfl
  exact completes_runIn (f := onZrsCommandPortRequest (.addReady p)) rfl hw.1 hw.2 hrun
    ⟨settle_zrs _, only_settle (only_cleared (only_changed (cleared s)))⟩

/-- ZRS once a record of the journal is put back over the entries of a zone, which is held no more (R42, R79). -/
def rewrittenZrs (s : State) (e : Nat) (j : ZoneJournal) (z : ZstEntry) : ZrsState :=
  { (putZst (putZmap s e j.map) j.map.pzn z).zrs with heldZones := dropAll s.zrs.heldZones e }

/-- A held zone is rewritten from the journal. -/
theorem completes_rewrite {e : Nat} {j : ZoneJournal} {z : ZstEntry} {s : State} (hw : Works s) (hwait : waitingOf s e = [])
    (hj : spFind s.jrn.zones e = some j) (hz : j.zst = some z) (hh : s.zrs.held = []) :
    Completes (.zrsCommandPortRequest (.rewrite e)) s fun t =>
      zmapOf t e = j.map ∧ zstOf t j.map.pzn = sealedZst z ∧ t.zrs.heldZones = dropAll s.zrs.heldZones e ∧ Only s t [.zrs] [] := by
  have hwait' : waitingOf (cleared s) e = [] := hwait
  have hj' : spFind (cleared s).jrn.zones e = some j := hj
  have hrun : onZrsCommandPortRequest (.rewrite e) (cleared s) = { cleared s with zrs := rewrittenZrs s e j z } := by
    simp only [onZrsCommandPortRequest, hwait', hj', hz, List.getLast?_nil]
    exact wakeHeld_none (s := { cleared s with zrs := rewrittenZrs s e j z }) hh e
  refine completes_runIn (f := onZrsCommandPortRequest (.rewrite e)) rfl hw.1 hw.2 hrun
    ⟨?_, ?_, ?_, only_settle (only_cleared (only_changed (cleared s)))⟩
  · rw [zmapOf, settle_zrs]
    exact spGet_set_same _ _ _ _
  · rw [zstOf, settle_zrs]
    exact spGet_set_same _ _ _ _
  · rw [settle_zrs]
    rfl

theorem zoneState_of_zrs {s t : State} (h : t.zrs = s.zrs) (e : Nat) : zoneState t e = zoneState s e := by
  have hb : boundZone t e = boundZone s e := boundZone_kept (by rw [h]; exact ⟨rfl, rfl, rfl, rfl⟩) e
  have hm : zmapOf t e = zmapOf s e := congrArg (fun z : ZrsState => spGet _ z.map e) h
  simp only [zoneState, hb, hm]

theorem zoneState_settle (s : State) (e : Nat) : zoneState (settle s) e = zoneState s e := zoneState_of_zrs (settle_zrs s) e

/-- Under an unchanged Zone Map a bound zone's entry is that of its physical zone. -/
theorem boundZone_at {s t : State} {e p : Nat} {z : ZstEntry} (hmap : t.zrs.map = s.zrs.map) (hb : (zmapOf s e).bound = true)
    (hp : (zmapOf s e).pzn = p) (hz : zstOf t p = z) : boundZone t e = some (p, z) := by
  have hm : zmapOf t e = zmapOf s e := congrArg (spGet _ · e) hmap
  simp only [boundZone, hm, hb, hp, hz, if_true]

/-- The entry of a zone that the media took to Read Only with nothing of it in flight (R294). -/
def readOnlyEntry (z : ZstEntry) : ZstEntry := { z with wpHost := durableOffsets z, state := .readOnly }

/-- A Full zone without a write, a Reset or a Finish in flight goes to Read Only. -/
theorem mediaState_full {s u : State} {e p : Nat} {z : ZstEntry} (hb : boundZone s e = some (p, z)) (hf : z.state = .full)
    (hi : incomplete s e = []) (hop : spFind s.zrs.ops e = none) (hu : releaseLinger (leaveCam s e) e = u) (hv : resvOf u e = none)
    (hbu : boundZone u e = some (p, z)) (hl : relocOf u p = none) :
    mediaState s e .readOnly = journalZone (zoneChanged (dropZoneWork { putZst u p (readOnlyEntry z) with zrs :=
      { (putZst u p (readOnlyEntry z)).zrs with padReqs := spErase u.zrs.padReqs e } } p) e) e := by
  have hresv : freeResv u e = u := by simp only [freeResv, hv]
  have hmod : modZone u e readOnlyEntry = putZst u p (readOnlyEntry z) := modZone_alone hbu hl _
  unfold readOnlyEntry at hmod
  simp only [mediaState, hb, hi, hop, hf, forEach, List.foldl_nil, reduceCtorEq, if_false, hu, hresv, hmod]
  rfl

/-- A Full zone of no namespace, with nothing of it on chip or in flight, goes to Read Only: the Zone Map stays, and its entry follows. -/
theorem mediaState_readOnly_shape {s : State} {e p : Nat} {z : ZstEntry} (hb : boundZone s e = some (p, z)) (hf : z.state = .full)
    (hr : s.tkr.retired = []) (hi : incomplete s e = []) (hop : spFind s.zrs.ops e = none) (hl : relocOf s p = none) (hv : resvOf s e = none)
    (hcam : spFind s.zrs.cam e = none) (hns : nsOfEzn s e = none) (ha : s.sbg.accums = []) :
    ∃ y j c b q k, mediaState s e .readOnly = { s with zrs := y, jrn := j, cph := c, sbg := b, sch := q, mep := k } ∧
      y.map = s.zrs.map ∧ spGet freshZst y.zst p = sealedZst (readOnlyEntry z) := by
  obtain ⟨l1, c1, h1⟩ := releaseLinger_shape hr e
  let u : State := { s with zrs := { s.zrs with linger := l1 }, cph := c1 }
  have hu : releaseLinger (leaveCam s e) e = u := by
    have hleave : leaveCam s e = s := by simp only [leaveCam, hcam]
    rw [hleave, h1]
  let v : State := { putZst u p (readOnlyEntry z) with zrs := { (putZst u p (readOnlyEntry z)).zrs with padReqs := spErase u.zrs.padReqs e } }
  obtain ⟨g, b, q, k, h2⟩ := dropZoneWork_shape (s := v) ha p
  have hns' : nsOfEzn (dropZoneWork v p) e = none := by rw [h2]; exact hns
  have hchanged : zoneChanged (dropZoneWork v p) e = dropZoneWork v p := by simp only [zoneChanged, hns']
  obtain ⟨j, h3, -⟩ := journalZone_shape (dropZoneWork v p) e
  have hrun : mediaState s e .readOnly = journalZone (zoneChanged (dropZoneWork v p) e) e := mediaState_full hb hf hi hop hu hv hb hl
  refine ⟨{ v.zrs with progs := g }, j, c1, b, q, k, by rw [hrun, hchanged, h3, h2]; rfl, rfl, ?_⟩
  exact spGet_set_same _ _ _ _

/-- What the port does to take a zone to Read Only whose entry ZRS can load. -/
theorem onZrsCommandPortRequest_readOnly {s : State} {e : Nat} (hb : (zmapOf s e).bound = true) (ho : (zoneState s e != .offline) = true)
    (hload : loadFault s e = none) : onZrsCommandPortRequest (.readOnly e) s = mediaState (cacheZone s e) e .readOnly := by
  simp only [onZrsCommandPortRequest, hb, ho, Bool.and_self, if_true, portLoad, hload]

/-- A Full zone of no namespace goes to Read Only at the port's request. -/
theorem completes_readOnly {e p : Nat} {z : ZstEntry} {s : State} (hw : Works s) (hr : s.tkr.retired = []) (hb : boundZone s e = some (p, z))
    (hret : (zmapOf s e).retired = false) (hf : z.state = .full) (hi : incomplete s e = []) (hop : spFind s.zrs.ops e = none)
    (hl : relocOf s p = none) (hv : resvOf s e = none) (hload : loadFault s e = none) (hcam : spFind s.zrs.cam e = none)
    (hns : nsOfEzn s e = none) (ha : s.sbg.accums = []) :
    Completes (.zrsCommandPortRequest (.readOnly e)) s fun t =>
      zoneState t e = .readOnly ∧ Only s t [.zrs, .jrn, .sch, .sbg, .mep, .cph, .free] [] := by
  obtain ⟨hbound, hp, -⟩ := boundZone_some hb
  have hoff : (zoneState (cleared s) e != .offline) = true := by
    have : zoneState (cleared s) e = .full := (zoneState_bound (s := cleared s) hb hret).trans hf
    rw [this]
    rfl
  obtain ⟨l, f, hcache⟩ := cacheZone_shape (cleared s) e
  let u : State := { cleared s with zrs := { s.zrs with cache := l }, free := f }
  obtain ⟨y, j, c, b, q, k, hm, hmap, hzst⟩ := mediaState_readOnly_shape (s := u) hb hf hr hi hop hl hv hcam hns ha
  have hrun : onZrsCommandPortRequest (.readOnly e) (cleared s) = mediaState u e .readOnly :=
    (onZrsCommandPortRequest_readOnly (s := cleared s) hbound hoff hload).trans (congrArg (mediaState · e .readOnly) hcache)
  refine completes_runIn (f := onZrsCommandPortRequest (.readOnly e)) rfl hw.1 hw.2 (hrun.trans hm)
    ⟨?_, only_settle (only_cleared (only_changed (cleared s) (hh := fun _ => rfl) (hm := fun _ => rfl)))⟩
  let v : State := { u with zrs := y, jrn := j, cph := c, sbg := b, sch := q, mep := k }
  have hv : boundZone v e = some (p, sealedZst (readOnlyEntry z)) := boundZone_at hmap hbound hp hzst
  have hvret : (zmapOf v e).retired = false := (congrArg ZoneMapEntry.retired (congrArg (spGet _ · e) hmap)).trans hret
  exact (zoneState_settle v e).trans (zoneState_bound hv hvret)

end Sys2Proof.Machine
end

section
/-!
PROOFS. The withdrawal of a physical zone (R296) and the page of the journal (R57, R58).
-/

namespace Sys2Proof.Machine

open Sys2Proof

theorem spFind_spMod_same {α : Type} (m : Sparse α) (i : Nat) (f : α → α) : spFind (spMod m i f) i = (spFind m i).map f := by
  unfold spMod
  cases hm : spFind m i with
  | none => exact hm
  | some v => exact spFind_put_same m i (f v)

theorem dropAll_contains (xs : List Nat) (x : Nat) : (dropAll xs x).contains x = false := by
  simp [dropAll]

theorem mem_addOnce (xs : List Nat) (x : Nat) : x ∈ addOnce xs x := by
  unfold addOnce
  split
  · simp_all
  · simp

/-- A fault sets its bit, and its record goes where the error log is. -/
theorem only_raiseErr (s : State) (f : Fld) (trig inst m : Nat) (ws : State → List Nat) :
    Only s (raiseErr s f trig inst m ws) [.csh] [f.addr, (F.cshMissed_total (trig - 1)).addr] := by
  unfold raiseErr
  split
  · exact only_refl _ _ _
  · exact only_mono (only_trans (only_setF s f 1) (only_raise _ trig inst m _)) (by simp) (by simp)

theorem flag_raiseErr (s : State) {f : Fld} (trig inst m : Nat) (ws : State → List Nat) (hf : f.hi < 64) (hl : f.lo ≤ f.hi)
    (ht : f.addr ≠ (F.cshMissed_total (trig - 1)).addr) : flag (raiseErr s f trig inst m ws) f = true := by
  unfold raiseErr
  split
  · assumption
  · have hone : 1 % 2 ^ (f.hi + 1 - f.lo) = 1 := Nat.mod_eq_of_lt (Nat.one_lt_two_pow (by omega))
    simp only [flag, setBit_eq, getF_raise _ _ _ _ _ ht, getF_setF_same _ _ _ hf hl, hone]
    rfl

/-- A physical zone that holds no zone is withdrawn at the port's request: Offline, in no ready list, and recorded. -/
theorem completes_withdraw {p : Nat} {s : State} (hw : Works s) (hb : (zstOf s p).bound = false) :
    Completes (.zrsCommandPortRequest (.withdraw p)) s fun t =>
      (zstOf t p).state = .offline ∧ (zstOf t p).bound = false ∧ p ∈ t.mhm.withdrawn ∧ flag t F.mhmErr_withdrawn = true ∧
        (((spFind t.zrs.ready (groupOf p)).getD []).contains p) = false ∧
        Only s t [.zrs, .mhm, .csh] [F.mhmErr_withdrawn.addr, (F.cshMissed_total 5).addr] := by
  let u : State := putZst (cleared s) p { zstOf s p with bound := false, state := .offline }
  let v : State := { u with
    zrs := { u.zrs with ready := spMod u.zrs.ready (groupOf p) fun l => dropAll l p }
    mhm := { u.mhm with withdrawn := addOnce u.mhm.withdrawn p } }
  let t : State := mhmFault v F.mhmErr_withdrawn (listAt 0 (zoneRecords (zstOf v p) p) 0)
  have hrun : onZrsCommandPortRequest (.withdraw p) (cleared s) = t := by
    have hb' : (zstOf (cleared s) p).bound = false := hb
    simp only [onZrsCommandPortRequest, hb', Bool.false_eq_true, if_false]
    rfl
  have hvt : Only v t [.csh] [F.mhmErr_withdrawn.addr, (F.cshMissed_total 5).addr] := only_raiseErr v _ 0x06 0 idMhm _
  have hzrs : t.zrs = v.zrs := hvt.1 .zrs (by decide)
  have hmhm : t.mhm = v.mhm := hvt.1 .mhm (by decide)
  have hentry : zstOf (settle t) p = sealedZst { zstOf s p with bound := false, state := .offline } := by
    rw [zstOf, settle_zrs, hzrs]
    exact spGet_set_same _ _ _ _
  refine completes_runIn (f := onZrsCommandPortRequest (.withdraw p)) rfl hw.1 hw.2 hrun ⟨?_, ?_, ?_, ?_, ?_, ?_⟩
  · rw [hentry]
  · rw [hentry]
  · rw [settle_mhm, hmhm]
    exact mem_addOnce _ _
  · rw [flag_settle _ (by decide)]
    exact flag_raiseErr v 0x06 0 idMhm _ (by decide) (by decide) (by decide)
  · rw [settle_zrs, hzrs]
    simp only [v, spFind_spMod_same]
    cases spFind u.zrs.ready (groupOf p) with
    | none => rfl
    | some l => exact dropAll_contains l p
  · have hsv : Only (cleared s) { cleared s with zrs := v.zrs, mhm := v.mhm } [.zrs, .mhm] [] := only_changed (cleared s)
    exact only_settle (only_cleared (only_mono (only_trans hsv hvt) (by simp) (by simp)))

/-- Only the host interface has changed, with what it put out; no slot is new and the submission queues are as they were. -/
def HostKept (s t : State) : Prop :=
  ∃ h o, t = { s with hif := h, out := s.out ++ o } ∧ h.slots ⊆ s.hif.slots ∧
    ∀ f, (spGet noFunc h.funcs f).sqs = (spGet noFunc s.hif.funcs f).sqs

theorem hostKept_refl (s : State) : HostKept s s := ⟨s.hif, [], by simp, fun _ h => h, fun _ => rfl⟩

theorem hostKept_trans {s t u : State} (h : HostKept s t) (k : HostKept t u) : HostKept s u := by
  obtain ⟨a, b, rfl, hslots, hsqs⟩ := h
  obtain ⟨c, d, rfl, kslots, ksqs⟩ := k
  exact ⟨c, b ++ d, by simp [List.append_assoc], fun _ hx => hslots (kslots hx), fun f => (ksqs f).trans (hsqs f)⟩

theorem hostKept_only {s t : State} (h : HostKept s t) : Only s t [.hif] [] := by
  obtain ⟨a, b, rfl, -, -⟩ := h
  exact only_mono (only_trans (only_changed s (h := a) (ps := [.hif])) (only_out _ _)) (by simp) (by simp)

/-- A bare command is bare under every change of the host interface that keeps the submission queues. -/
theorem bare_hostKept {s t : State} (h : HostKept s t) {n : Nat} {c : CmdSlot} (hb : Bare s n c) : Bare t n c := by
  obtain ⟨a, b, rfl, -, hsqs⟩ := h
  obtain ⟨hserved, hreserved, hpool, hingest, htags, hwaits, hdel, hheld, hstep⟩ := hb
  refine ⟨hserved, hreserved, hpool, hingest, htags, hwaits, ?_, hheld, hstep⟩
  show (spFind (spGet noFunc a.funcs c.func).sqs c.sqid).bind SubQ.deleting = none
  rw [hsqs]
  exact hdel

theorem spErase_subset {α : Type} (m : Sparse α) (i : Nat) : spErase m i ⊆ m := by
  induction m with
  | nil => exact fun _ h => h
  | cons x m ih =>
    obtain ⟨k, v⟩ := x
    simp only [spErase]
    split
    · exact fun _ h => List.mem_cons_of_mem _ (ih h)
    · exact List.cons_subset_cons _ ih

/-- The end of a bare command leaves everything but the host interface, where it opens no slot and touches no submission queue. -/
theorem hostKept_finish {s : State} {n : Nat} {c : CmdSlot} (hs : slotOf s n = some c) (hb : Bare s n c) (st : Status) :
    HostKept s (finish s n st) := by
  obtain ⟨hserved, -, -, -, -, -, hdel, -, hstep⟩ := id hb
  let s1 : State := { s with hif := { s.hif with slots := spErase s.hif.slots n } }
  let s2 : State := if c.silent then s1 else countCompletion s1 c st
  let s3 : State := if c.silent then s2 else postCqe s2 (cqeOf s2 c st)
  have h13 : HostOnly s1 s3 :=
    hostOnly_trans (hostOnly_ite (hostOnly_refl _) (hostOnly_countCompletion _ _ _)) (hostOnly_ite (hostOnly_refl _) (hostOnly_postCqe _ _))
  have h14 : HostOnly s1 (settleShutdown s3 c.func) := hostOnly_trans h13 (hostOnly_settleShutdown _ _)
  have hqueue : (spFind (funcOf s3 c.func).sqs c.sqid).bind SubQ.deleting = none := by rw [hostOnly_sqs h13]; exact hdel
  have hend : finish s n st = settleShutdown s3 c.func := by
    have hserved1 : servedBy s1 n = none := hserved
    have hstep3 : (settleShutdown s3 c.func).slk.stepping = false := (congrArg SlkState.stepping (hostOnly_slk h14)).trans hstep
    calc finish s n st = settleStepDown (settleShutdown (settleDeletion s3 c.func c.sqid) c.func) := by
          simp only [finish, hs, releaseBuffers_bare hb]
          simp only [s1] at hserved1
          simp only [hserved1]
          rfl
      _ = settleShutdown s3 c.func := by
          rw [settleDeletion_none hqueue]
          simp only [settleStepDown, hstep3, Bool.not_false, Bool.true_or, if_true]
  obtain ⟨a, b, he, hslots, hsqs⟩ := h14
  exact ⟨a, b, hend.trans he, hslots ▸ spErase_subset s.hif.slots n, hsqs⟩

/-- Bare commands of different slots end one after another: each slot of them is free, and only the host interface has changed. -/
theorem forEach_finish_bare {l : Sparse CmdSlot} (hl : (l.map (·.1)).Nodup) (st : CmdSlot → Status) (s : State)
    (hs : ∀ kv ∈ l, slotOf s kv.1 = some kv.2 ∧ Bare s kv.1 kv.2) :
    HostKept s (forEach l s fun s kv => finish s kv.1 (st kv.2)) ∧
      (∀ kv ∈ l, slotOf (forEach l s fun s kv => finish s kv.1 (st kv.2)) kv.1 = none) ∧
      ∀ m, m ∉ l.map (·.1) → slotOf (forEach l s fun s kv => finish s kv.1 (st kv.2)) m = slotOf s m := by
  induction l generalizing s with
  | nil => exact ⟨hostKept_refl s, by simp, fun _ _ => rfl⟩
  | cons x l ih =>
    obtain ⟨hx, hrest⟩ := List.nodup_cons.1 hl
    obtain ⟨hslot, hbare⟩ := hs x (by simp)
    have hkept := hostKept_finish hslot hbare (st x.2)
    obtain ⟨-, hfree, hothers, -⟩ := finish_bare hslot hbare (st x.2)
    have hne : ∀ kv ∈ l, kv.1 ≠ x.1 := fun kv hkv he => hx (List.mem_map.2 ⟨kv, hkv, he⟩)
    obtain ⟨ikept, ifree, iothers⟩ := ih hrest (finish s x.1 (st x.2)) fun kv hkv =>
      ⟨(hothers kv.1 (hne kv hkv)).trans (hs kv (List.mem_cons_of_mem _ hkv)).1, bare_hostKept hkept (hs kv (List.mem_cons_of_mem _ hkv)).2⟩
    refine ⟨hostKept_trans hkept ikept, fun kv hkv => ?_, fun m hm => ?_⟩
    · cases hkv with
      | head => exact (iothers x.1 hx).trans hfree
      | tail _ hkv => exact ifree kv hkv
    · simp only [List.map_cons, List.mem_cons, not_or] at hm
      exact (iothers m hm.2).trans (hothers m hm.1)

theorem spSorted_tail {α : Type} {x : Nat × α} {m : Sparse α} (h : spSorted (x :: m) = true) : spSorted m = true := by
  cases m with
  | nil => rfl
  | cons y m => exact (Bool.and_eq_true_iff.1 h).2

/-- The keys of a sorted table rise. -/
theorem lt_of_spSorted {α : Type} {x : Nat × α} {m : Sparse α} (h : spSorted (x :: m) = true) : ∀ kv ∈ m, x.1 < kv.1 := by
  induction m generalizing x with
  | nil => simp
  | cons y m ih =>
    have hxy : x.1 < y.1 := of_decide_eq_true (Bool.and_eq_true_iff.1 h).1
    intro kv hkv
    cases hkv with
    | head => exact hxy
    | tail _ hkv => exact hxy.trans (ih (spSorted_tail h) kv hkv)

theorem nodup_of_spSorted {α : Type} {m : Sparse α} (h : spSorted m = true) : (m.map (·.1)).Nodup := by
  induction m with
  | nil => exact List.nodup_nil
  | cons x m ih =>
    refine List.nodup_cons.2 ⟨fun hx => ?_, ih (spSorted_tail h)⟩
    obtain ⟨kv, hkv, he⟩ := List.mem_map.1 hx
    exact absurd he (Nat.ne_of_gt (lt_of_spSorted h kv hkv))

/-- Every entry of a sorted table is the one found under its key. -/
theorem spFind_of_mem {α : Type} {m : Sparse α} (h : spSorted m = true) : ∀ kv ∈ m, spFind m kv.1 = some kv.2 := by
  induction m with
  | nil => simp
  | cons x m ih =>
    intro kv hkv
    cases hkv with
    | head => exact if_pos rfl
    | tail _ hkv => exact (if_neg (Nat.ne_of_gt (lt_of_spSorted h kv hkv))).trans (ih (spSorted_tail h) kv hkv)

/-- A list of zones to which others are added is not empty once it holds one. -/
theorem foldl_addOnce_ne_nil {α : Type} (g : α → Nat) (l : List α) {a : List Nat} (h : a ≠ []) :
    l.foldl (fun a x => addOnce a (g x)) a ≠ [] := by
  induction l generalizing a with
  | nil => exact h
  | cons x l ih => exact ih (List.ne_nil_of_mem (mem_addOnce a (g x)))

/-- A zone is being written where a slot holds an admitted write of this device's own. -/
theorem writingZones_nil {s : State} :
    writingZones s = [] ↔ (s.hif.slots.filter fun kv => isWriteKind kv.2.kind && isAdmitted kv.2 && kv.2.remote.isNone) = [] := by
  unfold writingZones
  generalize (s.hif.slots.filter fun kv => isWriteKind kv.2.kind && isAdmitted kv.2 && kv.2.remote.isNone) = l
  cases l with
  | nil => simp
  | cons x l => simpa using foldl_addOnce_ne_nil (fun kv : Nat × CmdSlot => kv.2.ezn) l (List.ne_nil_of_mem (mem_addOnce [] x.2.ezn))

theorem writingZones_hostKept {s t : State} (h : HostKept s t) (hw : writingZones s = []) : writingZones t = [] := by
  obtain ⟨a, b, rfl, hslots, -⟩ := h
  rw [writingZones_nil] at hw ⊢
  rw [List.filter_eq_nil_iff] at hw ⊢
  exact fun kv hkv => hw kv (hslots hkv)

/-- The commands that wait for the journal's next page, and for no other device. -/
def pageWaiters (s : State) : Sparse CmdSlot := s.hif.slots.filter fun kv => kv.2.phase == .waitJournal && adminDone s kv.1

theorem spFind_none {α : Type} {m : Sparse α} {i : Nat} (h : ∀ kv ∈ m, kv.1 ≠ i) : spFind m i = none := by
  induction m with
  | nil => rfl
  | cons x m ih => exact (if_neg (h x (by simp)).symm).trans (ih fun kv hkv => h kv (List.mem_cons_of_mem _ hkv))

theorem adminDone_bare {s : State} {n : Nat} {c : CmdSlot} (h : Bare s n c) : adminDone s n = true := by
  obtain ⟨-, -, -, -, -, hwaits, -, -, -⟩ := h
  simp only [adminDone, spFind_none hwaits, Option.isNone_none]

/-- The commands that waited for the page have ended. -/
def waitersEnded (s : State) : State := forEach (pageWaiters s) s fun s kv => finish s kv.1 (kv.2.failed.getD .success)

/-- The state once the journal's page is programmed. -/
def withPage (s : State) : State := emit { s with jrn := pageTaken s.jrn } (.systemPage (systemHeader s.jrn))

/-- What the programming of the journal's page does where no RESTORE waits for it. -/
theorem onJournalPageProgram_waiting {s : State} (hw : s.jrn.waiting ≠ []) (hm : (waitersEnded (withPage s)).vfm.migOp = none) :
    onJournalPageProgram s = forEach (writingZones (waitersEnded (withPage s))) (waitersEnded (withPage s)) completeWrites := by
  have hwait : s.jrn.waiting.isEmpty = false := by simpa using hw
  have hpage : programPage s = withPage s := by simp only [programPage, hwait, Bool.false_eq_true, if_false, withPage]
  unfold waitersEnded pageWaiters at hm ⊢
  simp only [onJournalPageProgram, hwait, hpage, Bool.false_eq_true, if_false, hm]

theorem only_withPage (s : State) : Only s (withPage s) [.jrn] [] :=
  only_mono (only_trans (only_changed s (ps := [.jrn])) (only_emit _ _)) (by simp) (by simp)

/-- A page of the journal with no write behind it: every record is taken, and every zone management command that waited has ended. -/
theorem completes_pageOfCommands {s : State} (hw : Works s) (hsort : spSorted s.hif.slots = true) (hj : s.jrn.waiting ≠ [])
    (hz : writingZones s = []) (hm : s.vfm.migOp = none) (hb : ∀ kv ∈ s.hif.slots, kv.2.phase = .waitJournal → Bare s kv.1 kv.2) :
    Completes .journalPageProgram s fun t =>
      t.jrn = pageTaken s.jrn ∧ Output.systemPage (systemHeader s.jrn) ∈ t.out ∧
        (∀ kv ∈ s.hif.slots, kv.2.phase = .waitJournal → slotOf t kv.1 = none) ∧ Only s t [.jrn, .hif] [] := by
  let u : State := withPage (cleared s)
  have hwaiters : ∀ kv ∈ pageWaiters u, slotOf u kv.1 = some kv.2 ∧ Bare u kv.1 kv.2 := fun kv hkv => by
    obtain ⟨hmem, hwait⟩ := List.mem_filter.1 hkv
    exact ⟨spFind_of_mem hsort kv hmem, hb kv hmem (eq_of_beq (Bool.and_eq_true_iff.1 hwait).1)⟩
  have hnodup : ((pageWaiters u).map (·.1)).Nodup := (nodup_of_spSorted hsort).sublist (List.filter_sublist.map _)
  obtain ⟨hkept, hfree, -⟩ := forEach_finish_bare hnodup (fun c => c.failed.getD .success) u hwaiters
  change HostKept u (waitersEnded u) at hkept
  have hzones : writingZones (waitersEnded u) = [] := writingZones_hostKept hkept hz
  have hmig : (waitersEnded u).vfm = s.vfm := (hostKept_only hkept).1 .vfm (by decide)
  have hrun : onJournalPageProgram (cleared s) = waitersEnded u := by
    rw [onJournalPageProgram_waiting (s := cleared s) hj (by rw [hmig]; exact hm), hzones]
    rfl
  refine completes_runIn (f := onJournalPageProgram) rfl hw.1 hw.2 hrun ⟨?_, ?_, fun kv hkv hph => ?_, ?_⟩
  · rw [settle_jrn]
    exact (hostKept_only hkept).1 .jrn (by decide)
  · obtain ⟨a, b, he, -, -⟩ := hkept
    rw [he]
    exact mem_settle_out (List.mem_append_left _ (List.mem_append_right _ (List.mem_singleton.2 rfl)))
  · rw [slotOf_settle]
    have hdone : adminDone u kv.1 = true := adminDone_bare (hb kv hkv hph)
    exact hfree kv (List.mem_filter.2 ⟨hkv, by simp [hph, hdone]⟩)
  · exact only_settle (only_cleared (only_mono (only_trans (only_withPage _) (hostKept_only hkept)) (by simp) (by simp)))

/-- A run of one write that is done ends it. -/
theorem completeRun_single {s : State} {e n : Nat} {c : CmdSlot} (hd : writeDone s e c = true) :
    completeRun e [(n, c)] s = finish s n (c.failed.getD .success) := by
  simp only [completeRun, hd, if_true]

/-- An active zone's only incomplete write ends once a journalled durable point covers it, and nothing else changes. -/
theorem completeWrites_single {s : State} {e n : Nat} {c : CmdSlot} (hd : writeDone s e c = true) (hw : writesInOrder s e = [(n, c)])
    (hs : slotOf s n = some c) (hb : Bare s n c) (ha : isActiveState (zoneState s e) = true) (hh : s.zrs.held = []) :
    completeWrites s e = finish s n (c.failed.getD .success) := by
  have hsome : (incomplete s e).isEmpty = false := by
    cases hi : incomplete s e with
    | nil => simp [writesInOrder, hi] at hw
    | cons x xs => rfl
  have hzrs : (finish s n (c.failed.getD .success)).zrs = s.zrs := (finish_bare hs hb _).1.1 .zrs (by decide)
  have hactive : isActiveState (zoneState (finish s n (c.failed.getD .success)) e) = true := by
    rw [zoneState_of_zrs hzrs]
    exact ha
  simp only [completeWrites, hw, completeRun_single hd, hsome, hactive, Bool.not_true, Bool.and_false, Bool.false_eq_true, if_false]
  exact wakeHeld_none (by rw [hzrs]; exact hh) e

/-- With no command waiting for the page, none ends but the writes it covers. -/
theorem waitersEnded_none {s : State} (h : ∀ kv ∈ s.hif.slots, kv.2.phase ≠ .waitJournal) : waitersEnded s = s := by
  have hnone : pageWaiters s = [] := List.filter_eq_nil_iff.2 fun kv hkv => by simp [h kv hkv]
  simp only [waitersEnded, hnone, forEach, List.foldl_nil]

/-- A page of the journal whose one record covers the zone's one write: the write has ended. -/
theorem completes_pageOfWrite {e n : Nat} {j : ZoneJournal} {c : CmdSlot} {s : State} (hw : Works s) (hj : s.jrn.waiting = [.zone e j])
    (hh : s.zrs.held = []) (hm : s.vfm.migOp = none) (hz : writingZones s = [e]) (ho : writesInOrder s e = [(n, c)]) (hs : slotOf s n = some c)
    (hb : Bare s n c) (hd : writeDone { s with jrn := { s.jrn with zones := spPut s.jrn.zones e j } } e c = true)
    (ha : isActiveState (zoneState s e) = true) (hwait : ∀ kv ∈ s.hif.slots, kv.2.phase ≠ .waitJournal) :
    Completes .journalPageProgram s fun t =>
      spFind t.jrn.zones e = some j ∧ Ended s t n c (c.failed.getD .success) ∧ Only s t [.jrn, .hif] [] := by
  let u : State := withPage (cleared s)
  have hzones : u.jrn.zones = spPut s.jrn.zones e j := by
    have : u.jrn = pageTaken s.jrn := rfl
    simp only [this, pageTaken, hj, List.foldl_cons, List.foldl_nil, journalTake]
  have hdone : writeDone u e c = true := by
    simp only [writeDone, hzones] at hd ⊢
    exact hd
  have hended : waitersEnded u = u := waitersEnded_none (s := u) hwait
  have hcomplete : completeWrites u e = finish u n (c.failed.getD .success) := completeWrites_single hdone ho hs hb ha hh
  have hrun : onJournalPageProgram (cleared s) = finish u n (c.failed.getD .success) := by
    have hzu : writingZones u = [e] := hz
    have hsome : (cleared s).jrn.waiting ≠ [] := fun he => List.cons_ne_nil _ _ (hj.symm.trans he)
    rw [onJournalPageProgram_waiting hsome (by rw [hended]; exact hm), hended, hzu]
    exact hcomplete
  obtain ⟨honly, hfree, hothers, hpost⟩ := finish_bare (s := u) hs hb (c.failed.getD .success)
  refine completes_runIn (f := onJournalPageProgram) rfl hw.1 hw.2 hrun ⟨?_, ⟨?_, fun m hm => ?_, fun hcan => ?_⟩, ?_⟩
  · rw [settle_jrn, show (finish u n (c.failed.getD .success)).jrn = u.jrn from honly.1 .jrn (by decide), hzones]
    exact spFind_put_same _ _ _
  · rw [slotOf_settle]
    exact hfree
  · rw [slotOf_settle]
    exact hothers m hm
  · obtain ⟨dnr, hout⟩ := hpost hcan
    exact ⟨_, _, dnr, mem_settle_out hout⟩
  · exact only_settle (only_cleared (only_mono (only_trans (only_withPage _) honly) (by simp) (by simp)))

/-- Settles O24: a waiting Reset or Finish meets no incomplete write, so it is applied as at once; a page ends the commands that waited for it one by
one, and a write whose durable point it records; the port's requests each come to one shared step of the zone resolver. -/
theorem zoneOps : Obligations.ZoneOps := by
  unfold Obligations.ZoneOps
  refine ⟨?reset, ?finish, ?pageOfCommands, ?pageOfWrite, ?addReady, ?readOnly, ?withdraw, ?rewrite⟩
  case reset => exact fun _ _ _ _ _ _ => completes_waitedReset
  case finish => exact fun _ _ _ _ => completes_waitedFinish
  case pageOfCommands => exact fun _ => completes_pageOfCommands
  case pageOfWrite => exact fun _ _ _ _ _ => completes_pageOfWrite
  case addReady => exact fun _ _ => completes_addReady
  case readOnly => exact fun _ _ _ _ => completes_readOnly
  case withdraw => exact fun _ _ => completes_withdraw
  case rewrite => exact fun _ _ _ _ => completes_rewrite

end Sys2Proof.Machine
end

section
/-!
SUPPORT. What the take and the return of a buffer do (R374 to R378), in the classes that lie in the SRAM.
-/

namespace Sys2Proof.Machine

open Sys2Proof

/-- FREE of a class whose LOW is 0 takes its value and reports nothing. -/
theorem only_setFree {s : State} {k : Nat} (h : getF s (F.sbgPoolCfg_low k) = 0) (n : Nat) :
    Only s (setFree s k n) [] [(F.sbgPoolStat_free k).addr] := by
  have hfree := only_setF s (F.sbgPoolStat_free k) n
  have hmin := only_setF (setF s (F.sbgPoolStat_free k) n) (F.sbgPoolStat_minFree k) n
  simp only [setFree, h, Nat.not_lt_zero, false_and, if_false]
  split
  · exact only_mono (only_trans hfree hmin) (by simp) (by simp [F.sbgPoolStat_free, F.sbgPoolStat_minFree])
  · exact hfree

/-- FREE and MIN_FREE share their register with RESERVED, and leave it. -/
theorem getF_setFree_reserved {s : State} {k : Nat} (h : getF s (F.sbgPoolCfg_low k) = 0) (n : Nat) :
    getF (setFree s k n) (F.sbgPoolStat_reserved k) = getF s (F.sbgPoolStat_reserved k) := by
  have hfree : ∀ u : State, getF (setF u (F.sbgPoolStat_free k) n) (F.sbgPoolStat_reserved k) = getF u (F.sbgPoolStat_reserved k) := fun u =>
    getF_setF_bits u n rfl (by simp [F.sbgPoolStat_reserved]) (Or.inr (by simp [F.sbgPoolStat_reserved, F.sbgPoolStat_free]))
  have hmin : ∀ u : State, getF (setF u (F.sbgPoolStat_minFree k) n) (F.sbgPoolStat_reserved k) = getF u (F.sbgPoolStat_reserved k) := fun u =>
    getF_setF_bits u n rfl (by simp [F.sbgPoolStat_reserved]) (Or.inl (by simp [F.sbgPoolStat_reserved, F.sbgPoolStat_minFree]))
  simp only [setFree, h, Nat.not_lt_zero, false_and, if_false]
  split
  · rw [hmin, hfree]
  · exact hfree s

/-- A class whose head buffer is taken. -/
def headTaken (k : Nat) (p : Pool) : Pool :=
  { p with head := (linkOf k p p.head).toNat % 2 ^ 24, bits := spSet false p.bits p.head true }

/-- The state once the head buffer of a class is taken. -/
def popped (s : State) (k : Nat) : State := setFree (putPool s k (headTaken k (poolOf s k))) k (freeCount s k - 1)

theorem poolOf_congr {s t : State} (h : t.sbg = s.sbg) (k : Nat) : poolOf t k = poolOf s k :=
  congrArg (fun x : SbgState => spGet freshPool x.pools k) h

theorem poolOf_putPool (s : State) (k : Nat) (p : Pool) : poolOf (putPool s k p) k = p := spGet_set_same _ _ _ _

/-- What a class in the SRAM gives is in the registers and in the free lists. -/
theorem gives_congr {s t : State} {k i : Nat} (hk : k < 6) (hregs : t.regs = s.regs) (hsbg : t.sbg = s.sbg) (h : Gives s k i) : Gives t k i := by
  obtain ⟨hpop, hlow⟩ := h
  refine ⟨?_, (getF_congr hregs _).trans hlow⟩
  have hfree : freeCount t k = freeCount s k := getF_congr hregs _
  simp only [popBuf, headBad, if_pos hk, hfree, poolOf_congr hsbg] at hpop ⊢
  split at hpop
  · cases hpop
  · next hruns =>
    split at hpop
    · next hgood => simpa only [hruns, hgood, if_true, Bool.false_eq_true, if_false] using hpop
    · cases hpop

/-- A class that gives a buffer gives it to whoever asks. -/
theorem popBuf_gives {s : State} {k i : Nat} (hk : k < 6) (h : Gives s k i) (m : Nat) : popBuf s k m = (some i, popped s k) := by
  obtain ⟨hpop, -⟩ := h
  simp only [popBuf] at hpop ⊢
  split at hpop
  · cases hpop
  · next hruns =>
    split at hpop
    · next hgood =>
      obtain rfl := Option.some.inj hpop
      simp only [hruns, hgood, if_true, drawBuffer, if_pos hk, Bool.false_eq_true, if_false]
      rfl
    · cases hpop

theorem only_popped {s : State} {k i : Nat} (h : Gives s k i) : Only s (popped s k) [.sbg] [(F.sbgPoolStat_free k).addr] := by
  have hput : Only s (putPool s k (headTaken k (poolOf s k))) [.sbg] [] := only_changed s
  exact only_mono (only_trans hput (only_setFree (s := putPool s k (headTaken k (poolOf s k))) h.2 _)) (by simp) (by simp)

theorem getF_popped_reserved {s : State} {k i : Nat} (h : Gives s k i) :
    getF (popped s k) (F.sbgPoolStat_reserved k) = getF s (F.sbgPoolStat_reserved k) :=
  getF_setFree_reserved (s := putPool s k (headTaken k (poolOf s k))) h.2 _

theorem poolOf_popped {s : State} {k i : Nat} (h : Gives s k i) : poolOf (popped s k) k = headTaken k (poolOf s k) := by
  have hsbg : (popped s k).sbg = (putPool s k (headTaken k (poolOf s k))).sbg :=
    (only_setFree (s := putPool s k (headTaken k (poolOf s k))) h.2 _).1 .sbg (by decide)
  rw [poolOf_congr hsbg, poolOf_putPool]

/-- The buffer a class gives is its head, and is taken. -/
theorem bufTaken_popped {s : State} {k i : Nat} (h : Gives s k i) : bufTaken (poolOf (popped s k) k) i = true := by
  have hi : i = (poolOf s k).head := by
    obtain ⟨hpop, -⟩ := h
    simp only [popBuf] at hpop
    split at hpop
    · cases hpop
    · split at hpop
      · exact (Option.some.inj hpop).symm
      · cases hpop
  rw [poolOf_popped h, hi]
  exact spGet_set_same false (poolOf s k).bits _ true

theorem waitFor_none {s : State} (h : s.sbg.waits = []) (k : Nat) : waitFor s k = none := by
  simp only [waitFor, h, List.filter_nil, List.foldl_nil]

/-- A class with a buffer back at the head of its list. -/
def headBack (s : State) (k i : Nat) : Pool :=
  let p := poolOf s k
  { p with
    head := i, bits := spSet false p.bits i false
    links := spSet (freshLink k i) p.links i (mkLink k i (if freeCount s k = 0 then linkEnd else p.head)) }

theorem pushBuf_eq {k : Nat} (hk : k < 6) (s : State) (i : Nat) :
    pushBuf s k i = setFree (putPool s k (headBack s k i)) k (freeCount s k + 1) := by
  simp only [pushBuf, if_pos hk]
  rfl

/-- Whether a buffer can be given back is in the registers and in the state of SBG. -/
theorem canFree_congr {s t : State} {k i : Nat} (hregs : t.regs = s.regs) (hsbg : t.sbg = s.sbg) (h : CanFree s k i) : CanFree t k i := by
  have hcount : freeCount t k = freeCount s k := getF_congr hregs _
  have hlow : getF t (F.sbgPoolCfg_low k) = getF s (F.sbgPoolCfg_low k) := getF_congr hregs _
  simpa only [CanFree, poolOf_congr hsbg, hsbg, hcount, hlow] using h

theorem setFree_shape {s : State} {k : Nat} (h : getF s (F.sbgPoolCfg_low k) = 0) (n : Nat) : ∃ r, setFree s k n = { s with regs := r } := by
  simp only [setFree, h, Nat.not_lt_zero, false_and, if_false]
  split
  · exact ⟨_, rfl⟩
  · exact ⟨_, rfl⟩

theorem pushBuf_shape {s : State} {k i : Nat} (hk : k < 6) (h : CanFree s k i) : ∃ r g, pushBuf s k i = { s with regs := r, sbg := g } := by
  obtain ⟨-, -, -, -, -, -, hlow⟩ := h
  obtain ⟨r, hr⟩ := setFree_shape (s := putPool s k (headBack s k i)) hlow (freeCount s k + 1)
  exact ⟨r, _, (pushBuf_eq hk s i).trans hr⟩

/-- The return of a buffer keeps the accumulators and the requests that wait. -/
theorem pushBuf_sbg {s : State} {k i : Nat} (hk : k < 6) (h : CanFree s k i) :
    (pushBuf s k i).sbg = { s.sbg with pools := spSet freshPool s.sbg.pools k (headBack s k i) } := by
  obtain ⟨-, -, -, -, -, -, hlow⟩ := h
  rw [pushBuf_eq hk]
  exact (only_setFree (s := putPool s k (headBack s k i)) hlow _).1 .sbg (by decide)

/-- A buffer that can be given back goes on its class's list. -/
theorem freeBuf_can {s : State} {k i : Nat} (hk : k < 6) (h : CanFree s k i) (m : Nat) : freeBuf s k i m = pushBuf s k i := by
  obtain ⟨hlt, htaken, hqueued, hruns, hwaits0, -, -⟩ := id h
  have hwaits : (pushBuf s k i).sbg.waits = [] := by rw [pushBuf_sbg hk h]; exact hwaits0
  have hserve : serveWaits k 1 (pushBuf s k i) = pushBuf s k i := by simp only [serveWaits, waitFor_none hwaits]
  simp only [freeBuf, if_neg (Nat.not_le.2 hlt), htaken, hqueued, hruns, hserve, Bool.true_eq_false, Bool.false_eq_true, or_self, if_false]

theorem only_pushBuf {s : State} {k i : Nat} (hk : k < 6) (h : CanFree s k i) : Only s (pushBuf s k i) [.sbg] [(F.sbgPoolStat_free k).addr] := by
  obtain ⟨-, -, -, -, -, -, hlow⟩ := h
  have hput : Only s (putPool s k (headBack s k i)) [.sbg] [] := only_changed s
  rw [pushBuf_eq hk]
  exact only_mono (only_trans hput (only_setFree (s := putPool s k (headBack s k i)) hlow _)) (by simp) (by simp)

theorem bufTaken_pushBuf {s : State} {k i : Nat} (hk : k < 6) (h : CanFree s k i) : bufTaken (poolOf (pushBuf s k i) k) i = false := by
  have hpool : poolOf (pushBuf s k i) k = headBack s k i := by
    rw [poolOf, pushBuf_sbg hk h]
    exact spGet_set_same _ _ _ _
  rw [hpool]
  exact spGet_set_same false (poolOf s k).bits i false

/-- No flip is armed: none hits. -/
theorem flipHits_disarmed {s : State} (h : flag s F.mepFlip_arm = false) (target func : Nat) : flipHits s target func = false := by
  simp only [flipHits, h, Bool.false_and]

theorem poolOf_settle (s : State) (k : Nat) : poolOf (settle s) k = poolOf s k := poolOf_congr (settle_sbg s) k

end Sys2Proof.Machine
end

section
/-!
PROOFS. The blocks of writes: the ingest buffer of a fetched block (R22, R374), and the seal up to a byte and to the last (R319, R398).
-/

namespace Sys2Proof.Machine

open Sys2Proof

/-- A fetched block in its ingest buffer. -/
def ingested (i : Nat) (bytes : List Byte) : IngestBlock := ⟨i, bytesAt bytes 0 4096, crc32c (bytesAt bytes 0 4096), [], false, 0⟩

/-- The state once a block of a write is in the ingest buffer a class has given. -/
def blockIngested (s : State) (n b i : Nat) (c : CmdSlot) (bytes : List Byte) : State :=
  putSlot { popped s 4 with mep := { (popped s 4).mep with ingest := spPut (popped s 4).mep.ingest (blockKey n b) (ingested i bytes) } } n
    { c with fetched := addOnce c.fetched b }

/-- A write the data path serves is not another device's. -/
theorem remote_of_liveWrite {c : CmdSlot} {b : Nat} (h : liveWrite c b = true) : c.remote = none := by
  simp only [liveWrite, Bool.and_eq_true, Option.isNone_iff_eq_none] at h
  exact h.1.2

/-- A block of a write whose half-row has room, and which an ingest buffer is free for, is taken. -/
theorem takeBlock_takes {s : State} {n b p i : Nat} {bytes : List Byte} {c : CmdSlot} {z : ZstEntry} (hlive : liveWrite c b = true)
    (hnew : c.fetched.contains b = false) (hb : boundZone s c.ezn = some (p, z)) (hl : relocOf s p = none)
    (hring : (c.firstSlot + b) / hrSlots z.tier < z.durableHr + ringSlots z.tier) (hroom : accumRoom s p z.tier (c.firstSlot + b) = true)
    (hg : spFind s.mep.ingest (blockKey n b) = none) (hgives : Gives s 4 i) (hflip : flag s F.mepFlip_arm = false) :
    takeBlock s n b c bytes (crc32c (bytesAt bytes 0 4096)) false = blockIngested s n b i c bytes := by
  obtain ⟨-, -, hz⟩ := boundZone_some hb
  have hprog : progZone s p = p := by simp only [progZone, hl]
  have hdisarmed : flag (popped s 4) F.mepFlip_arm = false := by
    rw [flag, (only_popped hgives).2 _ (by decide) (by decide)]
    exact hflip
  have hfull : ¬((zstOf s p).durableHr + ringSlots (zstOf s p).tier ≤ (c.firstSlot + b) / hrSlots (zstOf s p).tier ∨
      accumRoom s p (zstOf s p).tier (c.firstSlot + b) = false) := by
    rw [hz, hroom]
    simpa using hring
  simp only [takeBlock, hb, hprog, hlive, hnew, Bool.not_true, Bool.false_and, Bool.or_false, Bool.false_eq_true, if_neg hfull, if_false, hg,
    popBuf_gives (by decide) hgives, flipHits_disarmed hdisarmed]
  rfl

/-- The host fetch of a write that runs here hands its block to the data path. -/
theorem onHostDataFetchCompletion_own {s : State} {n : Nat} {c : CmdSlot} (hs : slotOf s n = some c) (hr : c.remote = none)
    (hserved : servedBy s n = none) (b : Nat) (bytes : List Byte) (bad : Bool) :
    onHostDataFetchCompletion n b bytes bad s = takeBlock s n b c bytes (crc32c (bytesAt bytes 0 4096)) bad := by
  simp only [onHostDataFetchCompletion, hs, hr, hserved, Option.isSome_none, Bool.false_eq_true, if_false]

/-- A block of a write lands in its ingest buffer. -/
theorem completes_ingest {n b p i : Nat} {bytes : List Byte} {c : CmdSlot} {z : ZstEntry} {s : State} (hw : Works s) (hs : slotOf s n = some c)
    (hserved : servedBy s n = none) (hlive : liveWrite c b = true) (hnew : c.fetched.contains b = false) (hb : boundZone s c.ezn = some (p, z))
    (hl : relocOf s p = none) (hring : (c.firstSlot + b) / hrSlots z.tier < z.durableHr + ringSlots z.tier)
    (hroom : accumRoom s p z.tier (c.firstSlot + b) = true) (hg : spFind s.mep.ingest (blockKey n b) = none) (hgives : Gives s 4 i)
    (hflip : flag s F.mepFlip_arm = false) :
    Completes (.hostDataFetchCompletion n b bytes false) s fun t =>
      spFind t.mep.ingest (blockKey n b) = some (ingested i bytes) ∧ slotOf t n = some { c with fetched := addOnce c.fetched b } ∧
        bufTaken (poolOf t 4) i = true ∧ (∀ m, m ≠ n → slotOf t m = slotOf s m) ∧
        Only s t [.mep, .hif, .sbg] [(F.sbgPoolStat_free 4).addr] := by
  have hgives' : Gives (cleared s) 4 i := gives_congr (s := s) (by decide) rfl rfl hgives
  have hpop := only_popped hgives'
  have hrun : onHostDataFetchCompletion n b bytes false (cleared s) = blockIngested (cleared s) n b i c bytes :=
    (onHostDataFetchCompletion_own (s := cleared s) hs (remote_of_liveWrite hlive) hserved b bytes false).trans
      (takeBlock_takes (s := cleared s) hlive hnew hb hl hring hroom hg hgives' hflip)
  refine completes_runIn (f := onHostDataFetchCompletion n b bytes false) rfl hw.1 hw.2 hrun ⟨?_, ?_, ?_, fun m hm => ?_, ?_⟩
  · rw [settle_mep]
    exact spFind_put_same _ _ _
  · rw [slotOf_settle]
    exact slotOf_putSlot_same _ _ _
  · rw [poolOf_settle]
    exact bufTaken_popped hgives'
  · rw [slotOf_settle, blockIngested, slotOf_putSlot_ne _ _ hm]
    exact congrArg (fun h : HifState => spFind h.slots m) (hpop.1 .hif (by decide))
  · have htake : Only (popped (cleared s) 4) (blockIngested (cleared s) n b i c bytes) [.mep, .hif] [] :=
      only_trans (only_changed _ (ps := [.mep])) (only_putSlot _ _ _)
    exact only_settle (only_cleared (only_mono (only_trans hpop htake) (by simp) (by simp)))

/-- A context with the first bytes of a block sealed under it. -/
def sealing (s : State) (n b : Nat) (c : CmdSlot) (x : Ctx) (g : IngestBlock) (key : List Byte) (upto : Nat) : Ctx :=
  { x with
    cond := .block, used := s.cph.useClock + 1
    blk := some (sealChunk key (blockNonce s c b) (blockAad s c b) g.data upto (freshBlock s n b (keyVersion s x.keySlot) c)) }

/-- The state once a pipe has taken a block's key and sealed its first bytes. -/
def sealedUpTo (s : State) (n b i : Nat) (c : CmdSlot) (x : Ctx) (g : IngestBlock) (key : List Byte) (upto : Nat) : State :=
  putCtx (touchKey s x.keySlot (keyVersion s x.keySlot)) i (sealing s n b c x g key upto)

theorem only_sealedUpTo (s : State) (n b i : Nat) (c : CmdSlot) (x : Ctx) (g : IngestBlock) (key : List Byte) (upto : Nat) :
    Only s (sealedUpTo s n b i c x g key upto) [.cph] [] := by
  have htouch : Only s (touchKey s x.keySlot (keyVersion s x.keySlot)) [.cph] [] := only_changed s
  exact only_mono (only_trans htouch (only_changed _ (ps := [.cph]))) (by simp) (by simp)

/-- What CPH does with the next block of a zone: it seals its first bytes, and where they are all of it the block is done. -/
theorem onBlockSeal_next {s : State} {n b p i upto : Nat} {c : CmdSlot} {z : ZstEntry} {x : Ctx} {g : IngestBlock} {key : List Byte}
    (h : CanSeal s n b p i c z x g key) (hpos : 0 < upto) :
    onBlockSeal n b upto none .none s =
      if min upto 4096 < 4096 then sealedUpTo s n b i c x g key (min upto 4096)
      else sealDone (sealedUpTo s n b i c x g key (min upto 4096)) n b i p c (sealing s n b c x g key (min upto 4096)) g
        (sealChunk key (blockNonce s c b) (blockAad s c b) g.data (min upto 4096) (freshBlock s n b (keyVersion s x.keySlot) c)) key (blockAad s c b)
        (seqWord (zmapOf s c.ezn).epoch (devId s)) := by
  obtain ⟨-, hs, hlive, hfetched, hb, hl, hnext, hctx, hx, hres, hblk, hg, hkey, hcached⟩ := h
  have hprog : progZone s p = p := by simp only [progZone, hl]
  have hx' : spGet noCtx s.cph.ctxs i = x := by simp only [spGet, hx, Option.getD_some]
  have hn : ¬min upto 4096 ≤ 0 := by omega
  have hzmap : zmapOf (touchKey s x.keySlot (keyVersion s x.keySlot)) c.ezn = zmapOf s c.ezn := rfl
  have hdev : devId (touchKey s x.keySlot (keyVersion s x.keySlot)) = devId s := rfl
  have hclock : (touchKey s x.keySlot (keyVersion s x.keySlot)).cph.useClock = s.cph.useClock + 1 := rfl
  simp only [onBlockSeal, hs, hb, hctx, hg, hprog, hx', hlive, hfetched, hnext, hres, hblk, hkey, hcached, beq_self_eq_true, Bool.true_or,
    Bool.not_true, Bool.or_false, Bool.false_eq_true, if_false, reduceCtorEq, or_self, Option.getD_none, if_neg hn]
  simp only [sealedUpTo, sealing, hres, hzmap, hdev, hclock]

/-- The first bytes of a block are sealed: they are in its zone's context. -/
theorem completes_partSeal {n b p i upto : Nat} {c : CmdSlot} {z : ZstEntry} {x : Ctx} {g : IngestBlock} {key : List Byte} {s : State}
    (h : CanSeal s n b p i c z x g key) (hpos : 0 < upto) (hlt : upto < 4096) :
    Completes (.blockSeal n b upto none .none) s fun t => spFind t.cph.ctxs i = some (sealing s n b c x g key upto) ∧ Only s t [.cph] [] := by
  have hcleared : CanSeal (cleared s) n b p i c z x g key := h
  have hmin : min upto 4096 = upto := Nat.min_eq_left hlt.le
  have hrun : onBlockSeal n b upto none .none (cleared s) = sealedUpTo (cleared s) n b i c x g key upto := by
    rw [onBlockSeal_next hcleared hpos, hmin, if_pos hlt]
  refine completes_runIn (f := onBlockSeal n b upto none .none) rfl h.1.1 h.1.2 hrun ⟨?_, ?_⟩
  · rw [settle_cph]
    exact spFind_put_same _ _ _
  · exact only_settle (only_cleared (only_sealedUpTo _ _ _ _ _ _ _ _ _))

end Sys2Proof.Machine
end

section
/-!
PROOFS. The end of a seal (R319, R323, R398): the sealed copy of a block in its place, and in its parity group (R382).
-/

namespace Sys2Proof.Machine

open Sys2Proof

theorem leBytes_length (n x : Nat) : (leBytes n x).length = n := by
  induction n generalizing x with
  | zero => rfl
  | succ n ih => simp only [leBytes, List.length_cons, ih]

/-- The low bytes of a number spell it modulo their range. -/
theorem ofLe_leBytes (n x : Nat) : ofLe (leBytes n x) = x % 256 ^ n := by
  induction n generalizing x with
  | zero => simp [leBytes, ofLe, Nat.mod_one]
  | succ n ih =>
    have hlow : (BitVec.ofNat 8 x).toNat = x % 256 := BitVec.toNat_ofNat x 8
    rw [leBytes, ofLe, ih, hlow, pow_succ', Nat.mod_mul]

theorem leBytes_mod (n x : Nat) : leBytes n (x % 256 ^ n) = leBytes n x := by
  induction n generalizing x with
  | zero => rfl
  | succ n ih =>
    have hlow : BitVec.ofNat 8 (x % 256 ^ (n + 1)) = BitVec.ofNat 8 x := by
      apply BitVec.eq_of_toNat_eq
      simp only [BitVec.toNat_ofNat]
      exact Nat.mod_mod_of_dvd x (Dvd.intro_left (256 ^ n) rfl)
    have hhigh : x % 256 ^ (n + 1) / 256 = x / 256 % 256 ^ n := by rw [pow_succ', Nat.mod_mul_right_div_self]
    simp only [leBytes, hlow, hhigh, ih]

theorem ofBe_beBytes (n x : Nat) : ofBe (beBytes n x) = x % 256 ^ n := by
  have hrev : ∀ l : List Byte, ofBe l.reverse = ofLe l := fun l => by
    induction l with
    | nil => rfl
    | cons b l ih =>
      simp only [ofBe, List.reverse_cons, List.foldl_append, List.foldl_cons, List.foldl_nil] at ih ⊢
      rw [ih, ofLe, Nat.add_comm]
  rw [beBytes, hrev, ofLe_leBytes]

/-- A nonce of twelve bytes is the number a context keeps of it. -/
theorem beBytes_nonce (x : Nat) : beBytes 12 (BitVec.ofNat 96 (ofBe (beBytes 12 x))).toNat = beBytes 12 x := by
  have hmod : x % 256 ^ 12 % 2 ^ 96 = x % 256 ^ 12 := Nat.mod_mod x (256 ^ 12)
  rw [ofBe_beBytes, BitVec.toNat_ofNat, hmod, beBytes, leBytes_mod, beBytes]

/-- A header at the front of the additional data is read back. -/
theorem leAt_leBytes (w : Word) (l : List Byte) : BitVec.ofNat 64 (leAt (leBytes 8 w.toNat ++ l) 0 8) = w := by
  have hbytes : bytesAt (leBytes 8 w.toNat ++ l) 0 8 = leBytes 8 w.toNat := by
    simp [bytesAt, leBytes_length]
  apply BitVec.eq_of_toNat_eq
  rw [leAt, hbytes, ofLe_leBytes, BitVec.toNat_ofNat]
  have := w.isLt
  omega

/-- What the staging of a block writes of the staging buffer: its place, and the parity of its bytes. -/
theorem freshStaged_shape (s : State) (a : Option Nat) :
    ∃ m, freshStaged s a = { s with mep := m } ∧ m.staged = s.mep.staged ∧ m.ingest = s.mep.ingest := by
  cases a with
  | none => exact ⟨s.mep, rfl, rfl, rfl⟩
  | some a => exact ⟨_, rfl, rfl, rfl⟩

/-- A slot of the group is still to come: neither in the accumulator, nor filler, nor staged. -/
def groupWaits (staged : Sparse StagedBlock) (p : Nat) (z : ZstEntry) (k : Nat) (a : Accum) : Bool :=
  (groupSlots z.tier (k / hrSlots z.tier) (k % hrSlots z.tier / 120)).any fun j =>
    j != k && !a.slots.contains j && !slotFiller z j && (spFind staged (stageKey p j)).isNone

theorem stageKey_inj {p j k : Nat} (h : stageKey p j = stageKey p k) : j = k := Nat.add_left_cancel h

/-- A block joins the accumulator of a group of which other slots are still to come. -/
theorem accumulate_waits {s : State} {p k : Nat} {z : ZstEntry} {a : Accum} {bytes : List Byte} {old : Sparse StagedBlock} {b : StagedBlock}
    (hz : zstOf s p = z) (ha : accumOf s p (k / hrSlots z.tier) (k % hrSlots z.tier / 120) = some a)
    (hm : s.mep.staged = spPut old (stageKey p k) b)
    (hwaits : groupWaits old p z k a = true) :
    ∃ a', accumulate s p z.tier k bytes = putAccum s a' := by
  obtain ⟨j, hj, hjw⟩ := List.any_eq_true.1 hwaits
  simp only [Bool.and_eq_true, bne_iff_ne, Bool.not_eq_true', Option.isNone_iff_eq_none] at hjw
  obtain ⟨⟨⟨hjk, hslot⟩, hfiller⟩, hnone⟩ := hjw
  have hstaged : spFind s.mep.staged (stageKey p j) = none := by
    rw [hm, spFind_put_ne _ _ fun he => hjk (stageKey_inj he)]
    exact hnone
  have hadd : (addOnce a.slots k).contains j = false := by
    unfold addOnce
    split
    · exact hslot
    · simp only [List.contains_append, hslot, Bool.false_or]
      simpa using hjk
  let a' : Accum := { a with
    parts := listSet a.parts (k % 8) (xorBytes (listAt [] a.parts (k % 8)) bytes), slots := addOnce a.slots k, since := s.clk.us }
  have hpart : ((groupSlots z.tier (k / hrSlots z.tier) (k % hrSlots z.tier / 120)).all fun i =>
      a'.slots.contains i || slotFiller z i || (spFind s.mep.staged (stageKey p i)).isSome) = false := by
    rw [List.all_eq_false]
    exact ⟨j, hj, by simp only [a', hadd, hfiller, hstaged, Option.isSome_none, Bool.or_self, Bool.false_eq_true, not_false_iff]⟩
  refine ⟨a', ?_⟩
  simp only [accumulate, takeAccum, ha, hz]
  exact if_neg (by rw [hpart]; exact Bool.false_ne_true)

/-- A new copy is staged and joins its parity group. -/
theorem stageBlock_new {s : State} {p k : Nat} {z : ZstEntry} {a : Accum} {b : StagedBlock} (hz : zstOf s p = z)
    (hnew : spFind s.mep.staged (stageKey p k) = none) (hb : b.parityBad = [])
    (ha : accumOf s p (k / hrSlots z.tier) (k % hrSlots z.tier / 120) = some a) (hwaits : groupWaits s.mep.staged p z k a = true) :
    ∃ m g, stageBlock s p z.tier k b = { s with mep := m, sbg := g } ∧ m.staged = spPut s.mep.staged (stageKey p k) b ∧
      m.ingest = s.mep.ingest ∧ g.pools = s.sbg.pools := by
  let u : State := { s with mep := { s.mep with staged := spPut s.mep.staged (stageKey p k) b } }
  obtain ⟨m, hm, hstaged, hingest⟩ := freshStaged_shape u (slotAddr s p k)
  let v : State := { s with mep := { m with dramBad := m.dramBad ++ [] } }
  obtain ⟨a', ha'⟩ := accumulate_waits (s := v) (bytes := infoBytes b) (b := b) (old := s.mep.staged) hz ha hstaged hwaits
  refine ⟨v.mep, (putAccum v a').sbg, ?_, hstaged, hingest, rfl⟩
  have hfresh : { b with parityBad := [] } = b := by rw [← hb]
  have hrun : stageBlock s p z.tier k b = accumulate v p z.tier k (infoBytes b) := by
    unfold stageBlock
    simp only [hnew, Option.map_none]
    cases haddr : slotAddr s p k with
    | none =>
      rw [haddr] at hm
      simp only [u] at hm
      simp only [hm]
      rfl
    | some x =>
      rw [haddr] at hm
      simp only [u] at hm
      simp only [hb, List.map_nil, hfresh, hm]
      rfl
  rw [hrun, ha']
  rfl

/-- The queue of a die and the bay it asks for are all that a request for work on it changes. -/
theorem topUpZone_shape (s : State) (p : Nat) : ∃ q y, topUpZone s p = { s with sch := q, bay := y } := by
  refine forEach_rel (R := fun s t => ∃ q y, t = { s with sch := q, bay := y }) (fun s => ⟨s.sch, s.bay, rfl⟩) ?_ (fun s m => ?_) _ s
  · rintro s t u ⟨q, y, rfl⟩ ⟨q', y', rfl⟩
    exact ⟨q', y', rfl⟩
  · have hbay : ∀ (u : State) (b : Nat), ∃ y, requestBay u b = { u with bay := y } := fun u b => by
      unfold requestBay
      dsimp only
      split
      · exact ⟨u.bay, rfl⟩
      · split
        · exact ⟨_, rfl⟩
        · exact ⟨_, rfl⟩
        · exact ⟨_, rfl⟩
        · exact ⟨u.bay, rfl⟩
    have hqueue : ∀ (u : State) (d : Nat) (e : DieEntry), ∃ q y, enqueue u d e = { u with sch := q, bay := y } := fun u d e => by
      unfold enqueue
      dsimp only
      split
      · exact ⟨_, u.bay, rfl⟩
      · obtain ⟨y, hy⟩ := hbay _ _
        exact ⟨_, y, hy⟩
    unfold topUp
    dsimp only
    split
    · exact ⟨s.sch, s.bay, rfl⟩
    · split
      · exact hqueue _ _ _
      · exact ⟨s.sch, s.bay, rfl⟩

theorem only_schBay (s : State) (q : SchState) (y : BayState) : Only s { s with sch := q, bay := y } [.sch, .bay] [] := by
  refine ⟨fun p hp => ?_, fun _ _ _ => rfl⟩
  cases p
  case sch => simp at hp
  case bay => simp at hp
  all_goals rfl

end Sys2Proof.Machine
end

section
/-!
PROOFS. The last byte of a block under seal (R319, R323, R398): checks, the staging write, and what CPH gives back.
-/

namespace Sys2Proof.Machine

open Sys2Proof

/-- A context whose block is sealed. -/
def idleCtx (x : Ctx) : Ctx := { x with blk := none, cond := .idle }

/-- The block that CPH hands to staging: the ciphertext of a context's block with its header, SEQ, SEAL and TAG. -/
def stagedOf (y : CtxBlock) (key aad : List Byte) (seq : Nat) : StagedBlock :=
  ⟨y.cipher, BitVec.ofNat 64 (leAt aad 0 8), BitVec.ofNat 32 seq, sealOf y.cipher seq,
    BitVec.ofNat 128 (ofBe (gcmTag key (beBytes 12 y.nonce.toNat) aad y.cipher)), [], false, 0, false⟩

/-- A sealed block's context is idle and its ingest entry gone. -/
def sealEnded (s : State) (n b i : Nat) (x : Ctx) : State :=
  { s with
    mep := { s.mep with ingest := spErase s.mep.ingest (blockKey n b) }
    cph := { s.cph with ctxs := spPut s.cph.ctxs i (idleCtx x) } }

/-- The state before the staging write: the block's ingest buffer is free, and its command knows that the block is sealed and staged. -/
def sealGivesBack (s : State) (n b i : Nat) (c : CmdSlot) (x : Ctx) (g : IngestBlock) : State :=
  putSlot (pushBuf (sealEnded s n b i x) 4 g.buf) n { c with sealed := addOnce c.sealed b, staged := addOnce c.staged b }

/-- The state once the staging write has changed the staging memory and asked the dies for their programs. -/
def stagingLeaves (s : State) (m : MepState) (k : SbgState) (q : SchState) (d : BayState) : State := { s with mep := m, sbg := k, sch := q, bay := d }

theorem only_stagingLeaves (s : State) (m : MepState) (k : SbgState) (q : SchState) (d : BayState) :
    Only s (stagingLeaves s m k q d) [.mep, .sbg, .sch, .bay] [] := by
  have hstage : Only s { s with mep := m, sbg := k } [.mep, .sbg] [] := only_changed s
  exact only_mono (only_trans hstage (only_schBay _ q d)) (by simp) (by simp)

theorem resumeTkr_running {s : State} (h : s.tkr.waiting = false) : resumeTkr s = s := by
  simp only [resumeTkr, h, Bool.false_and, Bool.false_eq_true, if_false]

theorem padIfStaged_none {s : State} {e : Nat} (h : spFind s.zrs.padReqs e = none) : padIfStaged s e = s := by
  simp only [padIfStaged, h]

theorem only_sealGivesBack {s : State} {n b i : Nat} {c : CmdSlot} {x : Ctx} {g : IngestBlock} (h : CanFree (sealEnded s n b i x) 4 g.buf) :
    Only s (sealGivesBack s n b i c x g) [.mep, .hif, .sbg, .cph] [(F.sbgPoolStat_free 4).addr] := by
  have hended : Only s (sealEnded s n b i x) [.mep, .cph] [] := only_changed s
  exact only_mono (only_trans (only_trans hended (only_pushBuf (by decide) h)) (only_putSlot _ _ _)) (by simp) (by simp)

section

variable {s : State} {n b i p seq : Nat} {c : CmdSlot} {x : Ctx} {g : IngestBlock} {y : CtxBlock} {key aad : List Byte} {z : ZstEntry} {a : Accum}

/-- A block whose bytes match their ICRC is staged where no copy of it is. -/
theorem sealDone_eq (hpar : g.parityBad = []) (hcrc : y.icrcRun ^^^ 0xFFFFFFFF#32 = g.icrc) (hz : zstOf s p = z)
    (hflip : flag s F.mepFlip_arm = false) (hret : s.tkr.retired = []) (hrun : s.tkr.waiting = false) (hfree : CanFree (sealEnded s n b i x) 4 g.buf)
    (hnew : spFind s.mep.staged (stageKey p (c.firstSlot + b)) = none) :
    sealDone s n b i p c x g y key aad seq =
      padIfStaged (topUpZone (stageBlock (sealGivesBack s n b i c x g) p z.tier (c.firstSlot + b) (stagedOf y key aad seq)) p) c.ezn := by
  have hidle : resumeTkr (sweepRetired (putCtx s i (idleCtx x))) = putCtx s i (idleCtx x) := by
    rw [sweepRetired_none (by exact hret), resumeTkr_running (by exact hrun)]
  have hmep : (sealGivesBack s n b i c x g).mep = (sealEnded s n b i x).mep := (only_pushBuf (by decide) hfree).1 .mep (by decide)
  have hnew' : spFind (sealGivesBack s n b i c x g).mep.staged (stageKey p (c.firstSlot + b)) = none := by rw [hmep]; exact hnew
  have hstage : stageSealed (putSlot (freeBuf (sealEnded s n b i x) 4 g.buf idHif) n
      { c with sealed := addOnce c.sealed b, staged := addOnce c.staged b }) n b p (c.firstSlot + b) z.tier (stagedOf y key aad seq) =
      stageBlock (sealGivesBack s n b i c x g) p z.tier (c.firstSlot + b) (stagedOf y key aad seq) := by
    rw [freeBuf_can (by decide) hfree]
    change stageSealed (sealGivesBack s n b i c x g) n b p (c.firstSlot + b) z.tier (stagedOf y key aad seq) = _
    simp only [stageSealed, hnew']
  unfold idleCtx at hidle
  simp only [sealDone, hpar, hcrc, hz, flipHits_disarmed hflip, hidle, List.isEmpty_nil, Bool.not_true, bne_self_eq_false,
    Bool.false_eq_true, if_false, if_true, Bool.or_self]
  exact congrArg (fun u => padIfStaged (topUpZone u p) c.ezn) hstage

/-- What the end of a seal leaves: the copy staged, the ingest entry gone, and work asked of the dies. -/
theorem sealDone_shape (hpar : g.parityBad = []) (hcrc : y.icrcRun ^^^ 0xFFFFFFFF#32 = g.icrc) (hz : zstOf s p = z)
    (hflip : flag s F.mepFlip_arm = false) (hret : s.tkr.retired = []) (hrun : s.tkr.waiting = false) (hfree : CanFree (sealEnded s n b i x) 4 g.buf)
    (hnew : spFind s.mep.staged (stageKey p (c.firstSlot + b)) = none) (hpad : spFind s.zrs.padReqs c.ezn = none)
    (ha : accumOf s p ((c.firstSlot + b) / hrSlots z.tier) ((c.firstSlot + b) % hrSlots z.tier / 120) = some a)
    (hwaits : groupWaits s.mep.staged p z (c.firstSlot + b) a = true) :
    ∃ m k q d, sealDone s n b i p c x g y key aad seq = stagingLeaves (sealGivesBack s n b i c x g) m k q d ∧
      m.staged = spPut s.mep.staged (stageKey p (c.firstSlot + b)) (stagedOf y key aad seq) ∧
      m.ingest = spErase s.mep.ingest (blockKey n b) ∧ k.pools = (pushBuf (sealEnded s n b i x) 4 g.buf).sbg.pools := by
  have hkept := only_sealGivesBack (c := c) hfree
  have hpush := only_pushBuf (by decide) hfree
  have hmep : (sealGivesBack s n b i c x g).mep = (sealEnded s n b i x).mep := hpush.1 .mep (by decide)
  have hzrs : (sealGivesBack s n b i c x g).zrs = s.zrs := hkept.1 .zrs (by decide)
  have hsbg : (sealGivesBack s n b i c x g).sbg = (pushBuf (sealEnded s n b i x) 4 g.buf).sbg := rfl
  have hz' : zstOf (sealGivesBack s n b i c x g) p = z := by rw [zstOf, hzrs]; exact hz
  have ha' : accumOf (sealGivesBack s n b i c x g) p ((c.firstSlot + b) / hrSlots z.tier) ((c.firstSlot + b) % hrSlots z.tier / 120) = some a := by
    rw [accumOf, hsbg, pushBuf_sbg (by decide) hfree]
    exact ha
  obtain ⟨m, k, hstage, hstaged, hingest, hpools⟩ := stageBlock_new (b := stagedOf y key aad seq) hz' (by rw [hmep]; exact hnew) rfl ha'
    (by rw [hmep]; exact hwaits)
  obtain ⟨q, d, htop⟩ := topUpZone_shape { sealGivesBack s n b i c x g with mep := m, sbg := k } p
  refine ⟨m, k, q, d, ?_, hstaged.trans (by rw [hmep]; rfl), hingest.trans (by rw [hmep]; rfl), hpools.trans (by rw [hsbg])⟩
  rw [sealDone_eq hpar hcrc hz hflip hret hrun hfree hnew, hstage, htop]
  exact padIfStaged_none (by show spFind (sealGivesBack s n b i c x g).zrs.padReqs c.ezn = none; rw [hzrs]; exact hpad)

end

/-- The copy that CPH stages of a whole block is the sealed copy of its bytes. -/
theorem stagedOf_sealChunk (s : State) (n b v : Nat) (c : CmdSlot) (key data : List Byte) :
    stagedOf (sealChunk key (blockNonce s c b) (blockAad s c b) data 4096 (freshBlock s n b v c)) key (blockAad s c b)
      (seqWord (zmapOf s c.ezn).epoch (devId s)) = sealedCopy s c b key data := by
  have hnonce : beBytes 12 (BitVec.ofNat 96 (ofBe (blockNonce s c b))).toNat = blockNonce s c b := beBytes_nonce _
  simp only [stagedOf, sealChunk, hnonce, leAt_leBytes]

/-- The last byte of a block is sealed: its copy is staged, and its buffer, its context and its command's record follow. -/
theorem completes_wholeSeal {n b p i upto : Nat} {c : CmdSlot} {z : ZstEntry} {x : Ctx} {g : IngestBlock} {key : List Byte} {a : Accum} {s : State}
    (h : CanSeal s n b p i c z x g key) (hupto : 4096 ≤ upto) (hpar : g.parityBad = []) (hcrc : crc32c (g.data.take 4096) = g.icrc)
    (hflip : flag s F.mepFlip_arm = false) (hfree : CanFree s 4 g.buf) (hret : s.tkr.retired = []) (hrun : s.tkr.waiting = false)
    (hpad : spFind s.zrs.padReqs c.ezn = none) (hnew : spFind s.mep.staged (stageKey p (c.firstSlot + b)) = none)
    (ha : accumOf s p ((c.firstSlot + b) / hrSlots z.tier) ((c.firstSlot + b) % hrSlots z.tier / 120) = some a)
    (hwaits : groupWaits s.mep.staged p z (c.firstSlot + b) a = true) :
    Completes (.blockSeal n b upto none .none) s fun t =>
      spFind t.mep.staged (stageKey p (c.firstSlot + b)) = some (sealedCopy s c b key g.data) ∧ spFind t.mep.ingest (blockKey n b) = none ∧
        bufTaken (poolOf t 4) g.buf = false ∧ slotOf t n = some { c with sealed := addOnce c.sealed b, staged := addOnce c.staged b } ∧
        spFind t.cph.ctxs i = some { x with blk := none, cond := .idle, used := s.cph.useClock + 1 } ∧
        Only s t [.mep, .hif, .sbg, .cph, .sch, .bay] [(F.sbgPoolStat_free 4).addr] := by
  have hcleared : CanSeal (cleared s) n b p i c z x g key := h
  obtain ⟨-, -, -, -, hb, -⟩ := id h
  obtain ⟨-, -, hz⟩ := boundZone_some hb
  let y := sealChunk key (blockNonce s c b) (blockAad s c b) g.data 4096 (freshBlock s n b (keyVersion s x.keySlot) c)
  let x' := sealing (cleared s) n b c x g key 4096
  let u := sealedUpTo (cleared s) n b i c x g key 4096
  have hfree' : CanFree (sealEnded u n b i x') 4 g.buf := canFree_congr (s := s) rfl rfl hfree
  obtain ⟨m, k, q, d, hdone, hstaged, hingest, hpools⟩ := sealDone_shape (s := u) (n := n) (i := i) (x := x') (y := y) (key := key)
    (aad := blockAad s c b) (seq := seqWord (zmapOf s c.ezn).epoch (devId s)) hpar hcrc hz hflip hret hrun hfree' hnew hpad ha hwaits
  have hseal : onBlockSeal n b upto none .none (cleared s) = stagingLeaves (sealGivesBack u n b i c x' g) m k q d := by
    rw [onBlockSeal_next hcleared (by omega), Nat.min_eq_right hupto, if_neg (Nat.lt_irrefl _)]
    exact hdone
  have hpush := only_pushBuf (by decide) hfree'
  refine completes_runIn (f := onBlockSeal n b upto none .none) rfl h.1.1 h.1.2 hseal ⟨?_, ?_, ?_, ?_, ?_, ?_⟩
  · rw [settle_mep]
    show spFind m.staged _ = _
    rw [hstaged, spFind_put_same, stagedOf_sealChunk]
  · rw [settle_mep]
    show spFind m.ingest _ = _
    rw [hingest, spFind_erase_same]
  · rw [poolOf_settle]
    have hpool : poolOf (stagingLeaves (sealGivesBack u n b i c x' g) m k q d) 4 =
        poolOf (pushBuf (sealEnded u n b i x') 4 g.buf) 4 :=
      congrArg (spGet freshPool · 4) hpools
    rw [hpool]
    exact bufTaken_pushBuf (by decide) hfree'
  · rw [slotOf_settle]
    exact slotOf_putSlot_same _ _ _
  · rw [settle_cph]
    have hcph : (sealGivesBack u n b i c x' g).cph = (sealEnded u n b i x').cph := hpush.1 .cph (by decide)
    show spFind (sealGivesBack u n b i c x' g).cph.ctxs i = _
    rw [hcph]
    exact spFind_put_same _ _ _
  · have hback := only_trans (only_sealedUpTo (cleared s) n b i c x g key 4096) (only_sealGivesBack (c := c) hfree')
    exact only_settle (only_cleared (only_mono (only_trans hback (only_stagingLeaves _ m k q d)) (by simp) (by simp)))

end Sys2Proof.Machine
end

section
/-!
PROOFS. The blocks of reads: the open of a staged copy into the read pool (R202, R321, R374), and the way to the host (R326).
-/

namespace Sys2Proof.Machine

open Sys2Proof

theorem headerCw_none {s : State} {n b : Nat} (h : hasCw s n b = false) : headerCw s n b = none := by
  unfold headerCw
  refine List.findSome?_eq_none_iff.2 fun k hk => ?_
  have hnone := List.any_eq_false.1 h k hk
  cases hread : readAt s k with
  | none => rfl
  | some r =>
    rw [hread] at hnone
    have hblock : r.cws.zipIdx.find? (fun x => x.1.block == b && x.1.phase == .headerOk) = none := by
      refine List.find?_eq_none.2 fun x hx => ?_
      have hother := List.any_eq_false.1 (Bool.eq_false_iff.2 hnone) x.1 (List.fst_mem_of_mem_zipIdx hx)
      simp [hother]
    simp only [hblock, Option.map_none]

theorem only_mep (s : State) (m : MepState) : Only s { s with mep := m } [.mep] [] := only_changed s

/-- The state once an opened block is in the read-pool buffer that its class has given, on its command's reservation. -/
def pooled (s : State) (n b i : Nat) (c : CmdSlot) (plain : List Byte) : State :=
  let u := unreserve (popped s 1) 1
  putSlot { u with mep := { u.mep with pool := spPut u.mep.pool (blockKey n b) ⟨i, plain, crc32c plain, [], 0⟩ } } n
    { c with opened := addOnce c.opened b, reserved := c.reserved - 1 }

/-- Until every block of a read is open, none of them is released. -/
theorem readReleased_waits {s : State} {n : Nat} {c : CmdSlot} (hs : slotOf s n = some c) (ho : allOpened c = false) : readReleased s n = s := by
  simp only [readReleased, hs, ho, Bool.not_false, Bool.true_or, if_true]

theorem poolBlock_gives {s : State} {n b i : Nat} {c : CmdSlot} {plain : List Byte} (hs : slotOf s n = some c) (hg : Gives s 1 i)
    (hr : c.reserved ≠ 0) (ho : allOpened { c with opened := addOnce c.opened b } = false) : poolBlock s n b plain = pooled s n b i c plain := by
  simp only [poolBlock, poolWith, hs, popBuf_gives (by decide) hg, if_neg hr]
  exact readReleased_waits (slotOf_putSlot_same _ _ _) ho

/-- What an open of a staged copy that passes its checks does. -/
theorem openElse_staged {s : State} {n b p : Nat} {c : CmdSlot} {z : ZstEntry} {key plain : List Byte} {w : StagedBlock}
    (hb : boundZone s c.ezn = some (p, z)) (hhome : c.home.map Resolved.epoch = some (zmapOf s c.ezn).epoch) (hl : relocOf s p = none)
    (hoff : c.offset + b < z.wpHost) (hfinal : finalSlot s p z (slotOfOffset z.tier z.pads (c.offset + b)) = false)
    (hw : spFind s.mep.staged (stageKey p (slotOfOffset z.tier z.pads (c.offset + b))) = some w)
    (hpar : stagedParity s p (slotOfOffset z.tier z.pads (c.offset + b)) w = [])
    (hmeta : metaFails s p (slotOfOffset z.tier z.pads (c.offset + b)) w = false) (hres : w.resending = false)
    (hopen : openBlock s c (c.offset + b) key w = .plain plain) : openElse s n b c key = poolBlock s n b plain := by
  obtain ⟨h, hsome, hepoch⟩ := Option.map_eq_some_iff.1 hhome
  have hprog : progZone s p = p := by simp only [progZone, hl]
  simp only [openElse, hsome, hb, hepoch, ne_eq, not_true_eq_false, if_false, if_neg (Nat.not_le.2 hoff), hfinal, Bool.false_eq_true, hprog, hw,
    openStaged, hres, hpar, hmeta, List.isEmpty_nil, Bool.not_true, Bool.or_self, hopen]

/-- What an open comes to of a block that no codeword serves, and whose key is in the cache. -/
theorem onBlockOpen_else {s : State} {n b p : Nat} {c : CmdSlot} {z : ZstEntry} {key : List Byte} (h : CanOpen s n b p c z key)
    (hcw : hasCw s n b = false) :
    onBlockOpen n b 0 none false s = openElse (touchKey s (c.nsid - 1) (keyVersion s (c.nsid - 1))) n b c key := by
  obtain ⟨-, hs, hread, hopened, hegress, hlt, hdue, -, -, -, hkey, hcached⟩ := h
  have hcw' : hasCw (touchKey s (c.nsid - 1) (keyVersion s (c.nsid - 1))) n b = false := hcw
  have hlate : decide (c.deadline < now s) = false := decide_eq_false (Nat.not_lt.2 hdue)
  simp only [onBlockOpen, hs, hread, hopened, hegress, decide_eq_false (Nat.not_le.2 hlt), hlate, hkey, hcached, headerCw_none hcw', hcw',
    Bool.not_true, Bool.or_self, Bool.false_and, Bool.false_eq_true, if_false]

theorem only_pooled {s : State} {n b i : Nat} {c : CmdSlot} {plain : List Byte} (hg : Gives s 1 i) :
    Only s (pooled s n b i c plain) [.mep, .hif, .sbg] [(F.sbgPoolStat_free 1).addr] := by
  have hpop := only_popped hg
  have hres : Only (popped s 1) (unreserve (popped s 1) 1) [] [(F.sbgPoolStat_free 1).addr] := only_setF _ (F.sbgPoolStat_reserved 1) _
  exact only_mono (only_trans hpop (only_trans hres (only_trans (only_mep _ _) (only_putSlot _ _ _)))) (by simp) (by simp)

/-- A staged copy that passes its checks opens into a read-pool buffer. -/
theorem completes_openStaged {n b p i : Nat} {c : CmdSlot} {z : ZstEntry} {key plain : List Byte} {w : StagedBlock} {s : State}
    (h : CanOpen s n b p c z key) (hcw : hasCw s n b = false) (hoff : c.offset + b < z.wpHost)
    (hfinal : finalSlot s p z (slotOfOffset z.tier z.pads (c.offset + b)) = false)
    (hstaged : spFind s.mep.staged (stageKey p (slotOfOffset z.tier z.pads (c.offset + b))) = some w)
    (hpar : stagedParity s p (slotOfOffset z.tier z.pads (c.offset + b)) w = [])
    (hmeta : metaFails s p (slotOfOffset z.tier z.pads (c.offset + b)) w = false) (hres : w.resending = false)
    (hopen : openBlock s c (c.offset + b) key w = .plain plain) (hg : Gives s 1 i) (hr : c.reserved ≠ 0)
    (ho : allOpened { c with opened := addOnce c.opened b } = false) :
    Completes (.blockOpen n b 0 none false) s fun t =>
      spFind t.mep.pool (blockKey n b) = some ⟨i, plain, crc32c plain, [], 0⟩ ∧
        slotOf t n = some { c with opened := addOnce c.opened b, reserved := c.reserved - 1 } ∧
        getF t (F.sbgPoolStat_reserved 1) = getF s (F.sbgPoolStat_reserved 1) - 1 ∧ bufTaken (poolOf t 1) i = true ∧
        (∀ m, m ≠ n → slotOf t m = slotOf s m) ∧ Only s t [.mep, .hif, .sbg, .cph] [(F.sbgPoolStat_free 1).addr] := by
  have hcleared : CanOpen (cleared s) n b p c z key := h
  obtain ⟨hw, hs, -, -, -, -, -, hb, hhome, hl, -, -⟩ := h
  let u := touchKey (cleared s) (c.nsid - 1) (keyVersion s (c.nsid - 1))
  have hgu : Gives u 1 i := gives_congr (s := s) (by decide) rfl rfl hg
  have hrun : onBlockOpen n b 0 none false (cleared s) = pooled u n b i c plain := by
    rw [onBlockOpen_else hcleared hcw]
    exact (openElse_staged (s := u) hb hhome hl hoff hfinal hstaged hpar hmeta hres hopen).trans (poolBlock_gives (s := u) hs hgu hr ho)
  have hpop := only_popped hgu
  have htouch : Only (cleared s) u [.cph] [] := only_changed (cleared s)
  refine completes_runIn (f := onBlockOpen n b 0 none false) rfl hw.1 hw.2 hrun ⟨?_, ?_, ?_, ?_, fun m hm => ?_, ?_⟩
  · rw [settle_mep]
    exact spFind_put_same _ _ _
  · rw [slotOf_settle]
    exact slotOf_putSlot_same _ _ _
  · rw [getF_settle _ _ (by decide)]
    show getF (setF (popped u 1) (F.sbgPoolStat_reserved 1) (getF (popped u 1) (F.sbgPoolStat_reserved 1) - 1)) _ = _
    rw [getF_setF_same _ _ _ (by decide) (by decide), getF_popped_reserved hgu]
    have hlt : getF s (F.sbgPoolStat_reserved 1) < 2 ^ 13 := Nat.mod_lt _ (by decide)
    exact Nat.mod_eq_of_lt (lt_of_le_of_lt (Nat.sub_le _ _) hlt)
  · rw [poolOf_settle]
    exact bufTaken_popped hgu
  · rw [slotOf_settle, pooled, slotOf_putSlot_ne _ _ hm]
    exact congrArg (fun h : HifState => spFind h.slots m) (hpop.1 .hif (by decide))
  · exact only_settle (only_cleared (only_mono (only_trans htouch (only_pooled hgu)) (by simp) (by simp)))

end Sys2Proof.Machine
end

section
/-!
PROOFS. The blocks of a Read on their way to the host (R326).
-/

namespace Sys2Proof.Machine

open Sys2Proof

/-- A field that takes the value it has leaves the word. -/
theorem putField_field (w : Word) (hi lo : Nat) : putField w hi lo (field w.toNat hi lo) = w := by
  refine BitVec.eq_of_getLsbD_eq fun i hi64 => ?_
  rw [putField_getLsbD w hi lo _ i hi64]
  split
  · next h =>
    have hin : i - lo < hi + 1 - lo := by omega
    rw [field, Nat.testBit_mod_two_pow, decide_eq_true hin, Bool.true_and, Nat.testBit_div_two_pow, Nat.sub_add_cancel h.1]
    exact BitVec.testBit_toNat w
  · rfl

/-- A counter that counts nothing leaves every register. -/
theorem only_incSat_zero (s : State) (f : Fld) : Only s (incSat s f 0) [] [] := by
  refine ⟨(only_setF s f _).1, fun g _ _ => ?_⟩
  have hlt : getF s f < 2 ^ (f.hi + 1 - f.lo) := Nat.mod_lt _ (Nat.two_pow_pos _)
  have hsame : min (getF s f + 0) (2 ^ (f.hi + 1 - f.lo) - 1) = getF s f := Nat.min_eq_left (by omega)
  rw [incSat_eq, hsame]
  have hreg : regVal (setF s f (getF s f)) g.addr = regVal s g.addr := by
    by_cases ha : g.addr = f.addr
    · rw [setF, ha, regVal_setReg_same]
      exact putField_field _ _ _
    · exact regVal_setReg_ne s _ ha
  rw [getF, hreg, getF]

/-- The state once a block is written to the host and has left the read pool. -/
def blockSent (s : State) (n b : Nat) (c : CmdSlot) (p : PoolBlock) : State :=
  let u := emit (incSat s F.mepIntegCnt_egressResend 0) (.hostBlock c.func c.sqe.cid b p.data)
  { u with mep := { u.mep with pool := spErase u.mep.pool (blockKey n b) } }

/-- The state once the buffer of a sent block is free and its command knows that the block is with the host. -/
def egressed (s : State) (n b : Nat) (c : CmdSlot) (p : PoolBlock) : State :=
  putSlot (pushBuf (blockSent s n b c p) 1 p.buf) n { c with egress := addOnce c.egress b }

/-- What a buffer's return needs is not what the sending of its block changes. -/
theorem canFree_blockSent {s : State} {c : CmdSlot} {p : PoolBlock} (n b : Nat) (h : CanFree s 1 p.buf) : CanFree (blockSent s n b c p) 1 p.buf := by
  obtain ⟨hlt, htaken, hqueued, hruns, hwaits, hcount, hlow⟩ := h
  have hregs : ∀ f : Fld, f.addr ∉ settledAddrs → getF (blockSent s n b c p) f = getF s f := fun f hf =>
    (only_incSat_zero s F.mepIntegCnt_egressResend).2 f (by simp) hf
  have hfree : freeCount (blockSent s n b c p) 1 = freeCount s 1 := hregs _ (by decide)
  exact ⟨hlt, htaken, hqueued, hruns, hwaits, by rw [hfree]; exact hcount, (hregs _ (by decide)).trans hlow⟩

/-- Beside its slot, the sending of a block changes registers, the pools and the read pool alone. -/
theorem egressed_shape {s : State} {n b : Nat} {c : CmdSlot} {p : PoolBlock} (h : CanFree (blockSent s n b c p) 1 p.buf) :
    ∃ r g, egressed s n b c p = putSlot { s with
      regs := r, sbg := g, mep := { s.mep with pool := spErase s.mep.pool (blockKey n b) }
      out := s.out ++ [.hostBlock c.func c.sqe.cid b p.data] } n { c with egress := addOnce c.egress b } := by
  obtain ⟨r, g, hpush⟩ := pushBuf_shape (by decide) h
  exact ⟨r, g, by rw [egressed, hpush]; rfl⟩

theorem only_egressed {s : State} {n b : Nat} {c : CmdSlot} {p : PoolBlock} (h : CanFree (blockSent s n b c p) 1 p.buf) :
    Only s (egressed s n b c p) [.mep, .hif, .sbg] [(F.sbgPoolStat_free 1).addr] := by
  have hcount := only_trans (only_incSat_zero s F.mepIntegCnt_egressResend) (only_emit _ (.hostBlock c.func c.sqe.cid b p.data))
  have hsent : Only s (blockSent s n b c p) [.mep] [] := only_mono (only_trans hcount (only_mep _ _)) (by simp) (by simp)
  exact only_mono (only_trans (only_trans hsent (only_pushBuf (by decide) h)) (only_putSlot _ _ _)) (by simp) (by simp)

theorem bufTaken_egressed {s : State} {n b : Nat} {c : CmdSlot} {p : PoolBlock} (h : CanFree (blockSent s n b c p) 1 p.buf) :
    bufTaken (poolOf (egressed s n b c p) 1) p.buf = false :=
  bufTaken_pushBuf (by decide) h

/-- A read of which no read of the dies is left has none to abandon. -/
theorem abandonReads_nil (s : State) : abandonReads s [] = s := by
  have hmembers : memberReads s [] = [] := by
    refine List.map_eq_nil_iff.2 (List.filter_eq_nil_iff.2 fun kv _ => ?_)
    split <;> simp
  simp only [abandonReads, hmembers, List.append_nil, forEach, List.foldl_nil, List.isEmpty_nil, if_true]

/-- What is left of an open Read of this device once a block is sent: it ends where its blocks are all with the host. -/
theorem readReleased_open {s : State} {n : Nat} {c : CmdSlot} (hs : slotOf s n = some c) (ho : allOpened c = true) (hr : c.remote = none)
    (hk : c.kind = .read) (hreads : readsOfSlot s n = []) :
    readReleased s n = if (List.range c.blocks).all (fun i => c.egress.contains i) = true then finish s n (c.failed.getD .success) else s := by
  simp only [readReleased, hs, ho, hr, hreads, abandonReads_nil, hk, Option.isSome_none, Bool.not_true, Bool.false_and, Bool.or_self,
    Bool.false_eq_true, if_false, reduceCtorEq, false_or]

/-- A block whose OCRC matches goes to the host; then the queue engine looks whether the command is done. -/
theorem onHostDataEgress_sends {s : State} {n b : Nat} {c : CmdSlot} {p : PoolBlock} (h : CanSend s n b c p)
    (hfree : CanFree (blockSent s n b c p) 1 p.buf) :
    onHostDataEgress n b 0 s = readReleased (egressed s n b c p) n := by
  obtain ⟨-, hs, hkind, -, hopen, hnew, hserved, hp, hcrc, hflip, -, -⟩ := h
  have hnot : ¬(c.kind ≠ .read ∨ allOpened c = false ∨ c.egress.contains b = true) := by
    simpa [hkind, hopen] using hnew
  have hfreed : freeBuf (blockSent s n b c p) 1 p.buf idHif = pushBuf (blockSent s n b c p) 1 p.buf := freeBuf_can (by decide) hfree _
  have hslot : putSlot (freeBuf (blockSent s n b c p) 1 p.buf idHif) n { c with egress := addOnce c.egress b } = egressed s n b c p := by
    rw [hfreed, egressed]
  rw [← hslot]
  simp only [onHostDataEgress, hs, hp, if_neg hnot, hserved, flipHits_disarmed hflip, hcrc, Bool.false_eq_true, if_false, if_true, b2n, Nat.zero_min,
    Nat.add_zero, Nat.not_lt_zero, decide_false]
  rfl

theorem contains_addOnce {xs : List Nat} {x : Nat} (y : Nat) (h : xs.contains x = true) : (addOnce xs y).contains x = true := by
  unfold addOnce
  split
  · exact h
  · simp only [List.contains_append, h, Bool.true_or]

/-- A block that is with the host counts as open. -/
theorem allOpened_egress {c : CmdSlot} (b : Nat) (h : allOpened c = true) : allOpened { c with egress := addOnce c.egress b } = true := by
  refine List.all_eq_true.2 fun i hi => ?_
  rcases Bool.or_eq_true_iff.1 (List.all_eq_true.1 h i hi) with ho | he
  · exact Bool.or_eq_true_iff.2 (.inl ho)
  · exact Bool.or_eq_true_iff.2 (.inr (contains_addOnce b he))

theorem canFree_sent {s : State} {n b : Nat} {c : CmdSlot} {p : PoolBlock} (h : CanSend s n b c p) : CanFree (blockSent s n b c p) 1 p.buf := by
  obtain ⟨-, -, -, -, -, -, -, -, -, -, hfree, -⟩ := h
  exact canFree_blockSent n b hfree

/-- A block of an open Read is sent: what follows is the end of the command, or nothing. -/
theorem onHostDataEgress_eq {s : State} {n b : Nat} {c : CmdSlot} {p : PoolBlock} (h : CanSend s n b c p) :
    onHostDataEgress n b 0 s =
      if (List.range c.blocks).all (fun i => (addOnce c.egress b).contains i) = true then finish (egressed s n b c p) n (c.failed.getD .success)
      else egressed s n b c p := by
  have hfree := canFree_sent h
  have hsends := onHostDataEgress_sends h hfree
  obtain ⟨-, -, hkind, hremote, hopen, -, -, -, -, -, -, hreads⟩ := h
  have hreads' : readsOfSlot (egressed s n b c p) n = [] := by
    obtain ⟨r, g, he⟩ := egressed_shape hfree
    rw [he]
    exact hreads
  exact hsends.trans (readReleased_open (slotOf_putSlot_same _ _ _) (allOpened_egress b hopen) hremote hkind hreads')

/-- A block of a Read that is not its last goes to the host. -/
theorem completes_egress {n b : Nat} {c : CmdSlot} {p : PoolBlock} {s : State} (h : CanSend s n b c p)
    (hmore : ((List.range c.blocks).all fun i => (addOnce c.egress b).contains i) = false) :
    Completes (.hostDataEgress n b 0) s fun t =>
      Output.hostBlock c.func c.sqe.cid b p.data ∈ t.out ∧ spFind t.mep.pool (blockKey n b) = none ∧ bufTaken (poolOf t 1) p.buf = false ∧
        slotOf t n = some { c with egress := addOnce c.egress b } ∧ (∀ m, m ≠ n → slotOf t m = slotOf s m) ∧
        Only s t [.mep, .hif, .sbg] [(F.sbgPoolStat_free 1).addr] := by
  have hcleared : CanSend (cleared s) n b c p := h
  have hfree := canFree_sent hcleared
  obtain ⟨r, g, he⟩ := egressed_shape hfree
  have hrun : onHostDataEgress n b 0 (cleared s) = egressed (cleared s) n b c p :=
    (onHostDataEgress_eq hcleared).trans (if_neg (by rw [hmore]; exact Bool.false_ne_true))
  refine completes_runIn (f := onHostDataEgress n b 0) rfl h.1.1 h.1.2 hrun ⟨?_, ?_, ?_, ?_, fun m hm => ?_, ?_⟩
  · rw [he]
    exact mem_settle_out (List.mem_append_right _ (List.mem_singleton.2 rfl))
  · rw [settle_mep, he]
    exact spFind_erase_same _ _
  · rw [poolOf_settle]
    exact bufTaken_egressed hfree
  · rw [slotOf_settle]
    exact slotOf_putSlot_same _ _ _
  · rw [slotOf_settle, he, slotOf_putSlot_ne _ _ hm]
    rfl
  · exact only_settle (only_cleared (only_egressed hfree))

/-- The last block of a Read goes to the host, and the Read completes. -/
theorem completes_lastEgress {n b : Nat} {c : CmdSlot} {p : PoolBlock} {s : State} (h : CanSend s n b c p)
    (hlast : ((List.range c.blocks).all fun i => (addOnce c.egress b).contains i) = true) (hok : c.failed = none)
    (hb : Bare { s with mep := { s.mep with pool := spErase s.mep.pool (blockKey n b) } } n c) :
    Completes (.hostDataEgress n b 0) s fun t =>
      Output.hostBlock c.func c.sqe.cid b p.data ∈ t.out ∧ spFind t.mep.pool (blockKey n b) = none ∧ bufTaken (poolOf t 1) p.buf = false ∧
        Ended s t n c .success ∧ Only s t [.mep, .hif, .sbg] [(F.sbgPoolStat_free 1).addr] := by
  have hcleared : CanSend (cleared s) n b c p := h
  have hfree := canFree_sent hcleared
  obtain ⟨r, g, he⟩ := egressed_shape hfree
  let u := egressed (cleared s) n b c p
  let c' : CmdSlot := { c with egress := addOnce c.egress b }
  have hslot : slotOf u n = some c' := slotOf_putSlot_same _ _ _
  have hbare : Bare u n c' := by
    simp only [u, he]
    exact hb
  have hrun : onHostDataEgress n b 0 (cleared s) = finish u n .success := by
    rw [onHostDataEgress_eq hcleared, if_pos hlast, hok]
    rfl
  obtain ⟨honly, hgone, hothers, hpost⟩ := finish_bare hslot hbare .success
  have hmep : (finish u n .success).mep = u.mep := honly.1 .mep (by decide)
  have hsbg : (finish u n .success).sbg = u.sbg := honly.1 .sbg (by decide)
  refine completes_runIn (f := onHostDataEgress n b 0) rfl h.1.1 h.1.2 hrun ⟨?_, ?_, ?_, ⟨?_, fun m hm => ?_, fun hcan => ?_⟩, ?_⟩
  · obtain ⟨x, o, hx, -, -⟩ := hostKept_finish hslot hbare .success
    rw [hx]
    refine mem_settle_out (List.mem_append_left _ ?_)
    simp only [u, he]
    exact List.mem_append_right _ (List.mem_singleton.2 rfl)
  · rw [settle_mep, hmep]
    simp only [u, he]
    exact spFind_erase_same _ _
  · rw [poolOf_settle, poolOf_congr hsbg]
    exact bufTaken_egressed hfree
  · rw [slotOf_settle]
    exact hgone
  · rw [slotOf_settle, hothers m hm]
    simp only [u, he]
    exact slotOf_putSlot_ne _ _ hm
  · have hcan' : CanPost u n c' := by
      simp only [u, he]
      exact hcan
    obtain ⟨dnr, hout⟩ := hpost hcan'
    exact ⟨_, _, dnr, mem_settle_out hout⟩
  · exact only_settle (only_cleared (only_mono (only_trans (only_egressed hfree) honly) (by simp) (by simp)))

/-- Settles O34: each row hands its block on to one shared step (the take and return of a buffer, the seal, the staging write, the open, the
release), and what those steps change is said once. -/
theorem dataBlocks : Obligations.DataBlocks := by
  unfold Obligations.DataBlocks
  refine ⟨?ingest, ?partSeal, ?wholeSeal, ?openStaged, ?egress, ?lastEgress⟩
  case ingest => exact fun _ _ _ _ _ _ _ _ => completes_ingest
  case partSeal => exact fun _ _ _ _ _ _ _ _ _ _ _ => completes_partSeal
  case wholeSeal => exact fun _ _ _ _ _ _ _ _ _ _ _ _ => completes_wholeSeal
  case openStaged => exact fun _ _ _ _ _ _ _ _ _ _ => completes_openStaged
  case egress => exact fun _ _ _ _ _ => completes_egress
  case lastEgress => exact fun _ _ _ _ _ => completes_lastEgress

end Sys2Proof.Machine
end

section
/-!
PROOFS. Every step keeps the status fields in agreement: a command ends with `settle`, or in OFF changes the outputs alone, and `settle` writes each status
field once, to a place that it does not touch again.
-/

namespace Sys2Proof.Machine

open Sys2Proof

/-- Fields set one after another. -/
def setFs (s : State) (l : List (Fld × Nat)) : State := l.foldl (fun s x => setF s x.1 x.2) s

/-- Two fields share no bit. -/
def apartFlds (f g : Fld) : Bool := f.addr != g.addr || decide (f.hi < g.lo) || decide (g.hi < f.lo)

/-- A field lies in its register. -/
def inWord (f : Fld) : Bool := decide (f.hi < 64) && decide (f.lo ≤ f.hi)

theorem getF_setFs_apart {l : List (Fld × Nat)} {g : Fld} (hg : g.hi < 64) (h : ∀ f ∈ l.map (·.1), apartFlds g f = true) (s : State) :
    getF (setFs s l) g = getF s g := by
  induction l generalizing s with
  | nil => rfl
  | cons x l ih =>
    have hx : apartFlds g x.1 = true := h x.1 (by simp)
    have hstep : getF (setF s x.1 x.2) g = getF s g := by
      by_cases ha : g.addr = x.1.addr
      · simp only [apartFlds, ha, bne_self_eq_false, Bool.false_or, Bool.or_eq_true, decide_eq_true_eq] at hx
        exact getF_setF_bits s x.2 ha hg hx
      · exact getF_setF_addr s x.2 ha
    exact (ih (fun f hf => h f (List.mem_cons_of_mem _ hf)) _).trans hstep

/-- A field set once, and apartFlds from those set after it, reads as it was set. -/
theorem getF_setFs_mem {l : List (Fld × Nat)} (hl : (l.map (·.1)).Pairwise fun f g => apartFlds f g = true) (hw : ∀ f ∈ l.map (·.1), inWord f = true)
    {f : Fld} {n : Nat} (h : (f, n) ∈ l) (s : State) : getF (setFs s l) f = n % 2 ^ (f.hi + 1 - f.lo) := by
  induction l generalizing s with
  | nil => cases h
  | cons x l ih =>
    obtain ⟨hx, hrest⟩ := List.pairwise_cons.1 hl
    cases h with
    | head =>
      have hf : inWord f = true := hw f (by simp)
      simp only [inWord, Bool.and_eq_true, decide_eq_true_eq] at hf
      exact (getF_setFs_apart hf.1 hx _).trans (getF_setF_same s f n hf.1 hf.2)
    | tail _ h => exact ih hrest (fun g hg => hw g (List.mem_cons_of_mem _ hg)) h _

/-- The status fields that follow from the tables alone, in the order in which `settle` writes them, with what they report. -/
def tableWrites (s : State) : List (Fld × Nat) :=
  [(F.cshStat_ringCount, s.csh.ringSeqs.length), (F.cshRing_count, s.csh.ringSeqs.length), (F.cshStat_stgCount, s.csh.staging.length),
   (F.cshStat_oldestSeq, oldestSeq s), (F.zrsStaging_blkD6, resvBlocks s .d6), (F.zrsStaging_blkD5, resvBlocks s .d5),
   (F.zrsStaging_blkD4, resvBlocks s .d4), (F.zrsStaging_granulesUsed, granulesUsed s), (F.tkrStat_loadedCount, s.tkr.slots.length),
   (F.tkrStat_retiredUsed, s.tkr.retired.length), (F.hifDbsStat_validCount, s.aon.shadow.length),
   (F.hifDbsStat_pending, b2n (!s.aon.shadow.isEmpty)),
   (F.pmuState_pending, match s.pmu.pending with | none => 0 | some r => reqCode r),
   (F.pmuState_step, stepCode (domainOn s .data) s.pmu.flight),
   (F.pmuState_target, match s.pmu.flight with | .none => 0 | _ => reqCode s.pmu.target), (F.slkPeers_live, peerBits s .live),
   (F.slkPeers_lost, peerBits s .lost), (F.slkPeers_departed, peerBits s .departed), (F.schPowerStat_inUse, inUse s),
   (F.cphStat_inProgress, (s.cph.ctxs.filter fun kv => kv.2.blk.isSome).length),
   (F.cphStat_resident, (s.cph.ctxs.filter fun kv => kv.2.resident).length), (F.cphErr_pipesOff, s.cph.pipesOff.length),
   (F.rchDecErr_hardOff, s.rch.hardOff.length), (F.rchDecErr_softOff, s.rch.softOff.length)]

/-- RST_LRS.STATE with what it reports. -/
def lrsWrites (s : State) : List (Fld × Nat) := [(F.rstLrs_state, lrsCode s)]

/-- The fields of SEC_LC with what they report. -/
def lcWrites (s : State) : List (Fld × Nat) :=
  [(F.secLc_lifecycle, lifecycle s), (F.secLc_arb, s.otp.arb), (F.secLc_revoked, s.otp.revoke), (F.secLc_level, getF s F.dbgUnlock_level)]

/-- The fields of MHM_HEALTH with what they report. -/
def healthWrites (s : State) : List (Fld × Nat) :=
  [(F.mhmHealth_diesOut, ((dieCfgs s).filter fun x => bitAt x.2 0 && !bitAt x.2 4).length), (F.mhmHealth_withdrawnZones, s.mhm.withdrawn.length),
   (F.mhmHealth_availSpare, availSpare s)]

/-- Every status field with what it reports. -/
def statusWrites (s : State) : List (Fld × Nat) := tableWrites s ++ (lrsWrites s ++ (lcWrites s ++ healthWrites s))

/-- The status fields. -/
def statusFlds : List Fld :=
  [F.cshStat_ringCount, F.cshRing_count, F.cshStat_stgCount, F.cshStat_oldestSeq, F.zrsStaging_blkD6, F.zrsStaging_blkD5, F.zrsStaging_blkD4,
   F.zrsStaging_granulesUsed, F.tkrStat_loadedCount, F.tkrStat_retiredUsed, F.hifDbsStat_validCount, F.hifDbsStat_pending, F.pmuState_pending,
   F.pmuState_step, F.pmuState_target, F.slkPeers_live, F.slkPeers_lost, F.slkPeers_departed, F.schPowerStat_inUse, F.cphStat_inProgress,
   F.cphStat_resident, F.cphErr_pipesOff, F.rchDecErr_hardOff, F.rchDecErr_softOff, F.rstLrs_state, F.secLc_lifecycle, F.secLc_arb,
   F.secLc_revoked, F.secLc_level, F.mhmHealth_diesOut, F.mhmHealth_withdrawnZones, F.mhmHealth_availSpare]

theorem map_statusWrites (s : State) : (statusWrites s).map (·.1) = statusFlds := rfl

/-- The address is that of an FCH_DIE_CFG register. -/
def isDieCfg (a : Nat) : Bool := decide (0x1001000000 ≤ a ∧ a < 0x1001400000 ∧ 0x100 ≤ a % 0x10000 ∧ a % 0x10000 < 0x140)

theorem filter_spErase {α : Type} {p : Nat → Bool} (m : Sparse α) {i : Nat} (h : p i = false) :
    (spErase m i).filter (fun kv => p kv.1) = m.filter fun kv => p kv.1 := by
  induction m with
  | nil => rfl
  | cons kv m ih =>
    obtain ⟨k, v⟩ := kv
    unfold spErase
    split
    · next e => subst e; simp [h, ih]
    · simp [List.filter_cons, ih]

theorem filter_spPut {α : Type} {p : Nat → Bool} (m : Sparse α) {i : Nat} (x : α) (h : p i = false) :
    (spPut m i x).filter (fun kv => p kv.1) = m.filter fun kv => p kv.1 := by
  induction m with
  | nil => simp [spPut, h]
  | cons kv m ih =>
    obtain ⟨k, v⟩ := kv
    unfold spPut
    split
    · next e => subst e; simp [h]
    · split
      · simp [List.filter_cons, h]
      · simp [List.filter_cons, ih]

theorem filter_spSet {α : Type} [DecidableEq α] {p : Nat → Bool} (d : α) (m : Sparse α) {i : Nat} (x : α) (h : p i = false) :
    (spSet d m i x).filter (fun kv => p kv.1) = m.filter fun kv => p kv.1 := by
  unfold spSet
  split
  · exact filter_spErase m h
  · exact filter_spPut m x h

/-- Another register leaves the dies' configuration. -/
theorem dieCfgs_setF (s : State) {f : Fld} (n : Nat) (h : isDieCfg f.addr = false) : dieCfgs (setF s f n) = dieCfgs s :=
  congrArg (List.map _) (filter_spSet (p := isDieCfg) _ _ _ h)

theorem dieCfgs_setFs {l : List (Fld × Nat)} (h : ∀ f ∈ l.map (·.1), isDieCfg f.addr = false) (s : State) : dieCfgs (setFs s l) = dieCfgs s := by
  induction l generalizing s with
  | nil => rfl
  | cons x l ih => exact (ih (fun f hf => h f (List.mem_cons_of_mem _ hf)) _).trans (dieCfgs_setF s x.2 (h x.1 (by simp)))

theorem setFs_append (s : State) (l k : List (Fld × Nat)) : setFs s (l ++ k) = setFs (setFs s l) k := List.foldl_append

/-- Fields set change the registers alone. -/
theorem setFs_shape (s : State) (l : List (Fld × Nat)) : setFs s l = { s with regs := (setFs s l).regs } := by
  induction l generalizing s with
  | nil => rfl
  | cons x l ih => exact ih (setF s x.1 x.2)

/-- What the tables report is not of the registers. -/
theorem tableWrites_setFs (s : State) (l : List (Fld × Nat)) : tableWrites (setFs s l) = tableWrites s := by
  rw [setFs_shape]
  rfl

section

variable {l : List (Fld × Nat)} (h : l.map (·.1) ⊆ statusFlds) (s : State)
include h

/-- Status fields lie apartFlds from what a report reads of the registers: HB_TIMEOUT, LEVEL and the dies' configuration. -/
theorem lrsWrites_setFs : lrsWrites (setFs s l) = lrsWrites s := by
  have ha : ∀ f ∈ statusFlds, apartFlds F.rstLrs_hbTimeout f = true := by decide
  have hb : getF (setFs s l) F.rstLrs_hbTimeout = getF s F.rstLrs_hbTimeout := getF_setFs_apart (by decide) (fun f hf => ha f (h hf)) s
  simp only [lrsWrites, lrsCode, hb]
  rw [setFs_shape]
  rfl

theorem lcWrites_setFs : lcWrites (setFs s l) = lcWrites s := by
  have ha : ∀ f ∈ statusFlds, apartFlds F.dbgUnlock_level f = true := by decide
  have hl : getF (setFs s l) F.dbgUnlock_level = getF s F.dbgUnlock_level := getF_setFs_apart (by decide) (fun f hf => ha f (h hf)) s
  simp only [lcWrites, hl]
  rw [setFs_shape]
  rfl

theorem healthWrites_setFs : healthWrites (setFs s l) = healthWrites s := by
  have ha : ∀ f ∈ statusFlds, isDieCfg f.addr = false := by decide
  have hd : dieCfgs (setFs s l) = dieCfgs s := dieCfgs_setFs (fun f hf => ha f (h hf)) s
  simp only [healthWrites, availSpare, sparesFree, diesIn, hd]
  rw [setFs_shape]
  rfl

theorem statusWrites_setFs : statusWrites (setFs s l) = statusWrites s := by
  simp only [statusWrites, tableWrites_setFs, lrsWrites_setFs h, lcWrites_setFs h, healthWrites_setFs h]

end

/-- `settle` sets every status field to what it reports before it turns to the bays and the pins. -/
theorem settle_eq_setFs (s : State) : settle s = settleLanes (settleAlert (settleBays (setFs s (statusWrites s)))) := by
  have ht : (tableWrites s).map (·.1) ⊆ statusFlds := by simp [tableWrites, statusFlds]
  have hlrs : ((tableWrites s ++ lrsWrites s).map (·.1)) ⊆ statusFlds := by simp [tableWrites, lrsWrites, statusFlds]
  have hlc : ((tableWrites s ++ (lrsWrites s ++ lcWrites s)).map (·.1)) ⊆ statusFlds := by simp [tableWrites, lrsWrites, lcWrites, statusFlds]
  have hrun : settle s = settleLanes (settleAlert (settleBays (settleHealth (settleLc (settleLrs (setFs s (tableWrites s))))))) := rfl
  have e1 : settleLrs (setFs s (tableWrites s)) = setFs s (tableWrites s ++ lrsWrites s) := by
    rw [setFs_append, ← lrsWrites_setFs ht]
    rfl
  have e2 : settleLc (setFs s (tableWrites s ++ lrsWrites s)) = setFs s (tableWrites s ++ (lrsWrites s ++ lcWrites s)) := by
    rw [← List.append_assoc, setFs_append _ _ (lcWrites s), ← lcWrites_setFs hlrs]
    rfl
  have e3 : settleHealth (setFs s (tableWrites s ++ (lrsWrites s ++ lcWrites s))) = setFs s (statusWrites s) := by
    have : statusWrites s = (tableWrites s ++ (lrsWrites s ++ lcWrites s)) ++ healthWrites s := by simp only [statusWrites, List.append_assoc]
    rw [this, setFs_append _ _ (healthWrites s), ← healthWrites_setFs hlc]
    rfl
  rw [hrun, e1, e2, e3]

/-- Once the status fields are set, `settle` changes the bays, the pins and the outputs alone. -/
theorem settleLast_shape (u : State) : ∃ b p o, settleLanes (settleAlert (settleBays u)) = { u with bay := b, pins := p, out := o } := by
  simp only [settleLanes, settleAlert]
  split
  · exact ⟨_, _, _, rfl⟩
  · exact ⟨_, _, _, rfl⟩

theorem statusWrites_shape (u : State) (b : BayState) (p : Pins) (o : List Output) :
    statusWrites { u with bay := b, pins := p, out := o } = statusWrites u := by
  have htables : tableWrites { u with bay := b, pins := p, out := o } = tableWrites u := rfl
  have hlrs : lrsWrites { u with bay := b, pins := p, out := o } = lrsWrites u := rfl
  have hlc : lcWrites { u with bay := b, pins := p, out := o } = lcWrites u := rfl
  have hhealth : healthWrites { u with bay := b, pins := p, out := o } = healthWrites u := rfl
  rw [statusWrites, htables, hlrs, hlc, hhealth, statusWrites]

/-- What the status fields report stays as they, the bays and the pins are brought up to date. -/
theorem statusWrites_settle (s : State) : statusWrites (settle s) = statusWrites s := by
  have hmap : (statusWrites s).map (·.1) ⊆ statusFlds := by
    rw [map_statusWrites]
    exact List.Subset.refl _
  obtain ⟨b, p, o, hlast⟩ := settleLast_shape (setFs s (statusWrites s))
  rw [settle_eq_setFs, hlast, statusWrites_shape, statusWrites_setFs hmap s]

/-- Every status field reads what it reports, as far as its width goes. -/
def FieldsHold (u : State) : Prop := ∀ f n, (f, n) ∈ statusWrites u → holds u f n

theorem fieldsHold_settle (s : State) : FieldsHold (settle s) := by
  intro f n h
  rw [statusWrites_settle] at h
  have hregs : (settle s).regs = (setFs s (statusWrites s)).regs := by
    obtain ⟨b, p, o, hlast⟩ := settleLast_shape (setFs s (statusWrites s))
    rw [settle_eq_setFs, hlast]
  have hapart : statusFlds.Pairwise fun f g => apartFlds f g = true := by decide
  have hin : ∀ f ∈ statusFlds, inWord f = true := by decide
  exact (getF_congr hregs f).trans (getF_setFs_mem (by rw [map_statusWrites]; exact hapart) (by rw [map_statusWrites]; exact hin) h s)

/-- A status field stands with what it reports at its place of the list. -/
theorem FieldsHold.at {u : State} (h : FieldsHold u) {f : Fld} {n : Nat} (i : Nat) (hi : (statusWrites u)[i]? = some (f, n)) : holds u f n :=
  h f n (List.mem_of_getElem? hi)

theorem FieldsHold.counts {u : State} (h : FieldsHold u) : CountsAgree u := by
  refine ⟨?_, ?_, ?_, ?_, ?_, ?_, ?_, ?_, ?_, ?_, ?_, ?_⟩
  all_goals exact h _ _ (by simp [statusWrites, tableWrites])

theorem FieldsHold.states {u : State} (h : FieldsHold u) : StatesAgree u := by
  refine ⟨h.at 12 rfl, h.at 13 rfl, h.at 14 rfl, ?_, ?_, ?_, ?_, ?_, ?_, ?_, ?_⟩
  all_goals exact h _ _ (by simp [statusWrites, tableWrites, lrsWrites, lcWrites])

theorem FieldsHold.use {u : State} (h : FieldsHold u) : UseAgrees u := by
  refine ⟨?_, ?_, ?_, ?_, ?_, ?_, ?_, ?_, ?_⟩
  all_goals exact h _ _ (by simp [statusWrites, tableWrites, healthWrites])

theorem alertCondition_congr {s t : State} (hr : t.regs = s.regs) (hl : t.lrs = s.lrs) (hb : t.bay = s.bay) : alertCondition t = alertCondition s := by
  simp only [alertCondition, getF_congr hr, hl, hb]

theorem shelfAlertLow_settleAlert (u : State) : (settleAlert u).pins.shelfAlertLow = alertCondition u := by
  unfold settleAlert
  split
  · next h => exact h
  · rfl

theorem alertCondition_settleAlert (u : State) : alertCondition (settleAlert u) = alertCondition u := by
  unfold settleAlert
  split
  · rfl
  · exact alertCondition_congr rfl rfl rfl

/-- SHELF_ALERT_N and the transmitters follow conditions that neither of them enters. -/
theorem pinsAgree_settle (s : State) : PinsAgree (settle s) := by
  rw [settle_eq_setFs]
  generalize settleBays (setFs s (statusWrites s)) = u
  have halert : (settleAlert u).pins.shelfAlertLow = alertCondition (settleLanes (settleAlert u)) := by
    rw [alertCondition_congr (s := settleAlert u) (t := settleLanes (settleAlert u)) rfl rfl rfl, alertCondition_settleAlert]
    exact shelfAlertLow_settleAlert u
  exact ⟨halert, rfl, rfl⟩

theorem settled_settle (s : State) : Settled (settle s) :=
  ⟨(fieldsHold_settle s).counts, (fieldsHold_settle s).states, (fieldsHold_settle s).use, pinsAgree_settle s⟩

/-- A command ends with `settle`, or in OFF it changes the outputs alone. -/
def EndsSettled (r : Res) (s : State) : Prop := (∃ x, r = .next (settle x)) ∨ r = .next { s with out := [] }

theorem endsSettled_effect (f : State → State) (s : State) : EndsSettled (effect f s) s := by
  unfold effect
  split
  · exact .inr rfl
  · exact .inl ⟨_, rfl⟩

theorem endsSettled_exec (c : Instr) (s : State) : EndsSettled (exec c s) s := by
  cases c
  case coldReset => exact .inl ⟨_, rfl⟩
  all_goals exact endsSettled_effect _ s

theorem endsSettled_idle (s : State) : EndsSettled (.next (idle s)) s := by
  unfold idle
  split
  · exact .inr rfl
  · exact .inl ⟨_, rfl⟩

/-- A state that ends so is settled where the one before was. -/
theorem EndsSettled.settled {r : Res} {s t : State} (h : EndsSettled r s) (hr : r = .next t) (hs : Settled s) : Settled t := by
  rcases h with ⟨x, hx⟩ | hx
  · obtain rfl : settle x = t := Host.Outcome.next.inj (hx.symm.trans hr)
    exact settled_settle x
  · obtain rfl : { s with out := [] } = t := Host.Outcome.next.inj (hx.symm.trans hr)
    exact hs

/-- Settles O2: a step is the command in front or the idle tick, and each ends with `settle` or changes the outputs alone. -/
theorem settledKept : Obligations.SettledKept := by
  unfold Obligations.SettledKept
  intro s t hs ht
  unfold step at ht
  split at ht
  · exact (endsSettled_idle s).settled ht hs
  · next c rest _ => exact (endsSettled_exec c { s with pending := rest }).settled ht hs

end Sys2Proof.Machine
end

section
/-!
PROOFS. Refutation: what a confirmed suspend keeps of the time an operation has run (R164, R207).
-/

namespace Sys2Proof.Machine

open Sys2Proof

/-- An erase on a die since 0 µs, to be polled at 4 µs, that still bears the moment of an earlier suspension. -/
def stampedErase : Running :=
  { entry := ⟨.erase [(0, 0)], .d4, .device, .vault, 0, 0, true⟩, power := 0, fromReserve := 0, stage := .busy, senses := [], index := 0, got := [],
    part := [], ranBefore := 0, busySince := 0, pollAt := 4, confirming := false, suspends := 0, suspendedAt := some 0, burstsLeft := 0 }

/-- The reset device with that erase on die 0, told to suspend at 0 µs, and the answer of a poll granted. -/
def suspendingErase : State :=
  putDie State.reset 0 { noDie with current := some stampedErase, suspending := some 0, suspSent := true, granted := some .poll }

/-- The poll confirms the suspend: the model adds no time to what had run, since by `ranTime` an operation with that moment set has stood still. -/
theorem suspended_onStatusPoll :
    (dieOf (onStatusPoll 0 0x41#8 0 (cleared suspendingErase)) 0).suspended.map Running.ranBefore = some 0 := by decide +kernel

theorem clock_onStatusPoll : (onStatusPoll 0 0x41#8 0 (cleared suspendingErase)).clk.sch = 4 := by decide +kernel

/-- Refutes O31: its clause of a confirmed suspend counts the time since the last resume whether or not the operation bears the moment of an earlier
suspension, the model only where it bears none. For `suspendingErase` the statement asks for 4 µs and the model keeps 0. -/
theorem not_statusPolls : ¬ Obligations.StatusPolls := by
  unfold Obligations.StatusPolls
  rintro ⟨-, -, hconfirmed, -⟩
  have hp : Powered suspendingErase := by decide +kernel
  have hd : domainOn suspendingErase .data = true := by decide +kernel
  obtain ⟨t, ht, -, hheld, -⟩ := hconfirmed 0 0 0 0x41#8 stampedErase suspendingErase (by decide +kernel) (by decide +kernel) (by decide +kernel)
    (by decide +kernel) (by decide +kernel) (by decide +kernel) (by decide +kernel)
  have hrun : exec (.statusPoll 0 0x41#8 0) suspendingErase = .next (settle (onStatusPoll 0 0x41#8 0 (cleared suspendingErase))) :=
    effectIn_on .data (onStatusPoll 0 0x41#8 0) hp hd
  obtain rfl : settle (onStatusPoll 0 0x41#8 0 (cleared suspendingErase)) = t := Host.Outcome.next.inj (hrun.symm.trans ht)
  have hkept := suspended_onStatusPoll
  rw [dieOf, settle_sch, ← dieOf] at hheld
  rw [hheld] at hkept
  simp [ranTime, now, settle_clk, clock_onStatusPoll, stampedErase] at hkept

end Sys2Proof.Machine
end

section
/-!
PROOFS. Padding (R59 to R62), Flush (R57) and Report Zones (R98).
-/

namespace Sys2Proof.Machine

open Sys2Proof

/-- The entry of a zone that has been padded: the extent is recorded and the physical write pointer moved, the host's pointer is where it was. -/
def paddedEntry (z : ZstEntry) : ZstEntry :=
  { z with
    pads := insertPad ⟨z.wpPhys, padEnd z.tier z.wpPhys⟩ z.pads, wpPhys := (padEnd z.tier z.wpPhys + 1) * hrSlots z.tier
    filler := z.filler + ((padEnd z.tier z.wpPhys + 1) * hrSlots z.tier - z.wpPhys), padded := true }

/-- The programs of a zone with a padding noted: the half-row it starts in and the time. -/
def notedPadding (s : State) (p : Nat) (z : ZstEntry) : ZoneProg :=
  { progOf s p with padded := (progOf s p).padded ++ [(z.wpPhys / hrSlots z.tier, now s)] }

/-- A padding has room: it starts above slot 0 and below its end, which is not the zone's, and fewer than four extents are recorded. -/
def PadFits (z : ZstEntry) : Prop :=
  z.wpPhys ≠ 0 ∧ z.pads.length < 4 ∧ z.wpPhys < (padEnd z.tier z.wpPhys + 1) * hrSlots z.tier ∧
    (padEnd z.tier z.wpPhys + 1) * hrSlots z.tier < zoneSlots z.tier

section

variable {s : State} {e p : Nat} {z : ZstEntry} (hb : boundZone s e = some (p, z)) (hl : relocOf s p = none) (hfit : PadFits z)
  (hacc : accumOf s p (z.wpPhys / hrSlots z.tier) (z.wpPhys % hrSlots z.tier / 120) = none)
include hb hl hfit hacc

/-- A padding with room is recorded in the zone's entry and journalled. -/
theorem fillTo_padEnd : ∃ j, fillTo s e (padEnd z.tier z.wpPhys) = { putZst s p (paddedEntry z) with jrn := j } := by
  obtain ⟨-, hfour, hbelow, hinside⟩ := hfit
  have hwrite : writeAccumAt s p z.tier z.wpPhys = s := by simp only [writeAccumAt, hacc]
  obtain ⟨j, hj, -⟩ := journalZone_shape (putZst s p (paddedEntry z)) e
  refine ⟨j, ?_⟩
  rw [← hj]
  simp only [fillTo, hb, progZone, hl, hwrite, modZone_alone hb hl, if_neg (Nat.not_le.2 hbelow), decide_eq_false (Nat.not_le.2 hfour),
    decide_eq_false (Nat.not_le.2 hinside), Bool.or_self, Bool.false_and, Bool.false_eq_true, if_false, Bool.not_false, Bool.or_true, paddedEntry]

/-- Beside the zone's entry and its record a padding notes its half-row and its time with the zone's programs. -/
theorem runPadding_shape : ∃ j, runPadding s e false false = putProg { putZst s p (paddedEntry z) with jrn := j } p (notedPadding s p z) := by
  obtain ⟨j, hj⟩ := fillTo_padEnd hb hl hfit hacc
  obtain ⟨hzero, -, hbelow, -⟩ := hfit
  have hreloc : relocOf { putZst s p (paddedEntry z) with jrn := j } p = none := hl
  refine ⟨j, ?_⟩
  simp only [runPadding, hb, hj, progZone, hreloc, hzero, false_or, if_neg (Nat.not_le.2 hbelow), Bool.false_and, Bool.false_eq_true,
    if_false]
  rfl

end

/-- The state after a padding: the request that may have waited for it is gone, the zone's entry, its programs and the journal follow. -/
def afterPadding (s : State) (e p : Nat) (z : ZstEntry) (j : Journal) : State :=
  putProg { putZst { s with zrs := { s.zrs with padReqs := spErase s.zrs.padReqs e } } p (paddedEntry z) with jrn := j } p (notedPadding s p z)

theorem padZone_shape {s : State} {e p : Nat} {z : ZstEntry} (ha : allStaged s e = true) (hb : boundZone s e = some (p, z))
    (hl : relocOf s p = none) (hfit : PadFits z)
    (hacc : accumOf s p (z.wpPhys / hrSlots z.tier) (z.wpPhys % hrSlots z.tier / 120) = none) :
    ∃ j, padZone s e false false = afterPadding s e p z j := by
  obtain ⟨j, hj⟩ := runPadding_shape (s := { s with zrs := { s.zrs with padReqs := spErase s.zrs.padReqs e } }) hb hl hfit hacc
  exact ⟨j, (if_pos ha).trans hj⟩

theorem progOf_afterPadding (s : State) (e p : Nat) (z : ZstEntry) (j : Journal) : progOf (afterPadding s e p z j) p = notedPadding s p z :=
  spGet_set_same _ _ _ _

theorem only_afterPadding (s : State) (e p : Nat) (z : ZstEntry) (j : Journal) : Only s (afterPadding s e p z j) [.zrs, .jrn] [] :=
  only_changed s (h := s.hif) (c := s.cph) (b := s.sbg) (m := s.mhm) (k := s.mep) (q := s.sch) (f := s.free)

/-- The passing of time changes the clocks alone. -/
theorem only_advanceSch (s : State) (d : Nat) : Only s (advanceSch s d) [.clk] [] := by
  refine ⟨fun p hp => ?_, fun _ _ _ => rfl⟩
  cases p
  case clk => simp at hp
  case bay => exact ⟨rfl, rfl, fun _ => rfl⟩
  all_goals rfl

theorem progOf_settle (s : State) (p : Nat) : progOf (settle s) p = progOf s p := by
  rw [progOf, settle_zrs, progOf]

theorem boundZone_afterPadding {s : State} {e p : Nat} {z : ZstEntry} (hb : boundZone s e = some (p, z)) (j : Journal) :
    boundZone (afterPadding s e p z j) e = some (p, sealedZst (paddedEntry z)) :=
  boundZone_putZst (s := { s with zrs := { s.zrs with padReqs := spErase s.zrs.padReqs e } }) hb _

/-- A write reserved in the zone has its deadline; when it passes, the padding runs at that time (R60). -/
theorem completes_deadlinePadding {e d p : Nat} {z : ZstEntry} {s : State} (hw : Works s) (hd : padDeadline s e = some d)
    (ha : allStaged s e = true) (hb : boundZone s e = some (p, z)) (hl : relocOf s p = none) (hfit : PadFits z)
    (hacc : accumOf s p (z.wpPhys / hrSlots z.tier) (z.wpPhys % hrSlots z.tier / 120) = none) :
    Completes (.padDeadlineExpiry e) s fun t =>
      boundZone t e = some (p, sealedZst (paddedEntry z)) ∧
        (progOf t p).padded = (progOf s p).padded ++ [(z.wpPhys / hrSlots z.tier, max s.clk.sch d)] ∧ t.clk.sch = max s.clk.sch d ∧
        Only s t [.zrs, .jrn, .clk] [] := by
  let u := advanceSch (cleared s) d
  have hnow : u.clk.sch = max s.clk.sch d := by
    have hon : domainOn (cleared s) .data = true := hw.2
    have hadv : u.clk.sch = s.clk.sch + (d - s.clk.sch) := by
      simp only [u, advanceSch_eq, advance, hon, if_true]
      rfl
    omega
  obtain ⟨j, hj⟩ := padZone_shape (s := u) ha hb hl hfit hacc
  have hrun : onPadDeadlineExpiry e (cleared s) = afterPadding u e p z j := by
    have hd' : padDeadline (cleared s) e = some d := hd
    have hon : domainOn (cleared s) .data = true := hw.2
    simp only [onPadDeadlineExpiry, hd', hon, if_true]
    exact hj
  refine completes_runIn (f := onPadDeadlineExpiry e) rfl hw.1 hw.2 hrun ⟨?_, ?_, ?_, ?_⟩
  · rw [boundZone_settle]
    exact boundZone_afterPadding (s := u) hb j
  · rw [progOf_settle, progOf_afterPadding, notedPadding, now, hnow]
    rfl
  · rw [settle_clk]
    exact hnow
  · exact only_settle (only_cleared (only_mono (only_trans (only_advanceSch _ d) (only_afterPadding u e p z j)) (by simp) (by simp)))

/-- A PAD_AFTER append that has been staged has its zone padded at once (R59). -/
theorem completes_padAfter {e p : Nat} {z : ZstEntry} {s : State} (hw : Works s)
    (hany : ((incomplete s e).any fun kv => kv.2.kind == .placedAppend && pzaPadAfter kv.2.sqe && decide (kv.2.blocks ≤ kv.2.staged.length) &&
      !secured z.tier z.wpPhys kv.2) = true)
    (ha : allStaged s e = true) (hb : boundZone s e = some (p, z)) (hl : relocOf s p = none) (hfit : PadFits z)
    (hacc : accumOf s p (z.wpPhys / hrSlots z.tier) (z.wpPhys % hrSlots z.tier / 120) = none) :
    Completes (.padAfterPadding e) s fun t =>
      boundZone t e = some (p, sealedZst (paddedEntry z)) ∧
        (progOf t p).padded = (progOf s p).padded ++ [(z.wpPhys / hrSlots z.tier, s.clk.sch)] ∧ Only s t [.zrs, .jrn] [] := by
  obtain ⟨j, hj⟩ := padZone_shape (s := cleared s) ha hb hl hfit hacc
  have hrun : onPadAfterPadding e (cleared s) = afterPadding (cleared s) e p z j := by
    have hb' : boundZone (cleared s) e = some (p, z) := hb
    simp only [onPadAfterPadding, hb']
    exact (if_pos hany).trans hj
  refine completes_runIn (f := onPadAfterPadding e) rfl hw.1 hw.2 hrun ⟨?_, ?_, ?_⟩
  · rw [boundZone_settle]
    exact boundZone_afterPadding (s := cleared s) hb j
  · rw [progOf_settle, progOf_afterPadding]
    rfl
  · exact only_settle (only_cleared (only_afterPadding _ e p z j))

/-- A command whose end is all that its row does completes with that end. -/
theorem ended_settle {s u : State} {n : Nat} {c c' : CmdSlot} {st : Status} (hs : slotOf u n = some c') (hb : Bare u n c')
    (hothers : ∀ m, m ≠ n → slotOf u m = slotOf s m) (hpost : CanPost s n c → CanPost u n c')
    (hsame : c'.func = c.func ∧ c'.sqid = c.sqid ∧ c'.sqe = c.sqe) : Ended s (settle (finish u n st)) n c st := by
  obtain ⟨-, hfree, hkept, hposted⟩ := finish_bare hs hb st
  obtain ⟨hf, hq, he⟩ := hsame
  refine ⟨by rw [slotOf_settle]; exact hfree, fun m hm => ?_, fun hcan => ?_⟩
  · rw [slotOf_settle, hkept m hm, hothers m hm]
  · obtain ⟨dnr, hout⟩ := hposted (hpost hcan)
    rw [hf, hq, he] at hout
    exact ⟨_, _, dnr, mem_settle_out hout⟩

/-- Flush has nothing to write out: it ends with success (R57). -/
theorem completes_flush {n : Nat} {c : CmdSlot} {s : State} (hw : Works s) (hf : FetchedIo s n .flush c) (hcheck : genericCheck s c = none)
    (hstop : queueStopped s c.func c.sqid = false) :
    Completes (.flush n) s fun t => Ended s t n c .success ∧ Only s t [.hif] [] := by
  obtain ⟨hslot, hphase, hio, hkind, hbare⟩ := hf
  have hrun : onFlush n (cleared s) = finish (cleared s) n .success := by
    have hslot' : slotOf (cleared s) n = some c := hslot
    have hcheck' : genericCheck (cleared s) c = none := hcheck
    have hstop' : queueStopped (cleared s) c.func c.sqid = false := hstop
    simp only [onFlush, withFetched, hslot', hphase, hio, hkind, beq_self_eq_true, Bool.not_false, Bool.and_self, if_true, hcheck', hstop',
      Bool.false_eq_true, if_false]
  have hend : Ended s (settle (finish (cleared s) n .success)) n c .success :=
    ended_settle (u := cleared s) hslot hbare (fun _ _ => rfl) id ⟨rfl, rfl, rfl⟩
  exact completes_runIn (f := onFlush n) rfl hw.1 hw.2 hrun ⟨hend, only_settle (only_cleared (finish_bare (s := cleared s) hslot hbare .success).1)⟩

/-- The descriptors of the zones of a list that the option asks for, on a device that holds them all. -/
def described (s : State) (ns : Namespace) (opt : Nat) (zs : List Nat) : List (List Byte) :=
  (zs.filter fun z => reported opt (zoneState s z)).map (zoneDescriptor s ns)

/-- A device on its own describes the zones of the list that the option asks for, and draws nothing. -/
theorem reportList_standalone {s : State} (h : standalone s = true) (ns : Namespace) (opt : Nat) (zs : List Nat) :
    reportList ns opt zs s = (described s ns opt zs, s) := by
  induction zs with
  | nil => rfl
  | cons z zs ih =>
    have hhome : zoneHome s z = (none, z) := by simp only [zoneHome, h, if_true]
    simp only [reportList, hhome, ih]
    by_cases hr : reported opt (zoneState s z) = true
    · simp [described, hr]
    · simp [described, hr]

/-- The command slots and the outputs do not enter the descriptors. -/
theorem described_putSlot (s : State) (n : Nat) (c : CmdSlot) (ns : Namespace) (opt : Nat) (zs : List Nat) :
    described (putSlot (cleared s) n c) ns opt zs = described s ns opt zs := by
  have hstate : zoneState (putSlot (cleared s) n c) = zoneState s := rfl
  have hdescriptor : zoneDescriptor (putSlot (cleared s) n c) ns = zoneDescriptor s ns := rfl
  rw [described, hstate, hdescriptor, described]

/-- The data of a Report Zones: the number of zones, then the descriptors that fit in the transfer (R98). -/
def reportData (e : Sqe) (ds : List (List Byte)) : List Byte :=
  (leBytes 8 (if partialReport e then (ds.take ((zmrDwords e * 4 - 64) / 64)).length else ds.length) ++ List.replicate 56 0 ++
    (ds.take ((zmrDwords e * 4 - 64) / 64)).flatten).take (zmrDwords e * 4)

/-- The host's numbers of a namespace's zones from the one that a Report Zones starts at. -/
def zonesFrom (ns : Namespace) (first : Nat) : List Nat := (List.range (ns.count - first)).map fun i => ns.base + first + i

/-- A Report Zones that passes its checks on a device on its own hands the host its data and ends with success. (The list of descriptors is
replaced before the options are taken apart: the kernel would else evaluate it.) -/
theorem onReportZones_standalone {s : State} {n nsid : Nat} {c : CmdSlot} {ns : Namespace} (h : Passes s n .report c nsid ns)
    (hns : spFind s.nss nsid = some ns) (hone : standalone s = true) {c' : CmdSlot} (hc : c' = checkedSlot s .report c nsid ns)
    {u : State} (hu : u = putSlot s n c') :
    onReportZones n s =
      finish (emit u (.hostData c'.func c'.sqe.cid
        (reportData c'.sqe (described u ns (zrasf c'.sqe) (zonesFrom ns (slba c'.sqe / 2 ^ 20)))))) n .success := by
  have hns' : spFind u.nss c'.nsid = some ns := by rw [hu, hc]; exact hns
  have hone' : standalone u = true := by rw [hu]; exact hone
  rw [onReportZones, startIo_passes h, ← hc, ← hu]
  simp -zeta -iota only [reportList_standalone hone']
  simp only [hns', reportData, zonesFrom, hostData]

/-- Report Zones on a device on its own hands the host its data and ends with success. -/
theorem completes_report {n nsid : Nat} {c : CmdSlot} {ns : Namespace} {s : State} (h : Passes s n .report c nsid ns)
    (hns : spFind s.nss nsid = some ns) (hone : standalone s = true) :
    Completes (.reportZones n) s fun t =>
      Output.hostData c.func c.sqe.cid
        (reportData c.sqe (reportList ns (zrasf c.sqe) (zonesFrom ns (slba c.sqe / 2 ^ 20)) s).1) ∈ t.out ∧
      Ended s t n c .success ∧ Only s t [.hif] [] := by
  have hcleared : Passes (cleared s) n .report c nsid ns := h
  have hrun := onReportZones_standalone hcleared hns hone rfl rfl
  rw [described_putSlot] at hrun
  rw [reportList_standalone hone]
  generalize Output.hostData c.func c.sqe.cid (reportData c.sqe (described s ns (zrasf c.sqe) (zonesFrom ns (slba c.sqe / 2 ^ 20)))) = x at hrun ⊢
  let c' := checkedSlot (cleared s) .report c nsid ns
  let u := putSlot (cleared s) n c'
  obtain ⟨-, ⟨-, -, -, -, hbare0⟩, -⟩ := id h
  have hbare : Bare (emit u x) n c' := hbare0
  have hslot : slotOf (emit u x) n = some c' := slotOf_putSlot_same (cleared s) n c'
  refine completes_runIn (f := onReportZones n) rfl h.1.1 h.1.2 hrun ⟨?_, ?_, ?_⟩
  · obtain ⟨y, o, hy, -, -⟩ := hostKept_finish hslot hbare .success
    rw [hy]
    exact mem_settle_out (List.mem_append_left _ (List.mem_append_right _ (List.mem_singleton.2 rfl)))
  · exact ended_settle hslot hbare (fun m hm => slotOf_putSlot_ne (cleared s) c' hm) id ⟨rfl, rfl, rfl⟩
  · have hsent := only_trans (only_putSlot (cleared s) n c') (only_emit u x)
    exact only_settle (only_cleared (only_mono (only_trans hsent (finish_bare hslot hbare .success).1) (by simp) (by simp)))

/-- Settles O23: both paddings come to `padZone`, which has room; Flush and Report Zones end their commands. -/
theorem padding : Obligations.Padding := by
  unfold Obligations.Padding
  refine ⟨?deadline, ?after, ?flush, ?report⟩
  case deadline =>
    intro e d p z s hw hd ha hb hl hzero hfour hbelow hinside hacc
    exact completes_deadlinePadding hw hd ha hb hl ⟨hzero, hfour, hbelow, hinside⟩ hacc
  case after =>
    intro e p z s hw hany ha hb hl hzero hfour hbelow hinside hacc
    exact completes_padAfter hw hany ha hb hl ⟨hzero, hfour, hbelow, hinside⟩ hacc
  case flush => exact fun _ _ _ => completes_flush
  case report => exact fun _ _ _ _ _ => completes_report

end Sys2Proof.Machine
end

section
/-!
SUPPORT. The stop flags of functions (R134 to R136): what stops and releases change, the QUIET bit, and completions and events, which keep the flags.
-/

namespace Sys2Proof.Machine

open Sys2Proof

/-- Fields set change the registers that hold them alone. -/
theorem only_setFs (s : State) (l : List (Fld × Nat)) : Only s (setFs s l) [] (l.map fun x => x.1.addr) := by
  induction l generalizing s with
  | nil => exact only_refl s _ _
  | cons x l ih => exact only_mono (only_trans (only_setF s x.1 x.2) (ih _)) (by simp) (by simp)

theorem b2n_mod_two (b : Bool) : b2n b % 2 = b2n b := by cases b <;> rfl

theorem funcOf_putFunc_same (s : State) (f : Nat) (x : Func) : funcOf (putFunc s f x) f = x := spGet_set_same _ _ _ _

theorem funcOf_putFunc_ne (s : State) {f g : Nat} (x : Func) (h : g ≠ f) : funcOf (putFunc s f x) g = funcOf s g := spGet_set_ne _ _ _ _ h

theorem stop_setStop_same (s : State) (f : Nat) (g : StopFlags → StopFlags) : (funcOf (setStop s f g) f).stop = g (funcOf s f).stop := by
  rw [setStop, funcOf_putFunc_same]

theorem stop_setStop_ne (s : State) {f k : Nat} (g : StopFlags → StopFlags) (h : k ≠ f) : (funcOf (setStop s f g) k).stop = (funcOf s k).stop := by
  rw [setStop, funcOf_putFunc_ne _ _ h]

/-- The stop flags of the functions of a list changed one after another. -/
def setStops (fs : List Nat) (s : State) (g : StopFlags → StopFlags) : State := forEach fs s fun s f => setStop s f g

theorem setStops_cons (f : Nat) (fs : List Nat) (s : State) (g : StopFlags → StopFlags) :
    setStops (f :: fs) s g = setStops fs (setStop s f g) g := rfl

/-- The functions alone change. -/
theorem setStops_shape (fs : List Nat) (s : State) (g : StopFlags → StopFlags) :
    ∃ x, setStops fs s g = { s with hif := { s.hif with funcs := x } } := by
  refine forEach_rel (R := fun s t => ∃ x, t = { s with hif := { s.hif with funcs := x } }) (fun s => ⟨s.hif.funcs, rfl⟩) ?_ (fun s f => ⟨_, rfl⟩) fs s
  rintro s t u ⟨x, rfl⟩ ⟨y, rfl⟩
  exact ⟨y, rfl⟩

/-- What the change of flags keeps of one function holds through the list. -/
theorem setStops_kept {P : StopFlags → Prop} {g : StopFlags → StopFlags} (hg : ∀ x, P x → P (g x)) (fs : List Nat) {s : State} {k : Nat}
    (h : P (funcOf s k).stop) : P (funcOf (setStops fs s g) k).stop := by
  induction fs generalizing s with
  | nil => exact h
  | cons f fs ih =>
    refine ih (s := setStop s f g) ?_
    by_cases hk : k = f
    · rw [hk, stop_setStop_same, ← hk]
      exact hg _ h
    · rw [stop_setStop_ne _ _ hk]
      exact h

/-- What the change of flags makes true holds of every function of the list. -/
theorem setStops_mem {P : StopFlags → Prop} {g : StopFlags → StopFlags} (hg : ∀ x, P (g x)) {fs : List Nat} {s : State} {k : Nat} (hk : k ∈ fs) :
    P (funcOf (setStops fs s g) k).stop := by
  induction fs generalizing s with
  | nil => cases hk
  | cons f fs ih =>
    by_cases hf : k = f
    · refine setStops_kept (s := setStop s f g) (fun x _ => hg x) fs ?_
      rw [hf, stop_setStop_same]
      exact hg _
    · exact ih ((List.mem_cons.1 hk).resolve_left hf)

/-- QUIET depends on the command slots and the stop flags. -/
theorem quietNow_congr {s t : State} (hslots : t.hif.slots = s.hif.slots) (hstop : ∀ f, (funcOf t f).stop = (funcOf s f).stop) :
    quietNow t = quietNow s := by
  simp only [quietNow, hslots, queueStopped, hstop]

theorem quietNow_settle (s : State) : quietNow (settle s) = quietNow s :=
  quietNow_congr (by rw [settle_hif]) fun f => by rw [funcOf, settle_hif, funcOf]

theorem getF_markQuiet (s : State) : getF (markQuiet s) F.vfmReconf_quiet = b2n (quietNow (markQuiet s)) :=
  (getF_setF_same s F.vfmReconf_quiet _ (by decide) (by decide)).trans (b2n_mod_two _)

/-- An update of the host interface that keeps the slots, the submission queues and the stop flags. -/
def StopsKept (s t : State) : Prop := HostOnly s t ∧ ∀ f, (funcOf t f).stop = (funcOf s f).stop

theorem stopsKept_refl (s : State) : StopsKept s s := ⟨hostOnly_refl s, fun _ => rfl⟩

theorem stopsKept_trans {s t u : State} (h : StopsKept s t) (k : StopsKept t u) : StopsKept s u :=
  ⟨hostOnly_trans h.1 k.1, fun f => (k.2 f).trans (h.2 f)⟩

theorem stopsKept_emit (s : State) (x : Output) : StopsKept s (emit s x) := ⟨hostOnly_emit s x, fun _ => rfl⟩

theorem stopsKept_putFunc (s : State) (f : Nat) (x : Func) (hq : x.sqs = (funcOf s f).sqs) (hs : x.stop = (funcOf s f).stop) :
    StopsKept s (putFunc s f x) := by
  refine ⟨hostOnly_putFunc s f x hq, fun g => ?_⟩
  by_cases hg : g = f
  · rw [hg, funcOf_putFunc_same, hs]
  · rw [funcOf_putFunc_ne _ _ hg]

/-- A choice between two such updates is one. -/
theorem stopsKept_ite {c : Prop} [Decidable c] {s a b : State} (ha : StopsKept s a) (hb : StopsKept s b) : StopsKept s (if c then a else b) := by
  split <;> assumption

theorem stopsKept_sendMsix (s : State) (f v : Nat) : StopsKept s (sendMsix s f v) :=
  stopsKept_ite (stopsKept_refl s) (stopsKept_ite (stopsKept_putFunc s _ _ (by rfl) (by rfl)) (stopsKept_emit s _))

theorem stopsKept_postCqe (s : State) (e : Cqe) : StopsKept s (postCqe s e) := by
  unfold postCqe
  refine stopsKept_ite (stopsKept_emit s _) ?_
  split
  · exact stopsKept_refl s
  · refine stopsKept_ite ⟨hostOnly_hif s _ rfl rfl, fun _ => rfl⟩ ?_
    extract_lets wrap q' s1 s2
    have hposted : StopsKept s s2 := stopsKept_trans (stopsKept_putFunc s e.func _ (by rfl) (by rfl)) (stopsKept_emit s1 _)
    exact stopsKept_ite (stopsKept_trans hposted (stopsKept_sendMsix _ _ _)) hposted

theorem stopsKept_reportEvent (s : State) (f : Nat) : StopsKept s (reportEvent s f) := by
  unfold reportEvent
  refine stopsKept_ite (stopsKept_refl s) ?_
  split
  · refine stopsKept_trans ?_ (stopsKept_postCqe _ _)
    exact stopsKept_putFunc s f _ (by rfl) (by rfl)
  · exact stopsKept_refl s

theorem postWaiting_none {s : State} (h : s.hif.waiting = []) : postWaiting s = s := by
  have hsame : { s with hif := { s.hif with waiting := [] } } = s := by rw [← h]
  simp only [postWaiting, h, List.filter_nil, forEach, List.foldl_nil, hsame]

/-- With no completion that waits, functions that run again have their events reported. -/
theorem stopsKept_runAgain {s : State} (h : s.hif.waiting = []) : StopsKept (markQuiet s) (runAgain s) := by
  rw [runAgain, postWaiting_none (by exact h)]
  exact forEach_rel (R := StopsKept) stopsKept_refl stopsKept_trans (fun s f => stopsKept_reportEvent s f) _ _

end Sys2Proof.Machine
end

section
/-!
PROOFS. STOP_ALL (R134), and what QUIET and a FREEZE that waits for it do (R135, R142).
-/

namespace Sys2Proof.Machine

open Sys2Proof

/-- Every command that holds a slot is admitted. -/
def AllAdmitted (s : State) : Prop := ∀ kv ∈ s.hif.slots, isAdmitted kv.2 = true

/-- The flag that STOP_ALL sets. -/
def byStopAllSet (x : StopFlags) : StopFlags := { x with byStopAll := true }

/-- Functions stopped by STOP_ALL one after another. -/
def stopFuncs (fs : List Nat) (s : State) : State := forEach fs s fun s f => stopFunc s f byStopAllSet

theorem flushStopped_admitted {s : State} (h : AllAdmitted s) (f : Nat) : flushStopped s f = s := by
  have hnone : (s.hif.slots.filter fun kv => kv.2.func == f && !isAdmitted kv.2 && queueStopped s f kv.2.sqid) = [] :=
    List.filter_eq_nil_iff.2 fun kv hkv => by simp [h kv hkv]
  simp only [flushStopped, hnone, forEach, List.foldl_nil]

/-- Where every command is admitted, a stop sets the flag and brings QUIET up to date. -/
theorem stopFunc_admitted {s : State} (h : AllAdmitted s) (f : Nat) (g : StopFlags → StopFlags) : stopFunc s f g = markQuiet (setStop s f g) := by
  rw [stopFunc, flushStopped_admitted (by exact h)]

theorem stopFuncs_cons {s : State} (h : AllAdmitted s) (f : Nat) (fs : List Nat) :
    stopFuncs (f :: fs) s = stopFuncs fs (markQuiet (setStop s f byStopAllSet)) := by
  rw [← stopFunc_admitted h]
  rfl

theorem stopFuncs_hif {s : State} (h : AllAdmitted s) (fs : List Nat) : (stopFuncs fs s).hif = (setStops fs s byStopAllSet).hif := by
  have hgen : ∀ (fs : List Nat) (s t : State), AllAdmitted s → s.hif = t.hif → (stopFuncs fs s).hif = (setStops fs t byStopAllSet).hif := by
    intro fs
    induction fs with
    | nil => exact fun s t _ ht => ht
    | cons f fs ih =>
      intro s t hs ht
      rw [stopFuncs_cons hs, setStops_cons]
      refine ih _ _ hs ?_
      show (setStop s f byStopAllSet).hif = (setStop t f byStopAllSet).hif
      simp only [setStop, putFunc, funcOf, ht]
  exact hgen fs s s h rfl

/-- Beside the functions, the stops change QUIET alone. -/
theorem stopFuncs_kept {s : State} (h : AllAdmitted s) (fs : List Nat) :
    Only s (stopFuncs fs s) [.hif] [F.vfmReconf_quiet.addr] ∧ getF (stopFuncs fs s) F.vfmReconf_stopped = getF s F.vfmReconf_stopped := by
  induction fs generalizing s with
  | nil => exact ⟨only_refl s _ _, rfl⟩
  | cons f fs ih =>
    rw [stopFuncs_cons h]
    obtain ⟨honly, hbit⟩ := ih (s := markQuiet (setStop s f byStopAllSet)) h
    have hset : Only s (setStop s f byStopAllSet) [.hif] [] := only_changed s
    have hquiet := only_setF (setStop s f byStopAllSet) F.vfmReconf_quiet (b2n (quietNow (setStop s f byStopAllSet)))
    refine ⟨only_mono (only_trans (only_trans hset hquiet) honly) (by simp) (by simp), hbit.trans ?_⟩
    exact getF_setF_bits _ _ (by decide) (by decide) (by decide)

theorem stopFuncs_quiet {s : State} (h : AllAdmitted s) {fs : List Nat} (hne : fs ≠ []) :
    getF (stopFuncs fs s) F.vfmReconf_quiet = b2n (quietNow (stopFuncs fs s)) := by
  induction fs generalizing s with
  | nil => exact absurd rfl hne
  | cons f fs ih =>
    rw [stopFuncs_cons h]
    cases fs with
    | nil => exact getF_markQuiet _
    | cons k fs => exact ih (s := markQuiet (setStop s f byStopAllSet)) h (by simp)

/-- STOP_ALL as it runs on a device that is not stopped. -/
def stopsAll (s : State) : State := stopFuncs (funcsOf s) (setBit { s with vfm := { s.vfm with stopAll := true } } F.vfmReconf_stopped)

theorem only_vfm (s : State) (v : VfmState) : Only s { s with vfm := v } [.vfm] [] := by
  refine ⟨fun p hp => ?_, fun _ _ _ => rfl⟩
  cases p
  case vfm => simp at hp
  case bay => exact ⟨rfl, rfl, fun _ => rfl⟩
  all_goals rfl

/-- STOP_ALL of a device whose commands are all admitted: every function is stopped, and the bits follow. -/
theorem completes_stopAll {s : State} (hw : Works s) (hrun : s.vfm.stopAll = false) (hadm : AllAdmitted s) :
    Completes (.stopAll false) s fun t =>
      t.vfm = { s.vfm with stopAll := true } ∧ flag t F.vfmReconf_stopped = true ∧ getF t F.vfmReconf_quiet = b2n (quietNow t) ∧
        (∀ f ∈ funcsOf s, (funcOf t f).stop.byStopAll = true) ∧ t.hif.slots = s.hif.slots ∧ Only s t [.vfm, .hif] [F.vfmReconf_start.addr] := by
  let v := { s.vfm with stopAll := true }
  let u := setBit { cleared s with vfm := v } F.vfmReconf_stopped
  have hrow : onStopAll false (cleared s) = stopFuncs (funcsOf s) u := by
    have hrun' : (cleared s).vfm.stopAll = false := hrun
    simp only [onStopAll, hrun', Bool.false_eq_true, if_false]
    rfl
  have hadm' : AllAdmitted u := hadm
  obtain ⟨honly, hbit⟩ := stopFuncs_kept hadm' (funcsOf s)
  have hhif := stopFuncs_hif hadm' (funcsOf s)
  refine completes_runIn (f := onStopAll false) rfl hw.1 hw.2 hrow ⟨?_, ?_, ?_, fun f hf => ?_, ?_, ?_⟩
  · rw [settle_vfm]
    exact honly.1 .vfm (by decide)
  · rw [flag_settle _ (by decide), flag, hbit]
    have hset : getF u F.vfmReconf_stopped = 1 := getF_setF_same _ F.vfmReconf_stopped 1 (by decide) (by decide)
    rw [hset]
    rfl
  · rw [getF_settle _ _ (by decide), quietNow_settle]
    exact stopFuncs_quiet hadm' (by simp [funcsOf])
  · rw [funcOf, settle_hif, hhif]
    exact setStops_mem (P := fun x => x.byStopAll = true) (fun _ => rfl) hf
  · rw [settle_hif, hhif]
    obtain ⟨x, hx⟩ := setStops_shape (funcsOf s) u byStopAllSet
    rw [hx]
    rfl
  · have hstopped := only_trans (only_vfm (cleared s) v) (only_setF { cleared s with vfm := v } F.vfmReconf_stopped 1)
    exact only_settle (only_cleared (only_mono (only_trans hstopped honly) (by simp) (by decide)))

/-- QUIET is brought up to date; no migration operation waits for it. -/
theorem completes_quietReached {s : State} (hw : Works s) (hmig : s.vfm.migOp = none) :
    Completes .quietReached s fun t => getF t F.vfmReconf_quiet = b2n (quietNow t) ∧ Only s t [] [F.vfmReconf_quiet.addr] := by
  have hrow : onQuietReached (cleared s) = markQuiet (cleared s) := by
    have hmig' : (markQuiet (cleared s)).vfm.migOp = none := hmig
    simp only [onQuietReached, freezeDone, hmig']
  refine completes_runIn (f := onQuietReached) rfl hw.1 hw.2 hrow ⟨?_, only_settle (only_cleared (only_setF _ _ _))⟩
  rw [getF_settle _ _ (by decide), quietNow_settle]
  exact getF_markQuiet _

/-- The fields of VFM_MIG_STAT that the end of a FREEZE sets, with their values. -/
def freezeFlds : List (Fld × Nat) := [(F.vfmMigStat_err, 0), (F.vfmMigStat_length, 0), (F.vfmMigStat_done, 1)]

/-- No migration operation is under way. -/
def noMig (v : VfmState) : VfmState := { v with migOp := none, migSource := none }

theorem migEnd_eq (s : State) : migEnd s 0 0 = setF { setFs s freezeFlds with vfm := noMig s.vfm } F.vfmMigCtrl_go 0 := rfl

theorem getF_migEnd {s : State} {f : Fld} {n : Nat} (h : (f, n) ∈ freezeFlds) : getF (migEnd s 0 0) f = n % 2 ^ (f.hi + 1 - f.lo) := by
  have hother : ∀ g ∈ freezeFlds.map (·.1), g.addr ≠ F.vfmMigCtrl_go.addr := by decide
  have hapart : (freezeFlds.map (·.1)).Pairwise fun f g => apartFlds f g = true := by decide
  have hin : ∀ g ∈ freezeFlds.map (·.1), inWord g = true := by decide
  rw [migEnd_eq, getF_setF_addr _ _ (hother f (List.mem_map_of_mem h))]
  exact getF_setFs_mem hapart hin h s

theorem vfm_migEnd (s : State) : (migEnd s 0 0).vfm = noMig s.vfm := rfl

theorem only_migEnd (s : State) : Only s (migEnd s 0 0) [.vfm] [F.vfmMigCtrl_go.addr, F.vfmMigStat_done.addr] := by
  have hset := only_trans (only_setFs s freezeFlds) (only_vfm (setFs s freezeFlds) (noMig s.vfm))
  rw [migEnd_eq]
  exact only_mono (only_trans hset (only_setF _ F.vfmMigCtrl_go 0)) (by simp) (by decide)

/-- The flag that a FREEZE sets. -/
def frozenSet (x : StopFlags) : StopFlags := { x with frozen := true }

/-- A FREEZE of a quiet VF ends: the VF is frozen, the operation done. -/
theorem completes_freezeQuiet {f : Nat} {s : State} (hw : Works s) (hmig : s.vfm.migOp = some (.freeze, f)) (hq : vfQuiet s f = true) :
    Completes .quietReached s fun t =>
      (funcOf t f).stop.frozen = true ∧ flag t F.vfmMigStat_done = true ∧ getF t F.vfmMigStat_err = 0 ∧ flag t F.vfmMigCtrl_go = false ∧
        t.vfm.migOp = none ∧ Only s t [.hif, .vfm] [F.vfmReconf_quiet.addr, F.vfmMigCtrl_go.addr, F.vfmMigStat_done.addr] := by
  let u := setStop (markQuiet (cleared s)) f frozenSet
  have hrow : onQuietReached (cleared s) = migEnd u 0 0 := by
    have hmig' : (markQuiet (cleared s)).vfm.migOp = some (.freeze, f) := hmig
    have hq' : vfQuiet (markQuiet (cleared s)) f = true := hq
    rw [onQuietReached, freezeDone, hmig']
    exact if_pos hq'
  refine completes_runIn (f := onQuietReached) rfl hw.1 hw.2 hrow ⟨?_, ?_, ?_, ?_, ?_, ?_⟩
  · have hhif : (migEnd u 0 0).hif = u.hif := (only_migEnd u).1 .hif (by decide)
    rw [funcOf, settle_hif, hhif, ← funcOf, stop_setStop_same]
    rfl
  · rw [flag_settle _ (by decide), flag, getF_migEnd (n := 1) (by simp [freezeFlds])]
    rfl
  · rw [getF_settle _ _ (by decide), getF_migEnd (n := 0) (by simp [freezeFlds])]
    rfl
  · rw [flag_settle _ (by decide), migEnd_eq, flag, getF_setF_same _ _ _ (by decide) (by decide)]
    rfl
  · rw [settle_vfm, vfm_migEnd]
    rfl
  · have hquiet := only_setF (cleared s) F.vfmReconf_quiet (b2n (quietNow (cleared s)))
    have hstop : Only (markQuiet (cleared s)) u [.hif] [] := only_changed _
    exact only_settle (only_cleared (only_mono (only_trans (only_trans hquiet hstop) (only_migEnd u)) (by simp) (by simp)))

end Sys2Proof.Machine
end

section
/-!
PROOFS. START (R136 to R138): staged attachments and deadlines, a VF set newly enabled, a refusal, and the wait for the end of an entry.
-/

namespace Sys2Proof.Machine

open Sys2Proof

/-- One staged change of an attachment, applied. -/
def attachOne (s : State) (x : StagedAttach) : State := setAttached s x.nsid (if x.attach then some x.vf else none)

/-- A namespace's attachment after one staged change. -/
def ownerAfter (i : Nat) (a : Option Nat) (x : StagedAttach) : Option Nat := if x.nsid = i then (if x.attach then some x.vf else none) else a

/-- An attachment changes its namespace and adds a record to the journal. -/
theorem setAttached_shape (s : State) (i : Nat) (a : Option Nat) :
    ∃ n j, setAttached s i a = { s with nss := n, jrn := j } ∧ (s.jrn.waiting ≠ [] → j.waiting ≠ []) := by
  unfold setAttached
  split
  · exact ⟨_, _, rfl, fun _ => by simp⟩
  · exact ⟨s.nss, s.jrn, rfl, id⟩

theorem attachAll_shape (xs : List StagedAttach) (s : State) :
    ∃ n j, forEach xs s attachOne = { s with nss := n, jrn := j } ∧ (s.jrn.waiting ≠ [] → j.waiting ≠ []) := by
  refine forEach_rel (R := fun s t => ∃ n j, t = { s with nss := n, jrn := j } ∧ (s.jrn.waiting ≠ [] → j.waiting ≠ []))
    (fun s => ⟨s.nss, s.jrn, rfl, id⟩) ?_ (fun s x => setAttached_shape s _ _) xs s
  rintro s t u ⟨n, j, rfl, hj⟩ ⟨m, k, rfl, hk⟩
  exact ⟨m, k, rfl, fun h => hk (hj h)⟩

/-- A staged change leaves every namespace with the attachment that it asks for. -/
theorem spFind_attachOne {s : State} {i : Nat} {ns : Namespace} (h : spFind s.nss i = some ns) (x : StagedAttach) :
    spFind (attachOne s x).nss i = some { ns with attached := ownerAfter i ns.attached x } := by
  unfold attachOne setAttached ownerAfter
  by_cases hx : x.nsid = i
  · subst hx
    simp only [h, if_true]
    exact spFind_put_same _ _ _
  · cases hn : spFind s.nss x.nsid with
    | none => simpa only [if_neg hx] using h
    | some n =>
      simp only [if_neg hx]
      exact (spFind_put_ne _ _ (Ne.symm hx)).trans h

theorem spFind_attachAll (xs : List StagedAttach) {s : State} {i : Nat} {ns : Namespace} (h : spFind s.nss i = some ns) :
    spFind (forEach xs s attachOne).nss i = some { ns with attached := xs.foldl (ownerAfter i) ns.attached } := by
  induction xs generalizing s ns with
  | nil => exact h
  | cons x xs ih => exact ih (spFind_attachOne h x)

/-- What waited for START waits for the journal. -/
def journalWait (c : CmdSlot) : CmdSlot := { c with phase := .waitJournal }

/-- The commands of a list sent to wait for the journal. -/
def awaitAll (kvs : List (Nat × CmdSlot)) (s : State) : State := forEach kvs s fun s kv => awaitJournal s kv.1

/-- With records in the journal's queue a command waits for them. -/
theorem awaitJournal_waiting {s : State} {n : Nat} {c : CmdSlot} (hj : s.jrn.waiting ≠ []) (hs : slotOf s n = some c) :
    awaitJournal s n = putSlot s n (journalWait c) := by
  have hne : s.jrn.waiting.isEmpty = false := by simpa using hj
  simp only [awaitJournal, hs, hne, Bool.false_and, Bool.false_eq_true, if_false, journalWait]

theorem awaitJournal_none {s : State} {n : Nat} (hs : slotOf s n = none) : awaitJournal s n = s := by simp only [awaitJournal, hs]

theorem awaitAll_shape (kvs : List (Nat × CmdSlot)) {s : State} (hj : s.jrn.waiting ≠ [] ∨ kvs = []) :
    ∃ x, awaitAll kvs s = { s with hif := { s.hif with slots := x } } := by
  induction kvs generalizing s with
  | nil => exact ⟨s.hif.slots, rfl⟩
  | cons kv kvs ih =>
    have hj' : s.jrn.waiting ≠ [] := hj.resolve_right (by simp)
    show ∃ x, awaitAll kvs (awaitJournal s kv.1) = _
    cases hs : slotOf s kv.1 with
    | none =>
      rw [awaitJournal_none hs]
      exact ih (.inl hj')
    | some c =>
      rw [awaitJournal_waiting hj' hs]
      obtain ⟨x, hx⟩ := ih (s := putSlot s kv.1 (journalWait c)) (.inl hj')
      exact ⟨x, hx⟩

theorem slotOf_awaitAll {kvs : List (Nat × CmdSlot)} {s : State} {n : Nat} {c : CmdSlot} (hj : s.jrn.waiting ≠ []) (hs : slotOf s n = some c) :
    slotOf (awaitAll kvs s) n = some (if n ∈ kvs.map (·.1) then journalWait c else c) := by
  induction kvs generalizing s c with
  | nil => exact hs
  | cons kv kvs ih =>
    show slotOf (awaitAll kvs (awaitJournal s kv.1)) n = _
    by_cases hk : n = kv.1
    · subst hk
      rw [awaitJournal_waiting hj hs, ih (s := putSlot s kv.1 (journalWait c)) hj (slotOf_putSlot_same _ _ _)]
      simp [journalWait]
    · have hmem : (n ∈ (kv :: kvs).map (·.1)) = (n ∈ kvs.map (·.1)) := by simp [hk]
      simp only [hmem]
      cases hs' : slotOf s kv.1 with
      | none =>
        rw [awaitJournal_none hs']
        exact ih hj hs
      | some c' =>
        rw [awaitJournal_waiting hj hs']
        exact ih (s := putSlot s kv.1 (journalWait c')) hj ((slotOf_putSlot_ne _ _ hk).trans hs)

theorem mem_of_spFind {α : Type} {m : Sparse α} {i : Nat} {x : α} (h : spFind m i = some x) : (i, x) ∈ m := by
  induction m with
  | nil => cases h
  | cons kv m ih =>
    obtain ⟨k, v⟩ := kv
    unfold spFind at h
    split at h
    · next hk => exact hk ▸ Option.some.inj h ▸ List.mem_cons_self
    · exact List.mem_cons_of_mem _ (ih h)

/-- The slots whose commands wait for START. -/
def waitsStart (s : State) : List (Nat × CmdSlot) := s.hif.slots.filter fun kv => kv.2.phase == .waitStart

/-- The flag that START clears. -/
def byStopAllCleared (x : StopFlags) : StopFlags := { x with byStopAll := false }

/-- The bits of VFM_RECONF that a START leaves, with their values. -/
def startFlds : List (Fld × Nat) := [(F.vfmReconf_stopped, 0), (F.vfmReconf_start, 0), (F.vfmReconf_err, 0)]

/-- The functions released by a START. -/
def released (s : State) : State := setStops (funcsOf s) s byStopAllCleared

/-- The state of a START once the functions are released and the commands that waited are sent on. -/
def sentOn (s : State) : State := awaitAll (waitsStart (released s)) { released s with vfm := { (released s).vfm with stopAll := false, startWaits := false } }

/-- The end of a START: the stop is cleared, what waited goes on, and the functions run again. -/
def startEnds (s : State) : State := runAgain (setFs (sentOn s) startFlds)

/-- What the end of a START leaves. -/
structure StartEnded (s t : State) : Prop where
  vfm : t.vfm = { s.vfm with stopAll := false, startWaits := false }
  stopped : flag t F.vfmReconf_stopped = false
  start : flag t F.vfmReconf_start = false
  err : getF t F.vfmReconf_err = 0
  quiet : getF t F.vfmReconf_quiet = b2n (quietNow t)
  running : ∀ f ∈ funcsOf s, (funcOf t f).stop.byStopAll = false
  offline : ∀ f, (funcOf s f).stop.byOffline = true → (funcOf t f).stop.byOffline = true
  sent : ∀ n c, slotOf s n = some c → c.phase = .waitStart → slotOf t n = some { c with phase := .waitJournal }
  only : Only s t [.vfm, .hif] [F.vfmReconf_start.addr]

/-- Beside the functions and the slots, sending on changes the flags of the START alone. -/
theorem sentOn_shape {s : State} (hj : s.jrn.waiting ≠ [] ∨ waitsStart s = []) :
    ∃ x y, released s = { s with hif := { s.hif with funcs := x } } ∧
      sentOn s = { s with hif := { s.hif with funcs := x, slots := y }, vfm := { s.vfm with stopAll := false, startWaits := false } } := by
  obtain ⟨x, hx⟩ := setStops_shape (funcsOf s) s byStopAllCleared
  have hr : released s = { s with hif := { s.hif with funcs := x } } := hx
  have hw : waitsStart (released s) = waitsStart s := by rw [hr]; rfl
  obtain ⟨y, hy⟩ := awaitAll_shape (waitsStart s) (s := { released s with vfm := { (released s).vfm with stopAll := false, startWaits := false } })
    (by rw [hr]; exact hj)
  refine ⟨x, y, hr, ?_⟩
  rw [sentOn, hw, hy, hr]

theorem slotOf_sentOn {s : State} {n : Nat} {c : CmdSlot} (hj : s.jrn.waiting ≠ [] ∨ waitsStart s = []) (hs : slotOf s n = some c)
    (hc : c.phase = .waitStart) : slotOf (sentOn s) n = some (journalWait c) := by
  obtain ⟨x, y, hr, -⟩ := sentOn_shape hj
  have hmem : (n, c) ∈ waitsStart s := List.mem_filter.2 ⟨mem_of_spFind hs, by simp [hc]⟩
  have hj' : s.jrn.waiting ≠ [] := hj.resolve_right fun h => by rw [h] at hmem; cases hmem
  have hin : n ∈ (waitsStart s).map (·.1) := List.mem_map_of_mem hmem
  have hw : waitsStart (released s) = waitsStart s := by rw [hr]; rfl
  have hslot : slotOf { released s with vfm := { (released s).vfm with stopAll := false, startWaits := false } } n = some c := by rw [hr]; exact hs
  rw [sentOn, hw, slotOf_awaitAll (by rw [hr]; exact hj') hslot, if_pos hin]

/-- What the bits of a START and the functions that run again leave of a state. -/
structure RunsAgain (s t : State) : Prop where
  vfm : t.vfm = s.vfm
  stopped : flag t F.vfmReconf_stopped = false
  start : flag t F.vfmReconf_start = false
  err : getF t F.vfmReconf_err = 0
  quiet : getF t F.vfmReconf_quiet = b2n (quietNow t)
  stops : ∀ f, (funcOf t f).stop = (funcOf s f).stop
  slots : ∀ n, slotOf t n = slotOf s n
  only : Only s t [.hif] [F.vfmReconf_start.addr]

/-- The bits of VFM_RECONF once a START is over. -/
def quietFlds (s : State) : List (Fld × Nat) := startFlds ++ [(F.vfmReconf_quiet, b2n (quietNow s))]

theorem markQuiet_startFlds (s : State) : markQuiet (setFs s startFlds) = setFs s (quietFlds s) := by
  have hq : quietNow (setFs s startFlds) = quietNow s := by
    rw [setFs_shape]
    rfl
  rw [quietFlds, setFs_append, markQuiet, hq]
  rfl

theorem map_quietFlds (s : State) :
    (quietFlds s).map (·.1) = [F.vfmReconf_stopped, F.vfmReconf_start, F.vfmReconf_err, F.vfmReconf_quiet] := rfl

theorem getF_quietFlds {s : State} {f : Fld} {n : Nat} (h : (f, n) ∈ quietFlds s) : getF (setFs s (quietFlds s)) f = n % 2 ^ (f.hi + 1 - f.lo) :=
  getF_setFs_mem (by rw [map_quietFlds]; decide) (by rw [map_quietFlds]; decide) h s

theorem runsAgain {s : State} (hwait : s.hif.waiting = []) : RunsAgain s (runAgain (setFs s startFlds)) := by
  have hwait' : (setFs s startFlds).hif.waiting = [] := by
    rw [setFs_shape]
    exact hwait
  have hkept := stopsKept_runAgain hwait'
  rw [markQuiet_startFlds] at hkept
  obtain ⟨hhost, hstops⟩ := hkept
  generalize runAgain (setFs s startFlds) = t at hhost hstops ⊢
  have honly := hostOnly_only hhost
  have hregs : ∀ f n, (f, n) ∈ quietFlds s → f.addr ∉ settledAddrs → getF t f = n % 2 ^ (f.hi + 1 - f.lo) := fun f n h ha =>
    (honly.2 f (by simp) ha).trans (getF_quietFlds h)
  have hstops' : ∀ f, (funcOf t f).stop = (funcOf s f).stop := fun f => by
    rw [hstops, setFs_shape]
    rfl
  have hslots : t.hif.slots = s.hif.slots := by
    obtain ⟨h, o, he, hs, -⟩ := hhost
    rw [he]
    refine hs.trans ?_
    rw [setFs_shape]
  refine ⟨?_, ?_, ?_, ?_, ?_, hstops', fun n => congrArg (spFind · n) hslots, ?_⟩
  · refine (honly.1 .vfm (by decide)).trans ?_
    rw [setFs_shape]
  · rw [flag, hregs _ 0 (by simp [quietFlds, startFlds]) (by decide)]
    rfl
  · rw [flag, hregs _ 0 (by simp [quietFlds, startFlds]) (by decide)]
    rfl
  · rw [hregs _ 0 (by simp [quietFlds, startFlds]) (by decide)]
    rfl
  · rw [hregs F.vfmReconf_quiet (b2n (quietNow s)) (by simp [quietFlds]) (by decide), quietNow_congr hslots hstops']
    exact b2n_mod_two _
  · exact only_mono (only_trans (only_setFs s (quietFlds s)) honly) (by simp) (by simp [quietFlds, startFlds, F.vfmReconf_stopped,
      F.vfmReconf_start, F.vfmReconf_err, F.vfmReconf_quiet])

/-- The end of a START, where no completion waits for room. -/
theorem startEnded {s : State} (hwait : s.hif.waiting = []) (hj : s.jrn.waiting ≠ [] ∨ waitsStart s = []) : StartEnded s (startEnds s) := by
  obtain ⟨x, y, hr, hu⟩ := sentOn_shape hj
  have hrun : RunsAgain (sentOn s) (startEnds s) := runsAgain (by rw [hu]; exact hwait)
  have hstops : ∀ f, (funcOf (startEnds s) f).stop = (funcOf (released s) f).stop := fun f => by
    rw [hrun.stops, hu, hr]
    rfl
  have hsent : Only s (sentOn s) [.vfm, .hif] [] := by
    rw [hu]
    have hhif : Only s { s with hif := { s.hif with funcs := x, slots := y } } [.hif] [] := only_changed s
    exact only_mono (only_trans hhif (only_vfm _ _)) (by simp) (by simp)
  refine ⟨?_, hrun.stopped, hrun.start, hrun.err, hrun.quiet, fun f hf => ?_, fun f hf => ?_, fun n c hn hc => ?_, ?_⟩
  · rw [hrun.vfm, hu]
  · rw [hstops]
    exact setStops_mem (g := byStopAllCleared) (P := fun x => x.byStopAll = false) (fun _ => rfl) hf
  · rw [hstops]
    exact setStops_kept (g := byStopAllCleared) (P := fun x => x.byOffline = true) (fun _ h => h) _ hf
  · rw [hrun.slots]
    exact slotOf_sentOn hj hn hc
  · exact only_mono (only_trans hsent hrun.only) (by simp) (by simp)

/-- The state once the staged attachments and deadlines are applied. -/
def stagedApplied (s : State) : State :=
  let u := forEach s.vfm.stagedAttach s attachOne
  { u with vfm := { u.vfm with classShadow := u.vfm.classShadow ++ u.vfm.stagedClasses, stagedAttach := [], stagedClasses := [] } }

/-- A START that is not refused applies what is staged, changes the VF set where it was written, and ends. -/
theorem onStart_applies {s : State} (hidle : flag s F.vfmReconf_start = false) (henter : entering s = false) (herr : startError s = 0) :
    onStart s =
      let u := stagedApplied (setBit s F.vfmReconf_start)
      startEnds (if u.vfm.vfEnableWritten != u.vfm.vfEnable || u.vfm.numVfsWritten != u.vfm.numVfs then
        changeVfs u u.vfm.vfEnableWritten u.vfm.numVfsWritten else u) := by
  have herr' : startError (setBit s F.vfmReconf_start) = 0 := herr
  simp only [onStart, hidle, henter, runStart, herr', Bool.false_eq_true, if_false, if_true]
  rfl

/-- Beside the START's own state, what is staged changes the namespaces and the journal. -/
theorem stagedApplied_shape (s : State) :
    ∃ n j, stagedApplied s = { s with
      nss := n, jrn := j
      vfm := { s.vfm with classShadow := s.vfm.classShadow ++ s.vfm.stagedClasses, stagedAttach := [], stagedClasses := [] } } ∧
      (s.jrn.waiting ≠ [] → j.waiting ≠ []) ∧
      ∀ i ns, spFind s.nss i = some ns → spFind n i = some { ns with attached := stagedOwner s i } := by
  obtain ⟨n, j, hu, hj⟩ := attachAll_shape s.vfm.stagedAttach s
  refine ⟨n, j, ?_, hj, fun i ns hns => ?_⟩
  · rw [stagedApplied, hu]
  · have hfind := spFind_attachAll s.vfm.stagedAttach hns
    rw [hu] at hfind
    rw [stagedOwner, hns]
    exact hfind

theorem only_nssJrn (s : State) (n : Sparse Namespace) (j : Journal) : Only s { s with nss := n, jrn := j } [.nss, .jrn] [] := by
  refine ⟨fun p hp => ?_, fun _ _ _ => rfl⟩
  cases p
  case nss => simp at hp
  case jrn => simp at hp
  case bay => exact ⟨rfl, rfl, fun _ => rfl⟩
  all_goals rfl

/-- START with no change of the VF set. -/
theorem completes_start {s : State} (hw : Works s) (hidle : flag s F.vfmReconf_start = false) (henter : entering s = false)
    (herr : startError s = 0) (hen : s.vfm.vfEnableWritten = s.vfm.vfEnable) (hnum : s.vfm.numVfsWritten = s.vfm.numVfs)
    (hwait : s.hif.waiting = []) (hj : s.jrn.waiting ≠ [] ∨ ∀ kv ∈ s.hif.slots, kv.2.phase ≠ .waitStart) :
    Completes .start s fun t =>
      t.vfm = { s.vfm with stopAll := false, stagedAttach := [], stagedClasses := [], startWaits := false, classShadow := s.vfm.classShadow ++ s.vfm.stagedClasses } ∧
        flag t F.vfmReconf_stopped = false ∧ flag t F.vfmReconf_start = false ∧ getF t F.vfmReconf_err = 0 ∧
        getF t F.vfmReconf_quiet = b2n (quietNow t) ∧ (∀ f ∈ funcsOf s, (funcOf t f).stop.byStopAll = false) ∧
        (∀ i ns, spFind s.nss i = some ns → spFind t.nss i = some { ns with attached := stagedOwner s i }) ∧
        (∀ n c, slotOf s n = some c → c.phase = .waitStart → slotOf t n = some { c with phase := .waitJournal }) ∧
        Only s t [.vfm, .hif, .nss, .jrn] [F.vfmReconf_start.addr] := by
  let u := setBit (cleared s) F.vfmReconf_start
  obtain ⟨n, j, hu, hjrn, hattached⟩ := stagedApplied_shape u
  have hsame : ((stagedApplied u).vfm.vfEnableWritten != (stagedApplied u).vfm.vfEnable ||
      (stagedApplied u).vfm.numVfsWritten != (stagedApplied u).vfm.numVfs) = false := by
    have hen' : u.vfm.vfEnableWritten = u.vfm.vfEnable := hen
    have hnum' : u.vfm.numVfsWritten = u.vfm.numVfs := hnum
    rw [hu]
    simp [hen', hnum']
  have hrow : onStart (cleared s) = startEnds (stagedApplied u) := by
    rw [onStart_applies (s := cleared s) hidle henter herr]
    exact congrArg startEnds (if_neg (by rw [hsame]; exact Bool.false_ne_true))
  have hnone : (stagedApplied u).jrn.waiting ≠ [] ∨ waitsStart (stagedApplied u) = [] := by
    rw [hu]
    refine hj.imp hjrn fun h => List.filter_eq_nil_iff.2 fun kv hkv => ?_
    simpa using h kv hkv
  have hend := startEnded (s := stagedApplied u) (by rw [hu]; exact hwait) hnone
  refine completes_runIn (f := onStart) rfl hw.1 hw.2 hrow ⟨?_, ?_, ?_, ?_, ?_, fun f hf => ?_, fun i ns hns => ?_, fun k c hk hc => ?_, ?_⟩
  · rw [settle_vfm, hend.vfm, hu]
    rfl
  · rw [flag_settle _ (by decide), hend.stopped]
  · rw [flag_settle _ (by decide), hend.start]
  · rw [getF_settle _ _ (by decide), hend.err]
  · rw [getF_settle _ _ (by decide), quietNow_settle, hend.quiet]
  · rw [funcOf, settle_hif]
    exact hend.running f (by rw [hu]; exact hf)
  · have hnss : (startEnds (stagedApplied u)).nss = n := (hend.only.1 .nss (by decide)).trans (by rw [hu])
    rw [settle_nss, hnss]
    exact hattached i ns hns
  · rw [slotOf_settle]
    exact hend.sent k c (by rw [hu]; exact hk) hc
  · have hbit := only_setF (cleared s) F.vfmReconf_start 1
    have hstaged : Only u (stagedApplied u) [.nss, .jrn, .vfm] [] := by
      rw [hu]
      exact only_mono (only_trans (only_nssJrn u n j) (only_vfm _ _)) (by simp) (by simp)
    exact only_settle (only_cleared (only_mono (only_trans (only_trans hbit hstaged) hend.only) (by simp) (by simp)))

/-- START refused: ERR tells why, and what is staged stays. -/
theorem completes_startRefused {s : State} (hw : Works s) (hidle : flag s F.vfmReconf_start = false) (henter : entering s = false)
    (herr : startError s ≠ 0) :
    Completes .start s fun t =>
      getF t F.vfmReconf_err = startError s ∧ flag t F.vfmReconf_start = false ∧ t.vfm = { s.vfm with startWaits := false } ∧
        Only s t [.vfm] [F.vfmReconf_start.addr] := by
  let v := { s.vfm with startWaits := false }
  let l : List (Fld × Nat) := [(F.vfmReconf_err, startError s), (F.vfmReconf_start, 0)]
  let u := { setBit (cleared s) F.vfmReconf_start with vfm := v }
  have hrow : onStart (cleared s) = setFs u l := by
    have hidle' : flag (cleared s) F.vfmReconf_start = false := hidle
    have henter' : entering (cleared s) = false := henter
    have herr' : startError (setBit (cleared s) F.vfmReconf_start) ≠ 0 := herr
    simp only [onStart, hidle', henter', runStart, if_neg herr', Bool.false_eq_true, if_false]
    rfl
  have hfits : startError s < 8 := by
    unfold startError
    dsimp only
    repeat' split
    all_goals decide
  have hlist : l.map (·.1) = [F.vfmReconf_err, F.vfmReconf_start] := rfl
  have hset : ∀ x n, (x, n) ∈ l → getF (setFs u l) x = n % 2 ^ (x.hi + 1 - x.lo) := fun x n h =>
    getF_setFs_mem (by rw [hlist]; decide) (by rw [hlist]; decide) h _
  refine completes_runIn (f := onStart) rfl hw.1 hw.2 hrow ⟨?_, ?_, ?_, ?_⟩
  · rw [getF_settle _ _ (by decide), hset _ (startError s) (by simp [l])]
    exact Nat.mod_eq_of_lt hfits
  · rw [flag_settle _ (by decide), flag, hset _ 0 (by simp [l])]
    rfl
  · rw [settle_vfm, setFs_shape]
  · have hbit := only_setF (cleared s) F.vfmReconf_start 1
    exact only_settle (only_cleared (only_mono (only_trans (only_trans hbit (only_vfm _ v)) (only_setFs u l)) (by simp)
      (by simp [l, F.vfmReconf_err, F.vfmReconf_start])))

/-- START during an entry waits for PD_DATA (R138). -/
theorem completes_startWaits {s : State} (hw : Works s) (henter : entering s = true) (hidle : flag s F.vfmReconf_start = false) :
    Completes .start s fun t =>
      t.vfm = { s.vfm with startWaits := true } ∧ flag t F.vfmReconf_start = true ∧ Only s t [.vfm] [F.vfmReconf_start.addr] := by
  let u := { cleared s with vfm := { s.vfm with startWaits := true } }
  have hrow : onStart (cleared s) = setF u F.vfmReconf_start 1 := by
    have hidle' : flag (cleared s) F.vfmReconf_start = false := hidle
    have henter' : entering (cleared s) = true := henter
    simp only [onStart, hidle', henter', Bool.false_eq_true, if_false, if_true]
    rfl
  refine completes_runIn (f := onStart) rfl hw.1 hw.2 hrow ⟨?_, ?_, ?_⟩
  · rw [settle_vfm]
    rfl
  · rw [flag_settle _ (by decide), flag, getF_setF_same _ _ _ (by decide) (by decide)]
    rfl
  · exact only_settle (only_cleared (only_mono (only_trans (only_vfm (cleared s) _) (only_setF u F.vfmReconf_start 1)) (by simp) (by simp)))

/-- The share fields with what they take for N VFs (R130). -/
def shareWrites (n : Nat) : List (Fld × Nat) :=
  [(F.vfmShare_qp, (vfShares n).1), (F.vfmShare_vec, (vfShares n).2.1), (F.vfmShare_ctx, (vfShares n).2.2),
   (F.vfmSharePf_qpPf, (pfShares n).1), (F.vfmSharePf_vecPf, (pfShares n).2.1), (F.vfmSharePf_ctxPf, (pfShares n).2.2)]

theorem setShares_eq (s : State) (n : Nat) : setShares s n = setFs s (shareWrites n) := rfl

/-- The VFs newly enabled come up stopped. -/
def byOfflineSet (x : StopFlags) : StopFlags := { x with byOffline := true }

/-- The state with VF Enable set and no function left but the PF. -/
def vfsEnabled (s : State) (n : Nat) : State :=
  { s with
    vfm := { s.vfm with vfEnable := true, numVfs := n }
    hif := { s.hif with funcs := s.hif.funcs.filter fun kv => kv.1 == 0 } }

/-- Where no VF was, a change of the VF set has none to reset. -/
theorem changeVfs_newly {s : State} (hoff : s.vfm.vfEnable = false) (n : Nat) :
    changeVfs s true n = setStops ((List.range n).map (· + 1)) (setFs (vfsEnabled s n) (shareWrites n)) byOfflineSet := by
  have hold : (funcsOf s).filter (· != 0) = [] := by simp [funcsOf, hoff]
  simp only [changeVfs, hold, forEach, List.foldl_nil, List.filter_nil, List.contains_nil, Bool.false_and, Bool.false_eq_true, if_false, if_true]
  rfl

theorem only_vfsEnabled (s : State) (n : Nat) : Only s (vfsEnabled s n) [.vfm, .hif] [] := by
  have hhif : Only s { s with hif := { s.hif with funcs := s.hif.funcs.filter fun kv => kv.1 == 0 } } [.hif] [] := only_changed s
  exact only_mono (only_trans hhif (only_vfm _ { s.vfm with vfEnable := true, numVfs := n })) (by simp) (by simp)

/-- What a change that newly enables VFs leaves: the shares, and every VF stopped. -/
theorem changeVfs_newly_leaves {s : State} (hoff : s.vfm.vfEnable = false) (n : Nat) :
    ∃ x r, changeVfs s true n = { vfsEnabled s n with regs := r, hif := { s.hif with funcs := x } } ∧
      (∀ f k, (f, k) ∈ shareWrites n → holds (changeVfs s true n) f k) ∧
      (∀ f, 1 ≤ f → f ≤ n → (funcOf (changeVfs s true n) f).stop.byOffline = true) ∧
      Only s (changeVfs s true n) [.vfm, .hif] [F.vfmShare_qp.addr, F.vfmSharePf_qpPf.addr] := by
  let u := setFs (vfsEnabled s n) (shareWrites n)
  obtain ⟨x, hx⟩ := setStops_shape ((List.range n).map (· + 1)) u byOfflineSet
  have hshares : (shareWrites n).map (·.1) =
      [F.vfmShare_qp, F.vfmShare_vec, F.vfmShare_ctx, F.vfmSharePf_qpPf, F.vfmSharePf_vecPf, F.vfmSharePf_ctxPf] := rfl
  rw [changeVfs_newly hoff]
  refine ⟨x, u.regs, ?_, fun f k hk => ?_, fun f hone hle => ?_, ?_⟩
  · rw [hx]
    simp only [u]
    rw [setFs_shape]
    rfl
  · have hregs : (setStops ((List.range n).map (· + 1)) u byOfflineSet).regs = u.regs := by rw [hx]
    exact (getF_congr hregs f).trans (getF_setFs_mem (by rw [hshares]; decide) (by rw [hshares]; decide) hk _)
  · have hmem : f ∈ (List.range n).map (· + 1) := List.mem_map.2 ⟨f - 1, List.mem_range.2 (by omega), by omega⟩
    exact setStops_mem (P := fun x => x.byOffline = true) (fun _ => rfl) hmem
  · have hfuncs : Only u (setStops ((List.range n).map (· + 1)) u byOfflineSet) [.hif] [] := by
      rw [hx]
      exact only_changed u
    exact only_mono (only_trans (only_trans (only_vfsEnabled s n) (only_setFs _ (shareWrites n))) hfuncs) (by simp)
      (by simp [shareWrites, F.vfmShare_qp, F.vfmShare_vec, F.vfmShare_ctx, F.vfmSharePf_qpPf, F.vfmSharePf_vecPf, F.vfmSharePf_ctxPf])

/-- START with VF Enable newly set. -/
theorem completes_startVfs {s : State} (hw : Works s) (hidle : flag s F.vfmReconf_start = false) (henter : entering s = false)
    (herr : startError s = 0) (hoff : s.vfm.vfEnable = false) (hon : s.vfm.vfEnableWritten = true) (hstaged : s.vfm.stagedAttach = [])
    (hwait : s.hif.waiting = []) (hnone : ∀ kv ∈ s.hif.slots, kv.2.phase ≠ .waitStart) :
    Completes .start s fun t =>
      t.vfm.vfEnable = true ∧ t.vfm.numVfs = s.vfm.numVfsWritten ∧ holds t F.vfmShare_qp (vfShares s.vfm.numVfsWritten).1 ∧
        holds t F.vfmShare_vec (vfShares s.vfm.numVfsWritten).2.1 ∧ holds t F.vfmShare_ctx (vfShares s.vfm.numVfsWritten).2.2 ∧
        holds t F.vfmSharePf_ctxPf (pfShares s.vfm.numVfsWritten).2.2 ∧
        (∀ f, 1 ≤ f → f ≤ s.vfm.numVfsWritten → (funcOf t f).stop.byOffline = true) ∧
        Only s t [.vfm, .hif] [F.vfmReconf_start.addr, F.vfmShare_qp.addr, F.vfmSharePf_qpPf.addr] := by
  let u := setBit (cleared s) F.vfmReconf_start
  let v := { s.vfm with classShadow := s.vfm.classShadow ++ s.vfm.stagedClasses, stagedAttach := [], stagedClasses := [] }
  let w : State := { u with vfm := v }
  have happlied : stagedApplied u = w := by
    have hstaged' : u.vfm.stagedAttach = [] := hstaged
    simp only [stagedApplied, hstaged']
    rfl
  obtain ⟨x, r, hshape, hshares, hstops, hvfs⟩ := changeVfs_newly_leaves (s := w) hoff s.vfm.numVfsWritten
  let y := changeVfs w true s.vfm.numVfsWritten
  have hrow : onStart (cleared s) = startEnds y := by
    have hchange : (w.vfm.vfEnableWritten != w.vfm.vfEnable || w.vfm.numVfsWritten != w.vfm.numVfs) = true := by
      have hon' : w.vfm.vfEnableWritten = true := hon
      have hoff' : w.vfm.vfEnable = false := hoff
      rw [hon', hoff']
      rfl
    have hon' : w.vfm.vfEnableWritten = true := hon
    rw [onStart_applies (s := cleared s) hidle henter herr]
    show startEnds (if ((stagedApplied u).vfm.vfEnableWritten != (stagedApplied u).vfm.vfEnable ||
      (stagedApplied u).vfm.numVfsWritten != (stagedApplied u).vfm.numVfs) = true then _ else _) = _
    rw [happlied, if_pos hchange, hon']
  have hslots : waitsStart y = [] := by
    simp only [y, hshape]
    exact List.filter_eq_nil_iff.2 fun kv hkv => by simpa using hnone kv hkv
  have hend : StartEnded y (startEnds y) := startEnded (by simp only [y, hshape]; exact hwait) (.inr hslots)
  have hshare : ∀ f k, (f, k) ∈ shareWrites s.vfm.numVfsWritten → f.addr ≠ F.vfmReconf_start.addr → f.addr ∉ settledAddrs →
      holds (settle (startEnds y)) f k := fun f k hk ha hs => by
    rw [holds, getF_settle _ _ hs, hend.only.2 f (by simpa using ha) hs]
    exact hshares f k hk
  refine completes_runIn (f := onStart) rfl hw.1 hw.2 hrow ⟨?_, ?_, ?_, ?_, ?_, ?_, fun f hone hle => ?_, ?_⟩
  · rw [settle_vfm, hend.vfm]
    simp only [y, hshape]
    rfl
  · rw [settle_vfm, hend.vfm]
    simp only [y, hshape]
    rfl
  · exact hshare _ _ (by simp [shareWrites]) (by decide) (by decide)
  · exact hshare _ _ (by simp [shareWrites]) (by decide) (by decide)
  · exact hshare _ _ (by simp [shareWrites]) (by decide) (by decide)
  · exact hshare _ _ (by simp [shareWrites]) (by decide) (by decide)
  · rw [funcOf, settle_hif]
    exact hend.offline f (hstops f hone hle)
  · have hbit := only_trans (only_setF (cleared s) F.vfmReconf_start 1) (only_vfm u v)
    exact only_settle (only_cleared (only_mono (only_trans (only_trans hbit hvfs) hend.only) (by simp) (by simp)))

/-- Settles O18: the stops and releases change flags one function at a time, START applies what is staged and ends, and QUIET follows the slots and the
flags. -/
theorem stopChangeStart : Obligations.StopChangeStart := by
  unfold Obligations.StopChangeStart
  refine ⟨?stopAll, ?start, ?vfs, ?refused, ?waits, ?quiet, ?freeze⟩
  case stopAll => exact fun _ => completes_stopAll
  case start => exact fun _ => completes_start
  case vfs => exact fun _ => completes_startVfs
  case refused => exact fun _ => completes_startRefused
  case waits => exact fun _ => completes_startWaits
  case quiet => exact fun _ => completes_quietReached
  case freeze => exact fun _ _ => completes_freezeQuiet

end Sys2Proof.Machine
end

section
/-!
SUPPORT. The turn of a command in ZRS (R54, R80): a command that resolves, with none before it, leaves the commands held for its zone where they are.
-/

namespace Sys2Proof.Machine

open Sys2Proof

/-- What a turn leaves so that no other command has its own: the held commands and the other slots are as they were, and its command is not held. -/
structure TurnAlone (s u : State) (n : Nat) : Prop where
  held : u.zrs.held = s.zrs.held
  others : ∀ m, m ≠ n → slotOf u m = slotOf s m
  own : ∀ c, slotOf u n = some c → c.phase ≠ .held

/-- A turn that changes its own slot alone, to a phase other than held. -/
theorem turnAlone_putSlot {s v : State} {n : Nat} {c : CmdSlot} (hheld : v.zrs.held = s.zrs.held) (hslots : v.hif.slots = s.hif.slots)
    (hc : c.phase ≠ .held) : TurnAlone s (putSlot v n c) n := by
  refine ⟨hheld, fun m hm => ?_, fun x hx => ?_⟩
  · rw [slotOf_putSlot_ne _ _ hm, slotOf, hslots, slotOf]
  · rw [slotOf_putSlot_same] at hx
    exact Option.some.inj hx ▸ hc

/-- A turn that ends its command. -/
theorem turnAlone_finish {s v : State} {n : Nat} {c : CmdSlot} (hheld : v.zrs.held = s.zrs.held)
    (hothers : ∀ m, m ≠ n → slotOf v m = slotOf s m) (hs : slotOf v n = some c) (hb : Bare v n c) (st : Status) :
    TurnAlone s (finish v n st) n := by
  obtain ⟨honly, hfree, hkept, -⟩ := finish_bare hs hb st
  have hzrs : (finish v n st).zrs = v.zrs := honly.1 .zrs (by decide)
  refine ⟨by rw [hzrs, hheld], fun m hm => (hkept m hm).trans (hothers m hm), fun c hc => ?_⟩
  rw [hfree] at hc
  cases hc

theorem dropAll_notMem {xs : List Nat} {x : Nat} (h : x ∉ xs) : dropAll xs x = xs :=
  List.filter_eq_self.2 fun y hy => by simpa using fun e : y = x => h (e ▸ hy)

/-- None of the commands held before a command is for its zone. -/
theorem standsBehind_held {s : State} {n e : Nat} {c : CmdSlot} (h : standsBehind s n c e = false) (hn : n ∉ s.zrs.held) {k : Nat}
    (hk : k ∈ s.zrs.held) : (match slotOf s k with | some d => d.ezn == e | none => false) = false := by
  have hall : s.zrs.held.takeWhile (· != n) = s.zrs.held :=
    List.takeWhile_eq_self_iff.2 fun x hx => by simpa using fun e : x = n => hn (e ▸ hx)
  simp only [standsBehind, hall, Bool.or_eq_false_iff] at h
  exact Bool.eq_false_iff.2 fun hyes => List.any_eq_false.1 h.1 k hk hyes

section

variable {s u : State} {n : Nat} {ph : Phase} {c : CmdSlot} {ns : Namespace} (h : Resolves s n ph c ns)
include h

/-- A turn that leaves every other command where it was is the whole of what its row does. -/
theorem wakeHeld_takeTurn (hu : zrsTake s n = u) (ht : TurnAlone s u n) : wakeHeld (takeTurn s n) c.ezn = u := by
  obtain ⟨-, -, -, -, -, -, -, hn, -, hbehind, -, -⟩ := h
  obtain ⟨hheld, hothers, hown⟩ := ht
  have hdrop : { u with zrs := { u.zrs with held := dropAll u.zrs.held n } } = u := by
    rw [dropAll_notMem (by rw [hheld]; exact hn)]
  have htake : takeTurn s n = u := by
    simp only [takeTurn, hu]
    split
    · next d hd =>
      have hphase : (d.phase == .held) = false := by simpa using hown d hd
      simp only [hphase, Bool.false_eq_true, if_false]
      exact hdrop
    · rfl
  have hnone : (u.zrs.held.filter fun k => match slotOf u k with | some d => d.ezn == c.ezn | none => false) = [] := by
    rw [hheld]
    refine List.filter_eq_nil_iff.2 fun k hk => ?_
    have hkn : k ≠ n := fun e => hn (e ▸ hk)
    rw [hothers k hkn]
    exact Bool.eq_false_iff.1 (standsBehind_held hbehind hn hk)
  simp only [htake, wakeHeld]
  split
  · rfl
  · exact congrArg (fun l => forEach l u takeTurn) hnone

theorem zrsTake_resolves : zrsTake s n = resolveSlot s n := by
  obtain ⟨-, hs, -, -, hsel, hns, -⟩ := h
  simp only [zrsTake, hs, hns, hsel, Bool.false_eq_true, if_false]
  split <;> rfl

/-- The state in which a command that resolves acts: its zone's entry is on chip. -/
def acting (s : State) (e : Nat) : State := if (zmapOf s e).bound then cacheZone s e else s

theorem withZone_resolves (act : State → State) : withZone s n c act = act (acting s c.ezn) := by
  obtain ⟨-, -, -, -, -, -, -, -, hbusy, hbehind, hfault, htenant⟩ := h
  simp only [withZone, hbusy, hbehind, hfault, htenant, Bool.or_self, Bool.false_eq_true, if_false, acting]

theorem onZoneResolve_resolves (hr : resolvable c = true) : onZoneResolve n false false s = wakeHeld (takeTurn s n) c.ezn := by
  obtain ⟨hw, hs, -, -, -, -, hadm, -⟩ := h
  simp only [onZoneResolve, hs, hadm, hw.2, hr, Bool.false_and, Bool.and_false, Bool.or_self, Bool.not_true, Bool.false_eq_true, if_false]

theorem resumeFrom_resolves : resumeFrom s n ph = wakeHeld (takeTurn s n) c.ezn := by
  obtain ⟨-, hs, hph, -, -, -, hadm, -⟩ := h
  simp only [resumeFrom, hs, hph, hadm, beq_self_eq_true, Bool.not_false, Bool.and_self, if_true]

/-- A row that gives a command its turn completes with what the turn leaves. -/
theorem completes_turn {i : Instr} {f : State → State} {P : State → Prop} (hi : exec i s = effectIn .data f s)
    (hf : f (cleared s) = wakeHeld (takeTurn (cleared s) n) c.ezn) (hu : resolveSlot (cleared s) n = u) (ht : TurnAlone (cleared s) u n)
    (hP : P (settle u)) : Completes i s P := by
  have hcleared : Resolves (cleared s) n ph c ns := h
  obtain ⟨⟨hp, hd⟩, -⟩ := id h
  exact completes_runIn hi hp hd (hf.trans (wakeHeld_takeTurn hcleared ((zrsTake_resolves hcleared).trans hu) ht)) hP

end

theorem cacheZone_onChip {s : State} {e : Nat} (h : onChip s e = true) : cacheZone s e = s := by simp only [cacheZone, h, if_true]

theorem acting_onChip {s : State} {e : Nat} (h : (zmapOf s e).bound = false ∨ onChip s e = true) : acting s e = s := by
  rcases h with hb | ho
  · simp only [acting, hb, Bool.false_eq_true, if_false]
  · simp only [acting, cacheZone_onChip ho, ite_self]

theorem resolveSlot_kind {s : State} {n : Nat} {ph : Phase} {c : CmdSlot} {ns : Namespace} (h : Resolves s n ph c ns) :
    resolveSlot s n =
      match c.kind with
      | .read | .verify => resolveRead s n c
      | .write | .append | .placedAppend => resolveWrite s n c ns
      | .open => withZone s n c fun s => resolveOpen s n c ns
      | .close => withZone s n c fun s => resolveClose s n c
      | .finish => withZone s n c fun s => resolveFinish s n c ns
      | .reset => withZone s n c fun s => resolveReset s n c
      | .offline => withZone s n c fun s => resolveOffline s n c
      | .openTiered => withZone s n c fun s => resolveTiered s n c ns
      | _ => s := by
  obtain ⟨-, hs, -, hr, -, hns, -⟩ := h
  simp only [resolveSlot, hs, hns, hr] <;> rfl

/-- A write of this device goes on as a write. -/
theorem resolveSlot_write {s : State} {n : Nat} {ph : Phase} {c : CmdSlot} {ns : Namespace} (h : Resolves s n ph c ns)
    (hk : isWriteKind c.kind = true) : resolveSlot s n = resolveWrite s n c ns := by
  rw [resolveSlot_kind h]
  revert hk
  cases c.kind
  case write => exact fun _ => rfl
  case append => exact fun _ => rfl
  case placedAppend => exact fun _ => rfl
  all_goals exact fun hk => nomatch hk

end Sys2Proof.Machine
end

section
/-!
PROOFS. The resolve of writes (R49, R58, R61, R80): a zone that takes none, and the reservation in an open zone.
-/

namespace Sys2Proof.Machine

open Sys2Proof

/-- A write for a Full, Read Only or Offline zone ends with the status of the state. -/
theorem resolveSlot_refused {s : State} {n : Nat} {c : CmdSlot} {ns : Namespace} {st : Status} (h : Resolves s n .checked c ns)
    (hk : isWriteKind c.kind = true) (hon : (zmapOf s c.ezn).bound = false ∨ onChip s c.ezn = true)
    (hst : writeRefusal (zoneState s c.ezn) = some st) : resolveSlot s n = finish s n st := by
  simp only [resolveSlot_write h hk, resolveWrite, withZone_resolves h, acting_onChip hon, hst]

theorem resolvable_checked {c : CmdSlot} (hph : c.phase = .checked) (hk : isReadKind c.kind = false) : resolvable c = true := by
  simp only [resolvable, hph, hk, Bool.not_false]

theorem isReadKind_of_write {k : CmdKind} (h : isWriteKind k = true) : isReadKind k = false := by
  cases k
  case read => cases h
  case verify => cases h
  all_goals rfl

theorem completes_writeRefused {n : Nat} {c : CmdSlot} {ns : Namespace} {st : Status} {s : State} (h : Resolves s n .checked c ns)
    (hb : Bare s n c) (hk : isWriteKind c.kind = true) (hon : (zmapOf s c.ezn).bound = false ∨ onChip s c.ezn = true)
    (hst : writeRefusal (zoneState s c.ezn) = some st) :
    Completes (.zoneResolve n false false) s fun t => Ended s t n c st ∧ Only s t [.hif] [] := by
  have hcleared : Resolves (cleared s) n .checked c ns := h
  obtain ⟨-, hs, hph, -⟩ := id h
  have hrow := onZoneResolve_resolves hcleared (resolvable_checked hph (isReadKind_of_write hk))
  refine completes_turn h (f := onZoneResolve n false false) rfl hrow (resolveSlot_refused hcleared hk hon hst)
    (turnAlone_finish (v := cleared s) rfl (fun _ _ => rfl) hs hb st) ⟨?_, ?_⟩
  · exact ended_settle (u := cleared s) hs hb (fun _ _ => rfl) id ⟨rfl, rfl, rfl⟩
  · exact only_settle (only_cleared (finish_bare (s := cleared s) hs hb st).1)

/-- The members of a stitch group lie on its bay. -/
theorem dieBay_memberDie (g : Nat) {m : Nat} (h : m < 16) : dieBay (memberDie g m) = g / 16 := by
  simp only [dieBay, memberDie, memberChannel]
  omega

theorem mem_of_addOnce {α : Type} [DecidableEq α] {xs : List α} {x y : α} (h : x ∈ addOnce xs y) : x ∈ xs ∨ x = y := by
  unfold addOnce at h
  split at h
  · exact .inl h
  · exact (List.mem_append.1 h).imp_right List.mem_singleton.1

/-- Every place that a write reaches lies on one of the 16 members. -/
theorem reach_member {t : Tier} {p first n : Nat} : ∀ x ∈ reach t p first n, x.2 < 16 := by
  have hgen : ∀ (l : List Nat) (a : List (Nat × Nat)), (∀ x ∈ a, x.2 < 16) →
      ∀ x ∈ l.foldl (fun a i => addOnce a ((stitch t p (first + i)).hr, (stitch t p (first + i)).member)) a, x.2 < 16 := by
    intro l
    induction l with
    | nil => exact fun a ha => ha
    | cons i l ih =>
      refine fun a ha => ih _ fun x hx => ?_
      rcases mem_of_addOnce hx with hx | rfl
      · exact ha x hx
      · exact Nat.mod_lt _ (by decide)
  exact hgen _ _ (by simp)

theorem missingPrograms_member {s : State} {t : Tier} {p first n : Nat} : ∀ x ∈ missingPrograms s t p first n, x.2 < 16 :=
  fun x hx => reach_member x (List.mem_filter.1 hx).1

/-- On a powered bay a queue takes an entry, and no bay is asked for. -/
theorem enqueue_on {s : State} {d : Nat} (h : bayOn s (dieBay d) = true) (e : DieEntry) : ∃ q, enqueue s d e = { s with sch := q } := by
  unfold enqueue
  refine ⟨_, if_pos ?_⟩
  rw [Bool.or_eq_true]
  exact .inl h

theorem queueProgram_on {s : State} {p hr m : Nat} {pass : Pass} (h : bayOn s (groupOf p / 16) = true) (hm : m < 16) :
    ∃ q, queueProgram s p hr m pass = { s with sch := q } :=
  enqueue_on (by rw [dieBay_memberDie _ hm]; exact h) _

theorem topUp_on {s : State} {p m : Nat} (h : bayOn s (groupOf p / 16) = true) (hm : m < 16) : ∃ q, topUp s p m = { s with sch := q } := by
  unfold topUp
  dsimp only
  split
  · exact ⟨s.sch, rfl⟩
  · split
    · exact queueProgram_on h hm
    · exact ⟨s.sch, rfl⟩

/-- A loop over work for the members of a group on a powered bay changes the die queues alone. -/
theorem forEach_sch {α : Type} {b : Nat} {f : State → α → State} (xs : List α)
    (hf : ∀ s, bayOn s b = true → ∀ x ∈ xs, ∃ q, f s x = { s with sch := q }) {s : State} (h : bayOn s b = true) :
    ∃ q, forEach xs s f = { s with sch := q } := by
  induction xs generalizing s with
  | nil => exact ⟨s.sch, rfl⟩
  | cons x xs ih =>
    obtain ⟨q, hq⟩ := hf s h x List.mem_cons_self
    obtain ⟨r, hr⟩ := ih (fun s hs y hy => hf s hs y (List.mem_cons_of_mem _ hy)) (s := { s with sch := q }) h
    refine ⟨r, ?_⟩
    show forEach xs (f s x) f = _
    rw [hq, hr]

theorem topUpZone_on {s : State} {p : Nat} (h : bayOn s (groupOf p / 16) = true) : ∃ q, topUpZone s p = { s with sch := q } :=
  forEach_sch (List.range 16) (fun _ hs _ hm => topUp_on hs (List.mem_range.1 hm)) h

theorem bayFailed_on {s : State} {b : Nat} (h : bayOn s b = true) : bayFailed s b = false := by
  unfold bayOn at h
  unfold bayFailed
  split at h
  · next hp => rw [hp]; rfl
  · next hp => rw [hp]; rfl
  · cases h

/-- The entry of a zone once a write has its slots. -/
def reservedZst (z : ZstEntry) (c : CmdSlot) : ZstEntry := { z with wpHost := z.wpHost + c.blocks, wpPhys := z.wpPhys + c.blocks }

/-- The slot of a write that has its slots in the zone: its completion will carry the LBA, unless it is a Write. -/
def admittedSlot (s : State) (c : CmdSlot) (ns : Namespace) (z : ZstEntry) : CmdSlot :=
  let lba := zoneLba s ns c.ezn + z.wpHost
  { c with
    phase := .admitted, offset := z.wpHost, firstSlot := z.wpPhys
    dw0 := if c.kind = .write then c.dw0 else BitVec.ofNat 32 lba, dw1 := if c.kind = .write then c.dw1 else BitVec.ofNat 32 (lba / 2 ^ 32) }

/-- The state once a write has its slots, before its programs are queued: the zone's entry, the command's slot and the CAM's clock have changed. -/
def slotsTaken (s : State) (n p : Nat) (c : CmdSlot) (ns : Namespace) (z : ZstEntry) : State :=
  let u := putSlot (putZst s p (reservedZst z c)) n (admittedSlot s c ns z)
  { u with
    zrs := { u.zrs with cam := spMod u.zrs.cam c.ezn (fun e => { e with lastWrite := u.zrs.writeClock }), writeClock := u.zrs.writeClock + 1 } }

theorem bayOn_slotsTaken (s : State) (n p : Nat) (c : CmdSlot) (ns : Namespace) (z : ZstEntry) (b : Nat) :
    bayOn (slotsTaken s n p c ns z) b = bayOn s b := rfl

theorem boundZone_slotsTaken {s : State} {n p : Nat} {c : CmdSlot} {ns : Namespace} {z : ZstEntry} (hb : boundZone s c.ezn = some (p, z)) :
    boundZone (slotsTaken s n p c ns z) c.ezn = some (p, sealedZst (reservedZst z c)) :=
  (boundZone_kept (s := putZst s p (reservedZst z c)) ⟨rfl, rfl, rfl, rfl⟩ c.ezn).trans (boundZone_putZst hb (reservedZst z c))

/-- The programs that a write needs, queued. -/
def programsQueued (s : State) (p : Nat) (t : Tier) (need : List (Nat × Nat)) : State :=
  topUpZone (forEach need s fun s hm => queueProgram s p hm.1 hm.2 (firstPass t)) p

/-- What a reservation looks at last: a bay that failed, and a zone that is full. -/
def reserveEnds (s : State) (e p : Nat) : State :=
  if bayFailed s (groupOf p / 16) then bayFailsZone s e
  else match boundZone s e with
  | some (_, z) => if zoneSlots z.tier ≤ z.wpPhys ∧ isActiveState z.state = true then makeFull s e (decide (0 < z.filler)) true else s
  | none => s

section

variable {s : State} {n p : Nat} {c : CmdSlot} {ns : Namespace} {z : ZstEntry}

/-- A write that finds its room takes its slots and queues its programs. -/
theorem reserve_queues (hb : boundZone s c.ezn = some (p, z)) (hl : relocOf s p = none) (halign : alignedWp z c = z.wpPhys)
    (hhor : z.wpPhys + c.blocks ≤ horizonOf s c.ezn) (hroom : programRoom s p (missingPrograms s z.tier p z.wpPhys c.blocks) = true) :
    reserve s n c ns =
      reserveEnds (programsQueued (slotsTaken s n p c ns z) p z.tier (missingPrograms s z.tier p z.wpPhys c.blocks)) c.ezn p := by
  unfold reserve
  split
  · next hnone => exact absurd (hnone.symm.trans hb) (by simp)
  · next p' z' hsome =>
    obtain ⟨rfl, rfl⟩ := Prod.mk.inj (Option.some.inj (hb.symm.trans hsome))
    extract_lets wp top pz asked need filled lba moved placed zrs taken queued ended
    have hpz : pz = p := by simp only [pz, progZone, hl]
    have htop : top = z.wpPhys + c.blocks := congrArg (· + c.blocks) halign
    have hwp : wp = z.wpPhys := halign
    have hneed : need = missingPrograms s z.tier pz wp c.blocks := rfl
    have hfilled : filled = s := if_neg (by rw [hwp]; exact Nat.lt_irrefl _)
    clear_value need top wp pz filled
    subst hpz htop hwp hneed hfilled
    have hmoved : moved = putZst filled pz (reservedZst z c) := modZone_alone hb hl _
    clear_value moved
    subst hmoved
    have htaken : taken = slotsTaken filled n pz c ns z := rfl
    have hended : ended = programsQueued taken pz z.tier (missingPrograms filled z.tier pz z.wpPhys c.blocks) := rfl
    clear_value ended
    rw [if_neg (Nat.not_lt.2 hhor), if_neg (by rw [hroom]; exact Bool.false_ne_true), ← htaken, ← hended]
    rfl

theorem programsQueued_on {u : State} {t : Tier} {need : List (Nat × Nat)} (hneed : ∀ x ∈ need, x.2 < 16)
    (hon : bayOn u (groupOf p / 16) = true) : ∃ q, programsQueued u p t need = { u with sch := q } := by
  obtain ⟨q, hq⟩ := forEach_sch need (f := fun s hm => queueProgram s p hm.1 hm.2 (firstPass t))
    (fun _ hs x hx => queueProgram_on hs (hneed x hx)) hon
  obtain ⟨r, hr⟩ := topUpZone_on (s := { u with sch := q }) (p := p) hon
  exact ⟨r, by rw [programsQueued, hq, hr]⟩

/-- A zone with room, on a powered bay, stays open. -/
theorem reserveEnds_open {u : State} {e : Nat} {y : ZstEntry} (hb : boundZone u e = some (p, y)) (htop : y.wpPhys < zoneSlots y.tier)
    (hon : bayOn u (groupOf p / 16) = true) : reserveEnds u e p = u := by
  have hroom : ¬(zoneSlots y.tier ≤ y.wpPhys ∧ isActiveState y.state = true) := fun h => absurd h.1 (Nat.not_le.2 htop)
  simp only [reserveEnds, bayFailed_on hon, hb, Bool.false_eq_true, if_false, if_neg hroom]

/-- Beside the slots taken, a reservation changes the die queues alone. -/
theorem reserve_shape (hb : boundZone s c.ezn = some (p, z)) (hl : relocOf s p = none) (halign : alignedWp z c = z.wpPhys)
    (htop : z.wpPhys + c.blocks < zoneSlots z.tier) (hhor : z.wpPhys + c.blocks ≤ horizonOf s c.ezn)
    (hroom : programRoom s p (missingPrograms s z.tier p z.wpPhys c.blocks) = true) (hon : bayOn s (groupOf p / 16) = true) :
    ∃ q, reserve s n c ns = { slotsTaken s n p c ns z with sch := q } := by
  have hon' : bayOn (slotsTaken s n p c ns z) (groupOf p / 16) = true := (bayOn_slotsTaken s n p c ns z _).trans hon
  obtain ⟨q, hq⟩ := programsQueued_on (t := z.tier) (p := p) (missingPrograms_member (s := s) (t := z.tier) (p := p) (first := z.wpPhys) (n := c.blocks))
    hon'
  refine ⟨q, ?_⟩
  rw [reserve_queues hb hl halign hhor hroom, hq]
  exact reserveEnds_open (y := sealedZst (reservedZst z c))
    ((boundZone_kept (s := slotsTaken s n p c ns z) ⟨rfl, rfl, rfl, rfl⟩ _).trans (boundZone_slotsTaken hb)) htop hon'

end

end Sys2Proof.Machine
end

section
/-!
PROOFS. Writes that find their room, at their first resolve and after a wait (R49, R58, R80, R154).
-/

namespace Sys2Proof.Machine

open Sys2Proof

/-- An open state takes writes, and is neither Empty nor Closed. -/
theorem isOpenState_cases {st : ZoneState} (h : isOpenState st = true) : st = .implicitlyOpened ∨ st = .explicitlyOpened := by
  cases st
  case implicitlyOpened => exact .inl rfl
  case explicitlyOpened => exact .inr rfl
  all_goals cases h

section

variable {s : State} {n p : Nat} {ph : Phase} {c : CmdSlot} {ns : Namespace} {z : ZstEntry} (h : CanReserve s n ph c ns p z)
include h

/-- A write that passes the checks of an open zone goes on to its reservation. -/
theorem resolveSlot_reserves : resolveSlot s n = reserve s n c ns := by
  obtain ⟨hr, hk, hb, hret, hcam, hopen, -, hkey, hat, halign, htop, -⟩ := h
  have honchip : (zmapOf s c.ezn).bound = false ∨ onChip s c.ezn = true := .inr (by simp only [onChip, hcam, Bool.true_or])
  have hplace : ¬(c.kind = .write ∧ slba c.sqe % 2 ^ 20 ≠ z.wpHost) := fun hw => hw.2 (hat hw.1)
  have hfits : ¬zoneSlots z.tier < z.wpPhys + c.blocks := by omega
  rw [resolveSlot_write hr hk, resolveWrite, withZone_resolves hr, acting_onChip honchip]
  rcases isOpenState_cases hopen with hst | hst
  · simp only [zoneState_bound hb hret, hst, writeRefusal, hb, if_neg hplace, halign, if_neg hfits, hkey, Bool.not_true, Bool.false_eq_true, if_false,
      obey]
  · simp only [zoneState_bound hb hret, hst, writeRefusal, hb, if_neg hplace, halign, if_neg hfits, hkey, Bool.not_true, Bool.false_eq_true, if_false,
      obey]

omit h in
theorem slotOf_slotsTaken (s : State) (n p : Nat) (c : CmdSlot) (ns : Namespace) (z : ZstEntry) :
    slotOf (slotsTaken s n p c ns z) n = some (admittedSlot s c ns z) := slotOf_putSlot_same _ _ _

omit h in
theorem only_zrsSch (s : State) (y : ZrsState) (q : SchState) : Only s { s with zrs := y, sch := q } [.zrs, .sch] [] := only_changed s

omit h in
theorem only_slotsTaken (s : State) (n p : Nat) (c : CmdSlot) (ns : Namespace) (z : ZstEntry) (q : SchState) :
    Only s { slotsTaken s n p c ns z with sch := q } [.hif, .zrs, .sch] [] := by
  have hentry : Only s (putZst s p (reservedZst z c)) [.zrs] [] := only_changed s
  have hslot := only_putSlot (putZst s p (reservedZst z c)) n (admittedSlot s c ns z)
  exact only_mono (only_trans (only_trans hentry hslot) (only_zrsSch _ (slotsTaken s n p c ns z).zrs q)) (by simp) (by simp)

omit h in
theorem turnAlone_slotsTaken (s : State) (n p : Nat) (c : CmdSlot) (ns : Namespace) (z : ZstEntry) (q : SchState) :
    TurnAlone s { slotsTaken s n p c ns z with sch := q } n := by
  refine ⟨rfl, fun m hm => slotOf_putSlot_ne (putZst s p (reservedZst z c)) _ hm, fun x hx => ?_⟩
  obtain rfl : admittedSlot s c ns z = x := Option.some.inj ((slotOf_slotsTaken s n p c ns z).symm.trans hx)
  exact Phase.noConfusion

/-- A row that gives such a write its turn completes with the slots taken. -/
theorem completes_reserves {i : Instr} {f : State → State} (hi : exec i s = effectIn .data f s)
    (hf : f (cleared s) = wakeHeld (takeTurn (cleared s) n) c.ezn) :
    Completes i s fun t => Reserved t n c p z ∧ Only s t [.hif, .zrs, .sch] [] := by
  have hcleared : CanReserve (cleared s) n ph c ns p z := h
  obtain ⟨hr, -, hb, -, -, -, hl, -, -, halign, htop, hhor, hroom, hon⟩ := id hcleared
  obtain ⟨q, hq⟩ := reserve_shape (n := n) (ns := ns) hb hl halign htop hhor hroom hon
  refine completes_turn h.1 hi hf ((resolveSlot_reserves hcleared).trans hq) (turnAlone_slotsTaken _ _ _ _ _ _ q) ⟨⟨?_, ?_⟩, ?_⟩
  · rw [boundZone_settle]
    exact (boundZone_kept (s := slotsTaken (cleared s) n p c ns z) ⟨rfl, rfl, rfl, rfl⟩ _).trans (boundZone_slotsTaken hb)
  · exact ⟨_, _, (slotOf_settle _ n).trans (slotOf_slotsTaken (cleared s) n p c ns z)⟩
  · exact only_settle (only_cleared (only_slotsTaken (cleared s) n p c ns z q))

end

theorem completes_write {n p : Nat} {c : CmdSlot} {ns : Namespace} {z : ZstEntry} {s : State} (h : CanReserve s n .checked c ns p z) :
    Completes (.zoneResolve n false false) s fun t => Reserved t n c p z ∧ Only s t [.hif, .zrs, .sch] [] := by
  have hcleared : CanReserve (cleared s) n .checked c ns p z := h
  obtain ⟨hr, hk, -⟩ := id hcleared
  obtain ⟨-, -, hph, -⟩ := id hr
  exact completes_reserves h (f := onZoneResolve n false false) rfl (onZoneResolve_resolves hr (resolvable_checked hph (isReadKind_of_write hk)))

theorem completes_horizonResume {n p : Nat} {c : CmdSlot} {ns : Namespace} {z : ZstEntry} {s : State} (h : CanReserve s n .waitHorizon c ns p z)
    (hj : waitingOf s c.ezn = []) :
    Completes (.horizonWaitResume n) s fun t => Reserved t n c p z ∧ Only s t [.hif, .zrs, .sch] [] := by
  have hcleared : CanReserve (cleared s) n .waitHorizon c ns p z := h
  obtain ⟨-, hs, -⟩ := id hcleared.1
  have hrow : onHorizonWaitResume n (cleared s) = resumeFrom (cleared s) n .waitHorizon := by
    have hempty : (waitingOf (cleared s) c.ezn).isEmpty = true := List.isEmpty_iff.2 hj
    simp only [onHorizonWaitResume, hs, hempty, if_true]
  exact completes_reserves h (f := onHorizonWaitResume n) rfl (hrow.trans (resumeFrom_resolves hcleared.1))

theorem completes_dieQueueResume {n p : Nat} {c : CmdSlot} {ns : Namespace} {z : ZstEntry} {s : State}
    (h : CanReserve s n .waitDieQueue c ns p z) :
    Completes (.dieQueueWaitResume n) s fun t => Reserved t n c p z ∧ Only s t [.hif, .zrs, .sch] [] := by
  have hcleared : CanReserve (cleared s) n .waitDieQueue c ns p z := h
  exact completes_reserves h (f := onDieQueueWaitResume n) rfl (resumeFrom_resolves hcleared.1)

end Sys2Proof.Machine
end

section
/-!
PROOFS. Zone commands that find their zone unbound (R49): a Read of it gives zeros, an Open binds it, a Reset leaves it.
-/

namespace Sys2Proof.Machine

open Sys2Proof

/-- A zone is neither bound nor retired. -/
def NeverBound (s : State) (e : Nat) : Prop := zmapOf s e = ⟨(zmapOf s e).pzn, false, false, (zmapOf s e).epoch⟩

section

variable {s : State} {e : Nat} (h : NeverBound s e)
include h

theorem NeverBound.bound : (zmapOf s e).bound = false := by rw [h]

theorem NeverBound.boundZone : boundZone s e = none := by simp only [Machine.boundZone, h.bound, Bool.false_eq_true, if_false]

theorem NeverBound.zoneState : zoneState s e = .empty := by
  have hret : (zmapOf s e).retired = false := by rw [h]
  simp only [Machine.zoneState, hret, h.boundZone, Bool.false_eq_true, if_false]

theorem NeverBound.acting : acting s e = s := acting_onChip (.inl h.bound)

end

/-- A block of zeros for the host's Read. -/
def zeroBlock (c : CmdSlot) (b : Nat) : Output := .hostBlock c.func c.sqe.cid b (List.replicate 4096 0)

/-- The blocks of zeros that a Read of a never bound zone hands the host. -/
def zerosSent (s : State) (c : CmdSlot) (bs : List Nat) : State := forEach bs s fun s b => emit s (zeroBlock c b)

theorem zerosSent_shape (s : State) (c : CmdSlot) (bs : List Nat) : zerosSent s c bs = { s with out := s.out ++ bs.map (zeroBlock c) } := by
  induction bs generalizing s with
  | nil => simp only [zerosSent, forEach, List.foldl_nil, List.map_nil, List.append_nil]
  | cons b bs ih =>
    refine (ih (emit s (zeroBlock c b))).trans ?_
    simp only [emit, List.map_cons, List.append_assoc, List.singleton_append]

/-- The state once a Read has its zeros and its reservation is given back. -/
def zerosDelivered (s : State) (n : Nat) (c : CmdSlot) : State :=
  putSlot (unreserve (zerosSent s c (List.range c.blocks)) c.blocks) n
    { c with egress := c.egress ++ List.range c.blocks, reserved := 0, phase := .admitted }

/-- A host's Read of a never bound zone has its zeros, gives back what it reserved, and ends. -/
theorem resolveSlot_zeros {s : State} {n : Nat} {c : CmdSlot} {ns : Namespace} (h : Resolves s n .ready c ns) (hk : c.kind = .read)
    (hz : NeverBound s c.ezn) (hkey : keyLoaded s c.nsid = true) (hres : c.reserved = c.blocks) (hne : c.blocks ≠ 0)
    (hserved : servedBy s n = none) : resolveSlot s n = finish (zerosDelivered s n c) n .success := by
  have hdeliver : deliverZeros s n c (List.range c.blocks) = zerosDelivered s n c := by
    simp only [deliverZeros, hk, hserved, hres, if_neg hne, List.length_range, Nat.sub_self, Option.isNone_none, and_self, if_true, zerosDelivered,
      zerosSent, zeroBlock]
  have hread : resolveSlot s n = resolveRead s n c := by
    rw [resolveSlot_kind h, hk]
  rw [hread, resolveRead, withZone_resolves h, hz.acting, hz.zoneState, hz.boundZone, hdeliver]
  simp only [hkey, Bool.not_true, Bool.false_eq_true, if_false, reduceCtorEq]

theorem completes_readZeros {n : Nat} {c : CmdSlot} {ns : Namespace} {s : State} (h : Resolves s n .ready c ns) (hk : c.kind = .read)
    (hz : NeverBound s c.ezn) (hkey : keyLoaded s c.nsid = true) (hres : c.reserved = c.blocks) (hne : c.blocks ≠ 0)
    (hb : Bare s n { c with reserved := 0 }) :
    Completes (.zoneResolve n false false) s fun t =>
      (∀ b ∈ List.range c.blocks, Output.hostBlock c.func c.sqe.cid b (List.replicate 4096 0) ∈ t.out) ∧
        getF t (F.sbgPoolStat_reserved 1) = getF s (F.sbgPoolStat_reserved 1) - c.blocks ∧ Ended s t n c .success ∧
        Only s t [.hif] [(F.sbgPoolStat_reserved 1).addr] := by
  have hcleared : Resolves (cleared s) n .ready c ns := h
  obtain ⟨-, -, hph, -⟩ := id h
  let v := zerosDelivered (cleared s) n c
  let c' : CmdSlot := { c with egress := c.egress ++ List.range c.blocks, reserved := 0, phase := .admitted }
  obtain ⟨r, o, hv, hout⟩ : ∃ r o, v = putSlot { s with regs := r, out := o } n c' ∧
      ∀ b ∈ List.range c.blocks, zeroBlock c b ∈ o := by
    simp only [v, zerosDelivered, zerosSent_shape]
    exact ⟨_, _, rfl, fun b hb => List.mem_append_right _ (List.mem_map_of_mem hb)⟩
  have hslot : slotOf v n = some c' := slotOf_putSlot_same _ _ _
  have hbare : Bare v n c' := by
    rw [hv]
    exact hb
  have hothers : ∀ m, m ≠ n → slotOf v m = slotOf s m := fun m hm => by
    rw [hv]
    exact slotOf_putSlot_ne _ _ hm
  have hrow := onZoneResolve_resolves hcleared (by simp only [resolvable, hph])
  have honly : Only (cleared s) v [.hif] [(F.sbgPoolStat_reserved 1).addr] := by
    simp only [v, zerosDelivered, zerosSent_shape]
    exact only_mono (only_trans (only_trans (only_out (cleared s) _) (only_setF _ (F.sbgPoolStat_reserved 1) _)) (only_putSlot _ n c')) (by simp)
      (by simp)
  have hfinish := finish_bare hslot hbare .success
  have hturn : TurnAlone (cleared s) (finish v n .success) n :=
    turnAlone_finish (s := cleared s) (by rw [hv]; rfl) hothers hslot hbare .success
  refine completes_turn h (f := onZoneResolve n false false) rfl hrow (resolveSlot_zeros hcleared hk hz hkey hres hne hb.1) hturn
    ⟨fun b hmem => ?_, ?_, ?_, ?_⟩
  · obtain ⟨x, y, hx, -, -⟩ := hostKept_finish hslot hbare .success
    rw [hx]
    refine mem_settle_out (List.mem_append_left _ ?_)
    rw [hv]
    exact hout b hmem
  · rw [getF_settle _ _ (by decide), hfinish.1.2 _ (by simp) (by decide)]
    have hset : getF v (F.sbgPoolStat_reserved 1) = (getF s (F.sbgPoolStat_reserved 1) - c.blocks) % 2 ^ 13 := by
      simp only [v, zerosDelivered, zerosSent_shape]
      exact getF_setF_same _ _ _ (by decide) (by decide)
    have hlt : getF s (F.sbgPoolStat_reserved 1) < 2 ^ 13 := Nat.mod_lt _ (by decide)
    exact hset.trans (Nat.mod_eq_of_lt (lt_of_le_of_lt (Nat.sub_le _ _) hlt))
  · have hpost : CanPost s n c → CanPost v n c' := fun hcan => by
      rw [hv]
      exact hcan
    exact ended_settle hslot hbare hothers hpost ⟨rfl, rfl, rfl⟩
  · exact only_settle (only_cleared (only_mono (only_trans honly hfinish.1) (by simp) (by simp)))

/-- A Reset of an Empty zone whose records the journal holds completes at once. -/
theorem completes_resetEmpty {n : Nat} {c : CmdSlot} {ns : Namespace} {s : State} (h : Resolves s n .checked c ns) (hb : Bare s n c)
    (hk : c.kind = .reset) (hz : NeverBound s c.ezn) (hj : waitingOf s c.ezn = []) :
    Completes (.zoneResolve n false false) s fun t => Ended s t n c .success ∧ Only s t [.hif] [] := by
  have hcleared : Resolves (cleared s) n .checked c ns := h
  have hz' : NeverBound (cleared s) c.ezn := hz
  obtain ⟨-, hs, hph, -⟩ := id h
  have hresolve : resolveSlot (cleared s) n = finish (cleared s) n .success := by
    have hempty : (waitingOf (cleared s) c.ezn).isEmpty = true := List.isEmpty_iff.2 hj
    rw [resolveSlot_kind hcleared, hk]
    refine (withZone_resolves hcleared _).trans ?_
    simp only [hz'.acting, resolveReset, hz'.zoneState, noChange, hempty, if_true]
  have hrow := onZoneResolve_resolves hcleared (resolvable_checked hph (by rw [hk]; rfl))
  refine completes_turn h (f := onZoneResolve n false false) rfl hrow hresolve
    (turnAlone_finish (v := cleared s) rfl (fun _ _ => rfl) hs hb .success) ⟨?_, ?_⟩
  · exact ended_settle (u := cleared s) hs hb (fun _ _ => rfl) id ⟨rfl, rfl, rfl⟩
  · exact only_settle (only_cleared (finish_bare (s := cleared s) hs hb .success).1)

end Sys2Proof.Machine
end

section
/-!
PROOFS. The Open of an Empty zone (R42, R49, R51): it takes the ready entry, enters the CAM and waits for the journal.
-/

namespace Sys2Proof.Machine

open Sys2Proof

/-- A reservation changes the reservation blocks and their granules. -/
theorem takeResv_shape (s : State) (t : Tier) (e : Nat) :
    ∃ z b, takeResv s t e = { s with zrs := z, sbg := b } ∧ TablesKept s.zrs z ∧ z.linger = s.zrs.linger := by
  unfold takeResv
  split
  · exact ⟨s.zrs, s.sbg, rfl, ⟨rfl, rfl, rfl, rfl⟩, rfl⟩
  · split
    · exact ⟨_, s.sbg, rfl, ⟨rfl, rfl, rfl, rfl⟩, rfl⟩
    · exact ⟨_, _, rfl, ⟨rfl, rfl, rfl, rfl⟩, rfl⟩

/-- The entry of a physical zone that an Open has just bound to a zone. -/
def openedZst (s : State) (e nsid p : Nat) (t : Tier) : ZstEntry :=
  { freshZst with
    ezn := e, bound := true, state := .explicitlyOpened, tier := t, tenant := nsid - 1, nsx := nsid - 1, subst := (zstOf s p).subst }

/-- A zone bound at an Open is found on its physical zone, and what is held or still seals stays. -/
theorem bindTo_opens (s : State) (e nsid p : Nat) (ns : Namespace) (t : Tier) :
    ∃ z b k, bindTo s e nsid p ns t .explicitlyOpened 0 0 = { s with zrs := z, sbg := b, nss := k } ∧ z.linger = s.zrs.linger ∧
      z.held = s.zrs.held ∧ boundZone { s with zrs := z, sbg := b, nss := k } e = some (p, sealedZst (openedZst s e nsid p t)) := by
  let v : State := { s with
    zrs := { s.zrs with
      ready := spMod s.zrs.ready (groupOf p) (fun l => dropAll l p)
      lastGroup := spPut s.zrs.lastGroup (groupOf p / 16) (groupOf p % 16)
      progs := spErase s.zrs.progs p }
    nss := spPut s.nss nsid { ns with lastBay := some (groupOf p / 16) } }
  let w : State := putZst v p (openedZst s e nsid p t)
  let u : State := putZmap w e { zmapOf w e with pzn := p, bound := true }
  have hmap : zmapOf u e = { zmapOf w e with pzn := p, bound := true } := zmapOf_putZmap _ _ _
  have hbound : boundZone u e = some (p, sealedZst (openedZst s e nsid p t)) :=
    boundZone_at (s := u) rfl (by rw [hmap]) (by rw [hmap]) (zstOf_putZst v p _)
  obtain ⟨z, b, hz, hkept, hlinger⟩ := takeResv_shape u t e
  have hbind : bindTo s e nsid p ns t .explicitlyOpened 0 0 = takeResv u t e := rfl
  refine ⟨z, b, u.nss, hbind.trans hz, hlinger, hkept.held, ?_⟩
  exact (boundZone_kept (s := u) hkept e).trans hbound

theorem residentPlace_free {s : State} (h : (s.cph.ctxs.filter fun kv => kv.2.resident).length < 512) : residentPlace s = s := if_pos h

/-- A zone enters the CAM under a function: no context still seals, and a resident place is free. -/
theorem enterCam_shape {s : State} (hl : s.zrs.linger = []) (hr : (s.cph.ctxs.filter fun kv => kv.2.resident).length < 512) (e f k : Nat) :
    ∃ z c, enterCam s e f k = { s with zrs := z, cph := c } ∧ TablesKept s.zrs z ∧ (spFind z.cam e).map CamEntry.owner = some f := by
  let u : State := { s with zrs := { s.zrs with cache := dropAll s.zrs.cache e } }
  have hplace : openCtx u (lowestCtx u) e k =
      { u with cph := { u.cph with
        ctxs := spPut u.cph.ctxs (lowestCtx u) ⟨.idle, true, e, k, u.cph.useClock, none, 0⟩
        useClock := u.cph.useClock + 1 } } := by
    rw [openCtx, residentPlace_free (s := u) hr]
  have hnone : u.zrs.linger.find? (fun l => l.ezn == e) = none := by
    show s.zrs.linger.find? _ = none
    rw [hl]
    rfl
  simp only [enterCam]
  split
  · next l hsome => exact absurd (hnone.symm.trans hsome) (by simp)
  · rw [hplace]
    exact ⟨_, _, rfl, ⟨rfl, rfl, rfl, rfl⟩, congrArg (Option.map CamEntry.owner) (spFind_put_same _ _ _)⟩

/-- Room for one more open zone leaves the state as it is. -/
theorem openRoom_free {s : State} {f nsid : Nat} {ns : Namespace} (hf : openOfFunc s f < ctxShare s f) (hn : openOfNs s nsid < ns.morCap)
    (k : Nat) (implicit : Bool) : openRoom (k + 1) s f nsid ns implicit = (s, .ok) := by
  simp only [openRoom, if_neg (Nat.not_le.2 hf), if_neg (Nat.not_le.2 hn)]

/-- An Open that finds its room and its ready entry binds the zone, and its record waits in the journal. -/
theorem bindOpen_opens {s : State} {e f nsid p : Nat} {ns : Namespace} {t : Tier} (hns : spFind s.nss nsid = some ns)
    (ha : activeRoom s nsid ns t = true) (hf : openOfFunc s f < ctxShare s f) (hn : openOfNs s nsid < ns.morCap)
    (hp : findReady s ns t none 0 = some p) (hl : s.zrs.linger = []) (hr : (s.cph.ctxs.filter fun kv => kv.2.resident).length < 512) :
    ∃ z j c b k, bindOpen s e f nsid ns t none 0 0 false = ({ s with zrs := z, jrn := j, cph := c, sbg := b, nss := k }, .ok) ∧
      z.held = s.zrs.held ∧ j.waiting ≠ [] ∧ (spFind z.cam e).map CamEntry.owner = some f ∧
        boundZone { s with zrs := z, jrn := j, cph := c, sbg := b, nss := k } e = some (p, sealedZst (openedZst s e nsid p t)) := by
  obtain ⟨y, b, k, hbind, hlinger, hheld, hbound⟩ := bindTo_opens s e nsid p ns t
  obtain ⟨z, c, hcam, hkept, howner⟩ := enterCam_shape (s := { s with zrs := y, sbg := b, nss := k }) (hlinger.trans hl) hr e f (nsid - 1)
  obtain ⟨j, hj, hwait⟩ := journalZone_shape { s with zrs := z, cph := c, sbg := b, nss := k } e
  refine ⟨z, j, c, b, k, ?_, hkept.held.trans hheld, hwait, howner, ?_⟩
  · simp only [bindOpen, ha, hp, openRoom_free hf hn 2 false, hns, hbind, hcam, hj, Bool.not_true, Bool.false_eq_true, if_false]
  · exact (boundZone_kept (s := { s with zrs := y, sbg := b, nss := k }) hkept e).trans hbound

/-- An Open meets the limits on active and open zones, and finds a ready entry and a place for its context. -/
structure OpenFinds (s : State) (c : CmdSlot) (ns : Namespace) (p : Nat) : Prop where
  active : activeRoom s c.nsid ns (bindingTier s ns.defTier) = true
  share : openOfFunc s c.func < ctxShare s c.func
  cap : openOfNs s c.nsid < ns.morCap
  ready : findReady s ns (bindingTier s ns.defTier) none 0 = some p
  linger : s.zrs.linger = []
  resident : (s.cph.ctxs.filter fun kv => kv.2.resident).length < 512

/-- What an Open of an Empty zone leaves: the zone bound and open, its function in the CAM, and the command waiting for the journal. -/
def Opened (s t : State) (n : Nat) (c : CmdSlot) (ns : Namespace) (p : Nat) : Prop :=
  boundZone t c.ezn = some (p, sealedZst (openedZst s c.ezn c.nsid p (bindingTier s ns.defTier))) ∧
    (spFind t.zrs.cam c.ezn).map CamEntry.owner = some c.func ∧ slotOf t n = some (journalWait c) ∧
      Only s t [.hif, .zrs, .jrn, .nss, .sbg, .cph] []

section

variable {s : State} {n p : Nat} {ph : Phase} {c : CmdSlot} {ns : Namespace} (h : Resolves s n ph c ns) (hk : c.kind = .open)
  (hz : NeverBound s c.ezn) (ho : OpenFinds s c ns p)
include h hk hz ho

theorem resolveSlot_opens :
    ∃ z j d b k, resolveSlot s n = putSlot { s with zrs := z, jrn := j, cph := d, sbg := b, nss := k } n (journalWait c) ∧
      z.held = s.zrs.held ∧ (spFind z.cam c.ezn).map CamEntry.owner = some c.func ∧
        boundZone { s with zrs := z, jrn := j, cph := d, sbg := b, nss := k } c.ezn =
          some (p, sealedZst (openedZst s c.ezn c.nsid p (bindingTier s ns.defTier))) := by
  obtain ⟨-, hs, -, -, -, hns, -⟩ := id h
  obtain ⟨z, j, d, b, k, hopen, hheld, hwait, howner, hbound⟩ :=
    bindOpen_opens (e := c.ezn) hns ho.active ho.share ho.cap ho.ready ho.linger ho.resident
  refine ⟨z, j, d, b, k, ?_, hheld, howner, hbound⟩
  rw [resolveSlot_kind h, hk]
  refine (withZone_resolves h _).trans ?_
  simp only [hz.acting, resolveOpen, openZone, hz.zoneState, hopen, reduceCtorEq, if_false, obey]
  exact awaitJournal_waiting hwait hs

/-- A row that gives an Open of an Empty zone its turn completes with the zone bound. -/
theorem completes_opens {i : Instr} {f : State → State} (hi : exec i s = effectIn .data f s)
    (hf : f (cleared s) = wakeHeld (takeTurn (cleared s) n) c.ezn) : Completes i s fun t => Opened s t n c ns p := by
  have hcleared : Resolves (cleared s) n ph c ns := h
  have hfinds : OpenFinds (cleared s) c ns p := ⟨ho.active, ho.share, ho.cap, ho.ready, ho.linger, ho.resident⟩
  obtain ⟨z, j, d, b, k, hu, hheld, howner, hbound⟩ := resolveSlot_opens hcleared hk hz hfinds
  have hturn : TurnAlone (cleared s) (putSlot { cleared s with zrs := z, jrn := j, cph := d, sbg := b, nss := k } n (journalWait c)) n :=
    turnAlone_putSlot hheld rfl Phase.noConfusion
  refine completes_turn h hi hf hu hturn ⟨?_, ?_, ?_, ?_⟩
  · rw [boundZone_settle]
    exact hbound
  · rw [settle_zrs]
    exact howner
  · rw [slotOf_settle]
    exact slotOf_putSlot_same _ _ _
  · exact only_settle (only_cleared (only_mono (only_trans
      (only_trans (only_nssJrn (cleared s) k j) (only_changed (ps := [.zrs, .cph, .sbg]) _))
      (only_putSlot { cleared s with zrs := z, jrn := j, cph := d, sbg := b, nss := k } n _)) (by simp) (by simp)))

end

theorem completes_open {n p : Nat} {c : CmdSlot} {ns : Namespace} {s : State} (h : Resolves s n .checked c ns) (hk : c.kind = .open)
    (hz : NeverBound s c.ezn) (ho : OpenFinds s c ns p) : Completes (.zoneResolve n false false) s fun t => Opened s t n c ns p := by
  have hcleared : Resolves (cleared s) n .checked c ns := h
  obtain ⟨-, -, hph, -⟩ := id h
  exact completes_opens h hk hz ho (f := onZoneResolve n false false) rfl
    (onZoneResolve_resolves hcleared (resolvable_checked hph (by rw [hk]; rfl)))

theorem completes_bindingRetry {n p : Nat} {c : CmdSlot} {ns : Namespace} {s : State} (h : Resolves s n .waitReady c ns) (hk : c.kind = .open)
    (hz : NeverBound s c.ezn) (ho : OpenFinds s c ns p) : Completes (.bindingRetry n) s fun t => Opened s t n c ns p := by
  have hcleared : Resolves (cleared s) n .waitReady c ns := h
  exact completes_opens h hk hz ho (f := onBindingRetry n) rfl (resumeFrom_resolves hcleared)

end Sys2Proof.Machine
end

section
/-!
PROOFS. The Close of an open zone (R50, R53): to Closed, out of the CAM.
-/

namespace Sys2Proof.Machine

open Sys2Proof

theorem state_withCrc (y : ZstEntry) (w : DWord) : ({ y with crc := w } : ZstEntry).state = y.state := rfl

/-- The check word of a written entry leaves its state. The word stays a variable here, so that it is never computed. -/
theorem state_putZst (s : State) (p : Nat) (y : ZstEntry) : (zstOf (putZst s p y) p).state = y.state :=
  (congrArg ZstEntry.state (zstOf_putZst s p y)).trans (state_withCrc y _)

theorem zstOf_putZst_ne (s : State) {p q : Nat} (y : ZstEntry) (h : p ≠ q) : zstOf (putZst s q y) p = zstOf s p := spGet_set_ne _ _ _ _ h

/-- A second entry of the same state leaves a physical zone's state. -/
theorem state_putZst_other {s : State} {p q : Nat} {y : ZstEntry} (h : (zstOf s p).state = y.state) :
    (zstOf (putZst s q y) p).state = y.state := by
  by_cases hp : p = q
  · rw [hp]
    exact state_putZst s q y
  · rw [zstOf_putZst_ne s y hp]
    exact h

/-- A change of a bound zone writes its entry, and under a relocation the target's, with the same state. -/
theorem modZone_cases {s : State} {e p : Nat} {z : ZstEntry} (hb : boundZone s e = some (p, z)) (f : ZstEntry → ZstEntry) :
    modZone s e f = putZst s p (f z) ∨ ∃ q y, modZone s e f = putZst (putZst s p (f z)) q y ∧ y.state = (f z).state := by
  unfold modZone
  rw [hb]
  dsimp only
  split
  · exact .inr ⟨_, _, rfl, rfl⟩
  · exact .inl rfl

/-- A bound zone's entry has the state that a change gives it. -/
theorem modZone_state {s : State} {e p : Nat} {z : ZstEntry} (hb : boundZone s e = some (p, z)) (f : ZstEntry → ZstEntry) :
    ∃ x, modZone s e f = { s with zrs := { s.zrs with zst := x } } ∧
      (zstOf { s with zrs := { s.zrs with zst := x } } p).state = (f z).state := by
  rcases modZone_cases hb f with h | ⟨q, y, h, hy⟩
  · exact ⟨_, h, state_putZst s p (f z)⟩
  · refine ⟨_, h, ?_⟩
    rw [← hy]
    exact state_putZst_other ((state_putZst s p (f z)).trans hy.symm)

/-- A zone with a slot written closes to Closed and leaves the CAM; its record waits in the journal. -/
theorem closeZone_closes {s : State} {e p : Nat} {z : ZstEntry} (hb : boundZone s e = some (p, z)) (hret : (zmapOf s e).retired = false)
    (hwp : z.wpPhys ≠ 0) (hr : s.tkr.retired = []) :
    ∃ y j c f, closeZone s e = { s with zrs := y, jrn := j, cph := c, free := f } ∧ y.held = s.zrs.held ∧ j.waiting ≠ [] ∧
      spFind y.cam e = none ∧ zoneState { s with zrs := y, jrn := j, cph := c, free := f } e = .closed := by
  obtain ⟨x, hmod, hstate⟩ := modZone_state hb fun z => { z with state := .closed }
  obtain ⟨y, c, f, hleave, hkept, hcam⟩ := leaveCam_shape (s := { s with zrs := { s.zrs with zst := x } }) hr e
  obtain ⟨j, hj, hwait⟩ := journalZone_shape { s with zrs := y, cph := c, free := f } e
  obtain ⟨hbound, hp, -⟩ := boundZone_some hb
  refine ⟨y, j, c, f, ?_, hkept.held, hwait, hcam, ?_⟩
  · simp only [closeZone, hb, if_neg hwp, closeForRoom, hmod, hleave, hj]
  · have hat : boundZone { s with zrs := y, jrn := j, cph := c, free := f } e = some (p, zstOf { s with zrs := { s.zrs with zst := x } } p) :=
      (boundZone_kept (s := { s with zrs := { s.zrs with zst := x } }) hkept e).trans (boundZone_at (s := s) rfl hbound hp rfl)
    have hmap : zmapOf { s with zrs := y, jrn := j, cph := c, free := f } e = zmapOf s e := by simp only [zmapOf, hkept.map]
    rw [zoneState_bound hat (by rw [hmap]; exact hret)]
    exact hstate

/-- A zone that comes on chip is cached; its entries and the held commands stay. -/
theorem acting_kept (s : State) (e : Nat) : TablesKept s.zrs (acting s e).zrs ∧ Only s (acting s e) [.zrs, .free] [] := by
  obtain ⟨l, f, h⟩ := cacheZone_shape s e
  unfold acting
  split
  · rw [h]
    exact ⟨⟨rfl, rfl, rfl, rfl⟩, only_changed s⟩
  · exact ⟨⟨rfl, rfl, rfl, rfl⟩, only_refl _ _ _⟩

/-- The Close of an open zone with a slot written: the zone is Closed, and the command waits for the journal. -/
theorem resolveClose_closes {v : State} {n p : Nat} {c : CmdSlot} {z : ZstEntry} (hs : slotOf v n = some c)
    (hb : boundZone v c.ezn = some (p, z)) (hret : (zmapOf v c.ezn).retired = false) (ho : isOpenState z.state = true)
    (hwp : z.wpPhys ≠ 0) (hr : v.tkr.retired = []) :
    ∃ w, resolveClose v n c = putSlot w n (journalWait c) ∧ Only v w [.zrs, .jrn, .cph, .free] [] ∧ w.zrs.held = v.zrs.held ∧
      spFind w.zrs.cam c.ezn = none ∧ zoneState w c.ezn = .closed := by
  obtain ⟨y, j, d, f, hclose, hheld, hwait, hcam, hclosed⟩ := closeZone_closes hb hret hwp hr
  have hstate : zoneState v c.ezn = z.state := zoneState_bound hb hret
  refine ⟨{ v with zrs := y, jrn := j, cph := d, free := f }, ?_, only_changed v, hheld, hcam, hclosed⟩
  have hawait := awaitJournal_waiting (s := { v with zrs := y, jrn := j, cph := d, free := f }) hwait hs
  rcases isOpenState_cases ho with hst | hst
  · simp only [resolveClose, hstate, hst, hclose, hawait]
  · simp only [resolveClose, hstate, hst, hclose, hawait]

theorem completes_close {n p : Nat} {c : CmdSlot} {ns : Namespace} {z : ZstEntry} {s : State} (h : Resolves s n .checked c ns)
    (hk : c.kind = .close) (hb : boundZone s c.ezn = some (p, z)) (hret : (zmapOf s c.ezn).retired = false) (ho : isOpenState z.state = true)
    (hwp : z.wpPhys ≠ 0) (hr : s.tkr.retired = []) :
    Completes (.zoneResolve n false false) s fun t =>
      zoneState t c.ezn = .closed ∧ spFind t.zrs.cam c.ezn = none ∧ slotOf t n = some (journalWait c) ∧
        Only s t [.hif, .zrs, .jrn, .cph, .free] [] := by
  have hcleared : Resolves (cleared s) n .checked c ns := h
  obtain ⟨-, hs, hph, -⟩ := id h
  obtain ⟨hkept, honly⟩ := acting_kept (cleared s) c.ezn
  have hhif : (acting (cleared s) c.ezn).hif = s.hif := honly.1 .hif (by decide)
  have htkr : (acting (cleared s) c.ezn).tkr = s.tkr := honly.1 .tkr (by decide)
  have hmap : zmapOf (acting (cleared s) c.ezn) c.ezn = zmapOf s c.ezn := by simp only [zmapOf, hkept.map]; rfl
  obtain ⟨w, hw, hdone, hheld, hcam, hclosed⟩ := resolveClose_closes (v := acting (cleared s) c.ezn) (n := n)
    (by rw [slotOf, hhif]; exact hs) ((boundZone_kept hkept _).trans hb) (by rw [hmap]; exact hret) ho hwp (by rw [htkr]; exact hr)
  have hu : resolveSlot (cleared s) n = putSlot w n (journalWait c) := by
    rw [resolveSlot_kind hcleared, hk]
    exact (withZone_resolves hcleared _).trans hw
  have hslots : w.hif.slots = s.hif.slots := congrArg HifState.slots ((hdone.1 .hif (by decide)).trans hhif)
  have hrow := onZoneResolve_resolves hcleared (resolvable_checked hph (by rw [hk]; rfl))
  refine completes_turn h (f := onZoneResolve n false false) rfl hrow hu
    (turnAlone_putSlot (hheld.trans hkept.held) hslots Phase.noConfusion) ⟨?_, ?_, ?_, ?_⟩
  · rw [zoneState_settle]
    exact hclosed
  · rw [settle_zrs]
    exact hcam
  · rw [slotOf_settle]
    exact slotOf_putSlot_same _ _ _
  · exact only_settle (only_cleared (only_mono (only_trans (only_trans honly hdone) (only_putSlot w n _)) (by simp) (by simp)))

end Sys2Proof.Machine
end

section
/-!
PROOFS. The commands that ZRS holds (R54, R80), and the load that fails its check (R79, R84).
-/

namespace Sys2Proof.Machine

open Sys2Proof

/-- The slot of a command that is held. -/
def heldSlot (c : CmdSlot) : CmdSlot := { c with phase := .held }

theorem spPut_same {α : Type} (m : Sparse α) (i : Nat) (x : α) : spPut (spPut m i x) i x = spPut m i x := by
  induction m with
  | nil => simp only [spPut, if_true]
  | cons kv m ih =>
    obtain ⟨k, v⟩ := kv
    simp only [spPut]
    split
    · next hik => simp only [spPut, if_pos hik]
    · split
      · simp only [spPut, if_true]
      · next hne hle => simp only [spPut, if_neg hne, if_neg hle, ih]

theorem addOnce_of_mem {xs : List Nat} {x : Nat} (h : x ∈ xs) : addOnce xs x = xs := if_pos (List.contains_iff_mem.2 h)

/-- A command held again stays as it is held. -/
theorem holdSlot_again (s : State) (n : Nat) (c : CmdSlot) : holdSlot (holdSlot s n c) n (heldSlot c) = holdSlot s n c := by
  have hheld : addOnce (addOnce s.zrs.held n) n = addOnce s.zrs.held n := addOnce_of_mem (mem_addOnce _ _)
  have hslots : spPut (spPut s.hif.slots n (heldSlot c)) n (heldSlot c) = spPut s.hif.slots n (heldSlot c) := spPut_same _ _ _
  unfold heldSlot at hslots
  simp only [holdSlot, putSlot, heldSlot, hheld, hslots]

/-- An entry that a test refuses, stored over one it refuses too, changes nothing of what the test keeps. -/
theorem filter_spPut_refused {α : Type} {p : Nat × α → Bool} {m : Sparse α} {i : Nat} {x y : α} (hy : spFind m i = some y)
    (hx : p (i, x) = false) (hold : p (i, y) = false) : (spPut m i x).filter p = m.filter p := by
  induction m with
  | nil => cases hy
  | cons kv m ih =>
    obtain ⟨k, v⟩ := kv
    simp only [spPut]
    simp only [spFind] at hy
    split
    · next hik =>
      obtain rfl : v = y := by simpa [hik] using hy
      subst hik
      simp only [List.filter_cons, hx, hold, Bool.false_eq_true, if_false]
    · next hne =>
      rw [if_neg hne] at hy
      split
      · simp only [List.filter_cons, hx, Bool.false_eq_true, if_false]
      · simp only [List.filter_cons, ih hy]

section

variable {s : State} {n : Nat} {c : CmdSlot} {ns : Namespace}

/-- A turn of a Reset that must wait holds it. -/
theorem takeTurn_holds (hs : slotOf s n = some c) (hk : c.kind = .reset) (hr : c.remote = none) (hsel : selectAll c.sqe = false)
    (hns : slotNs s c = some ns) (hold : (zoneBusy s c.ezn || standsBehind s n c c.ezn) = true) : takeTurn s n = holdSlot s n c := by
  have htake : zrsTake s n = holdSlot s n c := by
    simp only [zrsTake, hs, hns, hk, hsel, Bool.false_eq_true, if_false]
    simp only [resolveSlot, hs, hns, hr, hk]
    exact if_pos hold
  have hslot : slotOf (holdSlot s n c) n = some (heldSlot c) := slotOf_putSlot_same _ _ _
  simp only [takeTurn, htake, hslot, heldSlot, beq_self_eq_true, if_true]

theorem isIncomplete_reset (e : Nat) (hk : c.kind = .reset) : isIncomplete e c = false := by
  simp only [isIncomplete, hk, isWriteKind, Bool.false_and]

/-- A Reset held leaves its zone as busy as it was. -/
theorem zoneBusy_holdSlot (hs : slotOf s n = some c) (hk : c.kind = .reset) (e : Nat) : zoneBusy (holdSlot s n c) e = zoneBusy s e := by
  have hinc : incomplete (holdSlot s n c) e = incomplete s e :=
    filter_spPut_refused hs (isIncomplete_reset (c := heldSlot c) e hk) (isIncomplete_reset e hk)
  simp only [zoneBusy, silentWrites, hinc]
  rfl

/-- Commands that wait in ZRS for a command's zone, beside it. -/
def waitsBefore (s : State) (n : Nat) (c : CmdSlot) (e : Nat) : Bool :=
  s.hif.slots.any fun kv => kv.1 != n && waitsInZrs kv.2 && kv.2.ezn == e && kv.2.remote.isNone && !(isReadKind kv.2.kind && isReadKind c.kind)

theorem standsBehind_eq (s : State) (n : Nat) (c : CmdSlot) (e : Nat) :
    standsBehind s n c e =
      ((s.zrs.held.takeWhile (· != n)).any (fun k => match slotOf s k with | some d => d.ezn == e | none => false) || waitsBefore s n c e) := by
  unfold standsBehind waitsBefore
  rfl

theorem mem_takeWhile_ne {xs : List Nat} {k : Nat} (h : k ∈ xs.takeWhile (· != n)) : k ∈ xs ∧ k ≠ n :=
  ⟨(List.takeWhile_prefix _).subset h, by simpa using List.mem_takeWhile_imp h⟩

/-- Where no other command is held for a zone, the commands before one are those that wait. -/
theorem waitsBefore_of_standsBehind {e : Nat} (h : standsBehind s n c e = true)
    (hheld : ∀ k ∈ s.zrs.held, k ≠ n → (slotOf s k).map CmdSlot.ezn ≠ some e) : waitsBefore s n c e = true := by
  rw [standsBehind_eq, Bool.or_eq_true] at h
  refine h.resolve_left fun hany => ?_
  obtain ⟨k, hk, hyes⟩ := List.any_eq_true.1 hany
  obtain ⟨hmem, hne⟩ := mem_takeWhile_ne hk
  refine hheld k hmem hne ?_
  split at hyes
  · next d hd =>
    rw [hd]
    exact congrArg some (by simpa using hyes)
  · cases hyes

/-- What waits before a command waits before it once it is held. -/
theorem waitsBefore_holdSlot (e : Nat) : waitsBefore (holdSlot s n c) n (heldSlot c) e = waitsBefore s n c e := by
  have hfilter : (spPut s.hif.slots n (heldSlot c)).filter (fun kv => kv.1 != n) = s.hif.slots.filter fun kv => kv.1 != n :=
    filter_spPut (p := (· != n)) _ _ (by simp)
  have hany : ∀ m : Sparse CmdSlot, ∀ q : CmdSlot → Bool, (m.any fun kv => kv.1 != n && q kv.2) = (m.filter fun kv => kv.1 != n).any fun kv => q kv.2 :=
    fun m q => by rw [List.any_filter]
  have hsplit : ∀ (u : State) (d : CmdSlot), waitsBefore u n d e =
      (u.hif.slots.filter fun kv => kv.1 != n).any
        fun kv => waitsInZrs kv.2 && kv.2.ezn == e && kv.2.remote.isNone && !(isReadKind kv.2.kind && isReadKind d.kind) := fun u d => by
    rw [← hany _ fun x => waitsInZrs x && x.ezn == e && x.remote.isNone && !(isReadKind x.kind && isReadKind d.kind)]
    simp only [waitsBefore, Bool.and_assoc]
  rw [hsplit, hsplit]
  exact congrArg (List.any · _) hfilter

theorem forEach_fixed {α : Type} {u : State} {f : State → α → State} {xs : List α} (h : ∀ x ∈ xs, f u x = u) : forEach xs u f = u := by
  induction xs with
  | nil => rfl
  | cons x xs ih =>
    show forEach xs (f u x) f = u
    rw [h x List.mem_cons_self]
    exact ih fun y hy => h y (List.mem_cons_of_mem _ hy)

/-- A Reset that is held wakes none: its zone is busy, or it alone is held for it and stands behind the same command. -/
theorem wakeHeld_holdSlot (hs : slotOf s n = some c) (hk : c.kind = .reset) (hr : c.remote = none) (hsel : selectAll c.sqe = false)
    (hns : slotNs s c = some ns)
    (hcase : zoneBusy s c.ezn = true ∨
      (standsBehind s n c c.ezn = true ∧ ∀ k ∈ s.zrs.held, k ≠ n → (slotOf s k).map CmdSlot.ezn ≠ some c.ezn)) :
    wakeHeld (holdSlot s n c) c.ezn = holdSlot s n c := by
  unfold wakeHeld
  split
  · rfl
  · next hfree =>
    rw [zoneBusy_holdSlot hs hk] at hfree
    obtain ⟨hbehind, hheld⟩ := hcase.resolve_left hfree
    refine forEach_fixed fun k hmem => ?_
    obtain ⟨hk', hzone⟩ := List.mem_filter.1 hmem
    have hkn : k = n := by
      by_contra hne
      have hold : k ∈ s.zrs.held := (mem_of_addOnce hk').resolve_right hne
      have hslot : slotOf (holdSlot s n c) k = slotOf s k := slotOf_putSlot_ne _ _ hne
      rw [hslot] at hzone
      refine hheld k hold hne ?_
      split at hzone
      · next d hd =>
        rw [hd]
        exact congrArg some (by simpa using hzone)
      · cases hzone
    have hagain : standsBehind (holdSlot s n c) n (heldSlot c) c.ezn = true := by
      rw [standsBehind_eq, waitsBefore_holdSlot, waitsBefore_of_standsBehind hbehind hheld, Bool.or_true]
    have hslot : slotOf (holdSlot s n c) n = some (heldSlot c) := slotOf_putSlot_same _ _ _
    rw [hkn]
    exact (takeTurn_holds hslot hk hr hsel hns (Bool.or_eq_true_iff.2 (.inr hagain))).trans (holdSlot_again s n c)

end

/-- A Reset of a busy zone, or behind a command that waits for its zone, is held. -/
theorem completes_hold {n : Nat} {c : CmdSlot} {ns : Namespace} {s : State} (hw : Works s) (hs : slotOf s n = some c) (hph : c.phase = .checked)
    (hk : c.kind = .reset) (hr : c.remote = none) (hsel : selectAll c.sqe = false) (hns : slotNs s c = some ns)
    (hadm : s.hif.admissionStopped = false)
    (hcase : zoneBusy s c.ezn = true ∨
      (standsBehind s n c c.ezn = true ∧ ∀ k ∈ s.zrs.held, k ≠ n → (slotOf s k).map CmdSlot.ezn ≠ some c.ezn)) :
    Completes (.zoneResolve n false false) s fun t =>
      slotOf t n = some (heldSlot c) ∧ t.zrs = { s.zrs with held := addOnce s.zrs.held n } ∧ Only s t [.hif, .zrs] [] := by
  have hold : (zoneBusy s c.ezn || standsBehind s n c c.ezn) = true := by
    rw [Bool.or_eq_true]
    exact hcase.imp_right And.left
  have hturn : takeTurn (cleared s) n = holdSlot (cleared s) n c := takeTurn_holds (s := cleared s) hs hk hr hsel hns hold
  have hwake : wakeHeld (holdSlot (cleared s) n c) c.ezn = holdSlot (cleared s) n c :=
    wakeHeld_holdSlot (s := cleared s) hs hk hr hsel hns hcase
  have hrow : onZoneResolve n false false (cleared s) = wakeHeld (takeTurn (cleared s) n) c.ezn := by
    have hs' : slotOf (cleared s) n = some c := hs
    have hadm' : (cleared s).hif.admissionStopped = false := hadm
    have hdom : domainOn (cleared s) .data = true := hw.2
    simp only [onZoneResolve, hs', hadm', hdom, resolvable_checked hph (by rw [hk]; rfl), Bool.false_and, Bool.and_false, Bool.or_self,
      Bool.not_true, Bool.false_eq_true, if_false]
  refine completes_runIn (f := onZoneResolve n false false) rfl hw.1 hw.2 (hrow.trans ((congrArg (wakeHeld · c.ezn) hturn).trans hwake))
    ⟨?_, ?_, ?_⟩
  · rw [slotOf_settle]
    exact slotOf_putSlot_same _ _ _
  · rw [settle_zrs]
    rfl
  · exact only_settle (only_cleared (only_changed (ps := [.hif, .zrs]) (cleared s)))

theorem raise_shape (s : State) (trig inst m : Nat) (ws : List Nat) : ∃ r c, raise s trig inst m ws = { s with regs := r, csh := c } := by
  unfold raise
  split
  · exact ⟨_, s.csh, rfl⟩
  · exact ⟨s.regs, _, rfl⟩

/-- A fault with its record changes the registers and the Contact Sheet's ports alone. -/
theorem raiseErr_shape (s : State) (f : Fld) (trig inst m : Nat) (ws : State → List Nat) :
    ∃ r c, raiseErr s f trig inst m ws = { s with regs := r, csh := c } := by
  unfold raiseErr
  split
  · exact ⟨s.regs, s.csh, rfl⟩
  · exact raise_shape _ _ _ _ _

/-- A load whose check fails sets the bit, holds the zone and ends the command. -/
theorem completes_loadBad {n : Nat} {c : CmdSlot} {s : State} (hw : Works s) (hs : slotOf s n = some c) (hres : resolvable c = true)
    (hb : Bare s n c) (hadm : s.hif.admissionStopped = false) (hbound : (zmapOf s c.ezn).bound = true) (hr : c.remote = none)
    (hbusy : zoneBusy s c.ezn = false) (hbehind : standsBehind s n c c.ezn = false) (hchip : onChip s c.ezn = false) :
    Completes (.zoneResolve n false true) s fun t =>
      flag t F.zrsErr_zstCrc = true ∧ t.zrs = { s.zrs with heldZones := addOnce s.zrs.heldZones c.ezn } ∧ Ended s t n c .zoneHeld ∧
        Only s t [.hif, .zrs, .csh] [F.zrsErr_zstCrc.addr, (F.cshMissed_total 0).addr] := by
  let u : State := zrsFault (cleared s) F.zrsErr_zstCrc c.ezn c.func
  let v : State := { u with zrs := { u.zrs with heldZones := addOnce u.zrs.heldZones c.ezn } }
  obtain ⟨r, p, hu⟩ : ∃ r p, u = { cleared s with regs := r, csh := p } := raiseErr_shape _ _ _ _ _ _
  have hrow : onZoneResolve n false true (cleared s) = finish v n .zoneHeld := by
    have hs' : slotOf (cleared s) n = some c := hs
    have hadm' : (cleared s).hif.admissionStopped = false := hadm
    have hdom : domainOn (cleared s) .data = true := hw.2
    have hbound' : (zmapOf (cleared s) c.ezn).bound = true := hbound
    have hbusy' : zoneBusy (cleared s) c.ezn = false := hbusy
    have hbehind' : standsBehind (cleared s) n c c.ezn = false := hbehind
    have hchip' : onChip (cleared s) c.ezn = false := hchip
    simp only [onZoneResolve, hs', hadm', hdom, hres, hbound', hr, hbusy', hbehind', hchip', Option.isNone_none, Bool.not_true, Bool.not_false,
      Bool.false_and, Bool.or_false, Bool.false_or, Bool.and_self, Bool.false_eq_true, if_false, if_true, faultZone]
    rfl
  have hslot : slotOf v n = some c := by
    simp only [v, hu]
    exact hs
  have hbare : Bare v n c := by
    simp only [v, hu]
    exact hb
  have hfinish := finish_bare hslot hbare .zoneHeld
  have hflag : flag u F.zrsErr_zstCrc = true := flag_raiseErr _ _ _ _ _ (by decide) (by decide) (by decide)
  have hzrs : v.zrs = { s.zrs with heldZones := addOnce s.zrs.heldZones c.ezn } := by
    simp only [v, hu]
    rfl
  refine completes_runIn (f := onZoneResolve n false true) rfl hw.1 hw.2 hrow ⟨?_, ?_, ?_, ?_⟩
  · rw [flag_settle _ (by decide), flag, hfinish.1.2 _ (by decide) (by decide)]
    exact hflag
  · rw [settle_zrs]
    exact (hfinish.1.1 .zrs (by decide)).trans hzrs
  · have hpost : CanPost s n c → CanPost v n c := fun hcan => by
      simp only [v, hu]
      exact hcan
    have hothers : ∀ m, m ≠ n → slotOf v m = slotOf s m := fun m _ => by
      simp only [v, hu]
      rfl
    exact ended_settle hslot hbare hothers hpost ⟨rfl, rfl, rfl⟩
  · have hheld : Only u v [.zrs] [] := only_changed u
    exact only_settle (only_cleared (only_mono
      (only_trans (only_trans (only_raiseErr (cleared s) F.zrsErr_zstCrc 1 0 idZrs _) hheld) hfinish.1) (by simp) (by simp)))

end Sys2Proof.Machine
end

section
/-!
PROOFS. The reservation of read buffers (R374), and the context that comes back once its zone is sealed (R53).
-/

namespace Sys2Proof.Machine

open Sys2Proof

theorem completes_readReserved {n : Nat} {c : CmdSlot} {s : State} (hw : Works s) (hs : slotOf s n = some c) (hph : c.phase = .checked)
    (hk : isReadKind c.kind = true) (hfirst : firstWaiting s = none) (hopen : c.blocks ≤ openCount s 1)
    (hroom : getF s (F.sbgPoolStat_reserved 1) + c.blocks < 4097) :
    Completes (.readReservation n) s fun t =>
      slotOf t n = some { c with phase := .ready, reserved := c.blocks } ∧
        getF t (F.sbgPoolStat_reserved 1) = getF s (F.sbgPoolStat_reserved 1) + c.blocks ∧ Only s t [.hif] [(F.sbgPoolStat_reserved 1).addr] := by
  let u : State := setF (cleared s) (F.sbgPoolStat_reserved 1) (getF s (F.sbgPoolStat_reserved 1) + c.blocks)
  have hreserve : reserveRead (cleared s) c.blocks = some u := if_pos hopen
  have hrow : onReadReservation n (cleared s) = putSlot u n { c with phase := .ready, reserved := c.blocks } := by
    have hs' : slotOf (cleared s) n = some c := hs
    have hfirst' : firstWaiting (cleared s) = none := hfirst
    simp only [onReadReservation, hs', hph, hk, hfirst', hreserve, Option.isSome_none, Bool.not_true, Bool.false_eq_true, if_false]
  refine completes_runIn (f := onReadReservation n) rfl hw.1 hw.2 hrow ⟨?_, ?_, ?_⟩
  · rw [slotOf_settle]
    exact slotOf_putSlot_same _ _ _
  · rw [getF_settle _ _ (by decide)]
    have hset : getF u (F.sbgPoolStat_reserved 1) = (getF s (F.sbgPoolStat_reserved 1) + c.blocks) % 2 ^ 13 :=
      getF_setF_same _ _ _ (by decide) (by decide)
    exact hset.trans (Nat.mod_eq_of_lt (by omega))
  · exact only_settle (only_cleared (only_mono (only_trans (only_setF (cleared s) (F.sbgPoolStat_reserved 1) _) (only_putSlot u n _)) (by simp)
      (by simp)))

theorem completes_readWaits {n : Nat} {c : CmdSlot} {s : State} (hw : Works s) (hs : slotOf s n = some c) (hph : c.phase = .checked)
    (hk : isReadKind c.kind = true) (hwait : (firstWaiting s).isSome = true ∨ openCount s 1 < c.blocks) :
    Completes (.readReservation n) s fun t => slotOf t n = some { c with phase := .waitReadPool } ∧ Only s t [.hif] [] := by
  have hrow : onReadReservation n (cleared s) = putSlot (cleared s) n { c with phase := .waitReadPool } := by
    have hs' : slotOf (cleared s) n = some c := hs
    simp only [onReadReservation, hs', hph, hk, Bool.not_true, Bool.false_eq_true, if_false]
    split
    · rfl
    · next hfirst =>
      have hreserve : reserveRead (cleared s) c.blocks = none := if_neg (Nat.not_le.2 (hwait.resolve_left hfirst))
      simp only [hreserve]
  refine completes_runIn (f := onReadReservation n) rfl hw.1 hw.2 hrow ⟨?_, ?_⟩
  · rw [slotOf_settle]
    exact slotOf_putSlot_same _ _ _
  · exact only_settle (only_cleared (only_putSlot _ n _))

/-- The table of contexts once those of a list have been returned. -/
def ctxsReturned (ls : List LingerCtx) (m : Sparse Ctx) : Sparse Ctx := ls.foldl (fun m l => spErase m l.ctx) m

theorem closeCtx_ctxs {s : State} (h : s.tkr.retired = []) (i : Nat) :
    closeCtx s i = { s with cph := { s.cph with ctxs := spErase s.cph.ctxs i } } := by
  simp only [closeCtx]
  rw [sweepRetired_none (by exact h), ite_self]

theorem closeCtxs_ctxs {s : State} (h : s.tkr.retired = []) (ls : List LingerCtx) :
    forEach ls s (fun s l => closeCtx s l.ctx) = { s with cph := { s.cph with ctxs := ctxsReturned ls s.cph.ctxs } } := by
  induction ls generalizing s with
  | nil => rfl
  | cons l ls ih =>
    show forEach ls (closeCtx s l.ctx) _ = _
    rw [closeCtx_ctxs h]
    exact ih (s := { s with cph := { s.cph with ctxs := spErase s.cph.ctxs l.ctx } }) h

theorem spFind_erase_none {α : Type} {m : Sparse α} {j : Nat} (h : spFind m j = none) (i : Nat) : spFind (spErase m i) j = none := by
  by_cases hij : j = i
  · rw [hij]
    exact spFind_erase_same m i
  · rw [spFind_erase_ne m hij]
    exact h

theorem ctxsReturned_none (ls : List LingerCtx) {m : Sparse Ctx} {i : Nat} (h : spFind m i = none) : spFind (ctxsReturned ls m) i = none := by
  induction ls generalizing m with
  | nil => exact h
  | cons l ls ih => exact ih (spFind_erase_none h l.ctx)

/-- A returned context is in no entry. -/
theorem ctxsReturned_mem {ls : List LingerCtx} {l : LingerCtx} (h : l ∈ ls) (m : Sparse Ctx) : spFind (ctxsReturned ls m) l.ctx = none := by
  induction ls generalizing m with
  | nil => cases h
  | cons k ls ih =>
    rcases List.mem_cons.1 h with rfl | hmem
    · exact ctxsReturned_none ls (spFind_erase_same m l.ctx)
    · exact ih hmem _

theorem completes_contextRelease {e : Nat} {s : State} (hw : Works s) (hr : s.tkr.retired = []) (hany : (s.zrs.linger.any fun l => l.ezn == e) = true)
    (hsealed : unsealed s e = false) (hslots : ∀ kv ∈ s.hif.slots, kv.2.phase ≠ .waitContext) :
    Completes (.contextRelease e) s fun t =>
      t.zrs = { s.zrs with linger := s.zrs.linger.filter fun l => l.ezn != e } ∧
        (∀ l ∈ s.zrs.linger, l.ezn = e → spFind t.cph.ctxs l.ctx = none) ∧ Only s t [.zrs, .cph] [] := by
  let ls : List LingerCtx := s.zrs.linger.filter fun l => l.ezn == e
  let u : State := { cleared s with
    zrs := { s.zrs with linger := s.zrs.linger.filter fun l => l.ezn != e }
    cph := { s.cph with ctxs := ctxsReturned ls s.cph.ctxs } }
  have hrelease : releaseLinger (cleared s) e = u :=
    closeCtxs_ctxs (s := { cleared s with zrs := { s.zrs with linger := s.zrs.linger.filter fun l => l.ezn != e } }) hr ls
  have hnone : (u.hif.slots.filter fun kv => kv.2.phase == .waitContext) = [] :=
    List.filter_eq_nil_iff.2 fun kv hkv => by simpa using hslots kv hkv
  have hrow : onContextRelease e (cleared s) = u := by
    have hgo : ((cleared s).zrs.linger.any (fun l => l.ezn == e) && !unsealed (cleared s) e) = true := by
      rw [show unsealed (cleared s) e = false from hsealed]
      exact (Bool.and_true _).trans hany
    simp only [onContextRelease, hgo, if_true, hrelease, hnone, List.map_nil, forEach, List.foldl_nil]
  refine completes_runIn (f := onContextRelease e) rfl hw.1 hw.2 hrow ⟨?_, fun l hl he => ?_, ?_⟩
  · rw [settle_zrs]
  · rw [settle_cph]
    exact ctxsReturned_mem (List.mem_filter.2 ⟨hl, by simpa using he⟩) _
  · exact only_settle (only_cleared (only_changed (ps := [.zrs, .cph]) (cleared s)))

/-- Settles O22: a turn that leaves the other commands where they are is the whole of what its row does (`wakeHeld_takeTurn`), so that each form follows from
what its resolve leaves. -/
theorem resolve : Obligations.Resolve := by
  refine ⟨?write, ?refused, ?zeros, ?opens, ?close, ?reset, ?hold, ?loadBad, ?horizon, ?dieQueue, ?retry, ?reserved, ?readWaits, ?context⟩
  case write => exact fun n p c ns z s h => completes_write h
  case refused => exact fun n c ns st s h hb hk hon hst => completes_writeRefused h hb hk hon hst
  case zeros => exact fun n c ns s h hk hz hkey hres hne hb => completes_readZeros h hk hz hkey hres hne hb
  case opens => exact fun n p c ns s h hk hz ha hf hn hp hl hr => completes_open h hk hz ⟨ha, hf, hn, hp, hl, hr⟩
  case close => exact fun n p c ns z s h hk hb hret ho hwp hr => completes_close h hk hb hret ho hwp hr
  case reset => exact fun n c ns s h hb hk hz hj => completes_resetEmpty h hb hk hz hj
  case hold => exact fun n c ns s hw hs hph hk hr hsel hns hadm hcase => completes_hold hw hs hph hk hr hsel hns hadm hcase
  case loadBad =>
    exact fun n c s hw hs hres hb hadm hbound hr hbusy hbehind hchip _ => completes_loadBad hw hs hres hb hadm hbound hr hbusy hbehind hchip
  case horizon => exact fun n p c ns z s h hj => completes_horizonResume h hj
  case dieQueue => exact fun n p c ns z s h => completes_dieQueueResume h
  case retry => exact fun n p c ns s h hk hz ha hf hn hp hl hr => completes_bindingRetry h hk hz ⟨ha, hf, hn, hp, hl, hr⟩
  case reserved => exact fun n c s hw hs hph hk hfirst hopen hroom => completes_readReserved hw hs hph hk hfirst hopen hroom
  case readWaits => exact fun n c s hw hs hph hk hwait => completes_readWaits hw hs hph hk hwait
  case context => exact fun e s hw hr hany hsealed hslots => completes_contextRelease hw hr hany hsealed hslots

end Sys2Proof.Machine
end

section
/-!
SUPPORT. What the end of a bare command leaves of the host interface, and the shape of an admin row: it prepares its completion and ends its command.
-/

namespace Sys2Proof.Machine

open Sys2Proof

/-- What a completion leaves of a function: it may move completion queues, statistics, SHST and the pending bits of MSI-X. -/
structure FuncKept (x y : Func) : Prop where
  sqs : y.sqs = x.sqs
  features : y.features = x.features
  aers : y.aers = x.aers
  pending : y.pendingEvents = x.pendingEvents
  masked : y.masked = x.masked
  stop : y.stop = x.stop
  coalesce : ∀ v, (spGet noMsix y.msix v).coalesceOff = (spGet noMsix x.msix v).coalesceOff

theorem funcKept_refl (x : Func) : FuncKept x x := ⟨rfl, rfl, rfl, rfl, rfl, rfl, fun _ => rfl⟩

theorem FuncKept.trans {x y z : Func} (h : FuncKept x y) (k : FuncKept y z) : FuncKept x z :=
  ⟨k.sqs.trans h.sqs, k.features.trans h.features, k.aers.trans h.aers, k.pending.trans h.pending, k.masked.trans h.masked, k.stop.trans h.stop,
    fun v => (k.coalesce v).trans (h.coalesce v)⟩

/-- Completions alone: the functions keep what `FuncKept` says, and of the host interface the slots and the completions that wait may change besides. -/
def Completed (s t : State) : Prop :=
  ∃ F S W o, t = { s with hif := { s.hif with funcs := F, slots := S, waiting := W }, out := s.out ++ o } ∧
    ∀ f, FuncKept (spGet noFunc s.hif.funcs f) (spGet noFunc F f)

theorem completed_refl (s : State) : Completed s s := ⟨s.hif.funcs, s.hif.slots, s.hif.waiting, [], by simp, fun _ => funcKept_refl _⟩

theorem completed_trans {s t u : State} (h : Completed s t) (k : Completed t u) : Completed s u := by
  obtain ⟨F, S, W, o, rfl, hf⟩ := h
  obtain ⟨G, T, V, p, rfl, kf⟩ := k
  exact ⟨G, T, V, o ++ p, by simp [List.append_assoc], fun f => (hf f).trans (kf f)⟩

theorem completed_ite {p : Prop} [Decidable p] {s a b : State} (ha : Completed s a) (hb : Completed s b) : Completed s (if p then a else b) := by
  split <;> assumption

theorem completed_emit (s : State) (x : Output) : Completed s (emit s x) :=
  ⟨s.hif.funcs, s.hif.slots, s.hif.waiting, [x], rfl, fun _ => funcKept_refl _⟩

theorem completed_slots (s : State) (m : Sparse CmdSlot) : Completed s { s with hif := { s.hif with slots := m } } :=
  ⟨s.hif.funcs, m, s.hif.waiting, [], by simp, fun _ => funcKept_refl _⟩

theorem completed_waiting (s : State) (w : List Cqe) : Completed s { s with hif := { s.hif with waiting := w } } :=
  ⟨s.hif.funcs, s.hif.slots, w, [], by simp, fun _ => funcKept_refl _⟩

theorem completed_putFunc {s : State} {f : Nat} {x : Func} (h : FuncKept (funcOf s f) x) : Completed s (putFunc s f x) := by
  refine ⟨spSet noFunc s.hif.funcs f x, s.hif.slots, s.hif.waiting, [], by simp [putFunc], fun g => ?_⟩
  by_cases hg : g = f
  · rw [hg, spGet_set_same]
    exact h
  · rw [spGet_set_ne _ _ _ _ hg]
    exact funcKept_refl _

/-- A message that has to wait sets the pending bit of its entry, and the entry's coalescing stays. -/
theorem completed_sendMsix (s : State) (f v : Nat) : Completed s (sendMsix s f v) := by
  refine completed_ite (completed_refl s) (completed_ite (completed_putFunc ⟨rfl, rfl, rfl, rfl, rfl, rfl, fun w => ?_⟩) (completed_emit s _))
  by_cases hw : w = v
  · subst hw
    show (spGet noMsix (spSet noMsix _ w _) w).coalesceOff = _
    rw [spGet_set_same]
    rfl
  · show (spGet noMsix (spSet noMsix _ v _) w).coalesceOff = _
    rw [spGet_set_ne _ _ _ _ hw]

theorem completed_postCqe (s : State) (e : Cqe) : Completed s (postCqe s e) := by
  unfold postCqe
  refine completed_ite (completed_emit s _) ?_
  split
  · exact completed_refl s
  · refine completed_ite (completed_waiting s _) ?_
    extract_lets wrap q' s1 s2
    have hposted : Completed s s2 :=
      completed_trans (completed_putFunc (by exact ⟨rfl, rfl, rfl, rfl, rfl, rfl, fun _ => rfl⟩)) (completed_emit s1 _)
    exact completed_ite (completed_trans hposted (completed_sendMsix _ _ _)) hposted

theorem completed_countCompletion (s : State) (c : CmdSlot) (st : Status) : Completed s (countCompletion s c st) := by
  unfold countCompletion
  refine completed_ite (completed_refl s) ?_
  extract_lets x k k1 k2 k3
  exact completed_putFunc ⟨rfl, rfl, rfl, rfl, rfl, rfl, fun _ => rfl⟩

theorem completed_settleShutdown (s : State) (f : Nat) : Completed s (settleShutdown s f) := by
  unfold settleShutdown
  exact completed_ite (completed_putFunc ⟨rfl, rfl, rfl, rfl, rfl, rfl, fun _ => rfl⟩) (completed_refl s)

/-- The state once a bare command's slot is free. -/
def slotFreed (s : State) (n : Nat) : State := { s with hif := { s.hif with slots := spErase s.hif.slots n } }

/-- The completion of a command that is not silent is counted and posted. -/
def completionPosted (s : State) (c : CmdSlot) (st : Status) : State :=
  if c.silent then s else postCqe (countCompletion s c st) (cqeOf (countCompletion s c st) c st)

theorem hostOnly_completionPosted (s : State) (c : CmdSlot) (st : Status) : HostOnly s (completionPosted s c st) :=
  hostOnly_ite (hostOnly_refl s) (hostOnly_trans (hostOnly_countCompletion _ _ _) (hostOnly_postCqe _ _))

theorem completed_completionPosted (s : State) (c : CmdSlot) (st : Status) : Completed s (completionPosted s c st) :=
  completed_ite (completed_refl s) (completed_trans (completed_countCompletion _ _ _) (completed_postCqe _ _))

/-- The end of a bare command: its slot is free, its completion posted, and a shutdown that waited for it is complete. -/
theorem finish_bare_eq {s : State} {n : Nat} {c : CmdSlot} (hs : slotOf s n = some c) (hb : Bare s n c) (st : Status) :
    finish s n st = settleShutdown (completionPosted (slotFreed s n) c st) c.func := by
  have hrelease : releaseBuffers (delSlot s n) n c = slotFreed s n := releaseBuffers_bare hb
  obtain ⟨hserved, -, -, -, -, -, hdel, -, hstep⟩ := hb
  let v := completionPosted (slotFreed s n) c st
  have hv : HostOnly (slotFreed s n) v := hostOnly_completionPosted _ c st
  have hqueue : (spFind (funcOf v c.func).sqs c.sqid).bind SubQ.deleting = none := by rw [hostOnly_sqs hv]; exact hdel
  have hserved' : servedBy (slotFreed s n) n = none := hserved
  have hstep' : (settleShutdown v c.func).slk.stepping = false := by
    rw [hostOnly_slk (hostOnly_trans hv (hostOnly_settleShutdown v c.func))]
    exact hstep
  calc finish s n st = settleStepDown (settleShutdown (settleDeletion v c.func c.sqid) c.func) := by
        simp only [finish, hs, hrelease, hserved', v, completionPosted]
        cases c.silent <;> rfl
    _ = settleShutdown v c.func := by
        rw [settleDeletion_none hqueue]
        simp only [settleStepDown, hstep', Bool.not_false, Bool.true_or, if_true]

theorem completed_finish {s : State} {n : Nat} {c : CmdSlot} (hs : slotOf s n = some c) (hb : Bare s n c) (st : Status) :
    Completed s (finish s n st) := by
  rw [finish_bare_eq hs hb]
  exact completed_trans (completed_slots s _) (completed_trans (completed_completionPosted _ _ _) (completed_settleShutdown _ _))

theorem Completed.only {s t : State} (h : Completed s t) : Only s t [.hif] [] := by
  obtain ⟨F, S, W, o, rfl, -⟩ := h
  exact only_mono (only_trans (only_changed s (h := { s.hif with funcs := F, slots := S, waiting := W }) (ps := [.hif])) (only_out _ _)) (by simp) (by simp)

theorem Completed.regs {s t : State} (h : Completed s t) : t.regs = s.regs := by
  obtain ⟨F, S, W, o, rfl, -⟩ := h
  rfl

theorem Completed.func {s t : State} (h : Completed s t) (f : Nat) : FuncKept (funcOf s f) (funcOf t f) := by
  obtain ⟨F, S, W, o, rfl, hf⟩ := h
  exact hf f

/-- A field of the host interface that completions do not move. -/
theorem Completed.hif {s t : State} (h : Completed s t) {β : Type} (p : HifState → β)
    (hp : ∀ x F S W, p { x with funcs := F, slots := S, waiting := W } = p x := by exact fun _ _ _ _ => rfl) : p t.hif = p s.hif := by
  obtain ⟨F, S, W, o, rfl, -⟩ := h
  exact hp _ _ _ _

theorem Completed.mem_out {s t : State} (h : Completed s t) {x : Output} (hx : x ∈ s.out) : x ∈ t.out := by
  obtain ⟨F, S, W, o, rfl, -⟩ := h
  exact List.mem_append_left _ hx

/-- A row has prepared the end of a command: the slot still holds it, bare, with completion Dwords of the row's; the other slots are as they were, and so is
whether a completion can be posted. -/
structure Prepared (s u : State) (n : Nat) (c d : CmdSlot) : Prop where
  slot : slotOf u n = some d
  bare : Bare u n d
  others : ∀ m, m ≠ n → slotOf u m = slotOf s m
  post : CanPost s n c → CanPost u n d
  same : d.func = c.func ∧ d.sqid = c.sqid ∧ d.sqe = c.sqe

/-- What a row that ended a command in `u` leaves: of `u` all but what a completion moves, and the completion with the Dwords of the slot. -/
structure AfterEnd (s u t : State) (n : Nat) (c d : CmdSlot) (st : Status) : Prop where
  func : ∀ f, FuncKept (funcOf u f) (funcOf t f)
  hif : ∃ F S W, t.hif = { u.hif with funcs := F, slots := S, waiting := W }
  out : ∀ x ∈ u.out, x ∈ t.out
  rest : Only u t [.hif] []
  posted : CanPost s n c → Posted t c st d.dw0 d.dw1

theorem afterEnd_settle {s u : State} {n : Nat} {c d : CmdSlot} (h : Prepared s u n c d) (st : Status) :
    AfterEnd s u (settle (finish u n st)) n c d st := by
  have hk := completed_finish h.slot h.bare st
  obtain ⟨-, -, -, hpost⟩ := finish_bare h.slot h.bare st
  refine ⟨fun f => ?_, ?_, fun x hx => mem_settle_out (hk.mem_out hx), only_settle hk.only, fun hcan => ?_⟩
  · show FuncKept _ (spGet noFunc (settle (finish u n st)).hif.funcs f)
    rw [settle_hif]
    exact hk.func f
  · rw [settle_hif]
    obtain ⟨F, S, W, o, he, -⟩ := hk
    exact ⟨F, S, W, by rw [he]⟩
  · obtain ⟨hf, hq, he⟩ := h.same
    obtain ⟨dnr, hout⟩ := hpost (h.post hcan)
    rw [hf, hq, he] at hout
    exact ⟨dnr, mem_settle_out hout⟩

theorem Completes.mono {c : Instr} {s : State} {P Q : State → Prop} (h : Completes c s P) (hpq : ∀ t, P t → Q t) : Completes c s Q := by
  obtain ⟨t, ht, hP⟩ := h
  exact ⟨t, ht, hpq t hP⟩

/-- A row whose effect is the end of its command in a prepared state completes with that end, and changes what the preparation and the end change. -/
theorem completes_end {i : Instr} {f : State → State} {s u : State} {n : Nat} {c d : CmdSlot} {st : Status} {ps : List Part} {as : List Nat}
    (hi : exec i s = effectIn .data f s) (hw : Works s) (hrun : f (cleared s) = finish u n st) (h : Prepared s u n c d)
    (ho : Only (cleared s) u ps as) (hps : .hif ∈ ps) :
    Completes i s fun t => AfterEnd s u t n c d st ∧ Ended s t n c st ∧ Only s t ps as := by
  refine completes_runIn hi hw.1 hw.2 hrun ⟨afterEnd_settle h st, ended_settle h.slot h.bare h.others h.post h.same, ?_⟩
  exact only_settle (only_cleared (only_mono (only_trans ho (completed_finish h.slot h.bare st).only) (by simp [hps]) (by simp)))

/-- The command of a slot is prepared where nothing has been done. -/
theorem prepared_cleared {s : State} {n : Nat} {c : CmdSlot} (hs : slotOf s n = some c) (hb : Bare s n c) : Prepared s (cleared s) n c c :=
  ⟨hs, hb, fun _ _ => rfl, id, rfl, rfl, rfl⟩

/-- The submission and completion queues of every function are as they were, and so are the slots and all that bareness looks at. -/
theorem Prepared.putFunc {s u : State} {n : Nat} {c d : CmdSlot} (h : Prepared s u n c d) {f : Nat} {x : Func} (hsq : x.sqs = (funcOf u f).sqs)
    (hcq : x.cqs = (funcOf u f).cqs) : Prepared s (putFunc u f x) n c d := by
  have hq : ∀ g, (funcOf (Machine.putFunc u f x) g).sqs = (funcOf u g).sqs ∧ (funcOf (Machine.putFunc u f x) g).cqs = (funcOf u g).cqs := fun g => by
    by_cases hg : g = f
    · rw [hg, funcOf_putFunc_same]
      exact ⟨hsq, hcq⟩
    · rw [funcOf_putFunc_ne _ _ hg]
      exact ⟨rfl, rfl⟩
  obtain ⟨hslot, hbare, hothers, hpost, hsame⟩ := h
  refine ⟨hslot, ?_, hothers, fun hcan => ?_, hsame⟩
  · unfold Bare
    rw [(hq d.func).1]
    exact hbare
  · have hc := hpost hcan
    unfold CanPost at hc ⊢
    rw [(hq d.func).1, (hq d.func).2]
    exact hc

/-- Data for the host goes out before the command ends. -/
theorem Prepared.hostData {s u : State} {n : Nat} {c d : CmdSlot} (h : Prepared s u n c d) (e : CmdSlot) (bs : List Byte) :
    Prepared s (hostData u e bs) n c d := ⟨h.slot, h.bare, h.others, h.post, h.same⟩

/-- A row may set the completion Dwords of its command. -/
theorem Prepared.dwords {s u : State} {n : Nat} {c d : CmdSlot} (h : Prepared s u n c d) (d0 d1 : DWord) :
    Prepared s (putSlot u n { d with dw0 := d0, dw1 := d1 }) n c { d with dw0 := d0, dw1 := d1 } := by
  obtain ⟨hslot, hbare, hothers, hpost, hsame⟩ := h
  exact ⟨slotOf_putSlot_same _ _ _, hbare, fun m hm => (slotOf_putSlot_ne _ _ hm).trans (hothers m hm), hpost, hsame⟩

theorem finishWith_slot {s : State} {n : Nat} {c : CmdSlot} (hs : slotOf s n = some c) (st : Status) (d0 d1 : Nat) :
    finishWith s n st d0 d1 = finish (putSlot s n { c with dw0 := BitVec.ofNat 32 d0, dw1 := BitVec.ofNat 32 d1 }) n st := by
  simp only [finishWith, hs]

theorem only_putFunc (s : State) (f : Nat) (x : Func) : Only s (putFunc s f x) [.hif] [] := only_changed s

/-- The command of a fetched slot that a row's test accepts. -/
theorem withFetched_of {s : State} {n : Nat} {c : CmdSlot} {p : CmdSlot → Bool} {f : CmdSlot → State} (hs : slotOf s n = some c)
    (hph : c.phase = .fetched) (hp : p c = true) : withFetched s n p f = f c := by
  simp only [withFetched, hs, hph, hp, beq_self_eq_true, Bool.and_self, if_true]

/-- The command of a slot that holds a fetched admin entry. -/
theorem withFetched_admin {s : State} {n o : Nat} {c : CmdSlot} (h : FetchedAdmin s n o c) (f : CmdSlot → State) :
    withFetched s n (isAdmin o) f = f c := withFetched_of h.1 h.2.1 h.2.2.1

theorem FetchedAdmin.prepared {s : State} {n o : Nat} {c : CmdSlot} (h : FetchedAdmin s n o c) : Prepared s (cleared s) n c c :=
  prepared_cleared h.1 h.2.2.2

end Sys2Proof.Machine
end

section
/-!
PROOFS. Set Features and Get Features (R94, R96, R106, R132).
-/

namespace Sys2Proof.Machine

open Sys2Proof

/-- A Set Features that is the row's and passes the checks of R94 goes on. -/
theorem setFeature_passes {s : State} {n : Nat} {c : CmdSlot} (h : FetchedAdmin s n 0x09 c) {p : Nat → Bool} (hp : p (fid c.sqe) = true)
    (hpf : pfFeature (fid c.sqe) = false ∨ c.func = 0) (hsave : featSave c.sqe = false) (ok : CmdSlot → State) : setFeature s n p ok = ok c := by
  obtain ⟨hslot, hphase, hadmin, -⟩ := h
  have hallowed : (pfFeature (fid c.sqe) && c.func != 0) = false := by
    rcases hpf with hk | hf
    · rw [hk, Bool.false_and]
    · rw [hf, bne_self_eq_false, Bool.and_false]
  rw [setFeature, withFetched_of hslot hphase (by rw [hadmin, hp, Bool.and_self])]
  simp only [hallowed, hsave, Bool.false_eq_true, if_false]

/-- A row that changes the features of its function and ends its command, perhaps with Dwords, has done just that. -/
theorem completes_features {i : Instr} {f : State → State} {s : State} {n : Nat} {c : CmdSlot} {g : Features → Features}
    (hi : exec i s = effectIn .data f s) (hw : Works s) (h : FetchedAdmin s n 0x09 c)
    (hrun : f (cleared s) = finish (putFeatures (cleared s) c.func g) n .success) :
    Completes i s fun t => (funcOf t c.func).features = g (funcOf s c.func).features ∧ Ended s t n c .success ∧ Only s t [.hif] [] := by
  have hprep := h.prepared.putFunc (f := c.func) (x := { funcOf s c.func with features := g (funcOf s c.func).features }) rfl rfl
  refine (completes_end hi hw hrun hprep (only_putFunc _ _ _) (by simp)).mono fun t ⟨hend, hended, honly⟩ => ⟨?_, hended, honly⟩
  exact (hend.func c.func).features.trans (congrArg Func.features (funcOf_putFunc_same _ _ _))

/-- A row that ends its command with a status and does nothing else. -/
theorem completes_ends {i : Instr} {f : State → State} {s : State} {n : Nat} {c : CmdSlot} {st : Status}
    (hi : exec i s = effectIn .data f s) (hw : Works s) (hs : slotOf s n = some c) (hb : Bare s n c)
    (hrun : f (cleared s) = finish (cleared s) n st) : Completes i s fun t => Ended s t n c st ∧ Only s t [.hif] [] :=
  (completes_end hi hw hrun (prepared_cleared hs hb) (only_refl _ [.hif] []) (by simp)).mono fun _ h => h.2

/-- A row that answers with completion Dwords and does nothing else. -/
theorem completes_answers {i : Instr} {f : State → State} {s : State} {n o : Nat} {c : CmdSlot} {d : Nat}
    (hi : exec i s = effectIn .data f s) (hw : Works s) (h : FetchedAdmin s n o c)
    (hrun : f (cleared s) = finishWith (cleared s) n .success d 0) :
    Completes i s fun t => (CanPost s n c → Posted t c .success (BitVec.ofNat 32 d) 0) ∧ Ended s t n c .success ∧ Only s t [.hif] [] := by
  rw [finishWith_slot (s := cleared s) h.1] at hrun
  exact (completes_end hi hw hrun (h.prepared.dwords _ _) (only_putSlot _ _ _) (by simp)).mono fun t ⟨hend, hrest⟩ => ⟨hend.posted, hrest⟩

/-- A row that returns data to the host and ends its command with success. -/
theorem completes_data {i : Instr} {f : State → State} {s : State} {n o : Nat} {c : CmdSlot} {bs : List Byte}
    (hi : exec i s = effectIn .data f s) (hw : Works s) (h : FetchedAdmin s n o c)
    (hrun : f (cleared s) = finish (hostData (cleared s) c bs) n .success) :
    Completes i s fun t => Output.hostData c.func c.sqe.cid bs ∈ t.out ∧ Ended s t n c .success ∧ Only s t [.hif] [] :=
  (completes_end hi hw hrun (h.prepared.hostData c bs) (only_mono (only_emit _ _) (by simp) (by simp)) (by simp)).mono
    fun t ⟨hend, hrest⟩ => ⟨hend.out _ (List.mem_append_right _ (List.mem_singleton.2 rfl)), hrest⟩

/-- Interrupt Vector Configuration sets the coalescing of one vector (R132). -/
def coalescingSet (s : State) (f v : Nat) (off : Bool) : State :=
  putFunc s f { funcOf s f with msix := spSet noMsix (funcOf s f).msix v { spGet noMsix (funcOf s f).msix v with coalesceOff := off } }

theorem completes_coalescing {n : Nat} {buf : List Word} {c : CmdSlot} {s : State} (hw : Works s) (h : FetchedAdmin s n 0x09 c)
    (hk : fid c.sqe = 0x09) (hsave : featSave c.sqe = false) (hv : c.sqe.cdw11.toNat % 65536 < vecShare s c.func) :
    Completes (.setFeatures n buf) s fun t =>
      (spGet noMsix (funcOf t c.func).msix (c.sqe.cdw11.toNat % 65536)).coalesceOff = c.sqe.cdw11.getLsbD 16 ∧ Ended s t n c .success ∧
        Only s t [.hif] [] := by
  let v := c.sqe.cdw11.toNat % 65536
  have hrun : onSetFeatures n buf (cleared s) = finish (coalescingSet (cleared s) c.func v (c.sqe.cdw11.getLsbD 16)) n .success := by
    have hv' : ¬ vecShare (cleared s) c.func ≤ c.sqe.cdw11.toNat % 65536 := Nat.not_le.2 hv
    rw [onSetFeatures, setFeature_passes (s := cleared s) h (by rw [hk]; rfl) (.inl (by rw [hk]; rfl)) hsave]
    simp only [hk, if_neg hv']
    rfl
  have hprep : Prepared s (coalescingSet (cleared s) c.func v (c.sqe.cdw11.getLsbD 16)) n c c := (FetchedAdmin.prepared h).putFunc rfl rfl
  refine (completes_end rfl hw hrun hprep (only_putFunc _ _ _) (by simp)).mono fun t ⟨hend, hended, honly⟩ => ⟨?_, hended, honly⟩
  rw [(hend.func c.func).coalesce, coalescingSet, funcOf_putFunc_same, spGet_set_same]

theorem completes_numberOfQueues {n : Nat} {c : CmdSlot} {s : State} (hw : Works s) (h : FetchedAdmin s n 0x09 c) (hk : fid c.sqe = 0x07)
    (hsave : featSave c.sqe = false) (hshare : qpShare s c.func ≠ 0) (hsq : dw11 c.sqe % 65536 ≠ 65535) (hcq : dw11 c.sqe / 65536 ≠ 65535) :
    Completes (.setNumberOfQueues n) s fun t =>
      (funcOf t c.func).features.numQueues =
          BitVec.ofNat 32 (min (dw11 c.sqe % 65536) (qpShare s c.func - 1) + min (dw11 c.sqe / 65536) (qpShare s c.func - 1) * 65536) ∧
        (CanPost s n c → Posted t c .success (funcOf t c.func).features.numQueues 0) ∧ Ended s t n c .success ∧ Only s t [.hif] [] := by
  let d := min (dw11 c.sqe % 65536) (qpShare s c.func - 1) + min (dw11 c.sqe / 65536) (qpShare s c.func - 1) * 65536
  let u := putFeatures (cleared s) c.func fun x => { x with numQueues := BitVec.ofNat 32 d }
  have hprep : Prepared s u n c c := (FetchedAdmin.prepared h).putFunc rfl rfl
  have hrun : onSetNumberOfQueues n (cleared s) = finish (putSlot u n { c with dw0 := BitVec.ofNat 32 d, dw1 := BitVec.ofNat 32 0 }) n .success := by
    have hfail : ¬(qpShare (cleared s) c.func = 0 ∨ dw11 c.sqe % 65536 = 0xFFFF ∨ dw11 c.sqe / 65536 = 0xFFFF) := by
      simp only [not_or]
      exact ⟨hshare, hsq, hcq⟩
    rw [onSetNumberOfQueues, setFeature_passes (s := cleared s) h (by rw [hk]; rfl) (.inl (by rw [hk]; rfl)) hsave]
    simp only [if_neg hfail]
    exact finishWith_slot (s := u) hprep.slot _ _ _
  have honly : Only (cleared s) (putSlot u n { c with dw0 := BitVec.ofNat 32 d, dw1 := BitVec.ofNat 32 0 }) [.hif] [] :=
    only_mono (only_trans (only_putFunc _ _ _) (only_putSlot _ _ _)) (by simp) (by simp)
  refine (completes_end rfl hw hrun (hprep.dwords _ _) honly (by simp)).mono fun t ⟨hend, hrest⟩ => ?_
  have hset : (funcOf t c.func).features.numQueues = BitVec.ofNat 32 d := by
    rw [(hend.func c.func).features]
    show (funcOf u c.func).features.numQueues = _
    rw [show funcOf u c.func = _ from funcOf_putFunc_same _ _ _]
  exact ⟨hset, fun hcan => by rw [hset]; exact hend.posted hcan, hrest⟩

/-- Settles O13: Set Features comes to a change of its function's features, or of one vector, and the end of its command; Get Features to an answer. -/
theorem features : Obligations.Features := by
  unfold Obligations.Features
  refine ⟨?arbitration, ?overTemp, ?underTemp, ?vector, ?coalescing, ?asyncEvents, ?apst, ?save, ?unknown, ?queues, ?defaultClass, ?getArbitration, ?getAsync,
    ?getStamp, ?getPower, ?getClass⟩
  case arbitration =>
    intro n buf c s hw h hk hsave hburst
    refine completes_features (g := fun x => { x with arbitration := c.sqe.cdw11 }) rfl hw h ?_
    rw [onSetFeatures, setFeature_passes (s := cleared s) h (by rw [hk]; rfl) (.inl (by rw [hk]; rfl)) hsave]
    simp only [hk, if_neg (Nat.not_lt.2 hburst)]
  case overTemp =>
    intro n buf c s hw h hk hsave htmp hth
    refine completes_features (g := fun x => { x with tempThreshold := c.sqe.cdw11 &&& 0xFFFF#32 }) rfl hw h ?_
    rw [onSetFeatures, setFeature_passes (s := cleared s) h (by rw [hk]; rfl) (.inl (by rw [hk]; rfl)) hsave]
    simp [hk, htmp, hth]
  case underTemp =>
    intro n buf c s hw h hk hsave htmp hth
    refine completes_features (g := fun x => { x with underThreshold := c.sqe.cdw11 &&& 0xFFFF#32 }) rfl hw h ?_
    rw [onSetFeatures, setFeature_passes (s := cleared s) h (by rw [hk]; rfl) (.inl (by rw [hk]; rfl)) hsave]
    simp [hk, htmp, hth]
  case vector => exact fun n buf c s hw h hk hsave hv => completes_coalescing hw h hk hsave hv
  case coalescing =>
    intro n buf c s hw h hk hsave
    refine completes_features (g := fun x => { x with intCoalescing := c.sqe.cdw11 }) rfl hw h ?_
    rw [onSetFeatures, setFeature_passes (s := cleared s) h (by rw [hk]; rfl) (.inl (by rw [hk]; rfl)) hsave]
    simp only [hk]
  case asyncEvents =>
    intro n buf c s hw h hk hsave
    refine completes_features (g := fun x => { x with asyncEventConfig := c.sqe.cdw11 }) rfl hw h ?_
    rw [onSetFeatures, setFeature_passes (s := cleared s) h (by rw [hk]; rfl) (.inl (by rw [hk]; rfl)) hsave]
    simp only [hk]
  case apst =>
    intro n buf c s hw h hk hsave hpf
    refine completes_features (g := fun x => { x with apstEnable := c.sqe.cdw11.getLsbD 0, apst := buf.take 32 }) rfl hw h ?_
    rw [onSetFeatures, setFeature_passes (s := cleared s) h (by rw [hk]; rfl) (.inr hpf) hsave]
    simp only [hk]
  case save =>
    intro n buf c s hw h hown hpf hsave
    obtain ⟨hslot, hphase, hadmin, hbare⟩ := h
    have hallowed : (pfFeature (fid c.sqe) && c.func != 0) = false := by
      rcases hpf with hk | hf
      · rw [hk, Bool.false_and]
      · rw [hf, bne_self_eq_false, Bool.and_false]
    refine completes_ends rfl hw hslot hbare ?_
    rw [onSetFeatures, setFeature, withFetched_of (s := cleared s) hslot hphase (by rw [hadmin, hown]; rfl)]
    simp only [hallowed, hsave, Bool.false_eq_true, if_false, if_true]
  case unknown =>
    intro n buf c s hw h hsave hown hnot
    have hpf : pfFeature (fid c.sqe) = false := by
      simp only [ownFeature, pfFeature, List.contains_eq_mem, List.mem_cons, List.not_mem_nil, or_false, decide_eq_false_iff_not, not_or] at hown hnot ⊢
      omega
    refine completes_ends rfl hw h.1 h.2.2.2 ?_
    rw [onSetFeatures, setFeature_passes (s := cleared s) h (by rw [hown]; rfl) (.inl hpf) hsave]
    dsimp only
    split
    case h_7 => rfl
    all_goals next hk => exact absurd hk fun e => hnot (by simp [e])
  case queues => exact fun n c s hw h hk hsave hshare hsq hcq => completes_numberOfQueues hw h hk hsave hshare hsq hcq
  case defaultClass =>
    intro n c s hw h hk hsave
    refine completes_features (g := fun x => { x with defClass := clsOf (dw11 c.sqe % 4) }) rfl hw h ?_
    rw [onSetDefaultDeadlineClass, setFeature_passes (s := cleared s) h (by rw [hk]; rfl) (.inl (by rw [hk]; rfl)) hsave]
  case getArbitration =>
    intro n c s hw h hk
    refine completes_answers rfl hw h ?_
    rw [onGetFeatures, withFetched_admin (s := cleared s) h]
    simp only [hk]
    rfl
  case getAsync =>
    intro n c s hw h hk
    refine completes_answers rfl hw h ?_
    rw [onGetFeatures, withFetched_admin (s := cleared s) h]
    simp only [hk]
    rfl
  case getStamp =>
    intro n c s hw h hk hpf
    rw [← hpf]
    refine completes_data rfl hw h ?_
    rw [onGetFeatures, withFetched_admin (s := cleared s) h]
    simp only [hk, hpf]
    rfl
  case getPower =>
    intro n c s hw h hk hpf
    refine completes_answers rfl hw h ?_
    rw [onGetFeatures, withFetched_admin (s := cleared s) h]
    simp only [hk, hpf]
    rfl
  case getClass =>
    intro n c s hw h hk
    refine completes_answers rfl hw h ?_
    rw [onGetFeatures, withFetched_admin (s := cleared s) h]
    simp only [hk]
    rfl

end Sys2Proof.Machine
end

section
/-!
PROOFS. Get Log Page and Identify (R114 to R119, R89, R97, R131).
-/

namespace Sys2Proof.Machine

open Sys2Proof

/-- The last outputs have no part in a run of Zone Attributes entries. -/
theorem attributesOf_cleared (zs : List Nat) (s : State) : attributesOf zs (cleared s) = ((attributesOf zs s).1, cleared (attributesOf zs s).2) := by
  induction zs generalizing s with
  | nil => rfl
  | cons z zs ih =>
    have hhome : zoneHome (cleared s) z = zoneHome s z := rfl
    simp only [attributesOf, hhome]
    split
    · rw [ih]
      rfl
    · next d e hd =>
      have hdraws : (drawBytes (draw (cleared s)).2 60).2 = cleared (drawBytes (draw s).2 60).2 := rfl
      simp only [hdraws, ih]
      rfl

/-- Nor in any other log page. -/
theorem logPage_cleared (s : State) (c : CmdSlot) : logPage (cleared s) c = (cleared (logPage s c).1, (logPage s c).2) := by
  unfold logPage
  dsimp only
  split
  case h_1 =>
    have hns : (if c.func = 0 then (spFind (cleared s).nss c.sqe.nsid).map fun n => (c.sqe.nsid, n) else nsOf (cleared s) c.func c.sqe.nsid) =
        if c.func = 0 then (spFind s.nss c.sqe.nsid).map fun n => (c.sqe.nsid, n) else nsOf s c.func c.sqe.nsid := rfl
    rw [hns]
    split
    · rfl
    · split
      · rfl
      · rw [attributesOf_cleared]
  case h_2 => split <;> rfl
  case h_4 =>
    have hex : funcExists (cleared s) (logLsi c.sqe) = funcExists s (logLsi c.sqe) := rfl
    rw [hex]
    split
    · split <;> rfl
    · split <;> rfl
  all_goals rfl

theorem eventsPage_length {s : State} (h : s.aon.events.length ≤ 255) : (eventsPage s).length = 8192 := by
  have hrecords : ∀ es : List HieEntry, (es.flatMap fun e => leBytes 4 e.ophours ++ leBytes 4 (e.pwrcyc % 2 ^ 24 + e.kind * 2 ^ 24) ++
      leBytes 4 e.func ++ leBytes 8 e.offset ++ leBytes 4 e.pstate ++ leBytes 8 0).length = 32 * es.length := fun es => by
    induction es with
    | nil => rfl
    | cons e es ih =>
      rw [List.flatMap_cons, List.length_append, ih]
      simp only [List.length_append, leBytes_length, List.length_cons]
      omega
  simp only [eventsPage, List.length_append, leBytes_length, hrecords]
  omega

theorem retentionPage_length (s : State) : (retentionPage s).length = 64 := by
  unfold retentionPage
  split <;> simp only [List.length_append, leBytes_length]

/-- A part that is the same after all leaves the frame. -/
theorem only_unchanged {s t : State} {p : Part} {ps : List Part} {as : List Nat} (h : Only s t (p :: ps) as) (hp : p.same s t) : Only s t ps as :=
  ⟨fun q hq => if he : q = p then he ▸ hp else h.1 q (by simp [he, hq]), h.2⟩

/-- The state in which a page has gone out: with Retain Asynchronous Event cleared its events are cleared. -/
def pageOut (s : State) (c : CmdSlot) (bs : List Byte) : State :=
  if rae c.sqe then hostData s c bs else clearEvents (hostData s c bs) c.func (logId c.sqe)

theorem aon_pageOut (s : State) (c : CmdSlot) (bs : List Byte) :
    (pageOut s c bs).aon = if rae c.sqe = false ∧ logId c.sqe = 0xC1 then { s.aon with events := [], lost := 0 } else s.aon := by
  unfold pageOut clearEvents
  cases rae c.sqe
  · by_cases hk : logId c.sqe = 0xC1
    · simp only [Bool.false_eq_true, if_false, hk, if_true, and_self]
      rfl
    · simp only [Bool.false_eq_true, if_false, hk, and_false]
      rfl
  · simp only [if_true, Bool.true_eq_false, false_and, if_false]
    rfl

theorem only_aon (s : State) (a : AonHost) : Only s { s with aon := a } [.aon] [] :=
  ⟨fun p hp => by cases p <;> first | rfl | exact ⟨rfl, rfl, fun _ => rfl⟩ | simp at hp, fun _ _ _ => rfl⟩

theorem only_pageOut (s : State) (c : CmdSlot) (bs : List Byte) : Only s (pageOut s c bs) [.aon, .hif] [] := by
  have hout : Only s (hostData s c bs) [] [] := only_emit _ _
  unfold pageOut clearEvents
  split
  · exact only_mono hout (by simp) (by simp)
  · dsimp only
    split
    · exact only_mono (only_trans (only_trans hout (only_putFunc _ _ _)) (only_aon _ _)) (by simp) (by simp)
    · exact only_mono (only_trans hout (only_putFunc _ _ _)) (by simp) (by simp)

theorem mem_pageOut (s : State) (c : CmdSlot) (bs : List Byte) : Output.hostData c.func c.sqe.cid bs ∈ (pageOut s c bs).out := by
  have hout : Output.hostData c.func c.sqe.cid bs ∈ (hostData s c bs).out := List.mem_append_right _ (List.mem_singleton.2 rfl)
  unfold pageOut clearEvents
  split
  · exact hout
  · dsimp only
    split <;> exact hout

theorem prepared_pageOut {s : State} {n : Nat} {c : CmdSlot} (h : FetchedAdmin s n 0x02 c) (bs : List Byte) :
    Prepared s (pageOut (cleared s) c bs) n c c := by
  have hout : Prepared s (hostData (cleared s) c bs) n c c := (FetchedAdmin.prepared h).hostData c bs
  have hmask : Prepared s (putFunc (hostData (cleared s) c bs) c.func { funcOf s c.func with
      masked := (funcOf s c.func).masked.filter fun e => (eventCode e).2.2 != logId c.sqe }) n c c := hout.putFunc rfl rfl
  unfold pageOut clearEvents
  split
  · exact hout
  · dsimp only
    split
    · exact ⟨hmask.slot, hmask.bare, hmask.others, hmask.post, hmask.same⟩
    · exact hmask

/-- A page is returned from its offset; the events page, to be cleared, is empty from then on. -/
theorem completes_logPage {n e : Nat} {page : List Byte} {c : CmdSlot} {s : State} (hw : Works s) (h : FetchedAdmin s n 0x02 c)
    (hpage : logPage s c = (s, .ok (e, page))) (hoff : logOffset c.sqe % e = 0) (hin : logOffset c.sqe < page.length)
    (hlen : logDwords c.sqe ≤ 262144) :
    Completes (.getLogPage n) s fun t =>
      Output.hostData c.func c.sqe.cid ((page.drop (logOffset c.sqe)).take (4 * logDwords c.sqe)) ∈ t.out ∧
        t.aon = (if rae c.sqe = false ∧ logId c.sqe = 0xC1 then { s.aon with events := [], lost := 0 } else s.aon) ∧
          Ended s t n c .success ∧ Only s t [.aon, .hif] [] := by
  let bs := (page.drop (logOffset c.sqe)).take (4 * logDwords c.sqe)
  have hrun : onGetLogPage n (cleared s) = finish (pageOut (cleared s) c bs) n .success := by
    have hok : ¬(logOffset c.sqe % e ≠ 0 ∨ page.length ≤ logOffset c.sqe ∨ 262144 < logDwords c.sqe) := by omega
    rw [onGetLogPage, withFetched_admin (s := cleared s) h, logPage_cleared, hpage]
    simp only [if_neg hok]
    rfl
  refine (completes_end rfl hw hrun (prepared_pageOut h bs) (only_pageOut _ c bs) (by simp)).mono fun t ⟨hend, hended, honly⟩ =>
    ⟨hend.out _ (mem_pageOut _ c bs), ?_, hended, honly⟩
  exact (hend.rest.1 .aon (by simp)).trans (aon_pageOut (cleared s) c bs)

theorem logPage_ok {s : State} {c : CmdSlot} {x : Nat × List Byte} (hs : (logPage s c).1 = s) (hx : (logPage s c).2.toOption = some x) :
    logPage s c = (s, .ok x) := by
  refine Prod.ext hs ?_
  cases hp : (logPage s c).2 with
  | ok y =>
    rw [hp] at hx
    exact congrArg Except.ok (Option.some.inj hx)
  | error st =>
    rw [hp] at hx
    cases hx

/-- Settles O12: every page and every structure is data that goes out before the command ends, or the status it ends with. -/
theorem logAndIdentify : Obligations.LogAndIdentify := by
  unfold Obligations.LogAndIdentify
  refine ⟨?events, ?retention, ?page, ?noPage, ?structure_, ?noStructure⟩
  case events =>
    intro n c s hw h hk hf hoff hin hlen hcount
    have hpage : logPage s c = (s, .ok (32, eventsPage s)) := by simp only [logPage, hk, hf, if_true]
    refine (completes_logPage hw h hpage hoff (by rwa [eventsPage_length hcount]) hlen).mono fun t ⟨hout, haon, hended, honly⟩ =>
      ⟨hout, ?_, hended, only_mono honly (by simp) (by simp)⟩
    rw [haon]
    cases rae c.sqe <;> simp [hk]
  case retention =>
    intro n c s hw h hk hoff hlen
    have hpage : logPage s c = (s, .ok (64, retentionPage s)) := by simp only [logPage, hk]
    refine (completes_logPage hw h hpage (by rw [hoff]) (by rw [hoff, retentionPage_length]; omega) hlen).mono fun t ⟨hout, haon, hended, honly⟩ =>
      ⟨by simpa only [hoff, List.drop_zero] using hout, hended, only_unchanged honly ?_⟩
    rw [hk] at haon
    show t.aon = s.aon
    simpa using haon
  case page =>
    intro n e page c s hw h hs hx hoff hin hlen
    exact (completes_logPage hw h (logPage_ok hs hx) hoff hin hlen).mono fun t ⟨hout, _, hended, honly⟩ =>
      ⟨hout, hended, only_mono honly (by simp) (by simp)⟩
  case noPage =>
    intro n st c s hw h hs hst
    refine completes_ends rfl hw h.1 h.2.2.2 ?_
    rw [onGetLogPage, withFetched_admin (s := cleared s) h, logPage_cleared, hs]
    cases hp : (logPage s c).2 with
    | ok y =>
      rw [hp] at hst
      cases hst
    | error e =>
      rw [hp] at hst
      rw [Option.some.inj hst]
  case structure_ =>
    intro n c bs s hw h hbs
    refine completes_data rfl hw h ?_
    have hsame : identifyData (cleared s) c = identifyData s c := rfl
    rw [onIdentify, withFetched_admin (s := cleared s) h, hsame]
    cases hd : identifyData s c with
    | ok x =>
      rw [hd] at hbs
      rw [show x = bs from Option.some.inj hbs]
    | error e =>
      rw [hd] at hbs
      cases hbs
  case noStructure =>
    intro n c st s hw h hst
    refine completes_ends rfl hw h.1 h.2.2.2 ?_
    have hsame : identifyData (cleared s) c = identifyData s c := rfl
    rw [onIdentify, withFetched_admin (s := cleared s) h, hsame]
    cases hd : identifyData s c with
    | ok x =>
      rw [hd] at hst
      cases hst
    | error e =>
      rw [hd] at hst
      rw [Option.some.inj hst]

end Sys2Proof.Machine
end

section
/-!
SUPPORT. The fields that share a register with the settled ones, the frames of parts that no shared update names, and what the PMU does with a request of the
host while nothing is in flight (R484 to R488).
-/

namespace Sys2Proof.Machine

open Sys2Proof

/-- A field that shares no bit with the settled fields is as `settle` found it. -/
theorem getF_settle_apart {g : Fld} (hg : g.hi < 64) (h : ∀ f ∈ statusFlds, apartFlds g f = true) (s : State) : getF (settle s) g = getF s g := by
  have hregs : (settle s).regs = (setFs s (statusWrites s)).regs := by
    obtain ⟨b, p, o, hlast⟩ := settleLast_shape (setFs s (statusWrites s))
    rw [settle_eq_setFs, hlast]
  exact (getF_congr hregs g).trans (getF_setFs_apart hg (by rw [map_statusWrites]; exact h) s)

theorem getF_settle_ps (s : State) : getF (settle s) F.pmuState_ps = getF s F.pmuState_ps := getF_settle_apart (by decide) (by decide) s

/-- An update of parts that the shared updates leave changes those parts. -/
theorem only_others (s : State) {ps : List Part} {p : PmuState} {a : AonHost} {k : Clocks} {g : MhmAge} {m : MiState} {x : SecState} {t : TkrState}
    {d : Sparse Spdm} (hp : .pmu ∉ ps → p = s.pmu := by simp) (ha : .aon ∉ ps → a = s.aon := by simp) (hk : .clk ∉ ps → k = s.clk := by simp)
    (hg : .age ∉ ps → g = s.age := by simp) (hm : .mi ∉ ps → m = s.mi := by simp) (hx : .sec ∉ ps → x = s.sec := by simp)
    (ht : .tkr ∉ ps → t = s.tkr := by simp) (hd : .spdm ∉ ps → d = s.spdm := by simp) :
    Only s { s with pmu := p, aon := a, clk := k, age := g, mi := m, sec := x, tkr := t, spdm := d } ps [] := by
  refine ⟨fun q hq => ?_, fun _ _ _ => rfl⟩
  cases q
  case bay => exact ⟨rfl, rfl, fun _ => rfl⟩
  case pmu => exact hp hq
  case aon => exact ha hq
  case clk => exact hk hq
  case age => exact hg hq
  case mi => exact hm hq
  case sec => exact hx hq
  case tkr => exact ht hq
  case spdm => exact hd hq
  all_goals rfl

/-- An update that leaves the slots, the functions and all that bareness looks at keeps a command prepared. -/
theorem Prepared.congr {s u v : State} {n : Nat} {c d : CmdSlot} (h : Prepared s u n c d)
    (hv : ∃ (r : Sparse Word) (p : PmuState) (k : Clocks) (a : AonHost) (g : MhmAge) (j : Journal) (w : VfmState) (m : MiState) (f : HifState),
      v = { u with regs := r, pmu := p, clk := k, aon := a, age := g, jrn := j, vfm := w, mi := m, hif := f } ∧ f.slots = u.hif.slots ∧
        f.funcs = u.hif.funcs) : Prepared s v n c d := by
  obtain ⟨r, p, k, a, g, j, w, m, f, rfl, hslots, hfuncs⟩ := hv
  obtain ⟨hslot, hbare, hothers, hpost, hsame⟩ := h
  have hslotOf : ∀ i, slotOf { u with regs := r, pmu := p, clk := k, aon := a, age := g, jrn := j, vfm := w, mi := m, hif := f } i = slotOf u i := fun i => by
    simp only [slotOf, hslots]
  have hfuncOf : ∀ i, funcOf { u with regs := r, pmu := p, clk := k, aon := a, age := g, jrn := j, vfm := w, mi := m, hif := f } i = funcOf u i := fun i => by
    simp only [funcOf, hfuncs]
  refine ⟨(hslotOf n).trans hslot, ?_, fun i hi => (hslotOf i).trans (hothers i hi), fun hcan => ?_, hsame⟩
  · unfold Bare
    rw [hfuncOf]
    exact hbare
  · have hc := hpost hcan
    unfold CanPost at hc ⊢
    rw [hfuncOf]
    exact hc

/-- The PMU stands still: nothing is in flight, asserted or halted. -/
structure PmuStill (s : State) : Prop where
  flight : s.pmu.flight = .none
  perst : s.lrs.perst = false
  shelf : s.lrs.shelfReset = false
  lrs : lrsActive s = false
  halted : s.dbg.halted = []

/-- An entry begins: its step 2, with fetch stopped on every function (R488). -/
def entryBegun (s : State) (r : PmuReq) : State :=
  { s with pmu := { s.pmu with flight := .drain, target := r, viaExit := false, padded := [] }, hif := { s.hif with fetchStopped := true } }

/-- A request for STANDBY or SAFELIGHT in operation begins the entry. -/
theorem pmuRequest_entry {s : State} {r : PmuReq} (h : PmuStill s) (hop : operational s = true) (hr : isEntry r = true) :
    pmuRequest s r = entryBegun s r := by
  have hst : pmuState s ≤ 1 := by simpa [operational] using hop
  have hother : reqState r ≠ pmuState s := by
    cases r <;> simp only [isEntry, Bool.false_eq_true] at hr <;> simp only [reqState] <;> omega
  have hwake : (r == .wake) = false := by cases r <;> simp [isEntry] at hr ⊢
  have hstart : startChange s r = entryBegun s r := by
    cases r <;> simp only [isEntry, Bool.false_eq_true] at hr <;> simp only [startChange, hop, if_true] <;> rfl
  simp [pmuRequest, h.flight, h.perst, h.shelf, h.lrs, h.halted, hother, hwake, hstart]

/-- A request for the state the device is in changes nothing. -/
theorem pmuRequest_same {s : State} {r : PmuReq} (h : PmuStill s) (hr : isEntry r = false) (hst : reqState r = pmuState s) : pmuRequest s r = s := by
  simp [pmuRequest, h.flight, h.perst, h.shelf, hr, hst]

theorem forwardPmu_standalone {s : State} (h : standalone s = true) (r : PmuReq) : forwardPmu s r = s := by
  simp only [forwardPmu, h, Bool.true_or, if_true]

theorem only_entryBegun (s : State) (r : PmuReq) : Only s (entryBegun s r) [.hif, .pmu] [] :=
  only_mono (only_trans (only_others s (p := { s.pmu with flight := .drain, target := r, viaExit := false, padded := [] }) (ps := [.pmu]))
    (only_changed _ (h := { s.hif with fetchStopped := true }) (ps := [.hif]))) (by simp) (by simp)

end Sys2Proof.Machine
end

section
/-!
PROOFS. The features that act on the device (R95, R96, R105, R484).
-/

namespace Sys2Proof.Machine

open Sys2Proof

/-- Power Management to PS0 or PS1 in ACTIVE shows the state (R95). -/
theorem completes_powerKept {n : Nat} {c : CmdSlot} {s : State} (hw : Works s) (h : FetchedAdmin s n 0x09 c) (hk : fid c.sqe = 0x02)
    (hsave : featSave c.sqe = false) (hpf : c.func = 0) (hps : dw11 c.sqe % 32 ≤ 1) (hst : pmuState s = 0) (hstill : PmuStill s)
    (hsolo : standalone s = true) :
    Completes (.setPowerManagement n) s fun t => getF t F.pmuState_ps = dw11 c.sqe % 32 ∧ Ended s t n c .success ∧ Only s t [.hif] [] := by
  let ps := dw11 c.sqe % 32
  let u := setF (cleared s) F.pmuState_ps ps
  have hstill' : PmuStill u := by
    refine ⟨hstill.flight, hstill.perst, hstill.shelf, ?_, hstill.halted⟩
    simp only [lrsActive, u, getF_setF_addr (f := F.pmuState_ps) (g := F.rstLrs_state) (cleared s) ps (by decide)]
    exact hstill.lrs
  have hstate : pmuState u = 0 := (getF_setF_bits (f := F.pmuState_ps) (g := F.pmuState_state) (cleared s) ps rfl (by decide) (by decide)).trans hst
  have hreq : psRequest ps = .active := if_pos hps
  have hrun : onSetPowerManagement n (cleared s) = finish u n .success := by
    rw [onSetPowerManagement, setFeature_passes (s := cleared s) h (by rw [hk]; rfl) (.inr hpf) hsave]
    have h4 : ¬ 4 < dw11 c.sqe % 32 := by omega
    have h2 : dw11 c.sqe % 32 ≤ 2 := by omega
    simp only [if_neg h4, if_pos h2]
    show finish (forwardPmu (pmuRequest u (psRequest ps)) (psRequest ps)) n .success = _
    rw [hreq, pmuRequest_same (r := .active) hstill' rfl hstate.symm, forwardPmu_standalone (s := u) hsolo]
  have hprep : Prepared s u n c c := h.prepared.congr ⟨_, _, _, _, _, _, _, _, _, rfl, rfl, rfl⟩
  have honly : Only (cleared s) u [.hif] [] :=
    ⟨fun p _ => (only_setF (cleared s) F.pmuState_ps ps).1 p (by simp), fun f _ hs =>
      getF_setF_addr _ _ fun he => hs (by rw [he]; decide)⟩
  have hps' : getF u F.pmuState_ps = ps := by
    rw [getF_setF_same _ _ _ (by decide) (by decide)]
    exact Nat.mod_eq_of_lt (by simp only [F.pmuState_ps]; omega)
  refine completes_runIn rfl hw.1 hw.2 hrun ⟨?_, ended_settle hprep.slot hprep.bare hprep.others hprep.post hprep.same, ?_⟩
  · rw [getF_settle_ps, getF_congr (completed_finish hprep.slot hprep.bare _).regs, hps']
  · exact only_settle (only_cleared (only_mono (only_trans honly (completed_finish hprep.slot hprep.bare _).only) (by simp) (by simp)))

/-- Power Management to PS3 begins the entry to STANDBY (R484, R488). -/
theorem completes_powerEntry {n : Nat} {c : CmdSlot} {s : State} (hw : Works s) (h : FetchedAdmin s n 0x09 c) (hk : fid c.sqe = 0x02)
    (hsave : featSave c.sqe = false) (hpf : c.func = 0) (hps : dw11 c.sqe % 32 = 3) (hop : operational s = true) (hstill : PmuStill s)
    (hsolo : standalone s = true) :
    Completes (.setPowerManagement n) s fun t =>
      t.pmu.flight = .drain ∧ t.pmu.target = .standby ∧ t.hif.fetchStopped = true ∧ Ended s t n c .success ∧ Only s t [.hif, .pmu] [] := by
  let u := entryBegun (cleared s) .standby
  have hrun : onSetPowerManagement n (cleared s) = finish u n .success := by
    have hstill' : PmuStill (cleared s) := ⟨hstill.flight, hstill.perst, hstill.shelf, hstill.lrs, hstill.halted⟩
    rw [onSetPowerManagement, setFeature_passes (s := cleared s) h (by rw [hk]; rfl) (.inr hpf) hsave]
    have h4 : ¬ 4 < 3 := by decide
    have h2 : ¬ 3 ≤ 2 := by decide
    have hreq : psRequest 3 = .standby := rfl
    simp only [hps, if_neg h4, if_neg h2, hreq]
    rw [pmuRequest_entry hstill' hop rfl, forwardPmu_standalone (s := u) hsolo]
  have hprep : Prepared s u n c c := (FetchedAdmin.prepared h).congr ⟨_, _, _, _, _, _, _, _, _, rfl, rfl, rfl⟩
  refine (completes_end rfl hw hrun hprep (only_entryBegun _ _) (by simp)).mono fun t ⟨hend, hrest⟩ => ?_
  have hpmu : t.pmu = u.pmu := hend.rest.1 .pmu (by simp)
  obtain ⟨F, S, W, hhif⟩ := hend.hif
  exact ⟨by rw [hpmu]; rfl, by rw [hpmu]; rfl, by rw [hhif]; rfl, hrest⟩

/-- An Autonomous Power State Transition to PS3 or PS4 begins the entry its table names (R484). -/
theorem completes_autonomous {e : Nat} {s : State} (hp : Powered s) (hop : operational s = true) (hen : (funcOf s 0).features.apstEnable = true)
    (he : (listAt 0 (funcOf s 0).features.apst (getF s F.pmuState_ps)).toNat = e) (hidle : e / 256 % 2 ^ 24 ≠ 0)
    (hlt : getF s F.pmuState_ps < e / 8 % 32) (ht : e / 8 % 32 = 3 ∨ e / 8 % 32 = 4) (hstill : PmuStill s) (hsolo : standalone s = true) :
    Completes (.autonomousPsTransition) s fun t =>
      t.pmu.flight = .drain ∧ t.pmu.target = psRequest (e / 8 % 32) ∧ t.hif.fetchStopped = true ∧ Only s t [.hif, .pmu] [] := by
  let r := psRequest (e / 8 % 32)
  have hentry : isEntry r = true := by
    rcases ht with h | h <;> simp only [r, h] <;> rfl
  have hrun : onAutonomousPsTransition (cleared s) = entryBegun (cleared s) r := by
    have hstill' : PmuStill (cleared s) := ⟨hstill.flight, hstill.perst, hstill.shelf, hstill.lrs, hstill.halted⟩
    have he' : (listAt 0 (funcOf (cleared s) 0).features.apst (getF (cleared s) F.pmuState_ps)).toNat = e := he
    have hen' : (funcOf (cleared s) 0).features.apstEnable = true := hen
    have hop' : operational (cleared s) = true := hop
    have hlt' : ¬ e / 8 % 32 ≤ getF (cleared s) F.pmuState_ps := Nat.not_le.2 hlt
    have hgo : ¬ 4 < e / 8 % 32 := by omega
    have hlow : ¬ e / 8 % 32 ≤ 2 := by omega
    simp only [onAutonomousPsTransition, he', hen', hop', hlt', hgo, hlow, beq_iff_eq, hidle, Bool.not_true, Bool.or_false, decide_false,
      Bool.false_or, if_false]
    rw [show psRequest (e / 8 % 32) = r from rfl, pmuRequest_entry hstill' hop' hentry, forwardPmu_standalone (s := entryBegun (cleared s) r) hsolo]
  refine completes_run rfl hp hrun ⟨?_, ?_, ?_, only_settle (only_cleared (only_entryBegun _ _))⟩
  · rw [settle_pmu]; rfl
  · rw [settle_pmu]; rfl
  · rw [settle_hif]; rfl

/-- The Timestamp is set while no decision on the off time waits for it (R96, R304). -/
def stampSet (s : State) (ms : Nat) : State :=
  journal { s with
    clk := { s.clk with stampMs := ms, stampAt := s.clk.us, stampSet := true }
    age := { s.age with stampNew := some (ms, s.clk.ophours) } } (.stamp ms s.clk.ophours)

theorem setStamp_undecided {s : State} (ms : Nat) (h3 : getF s F.mhmOffest_state ≠ 3)
    (hlate : getF s F.mhmOffest_state ≠ 2 ∨ s.age.stampNew.isSome = true ∨ s.clk.us ≤ s.age.surveyed + 1000000 * getF s F.mhmOffest_tsWait) :
    setStamp s ms = stampSet s ms := by
  have hintime : (getF s F.mhmOffest_state == 2 && s.age.stampNew.isNone &&
      decide (s.age.surveyed + 1000000 * getF s F.mhmOffest_tsWait < s.clk.us)) = false := by
    rcases hlate with h | h | h
    · simp [h]
    · simp [Option.isSome_iff_ne_none.1 h]
    · simp [Nat.not_lt.2 h]
  have hfirst : (getF (stampSet s ms) F.mhmOffest_state == 3) = false := beq_eq_false_iff_ne.2 h3
  simp only [setStamp, hintime, Bool.false_eq_true, if_false]
  change (if (getF (stampSet s ms) F.mhmOffest_state == 3 && (_ || _) && _) = true then _ else stampSet s ms) = _
  rw [hfirst, Bool.false_and, Bool.false_and]
  exact if_neg Bool.false_ne_true

theorem only_stampSet (s : State) (ms : Nat) : Only s (stampSet s ms) [.clk, .age, .jrn, .hif] [] :=
  only_mono (only_trans (only_others s (k := { s.clk with stampMs := ms, stampAt := s.clk.us, stampSet := true })
      (g := { s.age with stampNew := some (ms, s.clk.ophours) }) (ps := [.clk, .age]))
    (only_changed _ (j := (stampSet s ms).jrn) (ps := [.jrn]))) (by simp) (by simp)

/-- With no member joined, a command goes on at once, sends nothing, and has nobody to wait for. -/
theorem sendAdmin_alone (s : State) (n : Nat) (body : List Byte) : sendAdmin s n [] body = s := by
  simp only [sendAdmin, List.filter_nil, forEach, List.foldl_nil, List.isEmpty_nil, if_true]

theorem wakeFirst_alone (s : State) (go : State → State) : wakeFirst s [] go = go s := by
  simp only [wakeFirst, List.filter_nil, List.isEmpty_nil, if_true]

theorem finishAdmin_bare {s : State} {n : Nat} {c : CmdSlot} (h : Bare s n c) : finishAdmin s n = finish s n .success := by
  simp only [finishAdmin, adminDone_bare h, if_true]

theorem mirror_alone {s : State} (h : joined s = []) (body : List Byte) : mirror s body = s := by
  simp only [mirror, h, List.filter_nil, forEach, List.foldl_nil, ite_self]

theorem completes_stamp {n ms : Nat} {c : CmdSlot} {s : State} (hw : Works s) (h : FetchedAdmin s n 0x09 c) (hk : fid c.sqe = 0x0E)
    (hsave : featSave c.sqe = false) (hpf : c.func = 0) (halone : joined s = []) (h3 : getF s F.mhmOffest_state ≠ 3)
    (hlate : getF s F.mhmOffest_state ≠ 2 ∨ s.age.stampNew.isSome = true ∨ s.clk.us ≤ s.age.surveyed + 1000000 * getF s F.mhmOffest_tsWait) :
    Completes (.setTimestamp n ms) s fun t =>
      stampNow t = ms % 2 ^ 48 ∧ t.clk.stampSet = true ∧ t.age.stampNew = some (ms % 2 ^ 48, s.clk.ophours) ∧ Ended s t n c .success ∧
        Only s t [.clk, .age, .jrn, .hif] [] := by
  let u := stampSet (cleared s) (ms % 2 ^ 48)
  have hprep : Prepared s u n c c := (FetchedAdmin.prepared h).congr ⟨_, _, _, _, _, _, _, _, _, rfl, rfl, rfl⟩
  have hrun : onSetTimestamp n ms (cleared s) = finish u n .success := by
    have halone' : joined (cleared s) = [] := halone
    have haloneu : joined u = [] := halone
    have hset : setStamp (cleared s) (ms % 2 ^ 48) = u := setStamp_undecided (s := cleared s) _ h3 hlate
    rw [onSetTimestamp, setFeature_passes (s := cleared s) h (by rw [hk]; rfl) (.inr hpf) hsave]
    dsimp only
    rw [halone', wakeFirst_alone, halone', sendAdmin_alone, hset, finishAdmin_bare hprep.bare]
  refine (completes_end rfl hw hrun hprep (only_stampSet _ _) (by simp)).mono fun t ⟨hend, hrest⟩ => ?_
  have hclk : t.clk = u.clk := hend.rest.1 .clk (by simp)
  have hage : t.age = u.age := hend.rest.1 .age (by simp)
  refine ⟨?_, by rw [hclk]; rfl, by rw [hage]; rfl, hrest⟩
  rw [stampNow, hclk]
  show ms % 2 ^ 48 + (s.clk.us - s.clk.us) / 1000 = _
  rw [Nat.sub_self, Nat.zero_div, Nat.add_zero]

/-- The class deadline of the command, kept until the next epoch. -/
def classKept (s : State) (x : Nat × Nat) : VfmState := { s.vfm with classShadow := s.vfm.classShadow ++ [x] }

theorem completes_classTable {n : Nat} {c : CmdSlot} {s : State} {v : VfmState} (hw : Works s) (h : FetchedAdmin s n 0x09 c)
    (hrun : onSetDeadlineClassTable n (cleared s) = finish { cleared s with vfm := v } n .success) :
    Completes (.setDeadlineClassTable n) s fun t => t.vfm = v ∧ Ended s t n c .success ∧ Only s t [.vfm, .hif] [] := by
  have hprep : Prepared s { cleared s with vfm := v } n c c :=
    (FetchedAdmin.prepared h).congr ⟨_, _, _, _, _, _, _, _, _, rfl, rfl, rfl⟩
  exact (completes_end rfl hw hrun hprep (only_mono (only_vfm _ v) (by simp) (by simp)) (by simp)).mono fun t ⟨hend, hrest⟩ =>
    ⟨hend.rest.1 .vfm (by simp), hrest⟩

/-- Settles O14: each row comes to a change of PMU_STATE, to the begin of an entry, to the Timestamp or to a class deadline, and to the end of its command. -/
theorem deviceFeatures : Obligations.DeviceFeatures := by
  unfold Obligations.DeviceFeatures
  refine ⟨?kept, ?entry, ?autonomous, ?stamp, ?shadowed, ?staged⟩
  case kept =>
    exact fun n c s hw h hk hsave hpf hps hst hfl hperst hshelf hlrs hhalt hsolo =>
      completes_powerKept hw h hk hsave hpf hps hst ⟨hfl, hperst, hshelf, hlrs, hhalt⟩ hsolo
  case entry =>
    exact fun n c s hw h hk hsave hpf hps hop hfl hperst hshelf hlrs hhalt hsolo =>
      completes_powerEntry hw h hk hsave hpf hps hop ⟨hfl, hperst, hshelf, hlrs, hhalt⟩ hsolo
  case autonomous =>
    exact fun e s hp hop hen he hidle hlt ht hfl hperst hshelf hlrs hhalt hsolo =>
      completes_autonomous hp hop hen he hidle hlt ht ⟨hfl, hperst, hshelf, hlrs, hhalt⟩ hsolo
  case stamp => exact fun n ms c s hw h hk hsave hpf halone h3 hlate => completes_stamp hw h hk hsave hpf halone h3 hlate
  case shadowed =>
    intro n c s hw h hk hsave hpf halone hv hstop
    refine completes_classTable hw h ?_
    have hprep : Prepared s { cleared s with vfm := classKept s (dw11 c.sqe / 2 ^ 30, dw11 c.sqe % 2 ^ 24) } n c c :=
      (FetchedAdmin.prepared h).congr ⟨_, _, _, _, _, _, _, _, _, rfl, rfl, rfl⟩
    have halone' : joined (cleared s) = [] := halone
    have hstop' : (cleared s).vfm.stopAll = false := hstop
    have hkept : shadowClass (cleared s) (dw11 c.sqe / 2 ^ 30) (dw11 c.sqe % 2 ^ 24) =
        { cleared s with vfm := classKept s (dw11 c.sqe / 2 ^ 30, dw11 c.sqe % 2 ^ 24) } := rfl
    rw [onSetDeadlineClassTable, setFeature_passes (s := cleared s) h (by rw [hk]; rfl) (.inr hpf) hsave]
    simp only [if_neg hv, hstop', Bool.false_eq_true, if_false]
    rw [halone', wakeFirst_alone, halone', sendAdmin_alone, hkept, mirror_alone (by exact halone), finishAdmin_bare hprep.bare]
    rfl
  case staged =>
    intro n c s hw h hk hsave hpf hv hstop
    refine completes_classTable hw h ?_
    have hstop' : (cleared s).vfm.stopAll = true := hstop
    rw [onSetDeadlineClassTable, setFeature_passes (s := cleared s) h (by rw [hk]; rfl) (.inr hpf) hsave]
    simp only [if_neg hv, if_pos hstop']
    rfl

end Sys2Proof.Machine
end

section
/-!
PROOFS. Asynchronous events, the self-test and tunnelled NVMe-MI (R89, R90, R119, R120).
-/

namespace Sys2Proof.Machine

open Sys2Proof

/-- A bare command leaves its slot and nothing else. -/
theorem delSlot_bare {s : State} {n : Nat} {c : CmdSlot} (h : Bare s n c) : delSlot s n = slotFreed s n := by
  obtain ⟨-, -, -, -, htags, hwaits, -, hheld, -⟩ := h
  have htags' : s.slk.sentTags.filter (fun x => x.2 != n) = s.slk.sentTags := List.filter_eq_self.2 fun x hx => by simp [htags x hx]
  rw [delSlot, spErase_absent _ _ hwaits, dropAll_notMem hheld, htags']
  rfl

/-- A function whose stop stays is stopped as before, and so is every other. -/
theorem stop_putFunc {s : State} {f : Nat} {x : Func} (h : x.stop = (funcOf s f).stop) (g : Nat) :
    (funcOf (putFunc s f x) g).stop = (funcOf s g).stop := by
  by_cases hg : g = f
  · rw [hg, funcOf_putFunc_same, h]
  · rw [funcOf_putFunc_ne _ _ hg]

theorem queueStopped_congr {s t : State} (h : ∀ f, (funcOf t f).stop = (funcOf s f).stop) (g q : Nat) : queueStopped t g q = queueStopped s g q := by
  simp only [queueStopped, h]

theorem reportEvent_none {s : State} {f : Nat} (h : (funcOf s f).pendingEvents = []) : reportEvent s f = s := by
  simp only [reportEvent, h]
  cases (funcOf s f).aers <;> exact ite_self _

theorem reportEvent_unasked {s : State} {f : Nat} (h : (funcOf s f).aers = []) : reportEvent s f = s := by
  simp only [reportEvent, h]
  exact ite_self _

/-- An event that is enabled and neither masked nor pending waits for a request (R119). -/
def eventWaits (s : State) (f : Nat) (e : AsyncEvent) : State :=
  putFunc s f { funcOf s f with pendingEvents := (funcOf s f).pendingEvents ++ [e] }

theorem stop_eventWaits (s : State) (f : Nat) (e : AsyncEvent) (g : Nat) : (funcOf (eventWaits s f e) g).stop = (funcOf s g).stop :=
  stop_putFunc (x := { funcOf s f with pendingEvents := (funcOf s f).pendingEvents ++ [e] }) rfl g

theorem raiseAsync_new {s : State} {f : Nat} {e : AsyncEvent} (hex : funcExists s f = true) (hen : eventEnabled (funcOf s f) e = true)
    (hmask : (funcOf s f).masked.any (sameKind e) = false) (hnew : (funcOf s f).pendingEvents.contains e = false) :
    raiseAsync s f e = eventWaits s f e := by
  simp only [raiseAsync, hex, hen, hmask, hnew, Bool.not_true, Bool.or_self, Bool.false_eq_true, if_false]
  rfl

/-- The oldest pending event has met the oldest request, and is masked (R119). -/
def eventTaken (s : State) (f : Nat) (rest : List Nat) (e : AsyncEvent) (es : List AsyncEvent) : State :=
  putFunc s f { funcOf s f with aers := rest, pendingEvents := es, masked := (funcOf s f).masked ++ [e] }

theorem reportEvent_oldest {s : State} {f cid : Nat} {rest : List Nat} {e : AsyncEvent} {es : List AsyncEvent}
    (haers : (funcOf s f).aers = cid :: rest) (hevents : (funcOf s f).pendingEvents = e :: es)
    (hlive : queueStopped s f 0 = false ∨ quietNow s = false) :
    ∃ d0 d1, reportEvent s f = postCqe (eventTaken s f rest e es) ⟨f, 0, 0, cid, .success, false, d0, d1⟩ := by
  have hgo : (queueStopped s f 0 && quietNow s) = false := by
    rcases hlive with h | h <;> simp [h]
  simp only [reportEvent, hgo, Bool.false_eq_true, if_false, haers, hevents]
  exact ⟨_, _, rfl⟩

theorem completes_aerHeld {n : Nat} {c : CmdSlot} {s : State} (hw : Works s) (h : FetchedAdmin s n 0x0C c) (hroom : (funcOf s c.func).aers.length < 4)
    (hnone : (funcOf s c.func).pendingEvents = []) :
    Completes (.asyncEventRequest n) s fun t =>
      (funcOf t c.func).aers = (funcOf s c.func).aers ++ [c.sqe.cid] ∧ slotOf t n = none ∧ (∀ m, m ≠ n → slotOf t m = slotOf s m) ∧ Only s t [.hif] [] := by
  let u := putFunc (slotFreed (cleared s) n) c.func { funcOf s c.func with aers := (funcOf s c.func).aers ++ [c.sqe.cid] }
  have hu : funcOf u c.func = { funcOf s c.func with aers := (funcOf s c.func).aers ++ [c.sqe.cid] } := funcOf_putFunc_same _ _ _
  have hrun : onAsyncEventRequest n (cleared s) = u := by
    have hroom' : ¬ 4 ≤ (funcOf (cleared s) c.func).aers.length := Nat.not_le.2 hroom
    have hdel : delSlot (cleared s) n = slotFreed (cleared s) n := delSlot_bare (c := c) h.2.2.2
    rw [onAsyncEventRequest, withFetched_admin (s := cleared s) h]
    simp only [if_neg hroom', hdel]
    exact reportEvent_none (s := u) (by rw [hu]; exact hnone)
  refine completes_runIn rfl hw.1 hw.2 hrun ⟨?_, ?_, fun m hm => ?_, ?_⟩
  · show (spGet noFunc (settle u).hif.funcs c.func).aers = _
    rw [settle_hif]
    exact congrArg Func.aers hu
  · rw [slotOf_settle]
    exact spFind_erase_same _ _
  · rw [slotOf_settle]
    exact spFind_erase_ne _ hm
  · exact only_settle (only_cleared (only_mono (only_trans (completed_slots (cleared s) _).only (only_putFunc _ _ _)) (by simp) (by simp)))

theorem completes_eventReported {f cid : Nat} {rest : List Nat} {e : AsyncEvent} {s : State} (hw : Works s) (hex : funcExists s f = true)
    (hen : eventEnabled (funcOf s f) e = true) (hmask : (funcOf s f).masked.any (sameKind e) = false) (hnone : (funcOf s f).pendingEvents = [])
    (haers : (funcOf s f).aers = cid :: rest) (hlive : queueStopped s f 0 = false ∨ quietNow s = false)
    (hroom : ((spFind (funcOf s f).cqs 0).any fun q => !cqFull q) = true) :
    Completes (.asyncEventRaise f e) s fun t =>
      (funcOf t f).aers = rest ∧ (funcOf t f).pendingEvents = [] ∧ (funcOf t f).masked = (funcOf s f).masked ++ [e] ∧
        (∃ d0 d1, Output.completion f 0 cid .success false d0 d1 ∈ t.out) ∧ Only s t [.hif] [] := by
  let u := eventWaits (cleared s) f e
  let v := eventTaken u f rest e []
  have hu : funcOf u f = { funcOf s f with pendingEvents := (funcOf s f).pendingEvents ++ [e] } := funcOf_putFunc_same _ _ _
  have hv : funcOf v f = { funcOf u f with aers := rest, pendingEvents := [], masked := (funcOf u f).masked ++ [e] } := funcOf_putFunc_same _ _ _
  have hraise : raiseAsync (cleared s) f e = u := raiseAsync_new (s := cleared s) hex hen hmask (by
    show (funcOf s f).pendingEvents.contains e = false
    rw [hnone]
    rfl)
  have hstop : ∀ g, (funcOf u g).stop = (funcOf s g).stop := stop_eventWaits (cleared s) f e
  have hlive' : queueStopped u f 0 = false ∨ quietNow u = false := by
    rw [queueStopped_congr hstop, quietNow_congr (s := s) (t := u) rfl hstop]
    exact hlive
  obtain ⟨d0, d1, hreport⟩ := reportEvent_oldest (s := u) (es := []) (by rw [hu]; exact haers) (by rw [hu, hnone]; rfl) hlive'
  obtain ⟨q, hq, hfull⟩ := Option.any_eq_true _ _ |>.1 hroom
  have hk := completed_postCqe v ⟨f, 0, 0, cid, .success, false, d0, d1⟩
  have hfunc : FuncKept (funcOf v f) (funcOf (settle (postCqe v ⟨f, 0, 0, cid, .success, false, d0, d1⟩)) f) := by
    show FuncKept _ (spGet noFunc (settle (postCqe v ⟨f, 0, 0, cid, .success, false, d0, d1⟩)).hif.funcs f)
    rw [settle_hif]
    exact hk.func f
  refine completes_runIn rfl hw.1 hw.2 (show onAsyncEventRaise f e (cleared s) = _ by rw [onAsyncEventRaise, hraise, hreport])
    ⟨?_, ?_, ?_, ⟨d0, d1, mem_settle_out ?_⟩, ?_⟩
  · rw [hfunc.aers, hv]
  · rw [hfunc.pending, hv]
  · rw [hfunc.masked, hv, hu]
  · refine mem_out_postCqe (e := ⟨f, 0, 0, cid, .success, false, d0, d1⟩) (q := q) (show 0 ≠ miQueue by decide) ?_ (by simpa using hfull)
    show spFind (funcOf v f).cqs 0 = some q
    rw [hv, hu]
    exact hq
  · exact only_settle (only_cleared (only_mono (only_trans (only_trans (only_putFunc _ _ _) (only_putFunc _ _ _)) hk.only) (by simp) (by simp)))

/-- An NVMe-MI answer without data comes back in Dword 0 (R120). -/
theorem miFinish_dword (s : State) (n v : Nat) (c : CmdSlot) : miFinish n c (⟨miOk, v, []⟩, s) = finishWith s n .success (v % 2 ^ 24 * 256) 0 := by
  simp [miFinish, miOk]

theorem completes_configSet {n : Nat} {c : CmdSlot} {s : State} (hw : Works s) (h : FetchedAdmin s n 0x1D c) (hop : miOpc c.sqe = 3)
    (hid : dw12 c.sqe % 256 = 1 ∨ dw12 c.sqe % 256 = 2) :
    Completes (.nvmeMiSend n) s fun t =>
      spGet 0 t.mi.config (dw12 c.sqe % 256 + 256 * (dw12 c.sqe / 2 ^ 24)) = dw13 c.sqe ∧ (CanPost s n c → Posted t c .success 0 0) ∧
        Ended s t n c .success ∧ Only s t [.mi, .hif] [] := by
  let k := dw12 c.sqe % 256 + 256 * (dw12 c.sqe / 2 ^ 24)
  let u : State := { cleared s with mi := { s.mi with config := spSet 0 s.mi.config k (dw13 c.sqe) } }
  have hprep : Prepared s u n c c := (FetchedAdmin.prepared h).congr ⟨_, _, _, _, _, _, _, _, _, rfl, rfl, rfl⟩
  have hrun : onNvmeMiSend n (cleared s) = finish (putSlot u n { c with dw0 := 0, dw1 := 0 }) n .success := by
    have h3 : ¬ dw12 c.sqe % 256 = 3 := by omega
    rw [onNvmeMiSend, withFetched_admin (s := cleared s) h]
    simp only [if_pos hop, miCommand, miConfigSet, if_neg h3, if_pos hid, miFinish_dword, Nat.zero_mod, Nat.zero_mul]
    exact finishWith_slot (s := u) hprep.slot _ _ _
  have honly : Only (cleared s) (putSlot u n { c with dw0 := 0, dw1 := 0 }) [.mi, .hif] [] :=
    only_mono (only_trans (only_others (cleared s) (m := u.mi) (ps := [.mi])) (only_putSlot _ _ _)) (by simp) (by simp)
  refine (completes_end rfl hw hrun (hprep.dwords 0 0) honly (by simp)).mono fun t ⟨hend, hrest⟩ => ⟨?_, hend.posted, hrest⟩
  have hmi : t.mi = u.mi := hend.rest.1 .mi (by simp)
  rw [hmi]
  exact spGet_set_same _ _ _ _

/-- A tunnelled Configuration Get answers with its value in Dword 0 (R120). -/
theorem completes_configGet {n v : Nat} {c : CmdSlot} {s : State} (hw : Works s) (h : FetchedAdmin s n 0x1E c) (hop : miOpc c.sqe = 4)
    (hget : miConfigGet (cleared s) (dw12 c.sqe % 256) (dw12 c.sqe / 2 ^ 24) = ⟨miOk, v, []⟩) :
    Completes (.nvmeMiReceive n) s fun t =>
      (CanPost s n c → Posted t c .success (BitVec.ofNat 32 (v % 2 ^ 24 * 256)) 0) ∧ Ended s t n c .success ∧ Only s t [.hif] [] := by
  refine completes_answers rfl hw h ?_
  have h3 : ¬ miOpc c.sqe = 3 := by omega
  rw [onNvmeMiReceive, withFetched_admin (s := cleared s) h]
  dsimp only
  rw [if_neg h3, hop, miCommand, hget, miFinish_dword]

/-- Settles O15: requests and events come to a change of their function, of the slot and perhaps a completion; the other rows end their command. -/
theorem events : Obligations.Events := by
  unfold Obligations.Events
  refine ⟨?held, ?fifth, ?waits, ?reported, ?selfTest, ?configSet, ?unit, ?configGet⟩
  case held => exact fun n c s hw h hroom hnone => completes_aerHeld hw h hroom hnone
  case fifth =>
    intro n c s hw h hfull
    refine completes_ends rfl hw h.1 h.2.2.2 ?_
    have hfull' : 4 ≤ (funcOf (cleared s) c.func).aers.length := hfull
    rw [onAsyncEventRequest, withFetched_admin (s := cleared s) h]
    exact if_pos hfull'
  case waits =>
    intro f e s hw hex hen hmask hnew hasked
    have hu : funcOf (eventWaits (cleared s) f e) f = { funcOf s f with pendingEvents := (funcOf s f).pendingEvents ++ [e] } := funcOf_putFunc_same _ _ _
    have hrun : onAsyncEventRaise f e (cleared s) = eventWaits (cleared s) f e := by
      rw [onAsyncEventRaise, raiseAsync_new (s := cleared s) hex hen hmask hnew]
      exact reportEvent_unasked (by rw [hu]; exact hasked)
    refine completes_runIn rfl hw.1 hw.2 hrun ⟨?_, only_settle (only_cleared (only_putFunc _ _ _))⟩
    show (spGet noFunc (settle (eventWaits (cleared s) f e)).hif.funcs f).pendingEvents = _
    rw [settle_hif]
    exact congrArg Func.pendingEvents hu
  case reported =>
    exact fun f cid rest e s hw hex hen hmask hnone haers hlive hroom => completes_eventReported hw hex hen hmask hnone haers hlive hroom
  case selfTest =>
    intro n c s hw h hcode
    let u : State := { cleared s with hif := { s.hif with selfTest := s.hif.selfTest + 1 } }
    have hprep : Prepared s u n c c := (FetchedAdmin.prepared h).congr ⟨_, _, _, _, _, _, _, _, _, rfl, rfl, rfl⟩
    have hrun : onDeviceSelfTest n (cleared s) = finish u n .success := by
      rw [onDeviceSelfTest, withFetched_of (s := cleared s) h.1 h.2.1 h.2.2.1]
      simp only [hcode]
      rfl
    refine (completes_end rfl hw hrun hprep (only_changed _ (h := u.hif) (ps := [.hif])) (by simp)).mono fun t ⟨hend, hrest⟩ => ⟨?_, hrest⟩
    obtain ⟨F, S, W, hhif⟩ := hend.hif
    rw [hhif]
  case configSet => exact fun n c s hw h hop hid => completes_configSet hw h hop hid
  case unit =>
    intro n c s hw h hop hid
    exact completes_configGet (v := 64) hw h hop (by rw [miConfigGet, if_pos hid])
  case configGet =>
    intro n c s hw h hop hid
    have h3 : ¬ dw12 c.sqe % 256 = 3 := by omega
    exact completes_configGet hw h hop (by rw [miConfigGet, if_neg h3, if_pos hid]; rfl)

end Sys2Proof.Machine
end

section
/-!
PROOFS. The first check an I/O command fails (R92, R113, R134).
-/

namespace Sys2Proof.Machine

open Sys2Proof

/-- A Read or Verify that has passed its checks (R49). -/
def readChecked (n : Nat) (s : State) (c : CmdSlot) : State := if 2 ^ 20 < c.offset + c.blocks then finish s n .zoneBoundaryError else s

theorem startReadKind_eq (s : State) (n : Nat) (k : CmdKind) : startReadKind s n k = startIo s n k (readChecked n) := rfl

/-- Each of the I/O rows checks a command of its kind, none of which is Flush, and goes on in its own way. -/
theorem ioRow_starts {x : CmdKind × Instr} {n : Nat} (hx : x ∈ ioRows n) :
    x.1 ≠ .flush ∧ ∃ f, (∀ s, exec x.2 s = effectIn .data f s) ∧ ∀ s, ∃ ok, f s = startIo s n x.1 ok := by
  simp only [ioRows, List.mem_cons, List.not_mem_nil, or_false] at hx
  rcases hx with rfl | rfl | rfl | rfl | rfl | rfl | rfl | rfl | rfl | rfl | rfl | rfl
  case inl => exact ⟨nofun, onRead n, fun _ => rfl, fun s => ⟨_, startReadKind_eq s n _⟩⟩
  case inr.inl => exact ⟨nofun, onVerify n, fun _ => rfl, fun s => ⟨_, startReadKind_eq s n _⟩⟩
  all_goals exact ⟨nofun, _, fun _ => rfl, fun _ => ⟨_, rfl⟩⟩

/-- The slot holds a fetched I/O command of the kind a row checks. -/
theorem startIo_fetched {s : State} {n : Nat} {k : CmdKind} {c : CmdSlot} (h : FetchedIo s n k c) (f : CmdSlot → State) :
    withFetched s n (fun c => !c.sqe.admin && ioKind c.sqe == k) f = f c := by
  obtain ⟨hslot, hphase, hio, hkind, -⟩ := h
  exact withFetched_of hslot hphase (by rw [hio, hkind]; simp)

theorem startIo_generic {s : State} {n : Nat} {k : CmdKind} {c : CmdSlot} {st : Status} (h : FetchedIo s n k c) (hst : genericCheck s c = some st)
    (ok : State → CmdSlot → State) : startIo s n k ok = finish s n st := by
  rw [startIo, startIo_fetched h]
  simp only [hst]

theorem startIo_stopped {s : State} {n nsid : Nat} {k : CmdKind} {c : CmdSlot} {ns : Namespace} (h : FetchedIo s n k c) (hgen : genericCheck s c = none)
    (hns : nsOf s c.func c.sqe.nsid = some (nsid, ns)) (hstop : queueStopped s c.func c.sqid = true) (ok : State → CmdSlot → State) :
    startIo s n k ok = finish s n .functionStopped := by
  rw [startIo, startIo_fetched h]
  simp only [hgen, hns, hstop, if_true]

theorem startIo_memberLost {s : State} {n nsid : Nat} {k : CmdKind} {c : CmdSlot} {ns : Namespace} (h : FetchedIo s n k c)
    (hgen : genericCheck s c = none) (hns : nsOf s c.func c.sqe.nsid = some (nsid, ns)) (hstop : queueStopped s c.func c.sqid = false)
    (hlost : memberLost s (zoneHome s (ns.base + slba c.sqe / 2 ^ 20)).1 = true) (hone : selectAll c.sqe = false) (ok : State → CmdSlot → State) :
    startIo s n k ok = finish s n .cascadeMemberLost := by
  rw [startIo, startIo_fetched h]
  simp only [hgen, hns, hstop, hlost, hone, Bool.false_and, Bool.not_false, Bool.and_self, Bool.false_eq_true, if_false, if_true]

/-- A command other than Flush fails at the first of R113's checks, and after them where the sanitize failure mode holds. -/
theorem genericCheck_fails {s : State} {c : CmdSlot} {st : Status} (hk : ioKind c.sqe ≠ .flush)
    (h : ioCheck s c ((nsOf s c.func c.sqe.nsid).map (·.2)) = some st) : genericCheck s c = some st := by
  have hflush : (ioKind c.sqe == .flush) = false := beq_eq_false_iff_ne.2 hk
  simp only [genericCheck, h, hflush, Bool.false_and, Bool.false_eq_true, if_false]

theorem genericCheck_sanitized {s : State} {c : CmdSlot} (h : ioCheck s c ((nsOf s c.func c.sqe.nsid).map (·.2)) = none)
    (hmode : s.hif.sanitize.failureMode = true) : genericCheck s c = some .sanitizeFailed := by
  simp only [genericCheck, h, hmode, if_true]

/-- An I/O row whose command fails a check ends it with the check's status and does nothing else. -/
theorem completes_ioFailure {x : CmdKind × Instr} {n : Nat} {c : CmdSlot} {s : State} {st : Status} (hx : x ∈ ioRows n) (hw : Works s)
    (h : FetchedIo s n x.1 c) (hrun : ∀ ok, startIo (cleared s) n x.1 ok = finish (cleared s) n st) :
    Completes x.2 s fun t => Ended s t n c st ∧ Only s t [.hif] [] := by
  obtain ⟨-, f, hexec, hstart⟩ := ioRow_starts hx
  obtain ⟨ok, hok⟩ := hstart (cleared s)
  exact completes_ends (hexec s) hw h.1 h.2.2.2.2 (hok.trans (hrun ok))

/-- The same, of a check of R113. -/
theorem completes_genericFailure {x : CmdKind × Instr} {n : Nat} {c : CmdSlot} {s : State} {st : Status} (hx : x ∈ ioRows n) (hw : Works s)
    (h : FetchedIo s n x.1 c) (hst : genericCheck s c = some st) : Completes x.2 s fun t => Ended s t n c st ∧ Only s t [.hif] [] :=
  completes_ioFailure hx hw h (startIo_generic (s := cleared s) h hst)

theorem ioRow_notFlush {x : CmdKind × Instr} {n : Nat} {c : CmdSlot} {s : State} (hx : x ∈ ioRows n) (h : FetchedIo s n x.1 c) :
    ioKind c.sqe ≠ .flush := fun hk => (ioRow_starts hx).1 (h.2.2.2.1.symm.trans hk)

/-- Settles O21: every row starts with the same checks, and the first that fails ends the command. -/
theorem ioCheckFailures : Obligations.IoCheckFailures := by
  unfold Obligations.IoCheckFailures
  refine ⟨?field, ?ns, ?range, ?size, ?sanitize, ?stopped, ?lost⟩
  case field =>
    intro x n c s hx hw h hbad
    refine completes_genericFailure hx hw h (genericCheck_fails (ioRow_notFlush hx h) ?_)
    simp only [ioCheck, hbad, if_true]
  case ns =>
    intro x n c s hx hw h hbad hns
    refine completes_genericFailure hx hw h (genericCheck_fails (ioRow_notFlush hx h) ?_)
    simp only [ioCheck, hbad, Bool.false_eq_true, if_false, hns, Option.map_none]
  case range =>
    intro x n c nsid ns s hx hw h hbad hns hrange
    refine completes_genericFailure hx hw h (genericCheck_fails (ioRow_notFlush hx h) ?_)
    simp only [ioCheck, hbad, Bool.false_eq_true, if_false, hns, Option.map_some, if_pos hrange]
  case size =>
    intro x n c nsid ns s hx hw h hbad hns hrange hlarge
    refine completes_genericFailure hx hw h (genericCheck_fails (ioRow_notFlush hx h) ?_)
    simp only [ioCheck, hbad, Bool.false_eq_true, if_false, hns, Option.map_some, if_neg hrange, hlarge, if_true]
  case sanitize =>
    intro x n c nsid ns s hx hw h hns hpass hmode
    exact completes_genericFailure hx hw h (genericCheck_sanitized (by rw [hns]; exact hpass) hmode)
  case stopped =>
    intro x n c nsid ns s hx hw h hgen hns hstop
    exact completes_ioFailure hx hw h (startIo_stopped (s := cleared s) h hgen hns hstop)
  case lost =>
    intro x n c nsid ns s hx hw h hgen hns hstop hlost hone
    exact completes_ioFailure hx hw h (startIo_memberLost (s := cleared s) h hgen hns hstop hlost hone)

end Sys2Proof.Machine
end

section
/-!
PROOFS. The queue engine (R99, R105, R106).
-/

namespace Sys2Proof.Machine

open Sys2Proof

/-- The slot of a fetched entry takes its class and deadline from the function's features, the classes' deadlines and the clock. -/
theorem freshSlot_congr {s t : State} {f : Nat} (hfeat : (funcOf t f).features = (funcOf s f).features) (hvfm : t.vfm = s.vfm) (hclk : t.clk = s.clk)
    (i : Nat) (q : Sqe) : freshSlot t f i q = freshSlot s f i q := by
  have hclass : fetchClass (funcOf t f) q = fetchClass (funcOf s f) q := by simp only [fetchClass, hfeat]
  simp only [freshSlot, hclass, now, classUs, hvfm, hclk]

/-- The checks at the fetch look at the slots and at whether a sanitize runs. -/
theorem fetchCheck_congr {s t : State} (hslots : t.hif.slots = s.hif.slots) (hsan : t.hif.sanitize = s.hif.sanitize) (f : Nat) (q : Sqe) :
    fetchCheck t f q = fetchCheck s f q := by
  unfold fetchCheck abortsFull
  rw [hslots, hsan]

/-- An entry is fetched: the head of its queue moves on, and the lowest free slot holds it. -/
def entryFetched (s : State) (f i : Nat) (k : SubQ) (q : Sqe) : State :=
  putSlot (putFunc s f { funcOf s f with sqs := spPut (funcOf s f).sqs i { k with head := if k.head = k.size then 0 else k.head + 1 } })
    (spFree s.hif.slots (s.hif.slots.length + 1) 0) (freshSlot s f i q)

theorem fetchEntries_one {s : State} {f i : Nat} {k : SubQ} {q : Sqe} (hq : spFind (funcOf s f).sqs i = some k) (hmore : k.head ≠ k.tail)
    (hcheck : fetchCheck (putSlot s (spFree s.hif.slots (s.hif.slots.length + 1) 0) (freshSlot s f i { q with admin := i == 0 })) f
      { q with admin := i == 0 } = none) : fetchEntries f i [q] s = entryFetched s f i k { q with admin := i == 0 } := by
  let e : Sqe := { q with admin := i == 0 }
  let n := spFree s.hif.slots (s.hif.slots.length + 1) 0
  let u := putFunc s f { funcOf s f with sqs := spPut (funcOf s f).sqs i { k with head := if k.head = k.size then 0 else k.head + 1 } }
  have hfeat : (funcOf u f).features = (funcOf s f).features := by rw [funcOf_putFunc_same]
  have hfresh : freshSlot u f i e = freshSlot s f i e := freshSlot_congr hfeat rfl rfl i e
  have hpass : fetchCheck (putSlot u n (freshSlot s f i e)) f e = none := (fetchCheck_congr rfl rfl f e).trans hcheck
  have hrun : fetchEntries f i [q] s = (match fetchCheck (putSlot u n (freshSlot u f i e)) f e with
      | some st => finish (putSlot u n (freshSlot u f i e)) n st
      | none => putSlot u n (freshSlot u f i e)) := by
    simp only [fetchEntries, hq, if_neg hmore]
    rfl
  rw [hrun, hfresh, hpass]
  rfl

/-- The rotation has passed a function and a queue of it (R99). -/
def rotationPast (s : State) (f i : Nat) : State :=
  { putFunc s f { funcOf s f with nextQueue := i + 1 } with
    hif := { (putFunc s f { funcOf s f with nextQueue := i + 1 }).hif with nextFunc := f + 1 } }

theorem funcOf_rotationPast (s : State) (f i : Nat) : funcOf (rotationPast s f i) f = { funcOf s f with nextQueue := i + 1 } := funcOf_putFunc_same s f _

/-- One turn with one entry, where the engine may fetch and the rotation finds a queue. -/
theorem onCommandFetch_one {s : State} {f i : Nat} {k : SubQ} {q : Sqe} (hw : Works s) (hhost : domainOn s .host = true)
    (hgo : s.hif.fetchStopped = false) (hlink : s.hif.linkUp = true) (hcool : getF s F.sysTemp_throttle ≠ 2) (hrole : isMember s = false)
    (hnext : ((rotateFrom s.hif.nextFunc (funcsOf s)).findSome? fun f => (nextQueueOf s f).map fun i => (f, i)) = some (f, i))
    (hq : spFind (funcOf s f).sqs i = some k) (hmore : k.head ≠ k.tail)
    (hcheck : fetchCheck (putSlot s (spFree s.hif.slots (s.hif.slots.length + 1) 0) (freshSlot s f i { q with admin := i == 0 })) f
      { q with admin := i == 0 } = none) :
    onCommandFetch [q] s = entryFetched (rotationPast s f i) f i k { q with admin := i == 0 } := by
  let u := rotationPast s f i
  have hcool' : (getF s F.sysTemp_throttle == 2) = false := beq_eq_false_iff_ne.2 hcool
  have hburst : [q].take (2 ^ min 3 ((funcOf s f).features.arbitration.toNat % 8)) = [q] := List.take_of_length_le Nat.one_le_two_pow
  have hturn : onCommandFetch [q] s = fetchEntries f i [q] u := by
    simp only [onCommandFetch, hgo, hcool', hw.2, hhost, hlink, hrole, hnext, hburst, Bool.not_true, Bool.or_self, Bool.false_eq_true, if_false]
    rfl
  have hfeat : (funcOf u f).features = (funcOf s f).features := by rw [funcOf_rotationPast]
  have hfresh : freshSlot u f i { q with admin := i == 0 } = freshSlot s f i { q with admin := i == 0 } := freshSlot_congr hfeat rfl rfl i _
  rw [hturn]
  refine fetchEntries_one (by rw [funcOf_rotationPast]; exact hq) hmore ?_
  rw [hfresh]
  exact (fetchCheck_congr rfl rfl f _).trans hcheck

/-- Settles O10: a turn with one entry comes to the move of the rotation and the entry in its slot; a turn the engine may not take to nothing. -/
theorem commandFetch : Obligations.CommandFetch := by
  unfold Obligations.CommandFetch
  refine ⟨?turn, ?stopped⟩
  case turn =>
    intro q f i k s hw hhost hgo hlink hcool hrole hnext hq hmore hcheck
    let e : Sqe := { q with admin := i == 0 }
    let u := rotationPast (cleared s) f i
    have hu : funcOf u f = { funcOf s f with nextQueue := i + 1 } := funcOf_rotationPast _ _ _
    have hfeat : (funcOf u f).features = (funcOf s f).features := by rw [hu]
    have hfresh : freshSlot u f i e = freshSlot s f i e := freshSlot_congr hfeat rfl rfl i e
    have hrun : onCommandFetch [q] (cleared s) = entryFetched u f i k e :=
      onCommandFetch_one (s := cleared s) hw hhost hgo hlink hcool hrole hnext hq hmore hcheck
    refine completes_run rfl hw.1 hrun ⟨?_, ?_, ?_⟩
    · rw [slotOf_settle]
      exact (slotOf_putSlot_same _ _ _).trans (congrArg some hfresh)
    · show spFind (spGet noFunc (settle (entryFetched u f i k e)).hif.funcs f).sqs i = _
      rw [settle_hif]
      show spFind (funcOf (putFunc u f _) f).sqs i = _
      rw [funcOf_putFunc_same]
      exact spFind_put_same _ _ _
    · have hturn : Only (cleared s) u [.hif] [] := only_changed (cleared s) (h := u.hif) (ps := [.hif])
      have hentry : Only u (entryFetched u f i k e) [.hif] [] := only_changed u (h := (entryFetched u f i k e).hif) (ps := [.hif])
      exact only_settle (only_cleared (only_mono (only_trans hturn hentry) (by simp) (by simp)))
  case stopped =>
    intro sqes s hw hstop
    have hrun : onCommandFetch sqes (cleared s) = cleared s := by
      refine if_pos ?_
      show (s.hif.fetchStopped || getF s F.sysTemp_throttle == 2 || !domainOn s .data || !domainOn s .host || !s.hif.linkUp || isMember s) = true
      rcases hstop with h | h | h | h <;> simp [h]
    exact completes_run rfl hw.1 hrun (only_settle (only_cleared (only_refl _ [] [])))

end Sys2Proof.Machine
end

section
/-!
PROOFS. Refutation of O50: the fifth Abort of the PF that is outstanding fails at its fetch (R89), also where a packet tunnels it.
-/

namespace Sys2Proof.Machine

open Sys2Proof

/-- An Abort command. -/
def abortSqe : Sqe := ⟨true, 0x08, 7, 0, 0, 0, 0, 0, 0, 0⟩

/-- The reset device with PD_MGMT on and four Aborts of the PF outstanding. -/
def fourAborts : State :=
  { State.reset with
    pmu := { State.reset.pmu with on := .mgmt :: State.reset.pmu.on }
    hif := { State.reset.hif with slots := (List.range 4).map fun n => (n, freshSlot State.reset 0 0 abortSqe) } }

/-- Refutes O50: a tunnelled Abort that would pass its checks beside the four of `fourAborts` is the fifth once it holds a slot, so it fails with Abort Command
Limit Exceeded and its slot is free again. -/
theorem not_nvmeMi : ¬ Obligations.NvmeMi := by
  unfold Obligations.NvmeMi
  rintro ⟨-, -, -, -, -, -, -, hpacket, -⟩
  have hp : Powered fourAborts := by decide +kernel
  obtain ⟨t, ht, hslot, -⟩ := hpacket [] abortSqe fourAborts hp (by decide +kernel) (by decide +kernel) (by decide +kernel)
  have hfree : spFree fourAborts.hif.slots (fourAborts.hif.slots.length + 1) 0 = 4 := by decide +kernel
  have hgone : slotOf (onMctpPacket [] (some abortSqe) (cleared fourAborts)) 4 = none := by decide +kernel
  rw [hfree, eq_settle_of_exec (f := onMctpPacket [] (some abortSqe)) rfl hp ht, slotOf_settle] at hslot
  exact absurd (hgone.symm.trans hslot) nofun

end Sys2Proof.Machine
end

section
/-!
PROOFS. Refutation of O25: the first erases of a Block Erase wake the bays of their dies (R163, R194).
-/

namespace Sys2Proof.Machine

open Sys2Proof

/-- A bay that is the same has the same phase. -/
theorem phase_of_same {s t : State} (h : Part.bay.same s t) (b : Nat) : (bayOf t b).phase = (bayOf s b).phase := by
  obtain ⟨-, -, hbay⟩ := h
  exact (Bay.mk.inj (hbay b)).1

/-- A Sanitize command for a Block Erase, as it is fetched from the PF's admin queue. -/
def blockEraseSlot : CmdSlot := freshSlot State.reset 0 0 ⟨true, 0x84, 7, 0, 2, 0, 0, 0, 0, 0⟩

/-- The reset device, its bays off, with one die present and in service and the Sanitize command fetched. -/
def sanitizing : State :=
  putSlot (setBit (setBit State.reset (F.fchDieCfg_present 0 0)) (F.fchDieCfg_inservice 0 0)) 0 blockEraseSlot

/-- Refutes O25: a Block Erase does not leave the bays as they are. In `sanitizing` the erase queued on the die in service asks for the die's bay, which
is off. -/
theorem not_sanitize : ¬ Obligations.Sanitize := by
  unfold Obligations.Sanitize
  rintro ⟨-, -, -, herase, -⟩
  have hw : Works sanitizing := by decide +kernel
  obtain ⟨t, ht, -, -, -, -, -, -, honly⟩ := herase 0 blockEraseSlot sanitizing hw (by decide +kernel) (by decide +kernel)
    (by decide +kernel) (by decide +kernel) (by decide +kernel) (by decide +kernel) (by decide +kernel)
  have hbay : Part.bay.same sanitizing t := honly.1 .bay (by decide)
  have hoff : (bayOf sanitizing 0).phase = .off := by decide +kernel
  have hasked : (bayOf (settle (onSanitize 0 (cleared sanitizing))) 0).phase = .requested := by decide +kernel
  have hrun : exec (.sanitize 0) sanitizing = .next (settle (onSanitize 0 (cleared sanitizing))) := effectIn_on .data (onSanitize 0) hw.1 hw.2
  rw [Host.Outcome.next.inj (ht.symm.trans hrun)] at hbay
  exact absurd (hasked.symm.trans ((phase_of_same hbay 0).trans hoff)) (by decide)

end Sys2Proof.Machine
end

section
/-!
PROOFS. Refutation of O17: QUIET is written before the command that stops the VF ends (R134, R135).
-/

namespace Sys2Proof.Machine

open Sys2Proof

/-- A Secondary Offline of VF 1, as it is fetched from the PF's admin queue. -/
def offlineSlot : CmdSlot := freshSlot State.reset 0 0 ⟨true, 0x1C, 7, 0, 0x00010007, 0, 0, 0, 0, 0⟩

/-- A Read of the PF's I/O queue that has been admitted. -/
def runningRead : CmdSlot := { freshSlot State.reset 0 1 ⟨false, 0x02, 8, 1, 0, 0, 0, 0, 0, 0⟩ with phase := .admitted }

/-- The reset device with one VF and the PF's I/O stopped, whose slot table lists slot 0 twice: first the Secondary Offline, then an admitted Read of the
stopped queue. -/
def slotListedTwice : State :=
  let s := putFunc State.reset 0 { noFunc with stop := { noFunc.stop with byStopAll := true } }
  { s with vfm := { s.vfm with vfEnable := true, numVfs := 1 }, hif := { s.hif with slots := [(0, offlineSlot), (0, runningRead)] } }

/-- Refutes O17: where the slot table lists a slot twice, QUIET does not read what the stopped queues then hold. The Secondary Offline of `slotListedTwice`
writes it while the admitted Read is in the table, and its end takes both entries of its slot. -/
theorem not_controllers : ¬ Obligations.Controllers := by
  unfold Obligations.Controllers
  rintro ⟨hoffline, -⟩
  have hw : Works slotListedTwice := by decide +kernel
  obtain ⟨t, ht, -, hquiet, -⟩ := hoffline 0 offlineSlot slotListedTwice hw (by decide +kernel) (by decide +kernel) (by decide +kernel)
    (by decide +kernel) (by decide +kernel) (by decide +kernel)
  have hrun : exec (.secondaryOffline 0) slotListedTwice = .next (settle (onSecondaryOffline 0 (cleared slotListedTwice))) :=
    effectIn_on .data (onSecondaryOffline 0) hw.1 hw.2
  have hread : getF (onSecondaryOffline 0 (cleared slotListedTwice)) F.vfmReconf_quiet = 0 := by decide +kernel
  have hnow : quietNow (onSecondaryOffline 0 (cleared slotListedTwice)) = true := by decide +kernel
  rw [Host.Outcome.next.inj (ht.symm.trans hrun), getF_settle _ _ (by decide), quietNow_settle, hread, hnow] at hquiet
  exact absurd hquiet (by decide)

end Sys2Proof.Machine
end

section
/-!
SUPPORT. What recording a host interface event and raising an asynchronous event leave (R116, R119), and what a wake does (R485).
-/

namespace Sys2Proof.Machine

open Sys2Proof

/-- Events alone: the Host Interface Events page and the events that are pending at a function may have changed. -/
def EventOnly (s t : State) : Prop :=
  ∃ (E : List HieEntry) (L : Nat) (F : Sparse Func),
    t = { s with aon := { s.aon with events := E, lost := L }, hif := { s.hif with funcs := F } } ∧
      ∀ g, ∃ ev, spGet noFunc F g = { spGet noFunc s.hif.funcs g with pendingEvents := ev }

theorem EventOnly.func {s t : State} (h : EventOnly s t) (g : Nat) : ∃ ev, funcOf t g = { funcOf s g with pendingEvents := ev } := by
  obtain ⟨E, L, F, rfl, hF⟩ := h
  exact hF g

theorem EventOnly.regs {s t : State} (h : EventOnly s t) : t.regs = s.regs := by
  obtain ⟨E, L, F, rfl, -⟩ := h
  rfl

theorem EventOnly.heldCc {s t : State} (h : EventOnly s t) : t.aon.heldCc = s.aon.heldCc := by
  obtain ⟨E, L, F, rfl, -⟩ := h
  rfl

theorem EventOnly.only {s t : State} (h : EventOnly s t) : Only s t [.aon, .hif] [] := by
  obtain ⟨E, L, F, rfl, -⟩ := h
  exact only_mono (only_trans (only_others s (a := { s.aon with events := E, lost := L }) (ps := [.aon]))
    (only_changed _ (h := { s.hif with funcs := F }) (ps := [.hif]))) (by simp) (by simp)

theorem EventOnly.stop {s t : State} (h : EventOnly s t) (g : Nat) : (funcOf t g).stop = (funcOf s g).stop := by
  obtain ⟨ev, he⟩ := h.func g
  rw [he]

theorem eventOnly_refl (s : State) : EventOnly s s := ⟨s.aon.events, s.aon.lost, s.hif.funcs, rfl, fun g => ⟨(spGet noFunc s.hif.funcs g).pendingEvents, rfl⟩⟩

theorem eventOnly_raiseAsync (s : State) (f : Nat) (e : AsyncEvent) : EventOnly s (raiseAsync s f e) := by
  unfold raiseAsync
  dsimp only
  split
  · exact eventOnly_refl s
  · refine ⟨s.aon.events, s.aon.lost, _, rfl, fun g => ?_⟩
    by_cases hg : g = f
    · rw [hg, spGet_set_same]
      exact ⟨_, rfl⟩
    · rw [spGet_set_ne _ _ _ _ hg]
      exact ⟨_, rfl⟩

/-- The record of a host interface event as it is now. -/
def hieNow (s : State) (kind f off : Nat) : HieEntry := ⟨s.clk.ophours, s.clk.pwrcyc, kind, f, off, getF s F.pmuState_ps⟩

theorem hieRecord_room {s : State} (h : s.aon.events.length < 255) (kind f off : Nat) :
    hieRecord s kind f off =
      if s.aon.events.isEmpty then raiseAsync { s with aon := { s.aon with events := s.aon.events ++ [hieNow s kind f off] } } 0 .hostInterfaceEvents
      else { s with aon := { s.aon with events := s.aon.events ++ [hieNow s kind f off] } } := if_neg (Nat.not_le.2 h)

theorem eventOnly_hieRecord (s : State) (kind f off : Nat) : EventOnly s (hieRecord s kind f off) := by
  by_cases h : s.aon.events.length < 255
  · rw [hieRecord_room h]
    split
    · obtain ⟨E, L, F, he, hF⟩ :=
        eventOnly_raiseAsync { s with aon := { s.aon with events := s.aon.events ++ [hieNow s kind f off] } } 0 .hostInterfaceEvents
      exact ⟨E, L, F, he, hF⟩
    · exact ⟨_, s.aon.lost, s.hif.funcs, rfl, fun g => ⟨(spGet noFunc s.hif.funcs g).pendingEvents, rfl⟩⟩
  · rw [hieRecord, if_pos (Nat.not_lt.1 h)]
    exact ⟨s.aon.events, _, s.hif.funcs, rfl, fun g => ⟨(spGet noFunc s.hif.funcs g).pendingEvents, rfl⟩⟩

theorem aon_raiseAsync (s : State) (f : Nat) (e : AsyncEvent) : (raiseAsync s f e).aon = s.aon := by
  unfold raiseAsync
  dsimp only
  split <;> rfl

/-- The page has room for 255 events (R116). -/
theorem events_hieRecord {s : State} (h : s.aon.events.length < 255) (kind f off : Nat) :
    (hieRecord s kind f off).aon.events = s.aon.events ++ [hieNow s kind f off] := by
  rw [hieRecord_room h]
  split
  · rw [aon_raiseAsync]
  · rfl

/-- A wake is asked of the PMU, and changes the PMU alone. -/
theorem pmuRequest_wake (s : State) : ∃ p, pmuRequest s .wake = { s with pmu := p } := by
  have hstart : ∃ p, startChange s .wake = { s with pmu := p } := by
    unfold startChange
    dsimp only
    split
    · exact ⟨s.pmu, rfl⟩
    · exact ⟨_, rfl⟩
  unfold pmuRequest
  dsimp only
  split
  · exact ⟨s.pmu, rfl⟩
  · split
    · split
      · exact ⟨s.pmu, rfl⟩
      · split
        · exact ⟨_, rfl⟩
        · exact hstart
    · split
      · exact ⟨s.pmu, rfl⟩
      · exact ⟨_, rfl⟩
    · exact ⟨_, rfl⟩

theorem wakeRequest_shape (s : State) (source : Fld) : ∃ p, wakeRequest s source = { setF s source 1 with pmu := p } := pmuRequest_wake _

theorem only_wakeRequest (s : State) (source : Fld) : Only s (wakeRequest s source) [.pmu] [source.addr] := by
  obtain ⟨p, hp⟩ := wakeRequest_shape s source
  rw [hp]
  exact only_mono (only_trans (only_setF s source 1) (only_others _ (p := p) (ps := [.pmu]))) (by simp) (by simp)

theorem regs_wakeRequest (s : State) (source : Fld) : (wakeRequest s source).regs = (setF s source 1).regs := by
  obtain ⟨p, hp⟩ := wakeRequest_shape s source
  rw [hp]

/-- A one-bit field that is set reads 1. -/
theorem getF_setF_bit (s : State) {f : Fld} (hbit : f.lo = f.hi) (hin : f.hi < 64) : getF (setF s f 1) f = 1 := by
  rw [getF_setF_same _ _ _ hin (by omega), hbit]
  simp

/-- The bit of a wake's source reads 1. -/
theorem getF_wakeRequest (s : State) {source : Fld} (hbit : source.lo = source.hi) (hin : source.hi < 64) : getF (wakeRequest s source) source = 1 :=
  (getF_congr (regs_wakeRequest s source) source).trans (getF_setF_bit s hbit hin)

theorem flag_of_getF {s : State} {f : Fld} (h : getF s f = 1) : flag s f = true := by
  rw [flag, h]
  rfl

end Sys2Proof.Machine
end

section
/-!
PROOFS. Doorbells (R100, R101).
-/

namespace Sys2Proof.Machine

open Sys2Proof

/-- Of an enabled function a doorbell goes to its shadow entry while the shadow is in use, and to the queue engine else. -/
theorem doorbell_enabled {s : State} {f : Nat} (hex : funcExists s f = true) (hflr : (funcOf s f).stop.inFlr = false)
    (hen : ccEn (funcOf s f) = true) (qid : Nat) (cq : Bool) (v : Nat) :
    doorbell s f qid cq v = if entering s then storeShadow s f qid cq v else takeDoorbell s f qid cq v := by
  simp only [doorbell, hex, hflr, hen, Bool.not_true, Bool.or_self, Bool.false_eq_true, if_false]

/-- A tail in range is set, and a latched one is recorded besides. -/
theorem takeDoorbell_tail {s : State} {f qid v : Nat} {q : SubQ} (hq : spFind (funcOf s f).sqs qid = some q) (hv : v ≤ q.size) :
    takeDoorbell s f qid false v =
      if latched s f qid then hieRecord (setTail s f qid v q) 4 f (dbOffset qid false) else setTail s f qid v q := by
  simp only [takeDoorbell, hq, if_neg (Nat.not_lt.2 hv), Bool.false_eq_true, if_false]

/-- A head in range is set, and completions that waited for room are posted. -/
theorem takeDoorbell_head {s : State} {f qid v : Nat} {q : CplQ} (hq : spFind (funcOf s f).cqs qid = some q) (hv : v ≤ q.size)
    (hok : headOk q v = true) (hfree : latched s f qid = false) : takeDoorbell s f qid true v = postWaiting (setHead s f qid v q) := by
  have hlarge : decide (q.size < v) = false := decide_eq_false (Nat.not_lt.2 hv)
  simp only [takeDoorbell, hq, hlarge, hok, hfree, Bool.not_true, Bool.or_self, Bool.false_eq_true, if_false, if_true]

theorem sqs_setTail (s : State) (f qid v : Nat) (q : SubQ) : (funcOf (setTail s f qid v q) f).sqs = spPut (funcOf s f).sqs qid { q with tail := v } :=
  congrArg Func.sqs (funcOf_putFunc_same _ _ _)

theorem cqs_setHead (s : State) (f qid v : Nat) (q : CplQ) : (funcOf (setHead s f qid v q) f).cqs = spPut (funcOf s f).cqs qid { q with head := v } :=
  congrArg Func.cqs (funcOf_putFunc_same _ _ _)

theorem funcOf_settle (s : State) (f : Nat) : funcOf (settle s) f = funcOf s f := by
  rw [funcOf, settle_hif, funcOf]

/-- The state once a doorbell is in its shadow entry. -/
def shadowStored (s : State) (f qid : Nat) (cq : Bool) (v : Nat) : State :=
  { s with aon := { s.aon with shadow := spPut s.aon.shadow (shadowKey f qid cq) (v % 65536) } }

theorem only_shadowStored (s : State) (f qid : Nat) (cq : Bool) (v : Nat) : Only s (shadowStored s f qid cq v) [.aon] [] :=
  only_others s (a := (shadowStored s f qid cq v).aon) (ps := [.aon])

theorem storeShadow_later {s : State} (h : s.aon.shadow ≠ []) (f qid : Nat) (cq : Bool) (v : Nat) :
    storeShadow s f qid cq v = shadowStored s f qid cq v := by
  have hmore : s.aon.shadow.isEmpty = false := List.isEmpty_eq_false_iff.2 h
  simp only [storeShadow, hmore, Bool.false_eq_true, if_false]
  rfl

/-- The first doorbell that is shadowed also raises a wake. -/
theorem storeShadow_first {s : State} (h : s.aon.shadow = []) (f qid : Nat) (cq : Bool) (v : Nat) :
    storeShadow s f qid cq v = wakeRequest (setF (shadowStored s f qid cq v) F.hifDbsStat_wake 1) F.pmuWake_doorbell := by
  simp only [storeShadow, h, List.isEmpty_nil, if_true, setBit_eq]
  rw [shadowStored, h]

theorem completes_shadowFirst {f qid v : Nat} {s : State} (hp : Powered s) (hex : funcExists s f = true) (hflr : (funcOf s f).stop.inFlr = false)
    (hen : ccEn (funcOf s f) = true) (hin : entering s = true) (hfirst : s.aon.shadow = []) :
    Completes (.cqHeadDoorbell f qid v) s fun t =>
      t.aon.shadow = [(shadowKey f qid true, v % 65536)] ∧ flag t F.hifDbsStat_wake = true ∧ flag t F.pmuWake_doorbell = true ∧
        Only s t [.aon, .pmu] [F.hifDbsStat_wake.addr, F.pmuWake_doorbell.addr] := by
  let u := setF (shadowStored (cleared s) f qid true v) F.hifDbsStat_wake 1
  have hin' : entering (cleared s) = true := hin
  have hrun : onCqHeadDoorbell f qid v (cleared s) = wakeRequest u F.pmuWake_doorbell := by
    rw [onCqHeadDoorbell, doorbell_enabled (s := cleared s) hex hflr hen, if_pos hin', storeShadow_first (s := cleared s) hfirst]
  obtain ⟨p, hwake⟩ := wakeRequest_shape u F.pmuWake_doorbell
  refine completes_run rfl hp hrun ⟨?_, flag_of_getF ?_, flag_of_getF ?_, ?_⟩
  · rw [settle_aon, hwake]
    show spPut s.aon.shadow (shadowKey f qid true) (v % 65536) = _
    rw [hfirst]
    rfl
  · rw [getF_settle_apart (by decide) (by decide), getF_congr (regs_wakeRequest u F.pmuWake_doorbell), getF_setF_addr _ _ (by decide)]
    exact getF_setF_bit _ rfl (by decide)
  · rw [getF_settle _ _ (by decide)]
    exact getF_wakeRequest u rfl (by decide)
  · have honly : Only (cleared s) u [.aon] [F.hifDbsStat_wake.addr] :=
      only_mono (only_trans (only_shadowStored (cleared s) f qid true v) (only_setF _ F.hifDbsStat_wake 1)) (by simp) (by simp)
    exact only_settle (only_cleared (only_mono (only_trans honly (only_wakeRequest u F.pmuWake_doorbell)) (by simp) (by simp)))

/-- Settles O8: a doorbell of an enabled function sets its queue's tail or head, or is stored in its shadow entry. -/
theorem doorbells : Obligations.Doorbells := by
  unfold Obligations.Doorbells
  refine ⟨?tail, ?latchedTail, ?head, ?shadow, ?first⟩
  case tail =>
    intro f qid v q s hp hex hflr hen hin hq hv hfree
    have hin' : ¬ entering (cleared s) = true := ne_true_of_eq_false hin
    have hfree' : ¬ latched (cleared s) f qid = true := ne_true_of_eq_false hfree
    have hrun : onSqTailDoorbell f qid v (cleared s) = setTail (cleared s) f qid v q := by
      rw [onSqTailDoorbell, doorbell_enabled (s := cleared s) hex hflr hen, if_neg hin', takeDoorbell_tail (s := cleared s) hq hv, if_neg hfree']
    refine completes_run rfl hp hrun ⟨?_, fun i hi => ?_, only_settle (only_cleared (only_putFunc _ _ _))⟩
    · rw [funcOf_settle, sqs_setTail, spFind_put_same]
    · rw [funcOf_settle, sqs_setTail]
      exact spFind_put_ne _ _ hi
  case latchedTail =>
    intro f qid v q s hp hex hflr hen hin hq hv hlatched
    let u := setTail (cleared s) f qid v q
    have hin' : ¬ entering (cleared s) = true := ne_true_of_eq_false hin
    have hlatched' : latched (cleared s) f qid = true := hlatched
    have hrun : onSqTailDoorbell f qid v (cleared s) = hieRecord u 4 f (dbOffset qid false) := by
      rw [onSqTailDoorbell, doorbell_enabled (s := cleared s) hex hflr hen, if_neg hin', takeDoorbell_tail (s := cleared s) hq hv, if_pos hlatched']
    have hevent := eventOnly_hieRecord u 4 f (dbOffset qid false)
    refine completes_run rfl hp hrun ⟨?_, only_settle (only_cleared (only_mono (only_trans (only_putFunc _ _ _) hevent.only) (by simp) (by simp)))⟩
    obtain ⟨ev, hfunc⟩ := hevent.func f
    rw [funcOf_settle, hfunc]
    show spFind (funcOf u f).sqs qid = _
    rw [sqs_setTail, spFind_put_same]
  case head =>
    intro f qid v q s hp hex hflr hen hin hq hv hok hfree hnone
    have hin' : ¬ entering (cleared s) = true := ne_true_of_eq_false hin
    have hrun : onCqHeadDoorbell f qid v (cleared s) = setHead (cleared s) f qid v q := by
      rw [onCqHeadDoorbell, doorbell_enabled (s := cleared s) hex hflr hen, if_neg hin', takeDoorbell_head (s := cleared s) hq hv hok hfree]
      exact postWaiting_none hnone
    refine completes_run rfl hp hrun ⟨?_, fun i hi => ?_, only_settle (only_cleared (only_putFunc _ _ _))⟩
    · rw [funcOf_settle, cqs_setHead, spFind_put_same]
    · rw [funcOf_settle, cqs_setHead]
      exact spFind_put_ne _ _ hi
  case shadow =>
    intro f qid v s hp hex hflr hen hin hlater
    have hin' : entering (cleared s) = true := hin
    have hrun : onSqTailDoorbell f qid v (cleared s) = shadowStored (cleared s) f qid false v := by
      rw [onSqTailDoorbell, doorbell_enabled (s := cleared s) hex hflr hen, if_pos hin', storeShadow_later (s := cleared s) hlater]
    refine completes_run rfl hp hrun ⟨?_, only_settle (only_cleared (only_shadowStored _ _ _ _ _))⟩
    rw [settle_aon]
    exact spFind_put_same _ _ _
  case first => exact fun f qid v s hp hex hflr hen hin hfirst => completes_shadowFirst hp hex hflr hen hin hfirst

end Sys2Proof.Machine
end

section
/-!
PROOFS. Accesses to BAR 0 (R89, R102, R143, R621, R624).
-/

namespace Sys2Proof.Machine

open Sys2Proof

/-- An access of 4 or 8 aligned bytes within the BAR of a function that exists goes by PD_DATA and, with PD_DATA on, by its offset. -/
theorem onOffBarAccess_within {s : State} {f off size : Nat} (hex : funcExists s f = true) (hsize : size = 4 ∨ size = 8) (halign : off % size = 0)
    (hin : off + size ≤ if f = 0 then 0x2000000 else 0x4000) (write : Bool) (data : Word) :
    onOffBarAccess f off size write data s =
      if !domainOn s .data then offAccess s f off size write data
      else if 0x1000000 ≤ off then windowAccess s off size write data else barAccess s f off size write data := by
  have hbar : ¬ (!funcExists s f || decide ((if f = 0 then 0x2000000 else 0x4000) < off + size)) = true := by
    rw [hex, decide_eq_false (Nat.not_lt.2 hin)]
    exact Bool.false_ne_true
  have hform : ¬ (!(size == 4 || size == 8) || off % size != 0) = true := by
    rw [halign]
    rcases hsize with rfl | rfl <;> decide
  rw [onOffBarAccess, if_neg hbar, if_neg hform]

/-- Below the CSR window with PD_DATA on. -/
theorem onOffBarAccess_on {s : State} {f off size : Nat} (hex : funcExists s f = true) (hsize : size = 4 ∨ size = 8) (halign : off % size = 0)
    (hin : off + size ≤ if f = 0 then 0x2000000 else 0x4000) (hon : domainOn s .data = true) (hlow : off + size ≤ 0x1000000) (write : Bool)
    (data : Word) : onOffBarAccess f off size write data s = barAccess s f off size write data := by
  have hwindow : ¬ 0x1000000 ≤ off := by omega
  rw [onOffBarAccess_within hex hsize halign hin, hon, if_neg hwindow]
  rfl

theorem onOffBarAccess_off {s : State} {f off size : Nat} (hex : funcExists s f = true) (hsize : size = 4 ∨ size = 8) (halign : off % size = 0)
    (hin : off + size ≤ if f = 0 then 0x2000000 else 0x4000) (hoff : domainOn s .data = false) (write : Bool) (data : Word) :
    onOffBarAccess f off size write data s = offAccess s f off size write data := by
  rw [onOffBarAccess_within hex hsize halign hin, hoff]
  rfl

/-- A row that only puts out. -/
theorem completes_emits {i : Instr} {f : State → State} {s : State} {x : Output} (hi : exec i s = effect f s) (hp : Powered s)
    (hrun : f (cleared s) = emit (cleared s) x) : Completes i s fun t => x ∈ t.out ∧ Only s t [] [] :=
  completes_run hi hp hrun ⟨mem_settle_out (List.mem_singleton.2 rfl), only_settle (only_cleared (only_emit _ _))⟩

/-- The words of an access of 8 aligned bytes are both doorbells or both none. -/
theorem notDoorbell_of_words {off size : Nat} (hsize : size = 4 ∨ size = 8) (halign : off % size = 0)
    (h : (barWords off size).all doorbellAt = false) : ∀ o ∈ barWords off size, doorbellAt o = false := by
  rcases hsize with rfl | rfl
  · simpa [barWords] using h
  · simp only [barWords, if_true, List.all_cons, List.all_nil, Bool.and_true, doorbellAt, Bool.and_eq_false_iff, decide_eq_false_iff_not] at h
    intro o ho
    simp only [barWords, if_true, List.mem_cons, List.not_mem_nil, or_false] at ho
    simp only [doorbellAt, decide_eq_false_iff_not]
    rcases ho with rfl | rfl <;> omega

/-- A write of a word that is no doorbell does nothing at a frozen VF (R143). -/
theorem barPut_frozen {s : State} {f o : Nat} (hdb : doorbellAt o = false) (hfrozen : (funcOf s f).stop.frozen = true) (v : DWord) :
    barPut s f o v = s := by
  simp only [barPut, hdb, hfrozen, Bool.false_eq_true, if_false, if_true]

/-- At a frozen VF an access without doorbells is dropped and recorded, whether PD_DATA is on or off (R143). -/
theorem write_frozen {s : State} {f off size : Nat} (hex : funcExists s f = true) (hfrozen : (funcOf s f).stop.frozen = true)
    (hsize : size = 4 ∨ size = 8) (halign : off % size = 0) (hin : off + size ≤ if f = 0 then 0x2000000 else 0x4000) (hlow : off + size ≤ 0x1000000)
    (hdb : (barWords off size).all doorbellAt = false) (data : Word) : onOffBarAccess f off size true data s = hieRecord s 4 f off := by
  by_cases hon : domainOn s .data = true
  · have hstop : (funcOf (droppedWrite s f off) f).stop = (funcOf s f).stop := (eventOnly_hieRecord s 4 f off).stop f
    have hfrozen' : (funcOf (droppedWrite s f off) f).stop.frozen = true := by rw [hstop, hfrozen]
    rw [onOffBarAccess_on hex hsize halign hin hon hlow]
    simp only [barAccess, hfrozen, hdb, Bool.not_false, Bool.and_self, if_true]
    exact forEach_fixed fun o ho => barPut_frozen (notDoorbell_of_words hsize halign hdb o ho) hfrozen' _
  · rw [onOffBarAccess_off hex hsize halign hin (Bool.eq_false_iff.2 hon)]
    simp only [offAccess, hfrozen, hdb, Bool.not_false, Bool.and_self, if_true]
    rfl

/-- The count of accesses with PD_DATA off goes up by one, as far as it goes, and the access is recorded (R102, R104). -/
theorem eventOnly_recordOff (s : State) (f off : Nat) (write : Bool) :
    EventOnly (setF s F.hifErr_pwroffAccesses (min (getF s F.hifErr_pwroffAccesses + 1) 65535)) (recordOff s f off write) :=
  eventOnly_hieRecord _ _ _ _

theorem only_recordOff (s : State) (f off : Nat) (write : Bool) : Only s (recordOff s f off write) [.aon, .hif] [F.hifErr_pwroffAccesses.addr] :=
  only_mono (only_trans (only_setF s _ _) (eventOnly_recordOff s f off write).only) (by simp) (by simp)

theorem count_recordOff (s : State) (f off : Nat) (write : Bool) :
    getF (recordOff s f off write) F.hifErr_pwroffAccesses = min (getF s F.hifErr_pwroffAccesses + 1) 65535 := by
  rw [getF_congr (eventOnly_recordOff s f off write).regs, getF_setF_same _ _ _ (by decide) (by decide)]
  exact Nat.mod_eq_of_lt (Nat.lt_succ_of_le (Nat.min_le_right _ _))

theorem events_recordOff {s : State} (h : s.aon.events.length < 255) (f off : Nat) (write : Bool) :
    (recordOff s f off write).aon.events = s.aon.events ++ [hieNow s (if write then 2 else 1) f off] := by
  have hps : getF (incSat s F.hifErr_pwroffAccesses 1) F.pmuState_ps = getF s F.pmuState_ps := getF_setF_addr _ _ (by decide)
  refine (events_hieRecord (s := incSat s F.hifErr_pwroffAccesses 1) h _ f off).trans ?_
  rw [hieNow, hps]
  rfl

/-- What the mirror serves is not touched by the record of an access. -/
theorem mirrorWord_recordOff (s : State) (f off o : Nat) (write : Bool) : mirrorWord (recordOff s f off write) f o = mirrorWord s f o := by
  have hevent := eventOnly_recordOff s f off write
  obtain ⟨ev, hfunc⟩ := hevent.func f
  have hheld : (recordOff s f off write).aon.heldCc = s.aon.heldCc := hevent.heldCc
  have hfunc' : funcOf (recordOff s f off write) f = { funcOf s f with pendingEvents := ev } := hfunc
  simp only [mirrorWord, hheld, hfunc']
  cases spFind s.aon.heldCc f <;> rfl

theorem offAccess_read (s : State) (f off size : Nat) (data : Word) :
    offAccess s f off size false data =
      emit (if (barWords off size).all mirrored then s else recordOff s f off false)
        (.barRead f (joinWords ((barWords off size).map (mirrorWord s f)))) := by
  simp only [offAccess, Bool.false_and, Bool.false_eq_true, if_false]
  split
  · rfl
  · rw [List.map_congr_left fun o _ => mirrorWord_recordOff s f off o false]

/-- A write with PD_DATA off to neither CC nor a doorbell is dropped, counted and recorded. -/
theorem offAccess_refused {s : State} {f off size : Nat} (hlive : (funcOf s f).stop.frozen = false)
    (hother : ((barWords off size).any fun o => o == 0x14 || doorbellAt o) = false) (data : Word) :
    offAccess s f off size true data = recordOff s f off true := by
  have hwords : ∀ o ∈ barWords off size, (o == 0x14 || doorbellAt o) = false := fun o ho => by
    simpa using List.any_eq_false.1 hother o ho
  have hfirst : off ∈ barWords off size := by
    unfold barWords
    split <;> exact List.mem_cons_self
  have hall : ((barWords off size).all fun o => o == 0x14 || doorbellAt o) = false :=
    List.all_eq_false.2 ⟨off, hfirst, by rw [hwords off hfirst]; exact Bool.false_ne_true⟩
  simp only [offAccess, hlive, hall, Bool.and_false, Bool.false_and, Bool.false_eq_true, if_false, if_true]
  refine forEach_fixed fun o ho => ?_
  obtain ⟨hcc, hdb⟩ := Bool.or_eq_false_iff.1 (hwords o ho)
  rw [if_neg (beq_eq_false_iff_ne.1 hcc), if_neg (ne_true_of_eq_false hdb)]

/-- The state once a write to CC is held in the mirror. -/
def ccHeld (s : State) (f : Nat) (cc : DWord) : State := { s with aon := { s.aon with heldCc := spPut s.aon.heldCc f cc } }

theorem offAccess_cc {s : State} {f : Nat} (hlive : (funcOf s f).stop.frozen = false) (data : Word) :
    offAccess s f 0x14 4 true data = wakeRequest (ccHeld s f (data.truncate 32)) F.pmuWake_cc := by
  simp only [offAccess, hlive, Bool.and_false, Bool.false_and, Bool.false_eq_true, if_false, if_true]
  rfl

/-- VS reads 2.0 of every function (R89). -/
theorem propWord_version (x : Func) : propWord x 8 = 0x20000#32 := by simp [propWord]

theorem joinWords_version : joinWords [0x20000#32] = 0x20000#64 := by decide

theorem barRead_version (s : State) (f : Nat) : joinWords ((barWords 8 4).map (barWord s f)) = 0x20000#64 := by
  have hword : barWord s f 8 = 0x20000#32 := by
    rw [barWord, if_pos (by decide), propWord_version]
  rw [show barWords 8 4 = [8] from if_neg (by decide), List.map_singleton, hword, joinWords_version]

theorem mirrorRead_version (s : State) (f : Nat) : joinWords ((barWords 8 4).map (mirrorWord s f)) = 0x20000#64 := by
  have hword : mirrorWord s f 8 = 0x20000#32 := by
    rw [mirrorWord, if_pos (by decide), propWord_version]
  rw [show barWords 8 4 = [8] from if_neg (by decide), List.map_singleton, hword, joinWords_version]

/-- A row that records an access with PD_DATA off. -/
theorem recorded_settle {s u : State} {f off : Nat} {write : Bool} {x : List Output} (hroom : s.aon.events.length < 255)
    (hu : u = { recordOff (cleared s) f off write with out := x }) :
    getF (settle u) F.hifErr_pwroffAccesses = min (getF s F.hifErr_pwroffAccesses + 1) 65535 ∧
      (settle u).aon.events = s.aon.events ++ [hieNow s (if write then 2 else 1) f off] ∧ Only s (settle u) [.aon, .hif] [F.hifErr_pwroffAccesses.addr] := by
  subst hu
  refine ⟨?_, ?_, only_settle (only_cleared (only_mono (only_trans (only_recordOff _ f off write) (only_out _ x)) (by simp) (by simp)))⟩
  · rw [getF_settle _ _ (by decide)]
    exact count_recordOff (cleared s) f off write
  · rw [settle_aon]
    exact events_recordOff (s := cleared s) hroom f off write

/-- Settles O9: an access is refused, read from the registers or from the mirror, or recorded, as PD_DATA, the freeze and its words say. -/
theorem barAccesses : Obligations.BarAccess := by
  unfold Obligations.BarAccess
  refine ⟨?version, ?form, ?beyond, ?read, ?heldCc, ?mirror, ?refusedRead, ?refusedWrite, ?frozen⟩
  case version =>
    intro f data s hp hex
    have hin : 8 + 4 ≤ if f = 0 then 0x2000000 else 0x4000 := by split <;> decide
    by_cases hon : domainOn s .data = true
    · refine completes_emits rfl hp ?_
      rw [onOffBarAccess_on (s := cleared s) hex (.inl rfl) rfl hin hon (by decide), ← barRead_version (cleared s) f]
      rfl
    · refine completes_emits rfl hp ?_
      rw [onOffBarAccess_off (s := cleared s) hex (.inl rfl) rfl hin (Bool.eq_false_iff.2 hon), offAccess_read, mirrorRead_version]
      rfl
  case form =>
    intro f off size write data s hp hex hin hform
    refine completes_emits rfl hp ?_
    have hbar : ¬ (!funcExists (cleared s) f || decide ((if f = 0 then 0x2000000 else 0x4000) < off + size)) = true := by
      rw [show funcExists (cleared s) f = true from hex, decide_eq_false (Nat.not_lt.2 hin)]
      exact Bool.false_ne_true
    have hbad : (!(size == 4 || size == 8) || off % size != 0) = true := by
      rcases hform with ⟨h4, h8⟩ | halign
      · simp [h4, h8]
      · simp [halign]
    rw [onOffBarAccess, if_neg hbar, if_pos hbad]
  case beyond =>
    intro f off size write data s hp hout
    refine completes_emits rfl hp (if_pos ?_)
    rcases hout with h | h
    · rw [show funcExists (cleared s) f = false from h]
      rfl
    · rw [decide_eq_true h, Bool.or_true]
  case read =>
    intro f off size data s hw hex hsize halign hin hlow
    refine completes_emits rfl hw.1 ?_
    rw [onOffBarAccess_on (s := cleared s) hex hsize halign hin hw.2 hlow]
    rfl
  case heldCc =>
    intro f data s hp hex hoff hlive
    let u := ccHeld (cleared s) f (data.truncate 32)
    have hin : 0x14 + 4 ≤ if f = 0 then 0x2000000 else 0x4000 := by split <;> decide
    have hrun : onOffBarAccess f 0x14 4 true data (cleared s) = wakeRequest u F.pmuWake_cc := by
      rw [onOffBarAccess_off (s := cleared s) hex (.inl rfl) rfl hin hoff, offAccess_cc (s := cleared s) hlive]
    have honly : Only (cleared s) u [.aon] [] := only_others _ (a := u.aon) (ps := [.aon])
    refine completes_run rfl hp hrun ⟨?_, flag_of_getF ?_, ?_⟩
    · obtain ⟨p, hwake⟩ := wakeRequest_shape u F.pmuWake_cc
      rw [settle_aon, hwake]
      exact spFind_put_same _ _ _
    · rw [getF_settle _ _ (by decide)]
      exact getF_wakeRequest u rfl (by decide)
    · exact only_settle (only_cleared (only_mono (only_trans honly (only_wakeRequest u F.pmuWake_cc)) (by simp) (by simp)))
  case mirror =>
    intro f off size data s hp hex hoff hsize halign hin hserved
    refine completes_emits rfl hp ?_
    rw [onOffBarAccess_off (s := cleared s) hex hsize halign hin hoff, offAccess_read, if_pos hserved]
    rfl
  case refusedRead =>
    intro f off size data s hp hex hoff hsize halign hin hserved hroom
    have hrun : onOffBarAccess f off size false data (cleared s) =
        emit (recordOff (cleared s) f off false) (.barRead f (joinWords ((barWords off size).map (mirrorWord s f)))) := by
      rw [onOffBarAccess_off (s := cleared s) hex hsize halign hin hoff, offAccess_read, if_neg (ne_true_of_eq_false hserved)]
      rfl
    exact completes_run rfl hp hrun ⟨mem_settle_out (List.mem_append_right _ (List.mem_singleton.2 rfl)), recorded_settle hroom rfl⟩
  case refusedWrite =>
    intro f off size data s hp hex hoff hlive hsize halign hin hother hroom
    have hrun : onOffBarAccess f off size true data (cleared s) = recordOff (cleared s) f off true := by
      rw [onOffBarAccess_off (s := cleared s) hex hsize halign hin hoff, offAccess_refused (s := cleared s) hlive hother]
    exact completes_run rfl hp hrun (recorded_settle hroom rfl)
  case frozen =>
    intro f off size data s hp hex hfrozen hsize halign hin hlow hdb hroom
    have hrun : onOffBarAccess f off size true data (cleared s) = hieRecord (cleared s) 4 f off :=
      write_frozen (s := cleared s) hex hfrozen hsize halign hin hlow hdb data
    refine completes_run rfl hp hrun ⟨?_, only_settle (only_cleared (eventOnly_hieRecord _ _ _ _).only)⟩
    rw [settle_aon]
    exact events_hieRecord (s := cleared s) hroom 4 f off

end Sys2Proof.Machine
end

section
/-!
SUPPORT. The SPDM responder: what serving a request, answering it and signing come to.
-/

namespace Sys2Proof.Machine

open Sys2Proof

/-- The responder runs and the connection of a transport stands at `x`. -/
def Connected (s : State) (tr : Nat) (x : Spdm) : Prop := responderRuns s = true ∧ tr < 2 ∧ spdmOf s tr = x

theorem withSpdm_serves {s : State} {tr : Nat} {x : Spdm} {need : Spdm → Bool} (h : Connected s tr x) (hneed : need x = true) (f : Spdm → State) :
    withSpdm s tr need f = f x := by
  obtain ⟨hruns, htr, hx⟩ := h
  have hone : decide (1 < tr) = false := decide_eq_false (by omega)
  simp only [withSpdm, hruns, hone, hx, hneed, Bool.not_true, Bool.or_self, Bool.false_eq_true, if_false, if_true]

/-- A request before its turn is answered Unexpected Request. -/
theorem withSpdm_early {s : State} {tr : Nat} {x : Spdm} {need : Spdm → Bool} (h : Connected s tr x) (hneed : need x = false) (f : Spdm → State) :
    withSpdm s tr need f = spdmError s errUnexpected := by
  obtain ⟨hruns, htr, hx⟩ := h
  have hone : decide (1 < tr) = false := decide_eq_false (by omega)
  simp only [withSpdm, hruns, hone, hx, hneed, Bool.not_true, Bool.or_self, Bool.false_eq_true, if_false]

theorem withSpdm_asleep {s : State} (h : responderRuns s = false) (tr : Nat) (need : Spdm → Bool) (f : Spdm → State) : withSpdm s tr need f = s := by
  simp only [withSpdm, h, Bool.not_false, Bool.true_or, if_true]

theorem spdmOf_putSpdm_same (s : State) (tr : Nat) (x : Spdm) : spdmOf (putSpdm s tr x) tr = x := spGet_set_same _ _ _ _

/-- Without a limit on its size a response goes out whole. -/
theorem respondSpdm_whole {s : State} {tr : Nat} (h : (spdmOf s tr).transfer = 0) (code : Nat) (fields : List (Nat × List Byte)) :
    respondSpdm s tr code fields = emit s (.spdm code fields) := if_neg fun hlarge => hlarge.1 h

theorem answerSpdm_whole {x : Spdm} (h : x.transfer = 0) (s : State) (tr : Nat) (req : List Byte) (code : Nat) (fields : List (Nat × List Byte)) :
    answerSpdm s tr x req code fields = emit (putSpdm s tr (x.note (req ++ spdmMsg code fields))) (.spdm code fields) :=
  respondSpdm_whole (by rw [spdmOf_putSpdm_same]; exact h) _ _

/-- Whatever its size, an answer changes the connection's transcript and perhaps what is kept for chunked transfer. -/
theorem answerSpdm_shape (s : State) (tr : Nat) (x : Spdm) (req : List Byte) (code : Nat) (fields : List (Nat × List Byte)) :
    ∃ cs q m o, answerSpdm s tr x req code fields = { s with spdm := m, out := s.out ++ [o] } ∧
      spGet noSpdm m tr = { x.note (req ++ spdmMsg code fields) with chunks := cs, chunkSeq := q } ∧
      ∀ i, i ≠ tr → spGet noSpdm m i = spGet noSpdm s.spdm i := by
  let y := x.note (req ++ spdmMsg code fields)
  have hy : spdmOf (putSpdm s tr y) tr = y := spdmOf_putSpdm_same s tr y
  unfold answerSpdm respondSpdm
  dsimp only
  rw [hy]
  split
  · exact ⟨_, _, _, _, rfl, spGet_set_same _ _ _ _, fun i hi => (spGet_set_ne _ _ _ _ hi).trans (spGet_set_ne _ _ _ _ hi)⟩
  · exact ⟨y.chunks, y.chunkSeq, _, _, rfl, spGet_set_same _ _ _ _, fun i hi => spGet_set_ne _ _ _ _ hi⟩

/-- A signature takes one free value and changes nothing else. -/
theorem spdmSign_state (s : State) (x : Spdm) (context : String) (more : List Byte) : (spdmSign s x context more).2 = { s with free := s.free + 1 } := by
  unfold spdmSign
  dsimp only
  split <;> rfl

/-- A signature is made of the lifecycle, the responder's key and the next free value. -/
theorem spdmSign_congr {s t : State} (hlc : lifecycle t = lifecycle s) (hkey : aliasPrivate (draw t).2 = aliasPrivate (draw s).2) (hfree : t.free = s.free)
    (x : Spdm) (context : String) (more : List Byte) : (spdmSign t x context more).1 = (spdmSign s x context more).1 := by
  have hbytes : ∀ n, (drawBytes t n).1 = (drawBytes s n).1 := fun n => by rw [drawBytes, drawBytes, hfree]
  have hdraw : (draw t).1 = (draw s).1 := by rw [draw, draw, hfree]
  unfold spdmSign
  dsimp only
  rw [hlc, hkey, hdraw]
  split
  · exact hbytes _
  · rfl

theorem spdmSign_cleared (s : State) (n : Nat) (x : Spdm) (context : String) (more : List Byte) :
    (spdmSign { cleared s with free := n } x context more).1 = (spdmSign { s with free := n } x context more).1 :=
  spdmSign_congr (s := { s with free := n }) (t := { cleared s with free := n }) rfl rfl rfl x context more

theorem only_spdm (s : State) {ps : List Part} (m : Sparse Spdm) (n : Nat) (hm : .spdm ∈ ps ∨ m = s.spdm) (hn : .free ∈ ps ∨ n = s.free) :
    Only s { s with spdm := m, free := n } ps [] := by
  have hparts : Only s { s with spdm := m } ps [] := only_others s (d := m) (hd := fun h => hm.resolve_left h)
  have hfree : Only { s with spdm := m } { s with spdm := m, free := n } ps [] := only_changed _ (f := n) (hf := fun h => hn.resolve_left h)
  exact only_mono (only_trans hparts hfree) (by simp) (by simp)

/-- A row of the responder that changes connections and free values, and puts out. -/
theorem completes_connection {i : Instr} {f : State → State} {s : State} {tr n : Nat} {x : Spdm} {m : Sparse Spdm} {os : List Output} {ps : List Part}
    (hi : exec i s = effect f s) (hp : Powered s) (hrun : f (cleared s) = { cleared s with spdm := m, free := n, out := os })
    (hx : spGet noSpdm m tr = x) (hothers : ∀ j, j ≠ tr → spGet noSpdm m j = spGet noSpdm s.spdm j) (hm : .spdm ∈ ps ∨ m = s.spdm)
    (hn : .free ∈ ps ∨ n = s.free) :
    Completes i s fun t => spdmOf t tr = x ∧ os <+: t.out ∧ (∀ j, j ≠ tr → spdmOf t j = spdmOf s j) ∧ Only s t ps [] := by
  refine completes_run hi hp hrun ⟨?_, ?_, fun j hj => ?_, ?_⟩
  · rw [spdmOf, settle_spdm]
    exact hx
  · exact out_prefix_settle { cleared s with spdm := m, free := n, out := os }
  · rw [spdmOf, settle_spdm]
    exact hothers j hj
  · exact only_settle (only_cleared (only_mono (only_trans (only_spdm (cleared s) m n hm hn) (only_out _ os)) (by simp) (by simp)))

/-- A row that takes a connection on and responds. -/
theorem completes_responds {i : Instr} {f : State → State} {s : State} {tr n : Nat} {x : Spdm} {code : Nat} {fields : List (Nat × List Byte)}
    {ps : List Part} (hi : exec i s = effect f s) (hp : Powered s)
    (hrun : f (cleared s) = emit (putSpdm { cleared s with free := n } tr x) (.spdm code fields)) (hm : .spdm ∈ ps) (hn : .free ∈ ps ∨ n = s.free) :
    Completes i s fun t => spdmOf t tr = x ∧ [Output.spdm code fields] <+: t.out ∧ (∀ j, j ≠ tr → spdmOf t j = spdmOf s j) ∧ Only s t ps [] :=
  completes_connection hi hp (m := spSet noSpdm s.spdm tr x) (n := n) (os := [.spdm code fields]) hrun (spGet_set_same _ _ _ _)
    (fun _ hj => spGet_set_ne _ _ _ _ hj) (.inl hm) hn

/-- A row that puts out one thing and changes nothing. -/
theorem completes_puts {i : Instr} {f : State → State} {s : State} {x : Output} (hi : exec i s = effect f s) (hp : Powered s)
    (hrun : f (cleared s) = emit (cleared s) x) : Completes i s fun t => [x] <+: t.out ∧ Only s t [] [] :=
  completes_run hi hp hrun ⟨emitted_prefix rfl x, only_settle (only_cleared (only_emit _ _))⟩

end Sys2Proof.Machine
end

section
/-!
PROOFS. The SPDM responder (R88, R122, R431, R432).
-/

namespace Sys2Proof.Machine

open Sys2Proof

/-- A row that answers a request whole, both kept in the transcript. -/
theorem completes_answered {i : Instr} {f : State → State} {s : State} {tr n : Nat} {x : Spdm} {req : List Byte} {code : Nat}
    {fields : List (Nat × List Byte)} {ps : List Part} (hi : exec i s = effect f s) (hp : Powered s) (hwhole : x.transfer = 0)
    (hrun : f (cleared s) = answerSpdm { cleared s with free := n } tr x req code fields) (hm : .spdm ∈ ps) (hn : .free ∈ ps ∨ n = s.free) :
    Completes i s fun t => spdmOf t tr = x.note (req ++ spdmMsg code fields) ∧ [Output.spdm code fields] <+: t.out ∧
      (∀ j, j ≠ tr → spdmOf t j = spdmOf s j) ∧ Only s t ps [] :=
  completes_responds hi hp (hrun.trans (answerSpdm_whole hwhole _ _ _ _ _)) hm hn

/-- A row that answers a request with an error and leaves the connection where it is. -/
theorem completes_spdmError {i : Instr} {f : State → State} {s : State} {code : Nat} (hi : exec i s = effect f s) (hp : Powered s)
    (hrun : f (cleared s) = spdmError (cleared s) code) :
    Completes i s fun t => [Output.spdm 0x7F [(0, leBytes 1 code)]] <+: t.out ∧ Only s t [] [] := completes_puts hi hp hrun

/-- CHALLENGE, where it is served. -/
theorem onChallenge_serves {s : State} {tr slot : Nat} {x : Spdm} (h : Connected s tr x) (hneg : x.negotiated = true) (hslot : slot < 2)
    (nonce : List Byte) :
    let req := spdmMsg 0x83 [(0, leBytes 1 slot), (1, nonce)]
    let body := [(0, leBytes 1 slot), (1, spdmHash x (certChain s slot)), (2, leBytes 32 (Config.freeNat s.free)), (3, nonce)]
    onChallenge tr slot nonce s = answerSpdm { s with free := s.free + 2 } tr x req 0x03
      (body ++ [(4, (spdmSign { s with free := s.free + 1 } x "responder-challenge_auth signing" (req ++ spdmMsg 0x03 body)).1)]) := by
  intro req body
  have hslot' : ¬ 1 < slot := by omega
  have hsign := spdmSign_state { s with free := s.free + 1 } x "responder-challenge_auth signing" (req ++ spdmMsg 0x03 body)
  rw [onChallenge, withSpdm_serves h hneg, if_neg hslot']
  exact congrArg (fun u => answerSpdm u tr x req 0x03 _) hsign

/-- GET_MEASUREMENTS of some indices without a signature. -/
theorem onGetMeasurements_plain {s : State} {tr i : Nat} {x : Spdm} (h : Connected s tr x) (hneg : x.negotiated = true) (hi : i ≤ 7 ∨ i = 0xFF)
    (nonce : List Byte) :
    onGetMeasurements tr i false nonce s = answerSpdm s tr x (spdmMsg 0xE0 [(0, leBytes 1 0), (1, leBytes 1 i), (2, nonce)]) 0x60
      ([(0, leBytes 1 (if i = 0 then 7 else (if i = 0xFF then [1, 2, 3, 4, 5, 6, 7] else if i = 0 then [] else [i]).length))] ++
        (if i = 0xFF then [1, 2, 3, 4, 5, 6, 7] else if i = 0 then [] else [i]).map fun i => (i, measurement s x i)) := by
  have hserved : ¬ (7 < i ∧ i ≠ 0xFF) := by omega
  rw [onGetMeasurements, withSpdm_serves h hneg, if_neg hserved]
  rfl

/-- GET_MEASUREMENTS of one index with a signature. -/
theorem onGetMeasurements_signed {s : State} {tr i : Nat} {x : Spdm} (h : Connected s tr x) (hneg : x.negotiated = true) (hpos : 0 < i) (hi : i ≤ 7)
    (nonce : List Byte) :
    let req := spdmMsg 0xE0 [(0, leBytes 1 1), (1, leBytes 1 i), (2, nonce)]
    let body := [(0, [1#8]), (i, measurement s x i)] ++ [(8, leBytes 32 (Config.freeNat s.free)), (9, nonce)]
    onGetMeasurements tr i true nonce s = answerSpdm { s with free := s.free + 2 } tr x req 0x60
      (body ++ [(10, (spdmSign { s with free := s.free + 1 } x "responder-measurements signing" (req ++ spdmMsg 0x60 body)).1)]) := by
  intro req body
  have hserved : ¬ (7 < i ∧ i ≠ 0xFF) := by omega
  have hone : i ≠ 0 := by omega
  have hall : i ≠ 0xFF := by omega
  have hsign := spdmSign_state { s with free := s.free + 1 } x "responder-measurements signing" (req ++ spdmMsg 0x60 body)
  rw [onGetMeasurements, withSpdm_serves h hneg, if_neg hserved]
  simp only [if_neg hone, if_neg hall]
  exact congrArg (fun u => answerSpdm u tr x req 0x60 _) hsign

/-- What KEY_EXCHANGE opens: a session with its number, its secret and no record yet (R122). -/
structure SessionOpened (x : Spdm) (id : Nat) (z : List Byte) (k : SpdmSession) : Prop where
  id : k.id = id
  handshake : k.finished = false
  secret : k.secret = spdmMac x (List.replicate (spdmSize x) 0) z
  rx : k.rx = 0
  tx : k.tx = 0

theorem onKeyExchange_opens {s : State} {tr slot : Nat} {wide : Bool} {pub z : List Byte} {x : Spdm} (h : Connected s tr x) (hneg : x.negotiated = true)
    (hwhole : x.transfer = 0) (hslot : slot < 2) (hdhe : x.dhe384 = some wide)
    (hz : ecdh (curveOf wide) (Config.freeNat s.free % ((curveOf wide).n - 1) + 1) pub = some z) :
    ∃ y k fields, onKeyExchange tr slot pub s = emit (putSpdm { s with free := s.free + 3 } tr (putSession y k)) (.spdm 0x64 fields) ∧
      y.sessions = x.sessions ∧ SessionOpened x (Config.freeNat (s.free + 1) % 65536) z k := by
  have hslot' : slot ≤ 1 := by omega
  rw [onKeyExchange, withSpdm_serves h hneg]
  simp only [hdhe, draw, if_pos hslot', hz, spdmSign_state]
  rw [respondSpdm_whole (by rw [spdmOf_putSpdm_same]; exact hwhole)]
  exact ⟨_, _, _, rfl, rfl, rfl, rfl, rfl, rfl, rfl⟩

theorem onKeyExchange_fails {s : State} {tr slot : Nat} {wide : Bool} {pub : List Byte} {x : Spdm} (h : Connected s tr x) (hneg : x.negotiated = true)
    (hslot : slot < 2) (hdhe : x.dhe384 = some wide) (hz : ecdh (curveOf wide) (Config.freeNat s.free % ((curveOf wide).n - 1) + 1) pub = none) :
    onKeyExchange tr slot pub s = spdmError { s with free := s.free + 1 } errInvalid := by
  have hslot' : slot ≤ 1 := by omega
  rw [onKeyExchange, withSpdm_serves h hneg]
  simp only [hdhe, draw, if_pos hslot', hz]

theorem completes_keyExchange {tr slot : Nat} {wide : Bool} {pub : List Byte} {x : Spdm} {s : State} (hp : Powered s) (h : Connected s tr x)
    (hneg : x.negotiated = true) (hwhole : x.transfer = 0) (hslot : slot < 2) (hdhe : x.dhe384 = some wide) :
    Completes (.keyExchange tr slot pub) s fun t =>
      True ∧ (∀ z, ecdh (curveOf wide) (Config.freeNat s.free % ((curveOf wide).n - 1) + 1) pub = some z → ∃ k ∈ (spdmOf t tr).sessions,
          k.id = Config.freeNat (s.free + 1) % 65536 ∧ k.finished = false ∧ k.secret = spdmMac x (List.replicate (spdmSize x) 0) z ∧ k.rx = 0 ∧
            k.tx = 0) ∧
        (∀ k ∈ x.sessions, k.id ≠ Config.freeNat (s.free + 1) % 65536 → k ∈ (spdmOf t tr).sessions) ∧
        (ecdh (curveOf wide) (Config.freeNat s.free % ((curveOf wide).n - 1) + 1) pub = none →
          spdmOf t tr = x ∧ [Output.spdm 0x7F [(0, [1#8])]] <+: t.out) ∧
        (∀ i, i ≠ tr → spdmOf t i = spdmOf s i) ∧ Only s t [.free, .spdm] [] := by
  have hcleared : Connected (cleared s) tr x := h
  cases hz : ecdh (curveOf wide) (Config.freeNat s.free % ((curveOf wide).n - 1) + 1) pub with
  | none =>
    have hrun := onKeyExchange_fails (s := cleared s) hcleared hneg hslot hdhe hz
    refine (completes_connection rfl hp (m := s.spdm) (n := s.free + 1) (ps := [.free, .spdm]) hrun h.2.2 (fun _ _ => rfl) (by simp)
      (by simp)).mono fun t ⟨hconn, hout, hothers, honly⟩ => ⟨trivial, nofun, fun k hk _ => ?_, fun _ => ⟨hconn, hout⟩, hothers, honly⟩
    rw [hconn]
    exact hk
  | some z =>
    obtain ⟨y, k, fields, hrun, hkept, hopen⟩ := onKeyExchange_opens (s := cleared s) hcleared hneg hwhole hslot hdhe hz
    refine (completes_responds (ps := [.free, .spdm]) rfl hp hrun (by simp) (by simp)).mono fun t ⟨hconn, _, hothers, honly⟩ =>
      ⟨trivial, fun z' hz' => ?_, fun o ho hid => ?_, nofun, hothers, honly⟩
    · obtain rfl := Option.some.inj hz'
      rw [hconn]
      exact ⟨k, by simp [putSession], hopen.id, hopen.handshake, hopen.secret, hopen.rx, hopen.tx⟩
    · rw [hconn]
      have hne : o.id ≠ k.id := fun he => hid (he.trans hopen.id)
      simp only [putSession, hkept, List.mem_append, List.mem_filter, ho, bne_iff_ne, ne_eq, hne, not_false_eq_true, and_self, true_or]

/-- FINISH that proves its session: the response is its last record under the handshake keys, and the session goes on under the application's. -/
theorem onFinish_proves {s : State} {id : Nat} {k : SpdmSession} {x : Spdm} {record : List Byte} (h : Connected s 1 x) (hneg : x.negotiated = true)
    (hfind : (x.sessions.find? fun o => o.id == id && !o.finished) = some k)
    (hopen : openRecord x k false k.rx record = some (spdmMsg 0xE5 [] ++ verifyData x k false (x.script ++ spdmMsg 0xE5 []))) :
    onFinish 1 id record s = putSpdm (respondSealed s 1 x { k with rx := k.rx + 1 } 0x65 []) 1
      (putSession x (finishedSession x k (x.script ++ spdmMsg 0xE5 [] ++ verifyData x k false (x.script ++ spdmMsg 0xE5 []) ++ spdmMsg 0x65 []))) := by
  have hmctp : overMctp 1 = true := rfl
  rw [onFinish, withSpdm_serves h hneg]
  simp only [hmctp, hfind, if_pos hopen, Bool.not_true, Bool.false_eq_true, if_false]

theorem onFinish_ends {s : State} {id : Nat} {k : SpdmSession} {x : Spdm} {record : List Byte} (h : Connected s 1 x) (hneg : x.negotiated = true)
    (hfind : (x.sessions.find? fun o => o.id == id && !o.finished) = some k)
    (hopen : openRecord x k false k.rx record ≠ some (spdmMsg 0xE5 [] ++ verifyData x k false (x.script ++ spdmMsg 0xE5 []))) :
    onFinish 1 id record s = spdmError (putSpdm s 1 (endSession x id)) errDecrypt := by
  have hmctp : overMctp 1 = true := rfl
  rw [onFinish, withSpdm_serves h hneg]
  simp only [hmctp, hfind, if_neg hopen, Bool.not_true, Bool.false_eq_true, if_false]

theorem onEndSession_ends {s : State} {id : Nat} {k : SpdmSession} {x : Spdm} {record : List Byte} (h : Connected s 1 x) (hneg : x.negotiated = true)
    (hfind : (x.sessions.find? fun o => o.id == id && o.finished) = some k) (hopen : openRecord x k false k.rx record = some (spdmMsg 0xEC [])) :
    onEndSession 1 id record s = putSpdm (respondSealed s 1 x k 0x6C []) 1 (endSession x id) := by
  have hmctp : overMctp 1 = true := rfl
  rw [onEndSession, withSpdm_serves h hneg]
  simp only [hmctp, hfind, if_pos hopen, Bool.not_true, Bool.false_eq_true, if_false]

/-- A row that responds under a session and then takes the connection on. -/
theorem completes_sealed {i : Instr} {f : State → State} {s : State} {x y : Spdm} {k : SpdmSession} {code : Nat} (hi : exec i s = effect f s)
    (hp : Powered s) (hrun : f (cleared s) = putSpdm (respondSealed (cleared s) 1 x k code []) 1 y) :
    Completes i s fun t => spdmOf t 1 = y ∧ [Output.spdm code [(0, sealRecord x k true k.tx (spdmMsg code []))]] <+: t.out ∧
      (∀ j, j ≠ 1 → spdmOf t j = spdmOf s j) ∧ Only s t [.spdm] [] :=
  completes_connection hi hp (m := spSet noSpdm (spSet noSpdm s.spdm 1 (putSession x { k with tx := k.tx + 1 })) 1 y) (n := s.free)
    (os := [.spdm code [(0, sealRecord x k true k.tx (spdmMsg code []))]]) hrun (spGet_set_same _ _ _ _)
    (fun _ hj => (spGet_set_ne _ _ _ _ hj).trans (spGet_set_ne _ _ _ _ hj)) (by simp) (.inr rfl)

/-- The DOE mailbox carries no session. -/
theorem onFinish_doe {s : State} {x : Spdm} (h : Connected s 0 x) (hneg : x.negotiated = true) (id : Nat) (record : List Byte) :
    onFinish 0 id record s = spdmError s errUnsupported := by
  rw [onFinish, withSpdm_serves h hneg]
  rfl

theorem onEndSession_doe {s : State} {x : Spdm} (h : Connected s 0 x) (hneg : x.negotiated = true) (id : Nat) (record : List Byte) :
    onEndSession 0 id record s = spdmError s errUnsupported := by
  rw [onEndSession, withSpdm_serves h hneg]
  rfl

/-- The next chunk of a large response. -/
theorem onChunkedTransfer_fetch {s : State} {tr : Nat} {x : Spdm} (h : Connected s tr x) (hcap : x.capabilities = true) (hmore : x.chunks ≠ [])
    (hlimit : x.transfer ≠ 0) :
    onChunkedTransfer tr true x.chunkSeq false [] s =
      emit (putSpdm s tr { x with chunks := x.chunks.drop x.transfer, chunkSeq := x.chunkSeq + 1 })
        (.spdm 0x06 [(0, leBytes 2 x.chunkSeq), (1, [BitVec.ofNat 8 (b2n (x.chunks.drop x.transfer).isEmpty)]), (2, x.chunks.take x.transfer)]) := by
  have hturn : ¬ (x.chunkSeq ≠ x.chunkSeq ∨ x.chunks.isEmpty = true ∨ x.transfer = 0) := by
    simp [List.isEmpty_iff, hmore, hlimit]
  rw [onChunkedTransfer, withSpdm_serves h hcap]
  exact if_neg hturn

/-- The next chunk of a large request, and the last of one. -/
theorem onChunkedTransfer_more {s : State} {tr : Nat} {x : Spdm} (h : Connected s tr x) (hcap : x.capabilities = true) (hseq : x.chunkSeq ≠ 0)
    (data : List Byte) :
    onChunkedTransfer tr false x.chunkSeq false data s =
      emit (putSpdm s tr { x with chunks := x.chunks ++ data, chunkSeq := x.chunkSeq + 1 }) (.spdm 0x05 [(0, leBytes 2 x.chunkSeq)]) := by
  have hturn : ¬ (x.chunkSeq ≠ 0 ∧ x.chunkSeq ≠ x.chunkSeq) := fun hne => hne.2 rfl
  rw [onChunkedTransfer, withSpdm_serves h hcap]
  simp only [if_neg hturn, if_neg hseq, Bool.false_eq_true, if_false]

theorem onChunkedTransfer_last {s : State} {tr : Nat} {x : Spdm} (h : Connected s tr x) (hcap : x.capabilities = true) (hseq : x.chunkSeq ≠ 0)
    (data : List Byte) :
    onChunkedTransfer tr false x.chunkSeq true data s =
      serveSpdm tr (x.chunks ++ data) (emit (putSpdm s tr { x with chunks := [], chunkSeq := 0 }) (.spdm 0x05 [(0, leBytes 2 x.chunkSeq)])) := by
  have hturn : ¬ (x.chunkSeq ≠ 0 ∧ x.chunkSeq ≠ x.chunkSeq) := fun hne => hne.2 rfl
  rw [onChunkedTransfer, withSpdm_serves h hcap]
  simp only [if_neg hturn, if_neg hseq, Bool.false_eq_true, if_false, if_true]

theorem onGetDigests_serves {s : State} {tr : Nat} {x : Spdm} (h : Connected s tr x) (hneg : x.negotiated = true) :
    onGetDigests tr s = answerSpdm s tr x (spdmMsg 0x81 []) 0x01
      [(0, [0x03#8]), (1, spdmHash x (certChain s 0)), (2, spdmHash x (certChain s 1))] := by
  rw [onGetDigests, withSpdm_serves h hneg]

end Sys2Proof.Machine
end

section
/-!
PROOFS. The clauses of the SPDM responder's statement.
-/

namespace Sys2Proof.Machine

open Sys2Proof

theorem completes_capabilities {tr transfer : Nat} {x : Spdm} {s : State} (hp : Powered s) (h : Connected s tr x) (hver : x.version = true) :
    Completes (.getCapabilities tr transfer) s fun t =>
      (spdmOf t tr).capabilities = true ∧ (spdmOf t tr).transfer = transfer ∧ (∀ i, i ≠ tr → spdmOf t i = spdmOf s i) ∧ Only s t [.spdm] [] := by
  obtain ⟨cs, q, m, o, hanswer, hconn, hothers⟩ := answerSpdm_shape (cleared s) tr { x with capabilities := true, transfer := transfer }
    (spdmMsg 0xE1 [(0, leBytes 4 transfer)]) 0x61 [(0, leBytes 4 spdmFlags), (1, Config.standardBytes 0x630 0)]
  have hrun : onGetCapabilities tr transfer (cleared s) = { cleared s with spdm := m, free := s.free, out := [o] } := by
    rw [onGetCapabilities, withSpdm_serves (s := cleared s) h hver]
    exact hanswer
  refine (completes_connection rfl hp (ps := [.spdm]) hrun hconn hothers (by simp) (.inr rfl)).mono fun t ⟨hx, _, hrest⟩ => ?_
  rw [hx]
  exact ⟨rfl, rfl, hrest⟩

theorem completes_negotiated {tr c h : Nat} {x : Spdm} {s : State} (hp : Powered s) (hx : Connected s tr x) (hcap : x.capabilities = true)
    (hwhole : x.transfer = 0) (hc : c = 1 ∨ c = 2) (hh : h = 1 ∨ h = 2) :
    Completes (.negotiateAlgorithms tr c h 2 true) s fun t =>
      spdmOf t tr = ({ x with negotiated := true, curve384 := c == 2, hash384 := h == 2, dhe384 := some true } : Spdm).note
          (spdmMsg 0xE3 [(0, leBytes 1 c), (1, leBytes 1 h), (2, [2#8]), (3, [1#8])] ++
            spdmMsg 0x63 [(0, [BitVec.ofNat 8 (c - 1)]), (1, [BitVec.ofNat 8 (h - 1)]), (2, [2#8]), (3, [1#8])]) ∧
        [Output.spdm 0x63 [(0, [BitVec.ofNat 8 (c - 1)]), (1, [BitVec.ofNat 8 (h - 1)]), (2, [2#8]), (3, [1#8])]] <+: t.out ∧
        (∀ i, i ≠ tr → spdmOf t i = spdmOf s i) ∧ Only s t [.spdm] [] := by
  refine completes_answered (n := s.free) rfl hp hwhole ?_ (by simp) (.inr rfl)
  rw [onNegotiateAlgorithms, withSpdm_serves (s := cleared s) hx hcap]
  rcases hc with rfl | rfl <;> rcases hh with rfl | rfl <;> rfl

/-- Without AES-256-GCM no group is chosen for key exchange. -/
theorem completes_sessionless {tr g : Nat} {x : Spdm} {s : State} (hp : Powered s) (h : Connected s tr x) (hcap : x.capabilities = true) :
    Completes (.negotiateAlgorithms tr 1 1 g false) s fun t =>
      (spdmOf t tr).negotiated = true ∧ (spdmOf t tr).dhe384 = none ∧ (∀ i, i ≠ tr → spdmOf t i = spdmOf s i) ∧ Only s t [.spdm] [] := by
  obtain ⟨cs, q, m, o, hanswer, hconn, hothers⟩ :=
    answerSpdm_shape (cleared s) tr { x with negotiated := true, curve384 := false, hash384 := false, dhe384 := none }
      (spdmMsg 0xE3 [(0, leBytes 1 (1 % 4)), (1, leBytes 1 (1 % 4)), (2, leBytes 1 (g % 4)), (3, leBytes 1 (b2n false))]) 0x63
      [(0, leBytes 1 (b2n false)), (1, leBytes 1 (b2n false)), (2, leBytes 1 0), (3, leBytes 1 (b2n false))]
  have hrun : onNegotiateAlgorithms tr 1 1 g false (cleared s) = { cleared s with spdm := m, free := s.free, out := [o] } := by
    rw [onNegotiateAlgorithms, withSpdm_serves (s := cleared s) h hcap]
    exact hanswer
  refine (completes_connection rfl hp (ps := [.spdm]) hrun hconn hothers (by simp) (.inr rfl)).mono fun t ⟨hx, _, hrest⟩ => ?_
  rw [hx]
  exact ⟨rfl, rfl, hrest⟩

theorem completes_certificate {tr slot off len : Nat} {x : Spdm} {s : State} (hp : Powered s) (h : Connected s tr x) (hneg : x.negotiated = true)
    (hwhole : x.transfer = 0) (hslot : slot < 2) (hoff : off ≤ (certChain s slot).length) :
    Completes (.getCertificate tr slot off len) s fun t =>
      [Output.spdm 0x02 [(0, [BitVec.ofNat 8 slot]), (1, leBytes 2 (min len ((certChain s slot).length - off))),
          (2, leBytes 2 ((certChain s slot).length - off - min len ((certChain s slot).length - off))), (3, ((certChain s slot).drop off).take len)]] <+:
          t.out ∧
        (∀ i, i ≠ tr → spdmOf t i = spdmOf s i) ∧ Only s t [.spdm] [] := by
  have hserved : ¬ (1 < slot ∨ (certChain (cleared s) slot).length < off) := not_or.2 ⟨by omega, Nat.not_lt.2 hoff⟩
  have hpart : (((certChain s slot).drop off).take len).length = min len ((certChain s slot).length - off) := by rw [List.length_take, List.length_drop]
  rw [← hpart]
  refine (completes_answered (n := s.free) (req := spdmMsg 0x82 [(0, leBytes 1 slot), (1, leBytes 2 off), (2, leBytes 2 len)]) rfl hp hwhole ?_ (by simp)
    (.inr rfl)).mono fun t ⟨_, hrest⟩ => hrest
  rw [onGetCertificate, withSpdm_serves (s := cleared s) h hneg]
  exact if_neg hserved

/-- Two responses, each with the connection taken on. -/
theorem respondedTwice_eq (s : State) (tr : Nat) (y z : Spdm) (o o' : Output) :
    emit (putSpdm (emit (putSpdm s tr y) o) tr z) o' =
      { s with spdm := spSet noSpdm (spSet noSpdm s.spdm tr y) tr z, out := s.out ++ [o, o'] } := by
  simp only [emit, putSpdm, List.append_assoc, List.cons_append, List.nil_append]

/-- A row that takes a connection on and responds, twice. -/
theorem completes_respondsTwice {i : Instr} {f : State → State} {s : State} {tr : Nat} {y z : Spdm} {o o' : Output} (hi : exec i s = effect f s)
    (hp : Powered s) (hrun : f (cleared s) = emit (putSpdm (emit (putSpdm (cleared s) tr y) o) tr z) o') :
    Completes i s fun t => spdmOf t tr = z ∧ [o, o'] <+: t.out ∧ (∀ j, j ≠ tr → spdmOf t j = spdmOf s j) ∧ Only s t [.spdm] [] := by
  rw [respondedTwice_eq] at hrun
  exact completes_connection hi hp (m := spSet noSpdm (spSet noSpdm s.spdm tr y) tr z) (n := s.free) (os := [o, o']) hrun (spGet_set_same _ _ _ _)
    (fun _ hj => (spGet_set_ne _ _ _ _ hj).trans (spGet_set_ne _ _ _ _ hj)) (by simp) (.inr rfl)

/-- The last chunk of a request that comes to GET_DIGESTS. -/
theorem onChunkedTransfer_digests {s : State} {tr : Nat} {data : List Byte} {x : Spdm} (h : Connected s tr x) (hcap : x.capabilities = true)
    (hneg : x.negotiated = true) (hwhole : x.transfer = 0) (hseq : x.chunkSeq ≠ 0) (hall : x.chunks ++ data = [0x12, 0x81]) :
    ∃ z, onChunkedTransfer tr false x.chunkSeq true data s =
        emit (putSpdm (emit (putSpdm s tr { x with chunks := [], chunkSeq := 0 }) (.spdm 0x05 [(0, leBytes 2 x.chunkSeq)])) tr z)
          (.spdm 0x01 [(0, [0x03#8]), (1, spdmHash x (certChain s 0)), (2, spdmHash x (certChain s 1))]) ∧
      z.chunks = [] ∧ z.chunkSeq = 0 := by
  have hserve : ∀ u, serveSpdm tr [0x12, 0x81] u = onGetDigests tr u := fun _ => rfl
  have hnext : Connected (emit (putSpdm s tr { x with chunks := [], chunkSeq := 0 }) (.spdm 0x05 [(0, leBytes 2 x.chunkSeq)])) tr
      { x with chunks := [], chunkSeq := 0 } := ⟨h.1, h.2.1, spdmOf_putSpdm_same s tr _⟩
  rw [onChunkedTransfer_last h hcap hseq, hall, hserve, onGetDigests_serves hnext hneg,
    answerSpdm_whole (x := { x with chunks := [], chunkSeq := 0 }) hwhole]
  exact ⟨_, rfl, rfl, rfl⟩

theorem completes_lastChunk {tr : Nat} {data : List Byte} {x : Spdm} {s : State} (hp : Powered s) (h : Connected s tr x) (hcap : x.capabilities = true)
    (hneg : x.negotiated = true) (hwhole : x.transfer = 0) (hseq : x.chunkSeq ≠ 0) (hall : x.chunks ++ data = [0x12, 0x81]) :
    Completes (.chunkedTransfer tr false x.chunkSeq true data) s fun t =>
      (spdmOf t tr).chunks = [] ∧ (spdmOf t tr).chunkSeq = 0 ∧
        [Output.spdm 0x05 [(0, leBytes 2 x.chunkSeq)],
          Output.spdm 0x01 [(0, [0x03#8]), (1, spdmHash x (certChain s 0)), (2, spdmHash x (certChain s 1))]] <+: t.out ∧
        (∀ i, i ≠ tr → spdmOf t i = spdmOf s i) ∧ Only s t [.spdm] [] := by
  obtain ⟨z, hrun, hchunks, hcount⟩ := onChunkedTransfer_digests (s := cleared s) h hcap hneg hwhole hseq hall
  refine (completes_respondsTwice rfl hp hrun).mono fun t ⟨hz, hrest⟩ => ?_
  rw [hz]
  exact ⟨hchunks, hcount, hrest⟩

/-- Settles O49: a request in its turn is answered and takes the connection on, one before its turn or that cannot be served is answered with an error. -/
theorem spdmResponder : Obligations.SpdmResponder := by
  unfold Obligations.SpdmResponder
  refine ⟨?version, ?capabilities, ?transfer, ?algorithms, ?sessionless, ?digests, ?certificate, ?challenge, ?measurement, ?measurementCount,
    ?measurementsAll, ?measurementSigned, ?keyExchange, ?noGroup, ?finish, ?finishFails, ?endSession, ?noSession, ?doeFinish, ?doeEnd, ?earlyCapabilities,
    ?earlyAlgorithms, ?earlyKeyExchange, ?asleep, ?chunkFetch, ?chunkMore, ?chunkLast, ?discovery, ?cma, ?noMore⟩
  case version =>
    intro tr s hp hruns htr
    refine completes_answered (n := s.free) rfl hp rfl ?_ (by simp) (.inr rfl)
    exact withSpdm_serves (s := cleared s) ⟨hruns, htr, rfl⟩ rfl _
  case capabilities =>
    intro tr transfer x s hp hruns htr hx hver htransfer
    subst htransfer
    exact completes_answered (n := s.free) rfl hp rfl (withSpdm_serves (s := cleared s) ⟨hruns, htr, hx⟩ hver _) (by simp) (.inr rfl)
  case transfer => exact fun tr transfer x s hp hruns htr hx hver => completes_capabilities hp ⟨hruns, htr, hx⟩ hver
  case algorithms => exact fun tr c h x s hp hruns htr hx hcap hwhole hc hh => completes_negotiated hp ⟨hruns, htr, hx⟩ hcap hwhole hc hh
  case sessionless => exact fun tr g x s hp hruns htr hx hcap => completes_sessionless hp ⟨hruns, htr, hx⟩ hcap
  case digests =>
    intro tr x s hp hruns htr hx hneg hwhole
    exact completes_answered (n := s.free) rfl hp hwhole (onGetDigests_serves (s := cleared s) ⟨hruns, htr, hx⟩ hneg) (by simp) (.inr rfl)
  case certificate =>
    exact fun tr slot off len x s hp hruns htr hx hneg hwhole hslot hoff => completes_certificate hp ⟨hruns, htr, hx⟩ hneg hwhole hslot hoff
  case challenge =>
    intro tr slot nonce x s hp hruns htr hx hneg hwhole hslot
    rw [← spdmSign_cleared]
    exact completes_answered rfl hp hwhole (onChallenge_serves (s := cleared s) ⟨hruns, htr, hx⟩ hneg hslot nonce) (by simp) (.inl (by simp))
  case measurement =>
    intro tr i nonce x s hp hruns htr hx hneg hwhole hpos hi
    refine completes_answered (n := s.free) rfl hp hwhole ?_ (by simp) (.inr rfl)
    have hone : i ≠ 0 := by omega
    have hall : i ≠ 0xFF := by omega
    rw [onGetMeasurements_plain (s := cleared s) ⟨hruns, htr, hx⟩ hneg (.inl hi)]
    simp only [if_neg hone, if_neg hall]
    rfl
  case measurementCount =>
    intro tr nonce x s hp hruns htr hx hneg hwhole
    exact (completes_answered (n := s.free) rfl hp hwhole (onGetMeasurements_plain (s := cleared s) ⟨hruns, htr, hx⟩ hneg (.inl (by omega)) nonce) (by simp)
      (.inr rfl)).mono fun t ⟨_, hrest⟩ => hrest
  case measurementsAll =>
    intro tr nonce x s hp hruns htr hx hneg hwhole
    exact (completes_answered (n := s.free) rfl hp hwhole (onGetMeasurements_plain (s := cleared s) ⟨hruns, htr, hx⟩ hneg (.inr rfl) nonce) (by simp)
      (.inr rfl)).mono fun t ⟨_, hrest⟩ => hrest
  case measurementSigned =>
    intro tr i nonce x s hp hruns htr hx hneg hwhole hpos hi
    rw [← spdmSign_cleared]
    exact (completes_answered rfl hp hwhole (onGetMeasurements_signed (s := cleared s) ⟨hruns, htr, hx⟩ hneg hpos hi nonce) (by simp)
      (.inl (by simp))).mono fun t ⟨_, hrest⟩ => hrest
  case keyExchange =>
    exact fun tr slot wide pub x s hp hruns htr hx hneg hwhole hslot hdhe _ => completes_keyExchange hp ⟨hruns, htr, hx⟩ hneg hwhole hslot hdhe
  case noGroup =>
    intro tr slot pub x s hp hruns htr hx hneg hwhole hdhe
    refine completes_spdmError (code := errUnsupported) rfl hp ?_
    rw [onKeyExchange, withSpdm_serves (s := cleared s) ⟨hruns, htr, hx⟩ hneg]
    simp only [hdhe]
  case finish =>
    intro tr id k x record s hp hruns htr hx hneg hwhole hmctp hfind hopen
    subst hmctp
    have hrun := onFinish_proves (s := cleared s) ⟨hruns, htr, hx⟩ hneg hfind hopen
    exact completes_sealed (k := { k with rx := k.rx + 1 }) rfl hp hrun
  case finishFails =>
    intro tr id k x record s hp hruns htr hx hneg hwhole hmctp hfind hopen
    subst hmctp
    exact completes_responds (n := s.free) rfl hp (onFinish_ends (s := cleared s) ⟨hruns, htr, hx⟩ hneg hfind hopen) (by simp) (.inr rfl)
  case endSession =>
    intro tr id k x record s hp hruns htr hx hneg hwhole hmctp hfind hopen
    subst hmctp
    exact completes_sealed rfl hp (onEndSession_ends (s := cleared s) ⟨hruns, htr, hx⟩ hneg hfind hopen)
  case noSession =>
    intro tr id x record s hp hruns htr hx hneg hwhole hmctp hfind
    subst hmctp
    refine completes_spdmError (code := errSession) rfl hp ?_
    rw [onEndSession, withSpdm_serves (s := cleared s) ⟨hruns, htr, hx⟩ hneg]
    simp only [hfind]
    rfl
  case doeFinish =>
    exact fun id record x s hp hruns hx hneg =>
      completes_spdmError (code := errUnsupported) rfl hp (onFinish_doe (s := cleared s) ⟨hruns, Nat.zero_lt_two, hx⟩ hneg id record)
  case doeEnd =>
    exact fun id record x s hp hruns hx hneg =>
      completes_spdmError (code := errUnsupported) rfl hp (onEndSession_doe (s := cleared s) ⟨hruns, Nat.zero_lt_two, hx⟩ hneg id record)
  case earlyCapabilities =>
    exact fun tr tz x s hp hruns htr hx hver =>
      completes_spdmError (code := errUnexpected) rfl hp (withSpdm_early (s := cleared s) ⟨hruns, htr, hx⟩ hver _)
  case earlyAlgorithms =>
    exact fun tr c h g a x s hp hruns htr hx hcap =>
      completes_spdmError (code := errUnexpected) rfl hp (withSpdm_early (s := cleared s) ⟨hruns, htr, hx⟩ hcap _)
  case earlyKeyExchange =>
    exact fun tr slot pub x s hp hruns htr hx hneg =>
      completes_spdmError (code := errUnexpected) rfl hp (withSpdm_early (s := cleared s) ⟨hruns, htr, hx⟩ hneg _)
  case asleep =>
    intro tr slot nonce s hp hruns
    exact completes_run rfl hp (withSpdm_asleep (s := cleared s) hruns _ _ _) ⟨trivial, only_settle (only_cleared (only_refl _ [] []))⟩
  case chunkFetch =>
    exact fun tr x s hp hruns htr hx hcap hmore hlimit =>
      completes_responds (n := s.free) rfl hp (onChunkedTransfer_fetch (s := cleared s) ⟨hruns, htr, hx⟩ hcap hmore hlimit) (by simp) (.inr rfl)
  case chunkMore =>
    exact fun tr data x s hp hruns htr hx hcap hseq =>
      completes_responds (n := s.free) rfl hp (onChunkedTransfer_more (s := cleared s) ⟨hruns, htr, hx⟩ hcap hseq data) (by simp) (.inr rfl)
  case chunkLast =>
    exact fun tr data x s hp hruns htr hx hcap hneg hwhole hseq hall => completes_lastChunk hp ⟨hruns, htr, hx⟩ hcap hneg hwhole hseq hall
  case discovery =>
    intro s hp hhost
    have hhost' : (!domainOn (cleared s) .host) = false := by rw [show domainOn (cleared s) .host = true from hhost]; rfl
    exact completes_puts rfl hp (if_neg (ne_true_of_eq_false hhost'))
  case cma =>
    intro s hp hhost
    have hhost' : (!domainOn (cleared s) .host) = false := by rw [show domainOn (cleared s) .host = true from hhost]; rfl
    exact completes_puts rfl hp (if_neg (ne_true_of_eq_false hhost'))
  case noMore =>
    intro n s hp hhost hn
    have hhost' : (!domainOn (cleared s) .host) = false := by rw [show domainOn (cleared s) .host = true from hhost]; rfl
    obtain ⟨m, rfl⟩ := Nat.exists_eq_add_of_le' hn
    exact completes_puts rfl hp (if_neg (ne_true_of_eq_false hhost'))

end Sys2Proof.Machine
end

section
/-!
PROOFS. Refutation of O11: an Abort where the slot table lists a slot twice (R630).
-/

namespace Sys2Proof.Machine

open Sys2Proof

/-- An Abort of command 9 of the PF's admin queue, as it is fetched from that queue. -/
def abortOfNine : CmdSlot := freshSlot State.reset 0 0 ⟨true, 0x08, 7, 0, 0x00090000, 0, 0, 0, 0, 0⟩

/-- Command 9, an Identify, as it is fetched. -/
def fetchedNine : CmdSlot := freshSlot State.reset 0 0 ⟨true, 0x06, 9, 0, 1, 0, 0, 0, 0, 0⟩

/-- A Read of the PF's I/O queue that waits for its die queue and holds a read buffer reserved. -/
def waitingRead : CmdSlot := { freshSlot State.reset 0 1 ⟨false, 0x02, 8, 1, 0, 0, 0, 0, 0, 0⟩ with phase := .waitDieQueue, reserved := 1 }

/-- The reset device with one read buffer reserved, whose slot table lists slot 1 twice: first the Read, then the Identify that the Abort in slot 0 names. -/
def abortedListedTwice : State :=
  let s := setF State.reset (F.sbgPoolStat_reserved 1) 1
  { s with hif := { s.hif with slots := [(0, abortOfNine), (1, waitingRead), (1, fetchedNine)] } }

/-- Refutes O11: where the slot table lists a slot twice, which the statement does not exclude, an Abort does not leave the
registers as they are. The Abort of `abortedListedTwice` finds the Identify and ends the command of its slot, which is the Read, so that the read buffer
is no longer reserved. -/
theorem not_queueCommands : ¬ Obligations.QueueCommands := by
  unfold Obligations.QueueCommands
  rintro ⟨-, -, -, -, -, habort, -⟩
  have hw : Works abortedListedTwice := by decide +kernel
  obtain ⟨t, ht, -, -, -, -, -, hregs⟩ := habort 0 1 abortOfNine fetchedNine abortedListedTwice hw
    (by decide +kernel) (by decide +kernel) (by decide +kernel)
  have hkept := hregs (F.sbgPoolStat_reserved 1) (by decide) (by decide)
  have hrun : exec (.abort 0) abortedListedTwice = .next (settle (onAbort 0 (cleared abortedListedTwice))) :=
    effectIn_on .data (onAbort 0) hw.1 hw.2
  have hreturned : getF (onAbort 0 (cleared abortedListedTwice)) (F.sbgPoolStat_reserved 1) = 0 := by decide +kernel
  have hreserved : getF abortedListedTwice (F.sbgPoolStat_reserved 1) = 1 := by decide +kernel
  rw [Host.Outcome.next.inj (ht.symm.trans hrun), getF_settle _ _ (by decide), hreturned, hreserved] at hkept
  exact absurd hkept (by decide)

end Sys2Proof.Machine
end

section
/-!
PROOFS. Namespaces of a device that stands alone (R126 to R129): create, delete, attach and detach, at once and staged.
-/

namespace Sys2Proof.Machine

open Sys2Proof

theorem membersOf_standalone {s : State} (h : standalone s = true) (base count : Nat) : membersOf s base count = [] := by
  simp only [membersOf, h, Bool.or_true, if_true]

theorem memberMissing_standalone {s : State} (h : standalone s = true) (base count : Nat) : memberMissing s base count = false := by
  rw [memberMissing, membersOf_standalone h, List.any_nil]

theorem mirror_standalone {s : State} (h : standalone s = true) (body : List Byte) : mirror s body = s := by
  simp only [mirror, h, Bool.true_or, if_true]

/-- A namespace takes a new entry, and the journal is asked for it. -/
def nsRecorded (s : State) (i : Nat) (x : Namespace) : State := journal { s with nss := spPut s.nss i x } (.ns i (some x))

theorem spFind_nsRecorded (s : State) (i : Nat) (x : Namespace) : spFind (nsRecorded s i x).nss i = some x := spFind_put_same _ _ _

theorem setAttached_found {s : State} {i : Nat} {ns : Namespace} (h : spFind s.nss i = some ns) (a : Option Nat) :
    setAttached s i a = nsRecorded s i { ns with attached := a } := by
  simp only [setAttached, h, nsRecorded]

/-- A row that records a namespace and leaves its command waiting has done just that. -/
theorem completes_recorded {instr : Instr} {f : State → State} {s : State} {n i : Nat} {x : Namespace} {d : CmdSlot}
    (hi : exec instr s = effectIn .data f s) (hw : Works s) (hrun : f (cleared s) = putSlot (nsRecorded (cleared s) i x) n d) :
    Completes instr s fun t =>
      spFind t.nss i = some x ∧ t.jrn.waiting = s.jrn.waiting ++ [.ns i (some x)] ∧ slotOf t n = some d ∧
        (∀ k, k ≠ i → spFind t.nss k = spFind s.nss k) ∧ Only s t [.nss, .jrn, .hif] [] := by
  refine completes_runIn hi hw.1 hw.2 hrun ⟨?_, ?_, ?_, fun k hk => ?_, ?_⟩
  · rw [settle_nss]
    exact spFind_put_same _ _ _
  · rw [settle_jrn]
    rfl
  · rw [slotOf_settle, slotOf_putSlot_same]
  · rw [settle_nss]
    exact spFind_put_ne _ _ hk
  · exact only_settle (only_cleared (only_trans (only_nssJrn (cleared s) _ _) (only_putSlot _ n d)))

/-- The namespace that a create makes. -/
def createdNs (data : NsCreate) (base : Nat) (tr : Tier) : Namespace := ⟨base, data.nsze / 2 ^ 20, tr, data.marCap, data.morCap, none, 0, none⟩

/-- A create that passes its checks records the namespace under the lowest free NSID. -/
theorem onNamespaceCreate_creates {s : State} {n base : Nat} {tr : Tier} {data : NsCreate} {c : CmdSlot} (h : FetchedAdmin s n 0x0D c)
    (hsel : nsSel c.sqe = 0) (htier : tierOf (data.defTier.toNat % 4) = some tr) (hsize : data.nsze ≠ 0) (hzones : data.nsze % 2 ^ 20 = 0)
    (hformat : data.flbas = 0) (hdef : data.defTier.toNat < 4) (hres : data.reservedZero = true) (hmar : data.marCap ≠ 0) (hmor : data.morCap ≠ 0)
    (hbase : lowestRange s (data.nsze / 2 ^ 20) = some base) (hid : spFree s.nss 4096 1 ≤ 4096) (halone : standalone s = true) :
    onNamespaceCreate n data s = putSlot (nsRecorded s (spFree s.nss 4096 1) (createdNs data base tr)) n
      { c with kind := .admin, phase := .waitJournal, dw0 := BitVec.ofNat 32 (spFree s.nss 4096 1) } := by
  obtain ⟨hslot, hphase, hadmin, -⟩ := h
  let u := putSlot (nsRecorded s (spFree s.nss 4096 1) (createdNs data base tr)) n
    { c with kind := .admin, phase := .waitJournal, dw0 := BitVec.ofNat 32 (spFree s.nss 4096 1) }
  have hu : standalone u = true := halone
  have hfield : ¬(data.nsze = 0 ∨ data.nsze % 2 ^ 20 ≠ 0 ∨ data.flbas ≠ 0 ∨ 4 ≤ data.defTier.toNat ∨ data.reservedZero = false) := by
    simp only [not_or]
    exact ⟨hsize, not_not_intro hzones, not_not_intro hformat, Nat.not_le.2 hdef, ne_false_of_eq_true hres⟩
  have hcaps : ¬(data.marCap = 0 ∨ data.morCap = 0) := not_or.2 ⟨hmar, hmor⟩
  rw [onNamespaceCreate, withFetched_of hslot hphase (by rw [hadmin, hsel]; rfl)]
  simp only [htier, if_neg hfield, if_neg hcaps, hbase, if_neg (Nat.not_lt.2 hid), memberMissing_standalone halone, Bool.false_eq_true, if_false,
    membersOf_standalone halone, wakeFirst_alone]
  show mirror (sendAdmin u n (membersOf u base (data.nsze / 2 ^ 20)) _) _ = u
  rw [membersOf_standalone hu, sendAdmin_alone, mirror_standalone hu]

/-- The keys that a test names are gone, with what the cipher engine held of them (R412). -/
def keysGone (s : State) (p : Nat → Bool) : State :=
  { s with
    tkr := { s.tkr with
      slots := s.tkr.slots.filter (fun kv => !p kv.1), retired := s.tkr.retired.filter fun r => !p r.keySlot },
    cph := { s.cph with
      keyCache := s.cph.keyCache.filter (fun k => !p k.keySlot),
      ctxs := spMap s.cph.ctxs fun _ c => if p c.keySlot then revokeCtx c else c } }

/-- No command has an operation open on the keys that a test names. -/
def NoneOpen (s : State) (p : Nat → Bool) : Prop :=
  ∀ kv ∈ s.hif.slots, (p (kv.2.nsid - 1) && kv.2.nsid != 0) = true → readOpen kv.2 = false ∧ writeOpen s kv.2 = false

/-- An erase that finds no operation open counts none. -/
theorem eraseKeys_noneOpen {s : State} {p : Nat → Bool} (h : NoneOpen (keysGone s p) p) :
    eraseKeys s p = incSat (keysGone s p) F.cphErr_revokedOps 0 := by
  have hreads : ((keysGone s p).hif.slots.filter fun kv => (p (kv.2.nsid - 1) && kv.2.nsid != 0) && readOpen kv.2) = [] :=
    List.filter_eq_nil_iff.2 fun kv hkv hopen => by
      obtain ⟨hhit, hread⟩ := Bool.and_eq_true_iff.1 hopen
      rw [(h kv hkv hhit).1] at hread
      cases hread
  have hwrites : ((keysGone s p).hif.slots.filter fun kv => (p (kv.2.nsid - 1) && kv.2.nsid != 0) && writeOpen (keysGone s p) kv.2) = [] :=
    List.filter_eq_nil_iff.2 fun kv hkv hopen => by
      obtain ⟨hhit, hwrite⟩ := Bool.and_eq_true_iff.1 hopen
      rw [(h kv hkv hhit).2] at hwrite
      cases hwrite
  show revokeCommands (keysGone s p) p = _
  simp only [revokeCommands, hreads, hwrites, forEach, List.foldl_nil, List.length_nil]

theorem only_eraseKeys {s : State} {p : Nat → Bool} (h : NoneOpen (keysGone s p) p) :
    Only s (eraseKeys s p) [.tkr, .cph] [F.cphErr_revokedOps.addr] := by
  have hgone : Only s (keysGone s p) [.tkr, .cph] [] :=
    only_mono (only_trans (only_others s (t := (keysGone s p).tkr) (ps := [.tkr])) (only_changed _ (c := (keysGone s p).cph) (ps := [.cph])))
      (by simp) (by simp)
  rw [eraseKeys_noneOpen h]
  exact only_trans hgone (only_setF _ _ _)

theorem spFind_filter_key {α : Type} {m : Sparse α} {p : Nat → Bool} {i : Nat} (h : p i = true) : spFind (m.filter fun kv => !p kv.1) i = none :=
  spFind_none fun kv hkv hi => by
    have hkept := (List.mem_filter.1 hkv).2
    rw [hi, h] at hkept
    cases hkept

/-- A command that deletes namespaces while its zones are reset. -/
def deleting (c : CmdSlot) : CmdSlot := { c with kind := .admin, phase := .waitZoneOp }

/-- The keys of one namespace (R405). -/
def keyOfNs (i : Nat) (k : Nat) : Bool := [i].contains (k + 1)

/-- A delete of a namespace that the PF holds, or no function, and that has no bound zone goes on to its last steps at once. -/
theorem onNamespaceDelete_deletes {s : State} {n : Nat} {ns : Namespace} {c : CmdSlot} (h : FetchedAdmin s n 0x0D c) (hsel : nsSel c.sqe = 1)
    (hone : c.sqe.nsid < 4097) (hns : spFind s.nss c.sqe.nsid = some ns) (hown : ns.attached = some 0 ∨ ns.attached = none)
    (hempty : nsZones s ns = []) (halone : standalone s = true) (hzones : c.zones = []) :
    onNamespaceDelete n s = deleteFinal (putSlot s n (deleting c)) n c.sqe.nsid := by
  obtain ⟨hslot, hphase, hadmin, -⟩ := h
  have hids : deleteTargets s c.sqe.nsid = [c.sqe.nsid] := if_neg (by omega)
  have herr : deleteError s c.sqe.nsid = none := by
    simp only [deleteError, hns, memberMissing_standalone halone]
    rcases hown with hpf | hnone
    · simp only [hpf]; rfl
    · simp only [hnone]; rfl
  have hnone : deleteZones (putSlot s n (deleting c)) ns = ([], []) := by
    have hempty' : nsZones (putSlot s n (deleting c)) ns = [] := hempty
    simp only [deleteZones, hempty', List.filter_nil]
  have hlast : opsDone (putSlot s n (deleting c)) n = deleteFinal (putSlot s n (deleting c)) n c.sqe.nsid := by
    have hadmin' : isAdmin 0x0D (deleting c) = true := hadmin
    have hzones' : (deleting c).zones = [] := hzones
    simp only [opsDone, slotOf_putSlot_same, hzones', List.isEmpty_nil, Bool.not_true, Bool.false_eq_true, if_false, hadmin', if_true]
    rfl
  have hns' : spFind (putSlot s n (deleting c)).nss c.sqe.nsid = some ns := hns
  rw [onNamespaceDelete, withFetched_of hslot hphase (by rw [hadmin, hsel]; rfl)]
  simp only [hids, List.findSome?_cons, List.findSome?_nil, herr, List.flatMap_cons, List.flatMap_nil, hns, membersOf_standalone halone, List.append_nil,
    wakeFirst_alone]
  show opsDone (forEach [c.sqe.nsid] (putSlot s n (deleting c)) _) n = _
  simp only [forEach, List.foldl_cons, List.foldl_nil, hns', hnone, membersOf_standalone (s := putSlot s n (deleting c)) halone, sendAdmin_alone, hlast]

/-- The last steps of the delete of one namespace: its key and its entry are gone, and its command waits for the journal. -/
theorem deleteFinal_one {s : State} {n i : Nat} {c : CmdSlot} (hi : i < 4097) (hs : slotOf s n = some c) (halone : standalone s = true)
    (hopen : NoneOpen (keysGone s (keyOfNs i)) (keyOfNs i)) :
    deleteFinal s n i = putSlot (journal { eraseKeys s (keyOfNs i) with nss := spErase s.nss i } (.ns i none)) n (journalWait c) := by
  have hids : deleteTargets s i = [i] := if_neg (by omega)
  let u := eraseKeys s (keyOfNs i)
  have hu : u = incSat (keysGone s (keyOfNs i)) F.cphErr_revokedOps 0 := eraseKeys_noneOpen hopen
  have hnss : u.nss = s.nss := by rw [hu]; rfl
  have halone' : standalone (journal { u with nss := spErase u.nss i } (.ns i none)) = true := by rw [hu]; exact halone
  have hs' : slotOf (journal { u with nss := spErase u.nss i } (.ns i none)) n = some c := by rw [hu]; exact hs
  have hrec : (journal { u with nss := spErase u.nss i } (.ns i none)).jrn.waiting ≠ [] := by simp
  calc deleteFinal s n i = awaitJournal (mirror (journal { u with nss := spErase u.nss i } (.ns i none)) (leBytes 1 0 ++ leBytes 2 i)) n := by
        simp only [deleteFinal, hids]
        rfl
    _ = putSlot (journal { u with nss := spErase u.nss i } (.ns i none)) n (journalWait c) := by
        rw [mirror_standalone halone', awaitJournal_waiting hrec hs']
    _ = _ := by rw [hnss]

/-- The commands that run on a namespace's key hold its NSID. -/
theorem nsid_of_keyOfNs {i : Nat} {c : CmdSlot} (h : (keyOfNs i (c.nsid - 1) && c.nsid != 0) = true) : c.nsid = i := by
  simp [keyOfNs] at h
  omega

/-- While its namespace is deleted no command of it but those admitted could have an operation open, and the delete itself has none. -/
theorem noneOpen_deleting {s : State} {n i : Nat} {c : CmdSlot} (h : ∀ kv ∈ s.hif.slots, kv.2.nsid ≠ i ∨ isAdmitted kv.2 = false) :
    NoneOpen (keysGone (putSlot s n (deleting c)) (keyOfNs i)) (keyOfNs i) := by
  intro kv hkv hhit
  rcases mem_spPut hkv with rfl | hold
  · exact ⟨rfl, rfl⟩
  · have hnot := (h kv hold).resolve_left (not_not_intro (nsid_of_keyOfNs hhit))
    simp [readOpen, writeOpen, hnot]

/-- Delete of a namespace with no bound zone (R128). -/
theorem completes_namespaceDelete {n : Nat} {ns : Namespace} {c : CmdSlot} {s : State} (hw : Works s) (h : FetchedAdmin s n 0x0D c)
    (hsel : nsSel c.sqe = 1) (hpos : 0 < c.sqe.nsid) (hone : c.sqe.nsid < 4097) (hns : spFind s.nss c.sqe.nsid = some ns)
    (hown : ns.attached = some 0 ∨ ns.attached = none) (hempty : nsZones s ns = []) (halone : standalone s = true)
    (hidle : ∀ kv ∈ s.hif.slots, kv.2.nsid ≠ c.sqe.nsid ∨ isAdmitted kv.2 = false) (hzones : c.zones = []) :
    Completes (.namespaceDelete n) s fun t =>
      spFind t.nss c.sqe.nsid = none ∧ spFind t.tkr.slots (c.sqe.nsid - 1) = none ∧ t.jrn.waiting = s.jrn.waiting ++ [.ns c.sqe.nsid none] ∧
        slotOf t n = some { c with kind := .admin, phase := .waitJournal } ∧ (∀ k, k ≠ c.sqe.nsid → spFind t.nss k = spFind s.nss k) ∧
        Only s t [.nss, .jrn, .hif, .tkr, .cph] [F.cphErr_revokedOps.addr] := by
  let i := c.sqe.nsid
  let u := putSlot (cleared s) n (deleting c)
  let v := eraseKeys u (keyOfNs i)
  have hopen : NoneOpen (keysGone u (keyOfNs i)) (keyOfNs i) := noneOpen_deleting (s := cleared s) hidle
  have hv : v = incSat (keysGone u (keyOfNs i)) F.cphErr_revokedOps 0 := eraseKeys_noneOpen hopen
  have hrow : onNamespaceDelete n (cleared s) = putSlot (journal { v with nss := spErase s.nss i } (.ns i none)) n (journalWait (deleting c)) := by
    rw [onNamespaceDelete_deletes (s := cleared s) h hsel hone hns hown hempty halone hzones]
    exact deleteFinal_one hone (slotOf_putSlot_same _ _ _) halone hopen
  refine completes_runIn (f := onNamespaceDelete n) rfl hw.1 hw.2 hrow ⟨?_, ?_, ?_, ?_, fun k hk => ?_, ?_⟩
  · rw [settle_nss]
    exact spFind_erase_same _ _
  · rw [settle_tkr, putSlot_tkr, journal_tkr]
    show spFind v.tkr.slots (i - 1) = none
    rw [hv]
    exact spFind_filter_key (p := keyOfNs i) (by simp [keyOfNs, i]; omega)
  · rw [settle_jrn]
    show v.jrn.waiting ++ _ = _
    rw [hv]
    rfl
  · rw [slotOf_settle, slotOf_putSlot_same]
    rfl
  · rw [settle_nss]
    exact spFind_erase_ne _ hk
  · have herased := only_trans (only_putSlot (cleared s) n (deleting c)) (only_eraseKeys hopen)
    have hrecorded := only_trans herased (only_nssJrn v (spErase s.nss i) (journal { v with nss := spErase s.nss i } (.ns i none)).jrn)
    exact only_settle (only_cleared (only_mono (only_trans hrecorded (only_putSlot _ n _)) (by simp) (by simp)))

/-- The controller of an attachment may be changed now: the PF, or a stopped VF while no STOP_ALL is in effect. -/
def ChangesNow (s : State) (f : Nat) : Prop := f = 0 ∨ (funcExists s f = true ∧ funcStopped s f = true ∧ s.vfm.stopAll = false)

theorem ChangesNow.not_refused {s : State} {f : Nat} (h : ChangesNow s f) : ¬(f ≠ 0 ∧ (funcExists s f = false ∨ funcStopped s f = false)) := by
  rintro ⟨hf, hno⟩
  obtain ⟨hex, hstop, -⟩ := h.resolve_left hf
  simp [hex, hstop] at hno

theorem ChangesNow.not_staged {s : State} {f : Nat} (h : ChangesNow s f) : ¬(f ≠ 0 ∧ s.vfm.stopAll = true) := by
  rintro ⟨hf, hall⟩
  obtain ⟨-, -, hrun⟩ := h.resolve_left hf
  rw [hrun] at hall
  cases hall

/-- A row of one controller that passes its checks records the namespace with its new attachment. -/
theorem onNamespaceAttachment_records {s : State} {n f : Nat} {ns : Namespace} {c : CmdSlot} (h : FetchedAdmin s n 0x15 c) (hsel : nsSel c.sqe ≤ 1)
    (hns : spFind s.nss c.sqe.nsid = some ns) (hf : f ≤ 4096) (hfree : ¬(nsSel c.sqe = 0 ∧ (stagedOwner s c.sqe.nsid).isSome = true))
    (hheld : ¬(nsSel c.sqe = 1 ∧ stagedOwner s c.sqe.nsid ≠ some f))
    (hsingle : ¬(nsSel c.sqe = 0 ∧ f ≠ 0 ∧ (s.nss.any fun kv => kv.1 != c.sqe.nsid && stagedOwner s kv.1 == some f) = true))
    (hnow : ChangesNow s f) (halone : standalone s = true) :
    onNamespaceAttachment n [f] s =
      putSlot (nsRecorded s c.sqe.nsid { ns with attached := if nsSel c.sqe = 0 then some f else none }) n
        { c with kind := .admin, phase := .waitJournal } := by
  rw [onNamespaceAttachment, withFetched_admin h]
  simp only [if_neg (Nat.not_lt.2 hsel), hns, Option.isNone_some, Bool.false_eq_true, if_false, if_neg (Nat.not_lt.2 hf), if_neg hfree, if_neg hheld,
    if_neg hsingle, if_neg hnow.not_refused, if_neg hnow.not_staged, setAttached_found hns, spFind_nsRecorded]
  rw [mirror_standalone (by exact halone)]

/-- While STOP_ALL is set an attachment to a stopped VF is staged (R136). -/
theorem onNamespaceAttachment_stages {s : State} {n f : Nat} {c : CmdSlot} (h : FetchedAdmin s n 0x15 c) (hsel : nsSel c.sqe = 0)
    (hns : (spFind s.nss c.sqe.nsid).isSome = true) (hfree : stagedOwner s c.sqe.nsid = none) (hpos : 0 < f) (hf : f ≤ 4096)
    (hex : funcExists s f = true) (hstop : funcStopped s f = true) (hall : s.vfm.stopAll = true)
    (hother : (s.nss.any fun kv => kv.1 != c.sqe.nsid && stagedOwner s kv.1 == some f) = false) :
    onNamespaceAttachment n [f] s =
      putSlot { s with vfm := { s.vfm with stagedAttach := s.vfm.stagedAttach ++ [⟨c.sqe.nsid, f, true⟩] } } n
        { c with kind := .admin, phase := .waitStart } := by
  have hpos' : f ≠ 0 := by omega
  rw [onNamespaceAttachment, withFetched_admin h]
  simp [hsel, Option.isNone_eq_false_iff.2 hns, Nat.not_lt.2 hf, hfree, hother, hex, hstop, hall, hpos']

/-- Settles O16: a create, a delete and an attachment come to one change of the namespace table and one record for the journal, or to a staged change. -/
theorem namespaces : Obligations.Namespaces := by
  unfold Obligations.Namespaces
  refine ⟨?create, ?delete, ?attach, ?detach, ?stage⟩
  case create =>
    intro n base tr data c s hw h hsel htier hsize hzones hformat hdef hres hmar hmor hbase hid halone
    obtain ⟨t, ht, hns, hjrn, hslot, hothers, honly⟩ := completes_recorded (instr := .namespaceCreate n data) (f := onNamespaceCreate n data) rfl hw
      (onNamespaceCreate_creates (s := cleared s) h hsel htier hsize hzones hformat hdef hres hmar hmor hbase hid halone)
    exact ⟨t, ht, hns, hjrn, hslot, hothers, honly⟩
  case delete =>
    rintro n i ns c s hw h hsel rfl hpos hone hns hown hempty halone hidle hzones
    exact completes_namespaceDelete hw h hsel hpos hone hns hown hempty halone hidle hzones
  case attach =>
    rintro n i f ns c s hw h hsel rfl hns hfree hf hmay halone
    have hnow : ChangesNow s f := hmay.imp_right fun ⟨hex, hstop, hrun, _⟩ => ⟨hex, hstop, hrun⟩
    have hsingle : ¬(nsSel c.sqe = 0 ∧ f ≠ 0 ∧ (s.nss.any fun kv => kv.1 != c.sqe.nsid && stagedOwner s kv.1 == some f) = true) :=
      fun ⟨_, hpos, hany⟩ => by
        obtain ⟨-, -, -, hother⟩ := hmay.resolve_left hpos
        rw [hother] at hany
        cases hany
    have hrow := onNamespaceAttachment_records (s := cleared s) h (by omega) hns hf (fun ⟨_, hsome⟩ => Option.isSome_iff_ne_none.1 hsome hfree) (by omega)
      hsingle hnow halone
    rw [if_pos hsel] at hrow
    exact completes_recorded rfl hw hrow
  case detach =>
    rintro n i f ns c s hw h hsel rfl hns hheld hf hnow halone
    have hrow := onNamespaceAttachment_records (s := cleared s) h (by omega) hns hf (by omega) (fun ⟨_, hne⟩ => hne hheld) (by omega) hnow halone
    rw [if_neg (by omega)] at hrow
    exact (completes_recorded rfl hw hrow).mono fun t ⟨hrecorded, _, _, _, honly⟩ => ⟨hrecorded, honly⟩
  case stage =>
    rintro n i f c s hw h hsel rfl hns hfree hpos hf hex hstop hall hother
    refine completes_runIn (f := onNamespaceAttachment n [f]) rfl hw.1 hw.2
      (onNamespaceAttachment_stages (s := cleared s) h hsel hns hfree hpos hf hex hstop hall hother) ⟨?_, ?_, fun m hm => ?_, ?_⟩
    · rw [settle_vfm]
      rfl
    · rw [slotOf_settle, slotOf_putSlot_same]
    · rw [slotOf_settle, slotOf_putSlot_ne _ _ hm]
      rfl
    · exact only_settle (only_cleared (only_mono (only_trans (only_vfm (cleared s) _) (only_putSlot _ n _)) (by simp) (by simp)))

end Sys2Proof.Machine
end

section
/-!
PROOFS. Live migration (R142 to R146): what GO begins, what the end of an operation leaves, and the four operations between them.
-/

namespace Sys2Proof.Machine

open Sys2Proof

/-- The fields of VFM_MIG_CTRL that a write with GO sets, with their values. -/
def migRequest (vf op pages : Nat) (ke : Bool) : List (Fld × Nat) :=
  [(F.vfmMigCtrl_vf, vf), (F.vfmMigCtrl_op, op), (F.vfmMigCtrl_bufPages, pages), (F.vfmMigCtrl_keyExport, b2n ke), (F.vfmMigCtrl_go, 1)]

/-- An operation is under way: VFM_MIG_CTRL holds its request. -/
def migRequested (s : State) (vf op pages : Nat) (ke : Bool) : State := setFs s (migRequest vf op pages ke)

theorem migStart_idle {s : State} (h : flag s F.vfmMigCtrl_go = false) (vf op pages : Nat) (ke : Bool) (run : State → State) :
    migStart s vf op pages ke run = run (migRequested s vf op pages ke) := by
  simp only [migStart, h, Bool.false_eq_true, if_false]
  rfl

theorem migStart_busy {s : State} (h : flag s F.vfmMigCtrl_go = true) (vf op pages : Nat) (ke : Bool) (run : State → State) :
    migStart s vf op pages ke run = setF s F.vfmMigStat_err 1 := by
  simp only [migStart, h, if_true]

theorem only_migRequested (s : State) (vf op pages : Nat) (ke : Bool) : Only s (migRequested s vf op pages ke) [] [F.vfmMigCtrl_go.addr] :=
  only_mono (only_setFs s _) (by simp)
    (by simp [migRequest, F.vfmMigCtrl_vf, F.vfmMigCtrl_op, F.vfmMigCtrl_bufPages, F.vfmMigCtrl_keyExport, F.vfmMigCtrl_go])

/-- A field of another register is as it was when GO was written. -/
theorem getF_migRequested (s : State) (vf op pages : Nat) (ke : Bool) {f : Fld} (h : f.addr ≠ F.vfmMigCtrl_go.addr) (hs : f.addr ∉ settledAddrs) :
    getF (migRequested s vf op pages ke) f = getF s f := (only_migRequested s vf op pages ke).2 f (by simpa using h) hs

theorem getF_migRequest {vf op pages : Nat} {ke : Bool} {f : Fld} {n : Nat} (h : (f, n) ∈ migRequest vf op pages ke) (s : State) :
    getF (migRequested s vf op pages ke) f = n % 2 ^ (f.hi + 1 - f.lo) := by
  have hflds : (migRequest vf op pages ke).map (·.1) =
      [F.vfmMigCtrl_vf, F.vfmMigCtrl_op, F.vfmMigCtrl_bufPages, F.vfmMigCtrl_keyExport, F.vfmMigCtrl_go] := rfl
  exact getF_setFs_mem (by rw [hflds]; decide) (by rw [hflds]; decide) h s

theorem qpShare_migRequested (s : State) (vf op pages : Nat) (ke : Bool) (f : Nat) : qpShare (migRequested s vf op pages ke) f = qpShare s f := by
  rw [qpShare, getF_migRequested _ _ _ _ _ (by decide) (by decide), getF_migRequested _ _ _ _ _ (by decide) (by decide), qpShare]

theorem vecShare_migRequested (s : State) (vf op pages : Nat) (ke : Bool) (f : Nat) : vecShare (migRequested s vf op pages ke) f = vecShare s f := by
  rw [vecShare, getF_migRequested _ _ _ _ _ (by decide) (by decide), getF_migRequested _ _ _ _ _ (by decide) (by decide), vecShare]

theorem migAddr_migRequested (s : State) (vf op pages : Nat) (ke : Bool) : migAddr (migRequested s vf op pages ke) = migAddr s := by
  rw [migAddr, getF_migRequested _ _ _ _ _ (by decide) (by decide), migAddr]

/-- The fields of VFM_MIG_STAT at the end of an operation, with their values. -/
def migResult (err len : Nat) : List (Fld × Nat) := [(F.vfmMigStat_err, err), (F.vfmMigStat_length, len), (F.vfmMigStat_done, 1)]

theorem migEnd_result (s : State) (err len : Nat) :
    migEnd s err len = setF { setFs s (migResult err len) with vfm := noMig s.vfm } F.vfmMigCtrl_go 0 := rfl

/-- The registers before GO is cleared are those with the result set. -/
theorem getF_resultSet (s : State) (err len : Nat) (f : Fld) :
    getF { setFs s (migResult err len) with vfm := noMig s.vfm } f = getF (setFs s (migResult err len)) f :=
  getF_congr (s := setFs s (migResult err len)) (t := { setFs s (migResult err len) with vfm := noMig s.vfm }) rfl f

theorem only_migEnd_result (s : State) (err len : Nat) : Only s (migEnd s err len) [.vfm] [F.vfmMigCtrl_go.addr, F.vfmMigStat_done.addr] := by
  have hset := only_trans (only_setFs s (migResult err len)) (only_vfm (setFs s (migResult err len)) (noMig s.vfm))
  rw [migEnd_result]
  exact only_mono (only_trans hset (only_setF _ F.vfmMigCtrl_go 0)) (by simp)
    (by simp [migResult, F.vfmMigStat_err, F.vfmMigStat_length, F.vfmMigStat_done])

theorem getF_migResult {err len : Nat} {f : Fld} {n : Nat} (h : (f, n) ∈ migResult err len) (s : State) :
    getF (migEnd s err len) f = n % 2 ^ (f.hi + 1 - f.lo) := by
  have hflds : (migResult err len).map (·.1) = [F.vfmMigStat_err, F.vfmMigStat_length, F.vfmMigStat_done] := rfl
  have hother : ∀ g ∈ (migResult err len).map (·.1), g.addr ≠ F.vfmMigCtrl_go.addr := by rw [hflds]; decide
  rw [migEnd_result, getF_setF_addr _ _ (hother f (List.mem_map_of_mem h)), getF_resultSet]
  exact getF_setFs_mem (by rw [hflds]; decide) (by rw [hflds]; decide) h s

/-- What the end of an operation with an ERR and a length leaves of the state it ended in. -/
structure MigEnded (u t : State) (err len : Nat) : Prop where
  err : getF t F.vfmMigStat_err = err % 2 ^ 4
  length : holds t F.vfmMigStat_length len
  done : flag t F.vfmMigStat_done = true
  go : flag t F.vfmMigCtrl_go = false
  request : ∀ f : Fld, f.addr = F.vfmMigCtrl_go.addr → f.hi < F.vfmMigCtrl_go.lo → getF t f = getF u f
  func : ∀ f, funcOf t f = funcOf u f
  out : ∀ x ∈ u.out, x ∈ t.out
  free : t.free = u.free

theorem migEnded_settle (u : State) (err len : Nat) : MigEnded u (settle (migEnd u err len)) err len where
  err := by
    rw [getF_settle _ _ (by decide)]
    exact getF_migResult (n := err) (by simp [migResult]) u
  length := by
    rw [holds, getF_settle _ _ (by decide)]
    exact getF_migResult (n := len) (by simp [migResult]) u
  done := by
    rw [flag_settle _ (by decide), flag, getF_migResult (n := 1) (by simp [migResult])]
    rfl
  go := by
    rw [flag_settle _ (by decide), migEnd_result, flag, getF_setF_same _ _ _ (by decide) (by decide)]
    rfl
  request := fun f ha hlo => by
    have hhi : f.hi < 64 := Nat.lt_trans hlo (by decide)
    have hstat : ∀ g ∈ (migResult err len).map (·.1), apartFlds f g = true := by
      have hflds : (migResult err len).map (·.1) = [F.vfmMigStat_err, F.vfmMigStat_length, F.vfmMigStat_done] := rfl
      simp [hflds, apartFlds, ha, F.vfmMigCtrl_go, F.vfmMigStat_err, F.vfmMigStat_length, F.vfmMigStat_done]
    rw [getF_settle _ _ (by rw [ha]; decide), migEnd_result, getF_setF_bits _ _ ha hhi (.inl hlo), getF_resultSet]
    exact getF_setFs_apart hhi hstat u
  func := fun f => by
    rw [funcOf_settle]
    rfl
  out := fun x hx => mem_settle_out (s := migEnd u err len) hx
  free := by
    rw [settle_free]
    rfl

/-- A row that comes to the end of an operation completes with that end. -/
theorem completes_migEnd {i : Instr} {f : State → State} {s u : State} {err len : Nat} {ps qs : List Part} {as bs : List Nat}
    (hi : exec i s = effectIn .data f s) (hw : Works s) (hrun : f (cleared s) = migEnd u err len) (ho : Only (cleared s) u ps as)
    (hps : ps ++ [.vfm] ⊆ qs) (has : as ++ [F.vfmMigCtrl_go.addr, F.vfmMigStat_done.addr] ⊆ bs) :
    Completes i s fun t => MigEnded u t err len ∧ Only s t qs bs :=
  completes_runIn hi hw.1 hw.2 hrun
    ⟨migEnded_settle u err len, only_settle (only_cleared (only_mono (only_trans ho (only_migEnd_result u err len)) hps has))⟩

/-- A function none of whose commands holds a slot has none to end at a stop. -/
theorem stopFunc_unused {s : State} {f : Nat} (h : ∀ kv ∈ s.hif.slots, kv.2.func ≠ f) (g : StopFlags → StopFlags) :
    stopFunc s f g = markQuiet (setStop s f g) := by
  have hnone : ((setStop s f g).hif.slots.filter fun kv => kv.2.func == f && !isAdmitted kv.2 && queueStopped (setStop s f g) f kv.2.sqid) = [] :=
    List.filter_eq_nil_iff.2 fun kv hkv => by simp [beq_eq_false_iff_ne.2 (h kv hkv)]
  simp only [stopFunc, flushStopped, hnone, forEach, List.foldl_nil]

/-- A FREEZE waits for its VF to be quiet. -/
def freezeWaits (s : State) (vf : Nat) : State := { s with vfm := { s.vfm with migOp := some (.freeze, vf) } }

/-- The VF of a FREEZE has been stopped. -/
def freezing (s : State) (vf : Nat) : State := freezeWaits (markQuiet (setStop s vf byOfflineSet)) vf

/-- The VF of a FREEZE is stopped, quiet and frozen. -/
def frozenVf (s : State) (vf : Nat) : State := setStop (freezing s vf) vf frozenSet

theorem getF_frozenVf (s : State) (vf : Nat) {f : Fld} (h : f.addr ≠ F.vfmReconf_quiet.addr) : getF (frozenVf s vf) f = getF s f :=
  getF_setF_addr (setStop s vf byOfflineSet) _ h

theorem stop_frozenVf (s : State) (vf : Nat) : (funcOf (frozenVf s vf) vf).stop = frozenSet (byOfflineSet (funcOf s vf).stop) := by
  rw [frozenVf, stop_setStop_same]
  exact congrArg frozenSet (stop_setStop_same s vf byOfflineSet)

theorem only_frozenVf (s : State) (vf : Nat) : Only s (frozenVf s vf) [.hif, .vfm] [F.vfmReconf_quiet.addr] := by
  let u := setStop s vf byOfflineSet
  have hstop : Only s u [.hif] [] := only_changed s
  have hquiet : Only u (markQuiet u) [] [F.vfmReconf_quiet.addr] := only_setF _ _ _
  have hwait := only_trans (only_trans hstop hquiet) (only_vfm (markQuiet u) { s.vfm with migOp := some (.freeze, vf) })
  have hfreeze : Only (freezing s vf) (frozenVf s vf) [.hif] [] := only_changed _
  exact only_mono (only_trans hwait hfreeze) (by simp) (by simp)

/-- The FREEZE of a VF with no command in progress ends at once. -/
theorem onFreeze_unused {s : State} {vf : Nat} (hgo : flag s F.vfmMigCtrl_go = false) (hvf : isVf s vf = true) (hrun : (funcOf s vf).stop.frozen = false)
    (hidle : ∀ kv ∈ s.hif.slots, kv.2.func ≠ vf) (pages : Nat) (ke : Bool) :
    onFreeze vf pages ke s = migEnd (frozenVf (migRequested s vf 1 pages ke) vf) 0 0 := by
  let r := migRequested s vf 1 pages ke
  have hvf' : isVf r vf = true := hvf
  have hrun' : (funcOf r vf).stop.frozen = false := hrun
  have hquiet : vfQuiet (freezing r vf) vf = true := by
    have hnone : (s.hif.slots.any fun kv => kv.2.func == vf && isAdmitted kv.2) = false :=
      List.any_eq_false.2 fun kv hkv => by simp [beq_eq_false_iff_ne.2 (hidle kv hkv)]
    exact (congrArg not hnone).trans rfl
  have hstop : stopFunc r vf byOfflineSet = markQuiet (setStop r vf byOfflineSet) := stopFunc_unused (s := r) hidle _
  have hstart : (!isVf r vf || (funcOf r vf).stop.frozen) = false := by rw [hvf', hrun']; rfl
  rw [onFreeze, migStart_idle hgo]
  calc _ = freezeDone (freezeWaits (stopFunc r vf byOfflineSet) vf) := if_neg (ne_true_of_eq_false hstart)
    _ = freezeDone (freezing r vf) := by rw [hstop]; rfl
    _ = migEnd (frozenVf r vf) 0 0 := if_pos hquiet

/-- The flags of a VF whose freeze ends. -/
def unfrozenSet (x : StopFlags) : StopFlags := { x with frozen := false, byOffline := true }

theorem onUnfreeze_frozen {s : State} {vf : Nat} (hgo : flag s F.vfmMigCtrl_go = false) (hvf : isVf s vf = true) (hfrozen : (funcOf s vf).stop.frozen = true)
    (pages : Nat) (ke : Bool) : onUnfreeze vf pages ke s = migEnd (setStop (migRequested s vf 4 pages ke) vf unfrozenSet) 0 0 := by
  have hvf' : isVf (migRequested s vf 4 pages ke) vf = true := hvf
  have hfrozen' : (funcOf (migRequested s vf 4 pages ke) vf).stop.frozen = true := hfrozen
  rw [onUnfreeze, migStart_idle hgo]
  simp only [hvf', hfrozen', Bool.not_true, Bool.or_self, Bool.false_eq_true, if_false]
  rfl

theorem onUnfreeze_running {s : State} {vf : Nat} (hgo : flag s F.vfmMigCtrl_go = false) (hno : isVf s vf = false ∨ (funcOf s vf).stop.frozen = false)
    (pages : Nat) (ke : Bool) : onUnfreeze vf pages ke s = migEnd (migRequested s vf 4 pages ke) 2 0 := by
  have hrefused : (!isVf s vf || !(funcOf s vf).stop.frozen) = true := by
    rcases hno with hvf | hrun
    · simp [hvf]
    · simp [hrun]
  rw [onUnfreeze, migStart_idle hgo]
  exact if_pos hrefused

end Sys2Proof.Machine
end

section
/-!
PROOFS. The image that SAVE writes (R144): its length, and the save of a VF on a device that stands alone.
-/

namespace Sys2Proof.Machine

open Sys2Proof

theorem bytesAt_length (bs : List Byte) (a n : Nat) : (bytesAt bs a n).length = n := by
  simp only [bytesAt, List.length_append, List.length_take, List.length_drop, List.length_replicate]
  omega

theorem gcmTag_length (key nonce aad cipher : List Byte) : (gcmTag key nonce aad cipher).length = 16 := by
  simp only [gcmTag, eager_eq, beBytes, List.length_reverse, leBytes_length]

theorem imageHeader_length (s : State) (vf nqp nvec floor : Nat) (key : Bool) (nonce : List Byte) :
    (imageHeader s vf nqp nvec floor key nonce).length = 64 := by
  simp only [imageHeader, List.length_append, leBytes_length, bytesAt_length]

theorem imageController_length (x : Func) : (imageController x).length = 128 := by
  simp only [imageController, List.length_append, leBytes_length]

theorem imageQueue_length (x : Func) (i : Nat) : (imageQueue x i).length = 32 := by
  simp only [imageQueue, List.length_append, leBytes_length]

theorem imageVector_length (x : Func) (i : Nat) : (imageVector x i).length = 16 := by
  simp only [imageVector, List.length_append, leBytes_length]

theorem imageNs_length (ns : Option (Nat × Namespace)) : (imageNs ns).length = 32 := by
  cases ns with
  | none => exact leBytes_length 32 0
  | some x => simp only [imageNs, List.length_append, leBytes_length]

theorem statsPage_length (x : Func) : (statsPage x).length = 128 := by
  simp [statsPage, List.length_flatMap, leBytes_length]

/-- The namespace of a VF. -/
def nsOfVf (s : State) (vf : Nat) : Option (Nat × Namespace) := s.nss.find? fun kv => kv.2.attached == some vf

/-- The image of a VF without a key and before its tag. -/
def vfImage (s : State) (vf : Nat) (nonce : List Byte) : List Byte :=
  imageHeader s vf (qpShare s vf) (vecShare s vf) (imageFloor s (nsOfVf s vf)).1 false nonce ++ imageController (funcOf s vf) ++
    (List.range (qpShare s vf)).flatMap (fun i => imageQueue (funcOf s vf) (i + 1)) ++
    (List.range (vecShare s vf)).flatMap (imageVector (funcOf s vf)) ++ imageNs (nsOfVf s vf) ++ statsPage (funcOf s vf)

/-- The image with its tag. -/
def taggedImage (s : State) (vf : Nat) (mk nonce : List Byte) : List Byte := vfImage s vf nonce ++ gcmTag mk nonce (vfImage s vf nonce) []

theorem taggedImage_length (s : State) (vf : Nat) (mk nonce : List Byte) :
    (taggedImage s vf mk nonce).length = imageLength (qpShare s vf) (vecShare s vf) false := by
  simp only [taggedImage, vfImage, List.length_append, imageHeader_length, imageController_length, List.length_flatMap, imageQueue_length,
    imageVector_length, imageNs_length, statsPage_length, gcmTag_length, List.map_const', List.length_range, List.sum_replicate, smul_eq_mul, imageLength]
  have hkey : b2n false = 0 := rfl
  omega

/-- With no member to ask, the epoch floor of an image draws no free value. -/
theorem imageFloor_standalone {s : State} (h : standalone s = true) (ns : Option (Nat × Namespace)) : imageFloor s ns = ((imageFloor s ns).1, s) := by
  cases ns with
  | none => rfl
  | some x => simp only [imageFloor, membersOf_standalone h, List.isEmpty_nil, if_true]

/-- Of the state without its registers and its count of free values the floor takes the same. -/
theorem imageFloor_congr {s : State} (h : standalone s = true) (r : Sparse Word) (o : List Output) (k : Nat) (ns : Option (Nat × Namespace)) :
    (imageFloor { s with regs := r, out := o, free := k } ns).1 = (imageFloor s ns).1 := by
  cases ns with
  | none => rfl
  | some x =>
    simp only [imageFloor, membersOf_standalone h, membersOf_standalone (s := { s with regs := r, out := o, free := k }) h, List.isEmpty_nil, if_true]
    rfl

/-- The nonce that the next draw gives. -/
def nextNonce (s : State) : List Byte := leBytes 12 (Config.freeNat s.free)

/-- An image has gone to VFM_MIG_ADDR, its nonce drawn. -/
def imageWritten (s : State) (vf : Nat) (mk : List Byte) : State :=
  emit { s with free := s.free + 1 } (.hostWrite (migAddr s) (taggedImage s vf mk (nextNonce s)))

/-- A draw changes neither the header of an image nor the address it goes to. -/
theorem imageHeader_draw (s : State) (k vf nqp nvec floor : Nat) (key : Bool) (nonce : List Byte) :
    imageHeader { s with free := k } vf nqp nvec floor key nonce = imageHeader s vf nqp nvec floor key nonce := rfl

theorem migAddr_draw (s : State) (k : Nat) : migAddr { s with free := k } = migAddr s := rfl

theorem imageFloor_draw {s : State} (h : standalone s = true) (k vf : Nat) :
    imageFloor { s with free := k } (s.nss.find? fun kv => kv.2.attached == some vf) = ((imageFloor s (nsOfVf s vf)).1, { s with free := k }) :=
  (imageFloor_standalone (by exact h) _).trans (congrArg (·, _) (imageFloor_congr h s.regs s.out k (nsOfVf s vf)))

/-- The SAVE of a frozen VF with a migration key and room for its image writes the image; `r` is the state with the request. -/
theorem onSave_writes {s r : State} {vf pages : Nat} {mk : List Byte} (hgo : flag s F.vfmMigCtrl_go = false) (hr : migRequested s vf 2 pages false = r)
    (hvf : isVf r vf = true) (hfrozen : (funcOf r vf).stop.frozen = true) (hpages : pages ≠ 0)
    (hfits : imageLength (qpShare r vf) (vecShare r vf) false ≤ pages * 4096) (hkey : keyBytes r slotMigration = some mk)
    (halone : standalone r = true) :
    onSave vf pages false s = migEnd (imageWritten r vf mk) 0 (taggedImage r vf mk (nextNonce r)).length := by
  rw [onSave, migStart_idle hgo, hr]
  simp only [hvf, hfrozen, Bool.not_true, Bool.or_self, Bool.false_eq_true, if_false, if_neg hpages, if_neg (Nat.not_lt.2 hfits), Bool.false_and, hkey,
    drawBytes, imageFloor_draw halone (r.free + 1) vf, imageHeader_draw r (r.free + 1), migAddr_draw r (r.free + 1),
    List.append_nil, imageWritten, taggedImage, vfImage, nsOfVf, nextNonce]

/-- The SAVE of a frozen VF whose image does not fit its buffer ends with BUF_SMALL. -/
theorem onSave_small {s : State} {vf pages : Nat} {ke : Bool} (hgo : flag s F.vfmMigCtrl_go = false) (hvf : isVf s vf = true)
    (hfrozen : (funcOf s vf).stop.frozen = true) (hpages : pages ≠ 0) (hsmall : pages * 4096 < imageLength (qpShare s vf) (vecShare s vf) ke) :
    onSave vf pages ke s = migEnd (migRequested s vf 2 pages ke) 8 0 := by
  have hvf' : isVf (migRequested s vf 2 pages ke) vf = true := hvf
  have hfrozen' : (funcOf (migRequested s vf 2 pages ke) vf).stop.frozen = true := hfrozen
  rw [onSave, migStart_idle hgo]
  simp only [hvf', hfrozen', Bool.not_true, Bool.or_self, Bool.false_eq_true, if_false, if_neg hpages, qpShare_migRequested, vecShare_migRequested,
    if_pos hsmall]

/-- The image takes nothing of the request or of the outputs. -/
theorem taggedImage_migRequested {s : State} (h : standalone s = true) (vf op pages : Nat) (ke : Bool) (mk nonce : List Byte) :
    taggedImage (migRequested (cleared s) vf op pages ke) vf mk nonce = taggedImage s vf mk nonce := by
  let r := migRequested (cleared s) vf op pages ke
  have hqp : qpShare r vf = qpShare s vf := qpShare_migRequested (cleared s) vf op pages ke vf
  have hvec : vecShare r vf = vecShare s vf := vecShare_migRequested (cleared s) vf op pages ke vf
  have hfloor : (imageFloor r (nsOfVf s vf)).1 = (imageFloor s (nsOfVf s vf)).1 := imageFloor_congr h r.regs [] s.free (nsOfVf s vf)
  have hheader : ∀ floor, imageHeader r vf (qpShare s vf) (vecShare s vf) floor false nonce =
      imageHeader s vf (qpShare s vf) (vecShare s vf) floor false nonce :=
    fun _ => rfl
  have himage : vfImage r vf nonce = vfImage s vf nonce := by
    have hfunc : funcOf r vf = funcOf s vf := rfl
    have hns : nsOfVf r vf = nsOfVf s vf := rfl
    simp only [vfImage, hqp, hvec, hfunc, hns, hfloor, hheader]
  rw [taggedImage, himage, taggedImage]

end Sys2Proof.Machine
end

section
/-!
PROOFS. RESTORE (R145): the checks of an image, and the state that an image with no namespace gives its VF.
-/

namespace Sys2Proof.Machine

open Sys2Proof

/-- The identifiers that `n` outstanding Asynchronous Event Requests draw from a count of free values on. -/
def aersFrom : (n k : Nat) → List Nat
  | 0, _ => []
  | n + 1, k => Config.freeNat k % 65536 :: aersFrom n (k + 1)

theorem drawAers_eq (n : Nat) (s : State) : drawAers n s = (aersFrom n s.free, { s with free := s.free + n }) := by
  induction n generalizing s with
  | zero => rfl
  | succ n ih =>
    simp only [drawAers, draw, ih, aersFrom]
    rw [Nat.add_assoc, Nat.add_comm 1 n]

/-- An image gives its VF a new state, stopped and frozen, and draws the identifiers that it does not carry. -/
theorem applyImage_shape (s : State) (vf nsid : Nat) (image : List Byte) :
    ∃ k x, applyImage s vf nsid image = putFunc { s with free := k } vf x ∧ x.stop = { (funcOf s vf).stop with frozen := true, byOffline := true } := by
  simp only [applyImage, drawAers_eq]
  exact ⟨_, _, rfl, rfl⟩

theorem only_applyImage (s : State) (vf nsid : Nat) (image : List Byte) : Only s (applyImage s vf nsid image) [.hif, .free] [] := by
  obtain ⟨k, x, hx, -⟩ := applyImage_shape s vf nsid image
  rw [hx]
  exact only_changed s

theorem stop_applyImage (s : State) (vf nsid : Nat) (image : List Byte) : (funcOf (applyImage s vf nsid image) vf).stop.frozen = true := by
  obtain ⟨k, x, hx, hstop⟩ := applyImage_shape s vf nsid image
  rw [hx, funcOf_putFunc_same, hstop]

/-- What an image gives its VF depends on the functions and on the free values still to be drawn. -/
theorem funcOf_applyImage_congr {s t : State} (hhif : t.hif = s.hif) (hfree : t.free = s.free) (vf nsid : Nat) (image : List Byte) :
    funcOf (applyImage t vf nsid image) vf = funcOf (applyImage s vf nsid image) vf := by
  simp only [applyImage, drawAers_eq, funcOf_putFunc_same]
  simp only [funcOf, hhif, hfree]

/-- An image is checked against the migration key and the shares of its VF. -/
theorem imageError_congr {s t : State} {vf : Nat} (hkeys : t.tkr = s.tkr) (hqp : qpShare t vf = qpShare s vf) (hvec : vecShare t vf = vecShare s vf)
    (pages : Nat) (image : List Byte) : imageError t vf pages image = imageError s vf pages image := by
  simp only [imageError, keyBytes, hkeys, hqp, hvec]

theorem imageError_emit (s : State) (o : Output) (vf pages : Nat) (image : List Byte) :
    imageError (emit s o) vf pages image = imageError s vf pages image := imageError_congr (s := s) (t := emit s o) rfl rfl rfl pages image

/-- The values that ERR takes for an image fit its field. -/
theorem imageError_lt (s : State) (vf pages : Nat) (image : List Byte) : imageError s vf pages image < 2 ^ 4 := by
  unfold imageError
  dsimp only
  repeat' split
  all_goals decide

/-- The image buffer has been read. -/
def imageRead (s : State) (pages : Nat) : State := emit s (.hostRead (migAddr s) (pages * 4096))

theorem imageError_imageRead (s : State) (vf op pages : Nat) (ke : Bool) (image : List Byte) :
    imageError (imageRead (migRequested s vf op pages ke) pages) vf pages image = imageError s vf pages image :=
  (imageError_emit _ _ vf pages image).trans
    (imageError_congr (s := s) (t := migRequested s vf op pages ke) rfl (qpShare_migRequested s vf op pages ke vf)
      (vecShare_migRequested s vf op pages ke vf) pages image)

/-- A VF that RESTORE may write: stopped and not frozen. -/
structure Restorable (s : State) (vf : Nat) : Prop where
  isVf : isVf s vf = true
  stopped : ((funcOf s vf).stop.byOffline || (funcOf s vf).stop.byStopAll) = true
  running : (funcOf s vf).stop.frozen = false

/-- RESTORE of an image that fails a check; `r` is the state with the request and `u` the state once the image has been read. -/
theorem onRestore_fails {s r u : State} {vf pages : Nat} {ke : Bool} {image : List Byte} (hgo : flag s F.vfmMigCtrl_go = false)
    (hr : migRequested s vf 3 pages ke = r) (hu : imageRead r pages = u) (h : Restorable r vf) (hpages : pages ≠ 0)
    (herr : imageError u vf pages image ≠ 0) : onRestore vf pages ke image s = migEnd u (imageError u vf pages image) 0 := by
  rw [imageRead] at hu
  rw [onRestore, migStart_idle hgo, hr]
  simp only [h.isVf, h.stopped, h.running, Bool.not_true, Bool.or_self, Bool.false_eq_true, if_false, if_neg hpages, hu, if_pos herr]

/-- An image that is not of a frozen VF of this device is restored as one from another device. -/
theorem imageHere_false {s : State} {image : List Byte} (b : Bool)
    (h : leAt image 0x10 8 ≠ s.otp.devUid.toNat ∨ (funcOf s (leAt image 0x0C 2 % 8192)).stop.frozen = false) :
    (leAt image 0x10 8 == s.otp.devUid.toNat && (funcOf s (leAt image 0x0C 2 % 8192)).stop.frozen && b) = false := by
  rcases h with huid | hrun
  · rw [beq_eq_false_iff_ne.2 huid, Bool.false_and, Bool.false_and]
  · rw [hrun, Bool.and_false, Bool.false_and]

/-- RESTORE of a sound image with no namespace and no key, while no record waits for the journal. -/
theorem onRestore_applies {s r u : State} {vf pages : Nat} {ke : Bool} {image : List Byte} (hgo : flag s F.vfmMigCtrl_go = false)
    (hr : migRequested s vf 3 pages ke = r) (hu : imageRead r pages = u) (h : Restorable r vf) (hpages : pages ≠ 0)
    (hok : imageError u vf pages image = 0)
    (hsrc : leAt image 0x10 8 ≠ u.otp.devUid.toNat ∨ (funcOf u (leAt image 0x0C 2 % 8192)).stop.frozen = false) (hnone : nsOfVf u vf = none)
    (hcount : leAt image (192 + 32 * (leAt image 0x20 1 % 128) + 16 * leAt image 0x21 1 + 8) 4 % 2 ^ 18 = 0) (hkey : bitAt (leAt image 4 4) 16 = false)
    (hj : u.jrn.waiting = []) :
    onRestore vf pages ke image s = migEnd (applyImage u vf 0 image) 0 (imageLength (leAt image 0x20 1 % 128) (leAt image 0x21 1) false) := by
  obtain ⟨k, x, happly, -⟩ := applyImage_shape u vf 0 image
  have hjrn : (applyImage u vf 0 image).jrn.waiting.isEmpty = true := by
    have hempty : u.jrn.waiting.isEmpty = true := List.isEmpty_iff.2 hj
    rw [happly]
    exact hempty
  have hhere := fun b => imageHere_false (s := u) (image := image) b hsrc
  rw [imageRead] at hu
  rw [nsOfVf] at hnone
  rw [onRestore, migStart_idle hgo, hr]
  simp only [h.isVf, h.stopped, h.running, Bool.not_true, Bool.or_self, Bool.false_eq_true, if_false, if_neg hpages, hu, hok, ne_eq, not_true_eq_false,
    hhere, hnone, hcount, hkey, Bool.false_and, migCommit, hjrn, if_true]

/-- A VF that RESTORE may write is one with the request too. -/
theorem Restorable.requested {s : State} {vf : Nat} (h : Restorable s vf) (op pages : Nat) (ke : Bool) :
    Restorable (migRequested (cleared s) vf op pages ke) vf := ⟨h.isVf, h.stopped, h.running⟩

theorem only_imageRead (s : State) (vf op pages : Nat) (ke : Bool) :
    Only s (imageRead (migRequested s vf op pages ke) pages) [] [F.vfmMigCtrl_go.addr] :=
  only_trans (only_migRequested s vf op pages ke) (only_emit _ _)

theorem completes_restoreFails {vf pages : Nat} {ke : Bool} {image : List Byte} {s : State} (hw : Works s) (hgo : flag s F.vfmMigCtrl_go = false)
    (h : Restorable s vf) (hpages : pages ≠ 0) (herr : imageError s vf pages image ≠ 0) :
    Completes (.restore vf pages ke image) s fun t =>
      flag t F.vfmMigStat_done = true ∧ getF t F.vfmMigStat_err = imageError s vf pages image ∧ flag t F.vfmMigCtrl_go = false ∧
        Only s t [.vfm] [F.vfmMigCtrl_go.addr, F.vfmMigStat_done.addr] := by
  have hsame := imageError_imageRead (cleared s) vf 3 pages ke image
  have hrow := onRestore_fails (s := cleared s) (image := image) hgo rfl rfl (h.requested 3 pages ke) hpages (by rw [hsame]; exact herr)
  rw [hsame] at hrow
  refine (completes_migEnd (f := onRestore vf pages ke image) rfl hw hrow (only_imageRead _ _ _ _ _) (by simp) (by simp)).mono
    fun t ⟨hend, honly⟩ => ⟨hend.done, hend.err.trans ?_, hend.go, honly⟩
  exact Nat.mod_eq_of_lt (imageError_lt s vf pages image)

theorem completes_restore {vf pages : Nat} {ke : Bool} {image : List Byte} {s : State} (hw : Works s) (hgo : flag s F.vfmMigCtrl_go = false)
    (h : Restorable s vf) (hpages : pages ≠ 0) (hok : imageError s vf pages image = 0)
    (hsrc : leAt image 0x10 8 ≠ s.otp.devUid.toNat ∨ (funcOf s (leAt image 0x0C 2 % 8192)).stop.frozen = false) (hnone : nsOfVf s vf = none)
    (hcount : leAt image (192 + 32 * (leAt image 0x20 1 % 128) + 16 * leAt image 0x21 1 + 8) 4 % 2 ^ 18 = 0) (hkey : bitAt (leAt image 4 4) 16 = false)
    (hj : s.jrn.waiting = []) :
    Completes (.restore vf pages ke image) s fun t =>
      funcOf t vf = funcOf (applyImage s vf 0 image) vf ∧ (funcOf t vf).stop.frozen = true ∧ flag t F.vfmMigStat_done = true ∧
        getF t F.vfmMigStat_err = 0 ∧ Output.hostRead (migAddr s) (pages * 4096) ∈ t.out ∧
        Only s t [.hif, .vfm, .free] [F.vfmMigCtrl_go.addr, F.vfmMigStat_done.addr] := by
  let r := migRequested (cleared s) vf 3 pages ke
  let u := imageRead r pages
  obtain ⟨k, x, happly, -⟩ := applyImage_shape u vf 0 image
  have hrow := onRestore_applies (s := cleared s) (r := r) (u := u) (image := image) hgo rfl rfl (h.requested 3 pages ke) hpages
    ((imageError_imageRead (cleared s) vf 3 pages ke image).trans hok) hsrc hnone hcount hkey hj
  refine (completes_migEnd (f := onRestore vf pages ke image) rfl hw hrow
    (only_trans (only_imageRead _ _ _ _ _) (only_applyImage u vf 0 image)) (qs := [.hif, .vfm, .free]) (bs := [F.vfmMigCtrl_go.addr, F.vfmMigStat_done.addr])
    (by simp) (by simp)).mono fun t ⟨hend, honly⟩ => ⟨?_, ?_, hend.done, hend.err, ?_, honly⟩
  · rw [hend.func]
    exact funcOf_applyImage_congr (s := s) (t := u) rfl rfl vf 0 image
  · rw [hend.func]
    exact stop_applyImage u vf 0 image
  · refine hend.out _ ?_
    rw [happly]
    exact List.mem_append_right _ (List.mem_singleton.2 (by rw [migAddr_migRequested]; rfl))

end Sys2Proof.Machine
end

section
/-!
PROOFS. Live migration: the rows of VFM_MIG_CTRL.
-/

namespace Sys2Proof.Machine

open Sys2Proof

/-- FREEZE of a VF with no command in progress. -/
theorem completes_freeze {vf : Nat} {s : State} (hw : Works s) (hgo : flag s F.vfmMigCtrl_go = false) (hvf : isVf s vf = true)
    (hrun : (funcOf s vf).stop.frozen = false) (hidle : ∀ kv ∈ s.hif.slots, kv.2.func ≠ vf) (pages : Nat) (ke : Bool) :
    Completes (.freeze vf pages ke) s fun t =>
      (funcOf t vf).stop.frozen = true ∧ (funcOf t vf).stop.byOffline = true ∧ flag t F.vfmMigStat_done = true ∧ getF t F.vfmMigStat_err = 0 ∧
        flag t F.vfmMigCtrl_go = false ∧ holds t F.vfmMigCtrl_bufPages pages ∧ getF t F.vfmMigCtrl_keyExport = b2n ke ∧
        Only s t [.hif, .vfm] [F.vfmMigCtrl_go.addr, F.vfmMigStat_done.addr, F.vfmReconf_quiet.addr] := by
  let r := migRequested (cleared s) vf 1 pages ke
  have hrow := onFreeze_unused (s := cleared s) hgo hvf hrun hidle pages ke
  refine (completes_migEnd (f := onFreeze vf pages ke) rfl hw hrow (only_trans (only_migRequested _ _ _ _ _) (only_frozenVf r vf))
    (qs := [.hif, .vfm]) (bs := [F.vfmMigCtrl_go.addr, F.vfmMigStat_done.addr, F.vfmReconf_quiet.addr]) (by simp) (by simp)).mono fun t ⟨hend, honly⟩ => ?_
  have hstop : (funcOf t vf).stop = frozenSet (byOfflineSet (funcOf r vf).stop) := by rw [hend.func, stop_frozenVf]
  refine ⟨by rw [hstop]; rfl, by rw [hstop]; rfl, hend.done, hend.err, hend.go, ?_, ?_, honly⟩
  · rw [holds, hend.request F.vfmMigCtrl_bufPages rfl (by decide), getF_frozenVf _ _ (by decide)]
    exact getF_migRequest (by simp [migRequest]) _
  · rw [hend.request F.vfmMigCtrl_keyExport rfl (by decide), getF_frozenVf _ _ (by decide), getF_migRequest (n := b2n ke) (by simp [migRequest])]
    exact b2n_mod_two ke

/-- UNFREEZE of a frozen VF. -/
theorem completes_unfreeze {vf : Nat} {s : State} (hw : Works s) (hgo : flag s F.vfmMigCtrl_go = false) (hvf : isVf s vf = true)
    (hfrozen : (funcOf s vf).stop.frozen = true) (pages : Nat) (ke : Bool) :
    Completes (.unfreeze vf pages ke) s fun t =>
      (funcOf t vf).stop.frozen = false ∧ (funcOf t vf).stop.byOffline = true ∧ flag t F.vfmMigStat_done = true ∧ getF t F.vfmMigStat_err = 0 ∧
        Only s t [.hif, .vfm] [F.vfmMigCtrl_go.addr, F.vfmMigStat_done.addr] := by
  let r := migRequested (cleared s) vf 4 pages ke
  have hstopped : Only r (setStop r vf unfrozenSet) [.hif] [] := only_changed r
  have hrow := onUnfreeze_frozen (s := cleared s) hgo hvf hfrozen pages ke
  refine (completes_migEnd (f := onUnfreeze vf pages ke) rfl hw hrow (only_trans (only_migRequested _ _ _ _ _) hstopped)
    (qs := [.hif, .vfm]) (bs := [F.vfmMigCtrl_go.addr, F.vfmMigStat_done.addr]) (by simp) (by simp)).mono fun t ⟨hend, honly⟩ => ?_
  have hstop : (funcOf t vf).stop = unfrozenSet (funcOf r vf).stop := by rw [hend.func, stop_setStop_same]
  exact ⟨by rw [hstop]; rfl, by rw [hstop]; rfl, hend.done, hend.err, honly⟩

/-- SAVE of a frozen VF without its key, on a device that stands alone. -/
theorem completes_save {vf pages : Nat} {mk : List Byte} {s : State} (hw : Works s) (hgo : flag s F.vfmMigCtrl_go = false) (hvf : isVf s vf = true)
    (hfrozen : (funcOf s vf).stop.frozen = true) (hpages : pages ≠ 0) (hfits : imageLength (qpShare s vf) (vecShare s vf) false ≤ pages * 4096)
    (hkey : keyBytes s slotMigration = some mk) (halone : standalone s = true) :
    Completes (.save vf pages false) s fun t =>
      Output.hostWrite (migAddr s) (taggedImage s vf mk (nextNonce s)) ∈ t.out ∧
        holds t F.vfmMigStat_length (imageLength (qpShare s vf) (vecShare s vf) false) ∧ flag t F.vfmMigStat_done = true ∧
        getF t F.vfmMigStat_err = 0 ∧ t.free = s.free + 1 ∧ Only s t [.vfm, .free] [F.vfmMigCtrl_go.addr, F.vfmMigStat_done.addr] := by
  let r := migRequested (cleared s) vf 2 pages false
  have hqp : qpShare r vf = qpShare s vf := qpShare_migRequested (cleared s) vf 2 pages false vf
  have hvec : vecShare r vf = vecShare s vf := vecShare_migRequested (cleared s) vf 2 pages false vf
  have himage : taggedImage r vf mk (nextNonce r) = taggedImage s vf mk (nextNonce s) := taggedImage_migRequested halone vf 2 pages false mk _
  have hrow := onSave_writes (s := cleared s) (r := r) hgo rfl hvf hfrozen hpages (by rw [hqp, hvec]; exact hfits) hkey halone
  rw [himage, taggedImage_length] at hrow
  have hwritten : Only r (imageWritten r vf mk) [.free] [] := only_trans (only_changed r (f := r.free + 1) (ps := [.free])) (only_emit _ _)
  refine (completes_migEnd (f := onSave vf pages false) rfl hw hrow (only_trans (only_migRequested _ _ _ _ _) hwritten)
    (qs := [.vfm, .free]) (bs := [F.vfmMigCtrl_go.addr, F.vfmMigStat_done.addr]) (by simp) (by simp)).mono
    fun t ⟨hend, honly⟩ => ⟨hend.out _ ?_, hend.length, hend.done, hend.err, hend.free, honly⟩
  have haddr : migAddr r = migAddr s := migAddr_migRequested (cleared s) vf 2 pages false
  rw [← himage, ← haddr]
  exact List.mem_append_right _ (List.mem_singleton.2 rfl)

/-- Settles O19: GO begins an operation that ends with the VF's flags, its image or its new state changed, or with an ERR alone. -/
theorem migration : Obligations.Migration := by
  unfold Obligations.Migration
  refine ⟨?freeze, ?unfreeze, ?running, ?save, ?small, ?restore, ?unsound, ?busy⟩
  case freeze => exact fun vf pages ke s hw hgo hvf hrun hidle => completes_freeze hw hgo hvf hrun hidle pages ke
  case unfreeze => exact fun vf pages ke s hw hgo hvf hfrozen => completes_unfreeze hw hgo hvf hfrozen pages ke
  case running =>
    intro vf pages ke s hw hgo hno
    exact (completes_migEnd (f := onUnfreeze vf pages ke) rfl hw (onUnfreeze_running (s := cleared s) hgo hno pages ke) (only_migRequested _ _ _ _ _)
      (by simp) (by simp)).mono fun t ⟨hend, honly⟩ => ⟨hend.done, hend.err, hend.go, honly⟩
  case save => exact fun vf pages mk s hw hgo hvf hfrozen hpages hfits hkey halone => completes_save hw hgo hvf hfrozen hpages hfits hkey halone
  case small =>
    intro vf pages ke s hw hgo hvf hfrozen hpages hsmall
    exact (completes_migEnd (f := onSave vf pages ke) rfl hw (onSave_small (s := cleared s) hgo hvf hfrozen hpages hsmall) (only_migRequested _ _ _ _ _)
      (by simp) (by simp)).mono fun t ⟨hend, honly⟩ => ⟨hend.done, hend.err, hend.go, honly⟩
  case restore =>
    intro vf pages ke image s hw hgo hvf hstop hrun hpages hok hsrc hnone hcount hkey hj
    exact completes_restore hw hgo ⟨hvf, hstop, hrun⟩ hpages hok hsrc hnone hcount hkey hj
  case unsound =>
    intro vf pages ke image s hw hgo hvf hstop hrun hpages herr
    exact completes_restoreFails hw hgo ⟨hvf, hstop, hrun⟩ hpages herr
  case busy =>
    intro vf pages ke s hw hgo
    refine completes_runIn (f := onFreeze vf pages ke) rfl hw.1 hw.2 (migStart_busy (s := cleared s) hgo vf 1 pages ke _)
      ⟨?_, only_settle (only_cleared (only_setF _ _ _))⟩
    rw [getF_settle _ _ (by decide), getF_setF_same _ _ _ (by decide) (by decide)]
    rfl

end Sys2Proof.Machine
end

section
/-!
PROOFS. Refutation: a tracking probe past its deadline does not wait for tokens (R160, R231).
-/

namespace Sys2Proof.Machine

open Sys2Proof

/-- The words of a die descriptor but its CRC: signature and version, geometry, the rate, the row fields, and the opcode entries that every die has
(R185 to R188). -/
def descriptorWords : List Nat :=
  [0x64084444, 0x01000001, 0, 0, 0x00010104, 0x10000100, 40960, 0x09600000, 0x0B030004, 0x00001A0D] ++ List.replicate 18 0 ++ [1, 0, 1, 0, 0, 0] ++
    List.replicate 7 1 ++ List.replicate 22 0

/-- The CRC of that descriptor. -/
def descriptorCrc : Nat := 0x54D84A66

/-- The descriptor's 256 bytes. -/
def descriptor : List Byte := (descriptorWords ++ [descriptorCrc]).flatMap (leBytes 4)

/-- The registers of bay 0's descriptor 0 that are not zero. -/
def descriptorRegs : Sparse Word :=
  (((descriptorWords ++ [descriptorCrc]).zipIdx.filter fun w => w.1 != 0).map fun w => ((F.fchDesc_word 0 w.2).addr, BitVec.ofNat 64 w.1))

/-- The reset device with bay 0 ready and that descriptor, channel 0 READY, die 0 present and in service, and CAP at 1,000 mW, at 2 µs. -/
def readyDie : State :=
  { State.reset with
    regs := [(0x1000000000, 0xFB0), (0x1000200010, 0x8140A), (0x1000700000, 0x1), (F.schCinch_cap.addr, 0x4E2003E8), ((F.fchStat_state 0).addr, 3),
      ((F.fchDieCfg_present 0 0).addr, 0x11)] ++ descriptorRegs ++ [(0x1001700010, 0x2)]
    bay := { State.reset.bay with bays := [(0, ⟨.ready, 0, false, false, false, 0⟩)] }
    clk := { State.reset.clk with sch := 2 } }

/-- A tracking probe that was to be sensed by 1 µs. -/
def lateProbe : DieEntry := ⟨.probe true, .d4, .device, .vault, 1, 0, false⟩

/-- An erase of 1,000 mW, the whole CAP of `readyDie`. -/
def cappedErase : Running := { stampedErase with power := 1000, suspendedAt := none }

/-- That device with the probe ready on die 0 and all its power in use on die 16. -/
def lateProbeWaits : State :=
  { readyDie with sch := { readyDie.sch with dies := [(0, { noDie with queue := [lateProbe] }), (16, { noDie with current := some cappedErase })] } }

/-- A running CRC-32C as a number, evaluated byte by byte. -/
def crcFrom : List Byte → Nat → Nat
  | [], c => c
  | b :: bs, c => eager (crcByte (BitVec.ofNat 32 c) b).toNat (crcFrom bs)

theorem crcFrom_eq (bs : List Byte) (c : BitVec 32) : crcFrom bs c.toNat = (crcRun c bs).toNat := by
  induction bs generalizing c with
  | nil => rfl
  | cons b bs ih => simpa [crcFrom, crcRun] using ih (crcByte c b)

theorem crc32c_descriptorWords : (crc32c (descriptorWords.flatMap (leBytes 4))).toNat = descriptorCrc := by
  rw [crc32c, BitVec.toNat_xor, ← crcFrom_eq]
  decide +kernel

theorem bytesCrcGood_descriptor : bytesCrcGood descriptor = true := by
  have hhead : descriptor.take 252 = descriptorWords.flatMap (leBytes 4) := by decide +kernel
  have hcrc : leAt descriptor 0xFC 4 = descriptorCrc := by decide +kernel
  rw [bytesCrcGood, hhead, hcrc, crc32c_descriptorWords, beq_self_eq_true]

theorem bytesFit_descriptor : bytesFit descriptor = true := by decide +kernel

theorem descValid_lateProbeWaits : descValid lateProbeWaits (dieBay 0) 0 = true := by
  have hbytes : descBytes lateProbeWaits (dieBay 0) 0 = descriptor := by decide +kernel
  rw [descValid, descCrcGood, descFits, hbytes, bytesCrcGood_descriptor, bytesFit_descriptor, Bool.and_self]

theorem mayIssue_lateProbeWaits : mayIssue lateProbeWaits 0 = true := by
  have hdesc : getF lateProbeWaits (F.fchDieCfg_desc (dieChannel 0) (diePos 0)) = 0 := by decide +kernel
  rw [mayIssue, hdesc, descValid_lateProbeWaits]
  decide +kernel

/-- The issue finds the probe late and takes it out. -/
theorem dieOf_onDieEntryIssue_lateProbeWaits : dieOf (onDieEntryIssue 0 false [] (cleared lateProbeWaits)) 0 = noDie := by decide +kernel

/-- Refutes O30: its clause of an entry for which no tokens suffice lets every entry wait in its queue, and a tracking probe past its deadline is dropped
(R231). The issue on die 0 of `lateProbeWaits` leaves its queue empty. -/
theorem not_dieWork : ¬ Obligations.DieWork := by
  unfold Obligations.DieWork
  rintro ⟨-, -, -, -, hwaits, -⟩
  have hw : Works lateProbeWaits := by decide +kernel
  have hmay : MayIssue lateProbeWaits 0 lateProbe [] := ⟨hw, by decide +kernel, mayIssue_lateProbeWaits, by decide +kernel, by decide +kernel⟩
  obtain ⟨t, ht, hqueue, -⟩ := hwaits 0 lateProbe [] lateProbeWaits hmay (by decide +kernel)
  have hrun : exec (.dieEntryIssue 0 false []) lateProbeWaits = .next (settle (onDieEntryIssue 0 false [] (cleared lateProbeWaits))) :=
    effectIn_on .data (onDieEntryIssue 0 false []) hw.1 hw.2
  rw [Host.Outcome.next.inj (ht.symm.trans hrun), dieOf, settle_sch, ← dieOf, dieOf_onDieEntryIssue_lateProbeWaits] at hqueue
  exact absurd (congrArg Die.tokenWait hqueue) (by decide)

end Sys2Proof.Machine
end

section
/-!
PROOFS. Refutation: what follows where the end of a Read at its deadline frees its page (R172, R375, R390).
-/

namespace Sys2Proof.Machine

open Sys2Proof

/-- An admitted Read of one block. -/
def oneBlockRead : CmdSlot := { runningRead with kind := .read, blocks := 1 }

/-- Its bit-page read, sensed on die 0: the page stands in an RD_PAGE buffer. -/
def sensedRead : ReadOp :=
  { newRead (.command 0) 0 0 0 5 0 0 .d4 ⟨5, freshZst, 0⟩ 0 .print 0 (.func 0) 0 false [newCw 0 0 0] with issued := true, sensed := true }

/-- The class of the RD_PAGE buffers with every buffer taken. -/
def allTaken : Pool := { freshPool with head := linkEnd, bits := (List.range (classCount 3)).map fun i => (i, true) }

/-- The reset device with that Read in slot 0 and every RD_PAGE buffer taken, of which buffer 0 holds the Read's page; the read channel has asked for another.
LOW of the class is 1, and SBG_ERR.LOW has been cleared since FREE last fell below it. -/
def lastPage : State :=
  let s := putSlot (setF (setF State.reset (F.sbgPoolStat_free 3) 0) (F.sbgPoolCfg_low 3) 1) 0 oneBlockRead
  { s with
    rch := { s.rch with reads := [(1, sensedRead)], pages := [⟨0, none, [1]⟩] }
    sbg := { s.sbg with pools := [(3, allTaken)], waits := [⟨idRch, 0, classBytes 3, 9⟩] } }

/-- The Read's page is freed and goes to the request that waits, so that FREE falls below LOW again: SBG raises its event. -/
theorem ports_onReadDeadlineExpiry_lastPage : (onReadDeadlineExpiry 0 (cleared lastPage)).csh.ports.map Event.trigger = [0x09] := by decide +kernel

/-- Refutes O32: the end of a Read at its deadline can reach the Contact Sheet, which the statement's frame leaves out. In `lastPage` the page of the
Read goes to the request that waits for it, and the event of SBG_ERR.LOW is raised. -/
theorem not_suspends : ¬ Obligations.Suspends := by
  unfold Obligations.Suspends
  rintro ⟨-, -, -, hexpires, -⟩
  have hw : Works lastPage := by decide +kernel
  obtain ⟨t, ht, -, -, honly, -⟩ := hexpires 0 oneBlockRead lastPage hw (by decide +kernel) (by decide +kernel) (by decide +kernel) (by decide +kernel)
    (by decide +kernel) (by decide +kernel)
  have hrun : exec (.readDeadlineExpiry 0) lastPage = .next (settle (onReadDeadlineExpiry 0 (cleared lastPage))) :=
    effectIn_on .data (onReadDeadlineExpiry 0) hw.1 hw.2
  have hcsh : t.csh = lastPage.csh := honly .csh (by decide)
  have hports : t.csh.ports.map Event.trigger = [0x09] := by
    rw [Host.Outcome.next.inj (ht.symm.trans hrun), settle_csh]
    exact ports_onReadDeadlineExpiry_lastPage
  rw [hcsh] at hports
  exact absurd hports (by decide +kernel)

end Sys2Proof.Machine
end

section
/-!
SUPPORT. What follows when a die leaves service (R292, R294) reaches far: it ends commands, frees buffers, restarts ladders and changes zones. Of the
channels' registers it changes none, and it takes no time. First the buffers, the completions and the messages.
-/

namespace Sys2Proof.Machine

open Sys2Proof

/-- An address lies outside the CSR windows of the bays' channels. -/
def OutsideFlash (a : Nat) : Prop := a < 0x1001000000 ∨ 0x1001400000 ≤ a

/-- No time has passed, and the registers of the bays' channels are as they were. -/
def FlashKept (s t : State) : Prop := t.clk = s.clk ∧ ∀ a, ¬ OutsideFlash a → regVal t a = regVal s a

theorem flashKept_of_eq {s t : State} (hclk : t.clk = s.clk) (hregs : t.regs = s.regs) : FlashKept s t :=
  ⟨hclk, fun a _ => regVal_congr hregs a⟩

theorem flashKept_refl (s : State) : FlashKept s s := flashKept_of_eq rfl rfl

theorem FlashKept.trans {s t u : State} (h : FlashKept s t) (k : FlashKept t u) : FlashKept s u :=
  ⟨k.1.trans h.1, fun a ha => (k.2 a ha).trans (h.2 a ha)⟩

theorem FlashKept.getF {s t : State} (h : FlashKept s t) {f : Fld} (hf : ¬ OutsideFlash f.addr) : getF t f = getF s f := by
  simp only [Machine.getF, h.2 _ hf]

/-- After an update that keeps them, the clock and these registers are what the rest of a step makes of them. -/
theorem FlashKept.then_eq {s t u : State} (h : FlashKept s t) (hclk : u.clk = t.clk) (hregs : u.regs = t.regs) : FlashKept s u :=
  h.trans (flashKept_of_eq hclk hregs)

theorem flashKept_ite {p : Prop} [Decidable p] {s a b : State} (ha : FlashKept s a) (hb : FlashKept s b) : FlashKept s (if p then a else b) := by
  split <;> assumption

theorem flashKept_forEach {α : Type} {f : State → α → State} (hf : ∀ s x, FlashKept s (f s x)) (xs : List α) (s : State) :
    FlashKept s (forEach xs s f) := forEach_rel flashKept_refl FlashKept.trans hf xs s

theorem flashKept_setF (s : State) {f : Fld} (n : Nat) (h : OutsideFlash f.addr) : FlashKept s (setF s f n) :=
  ⟨rfl, fun _ ha => regVal_setReg_ne s _ fun e => ha (e ▸ h)⟩

theorem flashKept_emit (s : State) (x : Output) : FlashKept s (emit s x) := flashKept_of_eq rfl rfl

theorem outsideFlash_pool (k : Nat) (h : k < 6) : OutsideFlash (F.sbgPoolStat_free k).addr := by
  simp only [OutsideFlash, F.sbgPoolStat_free]
  omega

/-- An event stands in its port or is counted as missed. -/
theorem flashKept_raise (s : State) {trig : Nat} (inst m : Nat) (ws : List Nat) (h : trig < 64) : FlashKept s (raise s trig inst m ws) := by
  have hout : OutsideFlash (F.cshMissed_total (trig - 1)).addr := by
    simp only [OutsideFlash, F.cshMissed_total]
    omega
  unfold raise
  split
  · exact (flashKept_setF s _ hout).trans (flashKept_setF _ _ hout)
  · exact flashKept_of_eq rfl rfl

theorem flashKept_raiseErr (s : State) {f : Fld} {trig : Nat} (inst m : Nat) (ws : State → List Nat) (hf : OutsideFlash f.addr) (h : trig < 64) :
    FlashKept s (raiseErr s f trig inst m ws) :=
  flashKept_ite (flashKept_refl s) ((flashKept_setF s 1 hf).trans (flashKept_raise _ _ _ _ h))

theorem flashKept_parityFound (s : State) (dram : Bool) (a m : Nat) (bad : List Nat) : FlashKept s (parityFound s dram a m bad) := by
  unfold parityFound
  refine ((FlashKept.trans ?_ (flashKept_setF _ _ (.inl (by decide)))).trans (flashKept_raise _ _ _ _ (by decide)))
  cases dram
  · exact flashKept_setF s 1 (.inl (by decide))
  · exact flashKept_setF s 1 (.inl (by decide))

theorem flashKept_drawBuffer (s : State) (k i : Nat) (w : Word) : FlashKept s (drawBuffer s k i w) :=
  flashKept_ite (flashKept_refl s) (flashKept_of_eq rfl rfl)

theorem flashKept_setFree (s : State) {k : Nat} (n : Nat) (hk : k < 6) : FlashKept s (setFree s k n) := by
  have hfree := flashKept_setF s (f := F.sbgPoolStat_free k) n (outsideFlash_pool k hk)
  have hmin : ∀ u : State, FlashKept u (setF u (F.sbgPoolStat_minFree k) n) := fun u => flashKept_setF u n (outsideFlash_pool k hk)
  unfold setFree
  extract_lets low was s1 s2
  have h2 : FlashKept s s2 := flashKept_ite (hfree.trans (hmin _)) hfree
  exact flashKept_ite (h2.trans (flashKept_raiseErr _ _ _ _ (.inl (by decide)) (by decide))) h2

theorem flashKept_poolFault (s : State) {bit : Fld} (kind m k a : Nat) (h : OutsideFlash bit.addr) : FlashKept s (poolFault s bit kind m k a) := by
  unfold poolFault
  refine FlashKept.trans (FlashKept.trans (FlashKept.trans (flashKept_ite ?_ (flashKept_refl s)) (flashKept_setF _ _ (.inl (by decide))))
    (flashKept_setF _ 1 h)) (flashKept_raise _ _ _ _ (by decide))
  refine (((flashKept_setF s _ (.inl (by decide))).trans (flashKept_setF _ _ (.inl (by decide)))).trans
    (flashKept_setF _ _ (.inl (by decide)))).trans (flashKept_setF _ _ (.inl (by decide)))

theorem flashKept_linkCorrupt (s : State) (k m : Nat) : FlashKept s (linkCorrupt s k m) :=
  ((flashKept_poolFault s _ _ _ _ (.inl (by decide))).then_eq rfl rfl).trans (flashKept_setF _ _ (.inl (by decide)))

/-- A class in the SRAM gives a buffer, or finds its list corrupt. -/
theorem flashKept_popBuf (s : State) {k : Nat} (m : Nat) (hk : k < 6) : FlashKept s (popBuf s k m).2 := by
  unfold popBuf
  extract_lets p bad i link s1
  split
  · exact flashKept_refl s
  · split
    · exact (FlashKept.trans (t := s1) (flashKept_of_eq rfl rfl) (flashKept_drawBuffer _ _ _ _)).trans (flashKept_setFree _ _ hk)
    · exact (flashKept_ite (flashKept_refl s) (flashKept_parityFound _ _ _ _ _)).trans (flashKept_linkCorrupt _ _ _)

theorem flashKept_pushBuf (s : State) {k : Nat} (i : Nat) (hk : k < 6) : FlashKept s (pushBuf s k i) := by
  rw [pushBuf_eq hk]
  exact FlashKept.trans (flashKept_of_eq rfl rfl) (flashKept_setFree _ _ hk)

theorem flashKept_grantBuf (s : State) (w : PoolWait) (k i : Nat) : FlashKept s (grantBuf s w k i) :=
  flashKept_ite (flashKept_of_eq rfl rfl) (flashKept_of_eq rfl rfl)

theorem flashKept_serveWaits {k : Nat} (hk : k < 6) (n : Nat) (s : State) : FlashKept s (serveWaits k n s) := by
  induction n generalizing s with
  | zero => exact flashKept_refl s
  | succ n ih =>
    unfold serveWaits
    split
    · exact flashKept_refl s
    · next w _ =>
      refine flashKept_ite (flashKept_refl s) ?_
      have hpop := flashKept_popBuf s w.requester hk
      split
      · next hp => rw [hp] at hpop; exact hpop
      · next hp =>
        rw [hp] at hpop
        refine FlashKept.trans (FlashKept.trans ?_ (flashKept_grantBuf _ _ _ _)) (ih _)
        exact hpop.then_eq rfl rfl

theorem flashKept_freeBuf (s : State) {k : Nat} (i m : Nat) (hk : k < 6) : FlashKept s (freeBuf s k i m) := by
  unfold freeBuf
  refine flashKept_ite (flashKept_poolFault s _ _ _ _ (.inl (by decide))) (flashKept_ite (flashKept_poolFault s _ _ _ _ (.inl (by decide)))
    (flashKept_ite (flashKept_of_eq rfl rfl) ((flashKept_pushBuf s i hk).trans (flashKept_serveWaits hk 1 _))))

/-- Flits go out of the link's ports. -/
theorem flashKept_sendFlit (s : State) (p ftype : Nat) (f : Flit) : FlashKept s (sendFlit s p ftype f) := flashKept_of_eq rfl rfl

theorem flashKept_putPort (s : State) (p : Nat) (x : Port) : FlashKept s (putPort s p x) := flashKept_of_eq rfl rfl

theorem flashKept_creditBack (s : State) (f : Flit) : FlashKept s (creditBack s f) := by
  unfold creditBack
  refine flashKept_ite (flashKept_refl s) ?_
  extract_lets p x s1
  have h1 : FlashKept s s1 := flashKept_putPort s p _
  exact flashKept_ite (h1.trans (flashKept_sendFlit _ _ _ _)) h1

theorem flashKept_leave (s : State) (p : Nat) (f : Flit) : FlashKept s (leave s p f) :=
  ((flashKept_putPort s p _).trans (flashKept_sendFlit _ _ _ _)).trans (flashKept_creditBack _ _)

theorem flashKept_pumpFlits (n : Nat) (s : State) (p : Nat) : FlashKept s (pumpFlits n s p) := by
  induction n generalizing s with
  | zero => exact flashKept_refl s
  | succ n ih =>
    unfold pumpFlits
    split
    · exact flashKept_refl s
    · exact (flashKept_leave _ _ _).trans (ih _)

theorem flashKept_pushMessage (s : State) (p mtype : Nat) (bytes : List Byte) : FlashKept s (pushMessage s p mtype bytes) :=
  (flashKept_putPort s p _).trans (flashKept_pumpFlits _ _ _)

theorem flashKept_emitIf (c : Bool) (s : State) (x : Output) : FlashKept s (emitIf c s x) :=
  flashKept_ite (flashKept_emit s x) (flashKept_refl s)

theorem flashKept_slkSend (s : State) (dst mtype tag : Nat) (body : List Byte) : FlashKept s (slkSend s dst mtype tag body) := by
  unfold slkSend
  refine flashKept_ite (flashKept_refl s) (flashKept_ite ?noRoute (flashKept_ite ?sealed (flashKept_pushMessage _ _ _ _)))
  case noRoute => exact flashKept_ite (flashKept_refl s) ((flashKept_setF s 1 (.inr (by decide))).trans (flashKept_emitIf _ _ _))
  case sealed =>
    split
    · exact flashKept_refl s
    · exact flashKept_ite (flashKept_refl s) (FlashKept.trans (flashKept_of_eq rfl rfl) (flashKept_pushMessage _ _ _ _))

theorem flashKept_answerLeader (s : State) (w : FwdIn) (c : CmdSlot) (st : Status) : FlashKept s (answerLeader s w c st) := by
  unfold answerLeader
  extract_lets s0 s1 zeros rest
  have h1 : FlashKept s s1 := flashKept_of_eq rfl rfl
  exact flashKept_ite h1 (flashKept_ite (h1.trans (flashKept_slkSend _ _ _ _ _))
    ((h1.trans (flashKept_forEach (fun u _ => flashKept_slkSend u _ _ _ _) rest s1)).trans (flashKept_slkSend _ _ _ _ _)))

theorem flashKept_of_hostOnly {s t : State} (h : HostOnly s t) : FlashKept s t := by
  obtain ⟨a, b, rfl, -, -⟩ := h
  exact flashKept_of_eq rfl rfl

/-- A deletion that waited for the queue's last command ends. -/
theorem flashKept_settleDeletion (s : State) (f qid : Nat) : FlashKept s (settleDeletion s f qid) := by
  unfold settleDeletion
  split
  · split
    · refine flashKept_ite (flashKept_refl s) ?_
      extract_lets x s1
      split
      · exact FlashKept.trans (t := delSlot s1 _) (flashKept_of_eq rfl rfl) (flashKept_of_hostOnly (hostOnly_postCqe _ _))
      · exact flashKept_of_eq rfl rfl
    · exact flashKept_refl s
  · exact flashKept_refl s

theorem flashKept_releaseBuffers (s : State) (n : Nat) (c : CmdSlot) : FlashKept s (releaseBuffers s n c) := by
  unfold releaseBuffers
  extract_lets mine ings m s1 s2 s3
  have h1 : FlashKept s s1 := flashKept_of_eq rfl rfl
  have h2 : FlashKept s1 s2 := flashKept_forEach (fun u _ => flashKept_freeBuf u _ _ (by decide)) _ _
  have h3 : FlashKept s2 s3 := flashKept_forEach (fun u _ => flashKept_freeBuf u _ _ (by decide)) _ _
  have h13 := (h1.trans h2).trans h3
  exact flashKept_ite h13 (h13.trans (flashKept_setF _ _ (.inl (by decide))))

/-- A command ends. -/
theorem flashKept_finish (s : State) (n : Nat) (st : Status) : FlashKept s (finish s n st) := by
  unfold finish
  split
  · exact flashKept_refl s
  · next c _ =>
    extract_lets s1 s2 s3
    have h1 : FlashKept s s1 := FlashKept.trans (t := delSlot s n) (flashKept_of_eq rfl rfl) (flashKept_releaseBuffers _ n c)
    split
    · exact h1.trans (flashKept_answerLeader _ _ _ _)
    · have h2 : FlashKept s1 s2 := flashKept_ite (flashKept_refl _) (flashKept_of_hostOnly (hostOnly_countCompletion _ _ _))
      have h3 : FlashKept s2 s3 := flashKept_ite (flashKept_refl _) (flashKept_of_hostOnly (hostOnly_postCqe _ _))
      have h4 := ((h1.trans h2).trans h3).trans (flashKept_settleDeletion s3 c.func c.sqid)
      refine (h4.trans (flashKept_of_hostOnly (hostOnly_settleShutdown _ c.func))).trans ?_
      exact flashKept_ite (flashKept_refl _) (flashKept_of_eq rfl rfl)

end Sys2Proof.Machine
end

section
/-!
SUPPORT. The zones and the reads that a die leaves behind: what becomes of them changes none of the channels' registers and takes no time (R294).
-/

namespace Sys2Proof.Machine

open Sys2Proof

theorem flashKept_modZone (s : State) (e : Nat) (f : ZstEntry → ZstEntry) : FlashKept s (modZone s e f) := by
  unfold modZone
  split
  · next p z _ =>
    extract_lets y s1
    have h1 : FlashKept s s1 := flashKept_of_eq rfl rfl
    split
    · exact h1.then_eq rfl rfl
    · exact h1
  · exact flashKept_refl s

theorem flashKept_cacheZone (s : State) (e : Nat) : FlashKept s (cacheZone s e) := by
  obtain ⟨l, f, h⟩ := cacheZone_shape s e
  exact flashKept_of_eq (by rw [h]) (by rw [h])

theorem flashKept_closeCtx (s : State) (i : Nat) : FlashKept s (closeCtx s i) :=
  flashKept_ite (flashKept_of_eq rfl rfl) (flashKept_of_eq rfl rfl)

theorem flashKept_leaveCam (s : State) (e : Nat) : FlashKept s (leaveCam s e) := by
  unfold leaveCam
  split
  · exact flashKept_refl s
  · next c _ =>
    extract_lets nsid z s1 s2
    have h2 : FlashKept s s2 := FlashKept.trans (t := s1) (flashKept_of_eq rfl rfl) (flashKept_cacheZone _ _)
    exact flashKept_ite (h2.then_eq rfl rfl) (h2.trans (flashKept_closeCtx _ _))

theorem flashKept_releaseLinger (s : State) (e : Nat) : FlashKept s (releaseLinger s e) := by
  unfold releaseLinger
  exact FlashKept.trans (flashKept_of_eq rfl rfl) (flashKept_forEach (fun u _ => flashKept_closeCtx u _) _ _)

theorem flashKept_freeResv (s : State) (e : Nat) : FlashKept s (freeResv s e) := by
  obtain ⟨z, b, h, -⟩ := freeResv_shape s e
  exact flashKept_of_eq (by rw [h]) (by rw [h])

theorem flashKept_dropParity (s : State) (p : Nat) : FlashKept s (dropParity s p) := by
  unfold dropParity
  exact FlashKept.trans (flashKept_of_eq rfl rfl) (flashKept_forEach (fun u _ => flashKept_freeBuf u _ _ (by decide)) _ _)

theorem flashKept_dropZoneWork (s : State) (p : Nat) : FlashKept s (dropZoneWork s p) := (flashKept_dropParity s p).then_eq rfl rfl

theorem flashKept_dirtyZone (s : State) (p : Nat) (z : ZstEntry) : FlashKept s (dirtyZone s p z) := by
  obtain ⟨m, h, -⟩ := dirtyZone_shape s p z
  exact flashKept_of_eq (by rw [h]) (by rw [h])

theorem flashKept_cancelReloc (s : State) (p : Nat) : FlashKept s (cancelReloc s p) := by
  unfold cancelReloc
  split
  · exact flashKept_refl s
  · next r _ =>
    extract_lets s1 s2 s3
    have h2 : FlashKept s s2 := (flashKept_dirtyZone s _ _).trans (flashKept_dropZoneWork s1 _)
    clear_value s2
    exact h2.then_eq rfl rfl

theorem flashKept_queueCandidate (s : State) (e : Nat) (c : RefreshCause) : FlashKept s (queueCandidate s e c) := by
  unfold queueCandidate
  extract_lets m put
  have hput : FlashKept s put := flashKept_of_eq rfl rfl
  refine flashKept_ite (flashKept_refl s) ?_
  split
  · exact flashKept_ite hput (flashKept_refl s)
  · exact hput

theorem flashKept_journalZone (s : State) (e : Nat) : FlashKept s (journalZone s e) := by
  obtain ⟨j, h, -⟩ := journalZone_shape s e
  exact flashKept_of_eq (by rw [h]) (by rw [h])

theorem flashKept_zoneChanged (s : State) (e : Nat) : FlashKept s (zoneChanged s e) := by
  unfold zoneChanged
  split
  · split
    · exact flashKept_ite (flashKept_refl s) (flashKept_of_eq rfl rfl)
    · exact flashKept_refl s
  · exact flashKept_refl s

/-- A zone takes a state of the media: its writes and its zone command end, and it leaves the CAM (R294). -/
theorem flashKept_mediaState (s : State) (e : Nat) (st : ZoneState) : FlashKept s (mediaState s e st) := by
  unfold mediaState
  split
  · exact flashKept_refl s
  · next p z _ =>
    extract_lets s1 zops sops s2 s3 s4 s5 zpad s6
    have h1 : FlashKept s s1 := flashKept_forEach (fun u _ => flashKept_finish u _ _) _ _
    have h2 : FlashKept s1 s2 := by
      simp only [s2]
      split
      · next o _ =>
        split
        · exact FlashKept.trans (t := sops) (flashKept_of_eq rfl rfl) (flashKept_finish _ _ _)
        · exact flashKept_of_eq rfl rfl
      · exact flashKept_refl _
    have h3 : FlashKept s2 s3 :=
      flashKept_ite (FlashKept.trans (t := unscan s2 e) (flashKept_of_eq rfl rfl) (flashKept_cancelReloc _ _)) (flashKept_refl _)
    have h4 : FlashKept s3 s4 := (flashKept_leaveCam _ _).trans (flashKept_releaseLinger _ _)
    have h5 : FlashKept s4 s5 := (flashKept_freeResv _ _).trans (flashKept_modZone _ _ _)
    clear_value s5
    have h6 : FlashKept s5 s6 := FlashKept.trans (flashKept_of_eq rfl rfl) (flashKept_dropZoneWork _ _)
    have h := ((((h1.trans h2).trans h3).trans h4).trans h5).trans h6
    exact h.trans (FlashKept.trans (flashKept_ite (flashKept_refl _) (flashKept_zoneChanged _ _)) (flashKept_journalZone _ _))

theorem flashKept_groupLoses (s : State) (g : Nat) : FlashKept s (groupLoses s g) :=
  flashKept_forEach (fun u _ => flashKept_ite (flashKept_queueCandidate u _ _)
    (flashKept_ite (flashKept_refl u) (flashKept_mediaState u _ _))) _ _

/-- A parity accumulator takes its buffer, of the class that lies in the SRAM. -/
theorem flashKept_takeAccum (s : State) (p hr v : Nat) : FlashKept s (takeAccum s p hr v).2 := by
  unfold takeAccum
  have hpop := flashKept_popBuf s (k := 5) idSbg (by decide)
  split
  · exact flashKept_refl s
  · split
    · next h => rw [h] at hpop; exact hpop
    · next h => rw [h] at hpop; exact hpop

theorem flashKept_writeAccum (s : State) (a : Accum) : FlashKept s (writeAccum s a) := by
  have hgroup : ∀ u : State, FlashKept u (freshGroup u a.pzn a.hr a.v) := fun u => by
    unfold freshGroup
    split
    · exact flashKept_refl u
    · exact flashKept_of_eq rfl rfl
  unfold writeAccum
  extract_lets b s1
  have h1 : FlashKept s s1 := flashKept_of_eq rfl rfl
  exact (h1.trans (hgroup s1)).trans (flashKept_freeBuf _ _ _ (by decide))

theorem flashKept_accumulate (s : State) (p : Nat) (t : Tier) (slot : Nat) (bytes : List Byte) : FlashKept s (accumulate s p t slot bytes) := by
  unfold accumulate
  extract_lets hr v
  have htake := flashKept_takeAccum s p hr v
  split
  · next h => rw [h] at htake; exact htake
  · next h =>
    rw [h] at htake
    exact htake.trans (flashKept_ite (flashKept_writeAccum _ _) (flashKept_of_eq rfl rfl))

theorem flashKept_stageBlock (s : State) (p : Nat) (t : Tier) (slot : Nat) (b : StagedBlock) : FlashKept s (stageBlock s p t slot b) := by
  have hfresh : ∀ (u : State) (a : Option Nat), FlashKept u (freshStaged u a) := fun u a => by
    obtain ⟨m, h, -⟩ := freshStaged_shape u a
    exact flashKept_of_eq (by rw [h]) (by rw [h])
  unfold stageBlock
  extract_lets key old addr
  split
  next bad b' _ =>
    extract_lets s1 m s2
    have h1 : FlashKept s s1 := FlashKept.trans (flashKept_of_eq rfl rfl) (hfresh _ addr)
    refine (h1.then_eq (u := s2) rfl rfl).trans ?_
    clear_value old s2
    split
    · exact flashKept_accumulate _ _ _ _ _
    · exact flashKept_ite (flashKept_refl _) (flashKept_accumulate _ _ _ _ _)

theorem flashKept_topUpZone (s : State) (p : Nat) : FlashKept s (topUpZone s p) := by
  obtain ⟨q, y, h⟩ := topUpZone_shape s p
  exact flashKept_of_eq (by rw [h]) (by rw [h])

theorem flashKept_requestBay (s : State) (b : Nat) : FlashKept s (requestBay s b) := by
  unfold requestBay
  refine flashKept_ite (flashKept_refl s) ?_
  split <;> exact flashKept_of_eq rfl rfl

theorem flashKept_enqueue (s : State) (d : Nat) (e : DieEntry) : FlashKept s (enqueue s d e) := by
  unfold enqueue
  exact flashKept_ite (flashKept_of_eq rfl rfl) (FlashKept.trans (flashKept_of_eq rfl rfl) (flashKept_requestBay _ _))

theorem flashKept_freePages (s : State) : FlashKept s (freePages s) := by
  unfold freePages
  split
  exact FlashKept.trans (flashKept_of_eq rfl rfl) (flashKept_forEach (fun u _ => flashKept_freeBuf u _ _ (by decide)) _ _)

theorem flashKept_eraseRead (s : State) (k : Nat) : FlashKept s (eraseRead s k) :=
  FlashKept.trans (flashKept_of_eq rfl rfl) (flashKept_freePages _)

theorem flashKept_freeEngines (s : State) (r : ReadOp) : FlashKept s (freeEngines s r) := by
  refine flashKept_forEach (fun u c => ?_) _ _
  split
  · exact flashKept_refl u
  · exact flashKept_ite (flashKept_of_eq rfl rfl) (flashKept_of_eq rfl rfl)

theorem flashKept_modCw (s : State) (k i : Nat) (f : Cw → Cw) : FlashKept s (modCw s k i f) := by
  unfold modCw
  split
  · split
    · exact flashKept_of_eq rfl rfl
    · exact flashKept_refl s
  · exact flashKept_refl s

theorem flashKept_reportRead (s : State) (k : Nat) : FlashKept s (reportRead s k) := by
  unfold reportRead
  split
  · exact flashKept_refl s
  · refine flashKept_ite (flashKept_refl s) ?_
    extract_lets t x s1 passed rebuilt s2 s3
    have h1 : FlashKept s s1 := flashKept_of_eq rfl rfl
    have h2 : FlashKept s s2 := flashKept_ite (h1.trans (flashKept_queueCandidate _ _ _)) h1
    have h3 : FlashKept s s3 := flashKept_ite (h2.trans (flashKept_queueCandidate _ _ _)) h2
    exact flashKept_ite (h3.trans (flashKept_queueCandidate _ _ _)) h3

theorem flashKept_leaveRead (s : State) (k : Nat) : FlashKept s (leaveRead s k) := by
  unfold leaveRead
  split
  · exact flashKept_refl s
  · next r _ =>
    extract_lets s1 o cws r' s2
    have h2 : FlashKept s s2 := FlashKept.trans ((flashKept_freeEngines s r).then_eq rfl rfl) (flashKept_reportRead _ _)
    exact flashKept_ite h2 (h2.trans (flashKept_eraseRead _ _))

theorem flashKept_abandonReads (s : State) (ks : List Nat) : FlashKept s (abandonReads s ks) := by
  unfold abandonReads
  extract_lets ks' s1
  have h1 : FlashKept s s1 := flashKept_forEach flashKept_leaveRead _ _
  exact flashKept_ite h1 (h1.then_eq rfl rfl)

theorem flashKept_scanEnd (s : State) (e : Nat) : FlashKept s (scanEnd s e) := by
  unfold scanEnd
  split
  · exact flashKept_refl s
  · exact flashKept_ite (FlashKept.trans (flashKept_of_eq rfl rfl) (flashKept_queueCandidate _ _ _)) (flashKept_of_eq rfl rfl)

theorem flashKept_retireRead (s : State) (k : Nat) : FlashKept s (retireRead s k) := by
  unfold retireRead
  split
  · exact flashKept_refl s
  · split
    · exact flashKept_refl s
    · exact flashKept_refl s
    · refine flashKept_ite (flashKept_refl s) ?_
      have herase := flashKept_eraseRead s k
      split
      · exact flashKept_ite herase (herase.trans (flashKept_scanEnd _ _))
      · exact herase

/-- A block that a relocation loses is replaced by a filler. -/
theorem flashKept_loseReloc (s : State) (src : Nat) (r : ReadOp) (c : Cw) : FlashKept s (loseReloc s src r c) := by
  unfold loseReloc
  split
  · exact flashKept_refl s
  · extract_lets slot z m s1 s2
    have h2 : FlashKept s s2 := FlashKept.trans (t := s1) (flashKept_of_eq rfl rfl) (flashKept_raise _ _ _ _ (by decide))
    exact flashKept_ite (flashKept_refl s) ((h2.trans (flashKept_stageBlock _ _ _ _ _)).trans (flashKept_topUpZone _ _))

theorem flashKept_endRead (s : State) (n : Nat) (st : Status) : FlashKept s (endRead s n st) :=
  (flashKept_abandonReads s _).trans (flashKept_finish _ _ _)

theorem flashKept_cwDead (s : State) (k i : Nat) : FlashKept s (cwDead s k i) := by
  unfold cwDead
  split
  · exact flashKept_refl s
  · next r _ =>
    extract_lets s1 s2 s3
    have h3 : FlashKept s s3 :=
      (FlashKept.trans (t := s2) ((flashKept_modCw s k i _).then_eq rfl rfl) (flashKept_reportRead _ _)).trans (flashKept_queueCandidate _ _ _)
    split
    · split
      · exact h3.trans (flashKept_endRead _ _ _)
      · exact h3
    · split
      · exact (h3.trans (flashKept_loseReloc _ _ _ _)).trans (flashKept_retireRead _ _)
      · exact h3
    · exact h3.trans (flashKept_retireRead _ _)

theorem flashKept_rebuildFails (s : State) (k i : Nat) : FlashKept s (rebuildFails s k i) := by
  unfold rebuildFails
  split
  · exact flashKept_refl s
  · split
    · exact flashKept_refl s
    · extract_lets s1 s2 s3
      have h1 : FlashKept s s1 := flashKept_abandonReads s _
      have h3 : FlashKept s s3 := FlashKept.trans (t := s2) (h1.then_eq rfl rfl) (flashKept_modCw _ _ _ _)
      exact flashKept_ite (h3.trans (flashKept_cwDead _ _ _)) h3

theorem flashKept_rebuildSource (s : State) (r : ReadOp) (i : Nat) : FlashKept s (rebuildSource s r i) :=
  flashKept_raiseErr s _ _ _ (.inr (by decide)) (by decide)

theorem flashKept_startRead (s : State) (r : ReadOp) : FlashKept s (startRead s r) :=
  FlashKept.trans (flashKept_of_eq rfl rfl) (flashKept_enqueue _ _ _)

/-- A rebuild starts its member reads, or has failed already. -/
theorem flashKept_startRebuild (s : State) (k i : Nat) (raced : Bool) : FlashKept s (startRebuild s k i raced).1 := by
  unfold startRebuild
  split
  · exact flashKept_refl s
  · next r _ =>
    split
    · exact flashKept_refl s
    · extract_lets ms gone s1 s2 s3 s4
      have h1 : FlashKept s s1 := by
        simp only [s1]
        split
        · refine flashKept_ite ?_ (flashKept_refl s)
          split
          · exact flashKept_of_eq rfl rfl
          · exact flashKept_refl s
        · exact flashKept_refl s
      split
      · have h2 : FlashKept s s2 := flashKept_ite (h1.trans (flashKept_rebuildSource _ _ _)) h1
        exact FlashKept.trans (t := s3) (h2.then_eq rfl rfl) (flashKept_modCw _ _ _ _)
      · exact (h1.trans (flashKept_modCw _ _ _ _)).trans (flashKept_forEach (fun u _ => flashKept_startRead u _) _ _)

theorem flashKept_queueStep (s : State) (k : Nat) (step : Step) : FlashKept s (queueStep s k step) := by
  unfold queueStep
  split
  · exact flashKept_refl s
  · refine flashKept_ite (flashKept_refl s) ?_
    exact flashKept_ite (flashKept_of_eq rfl rfl) (FlashKept.trans (flashKept_of_eq rfl rfl) (flashKept_enqueue _ _ _))

theorem flashKept_enterStep (s : State) (k i : Nat) (step : Step) : FlashKept s (enterStep s k i step) := by
  unfold enterStep
  split
  · exact flashKept_refl s
  · next r _ =>
    extract_lets started s1 fog s2 s3 s4
    have h1 : FlashKept s s1 := flashKept_ite (flashKept_startRebuild _ _ _ _) (flashKept_refl s)
    have h2 : FlashKept s s2 := flashKept_ite (h1.then_eq rfl rfl) h1
    have h3 : FlashKept s s3 := flashKept_ite h2 (h2.trans (flashKept_queueStep _ _ _))
    have h4 : FlashKept s s4 := h3.trans (flashKept_modCw _ _ _ _)
    exact flashKept_ite (h4.trans (FlashKept.trans (flashKept_of_eq rfl rfl) (flashKept_modCw _ _ _ _))) h4

theorem flashKept_noteCutoff (s : State) (r : ReadOp) : FlashKept s (noteCutoff s r) := by
  unfold noteCutoff
  split
  · split
    · exact flashKept_of_eq rfl rfl
    · exact flashKept_refl s
  · exact flashKept_refl s

/-- After the last step of the ladder a codeword is rebuilt or lost. -/
theorem flashKept_lastStep (s : State) (k i : Nat) (r : ReadOp) (c : Cw) : FlashKept s (lastStep s k i r c) := by
  unfold lastStep
  have hdead := flashKept_cwDead s k i
  split
  · exact (flashKept_ite (flashKept_refl s) (flashKept_rebuildSource s r _)).trans (flashKept_rebuildFails _ _ _)
  · refine flashKept_ite (flashKept_ite ?_ ((flashKept_noteCutoff s r).trans (flashKept_cwDead _ _ _))) hdead
    have hstart := flashKept_startRebuild s k i false
    split
    · next h => rw [h] at hstart; exact hstart.trans (flashKept_modCw _ _ _ _)
    · next h => rw [h] at hstart; exact hstart.trans (flashKept_cwDead _ _ _)

theorem flashKept_trySteps (k i : Nat) (xs : List Step) (s : State) : FlashKept s (trySteps k i xs s) := by
  induction xs generalizing s with
  | nil =>
    unfold trySteps
    split
    · split
      · exact flashKept_lastStep _ _ _ _ _
      · exact flashKept_refl s
    · exact flashKept_refl s
  | cons x xs ih =>
    unfold trySteps
    split
    · exact flashKept_refl s
    · next r _ =>
      have hcut : FlashKept s (trySteps k i xs (noteCutoff s r)) := (flashKept_noteCutoff s r).trans (ih _)
      exact flashKept_ite (ih s) (flashKept_ite hcut (flashKept_ite (ih s) (flashKept_ite hcut (flashKept_enterStep _ _ _ _))))

theorem flashKept_climb (s : State) (k i : Nat) : FlashKept s (climb s k i) := by
  unfold climb
  split
  · exact flashKept_refl s
  · split
    · exact flashKept_refl s
    · exact flashKept_ite (flashKept_modCw _ _ _ _) ((flashKept_modCw _ _ _ _).trans (flashKept_trySteps _ _ _ _))

theorem flashKept_failHard (s : State) (k : Nat) : FlashKept s (failHard s k) := by
  unfold failHard climbAll
  split
  · exact flashKept_refl s
  · refine flashKept_forEach (fun u i => ?_) _ _
    split
    · exact flashKept_ite (flashKept_climb _ _ _) (flashKept_refl u)
    · exact flashKept_refl u

theorem flashKept_leaveSurvey (s : State) (k : Nat) (est : Option Int) : FlashKept s (leaveSurvey s k est) := by
  have hends : ∀ u : State, FlashKept u (surveyEnds u) := fun u =>
    flashKept_ite ((flashKept_setF u 2 (.inr (by decide))).then_eq rfl rfl) (flashKept_refl u)
  exact FlashKept.trans (flashKept_of_eq rfl rfl) (hends _)

theorem flashKept_pruneSurvey (s : State) (d : Nat) : FlashKept s (pruneSurvey s d) := by
  unfold pruneSurvey
  exact FlashKept.trans (flashKept_of_eq rfl rfl) (flashKept_forEach (fun u k => flashKept_leaveSurvey u k none) _ _)

/-- The entries of a die that can go no further are taken out (R194, R231, R294). -/
theorem flashKept_pruneDie (s : State) (d : Nat) : FlashKept s (pruneDie s d) := by
  unfold pruneDie
  extract_lets x gone lost late dropped rch s1 s2 s3 mine s4 s5 reads s6
  have h1 : FlashKept s s1 := flashKept_ite (flashKept_of_eq rfl rfl) (flashKept_refl s)
  have h2 : FlashKept s1 s2 := flashKept_ite (flashKept_forEach (fun u e => flashKept_emit u (.dropped d e)) _ _) (flashKept_refl _)
  have h3 : FlashKept s2 s3 := flashKept_ite (flashKept_pruneSurvey _ _) (flashKept_refl _)
  have h4 : FlashKept s3 s4 := flashKept_abandonReads _ _
  have h5 : FlashKept s4 s5 := flashKept_ite (flashKept_of_eq rfl rfl) (flashKept_refl _)
  have h := (((h1.trans h2).trans h3).trans h4).trans h5
  exact flashKept_ite h (FlashKept.trans (h.then_eq rfl rfl) (flashKept_forEach flashKept_failHard _ _))

end Sys2Proof.Machine
end

section
/-!
SUPPORT. The channels' pins, and the faults of a channel: what the shared steps of bays and channels change, and what they keep (R197, R199, R212).
-/

namespace Sys2Proof.Machine

open Sys2Proof

/-- The pins of some channels change, and nothing beside them but the outputs. -/
def PadsChanged (s t : State) : Prop := ∃ m o, t = { s with pins := { s.pins with chans := m }, out := s.out ++ o }

theorem padsChanged_refl (s : State) : PadsChanged s s := ⟨s.pins.chans, [], by simp⟩

theorem PadsChanged.trans {s t u : State} (h : PadsChanged s t) (k : PadsChanged t u) : PadsChanged s u := by
  obtain ⟨m, o, rfl⟩ := h
  obtain ⟨n, p, rfl⟩ := k
  exact ⟨n, o ++ p, by simp only [List.append_assoc]⟩

theorem padsChanged_emit (s : State) (x : Output) : PadsChanged s (emit s x) := ⟨s.pins.chans, [x], rfl⟩

theorem padsChanged_setPads (s : State) (c : Nat) (p : ChanPads) : PadsChanged s (setPads s c p) := by
  unfold setPads
  split
  · exact padsChanged_refl s
  · exact ⟨_, _, rfl⟩

theorem padsChanged_clampPads (s : State) (c : Nat) : PadsChanged s (clampPads s c) := padsChanged_setPads s c _

theorem padsChanged_unpowerPads (s : State) (c : Nat) : PadsChanged s (unpowerPads s c) := padsChanged_setPads s c _

theorem padsChanged_protectPads (s : State) (c : Nat) : PadsChanged s (protectPads s c) := padsChanged_setPads s c _

theorem padsChanged_releasePads (s : State) (c : Nat) : PadsChanged s (releasePads s c) := padsChanged_setPads s c _

theorem padsChanged_readyPads (s : State) (c : Nat) : PadsChanged s (readyPads s c) := padsChanged_setPads s c _

theorem padsChanged_forEach {α : Type} {f : State → α → State} (hf : ∀ s x, PadsChanged s (f s x)) (xs : List α) (s : State) :
    PadsChanged s (forEach xs s f) := forEach_rel padsChanged_refl PadsChanged.trans hf xs s

theorem padsChanged_selected (s : State) (d : Nat) (x : DieCmd) : PadsChanged s (cycle (selectDie s d) d x) :=
  (padsChanged_setPads s _ _).trans (padsChanged_emit _ _)

theorem PadsChanged.regs {s t : State} (h : PadsChanged s t) : t.regs = s.regs := by
  obtain ⟨m, o, rfl⟩ := h
  rfl

theorem PadsChanged.clk {s t : State} (h : PadsChanged s t) : t.clk = s.clk := by
  obtain ⟨m, o, rfl⟩ := h
  rfl

theorem PadsChanged.bay {s t : State} (h : PadsChanged s t) : t.bay = s.bay := by
  obtain ⟨m, o, rfl⟩ := h
  rfl

theorem PadsChanged.bayPwrEn {s t : State} (h : PadsChanged s t) : t.pins.bayPwrEn = s.pins.bayPwrEn := by
  obtain ⟨m, o, rfl⟩ := h
  rfl

theorem PadsChanged.out_prefix {s t : State} (h : PadsChanged s t) : s.out <+: t.out := by
  obtain ⟨m, o, rfl⟩ := h
  exact List.prefix_append _ _

theorem PadsChanged.only {s t : State} (h : PadsChanged s t) : Only s t [.pins] [] := by
  obtain ⟨m, o, rfl⟩ := h
  refine ⟨fun p hp => ?_, fun _ _ _ => rfl⟩
  cases p
  case pins => exact absurd (List.mem_singleton.2 rfl) hp
  case bay => exact ⟨rfl, rfl, fun _ => rfl⟩
  all_goals rfl

@[simp] theorem padsOf_setPads_same (s : State) (c : Nat) (p : ChanPads) : padsOf (setPads s c p) c = p := by
  unfold setPads
  split
  · assumption
  · exact spGet_set_same _ _ _ _

theorem padsOf_setPads_ne (s : State) {c c' : Nat} (p : ChanPads) (h : c' ≠ c) : padsOf (setPads s c p) c' = padsOf s c' := by
  unfold setPads
  split
  · rfl
  · exact spGet_set_ne _ _ _ _ h

theorem padsOf_settle (s : State) (c : Nat) : padsOf (settle s) c = padsOf s c := by
  have h := congrArg Pins.chans (settle_pins s)
  exact congrArg (fun m => spGet noPads m c) h

theorem bayPwrEn_settle (s : State) : (settle s).pins.bayPwrEn = s.pins.bayPwrEn := by
  have h := congrArg Pins.bayPwrEn (settle_pins s)
  exact h

/-- What every step of a loop keeps holds after the loop. -/
theorem forEach_invariant {α : Type} {P : State → Prop} {f : State → α → State} {xs : List α} (hf : ∀ s, ∀ x ∈ xs, P s → P (f s x)) {s : State}
    (hs : P s) : P (forEach xs s f) := by
  unfold forEach
  induction xs generalizing s with
  | nil => exact hs
  | cons x xs ih => exact ih (fun u y hy => hf u y (List.mem_cons_of_mem _ hy)) (hf s x List.mem_cons_self hs)

/-- What one step of a loop establishes, where an invariant holds, and the others keep, holds after the loop. -/
theorem forEach_establishes {α : Type} {I P : State → Prop} {f : State → α → State} {k : α} {xs : List α} (hk : k ∈ xs)
    (hinv : ∀ s, ∀ x ∈ xs, I s → I (f s x)) (hset : ∀ s, I s → P (f s k)) (hkeep : ∀ s, ∀ x ∈ xs, I s → P s → P (f s x)) {s : State} (hs : I s) :
    P (forEach xs s f) := by
  induction xs generalizing s with
  | nil => cases hk
  | cons x xs ih =>
    have hinv' : ∀ u, ∀ y ∈ xs, I u → I (f u y) := fun u y hy => hinv u y (List.mem_cons_of_mem _ hy)
    have hkeep' : ∀ u, ∀ y ∈ xs, I u → P u → P (f u y) := fun u y hy => hkeep u y (List.mem_cons_of_mem _ hy)
    rcases List.mem_cons.1 hk with rfl | hmem
    · exact (forEach_invariant (P := fun u => I u ∧ P u) (fun u y hy h => ⟨hinv' u y hy h.1, hkeep' u y hy h.1 h.2⟩)
        ⟨hinv s k List.mem_cons_self hs, hset s hs⟩).2
    · exact ih hmem hinv' hkeep' (hinv s x List.mem_cons_self hs)

/-- Every channel of a list takes the same pins. -/
theorem padsOf_forEach_setPads {cs : List Nat} {c : Nat} (h : c ∈ cs) (p : ChanPads) (s : State) :
    padsOf (forEach cs s fun s c => setPads s c p) c = p := by
  refine forEach_establishes (I := fun _ => True) (P := fun u => padsOf u c = p) h (fun _ _ _ _ => trivial)
    (fun u _ => padsOf_setPads_same u c p) (fun u x _ _ hu => ?_) trivial
  by_cases hx : c = x
  · subst hx; exact padsOf_setPads_same u c p
  · exact (padsOf_setPads_ne u p hx).trans hu

/-- The registers of a bay's channels lie outside the settled ones. -/
theorem unsettled_of_flash {a : Nat} (h : ¬ OutsideFlash a) : a ∉ settledAddrs := by
  simp only [OutsideFlash, not_or, Nat.not_lt, Nat.not_le] at h
  simp only [settledAddrs, List.mem_cons, List.not_mem_nil, or_false]
  omega

theorem only_chanFault (s : State) (bit : Nat → Fld) (c pos : Nat) :
    Only s (chanFault s bit c pos) [.csh] [(bit c).addr, (F.cshMissed_total 2).addr] := only_raiseErr s _ _ _ _ _

end Sys2Proof.Machine
end

section
/-!
PROOFS. Dies and channels that leave service, and channels that train (R209, R210, R292): what of the channels' registers each changes.
-/

namespace Sys2Proof.Machine

open Sys2Proof

theorem cfg_flash {d : Nat} (hd : d < 1024) : ¬ OutsideFlash (F.fchDieCfg_present (dieChannel d) (diePos d)).addr := by
  simp only [OutsideFlash, F.fchDieCfg_present, dieChannel, diePos]
  omega

/-- Whether a die is in service stands in its FCH_DIE_CFG register. -/
theorem dieInService_of_cfg {s t : State} {d : Nat}
    (h : ∀ f : Fld, f.addr = (F.fchDieCfg_present (dieChannel d) (diePos d)).addr → getF t f = getF s f) : dieInService t d = dieInService s d := by
  simp only [dieInService, diePresent, flag, h _ rfl, h (F.fchDieCfg_inservice _ _) rfl]

theorem diePresent_of_only {s t : State} {ps : List Part} {as : List Nat} {d : Nat} (hd : d < 1024) (h : Only s t ps as)
    (has : (F.fchDieCfg_present (dieChannel d) (diePos d)).addr ∉ as) : diePresent t d = diePresent s d := by
  simp only [diePresent, flag, h.2 _ has (unsettled_of_flash (cfg_flash hd))]

/-- What a die that leaves service changes of the channels' registers: its own FCH_DIE_CFG and FCH_DIE_STAT. -/
structure DieGone (s t : State) (d : Nat) : Prop where
  clk : t.clk = s.clk
  regs : ∀ f : Fld, ¬ OutsideFlash f.addr → f.addr ≠ (F.fchDieCfg_present (dieChannel d) (diePos d)).addr →
    f.addr ≠ (F.fchDieStat_state (dieChannel d) (diePos d)).addr → getF t f = getF s f
  out : dieInService t d = false

theorem dieGone_dieOut (s : State) {d : Nat} (hd : d < 1024) : DieGone s (dieOut s d) d := by
  unfold dieOut
  by_cases hin : dieInService s d = false
  · rw [if_pos (by simp [hin])]
    exact ⟨rfl, fun _ _ _ _ => rfl, hin⟩
  · rw [if_neg (by simpa using hin)]
    extract_lets s1 s2
    have hcfg : (F.fchDieCfg_present (dieChannel d) (diePos d)).addr ≠ (F.fchDieStat_state (dieChannel d) (diePos d)).addr := by
      simp only [F.fchDieCfg_present, F.fchDieStat_state, ne_eq]
      omega
    have h2 : ∀ f : Fld, f.addr ≠ (F.fchDieStat_state (dieChannel d) (diePos d)).addr → getF s2 f = getF s1 f := fun f hf => by
      simp only [s2]
      split
      · rfl
      · exact getF_setF_addr s1 _ hf
    have hclk : s2.clk = s.clk := by
      simp only [s2]
      split <;> rfl
    have hkept : FlashKept s2 (groupLoses (pruneDie s2 d) (dieGroup d)) := (flashKept_pruneDie s2 d).trans (flashKept_groupLoses _ _)
    refine ⟨hkept.1.trans hclk, fun f hf hc hs => ?_, ?_⟩
    · rw [hkept.getF hf, h2 f hs]
      exact getF_setF_addr s _ hc
    · have hleft : dieInService s1 d = false := by
        have hclear : flag s1 (F.fchDieCfg_inservice (dieChannel d) (diePos d)) = false := by
          simp only [s1, dieLeaves, clrF, flag, getF_setF_same s _ 0 (show (F.fchDieCfg_inservice (dieChannel d) (diePos d)).hi < 64 by
            simp [F.fchDieCfg_inservice]) (le_refl _), Nat.zero_mod, bne_self_eq_false]
        simp only [dieInService, hclear, Bool.and_false]
      rw [← hleft]
      exact dieInService_of_cfg fun f hf => by rw [hkept.getF (hf ▸ cfg_flash hd), h2 f (hf ▸ hcfg)]

/-- A die that is out of service stays so when a die leaves. -/
theorem dieOut_stays {s : State} {d e : Nat} (hd : d < 1024) (he : e < 1024) (h : dieInService s e = false) : dieInService (dieOut s d) e = false := by
  by_cases hde : e = d
  · subst hde
    exact (dieGone_dieOut s hd).out
  · rw [← h]
    have hne : ∀ f : Fld, f.addr = (F.fchDieCfg_present (dieChannel e) (diePos e)).addr →
        f.addr ≠ (F.fchDieCfg_present (dieChannel d) (diePos d)).addr ∧ f.addr ≠ (F.fchDieStat_state (dieChannel d) (diePos d)).addr := fun f hf => by
      simp only [hf, F.fchDieCfg_present, F.fchDieStat_state, dieChannel, diePos]
      omega
    exact dieInService_of_cfg fun f hf => (dieGone_dieOut s hd).regs f (hf ▸ cfg_flash he) (hne f hf).1 (hne f hf).2

theorem mem_diesOfChannel {c d : Nat} : d ∈ diesOfChannel c ↔ d / 16 = c := by
  simp only [diesOfChannel, List.mem_map, List.mem_range]
  constructor
  · rintro ⟨i, hi, rfl⟩
    omega
  · rintro rfl
    exact ⟨d % 16, Nat.mod_lt _ (by decide), by omega⟩

theorem mem_diesOfChannel_lt {c d : Nat} (hc : c < 64) (h : d ∈ diesOfChannel c) : d < 1024 := by
  have := mem_diesOfChannel.1 h
  omega

/-- The registers of a channel itself, not of its dies or descriptors: FCH_CTRL, FCH_STAT and FCH_ERR. -/
def ChannelReg (a : Nat) : Prop := ¬ OutsideFlash a ∧ a % 0x10000 < 0x100

theorem channelReg_of {c off : Nat} (hc : c < 64) (h : off < 0x100) : ChannelReg (0x1001000000 + off + 0x10000 * c) := by
  simp only [ChannelReg, OutsideFlash]
  omega

/-- The dies of a channel leave service, and the registers of the channels are as they were. -/
theorem getF_channelOut {s : State} {c : Nat} (hc : c < 64) {f : Fld} (hf : ChannelReg f.addr) : getF (channelOut s c) f = getF s f := by
  refine forEach_invariant (P := fun u => getF u f = getF s f) (fun u d hd hu => ?_) rfl
  obtain ⟨hflash, hoff⟩ := hf
  rw [← hu]
  refine (dieGone_dieOut u (mem_diesOfChannel_lt hc hd)).regs f hflash ?_ ?_
  · simp only [F.fchDieCfg_present, dieChannel, diePos]
    omega
  · simp only [F.fchDieStat_state, dieChannel, diePos]
    omega

theorem channelOut_out {s : State} {c d : Nat} (hc : c < 64) (hd : d ∈ diesOfChannel c) : dieInService (channelOut s c) d = false :=
  forEach_establishes (I := fun _ => True) (P := fun u => dieInService u d = false) hd (fun _ _ _ _ => trivial)
    (fun u _ => (dieGone_dieOut u (mem_diesOfChannel_lt hc hd)).out)
    (fun _ _ he _ hu => dieOut_stays (mem_diesOfChannel_lt hc he) (mem_diesOfChannel_lt hc hd) hu) trivial

/-- A channel none of whose dies is present loses none. -/
theorem channelOut_absent {s : State} {c : Nat} (h : ∀ d ∈ diesOfChannel c, diePresent s d = false) : channelOut s c = s :=
  forEach_fixed fun d hd => if_pos (by simp only [dieInService, h d hd, Bool.false_and, Bool.not_false])

end Sys2Proof.Machine
end

section
/-!
PROOFS. The training of a channel (R182, R192 step 7, R210): one that can run a rate trains, one that fails is out of service.
-/

namespace Sys2Proof.Machine

open Sys2Proof

/-- The registers a training writes. -/
def trainAddrs (c : Nat) : List Nat := [(F.fchStat_state c).addr, (F.fchCtrl_train c).addr]

/-- A channel whose failing retraining, if one waits, is taken up. -/
def failTaken (s : State) (c : Nat) : State := { s with bay := { s.bay with trainFails := dropAll s.bay.trainFails c } }

/-- The state a channel's training starts from. -/
def trainingBegun (s : State) (c : Nat) : State := setF (failTaken s c) (F.fchStat_state c) 2

/-- The state once a training has put on the channel what it does. -/
def trainingSent (s : State) (c r : Nat) : State := sendTraining (trainingBegun s c) c r

/-- The outputs of a training on the target of a die. -/
def targetTraining (d r : Nat) : List Output :=
  [.die d (.setFeatures .interface r), .die d .zqCalibration, .die d .readTraining, .die d .writeTraining]

theorem only_bayState (s : State) (y : BayState) : Only s { s with bay := y } [.bay] [] := by
  refine ⟨fun p hp => ?_, fun _ _ _ => rfl⟩
  cases p
  case bay => exact absurd (List.mem_singleton.2 rfl) hp
  all_goals rfl

theorem padsChanged_targetTrained (s : State) (d r : Nat) :
    PadsChanged s (if !diePresent s d then s
      else cycle (cycle (cycle (cycle (selectInterface s d r) d .zqCalibration) d .dccTraining) d .readTraining) d .writeTraining) := by
  split
  · exact padsChanged_refl s
  · unfold selectInterface
    extract_lets io s1
    have h1 : PadsChanged s s1 := (padsChanged_selected s d _).trans (padsChanged_emit _ _)
    exact (((((h1.trans (padsChanged_emit _ _)).trans (padsChanged_emit _ _)).trans (padsChanged_emit _ _)).trans (padsChanged_emit _ _)).trans
      (padsChanged_emit _ _)).trans (padsChanged_emit _ _)

theorem padsChanged_sendTraining (s : State) (c r : Nat) : PadsChanged s (sendTraining s c r) :=
  padsChanged_forEach (fun u d => padsChanged_targetTrained u d r) _ _

theorem padsChanged_trainingSent (s : State) (c r : Nat) : PadsChanged (trainingBegun s c) (trainingSent s c r) :=
  padsChanged_sendTraining _ c r

/-- The training of a target that is present goes out on its channel. -/
theorem mem_sendTraining {s : State} {c : Nat} (h : diePresent s (16 * c) = true) (r : Nat) :
    ∀ x ∈ targetTraining (16 * c) r, x ∈ (sendTraining s c r).out := by
  refine forEach_establishes (I := fun u => u.regs = s.regs) (P := fun u => ∀ x ∈ targetTraining (16 * c) r, x ∈ u.out) (k := 16 * c)
    (List.mem_map.2 ⟨0, by decide, rfl⟩) (fun u d _ hu => (padsChanged_targetTrained u d r).regs.trans hu) (fun u hu => ?_)
    (fun u d _ _ hu x hx => (padsChanged_targetTrained u d r).out_prefix.subset (hu x hx)) rfl
  have hp : diePresent u (16 * c) = true := by rw [← h]; exact flag_congr hu _
  simp only [hp, Bool.not_true, Bool.false_eq_true, if_false, targetTraining, selectInterface, cycle, emit, List.mem_cons, List.not_mem_nil, or_false]
  rintro x (rfl | rfl | rfl | rfl) <;> simp

/-- What a channel's training changes beside the outputs: the pins, the retrainings that wait, and its own registers. -/
theorem only_trainingSent (s : State) (c r : Nat) : Only s (trainingSent s c r) [.bay, .pins] [(F.fchStat_state c).addr] :=
  only_mono (only_trans (only_trans (only_bayState s _) (only_setF _ (F.fchStat_state c) 2)) (padsChanged_trainingSent s c r).only) (by simp) (by simp)

/-- A channel is READY at a rate, with its pins in NV-LP4 and WP_N high. -/
structure Trained (s t : State) (c r : Nat) : Prop where
  state : getF t (F.fchStat_state c) = 3
  rate : getF t (F.fchStat_rateNow c) = r % 2 ^ 12
  train : flag t (F.fchCtrl_train c) = false
  enable : flag t (F.fchCtrl_enable c) = flag s (F.fchCtrl_enable c)
  maxRate : getF t (F.fchCtrl_maxRate c) = getF s (F.fchCtrl_maxRate c)
  pads : padsOf t c = ⟨.driven, 15, true, true⟩
  bays : t.bay.bays = s.bay.bays
  only : Only s t [.bay, .pins] (trainAddrs c)
  sent : diePresent s (16 * c) = true → ∀ x ∈ targetTraining (16 * c) r, x ∈ t.out

/-- The end of a channel's training: READY at the rate, and TRAIN reads 0. -/
def trainingEnded (s : State) (c r : Nat) : State :=
  clrF (setF (setF (readyPads s c) (F.fchStat_state c) 3) (F.fchStat_rateNow c) r) (F.fchCtrl_train c)

theorem stat_ne_ctrl (c : Nat) : (F.fchStat_state c).addr ≠ (F.fchCtrl_train c).addr := by
  simp only [F.fchStat_state, F.fchCtrl_train]
  omega

/-- The end of a training leaves the other fields of FCH_CTRL. -/
theorem getF_trainingEnded (s : State) (c r : Nat) {f : Fld} (ha : f.addr = (F.fchCtrl_train c).addr) (hhi : f.hi < 64)
    (hbits : f.hi < (F.fchCtrl_train c).lo ∨ (F.fchCtrl_train c).hi < f.lo) : getF (trainingEnded s c r) f = getF s f := by
  have hne : f.addr ≠ (F.fchStat_state c).addr := fun e => stat_ne_ctrl c (e.symm.trans ha)
  rw [trainingEnded, clrF, getF_setF_bits _ _ ha hhi hbits, getF_setF_addr _ _ (show f.addr ≠ (F.fchStat_rateNow c).addr from hne),
    getF_setF_addr _ _ hne, getF_congr (padsChanged_readyPads _ _).regs]

theorem only_trainingEnded (s : State) (c r : Nat) : Only s (trainingEnded s c r) [.pins] (trainAddrs c) :=
  only_mono (only_trans (only_trans (only_trans (padsChanged_setPads s c _).only (only_setF _ (F.fchStat_state c) 3))
    (only_setF _ (F.fchStat_rateNow c) r)) (only_setF _ (F.fchCtrl_train c) 0)) (by simp)
    (by simp [trainAddrs, F.fchStat_state, F.fchStat_rateNow])

/-- An enabled channel trains at the rate it can run. -/
theorem trainNow_eq {s : State} {c r : Nat} (hen : flag s (F.fchCtrl_enable c) = true) (hr : trainRate s c = some r) :
    trainNow s c false = trainingEnded (trainingSent s c r) c r := by
  have hen' : flag (failTaken s c) (F.fchCtrl_enable c) = true := hen
  have hr' : trainRate (failTaken s c) c = some r := hr
  change clrF (trainChannel (failTaken s c) c false) (F.fchCtrl_train c) = _
  simp only [trainChannel, hen', hr', if_true, Bool.false_eq_true, if_false]
  rfl

theorem trained_trainNow {s : State} {c r : Nat} (hen : flag s (F.fchCtrl_enable c) = true) (hr : trainRate s c = some r) :
    Trained s (trainNow s c false) c r := by
  rw [trainNow_eq hen hr]
  have hctrl : ∀ f : Fld, f.addr = (F.fchCtrl_train c).addr → f.hi < 64 → f.hi < (F.fchCtrl_train c).lo ∨ (F.fchCtrl_train c).hi < f.lo →
      getF (trainingEnded (trainingSent s c r) c r) f = getF s f := fun f ha hhi hbits => by
    rw [getF_trainingEnded _ _ _ ha hhi hbits, getF_congr (padsChanged_trainingSent s c r).regs]
    exact getF_setF_addr (failTaken s c) 2 fun e => stat_ne_ctrl c (e.symm.trans ha)
  have hout : (trainingSent s c r).out <+: (trainingEnded (trainingSent s c r) c r).out := (padsChanged_readyPads _ c).out_prefix
  refine ⟨?_, ?_, ?_, ?_, hctrl _ rfl (by simp [F.fchCtrl_maxRate]) (.inl (by simp [F.fchCtrl_maxRate, F.fchCtrl_train])), ?_, ?_, ?_, ?_⟩
  · rw [trainingEnded, clrF, getF_setF_addr _ _ (stat_ne_ctrl c), getF_setF_bits (f := F.fchStat_rateNow c) (g := F.fchStat_state c) _ _
      rfl (by simp [F.fchStat_state]) (.inl (by simp [F.fchStat_state, F.fchStat_rateNow])),
      getF_setF_same _ _ _ (by simp [F.fchStat_state]) (by simp [F.fchStat_state])]
    rfl
  · rw [trainingEnded, clrF, getF_setF_addr _ _ (show (F.fchStat_rateNow c).addr ≠ _ from stat_ne_ctrl c),
      getF_setF_same _ _ _ (by simp [F.fchStat_rateNow]) (by simp [F.fchStat_rateNow])]
    simp only [F.fchStat_rateNow]
  · rw [trainingEnded, clrF, flag, getF_setF_same _ _ _ (by simp [F.fchCtrl_train]) (by simp [F.fchCtrl_train]), Nat.zero_mod]
    rfl
  · simp only [flag, hctrl (F.fchCtrl_enable c) rfl (by simp [F.fchCtrl_enable]) (.inr (by simp [F.fchCtrl_enable, F.fchCtrl_train]))]
  · exact padsOf_setPads_same (trainingSent s c r) c _
  · change (readyPads (trainingSent s c r) c).bay.bays = _
    rw [(padsChanged_readyPads _ _).bay, (padsChanged_trainingSent s c r).bay]
    rfl
  · exact only_mono (only_trans (only_trainingSent s c r) (only_trainingEnded _ c r)) (by simp) (by simp [trainAddrs])
  · intro hp x hx
    have hp' : diePresent (trainingBegun s c) (16 * c) = true := by
      rw [← hp]
      simp only [diePresent, flag, trainingBegun]
      rw [getF_setF_addr (failTaken s c) 2 (by simp only [F.fchDieCfg_present, F.fchStat_state, dieChannel, diePos]; omega)]
      rfl
    exact hout.subset (mem_sendTraining hp' r x hx)

/-- A training that fails takes the channel's dies out of service: here none is present. -/
def trainingFailed (s : State) (c r : Nat) : State :=
  clrF (chanFault (setF (protectPads (trainingSent s c r) c) (F.fchStat_state c) 4) F.fchErr_trainFail c 0) (F.fchCtrl_train c)

theorem trainNow_fails {s : State} {c r : Nat} (hc : c < 64) (habs : ∀ d ∈ diesOfChannel c, diePresent s d = false)
    (hen : flag s (F.fchCtrl_enable c) = true) (hr : trainRate s c = some r) : trainNow s c true = trainingFailed s c r := by
  have hen' : flag (failTaken s c) (F.fchCtrl_enable c) = true := hen
  have hr' : trainRate (failTaken s c) c = some r := hr
  let v := setF (protectPads (trainingSent s c r) c) (F.fchStat_state c) 4
  have hv : Only s (chanFault v F.fchErr_trainFail c 0) [.bay, .pins, .csh]
      [(F.fchStat_state c).addr, (F.fchErr_trainFail c).addr, (F.cshMissed_total 2).addr] :=
    only_mono (only_trans (only_trans (only_trans (only_trainingSent s c r) (padsChanged_protectPads _ c).only) (only_setF _ (F.fchStat_state c) 4))
      (only_chanFault v F.fchErr_trainFail c 0)) (by simp) (by simp)
  have habs' : ∀ d ∈ diesOfChannel c, diePresent (chanFault v F.fchErr_trainFail c 0) d = false := fun d hd => by
    have hlt := mem_diesOfChannel_lt hc hd
    rw [diePresent_of_only hlt hv, habs d hd]
    simp only [F.fchDieCfg_present, F.fchStat_state, F.fchErr_trainFail, F.cshMissed_total, List.mem_cons, List.not_mem_nil, or_false, dieChannel, diePos]
    omega
  change clrF (trainChannel (failTaken s c) c true) (F.fchCtrl_train c) = _
  simp only [trainChannel, hen', hr', if_true]
  exact congrArg (fun u => clrF u (F.fchCtrl_train c)) (channelOut_absent habs')

/-- A channel is FAILED for its training. -/
structure TrainingFailed (s t : State) (c : Nat) : Prop where
  state : getF t (F.fchStat_state c) = 4
  fault : flag t (F.fchErr_trainFail c) = true
  train : flag t (F.fchCtrl_train c) = false
  only : Only s t [.bay, .pins, .csh] (trainAddrs c ++ [(F.fchErr_trainFail c).addr, (F.cshMissed_total 2).addr])

/-- What a channel's failing training leaves. -/
theorem trainingFailed_leaves (s : State) {c : Nat} (hc : c < 64) (r : Nat) : TrainingFailed s (trainingFailed s c r) c := by
  let v := setF (protectPads (trainingSent s c r) c) (F.fchStat_state c) 4
  have hv : Only s v [.bay, .pins] [(F.fchStat_state c).addr] :=
    only_mono (only_trans (only_trans (only_trainingSent s c r) (padsChanged_protectPads _ c).only) (only_setF _ (F.fchStat_state c) 4)) (by simp) (by simp)
  have hmiss : (F.fchErr_trainFail c).addr ≠ (F.cshMissed_total 2).addr := by
    simp only [F.fchErr_trainFail, F.cshMissed_total]
    omega
  refine ⟨?_, ?_, ?_, ?_⟩
  · have hne : (F.fchStat_state c).addr ∉ [(F.fchErr_trainFail c).addr, (F.cshMissed_total 2).addr] := by
      simp only [F.fchStat_state, F.fchErr_trainFail, F.cshMissed_total, List.mem_cons, List.not_mem_nil, or_false]
      omega
    rw [trainingFailed, clrF, getF_setF_addr _ _ (stat_ne_ctrl c),
      (only_chanFault v _ c 0).2 _ hne (unsettled_of_flash (channelReg_of (off := 4) hc (by decide)).1),
      getF_setF_same _ _ _ (by simp [F.fchStat_state]) (by simp [F.fchStat_state])]
    rfl
  · have hne : (F.fchErr_trainFail c).addr ≠ (F.fchCtrl_train c).addr := by
      simp only [F.fchErr_trainFail, F.fchCtrl_train]
      omega
    rw [trainingFailed, clrF, flag_setF_addr _ _ hne]
    exact flag_raiseErr v _ _ _ _ (by simp [F.fchErr_trainFail]) (by simp [F.fchErr_trainFail]) hmiss
  · rw [trainingFailed, clrF, flag, getF_setF_same _ _ _ (by simp [F.fchCtrl_train]) (by simp [F.fchCtrl_train]), Nat.zero_mod]
    rfl
  · exact only_mono (only_trans (only_trans hv (only_chanFault v F.fchErr_trainFail c 0)) (only_setF _ (F.fchCtrl_train c) 0)) (by simp)
      (by simp [trainAddrs])

end Sys2Proof.Machine
end

section
/-!
PROOFS. Descriptors, training and a channel's end (R188, R209, R210, R215), tracking trims (R233, R243) and record updates (R278).
-/

namespace Sys2Proof.Machine

open Sys2Proof

theorem descBytes_congr {s t : State} (h : t.regs = s.regs) (b k : Nat) : descBytes t b k = descBytes s b k := by
  simp only [descBytes, getF_congr h]

/-- The last word of a descriptor of the bay of a channel. -/
def lastWord (c k : Nat) : Fld := F.fchDesc_word (c / 16) (64 * k + 63)

/-- What a write of a descriptor's last word does, once it has reached its register. -/
def lastWordWritten (c k : Nat) (crc : DWord) (s : State) : State :=
  if descInUse s (c / 16) k then chanFault s F.fchErr_descBusy c 0 else validateDesc (setF s (lastWord c k) crc.toNat) (c / 16) k

/-- The first channel of a bay writes the last word of one of its eight descriptors. -/
theorem completes_descValidate {m c k : Nat} {crc : DWord} {s x : State} {P : State → Prop} (h : Reaches s m (lastWord c k).addr true)
    (hc : c % 16 = 0) (hk : k < 8) (hx : lastWordWritten c k crc (cleared s) = x) (hP : P (settle x)) : Completes (.descValidate m c k crc) s P := by
  have hno : ¬ (0 ≠ 0 ∨ 8 ≤ k) := by omega
  have hrow : exec (.descValidate m c k crc) s = effect (fun s => rowGate s m (lastWord c k).addr true (lastWordWritten c k crc)) s := by
    change effect (onDescValidate m c k crc) s = _
    refine congrArg (fun f => effect f s) (funext fun u => ?_)
    simp only [onDescValidate, hc, Nat.mul_zero, Nat.add_zero, if_neg hno]
    rfl
  exact completes_reached hrow h hx hP

theorem lastWord_flash {c k : Nat} (hc : c < 64) (hk : k < 8) : ¬ OutsideFlash (lastWord c k).addr := by
  simp only [OutsideFlash, lastWord, F.fchDesc_word]
  omega

/-- A descriptor's last word reads as written. -/
theorem getF_lastWord (s : State) (c k : Nat) (crc : DWord) : getF (setF s (lastWord c k) crc.toNat) (lastWord c k) = crc.toNat := by
  rw [getF_setF_same _ _ _ (by simp [lastWord, F.fchDesc_word]) (by simp [lastWord, F.fchDesc_word])]
  exact Nat.mod_eq_of_lt crc.isLt

theorem descInUse_cleared (s : State) (b k : Nat) : descInUse (cleared s) b k = descInUse s b k := rfl

/-- A fault of a channel is shown in its bit of FCH_ERR. -/
theorem flag_chanFault (s : State) {bit : Nat → Fld} {c : Nat} (pos : Nat) (ha : (bit c).addr = (F.fchErr_trainFail c).addr)
    (hhi : (bit c).hi < 64) (hlo : (bit c).lo ≤ (bit c).hi) : flag (chanFault s bit c pos) (bit c) = true := by
  refine flag_raiseErr s _ _ _ _ hhi hlo ?_
  simp only [ha, F.fchErr_trainFail, F.cshMissed_total]
  omega

theorem errAddr_unsettled {c : Nat} (hc : c < 64) : (F.fchErr_trainFail c).addr ∉ settledAddrs :=
  unsettled_of_flash (channelReg_of (off := 8) hc (by decide)).1

/-- A descriptor's last word that completes it: the word is written, and the CRC that matches or not decides. -/
theorem lastWordWritten_valid {s : State} {c k : Nat} {crc : DWord} (hbusy : descInUse s (c / 16) k = false)
    (hvalid : descValid (setF s (lastWord c k) crc.toNat) (c / 16) k = true) :
    lastWordWritten c k crc (cleared s) = setF (cleared s) (lastWord c k) crc.toNat := by
  simp only [descValid, descCrcGood, descFits, Bool.and_eq_true] at hvalid
  have hbytes : descBytes (setF (cleared s) (lastWord c k) crc.toNat) (c / 16) k = descBytes (setF s (lastWord c k) crc.toNat) (c / 16) k :=
    descBytes_congr rfl _ _
  simp only [lastWordWritten, descInUse_cleared, hbusy, validateDesc, descCrcGood, descFits, hbytes, hvalid.1, hvalid.2, Bool.not_true,
    Bool.false_eq_true, if_false]

theorem lastWordWritten_bad {s : State} {c k : Nat} {crc : DWord} (hc : c % 16 = 0) (hbusy : descInUse s (c / 16) k = false)
    (hbad : descCrcGood (setF s (lastWord c k) crc.toNat) (c / 16) k = false) :
    lastWordWritten c k crc (cleared s) = chanFault (setF (cleared s) (lastWord c k) crc.toNat) F.fchErr_descCrc c 0 := by
  simp only [descCrcGood] at hbad
  have hbytes : descBytes (setF (cleared s) (lastWord c k) crc.toNat) (c / 16) k = descBytes (setF s (lastWord c k) crc.toNat) (c / 16) k :=
    descBytes_congr rfl _ _
  have hbay : 16 * (c / 16) = c := by omega
  simp only [lastWordWritten, descInUse_cleared, hbusy, validateDesc, descCrcGood, hbytes, hbad, hbay, Bool.not_false, Bool.false_eq_true,
    if_false, if_true]

/-- A channel with no operation in progress or suspended has none on any of its dies. -/
theorem idle_of_channelBusy {s : State} {c : Nat} (h : channelBusy s c = false) :
    ∀ d ∈ diesOfChannel c, (dieOf s d).current = none ∧ (dieOf s d).suspended = none := by
  intro d hd
  simp only [channelBusy, channelDies, Bool.not_eq_false', List.isEmpty_iff, List.filter_eq_nil_iff] at h
  simpa [not_or] using h d hd

theorem drainDie_idle {s : State} {d : Nat} (h : (dieOf s d).current = none ∧ (dieOf s d).suspended = none) : drainDie s d = s := by
  simp [drainDie, h.1, h.2, decideResume]

/-- A retraining that nothing holds back is done at once. -/
theorem channelRest_trains {s : State} {c : Nat} (hbusy : channelBusy s c = false) (hen : flag s (F.fchCtrl_enable c) = true)
    (htrain : flag s (F.fchCtrl_train c) = true) (hbay : (bayOf s (c / 16)).phase = .ready) :
    channelRest s c = trainNow s c (s.bay.trainFails.contains c) := by
  have hdrain : ¬ (getF s (F.fchStat_state c) = 6 ∧ flag s (F.fchCtrl_enable c) = false) := fun h => by simp [hen] at h
  have hgo : (flag s (F.fchCtrl_train c) && (bayOf s (c / 16)).phase == .ready) = true := by simp [htrain, hbay]
  simp only [channelRest, hbusy, Bool.false_eq_true, if_false, if_neg hdrain, if_pos hgo]
  rfl

/-- TRAIN reads 1, and how the retraining ends is known. -/
def trainAsked (c : Nat) (fails : Bool) (s : State) : State :=
  setBit { s with bay := { s.bay with trainFails := if fails then c :: dropAll s.bay.trainFails c else dropAll s.bay.trainFails c } } (F.fchCtrl_train c)

theorem completes_train {m c : Nat} {fails : Bool} {s x : State} {P : State → Prop} (h : Reaches s m (F.fchCtrl_train c).addr true)
    (hx : channelRest (trainAsked c fails (cleared s)) c = x) (hP : P (settle x)) : Completes (.train m c fails) s P :=
  completes_reached (f := fun s => channelRest (trainAsked c fails s) c) rfl h hx hP

theorem contains_trainAsked (c : Nat) (fails : Bool) (s : State) : (trainAsked c fails s).bay.trainFails.contains c = fails := by
  cases fails
  · exact dropAll_contains _ _
  · simp [trainAsked]

theorem flag_trainAsked (c : Nat) (fails : Bool) (s : State) : flag (trainAsked c fails s) (F.fchCtrl_train c) = true := by
  rw [trainAsked, setBit_eq, flag, getF_setF_same _ _ _ (by simp [F.fchCtrl_train]) (by simp [F.fchCtrl_train])]
  rfl

/-- TRAIN shares its register with ENABLE and MAX_RATE, and leaves them. -/
theorem getF_trainAsked (c : Nat) (fails : Bool) (s : State) {f : Fld} (hhi : f.hi < 64)
    (hbits : f.addr ≠ (F.fchCtrl_train c).addr ∨ f.hi < (F.fchCtrl_train c).lo ∨ (F.fchCtrl_train c).hi < f.lo) :
    getF (trainAsked c fails s) f = getF s f := by
  by_cases ha : f.addr = (F.fchCtrl_train c).addr
  · exact getF_setF_bits _ 1 ha hhi (hbits.resolve_left fun h => h ha)
  · exact getF_setF_addr _ 1 ha

theorem only_trainAsked (c : Nat) (fails : Bool) (s : State) : Only s (trainAsked c fails s) [.bay] [(F.fchCtrl_train c).addr] :=
  only_mono (only_trans (only_bayState s _) (only_setF _ _ 1)) (by simp) (by simp)

theorem flag_enable_trainAsked (c : Nat) (fails : Bool) (s : State) : flag (trainAsked c fails s) (F.fchCtrl_enable c) = flag s (F.fchCtrl_enable c) := by
  simp only [flag, getF_trainAsked c fails s (f := F.fchCtrl_enable c) (by simp [F.fchCtrl_enable]) (.inr (.inr (by simp [F.fchCtrl_enable, F.fchCtrl_train])))]

/-- A register of a channel's dies or descriptors, not of the channel itself. -/
def DieReg (a : Nat) : Prop := ¬ OutsideFlash a ∧ 0x100 ≤ a % 0x10000

theorem dieReg_ne {a b : Nat} (ha : DieReg a) (hb : ChannelReg b) : a ≠ b := fun e => absurd (e ▸ ha.2 : 0x100 ≤ b % 0x10000) (Nat.not_le.2 hb.2)

theorem dieReg_cfg {d : Nat} (hd : d < 1024) : DieReg (F.fchDieCfg_present (dieChannel d) (diePos d)).addr :=
  ⟨cfg_flash hd, by simp only [F.fchDieCfg_present, dieChannel, diePos]; omega⟩

theorem field_lt (n hi lo : Nat) : field n hi lo < 2 ^ (hi + 1 - lo) := Nat.mod_lt _ (Nat.two_pow_pos _)

/-- A field of a die's descriptor stands in the registers of dies and descriptors. -/
theorem dieF_congr {s t : State} {d off n : Nat} (hd : d < 1024) (h : ∀ f : Fld, DieReg f.addr → getF t f = getF s f) (hoff : off + n < 256) :
    dieF t d off n = dieF s d off n := by
  have hdesc : getF t (F.fchDieCfg_desc (dieChannel d) (diePos d)) = getF s (F.fchDieCfg_desc (dieChannel d) (diePos d)) := h _ (dieReg_cfg hd)
  have hk : getF s (F.fchDieCfg_desc (dieChannel d) (diePos d)) < 8 := field_lt _ _ _
  simp only [dieF, descF, hdesc]
  generalize getF s (F.fchDieCfg_desc (dieChannel d) (diePos d)) = k at hk
  refine List.foldr_ext _ _ _ fun i hi a => ?_
  rw [h _ (by have := List.mem_range.1 hi; simp only [DieReg, OutsideFlash, F.fchDesc_word, dieBay]; omega)]

/-- The rate a channel trains at follows from MAX_RATE and its dies. -/
theorem trainRate_congr {s t : State} {c : Nat} (hc : c < 64) (hmax : getF t (F.fchCtrl_maxRate c) = getF s (F.fchCtrl_maxRate c))
    (h : ∀ f : Fld, DieReg f.addr → getF t f = getF s f) : trainRate t c = trainRate s c := by
  have hpres : (diesOfChannel c).filter (diePresent t) = (diesOfChannel c).filter (diePresent s) := List.filter_congr fun d hd => by
    simp only [diePresent, flag, h _ (dieReg_cfg (mem_diesOfChannel_lt hc hd))]
  have hrate : ((diesOfChannel c).filter (diePresent s)).map (fun d => dieF t d 0x1E 2) =
      ((diesOfChannel c).filter (diePresent s)).map fun d => dieF s d 0x1E 2 :=
    List.map_congr_left fun d hd => dieF_congr (mem_diesOfChannel_lt hc (List.mem_filter.1 hd).1) h (by decide)
  simp only [trainRate, hmax, hpres, hrate]

/-- A command that changes channels' own registers alone leaves those of the dies. -/
theorem getF_dieReg_of_only {s t : State} {ps : List Part} {as : List Nat} (h : Only s t ps as) (has : ∀ a ∈ as, ChannelReg a) {f : Fld}
    (hf : DieReg f.addr) : getF t f = getF s f := h.2 f (fun hm => dieReg_ne hf (has _ hm) rfl) (unsettled_of_flash hf.1)

end Sys2Proof.Machine
end

section
/-!
PROOFS. O44: descriptors, training and a channel's end, tracking trims and block records, clause by clause.
-/

namespace Sys2Proof.Machine

open Sys2Proof

theorem lastWord_unsettled {c k : Nat} (hc : c < 64) (hk : k < 8) : (lastWord c k).addr ∉ settledAddrs :=
  unsettled_of_flash (lastWord_flash hc hk)

/-- A descriptor that is valid with its last word: the word is written, and nothing else changes (R215). -/
theorem descValidate_valid {m c k : Nat} {crc : DWord} {s : State} (h : Reaches s m (lastWord c k).addr true) (hc : c < 64) (hfirst : c % 16 = 0)
    (hk : k < 8) (hbusy : descInUse s (c / 16) k = false) (hvalid : descValid (setF s (lastWord c k) crc.toNat) (c / 16) k = true) :
    Completes (.descValidate m c k crc) s fun t => getF t (lastWord c k) = crc.toNat ∧ Only s t [] [(lastWord c k).addr] := by
  refine completes_descValidate h hfirst hk (lastWordWritten_valid hbusy hvalid) ⟨?_, only_settle (only_cleared (only_setF _ _ _))⟩
  rw [getF_settle _ _ (lastWord_unsettled hc hk), getF_lastWord]

/-- The registers a channel's fault is shown in: its bit of FCH_ERR, and the count of the events missed. -/
theorem lastWord_not_fault {c k : Nat} (hfirst : c % 16 = 0) (hk : k < 8) :
    (lastWord c k).addr ∉ [(F.fchErr_descCrc c).addr, (F.cshMissed_total 2).addr] := by
  simp only [lastWord, F.fchDesc_word, F.fchErr_descCrc, F.cshMissed_total, List.mem_cons, List.not_mem_nil, or_false]
  omega

/-- A descriptor whose last word does not fit is bad, and reads as written (R215). -/
theorem descValidate_bad {m c k : Nat} {crc : DWord} {s : State} (h : Reaches s m (lastWord c k).addr true) (hc : c < 64) (hfirst : c % 16 = 0)
    (hk : k < 8) (hbusy : descInUse s (c / 16) k = false) (hbad : descCrcGood (setF s (lastWord c k) crc.toNat) (c / 16) k = false) :
    Completes (.descValidate m c k crc) s fun t => getF t (lastWord c k) = crc.toNat ∧ flag t (F.fchErr_descCrc c) = true ∧
      Only s t [.csh] [(lastWord c k).addr, (F.fchErr_descCrc c).addr, (F.cshMissed_total 2).addr] := by
  have hfault := only_chanFault (setF (cleared s) (lastWord c k) crc.toNat) F.fchErr_descCrc c 0
  refine completes_descValidate h hfirst hk (lastWordWritten_bad hfirst hbusy hbad) ⟨?_, ?_, only_settle (only_cleared ?_)⟩
  · rw [getF_settle _ _ (lastWord_unsettled hc hk), hfault.2 _ (lastWord_not_fault hfirst hk) (lastWord_unsettled hc hk), getF_lastWord]
  · rw [flag_settle _ (f := F.fchErr_descCrc c) (errAddr_unsettled hc)]
    exact flag_chanFault _ 0 rfl (by simp [F.fchErr_descCrc]) (by simp [F.fchErr_descCrc])
  · exact only_mono (only_trans (only_setF _ (lastWord c k) _) hfault) (by simp) (by simp)

/-- A descriptor that a working die is bound to is not written (R215). -/
theorem descValidate_inUse {m c k : Nat} {crc : DWord} {s : State} (h : Reaches s m (lastWord c k).addr true) (hc : c < 64) (hfirst : c % 16 = 0)
    (hk : k < 8) (hbusy : descInUse s (c / 16) k = true) :
    Completes (.descValidate m c k crc) s fun t => flag t (F.fchErr_descBusy c) = true ∧
      Only s t [.csh] [(F.fchErr_descBusy c).addr, (F.cshMissed_total 2).addr] := by
  have hx : lastWordWritten c k crc (cleared s) = chanFault (cleared s) F.fchErr_descBusy c 0 := if_pos hbusy
  refine completes_descValidate h hfirst hk hx ⟨?_, only_settle (only_cleared (only_chanFault _ _ _ _))⟩
  rw [flag_settle _ (f := F.fchErr_descBusy c) (errAddr_unsettled hc)]
  exact flag_chanFault _ 0 rfl (by simp [F.fchErr_descBusy]) (by simp [F.fchErr_descBusy])

theorem ctrl_unsettled {c : Nat} (hc : c < 64) : (F.fchCtrl_train c).addr ∉ settledAddrs :=
  unsettled_of_flash (channelReg_of (off := 0) hc (by decide)).1

theorem stat_unsettled {c : Nat} (hc : c < 64) : (F.fchStat_state c).addr ∉ settledAddrs :=
  unsettled_of_flash (channelReg_of (off := 4) hc (by decide)).1

theorem ctrl_channelReg {c : Nat} (hc : c < 64) : ChannelReg (F.fchCtrl_train c).addr := channelReg_of (off := 0) hc (by decide)

/-- A request to train leaves the dies, and the rate the channel trains at. -/
theorem getF_trainAsked_die {c : Nat} (hc : c < 64) (fails : Bool) (s : State) (f : Fld) (hf : DieReg f.addr) : getF (trainAsked c fails s) f = getF s f :=
  getF_dieReg_of_only (only_trainAsked c fails s) (fun _ ha => List.mem_singleton.1 ha ▸ ctrl_channelReg hc) hf

theorem diePresent_trainAsked {c d : Nat} (hc : c < 64) (hd : d < 1024) (fails : Bool) (s : State) :
    diePresent (trainAsked c fails s) d = diePresent s d := by
  simp only [diePresent, flag, getF_trainAsked_die hc fails s _ (dieReg_cfg hd)]

theorem trainRate_trainAsked {c : Nat} (hc : c < 64) (fails : Bool) (s : State) : trainRate (trainAsked c fails s) c = trainRate s c :=
  trainRate_congr hc (getF_trainAsked c fails s (f := F.fchCtrl_maxRate c) (by simp [F.fchCtrl_maxRate])
    (.inr (.inl (by simp [F.fchCtrl_maxRate, F.fchCtrl_train])))) (getF_trainAsked_die hc fails s)

/-- A retraining that nothing holds back: what the channel's training does. -/
theorem channelRest_trainAsked {c : Nat} {fails : Bool} {s : State} (hbusy : channelBusy s c = false) (hbay : (bayOf s (c / 16)).phase = .ready)
    (hen : flag s (F.fchCtrl_enable c) = true) :
    channelRest (trainAsked c fails (cleared s)) c = trainNow (trainAsked c fails (cleared s)) c fails := by
  have h := channelRest_trains (s := trainAsked c fails (cleared s)) (c := c) hbusy ((flag_enable_trainAsked c fails (cleared s)).trans hen)
    (flag_trainAsked c fails (cleared s)) hbay
  rwa [contains_trainAsked] at h

/-- An enabled channel whose dies are free trains at once (R210). -/
theorem train_succeeds {m c r : Nat} {s : State} (h : Reaches s m (F.fchCtrl_train c).addr true) (hc : c < 64) (hbusy : channelBusy s c = false)
    (hbay : (bayOf s (c / 16)).phase = .ready) (hen : flag s (F.fchCtrl_enable c) = true) (hr : trainRate s c = some r) (hlt : r < 2 ^ 12) :
    Completes (.train m c false) s fun t =>
      getF t (F.fchStat_state c) = 3 ∧ getF t (F.fchStat_rateNow c) = r ∧ flag t (F.fchCtrl_train c) = false ∧ flag t (F.fchCtrl_enable c) = true ∧
      padsOf t c = ⟨.driven, 15, true, true⟩ ∧ (diePresent s (16 * c) = true → Output.die (16 * c) (.setFeatures .interface r) ∈ t.out ∧
        Output.die (16 * c) .zqCalibration ∈ t.out ∧ Output.die (16 * c) .readTraining ∈ t.out ∧ Output.die (16 * c) .writeTraining ∈ t.out) ∧
      Only s t [.bay, .pins] (trainAddrs c) := by
  let u := trainAsked c false (cleared s)
  have henu : flag u (F.fchCtrl_enable c) = true := (flag_enable_trainAsked c false (cleared s)).trans hen
  have ht : Trained u (trainNow u c false) c r := trained_trainNow henu ((trainRate_trainAsked hc false (cleared s)).trans hr)
  refine completes_train h (channelRest_trainAsked hbusy hbay hen) ⟨?_, ?_, ?_, ?_, ?_, fun hp => ?_, only_settle (only_cleared ?_)⟩
  · rw [getF_settle _ _ (stat_unsettled hc), ht.state]
  · rw [getF_settle _ (F.fchStat_rateNow c) (stat_unsettled hc), ht.rate, Nat.mod_eq_of_lt hlt]
  · rw [flag_settle _ (ctrl_unsettled hc), ht.train]
  · rw [flag_settle _ (f := F.fchCtrl_enable c) (ctrl_unsettled hc), ht.enable, henu]
  · rw [padsOf_settle, ht.pads]
  · have hsent := ht.sent ((diePresent_trainAsked hc (by omega) false (cleared s)).trans hp)
    simp only [targetTraining, List.forall_mem_cons] at hsent
    obtain ⟨hset, hzq, hread, hwrite, -⟩ := hsent
    exact ⟨mem_settle_out hset, mem_settle_out hzq, mem_settle_out hread, mem_settle_out hwrite⟩
  · exact only_mono (only_trans (only_trainAsked c false (cleared s)) ht.only) (by simp) (by simp [trainAddrs])

/-- A training that fails, of a channel without dies, is shown (R210). -/
theorem train_fails {m c r : Nat} {s : State} (h : Reaches s m (F.fchCtrl_train c).addr true) (hc : c < 64)
    (habs : ∀ d ∈ diesOfChannel c, diePresent s d = false) (hbusy : channelBusy s c = false) (hbay : (bayOf s (c / 16)).phase = .ready)
    (hen : flag s (F.fchCtrl_enable c) = true) (hr : trainRate s c = some r) :
    Completes (.train m c true) s fun t => getF t (F.fchStat_state c) = 4 ∧ flag t (F.fchErr_trainFail c) = true ∧ flag t (F.fchCtrl_train c) = false ∧
      Only s t [.bay, .pins, .csh] [(F.fchStat_state c).addr, (F.fchCtrl_train c).addr, (F.fchErr_trainFail c).addr, (F.cshMissed_total 2).addr] := by
  let u := trainAsked c true (cleared s)
  have hx : channelRest u c = trainingFailed u c r := (channelRest_trainAsked hbusy hbay hen).trans
    (trainNow_fails hc (fun d hd => (diePresent_trainAsked hc (mem_diesOfChannel_lt hc hd) true (cleared s)).trans (habs d hd))
      ((flag_enable_trainAsked c true (cleared s)).trans hen) ((trainRate_trainAsked hc true (cleared s)).trans hr))
  have ht := trainingFailed_leaves u hc r
  refine completes_train h hx ⟨?_, ?_, ?_, only_settle (only_cleared ?_)⟩
  · rw [getF_settle _ _ (stat_unsettled hc), ht.state]
  · rw [flag_settle _ (errAddr_unsettled hc), ht.fault]
  · rw [flag_settle _ (ctrl_unsettled hc), ht.train]
  · exact only_mono (only_trans (only_trainAsked c true (cleared s)) ht.only) (by simp) (by simp [trainAddrs])

theorem settle_trainFails (s : State) : (settle s).bay.trainFails = s.bay.trainFails := by
  obtain ⟨-, hfails, -⟩ : Part.same .bay s (settle s) := same_settle .bay s
  exact hfails

/-- While a die of the channel works the retraining waits (R210). -/
theorem train_waits {m c : Nat} {fails : Bool} {s : State} (h : Reaches s m (F.fchCtrl_train c).addr true) (hc : c < 64) (hbusy : channelBusy s c = true) :
    Completes (.train m c fails) s fun t => flag t (F.fchCtrl_train c) = true ∧ getF t (F.fchStat_state c) = getF s (F.fchStat_state c) ∧
      t.bay.trainFails.contains c = fails ∧ Only s t [.bay] [(F.fchCtrl_train c).addr] := by
  have hx : channelRest (trainAsked c fails (cleared s)) c = trainAsked c fails (cleared s) := if_pos hbusy
  have honly := only_trainAsked c fails (cleared s)
  refine completes_train h hx ⟨?_, ?_, ?_, only_settle (only_cleared honly)⟩
  · rw [flag_settle _ (ctrl_unsettled hc), flag_trainAsked]
  · rw [getF_settle _ _ (stat_unsettled hc)]
    exact honly.2 _ (fun hm => stat_ne_ctrl c (List.mem_singleton.1 hm)) (stat_unsettled hc)
  · rw [settle_trainFails, contains_trainAsked]

/-- ENABLE is clear and the channel drains. -/
def drained (c : Nat) (s : State) : State := setF (clrF s (F.fchCtrl_enable c)) (F.fchStat_state c) 6

theorem flag_enable_drained (c : Nat) (s : State) : flag (drained c s) (F.fchCtrl_enable c) = false := by
  rw [drained, flag_setF_addr _ _ (show (F.fchCtrl_enable c).addr ≠ _ from (stat_ne_ctrl c).symm), clrF, flag,
    getF_setF_same _ _ _ (by simp [F.fchCtrl_enable]) (by simp [F.fchCtrl_enable]), Nat.zero_mod]
  rfl

theorem flag_train_drained (c : Nat) (s : State) : flag (drained c s) (F.fchCtrl_train c) = flag s (F.fchCtrl_train c) := by
  rw [drained, flag_setF_addr _ _ (stat_ne_ctrl c).symm, clrF]
  simp only [flag, getF_setF_bits s (f := F.fchCtrl_enable c) (g := F.fchCtrl_train c) 0 rfl (by simp [F.fchCtrl_train])
    (.inl (by simp [F.fchCtrl_train, F.fchCtrl_enable]))]

theorem getF_state_drained (c : Nat) (s : State) : getF (drained c s) (F.fchStat_state c) = 6 := by
  rw [drained, getF_setF_same _ _ _ (by simp [F.fchStat_state]) (by simp [F.fchStat_state])]
  rfl

theorem only_drained (c : Nat) (s : State) : Only s (drained c s) [] [(F.fchStat_state c).addr, (F.fchCtrl_enable c).addr] :=
  only_mono (only_trans (only_setF _ (F.fchCtrl_enable c) 0) (only_setF _ (F.fchStat_state c) 6)) (by simp) (by simp)

/-- A drained channel out of service but for its dies. -/
def channelShut (c : Nat) (s : State) : State := setF (protectPads s c) (F.fchStat_state c) 5

theorem only_channelShut (c : Nat) (s : State) : Only s (channelShut c s) [.pins] [(F.fchStat_state c).addr] :=
  only_mono (only_trans (padsChanged_protectPads s c).only (only_setF _ (F.fchStat_state c) 5)) (by simp) (by simp)

/-- The channel held out is what its registers say, whether or not its dies have left service. -/
theorem getF_held {c : Nat} (hc : c < 64) (s : State) {f : Fld} (hf : ChannelReg f.addr) (hne : f.addr ≠ (F.fchStat_state c).addr) :
    getF (channelOut (channelShut c s) c) f = getF s f := by
  rw [getF_channelOut hc hf]
  exact (only_channelShut c s).2 f (fun hm => hne (List.mem_singleton.1 hm)) (unsettled_of_flash hf.1)

theorem getF_state_held {c : Nat} (hc : c < 64) (s : State) : getF (channelOut (channelShut c s) c) (F.fchStat_state c) = 5 := by
  rw [getF_channelOut hc (channelReg_of (off := 4) hc (by decide)), channelShut, getF_setF_same _ _ _ (by simp [F.fchStat_state]) (by simp [F.fchStat_state])]
  rfl

/-- A channel that drains, and that no operation holds, is held out of service. -/
theorem channelRest_drained {s : State} {c : Nat} (hbusy : channelBusy s c = false) (hstate : getF s (F.fchStat_state c) = 6)
    (hen : flag s (F.fchCtrl_enable c) = false) (htrain : flag (channelOut (channelShut c s) c) (F.fchCtrl_train c) = false) :
    channelRest s c = channelOut (channelShut c s) c := by
  have hout : (if getF s (F.fchStat_state c) = 6 ∧ flag s (F.fchCtrl_enable c) = false then holdChannelOut s c else s) = channelOut (channelShut c s) c :=
    if_pos ⟨hstate, hen⟩
  rw [channelRest, hbusy, if_neg Bool.false_ne_true]
  extract_lets v
  have hv : v = channelOut (channelShut c s) c := hout
  rw [hv, htrain, Bool.false_and, if_neg Bool.false_ne_true]

/-- A channel without operations, and with no retraining that waits, goes out of service with the write that clears ENABLE (R209, R210). -/
theorem completes_disable {m c : Nat} {s : State} {P : State → Prop} (h : Reaches s m (F.fchCtrl_train c).addr true) (hc : c < 64)
    (hbusy : channelBusy s c = false) (htrain : flag s (F.fchCtrl_train c) = false)
    (hP : P (settle (channelOut (channelShut c (drained c (cleared s))) c))) : Completes (.channelDisable m c) s P := by
  let u := drained c (cleared s)
  have hidle : forEach (diesOfChannel c) u drainDie = u := forEach_fixed fun d hd => drainDie_idle (idle_of_channelBusy (s := u) hbusy d hd)
  have hnotrain : flag (channelOut (channelShut c u) c) (F.fchCtrl_train c) = false := by
    simp only [flag, getF_held hc u (ctrl_channelReg hc) (stat_ne_ctrl c).symm]
    exact (flag_train_drained c (cleared s)).trans htrain
  have hrest : channelRest u c = channelOut (channelShut c u) c :=
    channelRest_drained hbusy (getF_state_drained c (cleared s)) (flag_enable_drained c (cleared s)) hnotrain
  exact completes_reached (f := fun s => channelRest (forEach (diesOfChannel c) (drained c s) drainDie) c) rfl h
    ((congrArg (fun v => channelRest v c) hidle).trans hrest) hP

theorem getF_state_disabled {c : Nat} (hc : c < 64) (s : State) : getF (settle (channelOut (channelShut c s) c)) (F.fchStat_state c) = 5 := by
  rw [getF_settle _ _ (stat_unsettled hc), getF_state_held hc]

theorem flag_enable_disabled {c : Nat} (hc : c < 64) (s : State) :
    flag (settle (channelOut (channelShut c (drained c s)) c)) (F.fchCtrl_enable c) = false := by
  rw [flag_settle _ (f := F.fchCtrl_enable c) (ctrl_unsettled hc)]
  simp only [flag, getF_held hc (drained c s) (f := F.fchCtrl_enable c) (ctrl_channelReg hc) (stat_ne_ctrl c).symm]
  exact flag_enable_drained c s

/-- A channel none of whose dies is present goes out of service, and nothing else changes (R210). -/
theorem disable_absent {m c : Nat} {s : State} (h : Reaches s m (F.fchCtrl_train c).addr true) (hc : c < 64)
    (habs : ∀ d ∈ diesOfChannel c, diePresent s d = false) (hbusy : channelBusy s c = false) (htrain : flag s (F.fchCtrl_train c) = false) :
    Completes (.channelDisable m c) s fun t => getF t (F.fchStat_state c) = 5 ∧ flag t (F.fchCtrl_enable c) = false ∧ (padsOf t c).wpN = false ∧
      Only s t [.pins] [(F.fchStat_state c).addr, (F.fchCtrl_enable c).addr] := by
  let u := drained c (cleared s)
  have honly : Only (cleared s) (channelShut c u) [.pins] [(F.fchStat_state c).addr, (F.fchCtrl_enable c).addr] :=
    only_mono (only_trans (only_drained c (cleared s)) (only_channelShut c u)) (by simp) (by simp)
  have hnone : channelOut (channelShut c u) c = channelShut c u := channelOut_absent fun d hd => by
    rw [← habs d hd]
    refine diePresent_of_only (mem_diesOfChannel_lt hc hd) honly fun hm => ?_
    simp only [F.fchDieCfg_present, F.fchStat_state, F.fchCtrl_enable, List.mem_cons, List.not_mem_nil, or_false, dieChannel, diePos] at hm
    omega
  refine completes_disable h hc hbusy htrain ⟨getF_state_disabled hc _, flag_enable_disabled hc _, ?_, ?_⟩
  · rw [padsOf_settle, hnone]
    change (padsOf (protectPads u c) c).wpN = false
    rw [protectPads, padsOf_setPads_same]
  · rw [hnone]
    exact only_settle (only_cleared honly)

/-- The dies of a channel go out of service with it (R210). -/
theorem disable_dies {m c d : Nat} {s : State} (h : Reaches s m (F.fchCtrl_train c).addr true) (hc : c < 64) (hbusy : channelBusy s c = false)
    (htrain : flag s (F.fchCtrl_train c) = false) (hd : d ∈ diesOfChannel c) :
    Completes (.channelDisable m c) s fun t => getF t (F.fchStat_state c) = 5 ∧ flag t (F.fchCtrl_enable c) = false ∧ dieInService t d = false := by
  refine completes_disable h hc hbusy htrain ⟨getF_state_disabled hc _, flag_enable_disabled hc _, ?_⟩
  rw [← channelOut_out (s := channelShut c (drained c (cleared s))) hc hd]
  exact dieInService_of_cfg fun f hf => getF_settle _ f (hf ▸ unsettled_of_flash (cfg_flash (mem_diesOfChannel_lt hc hd)))

theorem only_rch (s : State) (x : RchState) : Only s { s with rch := x } [.rch] [] := by
  refine ⟨fun p hp => ?_, fun _ _ _ => rfl⟩
  cases p
  case rch => exact absurd (List.mem_singleton.2 rfl) hp
  case bay => exact ⟨rfl, rfl, fun _ => rfl⟩
  all_goals rfl

/-- A trim set is replaced by what is written, and no other (R233, R243). -/
theorem trimDataWrite_replaces {m : Nat} {v : Word} {tr : Tier} {s : State} (h : Reaches s m 0x1001400028 true)
    (htier : tierOf (getF s F.rchTrimIdx_tier) = some tr) :
    Completes (.trimDataWrite m v) s fun t =>
      spGet 0#64 t.rch.trims (trimKey (getF s F.rchTrimIdx_die) tr (getF s F.rchTrimIdx_bin)) =
        (if getF s F.rchTrack_trimLimit = 0 then 0 else v &&& fieldMask 47 0) ∧
      (trimKey (getF s F.rchTrimIdx_die) tr (getF s F.rchTrimIdx_bin) ∉ t.rch.trimBad) ∧
      (∀ k, k ≠ trimKey (getF s F.rchTrimIdx_die) tr (getF s F.rchTrimIdx_bin) → spGet 0#64 t.rch.trims k = spGet 0#64 s.rch.trims k) ∧
      Only s t [.rch] [] := by
  let k := trimKey (getF s F.rchTrimIdx_die) tr (getF s F.rchTrimIdx_bin)
  have htier' : tierOf (getF (cleared s) F.rchTrimIdx_tier) = some tr := htier
  have hreach : Reaches (cleared s) m 0x1001400028 true := h
  have hx : onTrimDataWrite m v (cleared s) = putTrims (cleared s) k (v &&& fieldMask 47 0) := by
    simp only [onTrimDataWrite, rowGate_reached hreach, htier']
    rfl
  refine completes_run (f := onTrimDataWrite m v) rfl h.1 hx ⟨?_, ?_, fun j hj => ?_, only_settle (only_cleared (only_rch _ _))⟩
  · rw [settle_rch]
    exact spGet_set_same _ _ _ _
  · rw [settle_rch]
    exact fun hm => Bool.false_ne_true ((dropAll_contains _ _).symm.trans (List.contains_iff_mem.2 hm))
  · rw [settle_rch]
    exact spGet_set_ne _ _ _ _ hj

/-- A request to write a record waits in the update queue. -/
def updateQueued (i : Nat) (bs : List Byte) (s : State) : State :=
  { s with mhm := { s.mhm with updateQ := s.mhm.updateQ ++ [.write i (recordOfBytes bs)] } }

/-- The check byte of a record is none of the bytes it is computed of (R276). -/
theorem brtBytes_chk (r : BrtRecord) (x : Byte) : brtBytes { r with chk := x } = brtBytes r := by
  obtain ⟨_, _, _, _, _, _, _, _, _, _, _, _, _⟩ := r
  unfold brtBytes
  congr 1

theorem sealBrt_sealBrt (r : BrtRecord) : sealBrt (sealBrt r) = sealBrt r := by
  have hbytes := brtBytes_chk r (crc8 (brtBytes r))
  unfold sealBrt
  rw [hbytes]

theorem sealBrt_recordOfBytes (bs : List Byte) : sealBrt (recordOfBytes bs) = recordOfBytes bs := by
  unfold recordOfBytes
  exact sealBrt_sealBrt _

/-- A record is written and no longer held. -/
def recordWritten (i : Nat) (bs : List Byte) (s : State) : State :=
  { s with mhm := { s.mhm with brt := spSet (freshBrt i) s.mhm.brt i (recordOfBytes bs), brtHeld := dropAll s.mhm.brtHeld i, updateQ := [] } }

/-- The only request that waits is applied (R278). -/
theorem applyUpdates_updateQueued {i : Nat} {bs : List Byte} {s : State} (h : s.mhm.updateQ = []) :
    applyUpdates (updateQueued i bs s) = recordWritten i bs s := by
  simp only [applyUpdates, updateQueued, h, List.nil_append, forEach, List.foldl_cons, List.foldl_nil, applyUpdate, setBrt, sealBrt_recordOfBytes,
    recordWritten]

/-- A core's record is written whole, with its CHK (R276, R278). -/
theorem brtUpdateRequest_writes {m i : Nat} {bs : List Byte} {s : State} (h : Reaches s m 0x1001500000 true) (hm : isMc m = true) (hi : i ≤ lastRecord)
    (hq : s.mhm.updateQ = []) :
    Completes (.brtUpdateRequest m i bs) s fun t => recOf t i = recordOfBytes bs ∧ t.mhm.brtHeld = dropAll s.mhm.brtHeld i ∧ t.mhm.updateQ = [] ∧
      (∀ j, j ≠ i → recOf t j = recOf s j) ∧ Only s t [.mhm] [] := by
  refine completes_reached (f := fun s => if !isMc m then refuse s m 0x1001500000
    else if 256 ≤ s.mhm.updateQ.length then emit s (.note "update queue full" i)
    else if lastRecord < i then s else applyUpdates (updateQueued i bs s)) rfl h (x := applyUpdates (updateQueued i bs (cleared s))) ?_ ?_
  · have hlen : ¬ 256 ≤ (cleared s).mhm.updateQ.length := by
      change ¬ 256 ≤ s.mhm.updateQ.length
      simp [hq]
    simp only [hm, Bool.not_true, Bool.false_eq_true, if_false, if_neg hlen, if_neg (Nat.not_lt.2 hi)]
  · have hqc : (cleared s).mhm.updateQ = [] := hq
    rw [applyUpdates_updateQueued hqc]
    refine ⟨?_, ?_, ?_, fun j hj => ?_, only_settle (only_cleared (only_changed _))⟩
    · simp only [recOf, settle_mhm, recordWritten, spGet_set_same]
    · rw [settle_mhm]
      rfl
    · rw [settle_mhm]
      rfl
    · simp only [recOf, settle_mhm, recordWritten]
      exact spGet_set_ne _ _ _ _ hj

/-- Only a core writes records (R278). -/
theorem brtUpdateRequest_refused {m i : Nat} {bs : List Byte} {s : State} (h : Reaches s m 0x1001500000 true) (hm : isMc m = false) (hhost : m ≠ idHostPf) :
    Completes (.brtUpdateRequest m i bs) s fun t => [Output.errorResponse m 0x1001500000] <+: t.out ∧ Only s t [] [] :=
  completes_rowRefused hhost rfl h (if_pos (by simp [hm]))

/-- Settles O44: each clause is one command from a state that meets its conditions. -/
theorem channels : Obligations.Channels := by
  unfold Obligations.Channels
  refine ⟨?_, ?_, ?_, ?_, ?_, ?_, ?_, ?_, ?_, ?_, ?_⟩
  · exact fun _ _ _ _ _ h hc hfirst hk hbusy hvalid => descValidate_valid h hc hfirst hk hbusy hvalid
  · exact fun _ _ _ _ _ h hc hfirst hk hbusy hbad => descValidate_bad h hc hfirst hk hbusy hbad
  · exact fun _ _ _ _ _ h hc hfirst hk hbusy => descValidate_inUse h hc hfirst hk hbusy
  · exact fun _ _ _ _ h hc hbusy hbay hen hr hlt => train_succeeds h hc hbusy hbay hen hr hlt
  · exact fun _ _ _ _ h hc habs hbusy hbay hen hr => train_fails h hc habs hbusy hbay hen hr
  · exact fun _ _ _ _ h hc hbusy => train_waits h hc hbusy
  · exact fun _ _ _ h hc habs hbusy htrain => disable_absent h hc habs hbusy htrain
  · exact fun _ _ _ _ h hc hbusy htrain hd => disable_dies h hc hbusy htrain hd
  · exact fun _ _ _ _ h htier => trimDataWrite_replaces h htier
  · exact fun _ _ _ _ h hm hi hq => brtUpdateRequest_writes h hm hi hq
  · exact fun _ _ _ _ h hm hhost => brtUpdateRequest_refused h hm hhost

end Sys2Proof.Machine
end

section
/-!
SUPPORT. A step of a bay: the parts and registers it may change, and that the other bays are as they were.
-/

namespace Sys2Proof.Machine

open Sys2Proof

/-- A step of bay `b`: it changes the parts `ps` and the registers at the addresses of `R`, and no other bay. -/
structure BayWork (b : Nat) (ps : List Part) (R : Nat → Prop) (s t : State) : Prop where
  parts : ∀ p : Part, p ∉ ps → p.same s t
  regs : ∀ f : Fld, ¬ R f.addr → f.addr ∉ settledAddrs → getF t f = getF s f
  others : ∀ x, x ≠ b → bayOf t x = bayOf s x

section
variable {b : Nat} {ps : List Part} {R : Nat → Prop} {s t u : State}

theorem bayWork_refl (s : State) : BayWork b ps R s s := ⟨fun p _ => same_refl p s, fun _ _ _ => rfl, fun _ _ => rfl⟩

theorem BayWork.trans (h : BayWork b ps R s t) (k : BayWork b ps R t u) : BayWork b ps R s u :=
  ⟨fun p hp => same_trans (h.parts p hp) (k.parts p hp), fun f hR hs => (k.regs f hR hs).trans (h.regs f hR hs),
    fun x hx => (k.others x hx).trans (h.others x hx)⟩

theorem BayWork.mono {qs : List Part} (h : BayWork b ps R s t) (hps : ps ⊆ qs) : BayWork b qs R s t :=
  ⟨fun p hp => h.parts p fun hm => hp (hps hm), h.regs, h.others⟩

/-- A step with a frame of its own, that changes no other bay, is a step of the bay. -/
theorem bayWork_of_only {qs : List Part} {as : List Nat} (h : Only s t qs as) (hps : qs ⊆ ps) (hR : ∀ a ∈ as, R a)
    (hb : ∀ x, x ≠ b → bayOf t x = bayOf s x) : BayWork b ps R s t :=
  ⟨fun p hp => h.1 p fun hm => hp (hps hm), fun f hf hs => h.2 f (fun hm => hf (hR _ hm)) hs, hb⟩

theorem bayWork_pads (h : PadsChanged s t) (hps : .pins ∈ ps) : BayWork b ps R s t :=
  bayWork_of_only h.only (by simpa using hps) (by simp) fun x _ => by simp only [bayOf, h.bay]

theorem bayWork_setF (s : State) (f : Fld) (n : Nat) (h : R f.addr) : BayWork b ps R s (setF s f n) :=
  bayWork_of_only (only_setF s f n) (by simp) (by simpa using h) fun _ _ => rfl

theorem bayWork_forEach {α : Type} {f : State → α → State} {xs : List α} (hf : ∀ s, ∀ x ∈ xs, BayWork b ps R s (f s x)) (s : State) :
    BayWork b ps R s (forEach xs s f) :=
  forEach_invariant (P := BayWork b ps R s) (fun u x hx hu => hu.trans (hf u x hx)) (bayWork_refl s)

/-- What a command does to the other bays, after the derived state has followed. -/
theorem BayWork.others_settled (h : BayWork b ps R (cleared s) t) :
    ∀ x, x ≠ b → { bayOf (settle t) x with emptySince := 0 } = { bayOf s x with emptySince := 0 } := fun x hx => by
  rw [settle_bayOf, h.others x hx]
  rfl

theorem BayWork.parts_settled (h : BayWork b ps R (cleared s) t) : OnlyParts s (settle t) ps := fun p hp =>
  same_trans ((only_out s []).1 p (by simp)) (same_trans (h.parts p hp) (same_settle p t))

theorem BayWork.regs_settled (h : BayWork b ps R (cleared s) t) : ∀ f : Fld, ¬ R f.addr → f.addr ∉ settledAddrs → getF (settle t) f = getF s f :=
  fun f hR hs => (getF_settle t f hs).trans (h.regs f hR hs)

end

/-- The frame of an update of these parts. -/
theorem only_bayStep (s : State) {ps : List Part} {k : Clocks} {y : BayState} {q : SchState} {m : MhmState} {g : Pins} {o : List Output}
    (hk : .clk ∉ ps → k = s.clk := by simp) (hy : .bay ∉ ps → y = s.bay := by simp) (hq : .sch ∉ ps → q = s.sch := by simp)
    (hm : .mhm ∉ ps → m = s.mhm := by simp) (hg : .pins ∉ ps → g = s.pins := by simp) :
    Only s { s with clk := k, bay := y, sch := q, mhm := m, pins := g, out := o } ps [] := by
  refine ⟨fun p hp => ?_, fun _ _ _ => rfl⟩
  cases p
  case clk => exact hk hp
  case bay =>
    obtain rfl := hy hp
    exact ⟨rfl, rfl, fun _ => rfl⟩
  case sch => exact hq hp
  case mhm => exact hm hp
  case pins =>
    obtain rfl := hg hp
    rfl
  all_goals rfl

theorem bayOf_congr {s t : State} (h : t.bay.bays = s.bay.bays) (b : Nat) : bayOf t b = bayOf s b := by simp only [bayOf, h]

@[simp] theorem bayOf_putBay_same (s : State) (b : Nat) (x : Bay) : bayOf (putBay s b x) b = x := spGet_set_same _ _ _ _

theorem bayOf_putBay_ne (s : State) {b b' : Nat} (x : Bay) (h : b' ≠ b) : bayOf (putBay s b x) b' = bayOf s b' := spGet_set_ne _ _ _ _ h

/-- A field of a bay that is not the moment its queues were last busy is as the command left it. -/
theorem settle_bayField {α : Type} (p : Bay → α) (hp : ∀ x : Bay, p { x with emptySince := 0 } = p x) (s : State) (b : Nat) :
    p (bayOf (settle s) b) = p (bayOf s b) := by
  rw [← hp, settle_bayOf, hp]

section
variable {b : Nat} {ps : List Part} {R : Nat → Prop}

theorem bayWork_putBay (s : State) (x : Bay) (hps : .bay ∈ ps) : BayWork b ps R s (putBay s b x) :=
  bayWork_of_only (only_bayStep s (ps := [.bay])) (by simpa using hps) (by simp) fun _ hx => bayOf_putBay_ne s x hx

theorem bayWork_advance (s : State) (n : Nat) (hps : .clk ∈ ps) : BayWork b ps R s (advance s n) :=
  bayWork_of_only (only_bayStep s (ps := [.clk])) (by simpa using hps) (by simp) fun _ _ => rfl

theorem bayWork_driveBay (s : State) (c : Nat) (on : Bool) (hps : .pins ∈ ps) : BayWork b ps R s (driveBay s c on) :=
  bayWork_of_only (only_bayStep s (ps := [.pins])) (by simpa using hps) (by simp) fun _ _ => rfl

end

theorem us_advanceTo (s : State) (n : Nat) : (advanceTo s n).clk.us = max s.clk.us n := by
  simp only [advanceTo, advance]
  omega

/-- BAY_PWR_EN of a bay reads as it is driven. -/
theorem bitAt_driveBay (s : State) (b : Nat) (on : Bool) : bitAt (driveBay s b on).pins.bayPwrEn b = on := by
  simp only [driveBay, drive, emit]
  split
  · next h => simpa using h
  · next h =>
    have hpos : 0 < 2 ^ b := Nat.two_pow_pos b
    cases on
    · have hbit : s.pins.bayPwrEn / 2 ^ b % 2 = 1 := by simpa [bitAt] using h
      have hsub : (s.pins.bayPwrEn - 2 ^ b) / 2 ^ b = s.pins.bayPwrEn / 2 ^ b - 1 := by
        have := Nat.sub_mul_div s.pins.bayPwrEn (2 ^ b) 1
        rwa [Nat.mul_one] at this
      simp only [bitAt, Bool.false_eq_true, if_false, hsub, beq_eq_false_iff_ne]
      omega
    · have hbit : s.pins.bayPwrEn / 2 ^ b % 2 ≠ 1 := by simpa [bitAt] using h
      simp only [bitAt, if_true, Nat.add_div_right _ hpos, beq_iff_eq]
      omega

theorem mem_bayChannels {b c : Nat} : c ∈ bayChannels b ↔ c / 16 = b := by
  simp only [bayChannels, List.mem_map, List.mem_range]
  constructor
  · rintro ⟨i, hi, rfl⟩
    omega
  · rintro rfl
    exact ⟨c % 16, Nat.mod_lt _ (by decide), by omega⟩

/-- The clamps take the pins of a bay's channels, and nothing beside the outputs changes with them. -/
theorem padsOf_clamped {b c : Nat} (h : c ∈ bayChannels b) (s : State) : (padsOf (forEach (bayChannels b) s clampPads) c).drive = .clamped := by
  have := padsOf_forEach_setPads h ⟨.clamped, 15, false, false⟩ s
  exact congrArg ChanPads.drive this

theorem padsOf_unpowered {b c : Nat} (h : c ∈ bayChannels b) (s : State) : padsOf (forEach (bayChannels b) s unpowerPads) c = noPads :=
  padsOf_forEach_setPads h noPads s

/-- BAY_PWR_EN rises: the clamps hold the pins of the bay's channels (R192, R197). -/
def risen (s : State) (b : Nat) : State :=
  forEach (bayChannels b) (driveBay { s with bay := { s.bay with lastRise := some s.clk.us } } b true) clampPads

theorem bayWork_cutBay {b : Nat} {ps : List Part} {R : Nat → Prop} (s : State) (hps : .pins ∈ ps) : BayWork b ps R s (cutBay s b) :=
  ((bayWork_pads (padsChanged_forEach padsChanged_clampPads _ s) hps).trans (bayWork_driveBay _ b false hps)).trans
    (bayWork_pads (padsChanged_forEach padsChanged_unpowerPads _ _) hps)

theorem bayPwrEn_cutBay (s : State) (b : Nat) : bitAt (cutBay s b).pins.bayPwrEn b = false := by
  rw [cutBay, (padsChanged_forEach padsChanged_unpowerPads _ _).bayPwrEn]
  exact bitAt_driveBay _ b false

theorem bay_driveBay (s : State) (b : Nat) (on : Bool) : (driveBay s b on).bay = s.bay := rfl

theorem bay_cutBay (s : State) (b : Nat) : (cutBay s b).bay = s.bay := by
  rw [cutBay, (padsChanged_forEach padsChanged_unpowerPads _ _).bay, bay_driveBay]
  exact (padsChanged_forEach padsChanged_clampPads _ s).bay

theorem clk_driveBay (s : State) (b : Nat) (on : Bool) : (driveBay s b on).clk = s.clk := rfl

theorem clk_cutBay (s : State) (b : Nat) : (cutBay s b).clk = s.clk := by
  rw [cutBay, (padsChanged_forEach padsChanged_unpowerPads _ _).clk, clk_driveBay]
  exact (padsChanged_forEach padsChanged_clampPads _ s).clk

theorem padsOf_cutBay {b c : Nat} (h : c ∈ bayChannels b) (s : State) : (padsOf (cutBay s b) c).drive = .unpowered :=
  congrArg ChanPads.drive (padsOf_unpowered h _)

theorem mem_out_cutBay (s : State) (b : Nat) : Output.pin (.bayPwrEn b) false ∈ (cutBay s b).out :=
  (padsChanged_forEach padsChanged_unpowerPads _ _).out_prefix.subset (by simp [driveBay, drive, emit])

end Sys2Proof.Machine
end

section
/-!
PROOFS. O43: the power-up of a bay to BAY_PG (R192 to R194, R197).
-/

namespace Sys2Proof.Machine

open Sys2Proof

/-- The moment BAY_PWR_EN may rise: 5 ms after the last rise of a bay (R192). -/
def riseAt (s : State) : Nat := match s.bay.lastRise with | some r => max s.clk.us (r + 5000) | none => s.clk.us

/-- Time passes until then. -/
def spaced (s : State) : State := match s.bay.lastRise with | some r => advanceTo s (r + 5000) | none => s

/-- The wait of a bay for BAY_PG begins. -/
def waitsPg (s : State) (b : Nat) : State :=
  putBay (spaced s) b { bayOf (spaced s) b with phase := .waitPg, since := (spaced s).clk.us, pg := false, again := false }

/-- A bay that waits is powered: BAY_PWR_EN rises. -/
def poweredUp (s : State) (b : Nat) : State := risen (waitsPg s b) b

theorem us_spaced (s : State) : (spaced s).clk.us = riseAt s := by
  unfold spaced riseAt
  cases s.bay.lastRise with
  | none => rfl
  | some r => exact us_advanceTo s _

theorem bayWork_spaced {b : Nat} {ps : List Part} {R : Nat → Prop} (s : State) (h : .clk ∈ ps) : BayWork b ps R s (spaced s) := by
  unfold spaced
  cases s.bay.lastRise with
  | none => exact bayWork_refl s
  | some r => exact bayWork_advance s _ h

theorem out_spaced (s : State) : (spaced s).out = s.out := by
  unfold spaced
  cases s.bay.lastRise <;> rfl

theorem bayWork_risen {b : Nat} {ps : List Part} {R : Nat → Prop} (s : State) (hb : .bay ∈ ps) (hp : .pins ∈ ps) : BayWork b ps R s (risen s b) := by
  have hrise : BayWork b ps R s { s with bay := { s.bay with lastRise := some s.clk.us } } :=
    bayWork_of_only (only_bayState s _) (by simpa using hb) (by simp) fun _ _ => rfl
  exact (hrise.trans (bayWork_driveBay _ b true hp)).trans (bayWork_pads (padsChanged_forEach padsChanged_clampPads _ _) hp)

theorem bayWork_poweredUp (s : State) (b : Nat) (R : Nat → Prop) : BayWork b [.clk, .bay, .pins] R s (poweredUp s b) :=
  ((bayWork_spaced s (by simp)).trans (bayWork_putBay _ _ (by simp))).trans (bayWork_risen _ (by simp) (by simp))

/-- What the rise of BAY_PWR_EN leaves. -/
structure Rises (s t : State) (b : Nat) : Prop where
  bays : t.bay.bays = s.bay.bays
  lastRise : t.bay.lastRise = some s.clk.us
  clk : t.clk = s.clk
  driven : bitAt t.pins.bayPwrEn b = true
  clamped : ∀ c ∈ bayChannels b, (padsOf t c).drive = .clamped
  first : s.out = [] → [Output.pin (.bayPwrEn b) true] <+: t.out

theorem rises_risen (s : State) (b : Nat) : Rises s (risen s b) b := by
  let v := driveBay { s with bay := { s.bay with lastRise := some s.clk.us } } b true
  have hpads : PadsChanged v (risen s b) := padsChanged_forEach padsChanged_clampPads _ v
  have hbay : (risen s b).bay = { s.bay with lastRise := some s.clk.us } := hpads.bay.trans (bay_driveBay _ b true)
  refine ⟨by rw [hbay], by rw [hbay], hpads.clk, ?_, fun c hc => padsOf_clamped hc _, fun h => ?_⟩
  · rw [hpads.bayPwrEn]
    exact bitAt_driveBay _ b true
  · have hout : v.out = [Output.pin (.bayPwrEn b) true] := by
      change s.out ++ _ = _
      rw [h, List.nil_append]
    exact hout ▸ hpads.out_prefix

/-- A bay has been powered: the clauses of R192 and R193 for it. -/
structure PowersUp (s t : State) (b : Nat) : Prop where
  phase : (bayOf t b).phase = .waitPg
  since : (bayOf t b).since = t.clk.us
  again : (bayOf t b).again = false
  lastRise : t.bay.lastRise = some t.clk.us
  driven : bitAt t.pins.bayPwrEn b = true
  first : [Output.pin (.bayPwrEn b) true] <+: t.out
  clamped : ∀ c ∈ bayChannels b, (padsOf t c).drive = .clamped
  us : t.clk.us = riseAt s
  others : ∀ x, x ≠ b → { bayOf t x with emptySince := 0 } = { bayOf s x with emptySince := 0 }
  only : Only s t [.clk, .bay, .pins] []

/-- The bay's record once it is powered. -/
theorem bayOf_poweredUp (s : State) (b : Nat) :
    bayOf (poweredUp s b) b = { bayOf (spaced s) b with phase := .waitPg, since := (spaced s).clk.us, pg := false, again := false } := by
  rw [poweredUp, bayOf_congr (rises_risen (waitsPg s b) b).bays, waitsPg, bayOf_putBay_same]

/-- The clock once a bay is powered. -/
theorem clk_poweredUp (s : State) (b : Nat) : (poweredUp s b).clk = (spaced s).clk := (rises_risen _ b).clk

theorem lastRise_poweredUp (s : State) (b : Nat) : (poweredUp s b).bay.lastRise = some (spaced s).clk.us := by
  rw [poweredUp, (rises_risen (waitsPg s b) b).lastRise]
  rfl

/-- What is left after a bay is powered from a state that a request alone parts from the command's. -/
theorem powersUp_poweredUp {s v : State} {b : Nat} (hv : BayWork b [.clk, .bay, .pins] (fun _ => False) (cleared s) v) (hout : v.out = [])
    (hus : riseAt v = riseAt s) : PowersUp s (settle (poweredUp v b)) b := by
  have hwork := hv.trans (bayWork_poweredUp v b _)
  have hrise : Rises (waitsPg v b) (poweredUp v b) b := rises_risen (waitsPg v b) b
  have hclk : (settle (poweredUp v b)).clk.us = (spaced v).clk.us := by rw [settle_clk, clk_poweredUp]
  refine ⟨?_, ?_, ?_, ?_, ?_, ?_, ?_, ?_, hwork.others_settled, hwork.parts_settled, fun f _ hs => hwork.regs_settled f id hs⟩
  · rw [settle_bayField Bay.phase (fun _ => rfl), bayOf_poweredUp]
  · rw [settle_bayField Bay.since (fun _ => rfl), bayOf_poweredUp, hclk]
  · rw [settle_bayField Bay.again (fun _ => rfl), bayOf_poweredUp]
  · obtain ⟨hlast, -, -⟩ : Part.same .bay (poweredUp v b) (settle (poweredUp v b)) := same_settle .bay _
    rw [hlast, hclk, lastRise_poweredUp]
  · rw [bayPwrEn_settle]
    exact hrise.driven
  · exact (hrise.first ((out_spaced v).trans hout)).trans (out_prefix_settle _)
  · exact fun c hc => (congrArg ChanPads.drive (padsOf_settle _ c)).trans (hrise.clamped c hc)
  · rw [hclk, us_spaced, hus]

/-- The lowest bay that waits is found. -/
theorem lowest_requested {s : State} {b : Nat} (hb : b < 4) (hreq : (bayOf s b).phase = .requested)
    (hlow : ∀ x ∈ List.range 4, x < b → (bayOf s x).phase ≠ .requested) :
    (List.range 4).find? (fun b => (bayOf s b).phase == .requested) = some b := by
  rw [List.find?_range_eq_some]
  exact ⟨by simp [hreq], List.mem_range.2 hb, fun j hj => by simpa using hlow j (List.mem_range.2 (hj.trans hb)) hj⟩

/-- The PMU takes up the lowest bay that waits. -/
theorem onBayPowerUpRequest_eq {s v : State} {b x : Nat} {fw : Bool} (hdata : domainOn s .data = true) (hpmu : pmuState s < 2)
    (hv : (if fw && decide (x < 4) then requestBay s x else s) = v)
    (hfind : (List.range 4).find? (fun b => (bayOf v b).phase == .requested) = some b) : onBayPowerUpRequest x fw s = poweredUp v b := by
  have hgate : ¬ ((!domainOn s .data || decide (2 ≤ pmuState s)) = true) := by simp [hdata, hpmu]
  rw [onBayPowerUpRequest, if_neg hgate]
  subst hv
  extract_lets v
  rw [hfind]
  rfl

/-- A bay asked for is powered, when no lower one waits (R192). -/
theorem bayPowerUpRequest_asked {b : Nat} {s : State} (h : Works s) (hpmu : pmuState s < 2) (hb : b < 4) (hen : bayEnabled s b = true)
    (hoff : (bayOf s b).phase = .off ∨ (bayOf s b).phase = .failed) (hlow : ∀ x ∈ List.range 4, x < b → (bayOf s x).phase ≠ .requested) :
    Completes (.bayPowerUpRequest b true) s fun t => PowersUp s t b := by
  obtain ⟨hpow, hdata⟩ := h
  let v := putBay (cleared s) b { bayOf (cleared s) b with phase := .requested }
  have hask : requestBay (cleared s) b = v := by
    have hen' : bayEnabled (cleared s) b = true := hen
    have hoff' : (bayOf (cleared s) b).phase = .off ∨ (bayOf (cleared s) b).phase = .failed := hoff
    simp only [requestBay, hen', Bool.not_true, Bool.false_eq_true, if_false]
    rcases hoff' with hoff' | hoff' <;> simp only [hoff'] <;> rfl
  have hfind := lowest_requested (s := v) hb (by rw [bayOf_putBay_same]) fun x hx hlt => by
    rw [bayOf_putBay_ne _ _ (Nat.ne_of_lt hlt)]
    exact hlow x hx hlt
  have hasked : (if true && decide (b < 4) then requestBay (cleared s) b else cleared s) = v := by
    rw [if_pos (by simpa using hb), hask]
  exact completes_run (f := onBayPowerUpRequest b true) rfl hpow (onBayPowerUpRequest_eq hdata hpmu hasked hfind)
    (powersUp_poweredUp (bayWork_putBay _ _ (by simp)) rfl rfl)

/-- The lowest bay that waits is powered (R193). -/
theorem bayPowerUpRequest_waiting {b x : Nat} {s : State} (h : Works s) (hpmu : pmuState s < 2) (hb : b < 4)
    (hreq : (bayOf s b).phase = .requested) (hlow : ∀ x ∈ List.range 4, x < b → (bayOf s x).phase ≠ .requested) :
    Completes (.bayPowerUpRequest x false) s fun t => PowersUp s t b :=
  completes_run (f := onBayPowerUpRequest x false) rfl h.1
    (onBayPowerUpRequest_eq (s := cleared s) h.2 hpmu rfl (lowest_requested (s := cleared s) hb hreq hlow))
    (powersUp_poweredUp (bayWork_refl _) rfl rfl)

end Sys2Proof.Machine
end

section
/-!
PROOFS. O43: BAY_PG has risen (R192 steps 2 and 3, R588).
-/

namespace Sys2Proof.Machine

open Sys2Proof

/-- A table that drops or changes entries of other keys holds the same under a key. -/
theorem spFind_filterMap {α : Type} {g : Nat × α → Option (Nat × α)} {a : Nat} (hkey : ∀ kv x, g kv = some x → x.1 = kv.1)
    (ha : ∀ kv, kv.1 = a → g kv = some kv) (m : Sparse α) : spFind (m.filterMap g) a = spFind m a := by
  induction m with
  | nil => rfl
  | cons kv m ih =>
    obtain ⟨k, w⟩ := kv
    by_cases hk : a = k
    · subst hk
      rw [List.filterMap_cons_some (ha (a, w) rfl), spFind, spFind, if_pos rfl, if_pos rfl]
    · rw [spFind, if_neg hk, ← ih]
      cases hg : g (k, w) with
      | none => rw [List.filterMap_cons_none hg]
      | some x =>
        obtain ⟨j, v⟩ := x
        have hj : j = k := hkey (k, w) (j, v) hg
        subst hj
        rw [List.filterMap_cons_some hg, spFind, if_neg hk]

/-- A reset of some registers leaves the others. -/
theorem spFind_resetPick {sel : Nat → Bool} {pick : FieldDef → Bool} {a : Nat} (h : sel a = false) (regs : Sparse Word) :
    spFind (resetPick regs sel pick) a = spFind regs a := by
  refine spFind_filterMap (fun kv x hx => ?_) (fun kv hkv => ?_) regs
  · dsimp only at hx
    by_cases hsel : sel kv.1 = true
    · rw [if_pos hsel] at hx
      cases hreg : regAt kv.1 with
      | none =>
        rw [hreg] at hx
        rw [← Option.some.inj hx]
      | some d =>
        rw [hreg] at hx
        dsimp only at hx
        rw [← Option.some.inj (Option.ite_none_left_eq_some.1 hx).2]
    · rw [if_neg hsel] at hx
      rw [← Option.some.inj hx]
  · simp only [hkv, h, Bool.false_eq_true, if_false]

theorem getF_bayRegsLost (s : State) {b : Nat} {f : Fld} (h : inBayWindow b f.addr = false) : getF (bayRegsLost s b) f = getF s f := by
  simp only [getF, regVal, spGet, bayRegsLost, spFind_resetPick h]

/-- The registers of a bay. -/
def BayReg (b a : Nat) : Prop := inBayWindow b a = true

theorem bayWork_bayRegsLost {b : Nat} {ps : List Part} {R : Nat → Prop} (s : State) (hs : .sch ∈ ps) (hb : .bay ∈ ps) (hR : ∀ a, BayReg b a → R a) :
    BayWork b ps R s (bayRegsLost s b) := by
  refine ⟨fun p hp => ?_, fun f hf _ => getF_bayRegsLost s (Bool.eq_false_iff.2 fun hw => hf (hR _ hw)), fun x _ => bayOf_congr rfl x⟩
  cases p
  case sch => exact absurd hs hp
  case bay => exact absurd hb hp
  all_goals rfl

theorem bay_setF (s : State) (f : Fld) (n : Nat) : (setF s f n).bay = s.bay := rfl

theorem bay_raise (s : State) (trig inst m : Nat) (ws : List Nat) : (raise s trig inst m ws).bay = s.bay := by
  unfold raise
  split <;> rfl

theorem bay_raiseErr (s : State) (f : Fld) (trig inst m : Nat) (ws : State → List Nat) : (raiseErr s f trig inst m ws).bay = s.bay := by
  unfold raiseErr
  split
  · rfl
  · exact bay_raise _ _ _ _ _

theorem bay_validateDesc (s : State) (b k : Nat) : (validateDesc s b k).bay = s.bay := by
  unfold validateDesc
  split
  · exact bay_raiseErr _ _ _ _ _ _
  · split
    · exact bay_raiseErr _ _ _ _ _ _
    · rfl

/-- A profile's descriptors and writes change no bay's record. -/
theorem bay_applyBayProfile (s : State) (b : Nat) : (applyBayProfile s b).bay = s.bay := by
  unfold applyBayProfile
  rw [forEach_keeps State.bay _ fun u kv => ?_, forEach_keeps State.bay _ fun u x => ?_]
  · rw [writeDesc, bay_validateDesc]
    exact forEach_keeps State.bay _ (fun v i => bay_setF v _ _) _ u
  · unfold profileWrite
    split <;> rfl

theorem applyBayProfile_none {s : State} (hd : s.prf.descs = []) (hw : s.prf.fchWrites = []) (b : Nat) : applyBayProfile s b = s := by
  have hno : ((s.prf.descs.zipIdx.filter fun x => decide (x.2 < 8))) = [] := by rw [hd]; rfl
  unfold applyBayProfile
  rw [hno]
  extract_lets v
  change forEach (s.prf.fchWrites.filter _) s _ = s
  rw [hw]
  rfl

theorem bay_mbxInterrupts (s : State) (ms : List Nat) : (mbxInterrupts s ms).bay = s.bay :=
  forEach_keeps State.bay _ (fun u m => by unfold emitIf; split <;> rfl) ms s

theorem bayWork_mbxInterrupts {b : Nat} {ps : List Part} {R : Nat → Prop} (s : State) (ms : List Nat) : BayWork b ps R s (mbxInterrupts s ms) :=
  bayWork_forEach (fun u m _ => bayWork_of_only (only_emitIf _ u _) (by simp) (by simp) fun x _ =>
    bayOf_congr (by unfold emitIf; split <;> rfl) x) s

/-- The record of a bay that has power-good. -/
def pgRisen (s : State) (b : Nat) : State := putBay s b { bayOf s b with phase := .waitTpor, pg := true, since := s.clk.us }

/-- A bay's channels leave reset. -/
def channelsWake (s : State) (b : Nat) : State := forEach (List.range 16) s fun s c => setF s (F.fchStat_state (16 * b + c)) 1

theorem channelsWake_state {b c : Nat} (hc : c ∈ List.range 16) (s : State) : getF (channelsWake s b) (F.fchStat_state (16 * b + c)) = 1 := by
  have hset : ∀ u, getF (setF u (F.fchStat_state (16 * b + c)) 1) (F.fchStat_state (16 * b + c)) = 1 := fun u => by
    rw [getF_setF_same _ _ _ (by simp [F.fchStat_state]) (by simp [F.fchStat_state])]
    rfl
  refine forEach_establishes (f := fun s c => setF s (F.fchStat_state (16 * b + c)) 1) (I := fun _ => True)
    (P := fun u => getF u (F.fchStat_state (16 * b + c)) = 1) hc (fun _ _ _ _ => trivial) (fun u _ => hset u) (fun u x _ _ hu => ?_) trivial
  by_cases hx : c = x
  · subst hx
    exact hset u
  · have hne : (F.fchStat_state (16 * b + c)).addr ≠ (F.fchStat_state (16 * b + x)).addr := by
      simp only [F.fchStat_state]
      omega
    exact (getF_setF_addr u 1 hne).trans hu

theorem bay_channelsWake (s : State) (b : Nat) : (channelsWake s b).bay = s.bay :=
  forEach_keeps State.bay _ (fun v _ => bay_setF v _ _) _ s

theorem bayReg_channel {b c off : Nat} (hc : c < 16) (h : off < 0x10000) : BayReg b (0x1001000000 + off + 0x10000 * (16 * b + c)) := by
  simp only [BayReg, inBayWindow, decide_eq_true_eq]
  omega

theorem bayWork_channelsWake {b : Nat} {ps : List Part} {R : Nat → Prop} (s : State) (hR : ∀ a, BayReg b a → R a) : BayWork b ps R s (channelsWake s b) :=
  bayWork_forEach (fun u c hc => bayWork_setF u _ 1 (hR _ (bayReg_channel (off := 4) (List.mem_range.1 hc) (by decide)))) s

/-- What BAY_PG does to a bay that waits for it. -/
def pgTaken (s : State) (b : Nat) : State := channelsWake (mbxInterrupts (applyBayProfile (bayRegsLost (pgRisen s b) b) b) (bayCores b)) b

theorem onBayPgAssert_eq {s : State} {b : Nat} (h : (bayOf s b).phase = .waitPg) : onBayPgAssert b s = pgTaken s b := by
  have hphase : ¬ (bayOf s b).phase ≠ .waitPg := not_not.2 h
  rw [onBayPgAssert]
  extract_lets x
  rw [if_neg hphase]
  rfl

theorem bayOf_pgTaken (s : State) (b : Nat) : bayOf (pgTaken s b) b = { bayOf s b with phase := .waitTpor, pg := true, since := s.clk.us } := by
  have hbay : (pgTaken s b).bay.bays = (pgRisen s b).bay.bays := by
    rw [pgTaken, bay_channelsWake, bay_mbxInterrupts, bay_applyBayProfile]
    rfl
  rw [bayOf_congr hbay, pgRisen, bayOf_putBay_same]

/-- A bay that waited for BAY_PG has it, and its channels have left reset (R192). -/
structure HasPg (s t : State) (b : Nat) : Prop where
  phase : (bayOf t b).phase = .waitTpor
  pg : (bayOf t b).pg = true
  since : (bayOf t b).since = s.clk.us
  woken : ∀ c ∈ List.range 16, getF t (F.fchStat_state (16 * b + c)) = 1

theorem hasPg_pgTaken {s : State} {b : Nat} (hb : b < 4) : HasPg s (settle (pgTaken (cleared s) b)) b := by
  have hbay := bayOf_pgTaken (cleared s) b
  refine ⟨?_, ?_, ?_, fun c hc => ?_⟩
  · rw [settle_bayField Bay.phase (fun _ => rfl), hbay]
  · rw [settle_bayField Bay.pg (fun _ => rfl), hbay]
  · rw [settle_bayField Bay.since (fun _ => rfl), hbay]
    rfl
  · have hlt := List.mem_range.1 hc
    rw [getF_settle _ _ (stat_unsettled (by omega))]
    exact channelsWake_state hc _

/-- BAY_PG within its time (R192). -/
theorem bayPgAssert_wakes {b : Nat} {s : State} (h : Powered s) (hb : b < 4) (hphase : (bayOf s b).phase = .waitPg) :
    Completes (.bayPgAssert b) s fun t => HasPg s t b :=
  completes_run (f := onBayPgAssert b) rfl h (onBayPgAssert_eq (s := cleared s) hphase) (hasPg_pgTaken hb)

/-- With no profile for the bay, BAY_PG changes nothing but the bay (R192, R588). -/
theorem bayPgAssert_plain {b : Nat} {s : State} (h : Powered s) (hb : b < 4) (hphase : (bayOf s b).phase = .waitPg) (hdescs : s.prf.descs = [])
    (hwrites : s.prf.fchWrites = []) :
    Completes (.bayPgAssert b) s fun t => HasPg s t b ∧ OnlyParts s t [.bay, .sch] ∧
      (∀ x, x ≠ b → { bayOf t x with emptySince := 0 } = { bayOf s x with emptySince := 0 }) ∧
      (∀ f : Fld, inBayWindow b f.addr = false → f.addr ∉ settledAddrs → getF t f = getF s f) := by
  have hwork : BayWork b [.bay, .sch] (BayReg b) (cleared s) (pgTaken (cleared s) b) := by
    have hplain : applyBayProfile (bayRegsLost (pgRisen (cleared s) b) b) b = bayRegsLost (pgRisen (cleared s) b) b :=
      applyBayProfile_none (s := bayRegsLost (pgRisen (cleared s) b) b) hdescs hwrites b
    rw [pgTaken, hplain]
    exact (((bayWork_putBay _ _ (by simp)).trans (bayWork_bayRegsLost _ (by simp) (by simp) fun _ => id)).trans (bayWork_mbxInterrupts _ _)).trans
      (bayWork_channelsWake _ fun _ => id)
  exact completes_run (f := onBayPgAssert b) rfl h (onBayPgAssert_eq (s := cleared s) hphase)
    ⟨hasPg_pgTaken hb, hwork.parts_settled, hwork.others_settled, fun f hf hs => hwork.regs_settled f (Bool.eq_false_iff.1 hf) hs⟩

end Sys2Proof.Machine
end

section
/-!
PROOFS. O43: TPOR has elapsed: the targets are reset (R192 steps 4 and 5, R193).
-/

namespace Sys2Proof.Machine

open Sys2Proof

theorem padsChanged_resets (s : State) (b : Nat) :
    PadsChanged s (forEach (List.range 4) s fun s e => forEach (bayChannels b) s fun s c =>
      cycle (selectDie s (16 * c + 4 * e)) (16 * c + 4 * e) .resetTarget) :=
  padsChanged_forEach (fun u _ => padsChanged_forEach (fun v _ => padsChanged_selected v _ _) _ u) _ s

theorem resetTargets_eq (s : State) (b : Nat) (rs : List Nat) : ∃ v n, PadsChanged s v ∧ resetTargets s b rs = advance v n :=
  ⟨_, _, padsChanged_resets s b, rfl⟩

/-- A bay of which TPOR has elapsed begins its initialisation. -/
def tporElapsed (s : State) (b : Nat) : State :=
  putBay (advanceTo s ((bayOf s b).since + bayTpor s b)) b { bayOf s b with phase := .initialising }

/-- The timeouts of the bay's dies are counted anew. -/
def timeoutsCleared (s : State) (b : Nat) : State := { s with mhm := { s.mhm with timeouts := s.mhm.timeouts.filter fun kv => dieBay kv.1 != b } }

/-- The targets of a bay have been reset. -/
def targetsReset (s : State) (b : Nat) (rs : List Nat) : State :=
  timeoutsCleared (resetTargets (forEach (bayChannels b) (tporElapsed s b) releasePads) b rs) b

/-- What leads to the identification of a bay's targets: registers are as they were, and TPOR has passed. -/
structure Elapsed (s t : State) (b : Nat) : Prop where
  regs : t.regs = s.regs
  us : (bayOf s b).since + bayTpor s b ≤ t.clk.us
  work : BayWork b [.clk, .bay, .mhm, .pins] (BayReg b) s t

theorem elapsed_targetsReset (s : State) (b : Nat) (rs : List Nat) : Elapsed s (targetsReset s b rs) b := by
  let u := tporElapsed s b
  have hrel : PadsChanged u (forEach (bayChannels b) u releasePads) := padsChanged_forEach padsChanged_releasePads _ u
  obtain ⟨v, n, hv, heq⟩ := resetTargets_eq (forEach (bayChannels b) u releasePads) b rs
  have huv := hrel.trans hv
  have hall : targetsReset s b rs = timeoutsCleared (advance v n) b := congrArg (timeoutsCleared · b) heq
  rw [hall]
  refine ⟨huv.regs, ?_, ?_⟩
  · have hus : u.clk.us = max s.clk.us ((bayOf s b).since + bayTpor s b) := us_advanceTo s _
    have hadv : (timeoutsCleared (advance v n) b).clk.us = v.clk.us + n := rfl
    rw [hadv, huv.clk, hus]
    omega
  · have hu : BayWork b [.clk, .bay, .mhm, .pins] (BayReg b) s u := (bayWork_advance s _ (by simp)).trans (bayWork_putBay _ _ (by simp))
    have hmhm : BayWork b [.clk, .bay, .mhm, .pins] (BayReg b) (advance v n) (timeoutsCleared (advance v n) b) :=
      bayWork_of_only (only_bayStep _ (ps := [.mhm])) (by simp) (by simp) fun x _ => bayOf_congr rfl x
    exact ((hu.trans (bayWork_pads huv (by simp))).trans (bayWork_advance v n (by simp))).trans hmhm

/-- The targets of a bay, by channel and chip enable, with what each answers to READ ID. -/
def targetAnswers (ids : List (List Byte)) : List (Nat × Nat × List Byte) := (List.range 64).map fun i => (i / 4, i % 4, listAt [] ids i)

/-- A single answer is that of the first target; the others give none. -/
theorem targetAnswers_single (bytes : List Byte) :
    ∃ rest, targetAnswers [bytes] = (0, 0, bytes) :: rest ∧ ∀ t ∈ rest, t.1 < 16 ∧ t.2.1 < 4 ∧ t.2.2 = [] := by
  refine ⟨(List.range 63).map fun i => ((i + 1) / 4, (i + 1) % 4, listAt [] [bytes] (i + 1)), ?_, fun t ht => ?_⟩
  · rw [targetAnswers, List.range_succ_eq_map, List.map_cons, List.map_map]
    rfl
  · obtain ⟨i, hi, rfl⟩ := List.mem_map.1 ht
    have hlt := List.mem_range.1 hi
    exact ⟨by dsimp only; omega, Nat.mod_lt _ (by decide), rfl⟩

/-- The first power-up identifies every target, a later one checks it (R189). -/
def identified (s : State) (b : Nat) (ids : List (List Byte)) (bad : List Nat) : State :=
  forEach (targetAnswers ids) s fun s t => identifyTarget s b t.1 t.2.1 t.2.2 bad

def checked (s : State) (b : Nat) (ids : List (List Byte)) : State :=
  forEach (targetAnswers ids) s fun s t => checkTarget s b t.1 t.2.1 t.2.2

/-- Every channel of a bay is trained (R192 step 7). -/
def allTrained (s : State) (b : Nat) (fails : List Nat) : State := forEach (List.range 16) s fun s c => trainNow s (16 * b + c) (fails.contains c)

/-- The bay is ready. -/
def bayReady (s : State) (b : Nat) : State := putBay s b { bayOf s b with phase := .ready, identified := true, emptySince := s.clk.us }

/-- What each target meets depends on whether the bay has been identified. -/
theorem onBayTporExpiry_eq {s : State} {b : Nat} {ids : List (List Byte)} {rs bad fails : List Nat} (h : (bayOf s b).phase = .waitTpor) :
    onBayTporExpiry b ids rs bad fails s = bayReady (allTrained (forEach (targetAnswers ids) (targetsReset s b rs) fun u t =>
      if (bayOf s b).identified then checkTarget u b t.1 t.2.1 t.2.2 else identifyTarget u b t.1 t.2.1 t.2.2 bad) b fails) b := by
  unfold onBayTporExpiry bayReady allTrained targetsReset timeoutsCleared tporElapsed targetAnswers
  generalize @forEach = loop
  generalize resetTargets = reset
  generalize advanceTo = wait
  exact if_neg (not_not.2 h)

theorem onBayTporExpiry_first {s : State} {b : Nat} {ids : List (List Byte)} {rs bad fails : List Nat} (h : (bayOf s b).phase = .waitTpor)
    (hid : (bayOf s b).identified = false) :
    onBayTporExpiry b ids rs bad fails s = bayReady (allTrained (identified (targetsReset s b rs) b ids bad) b fails) b := by
  simp only [onBayTporExpiry_eq h, hid, Bool.false_eq_true, if_false, identified]

theorem onBayTporExpiry_later {s : State} {b : Nat} {ids : List (List Byte)} {rs bad fails : List Nat} (h : (bayOf s b).phase = .waitTpor)
    (hid : (bayOf s b).identified = true) :
    onBayTporExpiry b ids rs bad fails s = bayReady (allTrained (checked (targetsReset s b rs) b ids) b fails) b := by
  simp only [onBayTporExpiry_eq h, hid, if_true, checked]

/-- An empty answer matches no descriptor (R189). -/
theorem idMatches_nil (s : State) (b k ce : Nat) : idMatches s b k ce [] = false := by
  simp [idMatches]

theorem descF_regs {s t : State} (h : t.regs = s.regs) (b k off n : Nat) : descF t b k off n = descF s b k off n := by
  simp only [descF, getF_congr h]

theorem descValid_regs {s t : State} (h : t.regs = s.regs) (b k : Nat) : descValid t b k = descValid s b k := by
  simp only [descValid, descCrcGood, descFits, descBytes_congr h]

theorem idMatches_regs {s t : State} (h : t.regs = s.regs) (b k ce : Nat) (bytes : List Byte) : idMatches t b k ce bytes = idMatches s b k ce bytes := by
  simp only [idMatches, descValid_regs h, descF_regs h]

end Sys2Proof.Machine
end

section
/-!
PROOFS. O43: the first identification of a bay's targets, and the training of its channels (R189, R192 steps 6 and 7, R213).
-/

namespace Sys2Proof.Machine

open Sys2Proof

/-- A target that answers nothing is passed over. -/
theorem identifyTarget_silent (s : State) (b c ce : Nat) (bad : List Nat) :
    PadsChanged s (identifyTarget s b c ce [] bad) := by
  have hnone : ∀ u : State, (validDescs u b).find? (fun k => idMatches u b k ce []) = none := fun u =>
    List.find?_eq_none.2 fun k _ => by rw [idMatches_nil]; exact Bool.false_ne_true
  unfold identifyTarget
  extract_lets u
  rw [hnone u]
  exact padsChanged_selected s _ _

/-- The dies of a target are bound to its descriptor. -/
def diesBound (s : State) (b k : Nat) (ds : List Nat) : State := forEach ds s fun s d => bindDie s b k d

/-- A target that answers as a descriptor has its dies bound to it. -/
theorem identifyTarget_answers {s : State} {b ce k : Nat} {bytes : List Byte}
    (h : (validDescs s b).find? (fun k => idMatches s b k ce bytes) = some k) (c : Nat) :
    ∃ v, PadsChanged s v ∧ identifyTarget s b c ce bytes [] = diesBound v b k (targetDies s b c ce k) := by
  let u := cycle (selectDie s (256 * b + 16 * c + 4 * ce)) (256 * b + 16 * c + 4 * ce) .readId
  have hu : PadsChanged s u := padsChanged_selected s _ _
  have hfind : (validDescs u b).find? (fun k => idMatches u b k ce bytes) = some k := by
    rw [← h, validDescs, validDescs, funext (descValid_regs hu.regs b), funext fun k => idMatches_regs hu.regs b k ce bytes]
  have hds : targetDies u b c ce k = targetDies s b c ce k := by simp only [targetDies, descF_regs hu.regs]
  have hpage : ∀ (v : State) (d : Nat), PadsChanged v (cycle v d .readParameterPage) := fun v d => padsChanged_emit v _
  refine ⟨_, hu.trans (padsChanged_forEach hpage (targetDies u b c ce k) u), ?_⟩
  unfold identifyTarget
  extract_lets
  rw [hfind]
  dsimp -zeta only
  extract_lets ds v
  rw [if_neg (by simp), diesBound, ← hds]

/-- What binding a die changes: its own registers. -/
theorem only_bindDie (s : State) (b k d : Nat) : Only s (bindDie s b k d) []
    [(F.fchDieCfg_present (dieChannel d) (diePos d)).addr, (F.fchDieStat_state (dieChannel d) (diePos d)).addr] := by
  let c := dieChannel d
  let p := diePos d
  have htiers := only_setF s (F.fchDieCfg_tiers c p) (descF s b k 0x1C 1 % 8)
  have hdesc := only_trans htiers (only_setF _ (F.fchDieCfg_desc c p) k)
  have hpres := only_trans hdesc (only_setF _ (F.fchDieCfg_present c p) 1)
  have hserv := only_trans hpres (only_setF _ (F.fchDieCfg_inservice c p) 1)
  exact only_mono (only_trans hserv (only_setF _ (F.fchDieStat_state c p) 0)) (by simp)
    (by simp [c, p, F.fchDieCfg_tiers, F.fchDieCfg_desc, F.fchDieCfg_present, F.fchDieCfg_inservice])

/-- A die is bound to a descriptor, in service and idle. -/
structure Bound (s : State) (d k : Nat) : Prop where
  present : diePresent s d = true
  inService : dieInService s d = true
  desc : getF s (F.fchDieCfg_desc (dieChannel d) (diePos d)) = k
  idle : getF s (F.fchDieStat_state (dieChannel d) (diePos d)) = 0

theorem cfg_ne_dieStat (c p : Nat) (hp : p < 16) (c' p' : Nat) (hp' : p' < 16) :
    (F.fchDieCfg_present c p).addr ≠ (F.fchDieStat_state c' p').addr := by
  simp only [F.fchDieCfg_present, F.fchDieStat_state, ne_eq]
  omega

theorem bound_bindDie (s : State) (b d : Nat) {k : Nat} (hk : k < 8) : Bound (bindDie s b k d) d k := by
  have hp : diePos d < 16 := Nat.mod_lt _ (by decide)
  have hne : ∀ f : Fld, f.addr = (F.fchDieCfg_present (dieChannel d) (diePos d)).addr → f.addr ≠ (F.fchDieStat_state (dieChannel d) (diePos d)).addr :=
    fun f hf => hf ▸ cfg_ne_dieStat _ _ hp _ _ hp
  have hpres : flag (bindDie s b k d) (F.fchDieCfg_present (dieChannel d) (diePos d)) = true := by
    simp only [bindDie, setDieStat, setBit_eq, flag]
    rw [getF_setF_addr _ _ (hne _ rfl),
      getF_setF_bits (g := F.fchDieCfg_present (dieChannel d) (diePos d)) (f := F.fchDieCfg_inservice (dieChannel d) (diePos d)) _ 1
      rfl (by simp [F.fchDieCfg_present]) (.inl (by simp [F.fchDieCfg_present, F.fchDieCfg_inservice])),
      getF_setF_same _ _ _ (by simp [F.fchDieCfg_present]) (by simp [F.fchDieCfg_present])]
    rfl
  have hserv : flag (bindDie s b k d) (F.fchDieCfg_inservice (dieChannel d) (diePos d)) = true := by
    simp only [bindDie, setDieStat, setBit_eq, flag]
    rw [getF_setF_addr _ _ (hne (F.fchDieCfg_inservice _ _) rfl), getF_setF_same _ _ _ (by simp [F.fchDieCfg_inservice]) (by simp [F.fchDieCfg_inservice])]
    rfl
  refine ⟨hpres, ?_, ?_, ?_⟩
  · rw [dieInService, hserv, Bool.and_true]
    exact hpres
  · simp only [bindDie, setDieStat, setBit_eq]
    rw [getF_setF_addr _ _ (hne (F.fchDieCfg_desc _ _) rfl),
      getF_setF_bits (g := F.fchDieCfg_desc (dieChannel d) (diePos d)) (f := F.fchDieCfg_inservice (dieChannel d) (diePos d)) _ 1
      rfl (by simp [F.fchDieCfg_desc]) (.inl (by simp [F.fchDieCfg_desc, F.fchDieCfg_inservice])),
      getF_setF_bits (g := F.fchDieCfg_desc (dieChannel d) (diePos d)) (f := F.fchDieCfg_present (dieChannel d) (diePos d)) _ 1
      rfl (by simp [F.fchDieCfg_desc]) (.inr (by simp [F.fchDieCfg_desc, F.fchDieCfg_present])),
      getF_setF_same _ _ _ (by simp [F.fchDieCfg_desc]) (by simp [F.fchDieCfg_desc])]
    simp only [F.fchDieCfg_desc]
    exact Nat.mod_eq_of_lt hk
  · simp only [bindDie, setDieStat]
    rw [getF_setF_same _ _ _ (by simp [F.fchDieStat_state]) (by simp [F.fchDieStat_state])]
    rfl

/-- A die's binding stands in its own registers. -/
theorem Bound.congr {s t : State} {d k : Nat} (h : Bound s d k)
    (hcfg : ∀ f : Fld, f.addr = (F.fchDieCfg_present (dieChannel d) (diePos d)).addr → getF t f = getF s f)
    (hstat : getF t (F.fchDieStat_state (dieChannel d) (diePos d)) = getF s (F.fchDieStat_state (dieChannel d) (diePos d))) : Bound t d k := by
  have hpres : diePresent t d = diePresent s d := by simp only [diePresent, flag, hcfg _ rfl]
  exact ⟨hpres.trans h.present, (dieInService_of_cfg hcfg).trans h.inService, (hcfg (F.fchDieCfg_desc _ _) rfl).trans h.desc, hstat.trans h.idle⟩

/-- The registers of a die are its own. -/
theorem dieRegs_ne {d e : Nat} (h : d ≠ e) :
    (F.fchDieCfg_present (dieChannel d) (diePos d)).addr ∉
      [(F.fchDieCfg_present (dieChannel e) (diePos e)).addr, (F.fchDieStat_state (dieChannel e) (diePos e)).addr] ∧
    (F.fchDieStat_state (dieChannel d) (diePos d)).addr ∉
      [(F.fchDieCfg_present (dieChannel e) (diePos e)).addr, (F.fchDieStat_state (dieChannel e) (diePos e)).addr] := by
  simp only [F.fchDieCfg_present, F.fchDieStat_state, List.mem_cons, List.not_mem_nil, or_false, dieChannel, diePos]
  omega

theorem dieStat_flash {d : Nat} (hd : d < 1024) : ¬ OutsideFlash (F.fchDieStat_state (dieChannel d) (diePos d)).addr := by
  simp only [OutsideFlash, F.fchDieStat_state, dieChannel, diePos]
  omega

/-- Every die of the target is bound. -/
theorem bound_diesBound {b k d : Nat} (hk : k < 8) {ds : List Nat} (hd : d ∈ ds) (hlt : d < 1024) (s : State) : Bound (diesBound s b k ds) d k := by
  refine forEach_establishes (f := fun s d => bindDie s b k d) (I := fun _ => True) (P := fun u => Bound u d k) hd (fun _ _ _ _ => trivial)
    (fun u _ => bound_bindDie u b d hk) (fun u e _ _ hu => ?_) trivial
  by_cases he : d = e
  · subst he
    exact bound_bindDie u b d hk
  · obtain ⟨hcfg, hstat⟩ := dieRegs_ne he
    exact hu.congr (fun f hf => (only_bindDie u b k e).2 f (hf ▸ hcfg) (hf ▸ unsettled_of_flash (cfg_flash hlt)))
      ((only_bindDie u b k e).2 _ hstat (unsettled_of_flash (dieStat_flash hlt)))

/-- Binding dies leaves every register that is not theirs. -/
theorem getF_diesBound {b k : Nat} {ds : List Nat} {f : Fld} (hf : ¬ OutsideFlash f.addr)
    (h : ∀ d ∈ ds, f.addr ≠ (F.fchDieCfg_present (dieChannel d) (diePos d)).addr ∧ f.addr ≠ (F.fchDieStat_state (dieChannel d) (diePos d)).addr)
    (s : State) : getF (diesBound s b k ds) f = getF s f := by
  refine forEach_invariant (f := fun s d => bindDie s b k d) (P := fun u => getF u f = getF s f) (fun u d hd hu => ?_) rfl
  obtain ⟨hcfg, hstat⟩ := h d hd
  exact ((only_bindDie u b k d).2 f (by simp [hcfg, hstat]) (unsettled_of_flash hf)).trans hu

theorem bayReg_die {b d : Nat} (h : dieBay d = b) : BayReg b (F.fchDieCfg_present (dieChannel d) (diePos d)).addr ∧
    BayReg b (F.fchDieStat_state (dieChannel d) (diePos d)).addr := by
  simp only [dieBay] at h
  refine ⟨decide_eq_true ?_, decide_eq_true ?_⟩ <;> (simp only [F.fchDieCfg_present, F.fchDieStat_state, dieChannel, diePos]; omega)

theorem bayWork_diesBound {b k : Nat} {ps : List Part} {ds : List Nat} (h : ∀ d ∈ ds, dieBay d = b) (s : State) :
    BayWork b ps (BayReg b) s (diesBound s b k ds) :=
  bayWork_forEach (fun u d hd => bayWork_of_only (only_bindDie u b k d) (by simp) (by simpa using bayReg_die (h d hd)) fun x _ => bayOf_congr rfl x) s

end Sys2Proof.Machine
end

section
/-!
PROOFS. O43: every enabled channel of a bay trains (R192 step 7, R210).
-/

namespace Sys2Proof.Machine

open Sys2Proof

theorem le_foldl_min {l : List Nat} {a n : Nat} (ha : n ≤ a) (hl : ∀ x ∈ l, n ≤ x) : n ≤ l.foldl min a := by
  induction l generalizing a with
  | nil => exact ha
  | cons x l ih =>
    rw [List.forall_mem_cons] at hl
    exact ih (le_min ha hl.1) hl.2

/-- A channel whose present dies run at least at 800 MT/s has a rate to train at, unless MAX_RATE is 0 (R182, R210). -/
theorem trainRate_exists {s : State} {c : Nat} (hmax : getF s (F.fchCtrl_maxRate c) ≠ 0)
    (h : ∀ d ∈ diesOfChannel c, diePresent s d = true → 800 ≤ dieF s d 0x1E 2) : ∃ r, trainRate s c = some r := by
  have hcap : 800 ≤ (((diesOfChannel c).filter (diePresent s)).map fun d => dieF s d 0x1E 2).foldl min (max (getF s (F.fchCtrl_maxRate c)) 800) := by
    refine le_foldl_min (Nat.le_max_right _ _) fun x hx => ?_
    obtain ⟨d, hd, rfl⟩ := List.mem_map.1 hx
    obtain ⟨hmem, hpres⟩ := List.mem_filter.1 hd
    exact h d hmem hpres
  simp only [trainRate, if_neg hmax]
  refine Option.isSome_iff_exists.1 (List.find?_isSome.2 ⟨800, by simp [ioRates], decide_eq_true hcap⟩)

/-- Every channel of a bay is enabled and has a rate to train at. -/
def Trainable (s : State) (b : Nat) : Prop := ∀ c ∈ bayChannels b, flag s (F.fchCtrl_enable c) = true ∧ ∃ r, trainRate s c = some r

/-- The pins of the other channels stay as they are while a channel trains. -/
theorem padsOf_cycle (s : State) (d : Nat) (x : DieCmd) (c : Nat) : padsOf (cycle s d x) c = padsOf s c := rfl

theorem padsOf_targetTrained_ne (s : State) {d c : Nat} (h : dieChannel d ≠ c) (r : Nat) :
    padsOf (if !diePresent s d then s
      else cycle (cycle (cycle (cycle (selectInterface s d r) d .zqCalibration) d .dccTraining) d .readTraining) d .writeTraining) c = padsOf s c := by
  split
  · rfl
  · unfold selectInterface
    extract_lets io s1
    simp only [padsOf_cycle, s1]
    exact padsOf_setPads_ne s _ (Ne.symm h)

theorem padsOf_sendTraining_ne (s : State) {c c' : Nat} (h : c ≠ c') (r : Nat) : padsOf (sendTraining s c r) c' = padsOf s c' := by
  refine forEach_invariant (P := fun u => padsOf u c' = padsOf s c') (fun u d hd hu => ?_) rfl
  obtain ⟨e, he, rfl⟩ := List.mem_map.1 hd
  have hch : dieChannel (16 * c + 4 * e) ≠ c' := by
    have := List.mem_range.1 he
    simp only [dieChannel]
    omega
  exact (padsOf_targetTrained_ne u hch r).trans hu

theorem padsOf_trainNow_ne {s : State} {c c' r : Nat} (hen : flag s (F.fchCtrl_enable c) = true) (hr : trainRate s c = some r) (h : c ≠ c') :
    padsOf (trainNow s c false) c' = padsOf s c' := by
  rw [trainNow_eq hen hr]
  exact (padsOf_setPads_ne (trainingSent s c r) _ (Ne.symm h)).trans (padsOf_sendTraining_ne (trainingBegun s c) h r)

theorem trainAddrs_channelReg {c : Nat} (hc : c < 64) : ∀ a ∈ trainAddrs c, ChannelReg a := by
  simp only [trainAddrs, List.forall_mem_cons, List.not_mem_nil, false_implies, implies_true, and_true]
  exact ⟨channelReg_of (off := 4) hc (by decide), ctrl_channelReg hc⟩

theorem bayChannels_lt {b c : Nat} (hb : b < 4) (hc : c ∈ bayChannels b) : c < 64 := by
  have := mem_bayChannels.1 hc
  omega

theorem bayReg_of_channel {b c off : Nat} (hc : c ∈ bayChannels b) (h : off < 0x10000) : BayReg b (0x1001000000 + off + 0x10000 * c) := by
  have := mem_bayChannels.1 hc
  refine decide_eq_true ?_
  omega

theorem trainAddrs_bayReg {b c : Nat} (hc : c ∈ bayChannels b) : ∀ a ∈ trainAddrs c, BayReg b a := by
  simp only [trainAddrs, List.forall_mem_cons, List.not_mem_nil, false_implies, implies_true, and_true]
  exact ⟨bayReg_of_channel (off := 4) hc (by decide), bayReg_of_channel (off := 0) hc (by decide)⟩

/-- The registers of another channel are none of those a training writes. -/
theorem channel_notMem_trainAddrs {c c' off : Nat} (h : c ≠ c') (hoff : off < 0x10000) : 0x1001000000 + off + 0x10000 * c' ∉ trainAddrs c := by
  simp only [trainAddrs, F.fchStat_state, F.fchCtrl_train, List.mem_cons, List.not_mem_nil, or_false]
  omega

/-- What the training of the bay's channels keeps: that the others can train, the dies' registers, and all that is not the bay's. -/
structure Training (b : Nat) (s t : State) : Prop where
  trainable : Trainable t b
  dies : ∀ f : Fld, DieReg f.addr → getF t f = getF s f
  work : BayWork b [.bay, .pins] (BayReg b) s t

theorem Training.step {b c : Nat} {s t : State} (hb : b < 4) (hc : c ∈ bayChannels b) (h : Training b s t) : Training b s (trainNow t c false) := by
  obtain ⟨hen, r, hr⟩ := h.trainable c hc
  have ht := trained_trainNow hen hr
  have hclt := bayChannels_lt hb hc
  have hdies : ∀ f : Fld, DieReg f.addr → getF (trainNow t c false) f = getF t f := fun f hf =>
    getF_dieReg_of_only ht.only (trainAddrs_channelReg hclt) hf
  refine ⟨fun c' hc' => ?_, fun f hf => (hdies f hf).trans (h.dies f hf), h.work.trans
    (bayWork_of_only ht.only (by simp) (trainAddrs_bayReg hc) fun x _ => bayOf_congr ht.bays x)⟩
  have hclt' := bayChannels_lt hb hc'
  obtain ⟨hen', r', hr'⟩ := h.trainable c' hc'
  have hctrl : flag (trainNow t c false) (F.fchCtrl_enable c') = flag t (F.fchCtrl_enable c') ∧
      getF (trainNow t c false) (F.fchCtrl_maxRate c') = getF t (F.fchCtrl_maxRate c') := by
    by_cases hcc : c = c'
    · subst hcc
      exact ⟨ht.enable, ht.maxRate⟩
    · have hsame : ∀ f : Fld, f.addr = (F.fchCtrl_train c').addr → getF (trainNow t c false) f = getF t f := fun f hf =>
        ht.only.2 f (hf ▸ channel_notMem_trainAddrs (off := 0) hcc (by decide)) (hf ▸ ctrl_unsettled hclt')
      exact ⟨by simp only [flag, hsame (F.fchCtrl_enable c') rfl], hsame (F.fchCtrl_maxRate c') rfl⟩
  exact ⟨hctrl.1.trans hen', r', (trainRate_congr hclt' hctrl.2 hdies).trans hr'⟩

/-- A channel is READY with its pins in NV-LP4. -/
def ChannelReady (t : State) (c : Nat) : Prop := getF t (F.fchStat_state c) = 3 ∧ padsOf t c = ⟨.driven, 15, true, true⟩

theorem channelReady_trainNow {b c c' : Nat} {s t : State} (hb : b < 4) (h : Training b s t) (hc : c ∈ bayChannels b) (hc' : c' ∈ bayChannels b)
    (hready : c' = c ∨ ChannelReady t c') : ChannelReady (trainNow t c false) c' := by
  obtain ⟨hen, r, hr⟩ := h.trainable c hc
  have ht := trained_trainNow hen hr
  by_cases hcc : c = c'
  · subst hcc
    exact ⟨ht.state, ht.pads⟩
  · obtain ⟨hstate, hpads⟩ := hready.resolve_left (Ne.symm hcc)
    exact ⟨(ht.only.2 _ (channel_notMem_trainAddrs (off := 4) hcc (by decide)) (stat_unsettled (bayChannels_lt hb hc'))).trans hstate,
      (padsOf_trainNow_ne hen hr hcc).trans hpads⟩

theorem mem_bayChannels_range {b x : Nat} (h : x ∈ List.range 16) : 16 * b + x ∈ bayChannels b := List.mem_map.2 ⟨x, h, rfl⟩

theorem training_allTrained {b : Nat} {s : State} (hb : b < 4) (h : Trainable s b) : Training b s (allTrained s b []) :=
  forEach_invariant (f := fun s c => trainNow s (16 * b + c) ([].contains c)) (P := Training b s)
    (fun _ _ hx hu => hu.step hb (mem_bayChannels_range hx)) ⟨h, fun _ _ => rfl, bayWork_refl s⟩

theorem channelReady_allTrained {b c : Nat} {s : State} (hb : b < 4) (h : Trainable s b) (hc : c ∈ bayChannels b) : ChannelReady (allTrained s b []) c := by
  obtain ⟨i, hi, rfl⟩ := List.mem_map.1 hc
  exact forEach_establishes (f := fun s c => trainNow s (16 * b + c) ([].contains c)) (I := Training b s) (P := fun u => ChannelReady u (16 * b + i)) hi
    (fun _ _ hx hu => hu.step hb (mem_bayChannels_range hx)) (fun _ hu => channelReady_trainNow hb hu hc hc (.inl rfl))
    (fun _ _ hx hu hready => channelReady_trainNow hb hu (mem_bayChannels_range hx) hc (.inr hready)) ⟨h, fun _ _ => rfl, bayWork_refl s⟩

end Sys2Proof.Machine
end

section
/-!
PROOFS. O43: TPOR of a bay that has not been identified (R189, R192, R213).
-/

namespace Sys2Proof.Machine

open Sys2Proof

theorem mem_bayDies {b d : Nat} : d ∈ bayDies b ↔ dieBay d = b := by
  simp only [bayDies, List.mem_map, List.mem_range, dieBay]
  constructor
  · rintro ⟨i, hi, rfl⟩
    omega
  · rintro rfl
    exact ⟨d % 256, Nat.mod_lt _ (by decide), by omega⟩

theorem dieBay_targetDies {s : State} {b k : Nat} : ∀ d ∈ targetDies s b 0 0 k, dieBay d = b := by
  intro d hd
  obtain ⟨l, hl, rfl⟩ := List.mem_map.1 hd
  have := List.mem_range.1 hl
  simp only [dieBay]
  omega

theorem forEach_cons {α : Type} (x : α) (xs : List α) (s : State) (f : State → α → State) : forEach (x :: xs) s f = forEach xs (f s x) f := rfl

/-- The other targets of a bay answer nothing, and nothing but pins changes for them. -/
theorem identified_single {s : State} {b k : Nat} {bytes : List Byte} (h : (validDescs s b).find? (fun k => idMatches s b k 0 bytes) = some k) :
    ∃ v, PadsChanged s v ∧ PadsChanged (diesBound v b k (targetDies s b 0 0 k)) (identified s b [bytes] []) := by
  obtain ⟨v, hv, heq⟩ := identifyTarget_answers h 0
  obtain ⟨rest, hrest, hnil⟩ := targetAnswers_single bytes
  refine ⟨v, hv, ?_⟩
  have hfirst : identified s b [bytes] [] =
      forEach rest (identifyTarget s b 0 0 bytes []) fun s t => identifyTarget s b t.1 t.2.1 t.2.2 [] := by
    rw [identified, hrest, forEach_cons]
  have hstep : ∀ u : State, ∀ t ∈ rest, PadsChanged u (identifyTarget u b t.1 t.2.1 t.2.2 []) := fun u t ht => by
    rw [(hnil t ht).2.2]
    exact identifyTarget_silent u b t.1 t.2.1 []
  have hrests : ∀ w : State, PadsChanged w (forEach rest w fun s t => identifyTarget s b t.1 t.2.1 t.2.2 []) := fun w =>
    forEach_invariant (P := PadsChanged w) (fun u t ht hu => hu.trans (hstep u t ht)) (padsChanged_refl w)
  rw [hfirst, heq]
  exact hrests _

/-- A register of the bay's channels, or of its descriptors, is none of a die's. -/
theorem ne_dieRegs {a d : Nat} (h : a % 0x10000 < 0x100 ∨ 0x300 ≤ a % 0x10000) :
    a ≠ (F.fchDieCfg_present (dieChannel d) (diePos d)).addr ∧ a ≠ (F.fchDieStat_state (dieChannel d) (diePos d)).addr := by
  simp only [F.fchDieCfg_present, F.fchDieStat_state, dieChannel, diePos]
  omega

/-- Binding dies leaves the descriptors. -/
theorem descF_diesBound {b k off n : Nat} {ds : List Nat} (hb : b < 4) (hk : k < 8) (hoff : off + n < 256) (s : State) :
    descF (diesBound s b k ds) b k off n = descF s b k off n := by
  refine List.foldr_ext _ _ _ fun i hi a => ?_
  have hlt := List.mem_range.1 hi
  have hflash : ¬ OutsideFlash (F.fchDesc_word b (64 * k + (off + i) / 4)).addr := by
    simp only [OutsideFlash, F.fchDesc_word]
    omega
  rw [getF_diesBound hflash (fun d _ => ne_dieRegs (by simp only [F.fchDesc_word]; omega))]

/-- Once the dies of a target are bound, every channel of the bay can train. -/
theorem trainable_diesBound {b k : Nat} {ds : List Nat} {s : State} (hb : b < 4) (hk : k < 8)
    (hrate : 800 ≤ descF s b k 0x1E 2) (habs : ∀ d ∈ bayDies b, diePresent s d = false)
    (hmax : ∀ c ∈ bayChannels b, getF s (F.fchCtrl_maxRate c) ≠ 0) (hen : ∀ c ∈ bayChannels b, flag s (F.fchCtrl_enable c) = true) :
    Trainable (diesBound s b k ds) b := by
  intro c hc
  have hlt := bayChannels_lt hb hc
  have hctrl : ∀ f : Fld, f.addr = (F.fchCtrl_train c).addr → getF (diesBound s b k ds) f = getF s f := fun f hf =>
    getF_diesBound (hf ▸ (ctrl_channelReg hlt).1) (fun d _ => ne_dieRegs (.inl (hf ▸ (ctrl_channelReg hlt).2))) s
  refine ⟨by simp only [flag, hctrl (F.fchCtrl_enable c) rfl]; exact hen c hc, trainRate_exists ?_ fun d hd hpres => ?_⟩
  · rw [hctrl (F.fchCtrl_maxRate c) rfl]
    exact hmax c hc
  · have hdlt := mem_diesOfChannel_lt hlt hd
    have hbay : dieBay d = b := by
      have hdc := mem_diesOfChannel.1 hd
      have hcb := mem_bayChannels.1 hc
      simp only [dieBay]
      omega
    by_cases hmem : d ∈ ds
    · rw [dieF, (bound_diesBound hk hmem hdlt s).desc, hbay, descF_diesBound hb hk (by decide)]
      exact hrate
    · have hsame : diePresent (diesBound s b k ds) d = diePresent s d := by
        simp only [diePresent, flag]
        rw [getF_diesBound (cfg_flash hdlt) fun e he => ?_]
        have hne : d ≠ e := fun hde => hmem (hde ▸ he)
        simpa using (dieRegs_ne hne).1
      rw [hsame, habs d (mem_bayDies.2 hbay)] at hpres
      exact absurd hpres Bool.false_ne_true

theorem trainable_pads {b : Nat} {s t : State} (h : PadsChanged s t) (hs : Trainable s b) : Trainable t b := fun c hc => by
  obtain ⟨hen, r, hr⟩ := hs c hc
  have hdies : ∀ d, diePresent t d = diePresent s d := fun d => flag_congr h.regs _
  refine ⟨(flag_congr h.regs _).trans hen, r, ?_⟩
  rw [← hr]
  simp only [trainRate, getF_congr h.regs, funext hdies, dieF, descF_regs h.regs]
  rfl

/-- A bay whose targets are identified for the first time, and what of its dies and channels follows. -/
structure FirstReady (s t : State) (b k d : Nat) : Prop where
  bound : Bound t d k
  channels : ∀ c ∈ bayChannels b, ChannelReady t c
  us : (bayOf s b).since + bayTpor s b ≤ t.clk.us
  work : BayWork b [.clk, .bay, .mhm, .pins] (BayReg b) s t

theorem clk_diesBound (s : State) (b k : Nat) (ds : List Nat) : (diesBound s b k ds).clk = s.clk := 
  forEach_keeps State.clk (fun s d => bindDie s b k d) (fun _ _ => rfl) ds s

theorem firstReady_allTrained {s s0 : State} {b k d : Nat} {bytes : List Byte} (rs : List Nat) (hregs : s0.regs = s.regs) (hb : b < 4)
    (hfind : (validDescs s b).find? (fun k => idMatches s b k 0 bytes) = some k) (hd : d ∈ targetDies s b 0 0 k) (hrate : 800 ≤ descF s b k 0x1E 2)
    (habs : ∀ x ∈ bayDies b, diePresent s x = false) (hmax : ∀ c ∈ bayChannels b, getF s (F.fchCtrl_maxRate c) ≠ 0)
    (hen : ∀ c ∈ bayChannels b, flag s (F.fchCtrl_enable c) = true) :
    FirstReady s0 (allTrained (identified (targetsReset s0 b rs) b [bytes] []) b []) b k d := by
  have he := elapsed_targetsReset s0 b rs
  have heregs : (targetsReset s0 b rs).regs = s.regs := he.regs.trans hregs
  have hk : k < 8 := List.mem_range.1 (List.mem_filter.1 (List.mem_of_find?_eq_some hfind)).1
  have hfind' : (validDescs (targetsReset s0 b rs) b).find? (fun k => idMatches (targetsReset s0 b rs) b k 0 bytes) = some k := by
    rw [← hfind, validDescs, validDescs, funext (descValid_regs heregs b), funext fun k => idMatches_regs heregs b k 0 bytes]
  have hds : targetDies (targetsReset s0 b rs) b 0 0 k = targetDies s b 0 0 k := by simp only [targetDies, descF_regs heregs]
  obtain ⟨v, hv, hi⟩ := identified_single hfind'
  rw [hds] at hi
  have hvregs : v.regs = s.regs := hv.regs.trans heregs
  have hdlt : d < 1024 := by
    have := dieBay_targetDies d hd
    simp only [dieBay] at this
    omega
  have htrain : Trainable (identified (targetsReset s0 b rs) b [bytes] []) b :=
    trainable_pads hi (trainable_diesBound hb hk (descF_regs hvregs b k 0x1E 2 ▸ hrate)
      (fun x hx => (flag_congr hvregs _).trans (habs x hx)) (fun c hc => getF_congr hvregs (F.fchCtrl_maxRate c) ▸ hmax c hc)
      fun c hc => (flag_congr hvregs _).trans (hen c hc))
  have htr := training_allTrained hb htrain
  refine ⟨?_, fun c hc => channelReady_allTrained hb htrain hc, ?_, ?_⟩
  · refine (bound_diesBound (b := b) hk hd hdlt v).congr (fun f hf => ?_) ?_
    · rw [htr.dies f (hf ▸ dieReg_cfg hdlt), getF_congr hi.regs]
    · rw [htr.dies _ ⟨dieStat_flash hdlt, by simp only [F.fchDieStat_state, dieChannel, diePos]; omega⟩, getF_congr hi.regs]
  · have hclk := htr.work.parts .clk (by simp)
    rw [show (allTrained _ b []).clk = _ from hclk, hi.clk, clk_diesBound, hv.clk]
    exact he.us
  · exact (((he.work.trans (bayWork_pads hv (by simp))).trans (bayWork_diesBound dieBay_targetDies v)).trans (bayWork_pads hi (by simp))).trans
      (htr.work.mono (by simp))

/-- The bay is ready, and that is all that changes. -/
theorem bayWork_bayReady {b : Nat} {ps : List Part} {R : Nat → Prop} (s : State) (h : .bay ∈ ps) : BayWork b ps R s (bayReady s b) := bayWork_putBay s _ h

theorem bayOf_bayReady (s : State) (b : Nat) : bayOf (bayReady s b) b = { bayOf s b with phase := .ready, identified := true, emptySince := s.clk.us } :=
  bayOf_putBay_same s b _

theorem bayTimes_regs {s t : State} (hregs : t.regs = s.regs) (hbays : t.bay.bays = s.bay.bays) (b off : Nat) : bayTimes t b off = bayTimes s b off := by
  have hpres : diePresent t = diePresent s := funext fun d => flag_congr hregs _
  have hvalid : validDescs t b = validDescs s b := by rw [validDescs, validDescs, funext (descValid_regs hregs b)]
  have hdie : (fun d => dieF t d off 2) = fun d => dieF s d off 2 := funext fun d => by simp only [dieF, descF_regs hregs, getF_congr hregs]
  have hdesc : (fun k => descF t b k off 2) = fun k => descF s b k off 2 := funext fun k => descF_regs hregs b k off 2
  rw [bayTimes, bayTimes, bayOf_congr hbays, hpres, hvalid, hdie, hdesc]

theorem bayTpor_regs {s t : State} (hregs : t.regs = s.regs) (hbays : t.bay.bays = s.bay.bays) (b : Nat) : bayTpor t b = bayTpor s b := by
  rw [bayTpor, bayTpor, bayTimes_regs hregs hbays]

theorem regs_bayReady (s : State) (b : Nat) : (bayReady s b).regs = s.regs := rfl

theorem pins_bayReady (s : State) (b : Nat) : (bayReady s b).pins = s.pins := rfl

theorem clk_bayReady (s : State) (b : Nat) : (bayReady s b).clk = s.clk := rfl

/-- A register outside the settled ones is as the bay's initialisation left it. -/
theorem getF_settle_bayReady (s : State) (b : Nat) {f : Fld} (h : f.addr ∉ settledAddrs) : getF (settle (bayReady s b)) f = getF s f :=
  (getF_settle _ f h).trans (getF_congr (regs_bayReady s b) f)

/-- TPOR of a bay that has not been identified: its targets are, and its channels train (R189, R192). -/
theorem bayTporExpiry_first {b k d : Nat} {bytes : List Byte} {rs : List Nat} {s : State} (h : Powered s) (hb : b < 4)
    (hphase : (bayOf s b).phase = .waitTpor) (hid : (bayOf s b).identified = false)
    (hfind : (validDescs s b).find? (fun k => idMatches s b k 0 bytes) = some k) (hd : d ∈ targetDies s b 0 0 k) (hrate : 800 ≤ descF s b k 0x1E 2)
    (habs : ∀ x ∈ bayDies b, diePresent s x = false) (hmax : ∀ x ∈ List.range 16, getF s (F.fchCtrl_maxRate (16 * b + x)) ≠ 0)
    (hen : ∀ x ∈ List.range 16, flag s (F.fchCtrl_enable (16 * b + x)) = true) :
    Completes (.bayTporExpiry b [bytes] rs [] []) s fun t =>
      (bayOf t b).phase = .ready ∧ (bayOf t b).identified = true ∧ (bayOf s b).since + bayTpor s b ≤ t.clk.us ∧ Bound t d k ∧
      (∀ c ∈ bayChannels b, ChannelReady t c) ∧ OnlyParts s t [.clk, .bay, .mhm, .pins] ∧
      (∀ x, x ≠ b → { bayOf t x with emptySince := 0 } = { bayOf s x with emptySince := 0 }) ∧
      (∀ f : Fld, inBayWindow b f.addr = false → f.addr ∉ settledAddrs → getF t f = getF s f) := by
  have hchan : ∀ c ∈ bayChannels b, ∃ x ∈ List.range 16, 16 * b + x = c := fun c hc => List.mem_map.1 hc
  have hf : FirstReady (cleared s) (allTrained (identified (targetsReset (cleared s) b rs) b [bytes] []) b []) b k d :=
    firstReady_allTrained rs rfl hb hfind hd hrate habs
      (fun c hc => by obtain ⟨x, hx, rfl⟩ := hchan c hc; exact hmax x hx) fun c hc => by obtain ⟨x, hx, rfl⟩ := hchan c hc; exact hen x hx
  have heq := onBayTporExpiry_first (s := cleared s) (ids := [bytes]) (rs := rs) (bad := []) (fails := []) hphase hid
  generalize allTrained (identified (targetsReset (cleared s) b rs) b [bytes] []) b [] = u at hf heq
  have hwork := hf.work.trans (bayWork_bayReady u (by simp))
  have hdlt : d < 1024 := by
    have := dieBay_targetDies d hd
    simp only [dieBay] at this
    omega
  refine completes_run (f := onBayTporExpiry b [bytes] rs [] []) rfl h heq ⟨?_, ?_, ?_, ?_, fun c hc => ?_, hwork.parts_settled, hwork.others_settled,
    fun f hw hs => hwork.regs_settled f (Bool.eq_false_iff.1 hw) hs⟩
  · rw [settle_bayField Bay.phase (fun _ => rfl), bayOf_bayReady]
  · rw [settle_bayField Bay.identified (fun _ => rfl), bayOf_bayReady]
  · rw [settle_clk, clk_bayReady, ← bayTpor_regs (s := s) (t := cleared s) rfl rfl]
    exact hf.us
  · exact hf.bound.congr (fun f hfa => getF_settle_bayReady u b (hfa ▸ unsettled_of_flash (cfg_flash hdlt)))
      (getF_settle_bayReady u b (unsettled_of_flash (dieStat_flash hdlt)))
  · obtain ⟨hstate, hpads⟩ := hf.channels c hc
    refine ⟨(getF_settle_bayReady u b (stat_unsettled (bayChannels_lt hb hc))).trans hstate, ?_⟩
    rw [padsOf_settle, padsOf, pins_bayReady]
    exact hpads

end Sys2Proof.Machine
end

section
/-!
PROOFS. O43: TPOR of a bay that has been identified: a target that answers otherwise leaves service (R189, R212).
-/

namespace Sys2Proof.Machine

open Sys2Proof

/-- The first die of a bay is out of service, its mismatch is shown, and a moment has passed. -/
structure Mismatched (b T : Nat) (s : State) : Prop where
  out : dieInService s (256 * b) = false
  shown : flag s (F.fchErr_idNomatch (16 * b)) = true
  us : T ≤ s.clk.us

theorem idNomatch_channelReg {b : Nat} (hb : b < 4) : ChannelReg (F.fchErr_idNomatch (16 * b)).addr := channelReg_of (off := 8) (by omega) (by decide)

section
variable {b T : Nat} {s : State}

theorem Mismatched.of_regs {t : State} (h : Mismatched b T s) (hregs : t.regs = s.regs) (hclk : t.clk = s.clk) : Mismatched b T t :=
  ⟨(dieInService_of_cfg fun f _ => getF_congr hregs f).trans h.out, (flag_congr hregs _).trans h.shown, hclk ▸ h.us⟩

theorem Mismatched.pads {t : State} (h : Mismatched b T s) (k : PadsChanged s t) : Mismatched b T t := h.of_regs k.regs k.clk

/-- The registers of a channel's training. -/
theorem Mismatched.setF (h : Mismatched b T s) {f : Fld} (hf : f.addr % 0x10000 < 8) (n : Nat) : Mismatched b T (setF s f n) := by
  refine ⟨(dieInService_of_cfg fun g hg => getF_setF_addr s n ?_).trans h.out, (flag_setF_addr s n ?_).trans h.shown, h.us⟩
  · intro e
    rw [e] at hg
    rw [hg] at hf
    simp only [F.fchDieCfg_present, dieChannel, diePos] at hf
    omega
  · intro e
    rw [← e] at hf
    simp only [F.fchErr_idNomatch] at hf
    omega

/-- A fault of a channel leaves those shown. -/
theorem flag_raised {f g : Fld} {trig inst m : Nat} {ws : State → List Nat} (hg : flag s g = true) (hhi : g.hi < 64)
    (hbits : g.addr ≠ f.addr ∨ g.hi < f.lo ∨ f.hi < g.lo) (hmiss : g.addr ≠ (F.cshMissed_total (trig - 1)).addr)
    (hset : g.addr ∉ settledAddrs) : flag (raiseErr s f trig inst m ws) g = true := by
  unfold raiseErr
  split
  · exact hg
  · have hraise := (only_raise (setBit s f) trig inst m (ws (setBit s f))).2 g (by simpa using hmiss) hset
    have hbit : getF (setBit s f) g = getF s g := by
      by_cases ha : g.addr = f.addr
      · exact getF_setF_bits s 1 ha hhi (hbits.resolve_left fun hne => hne ha)
      · exact getF_setF_addr s 1 ha
    simp only [flag] at hg ⊢
    rw [hraise, hbit, hg]

theorem clk_raiseErr (s : State) (f : Fld) (trig inst m : Nat) (ws : State → List Nat) : (raiseErr s f trig inst m ws).clk = s.clk :=
  (only_raiseErr s f trig inst m ws).1 .clk (by simp)

theorem dieInService_chanFault {bit : Nat → Fld} {c d : Nat} (hd : d < 1024) (hbit : (bit c).addr = (F.fchErr_trainFail c).addr) (pos : Nat) :
    dieInService (chanFault s bit c pos) d = dieInService s d := by
  refine dieInService_of_cfg fun f hf => (only_chanFault s bit c pos).2 f (fun hm => ?_) (hf ▸ unsettled_of_flash (cfg_flash hd))
  rw [hf, hbit] at hm
  simp only [F.fchDieCfg_present, F.fchErr_trainFail, F.cshMissed_total, List.mem_cons, List.not_mem_nil, or_false, dieChannel, diePos] at hm
  omega

theorem idNomatch_not_missed (c : Nat) : (F.fchErr_idNomatch c).addr ≠ (F.cshMissed_total (3 - 1)).addr := by
  simp only [F.fchErr_idNomatch, F.cshMissed_total]
  omega

theorem Mismatched.trainFail (hb : b < 4) (h : Mismatched b T s) (c pos : Nat) : Mismatched b T (chanFault s F.fchErr_trainFail c pos) := by
  refine ⟨(dieInService_chanFault (bit := F.fchErr_trainFail) (c := c) (by omega) rfl pos).trans h.out, ?_, (clk_raiseErr s _ _ _ _ _).symm ▸ h.us⟩
  exact flag_raised h.shown (by simp [F.fchErr_idNomatch]) (.inr (.inr (by simp [F.fchErr_idNomatch, F.fchErr_trainFail]))) (idNomatch_not_missed _)
    (unsettled_of_flash (idNomatch_channelReg hb).1)

theorem Mismatched.idNomatch (hb : b < 4) (h : Mismatched b T s) (c pos : Nat) : Mismatched b T (chanFault s F.fchErr_idNomatch c pos) := by
  refine ⟨(dieInService_chanFault (bit := F.fchErr_idNomatch) (c := c) (by omega) rfl pos).trans h.out, ?_, (clk_raiseErr s _ _ _ _ _).symm ▸ h.us⟩
  by_cases hc : 16 * b = c
  · subst hc
    exact flag_chanFault s (bit := F.fchErr_idNomatch) pos rfl (by simp [F.fchErr_idNomatch]) (by simp [F.fchErr_idNomatch])
  · refine flag_raised h.shown (by simp [F.fchErr_idNomatch]) (.inl ?_) (idNomatch_not_missed _) (unsettled_of_flash (idNomatch_channelReg hb).1)
    simp only [F.fchErr_idNomatch]
    omega

/-- A channel's fault register is none of a die's. -/
theorem flag_shown_dieOut {d : Nat} (hb : b < 4) (hd : d < 1024) (s : State) :
    flag (dieOut s d) (F.fchErr_idNomatch (16 * b)) = flag s (F.fchErr_idNomatch (16 * b)) := by
  have hne := ne_dieRegs (d := d) (.inl (idNomatch_channelReg hb).2)
  simp only [flag, (dieGone_dieOut s hd).regs _ (idNomatch_channelReg hb).1 hne.1 hne.2]

theorem Mismatched.dieOut (hb : b < 4) (h : Mismatched b T s) {d : Nat} (hd : d < 1024) : Mismatched b T (dieOut s d) :=
  ⟨dieOut_stays hd (by omega) h.out, (flag_shown_dieOut hb hd s).trans h.shown, (dieGone_dieOut s hd).clk ▸ h.us⟩

theorem Mismatched.channelOut (hb : b < 4) (h : Mismatched b T s) {c : Nat} (hc : c < 64) : Mismatched b T (channelOut s c) :=
  forEach_invariant (P := Mismatched b T) (fun _ _ hd hu => hu.dieOut hb (mem_diesOfChannel_lt hc hd)) h

end

theorem stat_low (c : Nat) : (F.fchStat_state c).addr % 0x10000 < 8 := by
  simp only [F.fchStat_state]
  omega

theorem ctrl_low (c : Nat) : (F.fchCtrl_train c).addr % 0x10000 < 8 := by
  simp only [F.fchCtrl_train]
  omega

/-- However a channel's training ends, the die stays out and its mismatch shown. -/
theorem Mismatched.trainChannel {b T c : Nat} {s : State} (hb : b < 4) (hc : c < 64) (h : Mismatched b T s) (fails : Bool) :
    Mismatched b T (trainChannel s c fails) := by
  unfold Machine.trainChannel
  split
  · exact Mismatched.channelOut hb ((h.pads (padsChanged_protectPads s c)).setF (stat_low c) 5) hc
  · next r _ =>
    extract_lets v
    have hv : Mismatched b T v := (h.setF (stat_low c) 2).pads (padsChanged_sendTraining _ c r)
    split
    · exact Mismatched.channelOut hb (((hv.pads (padsChanged_protectPads v c)).setF (stat_low c) 4).trainFail hb c 0) hc
    · exact ((hv.pads (padsChanged_readyPads v c)).setF (stat_low c) 3).setF (f := F.fchStat_rateNow c) (stat_low c) r

theorem Mismatched.trainNow {b T c : Nat} {s : State} (hb : b < 4) (hc : c < 64) (h : Mismatched b T s) (fails : Bool) :
    Mismatched b T (trainNow s c fails) := by
  have htaken : Mismatched b T (failTaken s c) := h.of_regs rfl rfl
  exact (htaken.trainChannel hb hc fails).setF (ctrl_low c) 0

/-- The present dies of a target. -/
def presentDies (s : State) (b c ce : Nat) : List Nat := ((List.range 4).map fun l => 256 * b + 16 * c + 4 * ce + l).filter (diePresent s)

theorem presentDies_lt {s : State} {b c ce : Nat} (hb : b < 4) (hc : c < 16) (hce : ce < 4) : ∀ d ∈ presentDies s b c ce, d < 1024 := by
  intro d hd
  obtain ⟨l, hl, rfl⟩ := List.mem_map.1 (List.mem_filter.1 hd).1
  have := List.mem_range.1 hl
  omega

/-- A target that answers otherwise than its descriptor says leaves service; one without dies is passed over. -/
theorem checkTarget_other {s : State} {b c ce : Nat} {bytes : List Byte} (h : ∀ u k, u.regs = s.regs → (∀ d ds, presentDies s b c ce = d :: ds →
    k = getF s (F.fchDieCfg_desc (16 * b + c) (diePos d))) → idMatches u b k ce bytes = false) :
    ∃ v, PadsChanged s v ∧ ((presentDies s b c ce = [] ∧ checkTarget s b c ce bytes = v) ∨
      checkTarget s b c ce bytes = forEach (presentDies s b c ce) (chanFault v F.fchErr_idNomatch (16 * b + c) (4 * ce)) dieOut) := by
  have hv := padsChanged_selected s (256 * b + 16 * c + 4 * ce) .readId
  refine ⟨_, hv, ?_⟩
  have hds : ((List.range 4).map fun l => 256 * b + 16 * c + 4 * ce + l).filter (diePresent s) = presentDies s b c ce := rfl
  unfold checkTarget
  extract_lets ds v
  have hds' : ds = presentDies s b c ce := hds
  rw [hds']
  split
  · next hnil => exact .inl ⟨hnil, rfl⟩
  · next d ds hcons =>
    have hno : idMatches v b (getF v (F.fchDieCfg_desc (16 * b + c) (diePos d))) ce bytes = false :=
      h v _ hv.regs fun d' ds' hcons' => by
        rw [hcons] at hcons'
        rw [getF_congr hv.regs, (List.cons.inj hcons').1]
    rw [if_neg (by rw [hno]; exact Bool.false_ne_true)]
    exact .inr rfl

/-- A target that answers nothing leaves what is shown of the first one. -/
theorem Mismatched.checkTarget_silent {b T c ce : Nat} {s : State} (hb : b < 4) (hc : c < 16) (hce : ce < 4) (h : Mismatched b T s) :
    Mismatched b T (checkTarget s b c ce []) := by
  obtain ⟨v, hv, ⟨-, heq⟩ | heq⟩ := checkTarget_other (s := s) (b := b) (c := c) (ce := ce) (bytes := []) fun _ _ _ _ => idMatches_nil _ _ _ _
  · rw [heq]
    exact h.pads hv
  · rw [heq]
    exact forEach_invariant (P := Mismatched b T) (fun _ d hd hu => hu.dieOut hb (presentDies_lt hb hc hce d hd)) ((h.pads hv).idNomatch hb _ _)

/-- The first target of a bay answers otherwise, and its first die leaves service. -/
theorem mismatched_checkTarget {b T : Nat} {bytes : List Byte} {s : State} (hb : b < 4) (hpres : diePresent s (256 * b) = true) (hus : T ≤ s.clk.us)
    (hno : idMatches s b (getF s (F.fchDieCfg_desc (16 * b) 0)) 0 bytes = false) : Mismatched b T (checkTarget s b 0 0 bytes) := by
  have hmem : 256 * b ∈ presentDies s b 0 0 := List.mem_filter.2 ⟨List.mem_map.2 ⟨0, by decide, by omega⟩, hpres⟩
  have hhead : ∀ d ds, presentDies s b 0 0 = d :: ds → d = 256 * b := fun d ds hcons => by
    have hfirst : presentDies s b 0 0 = 256 * b :: ((List.range 3).map fun l => 256 * b + (l + 1)).filter (diePresent s) := by
      rw [presentDies, List.range_succ_eq_map, List.map_cons, List.map_map]
      exact List.filter_cons_of_pos hpres
    rw [hfirst] at hcons
    exact (List.cons.inj hcons).1.symm
  obtain ⟨v, hv, ⟨hnil, -⟩ | heq⟩ := checkTarget_other (s := s) (b := b) (c := 0) (ce := 0) (bytes := bytes) fun u k hregs hk => by
    obtain ⟨d, ds, hcons⟩ := List.exists_cons_of_ne_nil (List.ne_nil_of_mem hmem)
    have hpos : diePos d = 0 := by
      rw [hhead d ds hcons, diePos]
      omega
    rw [hk d ds hcons, hpos, idMatches_regs hregs]
    exact hno
  · rw [hnil] at hmem
    cases hmem
  · rw [heq]
    let w := chanFault v F.fchErr_idNomatch (16 * b + 0) (4 * 0)
    have hshown : flag w (F.fchErr_idNomatch (16 * b)) = true ∧ T ≤ w.clk.us :=
      ⟨flag_chanFault v (bit := F.fchErr_idNomatch) 0 rfl (by simp [F.fchErr_idNomatch]) (by simp [F.fchErr_idNomatch]),
        (clk_raiseErr v _ _ _ _ _).symm ▸ hv.clk.symm ▸ hus⟩
    have hlt := presentDies_lt (s := s) hb (c := 0) (ce := 0) (by decide) (by decide)
    have hkept : ∀ u : State, ∀ d ∈ presentDies s b 0 0, flag u (F.fchErr_idNomatch (16 * b)) = true ∧ T ≤ u.clk.us →
        flag (dieOut u d) (F.fchErr_idNomatch (16 * b)) = true ∧ T ≤ (dieOut u d).clk.us := fun u d hd hu =>
      ⟨(flag_shown_dieOut hb (hlt d hd) u).trans hu.1, (dieGone_dieOut u (hlt d hd)).clk.symm ▸ hu.2⟩
    obtain ⟨hflag, htime⟩ := forEach_invariant hkept hshown
    refine ⟨?_, hflag, htime⟩
    exact forEach_establishes (f := dieOut) (I := fun _ => True) (P := fun u => dieInService u (256 * b) = false) hmem (fun _ _ _ _ => trivial)
      (fun u _ => (dieGone_dieOut u (by omega)).out) (fun u d hd _ hu => dieOut_stays (hlt d hd) (by omega) hu) trivial

/-- TPOR of a bay whose first target answers otherwise than when it was identified (R189). -/
theorem bayTporExpiry_mismatch {b : Nat} {bytes : List Byte} {rs fs : List Nat} {s : State} (h : Powered s) (hb : b < 4)
    (hphase : (bayOf s b).phase = .waitTpor) (hid : (bayOf s b).identified = true) (hpres : diePresent s (256 * b) = true)
    (hno : idMatches s b (getF s (F.fchDieCfg_desc (16 * b) 0)) 0 bytes = false) :
    Completes (.bayTporExpiry b [bytes] rs [] fs) s fun t => (bayOf t b).phase = .ready ∧ (bayOf t b).identified = true ∧
      (bayOf s b).since + bayTpor s b ≤ t.clk.us ∧ dieInService t (256 * b) = false ∧ flag t (F.fchErr_idNomatch (16 * b)) = true := by
  let e := targetsReset (cleared s) b rs
  have he : Elapsed (cleared s) e b := elapsed_targetsReset (cleared s) b rs
  have heregs : e.regs = s.regs := he.regs
  have hus : (bayOf s b).since + bayTpor s b ≤ e.clk.us := by
    rw [← bayTpor_regs (s := s) (t := cleared s) rfl rfl]
    exact he.us
  generalize hT : (bayOf s b).since + bayTpor s b = T at hus
  have hfirst : Mismatched b T (checkTarget e b 0 0 bytes) := by
    refine mismatched_checkTarget hb ((flag_congr heregs _).trans hpres) hus ?_
    rw [getF_congr heregs, idMatches_regs heregs]
    exact hno
  have hchecked : Mismatched b T (checked e b [bytes]) := by
    obtain ⟨rest, hrest, hnil⟩ := targetAnswers_single bytes
    have hsilent : ∀ u : State, ∀ t ∈ rest, Mismatched b T u → Mismatched b T (checkTarget u b t.1 t.2.1 t.2.2) := fun u t ht hu => by
      obtain ⟨hc, hce, hempty⟩ := hnil t ht
      rw [hempty]
      exact hu.checkTarget_silent hb hc hce
    rw [checked, hrest, forEach_cons]
    exact forEach_invariant hsilent hfirst
  have htrained : Mismatched b T (allTrained (checked e b [bytes]) b fs) :=
    forEach_invariant (f := fun s c => trainNow s (16 * b + c) (fs.contains c)) (P := Mismatched b T)
      (fun _ c hc hu => hu.trainNow hb (bayChannels_lt hb (mem_bayChannels_range hc)) _) hchecked
  have heq : onBayTporExpiry b [bytes] rs [] fs (cleared s) = bayReady (allTrained (checked e b [bytes]) b fs) b :=
    onBayTporExpiry_later (s := cleared s) hphase hid
  clear_value e
  generalize allTrained (checked e b [bytes]) b fs = u at htrained heq
  refine completes_run (f := onBayTporExpiry b [bytes] rs [] fs) rfl h heq ⟨?_, ?_, ?_, ?_, ?_⟩
  · rw [settle_bayField Bay.phase (fun _ => rfl), bayOf_bayReady]
  · rw [settle_bayField Bay.identified (fun _ => rfl), bayOf_bayReady]
  · rw [settle_clk, clk_bayReady]
    exact hT ▸ htrained.us
  · rw [← htrained.out]
    exact dieInService_of_cfg fun f hf => getF_settle_bayReady u b (hf ▸ unsettled_of_flash (cfg_flash (by omega)))
  · rw [← htrained.shown]
    simp only [flag, getF_settle_bayReady u b (unsettled_of_flash (idNomatch_channelReg hb).1)]

end Sys2Proof.Machine
end

section
/-!
PROOFS. O43: a bay without power-good in time has failed (R194); what of the die queues follows for a bay whose dies have nothing to do.
-/

namespace Sys2Proof.Machine

open Sys2Proof

/-- No die of a bay has anything queued or in progress. -/
def BayIdle (b : Nat) (m : Sparse Die) : Prop := ∀ kv ∈ m, dieBay kv.1 ≠ b

/-- The records of dies change, and none of them is of the bay. -/
def DiesChanged (b : Nat) (s t : State) : Prop := ∃ m, t = { s with sch := { s.sch with dies := m } } ∧ BayIdle b m

section
variable {b : Nat} {s t u : State}

theorem diesChanged_refl (h : BayIdle b s.sch.dies) : DiesChanged b s s := ⟨s.sch.dies, rfl, h⟩

theorem DiesChanged.trans (h : DiesChanged b s t) (k : DiesChanged b t u) : DiesChanged b s u := by
  obtain ⟨m, rfl, -⟩ := h
  obtain ⟨n, rfl, hn⟩ := k
  exact ⟨n, rfl, hn⟩

theorem DiesChanged.idle (h : DiesChanged b s t) : BayIdle b t.sch.dies := by
  obtain ⟨m, rfl, hm⟩ := h
  exact hm

theorem DiesChanged.rch (h : DiesChanged b s t) : t.rch = s.rch := by
  obtain ⟨m, rfl, -⟩ := h
  rfl

theorem DiesChanged.pins (h : DiesChanged b s t) : t.pins = s.pins := by
  obtain ⟨m, rfl, -⟩ := h
  rfl

theorem DiesChanged.bay (h : DiesChanged b s t) : t.bay = s.bay := by
  obtain ⟨m, rfl, -⟩ := h
  rfl

theorem DiesChanged.clk (h : DiesChanged b s t) : t.clk = s.clk := by
  obtain ⟨m, rfl, -⟩ := h
  rfl

theorem DiesChanged.bayWork {ps : List Part} {R : Nat → Prop} (h : DiesChanged b s t) (hps : .sch ∈ ps) : BayWork b ps R s t := by
  obtain ⟨m, rfl, -⟩ := h
  exact bayWork_of_only (only_bayStep s (ps := [.sch])) (by simpa using hps) (by simp) fun x _ => bayOf_congr rfl x

theorem forEach_nil {α : Type} (s : State) (f : State → α → State) : forEach [] s f = s := rfl

/-- A die of an idle bay has nothing queued. -/
theorem dieOf_idle {d : Nat} (h : BayIdle b s.sch.dies) (hd : dieBay d = b) : dieOf s d = noDie := by
  rw [dieOf, spGet, spFind_none fun kv hkv e => h kv hkv (e ▸ hd)]
  rfl

/-- A function of the dies' records gives a bay no new ones. -/
theorem bayIdle_spMapD {m : Sparse Die} (h : BayIdle b m) (f : Nat → Die → Die) : BayIdle b (spMapD noDie m f) := fun kv hkv => by
  obtain ⟨kv', hmem, rfl⟩ := List.mem_map.1 (List.mem_filter.1 hkv).1
  exact h kv' hmem

theorem diesChanged_dropEntries (h : BayIdle b s.sch.dies) (p : DieEntry → Bool) : DiesChanged b s (dropEntries s p) :=
  ⟨_, rfl, bayIdle_spMapD h _⟩

theorem memberReads_none (h : s.rch.reads = []) (ks : List Nat) : memberReads s ks = [] := by
  rw [memberReads, h]
  rfl

theorem abandonReads_none (h : s.rch.reads = []) : abandonReads s [] = s := by
  rw [abandonReads, memberReads_none h]
  rfl

theorem pruneSurvey_idle {d : Nat} (h : dieOf s d = noDie) (hidle : BayIdle b s.sch.dies) : DiesChanged b s (pruneSurvey s d) := by
  have hkeys : (dieOf s d).queue = [] := by rw [h]; rfl
  unfold pruneSurvey
  rw [hkeys]
  exact diesChanged_dropEntries hidle _

/-- A die with nothing queued has nothing to take out. -/
theorem pruneDie_idle {d : Nat} (hidle : BayIdle b s.sch.dies) (hd : dieBay d = b) (hreads : s.rch.reads = []) : DiesChanged b s (pruneDie s d) := by
  have hqueue : (dieOf s d).queue = [] := by rw [dieOf_idle hidle hd]; rfl
  unfold pruneDie
  extract_lets x gone lost late e1 rch1 s1 s2 s3 mine s4 s5 reads s6
  have hx : x.queue = [] := hqueue
  have h1 : s1 = s := if_neg (by simp only [late, hx, List.any_nil]; exact Bool.false_ne_true)
  have h2 : s2 = s := by
    simp only [s2, hx, List.filter_nil, forEach_nil, ite_self]
    exact h1
  have h3 : DiesChanged b s s3 := by
    simp only [s3]
    rw [h2]
    split
    · exact pruneSurvey_idle (dieOf_idle hidle hd) hidle
    · exact diesChanged_refl hidle
  have h4 : s4 = s3 := by
    have hnone : mine = [] := by simp only [mine, hx, List.filter_nil, List.filterMap_nil, ite_self]
    simp only [s4]
    rw [hnone]
    exact abandonReads_none (h3.rch ▸ hreads)
  have h5 : DiesChanged b s s5 := by
    simp only [s5]
    rw [h4]
    split
    · exact h3.trans (diesChanged_dropEntries h3.idle _)
    · exact h3
  have hreadsNil : reads = [] := by simp only [reads, hx, List.filterMap_nil]
  split
  · exact h5
  · rw [hreadsNil]
    exact h5.trans (diesChanged_dropEntries h5.idle _)

/-- None of the dies of an idle bay has anything to take out. -/
theorem pruneDies_idle (hidle : BayIdle b s.sch.dies) (hreads : s.rch.reads = []) : DiesChanged b s (forEach (bayDies b) s pruneDie) :=
  forEach_invariant (P := DiesChanged b s) (fun _ _ hd hu => hu.trans (pruneDie_idle hu.idle (mem_bayDies.1 hd) (hu.rch ▸ hreads)))
    (diesChanged_refl hidle)

/-- Without Reads and Verifies, and without reads in flight, no command waits for a bay. -/
theorem bayReadSlots_none (hreads : s.rch.reads = []) (hslots : ∀ kv ∈ s.hif.slots, isReadKind kv.2.kind = false) : bayReadSlots s b = [] := by
  have hwait : baySlotsWaiting s b = [] := by
    rw [baySlotsWaiting, List.map_eq_nil_iff, List.filter_eq_nil_iff]
    intro kv hkv
    simp [hslots kv hkv]
  rw [bayReadSlots, hreads, hwait]
  rfl

end

/-- The failure of a bay is recorded: it is off again, with its failure raised (R194). -/
def failed (s : State) (b : Nat) : State :=
  let v := cutBay (putBay (advanceTo s ((bayOf s b).since + 50000)) b { bayOf s b with phase := .failed, again := false }) b
  raise v 0x10 b idPmu [b, pgLevels v, regNat v F.pmuState_state.addr]

/-- The Reads that wait for a failed bay end, and its die queues are pruned. -/
def failureTold (s : State) (b : Nat) : State :=
  forEach (bayDies b) (forEach (bayReadSlots (failed s b) b) (failed s b) fun s n => endRead s n .poweredOffAccess) pruneDie

theorem onBayPgTimeout_eq {s : State} {b : Nat} (h : (bayOf s b).phase = .waitPg) :
    onBayPgTimeout b s = forEach (bayWriteZones (failureTold s b) b) (failureTold s b) bayFailsZone := by
  unfold onBayPgTimeout failureTold failed
  generalize @forEach = loop
  generalize cutBay = cut
  generalize raise = event
  generalize advanceTo = wait
  exact if_neg (not_not.2 h)

/-- The record of a bay that has failed. -/
def failedBay (s : State) (b : Nat) : State := putBay (advanceTo s ((bayOf s b).since + 50000)) b { bayOf s b with phase := .failed, again := false }

theorem pins_raise (s : State) (trig inst m : Nat) (ws : List Nat) : (raise s trig inst m ws).pins = s.pins := by
  unfold raise
  split <;> rfl

theorem clk_raise (s : State) (trig inst m : Nat) (ws : List Nat) : (raise s trig inst m ws).clk = s.clk := (only_raise s trig inst m ws).1 .clk (by simp)

theorem bayWork_raise {b : Nat} {ps : List Part} {R : Nat → Prop} (s : State) (trig inst m : Nat) (ws : List Nat) (hps : .csh ∈ ps)
    (hR : R (F.cshMissed_total (trig - 1)).addr) : BayWork b ps R s (raise s trig inst m ws) :=
  bayWork_of_only (only_raise s trig inst m ws) (by simpa using hps) (by simpa using hR)
    fun x _ => bayOf_congr (congrArg BayState.bays (bay_raise s trig inst m ws)) x

/-- What the failure of a bay leaves, before the queues and the commands that wait for it are looked at. -/
structure FailedLeaves (s t : State) (b : Nat) : Prop where
  bay : t.bay = (failedBay s b).bay
  pins : t.pins = (cutBay (failedBay s b) b).pins
  us : (bayOf s b).since + 50000 ≤ t.clk.us
  work : BayWork b [.clk, .bay, .pins, .csh] (fun a => a = (F.cshMissed_total 15).addr) s t

theorem failedLeaves_failed (s : State) (b : Nat) : FailedLeaves s (failed s b) b := by
  have heq : failed s b = raise (cutBay (failedBay s b) b) 0x10 b idPmu
      [b, pgLevels (cutBay (failedBay s b) b), regNat (cutBay (failedBay s b) b) F.pmuState_state.addr] := rfl
  rw [heq]
  refine ⟨(bay_raise _ _ _ _ _).trans (bay_cutBay _ b), pins_raise _ _ _ _ _, ?_, ?_⟩
  · have hus : (failedBay s b).clk.us = max s.clk.us ((bayOf s b).since + 50000) := us_advanceTo s _
    rw [clk_raise, clk_cutBay, hus]
    exact Nat.le_max_right _ _
  · exact (((bayWork_advance s _ (by simp)).trans (bayWork_putBay _ _ (by simp))).trans (bayWork_cutBay _ (by simp))).trans
      (bayWork_raise _ _ _ _ _ (by simp) rfl)

theorem bayWriteZones_congr {s t : State} (hh : t.hif = s.hif) (hz : t.zrs = s.zrs) (hm : t.mhm = s.mhm) (b : Nat) : bayWriteZones t b = bayWriteZones s b := by
  have hmap : zmapOf t = zmapOf s := funext fun e => by simp only [zmapOf, hz]
  have hzst : zstOf t = zstOf s := funext fun p => by simp only [zstOf, hz]
  have hbound : boundZone t = boundZone s := funext fun e => by rw [boundZone, boundZone, hmap, hzst]
  have hprog : progZone t = progZone s := funext fun p => by simp only [progZone, relocOf, hm]
  rw [bayWriteZones, bayWriteZones, hbound, hprog, writingZones, writingZones, hh]

/-- A bay that has failed drives SHELF_ALERT_N low (R506). -/
theorem alert_of_failed {s : State} {b : Nat} (h : (bayOf s b).phase = .failed) : alertCondition s = true := by
  have hany : s.bay.bays.any (fun kv => kv.2.phase == .failed) = true := by
    rw [bayOf, spGet] at h
    cases hfind : spFind s.bay.bays b with
    | none => rw [hfind] at h; cases h
    | some x =>
      rw [hfind] at h
      exact List.any_eq_true.2 ⟨(b, x), mem_of_spFind hfind, by simpa using h⟩
  simp only [alertCondition, hany, Bool.or_true]

/-- Without BAY_PG in 50 ms a bay has failed (R194). -/
theorem bayPgTimeout_fails {b : Nat} {s : State} (h : Powered s) (hphase : (bayOf s b).phase = .waitPg) (hreads : s.rch.reads = [])
    (hslots : ∀ kv ∈ s.hif.slots, isReadKind kv.2.kind = false) (hzones : bayWriteZones s b = []) (hidle : BayIdle b s.sch.dies) :
    Completes (.bayPgTimeout b) s fun t =>
      (bayOf t b).phase = .failed ∧ bitAt t.pins.bayPwrEn b = false ∧ (bayOf s b).since + 50000 ≤ t.clk.us ∧ t.pins.shelfAlertLow = true ∧
      (∀ c ∈ bayChannels b, (padsOf t c).drive = .unpowered) ∧
      (∀ x, x ≠ b → { bayOf t x with emptySince := 0 } = { bayOf s x with emptySince := 0 }) ∧
      Only s t [.clk, .bay, .pins, .csh, .sch] [(F.cshMissed_total 15).addr] := by
  let v := failed (cleared s) b
  have hv : FailedLeaves (cleared s) v b := failedLeaves_failed (cleared s) b
  have hrch : v.rch = s.rch := hv.work.parts .rch (by simp)
  have hhif : v.hif = s.hif := hv.work.parts .hif (by simp)
  have hsch : v.sch = s.sch := hv.work.parts .sch (by simp)
  have hslotsNone : bayReadSlots v b = [] := bayReadSlots_none (by rw [hrch, hreads]) (by rw [hhif]; exact hslots)
  have hdies : DiesChanged b v (forEach (bayDies b) v pruneDie) := pruneDies_idle (by rw [hsch]; exact hidle) (by rw [hrch, hreads])
  generalize hu : forEach (bayDies b) v pruneDie = u at hdies
  have hwork : BayWork b [.clk, .bay, .pins, .csh, .sch] (fun a => a = (F.cshMissed_total 15).addr) (cleared s) u :=
    (hv.work.mono (by simp)).trans (hdies.bayWork (by simp))
  have hzonesNone : bayWriteZones u b = [] := by
    rw [bayWriteZones_congr (s := s) (hwork.parts .hif (by simp)) (hwork.parts .zrs (by simp)) (hwork.parts .mhm (by simp)), hzones]
  have heq : onBayPgTimeout b (cleared s) = u := by
    have htold : failureTold (cleared s) b = u := by rw [failureTold, hslotsNone, forEach_nil, hu]
    rw [onBayPgTimeout_eq (s := cleared s) hphase, htold, hzonesNone, forEach_nil]
  have hbay : bayOf u b = { bayOf s b with phase := .failed, again := false } := by
    rw [bayOf_congr (congrArg BayState.bays (hdies.bay.trans hv.bay)), failedBay, bayOf_putBay_same]
    rfl
  have hpins : u.pins = (cutBay (failedBay (cleared s) b) b).pins := hdies.pins.trans hv.pins
  have hfailed : (bayOf (settle u) b).phase = .failed := by rw [settle_bayField Bay.phase (fun _ => rfl), hbay]
  obtain ⟨halert, -, -⟩ := pinsAgree_settle u
  refine completes_run (f := onBayPgTimeout b) rfl h heq ⟨hfailed, ?_, ?_, halert.trans (alert_of_failed hfailed), fun c hc => ?_, hwork.others_settled,
    hwork.parts_settled, fun f hf hs => hwork.regs_settled f (by simpa using hf) hs⟩
  · rw [bayPwrEn_settle, hpins, bayPwrEn_cutBay]
  · rw [settle_clk, hdies.clk]
    exact hv.us
  · rw [padsOf_settle, padsOf, hpins]
    exact padsOf_cutBay hc _

end Sys2Proof.Machine
end

section
/-!
PROOFS. O43: the loss of power-good (R196), and the power-down of an unused bay (R195).
-/

namespace Sys2Proof.Machine

open Sys2Proof

/-- The reset of masters meets no message and no claim (R470, R471). -/
theorem resetParties_quiet {s : State} (h : MailQuiet s) (ms : List Nat) : resetParties s ms = s := by
  unfold resetParties
  split
  · rfl
  · refine forEach_fixed fun n _ => ?_
    have hst : (chanOf s n).st ≠ .claimed ∧ (chanOf s n).st ≠ .full := by
      rw [chanOf, spGet]
      cases hfind : spFind s.mbx.chans n with
      | none => exact ⟨by decide, by decide⟩
      | some x => exact h _ (mem_of_spFind hfind)
    unfold resetChan
    extract_lets c hit
    split
    · next hc => exact absurd hc hst.1
    · next hc => exact absurd hc hst.2
    · rfl

/-- The pages of the read channel are replaced by what they are. -/
theorem withPages_same {s : State} {ps : List PageHold} (h : ps = s.rch.pages) : { s with rch := { s.rch with pages := ps } } = s := by
  subst h
  rfl

theorem freePages_none {s : State} (h : s.rch.pages = []) : freePages s = s := by
  unfold freePages
  rw [h]
  exact withPages_same h.symm

/-- No page of the read channel is in use. -/
theorem dropPage_none {s : State} (h : s.rch.pages = []) (d : Nat) : dropPage s d = s := by
  rw [dropPage, withPages_same (by rw [h]; rfl), freePages_none h]

/-- A die of an idle bay loses nothing with its bay. -/
theorem dieLost_idle {b d : Nat} {s : State} (hidle : BayIdle b s.sch.dies) (hd : dieBay d = b) (hpages : s.rch.pages = []) : dieLost s d = s := by
  have hdie : dieOf s d = noDie := dieOf_idle hidle hd
  have hput : putDie s d noDie = s := by
    have hset : spSet noDie s.sch.dies d noDie = s.sch.dies := by
      rw [spSet, if_pos rfl]
      exact spErase_absent _ d fun kv hkv e => hidle kv hkv (by rw [e, hd])
    rw [putDie, hset]
  unfold dieLost
  extract_lets x v w
  have hx : x = noDie := hdie
  have hv : v = s := by
    simp only [v]
    rw [hx]
    exact hput
  have hw : w = s := by
    simp only [w]
    rw [hv]
    exact dropPage_none hpages d
  rw [hw, hx]
  rfl

/-- Where no die waits for tokens, none is granted any (R160). -/
theorem grantTokens_none {s : State} (h : ∀ kv ∈ s.sch.dies, kv.2.tokenWait = false) : grantTokens s = s := by
  have hnone : (s.sch.dies.filter fun kv => kv.2.tokenWait) = [] := List.filter_eq_nil_iff.2 fun kv hkv => by simp [h kv hkv]
  have hwait : waitingEntries s = [] := by
    rw [waitingEntries, hnone]
    rfl
  rw [grantTokens, hwait]
  rfl

theorem bays_bayRegsLost (s : State) (b : Nat) : (bayRegsLost s b).bay.bays = s.bay.bays := rfl

theorem pins_bayRegsLost (s : State) (b : Nat) : (bayRegsLost s b).pins = s.pins := rfl

theorem bays_cutBay (s : State) (b : Nat) : (cutBay s b).bay.bays = s.bay.bays := congrArg BayState.bays (bay_cutBay s b)

theorem bayIdle_bayRegsLost {b : Nat} {s : State} (h : BayIdle b s.sch.dies) : BayIdle b (bayRegsLost s b).sch.dies := by
  intro kv hkv
  obtain ⟨kv', hmem, rfl⟩ := List.mem_map.1 (List.mem_filter.1 hkv).1
  exact h kv' hmem

/-- The bay that has lost power-good is off, and waits to be powered again. -/
def lostBay (s : State) (b : Nat) : State := cutBay (putBay s b { bayOf s b with phase := .requested, pg := false, again := false }) b

/-- The loss is recorded (R293). -/
def lossRaised (s : State) (b : Nat) : State :=
  raise (lostBay s b) 0x03 (16 * b) idPmu [regNat (lostBay s b) (F.fchErr_trainFail (16 * b)).addr, 16 * b, 0,
    regNat (lostBay s b) (F.fchDieStat_state (16 * b) 0).addr, 0]

theorem onBayPgFall_eq {s : State} {b : Nat} (h : (bayOf s b).phase = .ready) (hquiet : MailQuiet s) :
    onBayPgFall b s = grantTokens (forEach (bayDies b) (bayRegsLost (lossRaised s b) b) dieLost) := by
  have hparties := resetParties_quiet hquiet (bayCores b)
  unfold onBayPgFall lossRaised lostBay
  rw [hparties]
  generalize @forEach = loop
  generalize cutBay = cut
  generalize raise = event
  generalize grantTokens = grant
  generalize bayRegsLost = regsLost
  simp only [h]

theorem bayWork_lostBay {b : Nat} {ps : List Part} {R : Nat → Prop} (s : State) (hb : .bay ∈ ps) (hp : .pins ∈ ps) : BayWork b ps R s (lostBay s b) :=
  (bayWork_putBay s _ hb).trans (bayWork_cutBay _ hp)

/-- Nothing waits for tokens once a bay's registers are lost, if nothing did before. -/
theorem tokenWait_bayRegsLost {s : State} (h : ∀ kv ∈ s.sch.dies, kv.2.tokenWait = false) (b : Nat) :
    ∀ kv ∈ (bayRegsLost s b).sch.dies, kv.2.tokenWait = false := by
  intro kv hkv
  obtain ⟨kv', hmem, rfl⟩ := List.mem_map.1 (List.mem_filter.1 hkv).1
  have := h kv' hmem
  dsimp only
  split <;> exact this

/-- Power-good is lost while the bay is on: its rail goes away, and it waits to be powered again (R196). -/
theorem bayPgFall_ready {b : Nat} {s : State} (h : Powered s) (hphase : (bayOf s b).phase = .ready) (hidle : BayIdle b s.sch.dies)
    (htokens : ∀ kv ∈ s.sch.dies, kv.2.tokenWait = false) (hpages : s.rch.pages = []) (hquiet : MailQuiet s) :
    Completes (.bayPgFall b) s fun t =>
      (bayOf t b).phase = .requested ∧ (bayOf t b).pg = false ∧ bitAt t.pins.bayPwrEn b = false ∧
      (∀ c ∈ bayChannels b, (padsOf t c).drive = .unpowered) ∧ OnlyParts s t [.bay, .pins, .csh, .sch] ∧
      (∀ x, x ≠ b → { bayOf t x with emptySince := 0 } = { bayOf s x with emptySince := 0 }) ∧
      (∀ f : Fld, inBayWindow b f.addr = false → f.addr ∉ settledAddrs → f.addr ≠ (F.cshMissed_total 2).addr → getF t f = getF s f) := by
  let v := lossRaised (cleared s) b
  have hv : BayWork b [.bay, .pins, .csh] (fun a => BayReg b a ∨ a = (F.cshMissed_total 2).addr) (cleared s) v :=
    (bayWork_lostBay _ (by simp) (by simp)).trans (bayWork_raise _ _ _ _ _ (by simp) (.inr rfl))
  have hbays : v.bay.bays = (putBay (cleared s) b { bayOf (cleared s) b with phase := .requested, pg := false, again := false }).bay.bays := by
    rw [show v = lossRaised (cleared s) b from rfl, lossRaised, bay_raise, lostBay, bays_cutBay]
  have hpins : v.pins = (lostBay (cleared s) b).pins := pins_raise _ _ _ _ _
  have hfall : onBayPgFall b (cleared s) = grantTokens (forEach (bayDies b) (bayRegsLost v b) dieLost) := onBayPgFall_eq (s := cleared s) hphase hquiet
  clear_value v
  have hsch : v.sch = s.sch := hv.parts .sch (by simp)
  have hwork : BayWork b [.bay, .pins, .csh, .sch] (fun a => BayReg b a ∨ a = (F.cshMissed_total 2).addr) (cleared s) (bayRegsLost v b) :=
    (hv.mono (by simp)).trans (bayWork_bayRegsLost v (by simp) (by simp) fun _ => .inl)
  have hrch : (bayRegsLost v b).rch = s.rch := hwork.parts .rch (by simp)
  have huidle := bayIdle_bayRegsLost (s := v) (b := b) (by rw [hsch]; exact hidle)
  have hutokens := tokenWait_bayRegsLost (s := v) (by rw [hsch]; exact htokens) b
  have hubays := (bays_bayRegsLost v b).trans hbays
  have hupins := (pins_bayRegsLost v b).trans hpins
  generalize bayRegsLost v b = u at hfall hwork hrch huidle hutokens hubays hupins
  have hdies : forEach (bayDies b) u dieLost = u := forEach_fixed fun d hd => dieLost_idle huidle (mem_bayDies.1 hd) (hrch ▸ hpages)
  have heq : onBayPgFall b (cleared s) = u := by rw [hfall, hdies, grantTokens_none hutokens]
  have hbay : bayOf u b = { bayOf (cleared s) b with phase := .requested, pg := false, again := false } := by
    rw [bayOf_congr hubays, bayOf_putBay_same]
  refine completes_run (f := onBayPgFall b) rfl h heq ⟨?_, ?_, ?_, fun c hc => ?_, hwork.parts_settled, hwork.others_settled,
    fun f hf hs hmiss => hwork.regs_settled f (not_or.2 ⟨Bool.eq_false_iff.1 hf, hmiss⟩) hs⟩
  · rw [settle_bayField Bay.phase (fun _ => rfl), hbay]
  · rw [settle_bayField Bay.pg (fun _ => rfl), hbay]
  · rw [bayPwrEn_settle, hupins, lostBay, bayPwrEn_cutBay]
  · rw [padsOf_settle, padsOf, hupins, lostBay]
    exact padsOf_cutBay hc _

/-- The bay with its channels' WP_N low. -/
def bayProtected (s : State) (b : Nat) : State := forEach (bayChannels b) s protectPads

/-- The record of a bay that is off. -/
def offBay (s : State) (b : Nat) : State := putBay (bayProtected s b) b { bayOf s b with phase := .off, pg := false, again := false }

theorem onBayPowerDown_eq {s : State} {b : Nat} (h : (bayOf s b).phase = .ready) (hagain : (bayOf s b).again = false) (hunused : bayUnused s b = true)
    (hquiet : MailQuiet s) : onBayPowerDown b s = cutBay (bayRegsLost (offBay s b) b) b := by
  have hmbx : (bayProtected s b).mbx = s.mbx := (padsChanged_forEach padsChanged_protectPads (bayChannels b) s).only.1 .mbx (by simp)
  have hparties : resetParties (bayProtected s b) (bayCores b) = bayProtected s b := resetParties_quiet (by rw [MailQuiet, hmbx]; exact hquiet) _
  have hon : bayOn s b = true := by simp only [bayOn, h]
  have hready : ¬ BayPhase.ready = .waitPg := by decide
  rw [onBayPowerDown, if_pos hunused, offBay, ← hparties]
  unfold powerDownBay bayProtected
  generalize @forEach = loop
  generalize cutBay = cut
  generalize bayRegsLost = regsLost
  simp only [hon, h, hagain, Bool.true_or, Bool.not_true, Bool.false_eq_true, if_false, if_true, if_neg hready]

/-- An unused bay powers down when device firmware wishes it (R195). -/
theorem bayPowerDown_unused {b : Nat} {s : State} (h : Powered s) (hphase : (bayOf s b).phase = .ready) (hagain : (bayOf s b).again = false)
    (hunused : bayUnused s b = true) (hquiet : MailQuiet s) :
    Completes (.bayPowerDown b) s fun t =>
      (bayOf t b).phase = .off ∧ (bayOf t b).pg = false ∧ bitAt t.pins.bayPwrEn b = false ∧ Output.pin (.bayPwrEn b) false ∈ t.out ∧
      (∀ c ∈ bayChannels b, (padsOf t c).drive = .unpowered) ∧ OnlyParts s t [.bay, .pins, .sch] ∧
      (∀ x, x ≠ b → { bayOf t x with emptySince := 0 } = { bayOf s x with emptySince := 0 }) ∧
      (∀ f : Fld, inBayWindow b f.addr = false → f.addr ∉ settledAddrs → getF t f = getF s f) := by
  let v := bayRegsLost (offBay (cleared s) b) b
  have heq : onBayPowerDown b (cleared s) = cutBay v b := onBayPowerDown_eq (s := cleared s) hphase hagain hunused hquiet
  have hwork : BayWork b [.bay, .pins, .sch] (BayReg b) (cleared s) (cutBay v b) :=
    (((bayWork_pads (padsChanged_forEach padsChanged_protectPads _ _) (by simp)).trans (bayWork_putBay _ _ (by simp))).trans
      (bayWork_bayRegsLost _ (by simp) (by simp) fun _ => id)).trans (bayWork_cutBay v (by simp))
  have hbay : bayOf (cutBay v b) b = { bayOf (cleared s) b with phase := .off, pg := false, again := false } := by
    have hbays : (cutBay v b).bay.bays = (offBay (cleared s) b).bay.bays := (bays_cutBay v b).trans (bays_bayRegsLost _ b)
    rw [bayOf_congr hbays, offBay, bayOf_putBay_same]
  clear_value v
  refine completes_run (f := onBayPowerDown b) rfl h heq ⟨?_, ?_, ?_, ?_, fun c hc => ?_,
    hwork.parts_settled, hwork.others_settled, fun f hf hs => hwork.regs_settled f (Bool.eq_false_iff.1 hf) hs⟩
  · rw [settle_bayField Bay.phase (fun _ => rfl), hbay]
  · rw [settle_bayField Bay.pg (fun _ => rfl), hbay]
  · rw [bayPwrEn_settle, bayPwrEn_cutBay]
  · exact mem_settle_out (mem_out_cutBay v b)
  · rw [padsOf_settle]
    exact padsOf_cutBay hc _

/-- A bay in use stays on (R195). -/
theorem bayPowerDown_used {b : Nat} {s : State} (h : Powered s) (hused : bayUnused s b = false) : Completes (.bayPowerDown b) s fun t => Only s t [] [] := by
  have hstay : onBayPowerDown b (cleared s) = cleared s := if_neg (by rw [show bayUnused (cleared s) b = false from hused]; exact Bool.false_ne_true)
  exact completes_run (f := onBayPowerDown b) rfl h hstay (only_settle (only_cleared (only_refl _ _ _)))

end Sys2Proof.Machine
end

section
/-!
PROOFS. O43: the power of a bay, clause by clause.
-/

namespace Sys2Proof.Machine

open Sys2Proof

/-- What holds of every outcome of a command that completes holds of its outcome. -/
theorem Completes.imp {c : Instr} {s : State} {P Q : State → Prop} (h : Completes c s P) (hPQ : ∀ t, P t → Q t) : Completes c s Q := by
  obtain ⟨t, ht, hP⟩ := h
  exact ⟨t, ht, hPQ t hP⟩

/-- Settles O43: each clause is one step of a bay's power from a state that meets its conditions. -/
theorem bayPower : Obligations.BayPower := by
  unfold Obligations.BayPower
  refine ⟨?_, ?_, ?_, ?_, ?_, ?_, ?_, ?_, ?_, ?_⟩
  · exact fun _ _ h hpmu hb hen hoff hlow => (bayPowerUpRequest_asked h hpmu hb hen hoff hlow).imp fun _ ht =>
      ⟨ht.phase, ht.since, ht.again, ht.lastRise, ht.driven, ht.first, ht.clamped, ht.us, ht.others, ht.only⟩
  · exact fun _ _ _ h hpmu hb hreq hlow => (bayPowerUpRequest_waiting h hpmu hb hreq hlow).imp fun _ ht =>
      ⟨ht.phase, ht.since, ht.again, ht.lastRise, ht.driven, ht.first, ht.clamped, ht.us, ht.others, ht.only⟩
  · exact fun _ _ h hb hphase hdescs hwrites => (bayPgAssert_plain h hb hphase hdescs hwrites).imp fun _ ⟨ht, hparts, hothers, hregs⟩ =>
      ⟨ht.phase, ht.pg, ht.since, ht.woken, hparts, hothers, hregs⟩
  · exact fun _ _ h hb hphase => (bayPgAssert_wakes h hb hphase).imp fun _ ht => ⟨ht.phase, ht.pg, ht.since, ht.woken⟩
  · exact fun _ _ _ _ _ _ h hb hphase hid hfind hd hrate habs hmax hen =>
      (bayTporExpiry_first h hb hphase hid hfind hd hrate habs hmax hen).imp fun _ ⟨hready, hident, hus, ht, hchans, hparts, hothers, hregs⟩ =>
        ⟨hready, hident, hus, ht.inService, ht.desc, ht.idle, hchans, hparts, hothers, hregs⟩
  · exact fun _ _ _ _ _ h hb hphase hid hpres hno => bayTporExpiry_mismatch h hb hphase hid hpres hno
  · exact fun _ _ h _ hphase hreads hslots hzones hidle => bayPgTimeout_fails h hphase hreads hslots hzones hidle
  · exact fun _ _ h _ hphase hidle htokens hpages hquiet => bayPgFall_ready h hphase hidle htokens hpages hquiet
  · exact fun _ _ h _ hphase hagain hunused hquiet => bayPowerDown_unused h hphase hagain hunused hquiet
  · exact fun _ _ h hused => bayPowerDown_used h hused

end Sys2Proof.Machine
end
